-- ==== Sys2Proof/Word.lean ====
section
/-!
DEFINITION. Word.lean: the word types of the part and the plainest arithmetic on them (R12, R13, R14).
-/

namespace Sys2Proof

/-- A native register word, 48 bits (R12). -/
abbrev Word := BitVec 48

/-- One byte. -/
abbrev Byte := BitVec 8

/-- An instant, in units of 1/425 ns: a UI is 8 units, a symbol 40, a slot 1,000 and a frame 53,125,000
(*Notation* of 00_scope.md), so that every line instant is a whole number. -/
abbrev Time := Nat

end Sys2Proof
end

