-- ==== Sys2Proof/Syntax.lean ====
section
/-!
DEFINITION. Syntax.lean: the commands of the block, one constructor for each row of spec/opcode_table.json,
with what each of them brings from outside as plain data.
-/

namespace Sys2Proof

/-- A line lane's letter (R16). -/
inductive Lane where
  | a | b
deriving DecidableEq, Repr

/-- The accessor classes of the dictionary: head end, local host, service port (R507). -/
inductive Path where
  | h | l | s
deriving DecidableEq, Repr

/-- A serial lane of the part: a drop lane, or one direction of a line lane (R222). -/
inductive LaneId where
  | drop (port : Fin 96)
  | lineRx (ch : Fin 16) (lane : Lane)
  | lineTx (ch : Fin 16) (lane : Lane)
deriving DecidableEq, Repr

/-- One sighting of the sync pattern in a stretch of one frame: where the lane's bits resemble it, the 64 bits
there and the 96 bits of header that follow (offsets 64 to 159 of R40). -/
structure Sighting where
  /-- Symbol position in the receiver's free-running grid of 1,328,125 symbols. -/
  pos : Nat
  pattern : BitVec 64
  header : BitVec 96
deriving DecidableEq, Repr

/-- One received codeword of the frame: its number and its 544 symbols as received (R37, R44). -/
structure RxCodeword where
  index : Nat
  symbols : List (BitVec 10)
deriving DecidableEq, Repr

/-- What one lane receives in one 125 µs stretch (R37). A codeword that is not listed came without error and with
all message bits zero after descrambling. -/
structure LineFrame where
  /-- Instant of symbol position 0 of the stretch. -/
  t : Time
  ch : Fin 16
  lane : Lane
  sightings : List Sighting
  /-- Management data bits at offsets 160 to 255, MD0 highest. -/
  md : BitVec 96
  /-- The quality field, offset 256 first. -/
  quality : BitVec 1954
  codewords : List RxCodeword
deriving DecidableEq, Repr

/-- Why a lane enters loss of signal (R61). -/
inductive LosCause where
  | rxlos
  | noLock (lane : Lane)
  | noTransitions (lane : Lane)
deriving DecidableEq, Repr

/-- The bits that a tributary input delivered during one frame (R397). -/
structure TribInput where
  trib : Fin 32
  bits : List Bool
deriving DecidableEq, Repr

/-- What the pins of the tributary unit delivered during the frame that ends at a boundary (R387, R397, R405). -/
structure BoundaryInputs where
  tribs : List TribInput
  /-- 24 bits sampled on each MDn_RXD, first sampled highest. -/
  md : List (BitVec 24)
  /-- 128 time slots of each highway input, HW0 first. -/
  highways : List (List Byte)
deriving DecidableEq, Repr

/-- One downstream envelope as a lane delivers it (R82, R83), still ciphered. -/
structure EnvelopeIn where
  t : Time
  ch : Fin 16
  lane : Lane
  /-- Word of the envelope area at which the header lies. -/
  word : Nat
  header : BitVec 64
  /-- The header lies wholly or partly in errored message bits. -/
  headerErrored : Bool
  /-- Some of the payload lies in errored message bits. -/
  payloadErrored : Bool
  payload : List Byte
deriving DecidableEq, Repr

/-- A control message as it reached the line engine and the Firescreen's tap (R133). -/
structure CtlMsg where
  t : Time
  ch : Fin 16
  /-- Frame counter of the frame that carried it. -/
  fc : Word
  flow : BitVec 16
  bytes : List Byte
deriving DecidableEq, Repr

/-- What the Firescreen's own tap sees at one lane's sync position in one frame (R195, R652). -/
structure FsFrame where
  t : Time
  ch : Fin 16
  lane : Lane
  /-- FS_CLK cycles since the previous frame start of the same channel. -/
  spacing : Nat
  /-- Symbol position of the sighting. -/
  pos : Nat
  pattern : BitVec 64
  header : BitVec 96
  /-- The map words the tap read, none for a word in errored message bits. -/
  map : List (Option (BitVec 64))
deriving DecidableEq, Repr

/-- A kill output: one channel's, or FS_ALLKILL (R208). -/
inductive KillOut where
  | tx (ch : Fin 16)
  | all
deriving DecidableEq, Repr

/-- One 1 ms read of an optic (R205). -/
structure OpticRead where
  t : Time
  ch : Fin 16
  /-- The optic answered within two retries. -/
  answered : Bool
  bias : BitVec 16
  power : BitVec 16
  /-- Instant at which the bias read began; with its retries it ends at t. -/
  biasAt : Time
deriving DecidableEq, Repr

/-- A transfer on the two-wire interface: the 7-bit address, and the bytes that follow the address byte (R564). -/
structure TwoWireMatch where
  t : Time
  address : BitVec 7
  more : Nat := 0
deriving DecidableEq, Repr

/-- Per-optic limits and addresses (R220). -/
structure OpticLimits where
  address : BitVec 8
  biasReg : BitVec 16
  powerReg : BitVec 16
  biasLimit : BitVec 16
  darkBiasLimit : BitVec 16
  powerLimit : BitVec 16
deriving DecidableEq, Repr

/-- What a checker counted since it last locked or was cleared (R238). -/
structure LaneCounts where
  bits : Nat
  errors : Nat
  symErrors : Nat
deriving DecidableEq, Repr

/-- A frame as a drop-port MAC received it, destination address to FCS (R241). -/
structure MacFrame where
  t : Time
  port : Fin 96
  bytes : List Byte
  /-- Ended by a code error or a signalled FEC failure. -/
  codeError : Bool
  /-- What the FEC did to the codewords that brought the frame: codewords corrected, symbols corrected, codewords that it could not
  correct (R254). -/
  fecCodewords : Nat
  fecSymbols : Nat
  fecBad : Nat
  /-- The frame's levels come inverted (R250). -/
  inverted : Bool := false
deriving DecidableEq, Repr

/-- Where a pipeline takes its next packet from (R276, R20). -/
inductive EntrySource where
  | drop (port : Fin 96)
  | line (pipe : Fin 4)
  | host (pipe : Fin 4)
  | replay (pipe : Fin 4)
deriving DecidableEq, Repr

/-- What an ECC-protected read gave (R269, R322). -/
inductive EccResult where
  | good
  | corrected
  | uncorrectable
deriving DecidableEq, Repr

/-- The two forwarding tables (R308). -/
inductive FwdTable where
  | mac | trie
deriving DecidableEq, Repr

/-- A descriptor of R309 as the device read it, with the buffer words it names. -/
structure Descriptor where
  t : Time
  /-- false: ring 0, the host's; true: ring 1, the Secretary's and the service cores'. -/
  ring1 : Bool
  w0 : Word
  w1 : Word
  w2 : Word
  w3 : Word
  buf : List Word
  /-- Words of the tables that this execution finds uncorrectable, and words in which it finds a correctable error (table word
  addresses). -/
  bad : List Nat
  soft : List Nat
deriving DecidableEq, Repr

/-- Errors that the lookups of a packet find in the forwarding tables: words that are uncorrectable, and words with a
correctable error; a MAC word at its address, a trie word at 2^22 + its address (R322). -/
structure TableErrors where
  bad : List Nat
  soft : List Nat
deriving DecidableEq, Repr

/-- A packet's entry into a pipeline: its source, and the errors that its lookups find (R276, R322). -/
structure EntryPoint where
  src : EntrySource
  err : TableErrors
deriving DecidableEq, Repr

/-- A second pass of a pipeline, and the errors that its lookups find (R280, R322). -/
structure SecondPoint where
  pipe : Fin 4
  err : TableErrors
deriving DecidableEq, Repr

/-- A drop port that sends, and whether the frame's read from the packet buffer is uncorrectable (R332, R344). -/
structure PortRead where
  port : Fin 96
  bad : Bool
deriving DecidableEq, Repr

/-- The fill point of a channel's next grant, and the upstream queues whose heads read uncorrectable there (R165, R344). -/
structure FillPoint where
  ch : Fin 16
  bad : List (BitVec 14)
deriving DecidableEq, Repr

/-- Who gives a Sideboard membership command (R371). -/
inductive SbOrigin where
  | task
  | register
  | entry (path : Path)
deriving DecidableEq, Repr

/-- The direction of a controlled slip (R407). -/
inductive Slip where
  | repeatFrame | deleteFrame
deriving DecidableEq, Repr

/-- What the error logic of an HBM access found (R454). -/
inductive MemErrorKind where
  | correctable
  | uncorrectable
  | parity (retryOk : Bool)
deriving DecidableEq, Repr

/-- The five memory ports (R452). -/
inductive MemPort where
  | wardrobe | sideboard | tables | cxl | migration
deriving DecidableEq, Repr

/-- Where an HBM access found an error (R465). -/
structure MemError where
  t : Time
  kind : MemErrorKind
  stack : Fin 5
  channel : Fin 16
  rank : Fin 4
  block : Nat
  line : Fin 64
  port : MemPort
deriving DecidableEq, Repr

/-- A host access through CXL.mem (R463). -/
inductive CxlAccess where
  | read (len : Nat)
  | writeLine (data : List Byte)
  | writePart (at_ : Nat) (data : List Byte)
deriving DecidableEq, Repr

/-- Why the host-facing state is reset (R471). -/
inductive HostResetCause where
  | perst | hotReset | flr | dlDown
deriving DecidableEq, Repr

/-- How the host link trained (R470). -/
structure LinkTraining where
  cxlNegotiated : Bool
  /-- Lanes trained: 1, 2, 4 or 8. -/
  lanes : Nat
  /-- 1 2.5, 2 5, 3 8, 4 16, 5 32 GT/s. -/
  speed : Fin 8
deriving DecidableEq, Repr

/-- The rings of the part that have a ring block or a head and a tail (R477, R492, R324, R544). -/
inductive RingId where
  | drawer (d : Fin 104)
  | rxCompletion (r : Fin 16)
  | rxBuffer (r : Fin 16)
  | tx (t : Fin 16)
  | benchSubmit
  | benchComplete
deriving DecidableEq, Repr

/-- A transmit descriptor with the frame it names; none where the host read failed (R480). -/
structure TxDescriptor where
  t : Time
  ring : Fin 16
  w0 : Word
  w1 : Word
  timing : Word
  tag : Word
  frame : Option (List Byte)
deriving DecidableEq, Repr

/-- A host's index with the entries of an RX buffer ring that it hands over: buffer address and TAG of each (R478, R481). -/
structure RingIndex where
  index : BitVec 16
  entries : List (Word × Word) := []
deriving DecidableEq, Repr

/-- An access to BAR0 or BAR2 (R474). -/
structure BarAccess where
  t : Time
  write : Bool
  offset : Nat
  size : Nat
  value : Word
deriving DecidableEq, Repr

/-- An access of 4 or 8 bytes to BAR4 (R469). -/
structure WideAccess where
  t : Time
  write : Bool
  offset : Nat
  size : Nat
  value : BitVec 64
deriving DecidableEq, Repr

/-- Registers of the configuration space that the chapter names (R468, R469, R476). -/
inductive CfgReg where
  /-- Device and vendor ID; class code and revision. -/
  | identity
  | classCode
  /-- Base address of BAR0, BAR2 or BAR4. -/
  | base (bar : Fin 3)
  /-- Power state, D0 or D3hot. -/
  | power
  /-- Uncorrectable error status of advanced error reporting. -/
  | errors
  /-- Range 1 size of the CXL device DVSEC. -/
  | range1
  /-- Base and size of the HDM decoder. -/
  | hdmBase
  | hdmSize
deriving DecidableEq, Repr

/-- A host access to one of the function's spaces (R469, R474). -/
inductive HostAccess where
  | bar0 (a : BarAccess)
  | bar2 (a : BarAccess)
  | bar4 (a : WideAccess)
  | config (t : Time) (write : Bool) (r : CfgReg) (value : BitVec 64)
deriving DecidableEq, Repr

/-- Its instant. -/
def HostAccess.t : HostAccess → Time
  | .bar0 a => a.t
  | .bar2 a => a.t
  | .bar4 a => a.t
  | .config t _ _ _ => t

/-- A write record of the dictionary (R514). -/
structure WriteRec where
  index : BitVec 16
  sub : BitVec 8
  ty : BitVec 8
  value : List Byte
deriving DecidableEq, Repr

/-- What every dictionary request brings (R507, R510, R512). -/
structure DictHead where
  t : Time
  path : Path
  reqId : BitVec 32
  /-- The 64-bit check value of the H packet, or of the Waifel message that carries an S request; nothing on L. -/
  check : BitVec 64
  /-- Session and sequence of that Waifel message; nothing on H and L (R607). -/
  session : BitVec 16
  seq : BitVec 32
deriving DecidableEq, Repr

/-- A scheduled commit's time (R512). -/
structure TimeVal where
  seconds : Word
  ns : BitVec 32
deriving DecidableEq, Repr

/-- A task descriptor of R533. -/
structure TaskDesc where
  t : Time
  w0 : Word
  w1 : Word
  w2 : Word
  w3 : Word
deriving DecidableEq, Repr

/-- What a task's end brings: RESULT of a firmware task, which its image gives; for a published type the header slot of its argument
block and the records behind it, descriptors for a table batch and slots for the others (R539). -/
structure TaskAnswer where
  result : Word
  header : Word := 0
  descriptors : List Descriptor := []
  slots : List Word := []
deriving DecidableEq, Repr

/-- The boot ROM's checks at a restart of the Secretary: the slots that pass R604, and whether the slot pointer's record of the higher
sequence passes its CRC (R602, R605, R628). -/
structure RestartInputs where
  t : Time
  slotsOk : List Bool
  ptrOk : Bool
deriving DecidableEq, Repr

/-- Why a task faulted (R531, R537). -/
inductive TaskFaultCause where
  | exception | timeLimit | poison
deriving DecidableEq, Repr

/-- Where a power request comes from (R552). -/
inductive PowerOrigin where
  | entry (path : Path)
  | host
  | controller
deriving DecidableEq, Repr

/-- Who arms or aborts the Cabinet (R586, R590). -/
inductive CabOrigin where
  | register (value : Word)
  | entry (path : Path)
deriving DecidableEq, Repr

/-- A Waifel message without its type, which the row gives (R607). -/
structure WaifelMsg where
  t : Time
  session : BitVec 16
  seq : BitVec 32
  ack : BitVec 32
  payload : List Byte
  check : BitVec 64
  /-- The Chest takes what the message has it write (R612). -/
  chestOk : Bool := true
deriving DecidableEq, Repr

/-- What the boot finds outside the Secretary's own state (R632, R634). -/
structure BootInputs where
  t : Time
  oscRdy : Bool
  fsClk : Bool
  /-- The factory serial-number copy passes its CRC (R194). -/
  serialCrcOk : Bool
  /-- Stacks whose calibration record and pattern check both pass (R450, R451). -/
  stackOk : List Bool
  /-- Slots A and B pass R604 as the boot ROM reads them; no slot that holds no verified image does (R605). -/
  slotsOk : List Bool
  /-- The slot-pointer record of the higher sequence passes its CRC as the boot ROM reads it (R602). -/
  ptrOk : Bool := true
  /-- Rail 0 reached its AVS target (R627). -/
  rail0AtTarget : Bool
deriving DecidableEq, Repr

/-- The commands of the block: one constructor for each row of the opcode table, in the table's order. -/
inductive Instr where
  | lineFrameReceived (f : LineFrame)
  | losEntered (t : Time) (ch : Fin 16) (cause : LosCause)
  | losLeft (t : Time) (ch : Fin 16) (lane : Lane)
  | frameBoundary (t : Time) (inp : BoundaryInputs)
  | holdoffExpiry (t : Time)
  | settleEnd (t : Time)
  | protectionCheckExpiry (t : Time)
  | alternationDwellExpiry (t : Time)
  | switchToWorking (t : Time) (value : Word)
  | switchToProtection (t : Time) (value : Word)
  | lockoutDeviceCommit (t : Time)
  | envelopeReceived (e : EnvelopeIn)
  | reorderWindowExpiry (t : Time) (flow : BitVec 16)
  | keyWriteEntry (entry : BitVec 8)
  | keyEraseEntry (entry : BitVec 8)
  | keyReadEntryState (entry : BitVec 8)
  | checkValueSlotWrite (slot : BitVec 8)
  | checkValueSlotErase (slot : BitVec 8)
  | keyCommandInvalid (op : BitVec 3) (entry : BitVec 8)
  | txIndexWrite (reg : Fin 3) (value : Word)
  | burstProfile (m : CtlMsg)
  | assignTerminal (m : CtlMsg)
  | rangingRequest (m : CtlMsg)
  | rangingTime (m : CtlMsg)
  | deactivate (m : CtlMsg)
  | disable (m : CtlMsg)
  | enable (m : CtlMsg)
  | keyControlSwitch (m : CtlMsg)
  | keyControlReport (m : CtlMsg)
  | keySwitchCommit (t : Time)
  | timeOfDay (m : CtlMsg)
  | sleepAllow (m : CtlMsg)
  | protectionControl (m : CtlMsg)
  | rangingTimerExpiry (t : Time)
  | lossTimerExpiry (t : Time)
  | sleepConsentExpiry (t : Time)
  | pfailFall (t : Time)
  | pfailRise (t : Time)
  | grantFill (t : Time) (fill : FillPoint)
  | wardrobePrefetchComplete (t : Time) (ch : Fin 16)
  | burstStart (t : Time) (ch : Fin 16)
  | burstEnd (t : Time) (ch : Fin 16)
  | tribBlockExpiry (t : Time)
  | fsFrameStart (f : FsFrame)
  | fsFrameTimeout (ch : Fin 16)
  | fsWindowOpen (t : Time) (ch : Fin 16)
  | fsWindowClose (t : Time) (ch : Fin 16) (lit : Bool)
  | benRequest (t : Time) (ch : Fin 16) (level : Bool)
  | lightOutsideWindow (t : Time) (ch : Fin 16)
  | stage2Timeout (t : Time) (ch : Fin 16) (lmon : Bool)
  | stage3Timeout (t : Time) (ch : Fin 16) (lmon : Bool)
  | opticRead (r : OpticRead)
  | selfTestPulse (t : Time) (out : KillOut) (assertNs releaseNs : Nat)
  | parityError (t : Time)
  | fsSupplyClockLoss (t : Time) (clock : Bool)
  | fsRelease (t : Time) (nonce : BitVec 32)
  | releaseCommand (t : Time) (path : Path) (nonce : BitVec 32)
  | fsRestart (t : Time) (key : BitVec 16) (clockOk : Bool)
  | admissionWrite (complement : Bool) (slot : Fin 512) (value : BitVec 14)
  | fsLimitsWrite (ch : Fin 16) (limits : OpticLimits)
  | fsSetcfgWrite (guardNs : BitVec 8) (refuseLimit : BitVec 4)
  | laneSignalDetected (lane : LaneId)
  | negotiationResolved (port : Fin 96)
  | trainingComplete (lane : LaneId) (precodeTx precodeRx : Bool)
  | trainTimeout (lane : LaneId)
  | laneLock (lane : LaneId)
  | lockTimeout (lane : LaneId)
  | exchangeComplete (lane : LaneId)
  | exchangeTimeout (lane : LaneId)
  | quietPeriodEnd (lane : LaneId)
  | laneSignalLost (t : Time) (lane : LaneId)
  | lineRetrainTimeout (ch : Fin 16) (lane : Lane)
  | retrain (t : Time) (ch : Fin 16)
  | laneTestStart (t : Time) (lane : Fin 128) (value : Word)
  | laneTestStop (lane : Fin 128) (value : Word) (counts : LaneCounts)
  | start (lane : Fin 128) (value : Word)
  | injectOne (lane : Fin 128) (value : Word)
  | macFrameReceived (f : MacFrame)
  | pauseExpiry (t : Time) (port : Fin 96) (prio : Fin 8)
  | xoffRepeat (t : Time) (port : Fin 96)
  | frameTransmit (t : Time) (out : PortRead)
  | packetEntry (t : Time) (entry : EntryPoint)
  | secondPass (t : Time) (pass : SecondPoint)
  | fragmentHoldTimeout (t : Time) (pipe : Fin 4)
  | fragmentEntryExpiry (t : Time) (pipe : Fin 4)
  | slotClaim (t : Time) (path : Path) (slot : Fin 4)
  | slotSeal (t : Time) (path : Path) (slot : Fin 4)
  | slotAbandon (t : Time) (path : Path) (slot : Fin 4)
  | slotEvict (t : Time) (path : Path) (slot : Fin 4)
  | makeCurrent (t : Time) (path : Path) (slot : BitVec 8)
  | drainSlow (t : Time) (slot : Fin 4)
  | windowDataWrite (value : Word)
  | windowStatusRead
  | treeScrub (pipe : Fin 4) (addr : BitVec 20) (ecc : EccResult)
  | macInsert (d : Descriptor)
  | macDelete (d : Descriptor)
  | macFind (d : Descriptor)
  | macLock (d : Descriptor)
  | macWrite (d : Descriptor)
  | macRead (d : Descriptor)
  | trieWrite (d : Descriptor)
  | trieRead (d : Descriptor)
  | unknownOp (d : Descriptor)
  | learnMergeRelease (t : Time)
  | learnFilterExpiry (t : Time) (pipe : Fin 4)
  | ageingVisit (t : Time)
  | tableScrub (t : Time) (table : FwdTable) (addr : BitVec 22) (ecc : EccResult)
  | shaperRefill (t : Time)
  | policerRefill (t : Time)
  | tmObjectWrite
  | tmObjectRead
  | wardrobeWriteback (packets : Nat)
  | queueSample (t : Time)
  | recordedRateUpdate (t : Time)
  | join (t : Time) (origin : SbOrigin) (port : BitVec 7) (programme : BitVec 10)
  | leave (t : Time) (origin : SbOrigin) (port : BitVec 7) (programme : BitVec 10)
  | leaveAll (t : Time) (origin : SbOrigin) (port : BitVec 7)
  | replayIssue (t : Time) (ctx : Fin 512)
  | splice (t : Time) (ctx : Fin 512)
  | catchupTimeout (t : Time) (ctx : Fin 512)
  | forcedSplice (t : Time) (ctx : Fin 512)
  | membershipReport (t : Time)
  | generalQuery (t : Time) (port : Fin 96)
  | membershipExpiry (t : Time) (port : Fin 96) (programme : BitVec 10)
  | repairServe (t : Time)
  | repairBudgetRefill (t : Time)
  | tributaryInputLos (trib : Fin 32)
  | tributaryLosEnd (trib : Fin 32)
  | controlledSlip (trib : Fin 32) (slip : Slip)
  | tsiWrite
  | tsiRead
  | tsiSwap
  | tsiAbort
  | swapCommit (t : Time)
  | standbyCopyDone (t : Time)
  | highwayChangeEnd (t : Time)
  | heldTodDue (t : Time)
  | offsetTimeout (t : Time)
  | softwareOffset (t : Time) (value : Word)
  | set (t : Time) (value : Word)
  | setLoad (t : Time)
  | ppsPulse (t : Time)
  | ppsWidthEnd (t : Time)
  | pltodMessage (t : Time)
  | longcaseNowRead (t : Time)
  | memoryErrorDetected (e : MemError)
  | migrationStart (t : Time)
  | migrationStep (t : Time) (badLines : List (Fin 64))
  | rankWithdrawal (t : Time)
  | cxlMemAccess (offset : Nat) (access : CxlAccess)
  | hostReset (t : Time) (cause : HostResetCause)
  | linkTrained (t : Time) (l : LinkTraining)
  | ringDoorbell (t : Time) (ring : RingId) (index : RingIndex)
  | tailLineSnoop (t : Time) (ring : RingId) (index : RingIndex)
  | ringDisable (ring : RingId)
  | ringWriteback (t : Time) (ring : RingId)
  | hostTransmit (d : TxDescriptor)
  | drawerRead (d : Fin 104) (slot : Fin 4)
  | drawerFlush (d : Fin 104) (value : Word)
  | drawerLevelWrite (d : Fin 104) (value : Word)
  | drawerConsumerWrite (d : Fin 104) (value : Word)
  | drawerDmaCopy (t : Time) (d : Fin 104)
  | vectorUnmask (vector : Fin 2048)
  | registerWrite (a : HostAccess)
  | read (hd : DictHead) (records : List (BitVec 16 × BitVec 8))
  | write (hd : DictHead) (records : List WriteRec)
  | open_ (hd : DictHead)
  | commit (hd : DictHead) (scheduled : Option TimeVal)
  | abort (hd : DictHead)
  | query (hd : DictHead)
  | commitPoint (t : Time) (path : Path)
  | transactionIdleTimeout (t : Time) (path : Path)
  | dictionarySave (t : Time) (ok : Bool)
  | restoreDefaults (t : Time) (path : Path) (value : BitVec 16)
  | taskSubmit (d : TaskDesc)
  | taskDispatch (t : Time)
  | affinityWindowExpiry (t : Time) (handle : BitVec 12)
  | taskComplete (t : Time) (core : Fin 16) (status : BitVec 3) (answer : TaskAnswer)
  | taskFault (t : Time) (core : Fin 16) (cause : TaskFaultCause)
  | taskCancel (t : Time) (handle : BitVec 12)
  | hostHandlesWrite (value : Word)
  | watchdogExpiry (t : Time)
  | secretaryException (t : Time)
  | clusterLoad (t : Time) (cluster : Fin 4) (digestOk secondOk : Bool)
  | restartCluster (t : Time) (path : Path) (value : BitVec 8)
  | restartSecretary (t : Time) (path : Path) (value : BitVec 16)
  | requestRunFull (t : Time) (origin : PowerOrigin)
  | requestRunLifeline (t : Time) (origin : PowerOrigin)
  | requestSleep (t : Time) (origin : PowerOrigin) (period : Nat)
  | requestDeepSleep (t : Time) (origin : PowerOrigin)
  | requestOff (t : Time) (origin : PowerOrigin)
  | noticeWaitExpiry (t : Time)
  | powerChangeCommit (t : Time)
  | retentionCommit (t : Time)
  | railAcknowledged (t : Time) (rail : Fin 5)
  | railAckTimeout (t : Time) (rail : Fin 5)
  | idleEntry (t : Time)
  | lossOfLine (t : Time)
  | lifelineHoldExpiry (t : Time)
  | lifelineRestoreExpiry (t : Time)
  | wakePin (t : Time) (level : Bool)
  | twoWireAddressMatch (x : TwoWireMatch)
  | lineTimerExpiry (t : Time)
  | oscRdy (b : BootInputs)
  | oscRdyTimeout (t : Time)
  | clear (counter : Fin 64) (value : Word)
  | selectableCounterRead (counter : Fin 64)
  | counterPageCopy (t : Time) (ok : Bool)
  | arm (t : Time) (origin : CabOrigin)
  | cabinetAbort (t : Time) (origin : CabOrigin)
  | cabinetLatch (t : Time)
  | cabinetDrainDone (t : Time)
  | cabinetWindowRead
  | dieTempSample (t : Time) (sensor : Fin 16) (temp : BitVec 12)
  | hbmTempReport (t : Time) (stack : Fin 5) (temp : BitVec 8)
  | hardwareThermalTrip (t : Time) (sensor : Fin 16)
  | thermalIsolation (t : Time)
  | voltageSample (t : Time) (rail : Fin 8) (mv : BitVec 16)
  | temperaturePeakRead (sensor : Fin 16)
  | hello (m : WaifelMsg)
  | openSession (m : WaifelMsg)
  | close (m : WaifelMsg)
  | sessionOpenTimeout (t : Time) (session : Fin 4)
  | sessionIdleTimeout (t : Time) (session : Fin 4)
  | servicePortFrame (t : Time) (bytes : List Byte)
  | imageBegin (m : WaifelMsg)
  | imageBlock (m : WaifelMsg)
  | imageEnd (m : WaifelMsg)
  | setServiceKey (t : Time) (path : Path) (key : BitVec 256)
  | activationRequest (t : Time) (path : Path)
  | activationAbort (t : Time) (path : Path)
  | activationCommit (t : Time)
  | confirm (t : Time) (path : Path) (value : BitVec 8)
  | autoConfirm (t : Time)
  | trialTimeout (t : Time)
  | porstAssert (t : Time)
  | powerGood (b : BootInputs)
  | warmReset (b : BootInputs)
  | lineStartRelease (t : Time)
  | killRelease (t : Time)
  | avsTrack (t : Time) (targetMv : BitVec 16)
  | battNChange (t : Time) (level : Bool)
  | killSenseMismatch (t : Time) (out : KillOut)
  | checkerLock (lane : Fin 128)
  | checkerLockLoss (lane : Fin 128) (counts : LaneCounts)
  | negotiationFailure (port : Fin 96)
  | hbmReportMissed (t : Time) (stack : Fin 5)
  | secretaryRestartDone (x : RestartInputs)
  | malformedRequest (hd : DictHead) (bytes : Option (List Byte))
deriving DecidableEq, Repr

end Sys2Proof
end

