-- ==== Sys2Proof/Decode.lean ====
section
/-!
DEFINITION. Decode.lean: the command a word spells. No row of spec/opcode_table.json gives its command any bits, so no
word spells one.
-/

namespace Sys2Proof

/-- The command that a word of nbits bits spells: none, since no row of the table has bits. -/
def decodeTableWord (_nbits _w : Nat) : Option Instr := none

end Sys2Proof
end

