-- ==== Sys2Proof/Config.lean ====
section
/-!
DEFINITION. Config.lean: what an implementation or the factory fixes, the constants of the spec that several files
use, and the FREE VALUES: constants with no body, which no proof can evaluate.
-/

namespace Sys2Proof

/-- The parts of the family (R1). (DESIGN CHOICE, log entry 6) -/
inductive Part where
  | az9616 | az9608 | az4808
deriving DecidableEq, Repr

/-- Line channels of a part (R1). -/
def Part.channels : Part → Nat
  | .az9616 => 16
  | _ => 8

/-- Drop ports of a part (R1). -/
def Part.ports : Part → Nat
  | .az4808 => 48
  | _ => 96

/-- Drop groups of a part (R1). -/
def Part.groups (p : Part) : Nat := p.ports / 8

/-- Pipelines of a part (R1). -/
def Part.pipes : Part → Nat
  | .az4808 => 2
  | _ => 4

/-- Managed in-service stacks of a part, the spare HB4 not counted (R1). -/
def Part.stacks : Part → Nat
  | .az4808 => 2
  | _ => 4

/-- The Sideboard is present (R1). -/
def Part.hasSideboard : Part → Bool
  | .az4808 => false
  | _ => true

/-- The tributary unit is present (R1, R2). -/
def Part.hasTributaries : Part → Bool
  | .az9616 => true
  | _ => false

/-- The device code of GL_ID (R475). -/
def Part.device : Part → Nat
  | .az9616 => 0x9616
  | .az9608 => 0x9608
  | .az4808 => 0x4808

/-- A block of the counter directory (R578): its name, its first number, the stride between instances, the counters of an
instance, each by its place in the model's list and with its name, and the scope that each instance is of. -/
structure CounterBlock where
  name : List Byte
  first : Nat
  stride : Nat
  counters : List (Nat × List Byte)
  scopes : List Nat
deriving DecidableEq, Repr

namespace Config

/-! Lengths of time in units of 1/425 ns. -/

/-- One nanosecond. -/
def ns : Nat := 425
/-- One UI (Notation). -/
def ui : Nat := 8
/-- One symbol of 5 UI (Notation). -/
def symbol : Nat := 40
/-- One slot of 25 symbols (Notation). -/
def slot : Nat := 1000
/-- One line frame of 1,328,125 symbols (R37). -/
def frame : Nat := 53125000
/-- One microsecond. -/
def us : Nat := 425000
/-- One millisecond. -/
def ms : Nat := 425000000
/-- One second. -/
def sec : Nat := 425000000000
/-- One cycle of the 1.25 GHz core clock (01_terminal_at_a_glance.md, Capacity). -/
def cycle : Nat := 340

/-- Symbols of a frame (R37). -/
def frameSymbols : Nat := 1328125

/-! What the factory fixes. Constants with no body: nothing can evaluate them. -/

/-- The unique part of the serial number (R127). (DEDUCED, log entry 9) -/
opaque serialUnique : Word
/-- The stepping shown in GL_ID (R475). -/
opaque stepping : BitVec 8
/-- Time limit of a firmware task's type, and whether it may run on a cluster: both belong to the running image (R537, R539, R540). -/
opaque imageTaskLimit : Nat → Nat
opaque imageTaskAllowed : Nat → Nat → Bool
/-- PHY delay values of a stack, as its calibration record in the factory area holds them (R450, R600). -/
opaque calibration : Nat → List Byte
/-- Plynoux's PCI vendor ID (R469). -/
opaque pciVendor : BitVec 16
/-- The blocks of the counter directory, which the factory assigns (R578). -/
opaque counterBlocks : List CounterBlock
/-- Date of manufacture, seconds and nanoseconds, and boot ROM version (R504). -/
opaque manufactured : Nat × Fin 1000000000
opaque romVersion : BitVec 32
/-- The boot ROM's public keys (R604): key index to the point's coordinates. -/
opaque romKey : Nat → Option (Nat × Nat)

/-- Source address of the MAC control frames that a drop port sends (R248); the spec states none. -/
opaque controlAddress : Nat → BitVec 48

/-- Where the Secretary places the segment of a programme in the Sideboard partition, MiB from its base: the enabled
programmes with their sizes in MiB, and the programme (R363, R381); the spec leaves the placement open. -/
opaque segmentBase : List (Nat × Nat) → Nat → Nat

/-- The 64 bytes of an event-log record: sequence, seconds, nanoseconds, what happened and the number with it (R602,
R622); the spec states the fields but not their places, nor the codes and details. (DEDUCED, log entry 10) -/
opaque logBytes : Nat → Nat → Nat → Nat → Nat → List Byte

/-- AVS target of rail 0 in mV that the calibration gives for the readings of the 16 die sensors (R561, R622, R627). -/
opaque avsCalibration : List Int → Nat

/-- The balls TW_ADDR2..0, as the board ties them (R564). -/
opaque twAddr : BitVec 3

/-- Packets beyond four that the bonding stage keeps at its output toward a pipeline before it drops what does not fit (R23);
the spec states no number. -/
opaque outputSlots : Nat

/-! Free values: what the spec leaves open. The first argument is the state's counter of free values. -/

/-- Random offset of a serial-number response in slots (R142), before it is reduced to the window. -/
opaque freeOffset : Nat → Nat
/-- Sequence field of an upstream control message (R133), which the spec leaves open. -/
opaque freeSequence : Nat → BitVec 7
/-- The Firescreen's random nonce (R211), before zero is excluded. -/
opaque freeNonce : Nat → BitVec 32
/-- Bytes of the counter and of the length field of the key derivation of R610; the spec states neither. -/
opaque kdfCounterBytes : Nat
opaque kdfLengthBytes : Nat
/-- Source address of the service port's frames; the spec states none. -/
opaque serviceAddress : BitVec 48
/-- TTL or hop limit of the service port's ICMP answers; the spec states none. -/
opaque serviceHops : BitVec 8
/-- A terminal nonce of the Waifel protocol (R610). -/
opaque freeWaifelNonce : Nat → BitVec 128
/-- The bucket of the fragment table that a key hashes to (R282). -/
opaque fragmentBucket : List Nat → Nat
/-- A Word that the spec states no value for. -/
opaque freeWord : Nat → Word
/-- Seed of a transmit lane's training pattern, which R232 does not state (R230). -/
opaque trainingSeed : Nat → BitVec 13

end Config

end Sys2Proof
end

