-- ==== Sys2Proof/Machine/Assoc.lean ====
section
/-!
DEFINITION. Machine/Assoc.lean: sparse storage as plain data. A map from numbers is a list of pairs with strictly rising
keys; an entry equal to what an unlisted key reads as is never listed, so equal maps are equal lists.
-/

namespace Sys2Proof.Machine

/-- What the map lists for a key. -/
def aget {α : Type} : List (Nat × α) → Nat → Option α
  | [], _ => none
  | (k', v) :: l, k => if k' = k then some v else aget l k

/-- The map with the key's entry set to v, in key order. -/
def aput {α : Type} : List (Nat × α) → Nat → α → List (Nat × α)
  | [], k, v => [(k, v)]
  | (k', v') :: l, k, v =>
    if k < k' then (k, v) :: (k', v') :: l
    else if k = k' then (k, v) :: l
    else (k', v') :: aput l k v

/-- The map without the key's entry. -/
def adel {α : Type} : List (Nat × α) → Nat → List (Nat × α)
  | [], _ => []
  | (k', v') :: l, k => if k' = k then adel l k else (k', v') :: adel l k

/-- What a key reads as, d where it is unlisted. -/
def agetD {α : Type} (l : List (Nat × α)) (k : Nat) (d : α) : α := (aget l k).getD d

/-- The map with the key reading as v, where an unlisted key reads as d: writing d removes the entry. -/
def aputD {α : Type} [DecidableEq α] (l : List (Nat × α)) (k : Nat) (v d : α) : List (Nat × α) :=
  if v = d then adel l k else aput l k v

/-- The keys rise strictly. -/
def keysRise {α : Type} : List (Nat × α) → Bool
  | [] => true
  | [_] => true
  | (k, _) :: (k', v') :: l => decide (k < k') && keysRise ((k', v') :: l)

/-- Element n of a list replaced by f of it; the list itself where it is shorter. -/
def lmod {α : Type} : List α → Nat → (α → α) → List α
  | [], _, _ => []
  | a :: l, 0, f => f a :: l
  | a :: l, n + 1, f => a :: lmod l n f

/-- Bits hi down to lo of a number. -/
def bitsOf (x hi lo : Nat) : Nat := (x >>> lo) % 2 ^ (hi - lo + 1)

/-- A number with its bits hi down to lo replaced by those of v. -/
def withBits (x hi lo v : Nat) : Nat :=
  x - (bitsOf x hi lo) * 2 ^ lo + (v % 2 ^ (hi - lo + 1)) * 2 ^ lo

/-- The number that a list of bytes spells, first byte highest (R14). -/
def bytesToNat (bs : List Byte) : Nat := bs.foldl (fun a b => a * 256 + b.toNat) 0

/-- n bytes of a number, highest first (R14). -/
def natToBytes : Nat → Nat → List Byte
  | 0, _ => []
  | n + 1, x => BitVec.ofNat 8 (x >>> (8 * n)) :: natToBytes n x

/-- A number of bits given first bit highest. -/
def bitsToNat (bs : List Bool) : Nat := bs.foldl (fun a b => 2 * a + b.toNat) 0

/-- n bits of a number, highest first. -/
def natToBits : Nat → Nat → List Bool
  | 0, _ => []
  | n + 1, x => x.testBit n :: natToBits n x

/-- Number of ones among the low n bits. -/
def popcount : Nat → Nat → Nat
  | 0, _ => 0
  | n + 1, x => (x.testBit n).toNat + popcount n x

/-- x divided by y, rounded up. -/
def ceilDiv (x y : Nat) : Nat := (x + y - 1) / y

end Sys2Proof.Machine
end

