-- ==== Sys2Proof/Machine/Names.lean ====
section
/-!
DEFINITION. Machine/Names.lean: the per-event counters that the chapters of spec/ name, each kept per instance of the
scope its rule states (R574, R578).
-/

namespace Sys2Proof.Machine

/-- A per-event counter's name. -/
inductive CName where
  /- R45, R52, R53, R73, 02_downstream_comb.md; per lane (2n for A, 2n+1 for B of LCn) or per terminal -/
  | fecCorrectedSymbols | fecCorrectedCodewords | fecUncorrectable | qualityErrors | erroredPatterns | headerFailed | mapLengthErrors | protToggles
  /- R125, 03_envelopes_bonding_cipher.md -/
  | envHeaderFail | presyncFail | envErrored | envReserved | envOverrun | envEmpty | frameHeaderDiscard | foreignFlow
  | ctlWrongLength | ctlCheckFail | bondLate | bondDuplicate | bondGap | bondEarlyClose | bondOrphan | bondIncomplete
  | bondOversize | authFail | deadKeyDiscard
  /- 04_joining_the_tree.md -/
  | ctlUnknown | ctlWrongFlow | ctlNoKey | ctlOutOfRange | assignRefused | delayRefused | overlapAbandons | nonceWrong
  | clearDrops
  /- R192, 05_upstream_bursts_reports.md -/
  | mapCrcFail | grantZeroLength | grantPastEnd | grantProfileMissing | grantShort | grantsAccepted | burstsSent | burstsCut
  | idleWords | reissuedEnvelopes | reportEntries | tribDiscarded | tribGrantShort | profileReserved | allocBytes | allocEnvelopes
  | allocFragments
  /- 06_firescreen.md -/
  | fsRefusedEnables | fsUnadmitted | fsWrongRelease | fsDetections
  /- R254, 07_drop_ports_and_lanes.md -/
  | rxFrames | rxBytes | txFrames | txBytes | runts | fcsErrors | oversize | codeErrors
  | rxOverflows | linkDownDiscards | pauseReceived | pauseSent | macControlDiscards | portFecCorrectedCw | portFecCorrectedSym | portFecUncorrectable
  | trainFails | lockFails | negotiationFails | linkDowns
  /- R293, 08_classification_generations.md -/
  | clEntered | clNoImage | clBadDisposition | clInvalidTarget | clEccDrops | clPassLimit | clRecirculated | fragStored
  | fragHits | fragPending | fragHeld | fragTimeouts | fragOverflow | fragBucketFull | egressDrops | egressEdits
  | winRefused | evictedCopies
  /- R326, 09_forwarding_and_learning.md; R23 -/
  | macHits | macMisses | macFloods | macSamePort | macBadDest | macBadSource | macSaDaDrops | routeHits
  | routeMisses | ttlToHost | poisonDrops | learnPosted | learnSuppressed | learnDropped | agedEntries | tableCe
  | tableUe | fwDescriptors | pipelineOverrun
  /- R358, 10_queues_meters_wardrobe.md -/
  | qAdmitted | qBytes | qDrops | qMarkedDrops | qEccDrops | qSpilled | qLimitDrops | polGreen
  | polYellow | polRed | polYellowDrops | polRedDrops | groupEmpty | groupCopies | fullDrops | writeStalls
  | descriptorShort | wdEccDrops | wdWithdrawn | samplesPosted | samplesDropped
  /- R386, 11_sideboard_recall.md -/
  | sbRecorded | sbRecordedBytes | sbRecordDrops | sbRecallHeld | sbEmptyMask | sbJoinsReplayed | sbJoinsSpliced | sbCatchupTimeouts
  | sbForcedSplices | sbOverruns | sbReplayed | memDiverted | memDropped | memIgnored | repReceived | repServed
  | repRefused | repDropped | repSent | repNotFound | sbNoContext | sbSegmentLosses
  /- R415, 12_tributaries_and_overhead.md -/
  | tbContainers | tbMissing | tbC1Received | tbC2Received | tbC1Sent | tbC2Sent | tbSlips | tbControlled
  | tbTestErrors | mdHeld | swapsCommitted | swapsRefused
  /- R443, 13_longcase_time.md -/
  | todUsed | todDiscarded | todOutliers | swAccepted | swRefused | ltSteps | ptpDiverted | ptpStamped
  | ptpMalformed | ptpPosted | ptpDropped
  /- R467, 14_memory_complex.md -/
  | memCe | memUe | memRetries | memPoisoned | memPoisonReads | memWaits | migStarted | migEnded
  | migBlocks | migMapMisses
  /- R495, 15_host_attachment_and_drawers.md -/
  | drwPosted | drwDropped | drwFlushes | htxFrames | htxBytes | htxSkipped | htxReadFail | hrxPackets
  | hrxBytes | hrxNoBuffer | hrxTooLong | hrxDisabled | doorbellIgnored | badAccess | hostResets | hostResetDrops
  /- R526, 16_object_dictionary.md -/
  | dictReceived | dictReplies | dictRepeated | dictStale | dictCheckFail | dictCommits | dictConflicts | dictBusy
  | dictAborts | dictIdle | savesMade | savesFailed | mbOverruns
  /- R546, 17_secretary_and_bench.md -/
  | taskAffine | taskWindow | taskNoAffine | taskRedispatched | taskFaults | taskTimeFaults | clusterRestarts | clusterLoadFails | tasksAccepted | tasksRefused
  | tasksCancelled | tasksOrphan | tasksExcess | secretaryRestarts
  /- R573, 18_power_and_lifeline.md -/
  | pwCommitted | pwReplaced | pwCancelled | pwRefused | pwLifeline | pwIdle | pwSleepDiscards | pwHeldDropped
  | pwWakes | pwWakeFails | pwUnsent | pwTwoWire | pwOffDrops | railNoAck | railRetries
  /- R599, 19_counters_and_cabinet.md -/
  | pageCopies | pageCopyFails | cabLatched | cabAborted | cabRefused | cabStale | monOut
  /- R623, 20_images_and_activation.md -/
  | helloRefused | openFailed | wfCheckFail | wfReplayed | wfTimeouts | wfDiscarded | imgBegun | imgStaged
  | imgInvalid | imgBlocks | actCommitted | actReplaced | actCancelled | actRefused | confirmations | rollbacks
  | storeMigrations | commitsLost
deriving DecidableEq, Repr

/-- Position of a counter's name in the list above, as the blocks of the counter directory use it (R578). -/
def cnameIndex (c : CName) : Nat := c.ctorIdx

/-- The power domain that keeps a counter of the model's list, by its scope (R550, R576). (DEDUCED, log entry 128) -/
def counterDomain (c scope : Nat) : Nat :=
  let within := fun (a b : CName) => decide (cnameIndex a ≤ c) && decide (c ≤ cnameIndex b)
  if within .fecCorrectedSymbols .mapLengthErrors || within .envHeaderFail .frameHeaderDiscard then 12 + scope / 2
  else if within .authFail .deadKeyDiscard then 47
  else if within .fsRefusedEnables .fsDetections then 1
  else if within .rxFrames .linkDowns then (if scope < 96 then 28 + scope / 8 else 12 + (scope - 96) / 4)
  else if within .egressDrops .egressEdits || within .ptpDiverted .ptpDropped then 28 + scope / 8
  else if within .clEntered .clEccDrops then 8 + scope / 4
  else if within .clPassLimit .fragBucketFull || within .macHits .learnDropped || within .pipelineOverrun .pipelineOverrun then
    8 + scope
  else if within .winRefused .evictedCopies || within .agedEntries .fwDescriptors || within .qAdmitted .samplesDropped then 40
  else if within .sbRecorded .sbSegmentLosses then 48
  else if within .tbContainers .swapsRefused then 49
  else if within .memCe .memPoisoned then (if scope < 16 then 41 + scope / 4 else 45)
  else if within .memPoisonReads .migMapMisses || within .drwPosted .drwFlushes then 40
  else if within .htxFrames .hostResetDrops then 46
  else if within .dictReceived .mbOverruns || within .tasksAccepted .secretaryRestarts || within .helloRefused .commitsLost then 3
  else if within .taskAffine .taskTimeFaults then 4 + scope / 4
  else if within .clusterRestarts .clusterLoadFails then 4 + scope
  else if within .pwCommitted .railRetries then 0
  else 2

/-- The counter's name gives a unit, so that one event may raise it by more than one (R574). -/
def byteCounter : CName → Bool
  | .allocBytes | .rxBytes | .txBytes | .qBytes | .sbRecordedBytes | .htxBytes | .hrxBytes => true
  | _ => false

/-- The part lacks what a domain holds (R1, R550). PD49 holds the overhead too, which every part has (R2).
(DESIGN CHOICE, log entry 161) -/
def pdAbsent (p : Part) (n : Nat) : Bool :=
  if n < 8 then false
  else if n < 12 then decide (p.pipes ≤ n - 8)
  else if n < 28 then decide (p.channels ≤ n - 12)
  else if n < 40 then decide (p.groups ≤ n - 28)
  else if n = 40 then false
  else if n < 45 then decide (p.stacks ≤ n - 41)
  else if n = 48 then !p.hasSideboard
  else false

/-! ## The counter directory (R578) -/

/-- The counter and the scope that a block gives a number. -/
def blockCounter (b : CounterBlock) (n : Nat) : Option (Nat × Nat) :=
  if n < b.first ∨ b.stride = 0 then none
  else match b.scopes[(n - b.first) / b.stride]?, b.counters[(n - b.first) % b.stride]? with
    | some s, some c => some (c.1, s)
    | _, _ => none

/-- The counter that the directory assigns a number, and its scope (R574, R578). -/
def counterAt (n : Nat) : Option (Nat × Nat) := Config.counterBlocks.findSome? (blockCounter · n)

/-- The number of a counter: the first of 0 to 122,879 that reads it. -/
def counterNumber (c scope : Nat) : Option Nat := (List.range 122880).find? (fun n => counterAt n == some (c, scope))

/-- The counters that a block counts, with their scopes. -/
def blockPairs (b : CounterBlock) : List (Nat × Nat) :=
  (b.scopes.map (fun s => b.counters.map (fun c => (c.1, s)))).flatten

/-- The power domain of a block, that of its first counter. -/
def blockDomain (b : CounterBlock) : Nat :=
  match blockPairs b with
  | (c, s) :: _ => counterDomain c s
  | [] => 2

/-- A block's unit is absent from the part (R6, R578). -/
def blockAbsent (p : Part) (b : CounterBlock) : Bool :=
  pdAbsent p (blockDomain b) ||
    (!p.hasTributaries && b.counters.any (fun c => cnameIndex .tbContainers ≤ c.1 && c.1 ≤ cnameIndex .tbTestErrors))

end Sys2Proof.Machine
end

