-- ==== Sys2Proof/Machine/RegTable.lean ====
section
/-!
DEFINITION. Machine/RegTable.lean: the registers of BAR0 as the tables of spec/ give them (R12, R13, R473 and each
register's own rule): the place of every register, and of every field its bits, access and reset value.
-/

namespace Sys2Proof.Machine

/-- The access codes of *Notation* (R14). -/
inductive Acc where
  | ro | rw | w1c | wo | rc
deriving DecidableEq, Repr

/-- The registers of BAR0, each standing for all its instances. -/
inductive Reg where
  /-- LC_CTRL: 02_downstream_comb.md R77. -/
  | lcCtrl
  /-- LC_STATUS: 02_downstream_comb.md R77. -/
  | lcStatus
  /-- LC_EVENT: 02_downstream_comb.md R77. -/
  | lcEvent
  /-- LC_SKEW: 02_downstream_comb.md R77. -/
  | lcSkew
  /-- LC_FRAME: 02_downstream_comb.md R77. -/
  | lcFrame
  /-- LC_SD: 02_downstream_comb.md R77. -/
  | lcSd
  /-- PROT_CTRL: 02_downstream_comb.md R78. -/
  | protCtrl
  /-- PROT_STATUS: 02_downstream_comb.md R78. -/
  | protStatus
  /-- BOND_CTRL: 03_envelopes_bonding_cipher.md R122. -/
  | bondCtrl
  /-- BOND_STATUS: 03_envelopes_bonding_cipher.md R122. -/
  | bondStatus
  /-- CY_KEY_DATA: 03_envelopes_bonding_cipher.md R123. -/
  | cyKeyData
  /-- CY_KEY_DATA5: 03_envelopes_bonding_cipher.md R123. -/
  | cyKeyData5
  /-- CY_KEY_CMD: 03_envelopes_bonding_cipher.md R123. -/
  | cyKeyCmd
  /-- CY_KEY_STATUS: 03_envelopes_bonding_cipher.md R123. -/
  | cyKeyStatus
  /-- CY_KEY_COUNT: 03_envelopes_bonding_cipher.md R123. -/
  | cyKeyCount
  /-- CY_TXIDX: 03_envelopes_bonding_cipher.md R123. -/
  | cyTxidx
  /-- CY_EVENT: 03_envelopes_bonding_cipher.md R123. -/
  | cyEvent
  /-- ACT_STATUS: 04_joining_the_tree.md R157. -/
  | actStatus
  /-- ACT_CTRL: 04_joining_the_tree.md R157. -/
  | actCtrl
  /-- ACT_SERIAL: 04_joining_the_tree.md R157. -/
  | actSerial
  /-- ACT_EQD_W: 04_joining_the_tree.md R157. -/
  | actEqdW
  /-- ACT_EQD_P: 04_joining_the_tree.md R157. -/
  | actEqdP
  /-- ACT_EVENT: 04_joining_the_tree.md R157. -/
  | actEvent
  /-- LE_FILL: 05_upstream_bursts_reports.md R189. -/
  | leFill
  /-- LE_TRIB: 05_upstream_bursts_reports.md R189. -/
  | leTrib
  /-- LE_GRANT_EVENT: 05_upstream_bursts_reports.md R189. -/
  | leGrantEvent
  /-- PROF_CFG: 05_upstream_bursts_reports.md R189. -/
  | profCfg
  /-- PROF_DELAY: 05_upstream_bursts_reports.md R189. -/
  | profDelay
  /-- PROF_DELIM_HI: 05_upstream_bursts_reports.md R189. -/
  | profDelimHi
  /-- PROF_DELIM_LO: 05_upstream_bursts_reports.md R189. -/
  | profDelimLo
  /-- FS_STATUS: 06_firescreen.md R219. -/
  | fsStatus
  /-- FS_STAGE: 06_firescreen.md R219. -/
  | fsStage
  /-- FS_HELD: 06_firescreen.md R219. -/
  | fsHeld
  /-- FS_TRIP: 06_firescreen.md R219. -/
  | fsTrip
  /-- FS_EQD_W: 06_firescreen.md R219. -/
  | fsEqdW
  /-- FS_EQD_P: 06_firescreen.md R219. -/
  | fsEqdP
  /-- FS_CFG: 06_firescreen.md R219. -/
  | fsCfg
  /-- FS_EVENT: 06_firescreen.md R219. -/
  | fsEvent
  /-- DP_CTRL: 07_drop_ports_and_lanes.md R250. -/
  | dpCtrl
  /-- DP_MAC: 07_drop_ports_and_lanes.md R250. -/
  | dpMac
  /-- DP_FRAME: 07_drop_ports_and_lanes.md R250. -/
  | dpFrame
  /-- DP_FC: 07_drop_ports_and_lanes.md R250. -/
  | dpFc
  /-- DP_STATUS: 07_drop_ports_and_lanes.md R250. -/
  | dpStatus
  /-- DP_EVENT: 07_drop_ports_and_lanes.md R250. -/
  | dpEvent
  /-- DP_TRAIN: 07_drop_ports_and_lanes.md R250. -/
  | dpTrain
  /-- LC_LANE: 07_drop_ports_and_lanes.md R251. -/
  | lcLane
  /-- LNT_CTRL: 07_drop_ports_and_lanes.md R252. -/
  | lntCtrl
  /-- LNT_INJECT: 07_drop_ports_and_lanes.md R252. -/
  | lntInject
  /-- LNT_STATUS: 07_drop_ports_and_lanes.md R252. -/
  | lntStatus
  /-- LNT_BITS: 07_drop_ports_and_lanes.md R252. -/
  | lntBits
  /-- LNT_ERRORS: 07_drop_ports_and_lanes.md R252. -/
  | lntErrors
  /-- LNT_SYMERR: 07_drop_ports_and_lanes.md R252. -/
  | lntSymerr
  /-- LNT_LOCKLOSS: 07_drop_ports_and_lanes.md R252. -/
  | lntLockloss
  /-- CL_SLOT_STATE: 08_classification_generations.md R287. -/
  | clSlotState
  /-- CL_SLOT_GEN: 08_classification_generations.md R287. -/
  | clSlotGen
  /-- CL_SLOT_DRAIN: 08_classification_generations.md R287. -/
  | clSlotDrain
  /-- CL_SLOT_BADWORD: 08_classification_generations.md R287. -/
  | clSlotBadword
  /-- CL_REGION_BASE: 08_classification_generations.md R288. -/
  | clRegionBase
  /-- CL_REGION_LIMIT: 08_classification_generations.md R288. -/
  | clRegionLimit
  /-- CL_WIN_ADDR: 08_classification_generations.md R289. -/
  | clWinAddr
  /-- CL_WIN_DATA: 08_classification_generations.md R289. -/
  | clWinData
  /-- CL_WIN_STATUS: 08_classification_generations.md R289. -/
  | clWinStatus
  /-- CL_RCNT_SEL: 08_classification_generations.md R289. -/
  | clRcntSel
  /-- CL_RCNT: 08_classification_generations.md R289. -/
  | clRcnt
  /-- CL_EVENT: 08_classification_generations.md R290. -/
  | clEvent
  /-- CL_ERRADDR: 08_classification_generations.md R290. -/
  | clErraddr
  /-- CL_CTRL: 08_classification_generations.md R290. -/
  | clCtrl
  /-- CL_FRAG_CTRL: 08_classification_generations.md R291. -/
  | clFragCtrl
  /-- CL_FRAG_STATUS: 08_classification_generations.md R291. -/
  | clFragStatus
  /-- FW_CTRL: 09_forwarding_and_learning.md R324. -/
  | fwCtrl
  /-- FW_HASH: 09_forwarding_and_learning.md R324. -/
  | fwHash
  /-- FW_LEARN: 09_forwarding_and_learning.md R324. -/
  | fwLearn
  /-- FW_STATUS: 09_forwarding_and_learning.md R324. -/
  | fwStatus
  /-- FW_EVENT: 09_forwarding_and_learning.md R324. -/
  | fwEvent
  /-- FW_RING_BASE: 09_forwarding_and_learning.md R324. -/
  | fwRingBase
  /-- FW_RING_SIZE: 09_forwarding_and_learning.md R324. -/
  | fwRingSize
  /-- FW_RING_TAIL: 09_forwarding_and_learning.md R324. -/
  | fwRingTail
  /-- FW_RING_HEAD: 09_forwarding_and_learning.md R324. -/
  | fwRingHead
  /-- TM_ACC_SEL: 10_queues_meters_wardrobe.md R354. -/
  | tmAccSel
  /-- TM_ACC_DATA: 10_queues_meters_wardrobe.md R354. -/
  | tmAccData
  /-- TM_ACC_CMD: 10_queues_meters_wardrobe.md R354. -/
  | tmAccCmd
  /-- TM_ACC_STATUS: 10_queues_meters_wardrobe.md R354. -/
  | tmAccStatus
  /-- TM_CTRL: 10_queues_meters_wardrobe.md R355. -/
  | tmCtrl
  /-- TM_BUF: 10_queues_meters_wardrobe.md R355. -/
  | tmBuf
  /-- TM_EVENT: 10_queues_meters_wardrobe.md R355. -/
  | tmEvent
  /-- WD_CTRL: 10_queues_meters_wardrobe.md R356. -/
  | wdCtrl
  /-- WD_STATUS: 10_queues_meters_wardrobe.md R356. -/
  | wdStatus
  /-- WD_BLOCKS: 10_queues_meters_wardrobe.md R356. -/
  | wdBlocks
  /-- WD_EVENT: 10_queues_meters_wardrobe.md R356. -/
  | wdEvent
  /-- SB_CTRL: 11_sideboard_recall.md R383. -/
  | sbCtrl
  /-- SB_REPAIR: 11_sideboard_recall.md R383. -/
  | sbRepair
  /-- SB_MAC: 11_sideboard_recall.md R383. -/
  | sbMac
  /-- SB_CMD: 11_sideboard_recall.md R383. -/
  | sbCmd
  /-- SB_CMD_STATUS: 11_sideboard_recall.md R383. -/
  | sbCmdStatus
  /-- SB_STATUS: 11_sideboard_recall.md R383. -/
  | sbStatus
  /-- SB_EVENT: 11_sideboard_recall.md R383. -/
  | sbEvent
  /-- SB_PROG_DATA0: 11_sideboard_recall.md R384. -/
  | sbProgData0
  /-- SB_PROG_DATA1: 11_sideboard_recall.md R384. -/
  | sbProgData1
  /-- SB_PROG_DATA2: 11_sideboard_recall.md R384. -/
  | sbProgData2
  /-- MD_CTRL: 12_tributaries_and_overhead.md R412. -/
  | mdCtrl
  /-- MD_STATUS: 12_tributaries_and_overhead.md R412. -/
  | mdStatus
  /-- TR_CTRL: 12_tributaries_and_overhead.md R412. -/
  | trCtrl
  /-- TR_EVENT: 12_tributaries_and_overhead.md R412. -/
  | trEvent
  /-- TSI_SEL: 12_tributaries_and_overhead.md R412. -/
  | tsiSel
  /-- TSI_DATA: 12_tributaries_and_overhead.md R412. -/
  | tsiData
  /-- TSI_CMD: 12_tributaries_and_overhead.md R412. -/
  | tsiCmd
  /-- TSI_STATUS: 12_tributaries_and_overhead.md R412. -/
  | tsiStatus
  /-- TB_CFG: 12_tributaries_and_overhead.md R413. -/
  | tbCfg
  /-- TB_STATUS: 12_tributaries_and_overhead.md R413. -/
  | tbStatus
  /-- TB_EVENT: 12_tributaries_and_overhead.md R413. -/
  | tbEvent
  /-- LT_CTRL: 13_longcase_time.md R440. -/
  | ltCtrl
  /-- LT_STATUS: 13_longcase_time.md R440. -/
  | ltStatus
  /-- LT_NOW_NS: 13_longcase_time.md R440. -/
  | ltNowNs
  /-- LT_NOW_SEC: 13_longcase_time.md R440. -/
  | ltNowSec
  /-- LT_NOW_NS32: 13_longcase_time.md R440. -/
  | ltNowNs32
  /-- LT_OFFSET: 13_longcase_time.md R440. -/
  | ltOffset
  /-- LT_SW_OFFSET: 13_longcase_time.md R440. -/
  | ltSwOffset
  /-- LT_TRIM: 13_longcase_time.md R440. -/
  | ltTrim
  /-- LT_SET_SEC: 13_longcase_time.md R440. -/
  | ltSetSec
  /-- LT_CMD: 13_longcase_time.md R440. -/
  | ltCmd
  /-- LT_SERVO: 13_longcase_time.md R440. -/
  | ltServo
  /-- LT_PPS: 13_longcase_time.md R440. -/
  | ltPps
  /-- LT_STEPS: 13_longcase_time.md R440. -/
  | ltSteps
  /-- LT_EVENT: 13_longcase_time.md R440. -/
  | ltEvent
  /-- LT_PTP: 13_longcase_time.md R441. -/
  | ltPtp
  /-- MC_STATUS: 14_memory_complex.md R464. -/
  | mcStatus
  /-- MC_RANK0: 14_memory_complex.md R464. -/
  | mcRank0
  /-- MC_RANK1: 14_memory_complex.md R464. -/
  | mcRank1
  /-- MC_MIG: 14_memory_complex.md R464. -/
  | mcMig
  /-- MC_CE_LIMIT: 14_memory_complex.md R464. -/
  | mcCeLimit
  /-- MC_EVENT: 14_memory_complex.md R464. -/
  | mcEvent
  /-- MC_PART: 14_memory_complex.md R464. -/
  | mcPart
  /-- MC_REG: 14_memory_complex.md R464. -/
  | mcReg
  /-- GL_ID: 15_host_attachment_and_drawers.md R475. -/
  | glId
  /-- GL_LINK: 15_host_attachment_and_drawers.md R475. -/
  | glLink
  /-- GL_EVENT: 15_host_attachment_and_drawers.md R475. -/
  | glEvent
  /-- GL_BAD_ADDR: 15_host_attachment_and_drawers.md R475. -/
  | glBadAddr
  /-- DRING_BASE: 15_host_attachment_and_drawers.md R477. -/
  | dringBase
  /-- RXC_BASE: 15_host_attachment_and_drawers.md R477. -/
  | rxcBase
  /-- RXB_BASE: 15_host_attachment_and_drawers.md R477. -/
  | rxbBase
  /-- TXR_BASE: 15_host_attachment_and_drawers.md R477. -/
  | txrBase
  /-- BNS_BASE: 15_host_attachment_and_drawers.md R477. -/
  | bnsBase
  /-- BNC_BASE: 15_host_attachment_and_drawers.md R477. -/
  | bncBase
  /-- DRING_CFG: 15_host_attachment_and_drawers.md R477. -/
  | dringCfg
  /-- RXC_CFG: 15_host_attachment_and_drawers.md R477. -/
  | rxcCfg
  /-- RXB_CFG: 15_host_attachment_and_drawers.md R477. -/
  | rxbCfg
  /-- TXR_CFG: 15_host_attachment_and_drawers.md R477. -/
  | txrCfg
  /-- BNS_CFG: 15_host_attachment_and_drawers.md R477. -/
  | bnsCfg
  /-- BNC_CFG: 15_host_attachment_and_drawers.md R477. -/
  | bncCfg
  /-- DRING_WB: 15_host_attachment_and_drawers.md R477. -/
  | dringWb
  /-- RXC_WB: 15_host_attachment_and_drawers.md R477. -/
  | rxcWb
  /-- RXB_WB: 15_host_attachment_and_drawers.md R477. -/
  | rxbWb
  /-- TXR_WB: 15_host_attachment_and_drawers.md R477. -/
  | txrWb
  /-- BNS_WB: 15_host_attachment_and_drawers.md R477. -/
  | bnsWb
  /-- BNC_WB: 15_host_attachment_and_drawers.md R477. -/
  | bncWb
  /-- DRING_TAIL_LINE: 15_host_attachment_and_drawers.md R477. -/
  | dringTailLine
  /-- RXC_TAIL_LINE: 15_host_attachment_and_drawers.md R477. -/
  | rxcTailLine
  /-- RXB_TAIL_LINE: 15_host_attachment_and_drawers.md R477. -/
  | rxbTailLine
  /-- TXR_TAIL_LINE: 15_host_attachment_and_drawers.md R477. -/
  | txrTailLine
  /-- BNS_TAIL_LINE: 15_host_attachment_and_drawers.md R477. -/
  | bnsTailLine
  /-- BNC_TAIL_LINE: 15_host_attachment_and_drawers.md R477. -/
  | bncTailLine
  /-- DRW_CTRL: 15_host_attachment_and_drawers.md R491. -/
  | drwCtrl
  /-- MB_REQ_ADDR: 16_object_dictionary.md R511. -/
  | mbReqAddr
  /-- MB_REQ_LEN: 16_object_dictionary.md R511. -/
  | mbReqLen
  /-- MB_RSP_ADDR: 16_object_dictionary.md R511. -/
  | mbRspAddr
  /-- MB_RSP_LEN: 16_object_dictionary.md R511. -/
  | mbRspLen
  /-- MB_CMD: 16_object_dictionary.md R511. -/
  | mbCmd
  /-- MB_STATUS: 16_object_dictionary.md R511. -/
  | mbStatus
  /-- MB_EVENT: 16_object_dictionary.md R511. -/
  | mbEvent
  /-- BN_CTRL: 17_secretary_and_bench.md R544. -/
  | bnCtrl
  /-- BN_STATUS: 17_secretary_and_bench.md R544. -/
  | bnStatus
  /-- BN_CANCEL: 17_secretary_and_bench.md R544. -/
  | bnCancel
  /-- BN_CMD_STATUS: 17_secretary_and_bench.md R544. -/
  | bnCmdStatus
  /-- BN_EVENT: 17_secretary_and_bench.md R544. -/
  | bnEvent
  /-- BN_CORE: 17_secretary_and_bench.md R544. -/
  | bnCore
  /-- PW_STATUS: 18_power_and_lifeline.md R571. -/
  | pwStatus
  /-- PW_REQ: 18_power_and_lifeline.md R571. -/
  | pwReq
  /-- PW_REQ_STATUS: 18_power_and_lifeline.md R571. -/
  | pwReqStatus
  /-- PW_CFG: 18_power_and_lifeline.md R571. -/
  | pwCfg
  /-- PW_LL: 18_power_and_lifeline.md R571. -/
  | pwLl
  /-- PW_TIMERS: 18_power_and_lifeline.md R571. -/
  | pwTimers
  /-- PW_DOM: 18_power_and_lifeline.md R571. -/
  | pwDom
  /-- PW_DOM3: 18_power_and_lifeline.md R571. -/
  | pwDom3
  /-- PW_WAKE: 18_power_and_lifeline.md R571. -/
  | pwWake
  /-- PW_EVENT: 18_power_and_lifeline.md R571. -/
  | pwEvent
  /-- CN_CTRL: 19_counters_and_cabinet.md R596. -/
  | cnCtrl
  /-- CN_EVENT: 19_counters_and_cabinet.md R596. -/
  | cnEvent
  /-- CN_SUMMARY: 19_counters_and_cabinet.md R596. -/
  | cnSummary
  /-- CN_SUMMARY_MASK: 19_counters_and_cabinet.md R596. -/
  | cnSummaryMask
  /-- CN_ZEROED: 19_counters_and_cabinet.md R596. -/
  | cnZeroed
  /-- SC_CNT: 19_counters_and_cabinet.md R596. -/
  | scCnt
  /-- SC_CFG: 19_counters_and_cabinet.md R596. -/
  | scCfg
  /-- CN_MIR_ADDR: 19_counters_and_cabinet.md R596. -/
  | cnMirAddr
  /-- CN_MIR_EN: 19_counters_and_cabinet.md R596. -/
  | cnMirEn
  /-- CN_WRAP: 19_counters_and_cabinet.md R596. -/
  | cnWrap
  /-- TH_TS: 19_counters_and_cabinet.md R597. -/
  | thTs
  /-- TH_HB: 19_counters_and_cabinet.md R597. -/
  | thHb
  /-- TH_V: 19_counters_and_cabinet.md R597. -/
  | thV
  /-- TH_CFG: 19_counters_and_cabinet.md R597. -/
  | thCfg
  /-- TH_EVENT: 19_counters_and_cabinet.md R597. -/
  | thEvent
  /-- TH_TRIP: 19_counters_and_cabinet.md R597. -/
  | thTrip
  /-- TH_VWIN: 19_counters_and_cabinet.md R597. -/
  | thVwin
  /-- CAB_CTRL: 19_counters_and_cabinet.md R598. -/
  | cabCtrl
  /-- CAB_MASK: 19_counters_and_cabinet.md R598. -/
  | cabMask
  /-- CAB_TIME_SEC: 19_counters_and_cabinet.md R598. -/
  | cabTimeSec
  /-- CAB_TIME_NS: 19_counters_and_cabinet.md R598. -/
  | cabTimeNs
  /-- CAB_STATUS: 19_counters_and_cabinet.md R598. -/
  | cabStatus
  /-- CAB_GEN: 19_counters_and_cabinet.md R598. -/
  | cabGen
  /-- CAB_RD_GEN: 19_counters_and_cabinet.md R598. -/
  | cabRdGen
  /-- CAB_RD_OFF: 19_counters_and_cabinet.md R598. -/
  | cabRdOff
  /-- CAB_RD_DATA: 19_counters_and_cabinet.md R598. -/
  | cabRdData
  /-- CAB_EVENT: 19_counters_and_cabinet.md R598. -/
  | cabEvent
  /-- GL_BOOT: 21_start_up_signals_package.md R649. -/
  | glBoot
  /-- LC_TRAIN: 07_drop_ports_and_lanes.md R251. -/
  | lcTrain
  /-- SB_PROG_SEL: 11_sideboard_recall.md R384. -/
  | sbProgSel
  /-- HP_REASON_RING: 15_host_attachment_and_drawers.md R482. -/
  | hpReasonRing
deriving DecidableEq, Repr

/-- Place of a register: BAR0 offset of instance 0, distance of the instances, number of instances. -/
def regPlace : Reg → Nat × Nat × Nat
  | .lcCtrl => (0x200000, 0x10000, 16)
  | .lcStatus => (0x200008, 0x10000, 16)
  | .lcEvent => (0x200010, 0x10000, 16)
  | .lcSkew => (0x200018, 0x10000, 16)
  | .lcFrame => (0x200020, 0x10000, 16)
  | .lcSd => (0x200028, 0x10000, 16)
  | .protCtrl => (0x300100, 0x0, 1)
  | .protStatus => (0x300108, 0x0, 1)
  | .bondCtrl => (0x300200, 0x0, 1)
  | .bondStatus => (0x300208, 0x0, 1)
  | .cyKeyData => (0xf00000, 0x8, 5)
  | .cyKeyData5 => (0xf00028, 0x0, 1)
  | .cyKeyCmd => (0xf00030, 0x0, 1)
  | .cyKeyStatus => (0xf00038, 0x0, 1)
  | .cyKeyCount => (0xf00040, 0x0, 1)
  | .cyTxidx => (0xf00048, 0x8, 3)
  | .cyEvent => (0xf00060, 0x0, 1)
  | .actStatus => (0x300000, 0x0, 1)
  | .actCtrl => (0x300008, 0x0, 1)
  | .actSerial => (0x300010, 0x0, 1)
  | .actEqdW => (0x300018, 0x0, 1)
  | .actEqdP => (0x300020, 0x0, 1)
  | .actEvent => (0x300028, 0x0, 1)
  | .leFill => (0x300300, 0x0, 1)
  | .leTrib => (0x300308, 0x0, 1)
  | .leGrantEvent => (0x300310, 0x0, 1)
  | .profCfg => (0x300400, 0x20, 4)
  | .profDelay => (0x300408, 0x20, 4)
  | .profDelimHi => (0x300410, 0x20, 4)
  | .profDelimLo => (0x300418, 0x20, 4)
  | .fsStatus => (0x400000, 0x0, 1)
  | .fsStage => (0x400008, 0x0, 1)
  | .fsHeld => (0x400010, 0x0, 1)
  | .fsTrip => (0x400018, 0x0, 1)
  | .fsEqdW => (0x400020, 0x0, 1)
  | .fsEqdP => (0x400028, 0x0, 1)
  | .fsCfg => (0x400030, 0x0, 1)
  | .fsEvent => (0x400038, 0x0, 1)
  | .dpCtrl => (0x500000, 0x1000, 96)
  | .dpMac => (0x500008, 0x1000, 96)
  | .dpFrame => (0x500010, 0x1000, 96)
  | .dpFc => (0x500018, 0x1000, 96)
  | .dpStatus => (0x500020, 0x1000, 96)
  | .dpEvent => (0x500028, 0x1000, 96)
  | .dpTrain => (0x500030, 0x1000, 96)
  | .lcLane => (0x200100, 0x10000, 16)
  | .lntCtrl => (0x600000, 0x1000, 128)
  | .lntInject => (0x600008, 0x1000, 128)
  | .lntStatus => (0x600010, 0x1000, 128)
  | .lntBits => (0x600018, 0x1000, 128)
  | .lntErrors => (0x600020, 0x1000, 128)
  | .lntSymerr => (0x600028, 0x1000, 128)
  | .lntLockloss => (0x600030, 0x1000, 128)
  | .clSlotState => (0x700000, 0x40, 4)
  | .clSlotGen => (0x700008, 0x40, 4)
  | .clSlotDrain => (0x700010, 0x40, 4)
  | .clSlotBadword => (0x700018, 0x40, 4)
  | .clRegionBase => (0x700100, 0x10, 16)
  | .clRegionLimit => (0x700108, 0x10, 16)
  | .clWinAddr => (0x700200, 0x0, 1)
  | .clWinData => (0x700208, 0x0, 1)
  | .clWinStatus => (0x700210, 0x0, 1)
  | .clRcntSel => (0x700218, 0x0, 1)
  | .clRcnt => (0x700220, 0x0, 1)
  | .clEvent => (0x700228, 0x0, 1)
  | .clErraddr => (0x700230, 0x0, 1)
  | .clCtrl => (0x700238, 0x0, 1)
  | .clFragCtrl => (0x700300, 0x20, 4)
  | .clFragStatus => (0x700308, 0x20, 4)
  | .fwCtrl => (0x800000, 0x0, 1)
  | .fwHash => (0x800008, 0x0, 1)
  | .fwLearn => (0x800010, 0x0, 1)
  | .fwStatus => (0x800018, 0x0, 1)
  | .fwEvent => (0x800020, 0x0, 1)
  | .fwRingBase => (0x800028, 0x0, 1)
  | .fwRingSize => (0x800030, 0x0, 1)
  | .fwRingTail => (0x800038, 0x0, 1)
  | .fwRingHead => (0x800040, 0x0, 1)
  | .tmAccSel => (0x900000, 0x0, 1)
  | .tmAccData => (0x900008, 0x8, 4)
  | .tmAccCmd => (0x900028, 0x0, 1)
  | .tmAccStatus => (0x900030, 0x0, 1)
  | .tmCtrl => (0x900038, 0x0, 1)
  | .tmBuf => (0x900040, 0x0, 1)
  | .tmEvent => (0x900048, 0x0, 1)
  | .wdCtrl => (0xa00000, 0x0, 1)
  | .wdStatus => (0xa00008, 0x0, 1)
  | .wdBlocks => (0xa00010, 0x0, 1)
  | .wdEvent => (0xa00018, 0x0, 1)
  | .sbCtrl => (0xb00000, 0x0, 1)
  | .sbRepair => (0xb00008, 0x0, 1)
  | .sbMac => (0xb00010, 0x0, 1)
  | .sbCmd => (0xb00018, 0x0, 1)
  | .sbCmdStatus => (0xb00020, 0x0, 1)
  | .sbStatus => (0xb00028, 0x0, 1)
  | .sbEvent => (0xb00030, 0x0, 1)
  | .sbProgData0 => (0xb00040, 0x0, 1)
  | .sbProgData1 => (0xb00048, 0x0, 1)
  | .sbProgData2 => (0xb00050, 0x0, 1)
  | .mdCtrl => (0xc00000, 0x0, 1)
  | .mdStatus => (0xc00008, 0x0, 1)
  | .trCtrl => (0xc00100, 0x0, 1)
  | .trEvent => (0xc00108, 0x0, 1)
  | .tsiSel => (0xc00110, 0x0, 1)
  | .tsiData => (0xc00118, 0x0, 1)
  | .tsiCmd => (0xc00120, 0x0, 1)
  | .tsiStatus => (0xc00128, 0x0, 1)
  | .tbCfg => (0xc01000, 0x40, 32)
  | .tbStatus => (0xc01008, 0x40, 32)
  | .tbEvent => (0xc01010, 0x40, 32)
  | .ltCtrl => (0xd00000, 0x0, 1)
  | .ltStatus => (0xd00008, 0x0, 1)
  | .ltNowNs => (0xd00010, 0x0, 1)
  | .ltNowSec => (0xd00018, 0x0, 1)
  | .ltNowNs32 => (0xd00020, 0x0, 1)
  | .ltOffset => (0xd00028, 0x0, 1)
  | .ltSwOffset => (0xd00030, 0x0, 1)
  | .ltTrim => (0xd00038, 0x0, 1)
  | .ltSetSec => (0xd00040, 0x0, 1)
  | .ltCmd => (0xd00048, 0x0, 1)
  | .ltServo => (0xd00050, 0x0, 1)
  | .ltPps => (0xd00058, 0x0, 1)
  | .ltSteps => (0xd00060, 0x0, 1)
  | .ltEvent => (0xd00068, 0x0, 1)
  | .ltPtp => (0xd01000, 0x8, 96)
  | .mcStatus => (0xe00000, 0x0, 1)
  | .mcRank0 => (0xe00008, 0x0, 1)
  | .mcRank1 => (0xe00010, 0x0, 1)
  | .mcMig => (0xe00018, 0x0, 1)
  | .mcCeLimit => (0xe00020, 0x0, 1)
  | .mcEvent => (0xe00028, 0x0, 1)
  | .mcPart => (0xe00040, 0x8, 5)
  | .mcReg => (0xe00080, 0x8, 5)
  | .glId => (0x0, 0x0, 1)
  | .glLink => (0x8, 0x0, 1)
  | .glEvent => (0x10, 0x0, 1)
  | .glBadAddr => (0x18, 0x0, 1)
  | .dringBase => (0x1301000, 0x20, 104)
  | .rxcBase => (0x1302000, 0x40, 16)
  | .rxbBase => (0x1302020, 0x40, 16)
  | .txrBase => (0x1302800, 0x20, 16)
  | .bnsBase => (0x1001000, 0x0, 1)
  | .bncBase => (0x1001020, 0x0, 1)
  | .dringCfg => (0x1301008, 0x20, 104)
  | .rxcCfg => (0x1302008, 0x40, 16)
  | .rxbCfg => (0x1302028, 0x40, 16)
  | .txrCfg => (0x1302808, 0x20, 16)
  | .bnsCfg => (0x1001008, 0x0, 1)
  | .bncCfg => (0x1001028, 0x0, 1)
  | .dringWb => (0x1301010, 0x20, 104)
  | .rxcWb => (0x1302010, 0x40, 16)
  | .rxbWb => (0x1302030, 0x40, 16)
  | .txrWb => (0x1302810, 0x20, 16)
  | .bnsWb => (0x1001010, 0x0, 1)
  | .bncWb => (0x1001030, 0x0, 1)
  | .dringTailLine => (0x1301018, 0x20, 104)
  | .rxcTailLine => (0x1302018, 0x40, 16)
  | .rxbTailLine => (0x1302038, 0x40, 16)
  | .txrTailLine => (0x1302818, 0x20, 16)
  | .bnsTailLine => (0x1001018, 0x0, 1)
  | .bncTailLine => (0x1001038, 0x0, 1)
  | .drwCtrl => (0x1300000, 0x8, 104)
  | .mbReqAddr => (0x1400000, 0x0, 1)
  | .mbReqLen => (0x1400008, 0x0, 1)
  | .mbRspAddr => (0x1400010, 0x0, 1)
  | .mbRspLen => (0x1400018, 0x0, 1)
  | .mbCmd => (0x1400020, 0x0, 1)
  | .mbStatus => (0x1400028, 0x0, 1)
  | .mbEvent => (0x1400030, 0x0, 1)
  | .bnCtrl => (0x1000000, 0x0, 1)
  | .bnStatus => (0x1000008, 0x0, 1)
  | .bnCancel => (0x1000010, 0x0, 1)
  | .bnCmdStatus => (0x1000018, 0x0, 1)
  | .bnEvent => (0x1000020, 0x0, 1)
  | .bnCore => (0x1000100, 0x8, 16)
  | .pwStatus => (0x100000, 0x0, 1)
  | .pwReq => (0x100008, 0x0, 1)
  | .pwReqStatus => (0x100010, 0x0, 1)
  | .pwCfg => (0x100018, 0x0, 1)
  | .pwLl => (0x100020, 0x0, 1)
  | .pwTimers => (0x100028, 0x0, 1)
  | .pwDom => (0x100030, 0x8, 3)
  | .pwDom3 => (0x100048, 0x0, 1)
  | .pwWake => (0x100050, 0x0, 1)
  | .pwEvent => (0x100058, 0x0, 1)
  | .cnCtrl => (0x1100000, 0x0, 1)
  | .cnEvent => (0x1100008, 0x0, 1)
  | .cnSummary => (0x1100010, 0x0, 1)
  | .cnSummaryMask => (0x1100018, 0x0, 1)
  | .cnZeroed => (0x1100020, 0x8, 5)
  | .scCnt => (0x1101000, 0x8, 64)
  | .scCfg => (0x1101200, 0x8, 64)
  | .cnMirAddr => (0x1102000, 0x10, 240)
  | .cnMirEn => (0x1102008, 0x10, 240)
  | .cnWrap => (0x1104000, 0x8, 2560)
  | .thTs => (0x1100800, 0x8, 16)
  | .thHb => (0x1100880, 0x8, 5)
  | .thV => (0x11008c0, 0x8, 8)
  | .thCfg => (0x1100900, 0x0, 1)
  | .thEvent => (0x1100908, 0x0, 1)
  | .thTrip => (0x1100910, 0x0, 1)
  | .thVwin => (0x1100940, 0x8, 8)
  | .cabCtrl => (0x1200000, 0x0, 1)
  | .cabMask => (0x1200008, 0x8, 5)
  | .cabTimeSec => (0x1200030, 0x0, 1)
  | .cabTimeNs => (0x1200038, 0x0, 1)
  | .cabStatus => (0x1200040, 0x0, 1)
  | .cabGen => (0x1200048, 0x0, 1)
  | .cabRdGen => (0x1200050, 0x0, 1)
  | .cabRdOff => (0x1200058, 0x0, 1)
  | .cabRdData => (0x1200060, 0x0, 1)
  | .cabEvent => (0x1200068, 0x0, 1)
  | .glBoot => (0x20, 0x0, 1)
  | .lcTrain => (0x200108, 0x10000, 16)
  | .sbProgSel => (0xb00038, 0x0, 1)
  | .hpReasonRing => (0x1303000, 0x0, 1)

/-- A field of a register: its bits, access, reset value and, where the spec has other values ignored, the least and
the greatest value a write may give it. -/
structure FieldSpec where
  hi : Nat
  lo : Nat
  acc : Acc
  reset : Nat
  range : Option (Nat × Nat) := none
deriving DecidableEq, Repr

/-- The fields of a register, reserved ones left out (they read zero, R15). -/
def regFields : Reg → List FieldSpec
  | .lcCtrl => [⟨11, 8, .rw, 4, some (1, 15)⟩,
      ⟨7, 5, .rw, 2, some (1, 7)⟩,
      ⟨4, 4, .rw, 0, none⟩,
      ⟨3, 3, .rw, 0, none⟩,
      ⟨0, 0, .rw, 0, none⟩]
  | .lcStatus => [⟨11, 11, .ro, 0, none⟩,
      ⟨10, 10, .ro, 0, none⟩,
      ⟨9, 9, .ro, 0, none⟩,
      ⟨8, 8, .ro, 0, none⟩,
      ⟨7, 7, .ro, 0, none⟩,
      ⟨6, 6, .ro, 0, none⟩,
      ⟨5, 5, .ro, 0, none⟩,
      ⟨3, 2, .ro, 3, none⟩,
      ⟨1, 0, .ro, 3, none⟩]
  | .lcEvent => [⟨12, 12, .w1c, 0, none⟩,
      ⟨11, 11, .w1c, 0, none⟩,
      ⟨10, 10, .w1c, 0, none⟩,
      ⟨9, 9, .w1c, 0, none⟩,
      ⟨8, 8, .w1c, 0, none⟩,
      ⟨7, 7, .w1c, 0, none⟩,
      ⟨6, 6, .w1c, 0, none⟩,
      ⟨3, 3, .w1c, 0, none⟩,
      ⟨2, 2, .w1c, 0, none⟩,
      ⟨1, 1, .w1c, 0, none⟩,
      ⟨0, 0, .w1c, 0, none⟩]
  | .lcSkew => [⟨7, 7, .ro, 0, none⟩,
      ⟨6, 0, .ro, 0, none⟩]
  | .lcFrame => [⟨47, 0, .ro, 0, none⟩]
  | .lcSd => [⟨14, 0, .rw, 20, some (1, 19528)⟩]
  | .protCtrl => [⟨23, 16, .rw, 8, none⟩,
      ⟨15, 7, .rw, 16, none⟩,
      ⟨6, 6, .rw, 0, none⟩,
      ⟨5, 4, .wo, 0, none⟩,
      ⟨2, 2, .rw, 0, none⟩,
      ⟨1, 1, .rw, 0, none⟩]
  | .protStatus => [⟨5, 3, .ro, 0, none⟩,
      ⟨2, 1, .ro, 0, none⟩,
      ⟨0, 0, .ro, 0, none⟩]
  | .bondCtrl => [⟨24, 19, .rw, 8, some (1, 32)⟩,
      ⟨18, 17, .rw, 1, some (1, 3)⟩,
      ⟨10, 0, .rw, 2000, some (125, 2000)⟩]
  | .bondStatus => [⟨15, 0, .ro, 0, none⟩]
  | .cyKeyData => [⟨47, 0, .wo, 0, none⟩]
  | .cyKeyData5 => [⟨47, 32, .wo, 0, none⟩]
  | .cyKeyCmd => [⟨10, 8, .wo, 0, none⟩,
      ⟨7, 0, .wo, 0, none⟩]
  | .cyKeyStatus => [⟨3, 2, .ro, 0, none⟩,
      ⟨1, 0, .ro, 0, none⟩]
  | .cyKeyCount => [⟨47, 0, .ro, 0, none⟩]
  | .cyTxidx => [⟨47, 0, .rw, 0, none⟩]
  | .cyEvent => [⟨2, 2, .w1c, 0, none⟩,
      ⟨1, 1, .w1c, 0, none⟩,
      ⟨0, 0, .w1c, 0, none⟩]
  | .actStatus => [⟨23, 20, .ro, 0, none⟩,
      ⟨19, 19, .ro, 0, none⟩,
      ⟨18, 10, .ro, 0, none⟩,
      ⟨9, 9, .ro, 0, none⟩,
      ⟨8, 8, .ro, 0, none⟩,
      ⟨7, 4, .ro, 0, none⟩,
      ⟨2, 0, .ro, 0, none⟩]
  | .actCtrl => [⟨31, 18, .rw, 250, some (1, 10000)⟩,
      ⟨17, 2, .rw, 10000, some (100, 60000)⟩,
      ⟨0, 0, .rw, 0, none⟩]
  | .actSerial => [⟨47, 0, .ro, 0, none⟩]
  | .actEqdW => [⟨23, 0, .ro, 0, none⟩]
  | .actEqdP => [⟨23, 0, .ro, 0, none⟩]
  | .actEvent => [⟨7, 7, .w1c, 0, none⟩,
      ⟨6, 6, .w1c, 0, none⟩,
      ⟨5, 5, .w1c, 0, none⟩,
      ⟨4, 4, .w1c, 0, none⟩,
      ⟨3, 3, .w1c, 0, none⟩,
      ⟨2, 2, .w1c, 0, none⟩,
      ⟨1, 1, .w1c, 0, none⟩,
      ⟨0, 0, .w1c, 0, none⟩]
  | .leFill => [⟨15, 8, .rw, 10, some (4, 64)⟩,
      ⟨7, 0, .rw, 30, some (25, 90)⟩]
  | .leTrib => [⟨14, 14, .rw, 0, none⟩,
      ⟨13, 0, .rw, 0, none⟩]
  | .leGrantEvent => [⟨4, 4, .w1c, 0, none⟩,
      ⟨3, 3, .w1c, 0, none⟩,
      ⟨2, 2, .w1c, 0, none⟩,
      ⟨1, 1, .w1c, 0, none⟩,
      ⟨0, 0, .w1c, 0, none⟩]
  | .profCfg => [⟨47, 32, .ro, 0, none⟩,
      ⟨31, 24, .ro, 0, none⟩,
      ⟨23, 16, .ro, 0, none⟩,
      ⟨0, 0, .ro, 0, none⟩]
  | .profDelay => [⟨23, 0, .ro, 0, none⟩]
  | .profDelimHi => [⟨31, 0, .ro, 0, none⟩]
  | .profDelimLo => [⟨31, 0, .ro, 0, none⟩]
  | .fsStatus => [⟨29, 29, .ro, 0, none⟩,
      ⟨28, 28, .ro, 0, none⟩,
      ⟨27, 27, .ro, 0, none⟩,
      ⟨26, 26, .ro, 0, none⟩,
      ⟨25, 25, .ro, 0, none⟩,
      ⟨24, 24, .ro, 0, none⟩,
      ⟨23, 19, .ro, 1, none⟩,
      ⟨18, 10, .ro, 0, none⟩,
      ⟨9, 9, .ro, 0, none⟩,
      ⟨8, 8, .ro, 0, none⟩,
      ⟨7, 7, .ro, 0, none⟩,
      ⟨6, 5, .ro, 0, none⟩,
      ⟨0, 0, .ro, 0, none⟩]
  | .fsStage => [⟨31, 0, .ro, 0, none⟩]
  | .fsHeld => [⟨15, 0, .ro, 65535, none⟩]
  | .fsTrip => [⟨39, 32, .ro, 0, none⟩,
      ⟨31, 0, .ro, 0, none⟩]
  | .fsEqdW => [⟨23, 0, .ro, 0, none⟩]
  | .fsEqdP => [⟨23, 0, .ro, 0, none⟩]
  | .fsCfg => [⟨16, 16, .ro, 0, none⟩,
      ⟨15, 12, .ro, 4, none⟩,
      ⟨7, 0, .ro, 50, none⟩]
  | .fsEvent => [⟨7, 7, .w1c, 0, none⟩,
      ⟨6, 6, .w1c, 0, none⟩,
      ⟨5, 5, .w1c, 0, none⟩,
      ⟨4, 4, .w1c, 0, none⟩,
      ⟨3, 3, .w1c, 0, none⟩,
      ⟨2, 2, .w1c, 0, none⟩,
      ⟨1, 1, .w1c, 0, none⟩,
      ⟨0, 0, .w1c, 0, none⟩]
  | .dpCtrl => [⟨11, 11, .rw, 0, none⟩,
      ⟨10, 10, .rw, 0, none⟩,
      ⟨9, 8, .rw, 0, none⟩,
      ⟨7, 5, .rw, 0, none⟩,
      ⟨4, 3, .rw, 3, none⟩,
      ⟨0, 0, .rw, 0, none⟩]
  | .dpMac => [⟨19, 12, .rw, 255, none⟩,
      ⟨11, 11, .rw, 0, none⟩,
      ⟨10, 10, .rw, 0, none⟩,
      ⟨9, 9, .rw, 0, none⟩,
      ⟨8, 8, .rw, 0, none⟩]
  | .dpFrame => [⟨13, 0, .rw, 9216, some (1518, 16352)⟩]
  | .dpFc => [⟨47, 32, .rw, 65535, none⟩,
      ⟨31, 16, .rw, 32768, none⟩,
      ⟨15, 0, .rw, 16384, none⟩]
  | .dpStatus => [⟨16, 9, .ro, 0, none⟩,
      ⟨8, 8, .ro, 0, none⟩,
      ⟨7, 7, .ro, 0, none⟩,
      ⟨6, 6, .ro, 0, none⟩,
      ⟨5, 5, .ro, 0, none⟩,
      ⟨4, 4, .ro, 0, none⟩,
      ⟨3, 3, .ro, 0, none⟩,
      ⟨2, 0, .ro, 0, none⟩]
  | .dpEvent => [⟨5, 5, .w1c, 0, none⟩,
      ⟨4, 4, .w1c, 0, none⟩,
      ⟨3, 3, .w1c, 0, none⟩,
      ⟨2, 2, .w1c, 0, none⟩,
      ⟨1, 1, .w1c, 0, none⟩,
      ⟨0, 0, .w1c, 0, none⟩]
  | .dpTrain => [⟨13, 0, .rw, 3000, some (100, 12000)⟩]
  | .lcLane => [⟨13, 11, .ro, 0, none⟩,
      ⟨10, 8, .ro, 0, none⟩,
      ⟨7, 5, .ro, 0, none⟩,
      ⟨4, 2, .ro, 0, none⟩,
      ⟨1, 1, .wo, 0, none⟩]
  | .lntCtrl => [⟨11, 9, .rw, 0, none⟩,
      ⟨8, 6, .rw, 0, none⟩,
      ⟨5, 4, .rw, 0, none⟩,
      ⟨3, 3, .wo, 0, none⟩,
      ⟨2, 2, .rw, 0, none⟩,
      ⟨1, 1, .rw, 0, none⟩,
      ⟨0, 0, .rw, 0, none⟩]
  | .lntInject => [⟨6, 6, .wo, 0, none⟩,
      ⟨5, 0, .rw, 0, some (10, 40)⟩]
  | .lntStatus => [⟨3, 2, .ro, 0, none⟩,
      ⟨1, 1, .ro, 0, none⟩,
      ⟨0, 0, .ro, 0, none⟩]
  | .lntBits => [⟨47, 0, .ro, 0, none⟩]
  | .lntErrors => [⟨47, 0, .ro, 0, none⟩]
  | .lntSymerr => [⟨47, 0, .ro, 0, none⟩]
  | .lntLockloss => [⟨47, 0, .ro, 0, none⟩]
  | .clSlotState => [⟨7, 6, .ro, 0, none⟩,
      ⟨2, 0, .ro, 0, none⟩]
  | .clSlotGen => [⟨47, 0, .ro, 0, none⟩]
  | .clSlotDrain => [⟨47, 0, .ro, 0, none⟩]
  | .clSlotBadword => [⟨21, 20, .ro, 0, none⟩,
      ⟨19, 0, .ro, 0, none⟩]
  | .clRegionBase => [⟨19, 0, .ro, 0, none⟩]
  | .clRegionLimit => [⟨19, 0, .ro, 0, none⟩]
  | .clWinAddr => [⟨21, 20, .rw, 0, none⟩,
      ⟨19, 0, .rw, 0, none⟩]
  | .clWinData => [⟨47, 0, .wo, 0, none⟩]
  | .clWinStatus => [⟨0, 0, .rc, 0, none⟩]
  | .clRcntSel => [⟨19, 18, .rw, 0, none⟩,
      ⟨17, 16, .rw, 0, none⟩,
      ⟨15, 0, .rw, 0, none⟩]
  | .clRcnt => [⟨47, 0, .ro, 0, none⟩]
  | .clEvent => [⟨6, 6, .w1c, 0, none⟩,
      ⟨5, 5, .w1c, 0, none⟩,
      ⟨4, 4, .w1c, 0, none⟩,
      ⟨3, 3, .w1c, 0, none⟩,
      ⟨2, 2, .w1c, 0, none⟩,
      ⟨0, 0, .w1c, 0, none⟩]
  | .clErraddr => [⟨23, 22, .ro, 0, none⟩,
      ⟨21, 20, .ro, 0, none⟩,
      ⟨19, 0, .ro, 0, none⟩]
  | .clCtrl => [⟨47, 32, .rw, 37120, none⟩,
      ⟨31, 16, .rw, 1000, some (10, 60000)⟩]
  | .clFragCtrl => [⟨34, 21, .rw, 1000, some (10, 10000)⟩,
      ⟨20, 6, .rw, 2000, some (100, 30000)⟩,
      ⟨3, 2, .rw, 0, none⟩,
      ⟨1, 0, .rw, 2, none⟩]
  | .clFragStatus => [⟨21, 15, .ro, 0, none⟩,
      ⟨14, 0, .ro, 0, none⟩]
  | .fwCtrl => [⟨12, 12, .rw, 1, none⟩,
      ⟨11, 0, .rw, 300, some (1, 3600)⟩]
  | .fwHash => [⟨33, 17, .rw, 87381, none⟩,
      ⟨16, 0, .rw, 0, none⟩]
  | .fwLearn => [⟨19, 0, .rw, 1000, some (10, 1000000)⟩]
  | .fwStatus => [⟨20, 0, .ro, 0, none⟩]
  | .fwEvent => [⟨4, 4, .w1c, 0, none⟩,
      ⟨3, 3, .w1c, 0, none⟩,
      ⟨2, 2, .w1c, 0, none⟩,
      ⟨1, 1, .w1c, 0, none⟩,
      ⟨0, 0, .w1c, 0, none⟩]
  | .fwRingBase => [⟨47, 0, .rw, 0, none⟩]
  | .fwRingSize => [⟨3, 0, .rw, 6, some (6, 15)⟩]
  | .fwRingTail => [⟨14, 0, .rw, 0, none⟩]
  | .fwRingHead => [⟨14, 0, .ro, 0, none⟩]
  | .tmAccSel => [⟨47, 45, .rw, 0, none⟩,
      ⟨14, 0, .rw, 0, none⟩]
  | .tmAccData => [⟨47, 0, .rw, 0, none⟩]
  | .tmAccCmd => [⟨1, 1, .wo, 0, none⟩,
      ⟨0, 0, .wo, 0, none⟩]
  | .tmAccStatus => [⟨1, 0, .ro, 0, none⟩]
  | .tmCtrl => [⟨19, 0, .rw, 1000, some (20, 1000000)⟩]
  | .tmBuf => [⟨37, 19, .ro, 0, none⟩,
      ⟨18, 0, .ro, 0, none⟩]
  | .tmEvent => [⟨3, 3, .w1c, 0, none⟩,
      ⟨2, 2, .w1c, 0, none⟩,
      ⟨1, 1, .w1c, 0, none⟩,
      ⟨0, 0, .w1c, 0, none⟩]
  | .wdCtrl => [⟨4, 0, .rw, 2, some (1, 16)⟩]
  | .wdStatus => [⟨41, 21, .ro, 0, none⟩,
      ⟨20, 0, .ro, 0, none⟩]
  | .wdBlocks => [⟨11, 0, .ro, 0, none⟩]
  | .wdEvent => [⟨4, 4, .w1c, 0, none⟩,
      ⟨3, 3, .w1c, 0, none⟩,
      ⟨2, 2, .w1c, 0, none⟩,
      ⟨1, 1, .w1c, 0, none⟩,
      ⟨0, 0, .w1c, 0, none⟩]
  | .sbCtrl => [⟨25, 16, .rw, 100, some (1, 1000)⟩,
      ⟨15, 10, .rw, 10, some (1, 60)⟩,
      ⟨9, 4, .rw, 5, some (1, 60)⟩]
  | .sbRepair => [⟨20, 0, .rw, 65536, some (1024, 1048576)⟩]
  | .sbMac => [⟨47, 0, .rw, 2543895707648, none⟩]
  | .sbCmd => [⟨47, 46, .wo, 0, none⟩,
      ⟨16, 10, .wo, 0, none⟩,
      ⟨9, 0, .wo, 0, none⟩]
  | .sbCmdStatus => [⟨1, 0, .ro, 0, none⟩]
  | .sbStatus => [⟨41, 32, .ro, 0, none⟩,
      ⟨31, 16, .ro, 0, none⟩,
      ⟨15, 0, .ro, 0, none⟩]
  | .sbEvent => [⟨6, 6, .w1c, 0, none⟩,
      ⟨5, 5, .w1c, 0, none⟩,
      ⟨4, 4, .w1c, 0, none⟩,
      ⟨3, 3, .w1c, 0, none⟩,
      ⟨2, 2, .w1c, 0, none⟩,
      ⟨1, 1, .w1c, 0, none⟩,
      ⟨0, 0, .w1c, 0, none⟩]
  | .sbProgData0 => [⟨47, 0, .ro, 0, none⟩]
  | .sbProgData1 => [⟨47, 0, .ro, 0, none⟩]
  | .sbProgData2 => [⟨25, 25, .ro, 0, none⟩,
      ⟨24, 24, .ro, 0, none⟩,
      ⟨23, 0, .ro, 0, none⟩]
  | .mdCtrl => [⟨3, 0, .rw, 0, none⟩]
  | .mdStatus => [⟨0, 0, .ro, 0, none⟩]
  | .trCtrl => [⟨8, 1, .rw, 213, none⟩,
      ⟨0, 0, .rw, 0, none⟩]
  | .trEvent => [⟨2, 2, .w1c, 0, none⟩,
      ⟨1, 1, .w1c, 0, none⟩,
      ⟨0, 0, .w1c, 0, none⟩]
  | .tsiSel => [⟨10, 10, .rw, 0, none⟩,
      ⟨9, 9, .rw, 0, none⟩,
      ⟨8, 0, .rw, 0, none⟩]
  | .tsiData => [⟨10, 10, .rw, 0, none⟩,
      ⟨9, 5, .rw, 0, none⟩,
      ⟨4, 0, .rw, 0, none⟩]
  | .tsiCmd => [⟨3, 3, .wo, 0, none⟩,
      ⟨2, 2, .wo, 0, none⟩,
      ⟨1, 1, .wo, 0, none⟩,
      ⟨0, 0, .wo, 0, none⟩]
  | .tsiStatus => [⟨3, 2, .ro, 0, none⟩,
      ⟨1, 1, .ro, 0, none⟩,
      ⟨0, 0, .ro, 0, none⟩]
  | .tbCfg => [⟨4, 4, .rw, 0, none⟩,
      ⟨3, 3, .rw, 0, none⟩,
      ⟨1, 0, .rw, 0, none⟩]
  | .tbStatus => [⟨10, 8, .ro, 0, none⟩,
      ⟨7, 7, .ro, 0, none⟩,
      ⟨6, 6, .ro, 0, none⟩,
      ⟨5, 5, .ro, 0, none⟩,
      ⟨4, 4, .ro, 0, none⟩,
      ⟨3, 3, .ro, 0, none⟩,
      ⟨2, 2, .ro, 0, none⟩,
      ⟨1, 1, .ro, 0, none⟩,
      ⟨0, 0, .ro, 0, none⟩]
  | .tbEvent => [⟨6, 6, .w1c, 0, none⟩,
      ⟨5, 5, .w1c, 0, none⟩,
      ⟨4, 4, .w1c, 0, none⟩,
      ⟨3, 3, .w1c, 0, none⟩,
      ⟨2, 2, .w1c, 0, none⟩,
      ⟨1, 1, .w1c, 0, none⟩,
      ⟨0, 0, .w1c, 0, none⟩]
  | .ltCtrl => [⟨9, 4, .rw, 4, some (1, 60)⟩,
      ⟨3, 3, .rw, 0, none⟩,
      ⟨2, 2, .rw, 0, none⟩,
      ⟨1, 0, .rw, 0, none⟩]
  | .ltStatus => [⟨6, 3, .ro, 0, none⟩,
      ⟨2, 2, .ro, 1, none⟩,
      ⟨1, 0, .ro, 0, none⟩]
  | .ltNowNs => [⟨47, 32, .ro, 0, none⟩,
      ⟨31, 0, .ro, 0, none⟩]
  | .ltNowSec => [⟨47, 0, .ro, 0, none⟩]
  | .ltNowNs32 => [⟨31, 0, .ro, 0, none⟩]
  | .ltOffset => [⟨47, 0, .ro, 0, none⟩]
  | .ltSwOffset => [⟨47, 0, .wo, 0, none⟩]
  | .ltTrim => [⟨47, 0, .ro, 0, none⟩]
  | .ltSetSec => [⟨47, 0, .rw, 0, none⟩]
  | .ltCmd => [⟨0, 0, .wo, 0, none⟩]
  | .ltServo => [⟨47, 28, .rw, 1000, some (20, 1000000)⟩,
      ⟨27, 11, .rw, 1000, some (100, 100000)⟩,
      ⟨10, 7, .rw, 2, some (0, 8)⟩,
      ⟨6, 2, .rw, 6, some (0, 16)⟩]
  | .ltPps => [⟨47, 19, .rw, 10000, some (1, 500000)⟩,
      ⟨14, 0, .rw, 0, none⟩]
  | .ltSteps => [⟨47, 0, .ro, 0, none⟩]
  | .ltEvent => [⟨5, 5, .w1c, 0, none⟩,
      ⟨4, 4, .w1c, 0, none⟩,
      ⟨3, 3, .w1c, 0, none⟩,
      ⟨2, 2, .w1c, 0, none⟩,
      ⟨1, 1, .w1c, 0, none⟩,
      ⟨0, 0, .w1c, 0, none⟩]
  | .ltPtp => [⟨1, 1, .rw, 0, none⟩,
      ⟨0, 0, .rw, 0, none⟩]
  | .mcStatus => [⟨28, 24, .ro, 12, none⟩,
      ⟨23, 16, .ro, 0, none⟩,
      ⟨15, 13, .ro, 0, none⟩,
      ⟨12, 12, .ro, 0, none⟩,
      ⟨11, 11, .ro, 0, none⟩]
  | .mcRank0 => [⟨47, 0, .ro, 0, none⟩]
  | .mcRank1 => [⟨31, 0, .ro, 0, none⟩]
  | .mcMig => [⟨31, 31, .ro, 0, none⟩,
      ⟨30, 30, .ro, 0, none⟩,
      ⟨29, 27, .ro, 0, none⟩,
      ⟨26, 25, .ro, 0, none⟩,
      ⟨24, 23, .ro, 0, none⟩,
      ⟨21, 0, .ro, 0, none⟩]
  | .mcCeLimit => [⟨31, 0, .rw, 0, none⟩]
  | .mcEvent => [⟨6, 6, .w1c, 0, none⟩,
      ⟨5, 5, .w1c, 0, none⟩,
      ⟨4, 4, .w1c, 0, none⟩,
      ⟨3, 3, .w1c, 0, none⟩,
      ⟨2, 2, .w1c, 0, none⟩,
      ⟨1, 1, .w1c, 0, none⟩,
      ⟨0, 0, .w1c, 0, none⟩]
  | .mcPart => [⟨15, 8, .ro, 0, none⟩,
      ⟨7, 0, .ro, 0, none⟩]
  | .mcReg => [⟨31, 16, .rw, 0, some (0, 26200)⟩,
      ⟨15, 0, .rw, 0, some (0, 26200)⟩]
  | .glId => [⟨47, 32, .ro, 0, none⟩,
      ⟨31, 24, .ro, 0, none⟩,
      ⟨15, 0, .ro, 20556, none⟩]
  | .glLink => [⟨9, 9, .ro, 0, none⟩,
      ⟨8, 8, .ro, 0, none⟩,
      ⟨7, 3, .ro, 0, none⟩,
      ⟨2, 0, .ro, 0, none⟩]
  | .glEvent => [⟨2, 2, .w1c, 0, none⟩,
      ⟨1, 1, .w1c, 0, none⟩,
      ⟨0, 0, .w1c, 0, none⟩]
  | .glBadAddr => [⟨24, 0, .ro, 0, none⟩]
  | .dringBase => [⟨47, 0, .rw, 0, none⟩]
  | .rxcBase => [⟨47, 0, .rw, 0, none⟩]
  | .rxbBase => [⟨47, 0, .rw, 0, none⟩]
  | .txrBase => [⟨47, 0, .rw, 0, none⟩]
  | .bnsBase => [⟨47, 0, .rw, 0, none⟩]
  | .bncBase => [⟨47, 0, .rw, 0, none⟩]
  | .dringCfg => [⟨11, 5, .rw, 8, none⟩,
      ⟨4, 4, .rw, 0, none⟩,
      ⟨3, 0, .rw, 10, some (6, 15)⟩]
  | .rxcCfg => [⟨11, 5, .rw, 8, none⟩,
      ⟨4, 4, .rw, 0, none⟩,
      ⟨3, 0, .rw, 10, some (6, 15)⟩]
  | .rxbCfg => [⟨11, 5, .rw, 8, none⟩,
      ⟨4, 4, .rw, 0, none⟩,
      ⟨3, 0, .rw, 10, some (6, 15)⟩]
  | .txrCfg => [⟨11, 5, .rw, 8, none⟩,
      ⟨4, 4, .rw, 0, none⟩,
      ⟨3, 0, .rw, 10, some (6, 15)⟩]
  | .bnsCfg => [⟨11, 5, .rw, 8, none⟩,
      ⟨4, 4, .rw, 0, none⟩,
      ⟨3, 0, .rw, 10, some (6, 15)⟩]
  | .bncCfg => [⟨11, 5, .rw, 8, none⟩,
      ⟨4, 4, .rw, 0, none⟩,
      ⟨3, 0, .rw, 10, some (6, 15)⟩]
  | .dringWb => [⟨47, 0, .rw, 0, none⟩]
  | .rxcWb => [⟨47, 0, .rw, 0, none⟩]
  | .rxbWb => [⟨47, 0, .rw, 0, none⟩]
  | .txrWb => [⟨47, 0, .rw, 0, none⟩]
  | .bnsWb => [⟨47, 0, .rw, 0, none⟩]
  | .bncWb => [⟨47, 0, .rw, 0, none⟩]
  | .dringTailLine => [⟨47, 0, .rw, 0, none⟩]
  | .rxcTailLine => [⟨47, 0, .rw, 0, none⟩]
  | .rxbTailLine => [⟨47, 0, .rw, 0, none⟩]
  | .txrTailLine => [⟨47, 0, .rw, 0, none⟩]
  | .bnsTailLine => [⟨47, 0, .rw, 0, none⟩]
  | .bncTailLine => [⟨47, 0, .rw, 0, none⟩]
  | .drwCtrl => [⟨1, 0, .rw, 0, none⟩]
  | .mbReqAddr => [⟨47, 0, .rw, 0, none⟩]
  | .mbReqLen => [⟨13, 0, .rw, 0, none⟩]
  | .mbRspAddr => [⟨47, 0, .rw, 0, none⟩]
  | .mbRspLen => [⟨13, 0, .rw, 0, none⟩]
  | .mbCmd => [⟨0, 0, .wo, 0, none⟩]
  | .mbStatus => [⟨29, 16, .ro, 0, none⟩,
      ⟨2, 2, .ro, 0, none⟩,
      ⟨1, 0, .ro, 0, none⟩]
  | .mbEvent => [⟨3, 3, .w1c, 0, none⟩,
      ⟨2, 2, .w1c, 0, none⟩,
      ⟨1, 1, .w1c, 0, none⟩,
      ⟨0, 0, .w1c, 0, none⟩]
  | .bnCtrl => [⟨27, 16, .rw, 1024, some (0, 2048)⟩,
      ⟨15, 0, .rw, 2000, none⟩]
  | .bnStatus => [⟨28, 16, .ro, 0, none⟩,
      ⟨15, 0, .ro, 0, none⟩]
  | .bnCancel => [⟨11, 0, .wo, 0, none⟩]
  | .bnCmdStatus => [⟨1, 0, .ro, 0, none⟩]
  | .bnEvent => [⟨4, 4, .w1c, 0, none⟩,
      ⟨3, 3, .w1c, 0, none⟩,
      ⟨2, 2, .w1c, 0, none⟩,
      ⟨1, 1, .w1c, 0, none⟩,
      ⟨0, 0, .w1c, 0, none⟩]
  | .bnCore => [⟨47, 40, .ro, 0, none⟩,
      ⟨39, 24, .ro, 0, none⟩,
      ⟨23, 12, .ro, 0, none⟩,
      ⟨11, 11, .ro, 0, none⟩]
  | .pwStatus => [⟨11, 11, .ro, 0, none⟩,
      ⟨10, 10, .ro, 0, none⟩,
      ⟨9, 9, .ro, 0, none⟩,
      ⟨8, 8, .ro, 0, none⟩,
      ⟨7, 7, .ro, 0, none⟩,
      ⟨5, 4, .ro, 0, none⟩,
      ⟨3, 3, .ro, 0, none⟩,
      ⟨2, 0, .ro, 0, none⟩]
  | .pwReq => [⟨19, 3, .wo, 0, none⟩,
      ⟨2, 0, .wo, 0, none⟩]
  | .pwReqStatus => [⟨10, 3, .ro, 0, none⟩,
      ⟨2, 0, .ro, 0, none⟩]
  | .pwCfg => [⟨15, 15, .rw, 0, none⟩,
      ⟨14, 1, .rw, 100, some (10, 10000)⟩,
      ⟨0, 0, .rw, 1, none⟩]
  | .pwLl => [⟨33, 24, .rw, 10, some (1, 600)⟩,
      ⟨23, 10, .rw, 100, some (0, 10000)⟩,
      ⟨9, 8, .rw, 0, none⟩,
      ⟨7, 4, .rw, 0, some (0, 11)⟩]
  | .pwTimers => [⟨47, 42, .rw, 2, none⟩,
      ⟨41, 30, .rw, 60, none⟩,
      ⟨29, 18, .rw, 600, none⟩,
      ⟨17, 8, .rw, 50, none⟩]
  | .pwDom => [⟨47, 0, .ro, 0, none⟩]
  | .pwDom3 => [⟨5, 0, .ro, 0, none⟩]
  | .pwWake => [⟨47, 16, .ro, 0, none⟩,
      ⟨15, 15, .ro, 0, none⟩,
      ⟨11, 8, .ro, 0, none⟩,
      ⟨7, 5, .ro, 0, none⟩,
      ⟨4, 4, .ro, 0, none⟩,
      ⟨3, 0, .ro, 0, none⟩]
  | .pwEvent => [⟨7, 7, .w1c, 0, none⟩,
      ⟨6, 6, .w1c, 0, none⟩,
      ⟨5, 5, .w1c, 0, none⟩,
      ⟨4, 4, .w1c, 0, none⟩,
      ⟨3, 3, .w1c, 0, none⟩,
      ⟨2, 2, .w1c, 0, none⟩,
      ⟨1, 1, .w1c, 0, none⟩,
      ⟨0, 0, .w1c, 0, none⟩]
  | .cnCtrl => [⟨19, 0, .rw, 1000, some (100, 1000000)⟩]
  | .cnEvent => [⟨2, 2, .w1c, 0, none⟩,
      ⟨1, 1, .w1c, 0, none⟩,
      ⟨0, 0, .w1c, 0, none⟩]
  | .cnSummary => [⟨20, 0, .ro, 0, none⟩]
  | .cnSummaryMask => [⟨20, 0, .rw, 0, none⟩]
  | .cnZeroed => [⟨47, 0, .w1c, 0, none⟩]
  | .scCnt => [⟨47, 0, .ro, 0, none⟩]
  | .scCfg => [⟨47, 47, .rw, 0, none⟩,
      ⟨46, 46, .rw, 0, none⟩,
      ⟨45, 45, .rw, 0, none⟩,
      ⟨44, 44, .wo, 0, none⟩,
      ⟨43, 43, .w1c, 0, none⟩,
      ⟨16, 0, .rw, 0, none⟩]
  | .cnMirAddr => [⟨47, 0, .rw, 0, none⟩]
  | .cnMirEn => [⟨0, 0, .rw, 0, none⟩]
  | .cnWrap => [⟨47, 0, .w1c, 0, none⟩]
  | .thTs => [⟨27, 16, .rc, 0, none⟩,
      ⟨11, 0, .ro, 0, none⟩]
  | .thHb => [⟨8, 8, .ro, 0, none⟩,
      ⟨7, 0, .ro, 0, none⟩]
  | .thV => [⟨15, 0, .ro, 0, none⟩]
  | .thCfg => [⟨47, 40, .rw, 100, none⟩,
      ⟨39, 32, .rw, 110, none⟩,
      ⟨31, 24, .rw, 95, none⟩,
      ⟨23, 16, .rw, 105, none⟩]
  | .thEvent => [⟨3, 3, .w1c, 0, none⟩,
      ⟨2, 2, .w1c, 0, none⟩,
      ⟨1, 1, .w1c, 0, none⟩,
      ⟨0, 0, .w1c, 0, none⟩]
  | .thTrip => [⟨47, 44, .ro, 0, none⟩,
      ⟨43, 39, .ro, 0, none⟩,
      ⟨31, 0, .ro, 0, none⟩]
  | .thVwin => [⟨31, 16, .rw, 0, none⟩,
      ⟨15, 0, .rw, 0, none⟩]
  | .cabCtrl => [⟨3, 3, .rw, 0, none⟩,
      ⟨2, 2, .rw, 0, none⟩,
      ⟨1, 1, .wo, 0, none⟩,
      ⟨0, 0, .wo, 0, none⟩]
  | .cabMask => [⟨47, 0, .rw, 0, none⟩]
  | .cabTimeSec => [⟨47, 0, .rw, 0, none⟩]
  | .cabTimeNs => [⟨31, 0, .rw, 0, none⟩]
  | .cabStatus => [⟨3, 2, .ro, 0, none⟩,
      ⟨1, 0, .ro, 0, none⟩]
  | .cabGen => [⟨47, 0, .ro, 0, none⟩]
  | .cabRdGen => [⟨47, 0, .rw, 0, none⟩]
  | .cabRdOff => [⟨20, 0, .rw, 0, none⟩]
  | .cabRdData => [⟨47, 0, .ro, 0, none⟩]
  | .cabEvent => [⟨2, 2, .w1c, 0, none⟩,
      ⟨1, 1, .w1c, 0, none⟩,
      ⟨0, 0, .w1c, 0, none⟩]
  | .glBoot => [⟨35, 20, .ro, 0, none⟩,
      ⟨15, 12, .ro, 0, none⟩,
      ⟨11, 11, .ro, 1, none⟩,
      ⟨10, 10, .ro, 0, none⟩,
      ⟨9, 9, .ro, 0, none⟩,
      ⟨8, 8, .ro, 0, none⟩,
      ⟨2, 0, .ro, 0, none⟩]
  | .lcTrain => [⟨13, 0, .rw, 200, some (100, 12000)⟩]
  | .sbProgSel => [⟨9, 0, .rw, 0, none⟩]
  | .hpReasonRing => [⟨47, 0, .rw, 0, none⟩]

/-- A field as the meanings name it. -/
structure Fld where
  reg : Reg
  hi : Nat
  lo : Nat
deriving DecidableEq, Repr

abbrev fLC_CTRL_ALIGN_M : Fld := ⟨.lcCtrl, 11, 8⟩
abbrev fLC_CTRL_ALIGN_N : Fld := ⟨.lcCtrl, 7, 5⟩
abbrev fLC_CTRL_RX_INV_B : Fld := ⟨.lcCtrl, 4, 4⟩
abbrev fLC_CTRL_RX_INV_A : Fld := ⟨.lcCtrl, 3, 3⟩
abbrev fLC_CTRL_ENABLE : Fld := ⟨.lcCtrl, 0, 0⟩
abbrev fLC_STATUS_CHAN_UP : Fld := ⟨.lcStatus, 11, 11⟩
abbrev fLC_STATUS_AIS : Fld := ⟨.lcStatus, 10, 10⟩
abbrev fLC_STATUS_RDI : Fld := ⟨.lcStatus, 9, 9⟩
abbrev fLC_STATUS_SD : Fld := ⟨.lcStatus, 8, 8⟩
abbrev fLC_STATUS_SKEW : Fld := ⟨.lcStatus, 7, 7⟩
abbrev fLC_STATUS_MISMATCH : Fld := ⟨.lcStatus, 6, 6⟩
abbrev fLC_STATUS_HOME : Fld := ⟨.lcStatus, 5, 5⟩
abbrev fLC_STATUS_STATE_B : Fld := ⟨.lcStatus, 3, 2⟩
abbrev fLC_STATUS_STATE_A : Fld := ⟨.lcStatus, 1, 0⟩
abbrev fLC_EVENT_FC_JUMP : Fld := ⟨.lcEvent, 12, 12⟩
abbrev fLC_EVENT_CHAN_DOWN : Fld := ⟨.lcEvent, 11, 11⟩
abbrev fLC_EVENT_AIS_IN : Fld := ⟨.lcEvent, 10, 10⟩
abbrev fLC_EVENT_RDI_IN : Fld := ⟨.lcEvent, 9, 9⟩
abbrev fLC_EVENT_SD_IN : Fld := ⟨.lcEvent, 8, 8⟩
abbrev fLC_EVENT_SKEW_IN : Fld := ⟨.lcEvent, 7, 7⟩
abbrev fLC_EVENT_MISMATCH_IN : Fld := ⟨.lcEvent, 6, 6⟩
abbrev fLC_EVENT_LOF_B : Fld := ⟨.lcEvent, 3, 3⟩
abbrev fLC_EVENT_LOF_A : Fld := ⟨.lcEvent, 2, 2⟩
abbrev fLC_EVENT_LOS_B : Fld := ⟨.lcEvent, 1, 1⟩
abbrev fLC_EVENT_LOS_A : Fld := ⟨.lcEvent, 0, 0⟩
abbrev fLC_SKEW_B_LATE : Fld := ⟨.lcSkew, 7, 7⟩
abbrev fLC_SKEW_SKEW : Fld := ⟨.lcSkew, 6, 0⟩
abbrev fLC_FRAME_FRAME_COUNT : Fld := ⟨.lcFrame, 47, 0⟩
abbrev fLC_SD_SD_THRESH : Fld := ⟨.lcSd, 14, 0⟩
abbrev fPROT_CTRL_SETTLE : Fld := ⟨.protCtrl, 23, 16⟩
abbrev fPROT_CTRL_HOLDOFF : Fld := ⟨.protCtrl, 15, 7⟩
abbrev fPROT_CTRL_SD_TRIG : Fld := ⟨.protCtrl, 6, 6⟩
abbrev fPROT_CTRL_CMD : Fld := ⟨.protCtrl, 5, 4⟩
abbrev fPROT_CTRL_LOCKOUT : Fld := ⟨.protCtrl, 2, 2⟩
abbrev fPROT_CTRL_ENABLE : Fld := ⟨.protCtrl, 1, 1⟩
abbrev fPROT_STATUS_PROT_STATE : Fld := ⟨.protStatus, 5, 3⟩
abbrev fPROT_STATUS_PROT_CAUSE : Fld := ⟨.protStatus, 2, 1⟩
abbrev fPROT_STATUS_PATH : Fld := ⟨.protStatus, 0, 0⟩
abbrev fBOND_CTRL_POOL : Fld := ⟨.bondCtrl, 24, 19⟩
abbrev fBOND_CTRL_DELIN_D : Fld := ⟨.bondCtrl, 18, 17⟩
abbrev fBOND_CTRL_WINDOW : Fld := ⟨.bondCtrl, 10, 0⟩
abbrev fBOND_STATUS_POOL_USED : Fld := ⟨.bondStatus, 15, 0⟩
abbrev fCY_KEY_DATA_KEY : Fld := ⟨.cyKeyData, 47, 0⟩
abbrev fCY_KEY_DATA5_KEY : Fld := ⟨.cyKeyData5, 47, 32⟩
abbrev fCY_KEY_CMD_OP : Fld := ⟨.cyKeyCmd, 10, 8⟩
abbrev fCY_KEY_CMD_ENTRY : Fld := ⟨.cyKeyCmd, 7, 0⟩
abbrev fCY_KEY_STATUS_STATE : Fld := ⟨.cyKeyStatus, 3, 2⟩
abbrev fCY_KEY_STATUS_RESULT : Fld := ⟨.cyKeyStatus, 1, 0⟩
abbrev fCY_KEY_COUNT_COUNT : Fld := ⟨.cyKeyCount, 47, 0⟩
abbrev fCY_TXIDX_TX_INDEX : Fld := ⟨.cyTxidx, 47, 0⟩
abbrev fCY_EVENT_AUTH_FAIL : Fld := ⟨.cyEvent, 2, 2⟩
abbrev fCY_EVENT_KEY_WARN : Fld := ⟨.cyEvent, 1, 1⟩
abbrev fCY_EVENT_KEY_DEAD : Fld := ⟨.cyEvent, 0, 0⟩
abbrev fACT_STATUS_HOME : Fld := ⟨.actStatus, 23, 20⟩
abbrev fACT_STATUS_NUM_VALID : Fld := ⟨.actStatus, 19, 19⟩
abbrev fACT_STATUS_TERM_NUM : Fld := ⟨.actStatus, 18, 10⟩
abbrev fACT_STATUS_RANGED_P : Fld := ⟨.actStatus, 9, 9⟩
abbrev fACT_STATUS_RANGED_W : Fld := ⟨.actStatus, 8, 8⟩
abbrev fACT_STATUS_PROFILES : Fld := ⟨.actStatus, 7, 4⟩
abbrev fACT_STATUS_STATE : Fld := ⟨.actStatus, 2, 0⟩
abbrev fACT_CTRL_LOSS_TIMER : Fld := ⟨.actCtrl, 31, 18⟩
abbrev fACT_CTRL_RANGING_TIMER : Fld := ⟨.actCtrl, 17, 2⟩
abbrev fACT_CTRL_INHIBIT : Fld := ⟨.actCtrl, 0, 0⟩
abbrev fACT_SERIAL_UNIQUE : Fld := ⟨.actSerial, 47, 0⟩
abbrev fACT_EQD_W_EQD : Fld := ⟨.actEqdW, 23, 0⟩
abbrev fACT_EQD_P_EQD : Fld := ⟨.actEqdP, 23, 0⟩
abbrev fACT_EVENT_DG_SENT : Fld := ⟨.actEvent, 7, 7⟩
abbrev fACT_EVENT_SLEEP_CONSENT : Fld := ⟨.actEvent, 6, 6⟩
abbrev fACT_EVENT_STOPPED : Fld := ⟨.actEvent, 5, 5⟩
abbrev fACT_EVENT_DEACTIVATED : Fld := ⟨.actEvent, 4, 4⟩
abbrev fACT_EVENT_LOSS_EXPIRED : Fld := ⟨.actEvent, 3, 3⟩
abbrev fACT_EVENT_RANGING_EXPIRED : Fld := ⟨.actEvent, 2, 2⟩
abbrev fACT_EVENT_RANGED : Fld := ⟨.actEvent, 1, 1⟩
abbrev fACT_EVENT_STATE_CHANGE : Fld := ⟨.actEvent, 0, 0⟩
abbrev fLE_FILL_FRAG_MIN : Fld := ⟨.leFill, 15, 8⟩
abbrev fLE_FILL_FILL_LEAD : Fld := ⟨.leFill, 7, 0⟩
abbrev fLE_TRIB_VALID : Fld := ⟨.leTrib, 14, 14⟩
abbrev fLE_TRIB_ALLOC : Fld := ⟨.leTrib, 13, 0⟩
abbrev fLE_GRANT_EVENT_PREFETCH_LATE : Fld := ⟨.leGrantEvent, 4, 4⟩
abbrev fLE_GRANT_EVENT_TRIB_LATE : Fld := ⟨.leGrantEvent, 3, 3⟩
abbrev fLE_GRANT_EVENT_REISSUE : Fld := ⟨.leGrantEvent, 2, 2⟩
abbrev fLE_GRANT_EVENT_BURST_CUT : Fld := ⟨.leGrantEvent, 1, 1⟩
abbrev fLE_GRANT_EVENT_GRANT_REFUSED : Fld := ⟨.leGrantEvent, 0, 0⟩
abbrev fPROF_CFG_CHANNELS : Fld := ⟨.profCfg, 47, 32⟩
abbrev fPROF_CFG_PREAMBLE_LEN : Fld := ⟨.profCfg, 31, 24⟩
abbrev fPROF_CFG_PATTERN : Fld := ⟨.profCfg, 23, 16⟩
abbrev fPROF_CFG_HELD : Fld := ⟨.profCfg, 0, 0⟩
abbrev fPROF_DELAY_PREASSIGNED : Fld := ⟨.profDelay, 23, 0⟩
abbrev fPROF_DELIM_HI_DELIM : Fld := ⟨.profDelimHi, 31, 0⟩
abbrev fPROF_DELIM_LO_DELIM : Fld := ⟨.profDelimLo, 31, 0⟩
abbrev fFS_STATUS_FAIL_DARK : Fld := ⟨.fsStatus, 29, 29⟩
abbrev fFS_STATUS_ALLKILL : Fld := ⟨.fsStatus, 28, 28⟩
abbrev fFS_STATUS_SELFTEST_OK : Fld := ⟨.fsStatus, 27, 27⟩
abbrev fFS_STATUS_CONSENT : Fld := ⟨.fsStatus, 26, 26⟩
abbrev fFS_STATUS_RELEASE : Fld := ⟨.fsStatus, 25, 25⟩
abbrev fFS_STATUS_STOPPED : Fld := ⟨.fsStatus, 24, 24⟩
abbrev fFS_STATUS_HOLD : Fld := ⟨.fsStatus, 23, 19⟩
abbrev fFS_STATUS_TERM_NUM : Fld := ⟨.fsStatus, 18, 10⟩
abbrev fFS_STATUS_NUM_VALID : Fld := ⟨.fsStatus, 9, 9⟩
abbrev fFS_STATUS_RANGED_P : Fld := ⟨.fsStatus, 8, 8⟩
abbrev fFS_STATUS_RANGED_W : Fld := ⟨.fsStatus, 7, 7⟩
abbrev fFS_STATUS_STATE : Fld := ⟨.fsStatus, 6, 5⟩
abbrev fFS_STATUS_PATH : Fld := ⟨.fsStatus, 0, 0⟩
abbrev fFS_STAGE_STAGE : Fld := ⟨.fsStage, 31, 0⟩
abbrev fFS_HELD_HELD : Fld := ⟨.fsHeld, 15, 0⟩
abbrev fFS_TRIP_CAUSE : Fld := ⟨.fsTrip, 39, 32⟩
abbrev fFS_TRIP_NONCE : Fld := ⟨.fsTrip, 31, 0⟩
abbrev fFS_EQD_W_EQD : Fld := ⟨.fsEqdW, 23, 0⟩
abbrev fFS_EQD_P_EQD : Fld := ⟨.fsEqdP, 23, 0⟩
abbrev fFS_CFG_LIMITS_LOCKED : Fld := ⟨.fsCfg, 16, 16⟩
abbrev fFS_CFG_REFUSE_LIMIT : Fld := ⟨.fsCfg, 15, 12⟩
abbrev fFS_CFG_LMON_GUARD : Fld := ⟨.fsCfg, 7, 0⟩
abbrev fFS_EVENT_TRIP : Fld := ⟨.fsEvent, 7, 7⟩
abbrev fFS_EVENT_FAIL_DARK_IN : Fld := ⟨.fsEvent, 6, 6⟩
abbrev fFS_EVENT_REFUSED : Fld := ⟨.fsEvent, 5, 5⟩
abbrev fFS_EVENT_CONSENT_IN : Fld := ⟨.fsEvent, 4, 4⟩
abbrev fFS_EVENT_RELEASED : Fld := ⟨.fsEvent, 3, 3⟩
abbrev fFS_EVENT_DISABLED : Fld := ⟨.fsEvent, 2, 2⟩
abbrev fFS_EVENT_LMON_DARK : Fld := ⟨.fsEvent, 1, 1⟩
abbrev fFS_EVENT_HOLD_CHANGE : Fld := ⟨.fsEvent, 0, 0⟩
abbrev fDP_CTRL_RX_INV : Fld := ⟨.dpCtrl, 11, 11⟩
abbrev fDP_CTRL_TX_INV : Fld := ⟨.dpCtrl, 10, 10⟩
abbrev fDP_CTRL_FEC : Fld := ⟨.dpCtrl, 9, 8⟩
abbrev fDP_CTRL_IFTYPE : Fld := ⟨.dpCtrl, 7, 5⟩
abbrev fDP_CTRL_SPEED : Fld := ⟨.dpCtrl, 4, 3⟩
abbrev fDP_CTRL_ENABLE : Fld := ⟨.dpCtrl, 0, 0⟩
abbrev fDP_MAC_PFC_TX_MASK : Fld := ⟨.dpMac, 19, 12⟩
abbrev fDP_MAC_PFC_MODE : Fld := ⟨.dpMac, 11, 11⟩
abbrev fDP_MAC_FC_TX : Fld := ⟨.dpMac, 10, 10⟩
abbrev fDP_MAC_FC_RX : Fld := ⟨.dpMac, 9, 9⟩
abbrev fDP_MAC_OVERSIZE_TO_HOST : Fld := ⟨.dpMac, 8, 8⟩
abbrev fDP_FRAME_MAX_FRAME : Fld := ⟨.dpFrame, 13, 0⟩
abbrev fDP_FC_TX_QUANTA : Fld := ⟨.dpFc, 47, 32⟩
abbrev fDP_FC_XOFF_THRESH : Fld := ⟨.dpFc, 31, 16⟩
abbrev fDP_FC_XON_THRESH : Fld := ⟨.dpFc, 15, 0⟩
abbrev fDP_STATUS_PAUSED : Fld := ⟨.dpStatus, 16, 9⟩
abbrev fDP_STATUS_NO_HCD : Fld := ⟨.dpStatus, 8, 8⟩
abbrev fDP_STATUS_PRECODE_TX : Fld := ⟨.dpStatus, 7, 7⟩
abbrev fDP_STATUS_PRECODE_RX : Fld := ⟨.dpStatus, 6, 6⟩
abbrev fDP_STATUS_FEC_LOCK : Fld := ⟨.dpStatus, 5, 5⟩
abbrev fDP_STATUS_BLOCK_LOCK : Fld := ⟨.dpStatus, 4, 4⟩
abbrev fDP_STATUS_LINK : Fld := ⟨.dpStatus, 3, 3⟩
abbrev fDP_STATUS_LANE_STATE : Fld := ⟨.dpStatus, 2, 0⟩
abbrev fDP_EVENT_XOFF_SENT : Fld := ⟨.dpEvent, 5, 5⟩
abbrev fDP_EVENT_PAUSE_RX : Fld := ⟨.dpEvent, 4, 4⟩
abbrev fDP_EVENT_OVERFLOW : Fld := ⟨.dpEvent, 3, 3⟩
abbrev fDP_EVENT_TRAIN_FAIL : Fld := ⟨.dpEvent, 2, 2⟩
abbrev fDP_EVENT_LINK_UP : Fld := ⟨.dpEvent, 1, 1⟩
abbrev fDP_EVENT_LINK_DOWN : Fld := ⟨.dpEvent, 0, 0⟩
abbrev fDP_TRAIN_TRAIN_TIMEOUT : Fld := ⟨.dpTrain, 13, 0⟩
abbrev fLC_LANE_STATE_TB : Fld := ⟨.lcLane, 13, 11⟩
abbrev fLC_LANE_STATE_TA : Fld := ⟨.lcLane, 10, 8⟩
abbrev fLC_LANE_STATE_RB : Fld := ⟨.lcLane, 7, 5⟩
abbrev fLC_LANE_STATE_RA : Fld := ⟨.lcLane, 4, 2⟩
abbrev fLC_LANE_RETRAIN : Fld := ⟨.lcLane, 1, 1⟩
abbrev fLNT_CTRL_CHK_PAT : Fld := ⟨.lntCtrl, 11, 9⟩
abbrev fLNT_CTRL_GEN_PAT : Fld := ⟨.lntCtrl, 8, 6⟩
abbrev fLNT_CTRL_LOOPBACK : Fld := ⟨.lntCtrl, 5, 4⟩
abbrev fLNT_CTRL_START : Fld := ⟨.lntCtrl, 3, 3⟩
abbrev fLNT_CTRL_CHK_EN : Fld := ⟨.lntCtrl, 2, 2⟩
abbrev fLNT_CTRL_GEN_EN : Fld := ⟨.lntCtrl, 1, 1⟩
abbrev fLNT_CTRL_TEST : Fld := ⟨.lntCtrl, 0, 0⟩
abbrev fLNT_INJECT_INJECT_ONE : Fld := ⟨.lntInject, 6, 6⟩
abbrev fLNT_INJECT_INJECT_RATE : Fld := ⟨.lntInject, 5, 0⟩
abbrev fLNT_STATUS_RESULT : Fld := ⟨.lntStatus, 3, 2⟩
abbrev fLNT_STATUS_SAT : Fld := ⟨.lntStatus, 1, 1⟩
abbrev fLNT_STATUS_LOCK : Fld := ⟨.lntStatus, 0, 0⟩
abbrev fLNT_BITS_BITS : Fld := ⟨.lntBits, 47, 0⟩
abbrev fLNT_ERRORS_ERRORS : Fld := ⟨.lntErrors, 47, 0⟩
abbrev fLNT_SYMERR_SYMERR : Fld := ⟨.lntSymerr, 47, 0⟩
abbrev fLNT_LOCKLOSS_LOCKLOSS : Fld := ⟨.lntLockloss, 47, 0⟩
abbrev fCL_SLOT_STATE_OWNER : Fld := ⟨.clSlotState, 7, 6⟩
abbrev fCL_SLOT_STATE_STATE : Fld := ⟨.clSlotState, 2, 0⟩
abbrev fCL_SLOT_GEN_GEN : Fld := ⟨.clSlotGen, 47, 0⟩
abbrev fCL_SLOT_DRAIN_DRAIN : Fld := ⟨.clSlotDrain, 47, 0⟩
abbrev fCL_SLOT_BADWORD_PIPE : Fld := ⟨.clSlotBadword, 21, 20⟩
abbrev fCL_SLOT_BADWORD_ADDR : Fld := ⟨.clSlotBadword, 19, 0⟩
abbrev fCL_REGION_BASE_BASE : Fld := ⟨.clRegionBase, 19, 0⟩
abbrev fCL_REGION_LIMIT_LIMIT : Fld := ⟨.clRegionLimit, 19, 0⟩
abbrev fCL_WIN_ADDR_PIPE : Fld := ⟨.clWinAddr, 21, 20⟩
abbrev fCL_WIN_ADDR_ADDR : Fld := ⟨.clWinAddr, 19, 0⟩
abbrev fCL_WIN_DATA_DATA : Fld := ⟨.clWinData, 47, 0⟩
abbrev fCL_WIN_STATUS_REFUSED : Fld := ⟨.clWinStatus, 0, 0⟩
abbrev fCL_RCNT_SEL_PIPE : Fld := ⟨.clRcntSel, 19, 18⟩
abbrev fCL_RCNT_SEL_SLOT : Fld := ⟨.clRcntSel, 17, 16⟩
abbrev fCL_RCNT_SEL_RULE_ID : Fld := ⟨.clRcntSel, 15, 0⟩
abbrev fCL_RCNT_COUNT : Fld := ⟨.clRcnt, 47, 0⟩
abbrev fCL_EVENT_PASS_LIMIT : Fld := ⟨.clEvent, 6, 6⟩
abbrev fCL_EVENT_HOLD_FULL : Fld := ⟨.clEvent, 5, 5⟩
abbrev fCL_EVENT_FRAG_FULL : Fld := ⟨.clEvent, 4, 4⟩
abbrev fCL_EVENT_TREE_ECC : Fld := ⟨.clEvent, 3, 3⟩
abbrev fCL_EVENT_DRAIN_SLOW : Fld := ⟨.clEvent, 2, 2⟩
abbrev fCL_EVENT_SLOT_FREE : Fld := ⟨.clEvent, 0, 0⟩
abbrev fCL_ERRADDR_PIPE : Fld := ⟨.clErraddr, 23, 22⟩
abbrev fCL_ERRADDR_SLOT : Fld := ⟨.clErraddr, 21, 20⟩
abbrev fCL_ERRADDR_ADDR : Fld := ⟨.clErraddr, 19, 0⟩
abbrev fCL_CTRL_TPID3 : Fld := ⟨.clCtrl, 47, 32⟩
abbrev fCL_CTRL_DRAIN_LIMIT : Fld := ⟨.clCtrl, 31, 16⟩
abbrev fCL_FRAG_CTRL_HOLD_TIME : Fld := ⟨.clFragCtrl, 34, 21⟩
abbrev fCL_FRAG_CTRL_EXPIRY : Fld := ⟨.clFragCtrl, 20, 6⟩
abbrev fCL_FRAG_CTRL_PENDING : Fld := ⟨.clFragCtrl, 3, 2⟩
abbrev fCL_FRAG_CTRL_OVERFLOW : Fld := ⟨.clFragCtrl, 1, 0⟩
abbrev fCL_FRAG_STATUS_HOLD_USED : Fld := ⟨.clFragStatus, 21, 15⟩
abbrev fCL_FRAG_STATUS_ENTRIES : Fld := ⟨.clFragStatus, 14, 0⟩
abbrev fFW_CTRL_AGE_EN : Fld := ⟨.fwCtrl, 12, 12⟩
abbrev fFW_CTRL_AGE_PERIOD : Fld := ⟨.fwCtrl, 11, 0⟩
abbrev fFW_HASH_SEED1 : Fld := ⟨.fwHash, 33, 17⟩
abbrev fFW_HASH_SEED0 : Fld := ⟨.fwHash, 16, 0⟩
abbrev fFW_LEARN_LF_HOLD : Fld := ⟨.fwLearn, 19, 0⟩
abbrev fFW_STATUS_MAC_VALID : Fld := ⟨.fwStatus, 20, 0⟩
abbrev fFW_EVENT_DESC_ERR : Fld := ⟨.fwEvent, 4, 4⟩
abbrev fFW_EVENT_LOCK_HELD : Fld := ⟨.fwEvent, 3, 3⟩
abbrev fFW_EVENT_LEARN_DROP : Fld := ⟨.fwEvent, 2, 2⟩
abbrev fFW_EVENT_SWEEP_DONE : Fld := ⟨.fwEvent, 1, 1⟩
abbrev fFW_EVENT_TABLE_ECC : Fld := ⟨.fwEvent, 0, 0⟩
abbrev fFW_RING_BASE_BASE : Fld := ⟨.fwRingBase, 47, 0⟩
abbrev fFW_RING_SIZE_LOG2 : Fld := ⟨.fwRingSize, 3, 0⟩
abbrev fFW_RING_TAIL_TAIL : Fld := ⟨.fwRingTail, 14, 0⟩
abbrev fFW_RING_HEAD_HEAD : Fld := ⟨.fwRingHead, 14, 0⟩
abbrev fTM_ACC_SEL_TABLE : Fld := ⟨.tmAccSel, 47, 45⟩
abbrev fTM_ACC_SEL_INDEX : Fld := ⟨.tmAccSel, 14, 0⟩
abbrev fTM_ACC_DATA_DATA : Fld := ⟨.tmAccData, 47, 0⟩
abbrev fTM_ACC_CMD_WRITE : Fld := ⟨.tmAccCmd, 1, 1⟩
abbrev fTM_ACC_CMD_READ : Fld := ⟨.tmAccCmd, 0, 0⟩
abbrev fTM_ACC_STATUS_RESULT : Fld := ⟨.tmAccStatus, 1, 0⟩
abbrev fTM_CTRL_SAMPLE_PERIOD : Fld := ⟨.tmCtrl, 19, 0⟩
abbrev fTM_BUF_FREE : Fld := ⟨.tmBuf, 37, 19⟩
abbrev fTM_BUF_ADMIT : Fld := ⟨.tmBuf, 18, 0⟩
abbrev fTM_EVENT_SAMPLE_DROP : Fld := ⟨.tmEvent, 3, 3⟩
abbrev fTM_EVENT_BUF_ECC : Fld := ⟨.tmEvent, 2, 2⟩
abbrev fTM_EVENT_ADMIT_DROP : Fld := ⟨.tmEvent, 1, 1⟩
abbrev fTM_EVENT_ACC_REFUSED : Fld := ⟨.tmEvent, 0, 0⟩
abbrev fWD_CTRL_READ_AHEAD : Fld := ⟨.wdCtrl, 4, 0⟩
abbrev fWD_STATUS_PAGES : Fld := ⟨.wdStatus, 41, 21⟩
abbrev fWD_STATUS_USED : Fld := ⟨.wdStatus, 20, 0⟩
abbrev fWD_BLOCKS_RA_USED : Fld := ⟨.wdBlocks, 11, 0⟩
abbrev fWD_EVENT_WRITE_STALL : Fld := ⟨.wdEvent, 4, 4⟩
abbrev fWD_EVENT_ECC : Fld := ⟨.wdEvent, 3, 3⟩
abbrev fWD_EVENT_DESC_SHORT : Fld := ⟨.wdEvent, 2, 2⟩
abbrev fWD_EVENT_LIMIT : Fld := ⟨.wdEvent, 1, 1⟩
abbrev fWD_EVENT_FULL : Fld := ⟨.wdEvent, 0, 0⟩
abbrev fSB_CTRL_SPLICE_LIMIT : Fld := ⟨.sbCtrl, 25, 16⟩
abbrev fSB_CTRL_CATCHUP_LIMIT : Fld := ⟨.sbCtrl, 15, 10⟩
abbrev fSB_CTRL_IDLE_TIME : Fld := ⟨.sbCtrl, 9, 4⟩
abbrev fSB_REPAIR_REPAIR_DEPTH : Fld := ⟨.sbRepair, 20, 0⟩
abbrev fSB_MAC_REPAIR_MAC : Fld := ⟨.sbMac, 47, 0⟩
abbrev fSB_CMD_OP : Fld := ⟨.sbCmd, 47, 46⟩
abbrev fSB_CMD_PORT : Fld := ⟨.sbCmd, 16, 10⟩
abbrev fSB_CMD_PROGRAMME : Fld := ⟨.sbCmd, 9, 0⟩
abbrev fSB_CMD_STATUS_RESULT : Fld := ⟨.sbCmdStatus, 1, 0⟩
abbrev fSB_STATUS_CONTEXTS : Fld := ⟨.sbStatus, 41, 32⟩
abbrev fSB_STATUS_SEG_USED : Fld := ⟨.sbStatus, 31, 16⟩
abbrev fSB_STATUS_PARTITION : Fld := ⟨.sbStatus, 15, 0⟩
abbrev fSB_EVENT_NO_CONTEXT : Fld := ⟨.sbEvent, 6, 6⟩
abbrev fSB_EVENT_SEGMENT_LOST : Fld := ⟨.sbEvent, 5, 5⟩
abbrev fSB_EVENT_REPAIR_DROP : Fld := ⟨.sbEvent, 4, 4⟩
abbrev fSB_EVENT_RECORD_DROP : Fld := ⟨.sbEvent, 3, 3⟩
abbrev fSB_EVENT_REPLAY_OVERRUN : Fld := ⟨.sbEvent, 2, 2⟩
abbrev fSB_EVENT_CATCHUP_TIMEOUT : Fld := ⟨.sbEvent, 1, 1⟩
abbrev fSB_EVENT_FORCED_SPLICE : Fld := ⟨.sbEvent, 0, 0⟩
abbrev fSB_PROG_DATA0_LIVE_LO : Fld := ⟨.sbProgData0, 47, 0⟩
abbrev fSB_PROG_DATA1_LIVE_HI : Fld := ⟨.sbProgData1, 47, 0⟩
abbrev fSB_PROG_DATA2_IDLE : Fld := ⟨.sbProgData2, 25, 25⟩
abbrev fSB_PROG_DATA2_RECALL_HELD : Fld := ⟨.sbProgData2, 24, 24⟩
abbrev fSB_PROG_DATA2_RATE : Fld := ⟨.sbProgData2, 23, 0⟩
abbrev fMD_CTRL_EN : Fld := ⟨.mdCtrl, 3, 0⟩
abbrev fMD_STATUS_MD_VALID : Fld := ⟨.mdStatus, 0, 0⟩
abbrev fTR_CTRL_IDLE_CODE : Fld := ⟨.trCtrl, 8, 1⟩
abbrev fTR_CTRL_HIGHWAY : Fld := ⟨.trCtrl, 0, 0⟩
abbrev fTR_EVENT_SWAP_DONE : Fld := ⟨.trEvent, 2, 2⟩
abbrev fTR_EVENT_SLIP : Fld := ⟨.trEvent, 1, 1⟩
abbrev fTR_EVENT_DEFECT : Fld := ⟨.trEvent, 0, 0⟩
abbrev fTSI_SEL_PAGE : Fld := ⟨.tsiSel, 10, 10⟩
abbrev fTSI_SEL_DIR : Fld := ⟨.tsiSel, 9, 9⟩
abbrev fTSI_SEL_ENTRY : Fld := ⟨.tsiSel, 8, 0⟩
abbrev fTSI_DATA_VALID : Fld := ⟨.tsiData, 10, 10⟩
abbrev fTSI_DATA_TRIB : Fld := ⟨.tsiData, 9, 5⟩
abbrev fTSI_DATA_SLOT : Fld := ⟨.tsiData, 4, 0⟩
abbrev fTSI_CMD_READ : Fld := ⟨.tsiCmd, 3, 3⟩
abbrev fTSI_CMD_ABORT : Fld := ⟨.tsiCmd, 2, 2⟩
abbrev fTSI_CMD_SWAP : Fld := ⟨.tsiCmd, 1, 1⟩
abbrev fTSI_CMD_WRITE : Fld := ⟨.tsiCmd, 0, 0⟩
abbrev fTSI_STATUS_RESULT : Fld := ⟨.tsiStatus, 3, 2⟩
abbrev fTSI_STATUS_COPYING : Fld := ⟨.tsiStatus, 1, 1⟩
abbrev fTSI_STATUS_PENDING : Fld := ⟨.tsiStatus, 0, 0⟩
abbrev fTB_CFG_TEST : Fld := ⟨.tbCfg, 4, 4⟩
abbrev fTB_CFG_FORCE_AIS : Fld := ⟨.tbCfg, 3, 3⟩
abbrev fTB_CFG_KIND : Fld := ⟨.tbCfg, 1, 0⟩
abbrev fTB_STATUS_RX_LABEL : Fld := ⟨.tbStatus, 10, 8⟩
abbrev fTB_STATUS_LFA : Fld := ⟨.tbStatus, 7, 7⟩
abbrev fTB_STATUS_RRDI : Fld := ⟨.tbStatus, 6, 6⟩
abbrev fTB_STATUS_IN_LOS : Fld := ⟨.tbStatus, 5, 5⟩
abbrev fTB_STATUS_AIS : Fld := ⟨.tbStatus, 4, 4⟩
abbrev fTB_STATUS_PLM : Fld := ⟨.tbStatus, 3, 3⟩
abbrev fTB_STATUS_UNEQ : Fld := ⟨.tbStatus, 2, 2⟩
abbrev fTB_STATUS_CLOSS : Fld := ⟨.tbStatus, 1, 1⟩
abbrev fTB_STATUS_TX_RDI : Fld := ⟨.tbStatus, 0, 0⟩
abbrev fTB_EVENT_SLIP : Fld := ⟨.tbEvent, 6, 6⟩
abbrev fTB_EVENT_LFA_IN : Fld := ⟨.tbEvent, 5, 5⟩
abbrev fTB_EVENT_IN_LOS_IN : Fld := ⟨.tbEvent, 4, 4⟩
abbrev fTB_EVENT_AIS_IN : Fld := ⟨.tbEvent, 3, 3⟩
abbrev fTB_EVENT_PLM_IN : Fld := ⟨.tbEvent, 2, 2⟩
abbrev fTB_EVENT_UNEQ_IN : Fld := ⟨.tbEvent, 1, 1⟩
abbrev fTB_EVENT_CLOSS_IN : Fld := ⟨.tbEvent, 0, 0⟩
abbrev fLT_CTRL_OFFSET_TIMEOUT : Fld := ⟨.ltCtrl, 9, 4⟩
abbrev fLT_CTRL_TOD_EN : Fld := ⟨.ltCtrl, 3, 3⟩
abbrev fLT_CTRL_PPS_EN : Fld := ⟨.ltCtrl, 2, 2⟩
abbrev fLT_CTRL_SOURCE : Fld := ⟨.ltCtrl, 1, 0⟩
abbrev fLT_STATUS_FREQ_SRC : Fld := ⟨.ltStatus, 6, 3⟩
abbrev fLT_STATUS_ON_REF : Fld := ⟨.ltStatus, 2, 2⟩
abbrev fLT_STATUS_STATE : Fld := ⟨.ltStatus, 1, 0⟩
abbrev fLT_NOW_NS_FRAC : Fld := ⟨.ltNowNs, 47, 32⟩
abbrev fLT_NOW_NS_NS : Fld := ⟨.ltNowNs, 31, 0⟩
abbrev fLT_NOW_SEC_SECONDS : Fld := ⟨.ltNowSec, 47, 0⟩
abbrev fLT_NOW_NS32_NS32 : Fld := ⟨.ltNowNs32, 31, 0⟩
abbrev fLT_OFFSET_OFFSET : Fld := ⟨.ltOffset, 47, 0⟩
abbrev fLT_SW_OFFSET_OFFSET : Fld := ⟨.ltSwOffset, 47, 0⟩
abbrev fLT_TRIM_TRIM : Fld := ⟨.ltTrim, 47, 0⟩
abbrev fLT_SET_SEC_SECONDS : Fld := ⟨.ltSetSec, 47, 0⟩
abbrev fLT_CMD_SET : Fld := ⟨.ltCmd, 0, 0⟩
abbrev fLT_SERVO_STEP_THRESH : Fld := ⟨.ltServo, 47, 28⟩
abbrev fLT_SERVO_MAX_SLEW : Fld := ⟨.ltServo, 27, 11⟩
abbrev fLT_SERVO_KP_SHIFT : Fld := ⟨.ltServo, 10, 7⟩
abbrev fLT_SERVO_KI_SHIFT : Fld := ⟨.ltServo, 6, 2⟩
abbrev fLT_PPS_PPS_WIDTH : Fld := ⟨.ltPps, 47, 19⟩
abbrev fLT_PPS_PPS_DELAY : Fld := ⟨.ltPps, 14, 0⟩
abbrev fLT_STEPS_STEP_COUNT : Fld := ⟨.ltSteps, 47, 0⟩
abbrev fLT_EVENT_REPORT_DROP : Fld := ⟨.ltEvent, 5, 5⟩
abbrev fLT_EVENT_SW_REFUSED : Fld := ⟨.ltEvent, 4, 4⟩
abbrev fLT_EVENT_TOD_DISCARD : Fld := ⟨.ltEvent, 3, 3⟩
abbrev fLT_EVENT_HOLDOVER : Fld := ⟨.ltEvent, 2, 2⟩
abbrev fLT_EVENT_LOCKED : Fld := ⟨.ltEvent, 1, 1⟩
abbrev fLT_EVENT_STEP : Fld := ⟨.ltEvent, 0, 0⟩
abbrev fLT_PTP_TASK : Fld := ⟨.ltPtp, 1, 1⟩
abbrev fLT_PTP_PTP_EN : Fld := ⟨.ltPtp, 0, 0⟩
abbrev fMC_STATUS_GRAIN : Fld := ⟨.mcStatus, 28, 24⟩
abbrev fMC_STATUS_CAPACITY : Fld := ⟨.mcStatus, 23, 16⟩
abbrev fMC_STATUS_SPARES_FREE : Fld := ⟨.mcStatus, 15, 13⟩
abbrev fMC_STATUS_MIGRATING : Fld := ⟨.mcStatus, 12, 12⟩
abbrev fMC_STATUS_PENDING : Fld := ⟨.mcStatus, 11, 11⟩
abbrev fMC_RANK0_STATE : Fld := ⟨.mcRank0, 47, 0⟩
abbrev fMC_RANK1_STATE : Fld := ⟨.mcRank1, 31, 0⟩
abbrev fMC_MIG_ACTIVE : Fld := ⟨.mcMig, 31, 31⟩
abbrev fMC_MIG_WITHDRAW : Fld := ⟨.mcMig, 30, 30⟩
abbrev fMC_MIG_SRC_STACK : Fld := ⟨.mcMig, 29, 27⟩
abbrev fMC_MIG_SRC_RANK : Fld := ⟨.mcMig, 26, 25⟩
abbrev fMC_MIG_DST_RANK : Fld := ⟨.mcMig, 24, 23⟩
abbrev fMC_MIG_DONE : Fld := ⟨.mcMig, 21, 0⟩
abbrev fMC_CE_LIMIT_CE_LIMIT : Fld := ⟨.mcCeLimit, 31, 0⟩
abbrev fMC_EVENT_CAL_FAIL : Fld := ⟨.mcEvent, 6, 6⟩
abbrev fMC_EVENT_EXHAUSTED : Fld := ⟨.mcEvent, 5, 5⟩
abbrev fMC_EVENT_WITHDRAWN : Fld := ⟨.mcEvent, 4, 4⟩
abbrev fMC_EVENT_MIG_DONE : Fld := ⟨.mcEvent, 3, 3⟩
abbrev fMC_EVENT_RANK_FAILED : Fld := ⟨.mcEvent, 2, 2⟩
abbrev fMC_EVENT_UE : Fld := ⟨.mcEvent, 1, 1⟩
abbrev fMC_EVENT_CE : Fld := ⟨.mcEvent, 0, 0⟩
abbrev fMC_PART_BASE : Fld := ⟨.mcPart, 15, 8⟩
abbrev fMC_PART_SIZE : Fld := ⟨.mcPart, 7, 0⟩
abbrev fMC_REG_LIMIT : Fld := ⟨.mcReg, 31, 16⟩
abbrev fMC_REG_GUARANTEE : Fld := ⟨.mcReg, 15, 0⟩
abbrev fGL_ID_DEVICE : Fld := ⟨.glId, 47, 32⟩
abbrev fGL_ID_STEPPING : Fld := ⟨.glId, 31, 24⟩
abbrev fGL_ID_VENDOR : Fld := ⟨.glId, 15, 0⟩
abbrev fGL_LINK_MEM_ACTIVE : Fld := ⟨.glLink, 9, 9⟩
abbrev fGL_LINK_CXL : Fld := ⟨.glLink, 8, 8⟩
abbrev fGL_LINK_WIDTH : Fld := ⟨.glLink, 7, 3⟩
abbrev fGL_LINK_SPEED : Fld := ⟨.glLink, 2, 0⟩
abbrev fGL_EVENT_BAD_ACCESS : Fld := ⟨.glEvent, 2, 2⟩
abbrev fGL_EVENT_LINK_DEGRADED : Fld := ⟨.glEvent, 1, 1⟩
abbrev fGL_EVENT_FLR : Fld := ⟨.glEvent, 0, 0⟩
abbrev fGL_BAD_ADDR_OFFSET : Fld := ⟨.glBadAddr, 24, 0⟩
abbrev fDRING_BASE_BASE : Fld := ⟨.dringBase, 47, 0⟩
abbrev fRXC_BASE_BASE : Fld := ⟨.rxcBase, 47, 0⟩
abbrev fRXB_BASE_BASE : Fld := ⟨.rxbBase, 47, 0⟩
abbrev fTXR_BASE_BASE : Fld := ⟨.txrBase, 47, 0⟩
abbrev fBNS_BASE_BASE : Fld := ⟨.bnsBase, 47, 0⟩
abbrev fBNC_BASE_BASE : Fld := ⟨.bncBase, 47, 0⟩
abbrev fDRING_CFG_BUF_SIZE : Fld := ⟨.dringCfg, 11, 5⟩
abbrev fDRING_CFG_EN : Fld := ⟨.dringCfg, 4, 4⟩
abbrev fDRING_CFG_LOG2 : Fld := ⟨.dringCfg, 3, 0⟩
abbrev fRXC_CFG_BUF_SIZE : Fld := ⟨.rxcCfg, 11, 5⟩
abbrev fRXC_CFG_EN : Fld := ⟨.rxcCfg, 4, 4⟩
abbrev fRXC_CFG_LOG2 : Fld := ⟨.rxcCfg, 3, 0⟩
abbrev fRXB_CFG_BUF_SIZE : Fld := ⟨.rxbCfg, 11, 5⟩
abbrev fRXB_CFG_EN : Fld := ⟨.rxbCfg, 4, 4⟩
abbrev fRXB_CFG_LOG2 : Fld := ⟨.rxbCfg, 3, 0⟩
abbrev fTXR_CFG_BUF_SIZE : Fld := ⟨.txrCfg, 11, 5⟩
abbrev fTXR_CFG_EN : Fld := ⟨.txrCfg, 4, 4⟩
abbrev fTXR_CFG_LOG2 : Fld := ⟨.txrCfg, 3, 0⟩
abbrev fBNS_CFG_BUF_SIZE : Fld := ⟨.bnsCfg, 11, 5⟩
abbrev fBNS_CFG_EN : Fld := ⟨.bnsCfg, 4, 4⟩
abbrev fBNS_CFG_LOG2 : Fld := ⟨.bnsCfg, 3, 0⟩
abbrev fBNC_CFG_BUF_SIZE : Fld := ⟨.bncCfg, 11, 5⟩
abbrev fBNC_CFG_EN : Fld := ⟨.bncCfg, 4, 4⟩
abbrev fBNC_CFG_LOG2 : Fld := ⟨.bncCfg, 3, 0⟩
abbrev fDRING_WB_WB : Fld := ⟨.dringWb, 47, 0⟩
abbrev fRXC_WB_WB : Fld := ⟨.rxcWb, 47, 0⟩
abbrev fRXB_WB_WB : Fld := ⟨.rxbWb, 47, 0⟩
abbrev fTXR_WB_WB : Fld := ⟨.txrWb, 47, 0⟩
abbrev fBNS_WB_WB : Fld := ⟨.bnsWb, 47, 0⟩
abbrev fBNC_WB_WB : Fld := ⟨.bncWb, 47, 0⟩
abbrev fDRING_TAIL_LINE_LINE : Fld := ⟨.dringTailLine, 47, 0⟩
abbrev fRXC_TAIL_LINE_LINE : Fld := ⟨.rxcTailLine, 47, 0⟩
abbrev fRXB_TAIL_LINE_LINE : Fld := ⟨.rxbTailLine, 47, 0⟩
abbrev fTXR_TAIL_LINE_LINE : Fld := ⟨.txrTailLine, 47, 0⟩
abbrev fBNS_TAIL_LINE_LINE : Fld := ⟨.bnsTailLine, 47, 0⟩
abbrev fBNC_TAIL_LINE_LINE : Fld := ⟨.bncTailLine, 47, 0⟩
abbrev fDRW_CTRL_CONSUMER : Fld := ⟨.drwCtrl, 1, 0⟩
abbrev fMB_REQ_ADDR_ADDR : Fld := ⟨.mbReqAddr, 47, 0⟩
abbrev fMB_REQ_LEN_LEN : Fld := ⟨.mbReqLen, 13, 0⟩
abbrev fMB_RSP_ADDR_ADDR : Fld := ⟨.mbRspAddr, 47, 0⟩
abbrev fMB_RSP_LEN_LEN : Fld := ⟨.mbRspLen, 13, 0⟩
abbrev fMB_CMD_GO : Fld := ⟨.mbCmd, 0, 0⟩
abbrev fMB_STATUS_REPLY_LEN : Fld := ⟨.mbStatus, 29, 16⟩
abbrev fMB_STATUS_TRUNCATED : Fld := ⟨.mbStatus, 2, 2⟩
abbrev fMB_STATUS_STATE : Fld := ⟨.mbStatus, 1, 0⟩
abbrev fMB_EVENT_DISCARDED : Fld := ⟨.mbEvent, 3, 3⟩
abbrev fMB_EVENT_OVERRUN : Fld := ⟨.mbEvent, 2, 2⟩
abbrev fMB_EVENT_OUTCOME : Fld := ⟨.mbEvent, 1, 1⟩
abbrev fMB_EVENT_REPLY : Fld := ⟨.mbEvent, 0, 0⟩
abbrev fBN_CTRL_HOST_HANDLES : Fld := ⟨.bnCtrl, 27, 16⟩
abbrev fBN_CTRL_AFFINITY_WINDOW : Fld := ⟨.bnCtrl, 15, 0⟩
abbrev fBN_STATUS_LIVE : Fld := ⟨.bnStatus, 28, 16⟩
abbrev fBN_STATUS_IDLE : Fld := ⟨.bnStatus, 15, 0⟩
abbrev fBN_CANCEL_HANDLE : Fld := ⟨.bnCancel, 11, 0⟩
abbrev fBN_CMD_STATUS_RESULT : Fld := ⟨.bnCmdStatus, 1, 0⟩
abbrev fBN_EVENT_CLUSTER_FAIL : Fld := ⟨.bnEvent, 4, 4⟩
abbrev fBN_EVENT_ACC_REFUSED : Fld := ⟨.bnEvent, 3, 3⟩
abbrev fBN_EVENT_ORPHAN : Fld := ⟨.bnEvent, 2, 2⟩
abbrev fBN_EVENT_REFUSED : Fld := ⟨.bnEvent, 1, 1⟩
abbrev fBN_EVENT_FAULT : Fld := ⟨.bnEvent, 0, 0⟩
abbrev fBN_CORE_LAST_TYPE : Fld := ⟨.bnCore, 47, 40⟩
abbrev fBN_CORE_LAST_CONTEXT : Fld := ⟨.bnCore, 39, 24⟩
abbrev fBN_CORE_HANDLE : Fld := ⟨.bnCore, 23, 12⟩
abbrev fBN_CORE_BUSY : Fld := ⟨.bnCore, 11, 11⟩
abbrev fPW_STATUS_FAULT : Fld := ⟨.pwStatus, 11, 11⟩
abbrev fPW_STATUS_ON_BATT : Fld := ⟨.pwStatus, 10, 10⟩
abbrev fPW_STATUS_CONSENT_OFF : Fld := ⟨.pwStatus, 9, 9⟩
abbrev fPW_STATUS_CONSENT_DEEP : Fld := ⟨.pwStatus, 8, 8⟩
abbrev fPW_STATUS_LOSS_OF_LINE : Fld := ⟨.pwStatus, 7, 7⟩
abbrev fPW_STATUS_PENDING : Fld := ⟨.pwStatus, 5, 4⟩
abbrev fPW_STATUS_PROFILE : Fld := ⟨.pwStatus, 3, 3⟩
abbrev fPW_STATUS_STATE : Fld := ⟨.pwStatus, 2, 0⟩
abbrev fPW_REQ_PERIOD : Fld := ⟨.pwReq, 19, 3⟩
abbrev fPW_REQ_TARGET : Fld := ⟨.pwReq, 2, 0⟩
abbrev fPW_REQ_STATUS_CODE : Fld := ⟨.pwReqStatus, 10, 3⟩
abbrev fPW_REQ_STATUS_RESULT : Fld := ⟨.pwReqStatus, 2, 0⟩
abbrev fPW_CFG_AUTO_DEEP : Fld := ⟨.pwCfg, 15, 15⟩
abbrev fPW_CFG_IDLE_AFTER : Fld := ⟨.pwCfg, 14, 1⟩
abbrev fPW_CFG_IDLE_EN : Fld := ⟨.pwCfg, 0, 0⟩
abbrev fPW_LL_LL_RESTORE : Fld := ⟨.pwLl, 33, 24⟩
abbrev fPW_LL_LL_HOLD : Fld := ⟨.pwLl, 23, 10⟩
abbrev fPW_LL_LL_CLUSTER : Fld := ⟨.pwLl, 9, 8⟩
abbrev fPW_LL_LL_GROUP : Fld := ⟨.pwLl, 7, 4⟩
abbrev fPW_TIMERS_WAKE_MARGIN : Fld := ⟨.pwTimers, 47, 42⟩
abbrev fPW_TIMERS_LOSS_DELAY : Fld := ⟨.pwTimers, 41, 30⟩
abbrev fPW_TIMERS_LINE_RETRY : Fld := ⟨.pwTimers, 29, 18⟩
abbrev fPW_TIMERS_NOTICE_WAIT : Fld := ⟨.pwTimers, 17, 8⟩
abbrev fPW_DOM_DOM : Fld := ⟨.pwDom, 47, 0⟩
abbrev fPW_DOM3_DOM : Fld := ⟨.pwDom3, 5, 0⟩
abbrev fPW_WAKE_TIME : Fld := ⟨.pwWake, 47, 16⟩
abbrev fPW_WAKE_CANCEL : Fld := ⟨.pwWake, 15, 15⟩
abbrev fPW_WAKE_FAIL : Fld := ⟨.pwWake, 11, 8⟩
abbrev fPW_WAKE_FAIL_RAIL : Fld := ⟨.pwWake, 7, 5⟩
abbrev fPW_WAKE_FAILED : Fld := ⟨.pwWake, 4, 4⟩
abbrev fPW_WAKE_SOURCE : Fld := ⟨.pwWake, 3, 0⟩
abbrev fPW_EVENT_WAKE_FAIL : Fld := ⟨.pwEvent, 7, 7⟩
abbrev fPW_EVENT_REG_FAIL : Fld := ⟨.pwEvent, 6, 6⟩
abbrev fPW_EVENT_NOTICE_UNSENT : Fld := ⟨.pwEvent, 5, 5⟩
abbrev fPW_EVENT_LL_ENTER : Fld := ⟨.pwEvent, 4, 4⟩
abbrev fPW_EVENT_LL_EXIT : Fld := ⟨.pwEvent, 3, 3⟩
abbrev fPW_EVENT_REFUSED : Fld := ⟨.pwEvent, 2, 2⟩
abbrev fPW_EVENT_WAKE : Fld := ⟨.pwEvent, 1, 1⟩
abbrev fPW_EVENT_STATE_CHANGE : Fld := ⟨.pwEvent, 0, 0⟩
abbrev fCN_CTRL_MIRROR_PERIOD : Fld := ⟨.cnCtrl, 19, 0⟩
abbrev fCN_EVENT_MIRROR_FAIL : Fld := ⟨.cnEvent, 2, 2⟩
abbrev fCN_EVENT_ZEROED : Fld := ⟨.cnEvent, 1, 1⟩
abbrev fCN_EVENT_WRAP : Fld := ⟨.cnEvent, 0, 0⟩
abbrev fCN_SUMMARY_UNITS : Fld := ⟨.cnSummary, 20, 0⟩
abbrev fCN_SUMMARY_MASK_MASK : Fld := ⟨.cnSummaryMask, 20, 0⟩
abbrev fCN_ZEROED_PAGES : Fld := ⟨.cnZeroed, 47, 0⟩
abbrev fSC_CNT_COUNT : Fld := ⟨.scCnt, 47, 0⟩
abbrev fSC_CFG_EN : Fld := ⟨.scCfg, 47, 47⟩
abbrev fSC_CFG_MODE : Fld := ⟨.scCfg, 46, 46⟩
abbrev fSC_CFG_CHAIN : Fld := ⟨.scCfg, 45, 45⟩
abbrev fSC_CFG_CLEAR : Fld := ⟨.scCfg, 44, 44⟩
abbrev fSC_CFG_WRAP : Fld := ⟨.scCfg, 43, 43⟩
abbrev fSC_CFG_SOURCE : Fld := ⟨.scCfg, 16, 0⟩
abbrev fCN_MIR_ADDR_ADDR : Fld := ⟨.cnMirAddr, 47, 0⟩
abbrev fCN_MIR_EN_USER : Fld := ⟨.cnMirEn, 0, 0⟩
abbrev fCN_WRAP_FLAGS : Fld := ⟨.cnWrap, 47, 0⟩
abbrev fTH_TS_PEAK : Fld := ⟨.thTs, 27, 16⟩
abbrev fTH_TS_TEMP : Fld := ⟨.thTs, 11, 0⟩
abbrev fTH_HB_VALID : Fld := ⟨.thHb, 8, 8⟩
abbrev fTH_HB_TEMP : Fld := ⟨.thHb, 7, 0⟩
abbrev fTH_V_MV : Fld := ⟨.thV, 15, 0⟩
abbrev fTH_CFG_TEMP_WARN : Fld := ⟨.thCfg, 47, 40⟩
abbrev fTH_CFG_TEMP_LIMIT : Fld := ⟨.thCfg, 39, 32⟩
abbrev fTH_CFG_HBM_WARN : Fld := ⟨.thCfg, 31, 24⟩
abbrev fTH_CFG_HBM_LIMIT : Fld := ⟨.thCfg, 23, 16⟩
abbrev fTH_EVENT_V_OUT : Fld := ⟨.thEvent, 3, 3⟩
abbrev fTH_EVENT_HBM_WARN : Fld := ⟨.thEvent, 2, 2⟩
abbrev fTH_EVENT_DIE_WARN : Fld := ⟨.thEvent, 1, 1⟩
abbrev fTH_EVENT_SENSOR_FAIL : Fld := ⟨.thEvent, 0, 0⟩
abbrev fTH_TRIP_CAUSE : Fld := ⟨.thTrip, 47, 44⟩
abbrev fTH_TRIP_SENSOR : Fld := ⟨.thTrip, 43, 39⟩
abbrev fTH_TRIP_TIME : Fld := ⟨.thTrip, 31, 0⟩
abbrev fTH_VWIN_HIGH : Fld := ⟨.thVwin, 31, 16⟩
abbrev fTH_VWIN_LOW : Fld := ⟨.thVwin, 15, 0⟩
abbrev fCAB_CTRL_QUEUES : Fld := ⟨.cabCtrl, 3, 3⟩
abbrev fCAB_CTRL_SELECTABLE : Fld := ⟨.cabCtrl, 2, 2⟩
abbrev fCAB_CTRL_ABORT : Fld := ⟨.cabCtrl, 1, 1⟩
abbrev fCAB_CTRL_ARM : Fld := ⟨.cabCtrl, 0, 0⟩
abbrev fCAB_MASK_PAGES : Fld := ⟨.cabMask, 47, 0⟩
abbrev fCAB_TIME_SEC_SECONDS : Fld := ⟨.cabTimeSec, 47, 0⟩
abbrev fCAB_TIME_NS_NS : Fld := ⟨.cabTimeNs, 31, 0⟩
abbrev fCAB_STATUS_RESULT : Fld := ⟨.cabStatus, 3, 2⟩
abbrev fCAB_STATUS_STATE : Fld := ⟨.cabStatus, 1, 0⟩
abbrev fCAB_GEN_GEN : Fld := ⟨.cabGen, 47, 0⟩
abbrev fCAB_RD_GEN_GEN : Fld := ⟨.cabRdGen, 47, 0⟩
abbrev fCAB_RD_OFF_OFF : Fld := ⟨.cabRdOff, 20, 0⟩
abbrev fCAB_RD_DATA_DATA : Fld := ⟨.cabRdData, 47, 0⟩
abbrev fCAB_EVENT_STALE : Fld := ⟨.cabEvent, 2, 2⟩
abbrev fCAB_EVENT_REFUSED : Fld := ⟨.cabEvent, 1, 1⟩
abbrev fCAB_EVENT_DONE : Fld := ⟨.cabEvent, 0, 0⟩
abbrev fGL_BOOT_RELEASE_MS : Fld := ⟨.glBoot, 35, 20⟩
abbrev fGL_BOOT_CAUSE : Fld := ⟨.glBoot, 15, 12⟩
abbrev fGL_BOOT_RAIL0_BOOT : Fld := ⟨.glBoot, 11, 11⟩
abbrev fGL_BOOT_OSC_LATE : Fld := ⟨.glBoot, 10, 10⟩
abbrev fGL_BOOT_RECOVERY : Fld := ⟨.glBoot, 9, 9⟩
abbrev fGL_BOOT_RELEASED : Fld := ⟨.glBoot, 8, 8⟩
abbrev fGL_BOOT_STEP : Fld := ⟨.glBoot, 2, 0⟩
abbrev fLC_TRAIN_TRAIN_TIMEOUT : Fld := ⟨.lcTrain, 13, 0⟩
abbrev fSB_PROG_SEL_PROG : Fld := ⟨.sbProgSel, 9, 0⟩
abbrev fHP_REASON_RING_RINGS : Fld := ⟨.hpReasonRing, 47, 0⟩

/-- Every register of BAR0. -/
def allRegs : List Reg :=
  [Reg.lcCtrl, Reg.lcStatus, Reg.lcEvent, Reg.lcSkew, Reg.lcFrame, Reg.lcSd, Reg.protCtrl, Reg.protStatus, Reg.bondCtrl, Reg.bondStatus, Reg.cyKeyData, Reg.cyKeyData5, Reg.cyKeyCmd, Reg.cyKeyStatus, Reg.cyKeyCount, Reg.cyTxidx, Reg.cyEvent, Reg.actStatus, Reg.actCtrl, Reg.actSerial, Reg.actEqdW, Reg.actEqdP, Reg.actEvent, Reg.leFill, Reg.leTrib, Reg.leGrantEvent, Reg.profCfg, Reg.profDelay, Reg.profDelimHi, Reg.profDelimLo, Reg.fsStatus, Reg.fsStage, Reg.fsHeld, Reg.fsTrip, Reg.fsEqdW, Reg.fsEqdP, Reg.fsCfg, Reg.fsEvent, Reg.dpCtrl, Reg.dpMac] ++
  [Reg.dpFrame, Reg.dpFc, Reg.dpStatus, Reg.dpEvent, Reg.dpTrain, Reg.lcLane, Reg.lntCtrl, Reg.lntInject, Reg.lntStatus, Reg.lntBits, Reg.lntErrors, Reg.lntSymerr, Reg.lntLockloss, Reg.clSlotState, Reg.clSlotGen, Reg.clSlotDrain, Reg.clSlotBadword, Reg.clRegionBase, Reg.clRegionLimit, Reg.clWinAddr, Reg.clWinData, Reg.clWinStatus, Reg.clRcntSel, Reg.clRcnt, Reg.clEvent, Reg.clErraddr, Reg.clCtrl, Reg.clFragCtrl, Reg.clFragStatus, Reg.fwCtrl, Reg.fwHash, Reg.fwLearn, Reg.fwStatus, Reg.fwEvent, Reg.fwRingBase, Reg.fwRingSize, Reg.fwRingTail, Reg.fwRingHead, Reg.tmAccSel, Reg.tmAccData] ++
  [Reg.tmAccCmd, Reg.tmAccStatus, Reg.tmCtrl, Reg.tmBuf, Reg.tmEvent, Reg.wdCtrl, Reg.wdStatus, Reg.wdBlocks, Reg.wdEvent, Reg.sbCtrl, Reg.sbRepair, Reg.sbMac, Reg.sbCmd, Reg.sbCmdStatus, Reg.sbStatus, Reg.sbEvent, Reg.sbProgData0, Reg.sbProgData1, Reg.sbProgData2, Reg.mdCtrl, Reg.mdStatus, Reg.trCtrl, Reg.trEvent, Reg.tsiSel, Reg.tsiData, Reg.tsiCmd, Reg.tsiStatus, Reg.tbCfg, Reg.tbStatus, Reg.tbEvent, Reg.ltCtrl, Reg.ltStatus, Reg.ltNowNs, Reg.ltNowSec, Reg.ltNowNs32, Reg.ltOffset, Reg.ltSwOffset, Reg.ltTrim, Reg.ltSetSec, Reg.ltCmd] ++
  [Reg.ltServo, Reg.ltPps, Reg.ltSteps, Reg.ltEvent, Reg.ltPtp, Reg.mcStatus, Reg.mcRank0, Reg.mcRank1, Reg.mcMig, Reg.mcCeLimit, Reg.mcEvent, Reg.mcPart, Reg.mcReg, Reg.glId, Reg.glLink, Reg.glEvent, Reg.glBadAddr, Reg.dringBase, Reg.rxcBase, Reg.rxbBase, Reg.txrBase, Reg.bnsBase, Reg.bncBase, Reg.dringCfg, Reg.rxcCfg, Reg.rxbCfg, Reg.txrCfg, Reg.bnsCfg, Reg.bncCfg, Reg.dringWb, Reg.rxcWb, Reg.rxbWb, Reg.txrWb, Reg.bnsWb, Reg.bncWb, Reg.dringTailLine, Reg.rxcTailLine, Reg.rxbTailLine, Reg.txrTailLine, Reg.bnsTailLine] ++
  [Reg.bncTailLine, Reg.drwCtrl, Reg.mbReqAddr, Reg.mbReqLen, Reg.mbRspAddr, Reg.mbRspLen, Reg.mbCmd, Reg.mbStatus, Reg.mbEvent, Reg.bnCtrl, Reg.bnStatus, Reg.bnCancel, Reg.bnCmdStatus, Reg.bnEvent, Reg.bnCore, Reg.pwStatus, Reg.pwReq, Reg.pwReqStatus, Reg.pwCfg, Reg.pwLl, Reg.pwTimers, Reg.pwDom, Reg.pwDom3, Reg.pwWake, Reg.pwEvent, Reg.cnCtrl, Reg.cnEvent, Reg.cnSummary, Reg.cnSummaryMask, Reg.cnZeroed, Reg.scCnt, Reg.scCfg, Reg.cnMirAddr, Reg.cnMirEn, Reg.cnWrap, Reg.thTs, Reg.thHb, Reg.thV, Reg.thCfg, Reg.thEvent] ++
  [Reg.thTrip, Reg.thVwin, Reg.cabCtrl, Reg.cabMask, Reg.cabTimeSec, Reg.cabTimeNs, Reg.cabStatus, Reg.cabGen, Reg.cabRdGen, Reg.cabRdOff, Reg.cabRdData, Reg.cabEvent, Reg.glBoot, Reg.lcTrain, Reg.sbProgSel, Reg.hpReasonRing]

end Sys2Proof.Machine
end

