-- ==== Sys2Proof/Machine/State/Dict.lean ====
section
/-!
DEFINITION. Machine/State/Dict.lean: what the object dictionary holds beside its values: the transactions of the three paths,
request IDs and stored replies, generations and the store in the Chest (16_object_dictionary.md).
-/

namespace Sys2Proof.Machine

/-- State of a path's transaction (R515). -/
inductive TxnPhase where
  | none | open_ | pending
deriving DecidableEq, Repr

/-- Where a pending transaction commits: at the first frame boundary at or after an instant, or at a Longcase time
(R519). -/
inductive CommitAt where
  | boundary (notBefore : Time)
  | scheduled (seconds : Word) (ns : Nat)
deriving DecidableEq, Repr

/-- The outcome of a path's last Commit (R514). -/
structure Outcome where
  reqId : BitVec 32 := 0
  /-- 0 none, 1 open, 2 pending, 3 resolved. -/
  state : Nat := 0
  result : Nat := 0
  /-- First offending entry, index × 256 + subindex; 0 where there is none. -/
  entry : Nat := 0
  gen : Word := 0
deriving DecidableEq, Repr

/-- One access path (R507, R510, R515). -/
structure PathSt where
  phase : TxnPhase := .none
  /-- Generation at open. -/
  openGen : Word := 0
  /-- Configuration entries read and entries written, index × 256 + subindex; the writes in their order. -/
  reads : List Nat := []
  writes : List (Nat × List Byte) := []
  /-- Bytes of written values (R518). -/
  bytes : Nat := 0
  /-- Code and entry of the first write that failed its checks (R518). -/
  failed : Option (Nat × Nat) := none
  due : Option CommitAt := none
  /-- Request ID of the Commit, or of the Write outside a transaction. -/
  commitId : BitVec 32 := 0
  /-- A Write outside a transaction: the entries and write-time results of its records, in order (R517). -/
  single : Option (List (Nat × Nat)) := none
  lastAt : Time := 0
  /-- Session and sequence of the Waifel message that brought the last request, and the Commit (R507, R607). -/
  carrier : Nat × Nat := (0, 0)
  commitCarrier : Nat × Nat := (0, 0)
  lastId : Option (BitVec 32) := none
  /-- Reply of the last request; none while it is not stored yet (R510). -/
  reply : Option (List Byte) := none
  /-- The path's transaction was abandoned and the next request is to be told (R515). -/
  abandoned : Bool := false
  /-- The last transaction reached its commit point and no Open or Write has come since (R515). -/
  reached : Bool := false
  outcome : Outcome := {}
  /-- A reset of R471 has discarded the reply of the Write that is still pending (R511). -/
  muted : Bool := false
  /-- The code of an outcome that waits for the end of a Secretary restart (R521, R545). -/
  owed : Option Nat := none
deriving DecidableEq, Repr

/-- The image of the current generation as it is saved: the region of each pipeline, and the words in them (R278). -/
structure SavedGen where
  regions : List (Nat × Nat)
  words : List (Nat × Word)
deriving DecidableEq, Repr

/-- The record of the dictionary store (R278, R522, R618): persistent values, generation, format version, the image of the
current generation. -/
structure Store where
  values : List (Nat × List Byte) := []
  gen : Word := 0
  format : Nat := 0
  image : Option SavedGen := none
deriving DecidableEq, Repr

/-- The dictionary's own state. -/
structure DictSt where
  h : PathSt := {}
  l : PathSt := {}
  s : PathSt := {}
  gen : Word := 0
  /-- Commit generation that last wrote an entry, by index × 256 + subindex; unlisted ones 0 (R520). -/
  writers : List (Nat × Word) := []
  /-- Last saved record, and the pre-migration copy (R522, R618). -/
  store : Store := {}
  pre : Option Store := none
  /-- Commits since the last saved record (R522). -/
  unsaved : Nat := 0
  /-- 0 saved, 1 save pending, 2 save failed (R506). -/
  saveState : Nat := 0
  /-- Persistent defaults are to be restored at the next start (R506). -/
  restore : Bool := false
  /-- Entries whose registers are still to be written, with the domain they wait for, oldest first (R521). -/
  deferred : List (Nat × Nat) := []
deriving DecidableEq, Repr

end Sys2Proof.Machine
end

