-- ==== Sys2Proof/Machine/State/Host.lean ====
section
/-!
DEFINITION. Machine/State/Host.lean: drawers, rings, MSI-X and the host link (15_host_attachment_and_drawers.md), and
counters, monitors and the Cabinet (19_counters_and_cabinet.md).
-/

namespace Sys2Proof.Machine

/-- One drawer (R483 to R491); its consumer stands in DRW_CTRL. -/
structure Drawer where
  /-- Items, head first; each of 1 to 4 words. -/
  items : List (List Word) := []
  latch : List Word := []
  flushes : BitVec 8 := 0
  level : Nat := 0
  /-- The producer-seen occupancy has been below LEVEL since the last signal (R488). -/
  armed : Bool := true
  /-- Instant of the latest flush; instant of the latest entry, and the items entered at it (R487). -/
  flushedAt : Option Time := none
  lastEnter : Time := 0
  entered : Nat := 0
deriving DecidableEq, Repr

/-- The indexes of a ring (R477 to R479, R490). -/
structure RingIx where
  hostIx : BitVec 16 := 0
  devIx : BitVec 16 := 0
  /-- Entries since the last write-back, and the instant of the first (R479). -/
  wbCount : Nat := 0
  wbSince : Option Time := none
deriving DecidableEq, Repr

/-- The host link (R470, R475). -/
structure HostLink where
  up : Bool := false
  cxl : Bool := false
  width : Nat := 0
  speed : Nat := 0
deriving DecidableEq, Repr

/-- A frame the host packet path has read (R480). -/
structure HostFrame where
  ring : Nat
  bytes : List Byte
  timing : Word
  tag : Word
deriving DecidableEq, Repr

/-- What the configuration space holds of its own (R468, R469). -/
structure CfgSpace where
  /-- Addresses of BAR0, BAR2 and BAR4, unlisted ones zero. -/
  bases : List (Nat × BitVec 64) := []
  /-- The function is in D3hot. -/
  d3hot : Bool := false
  /-- Uncorrectable errors recorded. -/
  errors : BitVec 32 := 0
  hdmBase : BitVec 64 := 0
  hdmSize : BitVec 64 := 0
deriving DecidableEq, Repr

/-- Address and data of one MSI-X table entry (R469, R494). -/
structure VectorEntry where
  addr : BitVec 64 := 0
  data : BitVec 32 := 0
deriving DecidableEq, Repr

/-- The host attachment. -/
structure HostSt where
  link : HostLink := {}
  /-- Drawers by number, unlisted ones as at reset. -/
  drawers : List (Nat × Drawer) := []
  /-- Drawer, RX completion, RX buffer, TX, Bench submission and completion rings by the model's ring number. -/
  rings : List (Nat × RingIx) := []
  /-- Vectors that are unmasked, and vectors whose message is held (R494). -/
  unmasked : List Nat := []
  heldVectors : List Nat := []
  /-- MSI-X table, unlisted entries zero (R469). -/
  vectors : List (Nat × VectorEntry) := []
  cfg : CfgSpace := {}
  /-- The device cache: lines of host memory held, newest first (R468). -/
  cache : List Nat := []
  /-- Buffer entries that the host has handed over, by 65,536 × receive ring + index: address and TAG (R481). -/
  rxEntries : List (Nat × (Word × Word)) := []
  /-- Frames that the host packet path holds toward the recirculation ports, by pipeline, oldest first (R480). -/
  txFrames : List (Nat × List HostFrame) := []
deriving DecidableEq, Repr

/-- One bank of the Cabinet (R587). -/
structure CabBank where
  gen : Word
  seconds : Word
  nanos : BitVec 32
  selectable : Bool
  queues : Bool
  masks : List Word
  zeroed : List Word
  /-- Counter values by the model's counter key. -/
  counters : List (Nat × Word)
  scs : List Word
  downQ : List (Nat × Nat)
  upQ : List (Nat × Nat)
deriving DecidableEq, Repr

/-- State of the Cabinet (R586): armed with its time, or draining. -/
inductive CabPhase where
  | idle
  | armed (seconds : Word) (nanos : BitVec 32)
  | draining
deriving DecidableEq, Repr

/-- The Cabinet (R585 to R589). -/
structure Cabinet where
  phase : CabPhase := .idle
  result : BitVec 2 := 0
  /-- Snapshot generation, and the latest completed one. -/
  gen : Word := 0
  done : Word := 0
  /-- The bank latched and draining, and the eight banks by generation mod 8. -/
  latched : Option CabBank := none
  banks : List (Nat × CabBank) := []
deriving DecidableEq, Repr

/-- One die sensor (R591, R592); the temperature in units of 0.25 °C. -/
structure DieSensor where
  temp : Int := 0
  /-- Highest since the last read; none where nothing has been sampled since. -/
  peak : Option Int := none
  excluded : Bool := false
  warnRun : Nat := 0
  limitRun : Nat := 0
deriving DecidableEq, Repr

/-- One stack's temperature report. -/
structure StackTemp where
  temp : Nat := 0
  valid : Bool := false
  missed : Nat := 0
  excluded : Bool := false
  limitRun : Nat := 0
deriving DecidableEq, Repr

/-- The monitors (R591 to R595). -/
structure Monitors where
  die : List (Nat × DieSensor) := []
  stackTemps : List (Nat × StackTemp) := []
  rails : List (Nat × Nat) := []
  /-- Level that rail 0 is commanded to, its AVS target, mV, and the instant of the latest step (R627). -/
  avs : Nat := 800
  avsTarget : Nat := 800
  avsAt : Option Time := none
deriving DecidableEq, Repr

/-- Counters (R574 to R582). -/
structure CounterSt where
  /-- Per-event counters by the model's counter key, unlisted ones zero. -/
  values : List (Nat × Word) := []
  /-- Selectable counters, and the odd ones' latches, unlisted ones zero. -/
  sel : List (Nat × Word) := []
  selLatch : List (Nat × Word) := []
  /-- SEQ of each mirror page by page number (R582). -/
  mirrorSeq : List (Nat × BitVec 16) := []
deriving DecidableEq, Repr

end Sys2Proof.Machine
end

