-- ==== Sys2Proof/Machine/State/Emission.lean ====
section
/-!
DEFINITION. Machine/State/Emission.lean: what leaves the part. A command's answers and transmissions are put in front of
the state's list, newest first.
-/

namespace Sys2Proof.Machine

/-- One envelope inside a burst: header word and the payload as sent. -/
structure SentEnvelope where
  laneB : Bool
  header : BitVec 64
  payload : List Byte
deriving DecidableEq, Repr

/-- Something that leaves the part. -/
inductive Emission where
  /-- Answer of a BAR0 or BAR2 read. -/
  | barRead (offset : Nat) (value : Word)
  /-- Answer of a read of BAR4, or of the configuration space where the offset is none. -/
  | hostRead (offset : Option Nat) (value : BitVec 64)
  /-- MSI-X message (R494). -/
  | msix (vector : Nat)
  /-- An entry of a ring in host memory: the model's ring number, index, words (R479, R481, R491). -/
  | ringEntry (ring : Nat) (index : BitVec 16) (words : List Word)
  /-- A write-back of the device's index (R479). -/
  | ringIndex (ring : Nat) (index : BitVec 16)
  /-- A packet's bytes in the buffer of a receive ring, with the buffer's host address (R481). -/
  | hostPacket (ring : Nat) (buffer : BitVec 16) (addr : Word) (bytes : List Byte)
  /-- A finished table descriptor: ring 1 or not, its byte address in host memory (on ring 1 from the ring's base), STATUS, ADDR and
  TAG written there, and the buffer's byte address with the words written to it (R309, R312). -/
  | descriptor (ring1 : Bool) (at_ : Nat) (status : Nat) (addr : Word) (tag : Word) (bufAt : Nat) (buf : List Word)
  /-- A frame on a drop port, FCS included, and whether its levels are inverted by TX_INV (R245, R246, R250). -/
  | frame (port : Nat) (bytes : List Byte) (inverted : Bool)
  /-- A packet to the Secretary: management flow (R98). -/
  | toSecretary (bytes : List Byte)
  /-- A PTP message to the firmware task: port, receive stamp (NS32 and FRAC), bytes (R432). -/
  | ptpTask (port ns32 frac : Nat) (bytes : List Byte)
  /-- PROT_SEL as driven (R70). -/
  | protSel (level : Bool)
  /-- LCn_BEN, and the instant of its change (R166). -/
  | ben (ch : Nat) (level : Bool) (at_ : Time)
  /-- A burst: channel, instant of its first UI, length in slots, the PAM4 levels in the gap since a near burst before it and
  those of its preamble, its delimiter with the 6 zero bits behind it, the words in front of lane A's envelopes, its envelopes,
  and the coded symbols of lanes A and B (R163 to R175). -/
  | burst (ch : Nat) (at_ : Time) (length : Nat) (gap preamble : List Nat) (delim : BitVec 70) (lead : List (BitVec 64))
      (envs : List SentEnvelope) (codedA codedB : List Nat)
  /-- Kill outputs (R206, R209). -/
  | txKill (ch : Nat) (level : Bool)
  | allKill (level : Bool)
  /-- TIME_PPS and the serial time message (R429, R430). -/
  | pps (level : Bool)
  | timeMessage (bytes : List Byte)
  /-- Management data bits, tributary bits and highway slots (R387, R399, R405). -/
  | mdBits (md : Nat) (bits : BitVec 24)
  | tribBits (trib : Nat) (bits : List Bool)
  | highwaySlots (hw : Nat) (slots : List Byte)
  /-- A frame on the service port (R606), and a Waifel message there (R607). -/
  | servicePort (bytes : List Byte)
  | waifel (bytes : List Byte)
  /-- A dictionary message toward the head end, the host's reply buffer or a session (R510). -/
  | dictReply (path : Path) (bytes : List Byte)
  /-- A request for a rail, at its regulator's bus, address and page, with rail 0's level, and OSC_EN, FAULT_N (R561, R567, R636). -/
  | rail (rail : Nat) (on : Bool) (bus address page : Nat) (mv : Option Nat)
  | oscEn (level : Bool)
  /-- What the two-wire interface answers to the bytes of a transfer, acknowledged or refused (R564). -/
  | twoWireAck (acks : List Bool)
  | faultN (level : Bool)
  /-- The result code of a command entry that a path gave (R516, R519). -/
  | result (path : Path) (code : Nat)
  /-- CXL.mem read data; poison where a line is poisoned (R458, R463). -/
  | cxlData (bytes : Option (List Byte))
  /-- A counter page's copy (R582). -/
  | counterPage (page : Nat) (addr : Word) (writes : List (Nat × List Word))
  /-- What a drop port advertises in Clause 73: its one technology ability, coded as IFTYPE, with RS-FEC ability and without next
  pages (R226). -/
  | advertise (port : Nat) (ability : Nat) (rsFec nextPage : Bool)
  /-- Training frames begin on a lane, on the line once LCn_BEN is low: seed and first 64 levels of their PRBS13Q (R228, R230). -/
  | trainingFrames (lane : Nat) (seed : BitVec 13) (levels : List Nat)
  /-- The test generator of a lane begins: the levels of its first 64 UI at the balls, or received data sent back (R234, R236). -/
  | testPattern (lane : Nat) (levels : List Nat)
  | retransmit (lane : Nat)
  /-- Test generator's inverted bit, and the rate at which it inverts bits from now on (R239). -/
  | inverted (lane : Nat)
  | invertRate (lane : Nat) (rate : Nat)
  /-- Slots in host memory overwritten by a counter gather, from a byte address on (R539). -/
  | hostWords (at_ : Nat) (words : List Word)
  /-- A bank of the Cabinet copied to host memory (R539, R587). -/
  | bankCopy (at_ : Nat) (bank : CabBank)
  /-- A task handed to a core (R540). -/
  | task (core : Nat) (handle : Nat) (words : List Word)
  /-- A general query of the membership task on a port: IGMPv3, or MLDv2 (R370). -/
  | query (port : Nat) (v6 : Bool)
  /-- CX interface: a new window size offered (R463, R476). -/
  | windowOffered (gib : Nat)
deriving DecidableEq, Repr

end Sys2Proof.Machine
end

