-- ==== Sys2Proof/Machine/State/Line.lean ====
section
/-!
DEFINITION. Machine/State/Line.lean: what the line channels and the protection switch hold (02_downstream_comb.md).
-/

namespace Sys2Proof.Machine

/-- Alignment state of a lane (R48). -/
inductive LaneAlign where
  | los | hunt | presync | sync
deriving DecidableEq, Repr

/-- A candidate position of Hunt and Presync (R49, R50). -/
structure Candidate where
  pos : Nat
  /-- Confirmed frames. -/
  confirmed : Nat
  /-- Frame counter of the latest sighting whose header check passed. -/
  ref : Option Word
  /-- Differing bits summed over the sightings. -/
  diffs : Nat
  /-- Order in which it was opened. -/
  order : Nat
deriving DecidableEq, Repr

/-- Delineation of one lane's envelope area (R91 to R95). -/
inductive DelinState where
  | hunt | presync | sync
deriving DecidableEq, Repr

/-- An envelope held in delineation Presync until it is confirmed (R93). -/
structure HeldEnvelope where
  env : EnvelopeIn
deriving DecidableEq, Repr

/-- What finds a lane's frames: the receiver's own aligner, or the one of the Firescreen's tap (R48 to R53, R61, R652). -/
structure Aligner where
  align : LaneAlign := .los
  cands : List Candidate := []
  /-- Candidates opened so far. -/
  opened : Nat := 0
  /-- Aligned position (R52). -/
  pos : Nat := 0
  /-- Successive errored patterns (R52). -/
  errRun : Nat := 0
  /-- Frame counter in effect (R53). -/
  fc : Word := 0
  /-- Successive valid headers that name another, and this, channel and lane; the defect (R61). -/
  wrongRun : Nat := 0
  rightRun : Nat := 0
  mismatch : Bool := false
deriving DecidableEq, Repr

/-- One receive lane. -/
structure LaneRx where
  al : Aligner := {}
  /-- No CDR lock, or no transitions for 1 µs (R61). -/
  noSignal : Bool := true
  /-- Instant of the latest sync pattern at the aligned position (R54). -/
  syncAt : Option Time := none
  /-- Map length and tributary flag in effect (R53). -/
  mapLen : Nat := 0
  trib : Bool := false
  /-- The last frame failed its header check: its areas are located by the values before (R53). -/
  headerBad : Bool := false
  /-- The rest of this frame's lane A area is discarded (R53). -/
  areaDiscard : Bool := false
  /-- Uncorrectable codewords of the frame under way and of the frames just ended, newest first (R61). -/
  ueNow : Nat := 0
  ueHist : List Nat := []
  /-- Delineation (R91): state, next header's word, envelopes that chained. -/
  delin : DelinState := .sync
  nextWord : Nat := 0
  chained : Nat := 0
  held : List HeldEnvelope := []
deriving DecidableEq, Repr

/-- What a home lane A frame brings the tributary unit: its start, its tributary area where that counts, and its management
data bits where those do (R41, R58, R62, R389). -/
structure Overhead where
  at_ : Time
  area : Option (List (Option Bool))
  md : Option (BitVec 96)
deriving DecidableEq, Repr

/-- One line channel. -/
structure Chan where
  laneA : LaneRx := {}
  laneB : LaneRx := {}
  /-- LCn_RXLOS (R35). -/
  rxlos : Bool := false
  skew : Nat := 0
  bLate : Bool := false
  skewDefect : Bool := false
  /-- The lanes' latest pair of frames was within the deskew buffer with equal counters (R54, R36). -/
  deskewed : Bool := false
  /-- Successive good frames toward clearing the skew defect (R55). -/
  skewGood : Nat := 0
  /-- Successive valid lane A headers that differ from the defect's state (R61). -/
  ais : Bool := false
  aisRun : Nat := 0
  rdi : Bool := false
  rdiRun : Nat := 0
  sd : Bool := false
  /-- Frames of the block under way since signal degrade was entered, its sums per lane, and good blocks (R61). -/
  sdFrames : Nat := 0
  sdSumA : Nat := 0
  sdSumB : Nat := 0
  sdGood : Nat := 0
  /-- The channel was up when it was last looked at (R36, R66). -/
  up : Bool := false
  /-- Frames since it came up (R69). -/
  upFrames : Nat := 0
  /-- Overhead of the two latest lane A frames of the home channel, newest first (R41, R58). -/
  overhead : List Overhead := []
deriving DecidableEq, Repr

/-- PROT_STATE (R78). -/
inductive ProtState where
  | normal | holdoff | settle | resync | alternating
deriving DecidableEq, Repr

/-- Dual-feeder protection (R70 to R76, R650). -/
structure Prot where
  state : ProtState := .normal
  /-- Last switch: 0 none, 1 automatic, 2 head end, 3 host or service port. -/
  cause : BitVec 2 := 0
  /-- PROT_SEL and the path recorded in the Chest (R70, R76). -/
  sel : Bool := false
  chestPath : Bool := false
  /-- A settle time runs: sightings and LOS are ignored (R72); its end. -/
  settling : Bool := false
  settleDue : Time := 0
  /-- The 100 ms check of R73 is due, at this instant. -/
  checking : Bool := false
  checkDue : Time := 0
  /-- End of the hold-off, or of the dwell while alternating. -/
  due : Time := 0
  /-- The first hunt after a start: its 100 ms are checked, no hold-off begins (R76). -/
  atStart : Bool := false
deriving DecidableEq, Repr

end Sys2Proof.Machine
end

