-- ==== Sys2Proof/Machine/State/Fire.lean ====
section
/-!
DEFINITION. Machine/State/Fire.lean: burst profiles, and what the Firescreen holds (06_firescreen.md).
-/

namespace Sys2Proof.Machine

/-- A burst profile (R137, R189). -/
structure ProfCfg where
  held : Bool := false
  channels : Nat := 0
  preamble : Nat := 0
  pattern : Nat := 0
  delim : Nat := 0
  preassigned : Nat := 0
deriving DecidableEq, Repr

/-- A profile as it was before a Burst Profile message: profile number, frame that carried the message, old value (R170). -/
structure ProfChange where
  prof : Nat
  fc : Word
  old : ProfCfg
deriving DecidableEq, Repr

/-- A path's delay as it was before a Ranging Time: path, frame that carried it, old value (R144). -/
structure DelayChange where
  path : Nat
  fc : Word
  old : Nat
deriving DecidableEq, Repr

/-- Whether a window has opened (R197, R202): pending, open, dark because a hold applied when it would have opened, or closed
and still looked at by the supervision (R203, R205). -/
inductive WindowMode where
  | pending | opened | dark | closed
deriving DecidableEq, Repr

/-- A window (R197) and the burst interval it stands for (R162). -/
structure FsWindow where
  openAt : Time
  closeAt : Time
  from_ : Time
  until_ : Time
  mode : WindowMode := .pending
deriving DecidableEq, Repr

/-- A channel as the Firescreen sees and gates it (R195, R201 to R207, R652). -/
structure FsChan where
  a : Aligner := {}
  b : Aligner := {}
  /-- Frame starts of lane A (R201); frames within range toward the end of a timing hold; the hold (R195). -/
  frames : Nat := 0
  spaced : Nat := 0
  timing : Bool := false
  /-- Up in the own view, and frames since (R652, R199). -/
  up : Bool := false
  upFrames : Nat := 0
  /-- AIS in the own view, and successive valid lane A headers that differ from it (R61, R62). -/
  ais : Bool := false
  aisRun : Nat := 0
  windows : List FsWindow := []
  /-- Maps of frames that began earlier open no window (R212). -/
  notBefore : Time := 0
  /-- Enable requested by the line engine, and LCn_BEN as driven (R201). -/
  request : Bool := false
  ben : Bool := false
  /-- A burst was passed in the window under way; successive passed bursts without light (R204). -/
  passed : Bool := false
  darkRun : Nat := 0
  /-- Frame of the latest refused enable, and successive frames with one (R201). -/
  refusedIn : Nat := 0
  refusedRun : Nat := 0
  /-- Trip stage (R206); instant of the detection of light that goes on. -/
  stage : Nat := 0
  lightAt : Option Time := none
  /-- Light was detected since the latest bias read (R206, R217). -/
  litSince : Bool := false
  /-- The latest read violated: monitor power, bias, no answer (R205, R206). -/
  badPower : Bool := false
  badBias : Bool := false
  badMute : Bool := false
deriving DecidableEq, Repr

/-- What a release that has just committed ended, for a trip in the same cycle (R215): its instant, the stages, the stopped
state, the event. -/
structure FsRelease where
  at_ : Time
  stages : List (Nat × Nat)
  stopped : Bool
  event : Bool
deriving DecidableEq, Repr

/-- The Firescreen. -/
structure FsSt where
  /-- Channels by number, unlisted ones as at reset. -/
  chans : List (Nat × FsChan) := []
  /-- Holds of every channel (R202). -/
  startup : Bool := true
  protection : Bool := false
  /-- The protection hold stands for a new path, whose delay it waits for (R202). -/
  newPath : Bool := false
  power : Bool := false
  image : Bool := false
  thermal : Bool := false
  /-- Frame boundaries since the image-activation hold began (R202). -/
  imageFrames : Nat := 0
  /-- Own copies: number, home channel, delays, provisional delay with the request's channel and frame (R194, R198). -/
  number : Option Nat := none
  home : Nat := 0
  eqdW : Option Nat := none
  eqdP : Option Nat := none
  delayHist : List DelayChange := []
  ranging : Option (Nat × Word × Nat) := none
  /-- Type and sequence of the last directed message acted on (R653). -/
  last : Option (Nat × Nat) := none
  profs : List (Nat × ProfCfg) := []
  profHist : List ProfChange := []
  /-- Admission table: values and complements as written, unlisted ones 0 and its complement; entries that differ from
  the line engine's (R200). -/
  admV : List (Nat × Nat) := []
  admC : List (Nat × Nat) := []
  differ : List Nat := []
  /-- Held nonce, cause of the latest trip, consents, stopped (R211 to R214). -/
  nonce : BitVec 32 := 0
  cause : Nat := 0
  consent : Bool := false
  release : Bool := false
  stopped : Bool := false
  /-- A Trip Report is owed, and has been placed in the interval under way (R211). -/
  report : Bool := false
  reported : Bool := false
  /-- Fail-dark, with the cause of the failure; outputs undriven (R209, R210). -/
  failDark : Bool := false
  failCause : Nat := 0
  undriven : Bool := false
  /-- A restart after a failure: stage 3 is latched once the self-test has passed (R210). -/
  relatch : Bool := false
  /-- The latest release (R215). -/
  lastRelease : Option FsRelease := none
  /-- Kill outputs whose test pulse has passed since the start: a channel's number, 16 for FS_ALLKILL (R208). -/
  tested : List Nat := []
  selfTestOk : Bool := false
  /-- The kill outputs are held asserted since the start (R633). -/
  killsHeld : Bool := true
  limits : List (Nat × OpticLimits) := []
  locked : Bool := false
  /-- LMON_GUARD and REFUSE_LIMIT in force, and as written for the next frame (R220). -/
  guard : Nat := 50
  refuseLimit : Nat := 4
  nextCfg : Option (Nat × Nat) := none
deriving DecidableEq, Repr

end Sys2Proof.Machine
end

