-- ==== Sys2Proof/Machine/State/Packet.lean ====
section
/-!
DEFINITION. Machine/State/Packet.lean: packets and what the pipelines, the forwarding tables, the traffic manager and the
Sideboard hold (chapters 08 to 11 of spec/).
-/

namespace Sys2Proof.Machine

/-- A packet in a pipeline. -/
structure Pkt where
  /-- From destination address on, without FCS. -/
  bytes : List Byte
  /-- IN_SRC of R255. -/
  inSrc : Nat
  flow : Nat := 0
  keySet : Nat := 0
  recallOn : Bool := false
  /-- Generation slot of its entry (R276), and pipeline. -/
  slot : Nat := 0
  pipe : Nat := 0
  /-- Instant of its entry cycle (R276). -/
  entryAt : Time := 0
  second : Bool := false
  passTag : Nat := 0
  /-- DOMAIN that the first pass left (R280). -/
  domain : Nat := 0
  /-- Programme and live mask attached at the tap (R360), for a packet of an enabled programme. -/
  liveMask : Option (Nat × Nat) := none
  /-- Joining port and context of a replayed packet; context 512 for a repair (R374, R379). -/
  replay : Option (Nat × Nat) := none
  /-- Number of the replay it belongs to (R374). -/
  replayNo : Nat := 0
  /-- Marked by a policer on its first pass (R280, R339). -/
  marked : Bool := false
  /-- Timing word and tag of a host frame (R434), and its ring. -/
  timing : Word := 0
  tag : Word := 0
  /-- The packet is sent whatever the rules say to queue 0 of its replay port (R379). -/
  direct : Bool := false
deriving DecidableEq, Repr

/-- A copy of a packet in a queue. -/
structure QPkt where
  bytes : List Byte
  /-- Parse key recorded at entry (R268). -/
  key : List Nat
  /-- Generation slot of its entry; 4 for a packet of the terminal's own, which entered no pipeline (R276). -/
  slot : Nat
  egtag : Nat := 0
  /-- Upstream flow ID. -/
  flow : Nat := 0
  /-- Bytes already sent as fragments: a continuation where it is not 0 (R178). -/
  sent : Nat := 0
  admittedAt : Time := 0
  /-- Number of the packet's stored data: copies of one packet share it (R330). -/
  store : Nat := 0
  /-- Wardrobe page and byte offset where it is stored there (R345). -/
  page : Option (Nat × Nat) := none
  /-- Not yet written to HBM (R349). -/
  staged : Bool := false
  timing : Word := 0
  tag : Word := 0
  /-- The packet-buffer read of it is uncorrectable (R344). -/
  ecc : Bool := false
  /-- Marked by a policer (R339, R342). -/
  marked : Bool := false
deriving DecidableEq, Repr

/-- A shaper (R335, R336). -/
structure Shaper where
  enable : Bool := false
  rate : Nat := 4000000
  burst : Nat := 65536
  credit : Int := 0
deriving DecidableEq, Repr

/-- A queue (R327, R332). -/
structure Queue where
  items : List QPkt := []
  shaper : Shaper := {}
  weight : Nat := 1
  alpha : Nat := 5
  reserve : Nat := 0
  deficit : Nat := 0
  visited : Bool := false
  /-- The open Wardrobe page: page, next byte, descriptors (R345). -/
  openPage : Option (Nat × Nat × Nat) := none
deriving DecidableEq, Repr

/-- A scheduler node (R331). -/
structure Node where
  strict : Nat := 4
  queues : Nat := 64
  shaper : Shaper := {}
  ptr : Nat := 0
  wlimit : Nat := 1024
deriving DecidableEq, Repr

/-- Parameters of a policer (R337). -/
structure PolicerCfg where
  cir : Nat := 0xFFFFFFFF
  cbs : Nat := 65535
  pir : Nat := 0xFFFFFFFF
  pbs : Nat := 65535
  aware : Bool := false
  yellow : Nat := 0
  red : Nat := 1
deriving DecidableEq, Repr

/-- A policer: parameters as written, as in force (R340), and its buckets with 24 fraction bits. -/
structure Policer where
  cfg : PolicerCfg := {}
  eff : PolicerCfg := {}
  tc : Nat := 65535 * 2 ^ 24
  tp : Nat := 65535 * 2 ^ 24
  /-- CBS or PBS was changed: the next refill sets each bucket full (R337). -/
  fill : Bool := false
deriving DecidableEq, Repr

/-- A replication group (R329). -/
structure Group where
  ports : Nat := 0
  line : Bool := false
  host : Bool := false
deriving DecidableEq, Repr

/-- The traffic manager. -/
structure TmSt where
  /-- Downstream queue q at q, upstream queue q at 6,144 + q; unlisted ones empty with defaults. -/
  queues : List (Nat × Queue) := []
  /-- Downstream node n at n, upstream node k at 96 + k. -/
  nodes : List (Nat × Node) := []
  policers : List (Nat × Policer) := []
  groups : List (Nat × Group) := []
  /-- Envelope bytes admitted to each upstream slot in the frame under way (R186). -/
  admitted : List (Nat × Nat) := []
  /-- Number of the next stored packet. -/
  nextStore : Nat := 0
  /-- Sample item sequence number (R353). -/
  sampleSeq : Nat := 0
deriving DecidableEq, Repr

/-- State of a generation slot (R270). -/
inductive SlotState where
  | free | loading | ready | current | draining | evicting
deriving DecidableEq, Repr

/-- A generation slot (R270 to R277, R287). -/
structure GenSlot where
  state : SlotState := .free
  owner : Option Path := none
  gen : Word := 0
  drain : Nat := 0
  /-- Pipeline and word address of the first word failing the seal. -/
  badPipe : Nat := 0
  badAddr : Nat := 0
  /-- DRAIN_SLOW was raised for this draining; instant it began (R277). -/
  slowRaised : Bool := false
  drainingSince : Time := 0
deriving DecidableEq, Repr

/-- Resolved ingress actions (R263). -/
structure Actions where
  ruleId : Nat
  disp : Nat
  polEn : Bool
  policer : Nat
  colour : Nat
  learn : Bool
  egtag : Nat
  flow : Nat
  target : Nat
  queue : Nat
  domain : Nat
  domainSet : Bool
  pcp : Nat
  pcpSet : Bool
deriving DecidableEq, Repr

/-- An entry of a fragment table (R282). -/
structure FragEntry where
  key : List Nat
  actions : Actions
  /-- Instant it was stored or last refreshed (R285). -/
  at_ : Time
deriving DecidableEq, Repr

/-- A fragment in the hold buffer (R284). -/
structure HeldFrag where
  pkt : Pkt
  key : List Nat
  since : Time
deriving DecidableEq, Repr

/-- Classification (chapter 08). -/
structure ClsSt where
  g0 : GenSlot := { state := .current }
  g1 : GenSlot := {}
  g2 : GenSlot := {}
  g3 : GenSlot := {}
  /-- Highest rule-generation number given (R275). -/
  lastGen : Word := 0
  /-- Tree memory words by pipeline × 2^20 + address; unlisted ones zero. -/
  tree : List (Nat × Word) := []
  /-- Tree words that read uncorrectable (R269), by the same key. -/
  treeBad : List Nat := []
  /-- Rule hit counters by (pipeline × 4 + slot) × 2^16 + RULE_ID (R263). -/
  hits : List (Nat × Word) := []
  /-- Fragment tables by pipeline: entries in the order they were stored. -/
  frags : List (Nat × List FragEntry) := []
  /-- Hold buffers by pipeline, oldest first. -/
  holds : List (Nat × List HeldFrag) := []
  /-- Recirculation ports: second-pass packets by pipeline, oldest first (R20). -/
  recirc : List (Nat × List Pkt) := []
  /-- The input that each pipeline served last; unlisted ones the last of the round (R23). -/
  served : List (Nat × Nat) := []
deriving DecidableEq, Repr

/-- A learn filter entry (R316). -/
structure LearnFilter where
  domain : Nat
  mac : Nat
  port : Nat
  reason : Nat
  until_ : Time
deriving DecidableEq, Repr

/-- A notification in the learn merge (R317, R318). -/
structure LearnItem where
  reason : Nat
  pipe : Nat
  port : Nat
  domain : Nat
  mac : Nat
  at_ : Time
  /-- Longcase time of that instant (R317). -/
  stamp : Int
  oldPort : Nat
  loc : Nat
  /-- Order of production, which breaks a tie within a pipeline (R318). -/
  order : Nat
deriving DecidableEq, Repr

/-- A route that a route batch has applied (R539). -/
structure Route where
  v6 : Bool
  addr : Nat
  plen : Nat
  nh : Nat
deriving DecidableEq, Repr

/-- Forwarding (chapter 09). -/
structure FwdSt where
  /-- MAC table words by word address, unlisted ones zero. -/
  mac : List (Nat × Word) := []
  /-- Trie memory words by word address, unlisted ones zero. -/
  trie : List (Nat × Word) := []
  /-- Words that read uncorrectable, and words that read with a correctable error: MAC at the word address, trie at 2^22 + the
  word address (R322). -/
  bad : List Nat := []
  soft : List Nat := []
  /-- Learn filters by pipeline. -/
  filters : List (Nat × List LearnFilter) := []
  merge : List LearnItem := []
  /-- Latest time of an item that each pipeline has offered to the merge (R318). -/
  offers : List (Nat × Time) := []
  /-- Notifications offered so far; SEQ of the next one (R317). -/
  made : Nat := 0
  seq : Nat := 0
  /-- Next way the sweep visits, what it read there, and ways seen locked at the latest visit (R313, R320, R321). -/
  sweep : Nat := 0
  lockedSeen : List Nat := []
  /-- Ring 1's head (R308). -/
  ring1Head : Nat := 0
  /-- Routes that route batches have put in the trie, and arrays they have unlinked, with the instant (R314, R539). -/
  routes : List Route := []
  freed : List (Nat × Time) := []
deriving DecidableEq, Repr

/-- A record of the Sideboard (R363, R364). -/
structure Record where
  seq : Word
  /-- Byte position in the segment, and its padded length. -/
  pos : Nat
  size : Nat
  recallOn : Bool
  /-- The repair key of its packet; none for a packet too short or a programme without one (R377). -/
  key : Option Nat
  /-- As it stands in the segment: header, packet, padding (R363, R364). -/
  stored : List Byte
deriving DecidableEq, Repr

/-- A programme's running state (R359 to R367); its settings stand in the dictionary. -/
structure Programme where
  /-- Bit n: DPn takes it live (R361). -/
  live : Nat := 0
  /-- Records held, oldest first. -/
  records : List Record := []
  nextSeq : Word := 0
  /-- Next byte of the segment. -/
  nextPos : Nat := 0
  /-- Last sequence of the latest packet tapped, for the gap flag; none before the first. -/
  lastSeq : Option (BitVec 12) := none
  gapNext : Bool := false
  /-- Sequences of the 16 latest recall points, newest first (R365). -/
  recalls : List Word := []
  /-- Bytes recorded in each of the latest 128 periods of 8 ms, newest first, and in the one under way (R367). -/
  window : List Nat := []
  windowNow : Nat := 0
  /-- Recorded rate, bit/s. -/
  rate : Nat := 0
  lastRecord : Option Time := none
  /-- Instant of its enabling or resizing (R367, R381). -/
  enabledAt : Option Time := none
  /-- Its segment was lost to a shrink (R382). -/
  lost : Bool := false
deriving DecidableEq, Repr

/-- A replay context (R372 to R376). -/
structure Replay where
  port : Nat
  programme : Nat
  /-- Sequence of the next record to issue. -/
  next : Word
  issuedBytes : Nat := 0
  lastBytes : Nat := 0
  startedAt : Time := 0
  outstanding : Nat := 0
  caughtAt : Option Time := none
  /-- Number of the replay (R374). -/
  serial : Nat := 0
deriving DecidableEq, Repr

/-- A membership the task keeps (R369, R370). -/
structure Membership where
  port : Nat
  programme : Nat
  last : Time
deriving DecidableEq, Repr

/-- The Sideboard (chapter 11). -/
structure SbSt where
  programmes : List (Nat × Programme) := []
  /-- Replay contexts in use, by number. -/
  contexts : List (Nat × Replay) := []
  /-- Number of the next replay; bytes issued in the 8 ms under way, and the contexts that have had their turn (R373). -/
  nextReplay : Nat := 0
  issuedNow : Nat := 0
  served : List Nat := []
  memberships : List Membership := []
  /-- Frames whose handles stand in the membership and the repair drawer, oldest first, with their port (R368, R378). -/
  memFrames : List (Nat × List Byte) := []
  repFrames : List (Nat × List Byte) := []
  /-- Tokens of the repair budgets by port, in 1/125,000 packets; unlisted ones full (R380). -/
  budgets : List (Nat × Nat) := []
  /-- Replayed packets and replies waiting at the recirculation ports, by pipeline (R20). -/
  waiting : List (Nat × List Pkt) := []
  /-- Result of the latest command through SB_CMD, and on paths H, L and S (R371, R385). -/
  resReg : BitVec 2 := 0
  resH : BitVec 2 := 0
  resL : BitVec 2 := 0
  resS : BitVec 2 := 0
deriving DecidableEq, Repr

end Sys2Proof.Machine
end

