-- ==== Sys2Proof/Machine/State/Engine.lean ====
section
/-!
DEFINITION. Machine/State/Engine.lean: what the bonding stage, the ciphers and the line engine hold (chapters 03 to 05 of
spec/).
-/

namespace Sys2Proof.Machine

/-- An entry of the line cipher (R109, R115, R116). -/
structure KeyEntry where
  key : Option (BitVec 256) := none
  count : Word := 0
  /-- KEY_WARN was raised since the key was written. -/
  warned : Bool := false
deriving DecidableEq, Repr

/-- Both cryptographic engines: 256 key entries and the check-value slots, unlisted ones empty (R109, R119). -/
structure CipherSt where
  keys : List (Nat × KeyEntry) := []
  slots : List (Nat × BitVec 256) := []
deriving DecidableEq, Repr

/-- An envelope after deciphering, as the bonding stage takes it (R100, R113). -/
structure BondEnv where
  seq : Nat
  since : Time
  first : Bool
  last : Bool
  recallOn : Bool
  failed : Bool
  payload : List Byte
  /-- Bytes it takes in the reorder pool (R102). -/
  size : Nat := 0
deriving DecidableEq, Repr

/-- A packet under reassembly (R107, R108). -/
structure OpenPkt where
  bytes : List Byte
  recallOn : Bool
  failed : Bool
  firstSeq : Nat
deriving DecidableEq, Repr

/-- A downstream flow in the bonding stage (R100 to R108); none as expected sequence: it re-anchors (R103). -/
structure BondFlow where
  expected : Option Nat := none
  /-- In the order of the sequence from the expected one on. -/
  held : List BondEnv := []
  lastAt : Option Time := none
  openPkt : Option OpenPkt := none
  /-- The flow's next packet is held for 8 µs: its pipeline has changed (R19, R559). -/
  holdNext : Bool := false
deriving DecidableEq, Repr

/-- A packet at the bonding stage's output: from when it may enter its pipeline (R19). -/
structure BondOut where
  pkt : Pkt
  ready : Time
deriving DecidableEq, Repr

/-- The bonding stage: flows by flow slot, output by pipeline. -/
structure BondSt where
  /-- Flow slot 8,192 stands for the management flow of R508. -/
  flows : List (Nat × BondFlow) := []
  /-- A slot of kind management has been enabled: the flow of R508 is replaced. -/
  mgmtReplaced : Bool := false
  /-- Cells that the reorder pool has in hand: an enlarged pool grows as cells are freed (R344). -/
  poolCells : Nat := 32768
  out : List (Nat × List BondOut) := []
deriving DecidableEq, Repr

/-- What the activation state machine holds beside ACT_STATUS and the delays (chapter 04).
(DESIGN CHOICE, log entry 159) -/
structure ActSt where
  /-- Provisional delay, and the ranging grant that is awaited: channel and frame of its request (R143). -/
  provDelay : Nat := 0
  ranging : Option (Nat × Word) := none
  rangingDue : Option Time := none
  /-- Delays set and not yet committed at a frame boundary, and the values they replaced (R144). -/
  delayPend : List (Nat × Nat) := []
  delayHist : List DelayChange := []
  lossDue : Option Time := none
  /-- Type, sequence and result of the last directed message acted on (R138). -/
  lastDirected : Option (Nat × Nat × Nat) := none
  /-- Stop record and nonce in the Chest (R149). -/
  stopRecord : Option (BitVec 32) := none
  /-- Enable consent and the Secretary's release (R150). -/
  consent : Bool := false
  release : Bool := false
  /-- States and end of a Sleep Allow's consent (R151). -/
  sleepStates : Nat := 0
  sleepUntil : Option Time := none
  /-- The loss timer stands for a consent period that remains after a wake (R153). -/
  lossIsConsent : Bool := false
  /-- PFAIL_N and BATT_N are low; Longcase at the fall; Dying Gasps sent by channel, unlisted ones 0 (R154, R155). -/
  pfailLow : Bool := false
  battLow : Bool := false
  pfailAt : Time := 0
  pfailLt : Int := 0
  gaspPending : Bool := false
  gaspSent : List (Nat × Nat) := []
  /-- Upstream messages waiting, oldest first: 44 bytes each, without check value (R140). -/
  outbox : List (List Byte) := []
  /-- Control messages that the line engine has taken from envelopes and not yet acted on (R86). -/
  inbox : List CtlMsg := []
  /-- Key Control switch: new index and frame (R137). -/
  keySwitch : Option (Nat × Word) := none
  /-- Lockout to be written to 0x2100.04 as a device commit (R79). -/
  lockoutDue : Option Bool := none
  /-- A Sleep Notice of this state waits for a burst; it has been placed in one; that burst has left (R152). -/
  noticePending : Option Nat := none
  noticePlaced : Bool := false
  noticeLeft : Bool := false
  /-- Upstream serial-number window answered in this frame (R142). -/
  snrFrame : Option Word := none
  /-- The line start release (R633). -/
  lineRelease : Bool := false
deriving DecidableEq, Repr

/-- An envelope in a burst or waiting for re-issue (R176 to R181). -/
structure OutEnv where
  laneB : Bool := false
  /-- Word offset of its header from the first envelope bit of its lane (R111). -/
  word : Nat := 0
  flow : Nat
  first : Bool
  last : Bool
  seq : Nat
  ciphered : Bool
  plain : List Byte
  /-- The header and the payload as sent. -/
  header : BitVec 64 := 0
  payload : List Byte := []
  /-- The generation slot that it keeps busy; none for control and idle envelopes and for a fragment but the last. -/
  gen : Option Nat := none
  admittedAt : Time := 0
  /-- Control message type, for an envelope that carries one. -/
  ctl : Option Nat := none
  /-- It is re-issued when its burst is lost (R181). -/
  data : Bool := false
  /-- Place in the order in which envelopes were first placed. -/
  order : Nat := 0
  /-- The queue it was drawn from and the packet as it stood there, for Wardrobe data that comes late (R182). -/
  src : Option (Nat × QPkt) := none
  /-- Its queue, and whether its packet is marked: its cells count against them while it waits for re-issue (R344). -/
  owner : Option (Nat × Bool) := none
  /-- The generation slot of its packet, and the number of the packet's stored data (R277). -/
  copy : Option (Nat × Nat) := none
deriving DecidableEq, Repr

/-- A tributary block: the frame it was sampled in, when it was built, its 160 words (R188, R392). -/
structure TribBlock where
  fc : Word
  builtAt : Time
  words : List (BitVec 64)
deriving DecidableEq, Repr

/-- What a filled grant carries. -/
structure Content where
  leadA : List (BitVec 64) := []
  leadB : List (BitVec 64) := []
  envs : List OutEnv := []
  idleWords : Nat := 0
  reports : Nat := 0
  /-- The prefetch of Wardrobe data has completed, or none was needed (R165). -/
  fetched : Bool := true
  /-- The tributary block it carries (R188). -/
  trib : Option TribBlock := none
deriving DecidableEq, Repr

/-- The kind of an own grant. -/
inductive GrantKind where
  | window | ranging | data
deriving DecidableEq, Repr

/-- An accepted grant (R161 to R163). -/
structure Grant where
  ch : Nat
  /-- Frame counter and start instant of its map's frame. -/
  fc : Word
  t0 : Time
  kind : GrantKind
  alloc : Nat
  /-- Allocation-ID slot. -/
  slot : Nat
  start : Nat
  /-- Start and length of the burst itself, in slots. -/
  burstAt : Nat
  len : Nat
  report : Bool
  /-- Delay in symbols (R163). -/
  delay : Nat
  preamble : Nat
  profile : Nat
  pattern : Nat
  delim : BitVec 64
  /-- Offset chosen in a serial-number window (R142). -/
  offset : Nat := 0
  content : Option Content := none
  started : Bool := false
deriving DecidableEq, Repr

/-- Grant filling (chapter 05). -/
structure UpSt where
  grants : List Grant := []
  /-- Re-issued envelopes by allocation-ID slot, oldest first (R181). -/
  reissue : List (Nat × List OutEnv) := []
  /-- Forecasts by slot, in eighths of a block (R186). -/
  forecast : List (Nat × Nat) := []
  /-- Next bonding sequence of each upstream flow (R99). -/
  seqs : List (Nat × Nat) := []
  /-- Report cursor: the next entry starts from the first enabled allocation ID not below it (R184). -/
  cursor : Nat := 0
  /-- Envelopes placed so far; tributary blocks built and not yet placed, oldest first (R188). -/
  placed : Nat := 0
  blocks : List TribBlock := []
  /-- Profiles as they were before recent Burst Profile messages, newest first (R170). -/
  profHist : List ProfChange := []
  /-- End of the latest burst that has left, by channel (R168). -/
  lastEnd : List (Nat × Time) := []
deriving DecidableEq, Repr

end Sys2Proof.Machine
end

