-- ==== Sys2Proof/Machine/State/Img.lean ====
section
/-!
DEFINITION. Machine/State/Img.lean: the image slots, the slot pointer, activation, and the Waifel sessions
(20_images_and_activation.md); what the boot sequence holds (21_start_up_signals_package.md).
-/

namespace Sys2Proof.Machine

/-- State of an image slot (R613), in the order of its codes. -/
inductive SlotImage where
  | empty | writing | staged | active | previous | invalid
deriving DecidableEq, Repr

/-- An image slot (R602, R612, R622). -/
structure ImgSlot where
  state : SlotImage := .empty
  /-- Total length of the transfer or the image, bytes. -/
  total : Nat := 0
  /-- Blocks written, by offset. -/
  blocks : List (Nat × List Byte) := []
  version : Nat := 0
  format : Nat := 0
  stagedS : Nat := 0
  stagedNs : Nat := 0
deriving DecidableEq, Repr

/-- The slot pointer (R602). -/
structure SlotPtr where
  seq : Word := 1
  active : Nat := 0
  previous : Option Nat := none
  trial : Bool := false
  starts : Nat := 0
deriving DecidableEq, Repr

/-- A Waifel session (R610, R611). -/
structure Session where
  opened : Bool := false
  clientNonce : BitVec 128 := 0
  terminalNonce : BitVec 128 := 0
  key : BitVec 256 := 0
  /-- Highest sequence accepted, and the sequence of the latest message sent. -/
  rxSeq : Nat := 0
  txSeq : Nat := 0
  lastAt : Time := 0
  /-- Slot of the transfer that is open. -/
  transfer : Option Nat := none
deriving DecidableEq, Repr

/-- An activation request that has not committed (R615, R621): its target, its time, or a frame boundary at or after an
instant. -/
structure ActRequest where
  target : Nat
  seconds : Nat
  ns : Nat
  /-- T is zero: the first frame boundary after the request's commit. -/
  boundary : Option Time
  /-- It waits behind a power change past its commit point. -/
  waits : Bool := false
deriving DecidableEq, Repr

/-- Images and activation. (DESIGN CHOICE, log entry 158) -/
structure ImgSt where
  /-- DESIGN CHOICE (log): slot A holds the running image as delivered. -/
  a : ImgSlot := { state := .active }
  b : ImgSlot := {}
  ptr : SlotPtr := {}
  /-- The record of the slot pointer that does not hold the higher sequence (R602). -/
  other : SlotPtr := { seq := 0 }
  request : Option ActRequest := none
  /-- A request that waits for one whose commit point has come (R30). -/
  next : Option ActRequest := none
  /-- Request state and code of R622. -/
  reqState : Nat := 0
  reqCode : Nat := 0
  /-- Start of the trial timer (R619). -/
  trialAt : Time := 0
  /-- The restore is complete, and a save has succeeded under the image (R619). -/
  restored : Bool := false
  savedUnder : Bool := false
  rollbackCause : Nat := 0
  rollbacks : Nat := 0
  serviceKey : Option (BitVec 256) := none
  /-- Sessions by ID 1 to 4; unlisted ones are free. -/
  sessions : List (Nat × Session) := []
deriving DecidableEq, Repr

/-- The boot (R632 to R634); its step, causes and flags stand in GL_BOOT. -/
structure BootSt where
  /-- Instant from which the start's bounds run. -/
  from_ : Time := 0
  /-- Step 1 waits for OSC_RDY. -/
  waiting : Bool := false
  /-- The latest thermal trip as the Chest has it, and one that the Secretary still has to copy to the event log (R594,
  R599). -/
  lastTrip : Word := 0
  tripOwed : Word := 0
deriving DecidableEq, Repr

end Sys2Proof.Machine
end

