-- ==== Sys2Proof/Machine/State/Mem.lean ====
section
/-!
DEFINITION. Machine/State/Mem.lean: the memory complex but for the bytes themselves (14_memory_complex.md).
-/

namespace Sys2Proof.Machine

/-- State of a rank (R464), in the order of its codes. -/
inductive RankState where
  | inService | failed | migrating | retired | withdrawing | withdrawn | spareFree | spareUsed | spareFailed | absent
  | noHome
deriving DecidableEq, Repr

/-- A running migration (R455 to R459). -/
structure Migration where
  /-- Failed rank (s, r) at 4s + r. -/
  rank : Nat
  /-- Spare rank of HB4; none for a withdrawal. -/
  spare : Option Nat
  /-- Steps committed. -/
  done : Nat := 0
  /-- First block not yet looked at, and in a withdrawal the donors taken or passed over. -/
  next : Nat := 0
  donor : Nat := 0
deriving DecidableEq, Repr

/-- The memory complex. -/
structure MemSt where
  /-- Effective sizes in GiB: reserved, tables, Wardrobe, Sideboard, CXL.mem window (R446, R447). -/
  sizes : List Nat := [2, 8, 64, 48, 6]
  /-- C in GiB (R446). -/
  capacity : Nat := 128
  /-- g in effect (R448). -/
  grain : Nat := 12
  /-- Rank (s, r) at 4s + r; unlisted ones as the part has them. -/
  ranks : List (Nat × RankState) := []
  /-- A spare has been taken: HB4 has left power-down (R445, R550). -/
  hb4Taken : Bool := false
  /-- Where the blocks of a rank lie: a pair (n, j) says that blocks below n lie on spare (4, j), the first such pair of a
  rank counting; a block that no pair names lies on the rank itself (R449, R455, R462). -/
  places : List (Nat × List (Nat × Nat)) := []
  /-- Failed ranks awaiting migration in the order in which they failed, with the spare each has taken (R455, R456). -/
  waiting : List (Nat × Option Nat) := []
  migration : Option Migration := none
  /-- Withdrawal maps: a moved block, as rank × 2^21 + block, and its donor (R459). -/
  maps : List (Nat × Nat) := []
  /-- Map entries that the on-die cache holds, newest first (R459). -/
  mapCache : List Nat := []
  /-- PHY delay registers by stack, as loaded from its calibration record (R450). -/
  phy : List (Nat × List Byte) := []
  /-- Poisoned 64-byte lines by physical line number (R458). -/
  poison : List Nat := []
  /-- Correctable errors of each rank: Longcase hour and count in it (R454). -/
  ceCount : List (Nat × (Nat × Nat)) := []
  /-- Instant of each rank's latest parity error (R454). -/
  parityAt : List (Nat × Time) := []
deriving DecidableEq, Repr

end Sys2Proof.Machine
end

