-- ==== Sys2Proof/Machine/State/Port.lean ====
section
/-!
DEFINITION. Machine/State/Port.lean: what the serial lanes and the drop ports hold (07_drop_ports_and_lanes.md). The lane
test unit's own state stands in its registers.
-/

namespace Sys2Proof.Machine

/-- A serial lane. (DEDUCED, log entry 168) -/
structure SerialLane where
  /-- Bring-up state, coded as R227. -/
  st : Nat := 0
  /-- The quiet period of R228 runs in Detect. -/
  quiet : Bool := false
  /-- Lock was entered from Active and keeps its training (R229). -/
  relock : Bool := false
  /-- Precoding agreed in training, by direction (R226, R250). -/
  precodeTx : Bool := false
  precodeRx : Bool := false
  /-- Clause 73 found no common ability (R226). -/
  noHcd : Bool := false
  /-- The lane test's checker, on its block's lane: the instant from which it has compared, bits, bit errors and symbols in error
  of that lock that stand in the counters already (R238, R239). -/
  lockAt : Time := 0
  counted : Nat := 0
  injected : Nat := 0
  symCounted : Nat := 0
deriving DecidableEq, Repr

/-- A drop port's MAC. -/
structure Port where
  /-- Frames in the receive buffer, oldest first, FCS included (R243). -/
  rx : List (List Byte) := []
  /-- An XOFF stands; instant of the latest one sent (R248). -/
  xoff : Bool := false
  xoffAt : Time := 0
  /-- Ends of the partner's pauses by priority, in the order of the priorities; 0 is no pause (R247). -/
  paused : List (Nat × Time) := []
deriving DecidableEq, Repr

end Sys2Proof.Machine
end

