-- ==== Sys2Proof/Machine/State/Power.lean ====
section
/-!
DEFINITION. Machine/State/Power.lean: what the power controller holds (18_power_and_lifeline.md).
-/

namespace Sys2Proof.Machine

/-- A request for a change (R552): target 1 Run full, 2 Run lifeline, 3 Sleep, 4 Deep sleep, 5 Off. -/
structure PwReq where
  target : Nat
  /-- Sleep period, s. -/
  period : Nat := 0
  origin : PowerOrigin
  /-- It is the controller's request of R557, or its end. -/
  mains : Bool := false
deriving DecidableEq, Repr

/-- How far a request has come: it waits for a switch or an activation, it is pending before P, it runs after P (R555,
R556). -/
inductive PwPhase where
  | waits | pending | running
deriving DecidableEq, Repr

/-- The request in force (R554). -/
structure PwChange where
  req : PwReq
  phase : PwPhase
  /-- End of NOTICE_WAIT, while a Sleep Notice is awaited (R554). -/
  noticeDue : Option Time := none
  /-- The Firescreen's power-change hold has begun. -/
  held : Bool := false
  /-- The retention commit at P + 3 has been made (R554, R566). -/
  retained : Bool := false
  /-- It was allowed by loss of line, not by consent (R553). -/
  byLoss : Bool := false
deriving DecidableEq, Repr

/-- A wake under way (R567): its source, rails still to be raised, rails raised, and the wait for OSC_RDY. -/
structure PwWake where
  source : Nat
  /-- State it started from. -/
  from_ : Nat
  raise : List Nat := []
  raised : List Nat := []
  oscDue : Option Time := none
  /-- Run lifeline follows, decided at the wake (R563). -/
  lifeline : Bool := false
deriving DecidableEq, Repr

/-- The power controller. -/
structure PwrSt where
  /-- State of R547 and profile: lifeline or full. -/
  state : Nat := 0
  lifeline : Bool := false
  /-- Lifeline was entered by R557. -/
  mainsLifeline : Bool := false
  change : Option PwChange := none
  /-- A request that waits for the running change (R555). -/
  next : Option PwReq := none
  /-- Results of the last requests on paths L and S (R572). -/
  resL : Nat := 0
  resS : Nat := 0
  wake : Option PwWake := none
  /-- Domains that the change in force takes out of Run, from step 4 of R554 on. -/
  stopping : List Nat := []
  /-- Domains that have been off since they last ran (R550, R576). -/
  cold : List Nat := []
  /-- Rails that are down (R551, R593). -/
  railsDown : List Nat := []
  /-- Rails still to be lowered, next first, and the tries of the rail that is waited for (R561). -/
  lower : List Nat := []
  tries : Nat := 0
  /-- The thermal shutdown in progress may isolate from this instant on (R593). -/
  isolateDue : Option Time := none
  /-- Thermal shutdown: rails go down and every wake source is ignored (R593, R594). -/
  shutdown : Bool := false
  /-- Thermal shutdown has isolated the domains (R593). -/
  isolated : Bool := false
  /-- Home channel of the number held last (R558). -/
  home : Nat := 0
  /-- Loss of line holds (R553). -/
  lossOfLine : Bool := false
  /-- Ends of LL_HOLD and LL_RESTORE (R557). -/
  holdDue : Option Time := none
  restoreDue : Option Time := none
  /-- Line timer of the lower state (R565). -/
  lineTimer : Option Time := none
  /-- WAKE as it stands (R563). -/
  wakeHigh : Bool := false
  /-- The latest edge source seen while a change ran after its retention commit (R566). -/
  edge : Option Nat := none
  /-- Entered without consent; consent's end for a wake from Deep sleep (R153, R565). -/
  enteredByLoss : Bool := false
  consentEnd : Time := 0
  /-- Management packets held in Sleep, oldest first; occupancy and age of the reports, sampled at entry, by
  allocation-ID slot (R549). -/
  heldMgmt : List (List Byte) := []
  sleepReports : List (Nat × Nat) := []
  sleepAges : List (Nat × Nat) := []
  /-- FAULT_N asserted (R562, R568). -/
  fault : Bool := false
  /-- Wakes failed since the Secretary last ran (R568). -/
  failsOwed : Nat := 0
deriving DecidableEq, Repr

end Sys2Proof.Machine
end

