-- ==== Sys2Proof/Machine/State/Sec.lean ====
section
/-!
DEFINITION. Machine/State/Sec.lean: the Secretary, the service clusters and the Bench (17_secretary_and_bench.md).
-/

namespace Sys2Proof.Machine

/-- What the event log tells of (R33, R522, R594, R605, R618, R620). -/
inductive LogKind where
  | secretaryRestart | clusterRestart | thermalTrip | slotFailed | commitsLost | activation | rollback
  | saveFailed
deriving DecidableEq, Repr

/-- A record of the event log: what happened, with a number that tells which, and the Longcase time (R602). -/
structure LogRec where
  kind : LogKind
  value : Nat
  seconds : Nat
  ns : Nat
deriving DecidableEq, Repr

/-- State of a service cluster (R530). -/
inductive ClusterState where
  | off | loading | running | failed
deriving DecidableEq, Repr

/-- A service cluster: its state and the instants of its latest faults (R529, R530, R538). -/
structure Cluster where
  state : ClusterState := .off
  faults : List Time := []
deriving DecidableEq, Repr

/-- State of a live task (R535); a task that is done is free again in the same cycle. -/
inductive TaskState where
  | waiting | ready | running
deriving DecidableEq, Repr

/-- A live task (R532 to R542). -/
structure Task where
  state : TaskState
  ty : Nat
  context : Nat
  /-- Predecessors still to come. -/
  dep : Nat
  /-- The first NSUCC successors. -/
  succs : List Nat
  cont : Bool
  arg : Word
  vec : Nat
  tag : BitVec 32
  /-- Instant it became ready, and its place among the ready. -/
  readyAt : Time := 0
  order : Nat := 0
  redispatched : Bool := false
  startedAt : Time := 0
  /-- The drawer item that a firmware task works on (R527). -/
  item : List Word := []
deriving DecidableEq, Repr

/-- A service core (R540, R544). -/
structure Core where
  lastType : Nat := 0
  lastContext : Nat := 0
  busy : Option Nat := none
deriving DecidableEq, Repr

/-- The Secretary and the Bench. -/
structure SecSt where
  /-- The Secretary restarts (R528, R33). -/
  restarting : Bool := false
  /-- Paths whose commanded restart is answered after it (R545). -/
  answers : List Path := []
  /-- Cause of its last start (R545). -/
  cause : Nat := 0
  clusters : List (Nat × Cluster) := []
  tasks : List (Nat × Task) := []
  cores : List (Nat × Core) := []
  nextOrder : Nat := 0
  /-- Result of the latest cancel (R541). -/
  cancelResult : BitVec 2 := 0
  /-- Completions waiting for their ring, oldest first, with their vectors (R543). -/
  completions : List (List Word × Nat) := []
  /-- Vectors of completions written since the ring's last write-back (R536). -/
  vectors : List Nat := []
  /-- Event log in the Chest, newest first; the first record ever has sequence 1 (R33, R600). -/
  log : List LogRec := []
deriving DecidableEq, Repr

end Sys2Proof.Machine
end

