-- ==== Sys2Proof/Machine/State/Time.lean ====
section
/-!
DEFINITION. Machine/State/Time.lean: what Longcase holds (13_longcase_time.md).
-/

namespace Sys2Proof.Machine

/-- Servo states (R423). -/
inductive Servo where
  | free | acquiring | locked | holdover
deriving DecidableEq, Repr

/-- A recorded frame (R420). -/
structure HistFrame where
  fc : Word
  /-- Longcase time at t0, in units of 2^-16 ns. -/
  local_ : Int
  /-- Equalisation delay of the current path, symbols. -/
  eqd : Nat
  usable : Bool
deriving DecidableEq, Repr

/-- Longcase. Its value is kept at an instant, with what makes it run since (R416, R419, R424). -/
structure Longcase where
  /-- Value at the instant, in units of 2^-16 ns. -/
  base : Int := 0
  at_ : Time := 0
  /-- Frequency trim in units of 2^-48 (R424). -/
  trim : Int := 0
  /-- Phase correction still to be slewed, units of 2^-16 ns (R424). -/
  slew : Int := 0
  valid : Bool := false
  servo : Servo := .free
  /-- Successive offsets within, and outside, ±10 ns (R423). -/
  inRun : Nat := 0
  outRun : Nat := 0
  /-- Successive outliers of one sign, signed (R425). -/
  outlierRun : Int := 0
  /-- Instant of the latest accepted offset since PD2 entered Run (R424). -/
  lastAccepted : Option Time := none
  /-- Instant at which PD2 entered Run (R424). -/
  runAt : Time := 0
  /-- Latest offset, units of 2^-16 ns (LT_OFFSET). -/
  offset : Int := 0
  steps : Word := 0
  /-- History of the last 64 frames, newest first (R420). -/
  history : List HistFrame := []
  /-- A held Time of Day: frame, and the head end's time in units of 2^-16 ns (R421). -/
  heldTod : Option (Word × Nat) := none
  /-- SET is armed, in this second (R427). -/
  setArmed : Option Nat := none
  /-- Value from which running time has yet to reach a boundary: after the latest step, or past the latest pulse's (R429, R439). -/
  edgeFrom : Int := 0
  /-- TIME_PPS is high; instant of its latest rise (R429). -/
  pps : Bool := false
  ppsAt : Time := 0
  /-- A serial time message is due for the edge of this second, 10 ms after it (R430). -/
  todDue : Option Nat := none
  /-- Latches of LT_NOW_SEC, LT_NOW_NS32 and LT_STEPS (R437). -/
  latchSec : Word := 0
  latchNs32 : Word := 0
  latchSteps : Word := 0
  /-- Whole seconds counted by the always-on domain (R418). -/
  alwaysOn : Nat := 0
  alwaysOnAt : Time := 0
  /-- Stamp report sequence numbers by port (R436). -/
  reportSeq : List (Nat × BitVec 16) := []
deriving DecidableEq, Repr

end Sys2Proof.Machine
end

