-- ==== Sys2Proof/Machine/State/Trib.lean ====
section
/-!
DEFINITION. Machine/State/Trib.lean: what the tributary unit holds (12_tributaries_and_overhead.md).
-/

namespace Sys2Proof.Machine

/-- Runs of three that set and clear a tributary's defects (R401). -/
structure TribRuns where
  miss : Nat := 0
  here : Nat := 0
  uneq : Nat := 0
  plm : Nat := 0
  ais : Nat := 0
deriving DecidableEq, Repr

/-- The test-pattern checker (R237, R403): its 15 bits, error-free bits toward the lock, compared and errored bits of the
block of 1,024 under way. -/
structure TribChecker where
  lock : Bool := false
  state : Nat := 0
  good : Nat := 0
  seen : Nat := 0
  bad : Nat := 0
deriving DecidableEq, Repr

/-- How far G.704 alignment is (R406). -/
inductive GPhase where
  | hunt | fas | nfas | aligned
deriving DecidableEq, Repr

/-- G.704 alignment of a tributary in highway mode: last 8 bits, bits of the frame under way and their number, FAS frame or
not, successive errored FAS (R406). -/
structure GAlign where
  phase : GPhase := .hunt
  last : Nat := 0
  pos : Nat := 0
  acc : Nat := 0
  isFas : Bool := false
  errs : Nat := 0
deriving DecidableEq, Repr

/-- A tributary. Its defects, label and RDI stand in TB_STATUS. -/
structure Trib where
  /-- Input buffer, oldest first: a fill of 32 at the start (R397). -/
  buf : List Bool := List.replicate 32 false
  runs : TribRuns := {}
  /-- Pattern generator of the upstream container (R394). -/
  gen : Nat := 0x7FFF
  chk : TribChecker := {}
  align : GAlign := {}
  /-- Slip buffer of two frames, and the frame delivered last (R407). -/
  slip : List (List Byte) := []
  lastFrame : List Byte := List.replicate 32 255
  /-- The slip buffer has been filled to its centre since the tributary was last aligned and without defect. -/
  primed : Bool := false
deriving DecidableEq, Repr

/-- The tributary unit. -/
structure TribSt where
  tribs : List (Nat × Trib) := []
  /-- Connection memory: entry e downstream at e, upstream at 512 + e; unlisted ones 0 (R409). -/
  active : List (Nat × Word) := []
  standby : List (Nat × Word) := []
  /-- The page saved with the persistent entries (R411). -/
  saved : List (Nat × Word) := []
  /-- End of the standby copy, and of the two frames after a change of highway mode (R410, R411). -/
  copyDue : Option Time := none
  changeDue : Option Time := none
  /-- The next upstream frame carries a FAS (R408). -/
  fasNext : Bool := true
  /-- Frame counter and instant of the latest frame boundary (R39). -/
  fc : Word := 0
  frameAt : Option Time := none
  /-- Instant of the swap request that is pending (R410). -/
  swapAsked : Time := 0
deriving DecidableEq, Repr

end Sys2Proof.Machine
end

