-- ==== Sys2Proof/Machine/State.lean ====
section
/-!
DEFINITION. Machine/State.lean: the state of the block, as plain data; its faults and refusals; the state after reset.
-/

namespace Sys2Proof.Machine

/-- What stops the block with a fault: nothing. The spec gives every condition an effect on state, so no meaning raises
one; the constructor names an access outside every place the spec describes, should a later row bring one. Safe. -/
inductive Fault where
  | noSuchPlace
deriving DecidableEq, Repr

/-- What stops the block with a refusal. -/
inductive Refusal where
  /-- The command has no meaning in the model yet; raised by the dispatcher's arm of it. Safe. -/
  | notModelled (mnemonic : String)
deriving DecidableEq, Repr

/-- Everything the spec gives the part but the bytes of the in-package memory and the queue of commands. -/
structure Dev where
  part : Part := .az9616
  /-- Instant of the latest command that brought one. -/
  now : Time := 0
  /-- Index of the next free value. -/
  freeCtr : Nat := 0
  /-- What left the part, newest first. -/
  emitted : List Emission := []
  /-- PORST_N is low: the part is in reset (R630). -/
  porstLow : Bool := true
  /-- BAR0 registers by offset; unlisted ones at their reset values. -/
  regs : List (Nat × Word) := []
  /-- Dictionary entries by index × 256 + subindex; unlisted ones at their defaults. -/
  dict : List (Nat × List Byte) := []
  cnt : CounterSt := {}
  host : HostSt := {}
  cab : Cabinet := {}
  mon : Monitors := {}
  /-- Line channels by number; unlisted ones as at reset. -/
  chans : List (Nat × Chan) := []
  prot : Prot := {}
  /-- Serial lanes: drop lane n at n, line lane A or B of LCc at 96 + 2c or 97 + 2c receiving, 128 + 2c or 129 + 2c
  transmitting (R222). -/
  lanes : List (Nat × SerialLane) := []
  ports : List (Nat × Port) := []
  bond : BondSt := {}
  cipher : CipherSt := {}
  act : ActSt := {}
  fs : FsSt := {}
  up : UpSt := {}
  lc : Longcase := {}
  tm : TmSt := {}
  cls : ClsSt := {}
  fwd : FwdSt := {}
  sb : SbSt := {}
  mc : MemSt := {}
  sec : SecSt := {}
  pwr : PwrSt := {}
  trib : TribSt := {}
  dic : DictSt := {}
  img : ImgSt := {}
  boot : BootSt := {}
deriving DecidableEq, Repr

/-- In-package memory: the bytes of the physical address space (R448); unlisted ones read as 0.
(DEDUCED; DESIGN CHOICE, log entries 83, 97) -/
structure Memory where
  cells : List Host.Cell := []
deriving DecidableEq, Repr

/-- The state of the block. -/
structure State where
  /-- Commands waiting, first in first out. -/
  pending : List Instr := []
  mem : Memory := {}
  dev : Dev := {}
deriving DecidableEq, Repr

/-- The block in reset (R630): PORST_N low, everything at its reset value. (DEDUCED, log entry 1) -/
def State.reset : State := {}

end Sys2Proof.Machine
end

