-- ==== Sys2Proof/Machine/Ops.lean ====
section
/-!
DEFINITION. Machine/Ops.lean: the named operations every unit uses: time, registers, events, counters, drawers, vectors,
free values, dictionary values, and the lift from the device to the whole state.
-/

namespace Sys2Proof.Machine

/-- The block's outcomes. -/
abbrev Out := Host.Outcome State Fault Refusal

/-! ## Lift and time -/

/-- What a command does to the device: nothing while PORST_N is low (R630), f otherwise. -/
def onDev (f : Dev → Dev) (s : State) : Out :=
  .next { s with dev := if s.dev.porstLow then s.dev else f s.dev }

/-- What leaves the part. (DESIGN CHOICE, log entry 7) -/
def emit (e : Emission) (d : Dev) : Dev := { d with emitted := e :: d.emitted }

/-- The next free value, and the device with its index advanced. (DESIGN CHOICE, log entry 8) -/
def nextFree (d : Dev) : Nat × Dev := (d.freeCtr, { d with freeCtr := d.freeCtr + 1 })

/-! ## Longcase reading (R416, R417) -/

/-- How far a phase correction has been slewed, units of 2^-16 ns, at ns per second (R424). -/
def slewed (slew : Int) (rate elapsed : Nat) : Int :=
  let k : Nat := min slew.natAbs (rate * elapsed * 65536 / Config.sec)
  if slew < 0 then -(k : Int) else (k : Int)

/-- Longcase's value at an instant, units of 2^-16 ns, MAX_SLEW given (R416, R419, R424). (DEDUCED, log entry 94) -/
def ltValue (l : Longcase) (rate : Nat) (t : Time) : Int :=
  let e := t - l.at_
  let ticks : Int := (e : Int) * 65536 / 425
  l.base + ticks + ticks * l.trim / (2 ^ 48 : Int) + slewed l.slew rate e

/-- SECONDS, NS and FRAC of a Longcase value (R416). -/
def ltSplit (v : Int) : Nat × Nat × Nat :=
  let n := v.toNat
  (n / (65536 * 1000000000) % 2 ^ 48, n / 65536 % 1000000000, n % 65536)

/-! ## Registers (R12 to R15, R473) -/

/-- Offset of instance i of a register. -/
def regOffset (r : Reg) (i : Nat) : Nat := (regPlace r).1 + (regPlace r).2.1 * i

/-- DRW_CTRL.CONSUMER at reset, by drawer (R493). -/
def consumerReset (d : Nat) : Nat := if d < 3 ∨ d = 6 ∨ d = 7 then 2 else 1

/-- MC_REG GUARANTEE and LIMIT by port (R453). -/
def mcRegReset : Nat → Nat × Nat
  | 0 => (6400, 12800)
  | 1 => (3200, 6400)
  | 2 => (200, 1600)
  | 3 => (250, 500)
  | _ => (200, 1600)

/-- TH_VWIN LOW and HIGH by rail (R595). -/
def vwinReset : Nat → Nat × Nat
  | 0 => (40, 40)
  | 1 => (712, 788)
  | 2 => (1140, 1260)
  | 3 => (1045, 1155)
  | 4 => (380, 420)
  | 5 => (1710, 1890)
  | _ => (760, 840)

/-- Reset value of a register's stored bits. (DEDUCED, log entry 157) -/
def regReset (r : Reg) (i : Nat) : Word :=
  match r with
  | .drwCtrl => BitVec.ofNat 48 (consumerReset i)
  | .mcReg => BitVec.ofNat 48 ((mcRegReset i).2 * 65536 + (mcRegReset i).1)
  | .thVwin => BitVec.ofNat 48 ((vwinReset i).2 * 65536 + (vwinReset i).1)
  | r => BitVec.ofNat 48 ((regFields r).foldl (fun a f => a + f.reset % 2 ^ (f.hi - f.lo + 1) * 2 ^ f.lo) 0)

/-- The stored bits of a register. -/
def reg (d : Dev) (r : Reg) (i : Nat) : Word := agetD d.regs (regOffset r i) (regReset r i)

/-- A register's stored bits set. -/
def setReg (r : Reg) (i : Nat) (v : Word) (d : Dev) : Dev :=
  { d with regs := aputD d.regs (regOffset r i) v (regReset r i) }

/-- A stored field. -/
def fld (d : Dev) (f : Fld) (i : Nat) : Nat := bitsOf (reg d f.reg i).toNat f.hi f.lo

/-- A stored field set. -/
def setFld (f : Fld) (i v : Nat) (d : Dev) : Dev :=
  setReg f.reg i (BitVec.ofNat 48 (withBits (reg d f.reg i).toNat f.hi f.lo v)) d

/-! ## Vectors and events (R494, R584) -/

/-- A vector's message: sent where the vector is unmasked, held otherwise (R494). (PRESUMED, log entry 21) -/
def signal (v : Nat) (d : Dev) : Dev :=
  if v ∈ d.host.unmasked then emit (.msix v) d
  else if v ∈ d.host.heldVectors then d
  else { d with host := { d.host with heldVectors := v :: d.host.heldVectors } }

/-- The event registers of the units (R584). -/
def eventRegs : List Reg :=
  [Reg.lcEvent, Reg.cyEvent, Reg.actEvent, Reg.leGrantEvent, Reg.fsEvent, Reg.dpEvent, Reg.clEvent, Reg.fwEvent,
   Reg.tmEvent, Reg.wdEvent, Reg.sbEvent, Reg.trEvent, Reg.tbEvent, Reg.ltEvent, Reg.mcEvent, Reg.glEvent,
   Reg.mbEvent, Reg.bnEvent, Reg.pwEvent, Reg.cnEvent, Reg.thEvent, Reg.cabEvent]

/-- An offset is an instance of a register. -/
def isRegAt (o : Nat) (r : Reg) : Bool :=
  let (b, s, n) := regPlace r
  if s = 0 then o == b else b ≤ o && o < b + s * n && (o - b) % s == 0

/-- The unit of an offset has an event bit set (R584). -/
def unitEvent (d : Dev) (u : Nat) : Bool :=
  d.regs.any (fun e => e.1 / 0x100000 == u && e.2 != 0 && eventRegs.any (isRegAt e.1))

/-- CN_SUMMARY (R584). -/
def summaryBits (d : Dev) : Nat := (List.range 21).foldl (fun a u => a + (unitEvent d u).toNat * 2 ^ u) 0

/-- An event bit set; vector 0 where its unit's summary bit rises under the mask (R584). -/
def raise (f : Fld) (i : Nat) (d : Dev) : Dev :=
  let u := regOffset f.reg i / 0x100000
  let was := unitEvent d u
  let d := setFld f i 1 d
  if !was && (fld d fCN_SUMMARY_MASK_MASK 0).testBit u then signal 0 d else d

/-- An event bit set where the condition holds. -/
def raiseIf (c : Bool) (f : Fld) (i : Nat) (d : Dev) : Dev := if c then raise f i d else d

/-! ## Counters (R574 to R580) -/

/-- The model's key of a counter. -/
def ckey (c : CName) (scope : Nat) : Nat := cnameIndex c * 65536 + scope

/-- A counter's value. -/
def counter (d : Dev) (c : CName) (scope : Nat) : Word := agetD d.cnt.values (ckey c scope) 0

/-- Selectable counter k set (R579). -/
def selPut (k v : Nat) (d : Dev) : Dev :=
  { d with cnt := { d.cnt with sel := aputD d.cnt.sel k (BitVec.ofNat 48 v) 0 } }

/-- Selectable counter k wraps: its flag, and the event of R575 (R579). -/
def selWrap (k : Nat) (d : Dev) : Dev := raise fCN_EVENT_WRAP 0 (setFld fSC_CFG_WRAP k 1 d)

/-- Selectable counter k raised by n, with its wrap and the chained carry (R579, R580). -/
def selAdd (k n : Nat) (d : Dev) : Dev :=
  let v := (agetD d.cnt.sel k 0).toNat + n
  let w := (agetD d.cnt.sel (k + 1) 0).toNat + 1
  if v < 2 ^ 48 then selPut k v d
  else if k % 2 = 0 ∧ fld d fSC_CFG_CHAIN (k + 1) = 1 ∧ fld d fSC_CFG_EN (k + 1) = 1 then
    if w < 2 ^ 48 then selPut (k + 1) w (selWrap k (selPut k v d))
    else selWrap (k + 1) (selPut (k + 1) w (selWrap k (selPut k v d)))
  else selWrap k (selPut k v d)

/-- Every selectable counter on a source raised by an amount of it that so many increments of the source made up (R579). -/
def selFeed (isSource : Nat → Bool) (n increments : Nat) (d : Dev) : Dev :=
  (List.range 64).foldl (fun d k =>
    let chained := k % 2 = 1 ∧ fld d fSC_CFG_CHAIN k = 1
    if fld d fSC_CFG_EN k = 1 ∧ ¬ chained ∧ isSource (fld d fSC_CFG_SOURCE k) then
      selAdd k (if fld d fSC_CFG_MODE k = 1 then increments else n) d
    else d) d

/-- Some selectable counter is switched on; the sources then need looking at. -/
def selActive (d : Dev) : Bool :=
  d.regs.any (fun e => isRegAt e.1 .scCfg && e.2.toNat.testBit 47)

/-- The wrap flag of a counter's number (R575). -/
def wrapFlag (num : Option Nat) (d : Dev) : Dev :=
  match num with
  | some n => setReg .cnWrap (n / 48) (reg d .cnWrap (n / 48) ||| BitVec.ofNat 48 (2 ^ (n % 48))) d
  | none => d

/-- A per-event counter raised by an amount, with its wrap (R574, R575) and the selectable counters on it (R579).
(DEDUCED, log entries 11, 12) -/
def countN (c : CName) (scope n : Nat) (d : Dev) : Dev :=
  if n = 0 then d
  else
    let v := (counter d c scope).toNat + n
    let d := { d with cnt := { d.cnt with values := aputD d.cnt.values (ckey c scope) (BitVec.ofNat 48 v) 0 } }
    let d := if selActive d then
        selFeed (fun src => counterAt src == some (cnameIndex c, scope)) n (if byteCounter c then 1 else n) d
      else d
    if v < 2 ^ 48 then d
    else raise fCN_EVENT_WRAP 0 (wrapFlag (counterNumber (cnameIndex c) scope) d)

/-- A per-event counter raised by one. -/
def count (c : CName) (scope : Nat) (d : Dev) : Dev := countN c scope 1 d

/-! ## Time -/

/-- Time moves on to a command's instant; the selectable counters on the core clock, which stands in the lower states, and
on Longcase follow (R548, R579). (DEDUCED, log entry 4) -/
def tick (t : Time) (d : Dev) : Dev :=
  let t' := max d.now t
  let d' := { d with now := t' }
  if selActive d then
    let rate := fld d fLT_SERVO_MAX_SLEW 0
    let a := ltValue d.lc rate d.now
    let b := ltValue d.lc rate t'
    let cycles := t' / Config.cycle - d.now / Config.cycle
    let nanos := (b / 65536 - a / 65536).toNat
    let d' := if d.pwr.state = 0 ∧ cycles ≠ 0 then selFeed (· == 0x1FFFF) cycles cycles d' else d'
    if nanos = 0 then d' else selFeed (· == 0x1FFFE) nanos nanos d'
  else d'

/-- A command that brings its instant. -/
def at_ (t : Time) (f : Dev → Dev) (s : State) : Out := onDev (fun d => f (tick t d)) s

/-- A frame boundary has come since an instant (R39). -/
def boundarySince (t : Time) (d : Dev) : Bool :=
  match d.trib.frameAt with
  | some b => decide (t ≤ b)
  | none => false

/-- A TIME as Longcase counts it, in units of 2^-16 ns. -/
def ltOf (seconds nanos : Nat) : Int := ((seconds * 1000000000 + nanos) * 65536 : Nat)

/-- Longcase's value now. -/
def ltNow (d : Dev) : Int := ltValue d.lc (fld d fLT_SERVO_MAX_SLEW 0) d.now

/-- The stamp word of drawer items: SECONDS bits 15:0, then NS (R317). -/
def stampWord (v : Int) : Word :=
  let (s, n, _) := ltSplit v
  BitVec.ofNat 48 (s % 65536 * 2 ^ 32 + n)

/-! ## Drawers (R483 to R493) -/

/-- Items a drawer holds at most. -/
def drawerDepth (n : Nat) : Nat := if n = 1 then 32 else if n = 2 then 16 else 64

/-- Words of a drawer's item. -/
def drawerWords (n : Nat) : Nat := if n = 0 then 4 else if n = 2 then 1 else if n = 3 then 3 else 2

/-- A drawer. -/
def drawer (d : Dev) (n : Nat) : Drawer := agetD d.host.drawers n {}

/-- A drawer set. -/
def setDrawer (n : Nat) (w : Drawer) (d : Dev) : Dev :=
  { d with host := { d.host with drawers := aputD d.host.drawers n w {} } }

/-- Consumer of a drawer: 0 read port, 1 host ring, 2 firmware; 3 acts as 2 (R485, R491). -/
def consumer (d : Dev) (n : Nat) : Nat := min (fld d fDRW_CTRL_CONSUMER n) 2

/-- The level rule after the occupancy has changed (R488). -/
def levelCheck (n : Nat) (d : Dev) : Dev :=
  let w := drawer d n
  let occ := w.items.length
  if w.level = 0 then d
  else if occ < w.level then setDrawer n { w with armed := true } d
  else if w.armed then
    let d := setDrawer n { w with armed := false } d
    if consumer d n = 1 then d else signal (8 + n) d
  else d

/-- The drawer takes an item: it has room, and no flush falls in this cycle (R483, R487). -/
def drawerRoom (d : Dev) (n : Nat) : Bool :=
  decide ((drawer d n).items.length < drawerDepth n) && decide ((drawer d n).flushedAt ≠ some d.now)

/-- An item entered; dropped and counted where the drawer is full, or flushed in this cycle (R483, R487, R493).
(DEDUCED, log entry 181) -/
def post (n : Nat) (item : List Word) (d : Dev) : Dev :=
  let w := drawer d n
  if !drawerRoom d n then count .drwDropped n d
  else
    levelCheck n (count .drwPosted n (setDrawer n { w with
      items := w.items ++ [item], lastEnter := d.now, entered := if w.lastEnter = d.now then w.entered + 1 else 1 } d))

/-- Items that the producer entered in this very cycle and that the drawer still holds (R487). -/
def enteredNow (d : Dev) (w : Drawer) : Nat := if w.lastEnter = d.now then min w.entered w.items.length else 0

/-- A drawer flushed: an item that entered in the flush's own cycle counts as dropped (R487); the frames whose handles stood in
drawers 6 and 7 go with them. -/
def flushDrawer (n : Nat) (d : Dev) : Dev :=
  let w := drawer d n
  let d := if n = 6 then { d with sb := { d.sb with memFrames := [] } }
    else if n = 7 then { d with sb := { d.sb with repFrames := [] } } else d
  levelCheck n (countN .drwDropped n (enteredNow d w) (count .drwFlushes n (setDrawer n { w with
    items := [], latch := [], flushes := w.flushes + 1, flushedAt := some d.now, entered := 0 } d)))

/-! ## Dictionary values -/

/-- The value bytes of an entry, dflt where nothing was written since its default (R497). -/
def dictBytes (d : Dev) (index sub : Nat) (dflt : List Byte) : List Byte := agetD d.dict (index * 256 + sub) dflt

/-- The value of an entry as a number (R499). -/
def dictNat (d : Dev) (index sub dflt : Nat) : Nat :=
  match aget d.dict (index * 256 + sub) with
  | none => dflt
  | some bs => bytesToNat bs

/-- A Boolean entry. -/
def dictBool (d : Dev) (index sub : Nat) (dflt : Bool) : Bool := dictNat d index sub dflt.toNat != 0

/-! ## Power domains -/

/-- State of a power domain: 0 off, 1 on, 2 stopped, 3 retained, 4 self-refresh, 5 absent (R571). -/
def pdState (d : Dev) (n : Nat) : Nat :=
  if n < 48 then bitsOf (reg d .pwDom (n / 16)).toNat (3 * (n % 16) + 2) (3 * (n % 16))
  else bitsOf (reg d .pwDom3 0).toNat (3 * (n - 48) + 2) (3 * (n - 48))

/-- A power domain's state set. -/
def setPd (n v : Nat) (d : Dev) : Dev :=
  if n < 48 then
    setReg .pwDom (n / 16) (BitVec.ofNat 48 (withBits (reg d .pwDom (n / 16)).toNat (3 * (n % 16) + 2) (3 * (n % 16)) v)) d
  else setReg .pwDom3 0 (BitVec.ofNat 48 (withBits (reg d .pwDom3 0).toNat (3 * (n - 48) + 2) (3 * (n - 48)) v)) d

/-- A power domain runs. -/
def pdOn (d : Dev) (n : Nat) : Bool := pdState d n == 1

/-- A power domain runs and takes new work: no change that it leaves Run by has come to step 4 of R554. -/
def takesWork (d : Dev) (n : Nat) : Bool := pdOn d n && !d.pwr.stopping.contains n

/-! ## Line channels -/

/-- A line channel. -/
def chan (d : Dev) (n : Nat) : Chan := agetD d.chans n {}

/-- A line channel changed. -/
def modChan (n : Nat) (f : Chan → Chan) (d : Dev) : Dev :=
  { d with chans := aputD d.chans n (f (chan d n)) {} }

/-- A channel is present in the part. -/
def chanPresent (d : Dev) (n : Nat) : Bool := n < d.part.channels

/-- A channel is enabled (R80). -/
def chanEnabled (d : Dev) (n : Nat) : Bool := chanPresent d n && fld d fLC_CTRL_ENABLE n == 1

/-- A channel is up: both lanes in Sync, deskewed, no defect (R36); held as last evaluated. -/
def chanUp (d : Dev) (n : Nat) : Bool := (chan d n).up

end Sys2Proof.Machine
end

