-- ==== Sys2Proof/Machine/EntryCmd.lean ====
section
/-!
DEFINITION. Machine/EntryCmd.lean: when the Secretary answers, and the answer to a command of the dictionary (R33, R497, R605).
-/

namespace Sys2Proof.Machine

/-- The Secretary's image is not the boot ROM's recovery (R605). -/
def inRecovery (d : Dev) : Bool := fld d fGL_BOOT_RECOVERY 0 == 1

/-- Waifel runs: the Secretary runs, be it in recovery (R605, R606). -/
def waifelRuns (d : Dev) : Bool := pdOn d 3 && !d.sec.restarting

/-- The Secretary carries out dictionary requests: it runs and neither restarts nor is in recovery (R33, R605). -/
def secretaryRuns (d : Dev) : Bool := waifelRuns d && !inRecovery d

/-! ## Commands of the dictionary (R497) -/

/-- The code that a command entry's right gives path H where it has none (R500); the Secretary answers 0x08 while it restarts
(R33), and there is no dictionary in recovery (R605). (DESIGN CHOICE, log entry 110) -/
def commandOn (p : Path) (hMay : Bool) (f : Dev → Nat × Dev) (d : Dev) : Dev :=
  if !pdOn d 3 ∨ inRecovery d then d
  else if d.sec.restarting then emit (.result p 0x08) d
  else if p = .h ∧ !hMay then emit (.result p 0x03) d
  else
    let (c, d) := f d
    emit (.result p c) d

end Sys2Proof.Machine
end

