-- ==== Sys2Proof/Machine/Aes.lean ====
section
/-!
DEFINITION. Machine/Aes.lean: AES-256, GCM and CMAC (R109 to R111, R119, R135), as the standards the spec names define
them (FIPS 197, NIST SP 800-38D, NIST SP 800-38B). Blocks are lists of 16 bytes as numbers.
-/

namespace Sys2Proof.Machine

/-- The S-box, 16 values a row. -/
def sboxRows : List (List Nat) :=
  [[0x63, 0x7c, 0x77, 0x7b, 0xf2, 0x6b, 0x6f, 0xc5, 0x30, 0x01, 0x67, 0x2b, 0xfe, 0xd7, 0xab, 0x76],
   [0xca, 0x82, 0xc9, 0x7d, 0xfa, 0x59, 0x47, 0xf0, 0xad, 0xd4, 0xa2, 0xaf, 0x9c, 0xa4, 0x72, 0xc0],
   [0xb7, 0xfd, 0x93, 0x26, 0x36, 0x3f, 0xf7, 0xcc, 0x34, 0xa5, 0xe5, 0xf1, 0x71, 0xd8, 0x31, 0x15],
   [0x04, 0xc7, 0x23, 0xc3, 0x18, 0x96, 0x05, 0x9a, 0x07, 0x12, 0x80, 0xe2, 0xeb, 0x27, 0xb2, 0x75],
   [0x09, 0x83, 0x2c, 0x1a, 0x1b, 0x6e, 0x5a, 0xa0, 0x52, 0x3b, 0xd6, 0xb3, 0x29, 0xe3, 0x2f, 0x84],
   [0x53, 0xd1, 0x00, 0xed, 0x20, 0xfc, 0xb1, 0x5b, 0x6a, 0xcb, 0xbe, 0x39, 0x4a, 0x4c, 0x58, 0xcf],
   [0xd0, 0xef, 0xaa, 0xfb, 0x43, 0x4d, 0x33, 0x85, 0x45, 0xf9, 0x02, 0x7f, 0x50, 0x3c, 0x9f, 0xa8],
   [0x51, 0xa3, 0x40, 0x8f, 0x92, 0x9d, 0x38, 0xf5, 0xbc, 0xb6, 0xda, 0x21, 0x10, 0xff, 0xf3, 0xd2],
   [0xcd, 0x0c, 0x13, 0xec, 0x5f, 0x97, 0x44, 0x17, 0xc4, 0xa7, 0x7e, 0x3d, 0x64, 0x5d, 0x19, 0x73],
   [0x60, 0x81, 0x4f, 0xdc, 0x22, 0x2a, 0x90, 0x88, 0x46, 0xee, 0xb8, 0x14, 0xde, 0x5e, 0x0b, 0xdb],
   [0xe0, 0x32, 0x3a, 0x0a, 0x49, 0x06, 0x24, 0x5c, 0xc2, 0xd3, 0xac, 0x62, 0x91, 0x95, 0xe4, 0x79],
   [0xe7, 0xc8, 0x37, 0x6d, 0x8d, 0xd5, 0x4e, 0xa9, 0x6c, 0x56, 0xf4, 0xea, 0x65, 0x7a, 0xae, 0x08],
   [0xba, 0x78, 0x25, 0x2e, 0x1c, 0xa6, 0xb4, 0xc6, 0xe8, 0xdd, 0x74, 0x1f, 0x4b, 0xbd, 0x8b, 0x8a],
   [0x70, 0x3e, 0xb5, 0x66, 0x48, 0x03, 0xf6, 0x0e, 0x61, 0x35, 0x57, 0xb9, 0x86, 0xc1, 0x1d, 0x9e],
   [0xe1, 0xf8, 0x98, 0x11, 0x69, 0xd9, 0x8e, 0x94, 0x9b, 0x1e, 0x87, 0xe9, 0xce, 0x55, 0x28, 0xdf],
   [0x8c, 0xa1, 0x89, 0x0d, 0xbf, 0xe6, 0x42, 0x68, 0x41, 0x99, 0x2d, 0x0f, 0xb0, 0x54, 0xbb, 0x16]]

/-- One byte through the S-box. -/
def sbox (x : Nat) : Nat := (sboxRows.getD (x / 16) []).getD (x % 16) 0

/-- Multiplication by x in GF(2^8). -/
def xtime (x : Nat) : Nat := if x < 128 then 2 * x else (2 * x) % 256 ^^^ 0x1b

/-- Bytes XORed in pairs. -/
def xorBytes (a b : List Nat) : List Nat := List.zipWith (· ^^^ ·) a b

/-- Round constants' step: one more word of the key schedule, the words so far newest first (FIPS 197, Nk = 8). -/
def keyStep (ws : List (List Nat)) (i : Nat) : List (List Nat) :=
  let prev := ws.headD []
  let t :=
    if i % 8 = 0 then
      let r := (prev.drop 1 ++ prev.take 1).map sbox
      xorBytes r [2 ^ (i / 8 - 1), 0, 0, 0]
    else if i % 8 = 4 then prev.map sbox else prev
  xorBytes t (ws.getD 7 []) :: ws

/-- The 15 round keys of a 256-bit key. -/
def roundKeys (key : BitVec 256) : List (List Nat) :=
  let k := (List.range 32).map (fun i => bitsOf key.toNat (255 - 8 * i) (248 - 8 * i))
  let w0 := (List.range 8).map (fun i => (k.drop (4 * i)).take 4)
  let ws := ((List.range 52).foldl (fun ws i => keyStep ws (i + 8)) w0.reverse).reverse
  (List.range 15).map (fun i => ((ws.drop (4 * i)).take 4).flatten)

/-- ShiftRows on a block stored column by column. -/
def shiftRows (s : List Nat) : List Nat :=
  (List.range 16).map (fun i => s.getD ((i + 4 * (i % 4)) % 16) 0)

/-- MixColumns of one column. -/
def mixColumn : List Nat → List Nat
  | [a, b, c, d] =>
    let t := a ^^^ b ^^^ c ^^^ d
    [a ^^^ t ^^^ xtime (a ^^^ b), b ^^^ t ^^^ xtime (b ^^^ c), c ^^^ t ^^^ xtime (c ^^^ d), d ^^^ t ^^^ xtime (d ^^^ a)]
  | l => l

/-- MixColumns. -/
def mixColumns (s : List Nat) : List Nat :=
  mixColumn (s.take 4) ++ mixColumn ((s.drop 4).take 4) ++ mixColumn ((s.drop 8).take 4) ++ mixColumn (s.drop 12)

/-- One block enciphered under round keys. -/
def aesBlock (rk : List (List Nat)) (block : List Nat) : List Nat :=
  let s := (List.range 13).foldl (fun s i =>
    xorBytes (mixColumns (shiftRows (s.map sbox))) (rk.getD (i + 1) [])) (xorBytes block (rk.getD 0 []))
  xorBytes (shiftRows (s.map sbox)) (rk.getD 14 [])

/-- A block as a number, first byte highest. -/
def blockNat (b : List Nat) : Nat := b.foldl (fun a x => a * 256 + x) 0

/-- A number as a block. -/
def natBlock (x : Nat) : List Nat := (List.range 16).map (fun i => bitsOf x (127 - 8 * i) (120 - 8 * i))

/-- Product in the field of GHASH; bit 127 of the number is the first bit of the block. -/
def ghashMul (x y : Nat) : Nat :=
  ((List.range 128).foldl (fun (zv : Nat × Nat) i =>
    (if x.testBit (127 - i) then zv.1 ^^^ zv.2 else zv.1,
     if zv.2.testBit 0 then (zv.2 >>> 1) ^^^ (0xe1 * 2 ^ 120) else zv.2 >>> 1)) (0, y)).1

/-- Blocks of 16 bytes, the last one filled with zeros; at most n of them. -/
def blocksOf : Nat → List Nat → List (List Nat)
  | 0, _ => []
  | n + 1, bs =>
    if bs.isEmpty then [] else (bs.take 16 ++ List.replicate (16 - bs.length) 0) :: blocksOf n (bs.drop 16)

/-- GHASH of additional data and ciphertext. -/
def ghash (h : Nat) (aad c : List Nat) : Nat :=
  let bl := blocksOf (aad.length + 1) aad ++ blocksOf (c.length + 1) c ++ [natBlock (aad.length * 8 * 2 ^ 64 + c.length * 8)]
  bl.foldl (fun y b => ghashMul (y ^^^ blockNat b) h) 0

/-- The keystream of n bytes from counter block 2 on of a 96-bit initialisation vector. -/
def ctrStream (rk : List (List Nat)) (iv : BitVec 96) (n : Nat) : List Nat :=
  ((List.range (ceilDiv n 16)).map (fun i => aesBlock rk (natBlock (iv.toNat * 2 ^ 32 + i + 2)))).flatten.take n

/-- Bytes as numbers, and back. -/
def nats (bs : List Byte) : List Nat := bs.map (·.toNat)
def bytes (ns : List Nat) : List Byte := ns.map (BitVec.ofNat 8)

/-- The tag of a ciphertext. -/
def gcmTag (rk : List (List Nat)) (iv : BitVec 96) (aad c : List Nat) : List Nat :=
  xorBytes (natBlock (ghash (blockNat (aesBlock rk (natBlock 0))) aad c)) (aesBlock rk (natBlock (iv.toNat * 2 ^ 32 + 1)))

/-- AES-256-GCM enciphering: ciphertext and 16-byte tag (R110). -/
def gcmSeal (key : BitVec 256) (iv : BitVec 96) (aad plain : List Byte) : List Byte :=
  let rk := roundKeys key
  let c := xorBytes (nats plain) (ctrStream rk iv plain.length)
  bytes (c ++ gcmTag rk iv (nats aad) c)

/-- AES-256-GCM deciphering of ciphertext and tag; none where the tag does not verify (R113). -/
def gcmOpen (key : BitVec 256) (iv : BitVec 96) (aad sealed : List Byte) : Option (List Byte) :=
  let rk := roundKeys key
  let n := sealed.length - 16
  let c := nats (sealed.take n)
  if gcmTag rk iv (nats aad) c = nats (sealed.drop n) then some (bytes (xorBytes c (ctrStream rk iv n))) else none

/-- Doubling in the field of CMAC. -/
def cmacDouble (x : Nat) : Nat := if x < 2 ^ 127 then 2 * x else (2 * x) % 2 ^ 128 ^^^ 0x87

/-- AES-CMAC with a 256-bit key: 128 bits (R119). -/
def cmac (key : BitVec 256) (msg : List Byte) : BitVec 128 :=
  let rk := roundKeys key
  let k1 := cmacDouble (blockNat (aesBlock rk (natBlock 0)))
  let m := nats msg
  let n := if m.isEmpty then 1 else ceilDiv m.length 16
  let tail := m.drop (16 * (n - 1))
  let last := if tail.length = 16 then blockNat tail ^^^ k1
    else blockNat (tail ++ 0x80 :: List.replicate (15 - tail.length) 0) ^^^ cmacDouble k1
  let x := (blocksOf (n - 1) m).foldl (fun y b => blockNat (aesBlock rk (natBlock (y ^^^ blockNat b)))) 0
  BitVec.ofNat 128 (blockNat (aesBlock rk (natBlock (x ^^^ last))))

end Sys2Proof.Machine
end

