-- ==== Sys2Proof/Machine/Control.lean ====
section
/-!
DEFINITION. Machine/Control.lean: the layout of control messages (R127, R133 to R137).
-/

namespace Sys2Proof.Machine

/-- The own serial number (R127). -/
def ownSerial : Nat := 0x504C * 2 ^ 48 + Config.serialUnique.toNat

/-- n bytes of a message from byte i on, as a number (R14, R133). -/
def mf (m : CtlMsg) (i n : Nat) : Nat := bytesToNat ((m.bytes.drop i).take n)

/-- Type, address, Ack request and sequence (R133). -/
def mType (m : CtlMsg) : Nat := mf m 0 1
def mAddr (m : CtlMsg) : Nat := mf m 1 2
def mAck (m : CtlMsg) : Bool := (mf m 3 1).testBit 7
def mSeq (m : CtlMsg) : Nat := mf m 3 1 % 128

/-- It came as a broadcast message (R134). -/
def isBroadcast (m : CtlMsg) : Bool := m.flow == 0xFFFE

/-- Types that are broadcast, directed, either (R136). -/
def broadcastType (t : Nat) : Bool := t == 0x01 || t == 0x02 || t == 0x05 || t == 0x06 || t == 0x07 || t == 0x09
def directedType (t : Nat) : Bool := t == 0x03 || t == 0x04 || t == 0x05 || t == 0x08 || t == 0x0A || t == 0x0B

/-- Keyed types (R136). -/
def keyedType (t : Nat) : Bool :=
  t == 0x08 || t == 0x09 || t == 0x0A || t == 0x0B || t == 0x82 || t == 0x83 || t == 0x85

/-- The flow suits the type, and a broadcast carries 0xFFFF (R134). -/
def rightFlow (m : CtlMsg) : Bool :=
  if isBroadcast m then broadcastType (mType m) && mAddr m == 0xFFFF
  else m.flow == 0xFFFD && directedType (mType m)

/-- A Disable or Enable addresses this terminal by scope and serial number (R149, R150). -/
def scopeNames (m : CtlMsg) : Bool := mf m 4 1 == 1 || (mf m 4 1 == 0 && mf m 5 8 == ownSerial)

/-- The profile a Burst Profile defines or withdraws (R137). -/
def msgProfile (m : CtlMsg) : ProfCfg :=
  if (mf m 4 1).testBit 7 then
    { held := true, channels := mf m 5 2, preamble := mf m 7 1, pattern := mf m 8 1, delim := mf m 9 8,
      preassigned := mf m 17 3 }
  else {}

/-- A Burst Profile that names a reserved pattern, whether it defines or withdraws (R169, R651). -/
def reservedPattern (m : CtlMsg) : Bool := decide (2 < mf m 8 1)

/-- A Burst Profile that is discarded: one that defines preamble length 0, or names a reserved pattern (R169, R651). -/
def badProfile (m : CtlMsg) : Bool := ((mf m 4 1).testBit 7 && mf m 7 1 == 0) || reservedPattern m

/-- The delay that a Ranging Time asks for, from the delay it changes; none beyond 0 to 16,777,215 (R137, R145). -/
def msgDelay (m : CtlMsg) (now : Nat) : Option Nat :=
  let v := mf m 6 3
  if mf m 5 1 = 0 then some v
  else
    let x : Int := (now : Int) + (if v < 2 ^ 23 then (v : Int) else (v : Int) - 2 ^ 24)
    if x < 0 ∨ x > 16777215 then none else some x.toNat

end Sys2Proof.Machine
end

