-- ==== Sys2Proof/Machine/Fec.lean ====
section
/-!
DEFINITION. Machine/Fec.lean: the codes of the downstream frame: header CRC (R42), quality sequence (R43), RS(544,514)
over GF(2^10) (R44), scrambler (R46), and the CRCs other wire formats use.
-/

namespace Sys2Proof.Machine

/-- A CRC of width w and generator poly, register preset to init, bits fed in the order given, not inverted. -/
def crcBits (w poly init : Nat) (bs : List Bool) : Nat :=
  bs.foldl (fun c b =>
    let top := c.testBit (w - 1)
    let c' := (c * 2) % 2 ^ w
    if top != b then c' ^^^ poly else c') init

/-- The header check (R42): generator 0x1021, preset 0xFFFF. -/
def headerCrc (bs : List Bool) : Nat := crcBits 16 0x1021 0xFFFF bs

/-- The header check passes over offsets 64 to 143 of a sync block (R40, R42); the argument holds offsets 64 to 159. -/
def headerOk (h : BitVec 96) : Bool :=
  headerCrc (natToBits 80 (h.toNat >>> 16)) == h.toNat % 65536

/-- The IEEE 802.3 CRC-32 with reflected input and output, preset and final inversion, as a number whose byte order on
the wire is least significant byte first. -/
def crc32Step (c : Nat) (b : Byte) : Nat :=
  (List.range 8).foldl (fun c _ => if c % 2 = 1 then (c / 2) ^^^ 0xEDB88320 else c / 2) (c ^^^ b.toNat)

/-- The FCS of a MAC frame. -/
def fcs32 (bs : List Byte) : Nat := (bs.foldl crc32Step 0xFFFFFFFF) ^^^ 0xFFFFFFFF

/-- The four FCS bytes as sent. -/
def fcsBytes (bs : List Byte) : List Byte :=
  let c := fcs32 bs
  [BitVec.ofNat 8 c, BitVec.ofNat 8 (c >>> 8), BitVec.ofNat 8 (c >>> 16), BitVec.ofNat 8 (c >>> 24)]

/-- n output bits of the generator x^11 + x^9 + 1 from state s (R43). (DEDUCED, log entry 23) -/
def qualityBits : Nat → Nat → List Bool
  | 0, _ => []
  | n + 1, s =>
    let out := (s.testBit 10) != (s.testBit 8)
    out :: qualityBits n (((s * 2) ||| out.toNat) % 2048)

/-- Differing bits of a received quality field (R43). -/
def qualityErrorsIn (q : BitVec 1954) : Nat :=
  popcount 1954 (q.toNat ^^^ bitsToNat (qualityBits 1954 0x7FF))

/-! GF(2^10) with x^10 + x^3 + 1 (R44). -/

/-- Product. -/
def gfMul (a b : Nat) : Nat :=
  (List.range 10).foldl (fun acc i =>
    let k := 9 - i
    let d := acc * 2
    let d := if d ≥ 1024 then d ^^^ 0x409 else d
    if b.testBit k then d ^^^ a else d) 0

/-- Power, by the exponent's binary digits. -/
def gfPow (a : Nat) (e : Nat) : Nat :=
  (List.range 11).foldl (fun acc i =>
    let sq := gfMul acc acc
    if (e % 1023).testBit (10 - i) then gfMul sq a else sq) 1

/-- Inverse of a non-zero element. -/
def gfInv (a : Nat) : Nat := gfPow a 1022

/-- Value of a polynomial, lowest coefficient first, at x. -/
def gfEval (p : List Nat) (x : Nat) : Nat := p.foldr (fun c acc => gfMul acc x ^^^ c) 0

/-- Sum of polynomials, lowest coefficient first. -/
def gfAdd : List Nat → List Nat → List Nat
  | [], q => q
  | p, [] => p
  | a :: p, b :: q => (a ^^^ b) :: gfAdd p q

/-- A polynomial times a constant. -/
def gfScale (c : Nat) (p : List Nat) : List Nat := p.map (gfMul c)

/-- The 30 syndromes of 544 received symbols, first symbol the highest power (R44). -/
def rsSyndromes (r : List Nat) : List Nat :=
  (List.range 30).map (fun i =>
    let a := gfPow 2 i
    r.foldl (fun acc s => gfMul acc a ^^^ s) 0)

/-- One round of the Berlekamp-Massey iteration: locator, previous locator, length, gap, previous discrepancy. -/
def bmStep (syn : List Nat) (st : List Nat × List Nat × Nat × Nat × Nat) (n : Nat) :
    List Nat × List Nat × Nat × Nat × Nat :=
  let (c, b, l, m, bd) := st
  let d := (List.range (l + 1)).foldl (fun acc i =>
    if i ≤ n then acc ^^^ gfMul (c.getD i 0) (syn.getD (n - i) 0) else acc) 0
  if d = 0 then (c, b, l, m + 1, bd)
  else
    let t := gfAdd c (List.replicate m 0 ++ gfScale (gfMul d (gfInv bd)) b)
    if 2 * l ≤ n then (t, c, n + 1 - l, 1, d) else (t, b, l, m + 1, bd)

/-- The error locator and its length. -/
def rsLocator (syn : List Nat) : List Nat × Nat :=
  let r := (List.range 30).foldl (bmStep syn) ([1], [1], 0, 1, 1)
  (r.1, r.2.2.1)

/-- Product of polynomials, cut to n coefficients. -/
def gfPolyMul (n : Nat) (p q : List Nat) : List Nat :=
  ((List.range p.length).foldl (fun acc i =>
    gfAdd acc (List.replicate i 0 ++ gfScale (p.getD i 0) q)) []).take n

/-- Formal derivative over a field of characteristic 2. -/
def gfDeriv (p : List Nat) : List Nat :=
  (List.range (p.length - 1)).map (fun i => if i % 2 = 0 then p.getD (i + 1) 0 else 0)

/-- The RS(544,514) decoder (R44): the 544 symbols of the code within 15 symbol errors of those received, with the
number of corrected symbols; none where there is no such code word (uncorrectable). -/
def rsDecode (r : List Nat) : Option (List Nat × Nat) :=
  let syn := rsSyndromes r
  if syn.all (· == 0) then some (r, 0)
  else
    let (loc, l) := rsLocator syn
    if l > 15 then none
    else
      let omega := gfPolyMul 30 syn loc
      let dl := gfDeriv loc
      let fixes := (List.range 544).filterMap (fun pos =>
        let e := 543 - pos
        let xi := gfPow 2 (1023 - e % 1023)
        if gfEval loc xi = 0 then
          some (pos, gfMul (gfPow 2 e) (gfMul (gfEval omega xi) (gfInv (gfEval dl xi))))
        else none)
      if fixes.length ≠ l then none
      else
        let out := fixes.foldl (fun acc (f : Nat × Nat) => lmod acc f.1 (· ^^^ f.2)) r
        if (rsSyndromes out).all (· == 0) then some (out, l) else none

/-- Coefficients of the generator, the product of x − 2^i for i < n, highest power first (R44). -/
def rsGenerator : Nat → List Nat
  | 0 => [1]
  | n + 1 =>
    let g := rsGenerator n
    List.zipWith (· ^^^ ·) (g ++ [0]) (0 :: gfScale (gfPow 2 n) g)

/-- The 30 parity symbols of message symbols, first symbol the highest power (R44). Leading zeros that are left out change
nothing, so a shortened codeword is coded alike (R172). -/
def rsParity (msg : List Nat) : List Nat :=
  let g := (rsGenerator 30).drop 1
  msg.foldl (fun r m =>
    let fb := m ^^^ r.headD 0
    List.zipWith (· ^^^ ·) (r.drop 1 ++ [0]) (gfScale fb g)) (List.replicate 30 0)

/-! Scrambler (R46). -/

/-- Seed of a frame. -/
def scrambleSeed (channel lane fc : Nat) : Nat :=
  let s := (channel * 2 ^ 27 + lane * 2 ^ 26 + fc % 2 ^ 26) ^^^ 0x7FFFFFFF
  if s = 0 then 1 else s

/-- One step: output bit and next state. -/
def scrambleStep (s : Nat) : Bool × Nat :=
  let out := (s.testBit 30) != (s.testBit 27)
  (out, (s * 2 + out.toNat) % 2 ^ 31)

/-- State after n steps. -/
def scrambleSkip : Nat → Nat → Nat
  | 0, s => s
  | n + 1, s => scrambleSkip n (scrambleStep s).2

/-- Descrambled bits and the state after them. -/
def scrambleBits : List Bool → Nat → List Bool
  | [], _ => []
  | b :: bs, s => (b != (scrambleStep s).1) :: scrambleBits bs (scrambleStep s).2

/-- The 5,140 descrambled message bits of codeword k of a frame (R38, R46). -/
def descramble (channel lane fc k : Nat) (message : List Nat) : List Bool :=
  scrambleBits ((message.map (natToBits 10)).flatten) (scrambleSkip (5140 * k) (scrambleSeed channel lane fc))

end Sys2Proof.Machine
end

