-- ==== Sys2Proof/Machine/LineRx.lean ====
section
/-!
DEFINITION. Machine/LineRx.lean: alignment of one receive lane and the areas of its frame (R37 to R57), on the lane's
own state.
-/

namespace Sys2Proof.Machine

/-- The sync pattern (R40). -/
def syncPattern : Nat := 0xA6F31C8B5E2D94C7

/-- Inverted PAM4 polarity flips the first bit of every pair (R34, R53). (DEDUCED, log entry 24) -/
def unInvert (inv : Bool) (n x : Nat) : Nat :=
  if inv then x ^^^ (bitsToNat ((List.range n).map (· % 2 == 0))) else x

/-- Differing bits of a received pattern (R47). -/
def patternDiffs (p : Nat) : Nat := popcount 64 (p ^^^ syncPattern)

/-- Frame counter of a header (R40): the 96 bits start at offset 64. -/
def hdrFc (h : Nat) : Nat := bitsOf h 95 48
def hdrChannel (h : Nat) : Nat := bitsOf h 47 44
def hdrLane (h : Nat) : Bool := h.testBit 43
def hdrAis (h : Nat) : Bool := h.testBit 42
def hdrRdi (h : Nat) : Bool := h.testBit 41
def hdrMapLen (h : Nat) : Nat := bitsOf h 40 30
def hdrTrib (h : Nat) : Bool := h.testBit 29

/-- The candidate a fifth sighting replaces: fewest confirmed frames, the earliest opened among equals (R49). -/
def worstCandidate : List Candidate → Option Candidate
  | [] => none
  | c :: l =>
    match worstCandidate l with
    | none => some c
    | some w =>
      if w.confirmed < c.confirmed ∨ (w.confirmed = c.confirmed ∧ w.order < c.order) then some w else some c

/-- A sighting at a position that is no candidate opens one (R49). -/
def openCandidate (l : Aligner) (pos diffs : Nat) (ref : Option Word) : Aligner :=
  let c : Candidate := ⟨pos, 0, ref, diffs, l.opened⟩
  let cs := if l.cands.length < 4 then l.cands
    else match worstCandidate l.cands with
      | none => l.cands
      | some w => l.cands.filter (fun x => x.order != w.order)
  { l with cands := cs ++ [c], opened := l.opened + 1, align := .presync }

/-- What a frame does to one open candidate (R50): none where its pattern is missing. (DEDUCED, log entry 34) -/
def advanceCandidate (sights : List (Nat × Nat × Nat)) (c : Candidate) : Option Candidate :=
  match sights.find? (fun x => x.1 = c.pos) with
  | none => none
  | some (_, d, h) =>
    let c := { c with diffs := c.diffs + d }
    if headerOk (BitVec.ofNat 96 h) then
      match c.ref with
      | none => some { c with ref := some (BitVec.ofNat 48 (hdrFc h)) }
      | some r =>
        if BitVec.ofNat 48 (hdrFc h) = r + 1 then
          some { c with confirmed := c.confirmed + 1, ref := some (BitVec.ofNat 48 (hdrFc h)) }
        else some { c with ref := some (BitVec.ofNat 48 (hdrFc h)) }
    else some c

/-- The better of two candidates confirmed in one frame (R51). -/
def bestConfirmed (n : Nat) : List Candidate → Option Candidate
  | [] => none
  | c :: l =>
    let r := bestConfirmed n l
    if c.confirmed < n then r
    else match r with
      | none => some c
      | some w => if w.diffs < c.diffs ∨ (w.diffs = c.diffs ∧ w.pos < c.pos) then some w else some c

/-- A number put into a rising list, once. -/
def insertPos (p : Nat) : List Nat → List Nat
  | [] => [p]
  | q :: l => if p < q then p :: q :: l else if p = q then q :: l else q :: insertPos p l

/-- What one position of a frame does in Hunt and Presync (R49, R50): a candidate there advances, stays or is dropped;
a sighting where none is opens one. -/
def huntAt (sights : List (Nat × Nat × Nat)) (l : Aligner) (pos : Nat) : Aligner :=
  if l.cands.any (fun c => c.pos == pos) then
    { l with cands := l.cands.filterMap (fun c => if c.pos = pos then advanceCandidate sights c else some c) }
  else
    match sights.find? (fun s => s.1 == pos) with
    | none => l
    | some s => openCandidate l pos s.2.1
        (if headerOk (BitVec.ofNat 96 s.2.2) then some (BitVec.ofNat 48 (hdrFc s.2.2)) else none)

/-- Alignment on one frame's sightings in Hunt and Presync, with ALIGN_N (R48 to R51): the candidates' positions and the
sightings in the order of the frame. The sightings are position, differing bits and header; only found patterns count
(R47). -/
def huntFrame (n : Nat) (sights : List (Nat × Nat × Nat)) (l : Aligner) : Aligner :=
  let places := (l.cands.map (·.pos) ++ sights.map (·.1)).foldl (fun ps p => insertPos p ps) []
  let l := places.foldl (huntAt sights) l
  match bestConfirmed (max 1 n) l.cands with
  | some c => { l with align := .sync, pos := c.pos, cands := [], errRun := 0, fc := c.ref.getD 0 }
  | none => { l with align := if l.cands.isEmpty then .hunt else .presync }

/-- A frame's sightings as the aligner counts them: position, differing bits, header; only found patterns (R47). -/
def foundSights (inv : Bool) (ss : List Sighting) : List (Nat × Nat × Nat) :=
  (ss.map (fun s => (s.pos, patternDiffs (unInvert inv 64 s.pattern.toNat), unInvert inv 96 s.header.toNat))).filter
    (fun x => decide (x.2.1 ≤ 2))

/-- One frame of an aligner with ALIGN_N and ALIGN_M: hunting, or the check at the aligned position; with it whether an
errored pattern stood there (R47 to R52). -/
def alignFrame (n m : Nat) (sights : List (Nat × Nat × Nat)) (a : Aligner) : Aligner × Bool :=
  if a.align = .sync then
    if sights.any (fun x => x.1 == a.pos) then ({ a with errRun := 0 }, false)
    else if a.errRun + 1 < m then ({ a with errRun := a.errRun + 1 }, true)
    else ({ a with errRun := 0, align := .hunt, cands := [] }, true)
  else (huntFrame n sights a, false)

/-- The header at the aligned position; none where nothing there resembles the pattern (R53). (DEDUCED, log entry 29) -/
def headerAt (inv : Bool) (ss : List Sighting) (a : Aligner) : Option Nat :=
  if a.align = .sync then (ss.find? (fun s => s.pos == a.pos)).map (fun s => unInvert inv 96 s.header.toNat) else none

/-- A header that fits (R42). -/
def validHeader (h : Option Nat) : Option Nat := h.filter (fun h => headerOk (BitVec.ofNat 96 h))

/-- Channel and lane field of a valid header are the receiving lane's (R53). -/
def rightHeader (ch : Nat) (laneB : Bool) (h : Nat) : Bool := hdrChannel h == ch && hdrLane h == laneB

/-- What the header of a frame in Sync does to the counter and to the mismatch runs (R53, R61). -/
def headerFrame (ch : Nat) (laneB : Bool) (h : Option Nat) (a : Aligner) : Aligner :=
  match h with
  | none => { a with fc := a.fc + 1 }
  | some h =>
    if rightHeader ch laneB h then
      { a with fc := BitVec.ofNat 48 (hdrFc h), wrongRun := 0, rightRun := min 3 (a.rightRun + 1),
               mismatch := a.mismatch && decide (a.rightRun + 1 < 3) }
    else
      { a with fc := a.fc + 1, rightRun := 0, wrongRun := min 3 (a.wrongRun + 1),
               mismatch := a.mismatch || decide (3 ≤ a.wrongRun + 1) }

/-- Codewords of the map area (R56). -/
def mapCodewords (len : Nat) : Nat := ceilDiv (64 * len) 5140

/-- A codeword as received, after decoding: its message symbols, or none where it is uncorrectable (R45), with the
number of corrected symbols. -/
def decodeCodeword (inv : Bool) (c : RxCodeword) : Option (List Nat) × Nat :=
  match rsDecode (c.symbols.map (fun s => unInvert inv 10 s.toNat)) with
  | none => (none, 0)
  | some (m, k) => (some (m.take 514), k)

/-- The descrambled bits of codewords a to a + n − 1 of a frame; none for each bit of an uncorrectable one. -/
def areaBits (channel lane fc : Nat) (inv : Bool) (cws : List RxCodeword) (a n : Nat) : List (Option Bool) :=
  ((List.range n).map (fun i =>
    match cws.find? (fun c => c.index == a + i) with
    | none => List.replicate 5140 (some false)
    | some c =>
      match (decodeCodeword inv c).1 with
      | none => List.replicate 5140 none
      | some m => (descramble channel lane fc (a + i) m).map some)).flatten

/-- The number that bits spell, none where one of them is errored. -/
def optBits (bs : List (Option Bool)) : Option Nat :=
  if bs.all Option.isSome then some (bitsToNat (bs.map (·.getD false))) else none

/-- Words of 64 bits, n of them; none for a word that lies in an errored codeword (R45, R57). -/
def areaWords (bs : List (Option Bool)) (n : Nat) : List (Option (BitVec 64)) :=
  (List.range n).map (fun i => (optBits ((bs.drop (64 * i)).take 64)).map (BitVec.ofNat 64))

/-- A defect that three successive valid headers set or clear (R61): the state, the run, and whether it was entered. -/
def runDefect (now seen : Bool) (run : Nat) : Bool × Nat × Bool :=
  if seen = now then (now, 0, false) else if run + 1 < 3 then (now, run + 1, false) else (seen, 0, seen)

end Sys2Proof.Machine
end

