-- ==== Sys2Proof/Machine/PowerBase.lean ====
section
/-!
DEFINITION. Machine/PowerBase.lean: the request slot of the power controller and how a request ends (R552, R555, R556).
-/

namespace Sys2Proof.Machine

/-- The result of a request, where its source reads it: 0 done, 1 pending, 2 replaced, 3 waiting, 4 refused, 5 cancelled,
with the code of a refusal (R571, R572). -/
def pwResult (o : PowerOrigin) (result code : Nat) (d : Dev) : Dev :=
  match o with
  | .host => setFld fPW_REQ_STATUS_RESULT 0 result (setFld fPW_REQ_STATUS_CODE 0 code d)
  | .entry .l => { d with pwr := { d.pwr with resL := result } }
  | .entry .s => { d with pwr := { d.pwr with resS := result } }
  | .entry .h => d
  | .controller => d

/-! ## Lanes and channels that a change leaves or finds -/

/-- A drop port is present and enabled. -/
def portEnabled (d : Dev) (n : Nat) : Bool := n < d.part.ports && fld d fDP_CTRL_ENABLE n == 1

/-- A serial lane. -/
def serial (d : Dev) (k : Nat) : SerialLane := agetD d.lanes k {}

/-- A lane changed. -/
def modSerial (k : Nat) (f : SerialLane → SerialLane) (d : Dev) : Dev :=
  { d with lanes := aputD d.lanes k (f (serial d k)) {} }

/-- Line channel and letter of a line lane's key. -/
def keyChan (k : Nat) : Nat := (k - 96) % 32 / 2
def keyB (k : Nat) : Bool := k % 2 == 1

/-- The lane's port or channel is enabled and its power domain takes work (R228, R554). -/
def laneOn (d : Dev) (k : Nat) : Bool :=
  if k < 96 then portEnabled d k && takesWork d (28 + k / 8) else chanEnabled d (keyChan k) && takesWork d (12 + keyChan k)

/-- A channel in the Firescreen. -/
def fsChan (d : Dev) (n : Nat) : FsChan := agetD d.fs.chans n {}

/-- The channels present in the part. -/
def presentChans (d : Dev) : List Nat := List.range d.part.channels

/-- R199 is met on a channel: present, and up in the own view for 8 successive frames. -/
def chanReady (d : Dev) (n : Nat) : Bool := chanPresent d n && (fsChan d n).up && decide (8 ≤ (fsChan d n).upFrames)

/-- What a change has stopped takes work again, and lanes that lay in Off for it are enabled and powered again (R228, R554). -/
def releaseUnits (d0 : Dev) : Dev :=
  if d0.pwr.stopping.isEmpty then d0
  else
    let d := { d0 with pwr := { d0.pwr with stopping := [] } }
    (List.range 160).foldl (fun d k =>
      if (serial d k).st = 0 ∧ laneOn d k then modSerial k (fun _ => { st := 1 }) d else d) d

/-! ## The hold of a change (R202, R554) -/

/-- The power change's hold may end: the state it leads to runs, with the line engine, and R199 is met on a channel (R202). -/
def powerHoldOver (d : Dev) : Bool :=
  decide (d.pwr.state ≤ 2) && !d.pwr.isolated && d.pwr.wake.isNone &&
    (match d.pwr.change with
      | some c => !c.held || c.retained
      | none => true) && (presentChans d).any (chanReady d)

/-- The power change's hold ends in the Firescreen where it may (R202). -/
def powerHoldEnd (d : Dev) : Dev :=
  if d.fs.power && powerHoldOver d then raise fFS_EVENT_HOLD_CHANGE 0 { d with fs := { d.fs with power := false } } else d

/-! ## Requests -/

/-- The request in force has not reached its commit point. -/
def beforeP (c : PwChange) : Bool := c.phase != .running

/-- The request in force is cancelled before its commit point (R554, R556). -/
def cancelChange (d : Dev) : Dev :=
  match d.pwr.change with
  | some c =>
    if beforeP c then
      powerHoldEnd (releaseUnits (count .pwCancelled 0 (pwResult c.req.origin 5 0
        { d with pwr := { d.pwr with change := none }, act := { d.act with noticePending := none } })))
    else d
  | none => d

/-- A request that waits behind the running change, if it rests on consent, is cancelled (R152, R556). -/
def waitingGone (d : Dev) : Dev :=
  match d.pwr.next with
  | some r =>
    if 4 ≤ r.target ∧ ¬ d.pwr.lossOfLine then
      count .pwCancelled 0 (pwResult r.origin 5 0 { d with pwr := { d.pwr with next := none } })
    else d
  | none => d

/-- Consent is withdrawn: a Deep sleep or Off that rests on it is cancelled before P (R152, R556). -/
def consentGone (d : Dev) : Dev :=
  match d.pwr.change with
  | some c => waitingGone (if (c.req.target = 4 ∨ c.req.target = 5) ∧ ¬ c.byLoss then cancelChange d else d)
  | none => waitingGone d

/-- Activity restarts the core clock (R548). -/
def idleExit (d : Dev) : Dev := if d.pwr.state = 1 then { d with pwr := { d.pwr with state := 0 } } else d

/-- The line engine runs: Run, Idle and Sleep (R547, R550). -/
def engineRuns (d : Dev) : Bool := decide (d.pwr.state ≤ 2) && !d.pwr.isolated

/-- The core-clocked units run: Run and Idle. -/
def coreRuns (d : Dev) : Bool := decide (d.pwr.state ≤ 1) && !d.pwr.isolated

/-- A command to the core-clocked units: nothing while they are stopped, and it ends Idle (R548, R550). -/
def atCore (t : Time) (f : Dev → Dev) (s : State) : Out :=
  at_ t (fun d => if coreRuns d then f (idleExit d) else d) s

/-! ## Rail 0's target (R561, R627) -/

/-- A die sensor. -/
def dieSensor (d : Dev) (n : Nat) : DieSensor := agetD d.mon.die n {}

/-- A level within the bounds of rail 0 (R561). -/
def avsBound (mv : Nat) : Nat := max 650 (min 850 mv)

/-- Rail 0's target that calibration gives for the present temperature (R561). -/
def avsGoal (d : Dev) : Nat := avsBound (Config.avsCalibration ((List.range 16).map (fun n => (dieSensor d n).temp)))

/-- A request for a rail, at the bus, the address and the page of the regulator map; rail 0 is raised to its target (R561,
R572). -/
def railCommand (d : Dev) (r : Nat) (on : Bool) : Emission :=
  let v := fun sub dflt => dictNat d (0x7010 + r) sub dflt
  .rail r on (v 1 0xFF) (v 2 0) (v 3 0) (if on ∧ r = 0 then some (avsGoal d) else none)

/-- The rail is requested. -/
def railRequest (r : Nat) (on : Bool) (d : Dev) : Dev := emit (railCommand d r on) d

end Sys2Proof.Machine
end

