-- ==== Sys2Proof/Machine/Parser.lean ====
section
/-!
DEFINITION. Machine/Parser.lean: the parser of a pipeline (R255 to R258): the key of 40 fields, from the first 256 bytes
of a packet.
-/

namespace Sys2Proof.Machine

/-- n bytes at an offset inside the packet and the parse window, as a number; none where they lie partly outside. -/
def take? (bs : List Byte) (off n : Nat) : Option Nat :=
  if off + n ≤ min bs.length 256 then some (bytesToNat ((bs.drop off).take n)) else none

/-- n bytes at an offset, zero where they lie partly outside. -/
def take0 (bs : List Byte) (off n : Nat) : Nat := (take? bs off n).getD 0

/-- PARSE_FLAGS for a header of n bytes at an offset: truncated (bit 0) where the packet ends first, window exceeded
(bit 5) where only the window does. -/
def shortFlag (bs : List Byte) (off n : Nat) : Nat :=
  if off + n > bs.length then 1 else if off + n > 256 then 32 else 0

/-- What the parser finds before layer 3 and in it. -/
structure Parsed where
  outerTag : Nat := 0
  outerTpid : Nat := 0
  innerTag : Nat := 0
  tagCount : Nat := 0
  ethertype : Nat := 0
  l3 : Nat := 0
  /-- Offset of layer 3, and of layer 4 where there is one. -/
  l3Off : Nat := 0
  l4Off : Nat := 0
  proto : Nat := 0
  tos : Nat := 0
  ttl : Nat := 0
  frag : Nat := 0
  src : Nat := 0
  dst : Nat := 0
  flowLabel : Nat := 0
  extMask : Nat := 0
  sport : Nat := 0
  dport : Nat := 0
  tcpFlags : Nat := 0
  icmp : Nat := 0
  flags : Nat := 0
  /-- Identification, and the Fragment header's next header or the IPv4 protocol (R282). -/
  fragId : Nat := 0
  fragProto : Nat := 0
deriving DecidableEq, Repr

/-- Layer 4 at an offset (R257). -/
def parseL4 (bs : List Byte) (off : Nat) (p0 : Parsed) : Parsed :=
  let p := { p0 with l4Off := off }
  let need := if p.proto = 6 then 20 else if p.proto = 17 then 8 else if p.proto = 1 ∨ p.proto = 58 then 4 else 0
  if need = 0 then p
  else if off + need > bs.length then { p with flags := p.flags ||| 64 }
  else if off + need > 256 then { p with flags := p.flags ||| 32 }
  else if p.proto = 1 ∨ p.proto = 58 then { p with icmp := take0 bs off 2 }
  else { p with
    sport := take0 bs off 2, dport := take0 bs (off + 2) 2,
    tcpFlags := if p.proto = 6 then take0 bs (off + 12) 2 % 512 else 0 }

/-- IPv4 at an offset (R257). -/
def parseIpv4 (bs : List Byte) (off : Nat) (p : Parsed) : Parsed :=
  match take? bs off 20 with
  | none => { p with l3 := 3, flags := p.flags ||| shortFlag bs off 20 }
  | some _ =>
    let ihl := take0 bs off 1 % 16
    if take0 bs off 1 / 16 ≠ 4 ∨ ihl < 5 then { p with l3 := 3, flags := p.flags ||| 8 }
    else if (take? bs off (4 * ihl)).isNone then { p with l3 := 3, flags := p.flags ||| shortFlag bs off (4 * ihl) }
    else
      let fo := take0 bs (off + 6) 2
      let frag := if fo % 8192 = 0 ∧ ¬ fo.testBit 13 then 0 else if fo % 8192 = 0 then 1 else 2
      let p := { p with
        l3 := 1, tos := take0 bs (off + 1) 1, ttl := take0 bs (off + 8) 1, proto := take0 bs (off + 9) 1,
        src := take0 bs (off + 12) 4, dst := take0 bs (off + 16) 4, frag := frag,
        fragId := take0 bs (off + 4) 2, fragProto := take0 bs (off + 9) 1,
        flags := if ihl > 5 then p.flags ||| 4 else p.flags }
      if frag = 2 then p else parseL4 bs (off + 4 * ihl) p

/-- EXT_MASK bit of an extension header the parser follows; none for any other type (R255, R257). -/
def extBit : Nat → Option Nat
  | 0 => some 0
  | 43 => some 1
  | 44 => some 2
  | 60 => some 3
  | 51 => some 4
  | _ => none

/-- The extension headers of IPv6 from type nh at an offset, at most n more (R257). -/
def parseExt (bs : List Byte) : Nat → Nat → Nat → Parsed → Parsed
  | n, nh, off, p =>
    match extBit nh with
    | none => parseL4 bs off { p with proto := nh }
    | some b =>
      match n with
      | 0 => { p with proto := nh, flags := p.flags ||| 16 }
      | n + 1 =>
        let len := if nh = 44 then 8
          else if nh = 51 then (take0 bs (off + 1) 1 + 2) * 4
          else (take0 bs (off + 1) 1 + 1) * 8
        if (take? bs off 2).isNone ∨ (take? bs off len).isNone then
          { p with proto := nh, flags := p.flags ||| shortFlag bs off (max 2 len) }
        else
          let p := { p with extMask := p.extMask ||| 2 ^ b }
          let next := take0 bs off 1
          if nh = 44 then
            let fo := take0 bs (off + 2) 2
            let frag := if fo / 8 = 0 ∧ fo % 2 = 0 then 0 else if fo / 8 = 0 then 1 else 2
            let p := { p with frag := frag, fragId := take0 bs (off + 4) 4, fragProto := next }
            if frag = 2 then { p with proto := next } else parseExt bs n next (off + len) p
          else parseExt bs n next (off + len) p

/-- IPv6 at an offset (R257). -/
def parseIpv6 (bs : List Byte) (off : Nat) (p : Parsed) : Parsed :=
  match take? bs off 40 with
  | none => { p with l3 := 3, flags := p.flags ||| shortFlag bs off 40 }
  | some _ =>
    if take0 bs off 1 / 16 ≠ 6 then { p with l3 := 3 }
    else
      let p := { p with
        l3 := 2, tos := take0 bs off 2 / 16 % 256, flowLabel := take0 bs off 4 % 2 ^ 20,
        ttl := take0 bs (off + 7) 1, src := take0 bs (off + 8) 16, dst := take0 bs (off + 24) 16 }
      parseExt bs 4 (take0 bs (off + 6) 1) (off + 40) p

/-- Tags from an offset on: n more may be taken (R256). -/
def parseTags (bs : List Byte) (tpid3 : Nat) : Nat → Nat → Parsed → Parsed
  | n, off, p =>
    match take? bs off 2 with
    | none => { p with flags := p.flags ||| shortFlag bs off 2 }
    | some et =>
      if et = 0x8100 ∨ et = 0x88A8 ∨ et = tpid3 then
        match n with
        | 0 => { p with ethertype := et, l3 := 3, flags := p.flags ||| 2 }
        | n + 1 =>
          match take? bs (off + 2) 2 with
          | none => { p with flags := p.flags ||| shortFlag bs off 4 }
          | some tci =>
            let p := if p.tagCount = 0 then { p with outerTag := tci, outerTpid := et }
              else if p.tagCount = 1 then { p with innerTag := tci } else p
            parseTags bs tpid3 n (off + 4) { p with tagCount := p.tagCount + 1 }
      else
        let p := { p with ethertype := et, l3Off := off + 2 }
        if et = 0x0800 then parseIpv4 bs (off + 2) p
        else if et = 0x86DD then parseIpv6 bs (off + 2) p
        else { p with l3 := 3 }

/-- The parser on a packet's bytes. (DEDUCED, log entry 71) -/
def parse (bs : List Byte) (tpid3 : Nat) : Parsed := parseTags bs tpid3 3 12 {}

/-- The key of a packet (R255), fields 0x00 to 0x27, the egress ones zero. -/
def keyOf (tpid3 : Nat) (pk : Pkt) : List Nat :=
  let p := parse pk.bytes tpid3
  let domain := if pk.second then pk.domain else p.outerTag % 4096
  let v4 := p.l3 == 1
  let v6 := p.l3 == 2
  [0, pk.inSrc, pk.flow, pk.keySet,
   (if pk.second then pk.passTag * 4 else 0) + pk.recallOn.toNat * 2 + pk.second.toNat,
   take0 pk.bytes 0 2, take0 pk.bytes 2 4, take0 pk.bytes 6 2, take0 pk.bytes 8 4,
   p.outerTag, p.outerTpid, p.innerTag, p.tagCount, p.ethertype, p.l3, p.proto, p.tos, p.ttl, p.frag,
   (if v4 then p.src else 0), (if v4 then p.dst else 0)] ++
  (List.range 4).map (fun i => if v6 then bitsOf p.src (127 - 32 * i) (96 - 32 * i) else 0) ++
  (List.range 4).map (fun i => if v6 then bitsOf p.dst (127 - 32 * i) (96 - 32 * i) else 0) ++
  [p.flowLabel, p.extMask, p.sport, p.dport, p.tcpFlags, p.icmp, p.flags, 0, 0, domain, pk.bytes.length]

/-- The egress key: the key recorded at entry with EGR_PORT and EGTAG added (R268). -/
def egressKey (key : List Nat) (port egtag : Nat) : List Nat := lmod (lmod key 0x24 (fun _ => port)) 0x25 (fun _ => egtag)

/-- The fragment key of a fragment (R282). -/
def fragKey (p : Parsed) : List Nat := [p.l3, p.src, p.dst, p.fragProto, p.fragId]

end Sys2Proof.Machine
end

