-- ==== Sys2Proof/Machine/Classify.lean ====
section
/-!
DEFINITION. Machine/Classify.lean: tree memory, walks and rules (R259 to R268), and the egress edits.
-/

namespace Sys2Proof.Machine

/-- A generation slot; number 4 stands for none. -/
def genSlot (d : Dev) : Nat → GenSlot
  | 0 => d.cls.g0
  | 1 => d.cls.g1
  | 2 => d.cls.g2
  | 3 => d.cls.g3
  | _ => {}

/-- A generation slot changed; number 4 stands for none. -/
def modSlot (k : Nat) (f : GenSlot → GenSlot) (d : Dev) : Dev :=
  match k with
  | 0 => { d with cls := { d.cls with g0 := f d.cls.g0 } }
  | 1 => { d with cls := { d.cls with g1 := f d.cls.g1 } }
  | 2 => { d with cls := { d.cls with g2 := f d.cls.g2 } }
  | 3 => { d with cls := { d.cls with g3 := f d.cls.g3 } }
  | _ => d

/-- The current slot (R275). -/
def currentSlot (d : Dev) : Nat :=
  match (List.range 4).find? (fun k => (genSlot d k).state == .current) with
  | some k => k
  | none => 0

/-- A drain counter raised by n copies (R276). -/
def drainUp (k n : Nat) (d : Dev) : Dev := modSlot k (fun g => { g with drain := g.drain + n }) d

/-- A drain counter lowered by a copy; a Draining or Evicting slot at zero becomes Free (R270, R276). -/
def drainDown (k : Nat) (d : Dev) : Dev :=
  let d := modSlot k (fun g => { g with drain := g.drain - 1 }) d
  let g := genSlot d k
  if g.drain = 0 ∧ (g.state = .draining ∨ g.state = .evicting) then
    raise fCL_EVENT_SLOT_FREE 0 (modSlot k (fun g => { g with state := .free, owner := none }) d)
  else d

/-- The slot is Evicting: a copy under it is dropped at its next dequeue (R277). -/
def evicted (d : Dev) (k : Nat) : Bool := (genSlot d k).state == .evicting

/-- A tree word's key. -/
def treeKey (pipe addr : Nat) : Nat := pipe * 2 ^ 20 + addr

/-- A word of tree memory; none where it reads uncorrectable (R259, R269). -/
def treeWord (d : Dev) (pipe addr : Nat) : Option Nat :=
  if treeKey pipe addr ∈ d.cls.treeBad then none
  else some (agetD d.cls.tree (treeKey pipe addr) 0).toNat

/-- n words from an address, or the first one that reads uncorrectable. -/
def treeWords (d : Dev) (pipe addr : Nat) : Nat → Except Nat (List Nat)
  | 0 => .ok []
  | n + 1 =>
    match treeWord d pipe addr with
    | none => .error addr
    | some w =>
      match treeWords d pipe (addr + 1) n with
      | .ok l => .ok (w :: l)
      | .error a => .error a

/-- BASE and LIMIT of a slot's region in a pipeline (R260, R288). -/
def region (d : Dev) (pipe k : Nat) : Nat × Nat :=
  (fld d fCL_REGION_BASE_BASE (4 * pipe + k), fld d fCL_REGION_LIMIT_LIMIT (4 * pipe + k))

/-- A region with LIMIT below BASE is empty, and so is one of fewer than the eight words that the division of BASE and
LIMIT + 1 by 8 leaves: BASE and LIMIT are 0 at reset, where the regions are empty (R260, R278, R288).
(DEDUCED, log entry 74) -/
def regionEmpty (r : Nat × Nat) : Bool := r.2 < r.1 + 7

/-- A condition of a rule on a key (R264). -/
def condHolds (key : List Nat) (w0 w1 : Nat) : Bool :=
  let v := key.getD (bitsOf w0 47 42) 0
  let a := bitsOf w0 31 0
  let b := bitsOf w1 31 0
  match bitsOf w0 41 40 with
  | 0 => true
  | 1 => (v &&& b) == a
  | 2 => a ≤ v && v ≤ b
  | _ => (v &&& b) != a

/-- A rule's eight words match a key (R263, R265). -/
def ruleMatches (key : List Nat) (r : List Nat) : Bool :=
  (r.getD 0 0).testBit 47 && condHolds key (r.getD 2 0) (r.getD 3 0) &&
    condHolds key (r.getD 4 0) (r.getD 5 0) && condHolds key (r.getD 6 0) (r.getD 7 0)

/-- Rule pointers of a leaf's four words (R262). -/
def leafPtrs (b : List Nat) : List Nat :=
  ((List.range 4).map (fun i => [bitsOf (b.getD i 0) 33 17, bitsOf (b.getD i 0) 16 0])).flatten.take
    (bitsOf (b.getD 0 0) 47 44)

/-- The first of the rules that matches; none where none does (R265). -/
def firstRule (d : Dev) (pipe : Nat) (key : List Nat) : List Nat → Except Nat (Option (List Nat))
  | [] => .ok none
  | p :: ps =>
    match treeWords d pipe (8 * p) 8 with
    | .error a => .error a
    | .ok r => if ruleMatches key r then .ok (some r) else firstRule d pipe key ps

/-- The walk from a block; at most n nodes before the leaf (R261, R265). -/
def walkFrom (d : Dev) (pipe : Nat) (key : List Nat) : Nat → Nat → Bool → Except Nat (Option (List Nat))
  | n, blk, leaf =>
    match treeWords d pipe (4 * blk) 4 with
    | .error a => .error a
    | .ok b =>
      if leaf then firstRule d pipe key (leafPtrs b)
      else match n with
        | 0 => .ok none
        | n + 1 =>
          let w0 := b.getD 0 0
          let i := bitsOf (key.getD (bitsOf w0 47 42) 0) (bitsOf w0 41 37 + bitsOf w0 36 34 - 1) (bitsOf w0 41 37)
          let flag := if i < 48 then (b.getD 2 0).testBit i else (b.getD 3 0).testBit (i - 48)
          walkFrom d pipe key n (bitsOf (b.getD 1 0) 17 0 + i) flag

/-- How a walk ends. -/
inductive Walk where
  /-- The slot has no image in the pipeline (R260). -/
  | noImage
  /-- An uncorrectable word at the address (R269). -/
  | ecc (addr : Nat)
  /-- The deciding rule's words, and whether it matched or is the default. -/
  | rule (words : List Nat) (matched : Bool)
deriving DecidableEq, Repr

/-- The default rule of a slot's walk (R260, R265). -/
def defaultRule (d : Dev) (pipe k : Nat) (egress : Bool) : Walk :=
  let base := (region d pipe k).1
  if regionEmpty (region d pipe k) then .noImage
  else match treeWords d pipe base 4 with
    | .error a => .ecc a
    | .ok h =>
      match treeWords d pipe (8 * bitsOf (h.getD (if egress then 3 else 2) 0) 16 0) 8 with
      | .error a => .ecc a
      | .ok r => .rule r false

/-- The walk of a key under a slot in a pipeline (R265). -/
def walk (d : Dev) (pipe k : Nat) (egress : Bool) (key : List Nat) : Walk :=
  let base := (region d pipe k).1
  if regionEmpty (region d pipe k) then .noImage
  else match treeWords d pipe base 4 with
    | .error a => .ecc a
    | .ok h =>
      let root := h.getD (if egress then 1 else 0) 0
      match walkFrom d pipe key 12 (bitsOf root 17 0) (root.testBit 47) with
      | .error a => .ecc a
      | .ok (some r) => .rule r true
      | .ok none => defaultRule d pipe k egress

/-- The ingress actions of a rule's words (R263). -/
def actionsOf (r : List Nat) : Actions :=
  let a := r.getD 0 0
  let b := r.getD 1 0
  { ruleId := bitsOf a 46 31, disp := bitsOf a 30 27, polEn := a.testBit 26, policer := bitsOf a 25 11,
    colour := bitsOf a 10 9, learn := a.testBit 8, egtag := bitsOf a 7 0,
    flow := bitsOf b 47 32, target := bitsOf b 31 23, queue := bitsOf b 22 17, domain := bitsOf b 16 5,
    domainSet := b.testBit 4, pcp := bitsOf b 3 1, pcpSet := b.testBit 0 }

/-- A rule's hit counter raised by one (R263). -/
def hit (pipe k ruleId : Nat) (d : Dev) : Dev :=
  let key := (pipe * 4 + k) * 65536 + ruleId
  { d with cls := { d.cls with hits := aputD d.cls.hits key (agetD d.cls.hits key 0 + 1) 0 } }

/-- An uncorrectable tree word read by a walk or the scrubber (R269). -/
def treeEcc (pipe k addr : Nat) (d : Dev) : Dev :=
  let d := if fld d fCL_EVENT_TREE_ECC 0 = 1 then d
    else setFld fCL_ERRADDR_ADDR 0 addr (setFld fCL_ERRADDR_SLOT 0 k (setFld fCL_ERRADDR_PIPE 0 pipe d))
  raise fCL_EVENT_TREE_ECC 0 d

/-! ## Edits of a packet's bytes -/

/-- Bytes from an offset on replaced. -/
def patch (bs : List Byte) (off : Nat) (new : List Byte) : List Byte :=
  bs.take off ++ new ++ bs.drop (off + new.length)

/-- Ones' complement sum of 16-bit words. -/
def onesSum : List Byte → Nat
  | a :: b :: l =>
    let s := onesSum l + a.toNat * 256 + b.toNat
    s % 65536 + s / 65536
  | [a] => a.toNat * 256
  | [] => 0

/-- n bytes at an offset, as a number. -/
def numAt (bs : List Byte) (off n : Nat) : Nat := bytesToNat ((bs.drop off).take n)

/-- A checksum updated for one 16-bit word that changes from old to new: a wrong one stays wrong (R257, R268, R307).
(DEDUCED, log entry 73) -/
def updatedSum (sum old new : Nat) : Nat :=
  let x := (65535 - sum) + (65535 - old) + new
  let x := x % 65536 + x / 65536
  65535 - (x % 65536 + x / 65536)

/-- The 16-bit word at an offset of the IPv4 header at off set, and the header's checksum updated. -/
def editIpv4 (bs : List Byte) (off at_ new : Nat) : List Byte :=
  patch (patch bs (off + at_) (natToBytes 2 new)) (off + 10)
    (natToBytes 2 (updatedSum (numAt bs (off + 10) 2) (numAt bs (off + at_) 2) new))

/-- PCP of the outer tag rewritten, on a tagged packet (R263). -/
def setPcp (bs : List Byte) (pcp : Nat) : List Byte :=
  patch bs 14 (natToBytes 2 (withBits (take0 bs 14 2) 15 13 pcp))

/-- The egress edits of a rule (R268): where layer 3 lies is known from the packet as it was before them. -/
def egressEdit (tpid3 : Nat) (r : List Nat) (bs : List Byte) : List Byte :=
  let w := r.getD 1 0
  let p := parse bs tpid3
  let push := bitsOf w 35 34 = 1
  let pop := bitsOf w 35 34 = 2 ∧ p.tagCount > 0
  let pcp := if w.testBit 30 then bitsOf w 33 31 else 0
  let bs1 := match bitsOf w 35 34 with
    | 1 => bs.take 12 ++ natToBytes 2 0x8100 ++ natToBytes 2 (pcp * 8192 + bitsOf w 47 36) ++ bs.drop 12
    | 2 => if p.tagCount > 0 then bs.take 12 ++ bs.drop 16 else bs
    | 3 => if p.tagCount > 0 then patch bs 14 (natToBytes 2 (withBits p.outerTag 11 0 (bitsOf w 47 36))) else bs
    | _ => bs
  let tagged := decide ((if pop then 1 else 0) < p.tagCount)
  let bs2 := if w.testBit 30 ∧ ¬ push ∧ tagged then setPcp bs1 (bitsOf w 33 31) else bs1
  let off := if push then p.l3Off + 4 else if pop then p.l3Off - 4 else p.l3Off
  let tos := withBits p.tos 7 2 (bitsOf w 29 24)
  if w.testBit 23 then
    if p.l3 = 1 then editIpv4 bs2 off 0 (numAt bs2 off 1 * 256 + tos)
    else if p.l3 = 2 then patch bs2 off (natToBytes 2 (withBits (numAt bs2 off 2) 11 4 tos))
    else bs2
  else bs2

/-- The egress walk of a queued copy at a port: the frame without FCS as it will leave, or why it does not (R268). -/
inductive Egress where
  | send (bytes : List Byte) (edited : Bool) (rule : Nat) (matched : Bool)
  | drop (rule : Nat) (matched : Bool)
  | bad (rule : Nat) (matched : Bool)
  | noImage
  | ecc (addr : Nat)
deriving DecidableEq, Repr

/-- The egress walk. -/
def egressWalk (d : Dev) (port : Nat) (q : QPkt) : Egress :=
  match walk d (port / 24) q.slot true (egressKey q.key port q.egtag) with
  | .noImage => .noImage
  | .ecc a => .ecc a
  | .rule r m =>
    let a := actionsOf r
    if a.disp = 0 then .drop a.ruleId m
    else if a.disp = 1 then
      let bs := egressEdit (fld d fCL_CTRL_TPID3 0) r q.bytes
      .send bs (bs != q.bytes) a.ruleId m
    else .bad a.ruleId m

end Sys2Proof.Machine
end

