-- ==== Sys2Proof/Machine/HostPath.lean ====
section
/-!
DEFINITION. Machine/HostPath.lean: rings and the host packet path (R477 to R482), and the flow and allocation-ID tables
that classification consults (R96 to R98, R191).
-/

namespace Sys2Proof.Machine

/-! ## Rings -/

/-- The register of a ring block by the model's ring number: drawer d at d, RX completion r at 200 + r, RX buffer r at
220 + r, TX t at 240 + t, Bench submission 260, Bench completion 261. -/
def ringCfg (n : Nat) : Reg × Nat :=
  if n < 104 then (.dringCfg, n) else if n < 216 then (.rxcCfg, n - 200) else if n < 236 then (.rxbCfg, n - 220)
  else if n < 256 then (.txrCfg, n - 240) else if n = 260 then (.bnsCfg, 0) else (.bncCfg, 0)

/-- The ring's write-back register. -/
def ringWbReg (n : Nat) : Reg × Nat :=
  if n < 104 then (.dringWb, n) else if n < 216 then (.rxcWb, n - 200) else if n < 236 then (.rxbWb, n - 220)
  else if n < 256 then (.txrWb, n - 240) else if n = 260 then (.bnsWb, 0) else (.bncWb, 0)

/-- The ring's tail-line register. -/
def ringLineReg (n : Nat) : Reg × Nat :=
  if n < 104 then (.dringTailLine, n) else if n < 216 then (.rxcTailLine, n - 200)
  else if n < 236 then (.rxbTailLine, n - 220) else if n < 256 then (.txrTailLine, n - 240)
  else if n = 260 then (.bnsTailLine, 0) else (.bncTailLine, 0)

/-- A ring's MSI-X vector (R494); none for a ring that has none of its own. -/
def ringVector (n : Nat) : Option Nat :=
  if n < 104 then some (8 + n) else if n < 216 then some (136 + (n - 200)) else if n < 236 then none
  else if n < 256 then some (152 + (n - 240)) else none

/-- A ring is enabled (R477). -/
def ringEnabled (d : Dev) (n : Nat) : Bool := (reg d (ringCfg n).1 (ringCfg n).2).toNat.testBit 4

/-- Entries of a ring: 2^LOG2 (R477). -/
def ringSize (d : Dev) (n : Nat) : Nat := 2 ^ bitsOf (reg d (ringCfg n).1 (ringCfg n).2).toNat 3 0

/-- A ring's indexes. -/
def ring (d : Dev) (n : Nat) : RingIx := agetD d.host.rings n {}

/-- A ring's indexes changed. -/
def modRing (n : Nat) (f : RingIx → RingIx) (d : Dev) : Dev :=
  { d with host := { d.host with rings := aputD d.host.rings n (f (ring d n)) {} } }

/-- An index one further, modulo twice the ring's size (R477). -/
def indexNext (d : Dev) (n : Nat) (i : BitVec 16) : BitVec 16 := BitVec.ofNat 16 ((i.toNat + 1) % (2 * ringSize d n))

/-- Entries between two indexes (R477). -/
def indexDist (d : Dev) (n : Nat) (a b : BitVec 16) : Nat :=
  (b.toNat + 2 * ringSize d n - a.toNat % (2 * ringSize d n)) % (2 * ringSize d n)

/-- The vectors of the completions written since the last write-back signalled, each once (R536). -/
def benchVectors (d : Dev) : Dev :=
  let vs := d.sec.vectors
  vs.foldl (fun d v => signal v d) { d with sec := { d.sec with vectors := [] } }

/-- The device's index written back and the ring's vector signalled (R479). -/
def writeBack (n : Nat) (d : Dev) : Dev :=
  let r := ring d n
  let d := modRing n (fun r => { r with wbCount := 0, wbSince := none }) d
  let d := if (reg d (ringWbReg n).1 (ringWbReg n).2) = 0 then d else emit (.ringIndex n r.devIx) d
  match ringVector n with
  | some v => signal v d
  | none => if n = 261 then benchVectors d else d

/-- A ring's base register. -/
def ringBaseReg (n : Nat) : Reg × Nat :=
  if n < 104 then (.dringBase, n) else if n < 216 then (.rxcBase, n - 200) else if n < 236 then (.rxbBase, n - 220)
  else if n < 256 then (.txrBase, n - 240) else if n = 260 then (.bnsBase, 0) else (.bncBase, 0)

/-- The device reads a ring's descriptors: buffer, transmit and submission rings (R480, R481, R534). -/
def deviceReads (n : Nat) : Bool := decide (220 ≤ n) && decide (n ≤ 260)

/-- A line of host memory held in the device cache; past 1,024 lines the oldest goes (R468).
(DESIGN CHOICE, log entry 182) -/
def cacheLine (l : Nat) (d : Dev) : Dev :=
  { d with host := { d.host with cache := (l :: d.host.cache.filter (· != l)).take 1024 } }

/-- The line of the descriptor at the device's index is read through CXL.cache in CXL mode (R478). -/
def readLine (n : Nat) (d : Dev) : Dev :=
  if d.host.link.cxl && deviceReads n then
    let perLine := if n < 236 then 4 else 2
    cacheLine ((reg d (ringBaseReg n).1 (ringBaseReg n).2).toNat + (ring d n).devIx.toNat % ringSize d n / perLine) d
  else d

/-- One entry produced or consumed: at the sixteenth since the last write-back, the device writes back (R479). -/
def ringStep (n : Nat) (d : Dev) : Dev :=
  let d := readLine n d
  let d := modRing n (fun r => { r with
    devIx := indexNext d n r.devIx, wbCount := r.wbCount + 1,
    wbSince := match r.wbSince with | some t => some t | none => some d.now }) d
  if (ring d n).wbCount ≥ 16 then writeBack n d else d

/-! ## Completion ring of the Bench (R536, R543) -/

/-- Completions that wait are written to the completion ring in order, while it is enabled and has room. -/
def benchFlush (d : Dev) : Dev := loop d.sec.completions.length d
where
  /-- At most n of them. -/
  loop : Nat → Dev → Dev
    | 0, d => d
    | n + 1, d =>
      match d.sec.completions with
      | [] => d
      | (ws, v) :: rest =>
        if pdOn d 46 ∧ ringEnabled d 261 ∧ indexDist d 261 (ring d 261).hostIx (ring d 261).devIx < ringSize d 261 then
          let d := { d with sec := { d.sec with
            completions := rest, vectors := if v ∈ d.sec.vectors then d.sec.vectors else d.sec.vectors ++ [v] } }
          loop n (ringStep 261 (emit (.ringEntry 261 (ring d 261).devIx ws) d))
        else d

/-! ## Receive rings (R481, R482) -/

/-- NS32 and FRAC of an instant's Longcase value (R437). -/
def ns32 (v : Int) : Nat × Nat := ((v.toNat / 65536) % 2 ^ 32, v.toNat % 65536)

/-- Longcase's value at an instant. -/
def ltAt (d : Dev) (t : Time) : Int := ltValue d.lc (fld d fLT_SERVO_MAX_SLEW 0) t

/-- The receive ring of a delivery (R482). -/
def hostRing (d : Dev) (reason queueNo : Nat) : Nat :=
  if reason ≤ 1 then queueNo % 16
  else bitsOf (fld d fHP_REASON_RING_RINGS 0) (4 * reason + 3) (4 * reason)

/-- The buffer entry at the device's index of a receive ring: address and TAG, free where no command brought it (R481).
(DEDUCED, log entry 183) -/
def bufferEntry (r : Nat) (d : Dev) : (Word × Word) × Dev :=
  match aget d.host.rxEntries (65536 * r + (ring d (220 + r)).devIx.toNat) with
  | some e => (e, d)
  | none =>
    let (i, d) := nextFree d
    let (j, d) := nextFree d
    ((Config.freeWord i, Config.freeWord j), d)

/-- A packet delivered to a host ring, or dropped and counted (R481, R482). -/
def hostDeliver (reason queueNo ruleId : Nat) (inSrc flow : Nat) (stamp : Time) (bytes : List Byte) (d : Dev) : Dev :=
  let r := hostRing d reason queueNo
  let c := 200 + r
  let b := 220 + r
  let size := max 1 (min 64 (fld d fRXB_CFG_BUF_SIZE r)) * 256
  if !(ringEnabled d c && ringEnabled d b) then count .hrxDisabled r d
  else if (ring d b).hostIx = (ring d b).devIx ∨ indexDist d c (ring d c).hostIx (ring d c).devIx ≥ ringSize d c then
    count .hrxNoBuffer r d
  else if bytes.length > size then count .hrxTooLong r d
  else
    let (n32, fr) := ns32 (ltAt d stamp)
    let w0 := 2 ^ 47 + reason * 2 ^ 43 + bytes.length * 2 ^ 29 + inSrc * 2 ^ 19 +
      (if reason = 4 ∨ reason = 5 then 0 else ruleId) * 8
    let ((addr, tag), d) := bufferEntry r d
    let d := emit (.hostPacket r (ring d b).devIx addr bytes) d
    let d := emit (.ringEntry c (ring d c).devIx
      [BitVec.ofNat 48 w0, BitVec.ofNat 48 (flow * 2 ^ 32 + n32), BitVec.ofNat 48 (fr * 2 ^ 32), tag]) d
    countN .hrxBytes r bytes.length (count .hrxPackets r (ringStep c (ringStep b d)))

/-! ## Flow table (R96 to R98) -/

/-- Index and subindex of field n of flow slot k (R98). -/
def flowKey (k n : Nat) : Nat × Nat := (0x2400 + k / 4, 16 * (k % 4) + n)

/-- A field of a flow slot. -/
def flowField (d : Dev) (k n dflt : Nat) : Nat := dictNat d (flowKey k n).1 (flowKey k n).2 dflt

/-- The flow slots that are enabled. -/
def enabledFlows (d : Dev) : List Nat :=
  d.dict.filterMap (fun e =>
    let ix := e.1 / 256
    let sub := e.1 % 256
    if 0x2400 ≤ ix ∧ ix < 0x2C00 ∧ sub % 16 = 2 ∧ bytesToNat e.2 ≠ 0 then some (4 * (ix - 0x2400) + sub / 16) else none)

/-- The slot of a flow ID enabled in a direction: bit 0 down, bit 1 up (R96, R98). -/
def flowSlot? (d : Dev) (flow : Nat) (up : Bool) : Option Nat :=
  (enabledFlows d).find? (fun k => flowField d k 1 0 == flow && (flowField d k 3 1).testBit (if up then 1 else 0))

/-- A flow slot's envelopes are ciphered (R98). -/
def flowCiphered (d : Dev) (k : Nat) : Bool := flowField d k 4 1 != 0

/-- An upstream flow's envelopes are ciphered. (DESIGN CHOICE, log entry 200) -/
def upCiphered (d : Dev) (flow : Nat) : Bool :=
  match flowSlot? d flow true with
  | some k => flowCiphered d k
  | none => false

/-- The pipeline of a flow slot: its entry, or flow ID mod P (R18, R98). -/
def flowPipe (d : Dev) (k : Nat) : Nat :=
  match aget d.dict ((flowKey k 6).1 * 256 + (flowKey k 6).2) with
  | some bs => bytesToNat bs
  | none => flowField d k 1 0 % d.part.pipes

/-! ## Allocation-ID slots (R191) -/

/-- Index and subindex of field n of allocation-ID slot k. -/
def allocKey (k n : Nat) : Nat × Nat := (0x2C00 + k / 4, 16 * (k % 4) + n)

/-- A terminal number is held (R157). -/
def numHeld (d : Dev) : Bool := fld d fACT_STATUS_NUM_VALID 0 == 1

/-- The terminal number held, which is the default allocation ID. -/
def termNum (d : Dev) : Nat := fld d fACT_STATUS_TERM_NUM 0

/-- An allocation-ID slot is enabled: slot 0 while a terminal number is held (R191). -/
def allocEnabled (d : Dev) (k : Nat) : Bool :=
  if k = 0 then numHeld d else dictNat d (allocKey k 2).1 (allocKey k 2).2 0 != 0

/-- The allocation ID of a slot (R191). -/
def allocId (d : Dev) (k : Nat) : Nat :=
  if k = 0 then termNum d else dictNat d (allocKey k 1).1 (allocKey k 1).2 0

/-- The enabled allocation-ID slots, lowest first. -/
def enabledAllocs (d : Dev) : List Nat :=
  (if numHeld d then [0] else []) ++
  d.dict.filterMap (fun e =>
    let ix := e.1 / 256
    let sub := e.1 % 256
    if 0x2C00 ≤ ix ∧ ix < 0x2C80 ∧ sub % 16 = 2 ∧ bytesToNat e.2 ≠ 0 then
      let k := 4 * (ix - 0x2C00) + sub / 16
      if k = 0 then none else some k
    else none)

/-- The slot of an allocation ID. -/
def allocSlot? (d : Dev) (id : Nat) : Option Nat := (enabledAllocs d).find? (fun k => allocId d k == id)

end Sys2Proof.Machine
end

