-- ==== Sys2Proof/Machine/Tm.lean ====
section
/-!
DEFINITION. Machine/Tm.lean: the traffic manager: queues, scheduler nodes, shapers, policers, packet buffer, Wardrobe
(R327 to R351).
-/

namespace Sys2Proof.Machine

/-- Number of upstream queue 0 in the model's list (R327). -/
def upBase : Nat := 6144

/-- A queue as it is before anything is written or queued. -/
def queueDefault : Queue := {}

/-- A queue. -/
def queue (d : Dev) (q : Nat) : Queue := agetD d.tm.queues q queueDefault

/-- A queue changed. -/
def modQueue (q : Nat) (f : Queue → Queue) (d : Dev) : Dev :=
  { d with tm := { d.tm with queues := aputD d.tm.queues q (f (queue d q)) queueDefault } }

/-- A node's defaults: 64 queues downstream, 32 upstream (R331). -/
def nodeDefault (n : Nat) : Node := if n < 96 then {} else { queues := 32 }

/-- A node: downstream node n at n, upstream node k at 96 + k. -/
def node (d : Dev) (n : Nat) : Node := agetD d.tm.nodes n (nodeDefault n)

/-- A node changed. -/
def modNode (n : Nat) (f : Node → Node) (d : Dev) : Dev :=
  { d with tm := { d.tm with nodes := aputD d.tm.nodes n (f (node d n)) (nodeDefault n) } }

/-- The queue numbers of a node (R327). -/
def nodeQueue (n i : Nat) : Nat := if n < 96 then 64 * n + i else upBase + 32 * (n - 96) + i

/-- Cells of a packet of n bytes (R341). (DEDUCED, log entry 81) -/
def cellsOf (n : Nat) : Nat := ceilDiv n 256

/-- A copy is on die, in its queue's head part (R346). -/
def onDie (p : QPkt) : Bool := p.page.isNone

/-- Cells that a queue's packets on die take, the marked ones or the others. -/
def queueCells (q : Queue) (marked : Bool) : Nat :=
  (q.items.filter (fun p => onDie p && p.marked == marked)).foldl (fun a p => a + cellsOf p.bytes.length) 0

/-- Cells of all data on die, data stored once counted once (R330). -/
def storedCells (d : Dev) : Nat :=
  let all := (d.tm.queues.map (fun e => e.2.items.filter onDie)).flatten
  (all.foldl (fun (a : List Nat × Nat) p =>
    if p.store ∈ a.1 then a else (p.store :: a.1, a.2 + cellsOf p.bytes.length)) ([], 0)).2

/-- Counted length of an upstream envelope for a payload of n bytes: header, tag and padding (R83, R333). -/
def envelopeBytes (n : Nat) (ciphered : Bool) : Nat := 8 + 8 * ceilDiv (n + if ciphered then 16 else 0) 8

/-- An upstream packet admitted to slot k: its envelope bytes count toward the slot's forecast (R186). -/
def noteAdmitted (k : Nat) (p : QPkt) (d : Dev) : Dev :=
  { d with tm := { d.tm with
    admitted := aputD d.tm.admitted k
      (agetD d.tm.admitted k 0 + envelopeBytes p.bytes.length (upCiphered d p.flow)) 0 } }

/-- Cells of the re-issued envelopes that a condition names (R344). -/
def reissueCells (d : Dev) (p : OutEnv → Bool) : Nat :=
  (d.up.reissue.map (fun e => (e.2.filter p).foldl (fun a x => a + cellsOf x.plain.length) 0)).foldl (· + ·) 0

/-- Cells that queue q holds, of marked packets or of the others: on die, and in re-issued envelopes (R342, R344). -/
def heldBy (d : Dev) (q : Nat) (marked : Bool) : Nat :=
  queueCells (queue d q) marked + reissueCells d (fun e => e.owner == some (q, marked))

/-- Reserve cells of queue q in use: a marked packet never uses them (R342). -/
def reserveUsed (d : Dev) (q : Nat) : Nat := min (queue d q).reserve (heldBy d q false)

/-- Cells of held fragments (R341). -/
def heldCells (d : Dev) : Nat :=
  (d.cls.holds.map (fun e => e.2.foldl (fun a h => a + cellsOf h.pkt.bytes.length) 0)).foldl (· + ·) 0

/-- A: the shared area less the staging reserve (R341). -/
def admitCells (d : Dev) : Nat :=
  393216 - 65536 - fld d fBOND_CTRL_POOL 0 * 4096 - 100 * fld d fLE_FILL_FILL_LEAD 0 * d.part.channels

/-- Reserve cells that are in use, and all reserve cells. -/
def reserves (d : Dev) : Nat × Nat :=
  d.tm.queues.foldl (fun a e => (a.1 + reserveUsed d e.1, a.2 + e.2.reserve)) (0, 0)

/-- F of R342. -/
def freeCells (d : Dev) : Nat :=
  let (used, all) := reserves d
  admitCells d - (storedCells d + heldCells d + reissueCells d (fun _ => true) - used) - (all - used)

/-- Cells that the reorder pool can have beside what the shared area holds and its staging reserve (R341, R344). -/
def poolRoom (d : Dev) : Nat :=
  393216 - 65536 - 100 * fld d fLE_FILL_FILL_LEAD 0 * d.part.channels - storedCells d - heldCells d -
    reissueCells d (fun _ => true)

/-- α × F of a queue, α given by its code: 1/32 to 4 (R342). -/
def alphaShare (code f : Nat) : Nat := f * 2 ^ code / 32

/-- A packet of c cells is admitted to queue q (R342). -/
def admits (d : Dev) (q : Nat) (c : Nat) (marked : Bool) : Bool :=
  let w := queue d q
  let used := reserveUsed d q
  let u := heldBy d q false + heldBy d q true - used
  let share := alphaShare w.alpha (freeCells d)
  if marked then decide (2 * (u + c) ≤ share)
  else decide (used + c ≤ w.reserve) || decide (u + c ≤ share)

/-! ## Wardrobe (R345 to R351) -/

/-- Pages of the Wardrobe partition (R345). -/
def wdPages (d : Dev) : Nat := d.mc.sizes.getD 2 0 * 16384

/-- Pages a queue holds. -/
def queuePages (q : Queue) : List Nat := (q.items.filterMap (fun p => p.page.map (·.1))).eraseDups

/-- Pages in use (R356). -/
def wdUsed (d : Dev) : List Nat := (d.tm.queues.map (fun e => queuePages e.2)).flatten

/-- Pages of an upstream slot's queues (R347). -/
def slotPages (d : Dev) (k : Nat) : Nat :=
  ((List.range 32).map (fun i => (queuePages (queue d (upBase + 32 * k + i))).length)).foldl (· + ·) 0

/-- The lowest page that is free. (DESIGN CHOICE, log entry 82) -/
def freePage (used : List Nat) (pages : Nat) : Option Nat := (List.range pages).find? (fun p => !used.contains p)

/-- Full codewords of a burst's coded part on a lane, and the message symbols of the shortened one (R171, R172). -/
def codedPart (len preamble : Nat) : Nat × Nat :=
  let a := 25 * (len - preamble) - 7
  (a / 544, if 31 ≤ a % 544 then a % 544 - 30 else 0)

/-- Words of a lane's message string (R172). -/
def burstWords (len preamble : Nat) : Nat := (10 * (514 * (codedPart len preamble).1 + (codedPart len preamble).2)) / 64

/-- Pages of the packets in a list that n bytes reach into. -/
def pagesWithin : Nat → List QPkt → List Nat
  | _, [] => []
  | n, p :: l => if n = 0 then [] else (p.page.map (·.1)).toList ++ pagesWithin (n - p.bytes.length) l

/-- Descriptor blocks of a queue that the lengths of its slot's validated grants may need (R348). -/
def grantBlocks (d : Dev) (q : Nat) : Nat :=
  let mine := d.up.grants.filter (fun g => g.kind == .data && g.content.isNone && decide (upBase ≤ q) &&
    g.slot == (q - upBase) / 32)
  (pagesWithin (mine.foldl (fun a g => a + 16 * burstWords g.len g.preamble) 0) (queue d q).items).eraseDups.length

/-- Descriptor blocks of a queue that are kept on die: those of its grants, and those of the first READ_AHEAD pages of its tail
(R348). -/
def raWanted (d : Dev) (q : Nat) : Nat :=
  max (grantBlocks d q) (min (fld d fWD_CTRL_READ_AHEAD 0) (queuePages (queue d q)).length)

/-- Read-ahead blocks in use (R348, R356). -/
def raUsed (d : Dev) : Nat := min 2560 (d.tm.queues.foldl (fun a e => a + raWanted d e.1) 0)

/-- The descriptors at the head of a queue's Wardrobe tail are on die: the 2,560 blocks go first to what validated grants need,
then to the other pages, each in the order of the queues' numbers (R348). (DEDUCED, log entry 54) -/
def descOnDie (d : Dev) (q : Nat) : Bool :=
  let sum := fun (l : List (Nat × Queue)) (f : Nat → Nat) => l.foldl (fun a e => a + f e.1) 0
  let before := d.tm.queues.filter (fun e => decide (e.1 < q))
  if 0 < grantBlocks d q then decide (sum before (grantBlocks d) < 2560)
  else decide (sum d.tm.queues (grantBlocks d) + sum before (fun i => raWanted d i - grantBlocks d i) < 2560)

/-- Bytes waiting in the write buffer (R349). -/
def stagedBytes (d : Dev) : Nat :=
  (d.tm.queues.map (fun e => (e.2.items.filter (·.staged)).foldl (fun a p => a + p.bytes.length) 0)).foldl (· + ·) 0

/-- A packet's bytes in a page, on 64-byte boundaries (R345). -/
def pageBytes (n : Nat) : Nat := 64 * ceilDiv n 64

/-- An arriving packet stored in its queue's Wardrobe tail, or dropped and counted (R347, R349). -/
def spill (k i : Nat) (p : QPkt) (d : Dev) : Dev :=
  let q := upBase + 32 * k + i
  let n := pageBytes p.bytes.length
  if stagedBytes d + p.bytes.length > 4194304 then
    drainDown p.slot (raise fWD_EVENT_WRITE_STALL 0 (count .writeStalls 0 d))
  else
    let w := queue d q
    let hasTail := w.items.any (fun x => !onDie x)
    let fits := match w.openPage with
      | some (pg, off, desc) => if hasTail ∧ off + n ≤ 61440 ∧ desc < 256 then some (pg, off, desc) else none
      | none => none
    match fits with
    | some (pg, off, desc) =>
      noteAdmitted k p (count .qSpilled (32 * k + i) (modQueue q (fun w => { w with
        items := w.items ++ [{ p with page := some (pg, off), staged := true }],
        openPage := some (pg, off + n, desc + 1) }) d))
    | none =>
      if slotPages d k + 1 > 16 * (node d (96 + k)).wlimit then
        drainDown p.slot (raise fWD_EVENT_LIMIT 0 (count .qLimitDrops (32 * k + i) d))
      else
        match freePage (wdUsed d) (wdPages d) with
        | none => drainDown p.slot (raise fWD_EVENT_FULL 0 (count .fullDrops 0 d))
        | some pg =>
          noteAdmitted k p (count .qSpilled (32 * k + i) (modQueue q (fun w => { w with
            items := w.items ++ [{ p with page := some (pg, 0), staged := true }],
            openPage := some (pg, n, 1) }) d))

/-! ## Enqueue -/

/-- A downstream copy to queue i of a port (R328, R343). -/
def enqueueDown (port i : Nat) (p : QPkt) (d : Dev) : Dev :=
  let q := 64 * port + i
  if admits d q (cellsOf p.bytes.length) p.marked then
    countN .qBytes q p.bytes.length (count .qAdmitted q
      (modQueue q (fun w => { w with items := w.items ++ [p] }) d))
  else
    let d := count .qDrops q d
    let d := if p.marked then count .qMarkedDrops q d else d
    drainDown p.slot (raise fTM_EVENT_ADMIT_DROP 0 d)

/-- An upstream packet to queue i of slot k (R343, R346). -/
def enqueueUp (k i : Nat) (p : QPkt) (d : Dev) : Dev :=
  let q := upBase + 32 * k + i
  let w := queue d q
  let hasTail := w.items.any (fun x => !onDie x)
  if !hasTail && admits d q (cellsOf p.bytes.length) p.marked then
    noteAdmitted k p (countN .qBytes q p.bytes.length (count .qAdmitted q
      (modQueue q (fun w => { w with items := w.items ++ [p] }) d)))
  else spill k i p d

/-! ## Scheduling (R332 to R336) -/

/-- Counted length of a frame of n bytes without FCS: padded, with FCS, plus 20 bytes (R246, R333). -/
def frameLength (n : Nat) : Nat := max 60 n + 24

/-- Counted length of a downstream copy: the frame as it will leave (R333). -/
def downLength (d : Dev) (port : Nat) (p : QPkt) : Nat :=
  frameLength (match egressWalk d port p with
    | .send bs _ _ _ => bs.length
    | _ => p.bytes.length)

/-- The queue is eligible by its items and its shaper; pauses, dead keys and short descriptors come in blocked (R332). -/
def eligible (d : Dev) (blocked : Nat → Bool) (q : Nat) : Bool :=
  let w := queue d q
  !w.items.isEmpty && !blocked q && (!w.shaper.enable || decide (0 ≤ w.shaper.credit))

/-- One visit of the deficit round robin to the node's pointer (R332): the queue chosen, if its deficit allows. -/
def drrVisit (blocked : Nat → Bool) (len : Dev → Nat → Nat) (n : Nat) (d : Dev) : Option Nat × Dev :=
  let nd := node d n
  let size := nd.queues - nd.strict
  let q := nodeQueue n (nd.strict + nd.ptr % max size 1)
  let leave := fun d : Dev =>
    modNode n (fun x => { x with ptr := (x.ptr + 1) % max size 1 }) (modQueue q (fun w => { w with visited := false }) d)
  if eligible d blocked q then
    let d := if (queue d q).visited then d
      else modQueue q (fun w => { w with
        deficit := min (w.deficit + 64 * max 1 w.weight) (64 * max 1 w.weight + 16391), visited := true }) d
    if len d q ≤ (queue d q).deficit then (some q, d) else (none, leave d)
  else (none, leave d)

/-- Visits until one chooses; every visit to an eligible queue raises its deficit, so a bound on the visits suffices. -/
def drrLoop (blocked : Nat → Bool) (len : Dev → Nat → Nat) (n : Nat) : Nat → Dev → Option Nat × Dev
  | 0, d => (none, d)
  | k + 1, d =>
    match drrVisit blocked len n d with
    | (some q, d) => (some q, d)
    | (none, d) => drrLoop blocked len n k d

/-- The queue a node offers (R332), by the model's queue number. -/
def nextQueue (blocked : Nat → Bool) (len : Dev → Nat → Nat) (n : Nat) (d : Dev) : Option Nat × Dev :=
  let nd := node d n
  if nd.shaper.enable && decide (nd.shaper.credit < 0) then (none, d)
  else
    match (List.range nd.strict).find? (fun i => eligible d blocked (nodeQueue n i)) with
    | some i => (some (nodeQueue n i), d)
    | none =>
      if (List.range (nd.queues - nd.strict)).any (fun i => eligible d blocked (nodeQueue n (nd.strict + i))) then
        drrLoop blocked len n ((nd.queues - nd.strict) * 520) d
      else (none, d)

/-- Queue q belongs to node n's weighted group. -/
def isWeighted (d : Dev) (n q : Nat) : Bool :=
  (List.range ((node d n).queues - (node d n).strict)).any (fun i => nodeQueue n ((node d n).strict + i) == q)

/-- The node of a queue, by the model's numbers (R327). -/
def queueNode (q : Nat) : Nat := if q < upBase then q / 64 else 96 + (q - upBase) / 32

/-- A queue that packets have left: where a weighted one is empty, its deficit returns to zero and the pointer moves on from it
(R333). -/
def emptied (q : Nat) (d : Dev) : Dev :=
  let n := queueNode q
  if isWeighted d n q && (queue d q).items.isEmpty then
    let nd := node d n
    let size := max (nd.queues - nd.strict) 1
    let d := modQueue q (fun w => { w with deficit := 0, visited := false }) d
    if nodeQueue n (nd.strict + nd.ptr % size) = q then modNode n (fun x => { x with ptr := (x.ptr + 1) % size }) d else d
  else d

/-- A counted length charged to a queue and its node (R333); len is the charge, the head has already left. -/
def charge (n q len : Nat) (d : Dev) : Dev :=
  let sub := fun (s : Shaper) => if s.enable then { s with credit := s.credit - len } else s
  let weighted := isWeighted d n q
  let d := modQueue q (fun w => { w with
    shaper := sub w.shaper, deficit := if weighted then w.deficit - len else w.deficit }) d
  emptied q (modNode n (fun x => { x with shaper := sub x.shaper }) d)

/-- Packets of a queue that a condition names taken out of it, each with what its loss does (R276, R333). -/
def takeOut (q : Nat) (gone : QPkt → Bool) (lost : QPkt → Dev → Dev) (d : Dev) : Dev :=
  let ps := (queue d q).items.filter gone
  if ps.isEmpty then d
  else
    emptied q (modQueue q (fun w => { w with items := w.items.filter (fun p => !gone p) })
      (ps.foldl (fun d p => drainDown p.slot (lost p d)) d))

/-- The head of a queue taken off. -/
def popQueue (q : Nat) (d : Dev) : Dev := modQueue q (fun w => { w with items := w.items.drop 1 }) d

/-- One refill of a shaper (R335, R336). -/
def refillShaper (s : Shaper) : Shaper :=
  if s.enable then { s with credit := min (s.credit + s.rate) s.burst } else s

/-- Every shaper refilled (R335). -/
def refillShapers (d : Dev) : Dev :=
  { d with tm := { d.tm with
    queues := (d.tm.queues.map (fun e => (e.1, { e.2 with shaper := refillShaper e.2.shaper }))).filter
      (fun e => e.2 != queueDefault),
    nodes := (d.tm.nodes.map (fun e => (e.1, { e.2 with shaper := refillShaper e.2.shaper }))).filter
      (fun e => e.2 != nodeDefault e.1) } }

/-- A shaper given new settings; a newly enabled one starts with credit BURST (R336). -/
def setShaper (en : Bool) (rate burst : Nat) (s : Shaper) : Shaper :=
  { enable := en, rate := rate, burst := burst, credit := if en ∧ ¬ s.enable then burst else s.credit }

/-! ## Policers (R337 to R340) -/

/-- A policer. -/
def policer (d : Dev) (i : Nat) : Policer := agetD d.tm.policers i {}

/-- A policer changed. -/
def modPolicer (i : Nat) (f : Policer → Policer) (d : Dev) : Dev :=
  { d with tm := { d.tm with policers := aputD d.tm.policers i (f (policer d i)) {} } }

/-- One token, with 24 fraction bits. -/
def token : Nat := 2 ^ 24

/-- Parameters given to a policer; a change of CBS or PBS sets each bucket full at the next refill (R337). -/
def setPolicer (c : PolicerCfg) (p : Policer) : Policer :=
  { p with cfg := c, fill := p.fill || c.cbs != p.cfg.cbs || c.pbs != p.cfg.pbs }

/-- One refill: the written parameters come into force, and after a change of a bucket's size both are set full (R337, R340). -/
def refillPolicer (p : Policer) : Policer :=
  let c := p.cfg
  if p.fill then { cfg := c, eff := c, tc := c.cbs * token, tp := c.pbs * token }
  else { cfg := c, eff := c, tc := min (c.cbs * token) (p.tc + c.cir * 8 * token / 1000000),
         tp := min (c.pbs * token) (p.tp + c.pir * 8 * token / 1000000) }

/-- A packet's colour: 1 green, 2 yellow, 3 red, and the buckets after it (R338). -/
def policerDecide (pre : Nat) (p : Policer) : Nat × Policer :=
  let pre := if p.eff.aware then pre else 0
  if pre = 3 ∨ p.tp < token then (3, p)
  else if pre = 2 ∨ p.tc < token then (2, { p with tp := p.tp - token })
  else (1, { p with tc := p.tc - token, tp := p.tp - token })

/-- A packet metered: dropped, or passed and perhaps marked (R339). -/
def meter (i pre : Nat) (d : Dev) : Dev × Bool × Bool :=
  let (c, p) := policerDecide pre (policer d i)
  let d := modPolicer i (fun _ => p) d
  let y := min p.eff.yellow 2
  if c = 1 then (count .polGreen i d, false, false)
  else if c = 2 then
    let d := count .polYellow i d
    if y = 2 then (count .polYellowDrops i d, true, false) else (d, false, y == 1)
  else
    let d := count .polRed i d
    if p.eff.red = 1 then (count .polRedDrops i d, true, false) else (d, false, true)

/-! ## Replication groups (R329, R330) -/

/-- A replication group. -/
def group (d : Dev) (i : Nat) : Group := agetD d.tm.groups i {}

/-- The number under which the next packet's data is stored. -/
def newStore (d : Dev) : Nat × Dev := (d.tm.nextStore, { d with tm := { d.tm with nextStore := d.tm.nextStore + 1 } })

/-- Counted length queued in a queue (R333, R354): downstream as frames, upstream as envelopes. -/
def queuedLength (d : Dev) (ciphered : Nat → Bool) (q : Nat) : Nat :=
  (queue d q).items.foldl (fun a p =>
    a + if q < upBase then downLength d (q / 64) p else envelopeBytes (p.bytes.length - p.sent) (ciphered p.flow)) 0

end Sys2Proof.Machine
end

