-- ==== Sys2Proof/Machine/LineEngine.lean ====
section
/-!
DEFINITION. Machine/LineEngine.lean: the activation state machine and its record (R126 to R132), and the grants a map gives
(R159 to R163).
-/

namespace Sys2Proof.Machine

/-! ## Paths, delays, channels -/

/-- Current path: 0 working, 1 protection (R70). -/
def pathNow (d : Dev) : Nat := d.prot.sel.toNat

/-- Equalisation delay of a path, symbols. -/
def eqDelay (d : Dev) (path : Nat) : Nat := if path = 0 then fld d fACT_EQD_W_EQD 0 else fld d fACT_EQD_P_EQD 0

/-- A path is ranged, by a committed delay or one that waits for the frame boundary (R144). -/
def pathRanged (d : Dev) (path : Nat) : Bool :=
  (if path = 0 then fld d fACT_STATUS_RANGED_W 0 else fld d fACT_STATUS_RANGED_P 0) == 1 ||
    d.act.delayPend.any (fun x => x.1 == path)

/-- The latest delay of a path, committed or not (R144, R145). -/
def latestDelay (d : Dev) (path : Nat) : Nat :=
  match (d.act.delayPend.filter (fun x => x.1 == path)).getLast? with
  | some x => x.2
  | none => eqDelay d path

/-- The value in force for a map of frame fc: the one before the earliest change that was carried in that frame or a
later one; the history is newest first (R144, R170). (DEDUCED, log entry 63) -/
def valueAt {α β : Type} (hist : List α) (here : α → Bool) (carried : α → Word) (old : α → β) (latest : β) (fc : Word) : β :=
  match (hist.filter (fun c => here c && decide (fc ≤ carried c))).getLast? with
  | some c => old c
  | none => latest

/-- Equalisation delay for maps of frame fc (R144, R163). -/
def delayFor (d : Dev) (path : Nat) (fc : Word) : Nat :=
  valueAt d.act.delayHist (fun c => c.path == path) (·.fc) (·.old) (latestDelay d path) fc

/-- Profile p as the registers hold it (R189). -/
def profNow (d : Dev) (p : Nat) : ProfCfg :=
  { held := fld d fPROF_CFG_HELD p == 1, channels := fld d fPROF_CFG_CHANNELS p,
    preamble := fld d fPROF_CFG_PREAMBLE_LEN p, pattern := fld d fPROF_CFG_PATTERN p,
    delim := fld d fPROF_DELIM_HI_DELIM p * 2 ^ 32 + fld d fPROF_DELIM_LO_DELIM p,
    preassigned := fld d fPROF_DELAY_PREASSIGNED p }

/-- Profile p for maps of frame fc (R170). -/
def profAt (d : Dev) (p : Nat) (fc : Word) : ProfCfg :=
  valueAt d.up.profHist (fun c => c.prof == p) (·.fc) (·.old) (profNow d p) fc

/-- Activation state (R128). -/
def actState (d : Dev) : Nat := fld d fACT_STATUS_STATE 0

/-- Home channel; meaningful while a terminal number is held. -/
def homeChan (d : Dev) : Nat := fld d fACT_STATUS_HOME 0

/-- The home channel that Sleep and the lifeline profile keep: without a number the last one (R550, R558).
(DESIGN CHOICE, log entry 125) -/
def keptHome (d : Dev) : Nat := if numHeld d then homeChan d else d.pwr.home

/-- A channel is the home channel (R77). -/
def isHome (d : Dev) (n : Nat) : Bool := numHeld d && homeChan d == n

/-- The enabled channels. -/
def enabledChans (d : Dev) : List Nat := (List.range 16).filter (chanEnabled d)

/-- A channel that is enabled is up. -/
def anyUp (d : Dev) : Bool := (enabledChans d).any (chanUp d)

/-! ## Drops that keep the drain counters right -/

/-- Copies dropped: each lowers its slot's drain counter (R276). -/
def dropCopies (ps : List QPkt) (d : Dev) : Dev := ps.foldl (fun d p => drainDown p.slot d) d

/-- Envelopes dropped or sent: each that keeps a generation slot busy lowers its drain counter (R276). -/
def endEnvs (es : List OutEnv) (d : Dev) : Dev :=
  es.foldl (fun d e => match e.gen with
    | some k => drainDown k d
    | none => d) d

/-! ## Grants -/

/-- Instant of a grant's first preamble UI (R163). -/
def grantBegin (g : Grant) : Time := g.t0 + (1328125 + 25 * g.burstAt + g.delay) * Config.symbol

/-- Instant after its last UI. -/
def grantEnd (g : Grant) : Time := grantBegin g + g.len * Config.slot

/-- An envelope put where the order of first placement has it. -/
def insertOut (e : OutEnv) : List OutEnv → List OutEnv
  | [] => [e]
  | x :: l => if e.order < x.order then e :: x :: l else x :: insertOut e l

/-- A grant lost before its first UI: its data envelopes, on die by now, are kept for re-issue in their first order, its
tributary block waits again (R181, R188). (DEDUCED, log entries 49, 50) -/
def loseGrant (d : Dev) (g : Grant) : Dev :=
  match g.content with
  | none => d
  | some c =>
    let es := (c.envs.filter (·.data)).map (fun e => { e with src := none })
    let d := { d with up := { d.up with
      reissue := aputD d.up.reissue g.slot (es.foldl (fun l e => insertOut e l) (agetD d.up.reissue g.slot [])) [],
      blocks := match c.trib with
        | some b => d.up.blocks.filter (fun x => decide (x.builtAt < b.builtAt)) ++
            b :: d.up.blocks.filter (fun x => decide (b.builtAt ≤ x.builtAt))
        | none => d.up.blocks } }
    raiseIf (!es.isEmpty) fLE_GRANT_EVENT_REISSUE 0 (countN .reissuedEnvelopes g.ch es.length d)

/-- Grants not yet begun that a condition names are abandoned (R66, R148, R191). -/
def abandonGrants (p : Grant → Bool) (d : Dev) : Dev :=
  let lost := d.up.grants.filter (fun g => !g.started && p g)
  lost.foldl loseGrant { d with up := { d.up with grants := d.up.grants.filter (fun g => g.started || !p g) } }

/-- A burst has left, whole or cut: a Sleep Notice in it counts as gone (R152, R181). -/
def leaveBurst (g : Grant) (d : Dev) : Dev :=
  match g.content with
  | none => d
  | some c =>
    if c.envs.any (fun e => e.ctl == some 0x85) then { d with act := { d.act with noticeLeft := true } } else d

/-- A burst under way on a channel is cut (R181, R202). -/
def cutBurst (ch : Nat) (d : Dev) : Dev :=
  let cut := d.up.grants.filter (fun g => g.started && g.ch == ch)
  cut.foldl (fun d g => raise fLE_GRANT_EVENT_BURST_CUT 0 (count .burstsCut ch (leaveBurst g d)))
    { d with up := { d.up with grants := d.up.grants.filter (fun g => !(g.started && g.ch == ch)) } }

/-! ## The activation record (R130) -/

/-- Dictionary entries of a range of indexes back at their defaults. -/
def defaultEntries (lo hi : Nat) (d : Dev) : Dev :=
  { d with dict := d.dict.filter (fun e => !(decide (lo * 256 ≤ e.1) && decide (e.1 < (hi + 1) * 256))) }

/-- Every upstream queue emptied, every re-issued envelope dropped, each counted under its allocation-ID slot (R130). -/
def dropUpstream (d : Dev) : Dev :=
  let ups := d.tm.queues.filter (fun e => upBase ≤ e.1)
  let d := ups.foldl (fun d e =>
    countN .clearDrops ((e.1 - upBase) / 32) e.2.items.length
      (dropCopies e.2.items (emptied e.1 (modQueue e.1 (fun w => { w with items := [], openPage := none }) d)))) d
  let d' := d.up.reissue.foldl (fun d e => countN .clearDrops e.1 e.2.length (endEnvs e.2 d)) d
  { d' with up := { d'.up with reissue := [] } }

/-- The Sleep Allow's consent ends; a request that rests on it is cancelled before its commit point (R151, R152). -/
def endConsent (d : Dev) : Dev :=
  consentGone { d with act := { d.act with sleepStates := 0, sleepUntil := none } }

/-- The Firescreen back to Unassigned, its copies of number and delays erased (R198). (DEDUCED, log entry 64) -/
def fsForget (f : FsSt) : FsSt :=
  { f with number := none, home := 0, eqdW := none, eqdP := none, delayHist := [], ranging := none }

/-- Clear record (R130): number, home, delays, allocation IDs, flow table, key set 0, check-value slots 0 and 1, consent.
(DEDUCED, log entry 175) -/
def clearRecord (d : Dev) : Dev :=
  let d := { d with pwr := { d.pwr with home := keptHome d } }
  let d := setFld fACT_STATUS_NUM_VALID 0 0 (setFld fACT_STATUS_TERM_NUM 0 0 (setFld fACT_STATUS_HOME 0 0 d))
  let d := setFld fACT_STATUS_RANGED_W 0 0 (setFld fACT_STATUS_RANGED_P 0 0 d)
  let d := setFld fACT_EQD_W_EQD 0 0 (setFld fACT_EQD_P_EQD 0 0 d)
  let d := setReg .leTrib 0 0 (defaultEntries 0x2400 0x2C7F d)
  let d := { d with
    cipher := { d.cipher with keys := d.cipher.keys.filter (fun e => 4 ≤ e.1), slots := d.cipher.slots.filter (fun e => 2 ≤ e.1) },
    bond := { d.bond with flows := [], mgmtReplaced := false },
    act := { d.act with provDelay := 0, ranging := none, keySwitch := none, delayPend := [], delayHist := [], outbox := [] },
    fs := fsForget d.fs,
    up := { d.up with forecast := [], seqs := [] } }
  dropUpstream (endConsent d)

/-! ## State changes (R129) -/

/-- The activation state set; leaving Operation ends the sleep consent (R151). -/
def setState (n : Nat) (d : Dev) : Dev :=
  if actState d = n then d
  else
    let d := if actState d = 4 then endConsent d else d
    raise fACT_EVENT_STATE_CHANGE 0 (setFld fACT_STATUS_STATE 0 n d)

/-- Profile p is held. -/
def profHeld (d : Dev) (p : Nat) : Bool := fld d fPROF_CFG_HELD p == 1

/-- Standby and Serial Number follow profile 0 and Upstream inhibit (R129). -/
def settleState (d : Dev) : Dev :=
  let ok := profHeld d 0 && fld d fACT_CTRL_INHIBIT 0 == 0
  if actState d = 1 ∧ ok then setState 2 d
  else if actState d = 2 ∧ ¬ ok then setState 1 (abandonGrants (fun _ => true) d)
  else d

/-- The ranging timer started (R131). -/
def startRanging (d : Dev) : Dev :=
  { d with act := { d.act with rangingDue := some (d.now + fld d fACT_CTRL_RANGING_TIMER 0 * Config.ms) } }

/-- An enabled channel is up: what leaves Initial, after the line start release, and Intermittent Loss (R129, R633). -/
def actOnUp (d : Dev) : Dev :=
  if ¬ anyUp d then d
  else if actState d = 0 ∧ d.act.lineRelease then
    if d.act.stopRecord.isSome then raise fACT_EVENT_STOPPED 0 (setState 6 d) else settleState (setState 1 d)
  else if actState d = 5 then
    let d := { d with act := { d.act with lossDue := none, lossIsConsent := false } }
    if pathRanged d (pathNow d) then setState 4 d else startRanging (setState 3 d)
  else d

/-- Every enabled channel is down (R129). -/
def actOnDown (d : Dev) : Dev :=
  if anyUp d then d
  else if actState d = 1 ∨ actState d = 2 ∨ actState d = 3 then
    clearRecord (setState 0 { d with act := { d.act with rangingDue := none } })
  else if actState d = 4 then
    let d := { d with act := { d.act with
      lossDue := some (d.now + fld d fACT_CTRL_LOSS_TIMER 0 * Config.ms), lossIsConsent := false } }
    setState 5 d
  else d

/-- A timer's instant has come. (DEDUCED, log entry 5) -/
def dueBy (t : Option Time) (now : Time) : Bool :=
  match t with
  | some t => decide (t ≤ now)
  | none => false

/-- The ranging timer expires in Ranging (R129). -/
def rangingExpiry (d : Dev) : Dev :=
  if actState d = 3 ∧ dueBy d.act.rangingDue d.now then
    let d := { abandonGrants (fun _ => true) d with act := { d.act with rangingDue := none } }
    settleState (clearRecord (setState 1 (raise fACT_EVENT_RANGING_EXPIRED 0 d)))
  else d

/-- The loss timer expires in Intermittent Loss (R129). -/
def lossExpiry (d : Dev) : Dev :=
  if actState d = 5 ∧ dueBy d.act.lossDue d.now then
    let d := { d with act := { d.act with lossDue := none, lossIsConsent := false } }
    clearRecord (setState 0 (raise fACT_EVENT_LOSS_EXPIRED 0 d))
  else d

/-- A Sleep Allow's period runs out (R151). -/
def sleepExpiry (d : Dev) : Dev :=
  if dueBy d.act.sleepUntil d.now then endConsent d else d

/-- Emergency Stop is left once consent and release are both held (R129, R150). -/
def leaveStop (d : Dev) : Dev :=
  if actState d = 6 ∧ d.act.consent ∧ d.act.release then
    let d := { d with act := { d.act with consent := false, release := false, stopRecord := none } }
    let d := clearRecord (setState 1 d)
    settleState (if anyUp d then d else actOnDown d)
  else d

/-- The Secretary carries on its part of the line's and the Firescreen's decisions: it runs, and not in recovery (R126, R605). -/
def secretaryActs (d : Dev) : Bool := pdOn d 3 && !d.sec.restarting && fld d fGL_BOOT_RECOVERY 0 == 0

/-- The Secretary gives its release on consent, unless Upstream inhibit withholds it (R150). -/
def secretaryRelease (d : Dev) : Dev :=
  if actState d = 6 ∧ d.act.consent ∧ fld d fACT_CTRL_INHIBIT 0 = 0 ∧ secretaryActs d then
    leaveStop { d with act := { d.act with release := true } }
  else d

/-! ## The map (R159 to R162) -/

/-- The CRC-14 of a map entry fits (R160). -/
def mapCrcOk (w : BitVec 64) : Bool :=
  crcBits 14 0x443 0 (natToBits 50 (w.toNat >>> 14)) ^^^ 0x2AAA == w.toNat % 2 ^ 14

/-- Fields of a map entry (R159). -/
def entryAlloc (w : BitVec 64) : Nat := bitsOf w.toNat 63 50
def entryStart (w : BitVec 64) : Nat := bitsOf w.toNat 49 34
def entryLen (w : BitVec 64) : Nat := bitsOf w.toNat 33 18
def entryProf (w : BitVec 64) : Nat := bitsOf w.toNat 17 16
def entryReport (w : BitVec 64) : Bool := w.toNat.testBit 15

/-- A ranging request awaits its grant on this channel, in this frame, and this entry is for the default ID (R143). -/
def rangingHere (d : Dev) (ch : Nat) (fc : Word) (alloc : Nat) : Bool :=
  match d.act.ranging with
  | some (c, f) => c == ch && decide (f < fc) && numHeld d && alloc == termNum d
  | none => false

/-- The kind under which the terminal may answer an entry in its present state; none for another's (R161). -/
def entryKind (d : Dev) (ch : Nat) (fc : Word) (alloc : Nat) : Option GrantKind :=
  if actState d = 2 then if alloc = 0x3FFF then some .window else none
  else if actState d = 3 then if rangingHere d ch fc alloc then some .ranging else none
  else if actState d = 4 then
    if rangingHere d ch fc alloc then some .ranging
    else if (allocSlot? d alloc).isSome then some .data else none
  else none

/-- Two burst intervals on one channel overlap. -/
def grantsOverlap (a b : Grant) : Bool :=
  a.ch == b.ch && decide (grantBegin a < grantEnd b) && decide (grantBegin b < grantEnd a)

/-- A window on this or another channel that the terminal already answers in the same frame (R142). -/
def windowTaken (d : Dev) (t0 : Time) : Option Grant :=
  d.up.grants.find? (fun g => g.kind == .window &&
    decide (g.t0 < t0 + Config.frame / 2) && decide (t0 < g.t0 + Config.frame / 2))

/-- A refused own entry (R162, R189). -/
def refuseGrant (c : CName) (scope : Nat) (d : Dev) : Dev := raise fLE_GRANT_EVENT_GRANT_REFUSED 0 (count c scope d)

/-- No grant accepted already keeps its place before this one: the earlier start does, then the earlier in order (R162). -/
def keepsPlace (g : Grant) (d : Dev) : Bool :=
  !d.up.grants.any (fun x => grantsOverlap g x && (x.started || decide (grantBegin x ≤ grantBegin g)))

/-- A grant accepted, unless it overlaps one that keeps its place (R162). -/
def addGrant (g : Grant) (d : Dev) : Dev :=
  if !keepsPlace g d then refuseGrant .overlapAbandons 0 d
  else
    let clash := d.up.grants.filter (grantsOverlap g)
    let d := clash.foldl (fun d _ => refuseGrant .overlapAbandons 0 d) (abandonGrants (grantsOverlap g) d)
    let d := if g.kind == .ranging then { d with act := { d.act with ranging := none } } else d
    count .grantsAccepted g.ch { d with up := { d.up with grants := d.up.grants ++ [g] } }

/-- The grant an own entry asks for under a profile, with the delay of its kind (R142, R163). -/
def entryGrant (ch : Nat) (fc : Word) (t0 : Time) (k : GrantKind) (w : BitVec 64) (p : ProfCfg) (off : Nat) (d : Dev) :
    Grant :=
  { ch := ch, fc := fc, t0 := t0, kind := k, alloc := entryAlloc w, slot := (allocSlot? d (entryAlloc w)).getD 0,
    start := entryStart w, burstAt := entryStart w + off, len := if k == .window then p.preamble + 4 else entryLen w,
    report := entryReport w,
    delay := match k with
      | .window => p.preassigned
      | .ranging => d.act.provDelay
      | .data => delayFor d (pathNow d) fc,
    preamble := p.preamble, profile := entryProf w, pattern := p.pattern, delim := BitVec.ofNat 64 p.delim, offset := off }

/-- One entry of an up channel's map (R161, R162). -/
def takeEntry (ch : Nat) (fc : Word) (t0 : Time) (d : Dev) (e : Option (BitVec 64)) : Dev :=
  match e with
  | none => d
  | some w =>
    if !mapCrcOk w then count .mapCrcFail ch d
    else match entryKind d ch fc (entryAlloc w) with
      | none => d
      | some k =>
        let p := profAt d (entryProf w) fc
        let need := if k == .data then p.preamble + 2 else p.preamble + 4
        if entryLen w = 0 then refuseGrant .grantZeroLength ch d
        else if entryStart w ≥ 53125 ∨ entryStart w + entryLen w > 53125 then refuseGrant .grantPastEnd ch d
        else if ¬ p.held ∨ ¬ p.channels.testBit ch then refuseGrant .grantProfileMissing ch d
        else if entryLen w < need then refuseGrant .grantShort ch d
        else if k == .window then
          match windowTaken d t0 with
          | some g =>
            if g.ch ≤ ch ∨ g.started then d
            else
              let (n, d) := nextFree d
              let new := entryGrant ch fc t0 k w p (Config.freeOffset n % (entryLen w - need + 1)) d
              addGrant new (if keepsPlace new d then abandonGrants (fun x => x == g) d else d)
          | none =>
            let (n, d) := nextFree d
            addGrant (entryGrant ch fc t0 k w p (Config.freeOffset n % (entryLen w - need + 1)) d) d
        else addGrant (entryGrant ch fc t0 k w p 0 d) d

/-- A map of an up channel (R58, R161): none of it while the channel has been up for less than 8 frames (R69). -/
def takeMap (ch : Nat) (fc : Word) (t0 : Time) (es : List (Option (BitVec 64))) (d : Dev) : Dev :=
  if chanUp d ch ∧ 8 ≤ (chan d ch).upFrames then es.foldl (takeEntry ch fc t0) d else d

end Sys2Proof.Machine
end

