-- ==== Sys2Proof/Machine/Forward.lean ====
section
/-!
DEFINITION. Machine/Forward.lean: domains, the MAC table, the trie, next hops and learning (R294 to R323).
-/

namespace Sys2Proof.Machine

/-! ## MAC table (R297 to R300) -/

/-- The bucket H0 of a key K (R299). -/
def hash0 (d : Dev) (k : Nat) : Nat :=
  bitsOf k 16 0 ^^^ bitsOf k 33 17 ^^^ bitsOf k 50 34 ^^^ bitsOf k 59 51 ^^^ fld d fFW_HASH_SEED0 0

/-- The bucket H1 of a key K, H0 XOR 1 where they would be equal (R299). -/
def hash1 (d : Dev) (k : Nat) : Nat :=
  let h := bitsOf k 59 43 ^^^ bitsOf k 42 26 ^^^ bitsOf k 25 9 ^^^ (bitsOf k 8 0 * 256) ^^^ fld d fFW_HASH_SEED1 0
  if h = hash0 d k then h ^^^ 1 else h

/-- The key of a station in a domain (R299). -/
def macKey (domain mac : Nat) : Nat := domain * 2 ^ 48 + mac

/-- A word of the MAC table. -/
def macWord (d : Dev) (a : Nat) : Nat := (agetD d.fwd.mac a 0).toNat

/-- The four words of way loc = bucket × 8 + way (R297). -/
def macEntry (d : Dev) (loc : Nat) : List Nat := (List.range 4).map (fun i => macWord d (4 * loc + i))

/-- A way's four words written; a written word reads good again (R311). -/
def setMacEntry (loc : Nat) (ws : List Nat) (d : Dev) : Dev :=
  (List.range 4).foldl (fun d i =>
    { d with fwd := { d.fwd with
      mac := aputD d.fwd.mac (4 * loc + i) (BitVec.ofNat 48 (ws.getD i 0)) 0,
      bad := d.fwd.bad.filter (fun x => x != 4 * loc + i),
      soft := d.fwd.soft.filter (fun x => x != 4 * loc + i) } }) d

/-- Fields of word 1 (R298). -/
def macValid (ws : List Nat) : Bool := (ws.getD 1 0).testBit 47
def macLock (ws : List Nat) : Bool := (ws.getD 1 0).testBit 46
def macHit (ws : List Nat) : Bool := (ws.getD 1 0).testBit 45
def macStatic (ws : List Nat) : Bool := (ws.getD 1 0).testBit 44
def macAge1 (ws : List Nat) : Bool := (ws.getD 1 0).testBit 43
def macDomain (ws : List Nat) : Nat := bitsOf (ws.getD 1 0) 42 31
def macKind (ws : List Nat) : Nat := bitsOf (ws.getD 2 0) 47 45
def macPort (ws : List Nat) : Nat := bitsOf (ws.getD 2 0) 44 38

/-- Bit n of word 1 set to b. -/
def withBit1 (ws : List Nat) (n : Nat) (b : Bool) : List Nat := lmod ws 1 (fun w => withBits w n n b.toNat)

/-- Valid MAC entries (FW_STATUS). -/
def macValidCount (d : Dev) : Nat := (d.fwd.mac.filter (fun e => e.1 % 4 == 1 && e.2.toNat.testBit 47)).length

/-- An uncorrectable word of either table posted and raised (R322, R323). -/
def tableErrorItem (trie : Bool) (a : Nat) (d : Dev) : Dev :=
  let d := count .tableUe 0 (raise fFW_EVENT_TABLE_ECC 0 d)
  post 1 [BitVec.ofNat 48 (2 ^ 47 + trie.toNat * 2 ^ 46 + a), stampWord (ltNow d)] d

/-- An uncorrectable word of a MAC entry: VALID is written 0 (R322). -/
def macUe (a : Nat) (d : Dev) : Dev :=
  let loc := a / 4
  tableErrorItem false a (setMacEntry loc (withBit1 (macEntry d loc) 47 false) d)

/-- Words found uncorrectable or with a correctable error, marked (R322). -/
def meetErrors (e : TableErrors) (d : Dev) : Dev :=
  { d with fwd := { d.fwd with bad := (e.bad ++ d.fwd.bad).eraseDups, soft := (e.soft ++ d.fwd.soft).eraseDups } }

/-- Words read in either table: each correctable error is counted (R322). -/
def softReads (p : Nat → Bool) (d : Dev) : Dev := countN .tableCe 0 (d.fwd.soft.filter p).length d

/-- A bucket read: its correctable errors are counted, the entry of each bad word is invalidated (R322). -/
def macScan (bucket : Nat) (d : Dev) : Dev :=
  let here := fun (a : Nat) => decide (a < 2 ^ 22) && a / 32 == bucket
  (d.fwd.bad.filter here).foldl (fun d a => macUe a d) (softReads here d)

/-- The way holding a key: H0 before H1, the lowest way first (R300). -/
def macFind? (d : Dev) (domain mac : Nat) : Option Nat :=
  let k := macKey domain mac
  let ways := (List.range 8).map (fun w => hash0 d k * 8 + w) ++ (List.range 8).map (fun w => hash1 d k * 8 + w)
  ways.find? (fun loc =>
    let e := macEntry d loc
    macValid e && e.getD 0 0 == mac && macDomain e == domain)

/-- A lookup reads both buckets (R300, R322). -/
def macLookup (domain mac : Nat) (d : Dev) : Option Nat × Dev :=
  let k := macKey domain mac
  let d := macScan (hash1 d k) (macScan (hash0 d k) d)
  (macFind? d domain mac, d)

/-- HIT set, unless the entry is locked (R315, R29). -/
def setHit (loc : Nat) (d : Dev) : Dev :=
  let e := macEntry d loc
  if macLock e then d else setMacEntry loc (withBit1 e 45 true) d

/-! ## Trie (R301 to R306) -/

/-- A word of trie memory. -/
def trieWord (d : Dev) (a : Nat) : Nat := (agetD d.fwd.trie a 0).toNat

/-- A word of trie memory written. -/
def setTrieWord (a v : Nat) (d : Dev) : Dev :=
  { d with fwd := { d.fwd with
    trie := aputD d.fwd.trie a (BitVec.ofNat 48 v) 0, bad := d.fwd.bad.filter (fun x => x != 2 ^ 22 + a),
    soft := d.fwd.soft.filter (fun x => x != 2 ^ 22 + a) } }

/-- An uncorrectable trie word: written zero with POISON 1 (R322). -/
def trieUe (a : Nat) (d : Dev) : Dev := tableErrorItem true a (setTrieWord a 256 d)

/-- How a trie lookup ends: next hop, miss, or a word that is uncorrectable or poisoned. -/
inductive TrieResult where
  | hop (n : Nat) | miss | uncorrectable (addr : Nat) | poisoned
deriving DecidableEq, Repr

/-- The lookup from a word, with the next address bytes still to index and the best next hop so far (R303). -/
def trieFrom (d : Dev) : List Nat → Nat → Option Nat → TrieResult
  | rest, a, best =>
    if 2 ^ 22 + a ∈ d.fwd.bad then .uncorrectable a
    else
      let w := trieWord d a
      if w.testBit 8 then .poisoned
      else
        let best := if w.testBit 33 then some (bitsOf w 32 17) else best
        let stop : TrieResult := match best with
          | some n => .hop n
          | none => .miss
        match rest with
        | [] => stop
        | b :: rest =>
          if w.testBit 47 ∧ bitsOf w 46 34 ≤ 7167 then trieFrom d rest (0x40000 + 256 * bitsOf w 46 34 + b) best
          else stop

/-- Words that the lookup reads (R303, R306). -/
def triePath (d : Dev) : List Nat → Nat → List Nat
  | rest, a =>
    let w := trieWord d a
    match rest with
    | [] => [a]
    | b :: rest =>
      if w.testBit 47 ∧ bitsOf w 46 34 ≤ 7167 then a :: triePath d rest (0x40000 + 256 * bitsOf w 46 34 + b) else [a]

/-- The address bytes behind the stage-1 word, and that word: three stages for IPv4, eight for IPv6 (R303). -/
def trieStages (v6 : Bool) (dst : Nat) : List Nat × Nat :=
  if v6 then ((List.range 7).map (fun i => bitsOf dst (111 - 8 * i) (104 - 8 * i)), 0x10000 + bitsOf dst 127 112)
  else ([bitsOf dst 15 8, bitsOf dst 7 0], bitsOf dst 31 16)

/-- The lookup of a destination, its correctable errors counted (R303, R322). -/
def trieLookup (v6 : Bool) (dst : Nat) (d : Dev) : TrieResult × Dev :=
  let s := trieStages v6 dst
  (trieFrom d s.1 s.2 none, softReads (fun a => (triePath d s.1 s.2).any (fun x => 2 ^ 22 + x == a)) d)

/-! ## Destinations (R295 to R298, R307) -/

/-- Where a forwarded packet goes. -/
inductive Dest where
  | port (n : Nat)
  | line
  | host (reason : Nat)
  | members (group : Nat)
  | bad
  | dropped
deriving DecidableEq, Repr

/-- The destination of KIND, PORT and GROUP: 5 to 7 act as 4, and so does a port absent from the part (R298). -/
def destOf (d : Dev) (kind port grp : Nat) : Dest :=
  if kind = 0 then if port < d.part.ports then .port port else .bad
  else if kind = 1 then .line
  else if kind = 2 then .host 6
  else if kind = 3 then .members grp
  else .bad

/-- A domain's entry n (R294, R325). -/
def domainField (d : Dev) (dom n : Nat) : Nat := dictNat d (0x4100 + dom / 16) (16 * (dom % 16) + n) 0

/-- A routed packet's bytes: new addresses, TTL or hop limit one less, IPv4 checksum updated (R307). -/
def routeEdit (p : Parsed) (nhMac routerMac : Nat) (bs : List Byte) : List Byte :=
  let bs := natToBytes 6 nhMac ++ natToBytes 6 routerMac ++ bs.drop 12
  if p.l3 = 1 then editIpv4 bs p.l3Off 8 ((p.ttl - 1) * 256 + numAt bs (p.l3Off + 9) 1)
  else patch bs (p.l3Off + 7) (natToBytes 1 (p.ttl - 1))

/-- The packet is routed: a routing domain, an IP packet, addressed to the domain's router address (R295). -/
def isRouted (d : Dev) (dom : Nat) (p : Parsed) (bs : List Byte) : Bool :=
  domainField d dom 1 == 1 && (p.l3 == 1 || p.l3 == 2) && take0 bs 0 6 == domainField d dom 3

/-- The lookup of a packet with disposition Forward in its domain (R295, R298, R303, R307): its destination, its bytes as
they go on, and the device after the table reads. -/
def forwardLookup (dom : Nat) (p : Parsed) (pipe : Nat) (bs : List Byte) (d : Dev) : Dest × List Byte × Dev :=
  let da := take0 bs 0 6
  let router := domainField d dom 3
  if isRouted d dom p bs then
    let onMiss := fun d : Dev =>
      (if domainField d dom 4 = 1 then (Dest.host 2, bs, count .routeMisses pipe d)
       else (Dest.dropped, bs, count .routeMisses pipe d))
    if p.ttl ≤ 1 then (.host 3, bs, count .ttlToHost pipe d)
    else
      match trieLookup (p.l3 == 2) p.dst d with
      | (.poisoned, d) => (.dropped, bs, count .poisonDrops pipe d)
      | (.uncorrectable a, d) => (.dropped, bs, count .poisonDrops pipe (trieUe a d))
      | (.miss, d) => onMiss d
      | (.hop n, d) =>
        let a := 0x20000 + 2 * n
        let d := softReads (fun x => x == 2 ^ 22 + a || x == 2 ^ 22 + a + 1) d
        match [a, a + 1].find? (fun x => d.fwd.bad.contains (2 ^ 22 + x)) with
        | some x => (.dropped, bs, count .poisonDrops pipe (trieUe x d))
        | none =>
          let w1 := trieWord d (a + 1)
          if w1.testBit 8 ∧ w1 = 256 ∨ trieWord d a = 256 then (.dropped, bs, count .poisonDrops pipe d)
          else if ¬ w1.testBit 47 then onMiss d
          else
            (destOf d (bitsOf w1 46 44) (bitsOf w1 43 37) (bitsOf w1 36 25),
              routeEdit p (trieWord d a) router bs, count .routeHits pipe d)
  else
    match macLookup dom da d with
    | (none, d) => (.members (domainField d dom 2), bs, count .macFloods pipe (count .macMisses pipe d))
    | (some loc, d) =>
      let e := macEntry d loc
      let d := count .macHits pipe (setHit loc d)
      if (e.getD 1 0).testBit 29 then (.dropped, bs, count .macSaDaDrops pipe d)
      else (destOf d (macKind e) (macPort e) (bitsOf (e.getD 2 0) 37 26), bs, d)

/-! ## Learning (R315 to R318) -/

/-- The learn filter of a pipeline, entries past their hold left out (R316). -/
def liveFilter (d : Dev) (pipe : Nat) : List LearnFilter :=
  (agetD d.fwd.filters pipe []).filter (fun f => d.now < f.until_)

/-- A notification of a packet that entered at an instant, offered to the merge unless its pipeline's filter holds it (R316 to
R318). -/
def learnNotify (reason pipe port dom mac oldPort loc : Nat) (at_ : Time) (d : Dev) : Dev :=
  if (liveFilter d pipe).any (fun f => f.domain == dom && f.mac == mac && f.port == port && f.reason == reason) then
    count .learnSuppressed pipe d
  else
    { d with fwd := { d.fwd with
      merge := d.fwd.merge ++ [⟨reason, pipe, port, dom, mac, at_, ltAt d at_, oldPort, loc, d.fwd.made⟩],
      offers := aput d.fwd.offers pipe (max at_ (agetD d.fwd.offers pipe 0)),
      made := d.fwd.made + 1 } }

/-- A filter entry added; the one nearest its expiry is replaced when the filter is full (R316). -/
def filterAdd (pipe : Nat) (f : LearnFilter) (d : Dev) : Dev :=
  let l := liveFilter d pipe
  let l := if l.length < 4096 then l
    else
      let first := l.foldl (fun m x => min m x.until_) ((l.headD f).until_)
      match l.findIdx? (fun x => x.until_ == first) with
      | some i => l.eraseIdx i
      | none => l.drop 1
  { d with fwd := { d.fwd with filters := aputD d.fwd.filters pipe (l ++ [f]) [] } }

/-- A notification posted in the learn drawer with the next sequence number, or dropped and counted (R316, R317). -/
def learnPost (i : LearnItem) (d : Dev) : Dev :=
  let w0 := 2 ^ 47 + i.reason * 2 ^ 44 + i.pipe * 2 ^ 42 + i.port * 2 ^ 35 + i.domain * 2 ^ 23 + d.fwd.seq
  let d := { d with fwd := { d.fwd with seq := (d.fwd.seq + 1) % 2 ^ 23 } }
  let item := [BitVec.ofNat 48 w0, BitVec.ofNat 48 i.mac, stampWord i.stamp,
    BitVec.ofNat 48 ((if i.reason = 1 then i.oldPort else 0) * 2 ^ 20 + (if i.reason = 0 then 0 else i.loc))]
  if drawerRoom d 0 then
    let d := count .learnPosted i.pipe (post 0 item d)
    if i.reason = 2 then d
    else filterAdd i.pipe ⟨i.domain, i.mac, i.port, i.reason, d.now + fld d fFW_LEARN_LF_HOLD 0 * Config.us⟩ d
  else raise fFW_EVENT_LEARN_DROP 0 (count .learnDropped i.pipe (post 0 item d))

/-- Source learning of a packet that entered by a drop port at an instant (R315); true where the packet is dropped. -/
def learnSource (pipe port dom : Nat) (at_ : Time) (bs : List Byte) (d : Dev) : Bool × Dev :=
  let sa := take0 bs 6 6
  match macLookup dom sa d with
  | (none, d) =>
    if sa.testBit 40 then (true, count .macBadSource pipe d)
    else (false, learnNotify 0 pipe port dom sa 0 0 at_ d)
  | (some loc, d) =>
    let e := macEntry d loc
    let onPort := macKind e == 0 && decide (macPort e < d.part.ports)
    if (e.getD 1 0).testBit 30 then (true, count .macSaDaDrops pipe d)
    else if onPort ∧ macPort e = port then (false, setHit loc d)
    else if onPort ∧ ¬ macStatic e then
      (false, learnNotify 1 pipe port dom sa (macPort e) loc at_ (setHit loc d))
    else (false, learnNotify 3 pipe port dom sa 0 loc at_ d)

end Sys2Proof.Machine
end

