-- ==== Sys2Proof/Machine/Registers.lean ====
section
/-!
DEFINITION. Machine/Registers.lean: what a write stores in a register (R12 to R15, R474, R477).
-/

namespace Sys2Proof.Machine

/-- The values a writable field takes; others are ignored, as the field's own row says. -/
def fieldTakes (r : Reg) (f : FieldSpec) (v : Nat) : Bool :=
  match r with
  | .thCfg =>
    if f.lo = 40 then 70 ≤ v && v ≤ 105 else if f.lo = 32 then 106 ≤ v && v ≤ 118
    else if f.lo = 24 then 80 ≤ v && v ≤ 100 else 95 ≤ v && v ≤ 110
  | .lntInject => v == 0 || (10 ≤ v && v ≤ 40)
  | _ =>
    match f.range with
    | none => true
    | some (a, b) => a ≤ v && v ≤ b

/-- A ring's BASE and RING_CFG registers: the ring's configuration register (R477). -/
def ringOf : Reg → Option Reg
  | .dringBase | .dringCfg => some .dringCfg
  | .rxcBase | .rxcCfg => some .rxcCfg
  | .rxbBase | .rxbCfg => some .rxbCfg
  | .txrBase | .txrCfg => some .txrCfg
  | .bnsBase | .bnsCfg => some .bnsCfg
  | .bncBase | .bncCfg => some .bncCfg
  | _ => none

/-- The state lets a field of a register be written: ring blocks and hash seeds are locked in use (R324, R477), CHAIN is a
bit of odd counters (R596). -/
def fieldOpen (d : Dev) (r : Reg) (i : Nat) (f : FieldSpec) : Bool :=
  match ringOf r with
  | some c => f.lo == 4 && r == c || !(reg d c i).toNat.testBit 4
  | none =>
    match r with
    | .fwHash => macValidCount d == 0
    | .scCfg => !(f.lo == 45 && i % 2 == 0)
    | _ => true

/-- One field's stored bits after a write of the whole register; d0 is the device before the write. -/
def storeField (d0 : Dev) (r : Reg) (i : Nat) (v : Nat) (d : Dev) (f : FieldSpec) : Dev :=
  let x := bitsOf v f.hi f.lo
  match f.acc with
  | .rw => if fieldTakes r f x && fieldOpen d0 r i f then setFld ⟨r, f.hi, f.lo⟩ i x d else d
  | .w1c =>
    let old := fld d ⟨r, f.hi, f.lo⟩ i
    setFld ⟨r, f.hi, f.lo⟩ i (old - (old &&& x)) d
  | _ => d

/-- What a write stores: RW fields take the value they accept, W1C bits written 1 clear, RO, WO and RC bits store
nothing (R14, R15). -/
def storeWrite (r : Reg) (i : Nat) (w : Word) (d : Dev) : Dev :=
  (regFields r).foldl (storeField d r i w.toNat) d

/-- Every instance of a register at its reset value. -/
def resetReg (r : Reg) (d : Dev) : Dev :=
  { d with regs := d.regs.filter (fun e => !isRegAt e.1 r) }

/-- Several registers at their reset values. -/
def resetRegs (rs : List Reg) (d : Dev) : Dev := rs.foldl (fun d r => resetReg r d) d

end Sys2Proof.Machine
end

