-- ==== Sys2Proof/Machine/MemMap.lean ====
section
/-!
DEFINITION. Machine/MemMap.lean: where a byte of a partition lies in in-package memory, and its poisoned lines (R444 to R449,
R458).
-/

namespace Sys2Proof.Machine

/-- Blocks of a rank (R444). -/
def rankBlocks : Nat := 2097152

/-! ## Addresses (R448, R449) -/

/-- In-service channels (R448). -/
def memChannels (p : Part) : Nat := 16 * p.stacks

/-- The logical place of a managed address: rank, block of it and byte within the block (R448). -/
def interleave (p : Part) (g a : Nat) : Nat × Nat × Nat :=
  let grain := 2 ^ g
  let k := a / grain
  let n := k % memChannels p
  let o := k / memChannels p * grain + a % grain
  (4 * (n / 16) + o / 2 ^ 29, n % 16 * 131072 + o % 2 ^ 29 / 4096, o % 4096)

/-- The managed address of a logical place: the interleave read backwards. -/
def managedOf (p : Part) (g rank block byte : Nat) : Nat :=
  let grain := 2 ^ g
  let n := 16 * (rank / 4) + block / 131072
  let o := rank % 4 * 2 ^ 29 + block % 131072 * 4096 + byte
  (o / grain * memChannels p + n) * grain + o % grain

/-- Step 2 of R449: the donor of a moved block. -/
def mapped (m : MemSt) (rank block : Nat) : Nat × Nat :=
  match aget m.maps (rank * rankBlocks + block) with
  | none => (rank, block)
  | some x => (x / rankBlocks, x % rankBlocks)

/-- Step 3 of R449: the rank in memory on which a rank's block lies. -/
def located (m : MemSt) (rank block : Nat) : Nat :=
  match (agetD m.places rank []).find? (fun e => decide (block < e.1)) with
  | some e => 16 + e.2
  | none => rank

/-- Physical address of a block's byte on a rank in memory. -/
def physical (rank block byte : Nat) : Nat := (rank * rankBlocks + block) * 4096 + byte

/-- Physical address of a managed address (R448, R449). -/
def resolve (d : Dev) (a : Nat) : Nat :=
  let (r, b, y) := interleave d.part d.mc.grain a
  let (r, b) := mapped d.mc r b
  physical (located d.mc r b) b y

/-! ## Partitions (R446, R447) -/

/-- Size of a partition in GiB. -/
def partSize (d : Dev) (p : Nat) : Nat := d.mc.sizes.getD p 0

/-- Base of a partition in GiB. -/
def partBase (d : Dev) (p : Nat) : Nat := (d.mc.sizes.take p).foldl (· + ·) 0

/-- The logical place whose data lies on a block of a rank in memory; none for a block that holds none. -/
def holder (d : Dev) (phys block : Nat) : Option (Nat × Nat) :=
  let own := if phys < 16 then some phys else
    (d.mc.places.find? (fun e => located d.mc e.1 block == phys)).map (·.1)
  match own with
  | none => none
  | some r =>
    match d.mc.maps.find? (fun e => e.2 == r * rankBlocks + block) with
    | some e => some (e.1 / rankBlocks, e.1 % rankBlocks)
    | none => some (r, block)

/-- The managed address of a line in memory; none for one that holds nothing. -/
def lineAddress (d : Dev) (l : Nat) : Option Nat :=
  match holder d (l / 64 / rankBlocks) (l / 64 % rankBlocks) with
  | some (r, b) => some (managedOf d.part d.mc.grain r b (64 * (l % 64)))
  | none => none

/-- Where a line lies in a partition, from its base; none outside it. -/
def lineIn (d : Dev) (part l : Nat) : Option Nat :=
  let base := partBase d part * 2 ^ 30
  match lineAddress d l with
  | some a => if base ≤ a ∧ a < base + partSize d part * 2 ^ 30 then some (a - base) else none
  | none => none

/-- The service cluster in whose area a line lies: 16 MiB each from the base of the tables partition (R529). -/
def areaCluster (d : Dev) (l : Nat) : Option Nat :=
  match lineIn d 1 l with
  | some o => if o < 4 * 2 ^ 24 then some (o / 2 ^ 24) else none
  | none => none

/-! ## Error items (R465) -/

/-- An item of the memory error drawer. -/
def memItem (kind stack channel rank block line port : Nat) (d : Dev) : Dev :=
  post 4 [BitVec.ofNat 48 (2 ^ 47 + kind * 2 ^ 43 + stack * 2 ^ 40 + channel * 2 ^ 36 + rank * 2 ^ 34
    + block % 2 ^ 21 * 2 ^ 13 + line * 2 ^ 7 + port * 2 ^ 4), stampWord (ltNow d)] d

/-- The item of a poison read through the tables port, naming the block of a line (R458, R465). -/
def poisonItem (l : Nat) (d : Dev) : Dev :=
  let p := l / 64 / rankBlocks
  let b := l / 64 % rankBlocks
  memItem 3 (p / 4) (b / 131072) (p % 4) b (l % 64) 2 d

/-! ## Poison (R454, R458) -/

/-- Lines added to the poisoned ones. -/
def addPoison (ls : List Nat) (d : Dev) : Dev :=
  { d with mc := { d.mc with poison := ls.foldl (fun ps l => putRising l ps) d.mc.poison } }
where
  /-- A number put into a rising list. -/
  putRising (n : Nat) : List Nat → List Nat
    | [] => [n]
    | m :: l => if n < m then n :: m :: l else if n = m then m :: l else m :: putRising n l

/-- Lines that have been written whole: no longer poisoned (R454). -/
def clearPoison (ls : List Nat) (d : Dev) : Dev :=
  if d.mc.poison.isEmpty then d
  else { d with mc := { d.mc with poison := d.mc.poison.filter (fun l => !ls.contains l) } }

/-- Lines in memory of n bytes of a partition from a byte on that begins a line. -/
def memLines (d : Dev) (part off n : Nat) : List Nat :=
  (List.range (ceilDiv n 64)).map (fun i => resolve d (partBase d part * 2 ^ 30 + off + 64 * i) / 64)

/-- A line among n bytes of a partition is poisoned. -/
def poisonedAt (d : Dev) (part off n : Nat) : Bool :=
  !d.mc.poison.isEmpty && (memLines d part off n).any d.mc.poison.contains

/-- Blocks that the withdrawal maps place elsewhere, among those of n bytes of a partition from a byte on (R449, R459). -/
def movedBlocks (d : Dev) (part off n : Nat) : List Nat :=
  if d.mc.maps.isEmpty then []
  else
    let block := fun (i : Nat) =>
      let (r, b, _) := interleave d.part d.mc.grain (partBase d part * 2 ^ 30 + off + 64 * i)
      r * rankBlocks + b
    (((List.range (ceilDiv n 64)).map block).filter (fun x => (aget d.mc.maps x).isSome)).eraseDups

/-- An access reads the map entries of its moved blocks through the on-die cache of 65,536 entries, and each one that the cache lacks
is a miss (R459, R467). (DESIGN CHOICE, log entry 191) -/
def mapReads (part off n : Nat) (d : Dev) : Dev :=
  (movedBlocks d part off n).foldl (fun d x =>
    if x ∈ d.mc.mapCache then d
    else count .migMapMisses 0 { d with mc := { d.mc with mapCache := (x :: d.mc.mapCache).take 65536 } }) d

/-- Byte of the Wardrobe partition at which data of a page lies (R345). -/
def pageData (page off : Nat) : Nat := 65536 * page + 4096 + off

end Sys2Proof.Machine
end

