-- ==== Sys2Proof/Machine/Pipeline.lean ====
section
/-!
DEFINITION. Machine/Pipeline.lean: what a pipeline does with a packet: fragments, walk, metering, disposition, lookup,
copies (R258 to R268, R280 to R286, R295, R329, R362, R374).
-/

namespace Sys2Proof.Machine

/-- The copy of a packet that joins a queue. -/
def copyOf (p : Pkt) (key : List Nat) (bytes : List Byte) (egtag flow store : Nat) (marked : Bool) (now : Time) : QPkt :=
  { bytes := bytes, key := key, slot := p.slot, egtag := egtag, flow := flow, admittedAt := now, store := store,
    timing := p.timing, tag := p.tag, marked := marked }

/-- The packet came in by this drop port. -/
def ingressPort (p : Pkt) : Option Nat := if p.inSrc / 256 = 0 then some (p.inSrc % 256) else none

/-- The packet came from the line. -/
def fromLine (p : Pkt) : Bool := p.inSrc / 256 == 1

/-- A packet dropped: its copy leaves the drain counter (R276). -/
def dropCopy (p : Pkt) (d : Dev) : Dev := drainDown p.slot d

/-- A scope number of pipeline and slot. -/
def pipeSlot (p : Pkt) : Nat := 4 * p.pipe + p.slot

/-- A packet dropped and counted against its rule (R267). -/
def invalidTarget (p : Pkt) (d : Dev) : Dev := dropCopy p (count .clInvalidTarget (pipeSlot p) d)

/-- A replayed packet is no longer outstanding in the replay it belongs to: it was admitted or dropped (R374). -/
def replayDone (p : Pkt) (d : Dev) : Dev :=
  match p.replay with
  | some (_, ctx) =>
    match aget d.sb.contexts ctx with
    | some c =>
      if c.serial = p.replayNo then
        { d with sb := { d.sb with contexts := aput d.sb.contexts ctx { c with outstanding := c.outstanding - 1 } } }
      else d
    | none => d
  | none => d

/-- To queue i of a drop port; a queue beyond the node's inputs is an invalid target (R266, R267). -/
def toPort (p : Pkt) (key : List Nat) (bytes : List Byte) (egtag port i store : Nat) (marked : Bool) (d : Dev) : Dev :=
  if port ≥ d.part.ports ∨ i ≥ (node d port).queues then invalidTarget p d
  else enqueueDown port i (copyOf p key bytes egtag 0 store marked d.now) d

/-- Upstream to queue i of slot k on a flow (R266, R267). -/
def toLine (p : Pkt) (key : List Nat) (bytes : List Byte) (egtag flow k i store : Nat) (marked : Bool) (d : Dev) : Dev :=
  if fromLine p ∨ (flowSlot? d flow true).isNone ∨ ¬ allocEnabled d k ∨ i ≥ (node d (96 + k)).queues then
    invalidTarget p d
  else enqueueUp k i (copyOf p key bytes egtag flow store marked d.now) d

/-- To the host packet path; the copy leaves its drain counter by delivery or drop (R276, R481). -/
def toHost (p : Pkt) (bytes : List Byte) (reason : Nat) (a : Actions) (d : Dev) : Dev :=
  dropCopy p (hostDeliver reason a.queue a.ruleId p.inSrc p.flow p.entryAt bytes d)

/-- Copies to a set of ports, then to the line and the host (R329, R330). The packet counts as one copy on entry. -/
def replicate (p : Pkt) (key : List Nat) (bytes : List Byte) (a : Actions) (ports : List Nat) (line host : Bool)
    (hostReason store : Nat) (marked : Bool) (d : Dev) : Dev :=
  let n := ports.length + line.toNat + host.toNat
  if n = 0 then dropCopy p d
  else
    let d := drainUp p.slot (n - 1) d
    let d := ports.foldl (fun d n => toPort p key bytes a.egtag n a.queue store marked d) d
    let d := if line then toLine p key bytes a.egtag a.flow a.target a.queue store marked d else d
    if host then toHost p bytes hostReason a d else d

/-- Ports of a mask. -/
def maskPorts (m : Nat) : List Nat := (List.range 96).filter (fun n => m.testBit n)

/-- The second pass asked for: the packet waits at its pipeline's recirculation port, with the mark that its policer gave it
(R280, R339). -/
def recirculate (p : Pkt) (a : Actions) (dom : Nat) (marked : Bool) (d : Dev) : Dev :=
  if p.second then
    replayDone p (dropCopy p (raise fCL_EVENT_PASS_LIMIT 0 (count .clPassLimit p.pipe d)))
  else
    let q := { p with second := true, passTag := a.egtag, domain := dom, marked := marked }
    count .clRecirculated p.pipe
      { d with cls := { d.cls with recirc := aputD d.cls.recirc p.pipe (agetD d.cls.recirc p.pipe [] ++ [q]) [] } }

/-- Disposition Forward, with or without the host copy (R266, R295, R296, R315, R362). -/
def doForward (p : Pkt) (key : List Nat) (bytes : List Byte) (a : Actions) (dom : Nat) (copy marked : Bool)
    (d : Dev) : Dev :=
  let (st, d) := newStore d
  let hostCopy := fun (d : Dev) => if copy then toHost p bytes 1 a (drainUp p.slot 1 d) else d
  match p.liveMask with
  | some (m, mask) =>
    let ports := maskPorts mask
    let d := if ports.isEmpty then count .sbEmptyMask m d else d
    replicate p key bytes a ports false copy 1 st marked d
  | none =>
    let (dropped, d) := match ingressPort p with
      | some port => if a.learn then learnSource p.pipe port dom p.entryAt bytes d else (false, d)
      | none => (false, d)
    if dropped then dropCopy p d
    else
      let ps := parse bytes (fld d fCL_CTRL_TPID3 0)
      let bridged := !isRouted d dom ps bytes
      let (dest, bs, d) := forwardLookup dom ps p.pipe bytes d
      let d := hostCopy d
      match dest with
      | .dropped => dropCopy p d
      | .bad => dropCopy p (count .macBadDest p.pipe d)
      | .host r => toHost p bs r a d
      | .line => toLine p key bs a.egtag a.flow a.target a.queue st marked d
      | .port n =>
        if bridged ∧ ingressPort p = some n then dropCopy p (count .macSamePort p.pipe d)
        else toPort p key bs a.egtag n a.queue st marked d
      | .members g =>
        let grp := group d g
        let ports := (maskPorts grp.ports).filter (fun n => some n != ingressPort p)
        let line := grp.line && !fromLine p
        let d := if ports.isEmpty ∧ ¬ line ∧ ¬ grp.host then count .groupEmpty g d
          else countN .groupCopies g (ports.length + line.toNat + grp.host.toNat) d
        replicate p key bs a ports line grp.host 7 st marked d

/-- The resolved actions applied to a packet (R263, R266, R267, R374). The key is the one recorded at its entry. -/
def applyActions (p : Pkt) (key : List Nat) (a : Actions) (d : Dev) : Dev :=
  let (d, dropped, mark) := if a.polEn then meter a.policer a.colour d else (d, false, false)
  let marked := mark || p.marked
  let dom := if a.domainSet then a.domain else key.getD 0x26 0
  let bytes := if a.pcpSet ∧ (parse p.bytes (fld d fCL_CTRL_TPID3 0)).tagCount > 0 then setPcp p.bytes a.pcp else p.bytes
  if dropped then replayDone p (dropCopy p d)
  else if a.disp = 6 then recirculate p a dom marked d
  else
    match p.replay with
    | some (port, _) =>
      if a.disp = 0 then replayDone p (dropCopy p d)
      else if a.disp ≥ 7 then replayDone p (dropCopy p (count .clBadDisposition (pipeSlot p) d))
      else
        let (st, d) := newStore d
        replayDone p (toPort p key bytes a.egtag port a.queue st marked d)
    | none =>
      match a.disp with
      | 0 => dropCopy p d
      | 1 => doForward p key bytes a dom false marked d
      | 2 =>
        let (st, d) := newStore d
        toLine p key bytes a.egtag a.flow a.target a.queue st marked d
      | 3 =>
        if ingressPort p = some a.target then invalidTarget p d
        else
          let (st, d) := newStore d
          toPort p key bytes a.egtag a.target a.queue st marked d
      | 4 => toHost p bytes 0 a d
      | 5 => doForward p key bytes a dom true marked d
      | _ => dropCopy p (count .clBadDisposition (pipeSlot p) d)

/-! ## Fragments (R282 to R286) -/

/-- The fragment entries of a pipeline that have not expired (R285). -/
def liveFrags (d : Dev) (pipe : Nat) : List FragEntry :=
  (agetD d.cls.frags pipe []).filter (fun e => d.now < e.at_ + fld d fCL_FRAG_CTRL_EXPIRY pipe * Config.ms)

/-- A pipeline's fragment table set. -/
def setFrags (pipe : Nat) (l : List FragEntry) (d : Dev) : Dev :=
  { d with cls := { d.cls with frags := aputD d.cls.frags pipe l [] } }

/-- A pipeline's hold buffer. -/
def holdBuffer (d : Dev) (pipe : Nat) : List HeldFrag := agetD d.cls.holds pipe []

/-- A pipeline's hold buffer set. -/
def setHoldBuffer (pipe : Nat) (l : List HeldFrag) (d : Dev) : Dev :=
  { d with cls := { d.cls with holds := aputD d.cls.holds pipe l [] } }

/-- A first fragment's actions stored; a full bucket of four keeps it out (R282). A table of fewer than four live
entries has room whatever the buckets are. -/
def fragStore (pipe : Nat) (key : List Nat) (a : Actions) (d : Dev) : Dev :=
  let l := (liveFrags d pipe).filter (fun e => e.key != key)
  let full := decide (4 ≤ l.length) &&
    decide (4 ≤ (l.filter (fun e => Config.fragmentBucket e.key % 4096 == Config.fragmentBucket key % 4096)).length)
  if full then raise fCL_EVENT_FRAG_FULL 0 (count .fragBucketFull pipe d)
  else count .fragStored pipe (setFrags pipe (l ++ [⟨key, a, d.now⟩]) d)

/-- A default rule that drops the packet: the drop is counted on that rule's hit counter, as a match would be (R263, R266). -/
def dropHit (p : Pkt) (a : Actions) (d : Dev) : Dev := if a.disp = 0 then hit p.pipe p.slot a.ruleId d else d

/-- The ingress default rule of the packet's slot applied (R265, R284). -/
def applyDefault (p : Pkt) (key : List Nat) (d : Dev) : Dev :=
  match defaultRule d p.pipe p.slot false with
  | .noImage => replayDone p (dropCopy p (count .clNoImage (pipeSlot p) d))
  | .ecc x => replayDone p (dropCopy p (treeEcc p.pipe p.slot x (count .clEccDrops (pipeSlot p) d)))
  | .rule r _ => applyActions p key (actionsOf r) (dropHit p (actionsOf r) d)

/-- The overflow action on a fragment (R284). -/
def fragOverflow (p : Pkt) (key : List Nat) (d : Dev) : Dev :=
  let d := count .fragOverflow p.pipe d
  if fld d fCL_FRAG_CTRL_OVERFLOW p.pipe = 1 then applyDefault p key d else replayDone p (dropCopy p d)

/-- The pending action on a later fragment whose key is not stored (R284). -/
def fragPending (p : Pkt) (key fk : List Nat) (d : Dev) : Dev :=
  let d := count .fragPending p.pipe d
  match fld d fCL_FRAG_CTRL_PENDING p.pipe with
  | 0 =>
    if (holdBuffer d p.pipe).length < 64 then
      count .fragHeld p.pipe (setHoldBuffer p.pipe (holdBuffer d p.pipe ++ [⟨p, fk, d.now⟩]) d)
    else fragOverflow p key (raise fCL_EVENT_HOLD_FULL 0 d)
  | 1 => applyDefault p key d
  | _ => replayDone p (dropCopy p d)

/-- Held fragments of a key follow their first fragment under the stored actions; those under an Evicting slot are dropped
(R277, R284). -/
def releaseHeld (pipe : Nat) (fk : List Nat) (a : Actions) (d : Dev) : Dev :=
  let l := holdBuffer d pipe
  let d := setHoldBuffer pipe (l.filter (fun h => h.key != fk)) d
  (l.filter (fun h => h.key == fk)).foldl (fun d h =>
    if evicted d h.pkt.slot then replayDone h.pkt (dropCopy h.pkt (count .evictedCopies 0 d))
    else applyActions h.pkt (keyOf (fld d fCL_CTRL_TPID3 0) h.pkt) a (count .fragHits pipe d)) d

/-- A packet classified by its walk, its actions stored where it is a first fragment (R265, R282).
(DEDUCED, log entry 72) -/
def classify (p : Pkt) (key : List Nat) (ps : Parsed) (d : Dev) : Dev :=
  match walk d p.pipe p.slot false key with
  | .noImage => replayDone p (dropCopy p (count .clNoImage (pipeSlot p) d))
  | .ecc x => replayDone p (dropCopy p (treeEcc p.pipe p.slot x (count .clEccDrops (pipeSlot p) d)))
  | .rule r m =>
    let a := actionsOf r
    let d := if m then hit p.pipe p.slot a.ruleId d else dropHit p a d
    if ps.frag = 1 ∧ ¬ p.second then
      let d := fragStore p.pipe (fragKey ps) a d
      let stored := (liveFrags d p.pipe).any (fun e => e.key == fragKey ps)
      let d := applyActions p key a d
      if stored then releaseHeld p.pipe (fragKey ps) a d else d
    else applyActions p key a d

/-- A packet in its pipeline, first or second pass (R265, R283, R284). -/
def process (p : Pkt) (d : Dev) : Dev :=
  let tpid3 := fld d fCL_CTRL_TPID3 0
  let ps := parse p.bytes tpid3
  let key := keyOf tpid3 p
  if ps.frag = 2 ∧ ¬ p.second then
    match (liveFrags d p.pipe).find? (fun e => e.key == fragKey ps) with
    | some e =>
      let l := (liveFrags d p.pipe).map (fun x => if x.key == fragKey ps then { x with at_ := d.now } else x)
      applyActions p key e.actions (count .fragHits p.pipe (setFrags p.pipe l d))
    | none => fragPending p key (fragKey ps) d
  else classify p key ps d

/-- A packet enters a pipeline: it takes the current slot and counts as one copy (R276). -/
def enter (p : Pkt) (d : Dev) : Dev :=
  let k := currentSlot d
  let p := { p with slot := k, entryAt := d.now }
  let d := drainUp k 1 (count .clEntered (pipeSlot p) d)
  if p.direct then
    match p.replay with
    | some (port, _) =>
      let (st, d) := newStore d
      toPort p (keyOf (fld d fCL_CTRL_TPID3 0) p) p.bytes 0 port 0 st false d
    | none => dropCopy p d
  else process p d

/-- The pipeline of a drop port (R21). -/
def portPipe (port : Nat) : Nat := port / 24

/-- The pipeline is present in the part. -/
def pipePresent (d : Dev) (p : Nat) : Bool := p < d.part.pipes

/-- The second-pass packet at the front of a recirculation port enters its pipeline (R280). -/
def secondPass (pipe : Nat) (d : Dev) : Dev :=
  match agetD d.cls.recirc pipe [] with
  | [] => d
  | p :: l => process p { d with cls := { d.cls with recirc := aputD d.cls.recirc pipe l [] } }

end Sys2Proof.Machine
end

