-- ==== Sys2Proof/Machine/Sideboard.lean ====
section
/-!
DEFINITION. Machine/Sideboard.lean: programmes, records, membership, replay and repair (R359 to R382), and the meanings
of the Sideboard's commands.
-/

namespace Sys2Proof.Machine

/-! ## Programmes -/

/-- Field n of programme m's entry (R385). -/
def progField (d : Dev) (m n dflt : Nat) : Nat := dictNat d (0x9400 + m / 4) (16 * (m % 4) + n) dflt

/-- The programme is enabled (R359). -/
def progEnabled (d : Dev) (m : Nat) : Bool := m < 1024 && d.part.hasSideboard && progField d m 1 0 != 0

/-- Segment size in MiB (R363). -/
def segSize (d : Dev) (m : Nat) : Nat := progField d m 5 16

/-- A programme's running state. -/
def prog (d : Dev) (m : Nat) : Programme := agetD d.sb.programmes m {}

/-- A programme's running state changed. -/
def modProg (m : Nat) (f : Programme → Programme) (d : Dev) : Dev :=
  { d with sb := { d.sb with programmes := aputD d.sb.programmes m (f (prog d m)) {} } }

/-- The enabled programmes. -/
def enabledProgs (d : Dev) : List Nat :=
  d.dict.filterMap (fun e =>
    let ix := e.1 / 256
    let sub := e.1 % 256
    if 0x9400 ≤ ix ∧ ix < 0x9500 ∧ sub % 16 = 1 ∧ bytesToNat e.2 ≠ 0 then some (4 * (ix - 0x9400) + sub / 16) else none)

/-- The enabled programme on a flow slot (R359, R360). -/
def progOfFlow (d : Dev) (slot : Nat) : Option Nat := (enabledProgs d).find? (fun m => progField d m 2 0 == slot)

/-- A port's live bit set or cleared (R361). -/
def setLive (m port : Nat) (b : Bool) (d : Dev) : Dev :=
  modProg m (fun p => { p with live := withBits p.live port port b.toNat }) d

/-! ## Segments and records (R363, R364) -/

/-- The enabled programmes that have a segment, with its size in MiB (R363). -/
def segmentList (d : Dev) : List (Nat × Nat) :=
  ((enabledProgs d).map (fun m => (m, segSize d m))).filter (fun e => decide (0 < e.2))

/-- Byte of the Sideboard partition at which a byte of a programme's segment lies. -/
def segmentByte (d : Dev) (m pos : Nat) : Nat := Config.segmentBase (segmentList d) m * 2 ^ 20 + pos

/-- A record as it is stored: the 32-byte header, the packet, zeros to a multiple of 64 (R363, R364). -/
def recordBytes (seq : Word) (recallOn gap : Bool) (fs ls : BitVec 12) (key secs ns : Nat) (bs : List Byte) : List Byte :=
  natToBytes 6 seq.toNat ++ natToBytes 2 (recallOn.toNat * 2 ^ 15 + gap.toNat * 2 ^ 14 + bs.length) ++
    natToBytes 2 fs.toNat ++ natToBytes 2 ls.toNat ++ natToBytes 4 key ++ natToBytes 2 (secs % 65536) ++ natToBytes 4 ns ++
    List.replicate 10 0 ++ bs ++ List.replicate (64 * ceilDiv (32 + bs.length) 64 - (32 + bs.length)) 0

/-- The packet of a record (R364). -/
def Record.bytes (r : Record) : List Byte := (r.stored.drop 32).take (bytesToNat ((r.stored.drop 6).take 2) % 2 ^ 14)

/-- A record has a poisoned line (R458). -/
def recordPoisoned (d : Dev) (m : Nat) (r : Record) : Bool := poisonedAt d 3 (segmentByte d m r.pos) r.size

/-- A context released. -/
def freeContext (ctx : Nat) (d : Dev) : Dev := { d with sb := { d.sb with contexts := adel d.sb.contexts ctx } }

/-- A replay ended by setting its port's live bit (R375, R376). -/
def spliceNow (ctx : Nat) (c : Replay) (d : Dev) : Dev := freeContext ctx (setLive c.programme c.port true d)

/-- The record a context issues next: the first one from its sequence on. -/
def nextOf (rs : List Record) (c : Replay) : Option Record := rs.find? (fun r => decide (c.next ≤ r.seq))

/-- Contexts of a programme whose next record is overwritten: rs are its records before, gone those it loses (R376). -/
def overruns (m : Nat) (rs gone : List Record) (d : Dev) : Dev :=
  (d.sb.contexts.filter (fun e => e.2.programme == m && (match nextOf rs e.2 with
    | some r => gone.contains r
    | none => false))).foldl (fun d e =>
    raise fSB_EVENT_REPLAY_OVERRUN 0 (count .sbOverruns m (spliceNow e.1 e.2 d))) d

/-- The repair key of a packet (R377). -/
def repairKey (d : Dev) (m : Nat) (bs : List Byte) : Option Nat :=
  let w := progField d m 8 0
  let o := progField d m 7 0
  if w = 0 ∨ o + w / 8 > bs.length then none else some (bytesToNat ((bs.drop o).take (w / 8)))

/-- Bytes the Sideboard may record in one period of 8 ms at 1.6 Tbit/s (R366). -/
def recordLimit : Nat := 1600000000

/-- The Sideboard records: its own domain runs and the programme has a segment (R361, R363, R382). -/
def recording (d : Dev) (m : Nat) : Bool := takesWork d 48 && decide (0 < segSize d m) && !(prog d m).lost

/-- A packet tapped: recorded where recording runs (R360, R363 to R366). -/
def tapRecord (m : Nat) (bs : List Byte) (recallOn : Bool) (fs ls : BitVec 12) (d : Dev) : Dev :=
  if !recording d m then d
  else
    let p := prog d m
    let gap := p.gapNext || (match p.lastSeq with
      | none => false
      | some l => fs != l + 1)
    let used := d.sb.programmes.foldl (fun a e => a + e.2.windowNow) 0
    if used + bs.length > recordLimit then
      raise fSB_EVENT_RECORD_DROP 0 (count .sbRecordDrops m
        (modProg m (fun p => { p with nextSeq := p.nextSeq + 1, gapNext := true, lastSeq := some ls }) d))
    else
      let size := 64 * ceilDiv (32 + bs.length) 64
      let wrap := decide (p.nextPos + size > segSize d m * 2 ^ 20)
      let pos := if wrap then 0 else p.nextPos
      let keep := fun (r : Record) =>
        !(decide (r.pos < pos + size) && decide (pos < r.pos + r.size)) && !(wrap && decide (p.nextPos ≤ r.pos))
      let gone := p.records.filter (fun r => !keep r)
      let (s, n, _) := ltSplit (ltNow d)
      let key := repairKey d m bs
      let r : Record := ⟨p.nextSeq, pos, size, recallOn, key, recordBytes p.nextSeq recallOn gap fs ls (key.getD 0) s n bs⟩
      let d := clearPoison (memLines d 3 (segmentByte d m pos) size) (mapReads 3 (segmentByte d m pos) size d)
      let d := modProg m (fun p => { p with
        records := p.records.filter keep ++ [r], nextSeq := p.nextSeq + 1, nextPos := pos + size,
        lastSeq := some ls, gapNext := false,
        recalls := (if recallOn then p.nextSeq :: p.recalls else p.recalls).take 16,
        windowNow := p.windowNow + bs.length, lastRecord := some d.now }) d
      let d := if recallOn then count .sbRecallHeld m d else d
      countN .sbRecordedBytes m bs.length (count .sbRecorded m (overruns m p.records gone d))

/-- The latest held recall point's record (R365). -/
def latestRecall (d : Dev) (m : Nat) : Option Record :=
  let p := prog d m
  (p.recalls.filterMap (fun s => p.records.find? (fun r => r.seq == s))).head?

/-- The programme is idle: it has recorded nothing for IDLE_TIME, since its latest record or its enabling (R367).
(DEDUCED, log entry 171) -/
def progIdle (d : Dev) (m : Nat) : Bool :=
  match max (prog d m).lastRecord (prog d m).enabledAt with
  | none => false
  | some t => t + fld d fSB_CTRL_IDLE_TIME 0 * Config.sec ≤ d.now

/-! ## Joins (R371, R372) -/

/-- Result codes of R383. -/
def joinResult (origin : SbOrigin) (r : BitVec 2) (d : Dev) : Dev :=
  match origin with
  | .task => d
  | .register => { setFld fSB_CMD_STATUS_RESULT 0 r.toNat d with sb := { d.sb with resReg := r } }
  | .entry .h => { d with sb := { d.sb with resH := r } }
  | .entry .l => { d with sb := { d.sb with resL := r } }
  | .entry .s => { d with sb := { d.sb with resS := r } }

/-- The lowest free replay context (R372). -/
def freeCtx (d : Dev) : Option Nat := (List.range 512).find? (fun c => (aget d.sb.contexts c).isNone)

/-- A join (R372): the result and the device. -/
def doJoin (port m : Nat) (d : Dev) : BitVec 2 × Dev :=
  if (prog d m).live.testBit port ∨ d.sb.contexts.any (fun e => e.2.port == port && e.2.programme == m) then (2, d)
  else if ¬ progEnabled d m ∨ ¬ portEnabled d port then (3, d)
  else if segSize d m = 0 ∨ (latestRecall d m).isNone ∨ progIdle d m ∨ ¬ takesWork d 48 then
    (1, count .sbJoinsSpliced m (setLive m port true d))
  else
    match freeCtx d, latestRecall d m with
    | some c, some r =>
      (0, count .sbJoinsReplayed m { d with sb := { d.sb with
        contexts := aput d.sb.contexts c
          { port := port, programme := m, next := r.seq, startedAt := d.now, serial := d.sb.nextReplay },
        nextReplay := d.sb.nextReplay + 1 } })
    | _, _ => (1, raise fSB_EVENT_NO_CONTEXT 0 (count .sbNoContext 0 (count .sbJoinsSpliced m (setLive m port true d))))

/-- A leave of one programme: the live bit clears and a replay of it ends (R376). -/
def doLeave (port m : Nat) (d : Dev) : Dev :=
  let d := (d.sb.contexts.filter (fun e => e.2.port == port && e.2.programme == m)).foldl
    (fun d e => freeContext e.1 d) d
  setLive m port false d

/-- A leave of every programme (R371). -/
def doLeaveAll (port : Nat) (d : Dev) : Dev :=
  ((d.sb.programmes.map (·.1)) ++ d.sb.contexts.map (fun e => e.2.programme)).eraseDups.foldl
    (fun d m => doLeave port m d) d

/-- JOIN as any origin gives it (R371, R372). -/
def joinCmd (origin : SbOrigin) (port m : Nat) (d : Dev) : Dev :=
  if ¬ d.part.hasSideboard then d
  else
    let (r, d) := doJoin port m d
    joinResult origin r d

/-- LEAVE (R371, R376): refused on an absent port. -/
def leaveCmd (origin : SbOrigin) (port m : Nat) (d : Dev) : Dev :=
  if ¬ d.part.hasSideboard then d
  else if port ≥ d.part.ports then joinResult origin 3 d
  else joinResult origin 0 (doLeave port m d)

/-- LEAVE ALL (R371). -/
def leaveAllCmd (origin : SbOrigin) (port : Nat) (d : Dev) : Dev :=
  if ¬ d.part.hasSideboard then d
  else if port ≥ d.part.ports then joinResult origin 3 d
  else joinResult origin 0 (doLeaveAll port d)

/-- A membership command's row: an entry's is a command of its path, on an absent Sideboard 0x07 (R6, R33, R385). -/
def memberRow (o : SbOrigin) (f : Dev → Dev) (d : Dev) : Dev :=
  match o with
  | .entry p => commandOn p true (fun d => if d.part.hasSideboard then (0, f d) else (0x07, d)) d
  | _ => f d

/-- A programme's records, recall points and contexts discarded, its live mask cleared (R376, R381). -/
def resetProg (m : Nat) (d : Dev) : Dev :=
  let d := (d.sb.contexts.filter (fun e => e.2.programme == m)).foldl (fun d e => freeContext e.1 d) d
  { d with sb := { d.sb with programmes := adel d.sb.programmes m } }

/-- PD48 leaves Run: every replaying port goes live at once (R376). -/
def spliceAll (d : Dev) : Dev :=
  d.sb.contexts.foldl (fun d e =>
    raise fSB_EVENT_FORCED_SPLICE 0 (count .sbForcedSplices e.2.programme (spliceNow e.1 e.2 d))) d

/-! ## Replay (R373 to R376) -/

/-- The record a context issues next among those held. -/
def nextRecord (d : Dev) (c : Replay) : Option Record := nextOf (prog d c.programme).records c

/-- Bytes the pace allows before the next record: factor × recorded rate × elapsed time (R373). -/
def paceBytes (d : Dev) (c : Replay) : Nat :=
  progField d c.programme 6 4 * (prog d c.programme).rate * (d.now - c.startedAt) / (8 * Config.sec)

/-- A packet offered to the recirculation port that serves a drop port (R20, R373). -/
def offerReplay (port : Nat) (p : Pkt) (d : Dev) : Dev :=
  let q := portPipe port
  { d with sb := { d.sb with waiting := aputD d.sb.waiting q (agetD d.sb.waiting q [] ++ [p]) [] } }

/-- A record as a replayed packet (R374). -/
def replayPkt (port ctx serial : Nat) (r : Record) : Pkt :=
  { bytes := r.bytes, inSrc := 768, recallOn := r.recallOn, pipe := portPipe port, replay := some (port, ctx),
    replayNo := serial }

/-- The record that a context may issue now: caught up, or within its pace (R373, R375). -/
def readyRecord (d : Dev) (c : Replay) : Option Record :=
  if c.caughtAt.isSome ∨ c.issuedBytes ≤ paceBytes d c then nextRecord d c else none

/-- Contexts that have a record to issue and have not had their turn since a context last had its second (R373). -/
def waitingTurn (d : Dev) : List (Nat × Record) :=
  (d.sb.contexts.filter (fun e => !d.sb.served.contains e.1)).filterMap (fun e => (readyRecord d e.2).map (fun r => (e.1, r)))

/-- A context's record may be issued under the limit of 1.6 Tbit/s for all contexts together: the 8 ms under way has room for it, and
where it has no room for all that wait, those that have not had their turn come first (R373).
(DEDUCED, log entry 172) -/
def mayIssue (d : Dev) (ctx : Nat) (r : Record) : Bool :=
  let others := (waitingTurn d).filter (fun e => e.1 != ctx)
  let room := decide (d.sb.issuedNow + r.bytes.length ≤ recordLimit)
  let all := decide (d.sb.issuedNow + r.bytes.length + others.foldl (fun a e => a + e.2.bytes.length) 0 ≤ recordLimit)
  room && (all || others.isEmpty || !d.sb.served.contains ctx)

/-- Bytes issued, and a context's turn taken; with none left that waits for its turn, a new round begins (R373). -/
def issued (ctx n : Nat) (d : Dev) : Dev :=
  let others := (waitingTurn d).filter (fun e => e.1 != ctx)
  { d with sb := { d.sb with
    issuedNow := d.sb.issuedNow + n,
    served := if others.isEmpty then [] else if d.sb.served.contains ctx then [ctx] else ctx :: d.sb.served } }

/-- A poisoned record met by a read: its packet is dropped (R32, R458). -/
def dropRecord (m : Nat) (r : Record) (d : Dev) : Dev :=
  raise fMC_EVENT_UE 0 (count .memPoisonReads 1 (modProg m (fun p => { p with records := p.records.filter (· != r) }) d))

/-- A context issues its next record if its pace and the limit allow; with no record left that is written it is caught up, whatever
sequence numbers were consumed since (R366, R373, R375). -/
def replayIssue (ctx : Nat) (d : Dev) : Dev :=
  match aget d.sb.contexts ctx with
  | none => d
  | some c =>
    match nextRecord d c with
    | none =>
      if c.caughtAt.isSome then d
      else { d with sb := { d.sb with contexts := aput d.sb.contexts ctx { c with caughtAt := some d.now } } }
    | some r =>
      if (readyRecord d c).isSome ∧ mayIssue d ctx r then
        if recordPoisoned d c.programme r then dropRecord c.programme r d
        else
        let d := issued ctx r.bytes.length (mapReads 3 (segmentByte d c.programme r.pos) r.size d)
        let c := { c with
          next := r.seq + 1, issuedBytes := c.issuedBytes + r.bytes.length, outstanding := c.outstanding + 1 }
        let c := if c.caughtAt.isNone ∧ (nextRecord d c).isNone then { c with caughtAt := some d.now } else c
        count .sbReplayed c.programme (offerReplay c.port (replayPkt c.port ctx c.serial r)
          { d with sb := { d.sb with contexts := aput d.sb.contexts ctx c } })
      else d

/-- A context that is caught up and has nothing outstanding splices (R375). -/
def spliceCtx (ctx : Nat) (d : Dev) : Dev :=
  match aget d.sb.contexts ctx with
  | none => d
  | some c => if c.caughtAt.isSome ∧ c.outstanding = 0 ∧ (nextRecord d c).isNone then spliceNow ctx c d else d

/-- Not caught up within CATCHUP_LIMIT (R376). -/
def catchupTimeout (ctx : Nat) (d : Dev) : Dev :=
  match aget d.sb.contexts ctx with
  | none => d
  | some c =>
    if c.caughtAt.isNone ∧ c.startedAt + fld d fSB_CTRL_CATCHUP_LIMIT 0 * Config.sec ≤ d.now then
      raise fSB_EVENT_CATCHUP_TIMEOUT 0 (count .sbCatchupTimeouts c.programme (spliceNow ctx c d))
    else d

/-- Caught up but with packets outstanding for SPLICE_LIMIT (R376). -/
def forcedSplice (ctx : Nat) (d : Dev) : Dev :=
  match aget d.sb.contexts ctx with
  | none => d
  | some c =>
    match c.caughtAt with
    | none => d
    | some t =>
      if 0 < c.outstanding ∧ t + fld d fSB_CTRL_SPLICE_LIMIT 0 * Config.ms ≤ d.now then
        raise fSB_EVENT_FORCED_SPLICE 0 (count .sbForcedSplices c.programme (spliceNow ctx c d))
      else d

/-! ## Membership (R368 to R370) -/

/-- What a report says of a group: join or leave. -/
structure GroupSay where
  v6 : Bool
  group : Nat
  join : Bool
deriving DecidableEq, Repr

/-- Group records of IGMPv3 (address 4 bytes) or MLDv2 (16 bytes), n of them from the bytes on (R369). -/
def groupRecords (v6 : Bool) : Nat → List Byte → List GroupSay
  | 0, _ => []
  | n + 1, bs =>
    let w := if v6 then 16 else 4
    if bs.length < 4 + w then []
    else
      let ty := bytesToNat (bs.take 1)
      let ns := bytesToNat ((bs.drop 2).take 2)
      let aux := bytesToNat ((bs.drop 1).take 1)
      let g := bytesToNat ((bs.drop 4).take w)
      let say : List GroupSay :=
        if ns ≠ 0 ∨ ty = 2 ∨ ty = 4 then [⟨v6, g, true⟩]
        else if ty = 1 ∨ ty = 3 then [⟨v6, g, false⟩] else []
      say ++ groupRecords v6 n (bs.drop (4 + w + w * ns + 4 * aux))

/-- What a diverted frame says; none for a query (R369, R370). -/
def reportSays (bs : List Byte) (tpid3 : Nat) : Option (List GroupSay) :=
  let p := parse bs tpid3
  let off := if p.l3 = 1 then p.l3Off + 4 * (take0 bs p.l3Off 1 % 16) else p.l4Off
  let m := bs.drop off
  let ty := bytesToNat (m.take 1)
  if p.l3 = 1 then
    if ty = 0x11 then none
    else if ty = 0x16 then some [⟨false, bytesToNat ((m.drop 4).take 4), true⟩]
    else if ty = 0x17 then some [⟨false, bytesToNat ((m.drop 4).take 4), false⟩]
    else if ty = 0x22 then some (groupRecords false (bytesToNat ((m.drop 6).take 2)) (m.drop 8))
    else some []
  else
    if ty = 130 then none
    else if ty = 131 then some [⟨true, bytesToNat ((m.drop 8).take 16), true⟩]
    else if ty = 132 then some [⟨true, bytesToNat ((m.drop 8).take 16), false⟩]
    else if ty = 143 then some (groupRecords true (bytesToNat ((m.drop 6).take 2)) (m.drop 8))
    else some []

/-- The enabled programme of a group address (R369). -/
def progOfGroup (d : Dev) (v6 : Bool) (g : Nat) : Option Nat :=
  if g = 0 then none
  else (enabledProgs d).find? (fun m => if v6 then progField d m 4 0 == g else progField d m 3 0 == g)

/-- A membership kept, its last report now (R370). -/
def keepMembership (port m : Nat) (d : Dev) : Dev :=
  { d with sb := { d.sb with
    memberships := d.sb.memberships.filter (fun x => !(x.port == port && x.programme == m)) ++ [⟨port, m, d.now⟩] } }

/-- A membership forgotten. -/
def dropMembership (port m : Nat) (d : Dev) : Dev :=
  { d with sb := { d.sb with memberships := d.sb.memberships.filter (fun x => !(x.port == port && x.programme == m)) } }

/-- One group's say taken by the task (R369). -/
def takeSay (port : Nat) (s : GroupSay) (d : Dev) : Dev :=
  match progOfGroup d s.v6 s.group with
  | none => d
  | some m =>
    if s.join then joinCmd .task port m (keepMembership port m d)
    else leaveCmd .task port m (dropMembership port m d)

/-- Some service cluster runs (R370). -/
def clusterRuns (d : Dev) : Bool := d.sec.clusters.any (fun e => e.2.state == .running)

/-- The membership task takes the head of the membership drawer (R369). -/
def membershipReport (d : Dev) : Dev :=
  match d.sb.memFrames with
  | [] => d
  | (port, bs) :: l =>
    if ¬ clusterRuns d ∨ d.sec.restarting then d
    else
      let w := drawer d 6
      let d := { setDrawer 6 { w with items := w.items.drop 1 } d with sb := { d.sb with memFrames := l } }
      let d := levelCheck 6 d
      match reportSays bs (fld d fCL_CTRL_TPID3 0) with
      | none => count .memIgnored port d
      | some saysList => saysList.foldl (fun d s => takeSay port s d) d

/-- Field n of drop port p's Sideboard entry (R385). -/
def sbPortField (d : Dev) (p n dflt : Nat) : Nat := dictNat d (0x9380 + p / 16) (16 * (p % 16) + n) dflt

/-- A general query on a port with querier enabled (R370). -/
def generalQuery (port : Nat) (d : Dev) : Dev :=
  if ¬ d.part.hasSideboard ∨ sbPortField d port 2 0 = 0 ∨ ¬ clusterRuns d then d
  else
    let here := d.sb.memberships.filter (fun x => x.port == port)
    let d := if here.any (fun x => progField d x.programme 3 0 != 0) then emit (.query port false) d else d
    if here.any (fun x => progField d x.programme 4 0 != 0) then emit (.query port true) d else d

/-- A membership 260 s after its last report (R370). -/
def membershipExpiry (port m : Nat) (d : Dev) : Dev :=
  match (if clusterRuns d then d.sb.memberships.find? (fun x => x.port == port && x.programme == m) else none) with
  | none => d
  | some x => if x.last + 260 * Config.sec ≤ d.now then leaveCmd .task port m (dropMembership port m d) else d

/-! ## Repair (R377 to R380) -/

/-- Tokens of a port's repair budget, in 1/125,000 packets: one second's worth where untouched (R380). -/
def repairTokens (d : Dev) (port : Nat) : Nat := agetD d.sb.budgets port (sbPortField d port 4 10000 * 125000)

/-- One refill of every budget (R380). -/
def refillBudgets (d : Dev) : Dev :=
  { d with sb := { d.sb with budgets := d.sb.budgets.map (fun e =>
    let r := sbPortField d e.1 4 10000
    (e.1, min (r * 125000) (e.2 + r))) } }

/-- The reply of a repair request (R378). -/
def repairReply (d : Dev) (req : List Byte) (payload : List Byte) (served missing result : Nat) : List Byte :=
  let body := [1, 2] ++ (payload.drop 2).take 10 ++ natToBytes 2 served ++ natToBytes 2 missing ++ natToBytes 1 result
  (req.drop 6).take 6 ++ natToBytes 6 (fld d fSB_MAC_REPAIR_MAC 0) ++ natToBytes 2 0x88B5 ++ body ++
    List.replicate (46 - body.length) 0

/-- The records a request asks for, in record order, each the newest with its key, and the keys not found (R379). -/
def repairFind (d : Dev) (m first n : Nat) : List Record × Nat :=
  let w := progField d m 8 0
  let recs := ((prog d m).records.reverse).take (fld d fSB_REPAIR_REPAIR_DEPTH 0)
  let found := (List.range n).map (fun i =>
    recs.find? (fun r => r.key == some ((first + i) % 2 ^ w)))
  let missing := (found.filter Option.isNone).length
  let seqs := found.filterMap (fun x => x.map (·.seq))
  ((prog d m).records.filter (fun r => seqs.contains r.seq), missing)

/-- Bytes of records. -/
def recordsBytes (rs : List Record) : Nat := rs.foldl (fun a r => a + r.bytes.length) 0

/-- The head of the repair drawer served (R378 to R380); while the limit of R373 has no room for its records it waits. A poisoned
record that is found is dropped and not sent (R32, R458). -/
def repairServe (d : Dev) : Dev :=
  match d.sb.repFrames with
  | [] => d
  | (port, bs) :: l =>
    let p := parse bs (fld d fCL_CTRL_TPID3 0)
    let pl := bs.drop p.l3Off
    let m := bytesToNat ((pl.drop 2).take 2)
    let first := bytesToNat ((pl.drop 4).take 4)
    let n := bytesToNat ((pl.drop 8).take 2)
    if ¬ pdOn d 48 ∨ recordLimit < d.sb.issuedNow + recordsBytes (repairFind d m first (min n 1024)).1 then d
    else
      let w := drawer d 7
      let d := { setDrawer 7 { w with items := w.items.drop 1 } d with sb := { d.sb with repFrames := l } }
      let d := levelCheck 7 d
      let send := fun (served missing result : Nat) (d : Dev) =>
        offerReplay port { bytes := repairReply d bs pl served missing result, inSrc := 768, pipe := portPipe port,
                           replay := some (port, 512), direct := true } d
      let refuse := fun (result : Nat) (d : Dev) =>
        send 0 0 result (raise fSB_EVENT_REPAIR_DROP 0 (count .repRefused port d))
      if pl.length < 16 ∨ pl.take 2 ≠ [1, 1] ∨ m > 1023 ∨ n = 0 ∨ n > 1024 ∨
          (progField d m 8 0 = 16 ∧ first ≥ 65536) then refuse 3 d
      else if ¬ progEnabled d m ∨ progField d m 8 0 = 0 then refuse 2 d
      else if n > repairTokens d port / 125000 then refuse 1 d
      else
        let (found, missing) := repairFind d m first n
        let recs := found.filter (fun r => !recordPoisoned d m r)
        let d := (found.filter (recordPoisoned d m)).foldl (fun d r => dropRecord m r d) d
        let d := recs.foldl (fun d r => mapReads 3 (segmentByte d m r.pos) r.size d) d
        let full := sbPortField d port 4 10000 * 125000
        let left := repairTokens d port - recs.length * 125000
        let d := { d with sb := { d.sb with
          budgets := aputD d.sb.budgets port left full,
          issuedNow := d.sb.issuedNow + recordsBytes recs } }
        let d := recs.foldl (fun d r => offerReplay port (replayPkt port 512 0 r) d) d
        let d := countN .repNotFound port missing (countN .repSent port recs.length (count .repServed port d))
        send recs.length missing 0 d

/-- Every programme's recorded rate over the last 1,024 ms; the next 8 ms of the limits of R366 and R373 begin (R367). -/
def rateUpdate (d : Dev) : Dev :=
  { d with sb := { d.sb with issuedNow := 0, programmes := d.sb.programmes.map (fun e =>
    let w := (e.2.windowNow :: e.2.window).take 128
    (e.1, { e.2 with window := w, windowNow := 0, rate := w.foldl (· + ·) 0 * 8 * 1000 / 1024 })) } }

/-! ## Meanings -/

/-- The Sideboard is in the part (R1, R6). -/
def withSideboard (f : Dev → Dev) (d : Dev) : Dev := if d.part.hasSideboard then f d else d

/-- RECORDED_RATE_UPDATE (R367). -/
def execRecordedRateUpdate (t : Time) (s : State) : Out := at_ t (withSideboard rateUpdate) s

/-- JOIN (R371, R372). -/
def execJoin (t : Time) (o : SbOrigin) (port : BitVec 7) (m : BitVec 10) (s : State) : Out :=
  at_ t (memberRow o (joinCmd o port.toNat m.toNat)) s

/-- LEAVE (R371, R376). -/
def execLeave (t : Time) (o : SbOrigin) (port : BitVec 7) (m : BitVec 10) (s : State) : Out :=
  at_ t (memberRow o (leaveCmd o port.toNat m.toNat)) s

/-- LEAVE_ALL (R371). -/
def execLeaveAll (t : Time) (o : SbOrigin) (port : BitVec 7) (s : State) : Out := 
  at_ t (memberRow o (leaveAllCmd o port.toNat)) s

/-- REPLAY_ISSUE (R373, R375). -/
def execReplayIssue (t : Time) (ctx : Fin 512) (s : State) : Out := at_ t (withSideboard (replayIssue ctx)) s

/-- SPLICE (R375). -/
def execSplice (t : Time) (ctx : Fin 512) (s : State) : Out := at_ t (withSideboard (spliceCtx ctx)) s

/-- CATCHUP_TIMEOUT (R376). -/
def execCatchupTimeout (t : Time) (ctx : Fin 512) (s : State) : Out := at_ t (withSideboard (catchupTimeout ctx)) s

/-- FORCED_SPLICE (R376). -/
def execForcedSplice (t : Time) (ctx : Fin 512) (s : State) : Out := at_ t (withSideboard (forcedSplice ctx)) s

/-- MEMBERSHIP_REPORT (R369). -/
def execMembershipReport (t : Time) (s : State) : Out := at_ t (withSideboard membershipReport) s

/-- GENERAL_QUERY (R370). -/
def execGeneralQuery (t : Time) (port : Fin 96) (s : State) : Out := at_ t (generalQuery port) s

/-- MEMBERSHIP_EXPIRY (R370). -/
def execMembershipExpiry (t : Time) (port : Fin 96) (m : BitVec 10) (s : State) : Out :=
  at_ t (withSideboard (membershipExpiry port m.toNat)) s

/-- REPAIR_SERVE (R378 to R380). -/
def execRepairServe (t : Time) (s : State) : Out := at_ t (withSideboard repairServe) s

/-- REPAIR_BUDGET_REFILL (R380). -/
def execRepairBudgetRefill (t : Time) (s : State) : Out := at_ t (withSideboard refillBudgets) s

end Sys2Proof.Machine
end

