-- ==== Sys2Proof/Machine/Bonding.lean ====
section
/-!
DEFINITION. Machine/Bonding.lean: delineation, the line cipher, bonding and reassembly, and the key registers (R82 to
R125): the meanings of their commands.
-/

namespace Sys2Proof.Machine

/-! ## Header (R82, R90) -/

/-- Fields of an envelope header. -/
def envFlow (h : BitVec 64) : Nat := bitsOf h.toNat 63 48
def envLen (h : BitVec 64) : Nat := bitsOf h.toNat 47 34
def envFirst (h : BitVec 64) : Bool := h.toNat.testBit 33
def envLast (h : BitVec 64) : Bool := h.toNat.testBit 32
def envKey (h : BitVec 64) : Nat := bitsOf h.toNat 31 30
def envRecall (h : BitVec 64) : Bool := h.toNat.testBit 29
def envSeq (h : BitVec 64) : Nat := bitsOf h.toNat 28 17

/-- The check over the 51 bits before it (R90). -/
def envCheck (x : Nat) : Nat := crcBits 13 0x1B 0 (natToBits 51 x) ^^^ 0x1555

/-- The header check fits. -/
def envCheckOk (h : BitVec 64) : Bool := envCheck (h.toNat >>> 13) == h.toNat % 2 ^ 13

/-- The flow ID is reserved (R85). -/
def envReserved (h : BitVec 64) : Bool := decide (0xFFF0 ≤ envFlow h) && decide (envFlow h ≤ 0xFFFC)

/-- Words of an envelope, header and padding included (R83). -/
def envWords (h : BitVec 64) : Nat := 1 + ceilDiv (envLen h) 8

/-! ## Invocation counters (R115, R116) -/

/-- Entry of the line cipher. -/
def keyEntry (d : Dev) (e : Nat) : KeyEntry := agetD d.cipher.keys e {}

/-- An entry set. -/
def setKeyEntry (e : Nat) (k : KeyEntry) (d : Dev) : Dev :=
  { d with cipher := { d.cipher with keys := aputD d.cipher.keys e k {} } }

/-- The largest value of an invocation counter: a key there is dead. -/
def deadCount : Word := BitVec.ofNat 48 (2 ^ 48 - 1)

/-- An item of the cipher event drawer (R115, R116). -/
def cipherItem (warn : Bool) (e : Nat) : Word := BitVec.ofNat 48 (2 ^ 47 + warn.toNat * 2 ^ 46 + e)

/-- One use of an entry: its key, or none where the entry is empty or dead (R115 to R117). -/
def cipherUse (e : Nat) (d : Dev) : Option (BitVec 256) × Dev :=
  let k := keyEntry d e
  match k.key with
  | none => (none, d)
  | some key =>
    if k.count = deadCount then (none, d)
    else
      let n := k.count + 1
      let warn := !k.warned && decide (dictNat d 0x2300 4 0x800000000000 ≤ n.toNat)
      let d := setKeyEntry e { k with count := n, warned := k.warned || warn } d
      let d := if n = deadCount then post 2 [cipherItem false e] (raise fCY_EVENT_KEY_DEAD 0 d) else d
      let d := if warn then post 2 [cipherItem true e] (raise fCY_EVENT_KEY_WARN 0 d) else d
      (some key, d)

/-- Entry TX_INDEX of a key set (R114, R118). -/
def txIndex (d : Dev) (set : Nat) : Nat :=
  bitsOf (reg d .cyTxidx (set / 24)).toNat (2 * (set % 24) + 1) (2 * (set % 24))

/-- Ciphered upstream envelopes are withheld: the entry in use is empty or dead (R114, R117). -/
def txWithheld (d : Dev) : Bool :=
  let k := keyEntry d (txIndex d 0)
  k.key.isNone || k.count == deadCount

/-- The initialisation vector (R111). -/
def gcmIv (fc : Word) (ch : Nat) (laneB up : Bool) (start word : Nat) : BitVec 96 :=
  BitVec.ofNat 96 (fc.toNat * 2 ^ 48 + ch * 2 ^ 44 + laneB.toNat * 2 ^ 43 + up.toNat * 2 ^ 42 + start * 2 ^ 26 +
    word * 2 ^ 8)

/-- An envelope of a ciphered flow: its clear payload, or none where it has failed, on a dead entry with its own count
(R110, R113, R117). -/
def decipher (e : Nat) (iv : BitVec 96) (h : BitVec 64) (payload : List Byte) (d : Dev) : Option (List Byte) × Dev :=
  let dead := (keyEntry d e).key.isSome && (keyEntry d e).count == deadCount
  let failed := fun (d : Dev) =>
    raise fCY_EVENT_AUTH_FAIL 0 (count .authFail e (if dead then count .deadKeyDiscard e d else d))
  if envLen h ≤ 16 then (none, failed d)
  else
    match cipherUse e d with
    | (none, d) => (none, failed d)
    | (some key, d) =>
      match gcmOpen key iv (natToBytes 8 h.toNat) (payload.take (envLen h)) with
      | none => (none, failed d)
      | some p => (some p, d)

/-! ## The management flow (R98, R508) -/

/-- A flow slot of kind management is enabled. -/
def mgmtSlot (d : Dev) : Option Nat := (enabledFlows d).find? (fun k => flowField d k 7 0 == 1)

/-- The management flow of R508 is in force. -/
def impliedMgmt (d : Dev) : Option Nat :=
  if numHeld d && !d.bond.mgmtReplaced then some (0xFC00 + termNum d) else none

/-- The flow slot of a downstream flow; 8,192 for the management flow of R508. -/
def downSlot (d : Dev) (flow : Nat) : Option Nat :=
  if impliedMgmt d = some flow then some 8192 else flowSlot? d flow false

/-- A slot carries the management flow. -/
def isMgmt (d : Dev) (k : Nat) : Bool := k == 8192 || flowField d k 7 0 == 1

/-! ## Reassembled packets (R18, R19, R98, R559) -/

/-- A flow of the bonding stage. -/
def bondFlow (d : Dev) (k : Nat) : BondFlow := agetD d.bond.flows k {}

/-- A flow of the bonding stage changed. -/
def modFlow (k : Nat) (f : BondFlow → BondFlow) (d : Dev) : Dev :=
  { d with bond := { d.bond with flows := aputD d.bond.flows k (f (bondFlow d k)) {} } }

/-- Pipeline n runs. -/
def pipeRuns (d : Dev) (n : Nat) : Bool := pipePresent d n && pdOn d (8 + n)

/-- The pipeline that takes a flow slot's packets: the assigned one, or the lowest that runs (R18, R559). -/
def pipeOf (d : Dev) (k : Nat) : Nat :=
  if pipeRuns d (flowPipe d k) then flowPipe d k else ((List.range 4).find? (pipeRuns d)).getD (flowPipe d k)

/-- The output toward a pipeline has no room for one more packet: more wait there than it keeps (R23).
(DESIGN CHOICE, log entry 70) -/
def outputFull (d : Dev) (l : List BondOut) : Bool :=
  let waiting := (l.filter (fun o => decide (o.ready ≤ d.now))).length
  if waiting < 4 then false else decide (Config.outputSlots ≤ waiting - 4)

/-- Each flow slot whose packets go to another pipeline than before: its next packet is held (R19, R559). -/
def holdChanged (d0 d : Dev) : Dev :=
  ((enabledFlows d).filter (fun k => pipeOf d0 k != pipeOf d k)).foldl (fun d k =>
    modFlow k (fun f => { f with holdNext := true }) d) d

/-- A packet of a flow at the output toward its pipeline, behind a hold of 8 µs where it is the next after a change of
pipeline (R19); what finds the output full is dropped and counted (R23), and leaves the hold to the next.
(DEDUCED, log entry 32) -/
def bondOutput (k : Nat) (p : Pkt) (d : Dev) : Dev :=
  let pipe := pipeOf d k
  let l := agetD d.bond.out pipe []
  let held := (bondFlow d k).holdNext
  let after := (l.filter (fun o => o.pkt.flow == p.flow)).foldl (fun a o => max a o.ready) d.now
  if outputFull d l then count .pipelineOverrun pipe d
  else
    let d := modFlow k (fun f => { f with holdNext := false }) d
    { d with bond := { d.bond with
      out := aputD d.bond.out pipe (l ++ [⟨{ p with pipe := pipe }, if held then max after (d.now + 8 * Config.us) else after⟩]) [] } }

/-- A management packet: to the Secretary; in Sleep held, up to 16 (R98, R549). -/
def mgmtPacket (bs : List Byte) (d : Dev) : Dev :=
  if d.pwr.state = 2 then
    if d.pwr.heldMgmt.length < 16 then { d with pwr := { d.pwr with heldMgmt := d.pwr.heldMgmt ++ [bs] } }
    else count .pwHeldDropped 0 d
  else emit (.toSecretary bs) d

/-- A packet put together on a flow slot: the Secretary's, a programme's with its tap, or a pipeline's (R18, R98, R360). -/
def bondPacket (k : Nat) (bs : List Byte) (recallOn : Bool) (fs ls : Nat) (d : Dev) : Dev :=
  if isMgmt d k then mgmtPacket bs d
  else
    let p : Pkt := { bytes := bs, inSrc := 0x100, flow := flowField d k 1 0, keySet := flowField d k 5 0 }
    match (if flowField d k 7 0 = 2 then progOfFlow d k else none) with
    | some m =>
      let d := tapRecord m bs recallOn (BitVec.ofNat 12 fs) (BitVec.ofNat 12 ls) d
      bondOutput k { p with recallOn := recallOn, liveMask := some (m, (prog d m).live) } d
    | none => bondOutput k p d

/-! ## Reassembly (R107, R108) -/

/-- The open packet of a flow is discarded as incomplete. -/
def dropOpen (k : Nat) (d : Dev) : Dev :=
  if (bondFlow d k).openPkt.isSome then
    count .bondIncomplete k (modFlow k (fun f => { f with openPkt := none }) d)
  else d

/-- A packet that an envelope begins or continues: delivered at its last, kept open before; discarded where it is oversize
or holds a failed envelope (R108). -/
def growPacket (k : Nat) (p : OpenPkt) (e : BondEnv) (d : Dev) : Dev :=
  if p.bytes.length > 16352 then count .bondOversize k (modFlow k (fun f => { f with openPkt := none }) d)
  else if e.last then
    let d := modFlow k (fun f => { f with openPkt := none }) d
    if p.failed then d else bondPacket k p.bytes p.recallOn p.firstSeq e.seq d
  else modFlow k (fun f => { f with openPkt := some p }) d

/-- An envelope in sequence (R107). -/
def reassemble (k : Nat) (e : BondEnv) (d : Dev) : Dev :=
  if e.first then growPacket k ⟨e.payload, e.recallOn, e.failed, e.seq⟩ e (dropOpen k d)
  else
    match (bondFlow d k).openPkt with
    | none => count .bondOrphan k d
    | some p => growPacket k { p with bytes := p.bytes ++ e.payload, failed := p.failed || e.failed } e d

/-! ## Sequence (R100 to R103) -/

/-- Distance of a sequence number from the expected one. -/
def seqDist (s e : Nat) : Nat := (s + 4096 - e) % 4096

/-- Skipped numbers: gaps; the open packet goes (R100, R101, R108). -/
def skipped (k n : Nat) (d : Dev) : Dev := if n = 0 then d else dropOpen k (countN .bondGap k n d)

/-- Held envelopes delivered in the order of the sequence from e, up to offset lim; what is missing below counts as gaps.
The answer is the offset reached. -/
def deliverTo (k e lim : Nat) : List BondEnv → Nat → Dev → Dev
  | [], o, d => skipped k (lim - o) d
  | x :: l, o, d =>
    let p := seqDist x.seq e
    if p < lim then deliverTo k e lim l (p + 1) (reassemble k x (skipped k (p - o) d)) else skipped k (lim - o) d

/-- The expected sequence advanced by n (R100, R101). -/
def advance (k n : Nat) (d : Dev) : Dev :=
  let f := bondFlow d k
  match f.expected with
  | none => d
  | some e =>
    let d := deliverTo k e n f.held 0 d
    modFlow k (fun x => { x with
      expected := some ((e + n) % 4096), held := f.held.filter (fun b => decide (n ≤ seqDist b.seq e)) }) d

/-- Offset after the run of held envelopes without a gap from the expected one. -/
def runLength (e : Nat) : List BondEnv → Nat → Nat
  | [], o => o
  | x :: l, o => if seqDist x.seq e = o then runLength e l (o + 1) else o

/-- What is held in order is delivered (R100). -/
def drain (k : Nat) (d : Dev) : Dev :=
  let f := bondFlow d k
  match f.expected with
  | none => d
  | some e =>
    let n := runLength e f.held 0
    if n = 0 then d else advance k n d

/-- The window or an early close: the flow moves on to its lowest held envelope (R101, R102). -/
def closeGap (k : Nat) (d : Dev) : Dev :=
  let f := bondFlow d k
  match f.expected, f.held with
  | some e, x :: _ => drain k (advance k (seqDist x.seq e) d)
  | _, _ => d

/-- Bytes in the reorder pool (R102, R122). (DEDUCED, log entry 33) -/
def poolUsed (d : Dev) : Nat :=
  d.bond.flows.foldl (fun a e => e.2.held.foldl (fun a b => a + b.size) a) 0

/-- The flow whose lowest held envelope is oldest. -/
def oldestHeld (d : Dev) : Option (Nat × Time) :=
  d.bond.flows.foldl (fun a e =>
    match e.2.held with
    | [] => a
    | x :: _ =>
      match a with
      | none => some (e.1, x.since)
      | some (_, t) => if x.since < t then some (e.1, x.since) else a) none

/-- Early closes until n more bytes fit in the pool (R102); the first argument bounds their number. -/
def makeRoom : Nat → Nat → Dev → Dev
  | 0, _, d => d
  | fuel + 1, n, d =>
    if poolUsed d + n ≤ 256 * d.bond.poolCells then d
    else
      match oldestHeld d with
      | none => d
      | some (k, _) => makeRoom fuel n (closeGap k (count .bondEarlyClose k d))

/-- The cells of the pool: POOL's, but an enlarged pool grows only as cells of the shared area are freed (R344).
(DEDUCED, log entry 169) -/
def poolGrow (d : Dev) : Dev :=
  { d with bond := { d.bond with poolCells := min (4096 * fld d fBOND_CTRL_POOL 0) (max d.bond.poolCells (poolRoom d)) } }

/-- A held envelope put in the order of the sequence. -/
def insertHeld (e : Nat) (b : BondEnv) : List BondEnv → List BondEnv
  | [] => [b]
  | x :: l => if seqDist b.seq e < seqDist x.seq e then b :: x :: l else x :: insertHeld e b l

/-- Envelopes held in all. -/
def heldCount (d : Dev) : Nat := d.bond.flows.foldl (fun a e => a + e.2.held.length) 0

/-- An envelope that must be held, from an early close that may have moved its flow on (R100, R102). -/
def holdEnv (k : Nat) (b : BondEnv) (d : Dev) : Dev :=
  let d := poolGrow d
  let d := makeRoom (heldCount d) b.size d
  match (bondFlow d k).expected with
  | none => d
  | some e =>
    if 2048 ≤ seqDist b.seq e then count .bondLate k d
    else drain k (modFlow k (fun f => { f with held := insertHeld e b f.held }) d)

/-- The flow re-anchors on its next envelope: it has no expected sequence, or has held and received nothing for the
reorder window (R103). -/
def reanchors (d : Dev) (f : BondFlow) : Bool :=
  f.held.isEmpty && (match f.lastAt with
    | none => false
    | some t => decide (t + fld d fBOND_CTRL_WINDOW 0 * Config.us ≤ d.now))

/-- An envelope arrives at its flow (R100, R103). -/
def bondArrive (k : Nat) (b : BondEnv) (d : Dev) : Dev :=
  let f := bondFlow d k
  let e := if reanchors d f then b.seq else f.expected.getD b.seq
  let x := seqDist b.seq e
  let d := modFlow k (fun f => { f with expected := some e, lastAt := some d.now }) d
  if f.held.any (fun h => h.seq == b.seq) then count .bondDuplicate k d
  else if x = 0 then
    drain k (modFlow k (fun f => { f with expected := some ((e + 1) % 4096) }) (reassemble k b d))
  else if x ≤ 1023 then holdEnv k b d
  else if x ≤ 2047 then holdEnv k b (advance k (x - 1023) d)
  else count .bondLate k d

/-- The reorder window of a flow runs out (R101), once for each lowest held envelope that is due. -/
def windowExpiry (k : Nat) : Nat → Dev → Dev
  | 0, d => d
  | fuel + 1, d =>
    match (bondFlow d k).held with
    | [] => d
    | x :: _ =>
      if x.since + fld d fBOND_CTRL_WINDOW 0 * Config.us ≤ d.now then windowExpiry k fuel (closeGap k d) else d

/-- A switch of the feeder: every flow's held envelopes are delivered, and it re-anchors (R103). -/
def releaseFlows (d : Dev) : Dev :=
  d.bond.flows.foldl (fun d x =>
    let f := bondFlow d x.1
    let d := match f.expected, f.held.getLast? with
      | some e, some b => advance x.1 (seqDist b.seq e + 1) d
      | _, _ => d
    modFlow x.1 (fun f => { f with expected := none, lastAt := none }) d) d

/-- What the bonding stage holds of a flow slot is discarded (R97, R106). -/
def forgetFlow (k : Nat) (d : Dev) : Dev := { d with bond := { d.bond with flows := adel d.bond.flows k } }

/-! ## Delineation (R91 to R95) -/

/-- Whole words of a lane's envelope area (R56, R84). -/
def areaSize (l : LaneRx) (laneB : Bool) : Nat :=
  if laneB then 196042 else (2441 - mapCodewords l.mapLen - (if l.trib then 2 else 0)) * 5140 / 64

/-- A receive lane of a channel. -/
def laneOf (c : Chan) (laneB : Bool) : LaneRx := if laneB then c.laneB else c.laneA

/-- A receive lane changed. -/
def modLane (ch : Nat) (laneB : Bool) (f : LaneRx → LaneRx) (d : Dev) : Dev :=
  modChan ch (fun c => if laneB then { c with laneB := f c.laneB } else { c with laneA := f c.laneA }) d

/-- The counter scope of a lane: 2n for A, 2n + 1 for B of LCn. -/
def laneScope (ch : Nat) (laneB : Bool) : Nat := 2 * ch + laneB.toNat

/-- A data envelope of a flow of this terminal (R96, R110, R113, R549). -/
def dataEnvelope (e : EnvelopeIn) (fc : Word) (k : Nat) (d : Dev) : Dev :=
  let d := idleExit d
  if d.pwr.state = 2 ∧ ¬ isMgmt d k then count .pwSleepDiscards 0 d
  else
    let entry := 4 * flowField d k 5 0 + envKey e.header
    let (p, d) := if k ≠ 8192 ∧ flowCiphered d k then
        decipher entry (gcmIv fc e.ch (e.lane == .b) false 0 e.word) e.header e.payload d
      else (some (e.payload.take (envLen e.header)), d)
    bondArrive k { seq := envSeq e.header, since := d.now, first := envFirst e.header, last := envLast e.header,
                   recallOn := envRecall e.header, failed := p.isNone, payload := p.getD [],
                   size := 8 * envWords e.header } d

/-- A type of downstream message (R136). -/
def knownType (t : Nat) : Bool := broadcastType t || directedType t

/-- A delineated envelope (R17, R85 to R87, R94 to R96). (DEDUCED, log entry 31) -/
def takeEnvelope (e : EnvelopeIn) (d : Dev) : Dev :=
  let laneB := e.lane == .b
  let sc := laneScope e.ch laneB
  let fc := (laneOf (chan d e.ch) laneB).al.fc
  let flow := envFlow e.header
  if e.payloadErrored then count .envErrored sc d
  else if envReserved e.header then count .envReserved sc d
  else if flow = 0xFFFF then d
  else if flow = 0xFFFD ∨ flow = 0xFFFE then
    if envLen e.header ≠ 48 then count .ctlWrongLength 0 d
    else if !knownType ((e.payload.headD 0).toNat) then count .ctlUnknown 0 d
    else { d with act := { d.act with
      inbox := d.act.inbox ++ [⟨d.now, e.ch, fc, BitVec.ofNat 16 flow, e.payload.take 48⟩] } }
  else if envLen e.header = 0 then count .envEmpty sc d
  else
    match downSlot d flow with
    | none => count .foreignFlow 0 d
    | some k => dataEnvelope e fc k d

/-- The header is good and its envelope ends within the area (R92). -/
def candidateOk (e : EnvelopeIn) (area : Nat) : Bool :=
  !e.headerErrored && envCheckOk e.header && !envReserved e.header && decide (e.word + envWords e.header ≤ area)

/-- A header in delineation Sync (R91, R94, R53). (DEDUCED, log entry 30) -/
def delinSync (e : EnvelopeIn) (area : Nat) (l : LaneRx) (d : Dev) : Dev :=
  let laneB := e.lane == .b
  let sc := laneScope e.ch laneB
  let next := e.word + envWords e.header
  if e.headerErrored || !envCheckOk e.header then
    let d := if e.headerErrored then d else count .envHeaderFail sc d
    if !laneB && l.headerBad && e.word == 0 then
      count .frameHeaderDiscard sc (modLane e.ch laneB (fun l => { l with areaDiscard := true }) d)
    else modLane e.ch laneB (fun l => { l with delin := .hunt, nextWord := e.word + 1 }) d
  else if area < next then
    count .envOverrun sc (modLane e.ch laneB (fun l => { l with nextWord := area }) d)
  else takeEnvelope e (modLane e.ch laneB (fun l => { l with nextWord := next }) d)

/-- A header in delineation Hunt (R91, R92). (DESIGN CHOICE, log entry 199) -/
def delinHunt (e : EnvelopeIn) (area : Nat) (d : Dev) : Dev :=
  let laneB := e.lane == .b
  let next := e.word + envWords e.header
  if !candidateOk e area then d
  else if next = area then
    takeEnvelope e (modLane e.ch laneB (fun l => { l with delin := .sync, nextWord := next, held := [], chained := 0 }) d)
  else modLane e.ch laneB (fun l => { l with delin := .presync, nextWord := next, held := [⟨e⟩], chained := 0 }) d

/-- The held envelopes of a lane delivered as it reaches delineation Sync (R93). -/
def deliverPresync (ch : Nat) (laneB : Bool) (d : Dev) : Dev :=
  let held := (laneOf (chan d ch) laneB).held
  held.foldl (fun d x => takeEnvelope x.env d)
    (modLane ch laneB (fun l => { l with delin := .sync, held := [], chained := 0 }) d)

/-- A header in delineation Presync (R91 to R93): the idle headers before it count, and may themselves have confirmed. -/
def delinPresync (e : EnvelopeIn) (area dconf : Nat) (l : LaneRx) (d : Dev) : Dev :=
  let laneB := e.lane == .b
  let next := e.word + envWords e.header
  let idles := l.chained + (e.word - l.nextWord)
  let chained := idles + 1
  if dconf ≤ idles then delinSync e area { l with delin := .sync } (deliverPresync e.ch laneB d)
  else if !candidateOk e area then
    let cand := match l.held with
      | h :: _ => h.env.word
      | [] => e.word
    count .presyncFail (laneScope e.ch laneB)
      (modLane e.ch laneB (fun l => { l with delin := .hunt, nextWord := cand + 1, held := [], chained := 0 }) d)
  else if dconf ≤ chained ∨ next = area then
    let d := modLane e.ch laneB (fun l => { l with delin := .sync, nextWord := next, held := [], chained := 0 }) d
    (l.held.map (·.env) ++ [e]).foldl (fun d x => takeEnvelope x d) d
  else modLane e.ch laneB (fun l => { l with nextWord := next, held := l.held ++ [⟨e⟩], chained := chained }) d

/-- A lane gives envelopes: its channel is up and enabled, not in AIS, and its area is not discarded (R53, R62, R66). -/
def laneGives (d : Dev) (ch : Nat) (laneB : Bool) : Bool :=
  chanEnabled d ch && chanUp d ch && !(chan d ch).ais && !(laneOf (chan d ch) laneB).areaDiscard && engineRuns d

/-- The end of a lane's envelope area: the idle envelopes that fill it up confirm what delineation Presync holds
(R91, R93). -/
def areaEnd (ch : Nat) (laneB : Bool) (d : Dev) : Dev :=
  if (laneOf (chan d ch) laneB).delin = .presync ∧ laneGives d ch laneB then deliverPresync ch laneB d else d

/-- ENVELOPE_RECEIVED: an envelope at or after the next header's word; words that no command brings between the two held
idle envelopes. -/
def envelopeReceived (e : EnvelopeIn) (d : Dev) : Dev :=
  let laneB := e.lane == .b
  let l := laneOf (chan d e.ch) laneB
  let area := areaSize l laneB
  if !laneGives d e.ch laneB || decide (e.word < l.nextWord) || decide (area ≤ e.word) then d
  else
    match l.delin with
    | .sync => delinSync e area l d
    | .hunt => delinHunt e area d
    | .presync => delinPresync e area (fld d fBOND_CTRL_DELIN_D 0) l d

/-! ## Key registers (R118, R119, R123) -/

/-- RESULT of CY_KEY_STATUS. -/
def keyResult (r : Nat) (d : Dev) : Dev := setFld fCY_KEY_STATUS_RESULT 0 r d

/-- The key that CY_KEY_DATA0 to 5 hold. -/
def keyData (d : Dev) : BitVec 256 :=
  BitVec.ofNat 256 ((List.range 5).foldl (fun a i => a * 2 ^ 48 + (reg d .cyKeyData i).toNat) 0 * 2 ^ 16 +
    (reg d .cyKeyData5 0).toNat / 2 ^ 32)

/-- The entry may not be written or erased: it is TX_INDEX of set 0 (R118). -/
def keyInUse (d : Dev) (e : Nat) : Bool := e == txIndex d 0

/-- OP 1: an entry written. -/
def keyWrite (e : Nat) (d : Dev) : Dev :=
  if keyInUse d e then keyResult 1 d else keyResult 0 (setKeyEntry e { key := some (keyData d) } d)

/-- OP 2: an entry erased. -/
def keyErase (e : Nat) (d : Dev) : Dev := if keyInUse d e then keyResult 1 d else keyResult 0 (setKeyEntry e {} d)

/-- OP 3: an entry's state and counter. -/
def keyRead (e : Nat) (d : Dev) : Dev :=
  let k := keyEntry d e
  let st := if k.key.isNone then 0 else if k.count = deadCount then 2 else 1
  keyResult 0 (setReg .cyKeyCount 0 k.count (setFld fCY_KEY_STATUS_STATE 0 st d))

/-- OP 5 and 6: a check-value slot written or erased; slot 7 and above are invalid. -/
def slotSet (slot : Nat) (key : Option (BitVec 256)) (d : Dev) : Dev :=
  if 7 ≤ slot then keyResult 2 d
  else keyResult 0 { d with cipher := { d.cipher with slots := match key with
    | some k => aput d.cipher.slots slot k
    | none => adel d.cipher.slots slot } }

/-- A write of CY_KEY_CMD by its OP; other codes are invalid (R123). -/
def keyCommand (op e : Nat) (d : Dev) : Dev :=
  match op with
  | 1 => keyWrite e d
  | 2 => keyErase e d
  | 3 => keyRead e d
  | 5 => slotSet e (some (keyData d)) d
  | 6 => slotSet e none d
  | _ => keyResult 2 d

/-- The key of a check-value slot. -/
def checkKey (d : Dev) (slot : Nat) : Option (BitVec 256) := aget d.cipher.slots slot

/-- Leading n bits of a message's check value (R119). -/
def checkValue (key : BitVec 256) (n : Nat) (msg : List Byte) : Nat := (cmac key msg).toNat >>> (128 - n)

/-- The slots of a flow ID that may hold envelopes: the one that receives, and an enabled one whose direction has been set
to up since (R97, R101). -/
def reorderSlots (d : Dev) (flow : Nat) : List Nat :=
  (downSlot d flow).toList ++
    (enabledFlows d).filter (fun k => flowField d k 1 0 == flow && !(flowField d k 3 1).testBit 0)

/-- The reorder window of a flow runs out (R101). -/
def reorderExpiry (flow : Nat) (d : Dev) : Dev :=
  (reorderSlots d flow).foldl (fun d k => windowExpiry k (bondFlow d k).held.length d) d

/-! ## Meanings -/

/-- KEY_WRITE_ENTRY (R118). -/
def execKeyWriteEntry (e : BitVec 8) (s : State) : Out := onDev (keyWrite e.toNat) s

/-- KEY_ERASE_ENTRY (R118). -/
def execKeyEraseEntry (e : BitVec 8) (s : State) : Out := onDev (keyErase e.toNat) s

/-- KEY_READ_ENTRY_STATE (R123). -/
def execKeyReadEntryState (e : BitVec 8) (s : State) : Out := onDev (keyRead e.toNat) s

/-- CHECK_VALUE_SLOT_WRITE (R119, R123). -/
def execCheckValueSlotWrite (k : BitVec 8) (s : State) : Out := onDev (fun d => slotSet k.toNat (some (keyData d)) d) s

/-- CHECK_VALUE_SLOT_ERASE (R119, R123). -/
def execCheckValueSlotErase (k : BitVec 8) (s : State) : Out := onDev (slotSet k.toNat none) s

/-- KEY_COMMAND_INVALID (R123): the command as CY_KEY_CMD brings it. -/
def execKeyCommandInvalid (op : BitVec 3) (entry : BitVec 8) (s : State) : Out :=
  onDev (keyCommand op.toNat entry.toNat) s

/-- TX_INDEX_WRITE (R114). -/
def execTxIndexWrite (i : Fin 3) (v : Word) (s : State) : Out := onDev (storeWrite .cyTxidx i v) s

end Sys2Proof.Machine
end

