-- ==== Sys2Proof/Machine/WaifelBase.lean ====
section
/-!
DEFINITION. Machine/WaifelBase.lean: the Waifel sessions, their messages and their keys (R607 to R611).
-/

namespace Sys2Proof.Machine

/-- A Waifel message's 16-byte header and payload, without the check value (R607). -/
def wfBody (type session seq ack : Nat) (payload : List Byte) : List Byte :=
  [1, BitVec.ofNat 8 type] ++ natToBytes 2 session ++ natToBytes 4 seq ++ natToBytes 2 payload.length ++
    natToBytes 4 ack ++ [0, 0] ++ payload

/-- The check value of a message under a session key: the leading 64 bits of the CMAC (R607). -/
def wfCheck (key : BitVec 256) (body : List Byte) : Nat := checkValue key 64 body

/-- A session. -/
def session (d : Dev) (id : Nat) : Option Session := aget d.img.sessions id

/-- A session set. -/
def setSession (id : Nat) (x : Session) (d : Dev) : Dev :=
  { d with img := { d.img with sessions := aput d.img.sessions id x } }

/-- A session ended: its ID is free and its check-value slot erased (R610, R611); a slot under transfer stays Writing
(R612). -/
def endSession (id : Nat) (d : Dev) : Dev :=
  { d with
    img := { d.img with sessions := adel d.img.sessions id },
    cipher := { d.cipher with slots := adel d.cipher.slots (2 + id) } }

/-- A message of the terminal in a session, one sequence higher than its last (R607, R611). -/
def sessionSend (id type ack : Nat) (payload : List Byte) (d : Dev) : Dev :=
  match session d id with
  | none => d
  | some x =>
    let body := wfBody type id (x.txSeq + 1) ack payload
    emit (.waifel (body ++ natToBytes 8 (wfCheck x.key body))) (setSession id { x with txSeq := x.txSeq + 1 } d)

/-- The session key: the KDF in counter mode of NIST SP 800-108 with AES-CMAC under the service key, label "WAIFEL",
context the client nonce and the terminal nonce (R610). -/
def sessionKey (service : BitVec 256) (client terminal : BitVec 128) : BitVec 256 :=
  let label : List Byte := [0x57, 0x41, 0x49, 0x46, 0x45, 0x4C]
  let fixed := label ++ [0] ++ natToBytes 16 client.toNat ++ natToBytes 16 terminal.toNat ++
    natToBytes Config.kdfLengthBytes 256
  let block (i : Nat) : Nat := (cmac service (natToBytes Config.kdfCounterBytes i ++ fixed)).toNat
  BitVec.ofNat 256 (block 1 * 2 ^ 128 + block 2)

/-- A message in an opened session is acted on: its check value verifies and its sequence is above the highest accepted one;
otherwise it is discarded and counted (R611). (DEDUCED, log entry 145) -/
def wfAccept (now : Time) (id type seq ack : Nat) (payload : List Byte) (check : Nat) (d : Dev) : Bool × Dev :=
  match session d id with
  | none => (false, count .wfDiscarded 0 d)
  | some x =>
    if !x.opened then (false, count .wfDiscarded 0 d)
    else if wfCheck x.key (wfBody type id seq ack payload) ≠ check then (false, count .wfCheckFail 0 d)
    else if seq ≤ x.rxSeq then (false, count .wfReplayed 0 d)
    else (true, setSession id { x with rxSeq := seq, lastAt := now } d)

end Sys2Proof.Machine
end

