-- ==== Sys2Proof/Machine/Paths.lean ====
section
/-!
DEFINITION. Machine/Paths.lean: the three access paths of the dictionary, their replies and the ends of their transactions
(R507 to R517, R521).
-/

namespace Sys2Proof.Machine

/-- The scope number of a path (R526). -/
def pathNo : Path → Nat
  | .h => 0
  | .l => 1
  | .s => 2

/-- A path's state. -/
def pathSt (d : Dev) : Path → PathSt
  | .h => d.dic.h
  | .l => d.dic.l
  | .s => d.dic.s

/-- A path's state changed. -/
def modPath (p : Path) (f : PathSt → PathSt) (d : Dev) : Dev :=
  match p with
  | .h => { d with dic := { d.dic with h := f d.dic.h } }
  | .l => { d with dic := { d.dic with l := f d.dic.l } }
  | .s => { d with dic := { d.dic with s := f d.dic.s } }

/-! ## Messages (R512 to R514) -/

/-- A message's 24-byte header and its records. -/
def dictMessage (op second records : Nat) (id : BitVec 32) (gen : Word) (secs ns : Nat) (body : List Byte) : List Byte :=
  [1, BitVec.ofNat 8 op, BitVec.ofNat 8 second, BitVec.ofNat 8 records] ++ natToBytes 4 id.toNat ++
    natToBytes 6 gen.toNat ++ natToBytes 6 secs ++ natToBytes 4 ns ++ body

/-- A value padded with zeros to a multiple of 4. -/
def padValue (bs : List Byte) : List Byte := bs ++ List.replicate ((4 - bs.length % 4) % 4) 0

/-- The read reply record of an entry. -/
def readRecord (index sub code ty : Nat) (value : List Byte) : List Byte :=
  natToBytes 2 index ++ natToBytes 1 sub ++ natToBytes 1 code ++ natToBytes 1 ty ++ [0] ++
    natToBytes 2 value.length ++ padValue value

/-- The write reply record of an entry, index × 256 + subindex. -/
def writeRecord (key code : Nat) : List Byte := natToBytes 3 key ++ natToBytes 1 code

/-- The outcome record. -/
def outcomeRecord (id : BitVec 32) (state result key : Nat) : List Byte :=
  natToBytes 4 id.toNat ++ natToBytes 1 state ++ natToBytes 1 result ++ natToBytes 3 key ++ [0, 0, 0]

/-- A reply; one that would exceed 8,192 bytes is replaced by the code 0x0B without records (R512, R525). -/
def replyMessage (op result records : Nat) (id : BitVec 32) (gen : Word) (secs ns : Nat) (body : List Byte) : List Byte :=
  if 8192 < 24 + body.length then dictMessage (op + 0x80) 0x0B 0 id gen 0 0 []
  else dictMessage (op + 0x80) result records id gen secs ns body

/-! ## Sending (R507, R509, R511) -/

/-- The flow ID that carries the management flow (R98, R508). -/
def mgmtFlow (d : Dev) : Option Nat :=
  match impliedMgmt d with
  | some f => some f
  | none => (mgmtSlot d).map (fun k => flowField d k 1 0)

/-- A management packet of the terminal's own: upstream queue 0 of allocation-ID slot 0, under no generation slot, since it enters
no pipeline (R276, R507). -/
def sendUpstream (bs : List Byte) (d : Dev) : Dev :=
  match mgmtFlow d with
  | none => d
  | some flow =>
    let (store, d) := newStore d
    enqueueUp 0 0 { bytes := bs, key := [], slot := 4, flow := flow, admittedAt := d.now, store := store } d

/-- The check value of a message on path H; zero while slot 2 is empty (R509). -/
def pathCheck (d : Dev) (bs : List Byte) : Nat :=
  match checkKey d 2 with
  | some k => checkValue k 64 bs
  | none => 0

/-- What of a message reaches its receiver: on L the first LEN bytes of the reply buffer (R511). -/
def deliveredOn (d : Dev) (p : Path) (bs : List Byte) : List Byte :=
  match p with
  | .l => bs.take (fld d fMB_RSP_LEN_LEN 0)
  | _ => bs

/-- A message sent on a path; on S to the session named, with the sequence it acknowledges (R507, R511, R521).
(DEDUCED, log entry 143) -/
def sendOn (p : Path) (toWho : Nat × Nat) (bs : List Byte) (d : Dev) : Dev :=
  let d := emit (.dictReply p (deliveredOn d p bs)) (count .dictReplies (pathNo p) d)
  match p with
  | .h => sendUpstream (bs ++ natToBytes 8 (pathCheck d bs)) d
  | .s => sessionSend toWho.1 0x11 toWho.2 bs d
  | .l =>
    let cap := fld d fMB_RSP_LEN_LEN 0
    let d := setFld fMB_STATUS_TRUNCATED 0 (decide (cap < bs.length)).toNat (setFld fMB_STATUS_REPLY_LEN 0 bs.length d)
    raise fMB_EVENT_REPLY 0 (setFld fMB_STATUS_STATE 0 2 d)

/-- A reply sent and, where its request is still the path's last, stored (R510). -/
def replyTo (p : Path) (toWho : Nat × Nat) (id : BitVec 32) (bs : List Byte) (d : Dev) : Dev :=
  sendOn p toWho bs (if (pathSt d p).lastId = some id then modPath p (fun x => { x with reply := some bs }) d else d)

/-- A reply to the path's last request. -/
def replyOn (p : Path) (id : BitVec 32) (bs : List Byte) (d : Dev) : Dev := replyTo p (pathSt d p).carrier id bs d

/-- A reply without records, at the current generation. -/
def answerOn (p : Path) (op result : Nat) (id : BitVec 32) (d : Dev) : Dev :=
  replyOn p id (replyMessage op result 0 id d.dic.gen 0 0 []) d

/-! ## Ends of transactions -/

/-- A path without a transaction. -/
def noTxn (x : PathSt) : PathSt :=
  { x with phase := .none, openGen := 0, reads := [], writes := [], bytes := 0, failed := none, due := none, single := none }

/-- A transaction that the path is told of as gone (R515). -/
def abandonTxn (p : Path) (d : Dev) : Dev := modPath p (fun x => { noTxn x with abandoned := true }) d

/-- The outcome of a path's transaction told: the reply of a Write outside a transaction, the Outcome message on H and S,
MB_EVENT on L (R517, R521). (DEDUCED, log entry 134) -/
def tellOutcome (p : Path) (id : BitVec 32) (code key : Nat) (single : Option (List (Nat × Nat))) (d : Dev) : Dev :=
  let gen := d.dic.gen
  let toWho := (pathSt d p).commitCarrier
  let d := modPath p (fun x => { x with outcome := { reqId := id, state := 3, result := code, entry := key, gen := gen } }) d
  match single with
  | some rs =>
    if (pathSt d p).muted then d
    else
    let body := (rs.map (fun r => writeRecord r.1 (if code ≠ 0 ∧ r.1 = key then code else r.2))).flatten
    replyTo p toWho id (replyMessage 0x02 code rs.length id gen 0 0 body) d
  | none =>
    match p with
    | .l => raise fMB_EVENT_OUTCOME 0 d
    | _ =>
      let (s, n, _) := ltSplit (ltNow d)
      sendOn p (toWho.1, 0) (dictMessage 0x87 code 1 id gen s n (outcomeRecord id 3 code key)) d

/-- A pending transaction cancelled before its commit point, with nothing applied. A Write of its own is answered with the
code given; the outcome of a Commit is 0x00 (R515, R517). -/
def cancelTxn (p : Path) (writeCode : Nat) (d : Dev) : Dev :=
  let x := pathSt d p
  tellOutcome p x.commitId (if x.single.isSome then writeCode else 0) 0 x.single (modPath p noTxn d)

/-- The commit point of a pending transaction has come, though the transaction has not been resolved yet (R25). -/
def pointReached (d : Dev) (x : PathSt) : Bool :=
  match x.due with
  | some (.boundary t) => boundarySince t d
  | some (.scheduled s n) => decide (ltOf s.toNat n ≤ ltNow d)
  | none => false

/-- A reset of R471 on path L: an open transaction is abandoned, a pending one is treated as an Abort would, so that it stands where
its commit point has come, and a reply not yet written is discarded (R25, R511). -/
def hostPathReset (d : Dev) : Dev :=
  let x := d.dic.l
  let d := match x.phase with
    | .none => d
    | .open_ => abandonTxn .l d
    | .pending =>
      if pointReached d x then modPath .l (fun y => { y with muted := y.single.isSome }) d
      else
      let d := modPath .l (fun y => { noTxn y with
        outcome := { reqId := x.commitId, state := 3, result := 0, entry := 0, gen := d.dic.gen } }) d
      if x.single.isSome then d else raise fMB_EVENT_OUTCOME 0 d
  let d := { d with dic := { d.dic with l := { d.dic.l with owed := none } } }
  if fld d fMB_STATUS_STATE 0 = 1 then setFld fMB_STATUS_STATE 0 0 d else d

end Sys2Proof.Machine
end

