-- ==== Sys2Proof/Machine/HostCmds.lean ====
section
/-!
DEFINITION. Machine/HostCmds.lean: rings, doorbells, the host's transmit path, drawers, vectors and the host's resets (R468 to
R494): the meanings of their commands.
-/

namespace Sys2Proof.Machine

/-! ## Numbers -/

/-- The model's number of a ring. -/
def ringNo : RingId → Nat
  | .drawer d => d
  | .rxCompletion r => 200 + r
  | .rxBuffer r => 220 + r
  | .tx t => 240 + t
  | .benchSubmit => 260
  | .benchComplete => 261

/-- BAR2 as the model numbers its bytes: above the 32 MiB of BAR0 (R469). -/
def bar2 (o : Nat) : Nat := 0x2000000 + o

/-- A drawer's producer is present in the part (R6, R493). -/
def drawerPresent (d : Dev) (n : Nat) : Bool :=
  if n = 6 ∨ n = 7 then d.part.hasSideboard else if n < 8 then true else n - 8 < d.part.ports

/-- The host port runs: PD46 is in Run (R472). -/
def hostPort (d : Dev) : Bool := pdOn d 46

/-! ## Rings (R477 to R479) -/

/-- The tail line is in use: CXL mode and a line named (R470, R478). -/
def tailLine (d : Dev) (n : Nat) : Bool :=
  d.host.link.cxl && (reg d (ringLineReg n).1 (ringLineReg n).2) != 0

/-- The host's index taken over, modulo twice the ring's size (R477); room in the completion ring lets what waits go on. -/
def setHostIx (n : Nat) (ix : BitVec 16) (d : Dev) : Dev :=
  let d := modRing n (fun r => { r with hostIx := BitVec.ofNat 16 (ix.toNat % (2 * ringSize d n)) }) d
  if n = 261 then benchFlush d else d

/-- The ring of a drawer whose unit the part lacks: writes to it are ignored (R6). -/
def ringAbsent (d : Dev) (n : Nat) : Bool := decide (n < 104) && !drawerPresent d n

/-- The buffer entries between the host's index before and its new one, each at its place (R481). -/
def storeEntries (n : Nat) (es : List (Word × Word)) (d : Dev) : Dev :=
  if n < 220 ∨ 235 < n then d
  else
    let at_ := (ring d n).hostIx.toNat
    { d with host := { d.host with rxEntries := es.zipIdx.foldl (fun l e =>
        aput l (65536 * (n - 220) + (at_ + e.2) % (2 * ringSize d n)) e.1) d.host.rxEntries } }

/-- A doorbell write (R6, R478). (DEDUCED, log entry 108) -/
def doorbell (n : Nat) (x : RingIndex) (d : Dev) : Dev :=
  if ringAbsent d n then d
  else if tailLine d n then count .doorbellIgnored 0 d else setHostIx n x.index (storeEntries n x.entries d)

/-- The tail line read again after the host's write: it is held in the device cache (R478). -/
def tailSnoop (n : Nat) (x : RingIndex) (d : Dev) : Dev :=
  if !ringAbsent d n && tailLine d n then
    setHostIx n x.index (storeEntries n x.entries (cacheLine (reg d (ringLineReg n).1 (ringLineReg n).2).toNat d))
  else d

/-- A command on a ring: an access to a present one ends Idle (R6, R548). -/
def ringIdleExit (n : Nat) (d : Dev) : Dev := if ringAbsent d n then d else idleExit d

/-- EN cleared: the ring stops and both indexes return to zero (R477). -/
def ringStop (n : Nat) (d : Dev) : Dev :=
  let (r, i) := ringCfg n
  let d := { d with host := { d.host with rxEntries := d.host.rxEntries.filter (fun e => e.1 / 65536 + 220 != n) } }
  modRing n (fun _ => {}) (setReg r i (BitVec.ofNat 48 (withBits (reg d r i).toNat 4 4 0)) d)

/-- The write-back is due: 16 entries, or 4 µs since the first of them (R479). -/
def writeBackDue (d : Dev) (n : Nat) : Bool :=
  let r := ring d n
  decide (16 ≤ r.wbCount) || (match r.wbSince with
    | some t => decide (t + 4 * Config.us ≤ d.now)
    | none => false)

/-! ## Transmit (R480) -/

/-- A failed host read recorded for advanced error reporting: its completion did not come (R468, R480). -/
def readFailed (d : Dev) : Dev :=
  { d with host := { d.host with cfg := { d.host.cfg with errors := d.host.cfg.errors ||| 0x4000 } } }

/-- A transmit descriptor taken from an enabled ring that holds one (R480). -/
def hostTransmit (x : TxDescriptor) (d : Dev) : Dev :=
  let n := 240 + x.ring.val
  let len := bitsOf x.w0.toNat 44 31
  let pipe := bitsOf x.w0.toNat 46 45
  if !takesWork d 46 || !ringEnabled d n || (ring d n).hostIx == (ring d n).devIx then d
  else if len < 14 ∨ len > 16348 ∨ pipe ≥ d.part.pipes then count .htxSkipped x.ring (ringStep n d)
  else match x.frame with
    | none => count .htxReadFail x.ring (readFailed (ringStep n d))
    | some bs =>
      let f : HostFrame := { ring := x.ring, bytes := bs.take len, timing := x.timing, tag := x.tag }
      countN .htxBytes x.ring len (count .htxFrames x.ring (ringStep n
        { d with host := { d.host with
          txFrames := aputD d.host.txFrames pipe (agetD d.host.txFrames pipe [] ++ [f]) [] } }))

/-! ## Drawers (R485 to R490) -/

/-- The read port's answer for a slot: slot 0 pops the head into the latch (R485, R486, R489). -/
def drawerRead (n slot : Nat) (d : Dev) : Dev :=
  let w := drawer d n
  let reply := fun (v : Word) (d : Dev) => emit (.barRead (bar2 (0x1000 * n + 8 * slot)) v) d
  if !drawerPresent d n || consumer d n != 0 then reply 0 d
  else if slot ≠ 0 then reply (if slot < drawerWords n then w.latch.getD slot 0 else 0) d
  else match w.items with
    | [] => reply 0 (setDrawer n { w with latch := [] } d)
    | x :: l => reply (x.getD 0 0) (levelCheck n (setDrawer n { w with items := l, latch := x } d))

/-- LEVEL written: values above the depth act as the depth; the drawer is armed again (R488, R490). -/
def drawerLevel (n : Nat) (v : Word) (d : Dev) : Dev :=
  if !drawerPresent d n then d
  else levelCheck n (setDrawer n { drawer d n with
    level := min (bitsOf v.toNat 6 0) (drawerDepth n), armed := true } d)

/-- FLUSH written (R487). -/
def drawerFlush (n : Nat) (v : Word) (d : Dev) : Dev :=
  if drawerPresent d n && v.toNat.testBit 0 then flushDrawer n d else d

/-- CONSUMER written (R485, R491, R493): a change flushes; drawers 6 and 7 stay with firmware. -/
def drawerConsumer (n : Nat) (v : Word) (d : Dev) : Dev :=
  let c := bitsOf v.toNat 1 0
  if !drawerPresent d n then d
  else if (n = 6 ∨ n = 7) ∧ c < 2 then d
  else
    let old := consumer d n
    let d := setFld fDRW_CTRL_CONSUMER n c d
    if min c 2 = old then d else flushDrawer n d

/-- The DMA engine copies the head item into the drawer's ring, if the ring has room (R485, R489, R491). -/
def drawerCopy (n : Nat) (d : Dev) : Dev :=
  let w := drawer d n
  match w.items with
  | [] => d
  | x :: l =>
    if consumer d n = 1 ∧ hostPort d ∧ ringEnabled d n ∧
        indexDist d n (ring d n).hostIx (ring d n).devIx < ringSize d n then
      ringStep n (emit (.ringEntry n (ring d n).devIx (x ++ List.replicate (4 - x.length) 0))
        (levelCheck n (setDrawer n { w with items := l } d)))
    else d

/-- A vector unmasked: its pending message is sent (R494). -/
def unmask (v : Nat) (d : Dev) : Dev :=
  let d := { d with host := { d.host with unmasked := (v :: d.host.unmasked).eraseDups } }
  if v ∈ d.host.heldVectors then
    emit (.msix v) { d with host := { d.host with heldVectors := d.host.heldVectors.filter (· != v) } }
  else d

/-- A vector masked: its messages are held (R494). -/
def mask (v : Nat) (d : Dev) : Dev :=
  { d with host := { d.host with unmasked := d.host.unmasked.filter (· != v) } }

/-! ## Resets and training (R470, R471) -/

/-- Registers of 15_host_attachment_and_drawers.md that a reset of R471 returns to their reset values. -/
def hostRegs : List Reg :=
  [Reg.glEvent, Reg.glBadAddr, Reg.drwCtrl, Reg.dringBase, Reg.dringCfg, Reg.dringWb, Reg.dringTailLine,
   Reg.rxcBase, Reg.rxcCfg, Reg.rxcWb, Reg.rxcTailLine, Reg.rxbBase, Reg.rxbCfg, Reg.rxbWb, Reg.rxbTailLine,
   Reg.txrBase, Reg.txrCfg, Reg.txrWb, Reg.txrTailLine, Reg.hpReasonRing]

/-- One drawer through a reset of R471: flushed where its consumer was the host or changes, its page's registers reset. -/
def hostResetDrawer (d0 d : Dev) (n : Nat) : Dev :=
  let d := if consumer d0 n ≤ 1 ∨ consumer d0 n ≠ consumerReset n then flushDrawer n d else d
  setDrawer n { drawer d n with level := 0, armed := true, flushes := 0 } d

/-- Packets of the host packet path dropped and counted (R471). -/
def dropHostFrames (d : Dev) : Dev :=
  let n := (d.host.txFrames.map (fun e => e.2.length)).foldl (· + ·) 0
  countN .hostResetDrops 0 n { d with host := { d.host with txFrames := [] } }

/-- The reset of R471; linkLost where the link itself went down. (DEDUCED, log entry 107) -/
def hostReset (linkLost : Bool) (d : Dev) : Dev :=
  let d0 := d
  let d := dropHostFrames d
  let d := ((List.range 104).filter (drawerPresent d)).foldl (hostResetDrawer d0) d
  let d := ringStop 261 (ringStop 260 d)
  let d := resetRegs hostRegs (resetReg .cnMirEn d)
  let d := { d with host := { d.host with
    rings := [], unmasked := [], heldVectors := [], vectors := [], cfg := {}, cache := [], rxEntries := [], link := if linkLost then {} else d.host.link } }
  hostPathReset (count .hostResets 0 (raise fGL_EVENT_FLR 0 d))

/-- The host's causes: all but a Function Level Reset take the link down until it trains again. -/
def hostResetBy (c : HostResetCause) (d : Dev) : Dev := hostReset (c != .flr) d

/-- The CXL.mem window is offered: CXL mode, and the memory partitions are laid out (R470, R476). -/
def memOffered (d : Dev) : Bool := d.host.link.cxl && decide (5 ≤ fld d fGL_BOOT_STEP 0)

/-- The window's size shown to the host where it is offered (R476). -/
def offerWindow (d : Dev) : Dev := if memOffered d then emit (.windowOffered (d.mc.sizes.getD 4 0)) d else d

/-- The link trained (R470, R476). (DEDUCED, log entry 109) -/
def linkTrained (l : LinkTraining) (d : Dev) : Dev :=
  if !hostPort d then d
  else
    let cxl := l.cxlNegotiated && l.speed.val == 5 && (l.lanes == 8 || l.lanes == 4)
    let d := { d with host := { d.host with link := { d.host.link with
      up := true, cxl := cxl, width := l.lanes, speed := l.speed } } }
    let d := offerWindow d
    raiseIf (decide (l.lanes < 8)) fGL_EVENT_LINK_DEGRADED 0 d

/-! ## Meanings -/

/-- HOST_RESET (R471). -/
def execHostReset (t : Time) (c : HostResetCause) (s : State) : Out := at_ t (hostResetBy c) s

/-- LINK_TRAINED (R470). -/
def execLinkTrained (t : Time) (l : LinkTraining) (s : State) : Out := at_ t (linkTrained l) s

/-- RING_DOORBELL (R478). -/
def execRingDoorbell (t : Time) (r : RingId) (ix : RingIndex) (s : State) : Out :=
  at_ t (fun d => doorbell (ringNo r) ix (ringIdleExit (ringNo r) d)) s

/-- TAIL_LINE_SNOOP (R478). -/
def execTailLineSnoop (t : Time) (r : RingId) (ix : RingIndex) (s : State) : Out :=
  at_ t (fun d => tailSnoop (ringNo r) ix (ringIdleExit (ringNo r) d)) s

/-- RING_DISABLE (R6, R477). -/
def execRingDisable (r : RingId) (s : State) : Out := onDev (fun d => if ringAbsent d (ringNo r) then d else ringStop (ringNo r) d) s

/-- RING_WRITEBACK (R479). -/
def execRingWriteback (t : Time) (r : RingId) (s : State) : Out :=
  at_ t (fun d => if writeBackDue d (ringNo r) then writeBack (ringNo r) d else d) s

/-- HOST_TRANSMIT (R480). -/
def execHostTransmit (x : TxDescriptor) (s : State) : Out := at_ x.t (fun d => hostTransmit x (idleExit d)) s

/-- DRAWER_READ (R486). -/
def execDrawerRead (n : Fin 104) (slot : Fin 4) (s : State) : Out := onDev (drawerRead n slot) s

/-- DRAWER_FLUSH (R487). -/
def execDrawerFlush (n : Fin 104) (v : Word) (s : State) : Out := onDev (drawerFlush n v) s

/-- DRAWER_LEVEL_WRITE (R488). -/
def execDrawerLevelWrite (n : Fin 104) (v : Word) (s : State) : Out := onDev (drawerLevel n v) s

/-- DRAWER_CONSUMER_WRITE (R485). -/
def execDrawerConsumerWrite (n : Fin 104) (v : Word) (s : State) : Out := onDev (drawerConsumer n v) s

/-- DRAWER_DMA_COPY (R485, R491). -/
def execDrawerDmaCopy (t : Time) (n : Fin 104) (s : State) : Out := at_ t (drawerCopy n) s

/-- VECTOR_UNMASK (R494). -/
def execVectorUnmask (v : Fin 2048) (s : State) : Out := onDev (unmask v) s

end Sys2Proof.Machine
end

