-- ==== Sys2Proof/Machine/Bench.lean ====
section
/-!
DEFINITION. Machine/Bench.lean: the Bench, its tasks and the service clusters (17_secretary_and_bench.md).
-/

namespace Sys2Proof.Machine

/-! ## Clusters and cores -/

/-- A cluster. -/
def cluster (d : Dev) (c : Nat) : Cluster := agetD d.sec.clusters c {}

/-- A cluster changed. -/
def modCluster (c : Nat) (f : Cluster → Cluster) (d : Dev) : Dev :=
  { d with sec := { d.sec with clusters := aputD d.sec.clusters c (f (cluster d c)) {} } }

/-- A cluster is loaded and in Run (R540). -/
def clusterUp (d : Dev) (c : Nat) : Bool := (cluster d c).state == .running && pdOn d (4 + c)

/-- A core. -/
def core (d : Dev) (k : Nat) : Core := agetD d.sec.cores k {}

/-- A core changed. -/
def modCore (k : Nat) (f : Core → Core) (d : Dev) : Dev :=
  { d with sec := { d.sec with cores := aputD d.sec.cores k (f (core d k)) {} } }

/-- Cores idle and dispatchable, in order (R540, R544). -/
def idleCores (d : Dev) : List Nat :=
  (List.range 16).filter (fun k => clusterUp d (k / 4) && (core d k).busy.isNone)

/-- Cores that run a task. -/
def busyCores (d : Dev) : List Nat := (List.range 16).filter (fun k => (core d k).busy.isSome)

/-! ## Tasks -/

/-- A live task. -/
def task (d : Dev) (h : Nat) : Option Task := aget d.sec.tasks h

/-- A live task set. -/
def setTask (h : Nat) (x : Task) (d : Dev) : Dev := { d with sec := { d.sec with tasks := aput d.sec.tasks h x } }

/-- The host owns a handle (R532). -/
def hostHandle (d : Dev) (h : Nat) : Bool := decide (h < fld d fBN_CTRL_HOST_HANDLES 0)

/-- A published type (R539). -/
def publishedType (ty : Nat) : Bool := decide (0x40 ≤ ty) && decide (ty ≤ 0x44)

/-- A firmware task, of a type that belongs to the running image (R527, R539). (DEDUCED, log entry 117) -/
def firmwareTask (x : Task) : Bool := decide (x.ty < 0x40)

/-- Time limit of a type (R539). -/
def taskLimit (ty : Nat) : Time :=
  if ty < 0x40 then Config.imageTaskLimit ty else if ty = 0x42 then 2 * Config.sec else if ty = 0x44 then 100 * Config.ms else Config.sec

/-- An item of the Bench trace drawer (R542). -/
def traceItem (reason core h ty context : Nat) (d : Dev) : Dev :=
  post 5 [BitVec.ofNat 48 (2 ^ 47 + reason * 2 ^ 44 + core * 2 ^ 40 + h * 2 ^ 28 + ty * 2 ^ 20 + context * 2 ^ 4),
    stampWord (ltNow d)] d

/-- A completion posted (R536, R543). -/
def postCompletion (status core h vec : Nat) (result : Word) (tag : BitVec 32) (d : Dev) : Dev :=
  let w0 := 2 ^ 47 + status * 2 ^ 44 + core * 2 ^ 40 + h * 2 ^ 28
  let ws := [BitVec.ofNat 48 w0, stampWord (ltNow d), result, BitVec.ofNat 48 tag.toNat]
  benchFlush { d with sec := { d.sec with completions := d.sec.completions ++ [(ws, 168 + vec)] } }

/-- A task made Ready: it takes its place among the ready (R535, R540). -/
def makeReady (h : Nat) (x : Task) (d : Dev) : Dev :=
  let d' := setTask h { x with state := .ready, dep := 0, readyAt := d.now, order := d.sec.nextOrder } d
  { d' with sec := { d'.sec with nextOrder := d'.sec.nextOrder + 1 } }

/-- A task that ends: handle, status, core and result. -/
structure TaskEnd where
  handle : Nat
  status : Nat
  core : Nat
  result : Word

/-- One decrement of a successor (R535); a join that becomes Ready ends at once (R539). -/
def decrement (h : Nat) (d : Dev) : List TaskEnd × Dev :=
  match task d h with
  | none => ([], raise fBN_EVENT_ORPHAN 0 (count .tasksOrphan 0 d))
  | some x =>
    if x.state ≠ .waiting then ([], count .tasksExcess 0 d)
    else if 1 < x.dep then ([], setTask h { x with dep := x.dep - 1 } d)
    else (if x.ty = 0x40 then [⟨h, 0, 0, 0⟩] else [], makeReady h x d)

/-- What a completion does to one successor (R535, R536). -/
def onSuccessor (goOn : Bool) (h : Nat) (d : Dev) : List TaskEnd × Dev :=
  if goOn then decrement h d
  else match task d h with
    | some x => (if x.state = .waiting then [⟨h, 2, 0, 0⟩] else [], d)
    | none => ([], d)

/-- The completion of one task: its successors, its handle, its trace item, and the completion entry of a task of the host (R534 to R536,
R542). -/
def endTask (e : TaskEnd) (d : Dev) : List TaskEnd × Dev :=
  match task d e.handle with
  | none => ([], d)
  | some x =>
    let goOn := e.status == 0 || x.cont
    let (more, d) := x.succs.foldl (fun (a : List TaskEnd × Dev) h =>
      let (l, d) := onSuccessor goOn h a.2
      (a.1 ++ l, d)) ([], d)
    let d := { d with sec := { d.sec with tasks := adel d.sec.tasks e.handle } }
    let d := if e.status = 2 then count .tasksCancelled 0 d else d
    let d := if firmwareTask x then d else postCompletion e.status e.core e.handle x.vec e.result x.tag d
    let reason := if e.status = 1 then 5 else if e.status = 2 then 6 else 4
    (more, traceItem reason e.core e.handle x.ty x.context d)

/-- Tasks that end, and those that end with them; at most n of them. -/
def endTasks : Nat → List TaskEnd → Dev → Dev
  | 0, _, d => d
  | _ + 1, [], d => d
  | n + 1, e :: l, d =>
    let (more, d) := endTask e d
    endTasks n (l ++ more) d

/-- A task ends; every live task can end once, and each end names at most four successors. -/
def finish (e : TaskEnd) (d : Dev) : Dev := endTasks 20480 [e] d

/-- A task at its creation (R534). -/
def newTask (ty context dep : Nat) (succs : List Nat) (cont : Bool) (arg : Word) (vec : Nat) (tag : BitVec 32) : Task :=
  { state := .waiting, ty := ty, context := context, dep := dep, succs := succs, cont := cont, arg := arg, vec := vec, tag := tag }

/-- A descriptor from the submission ring accepted or refused (R533, R534). -/
def taskSubmit (x : TaskDesc) (d : Dev) : Dev :=
  if !takesWork d 3 || !hostPort d || !ringEnabled d 260 || (ring d 260).hostIx == (ring d 260).devIx then d
  else
    let w0 := x.w0.toNat
    let w3 := x.w3.toNat
    let ty := bitsOf w0 47 40
    let context := bitsOf w0 39 24
    let h := bitsOf w0 23 12
    let dep := bitsOf w0 11 0
    let n := bitsOf w3 35 33
    let vec := bitsOf w3 47 37
    let w1 := x.w1.toNat
    let succs := ([bitsOf w1 47 36, bitsOf w1 35 24, bitsOf w1 23 12, bitsOf w1 11 0]).take n
    let tag := BitVec.ofNat 32 (bitsOf w3 31 0)
    let d := ringStep 260 d
    if (task d h).isSome || !hostHandle d h || !publishedType ty || succs.any (fun k => !hostHandle d k)
        || decide (4 < n) || decide (1879 < vec) then
      let d := raise fBN_EVENT_REFUSED 0 (count .tasksRefused 0 d)
      traceItem 7 0 h ty context (postCompletion 3 0 h vec 0 tag d)
    else
      let cont := w3.testBit 36
      let t := newTask ty context dep succs cont x.w2 vec tag
      let d := count .tasksAccepted 0 (setTask h t d)
      if 0 < dep then d
      else
        let d := makeReady h t d
        if ty = 0x40 then finish ⟨h, 0, 0, 0⟩ d else d

/-! ## Dispatch (R540) -/

/-- Ready tasks, oldest first. -/
def readyTasks (d : Dev) : List (Nat × Task) :=
  (d.sec.tasks.filter (fun e => e.2.state == .ready)).foldl (fun l e => place e l) []
where
  /-- A task put in its place by its order. -/
  place (e : Nat × Task) : List (Nat × Task) → List (Nat × Task)
    | [] => [e]
    | f :: l => if e.2.order < f.2.order then e :: f :: l else f :: place e l

/-- A task runs on a core: the dispatch's commit point, with its trace item and its counter (R540, R542). -/
def runTask (h : Nat) (x : Task) (k reason : Nat) (d : Dev) : Dev :=
  let reason := if x.redispatched then 3 else reason
  let d := setTask h { x with state := .running, startedAt := d.now } d
  let d := modCore k (fun _ => { lastType := x.ty, lastContext := x.context, busy := some h }) d
  let name := if reason = 0 then CName.taskAffine else if reason = 1 then CName.taskWindow
    else if reason = 2 then CName.taskNoAffine else CName.taskRedispatched
  traceItem reason k h x.ty x.context (emit (.task k h [x.arg]) (count name k d))

/-- The dispatch decision for one Ready task (R540). -/
def dispatchOne (h : Nat) (x : Task) (d : Dev) : Dev :=
  let affine := fun (k : Nat) => (core d k).lastType == x.ty && (core d k).lastContext == x.context
  let window := fld d fBN_CTRL_AFFINITY_WINDOW 0 * Config.ns
  match (idleCores d).filter (fun k => !firmwareTask x || Config.imageTaskAllowed x.ty (k / 4)) with
  | [] => d
  | first :: rest =>
    match (first :: rest).find? affine with
    | some k => runTask h x k 0 d
    | none =>
      if (busyCores d).any affine ∧ d.now - x.readyAt < window then d
      else if window ≤ d.now - x.readyAt then runTask h x first 1 d
      else runTask h x first 2 d

/-- The Bench takes the Ready tasks, oldest first (R540). -/
def dispatchReady (d : Dev) : Dev :=
  if !takesWork d 3 then d else (readyTasks d).foldl (fun d e => dispatchOne e.1 e.2 d) d

/-- The lowest free handle of firmware's (R532). -/
def firmwareHandle (d : Dev) : Option Nat :=
  (List.range 4096).find? (fun h => !hostHandle d h && (task d h).isNone)

/-- A firmware task made Ready under a handle, of a type and a context that the image chooses. -/
def firmwareReady (h : Nat) (item : List Word) (d : Dev) : Dev :=
  let (i, d) := nextFree d
  let (j, d) := nextFree d
  makeReady h { newTask ((Config.freeWord i).toNat % 64) ((Config.freeWord j).toNat % 65536) 0 [] false 0 0 0 with
    item := item } d

/-- Firmware takes the items of a drawer that it consumes, at most n of them, each as a task, while it has a free handle (R485, R527,
R543). (DESIGN CHOICE, log entry 188) -/
def firmwareTakes (n : Nat) : Nat → Dev → Dev
  | 0, d => d
  | k + 1, d =>
    match (drawer d n).items, firmwareHandle d with
    | x :: l, some h => firmwareTakes n k (firmwareReady h x (levelCheck n (setDrawer n { drawer d n with items := l } d)))
    | _, _ => d

/-- The learn, table error and cipher event drawers served by firmware while the Secretary runs (R33, R493, R527). -/
def firmwareWork (d : Dev) : Dev :=
  if !secretaryRuns d then d
  else [0, 1, 2].foldl (fun d n => if consumer d n = 2 then firmwareTakes n (drawer d n).items.length d else d) d

/-- Firmware's own tasks are created and the Ready tasks dispatched (R527, R540). (DEDUCED, log entry 118) -/
def dispatchAll (d : Dev) : Dev := if !takesWork d 3 then d else dispatchReady (firmwareWork d)

/-- A waiting Ready task whose affinity window has passed (R540). -/
def affinityExpiry (h : Nat) (d : Dev) : Dev :=
  match task d h with
  | some x =>
    if pdOn d 3 ∧ x.state = .ready ∧ x.readyAt + fld d fBN_CTRL_AFFINITY_WINDOW 0 * Config.ns ≤ d.now then
      dispatchOne h x d
    else d
  | none => d

/-! ## Ends (R535 to R538, R541) -/

/-- The Running tasks of a cluster that restarts; firmware issues its own again under their handles (R538). -/
def dropRunning (c : Nat) (d : Dev) : Dev :=
  ((List.range 4).map (4 * c + ·)).foldl (fun d k =>
    match (core d k).busy with
    | none => d
    | some h =>
      let d := modCore k (fun x => { x with busy := none }) d
      match task d h with
      | none => d
      | some x =>
        if firmwareTask x then firmwareReady h x.item (finish ⟨h, 2, k, 0⟩ d)
        else if x.redispatched then finish ⟨h, 1, k, 0⟩ d else makeReady h { x with redispatched := true } d) d

/-- A record put into the event log in the Chest (R33, R602). (DEDUCED, log entry 120) -/
def logEvent (kind : LogKind) (value : Nat) (d : Dev) : Dev :=
  let (secs, ns, _) := ltSplit (ltNow d)
  { d with sec := { d.sec with log := ⟨kind, value, secs, ns⟩ :: d.sec.log } }

/-- A cluster held in reset until it is loaded again, with its tasks; off where its domain does not run (R529, R530). -/
def holdCluster (c : Nat) (d : Dev) : Dev :=
  let d := dropRunning c d
  modCluster c (fun _ => { state := if pdOn d (4 + c) then .loading else .off }) d

/-- A cluster restarts and its restart is logged with its cause: 1 the fault rule, 2 poison read, 3 the command, 4 a restart of the
Secretary (R33, R528, R531, R538, R545). -/
def restartCluster (c cause : Nat) (d : Dev) : Dev :=
  logEvent .clusterRestart (4 * cause + c) (count .clusterRestarts c (holdCluster c d))

/-- A core's task faults: the core is reset and idle, the task ends with status 1 (R537). -/
def coreFaults (k h : Nat) (d : Dev) : Dev :=
  finish ⟨h, 1, k, 0⟩ (modCore k (fun c => { c with busy := none }) (raise fBN_EVENT_FAULT 0 (count .taskFaults k d)))

/-- A read of poison in a cluster's area raises an exception in the core that read: one of those that run a task (R531).
(DESIGN CHOICE, log entry 189) -/
def readerFaults (c : Nat) (d : Dev) : Dev :=
  let ks := (busyCores d).filter (fun k => k / 4 == c)
  if ks.isEmpty then d
  else
    let (i, d) := nextFree d
    let k := ks.getD ((Config.freeWord i).toNat % ks.length) 0
    coreFaults k ((core d k).busy.getD 0) d

/-- The item of a poison read restarts a cluster that runs (R531). -/
def poisonRestart (c : Nat) (d : Dev) : Dev := if clusterUp d c then restartCluster c 2 d else d

/-- A core read poison in its cluster's area: the item names a poisoned line there, and the cluster restarts (R458, R465, R531).
(DEDUCED, log entry 174) -/
def corePoison (c : Nat) (d : Dev) : Dev :=
  let (i, d) := nextFree (raise fMC_EVENT_UE 0 (count .memPoisonReads 2 d))
  let l := (d.mc.poison.find? (fun l => areaCluster d l == some c)).getD
    (resolve d (partBase d 1 * 2 ^ 30 + c * 2 ^ 24 + 64 * ((Config.freeWord i).toNat % 262144)) / 64)
  poisonRestart c (poisonItem l d)

/-- A task faults: its core is reset, the task ends with status 1; the third fault within 1 s, or a read of poison, restarts
the cluster (R531, R537, R538). -/
def taskFault (k : Nat) (cause : TaskFaultCause) (d : Dev) : Dev :=
  match (core d k).busy with
  | none => d
  | some h =>
    match task d h with
    | none => d
    | some x =>
      if cause = .timeLimit ∧ d.now < x.startedAt + taskLimit x.ty then d
      else
        let d := coreFaults k h (if cause = .timeLimit then count .taskTimeFaults k d else d)
        let c := k / 4
        let recent := (d.now :: (cluster d c).faults).filter (fun t => decide (d.now < t + Config.sec))
        if cause = .poison then corePoison c d
        else if 3 ≤ recent.length then restartCluster c 1 d
        else modCluster c (fun x => { x with faults := recent }) d

/-- A write of BN_CANCEL: a dispatch that is due in this cycle goes first (R541). -/
def taskCancel (h : Nat) (d : Dev) : Dev :=
  let res := fun (r : BitVec 2) (d : Dev) => { d with sec := { d.sec with cancelResult := r } }
  if !pdOn d 3 then d
  else if !hostHandle d h then res 1 d
  else
    let d := dispatchReady d
    match task d h with
    | none => res 1 d
    | some x => if x.state = .running then res 3 d else res 0 (finish ⟨h, 2, 0, 0⟩ d)

/-- A write of BN_CTRL by the driver: AFFINITY_WINDOW is the Secretary's, and HOST_HANDLES stays while a host handle is live (R532,
R544). (DEDUCED, log entry 121) -/
def hostHandlesWrite (v : Word) (d : Dev) : Dev :=
  let old := fld d fBN_CTRL_HOST_HANDLES 0
  let live := d.sec.tasks.any (fun e => hostHandle d e.1)
  let window := fld d fBN_CTRL_AFFINITY_WINDOW 0
  let d := setFld fBN_CTRL_AFFINITY_WINDOW 0 window (storeWrite .bnCtrl 0 v d)
  if live then raise fBN_EVENT_ACC_REFUSED 0 (setFld fBN_CTRL_HOST_HANDLES 0 old d) else d

/-! ## Meanings -/

/-- TASK_SUBMIT (R534). -/
def execTaskSubmit (x : TaskDesc) (s : State) : Out := at_ x.t (taskSubmit x) s

/-- TASK_DISPATCH (R540). -/
def execTaskDispatch (t : Time) (s : State) : Out := at_ t dispatchAll s

/-- AFFINITY_WINDOW_EXPIRY (R540). -/
def execAffinityWindowExpiry (t : Time) (h : BitVec 12) (s : State) : Out := at_ t (affinityExpiry h.toNat) s

/-- TASK_FAULT (R537). -/
def execTaskFault (t : Time) (k : Fin 16) (cause : TaskFaultCause) (s : State) : Out := at_ t (taskFault k cause) s

/-- TASK_CANCEL (R541). -/
def execTaskCancel (t : Time) (h : BitVec 12) (s : State) : Out := at_ t (taskCancel h.toNat) s

/-- HOST_HANDLES_WRITE (R532). -/
def execHostHandlesWrite (v : Word) (s : State) : Out := onDev (hostHandlesWrite v) s

end Sys2Proof.Machine
end

