-- ==== Sys2Proof/Machine/Classification.lean ====
section
/-!
DEFINITION. Machine/Classification.lean: generation slots, the tree window, fragment timers and the tree scrubber (R269 to
R289): the meanings of their commands.
-/

namespace Sys2Proof.Machine

/-! ## Slots (R270 to R277) -/

/-- A slot's regions hold a word (R260). -/
def inRegion (d : Dev) (pipe k addr : Nat) : Bool :=
  !regionEmpty (region d pipe k) && decide ((region d pipe k).1 ≤ addr) && decide (addr ≤ (region d pipe k).2)

/-- Claim (R270, R271): 0x08 unless Free. -/
def slotClaim (path : Path) (k : Nat) (d : Dev) : Nat × Dev :=
  if (genSlot d k).state ≠ .free then (0x08, d)
  else
    let d := modSlot k (fun g => { g with state := .loading, owner := some path, gen := 0, slowRaised := false }) d
    (0, { d with cls := { d.cls with hits := d.cls.hits.filter (fun e => e.1 / 65536 % 4 != k) } })

/-- First failing word of a block or rule that lies outside the region or reads uncorrectable. -/
def sealWords (d : Dev) (pipe k addr n : Nat) : Except Nat (List Nat) :=
  if !(inRegion d pipe k addr && inRegion d pipe k (addr + n - 1)) then .error addr else treeWords d pipe addr n

/-- The rules a leaf names, each inside the region (R274). -/
def sealRules (d : Dev) (pipe k : Nat) : List Nat → Except Nat Unit
  | [] => .ok ()
  | p :: ps =>
    match sealWords d pipe k (8 * p) 8 with
    | .error a => .error a
    | .ok _ => sealRules d pipe k ps

/-- The seal's check from a block, with at most n nodes still allowed on the path (R274): the rules reached, or the first
failing word. -/
def sealFrom (d : Dev) (pipe k : Nat) : Nat → Nat → Bool → Except Nat (List Nat)
  | n, blk, leaf =>
    match sealWords d pipe k (4 * blk) 4 with
    | .error a => .error a
    | .ok b =>
      let w0 := b.getD 0 0
      if leaf then
        if bitsOf w0 47 44 > 8 then .error (4 * blk)
        else match sealRules d pipe k (leafPtrs b) with
          | .error a => .error a
          | .ok _ => .ok (leafPtrs b)
      else
        let cut := bitsOf w0 36 34
        match n with
        | 0 => .error (4 * blk)
        | n + 1 =>
          if cut = 0 ∨ cut = 7 then .error (4 * blk)
          else
            (List.range (2 ^ cut)).foldl (fun acc i =>
              match acc with
              | .error a => .error a
              | .ok rs =>
                let flag := if i < 48 then (b.getD 2 0).testBit i else (b.getD 3 0).testBit (i - 48)
                match sealFrom d pipe k n (bitsOf (b.getD 1 0) 17 0 + i) flag with
                | .error a => .error a
                | .ok rs' => .ok (rs ++ rs')) (.ok [])

/-- The seal's check of one pipeline's image (R274). An empty region has no image to check. (DEDUCED, log entry 76) -/
def sealPipe (d : Dev) (pipe k : Nat) : Except Nat Unit :=
  let base := (region d pipe k).1
  if regionEmpty (region d pipe k) then .ok ()
  else
    match sealWords d pipe k base 4 with
    | .error a => .error a
    | .ok h =>
      let root := fun i => sealFrom d pipe k 12 (bitsOf (h.getD i 0) 17 0) ((h.getD i 0).testBit 47)
      match root 0, root 1, sealRules d pipe k [bitsOf (h.getD 2 0) 16 0, bitsOf (h.getD 3 0) 16 0] with
      | .error a, _, _ => .error a
      | .ok _, .error a, _ => .error a
      | .ok _, .ok _, .error a => .error a
      | .ok r0, .ok r1, .ok _ =>
        match ((r0 ++ r1 ++ [bitsOf (h.getD 2 0) 16 0, bitsOf (h.getD 3 0) 16 0]).eraseDups).drop 65536 with
        | [] => .ok ()
        | p :: _ => .error (8 * p)

/-- Seal (R271, R274): 0x05 unless the owner seals a Loading slot whose images pass. -/
def slotSeal (path : Path) (k : Nat) (d : Dev) : Nat × Dev :=
  if (genSlot d k).state ≠ .loading ∨ (genSlot d k).owner ≠ some path then (0x05, d)
  else
    match (List.range d.part.pipes).findSome? (fun p =>
      match sealPipe d p k with
      | .ok _ => none
      | .error a => some (p, a)) with
    | some (p, a) => (0x05, modSlot k (fun g => { g with badPipe := p, badAddr := a }) d)
    | none => (0, modSlot k (fun g => { g with state := .ready }) d)

/-- Abandon (R270, R271): the owner's, or the L or S path's, of a Loading or Ready slot. -/
def slotAbandon (path : Path) (k : Nat) (d : Dev) : Nat × Dev :=
  let g := genSlot d k
  if (g.state = .loading ∨ g.state = .ready) ∧ (g.owner = some path ∨ path = .l ∨ path = .s) then
    (0, modSlot k (fun g => { g with state := .free, owner := none }) d)
  else (0x05, d)

/-- Evict (R277): 0x05 unless Draining. -/
def slotEvict (k : Nat) (d : Dev) : Nat × Dev :=
  if (genSlot d k).state = .draining then (0, modSlot k (fun g => { g with state := .evicting }) d) else (0x05, d)

/-- A slot made current (R275): the previous one becomes Draining, and Free at once where no copy is under it. -/
def makeCurrent (k : Nat) (d : Dev) : Nat × Dev :=
  if k > 3 ∨ (genSlot d k).state ≠ .ready then (0x05, d)
  else
    let old := currentSlot d
    let gen := d.cls.lastGen + 1
    let d := modSlot old (fun g => { g with state := .draining, drainingSince := d.now, slowRaised := false }) d
    let d := modSlot k (fun g => { g with state := .current, gen := gen }) d
    let d := { d with cls := { d.cls with lastGen := gen } }
    if (genSlot d old).drain = 0 then
      (0, raise fCL_EVENT_SLOT_FREE 0 (modSlot old (fun g => { g with state := .free, owner := none }) d))
    else (0, d)

/-- DRAIN_SLOW of a slot Draining for DRAIN_LIMIT, once (R277). -/
def drainSlow (k : Nat) (d : Dev) : Dev :=
  let g := genSlot d k
  if g.state = .draining ∧ ¬ g.slowRaised ∧ g.drainingSince + fld d fCL_CTRL_DRAIN_LIMIT 0 * Config.ms ≤ d.now then
    raise fCL_EVENT_DRAIN_SLOW 0 (modSlot k (fun g => { g with slowRaised := true }) d)
  else d

/-! ## The tree window (R273, R289) -/

/-- A path may write a tree word: it lies in a region of a Loading slot the path owns, and in no region that a packet may
walk (R273). (DEDUCED, log entry 75) -/
def treeWritable (d : Dev) (path : Path) (pipe addr : Nat) : Bool :=
  (List.range 4).any (fun k =>
    (genSlot d k).state == .loading && (genSlot d k).owner == some path && inRegion d pipe k addr) &&
  !(List.range 4).any (fun k =>
    (genSlot d k).state != .free && (genSlot d k).state != .loading && inRegion d pipe k addr)

/-- One tree word written, or refused and counted (R273); a written word reads good again. -/
def treeWrite (path : Path) (pipe addr : Nat) (w : Word) (d : Dev) : Bool × Dev :=
  if pipe < d.part.pipes ∧ addr < 2 ^ 20 ∧ treeWritable d path pipe addr then
    (true, { d with cls := { d.cls with
      tree := aputD d.cls.tree (treeKey pipe addr) w 0,
      treeBad := d.cls.treeBad.filter (· != treeKey pipe addr) } })
  else (false, count .winRefused 0 d)

/-- CL_WIN_DATA written (R273, R289): the address rises after each data write. -/
def windowWrite (w : Word) (d : Dev) : Dev :=
  let a := fld d fCL_WIN_ADDR_ADDR 0
  let (ok, d) := treeWrite .l (fld d fCL_WIN_ADDR_PIPE 0) a w d
  let d := if ok then d else setFld fCL_WIN_STATUS_REFUSED 0 1 d
  setFld fCL_WIN_ADDR_ADDR 0 (a + 1) d

/-- CL_WIN_STATUS read: REFUSED is answered and cleared (R289). -/
def windowStatusRead (d : Dev) : Dev :=
  let v := reg d .clWinStatus 0
  emit (.barRead (regOffset .clWinStatus 0) v) (setFld fCL_WIN_STATUS_REFUSED 0 0 d)

/-- One word read by the tree scrubber (R269). -/
def treeScrub (pipe addr : Nat) (e : EccResult) (d : Dev) : Dev :=
  if e = .uncorrectable ∧ pipe < d.part.pipes then
    let k := ((List.range 4).find? (fun k => inRegion d pipe k addr)).getD 0
    treeEcc pipe k addr { d with cls := { d.cls with treeBad := (treeKey pipe addr :: d.cls.treeBad).eraseDups } }
  else d

/-! ## Fragment timers (R284, R285) -/

/-- Fragments held for HOLD_TIME receive the overflow action (R284). -/
def holdTimeout (pipe : Nat) (d : Dev) : Dev :=
  let l := holdBuffer d pipe
  let old := fun (h : HeldFrag) => decide (h.since + fld d fCL_FRAG_CTRL_HOLD_TIME pipe * Config.us ≤ d.now)
  let d := setHoldBuffer pipe (l.filter (fun h => !old h)) d
  (l.filter old).foldl (fun d h =>
    if evicted d h.pkt.slot then replayDone h.pkt (dropCopy h.pkt (count .evictedCopies 0 d))
    else fragOverflow h.pkt (keyOf (fld d fCL_CTRL_TPID3 0) h.pkt) (count .fragTimeouts pipe d)) d

/-- Expired fragment entries leave the table (R285). -/
def fragExpiry (pipe : Nat) (d : Dev) : Dev := setFrags pipe (liveFrags d pipe) d

/-! ## Meanings -/

/-- FRAGMENT_HOLD_TIMEOUT (R284). -/
def execFragmentHoldTimeout (t : Time) (pipe : Fin 4) (s : State) : Out := at_ t (holdTimeout pipe) s

/-- FRAGMENT_ENTRY_EXPIRY (R285). -/
def execFragmentEntryExpiry (t : Time) (pipe : Fin 4) (s : State) : Out := at_ t (fragExpiry pipe) s

/-- DRAIN_SLOW (R277). -/
def execDrainSlow (t : Time) (k : Fin 4) (s : State) : Out := at_ t (drainSlow k) s

/-- WINDOW_DATA_WRITE (R273). -/
def execWindowDataWrite (w : Word) (s : State) : Out := onDev (fun d => windowWrite w (idleExit d)) s

/-- WINDOW_STATUS_READ (R289). -/
def execWindowStatusRead (s : State) : Out := onDev (fun d => windowStatusRead (idleExit d)) s

/-- TREE_SCRUB (R269). -/
def execTreeScrub (pipe : Fin 4) (addr : BitVec 20) (e : EccResult) (s : State) : Out :=
  onDev (fun d => treeScrub pipe addr.toNat e (idleExit d)) s

end Sys2Proof.Machine
end

