-- ==== Sys2Proof/Machine/EntryTable.lean ====
section
/-!
DEFINITION. Machine/EntryTable.lean: the entries of the object dictionary, as the chapters' entry tables list them
(R79, R98, R124, R158, R191, R190, R221, R253, R292, R325, R357, R385, R414, R442, R466, R503 to R506, R545, R572, R599,
R622): type, rights, kind, persistence, default, range, and the register fields that an entry sets.
-/

namespace Sys2Proof.Machine

/-- Types of R498. -/
inductive EType where
  | bool | u8 | u16 | u32 | w48 | s48 | time
  | octets (n : Nat)
  | string (n : Nat)
deriving DecidableEq, Repr

/-- Code of a type (R498). -/
def EType.code : EType → Nat
  | .bool => 1
  | .u8 => 2
  | .u16 => 3
  | .u32 => 4
  | .w48 => 5
  | .s48 => 6
  | .time => 7
  | .octets _ => 8
  | .string _ => 9

/-- Bytes of a value, the most for a string (R498). -/
def EType.size : EType → Nat
  | .bool => 1
  | .u8 => 1
  | .u16 => 2
  | .u32 => 4
  | .w48 => 6
  | .s48 => 6
  | .time => 10
  | .octets n => n
  | .string n => n

/-- Kinds of R497. -/
inductive EKind where
  | config | status | command
deriving DecidableEq, Repr

/-- Persistence classes of R501. -/
inductive Pers where
  | volatile | persistent | factory
deriving DecidableEq, Repr

/-- The unit that an entry belongs to, for R6. -/
inductive EUnit where
  | always | channel | port | pipe | sideboard | sbPort | trib | stack | dqueue
deriving DecidableEq, Repr

/-- A row of an entry table: a grid of entries of one shape, `subs` of them at each of `indexes` successive indexes, the
subindexes `step` apart. -/
structure EntryDef where
  index : Nat
  sub : Nat
  ty : EType
  /-- Rights of H, L, S as three decimal digits: 0 none, 1 read, 2 read-write, 3 write-once. -/
  rights : Nat := 111
  kind : EKind := .status
  pers : Pers := .volatile
  dflt : Int := 0
  range : Option (Int × Int) := none
  /-- Register fields it sets (R79), at the instance that is the entry's place in the grid. -/
  dest : List Fld := []
  indexes : Nat := 1
  subs : Nat := 1
  step : Nat := 1
  unit : EUnit := .always
deriving DecidableEq, Repr

namespace Entry

/-- A persistent configuration entry with a range. -/
def pers (i s : Nat) (ty : EType) (r : Nat) (d lo hi : Int) (dest : List Fld := []) : EntryDef :=
  { index := i, sub := s, ty := ty, rights := r, kind := .config, pers := .persistent, dflt := d,
    range := some (lo, hi), dest := dest }

/-- A persistent configuration entry that takes every value of its type. -/
def persAll (i s : Nat) (ty : EType) (r : Nat) (d : Int) (dest : List Fld := []) : EntryDef :=
  { index := i, sub := s, ty := ty, rights := r, kind := .config, pers := .persistent, dflt := d, dest := dest }

/-- A volatile configuration entry. -/
def vol (i s : Nat) (ty : EType) (r : Nat) (d : Int) (range : Option (Int × Int) := none) (dest : List Fld := []) :
    EntryDef :=
  { index := i, sub := s, ty := ty, rights := r, kind := .config, dflt := d, range := range, dest := dest }

/-- A command entry. -/
def cmd (i s : Nat) (ty : EType) (r : Nat) (range : Option (Int × Int) := none) : EntryDef :=
  { index := i, sub := s, ty := ty, rights := r, kind := .command, range := range }

/-- A status entry. -/
def stat (i s : Nat) (ty : EType) (p : Pers := .volatile) : EntryDef := { index := i, sub := s, ty := ty, pers := p }

/-- An entry of the factory. -/
def fac (i s : Nat) (ty : EType) : EntryDef := { index := i, sub := s, ty := ty, pers := .factory }

/-- The row laid over a grid. -/
def grid (n m k : Nat) (u : EUnit) (e : EntryDef) : EntryDef := { e with indexes := n, subs := m, step := k, unit := u }

/-- The row at n successive indexes. -/
def each (n : Nat) (u : EUnit) (e : EntryDef) : EntryDef := grid n 1 1 u e

/-- The row of a unit. -/
def of (u : EUnit) (e : EntryDef) : EntryDef := { e with unit := u }

/-- Line: R79, R80, R81, R98, R124, R158, R190, R191. -/
def line : List EntryDef :=
  [persAll 0x2100 1 .bool 122 0 [fPROT_CTRL_ENABLE],
   pers 0x2100 2 .u16 222 16 0 400 [fPROT_CTRL_HOLDOFF],
   pers 0x2100 3 .u8 122 8 0 80 [fPROT_CTRL_SETTLE],
   persAll 0x2100 4 .bool 222 0 [fPROT_CTRL_LOCKOUT],
   persAll 0x2100 5 .bool 222 0 [fPROT_CTRL_SD_TRIG],
   stat 0x2100 6 .u8 .persistent,
   pers 0x2101 1 .u8 222 2 1 7 [fLC_CTRL_ALIGN_N],
   pers 0x2101 2 .u8 222 4 1 15 [fLC_CTRL_ALIGN_M],
   pers 0x2101 3 .u16 222 20 1 19528 [fLC_SD_SD_THRESH],
   grid 1 16 1 .channel (persAll 0x2102 1 .bool 122 1 [fLC_CTRL_ENABLE]),
   pers 0x2300 1 .u16 222 2000 125 2000 [fBOND_CTRL_WINDOW],
   pers 0x2300 2 .u8 122 8 1 32 [fBOND_CTRL_POOL],
   pers 0x2300 3 .u8 222 1 1 3 [fBOND_CTRL_DELIN_D],
   persAll 0x2300 4 .w48 221 0x800000000000] ++
  [stat 0x2000 1 .u8, stat 0x2000 2 .u16, stat 0x2000 3 .u8, fac 0x2000 4 (.octets 8), stat 0x2000 5 .u32,
   stat 0x2000 6 .u32,
   pers 0x2000 7 .u16 222 10000 100 60000 [fACT_CTRL_RANGING_TIMER],
   pers 0x2000 8 .u16 222 250 1 10000 [fACT_CTRL_LOSS_TIMER],
   persAll 0x2000 9 .bool 122 0 [fACT_CTRL_INHIBIT],
   stat 0x2000 0xA .u16, stat 0x2000 0xB .bool .persistent,
   pers 0x2200 1 .u8 222 30 25 90 [fLE_FILL_FILL_LEAD],
   pers 0x2200 2 .u8 222 10 4 64 [fLE_FILL_FRAG_MIN]] ++
  [vol 0x2400 1 .u16 211 0 (some (0, 0xFFEF)), vol 0x2400 2 .bool 211 0, vol 0x2400 3 .u8 211 1 (some (1, 3)),
   vol 0x2400 4 .bool 211 1, vol 0x2400 5 .u8 211 0 (some (0, 63)), vol 0x2400 6 .u8 221 0 (some (0, 3)),
   vol 0x2400 7 .u8 211 0 (some (0, 2))].map (grid 2048 4 16 .always) ++
  [vol 0x2C00 1 .u16 211 0 (some (0x200, 0x3FFE)), vol 0x2C00 2 .bool 211 0,
   vol 0x2C00 3 .u8 211 0 (some (0, 1))].map (grid 128 4 16 .always)

/-- Firescreen (R221) and drop ports (R253). -/
def firePorts : List EntryDef :=
  [pers 0xC000 1 .u8 122 50 0 255, pers 0xC000 2 .u8 122 4 1 15, persAll 0xC000 3 .bool 122 0,
   cmd 0xC000 4 .u32 22, stat 0xC000 5 .u32, stat 0xC000 6 .u8] ++
  [pers 0xC010 1 .u8 112 0x50 0x08 0x77, persAll 0xC010 2 .u16 112 0, persAll 0xC010 3 .u16 112 0,
   persAll 0xC010 4 .u16 112 0, persAll 0xC010 5 .u16 112 0, persAll 0xC010 6 .u16 112 0].map (each 16 .channel) ++
  [persAll 0x3000 1 .bool 122 0 [fDP_CTRL_ENABLE],
   pers 0x3000 2 .u8 122 100 10 100 [fDP_CTRL_SPEED],
   pers 0x3000 3 .u8 122 0 0 3 [fDP_CTRL_IFTYPE],
   pers 0x3000 4 .u8 122 0 0 1 [fDP_CTRL_FEC],
   pers 0x3000 5 .u16 122 9216 1518 16352 [fDP_FRAME_MAX_FRAME],
   persAll 0x3000 6 .bool 122 0 [fDP_MAC_OVERSIZE_TO_HOST],
   persAll 0x3000 7 .bool 122 0 [fDP_MAC_FC_RX],
   persAll 0x3000 8 .bool 122 0 [fDP_MAC_FC_TX],
   persAll 0x3000 9 .bool 122 0 [fDP_MAC_PFC_MODE],
   persAll 0x3000 0xA .u8 122 0xFF [fDP_MAC_PFC_TX_MASK],
   persAll 0x3000 0xB .u16 122 32768 [fDP_FC_XOFF_THRESH],
   persAll 0x3000 0xC .u16 122 16384 [fDP_FC_XON_THRESH],
   persAll 0x3000 0xD .u16 122 0xFFFF [fDP_FC_TX_QUANTA],
   pers 0x3000 0xE .u16 122 3000 100 12000 [fDP_TRAIN_TRAIN_TIMEOUT],
   stat 0x3000 0xF .u8].map (each 96 .port)

/-- Classification (R292) and forwarding (R325). -/
def packets : List EntryDef :=
  [vol 0x4000 1 .u8 222 0 (some (0, 3)), stat 0x4000 2 .w48, persAll 0x4000 3 .bool 122 1,
   pers 0x4000 4 .u16 222 1000 10 60000 [fCL_CTRL_DRAIN_LIMIT], persAll 0x4000 5 .u16 122 0x9100 [fCL_CTRL_TPID3]] ++
  [cmd 0x4001 1 .u8 222 (some (1, 4)), stat 0x4001 2 .u8, stat 0x4001 3 .u8, stat 0x4001 4 .w48, stat 0x4001 5 .w48,
   stat 0x4001 6 .u32].map (each 4 .always) ++
  [grid 4 4 2 .pipe (vol 0x4008 1 .u32 222 0 none [fCL_REGION_BASE_BASE]),
   grid 4 4 2 .pipe (vol 0x4008 2 .u32 222 0 none [fCL_REGION_LIMIT_LIMIT]),
   vol 0x400C 1 .u8 222 0 (some (0, 3)), vol 0x400C 2 .u32 222 0 (some (0, 0xFFFFF)), vol 0x400C 3 (.octets 384) 222 0] ++
  [pers 0x4010 1 .u8 222 0 0 2 [fCL_FRAG_CTRL_PENDING], pers 0x4010 2 .u8 222 2 1 2 [fCL_FRAG_CTRL_OVERFLOW],
   pers 0x4010 3 .u16 222 2000 100 30000 [fCL_FRAG_CTRL_EXPIRY],
   pers 0x4010 4 .u16 222 1000 10 10000 [fCL_FRAG_CTRL_HOLD_TIME]].map (each 4 .pipe) ++
  [pers 0x4020 1 .u16 222 300 1 3600 [fFW_CTRL_AGE_PERIOD], persAll 0x4020 2 .bool 122 1 [fFW_CTRL_AGE_EN],
   pers 0x4020 3 .u32 122 1000 10 1000000 [fFW_LEARN_LF_HOLD],
   pers 0x4020 4 .u32 122 0 0 0x1FFFF [fFW_HASH_SEED0], pers 0x4020 5 .u32 122 0x15555 0 0x1FFFF [fFW_HASH_SEED1],
   stat 0x4020 6 .u32] ++
  [pers 0x4100 1 .u8 222 0 0 1, pers 0x4100 2 .u16 222 0 0 4095, persAll 0x4100 3 (.octets 6) 222 0,
   pers 0x4100 4 .u8 222 0 0 1].map (grid 256 16 16 .always)

/-- The six settings of a queue (R357). -/
def queueRows (base r n : Nat) (u : EUnit) : List EntryDef :=
  [pers base 1 .u16 r 1 1 1023, pers base 2 .u8 r 5 0 7, pers base 3 .u16 r 0 0 1023, persAll base 4 .bool r 0,
   pers base 5 .u32 r 4000000 1 4000000, pers base 6 .u32 r 65536 1 16777215, stat base 7 .w48].map (grid n 16 16 u)

/-- The five settings of a node (R331, R357). -/
def nodeRows (base r n queues : Nat) (u : EUnit) : List EntryDef :=
  [pers base 1 .u8 r 4 0 4, pers base 2 .u8 r queues 1 queues, persAll base 3 .bool r 0,
   pers base 4 .u32 r 4000000 1 4000000, pers base 5 .u32 r 65536 1 16777215].map (grid n 16 16 u)

/-- Queues, meters, shapers and the Wardrobe (R357). -/
def traffic : List EntryDef :=
  nodeRows 0x5010 122 6 64 .port ++ nodeRows 0x5020 222 32 32 .always ++
  [grid 32 16 16 .always (pers 0x5020 6 .u32 222 1024 0 65536), grid 32 16 16 .always (stat 0x5020 7 .u32)] ++
  queueRows 0x5100 122 384 .dqueue ++ queueRows 0x5400 222 1024 .always ++
  [persAll 0x5300 1 (.octets 12) 122 0, persAll 0x5300 2 .bool 122 0, persAll 0x5300 3 .bool 122 0].map
    (grid 256 16 16 .always) ++
  [persAll 0x5800 1 .u32 222 0xFFFFFFFF, pers 0x5800 2 .u16 222 65535 1 65535, persAll 0x5800 3 .u32 222 0xFFFFFFFF,
   pers 0x5800 4 .u16 222 65535 1 65535, persAll 0x5800 5 .bool 222 0, pers 0x5800 6 .u8 222 0 0 2,
   pers 0x5800 7 .u8 222 1 0 1].map (grid 2048 16 16 .always) ++
  [pers 0x5000 1 .u32 122 1000 20 1000000 [fTM_CTRL_SAMPLE_PERIOD],
   grid 8 128 1 .always (persAll 0x5280 1 .u16 122 0xFFFF),
   pers 0x9200 1 .u8 122 2 1 16 [fWD_CTRL_READ_AHEAD], stat 0x9200 2 .u32, stat 0x9200 3 .u32]

/-- Sideboard (R385), tributaries and overhead (R414). -/
def recallOn : List EntryDef :=
  [pers 0x9300 1 .u8 222 5 1 60 [fSB_CTRL_IDLE_TIME], pers 0x9300 2 .u8 222 10 1 60 [fSB_CTRL_CATCHUP_LIMIT],
   pers 0x9300 3 .u16 222 100 1 1000 [fSB_CTRL_SPLICE_LIMIT],
   pers 0x9300 4 .u32 222 65536 1024 1048576 [fSB_REPAIR_REPAIR_DEPTH],
   persAll 0x9300 5 (.octets 6) 222 0x02504C000000 [fSB_MAC_REPAIR_MAC],
   cmd 0x9301 1 .u32 222, stat 0x9301 2 .u8].map (of .sideboard) ++
  [persAll 0x9380 1 .bool 122 0, persAll 0x9380 2 .bool 122 0, persAll 0x9380 3 .bool 122 0,
   pers 0x9380 4 .u32 122 10000 0 1000000].map (grid 6 16 16 .sbPort) ++
  [vol 0x9400 1 .bool 221 0, vol 0x9400 2 .u16 221 0 (some (0, 8191)), vol 0x9400 3 .u32 221 0,
   vol 0x9400 4 (.octets 16) 221 0, vol 0x9400 5 .u16 221 16 (some (0, 16384)), vol 0x9400 6 .u8 221 4 (some (1, 4)),
   vol 0x9400 7 .u8 221 0 (some (0, 252)), vol 0x9400 8 .u8 221 0 (some (0, 32)), stat 0x9400 9 (.octets 12),
   stat 0x9400 0xA .u32, stat 0x9400 0xB .bool].map (grid 256 4 16 .sideboard) ++
  [persAll 0x8000 1 .bool 122 0 [fTR_CTRL_HIGHWAY], persAll 0x8000 2 .u8 122 0xD5 [fTR_CTRL_IDLE_CODE],
   cmd 0x8000 3 .u8 22 (some (1, 2)), stat 0x8000 4 .u8].map (of .trib) ++
  [grid 1 4 1 .always (persAll 0x8001 1 .bool 222 0)] ++
  [pers 0x8010 1 .u8 222 0 0 2 [fTB_CFG_KIND], vol 0x8010 2 .bool 222 0 none [fTB_CFG_FORCE_AIS],
   vol 0x8010 3 .bool 222 0 none [fTB_CFG_TEST], stat 0x8010 4 .u8].map (grid 2 16 16 .trib) ++
  [grid 8 128 1 .trib (vol 0x8020 1 .u16 122 0), grid 8 128 1 .trib (stat 0x8028 1 .u16 .persistent)]

/-- Time (R442), memory (R466), power (R572). -/
def services : List EntryDef :=
  [stat 0x6000 1 .time, stat 0x6000 2 .bool, stat 0x6000 3 .u8, pers 0x6000 4 .u8 122 0 0 2 [fLT_CTRL_SOURCE],
   vol 0x6000 5 .u32 211 0, persAll 0x6000 6 .u32 211 0x800000, persAll 0x6000 7 .s48 211 0,
   pers 0x6000 8 .u8 122 2 0 8 [fLT_SERVO_KP_SHIFT], pers 0x6000 9 .u8 122 6 0 16 [fLT_SERVO_KI_SHIFT],
   pers 0x6000 0xA .u32 122 1000 100 100000 [fLT_SERVO_MAX_SLEW],
   pers 0x6000 0xB .u32 122 1000 20 1000000 [fLT_SERVO_STEP_THRESH],
   pers 0x6000 0xC .u8 222 4 1 60 [fLT_CTRL_OFFSET_TIMEOUT], persAll 0x6000 0xD .bool 122 0 [fLT_CTRL_PPS_EN],
   pers 0x6000 0xE .u32 122 10000 1 500000 [fLT_PPS_PPS_WIDTH],
   pers 0x6000 0xF .s48 122 0 (-10000) 10000 [fLT_PPS_PPS_DELAY], persAll 0x6000 0x10 .bool 122 0 [fLT_CTRL_TOD_EN],
   pers 0x6001 1 .u8 122 0 0 127, persAll 0x6001 2 .u8 122 128, pers 0x6001 3 .s48 122 (-4) (-7) 1,
   each 16 .channel (persAll 0x6010 1 .u32 122 0), each 16 .channel (persAll 0x6010 2 .u32 122 0),
   each 96 .port (persAll 0x6100 1 .bool 122 0 [fLT_PTP_PTP_EN]),
   each 96 .port (persAll 0x6100 2 .bool 122 1 [fLT_PTP_TASK])] ++
  [pers 0x9000 1 .u8 122 64 0 64, pers 0x9000 2 .u8 122 48 0 48, pers 0x9000 3 .u8 122 6 0 16, pers 0x9000 4 .u8 122 12 8 16,
   persAll 0x9000 5 .u32 122 0 [fMC_CE_LIMIT_CE_LIMIT], stat 0x9001 1 .u8, stat 0x9001 2 .u8, stat 0x9001 3 .u8,
   stat 0x9001 4 .u8, stat 0x9001 5 .u8 .persistent, stat 0x9001 6 .u8 .persistent,
   grid 1 5 2 .always (pers 0x9010 1 .u16 122 0 0 26200 [fMC_REG_GUARANTEE]),
   grid 1 5 2 .always (pers 0x9010 2 .u16 122 0 0 26200 [fMC_REG_LIMIT]),
   grid 5 4 1 .stack (stat 0x9020 1 .u8 .persistent)] ++
  [cmd 0x7000 1 .u8 22 (some (1, 5)), pers 0x7000 2 .u32 122 3600 1 86400, stat 0x7000 3 .u8, stat 0x7001 1 .u8,
   stat 0x7001 2 .u8, stat 0x7001 3 .u8, stat 0x7001 4 .u32 .persistent, stat 0x7001 5 (.octets 50),
   persAll 0x7002 1 .bool 122 1 [fPW_CFG_IDLE_EN], pers 0x7002 2 .u16 122 100 10 10000 [fPW_CFG_IDLE_AFTER],
   pers 0x7002 3 .u8 122 0 0 11 [fPW_LL_LL_GROUP], pers 0x7002 4 .u8 122 0 0 3 [fPW_LL_LL_CLUSTER],
   pers 0x7002 5 .u16 122 100 0 10000 [fPW_LL_LL_HOLD], pers 0x7002 6 .u16 122 10 1 600 [fPW_LL_LL_RESTORE],
   persAll 0x7002 7 .bool 122 0 [fPW_CFG_AUTO_DEEP], pers 0x7002 8 .u16 122 60 1 3600 [fPW_TIMERS_LOSS_DELAY],
   pers 0x7002 9 .u16 122 600 10 3600 [fPW_TIMERS_LINE_RETRY], pers 0x7002 0xA .u8 122 2 1 60 [fPW_TIMERS_WAKE_MARGIN],
   pers 0x7002 0xB .u16 122 50 1 1000 [fPW_TIMERS_NOTICE_WAIT],
   each 5 .always (persAll 0x7010 1 .u8 122 0xFF), each 5 .always (persAll 0x7010 2 .u8 122 0),
   each 5 .always (persAll 0x7010 3 .u8 122 0)]

/-- Identity, capabilities, global entries and the Secretary (R504 to R506, R545), operator storage (R503). -/
def globals : List EntryDef :=
  [fac 0x1000 1 (.string 16), fac 0x1000 2 .u16, fac 0x1000 3 .u8, fac 0x1000 4 .u16, fac 0x1000 5 (.octets 8),
   fac 0x1000 6 .time, fac 0x1000 7 .u32, stat 0x1000 8 .u32, stat 0x1000 9 .u16, fac 0x1000 0xA .u16,
   persAll 0x1000 0xB (.string 64) 222 0, persAll 0x1000 0xC (.string 32) 133 0] ++
  [fac 0x1100 1 .u16, fac 0x1100 2 (.octets 12), fac 0x1100 3 .u8, fac 0x1100 4 .u8, fac 0x1100 5 .bool,
   fac 0x1100 6 .bool, fac 0x1100 7 .bool, fac 0x1100 8 .u8, fac 0x1100 9 .u8, fac 0x1100 0xA (.octets 7),
   fac 0x1100 0xB .u8, fac 0x1101 1 .u16, fac 0x1101 2 .u16, fac 0x1101 3 .u16, fac 0x1101 4 .u16, fac 0x1101 5 .u32,
   fac 0x1101 6 .u32, fac 0x1101 7 .u16, fac 0x1101 8 .u16, fac 0x1101 9 .u8, fac 0x1101 0xA .u8] ++
  [stat 0x1800 1 .w48, stat 0x1800 2 .w48 .persistent, pers 0x1800 3 .u16 122 60 10 3600, stat 0x1800 4 .u8,
   cmd 0x1800 5 .u16 22 (some (0x0DEF, 0x0DEF)), grid 1 3 1 .always (stat 0x1801 1 .u8),
   grid 1 3 1 .always (stat 0x1801 4 .w48),
   pers 0x1900 1 .u16 122 2000 0 65535 [fBN_CTRL_AFFINITY_WINDOW], stat 0x1900 2 .u16, stat 0x1900 3 .u8,
   cmd 0x1900 4 .u8 22 (some (1, 4)), cmd 0x1900 5 .u16 22 (some (0x05EC, 0x05EC)),
   grid 4096 16 1 .always (persAll 0xF000 1 (.octets 256) 222 0)]

/-- Counters, monitors, the Cabinet (R578, R588, R599), images and the service port (R622). -/
def records : List EntryDef :=
  [pers 0xA000 1 .u32 122 1000 100 1000000 [fCN_CTRL_MIRROR_PERIOD], vol 0xA010 1 .time 222 0,
   vol 0xA010 2 (.octets 30) 222 0, vol 0xA010 3 .u8 222 0 (some (0, 3)), cmd 0xA010 4 .u8 222 (some (1, 2)),
   stat 0xA010 5 .w48, stat 0xA010 6 .u8,
   pers 0xA020 1 .u8 122 100 70 105 [fTH_CFG_TEMP_WARN], pers 0xA020 2 .u8 122 110 106 118 [fTH_CFG_TEMP_LIMIT],
   pers 0xA020 3 .u8 122 95 80 100 [fTH_CFG_HBM_WARN], pers 0xA020 4 .u8 122 105 95 110 [fTH_CFG_HBM_LIMIT],
   each 8 .always (persAll 0xA030 1 .u16 122 0 [fTH_VWIN_LOW]), each 8 .always (persAll 0xA030 2 .u16 122 0 [fTH_VWIN_HIGH]),
   grid 1 16 1 .always (stat 0xA040 1 .s48), grid 1 5 1 .stack (stat 0xA041 1 .u8), grid 1 8 1 .always (stat 0xA042 1 .u16),
   stat 0xA043 1 .w48 .persistent,
   each 256 .always (fac 0xA100 1 (.string 24)), each 256 .always (fac 0xA100 2 .u32), each 256 .always (fac 0xA100 3 .u16),
   each 256 .always (fac 0xA100 4 .u16), each 256 .always (fac 0xA100 5 .u8), each 256 .always (fac 0xA100 6 .u8),
   grid 256 239 1 .always (fac 0xA100 0x10 (.string 24)),
   grid 960 128 1 .always (stat 0xA200 1 .w48), grid 960 128 1 .always (stat 0xA600 1 .w48)] ++
  [stat 0xB000 1 .u8 .persistent, stat 0xB000 2 .bool .persistent, stat 0xB000 3 .u16, cmd 0xB000 4 .u8 222 (some (1, 1)),
   persAll 0xB000 5 .bool 122 0, stat 0xB000 6 .u8 .persistent, stat 0xB000 7 .u32 .persistent,
   stat 0xB000 8 .u16 .persistent, stat 0xB000 9 .u16 .persistent] ++
  [stat 0xB001 1 .u8 .persistent, stat 0xB001 2 .u32 .persistent, stat 0xB001 3 .u16 .persistent,
   stat 0xB001 4 .u32 .persistent, stat 0xB001 5 .time .persistent].map (each 2 .always) ++
  [vol 0xB010 1 .time 222 0, vol 0xB010 2 .u8 222 0 (some (0, 1)), cmd 0xB010 3 .u8 222 (some (1, 2)), stat 0xB010 4 .u8,
   stat 0xB010 5 .u8,
   pers 0xB100 1 .u8 122 0 0 1, persAll 0xB100 2 .u32 122 0, pers 0xB100 3 .u8 122 24 0 32,
   persAll 0xB100 4 (.octets 16) 122 0, pers 0xB100 5 .u8 122 64 0 128, cmd 0xB100 6 (.octets 32) 222,
   stat 0xB100 7 .bool .persistent, stat 0xB100 8 .u8, pers 0xB100 9 .u16 122 60 10 3600,
   stat 0xB200 1 .w48 .persistent, vol 0xB200 2 .w48 222 0, stat 0xB200 3 (.octets 64)]

/-- Every row of the dictionary. -/
def table : List EntryDef := line ++ firePorts ++ packets ++ traffic ++ recallOn ++ services ++ globals ++ records

end Entry

/-- An address lies on the row's grid. -/
def EntryDef.covers (e : EntryDef) (index sub : Nat) : Bool :=
  decide (e.index ≤ index) && decide (index < e.index + e.indexes) && decide (e.sub ≤ sub) &&
    (sub - e.sub) % e.step == 0 && decide ((sub - e.sub) / e.step < e.subs)

/-- The entry's place in the grid. -/
def EntryDef.item (e : EntryDef) (index sub : Nat) : Nat := (index - e.index) * e.subs + (sub - e.sub) / e.step

/-- The row of an address. -/
def entryDef (index sub : Nat) : Option EntryDef := Entry.table.find? (fun e => e.covers index sub)

/-- The highest subindex that the tables give an index. -/
def highestSub (index : Nat) : Nat :=
  Entry.table.foldl (fun a e =>
    if e.index ≤ index ∧ index < e.index + e.indexes then max a (e.sub + e.step * (e.subs - 1)) else a) 0

/-- Right of a path: 0 none, 1 read, 2 read-write, 3 write-once (R500). -/
def EntryDef.right (e : EntryDef) : Path → Nat
  | .h => e.rights / 100
  | .l => e.rights / 10 % 10
  | .s => e.rights % 10

/-- Persistent entries that restore-defaults leaves alone: operator storage (R506). -/
def keptAtDefaults (index : Nat) : Bool := decide (0xF000 ≤ index)

/-- Value bytes of a number in a type (R498). -/
def encodeInt (ty : EType) (v : Int) : List Byte :=
  match ty with
  | .string _ => []
  | ty => natToBytes ty.size (v % 2 ^ (8 * ty.size)).toNat

/-- A row's number from value bytes: two's complement for S48. -/
def decodeInt (ty : EType) (bs : List Byte) : Int :=
  match ty with
  | .s48 => (BitVec.ofNat 48 (bytesToNat bs)).toInt
  | _ => (bytesToNat bs : Int)

/-- The default of an entry, by part and place (R453, R466, R595). -/
def EntryDef.default (e : EntryDef) (p : Part) (item : Nat) : Int :=
  let az48 := p == .az4808
  if e.index = 0x9010 then (if e.sub = 1 then (mcRegReset item).1 else (mcRegReset item).2 : Nat)
  else if e.index = 0xA030 then (if e.sub = 1 then (vwinReset item).1 else (vwinReset item).2 : Nat)
  else if e.index = 0x9000 ∧ e.sub = 1 ∧ az48 then 48
  else if e.index = 0x9000 ∧ e.sub = 2 ∧ az48 then 0
  else e.dflt

/-- The part lacks the unit of an entry (R6). -/
def EntryDef.absent (e : EntryDef) (p : Part) (item : Nat) : Bool :=
  match e.unit with
  | .always => false
  | .channel => decide (p.channels ≤ item)
  | .port => decide (p.ports ≤ item)
  | .pipe => decide (p.pipes ≤ item / e.subs)
  | .sideboard => !p.hasSideboard
  | .sbPort => !p.hasSideboard || decide (p.ports ≤ item)
  | .trib => !p.hasTributaries
  | .stack => decide (p.stacks ≤ item / (if e.indexes = 1 then 1 else e.subs)) &&
      decide (item / (if e.indexes = 1 then 1 else e.subs) < 4)
  | .dqueue => decide (p.ports ≤ item / 64)

end Sys2Proof.Machine
end

