-- ==== Sys2Proof/Machine/Firescreen.lean ====
section
/-!
DEFINITION. Machine/Firescreen.lean: the Firescreen's own view, windows, gate, trips and release, and the commands of
06_firescreen.md.
-/

namespace Sys2Proof.Machine

/-! ## State access and outputs -/

/-- A channel changed. -/
def modFs (n : Nat) (f : FsChan → FsChan) (d : Dev) : Dev :=
  { d with fs := { d.fs with chans := aputD d.fs.chans n (f (fsChan d n)) {} } }

/-- Every kill output is asserted: stopped by a failure, or not yet released after a start (R209, R633). -/
def killBase (d : Dev) : Bool := d.fs.undriven || d.fs.failDark || d.fs.killsHeld

/-- LCn_TXKILL and FS_ALLKILL as driven (R206, R209). -/
def txKillOn (d : Dev) (n : Nat) : Bool := killBase d || decide (2 ≤ (fsChan d n).stage)
def allKillOn (d : Dev) : Bool := killBase d || (presentChans d).any (fun n => (fsChan d n).stage == 3)

/-- A change of the Firescreen, with the kill outputs that change by it. -/
def fsDrive (f : Dev → Dev) (d0 : Dev) : Dev :=
  let d := f d0
  let d := (presentChans d).foldl (fun x n =>
    if txKillOn d0 n = txKillOn d n then x else emit (.txKill n (txKillOn d n)) x) d
  if allKillOn d0 = allKillOn d then d else emit (.allKill (allKillOn d)) d

/-- LCn_BEN low at once; a burst under way is cut (R181, R206). -/
def forceLow (n : Nat) (d : Dev) : Dev :=
  if (fsChan d n).ben then
    cutBurst n (emit (.ben n false d.now) (modFs n (fun c => { c with ben := false, passed := false }) d))
  else d

/-- Every channel dark at once. -/
def forceAllLow (d : Dev) : Dev := (presentChans d).foldl (fun d n => forceLow n d) d

/-! ## Holds (R202) -/

/-- A hold of all channels applies. -/
def anyHold (d : Dev) : Bool :=
  d.fs.startup || d.fs.protection || d.fs.power || d.fs.image || d.fs.thermal

/-- A hold applies to a channel. -/
def chanHold (d : Dev) (n : Nat) : Bool := anyHold d || (fsChan d n).timing

/-- A channel is dark by hold or by R199. -/
def fsHeld (d : Dev) (n : Nat) : Bool := chanHold d n || !chanReady d n

/-- A change of the holds, with its event; the thermal hold forces every BEN low at once, the others let a lit burst
complete (R202). -/
def setHolds (f : FsSt → FsSt) (d : Dev) : Dev :=
  let d' := { d with fs := f d.fs }
  let d' := if d'.fs.thermal && !d.fs.thermal then forceAllLow d' else d'
  if d'.fs.startup = d.fs.startup ∧ d'.fs.protection = d.fs.protection ∧ d'.fs.power = d.fs.power ∧
      d'.fs.image = d.fs.image ∧ d'.fs.thermal = d.fs.thermal then d'
  else raise fFS_EVENT_HOLD_CHANGE 0 d'

/-- The protection hold begins: start of the hold-off, or PROT_SEL changes; after a change the frames of R199 are counted anew,
on the new path (R72, R202). -/
def protHold (toggled : Bool) (d : Dev) : Dev :=
  let d := if toggled then (presentChans d).foldl (fun d n => modFs n (fun c => { c with upFrames := 0 }) d) d else d
  setHolds (fun f => { f with
    protection := true, newPath := f.newPath || toggled, ranging := if toggled then none else f.ranging }) d

/-- The settle time is over: the frames of R199 are counted anew on the new path (R72, R202). -/
def protPathAnew (d : Dev) : Dev := (presentChans d).foldl (fun d n => modFs n (fun c => { c with upFrames := 0 }) d) d

/-- Own copy of a path's delay (R194). -/
def fsDelay (d : Dev) (path : Nat) : Option Nat := if path = 0 then d.fs.eqdW else d.fs.eqdP

/-- Own state: 0 Unassigned, 1 Ranging, 2 Ranged (R198). -/
def fsState (d : Dev) : Nat :=
  match d.fs.number with
  | none => 0
  | some _ => if (fsDelay d (pathNow d)).isSome then 2 else 1

/-- The hold-off and the settle time of a switch are over or were none (R72). -/
def switchSettled (d : Dev) : Bool := !d.prot.settling && d.prot.state != .holdoff && d.prot.state != .settle

/-- The protection hold ends on the own view, behind the hold-off and the settle time: R199 is met on some channel, and on a new
path its delay is held; without a number there is none to hold (R72, R202). (DEDUCED, log entry 59) -/
def protHoldEnd (d : Dev) : Dev :=
  if d.fs.protection ∧ switchSettled d ∧ (presentChans d).any (chanReady d) ∧
      (d.fs.newPath = false ∨ d.fs.number = none ∨ (fsDelay d (pathNow d)).isSome) then
    setHolds (fun f => { f with protection := false, newPath := false }) d
  else d

/-! ## Trips (R206, R207, R211) -/

/-- A nonce drawn: never zero (R211). (DEDUCED, log entry 62) -/
def drawNonce (d : Dev) : BitVec 32 × Dev :=
  let (k, d) := nextFree d
  (BitVec.ofNat 32 ((Config.freeNonce k).toNat % (2 ^ 32 - 1) + 1), d)

/-- A new nonce replaces the held one: consents and releases for the old one are void, and so is the Chest's stop record's
(R149, R211, R214). -/
def newNonce (nonce : BitVec 32) (d : Dev) : Dev :=
  { d with
    fs := { d.fs with nonce := nonce, consent := false, release := false },
    act := { d.act with consent := false, release := false, stopRecord := d.act.stopRecord.map (fun _ => nonce) } }

/-- Every channel is dark until a release: the kills of the whole part, the stopped state, stage 3, or a trip on each (R211, R214,
R215). (DEDUCED, log entry 209) -/
def everyDark (d : Dev) : Bool :=
  killBase d || d.fs.stopped || (presentChans d).any (fun n => (fsChan d n).stage == 3) ||
    (presentChans d).all (fun n => decide (0 < (fsChan d n).stage))

/-- A trip in the cycle in which a release commits wins: what the release ended is in force again, but for a trip of the same
channel, which it had ended rightly (R207, R215). (DEDUCED, log entry 166) -/
def voidRelease (n : Nat) (d : Dev) : Dev :=
  match d.fs.lastRelease with
  | none => d
  | some r =>
    if r.at_ / (20 * Config.ns) ≠ d.now / (20 * Config.ns) ∨ 0 < agetD r.stages n 0 then d
    else
      let d := (presentChans d).foldl (fun d k => modFs k (fun c => { c with stage := agetD r.stages k c.stage }) d) d
      let d := if r.event then d else setFld fFS_EVENT_RELEASED 0 0 d
      { d with fs := { d.fs with stopped := r.stopped, lastRelease := none } }

/-- A detection on a channel: a trip at a stage where it is not tripped, with a Trip Report unless every channel is dark; counted
only where it is (R207, R211). -/
def trip (n stage cause : Nat) (d0 : Dev) : Dev :=
  let d := voidRelease n d0
  if 0 < (fsChan d n).stage then count .fsDetections n d
  else
    let (k, d) := drawNonce (modFs n (fun c => { c with stage := stage }) d)
    let d := newNonce k d
    let d := { d with fs := { d.fs with cause := cause, report := !everyDark d } }
    forceLow n (raise fFS_EVENT_TRIP 0 d)

/-- The stage of a tripped channel raised, never lowered (R207). -/
def escalate (n stage : Nat) (d : Dev) : Dev :=
  modFs n (fun c => if 0 < c.stage then { c with stage := max c.stage stage } else c) d

/-- Fail-dark entered with its cause (R209). -/
def failDark (cause : Nat) (d : Dev) : Dev :=
  if d.fs.failDark ∨ d.fs.undriven then d
  else
    let d := { d with fs := { d.fs with failDark := true, failCause := cause,
                                         selfTestOk := d.fs.selfTestOk && cause != 7 } }
    forceAllLow (raise fFS_EVENT_FAIL_DARK_IN 0 d)

/-! ## Admission (R200) -/

/-- An entry of the admission table: its allocation ID where value and complement agree (R200).
(DEDUCED, log entry 160) -/
def admEntry (d : Dev) (slot : Nat) : Option Nat :=
  let v := agetD d.fs.admV slot 0
  if agetD d.fs.admC slot 0x3FFF = v ^^^ 0x3FFF ∧ 0x0200 ≤ v ∧ v ≤ 0x3FFE then some v else none

/-- The line engine's slot table as the comparison reads it. -/
def slotEntry (d : Dev) (slot : Nat) : Option Nat := if allocEnabled d slot then some (allocId d slot) else none

/-- Slots that either table holds. -/
def admSlots (d : Dev) : List Nat :=
  (d.fs.admV.map (·.1) ++ d.fs.admC.map (·.1) ++ enabledAllocs d ++ d.fs.differ).eraseDups.filter (fun k => 1 ≤ k)

/-- The comparison at a frame boundary: a differing entry is admitted in neither copy until they agree, and each new
difference is counted (R200). -/
def admCompare (d : Dev) : Dev :=
  (admSlots d).foldl (fun d k =>
    if admEntry d k = slotEntry d k then { d with fs := { d.fs with differ := d.fs.differ.filter (· != k) } }
    else if k ∈ d.fs.differ then d
    else count .fsUnadmitted 0 { d with fs := { d.fs with differ := k :: d.fs.differ } }) d

/-- A non-default allocation ID is admitted. -/
def admitted (d : Dev) (alloc : Nat) : Bool :=
  (d.fs.admV.map (·.1)).any (fun k => admEntry d k == some alloc && !d.fs.differ.contains k)

/-- One admission write; entry 0 does not exist (R200, R220). -/
def admWrite (complement : Bool) (slot v : Nat) (d : Dev) : Dev :=
  if slot = 0 then d
  else
    let d := if complement then { d with fs := { d.fs with admC := aputD d.fs.admC slot v 0x3FFF } }
      else { d with fs := { d.fs with admV := aputD d.fs.admV slot v 0 } }
    if admEntry d slot = slotEntry d slot then { d with fs := { d.fs with differ := d.fs.differ.filter (· != slot) } } else d

/-! ## Windows (R197 to R199) -/

/-- Profile p in the own copy for maps of frame fc (R170, R194). -/
def fsProfAt (d : Dev) (p : Nat) (fc : Word) : ProfCfg :=
  valueAt d.fs.profHist (fun c => c.prof == p) (·.fc) (·.old) (agetD d.fs.profs p {}) fc

/-- Delay of a path in the own copy for maps of frame fc (R144, R194). -/
def fsDelayAt (d : Dev) (path : Nat) (fc : Word) : Nat :=
  valueAt d.fs.delayHist (fun c => c.path == path) (·.fc) (·.old) ((fsDelay d path).getD 0) fc

/-- What the own state admits of an entry (R198). -/
inductive Admits where
  | no
  | window
  | ranging (delay : Nat)
  | data

/-- R198's table for an allocation ID on a channel in a map of frame fc. -/
def admits? (d : Dev) (ch : Nat) (fc : Word) (alloc : Nat) : Admits :=
  let asked : Option Nat := match d.fs.ranging with
    | some (c, f, delay) => if c = ch ∧ f < fc ∧ d.fs.number = some alloc then some delay else none
    | none => none
  match fsState d, asked with
  | 0, _ => if alloc = 0x3FFF then .window else .no
  | _, some delay => .ranging delay
  | 2, none => if d.fs.number = some alloc ∨ admitted d alloc then .data else .no
  | _, none => .no

/-- One entry of the own copy of a map (R161, R162, R197). -/
def fsEntry (ch : Nat) (fc : Word) (t0 : Time) (d : Dev) (e : Option (BitVec 64)) : Dev :=
  match e with
  | none => d
  | some w =>
    if !mapCrcOk w then d
    else
      let p := fsProfAt d (entryProf w) fc
      let place (extra delay : Nat) (d : Dev) : Dev :=
        if entryLen w = 0 ∨ entryStart w ≥ 53125 ∨ entryStart w + entryLen w > 53125 ∨ ¬ p.held ∨
            ¬ p.channels.testBit ch ∨ entryLen w < p.preamble + extra then d
        else
          let at_ (slots : Nat) : Time := t0 + (1328125 + 25 * slots + delay) * Config.symbol
          let from_ := at_ (entryStart w)
          let until_ := at_ (entryStart w + entryLen w)
          let hits := (fsChan d ch).windows.filter (fun x => decide (x.from_ < until_) && decide (from_ < x.until_))
          if hits.any (fun x => decide (x.from_ ≤ from_)) then d
          else modFs ch (fun c => { c with windows := c.windows.filter (fun x => !hits.contains x) ++
            [{ openAt := from_ - 2 * Config.slot, closeAt := until_ + 2 * Config.slot, from_ := from_, until_ := until_ }] }) d
      match admits? d ch fc (entryAlloc w) with
      | .no => d
      | .window => place 4 p.preassigned d
      | .ranging delay =>
        let d' := place 4 delay d
        if (fsChan d' ch).windows = (fsChan d ch).windows then d' else { d' with fs := { d'.fs with ranging := none } }
      | .data => place 2 (fsDelayAt d (pathNow d) fc) d

/-- Windows of a channel whose opening has come open, stay dark where a hold applies, and are none where R199 is not met (R197,
R199, R202). (DEDUCED, log entry 58) -/
def openDue (n : Nat) (d : Dev) : Dev :=
  let hold := chanHold d n
  let ready := chanReady d n
  modFs n (fun c => { c with windows := c.windows.filterMap (fun w =>
    if w.mode ≠ .pending ∨ d.now < w.openAt then some w
    else if hold then some { w with mode := .dark }
    else if ready then some { w with mode := .opened }
    else none) }) d

/-- A window of the channel in this mode lies over an instant. -/
def windowOver (d : Dev) (n : Nat) (t : Time) (m : WindowMode) : Bool :=
  (fsChan d n).windows.any (fun w => w.mode == m && decide (w.openAt ≤ t) && decide (t < w.closeAt))

/-- What becomes of a window at an instant: past its end an open one is closed, and looked at for 1 ms more, within which the bias
read under way ends; any other goes (R203, R205). -/
def windowPast (now : Time) (w : FsWindow) : Option FsWindow :=
  if now < w.closeAt then some w
  else if w.mode = .opened ∨ (w.mode = .closed ∧ now < w.closeAt + Config.ms) then some { w with mode := .closed }
  else none

/-- Windows whose end has come close; BEN falls with the last of them; bursts passed without light are counted (R197,
R201, R204). (DEDUCED, log entry 65) -/
def closeDue (n : Nat) (lit : Bool) (d : Dev) : Dev :=
  let passed := (fsChan d n).passed && (fsChan d n).windows.any (fun w => w.mode == .opened && decide (w.closeAt ≤ d.now))
  let d := modFs n (fun c => { c with windows := c.windows.filterMap (windowPast d.now) }) d
  let d := if windowOver d n d.now .opened then d else forceLow n d
  if ¬ passed then d
  else
    let d := modFs n (fun c => { c with passed := c.ben }) d
    if lit then modFs n (fun c => { c with darkRun := 0 }) d
    else
      let d := raise fFS_EVENT_LMON_DARK 0 (modFs n (fun c => { c with darkRun := c.darkRun + 1 }) d)
      if (fsChan d n).darkRun < 8 then d else trip n 1 6 (modFs n (fun c => { c with darkRun := 0 }) d)

/-! ## The own tap (R195, R652) -/

/-- A timing hold begins: the channel is dark at once (R195, R202). -/
def timingHold (n : Nat) (d : Dev) : Dev :=
  if (fsChan d n).timing then modFs n (fun c => { c with spaced := 0 }) d
  else forceLow n (raise fFS_EVENT_HOLD_CHANGE 0 (modFs n (fun c => { c with timing := true, spaced := 0 }) d))

/-- Spacing of a frame start in FS_CLK cycles (R195); the first start of a channel has none before it. -/
def spacingStep (n spacing : Nat) (d : Dev) : Dev :=
  let c := fsChan d n
  let d := modFs n (fun c => { c with frames := c.frames + 1 }) d
  if c.frames = 0 then d
  else if 6248 ≤ spacing ∧ spacing ≤ 6252 then
    if ¬ c.timing then d
    else if c.spaced + 1 < 8 then modFs n (fun c => { c with spaced := c.spaced + 1 }) d
    else raise fFS_EVENT_HOLD_CHANGE 0 (modFs n (fun c => { c with timing := false, spaced := 0 }) d)
  else timingHold n d

/-- The channel's state in the own view looked at again; a lane A frame counts toward R199 (R652). -/
def ownView (n : Nat) (laneA : Bool) (d : Dev) : Dev :=
  modFs n (fun c =>
    let up := c.a.align == .sync && c.b.align == .sync && !c.a.mismatch && !c.b.mismatch && !c.timing
    { c with up := up, upFrames := if up && c.up then (if laneA then min 8 (c.upFrames + 1) else c.upFrames) else 0 }) d

/-- AIS of a channel in the own view, by a valid lane A header (R61, R62). -/
def ownAis (n h : Nat) (d : Dev) : Dev :=
  modFs n (fun c => { c with ais := (runDefect c.ais (hdrAis h) c.aisRun).1, aisRun := (runDefect c.ais (hdrAis h) c.aisRun).2.1 }) d

/-- A frame on one lane of the tap: alignment by R652, spacing, and on lane A the map copy (R195 to R199).
(DESIGN CHOICE, log entry 207) -/
def fsFrame (f : FsFrame) (d : Dev) : Dev :=
  let n : Nat := f.ch
  let laneB := f.lane == .b
  if ¬ chanPresent d n ∨ d.fs.undriven then d
  else
    let sights := foundSights false [⟨f.pos, f.pattern, f.header⟩]
    let a0 := if laneB then (fsChan d n).b else (fsChan d n).a
    let (a, _) := alignFrame 2 4 sights a0
    let v := validHeader (headerAt false [⟨f.pos, f.pattern, f.header⟩] a)
    let a := if a.align = .sync then headerFrame n laneB v a else a
    let d := modFs n (fun c => if laneB then { c with b := a } else { c with a := a }) d
    let d := match v with
      | some h => if a.align = .sync ∧ rightHeader n laneB h ∧ ¬ laneB then ownAis n h d else d
      | none => d
    let d := if laneB then d else spacingStep n f.spacing d
    let d := ownView n (!laneB) d
    let d := match d.fs.nextCfg with
      | some (g, r) => { d with fs := { d.fs with guard := g, refuseLimit := r, nextCfg := none } }
      | none => d
    let ok := match v with
      | some h => rightHeader n laneB h && decide (hdrMapLen h ≤ 1024) && (a0.align != .sync || a.fc == a0.fc + 1)
      | none => false
    let c := fsChan d n
    let d := if !laneB && ok && c.up && decide (8 ≤ c.upFrames) && decide (c.notBefore ≤ f.t) then
        f.map.foldl (fsEntry n a.fc f.t) d
      else d
    protHoldEnd d

/-- No frame start within 6,260 cycles (R195). -/
def fsTimeout (n : Nat) (d : Dev) : Dev := if chanPresent d n then ownView n false (timingHold n d) else d

/-! ## The gate (R201) -/

/-- A refused enable (R201). -/
def refusedEnable (n : Nat) (d : Dev) : Dev :=
  let d := raise fFS_EVENT_REFUSED 0 (count .fsRefusedEnables n d)
  let d := modFs n (fun c =>
    { c with refusedIn := c.frames,
             refusedRun := if c.refusedRun = 0 then 1 else if c.refusedIn = c.frames then c.refusedRun
               else if c.refusedIn + 1 = c.frames then c.refusedRun + 1 else 1 }) d
  if (fsChan d n).refusedRun < d.fs.refuseLimit then d
  else trip n 1 2 (modFs n (fun c => { c with refusedRun := 0 }) d)

/-- The line engine asks for enable at an instant, or takes it away: outside every window and without a hold the request is a
refused enable; within one it passes unless the channel is tripped or the Firescreen stopped or dark (R201). -/
def benAsk (t : Time) (n : Nat) (level : Bool) (d : Dev) : Dev :=
  if ¬ chanPresent d n ∨ d.fs.undriven then d
  else if ¬ level then
    let d := modFs n (fun c => { c with request := false }) d
    if (fsChan d n).ben then emit (.ben n false t) (modFs n (fun c => { c with ben := false }) d) else d
  else
    let d := openDue n (modFs n (fun c => { c with request := true }) d)
    if (fsChan d n).ben ∨ chanHold d n ∨ windowOver d n t .dark then d
    else if ¬ windowOver d n t .opened then refusedEnable n d
    else if 0 < (fsChan d n).stage ∨ d.fs.stopped ∨ d.fs.failDark then d
    else emit (.ben n true t) (modFs n (fun c => { c with ben := true, passed := true }) d)

/-- BEN_REQUEST: asked now. -/
def benRequest (n : Nat) (level : Bool) (d : Dev) : Dev := benAsk d.now n level d

/-! ## Supervision (R203 to R206) -/

/-- Light at an instant is outside every window that is not dark, extended by LMON_GUARD (R203). -/
def lightOutside (d : Dev) (n : Nat) : Bool :=
  let g := d.fs.guard * Config.ns
  !((fsChan d n).windows.any (fun w => w.mode != .dark && decide (w.openAt ≤ d.now + g) && decide (d.now < w.closeAt + g)))

/-- A detection of light outside a window (R203, R206). -/
def lightDetected (n : Nat) (d : Dev) : Dev :=
  let d := openDue n d
  if ¬ chanPresent d n ∨ d.fs.undriven ∨ ¬ lightOutside d n then d
  else modFs n (fun c => { c with litSince := true, lightAt := match c.lightAt with
    | some t => some t
    | none => some d.now }) (trip n 1 1 d)

/-- The look after a detection: the stage rises where light is still there (R206). -/
def lightStill (n stage after : Nat) (lmon : Bool) (d : Dev) : Dev :=
  if d.fs.undriven then d
  else match (fsChan d n).lightAt with
    | none => d
    | some t =>
      if ¬ lmon then modFs n (fun c => { c with lightAt := none }) d
      else if t + after ≤ d.now then escalate n stage d
      else d

/-- One kind of violation judged: a trip, or stage 2 where it was there at the last read or light was detected since (R206, R217).
(DEDUCED, log entry 61) -/
def judge (n cause : Nat) (was now : Bool) (d : Dev) : Dev :=
  if ¬ now then d
  else
    let tripped := 0 < (fsChan d n).stage
    let d := trip n 1 cause d
    if tripped ∧ (was ∨ (fsChan d n).litSince) then escalate n 2 d else d

/-- A bias read that began at an instant and ends now qualifies as dark: no window of the channel, as the own view holds them,
lies over the time from 20 µs before it to its end (R205). (DEDUCED, log entry 210) -/
def darkRead (d : Dev) (n : Nat) (from_ : Time) : Bool :=
  !(fsChan d n).windows.any (fun w => w.mode != .dark && decide (w.openAt ≤ d.now) && decide (from_ < w.closeAt + 20 * Config.us))

/-- A 1 ms read of an optic: one that fails counts always, one that answers is held against the limits once these are locked
(R205, R206). -/
def opticRead (r : OpticRead) (d : Dev) : Dev :=
  let n : Nat := r.ch
  if ¬ chanPresent d n ∨ d.fs.undriven then d
  else
    let c := fsChan d n
    let lim := agetD d.fs.limits n ⟨0, 0, 0, 0, 0, 0⟩
    let good := r.answered && d.fs.locked
    let power := good && decide (lim.powerLimit < r.power)
    let bias := good && (decide (lim.biasLimit < r.bias) || (darkRead d n r.biasAt && decide (lim.darkBiasLimit < r.bias)))
    let d := judge n 5 c.badMute (!r.answered) d
    let d := judge n 4 c.badPower power d
    let d := judge n 3 c.badBias bias d
    modFs n (fun c => if r.answered then { c with badMute := false, badPower := power, badBias := bias, litSince := false }
      else { c with badMute := true, litSince := false }) d

/-- Stage 3 on every present channel, with the cause of the failure and a new nonce (R210). -/
def latchAll (d : Dev) : Dev :=
  let cause := d.fs.failCause
  let (k, d) := drawNonce d
  let d := (presentChans d).foldl (fun d n => modFs n (fun c => { c with stage := 3 }) d) (newNonce k d)
  raise fFS_EVENT_TRIP 0 { d with fs := { d.fs with cause := cause, relatch := false, killsHeld := false } }

/-- A self-test pulse: sense within 60 ns of the pulse's start and of its end; the start-up self-test has passed once a pulse
on every kill output has (R202, R208). (DEDUCED, log entry 57) -/
def selfTest (out assertNs releaseNs : Nat) (d : Dev) : Dev :=
  if d.fs.undriven ∨ d.fs.failDark then d
  else if 60 < assertNs ∨ 60 < releaseNs then failDark 7 d
  else if d.fs.selfTestOk then d
  else
    let tested := (out :: d.fs.tested).eraseDups
    if (16 :: presentChans d).all tested.contains then
      let d := setHolds (fun f => { f with selfTestOk := true, tested := [], startup := false }) d
      if d.fs.relatch then latchAll d else d
    else { d with fs := { d.fs with tested := tested } }

/-- FS_CLK or the FS rail is lost: the outputs are released undriven (R209). -/
def fsLost (d : Dev) : Dev :=
  if d.fs.undriven then d
  else forceAllLow { d with fs := { d.fs with undriven := true, failCause := 9 } }

/-! ## Stop and release (R210, R212, R214) -/

/-- A channel at a release: no window of an earlier map opens any more; one that is open on an untripped channel goes on
(R212). -/
def releaseChan (now : Time) (killed : Bool) (c : FsChan) : FsChan :=
  { c with stage := 0, lightAt := none, refusedRun := 0, darkRun := 0,
           windows := c.windows.filter (fun w => w.mode == .closed || (w.mode == .opened && c.stage == 0)),
           notBefore := now + (if killed then Config.ms else 1) }

/-- Both consents are held: trips, the stopped state and the kills end; windows open from later maps only (R212). -/
def releaseCommit (d : Dev) : Dev :=
  if ¬ (d.fs.consent ∧ d.fs.release) then d
  else
    let all := allKillOn d
    let was : FsRelease :=
      { at_ := d.now, stages := (presentChans d).map (fun n => (n, (fsChan d n).stage)), stopped := d.fs.stopped,
        event := fld d fFS_EVENT_RELEASED 0 == 1 }
    let d1 := (presentChans d).foldl (fun x n => modFs n (releaseChan d.now (all || txKillOn d n)) x) d
    raise fFS_EVENT_RELEASED 0
      { d1 with fs := { d1.fs with
        stopped := false, consent := false, release := false, report := false, lastRelease := some was } }

/-- The Secretary's release write (R212). -/
def fsReleaseWrite (nonce : BitVec 32) (d : Dev) : Dev :=
  if nonce = d.fs.nonce then releaseCommit { d with fs := { d.fs with release := true } } else count .fsWrongRelease 0 d

/-- The optics' diagnostics show bias or power above limit: what the latest reads found (R213).
(DESIGN CHOICE, log entry 167) -/
def opticsBad (d : Dev) : Bool := (presentChans d).any (fun n => (fsChan d n).badBias || (fsChan d n).badPower)

/-- The Secretary writes its release at the consent event, unless the diagnostics or the entry that holds trips for the operator
withhold it (R213, R215). -/
def secretaryRelieves (d : Dev) : Dev :=
  if secretaryActs d ∧ d.fs.consent ∧ ¬ d.fs.release ∧ ¬ opticsBad d ∧ dictNat d 0xC000 3 0 = 0 then fsReleaseWrite d.fs.nonce d
  else d

/-- The nonces and stopped state that a start reads back from the Chest's stop record (R214). -/
def fsFromChest (d : Dev) (f : FsSt) : FsSt :=
  match d.act.stopRecord with
  | some n => { f with stopped := true, nonce := n }
  | none => f

/-- The own view starts anew: no alignment, no window, no number, delay or profile; trips stand (R207). -/
def fsAnew (f : FsSt) : FsSt :=
  { fsForget f with
    chans := f.chans.map (fun e => (e.1, { stage := e.2.stage, notBefore := e.2.notBefore })), last := none, profs := [],
    profHist := [], differ := [], report := false, failDark := false, undriven := false, relatch := true, killsHeld := true }

/-- A restart: the start-up hold and the self-test; after a failure the own view starts anew, and the kills stay asserted until
stage 3 is latched (R202, R210, R214). (DEDUCED, log entry 60) -/
def fsRestart (key : BitVec 16) (clockOk : Bool) (d : Dev) : Dev :=
  if key ≠ 0x0FA5 ∨ ¬ clockOk then d
  else
    let d := if d.fs.failDark ∨ d.fs.undriven then { d with fs := fsFromChest d (fsAnew d.fs) } else d
    setHolds (fun f => { f with startup := true, selfTestOk := false, tested := [] }) d

/-! ## Control messages (R194, R198, R653) -/

/-- The own view takes a control message: keyless, well addressed, from a channel that is up and not in AIS in it, and no repeat
of the last directed one (R62, R138, R194, R653). -/
def fsHears (m : CtlMsg) (d : Dev) : Bool :=
  !d.fs.undriven && (fsChan d m.ch).up && !(fsChan d m.ch).ais && rightFlow m &&
    (isBroadcast m || (d.fs.number == some (mAddr m) && d.fs.last != some (mType m, mSeq m)))

/-- A directed message acted on is remembered (R653). -/
def fsNote (m : CtlMsg) (d : Dev) : Dev :=
  if isBroadcast m then d else { d with fs := { d.fs with last := some (mType m, mSeq m) } }

/-- Burst Profile (R170). -/
def fsProfile (m : CtlMsg) (d : Dev) : Dev :=
  if ¬ fsHears m d ∨ badProfile m then d
  else
    let p := mf m 4 1 % 4
    { d with fs := { d.fs with profs := aputD d.fs.profs p (msgProfile m) {},
                               profHist := (({ prof := p, fc := m.fc, old := agetD d.fs.profs p {} } : ProfChange) :: d.fs.profHist).take 16 } }

/-- Assign Terminal, without channel enables or activation state (R147, R653). -/
def fsAssign (m : CtlMsg) (d : Dev) : Dev :=
  if fsHears m d ∧ mf m 4 8 = ownSerial ∧ mf m 12 2 ≤ 511 ∧ mf m 14 1 ≤ 15 ∧ chanPresent d (mf m 14 1) ∧ fsState d ≠ 2 then
    { d with fs := { d.fs with number := some (mf m 12 2), home := mf m 14 1 } }
  else d

/-- Ranging Request: for the current path, on a channel up in the own view (R143, R198). -/
def fsRangingRequest (m : CtlMsg) (d : Dev) : Dev :=
  if ¬ fsHears m d then d
  else
    let d := fsNote m d
    if mf m 5 1 = pathNow d ∧ mf m 4 1 < 16 ∧ (fsChan d (mf m 4 1)).up then
      { d with fs := { d.fs with ranging := some (mf m 4 1, m.fc, mf m 6 3) } }
    else d

/-- Ranging Time (R144, R145). -/
def fsRangingTime (m : CtlMsg) (d : Dev) : Dev :=
  if ¬ fsHears m d then d
  else
    let d := fsNote m d
    let path := mf m 4 1
    if 1 < path ∨ 1 < mf m 5 1 then d
    else
      let old := (fsDelay d path).getD 0
      match msgDelay m old with
      | none => d
      | some v =>
        let f := { d.fs with delayHist := (({ path := path, fc := m.fc, old := old } : DelayChange) :: d.fs.delayHist).take 16 }
        protHoldEnd { d with fs := if path = 0 then { f with eqdW := some v } else { f with eqdP := some v } }

/-- Deactivate (R198, R653). -/
def fsDeactivate (m : CtlMsg) (d : Dev) : Dev :=
  if fsHears m d then
    let d := fsNote m d
    { d with fs := fsForget d.fs }
  else d

/-- Disable: every channel dark at once (R149, R214). -/
def fsDisable (m : CtlMsg) (d : Dev) : Dev :=
  if fsHears m d ∧ scopeNames m then
    forceAllLow (raise fFS_EVENT_DISABLED 0
      { d with fs := { d.fs with nonce := BitVec.ofNat 32 (mf m 13 4), stopped := true, consent := false,
                                 release := false, report := false } })
  else d

/-- An Enable matches under R150 with a number: scope, serial number, number held, nonce. -/
def enableNames (m : CtlMsg) (number : Option Nat) : Bool :=
  mf m 4 1 == 1 || (mf m 4 1 == 0 && mf m 5 8 == ownSerial && mf m 13 2 == number.getD 0xFFFF)

/-- Enable: the consent, whatever the activation state, and at its event the Secretary's release (R212, R213). -/
def fsEnable (m : CtlMsg) (d : Dev) : Dev :=
  if fsHears m d ∧ enableNames m d.fs.number ∧ BitVec.ofNat 32 (mf m 15 4) = d.fs.nonce then
    secretaryRelieves
      (releaseCommit (raise fFS_EVENT_CONSENT_IN 0 { d with fs := { d.fs with consent := true, report := false } }))
  else d

/-! ## The commands -/

/-- FS_FRAME_TIMEOUT. -/
def execFsFrameTimeout (ch : Fin 16) (s : State) : Out := onDev (fsDrive (fsTimeout ch)) s

/-- FS_WINDOW_OPEN. -/
def execFsWindowOpen (t : Time) (ch : Fin 16) (s : State) : Out := at_ t (openDue ch) s

/-- FS_WINDOW_CLOSE. -/
def execFsWindowClose (t : Time) (ch : Fin 16) (lit : Bool) (s : State) : Out := at_ t (fsDrive (closeDue ch lit)) s

/-- BEN_REQUEST. -/
def execBenRequest (t : Time) (ch : Fin 16) (level : Bool) (s : State) : Out := at_ t (fsDrive (benRequest ch level)) s

/-- LIGHT_OUTSIDE_WINDOW. -/
def execLightOutsideWindow (t : Time) (ch : Fin 16) (s : State) : Out := at_ t (fsDrive (lightDetected ch)) s

/-- STAGE2_TIMEOUT. -/
def execStage2Timeout (t : Time) (ch : Fin 16) (lmon : Bool) (s : State) : Out :=
  at_ t (fsDrive (lightStill ch 2 Config.us lmon)) s

/-- STAGE3_TIMEOUT. -/
def execStage3Timeout (t : Time) (ch : Fin 16) (lmon : Bool) (s : State) : Out :=
  at_ t (fsDrive (lightStill ch 3 (10 * Config.us) lmon)) s

/-- OPTIC_READ. -/
def execOpticRead (r : OpticRead) (s : State) : Out := at_ r.t (fsDrive (opticRead r)) s

/-- SELF_TEST_PULSE. -/
def execSelfTestPulse (t : Time) (out : KillOut) (assertNs releaseNs : Nat) (s : State) : Out :=
  at_ t (fsDrive (fun d => match out with
    | .tx ch => if chanPresent d ch then selfTest ch assertNs releaseNs d else d
    | .all => selfTest 16 assertNs releaseNs d)) s

/-- PARITY_ERROR. -/
def execParityError (t : Time) (s : State) : Out := at_ t (fsDrive (failDark 8)) s

/-- FS_SUPPLY_CLOCK_LOSS: of the clock or of the rail alike. -/
def execFsSupplyClockLoss (t : Time) (_clock : Bool) (s : State) : Out := at_ t (fsDrive fsLost) s

/-- KILL_SENSE_MISMATCH (R208, R209). -/
def execKillSenseMismatch (t : Time) (out : KillOut) (s : State) : Out :=
  at_ t (fsDrive (fun d => match out with
    | .tx ch => if chanPresent d ch then failDark 7 d else d
    | .all => failDark 7 d)) s

/-- FS_RELEASE. -/
def execFsRelease (t : Time) (nonce : BitVec 32) (s : State) : Out := at_ t (fsDrive (fsReleaseWrite nonce)) s

/-- FS_RESTART. -/
def execFsRestart (t : Time) (key : BitVec 16) (clockOk : Bool) (s : State) : Out :=
  at_ t (fsDrive (fsRestart key clockOk)) s

/-- ADMISSION_WRITE. -/
def execAdmissionWrite (complement : Bool) (slot : Fin 512) (v : BitVec 14) (s : State) : Out :=
  onDev (admWrite complement slot v.toNat) s

/-- FS_LIMITS_WRITE: before the limits are locked (R220). -/
def execFsLimitsWrite (ch : Fin 16) (lim : OpticLimits) (s : State) : Out :=
  onDev (fun d => if d.fs.locked ∨ ¬ chanPresent d ch then d
    else { d with fs := { d.fs with limits := aput d.fs.limits ch lim } }) s

/-- FS_SETCFG_WRITE: from the next frame on (R220). (DESIGN CHOICE, log entry 206) -/
def execFsSetcfgWrite (guardNs : BitVec 8) (refuseLimit : BitVec 4) (s : State) : Out :=
  onDev (fun d => { d with fs := { d.fs with nextCfg := some (guardNs.toNat,
    if refuseLimit = 0 then d.fs.refuseLimit else refuseLimit.toNat) } }) s

end Sys2Proof.Machine
end

