-- ==== Sys2Proof/Machine/Longcase.lean ====
section
/-!
DEFINITION. Machine/Longcase.lean: Longcase's phase from the line, its servo and its outputs (R416 to R439): the meanings of
their commands.
-/

namespace Sys2Proof.Machine

/-! ## The value (R416, R424) -/

/-- One nanosecond and one second in Longcase's units of 2^-16 ns. -/
def ltNs : Nat := 65536
def ltSec : Nat := 65536000000000

/-- The value carried to now, so that what makes it run may change. (DEDUCED, log entry 93) -/
def ltRebase (d : Dev) : Dev :=
  let rate := fld d fLT_SERVO_MAX_SLEW 0
  { d with lc := { d.lc with base := ltValue d.lc rate d.now, slew := d.lc.slew - slewed d.lc.slew rate (d.now - d.lc.at_),
                             at_ := d.now } }

/-- Longcase changed. -/
def modLc (f : Longcase → Longcase) (d : Dev) : Dev := { d with lc := f d.lc }

/-- A step to a value: its commit point is this cycle (R425). It makes no pulse, and a SET that waits waits for the first second
boundary that running time reaches after it (R427, R429, R439). -/
def ltStep (v : Int) (d : Dev) : Dev :=
  let d := ltRebase d
  count .ltSteps 0 (raise fLT_EVENT_STEP 0 (modLc (fun l => { l with
    base := v, slew := 0, valid := true, servo := .acquiring, inRun := 0, outRun := 0, outlierRun := 0,
    steps := l.steps + 1, edgeFrom := v, setArmed := l.setArmed.map (fun _ => (ltSplit v).1) }) d))

/-! ## The servo (R423 to R427) -/

/-- The trim's limit: 15 ppm in units of 2^-48. -/
def trimLimit : Int := 4222124650

/-- The trim within its limits. -/
def clipTrim (x : Int) : Int := max (-trimLimit) (min trimLimit x)

/-- The servo state after an accepted offset that does not step (R423). -/
def servoAfter (s : Servo) (within : Bool) (inRun outRun : Nat) : Servo :=
  match s with
  | .free => .free
  | .acquiring => if 16 ≤ inRun then .locked else .acquiring
  | .locked => if 4 ≤ outRun then .acquiring else .locked
  | .holdover => if within then .locked else .acquiring

/-- An accepted offset that does not step: phase and trim corrected, the servo moved on (R423, R424). -/
def servoAccept (e : Int) (d : Dev) : Dev :=
  let d := ltRebase d
  let l := d.lc
  let ki := 2 ^ fld d fLT_SERVO_KI_SHIFT 0
  let dTrim : Int := match l.lastAccepted with
    | none => 0
    | some t =>
      if d.now / Config.cycle ≤ t / Config.cycle then 0
      else -(e * (2 ^ 48 * Config.sec : Nat)) / ((ltSec * ki * (d.now - t) : Nat) : Int)
  let within := decide (e.natAbs ≤ 10 * ltNs)
  let ir := if within then l.inRun + 1 else 0
  let our := if within then 0 else l.outRun + 1
  let s := servoAfter l.servo within ir our
  let ir := if s = .acquiring ∧ l.servo ≠ .acquiring then 0 else ir
  raiseIf (s == .locked && l.servo != .locked) fLT_EVENT_LOCKED 0 (modLc (fun l => { l with
    slew := -e / (2 ^ fld d fLT_SERVO_KP_SHIFT 0 : Nat), trim := clipTrim (l.trim + dTrim), servo := s, inRun := ir,
    outRun := our, outlierRun := 0, lastAccepted := some d.now }) d)

/-- An offset as the servo takes it: a step, an outlier, or a correction (R424, R425). -/
def servoTake (e : Int) (d : Dev) : Dev :=
  let l := d.lc
  let step := fun (d : Dev) => modLc (fun l => { l with lastAccepted := some d.now }) (ltStep (ltNow d - e) d)
  if l.servo = .free then step d
  else if fld d fLT_SERVO_STEP_THRESH 0 * ltNs < e.natAbs then
    let run : Int := if 0 ≤ e then (if 0 < l.outlierRun then l.outlierRun + 1 else 1)
      else (if l.outlierRun < 0 then l.outlierRun - 1 else -1)
    if 3 ≤ run.natAbs then step d
    else count .todOutliers 0 (modLc (fun l => { l with outlierRun := run }) d)
  else servoAccept e d

/-- SOURCE: 3 acts as 2 (R440). -/
def ltSource (d : Dev) : Nat := min (fld d fLT_CTRL_SOURCE 0) 2

/-- Holdover entered: from Acquiring or Locked. -/
def enterHoldover (d : Dev) : Dev :=
  if d.lc.servo = .acquiring ∨ d.lc.servo = .locked then
    raise fLT_EVENT_HOLDOVER 0 (modLc (fun l => { l with servo := .holdover, inRun := 0, outRun := 0 }) d)
  else d

/-- Holdover under SOURCE 0 without a channel up, and under SOURCE 2 (R423, R427). -/
def ltEval (d : Dev) : Dev :=
  if ltSource d = 2 ∨ (ltSource d = 0 ∧ ¬ anyUp d) then enterHoldover d else d

/-- SET cancelled because SOURCE is 0 (R427, R439). -/
def cancelSet (d : Dev) : Dev :=
  if ltSource d = 0 ∧ d.lc.setArmed.isSome then
    raise fLT_EVENT_SW_REFUSED 0 (count .swRefused 0 (modLc (fun l => { l with setArmed := none }) d))
  else d

/-- OFFSET_TIMEOUT since the latest accepted offset, since PD2 entered Run where there is none (R423). -/
def offsetTimeout (d : Dev) : Dev :=
  let t := d.lc.lastAccepted.getD d.lc.runAt
  if t + fld d fLT_CTRL_OFFSET_TIMEOUT 0 * Config.sec ≤ d.now then enterHoldover d else d

/-! ## Offsets (R420 to R422, R427) -/

/-- An offset shown: 48 bits, saturating (R440). -/
def showOffset (e : Int) (d : Dev) : Dev :=
  modLc (fun l => { l with offset := max (-(2 ^ 47 : Int)) (min (2 ^ 47 - 1) e) }) d

/-- The offset of a recorded frame from the head end's time of it (R422). -/
def lineOffsetOf (d : Dev) (h : HistFrame) (tod : Nat) : Int :=
  let n := 0x6010 + homeChan d
  let orx : Int := (dictNat d n 1 0 * ltNs / 1000 : Nat)
  let otx : Int := (dictNat d n 2 0 * ltNs / 1000 : Nat)
  let teq : Int := (dictNat d 0x6000 5 0 * ltNs : Nat)
  let f := teq - (h.eqd * 8 * ltNs / 85 : Nat) - orx - otx
  h.local_ - (tod + (dictNat d 0x6000 6 0x800000 : Int) * f / 2 ^ 24 + orx)

/-- A Time of Day discarded (R421). -/
def todDiscard (d : Dev) : Dev := raise fLT_EVENT_TOD_DISCARD 0 (count .todDiscarded 0 d)

/-- A Time of Day for a frame of the history (R421, R427). -/
def todUse (f : Word) (tod : Nat) (d : Dev) : Dev :=
  match d.lc.history.find? (fun h => h.fc == f) with
  | some h =>
    if h.usable then
      let e := lineOffsetOf d h tod
      let d := count .todUsed 0 (showOffset e d)
      if ltSource d = 0 then servoTake e d else d
    else todDiscard d
  | none => todDiscard d

/-- Frame counter of the home channel's lane A. -/
def homeFc (d : Dev) : Word := (chan d (homeChan d)).laneA.al.fc

/-- Frame counter of the latest frame: of the home channel's lane A in Sync, of the latest frame boundary otherwise
(R39, R420). -/
def frameNow (d : Dev) : Word :=
  if (chan d (homeChan d)).laneA.al.align = .sync then homeFc d else d.trib.fc

/-- A Time of Day message (R421). -/
def todMessage (f : Word) (tod : Nat) (d : Dev) : Dev :=
  let here := d.lc.history.any (fun h => h.fc == f)
  if !here && numHeld d && decide (frameNow d < f) && decide (f.toNat ≤ (frameNow d).toNat + 8000) then
    modLc (fun l => { l with heldTod := some (f, tod) }) d
  else todUse f tod d

/-- HELD_TOD_DUE: the held message's frame has come (R421). -/
def heldTodDue (d : Dev) : Dev :=
  match d.lc.heldTod with
  | some (f, tod) => if frameNow d < f then d else todUse f tod (modLc (fun l => { l with heldTod := none }) d)
  | none => d

/-- A write of LT_SW_OFFSET (R427). -/
def softwareOffset (v : Word) (d : Dev) : Dev :=
  if ltSource d = 1 then servoTake v.toInt (count .swAccepted 0 (showOffset v.toInt d))
  else raise fLT_EVENT_SW_REFUSED 0 (count .swRefused 0 d)

/-- SECONDS now. -/
def secondsNow (d : Dev) : Nat := (ltSplit (ltNow d)).1

/-- A write of LT_CMD (R427). -/
def ltCmd (v : Word) (d : Dev) : Dev :=
  if !v.toNat.testBit 0 then d
  else if ltSource d = 0 then raise fLT_EVENT_SW_REFUSED 0 (count .swRefused 0 d)
  else modLc (fun l => { l with setArmed := some (secondsNow d) }) d

/-- A second boundary falls into this cycle: less than a cycle has run since it. -/
def onBoundary (d : Dev) : Bool := decide (ltNow d % ltSec < (Config.cycle * ltNs / 425 : Nat))

/-- SET_LOAD: the next second boundary after SET; under SOURCE 2 the servo is held in Holdover after it (R427). -/
def setLoad (d : Dev) : Dev :=
  match d.lc.setArmed with
  | some s =>
    if ltSource d = 0 then cancelSet d
    else if secondsNow d ≤ s ∨ ¬ onBoundary d then d
    else
      let v : Int := (reg d .ltSetSec 0).toNat * ltSec
      ltEval (modLc (fun l => { l with setArmed := none }) (ltStep v d))
  | none => d

/-! ## Run and retention (R418, R419) -/

/-- PD2 leaves Run: TIME_VALID falls, the always-on domain counts whole seconds (R418). (DEDUCED, log entry 96) -/
def ltStop (d : Dev) : Dev :=
  let d := ltRebase d
  let d := if d.lc.pps then emit (.pps false) d else d
  modLc (fun l => { l with valid := false, servo := .free, alwaysOn := secondsNow d, alwaysOnAt := d.now, pps := false,
                           todDue := none, lastAccepted := none, inRun := 0, outRun := 0, outlierRun := 0, slew := 0,
                           history := [], heldTod := none }) d

/-- PD2 enters Run: Longcase resumes from the count with NS 0 (R418). -/
def ltResume (d : Dev) : Dev :=
  modLc (fun l => { l with
    base := (l.alwaysOn + (d.now - l.alwaysOnAt) / Config.sec : Nat) * (ltSec : Int), at_ := d.now, slew := 0,
    runAt := d.now }) d

/-- Longcase as a reset of PD2 leaves it: the steps since PORST_N, and the always-on domain's count (R418, R440, R631). -/
def ltReset (l : Longcase) : Longcase := { steps := l.steps, alwaysOn := l.alwaysOn, alwaysOnAt := l.alwaysOnAt }

/-! ## Outputs (R429, R430) -/

/-- A signed field of n bits. -/
def signedField (n x : Nat) : Int := if x < 2 ^ (n - 1) then x else (x : Int) - 2 ^ n

/-- PPS_DELAY in Longcase's units (R429). -/
def ppsDelay (d : Dev) : Int := signedField 15 (fld d fLT_PPS_PPS_DELAY 0) * ltNs

/-- The second whose boundary, shifted by PPS_DELAY, lies nearest to now (R429). -/
def ppsSecond (d : Dev) : Int := (ltNow d - ppsDelay d + ltSec / 2) / ltSec

/-- Running time reaches that shifted boundary within 2 ns of now: no step has crossed it, and it has had no pulse
(R429, R439). -/
def ppsReached (d : Dev) : Bool :=
  let edge := ppsSecond d * ltSec + ppsDelay d
  decide ((ltNow d - edge).natAbs ≤ 2 * ltNs) && decide (d.lc.edgeFrom < edge)

/-- TIME_PPS rises at a second boundary shifted by PPS_DELAY (R429). (DEDUCED, log entry 95) -/
def ppsPulse (d : Dev) : Dev :=
  if fld d fLT_CTRL_PPS_EN 0 = 1 ∧ d.lc.valid ∧ ppsReached d then
    let s := ppsSecond d
    emit (.pps true) (modLc (fun l => { l with
      pps := true, ppsAt := d.now, todDue := some s.toNat, edgeFrom := s * ltSec + 10000 * ltNs }) d)
  else d

/-- TIME_PPS low. -/
def ppsFall (d : Dev) : Dev := if d.lc.pps then emit (.pps false) (modLc (fun l => { l with pps := false }) d) else d

/-- TIME_PPS falls after PPS_WIDTH (R429). -/
def ppsEnd (d : Dev) : Dev :=
  if d.lc.ppsAt + fld d fLT_PPS_PPS_WIDTH 0 * 1000 * Config.ns ≤ d.now then ppsFall d else d

/-- The settings of Longcase changed: the value runs on from now under the new ones (R424, R427, R429, R439). -/
def ltSettings (f : Dev → Dev) (d : Dev) : Dev :=
  let d := ltEval (cancelSet (f (ltRebase d)))
  if fld d fLT_CTRL_PPS_EN 0 = 0 then ppsFall d else d

/-- The bytes of a text. -/
def textBytes (s : String) : List Byte := s.toList.map (fun c => BitVec.ofNat 8 c.toNat)

/-- A number in decimal, signed; a byte in two upper-case hexadecimal digits. -/
def decText (x : Int) : List Byte := textBytes (if x < 0 then "-" ++ Nat.repr x.natAbs else Nat.repr x.natAbs)
def hexByte (x : Nat) : List Byte :=
  [x / 16 % 16, x % 16].map (fun n => BitVec.ofNat 8 (if n < 10 then 48 + n else 55 + n))

/-- Code of a servo state (R423). -/
def servoCode : Servo → Nat
  | .free => 0
  | .acquiring => 1
  | .locked => 2
  | .holdover => 3

/-- A value of type S48 (R499). -/
def dictSigned (d : Dev) (index sub : Nat) (dflt : Int) : Int :=
  match aget d.dict (index * 256 + sub) with
  | none => dflt
  | some bs => signedField 48 (bytesToNat bs % 2 ^ 48)

/-- The serial time message of an edge (R430). -/
def timeText (d : Dev) (s : Nat) : List Byte :=
  let body := textBytes "PLTOD," ++ decText s ++ textBytes "," ++ decText (dictSigned d 0x6000 7 0) ++ textBytes "," ++
    decText (servoCode d.lc.servo) ++ textBytes "," ++ decText (d.lc.steps.toNat % 100)
  let check := body.foldl (fun a b => a ^^^ b.toNat) 0
  textBytes "$" ++ body ++ textBytes "*" ++ hexByte check ++ [0x0D, 0x0A]

/-- PLTOD_MESSAGE: 10 ms after the edge (R418, R430). -/
def pltod (d : Dev) : Dev :=
  match d.lc.todDue with
  | some s =>
    if d.now < d.lc.ppsAt + 10 * Config.ms then d else
    let d' := modLc (fun l => { l with todDue := none }) d
    if fld d fLT_CTRL_TOD_EN 0 = 1 ∧ d.lc.valid then emit (.timeMessage (timeText d s)) d' else d'
  | none => d

/-- LT_NOW_NS read: its value, and the latches of the same instant (R437). -/
def longcaseNow (d : Dev) : Dev :=
  let v := ltNow d
  let (s, n, f) := ltSplit v
  emit (.barRead (regOffset .ltNowNs 0) (BitVec.ofNat 48 (f * 2 ^ 32 + n)))
    (modLc (fun l => { l with latchSec := BitVec.ofNat 48 s, latchNs32 := BitVec.ofNat 48 (ns32 v).1, latchSteps := l.steps }) d)

/-! ## Meanings -/

/-- HELD_TOD_DUE. -/
def execHeldTodDue (t : Time) (s : State) : Out := at_ t heldTodDue s

/-- OFFSET_TIMEOUT. -/
def execOffsetTimeout (t : Time) (s : State) : Out := at_ t offsetTimeout s

/-- SOFTWARE_OFFSET. -/
def execSoftwareOffset (t : Time) (v : Word) (s : State) : Out := at_ t (softwareOffset v) s

/-- SET. -/
def execSet (t : Time) (v : Word) (s : State) : Out := at_ t (ltCmd v) s

/-- SET_LOAD. -/
def execSetLoad (t : Time) (s : State) : Out := at_ t setLoad s

/-- PPS_PULSE. -/
def execPpsPulse (t : Time) (s : State) : Out := at_ t ppsPulse s

/-- PPS_WIDTH_END. -/
def execPpsWidthEnd (t : Time) (s : State) : Out := at_ t ppsEnd s

/-- PLTOD_MESSAGE. -/
def execPltodMessage (t : Time) (s : State) : Out := at_ t pltod s

/-- LONGCASE_NOW_READ. -/
def execLongcaseNowRead (t : Time) (s : State) : Out := at_ t longcaseNow s

end Sys2Proof.Machine
end

