-- ==== Sys2Proof/Machine/Line.lean ====
section
/-!
DEFINITION. Machine/Line.lean: received frames, defects, channels up and down, and dual-feeder protection (R36 to R81, R420,
R650): the meanings of their commands.
-/

namespace Sys2Proof.Machine

/-! ## Channels up and down (R36, R66) -/

/-- A lane is in Sync. -/
def laneSync (d : Dev) (ch : Nat) (laneB : Bool) : Bool := (laneOf (chan d ch) laneB).al.align == .sync

/-- What makes a channel up (R36). -/
def chanGood (d : Dev) (ch : Nat) : Bool :=
  let c := chan d ch
  chanEnabled d ch && laneSync d ch false && laneSync d ch true && c.deskewed && !c.skewDefect &&
    !c.laneA.al.mismatch && !c.laneB.al.mismatch

/-- A channel goes down (R66); the management data that lane A has brought stays for its frame boundary (R389). -/
def chanFall (ch : Nat) (d : Dev) : Dev :=
  let d := raise fLC_EVENT_CHAN_DOWN ch (modChan ch (fun c => { c with
    up := false, upFrames := 0, overhead := c.overhead.map (fun o => { o with area := none }) }) d)
  ltEval (actOnDown (abandonGrants (fun g => g.ch == ch) d))

/-- A channel's state looked at again (R36). -/
def chanEval (ch : Nat) (d : Dev) : Dev :=
  if chanGood d ch = chanUp d ch then d
  else if chanGood d ch then actOnUp (modChan ch (fun c => { c with up := true, upFrames := 0 }) d)
  else chanFall ch d

/-! ## Protection (R70 to R76, R650) -/

/-- Automatic switching is allowed. -/
def protAuto (d : Dev) : Bool := fld d fPROT_CTRL_ENABLE 0 == 1 && fld d fPROT_CTRL_LOCKOUT 0 == 0

/-- A channel in LOS or LOF, or in signal degrade where that counts (R64, R71). (DEDUCED, log entry 25) -/
def chanBad (d : Dev) (ch : Nat) : Bool :=
  !laneSync d ch false || !laneSync d ch true || (fld d fPROT_CTRL_SD_TRIG 0 == 1 && (chan d ch).sd)

/-- The condition for automatic switching (R71): disabled channels are left out (R80). -/
def protFault (d : Dev) : Bool := !(enabledChans d).isEmpty && (enabledChans d).all (chanBad d)

/-- The protection switch changed. -/
def modProt (f : Prot → Prot) (d : Dev) : Dev := { d with prot := f d.prot }

/-- Hold-off and settle times (R78). -/
def holdoffTime (d : Dev) : Nat := min (fld d fPROT_CTRL_HOLDOFF 0) 400 * Config.frame
def settleTime (d : Dev) : Nat := min (fld d fPROT_CTRL_SETTLE 0) 80 * Config.frame

/-- The switch is over, or was none (R650): the Firescreen ends its hold on its own view. -/
def protNormal (d : Dev) : Dev :=
  protHoldEnd (modProt (fun p => { p with state := .normal, checking := false, atStart := false }) d)

/-- An enabled channel has been up for 8 successive frames (R69). -/
def upEight (d : Dev) : Bool := (enabledChans d).any (fun n => chanUp d n && decide (8 ≤ (chan d n).upFrames))

/-- Protection looked at again after anything it depends on has changed (R71, R73, R75, R76, R650).
(DESIGN CHOICE, log entry 198) -/
def protEval (d : Dev) : Dev :=
  if d.prot.settling then d
  else
    let fault := protAuto d && protFault d
    let holdoff := fun d => protHold false (modProt (fun p => { p with state := .holdoff, due := d.now + holdoffTime d }) d)
    match d.prot.state with
    | .normal =>
      if d.prot.atStart then (if anyUp d then protNormal d else d) else if fault then holdoff d else d
    | .holdoff => if fault then d else protNormal d
    | .alternating => if anyUp d || !protAuto d then protNormal d else d
    | .resync => if upEight d then protNormal d else if fault && !d.prot.checking then holdoff d else d
    | .settle => d

/-- A lane leaves Sync or Presync for Hunt at a toggle (R72). -/
def laneRehunt (l : LaneRx) : LaneRx :=
  if l.al.align = .los then l
  else { l with al := { l.al with align := .hunt, cands := [], errRun := 0 }, syncAt := none, held := [], nextWord := 0,
                delin := .sync, chained := 0 }

/-- Every lane of a channel to Hunt, the channel down (R72). -/
def chanRehunt (ch : Nat) (d : Dev) : Dev :=
  let a := laneSync d ch false
  let b := laneSync d ch true
  let d := raiseIf b fLC_EVENT_LOF_B ch (raiseIf a fLC_EVENT_LOF_A ch
    (modChan ch (fun c => { c with laneA := laneRehunt c.laneA, laneB := laneRehunt c.laneB, deskewed := false, skewGood := 0 }) d))
  chanEval ch d

/-- PROT_SEL changes: steps 1 to 3 of R72, the bonding release of R103 and the awaited ranging grant (R143).
(DEDUCED, log entry 27) -/
def toggle (cause : Option (BitVec 2)) (st : ProtState) (d : Dev) : Dev :=
  let sel := !d.prot.sel
  let d := modProt (fun p => { p with
    state := st, cause := cause.getD p.cause, sel := sel, chestPath := sel, settling := true,
    settleDue := d.now + settleTime d, checking := false, atStart := false }) d
  let d := protHold true (emit (.protSel sel) (count .protToggles 0 d))
  let d := (enabledChans d).foldl (fun d n => chanRehunt n d) d
  releaseFlows { d with act := { d.act with ranging := none } }

/-- A receive lane of a channel has its signal and its line lane is Active. -/
def signalGood (c : Chan) (l : LaneRx) : Bool := !c.rxlos && !l.noSignal

/-- The end of the settle time: LOS counts again, and lanes with signal hunt (R72). -/
def settleLane (c : Chan) (l : LaneRx) : LaneRx :=
  if signalGood c l then (if l.al.align = .los then { l with al := { l.al with align := .hunt, cands := [] } } else l)
  else { l with al := { l.al with align := .los, cands := [] } }

/-- SETTLE_END (R72, R73). -/
def settleEnd (d : Dev) : Dev :=
  if d.prot.settling ∧ d.prot.settleDue ≤ d.now then
    let los := fun (n : Nat) (b : Bool) => !signalGood (chan d n) (laneOf (chan d n) b) && (laneOf (chan d n) b).al.align != .los
    let d := (enabledChans d).foldl (fun d n =>
      raiseIf (los n true) fLC_EVENT_LOS_B n (raiseIf (los n false) fLC_EVENT_LOS_A n
        (modChan n (fun c => { c with laneA := settleLane c c.laneA, laneB := settleLane c c.laneB }) d))) d
    let d := modProt (fun p =>
      if p.state = .settle then
        { p with settling := false, state := .resync, checking := true, checkDue := p.settleDue + 100 * Config.ms }
      else { p with settling := false }) d
    protEval (protPathAnew d)
  else d

/-- A toggle of the alternation, with its dwell of 1 s (R73). -/
def alternate (d : Dev) : Dev :=
  toggle (some 1) .alternating (modProt (fun p => { p with due := d.now + Config.sec }) d)

/-- HOLDOFF_EXPIRY (R71). -/
def holdoffExpiry (d : Dev) : Dev :=
  if d.prot.state = .holdoff ∧ d.prot.due ≤ d.now then
    if protAuto d && protFault d then toggle (some 1) .settle d else protNormal d
  else d

/-- PROTECTION_CHECK_EXPIRY: 100 ms after the settle, or after a start (R73, R76, R650). -/
def checkExpiry (d : Dev) : Dev :=
  if d.prot.checking ∧ d.prot.checkDue ≤ d.now then
    let d := modProt (fun p => { p with checking := false, atStart := false }) d
    if anyUp d then protEval d
    else if protAuto d then alternate d
    else protNormal d
  else d

/-- ALTERNATION_DWELL_EXPIRY (R73). -/
def dwellExpiry (d : Dev) : Dev :=
  if d.prot.state = .alternating ∧ d.prot.due ≤ d.now ∧ ¬ anyUp d ∧ protAuto d then alternate d else d

/-- A command to a path, 0 working, 1 protection (R75): its result. -/
def protCommand (path : Bool) (cause : BitVec 2) (d : Dev) : Nat × Dev :=
  if fld d fPROT_CTRL_ENABLE 0 = 0 then (3, d)
  else if path = d.prot.sel then (0, d)
  else (0, toggle (some cause) .settle d)

/-- Protection has been enabled or disabled (R70, R75). -/
def protEnableChanged (was : Bool) (cause : BitVec 2) (d : Dev) : Dev :=
  if was ∧ fld d fPROT_CTRL_ENABLE 0 = 0 then
    if d.prot.sel then toggle (some cause) .settle d else d
  else d

/-- A write of PROT_CTRL's settings, the host's or a commit's (R78, R79). -/
def protSettings (f : Dev → Dev) (cause : BitVec 2) (d : Dev) : Dev :=
  let was := fld d fPROT_CTRL_ENABLE 0 == 1
  protEval (protEnableChanged was cause (f d))

/-- PROT_CTRL written by the host: its settings, then its command (R78). -/
def protCtrlWrite (v : Word) (d : Dev) : Dev :=
  let d := protSettings (storeWrite .protCtrl 0 v) 3 d
  match bitsOf v.toNat 5 4 with
  | 1 => (protCommand false 3 d).2
  | 2 => (protCommand true 3 d).2
  | _ => d

/-- The first hunt after a start with protection enabled: on the path that the Chest records (R76).
(DEDUCED, log entry 26) -/
def protStart (d : Dev) : Dev :=
  if fld d fPROT_CTRL_ENABLE 0 = 1 then
    let d' := modProt (fun p => { p with
      sel := p.chestPath, atStart := true, checking := true, checkDue := d.now + 100 * Config.ms }) d
    if d.prot.chestPath ∧ ¬ d.prot.sel then emit (.protSel true) d' else d'
  else d

/-! ## Loss of signal (R35, R48, R61) -/

/-- A lane enters LOS, unless a settle time runs (R61, R72). -/
def laneLos (ch : Nat) (laneB : Bool) (d : Dev) : Dev :=
  if d.prot.settling ∨ (laneOf (chan d ch) laneB).al.align = .los then d
  else
    let left := laneSync d ch laneB
    let d := modLane ch laneB (fun l => { laneRehunt l with al := { l.al with align := .los, cands := [], errRun := 0 } }) d
    let d := modChan ch (fun c => { c with deskewed := false, skewGood := 0 }) d
    let d := raiseIf left (if laneB then fLC_EVENT_LOF_B else fLC_EVENT_LOF_A) ch d
    chanEval ch (raise (if laneB then fLC_EVENT_LOS_B else fLC_EVENT_LOS_A) ch d)

/-- A lane has lost its signal or its lock. -/
def laneNoSignal (ch : Nat) (laneB : Bool) (d : Dev) : Dev :=
  laneLos ch laneB (modLane ch laneB (fun l => { l with noSignal := true }) d)

/-- LOS_ENTERED (R35, R61). (DEDUCED, log entry 28) -/
def losEntered (ch : Nat) (c : LosCause) (d : Dev) : Dev :=
  if !chanPresent d ch then d
  else protEval (match c with
    | .rxlos => laneLos ch true (laneLos ch false (modChan ch (fun c => { c with rxlos := true }) d))
    | .noLock l => laneNoSignal ch (l == .b) d
    | .noTransitions l => laneNoSignal ch (l == .b) d)

/-- Bring-up state of a receive lane (R227); the key of a lane in the list of lanes. -/
def rxKey (ch : Nat) (laneB : Bool) : Nat := 96 + 2 * ch + laneB.toNat
def txKey (ch : Nat) (laneB : Bool) : Nat := 128 + 2 * ch + laneB.toNat

/-- LOS_LEFT: LCn_RXLOS low and the CDR locked for 125 µs; a receive lane that is not Active has no lock (R61, R232).
(DEDUCED, log entry 36) -/
def losLeft (ch : Nat) (laneB : Bool) (d : Dev) : Dev :=
  if !chanPresent d ch || (serial d (rxKey ch laneB)).st != 6 then d
  else
    let d := modChan ch (fun c => { c with rxlos := false }) (modLane ch laneB (fun l => { l with noSignal := false }) d)
    if d.prot.settling ∨ (laneOf (chan d ch) laneB).al.align ≠ .los then d
    else protEval (modLane ch laneB (fun l => { l with al := { l.al with align := .hunt, cands := [] } }) d)

/-! ## A frame (R37 to R62) -/

/-- FEC of a frame: its corrections and uncorrectable codewords counted (R45, R61). -/
def frameFec (ch : Nat) (laneB inv : Bool) (cws : List RxCodeword) (d : Dev) : Dev :=
  let sc := laneScope ch laneB
  let rs := cws.map (decodeCodeword inv)
  let bad := (rs.filter (fun r => r.1.isNone)).length
  let fixed := rs.filter (fun r => r.1.isSome && decide (0 < r.2))
  let d := countN .fecCorrectedSymbols sc (fixed.foldl (fun a r => a + r.2) 0) d
  let d := countN .fecUncorrectable sc bad (countN .fecCorrectedCodewords sc fixed.length d)
  modLane ch laneB (fun l => { l with ueNow := l.ueNow + bad }) d

/-- AIS and RDI of a valid lane A header (R61 to R63). -/
def aisRdi (ch h : Nat) (d : Dev) : Dev :=
  let c := chan d ch
  let (ais, ar, ai) := runDefect c.ais (hdrAis h) c.aisRun
  let (rdi, rr, ri) := runDefect c.rdi (hdrRdi h) c.rdiRun
  raiseIf ri fLC_EVENT_RDI_IN ch (raiseIf ai fLC_EVENT_AIS_IN ch
    (modChan ch (fun c => { c with ais := ais, aisRun := ar, rdi := rdi, rdiRun := rr }) d))

/-- The skew of the lanes' latest pair of frames (R54, R55). -/
def skewPair (ch : Nat) (d : Dev) : Dev :=
  let c := chan d ch
  match c.laneA.syncAt, c.laneB.syncAt with
  | some a, some b =>
    let late := decide (a < b)
    let diff := if late then b - a else a - b
    if 2 * diff ≥ Config.frame then d
    else
      let good := decide (diff ≤ 64 * Config.symbol) && c.laneA.al.fc == c.laneB.al.fc
      let run := if good then c.skewGood + 1 else 0
      let defect := if good then c.skewDefect && decide (run < 8) else true
      raiseIf (defect && !c.skewDefect) fLC_EVENT_SKEW_IN ch (modChan ch (fun c => { c with
        skew := min 127 (diff / Config.symbol), bLate := late, skewDefect := defect, skewGood := run, deskewed := good }) d)
  | _, _ => d

/-- A frame counter that is not the previous one plus one (R53); on the home channel's lane A Longcase's record goes, and a held
message with it (R420, R439). -/
def fcJump (ch : Nat) (d : Dev) : Dev :=
  let d := raise fLC_EVENT_FC_JUMP ch d
  if isHome d ch then
    let d := if d.lc.heldTod.isSome then todDiscard d else d
    { d with lc := { d.lc with history := d.lc.history.map (fun h => { h with usable := false }), heldTod := none } }
  else d

/-- A frame of the home channel recorded by Longcase, 64 at most (R420). -/
def recordFrame (ch : Nat) (fc : Word) (t0 : Time) (ok : Bool) (d : Dev) : Dev :=
  let h : HistFrame := ⟨fc, ltAt d t0, delayFor d (pathNow d) fc, ok && chanUp d ch && pathRanged d (pathNow d)⟩
  { d with lc := { d.lc with history := (h :: d.lc.history).take 64 } }

/-- Where the areas of a lane A frame lie, and whether its map may be read (R53, R57). -/
structure FrameAreas where
  mapLen : Nat
  trib : Bool
  /-- The map entries count. -/
  useMap : Bool
  /-- Nothing after the sync block is used. -/
  discard : Bool
  headerBad : Bool

/-- The areas of a frame by its header as it passed the checks, by the previous values otherwise (R53). -/
def areasOf (ch : Nat) (laneB : Bool) (l : LaneRx) (v : Option Nat) : FrameAreas :=
  match v with
  | none => ⟨l.mapLen, l.trib, false, false, true⟩
  | some h =>
    if !rightHeader ch laneB h then ⟨l.mapLen, l.trib, false, true, false⟩
    else if laneB then ⟨0, false, false, false, false⟩
    else if 1024 < hdrMapLen h then ⟨l.mapLen, l.trib, false, true, false⟩
    else ⟨hdrMapLen h, hdrTrib h, true, false, false⟩

/-- The sync block of a frame in Sync: header, counter, defects and quality (R43, R53, R61). -/
def syncBlock (f : LineFrame) (inv steady : Bool) (d : Dev) : Dev :=
  let ch : Nat := f.ch
  let laneB := f.lane == .b
  let l := laneOf (chan d ch) laneB
  let v := validHeader (headerAt inv f.sightings l.al)
  let a := headerFrame ch laneB v l.al
  let ar := areasOf ch laneB l v
  let jump := match v with
    | some h => steady && rightHeader ch laneB h && BitVec.ofNat 48 (hdrFc h) != l.al.fc + 1
    | none => false
  let d := if v.isNone then count .headerFailed (laneScope ch laneB) d else d
  let d := match v with
    | some h => if rightHeader ch laneB h ∧ ¬ laneB ∧ 1024 < hdrMapLen h then count .mapLengthErrors (laneScope ch laneB) d else d
    | none => d
  let d := if jump then fcJump ch d else d
  let d := countN .qualityErrors (laneScope ch laneB)
    (qualityErrorsIn (BitVec.ofNat 1954 (unInvert inv 1954 f.quality.toNat))) d
  let was := (chan d ch).laneA.al.mismatch || (chan d ch).laneB.al.mismatch
  let d := raiseIf (a.mismatch && !was) fLC_EVENT_MISMATCH_IN ch (modLane ch laneB (fun l => { l with
    al := a, mapLen := ar.mapLen, trib := ar.trib, headerBad := ar.headerBad, areaDiscard := ar.discard,
    syncAt := some (f.t + a.pos * Config.symbol), delin := .sync, nextWord := 0, held := [], chained := 0 }) d)
  match v with
  | some h => if rightHeader ch laneB h ∧ ¬ laneB then setFld fLC_FRAME_FRAME_COUNT ch (hdrFc h) (aisRdi ch h d) else d
  | none => d

/-- The header of a frame names another channel or lane: nothing of the frame is used (R53). -/
def wrongLane (ch : Nat) (laneB : Bool) (v : Option Nat) : Bool := v.any (fun h => !rightHeader ch laneB h)

/-- Tributary area, of an up channel, and management data, of lane A in Sync, of a home frame whose header v does not name
another lane: kept for the frame boundary (R41, R53, R58, R62, R68, R389). -/
def takeOverhead (f : LineFrame) (inv : Bool) (t0 : Time) (v : Option Nat) (d : Dev) : Dev :=
  let ch : Nat := f.ch
  let l := (chan d ch).laneA
  if isHome d ch then
    modChan ch (fun c => { c with overhead := (({
      at_ := t0,
      area := if l.trib && c.up && !c.ais && !l.areaDiscard then
          some (areaBits ch 0 l.al.fc.toNat inv f.codewords (mapCodewords l.mapLen) 2)
        else none,
      md := if c.ais || wrongLane ch false v then none else some (BitVec.ofNat 96 (unInvert inv 96 f.md.toNat)) } :
        Overhead) :: c.overhead).take 2 }) d
  else d

/-- LINE_FRAME_RECEIVED (R48 to R58). (DEDUCED, log entry 22) -/
def lineFrame (f : LineFrame) (d : Dev) : Dev :=
  let ch : Nat := f.ch
  let laneB := f.lane == .b
  let l := laneOf (chan d ch) laneB
  if !chanEnabled d ch || d.prot.settling || l.al.align == .los || !engineRuns d then d
  else
    let inv := fld d (if laneB then fLC_CTRL_RX_INV_B else fLC_CTRL_RX_INV_A) ch == 1
    let (a, errored) := alignFrame (fld d fLC_CTRL_ALIGN_N ch) (fld d fLC_CTRL_ALIGN_M ch) (foundSights inv f.sightings) l.al
    let d := if errored then count .erroredPatterns (laneScope ch laneB) d else d
    let steady := l.al.align == .sync
    let d := areaEnd ch laneB d
    let d := modLane ch laneB (fun l => { l with al := a }) d
    if a.align ≠ .sync then
      let d := modLane ch laneB laneRehuntKeep d
      let d := modChan ch (fun c => { c with deskewed := false, skewGood := 0 }) d
      protEval (chanEval ch (raiseIf steady (if laneB then fLC_EVENT_LOF_B else fLC_EVENT_LOF_A) ch d))
    else
      let d := skewPair ch (frameFec ch laneB inv f.codewords (syncBlock f inv steady d))
      let was := chanUp d ch
      let d := chanEval ch d
      if laneB then protEval d
      else
        let d := if was && chanUp d ch then modChan ch (fun c => { c with upFrames := c.upFrames + 1 }) d else d
        let l := (chan d ch).laneA
        let v := validHeader (headerAt inv f.sightings l.al)
        let t0 := f.t + a.pos * Config.symbol
        let d := if isHome d ch then recordFrame ch l.al.fc t0 (v.isSome && !wrongLane ch false v) d else d
        let d := takeOverhead f inv t0 v (protEval d)
        if v.isSome && !l.areaDiscard then
          takeMap ch l.al.fc t0 (areaWords (areaBits ch 0 l.al.fc.toNat inv f.codewords 0 (mapCodewords l.mapLen)) l.mapLen) d
        else d
where
  /-- What a lane out of Sync no longer has. -/
  laneRehuntKeep (l : LaneRx) : LaneRx := { l with syncAt := none, held := [], nextWord := 0, delin := .sync, chained := 0 }

/-! ## Signal degrade (R61) -/

/-- One channel at a frame boundary: the windows slide, and signal degrade is entered or left. -/
def sdBoundary (ch : Nat) (d : Dev) : Dev :=
  let c := chan d ch
  let slide := fun (l : LaneRx) => { l with ueHist := (l.ueNow :: l.ueHist).take 8, ueNow := 0 }
  let a := slide c.laneA
  let b := slide c.laneB
  let th := fld d fLC_SD_SD_THRESH ch
  let c' := { c with laneA := a, laneB := b }
  if c.sd then
    let sa := c.sdSumA + c.laneA.ueNow
    let sb := c.sdSumB + c.laneB.ueNow
    if c.sdFrames + 1 < 8 then
      modChan ch (fun _ => { c' with sdFrames := c.sdFrames + 1, sdSumA := sa, sdSumB := sb }) d
    else
      let good := if 2 * sa < th ∧ 2 * sb < th then c.sdGood + 1 else 0
      modChan ch (fun _ => { c' with
        sdFrames := 0, sdSumA := 0, sdSumB := 0, sdGood := if good < 8 then good else 0, sd := decide (good < 8) }) d
  else
    let sum := fun (l : LaneRx) => l.ueHist.foldl (· + ·) 0
    if th < sum a ∨ th < sum b then
      raise fLC_EVENT_SD_IN ch (modChan ch (fun _ => { c' with sd := true, sdFrames := 0, sdSumA := 0, sdSumB := 0, sdGood := 0 }) d)
    else modChan ch (fun _ => c') d

/-- Signal degrade of every enabled channel at a frame boundary (R61). -/
def sdAll (d : Dev) : Dev := protEval ((enabledChans d).foldl (fun d n => sdBoundary n d) d)

/-! ## Meanings -/

/-- LINE_FRAME_RECEIVED. -/
def execLineFrameReceived (f : LineFrame) (s : State) : Out := at_ f.t (lineFrame f) s

/-- LOS_ENTERED. -/
def execLosEntered (t : Time) (ch : Fin 16) (c : LosCause) (s : State) : Out := at_ t (losEntered ch c) s

/-- LOS_LEFT. -/
def execLosLeft (t : Time) (ch : Fin 16) (lane : Lane) (s : State) : Out := at_ t (losLeft ch (lane == .b)) s

/-- HOLDOFF_EXPIRY. -/
def execHoldoffExpiry (t : Time) (s : State) : Out := at_ t holdoffExpiry s

/-- SETTLE_END. -/
def execSettleEnd (t : Time) (s : State) : Out := at_ t settleEnd s

/-- PROTECTION_CHECK_EXPIRY. -/
def execProtectionCheckExpiry (t : Time) (s : State) : Out := at_ t checkExpiry s

/-- ALTERNATION_DWELL_EXPIRY. -/
def execAlternationDwellExpiry (t : Time) (s : State) : Out := at_ t dwellExpiry s

/-- SWITCH_TO_WORKING: the PROT_CTRL write that carries it. -/
def execSwitchToWorking (t : Time) (v : Word) (s : State) : Out := at_ t (protCtrlWrite v) s

/-- SWITCH_TO_PROTECTION: the PROT_CTRL write that carries it. -/
def execSwitchToProtection (t : Time) (v : Word) (s : State) : Out := at_ t (protCtrlWrite v) s

end Sys2Proof.Machine
end

