-- ==== Sys2Proof/Machine/Lanes.lean ====
section
/-!
DEFINITION. Machine/Lanes.lean: bring-up of the serial lanes and the lane test unit (R222 to R240, R250 to R252): the
meanings of their commands.
-/

namespace Sys2Proof.Machine

/-! ## Lanes -/

/-- Key of a lane. -/
def laneKey : LaneId → Nat
  | .drop n => n
  | .lineRx c l => rxKey c (l == .b)
  | .lineTx c l => txKey c (l == .b)

/-- A lane's key with, on the line, its partner's of the same letter (R230). (DEDUCED, log entry 37) -/
def lanePair (k : Nat) : List Nat :=
  if k < 96 then [k] else if k < 128 then [k, k + 32] else [k - 32, k]

/-- A line receive lane. -/
def isRx (k : Nat) : Bool := decide (96 ≤ k) && decide (k < 128)

/-- The lane's port or channel is present and its domain runs: a test may start (R240). -/
def lanePowered (d : Dev) (k : Nat) : Bool :=
  if k < 96 then decide (k < d.part.ports) && pdOn d (28 + k / 8)
  else chanPresent d (keyChan k) && pdOn d (12 + keyChan k)

/-- A drop port is up (R250). -/
def linkUp (d : Dev) (n : Nat) : Bool := (serial d n).st == 6

/-- A drop port that comes up by full training: CR1 and KR1 at 100 Gbit/s (R224, R227). -/
def fullTraining (d : Dev) (n : Nat) : Bool :=
  fld d fDP_CTRL_SPEED n == 3 && (fld d fDP_CTRL_IFTYPE n == 2 || fld d fDP_CTRL_IFTYPE n == 3)

/-- A lane is put into a state; one that leaves or enters Active takes its link or its channel's lane with it (R229,
R232, R250). -/
def setLaneState (k st : Nat) (f : SerialLane → SerialLane) (d : Dev) : Dev :=
  let was := (serial d k).st
  let d := modSerial k (fun l => { f l with st := st }) d
  if was = 6 ∧ st ≠ 6 then
    if k < 96 then raise fDP_EVENT_LINK_DOWN k (count .linkDowns k d)
    else if isRx k then protEval (laneNoSignal (keyChan k) (keyB k) (count .linkDowns k d))
    else d
  else if was ≠ 6 ∧ st = 6 ∧ k < 96 then raise fDP_EVENT_LINK_UP k d
  else d

/-- A lane, and on the line its partner where it is in the same state, goes from one state to another (R230). -/
def moveLane (k a b : Nat) (f : SerialLane → SerialLane) (d : Dev) : Dev :=
  (lanePair k).foldl (fun d x => if (serial d x).st = a then setLaneState x b f d else d) d

/-- Detect, after a quiet period where the table asks for one (R228). -/
def toDetect (k a : Nat) (quiet : Bool) (d : Dev) : Dev :=
  moveLane k a 1 (fun l => { l with quiet := quiet, relock := false }) d

/-- A lane that is not in Test is Off where it is disabled or unpowered, and out of Off where it is enabled and powered
(R228). -/
def laneRefresh (k : Nat) (d : Dev) : Dev :=
  let st := (serial d k).st
  if st = 7 then d
  else if laneOn d k then (if st = 0 then setLaneState k 1 (fun _ => {}) d else d)
  else if st = 0 then d else setLaneState k 0 (fun _ => {}) d

/-- Every lane of the part looked at again. -/
def lanesRefresh (d : Dev) : Dev := (List.range 160).foldl (fun d k => laneRefresh k d) d

/-- A change of speed, interface or FEC: through Off to a full bring-up (R249). -/
def laneRestart (k : Nat) (d : Dev) : Dev :=
  let st := (serial d k).st
  if st = 7 ∨ st = 0 then d else setLaneState k 1 (fun _ => {}) d

/-! ## Patterns (R34, R234) -/

/-- Taps of a pattern's generator, by its register's length and the stages that are added (R234). -/
def patternTaps : Nat → Nat × List Nat
  | 0 => (7, [7, 6])
  | 1 => (9, [9, 5])
  | 2 | 6 => (13, [13, 12, 2, 1])
  | 3 => (15, [15, 14])
  | 4 => (23, [23, 18])
  | _ => (31, [31, 28])

/-- n bits of a generator from a state, stage 1 the lowest bit. -/
def prbsBits (taps : Nat × List Nat) : Nat → Nat → List Bool
  | 0, _ => []
  | n + 1, s =>
    let b := taps.2.foldl (fun a k => a != s.testBit (k - 1)) false
    b :: prbsBits taps n ((2 * s + b.toNat) % 2 ^ taps.1)

/-- The first n bits of a pattern: its generator starts from all ones (R234). -/
def patternBits (code n : Nat) : List Bool := prbsBits (patternTaps code) n (2 ^ (patternTaps code).1 - 1)

/-- PAM4 level of a bit pair (R34). -/
def pamLevel (hi lo : Bool) : Nat :=
  match hi, lo with
  | false, false => 0
  | false, true => 1
  | true, true => 2
  | true, false => 3

/-- Bits on a lane as levels: in pairs by R34 on PAM4, 0 and 3 on NRZ; inverted polarity exchanges the levels from end to end
(R34, R234, R250). -/
def laneLevels (pam inv : Bool) : List Bool → List Nat
  | a :: b :: l =>
    let turn := fun (x : Nat) => if inv then 3 - x else x
    if pam then turn (pamLevel a b) :: laneLevels pam inv l
    else turn (if a then 3 else 0) :: turn (if b then 3 else 0) :: laneLevels pam inv l
  | _ => []

/-! ## Bring-up (R226 to R230) -/

/-- A lane's training frames begin: PRBS13Q from the lane's seed (R34, R230). (DESIGN CHOICE, log entry 195) -/
def trainLane (x : Nat) (d : Dev) : Dev :=
  let seed := Config.trainingSeed x
  emit (.trainingFrames x seed (laneLevels true false (prbsBits (patternTaps 6) 128 seed.toNat))) d

/-- A lane, with its partner, goes to Train from a state: the transmitting ones of them send training frames (R228, R230). -/
def toTrain (k a : Nat) (f : SerialLane → SerialLane) (d : Dev) : Dev :=
  ((lanePair k).filter (fun x => (serial d x).st == a && !isRx x)).foldl (fun d x => trainLane x d) (moveLane k a 3 f d)

/-- Signal for 1 ms in Detect; a port that negotiates advertises its one ability (R226, R228). -/
def signalDetected (k : Nat) (d : Dev) : Dev :=
  if (serial d k).st ≠ 1 ∨ (serial d k).quiet then d
  else if 96 ≤ k then toTrain k 1 id d
  else if fullTraining d k then emit (.advertise k (fld d fDP_CTRL_IFTYPE k) true false) (moveLane k 1 2 id d)
  else moveLane k 1 4 id d

/-- Clause 73 resolves the configured ability. -/
def negotiated (k : Nat) (d : Dev) : Dev := toTrain k 2 (fun l => { l with noHcd := false }) d

/-- The partner advertises no matching ability: the port stays in auto-negotiation (R226). -/
def negotiationFailed (k : Nat) (d : Dev) : Dev :=
  if (serial d k).st = 2 then
    raise fDP_EVENT_TRAIN_FAIL k (count .negotiationFails k (modSerial k (fun l => { l with noHcd := true }) d))
  else d

/-- A counted failure of a drop lane shows TRAIN_FAIL. (DEDUCED, log entry 38) -/
def trainFail (c : CName) (k : Nat) (d : Dev) : Dev :=
  let d := count c k d
  if k < 96 then raise fDP_EVENT_TRAIN_FAIL k d else d

/-- Training complete at both ends; a line pair trains while LCn_BEN is low (R230). -/
def trained (k : Nat) (ptx prx : Bool) (d : Dev) : Dev :=
  if 96 ≤ k ∧ (fsChan d (keyChan k)).ben then d
  else moveLane k 3 4 (fun l => { l with precodeTx := ptx, precodeRx := prx, relock := false }) d

/-- TRAIN_TIMEOUT. -/
def trainTimeout (k : Nat) (d : Dev) : Dev :=
  if (serial d k).st = 3 then trainFail .trainFails k (toDetect k 3 true d) else d

/-- Lock achieved: Active after a blind start or a relock, Exchange after training. -/
def laneLocked (k : Nat) (d : Dev) : Dev :=
  if (serial d k).st ≠ 4 then d
  else if (serial d k).relock ∨ (k < 96 ∧ ¬ fullTraining d k) then moveLane k 4 6 (fun l => { l with relock := false }) d
  else moveLane k 4 5 id d

/-- No lock within 10 ms; a relocking lane waits for its signal instead (R229). -/
def lockTimeout (k : Nat) (d : Dev) : Dev :=
  if (serial d k).st ≠ 4 ∨ (serial d k).relock then d
  else trainFail .lockFails k (toDetect k 4 (decide (96 ≤ k) || fullTraining d k) d)

/-- Receiver-ready at both ends. -/
def exchanged (k : Nat) (d : Dev) : Dev := moveLane k 5 6 id d

/-- The exchange not completed within 10 ms. -/
def exchangeTimeout (k : Nat) (d : Dev) : Dev := toDetect k 5 true d

/-- The quiet period ends. -/
def quietEnd (k : Nat) (d : Dev) : Dev :=
  (lanePair k).foldl (fun d x => modSerial x (fun l => { l with quiet := false }) d) d

/-- An Active lane loses signal or lock (R229). -/
def signalLost (k : Nat) (d : Dev) : Dev :=
  if (serial d k).st ≠ 6 then d
  else if k < 96 then setLaneState k 1 (fun _ => {}) d
  else if isRx k then setLaneState k 4 (fun l => { l with relock := true }) d
  else d

/-- A line pair retrains from Detect (R229, R251). -/
def retrainPair (k : Nat) (d : Dev) : Dev :=
  (lanePair k).foldl (fun d x =>
    if (serial d x).st = 7 ∨ (serial d x).st = 0 then d else setLaneState x 1 (fun _ => {}) d) d

/-- The signal has been present for 10 ms without lock: the pair retrains (R229). -/
def retrainTimeout (k : Nat) (d : Dev) : Dev :=
  if (serial d k).st = 4 ∧ (serial d k).relock then retrainPair k d else d

/-- LC_LANE.RETRAIN (R251). -/
def retrainChan (ch : Nat) (d : Dev) : Dev :=
  if chanPresent d ch then retrainPair (rxKey ch true) (retrainPair (rxKey ch false) d) else d

/-! ## Lane test (R234 to R240, R252) -/

/-- The lane keys of a lane test block: line blocks test both directions. -/
def testKeys (t : Nat) : List Nat := if t < 96 then [t] else [t, t + 32]

/-- Pattern code p is valid for the lane's coding (R234). -/
def patternOk (d : Dev) (t p : Nat) : Bool := p < 6 || decide (96 ≤ t) || decide (2 ≤ fld d fDP_CTRL_SPEED t)

/-- A lane test command may run: patterns and loopback fit the lane, and a lane that is not in Test can be put there
(R234, R236, R240). (DEDUCED, log entry 35) -/
def testAllowed (d : Dev) (t : Nat) (v : Nat) : Bool :=
  patternOk d t (bitsOf v 11 9) && patternOk d t (bitsOf v 8 6) && !(decide (96 ≤ t) && bitsOf v 5 4 == 2) &&
    (!v.testBit 0 || (serial d t).st == 7 || lanePowered d t)

/-- The lane of a test block is present in the part (R6). -/
def testThere (d : Dev) (t : Nat) : Bool := if t < 96 then decide (t < d.part.ports) else chanPresent d (keyChan t)

/-- The lane runs PAM4. -/
def isPam4 (d : Dev) (t : Nat) : Bool := decide (96 ≤ t) || decide (2 ≤ fld d fDP_CTRL_SPEED t)

/-- What leaves the balls as a test begins or changes: the pattern, data sent back, or nothing in local loopback (R235, R236). -/
def testEmit (t : Nat) (d : Dev) : Dev :=
  let mode := fld d fLNT_CTRL_LOOPBACK t
  if (serial d t).st ≠ 7 ∨ mode = 1 then d
  else if mode = 2 then emit (.retransmit t) d
  else if fld d fLNT_CTRL_GEN_EN t = 0 then d
  else
    let n := if isPam4 d t then 128 else 64
    emit (.testPattern t (laneLevels (isPam4 d t) (decide (t < 96) && fld d fDP_CTRL_TX_INV t == 1)
      (patternBits (fld d fLNT_CTRL_GEN_PAT t) n))) d

/-- The generator's output leaves the balls: in Test, not looped back (R235, R236). -/
def genOut (d : Dev) (t : Nat) : Bool :=
  (serial d t).st == 7 && fld d fLNT_CTRL_GEN_EN t == 1 && fld d fLNT_CTRL_LOOPBACK t != 1 && fld d fLNT_CTRL_LOOPBACK t != 2

/-- A test begins or changes: what leaves the balls, and the rate at which the generator inverts bits there (R236, R239). -/
def testOut (t : Nat) (d : Dev) : Dev :=
  let d := testEmit t d
  let k := fld d fLNT_INJECT_INJECT_RATE t
  if genOut d t ∧ k ≠ 0 then emit (.invertRate t k) d else d

/-- One test counter raised; it stops at its largest value (R238). -/
def testAdd (f : Fld) (t n : Nat) (d : Dev) : Dev :=
  let v := fld d f t + n
  if v < 2 ^ 48 - 1 then setFld f t v d else setFld fLNT_STATUS_SAT t 1 (setFld f t (2 ^ 48 - 1) d)

/-- What a checker counted is added to its counters (R238). -/
def testCounts (t : Nat) (c : LaneCounts) (d : Dev) : Dev :=
  testAdd fLNT_SYMERR_SYMERR t (if 96 ≤ t ∨ 2 ≤ fld d fDP_CTRL_SPEED t then c.symErrors else 0)
    (testAdd fLNT_ERRORS_ERRORS t c.errors (testAdd fLNT_BITS_BITS t c.bits d))

/-- Bits that a lane carries in a time: in 1/2720 bit for each unit of time (R222). -/
def laneBits (d : Dev) (t elapsed : Nat) : Nat :=
  let rate := if 96 ≤ t then 680 else match fld d fDP_CTRL_SPEED t with
    | 0 => 66
    | 1 => 165
    | 2 => 340
    | _ => 680
  elapsed * rate / 2720

/-- The generator reaches the lane's own checker: local loopback, the same pattern, both on (R236). -/
def testLooped (d : Dev) (t : Nat) : Bool :=
  fld d fLNT_CTRL_LOOPBACK t == 1 && fld d fLNT_CTRL_GEN_EN t == 1 && fld d fLNT_CTRL_GEN_PAT t == fld d fLNT_CTRL_CHK_PAT t

/-- Errors found since in a number of compared bits, and the symbols that hold them, on a lane that hears its own generator: those of
the injection rate; on one that hears its partner: free numbers within the bits compared (R238, R239).
(DESIGN CHOICE, log entry 194) -/
def testErrors (t from_ total : Nat) (d : Dev) : (Nat × Nat) × Dev :=
  let k := fld d fLNT_INJECT_INJECT_RATE t
  if fld d fLNT_CTRL_LOOPBACK t = 1 then
    let e := if testLooped d t ∧ k ≠ 0 then total / 2 ^ k - from_ / 2 ^ k else 0
    ((e, e), d)
  else
    let (i, d) := nextFree d
    let (j, d) := nextFree d
    let e := min (total - from_) (Config.freeWord i).toNat
    ((e, max ((e + 1) / 2) (min e (Config.freeWord j).toNat)), d)

/-- The counters brought up to now while the checker is locked: the bits compared since and the errors among them (R238,
R239). -/
def testSync (t : Nat) (d : Dev) : Dev :=
  if fld d fLNT_STATUS_LOCK t = 0 then d
  else
    let l := serial d t
    let total := max l.counted (laneBits d t (d.now - l.lockAt))
    let ((e, s), d) := testErrors t l.counted total d
    modSerial t (fun l => { l with counted := total, injected := l.injected + e, symCounted := l.symCounted + s })
      (testCounts t { bits := total - l.counted, errors := e, symErrors := s } d)

/-- The checker's account of a lock begins anew. -/
def testMark (t : Nat) (d : Dev) : Dev := modSerial t (fun l => { l with lockAt := d.now, counted := 0, injected := 0, symCounted := 0 }) d

/-- What a checker counted in the lock that ends, less what stands in its counters already (R238). -/
def testFinal (t : Nat) (c : LaneCounts) (d : Dev) : Dev :=
  let l := serial d t
  testMark t (testCounts t { bits := c.bits - l.counted, errors := c.errors - l.injected, symErrors := c.symErrors - l.symCounted } d)

/-- START: the counters clear (R238, R252). -/
def testClear (t : Nat) (d : Dev) : Dev :=
  setFld fLNT_STATUS_SAT t 0 (setReg .lntLockloss t 0 (setReg .lntSymerr t 0 (setReg .lntErrors t 0 (setReg .lntBits t 0 d))))

/-- The lane goes to Test (R235). -/
def testEnter (t : Nat) (d : Dev) : Dev :=
  (testKeys t).foldl (fun d k => if (serial d k).st = 7 then d else setLaneState k 7 (fun _ => {}) d) d

/-- The test ends: the lane to Detect, or Off where it is disabled or unpowered (R228, R240). -/
def testLeave (t : Nat) (d : Dev) : Dev :=
  (testKeys t).foldl (fun d k =>
    if (serial d k).st = 7 then laneRefresh k (setLaneState k 1 (fun _ => {}) d) else d) (setFld fLNT_STATUS_LOCK t 0 d)

/-- LT_CTRL written (R234 to R240, R252). (DEDUCED, log entry 39) -/
def testCtrl (t : Nat) (v : Word) (d : Dev) : Dev :=
  if !testThere d t then d
  else if !testAllowed d t v.toNat then setFld fLNT_STATUS_RESULT t 1 d
  else
    let was := reg d .lntCtrl t
    let d := setFld fLNT_STATUS_RESULT t 0 (storeWrite .lntCtrl t v (testSync t d))
    let d := if v.toNat.testBit 3 then testMark t (testClear t d) else d
    let d := if v.toNat.testBit 2 then d else setFld fLNT_STATUS_LOCK t 0 d
    if v.toNat.testBit 0 then
      let d' := testEnter t d
      if (serial d t).st = 7 ∧ reg d .lntCtrl t = was then d' else testOut t d'
    else testLeave t d

/-- The lane is in Test with its checker, or its generator, on. -/
def checking (d : Dev) (t : Nat) : Bool := (serial d t).st == 7 && fld d fLNT_CTRL_CHK_EN t == 1
def generating (d : Dev) (t : Nat) : Bool := (serial d t).st == 7 && fld d fLNT_CTRL_GEN_EN t == 1

/-- One bit inverted; in local loopback it is one error at the lane's own checker (R239, R240). -/
def injectOne (t : Nat) (d : Dev) : Dev :=
  let d := if genOut d t then emit (.inverted t) d else d
  if fld d fLNT_STATUS_LOCK t = 1 ∧ testLooped d t then
    modSerial t (fun l => { l with injected := l.injected + 1, symCounted := l.symCounted + 1 }) (testCounts t { bits := 0, errors := 1, symErrors := 1 } d)
  else d

/-- LT_INJECT written (R239). -/
def testInject (t : Nat) (v : Word) (d : Dev) : Dev :=
  if !testThere d t then d
  else
    let was := fld d fLNT_INJECT_INJECT_RATE t
    let d := storeWrite .lntInject t v (testSync t d)
    let rate := fld d fLNT_INJECT_INJECT_RATE t
    let d := if genOut d t ∧ rate ≠ was then emit (.invertRate t rate) d else d
    if v.toNat.testBit 6 ∧ generating d t then injectOne t d else d

/-- The checker locks (R237). -/
def checkerLock (t : Nat) (d : Dev) : Dev :=
  if checking d t ∧ fld d fLNT_STATUS_LOCK t = 0 then testMark t (setFld fLNT_STATUS_LOCK t 1 d) else d

/-- The checker loses lock (R237). -/
def checkerLoss (t : Nat) (c : LaneCounts) (d : Dev) : Dev :=
  if checking d t ∧ fld d fLNT_STATUS_LOCK t = 1 then
    testAdd fLNT_LOCKLOSS_LOCKLOSS t 1 (setFld fLNT_STATUS_LOCK t 0 (testFinal t c d))
  else d

/-- The test stopped, with what the locked checker counted last (R240). -/
def testStop (t : Nat) (v : Word) (c : LaneCounts) (d : Dev) : Dev :=
  testCtrl t v (if checking d t ∧ fld d fLNT_STATUS_LOCK t = 1 then setFld fLNT_STATUS_LOCK t 0 (testFinal t c d) else d)

/-! ## Meanings -/

/-- LANE_SIGNAL_DETECTED. -/
def execLaneSignalDetected (l : LaneId) (s : State) : Out := onDev (signalDetected (laneKey l)) s

/-- NEGOTIATION_RESOLVED. -/
def execNegotiationResolved (port : Fin 96) (s : State) : Out := onDev (negotiated port) s

/-- NEGOTIATION_FAILURE. -/
def execNegotiationFailure (port : Fin 96) (s : State) : Out := onDev (negotiationFailed port) s

/-- TRAINING_COMPLETE. -/
def execTrainingComplete (l : LaneId) (ptx prx : Bool) (s : State) : Out := onDev (trained (laneKey l) ptx prx) s

/-- TRAIN_TIMEOUT. -/
def execTrainTimeout (l : LaneId) (s : State) : Out := onDev (trainTimeout (laneKey l)) s

/-- LANE_LOCK. -/
def execLaneLock (l : LaneId) (s : State) : Out := onDev (laneLocked (laneKey l)) s

/-- LOCK_TIMEOUT. -/
def execLockTimeout (l : LaneId) (s : State) : Out := onDev (lockTimeout (laneKey l)) s

/-- EXCHANGE_COMPLETE. -/
def execExchangeComplete (l : LaneId) (s : State) : Out := onDev (exchanged (laneKey l)) s

/-- EXCHANGE_TIMEOUT. -/
def execExchangeTimeout (l : LaneId) (s : State) : Out := onDev (exchangeTimeout (laneKey l)) s

/-- QUIET_PERIOD_END. -/
def execQuietPeriodEnd (l : LaneId) (s : State) : Out := onDev (quietEnd (laneKey l)) s

/-- LANE_SIGNAL_LOST. -/
def execLaneSignalLost (t : Time) (l : LaneId) (s : State) : Out := at_ t (signalLost (laneKey l)) s

/-- LINE_RETRAIN_TIMEOUT. -/
def execLineRetrainTimeout (ch : Fin 16) (l : Lane) (s : State) : Out := onDev (retrainTimeout (rxKey ch (l == .b))) s

/-- RETRAIN. -/
def execRetrain (t : Time) (ch : Fin 16) (s : State) : Out := at_ t (retrainChan ch) s

/-- LANE_TEST_START. -/
def execLaneTestStart (t : Time) (lane : Fin 128) (v : Word) (s : State) : Out := at_ t (testCtrl lane v) s

/-- LANE_TEST_STOP. -/
def execLaneTestStop (lane : Fin 128) (v : Word) (c : LaneCounts) (s : State) : Out := onDev (testStop lane v c) s

/-- START. -/
def execStart (lane : Fin 128) (v : Word) (s : State) : Out := onDev (testCtrl lane v) s

/-- INJECT_ONE. -/
def execInjectOne (lane : Fin 128) (v : Word) (s : State) : Out := onDev (testInject lane v) s

/-- CHECKER_LOCK. -/
def execCheckerLock (lane : Fin 128) (s : State) : Out := onDev (checkerLock lane) s

/-- CHECKER_LOCK_LOSS. -/
def execCheckerLockLoss (lane : Fin 128) (c : LaneCounts) (s : State) : Out := onDev (checkerLoss lane c) s

end Sys2Proof.Machine
end

