-- ==== Sys2Proof/Machine/Ports.lean ====
section
/-!
DEFINITION. Machine/Ports.lean: the drop ports' MACs: receive, diversion, flow control, transmit and time-stamps (R241 to
R249, R368, R378, R432 to R436), and the pipelines' inputs (R20, R276): the meanings of their commands.
-/

namespace Sys2Proof.Machine

/-! ## Ports -/

/-- A drop port's MAC. -/
def port (d : Dev) (n : Nat) : Port := agetD d.ports n {}

/-- A drop port's MAC changed. -/
def modPort (n : Nat) (f : Port → Port) (d : Dev) : Dev := { d with ports := aputD d.ports n (f (port d n)) {} }

/-- Bytes in the receive buffer (R243). -/
def rxFill (d : Dev) (n : Nat) : Nat := (port d n).rx.foldl (fun a b => a + b.length) 0

/-- The port takes and sends frames: enabled, its lane Active (R246, R250). -/
def portActive (d : Dev) (n : Nat) : Bool := portEnabled d n && linkUp d n

/-- 512 bit times at the port's speed (R247). -/
def quantum (d : Dev) (n : Nat) : Nat :=
  match fld d fDP_CTRL_SPEED n with
  | 0 => 21760
  | 1 => 8704
  | 2 => 4352
  | _ => 2176

/-! ## Frames out (R246, R248) -/

/-- A frame leaves a port, padded, with its FCS (R246). -/
def sendFrame (n : Nat) (bs : List Byte) (d : Dev) : Dev :=
  let bs := bs ++ List.replicate (60 - bs.length) 0
  let f := bs ++ fcsBytes bs
  emit (.frame n f (fld d fDP_CTRL_TX_INV n == 1)) (countN .txBytes n f.length (count .txFrames n d))

/-- A flow-control frame with the quanta given (R248). (DEDUCED, log entry 66) -/
def pauseFrame (d : Dev) (n quanta : Nat) : List Byte :=
  let head := natToBytes 6 0x0180C2000001 ++ natToBytes 6 (Config.controlAddress n).toNat ++ natToBytes 2 0x8808
  if fld d fDP_MAC_PFC_MODE n = 1 then
    let m := fld d fDP_MAC_PFC_TX_MASK n
    head ++ natToBytes 2 0x0101 ++ natToBytes 2 m ++
      ((List.range 8).map (fun p => natToBytes 2 (if m.testBit p then quanta else 0))).flatten
  else head ++ natToBytes 2 0x0001 ++ natToBytes 2 quanta

/-- An XOFF or an XON sent (R248). -/
def sendPause (n : Nat) (off : Bool) (d : Dev) : Dev :=
  let d := modPort n (fun p => { p with xoff := off, xoffAt := d.now }) d
  if portActive d n then
    let d := count .pauseSent n (sendFrame n (pauseFrame d n (if off then fld d fDP_FC_TX_QUANTA n else 0)) d)
    if off then raise fDP_EVENT_XOFF_SENT n d else d
  else d

/-- Flow control looked at again after the fill or its settings have changed (R248, R249). -/
def flowEval (n : Nat) (d : Dev) : Dev :=
  let fill := rxFill d n
  if fld d fDP_MAC_FC_TX n = 0 then modPort n (fun p => { p with xoff := false }) d
  else if (port d n).xoff then (if fill ≤ fld d fDP_FC_XON_THRESH n then sendPause n false d else d)
  else if fld d fDP_FC_XOFF_THRESH n < fill then sendPause n true d
  else d

/-- XOFF_REPEAT: half of TX_QUANTA after the latest XOFF, while the fill is above XON_THRESH (R248). -/
def xoffRepeat (n : Nat) (d : Dev) : Dev :=
  let p := port d n
  if p.xoff ∧ fld d fDP_MAC_FC_TX n = 1 ∧ fld d fDP_FC_XON_THRESH n < rxFill d n ∧
      p.xoffAt + fld d fDP_FC_TX_QUANTA n * quantum d n / 2 ≤ d.now then sendPause n true d
  else d

/-! ## Frames in (R241 to R244) -/

/-- The partner's pause of one priority, replacing what remains (R247). -/
def setPause (n p quanta : Nat) (d : Dev) : Dev :=
  modPort n (fun x => { x with paused := if quanta = 0 then adel x.paused p else aput x.paused p (d.now + quanta * quantum d n) }) d

/-- PAUSE_EXPIRY. -/
def pauseExpiry (n p : Nat) (d : Dev) : Dev :=
  match aget (port d n).paused p with
  | some t => if t ≤ d.now then modPort n (fun x => { x with paused := adel x.paused p }) d else d
  | none => d

/-- A MAC control frame (R244, R247). -/
def macControl (n : Nat) (bs : List Byte) (d : Dev) : Dev :=
  let op := take0 bs 14 2
  if fld d fDP_MAC_FC_RX n = 0 ∨ (op ≠ 1 ∧ op ≠ 0x0101) then count .macControlDiscards n d
  else
    let d := raise fDP_EVENT_PAUSE_RX n (count .pauseReceived n d)
    if op = 1 then (List.range 8).foldl (fun d p => setPause n p (take0 bs 16 2) d) d
    else (List.range 8).foldl (fun d p =>
      if (take0 bs 16 2).testBit p then setPause n p (take0 bs (18 + 2 * p) 2) d else d) d

/-- A handle in the membership or repair drawer; its bytes mean something to firmware only (R493). -/
def handleItem (n : Nat) : List Word := [BitVec.ofNat 48 (2 ^ 47 + n), 0]

/-- A frame to the membership drawer (R368, R33). (DEDUCED, log entry 68) -/
def divertMember (n : Nat) (bs : List Byte) (d : Dev) : Dev :=
  if d.sec.restarting ∨ ¬ drawerRoom d 6 then count .memDropped n (if d.sec.restarting then d else count .drwDropped 6 d)
  else count .memDiverted n (post 6 (handleItem n) { d with sb := { d.sb with memFrames := d.sb.memFrames ++ [(n, bs)] } })

/-- A frame to the repair drawer (R378). -/
def divertRepair (n : Nat) (bs : List Byte) (d : Dev) : Dev :=
  let d := count .repReceived n d
  if drawerRoom d 7 then post 7 (handleItem n) { d with sb := { d.sb with repFrames := d.sb.repFrames ++ [(n, bs)] } }
  else raise fSB_EVENT_REPAIR_DROP 0 (count .repDropped n (count .drwDropped 7 d))

/-- A PTP message to the firmware task or the host, with its receive stamp (R432). (DESIGN CHOICE, log entry 193) -/
def divertPtp (n : Nat) (bs : List Byte) (d : Dev) : Dev :=
  let d := count .ptpDiverted n d
  let (n32, frac) := ns32 (ltNow d)
  if fld d fLT_PTP_TASK n = 1 then emit (.ptpTask n n32 frac bs) d else hostDeliver 5 0 0 n 0 d.now bs d

/-- IGMP, or the MLD types (R368). -/
def isMembership (p : Parsed) : Bool :=
  (p.l3 == 1 && p.proto == 2) ||
    (p.l3 == 2 && p.proto == 58 && (let t := p.icmp / 256; t == 130 || t == 131 || t == 132 || t == 143))

/-- A PTP message in version 2 format: the version is the low half of the header's second byte (R431).
(PRESUMED, log entry 192) -/
def isPtp (bs : List Byte) (p : Parsed) : Bool :=
  let v2 := fun at_ => take0 bs (at_ + 1) 1 % 16 == 2
  (p.ethertype == 0x88F7 && v2 p.l3Off) ||
    (p.proto == 17 && (p.l3 == 1 || p.l3 == 2) && (p.dport == 319 || p.dport == 320) && v2 (p.l4Off + 8))

/-- A good frame: the MAC's own, a diversion, or the receive buffer (R244, R368, R378, R432). -/
def acceptFrame (n : Nat) (frame : List Byte) (d : Dev) : Dev :=
  let bs := frame.take (frame.length - 4)
  let p := parse bs (fld d fCL_CTRL_TPID3 0)
  if take0 bs 12 2 = 0x8808 then macControl n bs d
  else if d.part.hasSideboard ∧ sbPortField d n 1 0 ≠ 0 ∧ isMembership p then divertMember n bs d
  else if d.part.hasSideboard ∧ sbPortField d n 3 0 ≠ 0 ∧ p.ethertype = 0x88B5 ∧
      take0 bs 0 6 = fld d fSB_MAC_REPAIR_MAC 0 then divertRepair n bs d
  else if fld d fLT_PTP_PTP_EN n = 1 ∧ isPtp bs p then divertPtp n bs d
  else flowEval n (modPort n (fun x => { x with rx := x.rx ++ [frame] }) d)

/-- The port's speed and settings bring an RS-FEC with them: 50 and 100 Gbit/s, and Clause 108 at 25 (R250). -/
def fecUsed (d : Dev) (n : Nat) : Bool :=
  let s := fld d fDP_CTRL_SPEED n
  decide (2 ≤ s) || (s == 1 && fld d fDP_CTRL_FEC n == 1)

/-- What the FEC found in a frame's codewords, counted where the port has one (R254). -/
def countFec (f : MacFrame) (d : Dev) : Dev :=
  if fecUsed d f.port then
    countN .portFecUncorrectable f.port f.fecBad
      (countN .portFecCorrectedSym f.port f.fecSymbols (countN .portFecCorrectedCw f.port f.fecCodewords d))
  else d

/-- What becomes of a frame that the MAC receives (R241 to R244). -/
def takeFrame (f : MacFrame) (d : Dev) : Dev :=
  let n : Nat := f.port
  let m := fld d fDP_FRAME_MAX_FRAME n
  let len := f.bytes.length
  if 65536 < rxFill d n + m then raise fDP_EVENT_OVERFLOW n (count .rxOverflows n d)
  else if f.codeError then count .codeErrors n d
  else if len ≤ 63 then count .runts n d
  else if m < len then
    let d := count .oversize n d
    if fld d fDP_MAC_OVERSIZE_TO_HOST n = 1 then hostDeliver 4 0 0 n 0 d.now (f.bytes.take m) d else d
  else if f.bytes.drop (len - 4) ≠ fcsBytes (f.bytes.take (len - 4)) then count .fcsErrors n d
  else acceptFrame n f.bytes (countN .rxBytes n len (count .rxFrames n d))

/-- MAC_FRAME_RECEIVED: levels that RX_INV does not turn upright make no frame (R241 to R244, R250, R254).
(DEDUCED, log entries 67, 196) -/
def macFrame (f : MacFrame) (d : Dev) : Dev :=
  if !portActive d f.port || f.inverted != (fld d fDP_CTRL_RX_INV f.port == 1) then d else takeFrame f (countFec f d)

/-! ## Time-stamps of departing frames (R434 to R436) -/

/-- The UDP checksum of a frame after a change of the bytes behind its header (R435). -/
def fixUdp (old new : List Byte) (p : Parsed) : List Byte :=
  let c := take0 old (p.l4Off + 6) 2
  if p.proto ≠ 17 ∨ p.l4Off = 0 ∨ (p.l3 = 1 ∧ c = 0) then new
  else
    let s := (65535 - c) + (65535 - onesSum (old.drop p.l4Off)) + onesSum (new.drop p.l4Off)
    let s := s % 65536 + s / 65536
    let s := s % 65536 + s / 65536
    let x := 65535 - s
    patch new (p.l4Off + 6) (natToBytes 2 (if x = 0 then 65535 else x))

/-- A correctionField with a signed amount added. -/
def addCorrection (bs : List Byte) (off : Nat) (x : Int) : List Byte :=
  patch bs (off + 8) (natToBytes 8 (((take0 bs (off + 8) 8 : Int) + x) % (2 ^ 64 : Int)).toNat)

/-- A departing frame with its stamp v put in by its timing word; none where the PTP header does not lie inside (R434,
R435). (DEDUCED, log entry 69) -/
def stampFrame (timing : Word) (v : Int) (tpid3 : Nat) (bs : List Byte) : Option (List Byte) :=
  let mode := bitsOf timing.toNat 39 38
  let off := bitsOf timing.toNat 47 40
  if mode = 0 ∨ mode = 3 then some bs
  else if bs.length < off + 44 then none
  else
    let (s, n, f) := ltSplit v
    let new :=
      if mode = 1 then addCorrection (patch bs (off + 34) (natToBytes 6 s ++ natToBytes 4 n)) off f
      else
        let origin : Int := ((take0 bs (off + 34) 6 * 1000000000 + take0 bs (off + 40) 4) * 65536 : Nat)
        addCorrection bs off (v - origin)
    some (fixUdp bs new (parse bs tpid3))

/-- A departing frame's report, where its timing word asks for one (R436). -/
def stampReport (n : Nat) (timing : Word) (v : Int) (d : Dev) : Dev :=
  if !timing.toNat.testBit 37 then d
  else
    let seq := agetD d.lc.reportSeq n 0
    let (n32, fr) := ns32 v
    let d' := { d with lc := { d.lc with reportSeq := aputD d.lc.reportSeq n (seq + 1) 0 } }
    let item : List Word := [BitVec.ofNat 48 (2 ^ 47 + n * 2 ^ 40 + seq.toNat * 2 ^ 24 + timing.toNat % 2 ^ 24),
      BitVec.ofNat 48 (n32 * 65536 + fr)]
    if drawerRoom d' (8 + n) then count .ptpPosted n (post (8 + n) item d')
    else raise fLT_EVENT_REPORT_DROP 0 (count .ptpDropped n (post (8 + n) item d'))

/-! ## Transmit (R245 to R247, R268) -/

/-- The copies at the head of a node's queues that are under an Evicting slot are dropped (R277).
(DEDUCED, log entry 77) -/
def purgeQueue (q : Nat) (d : Dev) : Dev :=
  let gone := (queue d q).items.takeWhile (fun p => evicted d p.slot && p.sent == 0)
  if gone.isEmpty then d
  else countN .evictedCopies 0 gone.length
    (dropCopies gone (emptied q (modQueue q (fun w => { w with items := w.items.drop gone.length }) d)))

/-- The queues of a node purged. -/
def purgeNode (n : Nat) (d : Dev) : Dev :=
  (List.range (if n < 96 then 64 else 32)).foldl (fun d i => purgeQueue (nodeQueue n i) d) d

/-- A queue of the port is paused by its partner (R247). -/
def pausedQueue (d : Dev) (n q : Nat) : Bool :=
  match aget (port d n).paused (q % 64 / 8) with
  | some t => decide (d.now < t)
  | none => false

/-- Counted length of a downstream queue's head. -/
def headLength (n : Nat) (d : Dev) (q : Nat) : Nat :=
  match (queue d q).items with
  | p :: _ => downLength d n p
  | [] => 0

/-- A copy taken off a queue leaves its port or is dropped; one that leaves is charged as the MAC takes it (R246, R268, R333,
R344). -/
def departCopy (n q : Nat) (p : QPkt) (d : Dev) : Dev :=
  let sc := 4 * (n / 24) + p.slot
  let gone := fun (d : Dev) => drainDown p.slot (emptied q d)
  if p.ecc then gone (raise fTM_EVENT_BUF_ECC 0 (count .qEccDrops q d))
  else if !portActive d n then gone (count .linkDownDiscards n d)
  else match egressWalk d n p with
    | .noImage => gone (count .clNoImage sc d)
    | .ecc a => gone (treeEcc (n / 24) p.slot a (count .clEccDrops sc d))
    | .bad r m => gone (count .clBadDisposition sc (if m then hit (n / 24) p.slot r d else d))
    | .drop r m => gone (count .egressDrops n (if m then hit (n / 24) p.slot r d else d))
    | .send bs edited r m =>
      let d := charge n q (frameLength bs.length) d
      let d := if m then hit (n / 24) p.slot r d else d
      let d := if edited then count .egressEdits n d else d
      let v := ltNow d
      let mode := bitsOf p.timing.toNat 39 38
      match stampFrame p.timing v (fld d fCL_CTRL_TPID3 0) bs with
      | none => gone (stampReport n p.timing v (sendFrame n bs (count .ptpMalformed n d)))
      | some new =>
        let d := if mode = 1 ∨ mode = 2 then count .ptpStamped n d else d
        gone (stampReport n p.timing v (sendFrame n new d))

/-- FRAME_TRANSMIT: the port's node offers a frame, whose read from the packet buffer may be uncorrectable (R332, R344). -/
def frameTransmit (n : Nat) (bad : Bool) (d : Dev) : Dev :=
  if n ≥ d.part.ports ∨ ¬ pdOn d 40 then d
  else
    match nextQueue (pausedQueue d n) (headLength n) n (purgeNode n d) with
    | (none, d) => d
    | (some q, d) =>
      match (queue d q).items with
      | [] => d
      | p :: _ => departCopy n q { p with ecc := p.ecc || bad } (popQueue q d)

/-! ## Inputs of the pipelines (R20, R276) -/

/-- Frames or packets of a higher precedence wait at a recirculation port (R20). -/
def recircWaits (d : Dev) (pipe : Nat) : Bool := !(agetD d.cls.recirc pipe []).isEmpty
def hostWaits (d : Dev) (pipe : Nat) : Bool := !(agetD d.host.txFrames pipe []).isEmpty

/-- The first packet at a pipeline's bonding output that is no longer held, and the others (R19). -/
def takeReady (now : Time) : List BondOut → Option (BondOut × List BondOut)
  | [] => none
  | o :: l =>
    if o.ready ≤ now then some (o, l)
    else match takeReady now l with
      | some (x, r) => some (x, o :: r)
      | none => none

/-- The second pass of the packet in front, dropped where its slot is Evicting (R277, R280). -/
def secondPassOrEvict (pipe : Nat) (d : Dev) : Dev :=
  match agetD d.cls.recirc pipe [] with
  | p :: l =>
    if evicted d p.slot then
      replayDone p (dropCopy p (count .evictedCopies 0
        { d with cls := { d.cls with recirc := aputD d.cls.recirc pipe l [] } }))
    else secondPass pipe d
  | [] => d

/-- The inputs of a pipeline: its 24 drop ports, 24 its bonding output, 25 its recirculation port (R20, R23); where a
source enters. -/
def inputOf : EntrySource → Nat × Nat
  | .drop n => (portPipe n, n % 24)
  | .line q => (q, 24)
  | .host q | .replay q => (q, 25)

/-- A packet waits at an input of a pipeline. -/
def inputWaits (d : Dev) (q i : Nat) : Bool :=
  if i < 24 then !(port d (24 * q + i)).rx.isEmpty
  else if i = 24 then (takeReady d.now (agetD d.bond.out q [])).isSome
  else recircWaits d q || hostWaits d q || !(agetD d.sb.waiting q []).isEmpty

/-- How far an input stands behind the one that a pipeline served last (R23). -/
def turnsAway (d : Dev) (q i : Nat) : Nat := (i + 25 - agetD d.cls.served q 25) % 26

/-- It is an input's turn: its pipeline runs, a packet waits there, and at none that comes before it in the round (R23). -/
def inTurn (d : Dev) (q i : Nat) : Bool :=
  pipeRuns d q && inputWaits d q i &&
    !(List.range 26).any (fun j => inputWaits d q j && decide (turnsAway d q j < turnsAway d q i))

/-- A pipeline has served an input. -/
def setServed (q i : Nat) (d : Dev) : Dev := { d with cls := { d.cls with served := aputD d.cls.served q i 25 } }

/-- A source's packet may enter: its input has its turn, and at the recirculation port nothing of higher precedence waits
(R20, R23). -/
def entryAdmitted (d : Dev) (src : EntrySource) : Bool :=
  inTurn d (inputOf src).1 (inputOf src).2 &&
    (match src with
     | .host q => !recircWaits d q
     | .replay q => !recircWaits d q && !hostWaits d q
     | _ => true)

/-- SECOND_PASS: the packet in front of the recirculation port, in the port's turn (R20, R23, R280). -/
def recircPass (x : SecondPoint) (d : Dev) : Dev :=
  if recircWaits d x.pipe && inTurn d x.pipe 25 then
    secondPassOrEvict x.pipe (meetErrors x.err (setServed x.pipe 25 d))
  else d

/-- PACKET_ENTRY (R20, R276). -/
def packetEntry (src : EntrySource) (d : Dev) : Dev :=
  match src with
  | .drop n =>
    match (port d n).rx with
      | [] => d
      | f :: l =>
        enter { bytes := f.take (f.length - 4), inSrc := n, pipe := portPipe n }
          (flowEval n (modPort n (fun x => { x with rx := l }) d))
  | .line q =>
    match takeReady d.now (agetD d.bond.out q []) with
      | none => d
      | some (o, l) => enter o.pkt { d with bond := { d.bond with out := aputD d.bond.out q l [] } }
  | .host q =>
    match agetD d.host.txFrames q [] with
      | [] => d
      | f :: l =>
        enter { bytes := f.bytes, inSrc := 0x200, pipe := q, timing := f.timing, tag := f.tag }
          { d with host := { d.host with txFrames := aputD d.host.txFrames q l [] } }
  | .replay q =>
    match agetD d.sb.waiting q [] with
      | [] => d
      | p :: l => enter { p with pipe := q } { d with sb := { d.sb with waiting := aputD d.sb.waiting q l [] } }

/-- A source's packet enters its pipeline where it is admitted (R20, R23, R276). -/
def entryPoint (x : EntryPoint) (d : Dev) : Dev :=
  if entryAdmitted d x.src then
    packetEntry x.src (meetErrors x.err (setServed (inputOf x.src).1 (inputOf x.src).2 d))
  else d

/-! ## Meanings -/

/-- MAC_FRAME_RECEIVED. -/
def execMacFrameReceived (f : MacFrame) (s : State) : Out := at_ f.t (fun d => macFrame f (idleExit d)) s

/-- PAUSE_EXPIRY. -/
def execPauseExpiry (t : Time) (n : Fin 96) (p : Fin 8) (s : State) : Out := at_ t (pauseExpiry n p) s

/-- XOFF_REPEAT. -/
def execXoffRepeat (t : Time) (n : Fin 96) (s : State) : Out := at_ t (xoffRepeat n) s

/-- FRAME_TRANSMIT. -/
def execFrameTransmit (t : Time) (x : PortRead) (s : State) : Out := at_ t (frameTransmit x.port x.bad) s

/-- PACKET_ENTRY. -/
def execPacketEntry (t : Time) (x : EntryPoint) (s : State) : Out :=
  at_ t (fun d => entryPoint x (idleExit d)) s

/-- SECOND_PASS (R280, R281). -/
def execSecondPass (t : Time) (x : SecondPoint) (s : State) : Out := at_ t (recircPass x) s

end Sys2Proof.Machine
end

