-- ==== Sys2Proof/Machine/Queues.lean ====
section
/-!
DEFINITION. Machine/Queues.lean: refills, the object window, Wardrobe write-back and queue samples (R335 to R340, R349,
R352 to R354): the meanings of the traffic manager's commands.
-/

namespace Sys2Proof.Machine

/-! ## Object window (R354) -/

/-- DATA word i of the window. -/
def accData (d : Dev) (i : Nat) : Nat := (reg d .tmAccData i).toNat

/-- The window's answer: RESULT 0 done, 1 refused with ACC_REFUSED (R354, R355). -/
def accResult (ok : Bool) (d : Dev) : Dev :=
  raiseIf (!ok) fTM_EVENT_ACC_REFUSED 0 (setFld fTM_ACC_STATUS_RESULT 0 (if ok then 0 else 1) d)

/-- RATE and BURST of word 0 lie in their ranges (R335). -/
def shaperOk (rate burst : Nat) : Bool := decide (1 ≤ rate) && decide (rate ≤ 4000000) && decide (1 ≤ burst)

/-- STRICT and QUEUES of a node keep the limits of R331; node n downstream below 96. -/
def nodeOk (n strict queues : Nat) : Bool :=
  decide (strict ≤ 4) && decide (1 ≤ queues) && decide (queues ≤ if n < 96 then 64 else 32) &&
    decide (queues ≤ strict + if n < 96 then 60 else 28)

/-- A node's queue from number queues on holds a packet (R331). -/
def nodeHolds (d : Dev) (n queues : Nat) : Bool :=
  (List.range ((node d n).queues - queues)).any (fun i => !(queue d (nodeQueue n (queues + i))).items.isEmpty)

/-- STRICT and QUEUES set; where either changes, every deficit of the node is zero (R331). -/
def setNodeShape (n strict queues : Nat) (d : Dev) : Dev :=
  if (node d n).strict = strict ∧ (node d n).queues = queues then d
  else
    let d := modNode n (fun x => { x with strict := strict, queues := queues }) d
    (List.range (if n < 96 then 64 else 32)).foldl (fun d i =>
      modQueue (nodeQueue n i) (fun w => { w with deficit := 0 }) d) d

/-- The reserves of all queues with queue q's at r stay within A / 2 (R342). -/
def reserveOk (d : Dev) (q r : Nat) : Bool :=
  decide (2 * (r + ((d.tm.queues.filter (fun e => e.1 != q)).foldl (fun a e => a + e.2.reserve) 0)) ≤ admitCells d)

/-- The model's queue number of a window table and index; none where it is out of range or absent. -/
def accQueue (d : Dev) (table index : Nat) : Option Nat :=
  if table = 0 then if index < 64 * d.part.ports then some index else none
  else if index < 16384 then some (upBase + index) else none

/-- The model's node number of a window table and index. -/
def accNode (d : Dev) (table index : Nat) : Option Nat :=
  if table = 2 then if index < d.part.ports then some index else none
  else if index < 512 then some (96 + index) else none

/-- A queue object written (R354). -/
def writeQueue (q w0 w1 : Nat) (d : Dev) : Bool × Dev :=
  let rate := bitsOf w0 45 24
  let burst := bitsOf w0 23 0
  let res := bitsOf w1 34 25
  if shaperOk rate burst && reserveOk d q res then
    (true, modQueue q (fun w => { w with
      shaper := setShaper (w0.testBit 47) rate burst w.shaper, weight := bitsOf w1 47 38,
      alpha := bitsOf w1 37 35, reserve := res }) d)
  else (false, d)

/-- A node object written (R331, R354). -/
def writeNode (n w0 w1 w2 : Nat) (d : Dev) : Bool × Dev :=
  let rate := bitsOf w0 45 24
  let burst := bitsOf w0 23 0
  let strict := bitsOf w1 47 45
  let queues := bitsOf w1 44 38
  let limit := bitsOf w2 16 0
  if shaperOk rate burst && nodeOk n strict queues && !nodeHolds d n queues && decide (n < 96 ∨ limit ≤ 65536) then
    (true, modNode n (fun x => { x with
      shaper := setShaper (w0.testBit 47) rate burst x.shaper, wlimit := if n < 96 then x.wlimit else limit })
      (setNodeShape n strict queues d))
  else (false, d)

/-- Parameters of a policer from its words (R354). -/
def policerOf (w0 w1 w2 : Nat) : PolicerCfg :=
  { cir := bitsOf w0 47 16, cbs := bitsOf w0 15 0, pir := bitsOf w1 47 16, pbs := bitsOf w1 15 0,
    aware := w2.testBit 3, yellow := bitsOf w2 2 1, red := bitsOf w2 0 0 }

/-- Parameters that keep the limits of R337. -/
def policerOk (c : PolicerCfg) : Bool := decide (c.cir ≤ c.pir) && decide (1 ≤ c.cbs) && decide (1 ≤ c.pbs)

/-- A policer object written; it acts from the next refill on (R340). -/
def writePolicer (i w0 w1 w2 : Nat) (d : Dev) : Bool × Dev :=
  if policerOk (policerOf w0 w1 w2) then (true, modPolicer i (setPolicer (policerOf w0 w1 w2)) d)
  else (false, d)

/-- A replication group set; a group naming an absent port is refused (R354, R357). -/
def writeGroup (i ports : Nat) (line host : Bool) (d : Dev) : Bool × Dev :=
  if ports < 2 ^ d.part.ports then
    (true, { d with tm := { d.tm with groups := aputD d.tm.groups i { ports := ports, line := line, host := host } {} } })
  else (false, d)

/-- WRITE of the window (R354). -/
def accWrite (d : Dev) : Dev :=
  let table := fld d fTM_ACC_SEL_TABLE 0
  let index := fld d fTM_ACC_SEL_INDEX 0
  let w := accData d
  let r : Bool × Dev :=
    if table ≤ 1 then
      match accQueue d table index with
      | some q => writeQueue q (w 0) (w 1) d
      | none => (false, d)
    else if table ≤ 3 then
      match accNode d table index with
      | some n => writeNode n (w 0) (w 1) (w 2) d
      | none => (false, d)
    else if table = 4 then writePolicer index (w 0) (w 1) (w 2) d
    else if table = 5 ∧ index < 4096 then
      writeGroup index (w 1 * 2 ^ 48 + w 0) ((w 2).testBit 0) ((w 2).testBit 1) d
    else (false, d)
  accResult r.1 r.2

/-- Word 0 of a shaper. -/
def shaperWord (s : Shaper) : Nat := s.enable.toNat * 2 ^ 47 + s.rate * 2 ^ 24 + s.burst

/-- The four words of an object as a read shows them (R354); none where the object is absent. -/
def accWords (d : Dev) (table index : Nat) : Option (List Nat) :=
  if table ≤ 1 then
    (accQueue d table index).map (fun q =>
      let w := queue d q
      [shaperWord w.shaper, w.weight * 2 ^ 38 + w.alpha * 2 ^ 35 + w.reserve * 2 ^ 25,
       queuedLength d (upCiphered d) q,
       (w.items.any (fun p => !onDie p)).toNat * 2 ^ 47 + w.items.length % 2 ^ 32])
  else if table ≤ 3 then
    (accNode d table index).map (fun n =>
      let x := node d n
      [shaperWord x.shaper, x.strict * 2 ^ 45 + x.queues * 2 ^ 38,
       if n < 96 then 0 else x.wlimit, if n < 96 then 0 else slotPages d (n - 96)])
  else if table = 4 then
    let p := policer d index
    some [p.cfg.cir * 2 ^ 16 + p.cfg.cbs, p.cfg.pir * 2 ^ 16 + p.cfg.pbs,
          p.cfg.aware.toNat * 8 + p.cfg.yellow * 2 + p.cfg.red, p.tc / token * 2 ^ 16 + p.tp / token]
  else if table = 5 ∧ index < 4096 then
    let g := group d index
    some [g.ports % 2 ^ 48, g.ports / 2 ^ 48, g.host.toNat * 2 + g.line.toNat, 0]
  else none

/-- READ of the window (R354). -/
def accRead (d : Dev) : Dev :=
  match accWords d (fld d fTM_ACC_SEL_TABLE 0) (fld d fTM_ACC_SEL_INDEX 0) with
  | none => accResult false d
  | some ws =>
    accResult true ((List.range 4).foldl (fun d i => setReg .tmAccData i (BitVec.ofNat 48 (ws.getD i 0)) d) d)

/-! ## Refills, write-back and samples -/

/-- Every policer refilled (R337, R340). -/
def refillPolicers (d : Dev) : Dev :=
  { d with tm := { d.tm with policers :=
    (d.tm.policers.map (fun e => (e.1, refillPolicer e.2))).filter (fun e => e.2 != {}) } }

/-- The packets in the write buffer, by the order of their storing; the copies of one packet are one (R349). -/
def stagedStores (d : Dev) : List Nat :=
  ((d.tm.queues.map (fun e => (e.2.items.filter (·.staged)).map (·.store))).flatten).eraseDups

/-- The oldest n staged packets written to HBM, which clears the poison of the lines they take (R349, R454). -/
def writebackOldest (n : Nat) (d : Dev) : Dev :=
  let cut := ((stagedStores d).mergeSort (fun a b => decide (a ≤ b))).take n
  let written := (d.tm.queues.map (fun e => e.2.items.filter (fun p => p.staged && cut.contains p.store))).flatten
  let d := written.foldl (fun d p => match p.page with
    | some (pg, off) =>
      clearPoison (memLines d 2 (pageData pg off) p.bytes.length) (mapReads 2 (pageData pg off) p.bytes.length d)
    | none => d) d
  { d with tm := { d.tm with queues := d.tm.queues.map (fun e => (e.1, { e.2 with
    items := e.2.items.map (fun p => { p with staged := p.staged && !cut.contains p.store }) })) } }

/-- Queues of the sample list, in list order, with their direction (R352, R357). -/
def sampleList (d : Dev) : List (Nat × Nat) :=
  d.dict.filterMap (fun e =>
    let v := bytesToNat e.2
    if 0x5280 * 256 ≤ e.1 ∧ e.1 < 0x5288 * 256 ∧ v ≠ 0xFFFF then some (v / 32768, v % 32768) else none)

/-- The sample item of a queue (R353). -/
def sampleItem (d : Dev) (dir q : Nat) : List Word :=
  let n := if dir = 0 then q else upBase + q
  let depth := min (ceilDiv (queuedLength d (upCiphered d) n) 64) (2 ^ 31 - 1)
  let delay := match (queue d n).items with
    | [] => 0
    | p :: _ => min ((d.now - p.admittedAt) / Config.us) 0xFFFFFF
  [BitVec.ofNat 48 (2 ^ 47 + dir * 2 ^ 46 + q * 2 ^ 31 + depth), stampWord (ltNow d),
   BitVec.ofNat 48 (delay * 2 ^ 24 + d.tm.sampleSeq % 2 ^ 24)]

/-- One queue sampled: posted, or dropped, and numbered either way (R352, R353). -/
def sampleQueue (dir q : Nat) (d : Dev) : Dev :=
  let item := sampleItem d dir q
  let room := drawerRoom d 3
  let d := { d with tm := { d.tm with sampleSeq := d.tm.sampleSeq + 1 } }
  let d := post 3 item d
  if room then count .samplesPosted 0 d else raise fTM_EVENT_SAMPLE_DROP 0 (count .samplesDropped 0 d)

/-! ## Meanings -/

/-- SHAPER_REFILL (R335, R336). -/
def execShaperRefill (t : Time) (s : State) : Out := at_ t refillShapers s

/-- POLICER_REFILL (R337, R340). -/
def execPolicerRefill (t : Time) (s : State) : Out := at_ t refillPolicers s

/-- TM_OBJECT_WRITE (R354). -/
def execTmObjectWrite (s : State) : Out := onDev (fun d => accWrite (idleExit d)) s

/-- TM_OBJECT_READ (R354). -/
def execTmObjectRead (s : State) : Out := onDev (fun d => accRead (idleExit d)) s

/-- WARDROBE_WRITEBACK (R349). -/
def execWardrobeWriteback (n : Nat) (s : State) : Out := onDev (writebackOldest n) s

/-- QUEUE_SAMPLE (R352, R353). -/
def execQueueSample (t : Time) (s : State) : Out :=
  atCore t (fun d => (sampleList d).foldl (fun d e => sampleQueue e.1 e.2 d) d) s

end Sys2Proof.Machine
end

