-- ==== Sys2Proof/Machine/Messages.lean ====
section
/-!
DEFINITION. Machine/Messages.lean: control messages, activation and ranging (R126 to R158): the meanings of their commands.
-/

namespace Sys2Proof.Machine

/-! ## Upstream messages (R133, R137, R140) -/

/-- 44 bytes of an upstream message, its check value still to come; its sequence field is a free value (R133, R134).
(DEDUCED, log entries 40, 56) -/
def upMessage (ty : Nat) (content : List Byte) (d : Dev) : List Byte × Dev :=
  let (k, d) := nextFree d
  let addr := if numHeld d then termNum d else 0xFFFF
  (natToBytes 1 ty ++ natToBytes 2 addr ++ [(Config.freeSequence k).setWidth 8] ++ content ++
    List.replicate (40 - content.length) 0, d)

/-- An upstream message queued (R140). -/
def queueMessage (ty : Nat) (content : List Byte) (d : Dev) : Dev :=
  let (m, d) := upMessage ty content d
  { d with act := { d.act with outbox := d.act.outbox ++ [m] } }

/-- State of a key entry as CY_KEY_STATUS shows it (R123). -/
def keyState (d : Dev) (e : Nat) : Nat :=
  let k := keyEntry d e
  if k.key.isNone then 0 else if k.count = deadCount then 2 else 1

/-- Key states of set 0 and invocations of the TX_INDEX entry, as an Acknowledge of Key Control operation 2 carries them
(R137). -/
def keyReport (d : Dev) : List Byte :=
  natToBytes 1 ((List.range 4).foldl (fun a i => a + keyState d i * 2 ^ (2 * i)) 0) ++
    natToBytes 6 (keyEntry d (txIndex d 0)).count.toNat

/-- An Acknowledge of a directed message, where it asks for one; a Deactivate is never acknowledged (R137, R138).
(DEDUCED, log entry 41) -/
def acknowledge (m : CtlMsg) (result : Nat) (d : Dev) : Dev :=
  if mAck m ∧ mType m ≠ 5 then
    queueMessage 0x82 (natToBytes 1 (mType m) ++ natToBytes 1 (mSeq m) ++ natToBytes 1 result ++
      (if mType m = 8 ∧ mf m 4 1 = 2 then keyReport d else [])) d
  else d

/-! ## Receipt (R134, R135, R138, R139) -/

/-- The states in which R139 gives an action to a message of a type. -/
def actsIn (ty : Nat) (broadcast : Bool) (state : Nat) : Bool :=
  match ty with
  | 0x01 => state != 0 && state != 5
  | 0x02 => state == 2 || state == 3 || state == 4
  | 0x03 | 0x04 => state == 3 || state == 4
  | 0x05 => state == 3 || state == 4 || (state == 2 && broadcast)
  | 0x06 => state != 0 && state != 5
  | 0x07 => state == 6
  | 0x09 => state != 0 && state != 5
  | _ => state == 4

/-- A keyed message against its check-value slot: none where it fits, the counter it raises otherwise (R135). -/
def checkFails (m : CtlMsg) (d : Dev) : Option CName :=
  if !keyedType (mType m) then none
  else match checkKey d (if isBroadcast m then 1 else 0) with
    | none => some .ctlNoKey
    | some key => if checkValue key 32 (m.bytes.take 44) = mf m 44 4 then none else some .ctlCheckFail

/-- A directed message acted on: remembered with its result, and acknowledged where that is ever done (R138). -/
def actDirected (m : CtlMsg) (f : Dev → Nat × Dev) (d : Dev) : Dev :=
  let (r, d) := f d
  acknowledge m r { d with act := { d.act with lastDirected := some (mType m, mSeq m, r) } }

/-- The line engine runs and the message's channel brings it its envelopes: up, and not in AIS (R36, R62). -/
def lineHears (m : CtlMsg) (d : Dev) : Bool := engineRuns d && chanUp d m.ch && !(chan d m.ch).ais

/-- A message as the line engine receives it: taken from the messages that wait, checked, and acted on where R139 gives it an
action (R62, R134, R135, R138, R139). (DEDUCED; DESIGN CHOICE, log entries 46, 203) -/
def receive (ty : Nat) (m : CtlMsg) (f : Dev → Nat × Dev) (d : Dev) : Dev :=
  let d := { d with act := { d.act with inbox := d.act.inbox.erase m } }
  if !lineHears m d || mType m ≠ ty then d
  else if !rightFlow m then count .ctlWrongFlow 0 d
  else if !isBroadcast m && !(numHeld d && mAddr m == termNum d) then d
  else match checkFails m d with
    | some c => count c 0 d
    | none =>
      if !actsIn ty (isBroadcast m) (actState d) then d
      else if isBroadcast m then (f d).2
      else match d.act.lastDirected with
        | some (t, s, r) => if t = mType m ∧ s = mSeq m then acknowledge m r d else actDirected m f d
        | none => actDirected m f d

/-- A broadcast message with a value out of its range: discarded and counted (R651). -/
def outOfRange (d : Dev) : Nat × Dev := (0, count .ctlOutOfRange 0 d)

/-! ## Each message -/

/-- A profile's registers written (R189). -/
def setProfile (p : Nat) (c : ProfCfg) (d : Dev) : Dev :=
  let d := setFld fPROF_CFG_HELD p c.held.toNat (setFld fPROF_CFG_CHANNELS p c.channels
    (setFld fPROF_CFG_PREAMBLE_LEN p c.preamble (setFld fPROF_CFG_PATTERN p c.pattern d)))
  let d := setFld fPROF_DELIM_HI_DELIM p (c.delim / 2 ^ 32) (setFld fPROF_DELIM_LO_DELIM p (c.delim % 2 ^ 32)
    (setFld fPROF_DELAY_PREASSIGNED p c.preassigned d))
  setFld fACT_STATUS_PROFILES 0 (withBits (fld d fACT_STATUS_PROFILES 0) p p c.held.toNat) d

/-- Burst Profile (R137, R170, R651). (DEDUCED, log entry 42) -/
def burstProfile (m : CtlMsg) (d : Dev) : Nat × Dev :=
  if badProfile m then
    if reservedPattern m then (0, count .profileReserved 0 d) else outOfRange d
  else
    let p := mf m 4 1 % 4
    let d := { d with up := { d.up with
      profHist := (({ prof := p, fc := m.fc, old := profNow d p } : ProfChange) :: d.up.profHist).take 16 } }
    (0, settleState (setProfile p (msgProfile m) d))

/-- Assign Terminal: a new number is a new management flow, which anchors on its first envelope (R103, R147, R508).
(DESIGN CHOICE, log entry 202) -/
def assignTerminal (m : CtlMsg) (d : Dev) : Nat × Dev :=
  if mf m 4 8 ≠ ownSerial then (0, d)
  else if actState d = 4 ∨ 511 < mf m 12 2 ∨ 15 < mf m 14 1 ∨ ¬ chanEnabled d (mf m 14 1) then
    (0, count .assignRefused 0 d)
  else
    let d := if numHeld d ∧ termNum d = mf m 12 2 then d else forgetFlow 8192 d
    let d := setFld fACT_STATUS_NUM_VALID 0 1 (setFld fACT_STATUS_TERM_NUM 0 (mf m 12 2)
      (setFld fACT_STATUS_HOME 0 (mf m 14 1) d))
    (0, startRanging (setState 3 d))

/-- Ranging Request (R143, R651). -/
def rangingRequest (m : CtlMsg) (d : Dev) : Nat × Dev :=
  let ch := mf m 4 1
  if 1 < mf m 5 1 then (5, d)
  else if 15 < ch ∨ ¬ chanPresent d ch then (7, d)
  else if ¬ chanUp d ch ∨ mf m 5 1 ≠ pathNow d then (5, d)
  else (0, { d with act := { d.act with provDelay := mf m 6 3, ranging := some (ch, m.fc) } })

/-- Ranging Time (R144, R145, R651). (DESIGN CHOICE, log entry 201) -/
def rangingTime (m : CtlMsg) (d : Dev) : Nat × Dev :=
  let path := mf m 4 1
  if 1 < path ∨ 1 < mf m 5 1 then (5, d)
  else
    let old := latestDelay d path
    match msgDelay m old with
    | none => (5, count .delayRefused 0 d)
    | some v =>
      let d := raise fACT_EVENT_RANGED 0 { d with act := { d.act with
        delayPend := d.act.delayPend ++ [(path, v)],
        delayHist := (({ path := path, fc := m.fc, old := old } : DelayChange) :: d.act.delayHist).take 16 } }
      if actState d = 3 ∧ path = pathNow d then
        (0, setState 4 { d with act := { d.act with rangingDue := none } })
      else (0, d)

/-- Deactivate (R129, R148). -/
def deactivate (d : Dev) : Nat × Dev :=
  let d := abandonGrants (fun _ => true) (raise fACT_EVENT_DEACTIVATED 0 d)
  (0, settleState (clearRecord (setState 1 { d with act := { d.act with rangingDue := none } })))

/-- Disable (R129, R149, R651). -/
def disable (m : CtlMsg) (d : Dev) : Nat × Dev :=
  if 1 < mf m 4 1 then outOfRange d
  else if !scopeNames m then (0, d)
  else
    let d := { d with act := { d.act with
      stopRecord := some (BitVec.ofNat 32 (mf m 13 4)), consent := false, release := false, rangingDue := none } }
    if actState d = 6 then (0, d)
    else (0, setState 6 (raise fACT_EVENT_STOPPED 0 (abandonGrants (fun _ => true) d)))

/-- An Enable that either unit hears carries another nonce than the held one: it is counted once (R150, R215).
(DEDUCED, log entry 43) -/
def nonceCheck (m : CtlMsg) (d : Dev) : Dev :=
  if mType m = 0x07 ∧ isBroadcast m ∧ rightFlow m ∧ (fsHears m d ∨ (lineHears m d ∧ actsIn 0x07 true (actState d))) ∧
      mf m 4 1 ≤ 1 ∧ BitVec.ofNat 32 (mf m 15 4) ≠ d.fs.nonce then
    count .nonceWrong 0 d
  else d

/-- Enable (R149, R150, R651); nonce is what the Firescreen holds when it arrives. -/
def enable (m : CtlMsg) (nonce : BitVec 32) (d : Dev) : Nat × Dev :=
  if 1 < mf m 4 1 then outOfRange d
  else if BitVec.ofNat 32 (mf m 15 4) ≠ nonce then (0, d)
  else if !enableNames m (if numHeld d then some (termNum d) else none) then (0, d)
  else (0, secretaryRelease { d with act := { d.act with consent := true } })

/-- Key Control (R114, R137, R651): a switch waits for its frame boundary. (DEDUCED, log entry 44) -/
def keyControl (m : CtlMsg) (d : Dev) : Nat × Dev :=
  let op := mf m 4 1
  if (op ≠ 1 ∧ op ≠ 2) ∨ 3 < mf m 5 1 then (5, d)
  else if op = 1 then
    (0, { d with act := { d.act with keySwitch := some (mf m 5 1, BitVec.ofNat 48 (max (mf m 6 6) (m.fc.toNat + 1))) } })
  else (0, d)

/-- KEY_SWITCH_COMMIT: TX_INDEX of set 0 written at the named frame boundary (R114, R137). -/
def keySwitchCommit (d : Dev) : Dev :=
  match d.act.keySwitch with
  | some (i, f) =>
    if f ≤ frameNow d + 1 then
      let r := reg d .cyTxidx 0
      setReg .cyTxidx 0 (BitVec.ofNat 48 (withBits r.toNat 1 0 i)) { d with act := { d.act with keySwitch := none } }
    else d
  | none => d

/-- Time of Day (R137, R421, R651). -/
def timeOfDay (m : CtlMsg) (d : Dev) : Nat × Dev :=
  if 999999999 < mf m 16 4 then outOfRange d
  else (0, todMessage (BitVec.ofNat 48 (mf m 4 6)) ((mf m 10 6 * 1000000000 + mf m 16 4) * 65536 + mf m 20 2) d)

/-- Sleep Allow (R151, R651). -/
def sleepAllow (m : CtlMsg) (d : Dev) : Nat × Dev :=
  let allow := mf m 4 1
  let period := mf m 6 2
  if 1 < allow ∨ (allow = 1 ∧ period = 0) then (5, d)
  else
    let d := raise fACT_EVENT_SLEEP_CONSENT 0 d
    if allow = 1 then
      (0, { d with act := { d.act with sleepStates := mf m 5 1 % 4, sleepUntil := some (d.now + period * Config.sec) } })
    else (0, endConsent d)

/-- Protection Control (R75, R79, R137, R139, R651). (DEDUCED, log entry 45) -/
def protectionControl (m : CtlMsg) (d : Dev) : Nat × Dev :=
  let cmd := mf m 4 1
  let lock := mf m 5 1
  if 2 < cmd ∨ 2 < lock then (5, d)
  else if fld d fPROT_CTRL_ENABLE 0 = 0 then (3, d)
  else
    let d := if lock = 0 then d
      else protEval (setFld fPROT_CTRL_LOCKOUT 0 (lock == 1).toNat { d with act := { d.act with lockoutDue := some (lock == 1) } })
    if cmd = 0 then (0, d) else protCommand (cmd == 2) 2 d

/-! ## Meanings: each message acts in the line engine and in the Firescreen's own view (R149, R194, R653) -/

/-- The Firescreen's part of a message of a type. -/
def fsOn (ty : Nat) (f : CtlMsg → Dev → Dev) (m : CtlMsg) (d : Dev) : Dev := if mType m = ty then f m d else d

/-- BURST_PROFILE. -/
def execBurstProfile (m : CtlMsg) (s : State) : Out :=
  at_ m.t (fun d => fsOn 0x01 fsProfile m (receive 0x01 m (burstProfile m) d)) s

/-- RANGING_REQUEST. -/
def execRangingRequest (m : CtlMsg) (s : State) : Out :=
  at_ m.t (fun d => fsOn 0x03 fsRangingRequest m (receive 0x03 m (rangingRequest m) d)) s

/-- RANGING_TIME. -/
def execRangingTime (m : CtlMsg) (s : State) : Out :=
  at_ m.t (fun d => fsOn 0x04 fsRangingTime m (receive 0x04 m (rangingTime m) d)) s

/-- DEACTIVATE. -/
def execDeactivate (m : CtlMsg) (s : State) : Out :=
  at_ m.t (fun d => receive 0x05 m deactivate (fsOn 0x05 fsDeactivate m d)) s

/-- DISABLE. -/
def execDisable (m : CtlMsg) (s : State) : Out :=
  at_ m.t (fsDrive (fun d => receive 0x06 m (disable m) (fsOn 0x06 fsDisable m d))) s

/-- ENABLE: both units compare with the nonce held when it arrives. -/
def execEnable (m : CtlMsg) (s : State) : Out :=
  at_ m.t (fsDrive (fun d => receive 0x07 m (enable m d.fs.nonce) (fsOn 0x07 fsEnable m (nonceCheck m d)))) s

/-- KEY_CONTROL_SWITCH. -/
def execKeyControlSwitch (m : CtlMsg) (s : State) : Out := at_ m.t (receive 0x08 m (keyControl m)) s

/-- KEY_CONTROL_REPORT. -/
def execKeyControlReport (m : CtlMsg) (s : State) : Out := at_ m.t (receive 0x08 m (keyControl m)) s

/-- KEY_SWITCH_COMMIT. -/
def execKeySwitchCommit (t : Time) (s : State) : Out := at_ t keySwitchCommit s

/-- TIME_OF_DAY. -/
def execTimeOfDay (m : CtlMsg) (s : State) : Out := at_ m.t (receive 0x09 m (timeOfDay m)) s

/-- SLEEP_ALLOW. -/
def execSleepAllow (m : CtlMsg) (s : State) : Out := at_ m.t (receive 0x0A m (sleepAllow m)) s

/-- PROTECTION_CONTROL. -/
def execProtectionControl (m : CtlMsg) (s : State) : Out := at_ m.t (receive 0x0B m (protectionControl m)) s

/-- RANGING_TIMER_EXPIRY (R129, R131). -/
def execRangingTimerExpiry (t : Time) (s : State) : Out := at_ t rangingExpiry s

/-- LOSS_TIMER_EXPIRY (R129, R131). -/
def execLossTimerExpiry (t : Time) (s : State) : Out := at_ t lossExpiry s

/-- SLEEP_CONSENT_EXPIRY (R151). -/
def execSleepConsentExpiry (t : Time) (s : State) : Out := at_ t sleepExpiry s

end Sys2Proof.Machine
end

