-- ==== Sys2Proof/Machine/Bursts.lean ====
section
/-!
DEFINITION. Machine/Bursts.lean: grant filling, bursts and status reports (R163 to R188): the meanings of their commands.
-/

namespace Sys2Proof.Machine

/-! ## Capacity and coding (R169 to R173) -/

/-- The levels of a preamble of n UI under a pattern code (R169). -/
def preambleLevels (pattern n : Nat) : List Nat :=
  match pattern with
  | 0 => (List.range n).map (fun i => if i % 4 < 2 then 3 else 0)
  | 1 => (List.range n).map (fun i => if i % 2 = 0 then 3 else 0)
  | _ => laneLevels true false (patternBits 6 (2 * n))

/-- Seed of the upstream scrambler (R173). -/
def burstSeed (ch : Nat) (laneB : Bool) (fc start : Nat) : Nat :=
  let s := (ch * 2 ^ 27 + laneB.toNat * 2 ^ 26 + (fc + 1) % 1024 * 2 ^ 16 + start) ^^^ 0x7FFFFFFF
  if s = 0 then 1 else s

/-- n symbols of 10 bits. -/
def takeSymbols : Nat → List Bool → List Nat
  | 0, _ => []
  | n + 1, bs => bitsToNat (bs.take 10) :: takeSymbols n (bs.drop 10)

/-- Codewords of 514 message symbols, then the shortened one: message and parity symbols. -/
def codeSymbols : Nat → List Nat → List Nat
  | 0, ms => if ms.isEmpty then [] else ms ++ rsParity ms
  | n + 1, ms => ms.take 514 ++ rsParity (ms.take 514) ++ codeSymbols n (ms.drop 514)

/-- The coded symbols of a lane from its words: scrambled, coded, and the tail fill (R171 to R173). -/
def codeLane (g : Grant) (laneB : Bool) (words : List (BitVec 64)) : List Nat :=
  let (full, short) := codedPart g.len g.preamble
  let n := 514 * full + short
  let bits := (words.map (fun w => natToBits 64 w.toNat)).flatten
  let bits := bits ++ List.replicate (10 * n - bits.length) false
  let syms := codeSymbols full (takeSymbols n (scrambleBits bits (burstSeed g.ch laneB g.fc.toNat g.start)))
  syms ++ List.replicate (25 * (g.len - g.preamble) - 7 - syms.length) 0

/-- Payload bytes as words, zeros behind the last (R83). -/
def payloadWords : Nat → List Byte → List (BitVec 64)
  | 0, _ => []
  | n + 1, bs => BitVec.ofNat 64 (bytesToNat (bs.take 8 ++ List.replicate (8 - bs.length) 0)) :: payloadWords n (bs.drop 8)

/-- The words of an envelope. -/
def outWords (e : OutEnv) : List (BitVec 64) := e.header :: payloadWords (ceilDiv e.payload.length 8) e.payload

/-! ## Header words (R82, R174, R184) -/

/-- An envelope header with its check (R82, R90). -/
def envHeader (flow len : Nat) (first last : Bool) (key seq : Nat) : BitVec 64 :=
  let x := flow * 2 ^ 35 + len * 2 ^ 21 + first.toNat * 2 ^ 20 + last.toNat * 2 ^ 19 + key * 2 ^ 17 + seq * 16
  BitVec.ofNat 64 (x * 2 ^ 13 + envCheck x)

/-- Channels that count as enabled: in Sleep the home channel alone (R549). -/
def lineEnabled (d : Dev) (n : Nat) : Bool := chanEnabled d n && (d.pwr.state != 2 || keptHome d == n)

/-- A mask of channels by their numbers. -/
def chanMask (d : Dev) (p : Nat → Bool) : Nat := (List.range d.part.channels).foldl (fun a n => a + (p n).toNat * 2 ^ n) 0

/-- The burst header with a report count (R65, R174). -/
def burstHeader (d : Dev) (reports : Nat) : BitVec 64 :=
  let x := (if numHeld d then termNum d else 0x3FF) * 2 ^ 41 + chanMask d (fun n => !lineEnabled d n || !chanUp d n) * 2 ^ 25 +
    chanMask d (fun n => (chan d n).ais) * 2 ^ 9 + reports * 2 + pathNow d
  BitVec.ofNat 64 (x * 2 ^ 13 + envCheck x)

/-! ## Status reports (R183 to R187) -/

/-- Bytes a slot's data would occupy in envelopes (R185). -/
def slotBytes (d : Dev) (k : Nat) : Nat :=
  (List.range 32).foldl (fun a i => a + queuedLength d (upCiphered d) (upBase + 32 * k + i)) 0 +
    (agetD d.up.reissue k []).foldl (fun a e => a + envelopeBytes e.plain.length e.ciphered) 0

/-- Admission of the oldest data a slot holds (R187). -/
def oldestData (d : Dev) (k : Nat) : Option Time :=
  let heads := (List.range 32).filterMap (fun i => (queue d (upBase + 32 * k + i)).items.head?.map (·.admittedAt))
  ((agetD d.up.reissue k []).map (·.admittedAt) ++ heads).foldl (fun a t => match a with
    | none => some t
    | some x => some (min x t)) none

/-- AGE of t whole µs: floor of 8 log2 (t + 1), at most 255 (R187). -/
def ageCode (t : Nat) : Nat := min 255 (Nat.log2 ((t + 1) ^ 8))

/-- AGE of a slot: that of its oldest data (R187). -/
def slotAge (d : Dev) (k : Nat) : Nat :=
  match oldestData d k with
  | none => 0
  | some t => ageCode ((d.now - t) / Config.us)

/-- The status report of a slot (R183); what Sleep sampled at its entry stands in for occupancy and age, and no arrivals are
forecast (R549). -/
def statusReport (d : Dev) (k : Nat) : Nat :=
  if d.pwr.state = 2 then min 0xFFFFFF (agetD d.pwr.sleepReports k 0) * 2 ^ 24 + agetD d.pwr.sleepAges k 0
  else min 0xFFFFFF (ceilDiv (slotBytes d k) 64) * 2 ^ 24 + min 0xFFFF (agetD d.up.forecast k 0 / 8) * 2 ^ 8 + slotAge d k

/-- A report entry (R184). -/
def reportEntry (d : Dev) (k : Nat) : BitVec 64 := BitVec.ofNat 64 (allocId d k * 2 ^ 50 + statusReport d k)

/-- Slots in the ascending order of their allocation IDs. -/
def insertSlot (d : Dev) (k : Nat) : List Nat → List Nat
  | [] => [k]
  | x :: l => if allocId d k < allocId d x then k :: x :: l else x :: insertSlot d k l

/-- The slots a grant to the default ID reports, from the report cursor on with a wrap (R184). -/
def reportOrder (d : Dev) : List Nat :=
  let all := (enabledAllocs d).foldl (fun l k => insertSlot d k l) []
  all.filter (fun k => decide (d.up.cursor ≤ allocId d k)) ++ all.filter (fun k => decide (allocId d k < d.up.cursor))

/-! ## Placement (R176 to R179) -/

/-- A grant under filling: words of a lane, used words, words in front of the envelopes, envelopes newest first, queues that have
run short of descriptors in this fill (R348). -/
structure Filling where
  cap : Nat
  usedA : Nat
  usedB : Nat
  leadA : Nat
  leadB : Nat
  envs : List OutEnv := []
  short : List Nat := []

/-- Free words of a lane. -/
def Filling.free (f : Filling) (laneB : Bool) : Nat := f.cap - if laneB then f.usedB else f.usedA

/-- The lane for n words: the one with fewer used words, A when equal, else the other (R177). (DEDUCED, log entry 47) -/
def Filling.lane (f : Filling) (n : Nat) : Option Bool :=
  let l := decide (f.usedB < f.usedA)
  if n ≤ f.free l then some l else if n ≤ f.free (!l) then some (!l) else none

/-- The lane with more free words (R178). -/
def Filling.roomier (f : Filling) : Bool := decide (f.usedB < f.usedA)

/-- An envelope that takes n words put on a lane. -/
def Filling.put (f : Filling) (laneB : Bool) (n : Nat) (e : OutEnv) : Filling :=
  let e := { e with laneB := laneB, word := if laneB then f.usedB - f.leadB else f.usedA - f.leadA }
  if laneB then { f with usedB := f.usedB + n, envs := e :: f.envs } else { f with usedA := f.usedA + n, envs := e :: f.envs }

/-- Words of an envelope for a payload of n bytes. -/
def envelopeWords (n : Nat) (ciphered : Bool) : Nat := envelopeBytes n ciphered / 8

/-- Header and payload of an envelope where it stands, ciphered under the entry in use (R110, R111, R114). -/
def sealEnv (g : Grant) (e : OutEnv) (d : Dev) : OutEnv × Dev :=
  if e.ciphered then
    let (k, d') := cipherUse (txIndex d 0) d
    let h := envHeader e.flow (e.plain.length + 16) e.first e.last (txIndex d 0) e.seq
    ({ e with header := h,
              payload := gcmSeal (k.getD 0) (gcmIv (g.fc + 1) g.ch e.laneB true g.start e.word) (natToBytes 8 h.toNat) e.plain }, d')
  else ({ e with header := envHeader e.flow e.plain.length e.first e.last 0 e.seq, payload := e.plain }, d)

/-- An envelope of n words placed on a lane. -/
def placeOn (g : Grant) (laneB : Bool) (n : Nat) (e : OutEnv) (fd : Filling × Dev) : Filling × Dev :=
  let f := fd.1.put laneB n e
  match f.envs with
  | x :: l => let (x, d) := sealEnv g x fd.2; ({ f with envs := x :: l }, d)
  | [] => (f, fd.2)

/-- An envelope placed, if it fits (R177). -/
def place (g : Grant) (e : OutEnv) (fd : Filling × Dev) : Option (Filling × Dev) :=
  let n := envelopeWords e.plain.length e.ciphered
  (fd.1.lane n).map (fun l => placeOn g l n e fd)

/-- The number of the next envelope in the order of first placement. -/
def nextOrder (d : Dev) : Nat × Dev := (d.up.placed, { d with up := { d.up with placed := d.up.placed + 1 } })

/-! ## Control envelopes (R86, R135, R137, R140, R154, R211) -/

/-- A 48-byte message from its first 44: its check value where it is keyed and slot 0 holds a key (R135). -/
def sealMessage (d : Dev) (m : List Byte) : List Byte :=
  let ty := (m.headD 0).toNat
  let check := if keyedType ty then
      (match checkKey d 0 with
       | some k => checkValue k 32 m
       | none => 0)
    else 0
  m ++ natToBytes 4 check

/-- A control message placed, if it fits. -/
def placeMessage (g : Grant) (m : List Byte) (data : Bool) (fd : Filling × Dev) : Option (Filling × Dev) :=
  let (o, d) := nextOrder fd.2
  place g { flow := 0xFFFD, first := true, last := true, seq := 0, ciphered := false, plain := sealMessage d m,
            admittedAt := d.now, ctl := some (m.headD 0).toNat, data := data, order := o } (fd.1, d)

/-- The Serial Number Response (R137, R142). -/
def placeResponse (g : Grant) (fd : Filling × Dev) : Filling × Dev :=
  let d := fd.2
  let (m, d) := upMessage 0x81 (natToBytes 8 ownSerial ++ natToBytes 2 (if g.kind == .window then g.offset else 0) ++
    natToBytes 1 (actState d) ++ natToBytes 2 (chanMask d (fun _ => true)) ++ natToBytes 1 (pathNow d)) d
  (placeMessage g m false (fd.1, d)).getD (fd.1, d)

/-- The channels tripped, and the highest stage (R211). -/
def trippedMask (d : Dev) : Nat := chanMask d (fun n => decide (0 < (fsChan d n).stage))
def topStage (d : Dev) : Nat := (presentChans d).foldl (fun a n => max a (fsChan d n).stage) 0

/-- The fill point of a grant (R165). -/
def fillPoint (d : Dev) (g : Grant) : Time := grantBegin g - fld d fLE_FILL_FILL_LEAD 0 * Config.us

/-- The channel may carry a Trip Report: untripped and up, and not every channel is dark (R211). -/
def tripChannel (d : Dev) (ch : Nat) : Bool := (fsChan d ch).stage == 0 && chanUp d ch && !everyDark d

/-- Another grant's fill point falls in the same cycle, on a lower-numbered channel that may carry the report (R211). -/
def tripElsewhere (d : Dev) (g : Grant) : Bool :=
  d.up.grants.any (fun x => x.kind == .data && x.content.isNone && decide (x.ch < g.ch) && tripChannel d x.ch &&
    fillPoint d x / Config.cycle == fillPoint d g / Config.cycle)

/-- The Trip Report, in the first burst filled on an untripped up channel since the frame boundary; of fill points in one
cycle the lowest channel's (R211). (DEDUCED, log entry 48) -/
def placeTrip (g : Grant) (fd : Filling × Dev) : Filling × Dev :=
  let d := fd.2
  if d.fs.report ∧ ¬ d.fs.reported ∧ tripChannel d g.ch ∧ ¬ tripElsewhere d g then
    let (m, d') := upMessage 0x84 (natToBytes 4 d.fs.nonce.toNat ++ natToBytes 2 (trippedMask d) ++
      natToBytes 1 (topStage d) ++ natToBytes 1 d.fs.cause) d
    match placeMessage g m false (fd.1, d') with
    | some (f, d) => (f, { d with fs := { d.fs with reported := true } })
    | none => fd
  else fd

/-- An envelope carries a Dying Gasp. -/
def isGasp (e : OutEnv) : Bool := e.ctl == some 0x83

/-- A grant's content carries a Dying Gasp. -/
def holdsGasp (g : Grant) : Bool :=
  match g.content with
  | some c => c.envs.any isGasp
  | none => false

/-- The repeat number of a channel's next Dying Gasp: those sent on it, and those that wait in filled grants before this one
(R137, R155). (DEDUCED, log entry 162) -/
def gaspRepeat (d : Dev) (g : Grant) : Nat :=
  agetD d.act.gaspSent g.ch 0 +
    (d.up.grants.filter (fun x => x.ch == g.ch && !x.started && holdsGasp x && decide (grantBegin x < grantBegin g))).length

/-- A burst is to carry a Dying Gasp: PFAIL_N fell in Operation, and it starts 20 µs or more after that (R154). -/
def gaspDue (d : Dev) (g : Grant) : Bool :=
  d.act.gaspPending && g.kind == .data && decide (d.act.pfailAt + 20 * Config.us ≤ grantBegin g)

/-- The Dying Gasp (R137, R154). -/
def placeGasp (g : Grant) (fd : Filling × Dev) : Filling × Dev :=
  let d := fd.2
  if gaspDue d g then
    let (s, n, _) := ltSplit d.act.pfailLt
    let (m, d') := upMessage 0x83 (natToBytes 1 (1 + 2 * d.act.battLow.toNat) ++ natToBytes 1 (min 255 (gaspRepeat d g)) ++
      natToBytes 6 s ++ natToBytes 4 n) d
    (placeMessage g m false (fd.1, d')).getD fd
  else fd

/-- The messages of the outbox, oldest first, while they fit. -/
def placeOutbox (g : Grant) : List (List Byte) → Filling × Dev → Filling × Dev
  | [], fd => fd
  | m :: l, fd =>
    match placeMessage g m true fd with
    | some (f, d) => placeOutbox g l (f, { d with act := { d.act with outbox := d.act.outbox.drop 1 } })
    | none => fd

/-- The Sleep Notice (R137, R152). -/
def placeNotice (g : Grant) (fd : Filling × Dev) : Filling × Dev :=
  let d := fd.2
  match d.act.noticePending with
  | some st =>
    if d.act.noticePlaced then fd
    else
      let left := match d.act.sleepUntil with
        | some t => (t - d.now) / Config.sec
        | none => 0
      let (m, d') := upMessage 0x85 (natToBytes 1 st ++ natToBytes 2 left) d
      match placeMessage g m true (fd.1, d') with
      | some (f, d) => (f, { d with act := { d.act with noticePlaced := true } })
      | none => fd
  | none => fd

/-! ## Data (R176, R178, R181) -/

/-- Two envelopes hold data of one copy: the same packet drawn from the same queue. -/
def sameCopy (x e : OutEnv) : Bool := e.copy == x.copy && e.owner.map (·.1) == x.owner.map (·.1)

/-- An envelope begins a copy under an Evicting slot of which nothing has left and nothing stands in a burst (R277). -/
def evictedEnv (d : Dev) (e : OutEnv) : Bool :=
  e.first && (match e.copy with
    | some (k, _) => evicted d k
    | none => false) &&
    !d.up.grants.any (fun g => match g.content with
      | some c => c.envs.any (sameCopy e)
      | none => false)

/-- The copy that a re-issued envelope of a slot begins dropped and counted: its envelopes, and what of it is still queued
(R277). -/
def dropOutCopy (slot : Nat) (x : OutEnv) (d : Dev) : Dev :=
  let es := agetD d.up.reissue slot []
  let d := { d with up := { d.up with reissue := aputD d.up.reissue slot (es.filter (fun e => !sameCopy x e)) [] } }
  let d := endEnvs (es.filter (sameCopy x)) (count .evictedCopies 0 d)
  match x.owner, x.copy with
  | some (q, _), some (_, st) => takeOut q (fun p => p.store == st && p.sent != 0) (fun _ d => d) d
  | _, _ => d

/-- Re-issued copies of a slot under an Evicting generation slot are dropped (R277). -/
def purgeReissue (slot : Nat) (d : Dev) : Dev :=
  ((agetD d.up.reissue slot []).filter (evictedEnv d)).foldl (fun d x => dropOutCopy slot x d) d

/-- Re-issued envelopes of a slot, in order; a withheld one is passed over, one that does not fit ends the filling (R117,
R181). -/
def placeReissue (g : Grant) : List OutEnv → List OutEnv → Filling × Dev → List OutEnv × Bool × Filling × Dev
  | [], kept, fd => (kept, true, fd.1, fd.2)
  | e :: l, kept, fd =>
    if e.ciphered && txWithheld fd.2 then placeReissue g l (kept ++ [e]) fd
    else match place g e fd with
      | some fd => placeReissue g l kept fd
      | none => (kept ++ e :: l, false, fd.1, fd.2)

/-- The next bonding sequence of an upstream flow (R99). -/
def nextSeq (flow : Nat) (d : Dev) : Nat × Dev :=
  let s := agetD d.up.seqs flow 0
  (s, { d with up := { d.up with seqs := aputD d.up.seqs flow ((s + 1) % 4096) 0 } })

/-- A queue is passed over at the fill: its head's flow is withheld, or it has run short of descriptors in this fill (R117,
R332, R348). -/
def fillBlocked (f : Filling) (d : Dev) (q : Nat) : Bool :=
  match (queue d q).items with
  | [] => true
  | p :: _ => (upCiphered d p.flow && txWithheld d) || f.short.contains q

/-- The queues of a slot whose next descriptor is not on die run short for the rest of the fill, each counted (R348). -/
def noteShort (g : Grant) (fd : Filling × Dev) : Filling × Dev :=
  let (f, d) := fd
  let qs := ((List.range 32).map (fun i => upBase + 32 * g.slot + i)).filter (fun q =>
    !f.short.contains q && (match (queue d q).items with
      | p :: _ => !onDie p && !descOnDie d q
      | [] => false))
  if qs.isEmpty then fd
  else ({ f with short := qs ++ f.short }, raise fWD_EVENT_DESC_SHORT 0 (countN .descriptorShort 0 qs.length d))

/-- Envelope bytes of a queue's head (R333). -/
def headEnvelope (d : Dev) (q : Nat) : Nat :=
  match (queue d q).items with
  | p :: _ => envelopeBytes (p.bytes.length - p.sent) (upCiphered d p.flow)
  | [] => 0

/-- A packet's data in the Wardrobe is poisoned (R32, R351, R458). -/
def poisonedPkt (d : Dev) (p : QPkt) : Bool :=
  match p.page with
  | some (pg, off) => !p.staged && poisonedAt d 2 (pageData pg off) p.bytes.length
  | none => false

/-- The descriptor block of a packet's page is poisoned. -/
def poisonedBlock (d : Dev) (p : QPkt) : Option Nat :=
  match p.page with
  | some (pg, _) => if !p.staged && poisonedAt d 2 (65536 * pg) 4096 then some pg else none
  | none => none

/-- A poisoned read by the Wardrobe's port (R458). -/
def wardrobeRead (d : Dev) : Dev := raise fMC_EVENT_UE 0 (count .memPoisonReads 0 d)

/-- An uncorrectable packet at the head dropped (R32, R344, R351). -/
def dropEcc (q : Nat) (p : QPkt) (d : Dev) : Dev :=
  let d := drainDown p.slot (emptied q (popQueue q d))
  if onDie p then raise fTM_EVENT_BUF_ECC 0 (count .qEccDrops q d)
  else raise fWD_EVENT_ECC 0 (count .wdEccDrops 0 d)

/-- Every packet of a page whose descriptor block is lost dropped, and the page freed (R351). -/
def dropPage (page : Nat) (d : Dev) : Dev :=
  let inPage := fun (p : QPkt) => (p.page.map (·.1)) == some page
  let lost := d.tm.queues.any (fun e => e.2.items.any inPage)
  raiseIf lost fWD_EVENT_ECC 0 (d.tm.queues.foldl (fun d e =>
    modQueue e.1 (fun w => { w with openPage := w.openPage.filter (fun x => x.1 != page) })
      (takeOut e.1 inPage (fun _ => count .wdEccDrops 0) d)) d)

/-- A packet's data read from the Wardrobe where it lies there (R344, R459). -/
def pageRead (p : QPkt) (d : Dev) : Dev :=
  match p.page with
  | some (pg, off) => if p.staged then d else mapReads 2 (pageData pg off) p.bytes.length d
  | none => d

/-- The envelope for n further bytes of a queue's head. -/
def headEnv (q : Nat) (p : QPkt) (n : Nat) (last : Bool) (d : Dev) : OutEnv × Dev :=
  let d := pageRead p d
  let (s, d) := nextSeq p.flow d
  let (o, d) := nextOrder d
  ({ flow := p.flow, first := p.sent == 0, last := last, seq := s, ciphered := upCiphered d p.flow,
     plain := (p.bytes.drop p.sent).take n, gen := if last then some p.slot else none, admittedAt := p.admittedAt,
     data := true, order := o, src := some (q, p), owner := some (q, p.marked), copy := some (p.slot, p.store) }, d)

/-- New envelopes from a slot's node: whole packets and continuations, fragments where a lane has room for one, until the
node offers nothing or nothing fits (R176, R178). The first argument bounds the steps. -/
def placeData (g : Grant) : Nat → Filling × Dev → Filling × Dev
  | 0, fd => fd
  | fuel + 1, fd =>
    let (f, d) := noteShort g (fd.1, purgeNode (96 + g.slot) fd.2)
    match nextQueue (fillBlocked f d) headEnvelope (96 + g.slot) d with
    | (none, d) => (f, d)
    | (some q, d) =>
      match (queue d q).items with
      | [] => (f, d)
      | p :: _ =>
        if p.ecc then placeData g fuel (f, dropEcc q p d)
        else if poisonedPkt d p then placeData g fuel (f, dropEcc q p (wardrobeRead d))
        else if let some pg := poisonedBlock d p then placeData g fuel (f, dropPage pg (wardrobeRead d))
        else
          let rest := p.bytes.length - p.sent
          let ciph := upCiphered d p.flow
          let n := envelopeWords rest ciph
          match f.lane n with
          | some l =>
            let (e, d) := headEnv q p rest true d
            placeData g fuel (placeOn g l n e (f, charge (96 + g.slot) q (8 * n) (popQueue q d)))
          | none =>
            let l := f.roomier
            let w := f.free l
            if w < fld d fLE_FILL_FRAG_MIN 0 then (f, d)
            else
              let bytes := 8 * (w - 1) - if ciph then 16 else 0
              let (e, d) := headEnv q p bytes false d
              let d := modQueue q (fun x => { x with items := match x.items with
                | y :: r => { y with sent := y.sent + bytes } :: r
                | [] => [] }) d
              placeData g fuel (placeOn g l w e (f, charge (96 + g.slot) q (8 * w) d))

/-- Idle envelopes over n free words of a lane (R87, R179). -/
def placeIdle (laneB : Bool) : Nat → Nat → Filling → Filling
  | 0, _, f => f
  | fuel + 1, n, f =>
    if n = 0 then f
    else
      let w := min n 2049
      let len := min (8 * (w - 1)) 16383
      placeIdle laneB fuel (n - w) (f.put laneB w
        { flow := 0xFFFF, first := false, last := false, seq := 0, ciphered := false, plain := [],
          header := envHeader 0xFFFF len false false 0 0, payload := List.replicate len 0 })

/-- Every free word filled with idle envelopes. -/
def idleFill (f : Filling) : Filling :=
  let f := placeIdle false f.cap (f.free false) f
  placeIdle true f.cap (f.free true) f

/-! ## The fill (R165, R175, R176, R188) -/

/-- A grant for the tributary allocation ID (R188, R189). -/
def isTribGrant (d : Dev) (g : Grant) : Bool :=
  g.kind == .data && fld d fLE_TRIB_VALID 0 == 1 && fld d fLE_TRIB_ALLOC 0 == g.alloc

/-- It can hold the tributary block. -/
def holdsTrib (d : Dev) (g : Grant) : Bool := isHome d g.ch && decide (g.preamble + 46 ≤ g.len)

/-- The slots whose reports a grant carries: as many as lane A holds, at most 255 (R176, R184). -/
def reportSlots (d : Dev) (g : Grant) (room : Nat) : List Nat :=
  if g.kind == .data && g.report && actState d == 4 then
    (if g.alloc = termNum d then reportOrder d else [g.slot]).take (min 255 room)
  else []

/-- A grant may carry the other control messages: one to the default allocation ID, the home channel first (R140).
(DEDUCED, log entry 163) -/
def carriesControl (d : Dev) (g : Grant) : Bool :=
  g.alloc == termNum d && (isHome d g.ch ||
    !d.up.grants.any (fun x => x.kind == .data && x.content.isNone && x.alloc == g.alloc && isHome d x.ch && x.fc == g.fc))

/-- Control messages and data of a data grant (R176, steps 4 to 7); in Sleep no data (R549). -/
def placeAll (g : Grant) (fd : Filling × Dev) : Filling × Dev :=
  let fd := placeGasp g (placeTrip g fd)
  let fd := if carriesControl fd.2 g then placeNotice g (placeOutbox g fd.2.act.outbox fd) else fd
  if fd.2.pwr.state = 2 then fd
  else
    let fd := (fd.1, purgeReissue g.slot fd.2)
    let (kept, go, f, d) := placeReissue g (agetD fd.2.up.reissue g.slot []) [] fd
    let d := { d with up := { d.up with reissue := aputD d.up.reissue g.slot kept [] } }
    if ¬ go then (f, d)
    else
      let waiting := (List.range 32).foldl (fun a i => a + (queue d (upBase + 32 * g.slot + i)).items.length) 0
      placeData g (2 * f.cap + 1 + waiting) (f, d)

/-- A grant's content, decided at its fill point; a block in which every container is unequipped where none is ready.
(DESIGN CHOICE, log entry 204) -/
def fillGrant (g : Grant) (d : Dev) : Content × Dev :=
  let cap := burstWords g.len g.preamble
  let trib := isTribGrant d g && holdsTrib d g
  let d := if isTribGrant d g && !holdsTrib d g then count .tribGrantShort 0 d else d
  let block := if trib then d.up.blocks.head? else none
  let d := if trib then { d with up := { d.up with blocks := d.up.blocks.drop 1 } } else d
  let lead := 1 + if trib then 160 else 0
  let rep := reportSlots d g (cap - lead)
  let f : Filling := { cap := cap, usedA := lead + rep.length, usedB := 1, leadA := lead + rep.length, leadB := 1 }
  let (f, d) := if g.kind == .data then placeAll g (f, d) else placeResponse g (f, d)
  let head := burstHeader d rep.length
  let tribWords := match block with
    | some b => b.words
    | none => if trib then List.replicate 160 0 else []
  let d' := if g.kind == .data && g.alloc == termNum d then
      (match rep.getLast? with
       | some k => { d with up := { d.up with cursor := allocId d k + 1 } }
       | none => d)
    else d
  let full := idleFill f
  ({ leadA := head :: (tribWords ++ rep.map (reportEntry d)), leadB := [burstHeader d 0], envs := full.envs.reverse,
     idleWords := f.free false + f.free true, reports := rep.length,
     fetched := !f.envs.any (fun e => match e.src with
       | some (_, p) => !onDie p && !p.staged
       | none => false),
     trib := block }, d')

/-- A grant of a channel with the earliest burst of those that a condition names. -/
def firstGrant (d : Dev) (p : Grant → Bool) : Option Grant :=
  (d.up.grants.filter p).foldl (fun a g => match a with
    | none => some g
    | some x => if grantBegin g < grantBegin x then some g else some x) none

/-- A grant replaced. -/
def setGrant (old new : Grant) (d : Dev) : Dev :=
  { d with up := { d.up with grants := d.up.grants.map (fun g => if g == old then new else g) } }

/-- A grant removed. -/
def dropGrant (g : Grant) (d : Dev) : Dev := { d with up := { d.up with grants := d.up.grants.erase g } }

/-- A grant filled. -/
def fillNow (g : Grant) (d : Dev) : Dev :=
  let (c, d) := fillGrant g d
  setGrant g { g with content := some c } d

/-- A queue whose head on die reads uncorrectable from the packet buffer (R344). -/
def badHead (q : Nat) (d : Dev) : Dev :=
  modQueue q (fun w => { w with items := match w.items with
    | p :: l => (if onDie p then { p with ecc := true } else p) :: l
    | [] => [] }) d

/-- GRANT_FILL: the fill point of a channel's next grant, FILL_LEAD before its burst (R165); the upstream queues named are those
of the grant's slot whose heads read uncorrectable (R344). -/
def grantFill (ch : Nat) (bad : List Nat) (d : Dev) : Dev :=
  match firstGrant d (fun g => g.ch == ch && g.content.isNone &&
      decide (grantBegin g ≤ d.now + fld d fLE_FILL_FILL_LEAD 0 * Config.us)) with
  | some g =>
    if engineRuns d then
      fillNow g ((bad.filter (fun q => q / 32 == g.slot)).foldl (fun d q => badHead (upBase + q) d) d)
    else d
  | none => d

/-- An envelope's data is in the Wardrobe and has not been read. -/
def unread (e : OutEnv) : Bool :=
  match e.src with
  | some (_, p) => !onDie p && !p.staged
  | none => false

/-- Envelopes of a content taken out, idle in their words (R182). -/
def idleOut (late : List OutEnv) (c : Content) : Content :=
  let words := fun (e : OutEnv) => 1 + ceilDiv e.payload.length 8
  let fill := fun (e : OutEnv) =>
    if late.contains e then
      ((placeIdle e.laneB (words e) (words e)
        { cap := e.word + words e, usedA := e.word, usedB := e.word, leadA := 0, leadB := 0 }).envs).reverse
    else [e]
  { c with envs := (c.envs.map fill).flatten, idleWords := c.idleWords + late.foldl (fun a e => a + words e) 0 }

/-- Wardrobe data that a filled grant still waits for and that is poisoned: its packets are dropped and counted, and idle fills
their words (R32, R351). (DEDUCED, log entry 170) -/
def dropUnread (d : Dev) : Dev :=
  d.up.grants.foldl (fun d g =>
    match g.content with
    | none => d
    | some c =>
      let bad := c.envs.filter (fun e => unread e && (match e.src with
        | some (_, p) => poisonedPkt d p
        | none => false))
      if g.started || c.fetched || bad.isEmpty then d
      else
        raise fWD_EVENT_ECC 0 (countN .wdEccDrops 0 (bad.filter (·.last)).length (endEnvs bad
          (setGrant g { g with content := some (idleOut bad c) } d)))) d

/-- WARDROBE_PREFETCH_COMPLETE: the data of the earliest burst that waits for it is on die (R165). -/
def prefetchDone (ch : Nat) (d : Dev) : Dev :=
  let d := dropUnread d
  match firstGrant d (fun g => g.ch == ch && (g.content.map (·.fetched) == some false)) with
  | some g => setGrant g { g with content := g.content.map (fun c => { c with fetched := true }) } d
  | none => d

/-! ## The burst (R166, R180 to R182) -/

/-- Packets drawn from a queue into an envelope list, each as it stood, once. -/
def drawnFrom (q : Nat) : List OutEnv → List QPkt
  | [] => []
  | e :: l =>
    match e.src with
    | some (x, p) => if x = q then p :: (drawnFrom q l).filter (fun y => y.store != p.store) else drawnFrom q l
    | none => drawnFrom q l

/-- A queue's packets from the first unread one on go back to its head (R182). -/
def giveBack (es : List OutEnv) (d : Dev) (q : Nat) : Dev :=
  let ps := drawnFrom q es
  modQueue q (fun w => { w with items := ps ++ w.items.filter (fun y => !(y.sent != 0 && ps.any (fun p => p.store == y.store))) }) d

/-- Wardrobe data that missed assembly: it stays at the head of its queues, and idle fills its words (R182).
(DEDUCED, log entry 53) -/
def prefetchLate (c : Content) (d : Dev) : Content × Dev :=
  let qs := (c.envs.filterMap (fun e => e.src.map (·.1))).eraseDups
  let late := (qs.map (fun q => (c.envs.filter (fun e => e.src.map (·.1) == some q)).dropWhile (fun e => !unread e))).flatten
  let d := raise fLE_GRANT_EVENT_PREFETCH_LATE 0 (qs.foldl (giveBack late) d)
  ({ idleOut late c with fetched := true }, d)

/-- A burst on the channel ended at most 2 slots before this one begins: its end (R168). -/
def nearBefore (d : Dev) (g : Grant) : Option Time :=
  let ends := ((d.up.grants.filter (fun x => x.ch == g.ch && x.started)).map grantEnd ++ (aget d.up.lastEnd g.ch).toList)
  ends.find? (fun t => decide (t ≤ grantBegin g) && decide (grantBegin g ≤ t + 2 * Config.slot))

/-- The levels of the gap behind a near burst: the later burst's pattern, where LCn_BEN has stayed high (R168).
(DESIGN CHOICE, log entry 164) -/
def gapLevels (d : Dev) (g : Grant) : List Nat :=
  match nearBefore d g with
  | some t => if (fsChan d g.ch).ben then preambleLevels g.pattern ((grantBegin g - t) / Config.ui) else []
  | none => []

/-- What the burst shows as it leaves. -/
def burstEmission (gap : List Nat) (g : Grant) (c : Content) : Emission :=
  let words := fun (b : Bool) (lead : List (BitVec 64)) =>
    lead ++ ((c.envs.filter (fun e => e.laneB == b)).map outWords).flatten
  .burst g.ch (grantBegin g) g.len gap (preambleLevels g.pattern (125 * g.preamble)) (g.delim ++ (0 : BitVec 6)) c.leadA
    (c.envs.map (fun e => ⟨e.laneB, e.header, e.payload⟩))
    (codeLane g false (words false c.leadA)) (codeLane g true (words true c.leadB))

/-- Counters of a burst that has begun (R192). (DESIGN CHOICE, log entry 205) -/
def countBurst (g : Grant) (c : Content) (d : Dev) : Dev :=
  let data := c.envs.filter (fun e => e.ctl.isNone && e.flow != 0xFFFF)
  let d := countN .idleWords g.ch c.idleWords (countN .reportEntries g.ch c.reports d)
  if data.isEmpty then d
  else
    data.foldl (fun d e => countN .allocBytes g.slot e.payload.length d)
      (countN .allocEnvelopes g.slot data.length
        (countN .allocFragments g.slot (data.filter (fun e => !(e.first && e.last))).length d))

/-- A burst whose first UI leaves: its envelopes count as sent, so their copies leave their generation slots, and a Dying Gasp
in it is one more of its channel (R155, R157, R181, R276). -/
def burstLeaves (g : Grant) (c : Content) (d : Dev) : Dev :=
  let d := endEnvs c.envs (countBurst g c (setGrant g { g with content := some c, started := true } d))
  if c.envs.any isGasp then
    raiseIf d.act.gaspSent.isEmpty fACT_EVENT_DG_SENT 0 { d with act := { d.act with
      gaspSent := aput d.act.gaspSent g.ch (agetD d.act.gaspSent g.ch 0 + 1) } }
  else d

/-- A filled grant whose instant has come: BEN is asked for one slot before its first UI, through the Firescreen's gate, and the
burst leaves or is lost before that UI (R166, R180, R181). (DEDUCED, log entry 52) -/
def lightGrant (g : Grant) (c : Content) (d : Dev) : Dev :=
  let gap := gapLevels d g
  let d := if (fsChan d g.ch).ben then d else benAsk (grantBegin g - Config.slot) g.ch true d
  if !(fsChan d g.ch).ben then dropGrant g (loseGrant d g)
  else
    let (c, d) := if c.fetched then (c, d) else prefetchLate c d
    emit (burstEmission gap g c) (burstLeaves g c d)

/-- BURST_START: the channel's next burst begins; content not yet decided is decided now (R163).
(DEDUCED, log entry 51) -/
def burstStart (ch : Nat) (d : Dev) : Dev :=
  match firstGrant d (fun g => g.ch == ch && !g.started && decide (grantBegin g ≤ d.now)) with
  | none => d
  | some g =>
    if !engineRuns d then d
    else match g.content with
      | some c => lightGrant g c d
      | none =>
        let (c, d) := fillGrant g d
        lightGrant { g with content := some c } c (setGrant g { g with content := some c } d)

/-- TRIB_BLOCK_EXPIRY: blocks not sent within 2 frames of being built are discarded (R188). -/
def tribExpiry (d : Dev) : Dev :=
  let old := d.up.blocks.filter (fun b => decide (b.builtAt + 2 * Config.frame ≤ d.now))
  if old.isEmpty then d
  else
    raise fLE_GRANT_EVENT_TRIB_LATE 0 (countN .tribDiscarded 0 old.length
      { d with up := { d.up with blocks := d.up.blocks.filter (fun b => decide (d.now < b.builtAt + 2 * Config.frame)) } })

/-- A burst of the channel follows this one within 2 slots of its end, or is lit already (R168). -/
def nearAfter (d : Dev) (g : Grant) : Bool :=
  d.up.grants.any (fun x => x.ch == g.ch && (x.started || decide (grantBegin x ≤ grantEnd g + 2 * Config.slot)))

/-- BURST_END: the last UI has left, and BEN falls one slot later unless a near burst follows (R163, R166, R168). -/
def burstEnd (ch : Nat) (d : Dev) : Dev :=
  match firstGrant d (fun g => g.ch == ch && g.started && decide (grantEnd g ≤ d.now)) with
  | some g =>
    let d := count .burstsSent ch (leaveBurst g (dropGrant g d))
    let d := { d with up := { d.up with lastEnd := aput d.up.lastEnd ch (grantEnd g) } }
    if nearAfter d g then d else benAsk (grantEnd g + Config.slot) ch false d
  | none => d

/-! ## Power failure (R154) -/

/-- A filled grant laid out anew with the Dying Gasp behind its Trip Report; what no longer fits waits for re-issue (R154, R176).
(DEDUCED, log entry 165) -/
def addGasp (d : Dev) (g : Grant) : Dev :=
  match g.content with
  | none => d
  | some c =>
    if !gaspDue d g || holdsGasp g then d
    else
      let real := c.envs.filter (fun e => e.ctl.isSome || e.data)
      let isTrip := fun (e : OutEnv) => e.ctl == some 0x84
      let f : Filling := { cap := burstWords g.len g.preamble, usedA := c.leadA.length, usedB := c.leadB.length,
                           leadA := c.leadA.length, leadB := c.leadB.length }
      let (_, _, f, d) := placeReissue g (real.filter isTrip) [] (f, d)
      let (f, d) := placeGasp g (f, d)
      let (kept, _, f, d) := placeReissue g (real.filter (fun e => !isTrip e)) [] (f, d)
      let kept := kept.map (fun e => { e with src := none })
      let d := { d with up := { d.up with
        reissue := aputD d.up.reissue g.slot (kept.foldl (fun l e => insertOut e l) (agetD d.up.reissue g.slot [])) [] } }
      setGrant g { g with content := some { c with
        envs := (idleFill f).envs.reverse, idleWords := f.free false + f.free true } } d

/-- Grants in the order in which their bursts begin. -/
def insertBegin (g : Grant) : List Grant → List Grant
  | [] => [g]
  | x :: l => if grantBegin g < grantBegin x then g :: x :: l else x :: insertBegin g l

/-- PFAIL_N falls: in Operation a Dying Gasp goes into the bursts from 20 µs on, those filled already among them, in the order of
the bursts (R137, R154). -/
def pfailFall (d : Dev) : Dev :=
  let d := { d with act := { d.act with
    pfailLow := true, pfailAt := d.now, pfailLt := ltNow d, gaspPending := actState d == 4, gaspSent := [] } }
  ((d.up.grants.filter (fun g => !g.started)).foldl (fun l g => insertBegin g l) []).foldl addGasp d

/-- The Dying Gasp of a burst that has not begun taken out, idle in its words (R154). -/
def removeGasp (g : Grant) : Grant :=
  if g.started then g
  else { g with content := g.content.map (fun c =>
    if c.envs.any isGasp then idleOut (c.envs.filter isGasp) c else c) }

/-- PFAIL_N rises: no Dying Gasp leaves any more, those in filled bursts among them (R154). -/
def pfailRise (d : Dev) : Dev :=
  { d with
    act := { d.act with pfailLow := false, gaspPending := false }
    up := { d.up with grants := d.up.grants.map removeGasp } }

/-! ## Meanings -/

/-- GRANT_FILL. -/
def execGrantFill (t : Time) (x : FillPoint) (s : State) : Out :=
  at_ t (grantFill x.ch (x.bad.map (·.toNat))) s

/-- WARDROBE_PREFETCH_COMPLETE. -/
def execWardrobePrefetchComplete (t : Time) (ch : Fin 16) (s : State) : Out := at_ t (prefetchDone ch) s

/-- BURST_START. -/
def execBurstStart (t : Time) (ch : Fin 16) (s : State) : Out := at_ t (fsDrive (burstStart ch)) s

/-- TRIB_BLOCK_EXPIRY. -/
def execTribBlockExpiry (t : Time) (s : State) : Out := at_ t tribExpiry s

end Sys2Proof.Machine
end

