-- ==== Sys2Proof/Machine/Tributaries.lean ====
section
/-!
DEFINITION. Machine/Tributaries.lean: tributaries, management data channels, highway mode and the time-slot interchange
(R387 to R415): the meanings of their commands.
-/

namespace Sys2Proof.Machine

/-! ## State access -/

/-- A tributary. (DESIGN CHOICE, log entry 84) -/
def trib (d : Dev) (k : Nat) : Trib := agetD d.trib.tribs k {}

/-- A tributary changed. -/
def modTrib (k : Nat) (f : Trib → Trib) (d : Dev) : Dev :=
  { d with trib := { d.trib with tribs := aputD d.trib.tribs k (f (trib d k)) {} } }

/-- The tributary unit is present and runs (R2). -/
def tribUnit (d : Dev) : Bool := d.part.hasTributaries && pdOn d 49

/-- Kind: 0 unequipped, 1 at 2.048, 2 at 1.544 Mbit/s; 3 acts as 0 (R413). -/
def tribKind (d : Dev) (k : Nat) : Nat := fld d fTB_CFG_KIND k % 3

/-- Fixed data bits of a kind (R393). -/
def fixedBits (kind : Nat) : Nat := if kind = 2 then 192 else 255

/-- Highway mode. -/
def highway (d : Dev) : Bool := fld d fTR_CTRL_HIGHWAY 0 == 1

/-- The two frames after a change of highway mode run (R411). -/
def hwChanging (d : Dev) : Bool := d.trib.changeDue.isSome

/-- A slip counted on a tributary (R397, R407). (DEDUCED, log entry 88) -/
def tribSlip (c : CName) (k : Nat) (d : Dev) : Dev :=
  raise fTR_EVENT_SLIP 0 (raise fTB_EVENT_SLIP k (count c k d))

/-- A bit of TB_STATUS. -/
def tribFlag (d : Dev) (f : Fld) (k : Nat) : Bool := fld d f k == 1

/-- A defect entered or left, with its event (R401). -/
def setDefect (f ev : Fld) (k : Nat) (on : Bool) (d : Dev) : Dev :=
  let was := tribFlag d f k
  let d := setFld f k on.toNat d
  if on && !was then raise fTR_EVENT_DEFECT 0 (raise ev k d) else d

/-- A tributary whose kind has changed: defects cleared, buffers recentred (R402). -/
def tribFresh (k : Nat) (d : Dev) : Dev := setReg .tbStatus k 0 (modTrib k (fun _ => {}) d)

/-! ## Test pattern (R394, R403) -/

/-- n bits of PRBS15 from a state, and the state after them. -/
def prbs15 : Nat → Nat → List Bool × Nat
  | 0, s => ([], s)
  | n + 1, s =>
    let b := (s.testBit 14) != (s.testBit 13)
    let (l, s') := prbs15 n ((2 * s + b.toNat) % 32768)
    (b :: l, s')

/-- One received bit at the checker: the checker after it, and whether it counted as an error. -/
def checkBit (c : TribChecker) (b : Bool) : TribChecker × Bool :=
  let p := (c.state.testBit 14) != (c.state.testBit 13)
  if c.lock then
    let bad := c.bad + (p != b).toNat
    let c := { c with state := (2 * c.state + p.toNat) % 32768, seen := c.seen + 1, bad := bad }
    if 256 < bad then ({ c with lock := false, good := 0, seen := 0, bad := 0 }, p != b)
    else if c.seen = 1024 then ({ c with seen := 0, bad := 0 }, p != b)
    else (c, p != b)
  else
    let good := if p = b then c.good + 1 else 0
    let c := { c with state := (2 * c.state + b.toNat) % 32768, good := good }
    (if 64 ≤ good then { c with lock := true, good := 0 } else c, false)

/-- Received data bits checked; errors counted (R403). (DEDUCED, log entry 92) -/
def checkPattern (k : Nat) (bs : List Bool) (d : Dev) : Dev :=
  let (c, n) := bs.foldl (fun (a : TribChecker × Nat) b => let (c, e) := checkBit a.1 b; (c, a.2 + e.toNat)) ((trib d k).chk, 0)
  countN .tbTestErrors k n (modTrib k (fun t => { t with chk := c }) d)

/-! ## Downstream containers (R391 to R395, R401) -/

/-- Two of three bits from offset i on are one (R395). -/
def majority (c : List Bool) (i : Nat) : Bool :=
  decide (2 ≤ (c.getD i false).toNat + (c.getD (i + 1) false).toNat + (c.getD (i + 2) false).toNat)

/-- The data bits of a container under a kind, and its controls (R393, R395). -/
def containerData (kind : Nat) (c : List Bool) : List Bool × Bool × Bool :=
  let c1 := majority c 5
  let c2 := majority c 8
  let f := fixedBits kind
  ((if c1 then [c.getD 11 false] else []) ++ (c.drop 16).take f ++ (if c2 then [] else [c.getD (16 + f) false]), c1, c2)

/-- Container k of a tributary area; none where part of it is errored (R45, R391). -/
def containerAt (area : List (Option Bool)) (k : Nat) : Option (List Bool) :=
  let c := (area.drop (256 + 312 * k)).take 312
  if c.all Option.isSome then some (c.map (·.getD false)) else none

/-- A run toward setting or clearing a defect by three successive containers. (DEDUCED, log entry 86) -/
def stepDefect (f ev : Fld) (k : Nat) (seen : Bool) (run : Nat) (d : Dev) : Nat × Dev :=
  let (on, r, _) := runDefect (tribFlag d f k) seen run
  (r, setDefect f ev k on d)

/-- The defects other than CLOSS after a present container (R401). -/
def labelDefects (k label : Nat) (d : Dev) : Dev :=
  let r := (trib d k).runs
  let plm := decide (5 ≤ label) || ((label == 1 || label == 2) && label != tribKind d k)
  let (u, d) := stepDefect fTB_STATUS_UNEQ fTB_EVENT_UNEQ_IN k (label == 0) r.uneq d
  let (p, d) := stepDefect fTB_STATUS_PLM fTB_EVENT_PLM_IN k plm r.plm d
  let (a, d) := stepDefect fTB_STATUS_AIS fTB_EVENT_AIS_IN k (label == 4) r.ais d
  modTrib k (fun t => { t with runs := { t.runs with uneq := u, plm := p, ais := a } }) d

/-- RDI is sent while CLOSS or PLM is present (R402). -/
def setTxRdi (k : Nat) (d : Dev) : Dev :=
  setFld fTB_STATUS_TX_RDI k (tribFlag d fTB_STATUS_CLOSS k || tribFlag d fTB_STATUS_PLM k).toNat d

/-- A downstream container judged: missing, or its label, RDI and defects (R401, R402). -/
def judgeContainer (k : Nat) (c : Option (List Bool)) (d : Dev) : Dev :=
  let r := (trib d k).runs
  setTxRdi k (match c with
  | none =>
    let m := min 3 (r.miss + 1)
    let d := modTrib k (fun t => { t with runs := { miss := m } }) (count .tbMissing k d)
    if 3 ≤ m then setDefect fTB_STATUS_CLOSS fTB_EVENT_CLOSS_IN k true d else d
  | some c =>
    let label := bitsToNat (c.take 3)
    let h := min 3 (r.here + 1)
    let d := modTrib k (fun t => { t with runs := { t.runs with miss := 0, here := h } }) (count .tbContainers k d)
    let d := setFld fTB_STATUS_RX_LABEL k label (setFld fTB_STATUS_RRDI k (c.getD 3 false).toNat d)
    let d := if 3 ≤ h then setFld fTB_STATUS_CLOSS k 0 d else d
    if tribFlag d fTB_STATUS_CLOSS k then d else labelDefects k label d)

/-- CLOSS, UNEQ, PLM or AIS is present (R402). -/
def tribDefect (d : Dev) (k : Nat) : Bool :=
  tribFlag d fTB_STATUS_CLOSS k || tribFlag d fTB_STATUS_UNEQ k || tribFlag d fTB_STATUS_PLM k || tribFlag d fTB_STATUS_AIS k

/-- The bits a tributary puts out for a container: its data, or ones (R399, R402). (DEDUCED, log entry 87) -/
def tribOut (k : Nat) (c : Option (List Bool)) (d : Dev) : List Bool × Dev :=
  let kind := tribKind d k
  let ones := List.replicate (fixedBits kind + 1) true
  match c with
  | none => (ones, d)
  | some c =>
    let (bs, c1, c2) := containerData kind c
    let label := bitsToNat (c.take 3)
    let d := if label = 0 then d else countN .tbC1Received k c1.toNat (countN .tbC2Received k c2.toNat d)
    let d := if label = 3 then checkPattern k bs d else d
    (if tribDefect d k ∨ label = 0 then ones else bs, d)

/-! ## G.704 alignment (R406) -/

/-- The seven bits of a FAS (R408). -/
def fasBits : Nat := 0x1B

/-- One bit of a tributary's stream: the alignment after it, and a frame of 32 bytes where one is complete. -/
def alignBit (a : GAlign) (b : Bool) : GAlign × Option (List Byte) :=
  let last := (2 * a.last + b.toNat) % 256
  match a.phase with
  | .hunt =>
    if last % 128 = fasBits then
      ({ a with phase := .fas, last := last, pos := 8, acc := last, isFas := true, errs := 0 }, none)
    else ({ a with last := last }, none)
  | _ =>
    let fresh := a.pos == 256
    let pos := if fresh then 1 else a.pos + 1
    let isFas := if fresh then !a.isFas else a.isFas
    let acc := if fresh then b.toNat else 2 * a.acc + b.toNat
    let a := { a with last := last, pos := pos, acc := acc, isFas := isFas }
    if pos = 2 ∧ ¬ isFas ∧ a.phase = .fas then (if b then { a with phase := .nfas } else { a with phase := .hunt }, none)
    else if pos = 8 ∧ isFas then
      let good := last % 128 == fasBits
      match a.phase with
      | .aligned =>
        if good then ({ a with errs := 0 }, none)
        else if a.errs + 1 < 3 then ({ a with errs := a.errs + 1 }, none)
        else ({ a with phase := .hunt, errs := 0 }, none)
      | _ => (if good then { a with phase := .aligned, errs := 0 } else { a with phase := .hunt }, none)
    else if pos = 256 ∧ a.phase = .aligned then (a, some (natToBytes 32 acc))
    else (a, none)

/-- A slip buffer that holds more than two frames deletes one, a controlled slip; nothing slips before the buffer has been centred
(R407). -/
def overflowSlip (k : Nat) (d : Dev) : Dev :=
  let t := trib d k
  if t.slip.length ≤ 2 then d
  else
    let d := modTrib k (fun t => { t with slip := t.slip.drop (t.slip.length - 2) }) d
    if t.primed then tribSlip .tbControlled k d else d

/-- A tributary's bits through alignment into its slip buffer of two frames (R406, R407). -/
def alignBits (k : Nat) (bs : List Bool) (d : Dev) : Dev :=
  let t := trib d k
  let (a, fs) := bs.foldl (fun (x : GAlign × List (List Byte)) b =>
    let (a, f) := alignBit x.1 b
    (a, match f with
      | some f => x.2 ++ [f]
      | none => x.2)) (t.align, t.slip)
  let lost := decide (a.phase ≠ .aligned)
  let was := tribFlag d fTB_STATUS_LFA k
  raiseIf (lost && !was) fTB_EVENT_LFA_IN k (setFld fTB_STATUS_LFA k lost.toNat
    (overflowSlip k (modTrib k (fun t => { t with align := a, slip := fs }) d)))

/-- The frame a tributary delivers to the interchange in this highway frame: all ones under a defect, under LFA, and until its slip
buffer is centred at one frame; where the buffer is empty the latest frame is repeated, a controlled slip (R406, R407). -/
def deliverFrame (k : Nat) (d : Dev) : Dev :=
  let t := trib d k
  let ones := List.replicate 32 255
  if tribDefect d k || tribFlag d fTB_STATUS_LFA k then
    modTrib k (fun t => { t with slip := [], lastFrame := ones, primed := false }) d
  else if t.primed then
    match t.slip with
    | f :: l => modTrib k (fun t => { t with slip := l, lastFrame := f }) d
    | [] => tribSlip .tbControlled k d
  else
    match t.slip with
    | f :: g :: l => modTrib k (fun t => { t with slip := g :: l, lastFrame := f, primed := true }) d
    | _ => modTrib k (fun t => { t with lastFrame := ones }) d

/-! ## The interchange (R409) -/

/-- Fields of a connection memory entry (R412). -/
def connValid (w : Word) : Bool := w.toNat.testBit 10
def connTrib (w : Word) : Nat := bitsOf w.toNat 9 5
def connSlot (w : Word) : Nat := bitsOf w.toNat 4 0

/-- Entry e of a direction in a page. -/
def connEntry (page : List (Nat × Word)) (up : Bool) (e : Nat) : Word := agetD page (512 * up.toNat + e) 0

/-- The idle code. -/
def idleCode (d : Dev) : Byte := BitVec.ofNat 8 (fld d fTR_CTRL_IDLE_CODE 0)

/-- A highway slot downstream (R409, R410). -/
def slotOut (d : Dev) (e : Nat) : Byte :=
  let w := connEntry d.trib.active false e
  if !connValid w then idleCode d
  else if tribKind d (connTrib w) = 0 then 255
  else (trib d (connTrib w)).lastFrame.getD (connSlot w) 255

/-- The four highways of a frame: 128 slots each; all ones in the two frames after a change (R405, R411). -/
def highwaysOut (d : Dev) : Dev :=
  (List.range 4).foldl (fun x h =>
    emit (.highwaySlots h ((List.range 128).map (fun s => if hwChanging d then 255 else slotOut d (128 * h + s)))) x) d

/-- A time slot of a tributary upstream: from the entry that feeds it, or the idle code (R408, R409). -/
def slotIn (d : Dev) (hw : List (List Byte)) (k ts : Nat) : Byte :=
  match (List.range 512).find? (fun e =>
      let w := connEntry d.trib.active true e
      connValid w && connTrib w == k && connSlot w == ts) with
  | some e => (hw.getD (e / 128) []).getD (e % 128) 255
  | none => idleCode d

/-- Time slot 0 of a frame built upstream; bit 1 of an NFAS is a free value (R408). -/
def slotZero (d : Dev) (k : Nat) (si : Bool) : Byte :=
  if d.trib.fasNext then 0x9B
  else BitVec.ofNat 8 (si.toNat * 128 + 64 +
    (tribDefect d k || tribFlag d fTB_STATUS_LFA k).toNat * 32 + 31)

/-- The 256 bits of a tributary's G.704 frame upstream (R408). -/
def frameUp (d : Dev) (hw : List (List Byte)) (k : Nat) (si : Bool) : List Bool :=
  ((slotZero d k si :: (List.range 31).map (fun i => slotIn d hw k (i + 1))).map (fun b => natToBits 8 b.toNat)).flatten

/-! ## Upstream containers (R392 to R398, R402) -/

/-- A container from label, RDI, controls and data bits (R393). -/
def container (kind label : Nat) (rdi c1 c2 : Bool) (data : List Bool) : List Bool :=
  let f := fixedBits kind
  let n := if c1 then data.headD false else false
  let rest := if c1 then data.drop 1 else data
  let c := natToBits 3 label ++ [rdi, false] ++ List.replicate 3 c1 ++ List.replicate 3 c2 ++ [n] ++ List.replicate 4 false ++
    rest.take (if c2 then f else f + 1)
  c ++ List.replicate (312 - c.length) false

/-- n free bits, for what a recentred buffer holds. -/
def freeBits : Nat → Dev → List Bool × Dev
  | 0, d => ([], d)
  | n + 1, d =>
    let (i, d) := nextFree d
    let (l, d) := freeBits n d
    ((Config.freeWord i).getLsbD 0 :: l, d)

/-- The input buffer's container: its fill at the boundary decides the controls; where it overflows or underflows it is
recentred (R397). (DEDUCED, log entry 85) -/
def bufferContainer (k : Nat) (input : List Bool) (d : Dev) : (List Bool × Bool × Bool) × Dev :=
  let n := fixedBits (tribKind d k) + 1
  let all := (trib d k).buf ++ input
  if all.length < n ∨ n + 64 < all.length then
    let (pad, d) := freeBits (n - all.length) d
    let (b, d) := freeBits 32 d
    (((all ++ pad).take n, false, false), tribSlip .tbSlips k (modTrib k (fun t => { t with buf := b }) d))
  else
    let fill := all.length - n
    let c1 := decide (40 < fill)
    let c2 := decide (fill < 24)
    let m := if c1 then n + 1 else if c2 then n - 1 else n
    ((all.take m, c1, c2), modTrib k (fun t => { t with buf := all.drop m }) d)

/-- The bits a tributary input delivered. -/
def tribInput (inp : BoundaryInputs) (k : Nat) : List Bool :=
  match inp.tribs.find? (fun x => x.trib.val == k) with
  | some x => x.bits
  | none => []

/-- The upstream container of a tributary for the frame just ended (R398, R402, R411). -/
def closeContainer (k : Nat) (inp : BoundaryInputs) (d : Dev) : List Bool × Dev :=
  let kind := tribKind d k
  let rdi := tribFlag d fTB_STATUS_TX_RDI k
  let ones := List.replicate (fixedBits kind + 1) true
  if hwChanging d then (container kind 4 rdi false false ones, d)
  else if kind = 0 then (List.replicate 312 false, d)
  else if fld d fTB_CFG_FORCE_AIS k = 1 then (container kind 4 rdi false false ones, d)
  else if fld d fTB_CFG_TEST k = 1 then
    let (bs, s) := prbs15 (fixedBits kind + 1) (trib d k).gen
    (container kind 3 rdi false false bs, modTrib k (fun t => { t with gen := s }) d)
  else if tribFlag d fTB_STATUS_IN_LOS k && !highway d then (container kind 4 rdi false false ones, d)
  else if highway d then
    let (i, d) := nextFree d
    (container kind 1 rdi false false (frameUp d inp.highways k ((Config.freeWord i).getLsbD 0)), d)
  else
    let ((data, c1, c2), d) := bufferContainer k (tribInput inp k) d
    (container kind kind rdi c1 c2 data, countN .tbC1Sent k c1.toNat (countN .tbC2Sent k c2.toNat d))

/-- Every container in order. -/
def closeContainers (inp : BoundaryInputs) (d : Dev) : List Bool × Dev :=
  (List.range 32).foldl (fun (a : List Bool × Dev) k => let (c, d) := closeContainer k inp a.2; (a.1 ++ c, d)) ([], d)

/-- Management data sampled on a channel; zero while it is disabled (R389, R392). -/
def mdSampled (d : Dev) (inp : BoundaryInputs) (n : Nat) : Nat :=
  if (fld d fMD_CTRL_EN 0).testBit n then (inp.md.getD n 0).toNat else 0

/-- n words from bits. -/
def bitWords : Nat → List Bool → List (BitVec 64)
  | 0, _ => []
  | n + 1, bs => BitVec.ofNat 64 (bitsToNat (bs.take 64)) :: bitWords n (bs.drop 64)

/-- The tributary block of the frame just ended (R188, R391, R392). -/
def buildBlock (inp : BoundaryInputs) (fc : Word) (d : Dev) : Dev :=
  let (cs, d) := closeContainers inp d
  let head := natToBits 48 fc.toNat ++ ((List.range 4).map (fun n => natToBits 24 (mdSampled d inp n))).flatten ++
    List.replicate 112 false
  { d with up := { d.up with blocks := d.up.blocks ++ [{ fc := fc, builtAt := d.now, words := bitWords 160 (head ++ cs) }] } }

/-! ## A frame boundary (R387 to R389, R399, R401, R405) -/

/-- Overhead of the frame that ends at this boundary. -/
def endedFrame (d : Dev) : Option Overhead :=
  if numHeld d then
    (chan d (homeChan d)).overhead.find? (fun o =>
      decide (o.at_ + Config.frame / 2 < d.now) && decide (d.now < o.at_ + Config.frame + Config.frame / 2))
  else none

/-- A tributary's downstream container and output at a boundary. -/
def tribDown (o : Option Overhead) (d : Dev) (k : Nat) : Dev :=
  if tribKind d k = 0 then d
  else
    let c := match o with
      | some o => match o.area with
        | some a => containerAt a k
        | none => none
      | none => none
    let (bs, d) := tribOut k c (judgeContainer k c d)
    let d := if highway d then deliverFrame k (alignBits k bs d) else d
    if hwChanging d then emit (.tribBits k (List.replicate bs.length true)) d
    else if highway d then d
    else emit (.tribBits k bs) d

/-- Every tributary, and the highways: both carry ones in the two frames after highway mode was set or ended (R411). -/
def tribsDown (o : Option Overhead) (d : Dev) : Dev :=
  let d := (List.range 32).foldl (tribDown o) d
  if highway d || hwChanging d then highwaysOut d else d

/-- The management data channels put out the ended frame's bits, or ones while lane A of the home channel is not in Sync or the
channel is in AIS (R388, R389). (DEDUCED, log entry 90) -/
def mdDown (o : Option Overhead) (d : Dev) : Dev :=
  let en := fld d fMD_CTRL_EN 0
  let h := chan d (homeChan d)
  let md := if h.laneA.al.align = .sync ∧ ¬ h.ais then o.bind (·.md) else none
  let bits := fun (n : Nat) => match md with
    | some x => BitVec.ofNat 24 (x.toNat >>> (24 * (3 - n)))
    | none => BitVec.ofNat 24 0xFFFFFF
  let d := if md.isNone && en != 0 then count .mdHeld 0 d else d
  (List.range 4).foldl (fun d n => if en.testBit n then emit (.mdBits n (bits n)) d else d) d

/-- Frame counter of a boundary: the home channel's, or the one after the latest boundary's (R39).
(DEDUCED, log entry 91) -/
def boundaryFc (d : Dev) : Word :=
  let l := (chan d (homeChan d)).laneA
  if numHeld d && l.al.align == .sync then
    match l.syncAt with
    | some t => if d.now < t + Config.frame / 2 then l.al.fc else l.al.fc + 1
    | none => l.al.fc + 1
  else d.trib.fc + 1

/-- The tributary unit and the management data channels at a boundary. -/
def tribBoundary (inp : BoundaryInputs) (d : Dev) : Dev :=
  let fc := boundaryFc d
  let o := endedFrame d
  let d := if pdOn d 49 then mdDown o d else d
  let d := if tribUnit d then
      let d := tribsDown o d
      let d := if takesWork d 49 then buildBlock inp (fc - 1) d else d
      { d with trib := { d.trib with fasNext := !d.trib.fasNext } }
    else d
  { d with trib := { d.trib with fc := fc } }

/-! ## Time-slot interchange commands (R409, R410, R412) -/

/-- Result of the latest command: 0 done, 1 busy, 2 invalid, 3 completed before abort. -/
def tsiResult (r : Nat) (d : Dev) : Dev := setFld fTSI_STATUS_RESULT 0 r d

/-- A swap is pending, or the copy runs. -/
def tsiBusy (d : Dev) : Bool := fld d fTSI_STATUS_PENDING 0 == 1 || fld d fTSI_STATUS_COPYING 0 == 1

/-- A standby entry written: the code 8 where the unit is busy, 5 where it names time slot 0. (DEDUCED, log entry 89) -/
def connWrite (up : Bool) (e : Nat) (w : Word) (d : Dev) : Nat × Dev :=
  if tsiBusy d then (8, d)
  else if connSlot w = 0 then (5, d)
  else (0, { d with trib := { d.trib with standby := aputD d.trib.standby (512 * up.toNat + e) (w &&& 0x7FF) 0 } })

/-- WRITE: TSI_DATA to the selected standby entry; the active page is read only. -/
def tsiWriteCmd (d : Dev) : Dev :=
  if ¬ tribUnit d then d
  else if fld d fTSI_SEL_PAGE 0 = 1 then tsiResult 2 d
  else
    let (c, d) := connWrite (fld d fTSI_SEL_DIR 0 == 1) (fld d fTSI_SEL_ENTRY 0) (reg d .tsiData 0) d
    tsiResult (if c = 8 then 1 else if c = 5 then 2 else 0) d

/-- READ: the selected entry to TSI_DATA. -/
def tsiReadCmd (d : Dev) : Dev :=
  if ¬ tribUnit d then d
  else
    let page := if fld d fTSI_SEL_PAGE 0 = 1 then d.trib.active else d.trib.standby
    tsiResult 0 (setReg .tsiData 0 (connEntry page (fld d fTSI_SEL_DIR 0 == 1) (fld d fTSI_SEL_ENTRY 0)) d)

/-- The standby upstream page feeds one tributary time slot from two entries (R410). -/
def doubleFed (d : Dev) : Bool :=
  let ups := (d.trib.standby.filter (fun e => decide (512 ≤ e.1) && connValid e.2)).map (fun e => bitsOf e.2.toNat 9 0)
  ups.eraseDups.length != ups.length

/-- A swap request: its result code (R33, R410). -/
def swapRequest (d : Dev) : Nat × Dev :=
  if tsiBusy d || d.sec.restarting then (8, count .swapsRefused 0 d)
  else if doubleFed d then (5, count .swapsRefused 0 d)
  else (0, setFld fTSI_STATUS_PENDING 0 1 { d with trib := { d.trib with swapAsked := d.now + 1 } })

/-- An abort: before the commit point it cancels, afterwards it is too late (R25, R410). -/
def swapAbort (d : Dev) : Nat × Dev :=
  if fld d fTSI_STATUS_PENDING 0 = 1 ∧ ¬ boundarySince d.trib.swapAsked d then (0, setFld fTSI_STATUS_PENDING 0 0 d) else (9, d)

/-- SWAP of TSI_CMD. -/
def tsiSwapCmd (d : Dev) : Dev :=
  if ¬ tribUnit d then d
  else
    let (c, d) := swapRequest d
    tsiResult (if c = 8 then 1 else if c = 5 then 2 else 0) d

/-- ABORT of TSI_CMD. -/
def tsiAbortCmd (d : Dev) : Dev :=
  if ¬ tribUnit d then d
  else
    let (c, d) := swapAbort d
    tsiResult (if c = 0 then 0 else 3) d

/-- SWAP_COMMIT: at the first frame boundary after the cycle of its request the pages exchange, the active one is saved, and the copy begins (R410, R411). -/
def swapCommit (d : Dev) : Dev :=
  if fld d fTSI_STATUS_PENDING 0 = 0 ∨ d.now < d.trib.swapAsked then d
  else
    let d := { d with trib := { d.trib with
      active := d.trib.standby, standby := d.trib.active, saved := d.trib.standby,
      copyDue := some (d.now + Config.frame) } }
    raise fTR_EVENT_SWAP_DONE 0 (count .swapsCommitted 0
      (setFld fTSI_STATUS_PENDING 0 0 (setFld fTSI_STATUS_COPYING 0 1 d)))

/-- STANDBY_COPY_DONE: within 125 µs of the swap. -/
def copyDone (d : Dev) : Dev :=
  if fld d fTSI_STATUS_COPYING 0 = 0 then d
  else setFld fTSI_STATUS_COPYING 0 0 { d with trib := { d.trib with standby := d.trib.active, copyDue := none } }

/-- Settings of the unit changed: a change of highway mode begins its two frames, and highway mode ignores the tributary inputs,
whose loss ends with it (R404, R411). (DEDUCED, log entry 197) -/
def trSettings (f : Dev → Dev) (d : Dev) : Dev :=
  let d' := f d
  if highway d' = highway d then d'
  else
    let d' := if highway d' then (List.range 32).foldl (fun d k => setFld fTB_STATUS_IN_LOS k 0 d) d' else d'
    { d' with trib := { d'.trib with changeDue := some (d'.now + 2 * Config.frame) } }

/-- Settings of a tributary changed: a new kind starts anew (R402). -/
def tbSettings (k : Nat) (f : Dev → Dev) (d : Dev) : Dev :=
  let d' := f d
  if tribKind d' k = tribKind d k then d' else tribFresh k d'

/-- HIGHWAY_CHANGE_END. -/
def changeEnd (d : Dev) : Dev :=
  if dueBy d.trib.changeDue d.now then { d with trib := { d.trib with changeDue := none } } else d

/-- An input loses its clock (R398); highway mode ignores it (R404). -/
def inputLos (k : Nat) (d : Dev) : Dev :=
  if ¬ tribUnit d ∨ highway d ∨ tribKind d k = 0 ∨ tribFlag d fTB_STATUS_IN_LOS k then d
  else raise fTB_EVENT_IN_LOS_IN k (setFld fTB_STATUS_IN_LOS k 1 d)

/-- The input's edges have continued for 125 µs; its buffer starts at its centre again (R397, R398). -/
def inputBack (k : Nat) (d : Dev) : Dev :=
  if ¬ tribUnit d ∨ ¬ tribFlag d fTB_STATUS_IN_LOS k then d
  else
    let (b, d) := freeBits 32 d
    setFld fTB_STATUS_IN_LOS k 0 (modTrib k (fun t => { t with buf := b }) d)

/-- CONTROLLED_SLIP: a whole frame repeated in a slip buffer that is empty, or deleted from one that is full (R407). -/
def controlledSlip (k : Nat) (x : Slip) (d : Dev) : Dev :=
  if ¬ tribUnit d ∨ ¬ highway d ∨ tribKind d k = 0 then d
  else
    let t := trib d k
    match x with
    | .repeatFrame =>
      if t.slip.isEmpty then tribSlip .tbControlled k (modTrib k (fun t => { t with slip := [t.lastFrame] }) d) else d
    | .deleteFrame =>
      if 2 ≤ t.slip.length then tribSlip .tbControlled k (modTrib k (fun t => { t with slip := t.slip.drop 1 }) d) else d

/-! ## Meanings -/

/-- TRIBUTARY_INPUT_LOS. -/
def execTributaryInputLos (k : Fin 32) (s : State) : Out := onDev (inputLos k) s

/-- TRIBUTARY_LOS_END. -/
def execTributaryLosEnd (k : Fin 32) (s : State) : Out := onDev (inputBack k) s

/-- CONTROLLED_SLIP. -/
def execControlledSlip (k : Fin 32) (x : Slip) (s : State) : Out := onDev (controlledSlip k x) s

/-- TSI_WRITE. -/
def execTsiWrite (s : State) : Out := onDev tsiWriteCmd s

/-- TSI_READ. -/
def execTsiRead (s : State) : Out := onDev tsiReadCmd s

/-- TSI_SWAP. -/
def execTsiSwap (s : State) : Out := onDev tsiSwapCmd s

/-- TSI_ABORT. -/
def execTsiAbort (s : State) : Out := onDev tsiAbortCmd s

/-- SWAP_COMMIT. -/
def execSwapCommit (t : Time) (s : State) : Out := at_ t swapCommit s

/-- STANDBY_COPY_DONE. -/
def execStandbyCopyDone (t : Time) (s : State) : Out := at_ t copyDone s

/-- HIGHWAY_CHANGE_END. -/
def execHighwayChangeEnd (t : Time) (s : State) : Out := at_ t changeEnd s

end Sys2Proof.Machine
end

