-- ==== Sys2Proof/Machine/EntryApply.lean ====
section
/-!
DEFINITION. Machine/EntryApply.lean: what the Secretary writes to the units from a dictionary entry at its commit point, and
again when a unit's domain returns to Run (R79, R521).
-/

namespace Sys2Proof.Machine

/-! ## Values -/

/-- The value bytes an entry holds: as last committed, or its default (R497). -/
def entryBytes (d : Dev) (e : EntryDef) (index sub : Nat) : List Byte :=
  match aget d.dict (index * 256 + sub) with
  | some bs => bs
  | none =>
    if 0x2400 ≤ index ∧ index < 0x2C00 ∧ sub % 16 = 6 then natToBytes 1 (flowPipe d (4 * (index - 0x2400) + sub / 16))
    else encodeInt e.ty (e.default d.part (e.item index sub))

/-- The number an entry holds. -/
def entryInt (d : Dev) (e : EntryDef) (index sub : Nat) : Int := decodeInt e.ty (entryBytes d e index sub)

/-- The number an entry holds, by its address; 0 where there is none. -/
def entryAt (d : Dev) (index sub : Nat) : Nat :=
  match entryDef index sub with
  | some e => (entryInt d e index sub).toNat
  | none => 0

/-- A bitmap whose byte k bit b is item 8k + b, as a number whose bit n is item n (R505). -/
def bitmapNat (bs : List Byte) : Nat := bytesToNat bs.reverse

/-- The same read the other way: n bytes. -/
def bitmapBytes (n x : Nat) : List Byte := (natToBytes n x).reverse

/-! ## Units (R79, R521) -/

/-- SPEED of a port in Gbit/s (R251). -/
def speedCode (gbit : Nat) : Nat := if gbit = 10 then 0 else if gbit = 25 then 1 else if gbit = 50 then 2 else 3

/-- The domains whose registers an entry sets; 0 where they run whenever the Secretary does (R550). The enable of a line
channel stands outside the channel's domain, which it brings to Run. -/
def entryDomains (d : Dev) (e : EntryDef) (index sub : Nat) : List Nat :=
  let n := e.item index sub
  if index = 0x2101 then (List.range d.part.channels).map (12 + ·)
  else
    match e.unit with
    | .pipe => [8 + n / e.subs]
    | .port => if index / 256 = 0x30 then [28 + n / 8] else [0]
    | .sideboard => [48]
    | _ => [0]

/-- A drop port's entry (R249, R253): a new speed, interface or FEC goes through a full bring-up, flow control is looked at
again. -/
def loadPort (e : EntryDef) (n : Nat) (v : Nat) (d : Dev) : Dev :=
  let was := reg d .dpCtrl n
  let d := e.dest.foldl (fun d f => setFld f n (if e.sub = 2 then speedCode v else v) d) d
  if e.sub = 1 then laneRefresh n d
  else if e.sub ≤ 4 then (if reg d .dpCtrl n = was then d else laneRestart n d)
  else if e.sub = 8 ∨ e.sub = 11 ∨ e.sub = 12 then flowEval n d
  else d

/-- One setting of a shaper: its enable, rate or burst, by a number from 0. -/
def loadShaper (k v : Nat) (s : Shaper) : Shaper :=
  if k = 0 then setShaper (v != 0) s.rate s.burst s else if k = 1 then setShaper s.enable v s.burst s
  else setShaper s.enable s.rate v s

/-- A scheduler node's entry (R79, R331, R357); n is the model's node number. -/
def loadNode (n sub v : Nat) (d : Dev) : Dev :=
  if sub = 1 then setNodeShape n v (node d n).queues d
  else if sub = 2 then setNodeShape n (node d n).strict v d
  else if sub ≤ 5 then modNode n (fun x => { x with shaper := loadShaper (sub - 3) v x.shaper }) d
  else modNode n (fun x => { x with wlimit := v }) d

/-- A queue's entry (R79, R357); q is the model's queue number. -/
def loadQueue (q sub v : Nat) (d : Dev) : Dev :=
  modQueue q (fun w =>
    if sub = 1 then { w with weight := v } else if sub = 2 then { w with alpha := v }
    else if sub = 3 then { w with reserve := v }
    else { w with shaper := loadShaper (sub - 4) v w.shaper }) d

/-- A policer's entry (R79, R337, R340, R357). -/
def loadPolicer (i sub v : Nat) (d : Dev) : Dev :=
  modPolicer i (fun p => setPolicer (
    if sub = 1 then { p.cfg with cir := v } else if sub = 2 then { p.cfg with cbs := v }
    else if sub = 3 then { p.cfg with pir := v } else if sub = 4 then { p.cfg with pbs := v }
    else if sub = 5 then { p.cfg with aware := v != 0 } else if sub = 6 then { p.cfg with yellow := v }
    else { p.cfg with red := v }) p) d

/-- A replication group's entry (R79, R357). -/
def loadGroup (i sub v : Nat) (bs : List Byte) (d : Dev) : Dev :=
  let g := group d i
  (if sub = 1 then writeGroup i (bitmapNat bs) g.line g.host d
   else if sub = 2 then writeGroup i g.ports (v != 0) g.host d
   else writeGroup i g.ports g.line (v != 0) d).2

/-- The Cabinet's registers (R588, R597). -/
def loadCabinet (sub : Nat) (bs : List Byte) (d : Dev) : Dev :=
  if sub = 1 then
    setFld fCAB_TIME_NS_NS 0 (bytesToNat (bs.drop 6)) (setFld fCAB_TIME_SEC_SECONDS 0 (bytesToNat (bs.take 6)) d)
  else if sub = 2 then
    (List.range 5).foldl (fun d j => setFld fCAB_MASK_PAGES j (bitmapNat bs >>> (48 * j)) d) d
  else setFld fCAB_CTRL_QUEUES 0 (bytesToNat bs / 2) (setFld fCAB_CTRL_SELECTABLE 0 (bytesToNat bs) d)

/-- An entry's value written to the registers of its unit that lie in one domain (R79); cause is that of a switch that it
brings about (R78). -/
def loadEntry (cause : BitVec 2) (e : EntryDef) (index sub dom : Nat) (d : Dev) : Dev :=
  let n := e.item index sub
  let v := (entryInt d e index sub % 2 ^ 48).toNat
  let plain := fun (d : Dev) => e.dest.foldl (fun d f => setFld f n v d) d
  if index = 0x2100 then protSettings plain cause d
  else if index = 0x2101 then e.dest.foldl (fun d f => setFld f (dom - 12) v d) d
  else if index / 256 = 0x30 then loadPort e n v d
  else if e.index = 0x5010 then loadNode n e.sub v d
  else if e.index = 0x5020 then loadNode (96 + n) e.sub v d
  else if e.index = 0x5100 then loadQueue n e.sub v d
  else if e.index = 0x5400 then loadQueue (upBase + n) e.sub v d
  else if e.index = 0x5300 then loadGroup n e.sub v (entryBytes d e index sub) d
  else if e.index = 0x5800 then loadPolicer n e.sub v d
  else if e.index = 0x6000 then ltSettings plain d
  else if index = 0x8000 then trSettings plain d
  else if index = 0x8001 then
    setFld fMD_CTRL_EN 0 (withBits (fld d fMD_CTRL_EN 0) n n v) d
  else if e.index = 0x8010 then tbSettings n plain d
  else if index = 0xA010 then loadCabinet sub (entryBytes d e index sub) d
  else if index = 0xC000 ∧ sub ≤ 2 then
    { d with fs := { d.fs with nextCfg := some (entryAt d 0xC000 1, entryAt d 0xC000 2) } }
  else plain d

/-- An entry's value written to its unit: at once where the unit's domain runs, when it returns to Run otherwise (R521).
(DEDUCED, log entry 129) -/
def loadOrDefer (cause : BitVec 2) (index sub : Nat) (d : Dev) : Dev :=
  match entryDef index sub with
  | none => d
  | some e =>
    (entryDomains d e index sub).foldl (fun d dom =>
      if pdOn d dom then loadEntry cause e index sub dom d
      else
        let k := index * 256 + sub
        { d with dic := { d.dic with deferred := d.dic.deferred.filter (· != (dom, k)) ++ [(dom, k)] } }) d

/-- An entry enables a shaper: a commit's other entries come before it, so that a newly enabled shaper starts with the BURST that the
commit gives it (R336, R357). -/
def enablesShaper (key : Nat) : Bool :=
  let ix := key / 256
  let n := key % 16
  (decide (0x5010 ≤ ix) && decide (ix < 0x5040) && n == 3) ||
    (((decide (0x5100 ≤ ix) && decide (ix < 0x5280)) || (decide (0x5400 ≤ ix) && decide (ix < 0x5800))) && n == 4)

/-- The order in which entries are written to their units together. -/
def loadOrder (keys : List Nat) : List Nat := keys.filter (fun k => !enablesShaper k) ++ keys.filter enablesShaper

/-- Entries written to their units together. -/
def loadKeys (cause : BitVec 2) (keys : List Nat) (d : Dev) : Dev :=
  (loadOrder keys).foldl (fun d k => loadOrDefer cause (k / 256) (k % 256) d) d

/-- The writes that waited for domains that run again (R521). -/
def loadDeferred (d : Dev) : Dev :=
  let due := d.dic.deferred.filter (fun x => pdOn d x.1)
  if due.isEmpty then d
  else
    due.foldl (fun d x =>
      match entryDef (x.2 / 256) (x.2 % 256) with
      | some e => loadEntry 3 e (x.2 / 256) (x.2 % 256) x.1 d
      | none => d)
      { d with dic := { d.dic with deferred := d.dic.deferred.filter (fun x => !pdOn d x.1) } }

/-! ## Tables that the units read in the dictionary -/

/-- A flow slot before and after a commit: a flow that is disabled or changed is forgotten, a new pipeline holds the next
packet, a slot of kind management replaces the flow of R508 (R19, R97, R508). -/
def flowCommit (d0 : Dev) (k : Nat) (d : Dev) : Dev :=
  let on := fun (d : Dev) => flowField d k 2 0 != 0
  let d := if on d0 ∧ (¬ on d ∨ flowField d0 k 1 0 ≠ flowField d k 1 0) then forgetFlow k d else d
  let d := if on d0 ∧ on d ∧ flowPipe d0 k ≠ flowPipe d k then
      modFlow k (fun f => { f with holdNext := true }) d
    else d
  if on d ∧ flowField d k 7 0 = 1 ∧ ¬ d.bond.mgmtReplaced then
    forgetFlow 8192 { d with bond := { d.bond with mgmtReplaced := true } }
  else d

/-- LE_TRIB as the enabled slot of kind tributary has it (R189, R191). -/
def loadTrib (d : Dev) : Dev :=
  match (enabledAllocs d).find? (fun k => k != 0 && dictNat d (allocKey k 3).1 (allocKey k 3).2 0 == 1) with
  | some k => setFld fLE_TRIB_VALID 0 1 (setFld fLE_TRIB_ALLOC 0 (allocId d k) d)
  | none => setFld fLE_TRIB_VALID 0 0 (setFld fLE_TRIB_ALLOC 0 0 d)

/-- An allocation-ID slot before and after a commit: grants of a slot disabled or of an old ID are abandoned, the forecast
of one enabled or renamed starts at zero, the Firescreen's admission entry is written twice (R186, R191, R200). -/
def allocCommit (d0 : Dev) (k : Nat) (d : Dev) : Dev :=
  let was := slotEntry d0 k
  let now := slotEntry d k
  if was = now then d
  else
    let d := if was.isSome then abandonGrants (fun g => g.slot == k && g.kind == .data) d else d
    let d := if now.isSome then
        { d with up := { d.up with forecast := adel d.up.forecast k } }
      else d
    let v := now.getD 0
    admWrite true k (v ^^^ 0x3FFF) (admWrite false k v d)

end Sys2Proof.Machine
end

