-- ==== Sys2Proof/Machine/Counters.lean ====
section
/-!
DEFINITION. Machine/Counters.lean: selectable counters, counter pages and the Cabinet (R574 to R590): the meanings of their
commands.
-/

namespace Sys2Proof.Machine

/-! ## Counters by number (R574, R578) -/

/-- The value of the counter of a number; zero where the directory assigns it to none (R574). -/
def counterNo (values : List (Nat × Word)) (c : Nat) : Word :=
  match counterAt c with
  | some (n, scope) => agetD values (n * 65536 + scope) 0
  | none => 0

/-- The per-event counter that an offset names (R574). -/
def counterOffset (o : Nat) : Option Nat :=
  if 0x1110000 ≤ o ∧ o < 0x1110000 + 8 * 122880 ∧ o % 8 = 0 then some ((o - 0x1110000) / 8) else none

/-! ## Counters of domains (R576) -/

/-- A counter page holds a counter of one of the domains (R576). -/
def pageOf (gone : Nat → Bool) (p : Nat) : Bool :=
  (List.range 512).any (fun i => match counterAt (512 * p + i) with
    | some (c, scope) => gone (counterDomain c scope)
    | none => false)

/-- Counters of domains that are off hold nothing (R576, R589). -/
def dropCounters (gone : Nat → Bool) (d : Dev) : Dev :=
  { d with cnt := { d.cnt with values := d.cnt.values.filter (fun e => !gone (counterDomain (e.1 / 65536) (e.1 % 65536))) } }

/-- Counters of domains restart from zero, with ZEROED of their pages (R576). -/
def zeroCounters (gone : Nat → Bool) (d : Dev) : Dev :=
  let d := dropCounters gone d
  (List.range 240).foldl (fun d p =>
    if pageOf gone p = true then
      raise fCN_EVENT_ZEROED 0
        (setReg .cnZeroed (p / 48) (BitVec.ofNat 48 (withBits (reg d .cnZeroed (p / 48)).toNat (p % 48) (p % 48) 1)) d)
    else d) d

/-- CN_ZEROED j as a snapshot's header shows it: with the pages of the domains that are off (R587, R589). -/
def zeroedNow (d : Dev) (j : Nat) : Word :=
  reg d .cnZeroed j ||| BitVec.ofNat 48 ((List.range 48).foldl (fun a i =>
    if pageOf (fun n => pdState d n == 0) (48 * j + i) then a + 2 ^ i else a) 0)

/-! ## Selectable counters (R579 to R581) -/

/-- A selectable counter. -/
def selCount (d : Dev) (k : Nat) : Word := agetD d.cnt.sel k 0

/-- A selectable counter set. -/
def setSel (k : Nat) (v : Word) (d : Dev) : Dev := { d with cnt := { d.cnt with sel := aputD d.cnt.sel k v 0 } }

/-- SC_CFG written with CLEAR: the counter is zero, and with it the odd counter chained to an even one (R579, R580).
(DEDUCED, log entry 13) -/
def selClear (k : Nat) (v : Word) (d : Dev) : Dev :=
  let d := storeWrite .scCfg k v d
  if v.toNat.testBit 44 then
    let d := setSel k 0 d
    if k % 2 = 0 ∧ fld d fSC_CFG_CHAIN (k + 1) = 1 then setSel (k + 1) 0 d else d
  else d

/-- SC_CNT read: an even counter latches its odd partner; a chained odd one answers its latch (R581). -/
def selRead (k : Nat) (d : Dev) : Dev :=
  let o := regOffset .scCnt k
  if k % 2 = 0 then
    emit (.barRead o (selCount d k))
      { d with cnt := { d.cnt with selLatch := aputD d.cnt.selLatch (k + 1) (selCount d (k + 1)) 0 } }
  else if fld d fSC_CFG_CHAIN k = 1 then emit (.barRead o (agetD d.cnt.selLatch k 0)) d
  else emit (.barRead o (selCount d k)) d

/-! ## Counter pages (R582) -/

/-- The copy of the page at i as its writes in their order, each from a byte of the copy on: BUSY, the latch's stamp and six zero
slots, the counters, and the new SEQ without BUSY. -/
def pageWrites (d : Dev) (i seq : Nat) : List (Nat × List Word) :=
  [(0, [BitVec.ofNat 48 (2 ^ 47 + (seq - 1) % 65536)]), (8, [stampWord (ltNow d), 0, 0, 0, 0, 0, 0]),
    (64, (List.range 512).map (fun n => counterNo d.cnt.values (512 * i + n))), (0, [BitVec.ofNat 48 (seq % 65536)])]

/-- One user page copied, or its copy failed (R582). -/
def pageCopy (ok : Bool) (d0 : Dev) (d : Dev) (i : Nat) : Dev :=
  if fld d0 fCN_MIR_EN_USER i = 0 then d
  else if ok then
    let seq := agetD d.cnt.mirrorSeq i 0 + 1
    count .pageCopies 0 (emit (.counterPage (16 + i) (reg d0 .cnMirAddr i) (pageWrites d0 i seq.toNat))
      { d with cnt := { d.cnt with mirrorSeq := aputD d.cnt.mirrorSeq i seq 0 } })
  else raise fCN_EVENT_MIRROR_FAIL 0 (count .pageCopyFails 0 d)

/-- Every user page, all latched in one cycle (R582). -/
def pagesCopy (ok : Bool) (d : Dev) : Dev :=
  if pdOn d 46 then (List.range 240).foldl (pageCopy ok d) d else d

/-! ## The Cabinet (R585 to R589) -/

/-- A snapshot armed (R586): 0 accepted, 1 busy, 2 time. -/
def cabArm (d : Dev) : Nat × Dev :=
  let secs := fld d fCAB_TIME_SEC_SECONDS 0
  let nanos := fld d fCAB_TIME_NS_NS 0
  let now := ltNow d
  let us10 : Int := 10000 * 65536
  let armAt := fun (t : Int) (d : Dev) =>
    let (s, n, _) := ltSplit t
    { d with cab := { d.cab with phase := .armed (BitVec.ofNat 48 s) (BitVec.ofNat 32 n) } }
  if d.cab.phase ≠ .idle then (1, d)
  else if secs = 0 ∧ nanos = 0 then (0, armAt (now + us10) d)
  else
    let t := ltOf secs nanos
    if d.lc.valid ∧ now + us10 ≤ t ∧ t ≤ now + 86400 * 1000000000 * 65536 then (0, armAt t d) else (2, d)

/-- The Cabinet's RESULT. -/
def cabResult (r : Nat) (d : Dev) : Dev := { d with cab := { d.cab with result := BitVec.ofNat 2 r } }

/-- An abort (R586): before T it cancels the snapshot. -/
def cabAbort (d : Dev) : Bool × Dev :=
  match d.cab.phase with
  | .armed s n =>
    if ltNow d < ltOf s.toNat n.toNat then
      (true, count .cabAborted 0 { d with cab := { d.cab with phase := .idle } })
    else (false, d)
  | _ => (false, d)

/-- A refused arm is counted and shown (R598, R599). -/
def cabRefusal (d : Dev) : Dev := raise fCAB_EVENT_REFUSED 0 (count .cabRefused 0 d)

/-- An arm or an abort by an entry, with its code: an arm is by the time, the masks and the options that the entries hold; a
refused one is counted (R586, R590, R598). -/
def cabEntry (arm : Bool) (d : Dev) : Nat × Dev :=
  if arm then
    let (r, d') := cabArm ([1, 2, 3].foldl (fun x k => loadCabinet k (dictBytes d 0xA010 k (List.replicate 30 0)) x) d)
    if r = 0 then (0, d') else (if r = 1 then 0x08 else 0x05, cabRefusal d)
  else
    let (ok, d) := cabAbort d
    (if ok then 0 else 0x09, d)

/-- An arm, refused with its count and event (R586, R598). (DEDUCED, log entry 111) -/
def cabArmed (origin : CabOrigin) (d : Dev) : Dev :=
  match origin with
  | .register v =>
    let d := storeWrite .cabCtrl 0 v d
    if v.toNat.testBit 0 then
      let (r, d) := cabArm d
      let d := cabResult r d
      if r = 0 then d else cabRefusal d
    else d
  | .entry path =>
    commandOn path true (cabEntry true) d

/-- An abort by its origin: at or after T it reads "completed before abort" (R25, R586). -/
def cabAborted (origin : CabOrigin) (d : Dev) : Dev :=
  match origin with
  | .register v =>
    let d := storeWrite .cabCtrl 0 v d
    if v.toNat.testBit 1 then
      let (ok, d) := cabAbort d
      cabResult (if ok then 0 else 3) d
    else d
  | .entry path =>
    commandOn path true (cabEntry false) d

/-- A counter page is selected by the masks (R585). -/
def pageSelected (masks : List Word) (c : Nat) : Bool :=
  let i := c / 512
  (masks.getD (i / 48) 0).toNat.testBit (i % 48)

/-- The masks in force. -/
def cabMasks (d : Dev) : List Word := (List.range 5).map (reg d .cabMask)

/-- What a snapshot latches (R585); a value that the masks do not select is written as zero (bankValue, R587). -/
def cabBank (d : Dev) (s : Word) (n : BitVec 32) : CabBank :=
  let queues := fld d fCAB_CTRL_QUEUES 0 == 1
  let sel := fld d fCAB_CTRL_SELECTABLE 0 == 1
  let depth := fun q => queuedLength d (upCiphered d) q
  { gen := d.cab.gen + 1, seconds := s, nanos := n, selectable := sel, queues := queues,
    masks := cabMasks d, zeroed := (List.range 5).map (zeroedNow d),
    counters := d.cnt.values,
    scs := if sel then (List.range 64).map (selCount d) else [],
    downQ := if queues then (d.tm.queues.filter (fun e => e.1 < upBase)).map (fun e => (e.1, depth e.1)) else [],
    upQ := if queues then (d.tm.queues.filter (fun e => upBase ≤ e.1)).map (fun e => (e.1 - upBase, depth e.1)) else [] }

/-- The latch at T, the snapshot's commit point (R586). -/
def cabLatch (d : Dev) : Dev :=
  match d.cab.phase with
  | .armed s n =>
    if ltOf s.toNat n.toNat ≤ ltNow d then
      count .cabLatched 0 { d with cab := { d.cab with
        phase := .draining, gen := d.cab.gen + 1, latched := some (cabBank d s n),
        banks := adel d.cab.banks ((d.cab.gen + 1).toNat % 8) } }
    else d
  | _ => d

/-- The drain ends: the bank, CAB_GEN and DONE (R587). -/
def cabDrained (d : Dev) : Dev :=
  match d.cab.phase, d.cab.latched with
  | .draining, some b =>
    raise fCAB_EVENT_DONE 0 { d with cab := { d.cab with
      phase := .idle, latched := none, done := b.gen, banks := aput d.cab.banks (b.gen.toNat % 8) b } }
  | _, _ => d

/-- The value at byte off of a bank (R587). -/
def bankValue (b : CabBank) (off : Nat) : Word :=
  let w := off / 8
  if w = 0 then b.gen
  else if w = 1 then b.seconds
  else if w = 2 then b.nanos.setWidth 48
  else if w = 3 then BitVec.ofNat 48 (b.queues.toNat * 2 + b.selectable.toNat)
  else if w < 9 then b.masks.getD (w - 4) 0
  else if w < 14 then b.zeroed.getD (w - 9) 0
  else if w < 0x200 then 0
  else if w < 0x1E200 then
    if pageSelected b.masks (w - 0x200) then counterNo b.counters (w - 0x200) else 0
  else if w < 0x1E240 then b.scs.getD (w - 0x1E200) 0
  else if w < 0x1E400 then 0
  else if w < 0x1FC00 then BitVec.ofNat 48 (agetD b.downQ (w - 0x1E400) 0)
  else if w < 0x23C00 then BitVec.ofNat 48 (agetD b.upQ (w - 0x1FC00) 0)
  else 0

/-- The completed bank of a generation; none once it is overwritten (R588). -/
def bankOf (d : Dev) (gen : Word) : Option CabBank :=
  match aget d.cab.banks (gen.toNat % 8) with
  | some b => if b.gen = gen ∧ gen ≠ 0 then some b else none
  | none => none

/-- CAB_RD_DATA read (R588). -/
def cabRead (d : Dev) : Dev :=
  let o := regOffset .cabRdData 0
  match bankOf d (reg d .cabRdGen 0) with
  | some b => emit (.barRead o (bankValue b (fld d fCAB_RD_OFF_OFF 0))) d
  | none => emit (.barRead o 0) (raise fCAB_EVENT_STALE 0 (count .cabStale 0 d))

/-! ## Meanings -/

/-- CLEAR (R579, R580). -/
def execClear (k : Fin 64) (v : Word) (s : State) : Out := onDev (selClear k v) s

/-- SELECTABLE_COUNTER_READ (R581). -/
def execSelectableCounterRead (k : Fin 64) (s : State) : Out := onDev (selRead k) s

/-- COUNTER_PAGE_COPY (R582). -/
def execCounterPageCopy (t : Time) (ok : Bool) (s : State) : Out := at_ t (pagesCopy ok) s

/-- ARM (R586, R590). -/
def execArm (t : Time) (o : CabOrigin) (s : State) : Out := at_ t (cabArmed o) s

/-- CABINET_ABORT (R586). -/
def execCabinetAbort (t : Time) (o : CabOrigin) (s : State) : Out := at_ t (cabAborted o) s

/-- CABINET_LATCH (R585, R586). -/
def execCabinetLatch (t : Time) (s : State) : Out := at_ t cabLatch s

/-- CABINET_DRAIN_DONE (R587). -/
def execCabinetDrainDone (t : Time) (s : State) : Out := at_ t cabDrained s

/-- CABINET_WINDOW_READ (R588). -/
def execCabinetWindowRead (s : State) : Out := onDev cabRead s

end Sys2Proof.Machine
end

