-- ==== Sys2Proof/Machine/P384.lean ====
section
/-!
DEFINITION. Machine/P384.lean: verification of an ECDSA signature on the curve P-384 (R603, R604), as FIPS 186 and SEC 2
define it. Points stand in Jacobian coordinates; one with Z = 0 is the point at infinity.
-/

namespace Sys2Proof.Machine

/-- The prime of the field. -/
def p384P : Nat := 2 ^ 384 - 2 ^ 128 - 2 ^ 96 + 2 ^ 32 - 1
/-- The order of the base point. -/
def p384N : Nat := 0xffffffffffffffffffffffffffffffffffffffffffffffffc7634d81f4372ddf581a0db248b0a77aecec196accc52973
/-- The coefficient b; a is -3. -/
def p384B : Nat := 0xb3312fa7e23ee7e4988e056be3f82d19181d9c6efe8141120314088f5013875ac656398d8a2ed19d2a85c8edd3ec2aef
/-- The base point. -/
def p384Gx : Nat := 0xaa87ca22be8b05378eb1c71ef320ad746e1d3b628ba79b9859f741e082542a385502f25dbf55296c3a545e3872760ab7
def p384Gy : Nat := 0x3617de4a96262c6f5d9e98bf9292dc29f8f41dbd289a147ce9da3113b5f0b8c00a60b1ce1d7e819d7a431d7c90ea0e5f

/-- A power modulo m by the low n bits of the exponent. -/
def powMod (m b : Nat) : Nat → Nat → Nat
  | 0, _ => 1 % m
  | n + 1, e =>
    let r := powMod m (b * b % m) n (e / 2)
    if e % 2 = 1 then r * b % m else r

/-- The inverse modulo a prime. -/
def invMod (m x : Nat) : Nat := powMod m (x % m) 384 (m - 2)

/-- A point. -/
abbrev EcPoint := Nat × Nat × Nat

/-- x - y in the field. -/
def fSub (x y : Nat) : Nat := (x + p384P - y % p384P) % p384P
/-- x · y in the field. -/
def fMul (x y : Nat) : Nat := x * y % p384P

/-- A point doubled. -/
def ecDouble (q : EcPoint) : EcPoint :=
  let (x, y, z) := q
  if z = 0 ∨ y = 0 then (1, 1, 0)
  else
    let d := fMul z z
    let g := fMul y y
    let b := fMul x g
    let a := fMul 3 (fMul (fSub x d) (x + d))
    let x3 := fSub (fMul a a) (8 * b)
    let z3 := fSub (fSub (fMul (y + z) (y + z)) g) d
    (x3, fSub (fMul a (fSub (4 * b) x3)) (8 * fMul g g), z3)

/-- Two points added. -/
def ecAdd (p q : EcPoint) : EcPoint :=
  let (x1, y1, z1) := p
  let (x2, y2, z2) := q
  if z1 = 0 then q
  else if z2 = 0 then p
  else
    let a := fMul z1 z1
    let b := fMul z2 z2
    let u1 := fMul x1 b
    let u2 := fMul x2 a
    let s1 := fMul y1 (fMul z2 b)
    let s2 := fMul y2 (fMul z1 a)
    let h := fSub u2 u1
    let r := fSub s2 s1
    if h = 0 then (if r = 0 then ecDouble p else (1, 1, 0))
    else
      let h2 := fMul h h
      let h3 := fMul h h2
      let v := fMul u1 h2
      let x3 := fSub (fSub (fMul r r) h3) (2 * v)
      (x3, fSub (fMul r (fSub v x3)) (fMul s1 h3), fMul h (fMul z1 z2))

/-- u · G + v · Q by the low n bits of u and v, highest first. -/
def ecMulAdd (gq q : EcPoint) : Nat → Nat → Nat → EcPoint → EcPoint
  | 0, _, _, acc => acc
  | n + 1, u, v, acc =>
    let acc := ecDouble acc
    let acc := match u.testBit n, v.testBit n with
      | true, true => ecAdd acc gq
      | true, false => ecAdd acc (p384Gx, p384Gy, 1)
      | false, true => ecAdd acc q
      | false, false => acc
    ecMulAdd gq q n u v acc

/-- A pair of coordinates is a point of the curve. -/
def onCurve (k : Nat × Nat) : Bool :=
  k.1 < p384P && k.2 < p384P && fMul k.2 k.2 == fSub (fMul k.1 (fMul k.1 k.1) + p384B) (3 * k.1)

/-- The signature (r, s) of a digest verifies under a public key. -/
def ecdsaOk (key : Nat × Nat) (digest r s : Nat) : Bool :=
  if r = 0 ∨ p384N ≤ r ∨ s = 0 ∨ p384N ≤ s ∨ !onCurve key then false
  else
    let w := invMod p384N s
    let q : EcPoint := (key.1, key.2, 1)
    let (x, _, z) := ecMulAdd (ecAdd (p384Gx, p384Gy, 1) q) q 384 (digest * w % p384N) (r * w % p384N) (1, 1, 0)
    if z = 0 then false
    else
      let i := invMod p384P z
      fMul x (fMul i i) % p384N == r

end Sys2Proof.Machine
end

