-- ==== Sys2Proof/Machine/Boundary.lean ====
section
/-!
DEFINITION. Machine/Boundary.lean: the terminal's frame boundary (R39): the meaning of FRAME_BOUNDARY.
-/

namespace Sys2Proof.Machine

/-- A forecast moved on by the blocks admitted in the frame, in eighths: (a − F) / 8 rounded down (R186). -/
def forecastStep (f a : Nat) : Nat := ((f : Int) + ((8 * a : Nat) - (f : Int)) / 8).toNat

/-- Every enabled slot's forecast; the frame's admissions start anew (R186). -/
def forecasts (d : Dev) : Dev :=
  let d := (enabledAllocs d).foldl (fun d k =>
    let f := forecastStep (agetD d.up.forecast k 0) (ceilDiv (agetD d.tm.admitted k 0) 64)
    { d with up := { d.up with forecast := aputD d.up.forecast k f 0 } }) d
  { d with tm := { d.tm with admitted := [] } }

/-- Delays set by Ranging Time come into force (R144). -/
def commitDelays (d : Dev) : Dev :=
  let d := d.act.delayPend.foldl (fun d (x : Nat × Nat) =>
    if x.1 = 0 then setFld fACT_STATUS_RANGED_W 0 1 (setFld fACT_EQD_W_EQD 0 x.2 d)
    else setFld fACT_STATUS_RANGED_P 0 1 (setFld fACT_EQD_P_EQD 0 x.2 d)) d
  { d with act := { d.act with delayPend := [] } }

/-- A boundary of a home lane A that is not in Sync is recorded as a frame that cannot be used (R420). -/
def recordGap (d : Dev) : Dev :=
  if numHeld d && !laneSync d (homeChan d) false then
    let h : HistFrame := { fc := boundaryFc d, local_ := ltNow d, eqd := 0, usable := false }
    { d with lc := { d.lc with history := (h :: d.lc.history).take 64 } }
  else d

/-- The line engine at a boundary: degrade windows, forecasts, delays, the Trip Report's interval, the admission
comparison, then the tributary unit (R39, R61, R144, R186, R200, R211, R397, R401). -/
def frameBoundary (inp : BoundaryInputs) (d : Dev) : Dev :=
  if !engineRuns d then d
  else
    let d := { d with trib := { d.trib with frameAt := some d.now } }
    let d := commitDelays (forecasts (sdAll (recordGap d)))
    let d := admCompare { d with fs := { d.fs with reported := false } }
    tribBoundary inp d

end Sys2Proof.Machine
end

