-- ==== Sys2Proof/Machine/MemComplex.lean ====
section
/-!
DEFINITION. Machine/MemComplex.lean: the memory complex (14_memory_complex.md): address mapping, errors, sparing and
withdrawal of ranks, poison, and the host's window.
-/

namespace Sys2Proof.Machine

/-- What a command does to the whole state: nothing while PORST_N is low (R630). -/
def onWhole (f : State → State) (s : State) : Out := .next (if s.dev.porstLow then s else f s)

/-- A change of the device inside a change of the whole state. -/
def inDev (f : Dev → Dev) (s : State) : State := { s with dev := f s.dev }

/-! ## Bytes -/

/-- A byte of in-package memory. -/
def Memory.read (m : Memory) (a : Nat) : Byte := agetD m.cells a 0

/-- A byte of in-package memory set. -/
def Memory.write (m : Memory) (a : Nat) (b : Byte) : Memory := { cells := aputD m.cells a b 0 }

/-- Bytes from an address on set. -/
def Memory.writeAll (m : Memory) (a : Nat) : List Byte → Memory
  | [] => m
  | b :: bs => (m.write a b).writeAll (a + 1) bs

/-- n bytes from an address on. -/
def Memory.readAll (m : Memory) (a n : Nat) : List Byte := (List.range n).map (fun i => m.read (a + i))

/-- The canonical form: addresses rise strictly and no listed byte is what an unlisted address reads as. -/
def Memory.wf (m : Memory) : Bool := keysRise m.cells && m.cells.all (fun c => c.2 != 0)

/-- The n bytes at src copied to dst: the cells there that are listed, and dst's own cells gone. -/
def Memory.copy (m : Memory) (src dst n : Nat) : Memory :=
  let rest := m.cells.filter (fun c => !(dst ≤ c.1 && c.1 < dst + n))
  (m.cells.filter (fun c => src ≤ c.1 && c.1 < src + n)).foldl (fun m c => m.write (c.1 - src + dst) c.2) { cells := rest }

/-! ## Ranks (R444, R445, R464) -/

/-- Code of a rank's state (R464). -/
def RankState.code : RankState → Nat
  | .inService => 0
  | .failed => 1
  | .migrating => 2
  | .retired => 3
  | .withdrawing => 4
  | .withdrawn => 5
  | .spareFree => 6
  | .spareUsed => 7
  | .spareFailed => 8
  | .absent => 9
  | .noHome => 10

/-- A rank's state where nothing has happened to it (R445). -/
def rankDefault (d : Dev) (k : Nat) : RankState :=
  if k / 4 = 4 then .spareFree else if k / 4 < d.part.stacks then .inService else .absent

/-- A rank's state. -/
def rankState (d : Dev) (k : Nat) : RankState := agetD d.mc.ranks k (rankDefault d k)

/-- A rank's state set. -/
def setRank (k : Nat) (v : RankState) (d : Dev) : Dev :=
  { d with mc := { d.mc with ranks := aputD d.mc.ranks k v (rankDefault d k) } }

/-- Spare ranks free (R464). -/
def sparesFree (d : Dev) : Nat := ((List.range 4).filter (fun j => rankState d (16 + j) == .spareFree)).length

/-- Ranks withdrawn or being withdrawn, each 8 GiB less of capacity (R446). -/
def ranksWithdrawn (d : Dev) : Nat :=
  ((List.range 16).filter (fun k => rankState d k == .withdrawn || rankState d k == .withdrawing)).length

/-- The managed capacity with no rank withdrawn, GiB (R446). -/
def fullCapacity (p : Part) : Nat := 32 * p.stacks

/-- The in-service stacks are on, and HB4 where the spare is named (R462). -/
def stacksOn (d : Dev) (spare : Bool) : Bool :=
  (List.range d.part.stacks).all (fun s => pdOn d (41 + s)) && (!spare || pdOn d 45)

/-! ## Partitions (R446, R447, R460) -/

/-- Sizes shrunk to a capacity: first the CXL.mem window, then the Sideboard, then the Wardrobe (R460). -/
def shrunk (cap : Nat) : List Nat → List Nat
  | [rsv, tab, wd, sb, cxl] =>
    let excess := rsv + tab + wd + sb + cxl - cap
    let c := min excess cxl
    let s := min (excess - c) sb
    [rsv, tab, wd - min (excess - c - s) wd, sb - s, cxl - c]
  | l => l

/-- A programme whose segment a shrink took: it stops recording, loses its records, and its joins splice (R382). -/
def segmentLost (m : Nat) (d : Dev) : Dev :=
  let d := (d.sb.contexts.filter (fun e => e.2.programme == m)).foldl (fun d e => spliceNow e.1 e.2 d) d
  raise fSB_EVENT_SEGMENT_LOST 0 (count .sbSegmentLosses 0
    (modProg m (fun p => { p with records := [], recalls := [], lost := true }) d))

/-- Packets of a queue in pages from a number on dropped (R351). -/
def dropPages (q pages : Nat) (d : Dev) : Dev :=
  modQueue q (fun w => { w with openPage := w.openPage.filter (fun x => !decide (pages ≤ x.1)) })
    (takeOut q (fun p => (p.page.map (fun x => decide (pages ≤ x.1))).getD false) (fun _ => count .wdWithdrawn 0) d)

/-- New effective sizes and what each partition then does (R351, R382, R460). -/
def setSizes (new : List Nat) (d : Dev) : Dev :=
  let segs := segmentList d
  let sb := new.getD 3 0
  let lostSegs := if sb < partSize d 3 then
      segs.filter (fun e => decide (sb * 1024 < Config.segmentBase segs e.1 + e.2)) else []
  let shrinkWd := decide (new.getD 2 0 < partSize d 2)
  let d := { d with mc := { d.mc with sizes := new } }
  let d := lostSegs.foldl (fun d e => segmentLost e.1 d) d
  if shrinkWd then d.tm.queues.foldl (fun d e => dropPages e.1 (wdPages d) d) d else d

/-- An item that names a rank only; no port. (DEDUCED, log entry 101) -/
def rankItem (kind k : Nat) (d : Dev) : Dev := memItem kind (k / 4) 0 (k % 4) 0 0 5 d

/-- Port numbers of R465. -/
def portCode : MemPort → Nat
  | .wardrobe => 0
  | .sideboard => 1
  | .tables => 2
  | .cxl => 3
  | .migration => 4

/-! ## Failure (R455, R456, R462) -/

/-- The lowest-numbered free spare taken; HB4 leaves power-down (R445, R455). (DEDUCED, log entry 100) -/
def takeSpare (d : Dev) : Option Nat × Dev :=
  match (List.range 4).find? (fun j => rankState d (16 + j) == .spareFree) with
  | none => (none, d)
  | some j =>
    let d := setRank (16 + j) .spareUsed { d with mc := { d.mc with hb4Taken := true } }
    (some j, if pdState d 45 = 4 ∧ coreRunsMem d then setPd 45 1 d else d)
where
  /-- The in-service stacks run, so HB4 may (R550). -/
  coreRunsMem (d : Dev) : Bool := stacksOn d false

/-- A rank put among those awaiting migration, with a spare where one is free (R455, R456). -/
def awaitMigration (k : Nat) (d : Dev) : Dev :=
  let (j, d) := takeSpare d
  setRank k .failed { d with mc := { d.mc with waiting := d.mc.waiting ++ [(k, j)] } }

/-- The rank whose migration writes to a spare restarts to the next free one, or awaits its withdrawal (R462). -/
def restartMigration (m : Migration) (d : Dev) : Dev :=
  let (j, d) := takeSpare d
  match j with
  | some j =>
    let old := match agetD d.mc.places m.rank [] with
      | e :: l => (m.next, e.2) :: l
      | [] => []
    { d with mc := { d.mc with
      migration := some { m with spare := some j, done := 0, next := 0 },
      places := aput d.mc.places m.rank ((0, j) :: old) } }
  | none =>
    setRank m.rank .failed { d with mc := { d.mc with migration := none, waiting := (m.rank, none) :: d.mc.waiting } }

/-- A rank in memory fails (R454 to R456, R462). -/
def failRank (p : Nat) (d : Dev) : Dev :=
  if p < 16 then
    if rankState d p = .inService then
      awaitMigration p (raise fMC_EVENT_RANK_FAILED 0 (rankItem 4 p d))
    else d
  else
    let j := p - 16
    match rankState d p with
    | .spareFree => raise fMC_EVENT_RANK_FAILED 0 (rankItem 4 p (setRank p .spareFailed d))
    | .spareUsed =>
      let d := raise fMC_EVENT_RANK_FAILED 0 (rankItem 4 p (setRank p .spareFailed d))
      match d.mc.migration with
      | some m =>
        if m.spare = some j then restartMigration m d else again j d
      | none => again j d
    | _ => d
where
  /-- A spare that waits to be written, or that holds a rank's data, fails. -/
  again (j : Nat) (d : Dev) : Dev :=
    if d.mc.waiting.any (fun e => e.2 == some j) then
      let (n, d) := takeSpare d
      { d with mc := { d.mc with waiting := d.mc.waiting.map (fun e => if e.2 = some j then (e.1, n) else e) } }
    else
      match (List.range 16).find? (fun k => ((agetD d.mc.places k []).head?.map (·.2)) == some j) with
      | some k => if rankState d k = .retired then awaitMigration k d else d
      | none => d

/-! ## Errors (R454, R458) -/

/-- A Wardrobe read found poison: a packet that waits in its queue is dropped when it is placed, one in a filled burst now; a
descriptor block takes every packet of its page with it (R351, R458). -/
def wardrobePoison (off : Nat) (d : Dev) : Dev :=
  if 4096 ≤ off % 65536 then dropUnread d else dropPage (off / 65536) d

/-- A Sideboard read found poison: the packets of the records there are dropped (R458). (DEDUCED, log entry 103) -/
def sideboardPoison (off : Nat) (d : Dev) : Dev :=
  (segmentList d).foldl (fun d e =>
    let pos := off - segmentByte d e.1 0
    if segmentByte d e.1 0 ≤ off ∧ pos < e.2 * 2 ^ 20 then
      modProg e.1 (fun p => { p with records := p.records.filter (fun r =>
        !(decide (r.pos ≤ pos) && decide (pos < r.pos + r.size))) }) d
    else d) d

/-- What a read of poison does by port (R458); in a cluster's area it restarts the cluster (R531); the CXL.mem window's answer is
its access's own. -/
def poisonRead (port : MemPort) (l : Nat) (d : Dev) : Dev :=
  let d := raise fMC_EVENT_UE 0 (count .memPoisonReads (portCode port) d)
  match port with
  | .wardrobe => match lineIn d 2 l with
    | some o => wardrobePoison o d
    | none => d
  | .sideboard => match lineIn d 3 l with
    | some o => sideboardPoison o d
    | none => d
  | .tables =>
    let d := poisonItem l d
    match areaCluster d l with
    | some c => poisonRestart c (readerFaults c d)
    | none => d
  | .cxl => d
  | .migration => d

/-- The Longcase hour (R454). -/
def ltHour (d : Dev) : Nat := (ltSplit (ltNow d)).1 / 3600

/-- The rank's correctable errors of this hour with one more. (DEDUCED, log entry 106) -/
def ceAdd (p : Nat) (d : Dev) : Nat × Dev :=
  let (h, n) := agetD d.mc.ceCount p (0, 0)
  let n := if h = ltHour d then n + 1 else 1
  (n, { d with mc := { d.mc with ceCount := aput d.mc.ceCount p (ltHour d, n) } })

/-- An access finds an error (R454). (DEDUCED, log entry 99) -/
def memoryError (e : MemError) (d : Dev) : Dev :=
  let p := 4 * e.stack.val + e.rank.val
  let here := e.stack.val = 4 ∨ e.stack.val < d.part.stacks
  if !here ∨ rankBlocks ≤ e.block ∨ !pdOn d (41 + e.stack.val) then d
  else
    let item := fun (kind : Nat) (d : Dev) => memItem kind e.stack e.channel e.rank e.block e.line (portCode e.port) d
    match e.kind with
    | .correctable =>
      let (n, d) := ceAdd p (item 0 (raise fMC_EVENT_CE 0 (count .memCe p d)))
      let limit := fld d fMC_CE_LIMIT_CE_LIMIT 0
      if limit ≠ 0 ∧ limit ≤ n then failRank p d else d
    | .uncorrectable =>
      let d := item 1 (raise fMC_EVENT_UE 0 (count .memUe p d))
      let l := (p * rankBlocks + e.block) * 64 + e.line
      failRank p (poisonRead e.port l (addPoison [l] d))
    | .parity retryOk =>
      let d := item 2 (count .memRetries p d)
      let second := match aget d.mc.parityAt p with
        | some t => decide (d.now ≤ t + Config.sec)
        | none => false
      let d := { d with mc := { d.mc with parityAt := aput d.mc.parityAt p d.now } }
      if !retryOk || second then failRank p d else d

/-! ## Migration (R455 to R457, R459 to R461) -/

/-- The next waiting rank's migration to its spare begins, where none runs (R455, R456). (DEDUCED, log entry 98) -/
def migrationStart (d : Dev) : Dev :=
  match d.mc.migration, d.mc.waiting with
  | none, (k, some j) :: rest =>
    if !stacksOn d true then d
    else
      let d := setRank k .migrating { d with mc := { d.mc with
        waiting := rest, migration := some { rank := k, spare := some j },
        places := aput d.mc.places k ((0, j) :: agetD d.mc.places k []) } }
      rankItem 5 k (count .migStarted 0 d)
  | _, _ => d

/-- The block of the failed rank holds data of a managed address below lim: its own, or as a donor (R459). -/
def blockHolds (d : Dev) (lim rank block : Nat) : Bool :=
  let low := fun (r b : Nat) => decide (managedOf d.part d.mc.grain r b 0 < lim)
  let x := rank * rankBlocks + block
  ((aget d.mc.maps x).isNone && low rank block) ||
    d.mc.maps.any (fun e => e.2 == x && low (e.1 / rankBlocks) (e.1 % rankBlocks))

/-- The first block from b on, among n, that is to be moved. -/
def nextMove (d : Dev) (lim rank : Nat) : Nat → Nat → Option Nat
  | 0, _ => none
  | n + 1, b => if blockHolds d lim rank b then some b else nextMove d lim rank n (b + 1)

/-- The i-th managed block from lim on, by its least managed address (R448, R459). -/
def managedBlock (p : Part) (g lim i : Nat) : Nat :=
  if 12 ≤ g then lim + i * 4096
  else lim + i / memChannels p * 4096 * memChannels p + i % memChannels p * 2 ^ g

/-- The next donor from candidate i on, among n: a block backing the given-up range that is not on the failed rank. -/
def nextDonor (d : Dev) (lim rank : Nat) : Nat → Nat → Option (Nat × Nat)
  | 0, _ => none
  | n + 1, i =>
    let (r, b, _) := interleave d.part d.mc.grain (managedBlock d.part d.mc.grain lim i)
    let (r, b) := mapped d.mc r b
    if r = rank then nextDonor d lim rank n (i + 1) else some (i, r * rankBlocks + b)

/-- A migration ends: the rank is retired or withdrawn (R455, R457, R459). -/
def migrationEnd (m : Migration) (d : Dev) : Dev :=
  let d := { d with mc := { d.mc with migration := none } }
  let d := match m.spare with
    | some j => setRank m.rank .retired { d with mc := { d.mc with places := aput d.mc.places m.rank [(rankBlocks, j)] } }
    | none => setRank m.rank .withdrawn d
  raise fMC_EVENT_MIG_DONE 0 (rankItem 6 m.rank (count .migEnded 0 d))

/-- One block copied: its bytes, and its unreadable and poisoned lines as poison (R457, R458). -/
def copyBlock (src dst : Nat) (bad : List Nat) (s : State) : State :=
  let was := (s.dev.mc.poison.filter (fun l => l / 64 == src)).map (· % 64)
  let lines := ((was ++ bad).eraseDups).map (fun l => dst * 64 + l)
  let d := { s.dev with mc := { s.dev.mc with poison := s.dev.mc.poison.filter (fun l => l / 64 != dst) } }
  let d := countN .memPoisoned (dst / rankBlocks) lines.length (count .migBlocks 0 (addPoison lines d))
  { s with mem := s.mem.copy (src * 4096) (dst * 4096) 4096, dev := d }

/-- A migration step: the next block to its new place (R457, R459). -/
def migrationStep (bad : List Nat) (s : State) : State :=
  match s.dev.mc.migration with
  | none => s
  | some m =>
    if !stacksOn s.dev m.spare.isSome then s
    else
      match m.spare with
      | some j =>
        let old := (agetD s.dev.mc.places m.rank []).drop 1
        let src := located { s.dev.mc with places := aput s.dev.mc.places m.rank old } m.rank m.next
        let s := copyBlock (src * rankBlocks + m.next) ((16 + j) * rankBlocks + m.next) bad s
        let m := { m with done := m.done + 1, next := m.next + 1 }
        let d := { s.dev with mc := { s.dev.mc with
          migration := some m, places := aput s.dev.mc.places m.rank ((m.next, j) :: old) } }
        { s with dev := if m.done = rankBlocks then migrationEnd m d else d }
      | none =>
        let d := s.dev
        let lim := d.mc.capacity * 2 ^ 30
        match nextMove d lim m.rank (rankBlocks - m.next) m.next with
        | none => { s with dev := migrationEnd m d }
        | some b =>
          match nextDonor d lim m.rank (rankBlocks - m.donor) m.donor with
          | none => { s with dev := migrationEnd m d }
          | some (i, y) =>
            let x := m.rank * rankBlocks + b
            let src := located d.mc m.rank b * rankBlocks + b
            let dst := located d.mc (y / rankBlocks) (y % rankBlocks) * rankBlocks + y % rankBlocks
            let s := copyBlock src dst bad s
            let maps := if s.dev.mc.maps.any (fun e => e.2 == x) then
                s.dev.mc.maps.map (fun e => if e.2 = x then (e.1, y) else e)
              else aput s.dev.mc.maps x y
            let m := { m with done := m.done + 1, next := b + 1, donor := i + 1 }
            let d := { s.dev with mc := { s.dev.mc with migration := some m, maps := maps } }
            let more := (nextMove d lim m.rank (rankBlocks - m.next) m.next).isSome
            { s with dev := if more then d else migrationEnd m d }

/-- A shrink told: the item of kind 7 with the new capacity, its vector, WITHDRAWN (R460, R463). -/
def shrinkTold (k : Nat) (d : Dev) : Dev :=
  raise fMC_EVENT_WITHDRAWN 0 (signal 12 (memItem 7 (k / 4) 0 (k % 4) d.mc.capacity 0 5 d))

/-- A rank with no spare is withdrawn, or stays where the managed space would become too small (R459 to R461). -/
def rankWithdrawal (d : Dev) : Dev :=
  match d.mc.migration, d.mc.waiting with
  | none, (k, none) :: rest =>
    let d := { d with mc := { d.mc with waiting := rest } }
    if d.mc.capacity < 18 then raise fMC_EVENT_EXHAUSTED 0 (setRank k .noHome d)
    else
      let cap := d.mc.capacity - 8
      let d := setSizes (shrunk cap d.mc.sizes) { d with mc := { d.mc with capacity := cap } }
      let d := shrinkTold k d
      let d := setRank k .withdrawing { d with mc := { d.mc with migration := some { rank := k, spare := none } } }
      rankItem 5 k (count .migStarted 0 d)
  | _, _ => d

/-! ## Start (R447, R451, R462) -/

/-- Configured size of partition p in GiB (R466). -/
def configuredSize (d : Dev) (p : Nat) : Nat :=
  let az48 := d.part == .az4808
  match p with
  | 0 => 2
  | 1 => 8
  | 2 => dictNat d 0x9000 1 (if az48 then 48 else 64)
  | 3 => dictNat d 0x9000 2 (if az48 then 0 else 48)
  | _ => dictNat d 0x9000 3 6

/-- The window's contents do not survive a start: nothing is in memory (R463). -/
def clearedMemory (s : State) : State := { s with mem := {} }

/-- A rank that failed before a start or fails its check there has nothing to copy: it is retired to a spare or withdrawn
at once (R451, R462). -/
def settleRank (k : Nat) (spare : Option Nat) (d : Dev) : Dev :=
  match spare with
  | some j => setRank k .retired { d with mc := { d.mc with places := aput d.mc.places k [(rankBlocks, j)] } }
  | none =>
    if d.mc.capacity < 18 then raise fMC_EVENT_EXHAUSTED 0 (setRank k .noHome d)
    else shrinkTold k (setRank k .withdrawn { d with mc := { d.mc with capacity := d.mc.capacity - 8 } })

/-- The withdrawal maps of every withdrawn rank rebuilt by the rule of R459, given the blocks still to look at. -/
def rebuildMap (lim rank : Nat) : Nat → Nat → Nat → Dev → Dev
  | 0, _, _, d => d
  | n + 1, b, i, d =>
    if blockHolds d lim rank b then
      match nextDonor d lim rank (rankBlocks - i) i with
      | none => d
      | some (i, y) =>
        let x := rank * rankBlocks + b
        let maps := if d.mc.maps.any (fun e => e.2 == x) then
            d.mc.maps.map (fun e => if e.2 = x then (e.1, y) else e)
          else aput d.mc.maps x y
        rebuildMap lim rank n (b + 1) (i + 1) { d with mc := { d.mc with maps := maps } }
    else rebuildMap lim rank n (b + 1) i d

/-- The maps of all withdrawn ranks, one rank after another as the withdrawals of R459 would have gone, lowest rank first. -/
def rebuildMaps (d : Dev) : Dev :=
  (((List.range 16).filter (fun k => rankState d k == .withdrawn)).zipIdx).foldl
    (fun d e => rebuildMap ((fullCapacity d.part - 8 * (e.2 + 1)) * 2 ^ 30) e.1 rankBlocks 0 0 d) d

/-- The partitions laid out: the configured sizes, at a WARM_N those in effect, shrunk and told where they exceed the capacity (R447,
R460). -/
def layPartitions (warm : Bool) (d : Dev) : Dev :=
  let want := if warm then d.mc.sizes else (List.range 5).map (configuredSize d)
  let d' := { d with mc := { d.mc with
    sizes := shrunk d.mc.capacity want, grain := if warm then d.mc.grain else dictNat d 0x9000 4 12 } }
  if d'.mc.sizes = want ∨ (fld d fMC_EVENT_WITHDRAWN 0 = 1) then d'
  else shrinkTold (((List.range 16).find? (fun k => rankState d k == .withdrawn)).getD 0) d'

/-- The memory complex at a start, a WARM_N or another: stackOk names the stacks that pass their check, whose delays are loaded (R446,
R447, R450, R451, R462). (DEDUCED, log entry 102) -/
def memStart (warm : Bool) (stackOk : List Bool) (d : Dev) : Dev :=
  let ok := fun (s : Nat) => stackOk.getD s false
  let mig := match d.mc.migration with
    | some m => [(m.rank, m.spare)]
    | none => []
  let lostSpare := if ok 4 then [] else
    ((List.range 16).filter (fun k => rankState d k == .retired)).map (fun k => (k, (none : Option Nat)))
  let waiting := (mig ++ d.mc.waiting).map (fun e => (e.1, if ok 4 then e.2 else none)) ++ lostSpare
  let d := { d with mc := { d.mc with
    migration := none, waiting := [], maps := [], mapCache := [], poison := [], ceCount := [], parityAt := [],
    phy := (((List.range d.part.stacks) ++ [4]).filter ok).map (fun s => (s, Config.calibration s)) } }
  let d := (List.range 16).foldl (fun d k => if rankState d k = .withdrawing then setRank k .withdrawn d else d) d
  let d := if ok 4 then d
    else (List.range 4).foldl (fun d j => setRank (16 + j) .spareFailed d) d
  let d := { d with mc := { d.mc with capacity := fullCapacity d.part - 8 * ranksWithdrawn d } }
  let d := waiting.foldl (fun d e => if rankState d e.1 = .withdrawn then d else settleRank e.1 e.2 d) d
  let bad := ((List.range d.part.stacks) ++ [4]).filter (fun s => !ok s)
  let d := bad.foldl (fun d s => raise fMC_EVENT_CAL_FAIL 0 (memItem 8 s 0 0 0 0 5 d)) d
  let d := (bad.filter (· < 4)).foldl (fun d s => (List.range 4).foldl (fun d r =>
    if rankState d (4 * s + r) = .inService then
      let d := raise fMC_EVENT_RANK_FAILED 0 (rankItem 4 (4 * s + r) d)
      let (j, d) := takeSpare d
      settleRank (4 * s + r) j d
    else d) d) d
  rebuildMaps (layPartitions warm d)

/-! ## The CXL.mem window (R463) -/

/-- Physical address of a byte of the window; none above its size. -/
def windowByte (d : Dev) (off : Nat) : Option Nat :=
  if off < partSize d 4 * 2 ^ 30 then some (resolve d (partBase d 4 * 2 ^ 30 + off)) else none

/-- A read of n window bytes from off, given what each byte's place is: the data, or none where a byte lies past the
window or in a poisoned line, the latter counted (R454, R458, R463). -/
def cxlRead (places : List (Option Nat)) (m : Memory) (d : Dev) : Dev :=
  if places.any Option.isNone then emit (.cxlData none) d
  else if (places.filterMap id).any (fun a => d.mc.poison.contains (a / 64)) then
    emit (.cxlData none) (raise fMC_EVENT_UE 0 (count .memPoisonReads 3 d))
  else emit (.cxlData (some ((places.filterMap id).map m.read))) d

/-- A whole line written at a place, which clears its poison; nothing past the window (R454, R463). -/
def cxlWriteLine (place : Option Nat) (data : List Byte) (s : State) : State :=
  match place with
  | none => s
  | some a =>
    { s with
      mem := s.mem.writeAll a ((data ++ List.replicate 64 0).take 64),
      dev := { s.dev with mc := { s.dev.mc with poison := s.dev.mc.poison.filter (· != a / 64) } } }

/-- Part of the line at a place written from byte i of it; nothing past the window (R454, R463). -/
def cxlWritePart (place : Option Nat) (i : Nat) (data : List Byte) (s : State) : State :=
  match place with
  | none => s
  | some a => { s with mem := s.mem.writeAll (a + i % 64) (data.take (64 - i % 64)) }

/-- The window is active: offered, and its ranks are in service (R475, R476). -/
def memActive (d : Dev) : Bool := memOffered d && stacksOn d false

/-- The window answers the host: CXL.mem is active and the host port runs (R458). -/
def windowOpen (d : Dev) : Bool := memActive d && pdOn d 46

/-- A host access to the window (R458, R463). (DEDUCED, log entry 104) -/
def cxlAccess (off : Nat) (x : CxlAccess) (s : State) : State :=
  if windowOpen s.dev then
    let s := inDev (mapReads 4 (off / 64 * 64) (match x with | .read n => n + off % 64 | _ => 64)) s
    match x with
    | .read n => { s with dev := cxlRead ((List.range n).map (fun i => windowByte s.dev (off + i))) s.mem s.dev }
    | .writeLine data => cxlWriteLine (windowByte s.dev (off / 64 * 64)) data s
    | .writePart i data => cxlWritePart (windowByte s.dev (off / 64 * 64)) i data s
  else s

/-! ## Meanings -/

/-- MEMORY_ERROR_DETECTED (R454). -/
def execMemoryErrorDetected (e : MemError) (s : State) : Out := at_ e.t (memoryError e) s

/-- MIGRATION_START (R455). -/
def execMigrationStart (t : Time) (s : State) : Out := at_ t migrationStart s

/-- MIGRATION_STEP (R457). -/
def execMigrationStep (t : Time) (bad : List (Fin 64)) (s : State) : Out :=
  onWhole (fun s => migrationStep (bad.map (·.val)) (inDev (tick t) s)) s

/-- RANK_WITHDRAWAL (R459). -/
def execRankWithdrawal (t : Time) (s : State) : Out := at_ t rankWithdrawal s

/-- CXL_MEM_ACCESS (R463). -/
def execCxlMemAccess (off : Nat) (x : CxlAccess) (s : State) : Out := onWhole (cxlAccess off x) s

end Sys2Proof.Machine
end

