-- ==== Sys2Proof/Machine/Power.lean ====
section
/-!
DEFINITION. Machine/Power.lean: power states, domains, lifeline, rails and wakes (18_power_and_lifeline.md), and the
commands that may cancel, start or end a change of state beside their own effect.
-/

namespace Sys2Proof.Machine

/-! ## Domains (R550, R558) -/

/-- A spare rank has been taken, so HB4 runs in Run (R445, R550). -/
def spareTaken (d : Dev) : Bool := d.mc.hb4Taken

/-- The pipelines that the lifeline profile keeps: the home channel's and the group's (R558). -/
def lifelinePipe (d : Dev) (p : Nat) : Bool := p == keptHome d / 4 || p == fld d fPW_LL_LL_GROUP 0 / 3

/-- What a domain is in Run: full or lifeline (R550). -/
def runDomain (d : Dev) (life : Bool) (n : Nat) : Nat :=
  let keep := fun (b : Bool) => if b then 1 else 3
  if n < 4 then 1
  else if n < 8 then (if !life || n - 4 == fld d fPW_LL_LL_CLUSTER 0 then 1 else 0)
  else if n < 12 then keep (!life || lifelinePipe d (n - 8))
  else if n < 28 then
    if life then keep (n - 12 == keptHome d) else if fld d fLC_CTRL_ENABLE (n - 12) = 1 then 1 else 0
  else if n < 40 then keep (!life || n - 28 == fld d fPW_LL_LL_GROUP 0)
  else if n < 45 then 1
  else if n = 45 then (if spareTaken d then 1 else 4)
  else if n = 46 ∨ n = 48 then (if life then 0 else 1)
  else 1

/-- What a domain is in a state: 0 Run, 1 Idle, 2 Sleep, 3 Deep sleep, 4 Off (R550). -/
def domState (d : Dev) (st : Nat) (life : Bool) (n : Nat) : Nat :=
  if pdAbsent d.part n then 5
  else if st ≤ 1 then runDomain d life n
  else if n = 0 then 1
  else if st = 2 then
    if n ≤ 2 ∨ n = 47 ∨ n = 49 then 1
    else if 12 ≤ n ∧ n < 28 then (if n - 12 = keptHome d then 1 else 2)
    else if 41 ≤ n ∧ n ≤ 45 then 4
    else if n = 46 then 0
    else 2
  else if st = 3 then
    if n = 1 then 1
    else if 4 ≤ n ∧ n < 8 then 0
    else if 41 ≤ n ∧ n ≤ 45 then 4
    else if n = 46 then 0
    else 3
  else 0

/-- The line as PD2 leaves Run: lanes Off but for those in Test, channels down, nothing evaluated; grants are lost (R181, R228). -/
def darkLine (d : Dev) : Dev :=
  let d := abandonGrants (fun _ => true) ((presentChans d).foldl (fun d n => cutBurst n (forceLow n d)) d)
  { d with
    chans := d.chans.map (fun e => (e.1, { e.2 with
      laneA := { al := { mismatch := e.2.laneA.al.mismatch } }, laneB := { al := { mismatch := e.2.laneB.al.mismatch } },
      up := false, upFrames := 0, deskewed := false, skewGood := 0, overhead := [] }))
    lanes := d.lanes.filter (fun e => decide (e.1 < 96) || e.2.st == 7) }

/-- Records and recall points discarded as PD48 returns from off (R550). -/
def sideboardCold (d : Dev) : Dev :=
  { d with sb := { d.sb with programmes := d.sb.programmes.map (fun e =>
    (e.1, { e.2 with records := [], recalls := [], lastSeq := none })) } }

/-- The domains that come back to Run after having been off: their counters restart, and the Sideboard comes back empty; those
put into the off state hold no counter from then on (R550, R576). -/
def coldDomains (want : Nat → Nat) (d0 d : Dev) : Dev :=
  let gone := (List.range 50).filter (fun n => want n == 0 && pdState d0 n != 0)
  let fresh := (List.range 50).filter (fun n => want n == 1 && d0.pwr.cold.contains n)
  let d := if gone.isEmpty then d else dropCounters gone.contains d
  let d := if fresh.isEmpty then d else zeroCounters fresh.contains d
  let d := if fresh.contains 48 then sideboardCold d else d
  { d with pwr := { d.pwr with cold := (d.pwr.cold ++ gone).filter (fun n => want n != 1) } }

/-- A cluster as its domain changes: held where it goes off, loaded again where it comes back from off (R529, R550). -/
def clusterDomain (want : Nat → Nat) (d0 : Dev) (d : Dev) (c : Nat) : Dev :=
  if want (4 + c) = 0 ∧ pdState d0 (4 + c) ≠ 0 then holdCluster c d
  else if want (4 + c) = 1 ∧ (cluster d c).state = .off then modCluster c (fun _ => { state := .loading }) d
  else d

/-- Every domain put into the state named for it, with what its unit does at the change, and the register writes that waited
for it (R66, R150, R213, R228, R361, R376, R418, R472, R521, R529, R550). (DEDUCED, log entry 176) -/
def applyDomains (want : Nat → Nat) (d0 : Dev) : Dev :=
  let d := (List.range 50).foldl (fun d n => setPd n (want n) d) { d0 with pwr := { d0.pwr with stopping := [] } }
  let left := fun (n : Nat) => pdOn d0 n && want n != 1
  let back := fun (n : Nat) => !pdOn d0 n && want n == 1
  let d := if left 48 then spliceAll d else d
  let d := (List.range 4).foldl (clusterDomain want d0) d
  let d := if left 46 then hostReset true d else d
  let d := coldDomains want d0 d
  let d := if left 2 then ltStop (darkLine d) else if back 2 && pdState d0 2 == 3 then ltResume d else d
  let d := if back 3 then secretaryRelieves (secretaryRelease d) else d
  let d := holdChanged d0 d
  loadDeferred
    (if want 2 = 1 then lanesRefresh d else (List.range 96).foldl (fun d k => laneRefresh k d) d)

/-- The domains of the state and profile in force looked at again: a channel is enabled, or the home channel changes
(R550, R558). -/
def domsRefresh (d : Dev) : Dev :=
  if d.pwr.state ≤ 2 ∧ pdOn d 0 then
    let want := domState d d.pwr.state d.pwr.lifeline
    if (List.range 50).all (fun n => pdState d n == want n) then d else applyDomains want d
  else d

/-- Line channels have been enabled or disabled: their domains, their lanes, and whether they are up (R80, R550). -/
def enablesChanged (d : Dev) : Dev :=
  let d := (List.range 64).foldl (fun d k => laneRefresh (96 + k) d) (domsRefresh d)
  protEval ((List.range 16).foldl (fun d n => chanEval n d) d)

/-! ## Requests (R552 to R556) -/

/-- Rails that a state turns off, by their numbers (R551). -/
def railsOff (st : Nat) : List Nat := if st = 3 then [0, 1, 2] else if st = 4 then [0, 1, 2, 3, 4] else []

/-- A rail has a regulator in the map (R572). (DEDUCED, log entry 126) -/
def railMapped (d : Dev) (r : Nat) : Bool := dictNat d (0x7010 + r) 1 0xFF != 0xFF

/-- State of R547 that a target leads to. -/
def targetState (target : Nat) : Nat := if target ≤ 2 then 0 else target - 1

/-- Consent for Deep sleep or Off is held (R151). -/
def consented (d : Dev) (target : Nat) : Bool := d.act.sleepUntil.isSome && d.act.sleepStates.testBit (target - 4)

/-- Loss of line holds (R553). -/
def lineLost (d : Dev) : Bool := d.pwr.lossOfLine && actState d == 0 && !anyUp d

/-- Seconds of consent left. -/
def consentLeft (d : Dev) : Nat :=
  match d.act.sleepUntil with
  | some t => (t - d.now) / Config.sec
  | none => 0

/-- Why a request is refused (R552). -/
def refusal (r : PwReq) (d : Dev) : Option Nat :=
  let low := r.target = 4 ∨ r.target = 5
  let margin := (fld d fPW_TIMERS_WAKE_MARGIN 0 + 1) * Config.sec
  if low ∧ !consented d r.target ∧ !lineLost d then some 3
  else if low ∧ (List.range 3).any (fun k => !railMapped d k) then some 5
  else if low ∧ consented d r.target ∧ (d.act.sleepUntil.getD 0) - d.now < margin then some 5
  else if r.target = 3 ∧ ¬ (1 ≤ r.period ∧ r.period ≤ 86400) then some 5
  else if r.target = 2 ∧ d.part.groups ≤ fld d fPW_LL_LL_GROUP 0 then some 7
  else none

/-- The state and profile that a request names are in force. -/
def inForce (d : Dev) (target : Nat) : Bool :=
  if target ≤ 2 then decide (d.pwr.state ≤ 1) && d.pwr.lifeline == (target == 2) else d.pwr.state == target - 1

/-- A protection switch is running (R650). -/
def protRuns (d : Dev) : Bool := d.prot.state == .holdoff || d.prot.state == .settle || d.prot.state == .resync

/-- A request waits: before the line start release, behind an activation, or during a protection switch (R30, R556, R633).
(DEDUCED, log entry 123) -/
def pwBlocked (d : Dev) : Bool :=
  !d.act.lineRelease || protRuns d || (match d.img.request with | some q => !q.waits | none => false)

/-- The request in force set. -/
def setChange (c : Option PwChange) (d : Dev) : Dev := { d with pwr := { d.pwr with change := c } }

/-- Packets and frames on their way to a pipeline or within it (R548, R554). -/
def inFlight (d : Dev) (q : Nat) : Bool :=
  !(agetD d.cls.recirc q []).isEmpty || !(agetD d.cls.holds q []).isEmpty || !(agetD d.bond.out q []).isEmpty ||
    !(agetD d.sb.waiting q []).isEmpty || !(agetD d.host.txFrames q []).isEmpty ||
    (List.range 24).any (fun i => !(port d (24 * q + i)).rx.isEmpty)

/-- Step 4 of R554 for Off: what is in flight is dropped and counted. (DEDUCED, log entry 178) -/
def dropInFlight (d : Dev) : Dev :=
  let pkts := (d.cls.recirc.map (·.2)).flatten ++ ((d.cls.holds.map (·.2)).flatten.map (·.pkt)) ++ (d.sb.waiting.map (·.2)).flatten
  let frames := ((d.bond.out.map (·.2)).flatten).length + ((d.host.txFrames.map (·.2)).flatten).length +
    (d.ports.map (fun e => e.2.rx.length)).sum
  let entered := (d.cls.recirc.map (·.2)).flatten ++ ((d.cls.holds.map (·.2)).flatten.map (·.pkt))
  let d := pkts.foldl (fun d p => replayDone p d) (entered.foldl (fun d p => dropCopy p d) d)
  countN .pwOffDrops 0 (pkts.length + frames)
    { d with
      cls := { d.cls with recirc := [], holds := [] }, sb := { d.sb with waiting := [] }, bond := { d.bond with out := [] },
      host := { d.host with txFrames := [] }, ports := d.ports.map (fun e => (e.1, { e.2 with rx := [] })) }

/-- Step 4 of R554 begins: the domains that the change takes out of Run take no new work, and their lanes go to Off; for Off
what is in flight is dropped (R228). -/
def stopUnits (r : PwReq) (d : Dev) : Dev :=
  let want := domState d (targetState r.target) (r.target == 2)
  let d := { d with pwr := { d.pwr with stopping := (List.range 50).filter (fun n => pdOn d n && want n != 1) } }
  let d := lanesRefresh d
  if r.target = 5 then dropInFlight d else d

/-- Steps 3 and 4 of R554: the Firescreen's hold begins, and the units that leave Run stop. -/
def holdBegin (c : PwChange) (d : Dev) : Dev :=
  stopUnits c.req (setHolds (fun f => { f with power := true }) (setChange (some { c with held := true, noticeDue := none }) d))

/-- A request that has not reached its commit point steps back behind an activation that is accepted: its hold ends, and it begins
anew when the activation has completed (R30, R556). -/
def pwYield (d : Dev) : Dev :=
  match d.pwr.change with
  | some c =>
    if c.phase = .pending then
      pwResult c.req.origin 3 0 (powerHoldEnd (releaseUnits (setChange (some { req := c.req, phase := .waits, byLoss := c.byLoss })
        { d with act := { d.act with noticePending := none } })))
    else d
  | none => d

/-- Steps 1 and 2 of R554: the request is pending; Deep sleep and Off first send their Sleep Notice. -/
def beginChange (r : PwReq) (d : Dev) : Dev :=
  let d := idleExit d
  let c : PwChange := { req := r, phase := .pending, byLoss := !consented d r.target }
  let d := pwResult r.origin 1 0 { d with pwr := { d.pwr with edge := none } }
  if r.target = 4 ∨ r.target = 5 then
    let due := d.now + fld d fPW_TIMERS_NOTICE_WAIT 0 * Config.ms
    setChange (some { c with noticeDue := some due })
      { d with act := { d.act with noticePending := some (r.target - 1), noticePlaced := false, noticeLeft := false } }
  else holdBegin c d

/-- A request takes the slot in Run, or in a state from which its own is reached downward (R552, R554, R556). -/
def takeSlot (r : PwReq) (d : Dev) : Dev :=
  if inForce d r.target then pwResult r.origin 0 0 d
  else if pwBlocked d then
    pwResult r.origin 3 0 (setChange (some { req := r, phase := .waits, byLoss := !consented d r.target }) d)
  else beginChange r d

/-- The state that a request names lies above the state in force, so that a wake comes first (R555, R567).
(DEDUCED, log entry 179) -/
def needsWake (d : Dev) (r : PwReq) : Bool := decide (2 ≤ d.pwr.state) && decide (targetState r.target < d.pwr.state)

/-- The request that waits starts, once neither a change nor a wake runs (R555). -/
def startNext (d : Dev) : Dev :=
  match d.pwr.next with
  | some r =>
    if d.pwr.change.isSome ∨ d.pwr.wake.isSome ∨ needsWake d r then d
    else takeSlot r { d with pwr := { d.pwr with next := none } }
  | none => d

/-! ## Wakes (R563, R567 to R569) -/

/-- Always-on seconds count (R418). -/
def alwaysOn (d : Dev) : Nat :=
  if pdOn d 2 then secondsNow d else d.lc.alwaysOn + (d.now - d.lc.alwaysOnAt) / Config.sec

/-- PW_WAKE records a source, of a wake or of a cancellation (R569). -/
def recordWake (source : Nat) (cancel : Bool) (d : Dev) : Dev :=
  setReg .pwWake 0 (BitVec.ofNat 48 (alwaysOn d % 2 ^ 32 * 65536 + cancel.toNat * 32768 + source)) d

/-- PFAIL_N and BATT_N are both low. -/
def onBattery (d : Dev) : Bool := d.act.pfailLow && d.act.battLow

/-- LL_RESTORE runs while lifeline stands by R557 and PFAIL_N is high. -/
def restoreTimer (d : Dev) : Dev :=
  let run := !d.act.pfailLow && d.pwr.lifeline && d.pwr.mainsLifeline && decide (d.pwr.state ≤ 1)
  let due := if run then some (d.pwr.restoreDue.getD (d.now + fld d fPW_LL_LL_RESTORE 0 * Config.sec)) else none
  { d with pwr := { d.pwr with restoreDue := due } }

/-- LL_HOLD begins or stops (R557, R633). -/
def holdTimer (d : Dev) : Dev :=
  let run := onBattery d && d.act.lineRelease
  let due := if run then some (d.now + fld d fPW_LL_LL_HOLD 0 * Config.ms) else none
  { d with pwr := { d.pwr with holdDue := due } }

/-- FAULT_N driven. -/
def setFault (on : Bool) (d : Dev) : Dev :=
  if d.pwr.fault = on then d else emit (.faultN (!on)) { d with pwr := { d.pwr with fault := on } }

/-- The profile in force set, with its events and counter (R557, R571). -/
def setProfilePw (life mains : Bool) (d : Dev) : Dev :=
  let was := d.pwr.lifeline
  let d := { d with pwr := { d.pwr with lifeline := life, mainsLifeline := life && mains } }
  if life && !was then raise fPW_EVENT_LL_ENTER 0 (count .pwLifeline 0 d)
  else if was && !life then raise fPW_EVENT_LL_EXIT 0 d
  else d

/-- Management packets held in Sleep go to the Secretary (R549). -/
def deliverHeld (d : Dev) : Dev :=
  let l := d.pwr.heldMgmt
  l.foldl (fun d b => emit (.toSecretary b) d) { d with pwr := { d.pwr with heldMgmt := [] } }

/-- The wake failures that the Secretary still has to count go into its entry (R568, R572). -/
def countFails (d : Dev) : Dev :=
  if d.pwr.failsOwed = 0 then d
  else
    let n := dictNat d 0x7001 4 0 + d.pwr.failsOwed
    { d with dict := aput d.dict (0x7001 * 256 + 4) (natToBytes 4 (n % 2 ^ 32)), pwr := { d.pwr with failsOwed := 0 } }

/-- After a wake from Deep sleep the terminal resumes: under consent in Intermittent Loss for what remains of it, after loss
of line in the state it held (R153, R567). -/
def resumeActivation (d : Dev) : Dev :=
  if actState d = 4 then
    let e := d.pwr.consentEnd
    let d := setState 5 d
    { d with act := { d.act with lossDue := some e, lossIsConsent := true } }
  else endConsent d

/-- A wake from Sleep or Deep sleep completes (R563, R567, R568). -/
def finishWake (w : PwWake) (d : Dev) : Dev :=
  let d := { d with pwr := { d.pwr with state := 0, wake := none } }
  let d := setProfilePw w.lifeline true d
  let d := applyDomains (domState d 0 w.lifeline) d
  let d := if w.from_ = 3 then resumeActivation d else endConsent d
  let d := deliverHeld (countFails (setFault false d))
  restoreTimer (raise fPW_EVENT_WAKE 0 (powerHoldEnd d))

/-- OSC_EN high, and the wait for OSC_RDY (R567). -/
def oscStage (w : PwWake) (d : Dev) : Dev :=
  emit (.oscEn true) { d with pwr := { d.pwr with wake := some { w with oscDue := some (d.now + 10 * Config.ms) } } }

/-- The next rail to be raised is commanded, or the oscillator follows (R561, R567). -/
def raiseNext (w : PwWake) (d : Dev) : Dev :=
  match w.raise with
  | r :: _ => railRequest r true { d with pwr := { d.pwr with
      wake := some w, tries := 0, railsDown := d.pwr.railsDown.filter (· != r) } }
  | [] => oscStage w d

/-- A wake completes, and a request that waited starts (R555, R567). -/
def wakeDone (w : PwWake) (d : Dev) : Dev := startNext (finishWake w d)

/-- A wake begins in a lower state whose entry has completed (R563, R567, R569); a source of 0 is a request. One on battery leads
to lifeline whatever LL_GROUP is. (DESIGN CHOICE, log entry 180) -/
def startWake (source : Nat) (d : Dev) : Dev :=
  if d.pwr.state < 2 ∨ d.pwr.change.isSome ∨ d.pwr.wake.isSome ∨ d.pwr.shutdown then d
  else
    let d := if source = 0 then d else count .pwWakes source (recordWake source false d)
    let w : PwWake := { source := source, from_ := d.pwr.state, lifeline := onBattery d,
                        raise := (railsOff d.pwr.state).filter (railMapped d) }
    let d := { d with pwr := { d.pwr with lineTimer := none, edge := none } }
    if d.pwr.state = 2 then wakeDone w d else raiseNext w d

/-- A wake source is there: it wakes a lower state, and cancels a request there that has not reached its commit point; a source
that is an edge is latched while an entry runs, and before P from Run it is seen there (R554, R563, R566). -/
def wakeBy (source : Nat) (edge : Bool) (d : Dev) : Dev :=
  match d.pwr.change with
  | none => startWake source d
  | some c =>
    if beforeP c ∧ 2 ≤ d.pwr.state then startWake source (cancelChange d)
    else if edge then { d with pwr := { d.pwr with edge := some source } }
    else d

/-! ## Requests that take, replace or wait -/

/-- The request that has not reached its commit point is replaced (R30, R555). -/
def replaceReq (d : Dev) : Dev :=
  match d.pwr.change with
  | some c =>
    powerHoldEnd (releaseUnits (count .pwReplaced 0 (pwResult c.req.origin 2 0
      { d with pwr := { d.pwr with change := none }, act := { d.act with noticePending := none } })))
  | none => d

/-- A request waits in the slot behind a change or a wake that runs; a still newer one replaces it (R555). -/
def queueReq (r : PwReq) (d : Dev) : Dev :=
  let d := match d.pwr.next with
    | some old => count .pwReplaced 0 (pwResult old.origin 2 0 d)
    | none => d
  pwResult r.origin 3 0 { d with pwr := { d.pwr with next := some r } }

/-- A request takes the slot; where its state lies above the state in force, a wake comes first (R552, R555). -/
def acceptReq (r : PwReq) (d : Dev) : Dev :=
  if d.pwr.wake.isSome then queueReq r d
  else if needsWake d r then startWake 0 (queueReq r d)
  else takeSlot r d

/-- A new request that is not refused takes the slot, replaces the one there, or waits behind a running change (R555). -/
def placeReq (r : PwReq) (d : Dev) : Dev :=
  match d.pwr.change with
  | some c => if beforeP c then acceptReq r (replaceReq d) else queueReq r d
  | none => acceptReq r d

/-- A request of the command entry that names the state in force while another is in the slot: the abort of that one (R556). -/
def abortsReq (r : PwReq) (d : Dev) : Bool :=
  (match r.origin with | .entry _ => true | _ => false) && inForce d r.target && d.pwr.change.isSome

/-- A refused request: its status and code, its counter and its event (R552, R571). -/
def powerRefused (o : PowerOrigin) (code : Nat) (d : Dev) : Dev :=
  raise fPW_EVENT_REFUSED 0 (count .pwRefused 0 (pwResult o 4 code d))

/-- A new request with the code that answers it: that of its refusal, or 0x09 for an abort at or after P (R552, R556). -/
def submitReq (r : PwReq) (d : Dev) : Nat × Dev :=
  match refusal r d with
  | some code => (code, powerRefused r.origin code d)
  | none =>
    if abortsReq r d then
      if (match d.pwr.change with | some c => beforeP c | none => false) then (0, cancelChange (pwResult r.origin 0 0 d))
      else (0x09, d)
    else (0, placeReq r d)

/-- A request by its source with its code: the host asks by its port, an entry by the Secretary. -/
def askPower (target period : Nat) (o : PowerOrigin) (d : Dev) : Nat × Dev :=
  if d.pwr.shutdown ∨ (o = .host ∧ ¬ pdOn d 46) then (0, d)
  else submitReq { target := target, period := period, origin := o } d

/-- A request's row: an entry's is a command of its path. -/
def powerRow (target period : Nat) (o : PowerOrigin) (d : Dev) : Dev :=
  match o with
  | .entry p => commandOn p false (askPower target period o) d
  | _ => (askPower target period o d).2

/-! ## Completion -/

/-- The line timer at the entry of a lower state (R565). -/
def armTimer (c : PwChange) (d : Dev) : Dev :=
  let t := if c.req.target = 3 then d.now + c.req.period * Config.sec
    else if c.byLoss then d.now + fld d fPW_TIMERS_LINE_RETRY 0 * Config.sec
    else d.pwr.consentEnd - fld d fPW_TIMERS_WAKE_MARGIN 0 * Config.sec
  { d with pwr := { d.pwr with lineTimer := some t } }

/-- An activation request is cancelled: lifeline does not wait for it, and a change to Deep sleep or Off ends it (R621). -/
def activationLost (d : Dev) : Dev :=
  match d.img.request with
  | some _ => count .actCancelled 0 { d with img := { d.img with request := none, next := none, reqState := 5 } }
  | none => d

/-- A change completes: a lower state arms its timer and looks at the levels and at an edge that came after the retention
commit (R565, R566). -/
def completeChange (c : PwChange) (d : Dev) : Dev :=
  let d := pwResult c.req.origin 0 0 (setChange none d)
  let d := match d.img.request with
    | some q =>
      if 4 ≤ c.req.target then activationLost d else 
        { d with img := { d.img with request := some { q with waits := false }, reqState := 1 } }
    | none => d
  let d := restoreTimer (if 3 ≤ c.req.target then armTimer c d else d)
  let d := if 3 ≤ c.req.target ∧ d.pwr.wakeHigh then startWake 1 d
    else match d.pwr.edge with
      | some e => startWake e d
      | none => d
  if d.pwr.next.any (needsWake d) then startWake 0 d else startNext d

/-! ## Commit points (R554, R566) -/

/-- What has become possible for the request in force: it starts once nothing blocks it, its hold begins once its Sleep
Notice has left; loss of line ends with its condition (R152, R553, R556). (DEDUCED, log entry 122) -/
def pwResume (d : Dev) : Dev :=
  let d := if d.pwr.lossOfLine && !lineLost d then { d with pwr := { d.pwr with lossOfLine := false } } else d
  match d.pwr.change with
  | some c =>
    match c.phase with
    | .waits => if pwBlocked d then d else beginChange c.req (setChange none d)
    | .pending =>
      if c.noticeDue.isSome ∧ d.act.noticeLeft then
        holdBegin c { d with act := { d.act with noticePending := none } }
      else d
    | .running => d
  | none => d

/-- Edge P: the wake sources are sampled for the last time, and the change commits or is cancelled (R554, R563). -/
def commitP (d : Dev) : Dev :=
  match d.pwr.change with
  | some c =>
    if c.phase = .pending ∧ c.held then
      if pwBlocked d then d
      else if c.req.target = 4 ∧ (List.range 4).any (fun q => pipeRuns d q && inFlight d q) then d else
      let low := c.req.target = 4 ∨ c.req.target = 5
      let source := if d.pwr.wakeHigh then some 1 else d.pwr.edge
      match (if low then source else none) with
      | some src =>
        let d := recordWake src true (cancelChange d)
        if 2 ≤ d.pwr.state then startWake src d else d
      | none =>
        if c.req.target = 3 ∧ d.pwr.wakeHigh then d
        else
          raise fPW_EVENT_STATE_CHANGE 0 (count .pwCommitted 0
            (setChange (some { c with phase := .running }) { d with pwr := { d.pwr with edge := none } }))
    else pwResume d
  | none => pwResume d

/-- Report values of the allocation-ID slots as Sleep samples them at its entry, in 64-byte blocks (R549).
(DEDUCED, log entry 55) -/
def sampleReports (d : Dev) : Dev :=
  let reports := (List.range 512).filterMap (fun k =>
    let b := ceilDiv (slotBytes d k) 64
    if b = 0 then none else some (k, b))
  let ages := (List.range 512).filterMap (fun k => if slotAge d k = 0 then none else some (k, slotAge d k))
  { d with pwr := { d.pwr with sleepReports := reports, sleepAges := ages } }

/-- The next rail to be lowered is commanded; with none left the entry completes, or thermal shutdown ends in Off (R561,
R593). -/
def lowerNext (d : Dev) : Dev :=
  match d.pwr.lower with
  | r :: _ => railRequest r false { d with pwr := { d.pwr with tries := 0 } }
  | [] =>
    match d.pwr.change with
    | some c => if c.phase = .running ∧ c.retained then completeChange c d else d
    | none => if d.pwr.isolated then { d with pwr := { d.pwr with state := 4 } } else d

/-- A change to Run, its retention commit made, completes when the Firescreen's hold has ended (R202, R554). -/
def powerHoldTry (d0 : Dev) : Dev :=
  let d := powerHoldEnd d0
  match d.pwr.change with
  | some c => if c.retained ∧ c.req.target ≤ 2 ∧ ¬ d.fs.power then completeChange c d else d
  | none => d

/-- Edge P + 3: the domains change, and the edge latch is cleared (R554, R566). -/
def retentionCommit (d : Dev) : Dev :=
  match d.pwr.change with
  | some c =>
    if c.phase ≠ .running ∨ c.retained then d
    else
      let st := targetState c.req.target
      let was := d.pwr.state
      let d := { d with pwr := { d.pwr with edge := none } }
      let d := if st = 2 then sampleReports d else d
      let d := if 3 ≤ st then
          { d with pwr := { d.pwr with consentEnd := d.act.sleepUntil.getD 0, enteredByLoss := c.byLoss } }
        else d
      let d := { d with pwr := { d.pwr with state := st } }
      let life := c.req.target == 2
      let d := if st = 0 then setProfilePw life c.req.mains d else d
      let d := applyDomains (domState d st life) d
      let c := { c with retained := true }
      if st = 0 then powerHoldTry (setChange (some c) d)
      else if st = 2 then completeChange c (powerHoldEnd (setChange (some c) d))
      else
        let rails := ((railsOff st).filter (fun r => railMapped d r && !(railsOff was).contains r)).reverse
        let d := emit (.oscEn false) (setChange (some c) { d with pwr := { d.pwr with lower := rails } })
        lowerNext d
  | none => d

/-! ## Rails (R561, R562, R568) -/

/-- A wake fails (R568). -/
def wakeFail (w : PwWake) (cause rail : Nat) (d : Dev) : Dev :=
  let old := (reg d .pwWake 0).toNat
  let d := setReg .pwWake 0 (BitVec.ofNat 48 (withBits (withBits (withBits old 11 8 cause) 7 5 rail) 4 4 1)) d
  let d := setFault true (raise fPW_EVENT_WAKE_FAIL 0 (count .pwWakeFails 0 d))
  let d := if w.oscDue.isSome then emit (.oscEn false) d else d
  lowerNext { d with pwr := { d.pwr with
    wake := none, failsOwed := d.pwr.failsOwed + 1, lower := w.raised,
    lineTimer := some (d.now + fld d fPW_TIMERS_LINE_RETRY 0 * Config.sec) } }

/-- A regulator reports its rail in regulation (R561, R567). -/
def railAck (r : Nat) (d : Dev) : Dev :=
  match d.pwr.lower with
  | x :: rest =>
    if x = r then lowerNext { d with pwr := { d.pwr with lower := rest, railsDown := r :: d.pwr.railsDown } } else d
  | [] =>
    match d.pwr.wake with
    | some w =>
      match w.raise with
      | x :: rest => if x = r then raiseNext { w with raise := rest, raised := x :: w.raised } d else d
      | [] => d
    | none => d

/-- A rail request waited 2 ms without acknowledgement: retried up to three times; then an entry goes on without it, a wake
fails (R561, R562, R568). -/
def railTimeout (r : Nat) (d : Dev) : Dev :=
  let lowering := d.pwr.lower.head? == some r
  let raising := d.pwr.lower.isEmpty && (match d.pwr.wake with | some w => w.raise.head? == some r | none => false)
  if !lowering && !raising then d
  else
    let d := count .railNoAck r d
    if d.pwr.tries < 3 then
      railRequest r raising (count .railRetries r { d with pwr := { d.pwr with tries := d.pwr.tries + 1 } })
    else if lowering then
      let d := setFault true (raise fPW_EVENT_REG_FAIL 0 d)
      lowerNext { d with pwr := { d.pwr with lower := d.pwr.lower.drop 1 } }
    else match d.pwr.wake with
      | some w => wakeFail w 1 r d
      | none => d

/-- OSC_RDY does not rise within 10 ms of OSC_EN (R568), or of power-good (R634). -/
def oscTimeout (d : Dev) : Dev :=
  match d.pwr.wake with
  | some w => if dueBy w.oscDue d.now then wakeFail w 2 0 d else d
  | none =>
    if d.boot.waiting ∧ d.boot.from_ + 10 * Config.ms ≤ d.now then setFault true (setFld fGL_BOOT_OSC_LATE 0 1 d) else d

/-! ## Wake sources (R563, R564, R566) -/

/-- WAKE changes (R563). -/
def wakePin (level : Bool) (d : Dev) : Dev :=
  let d := { d with pwr := { d.pwr with wakeHigh := level } }
  if level then wakeBy 1 false d else d

/-- What stands on the two-wire bus: the bytes of the address that TW_ADDR2..0 completes are acknowledged, every byte after it
is refused; a match is a wake source, in Run and Idle only counted (R564). -/
def twoWire (x : TwoWireMatch) (d : Dev) : Dev :=
  if x.address.toNat ≠ 0x58 + Config.twAddr.toNat then d
  else
    let d := emit (.twoWireAck (true :: List.replicate x.more false)) d
    wakeBy 2 true (if d.pwr.state ≤ 1 then count .pwTwoWire 0 d else d)

/-- The line timer expires (R565). -/
def lineTimer (d : Dev) : Dev :=
  let runs : Bool := match d.pwr.change with
    | some c => beforeP c
    | none => true
  if 2 ≤ d.pwr.state ∧ dueBy d.pwr.lineTimer d.now ∧ runs then wakeBy 3 false { d with pwr := { d.pwr with lineTimer := none } }
  else d

/-- A management packet that Sleep holds wakes the terminal (R549, R563). -/
def mgmtWake (d : Dev) : Dev := if d.pwr.heldMgmt.isEmpty then d else wakeBy 5 false d

/-- PFAIL_N falls (R154, R557, R563). (DEDUCED, log entry 127) -/
def pfailFalls (d : Dev) : Dev :=
  let d := holdTimer (pfailFall { d with pwr := { d.pwr with restoreDue := none } })
  let d := if d.act.battLow then wakeBy 4 true d else d
  if d.act.battLow then activationLost d else d

/-- PFAIL_N rises (R154, R557). -/
def pfailRises (d : Dev) : Dev := restoreTimer (pfailRise { d with pwr := { d.pwr with holdDue := none } })

/-- BATT_N changes (R557). -/
def battChange (level : Bool) (d : Dev) : Dev := holdTimer { d with act := { d.act with battLow := !level } }

/-! ## The controller's own requests (R548, R553, R557) -/

/-- A ring that holds work for the device: transmit and task rings, the forwarding ring, and the drawers that a ring of the host
takes (R324, R479, R485, R548). -/
def ringsWork (d : Dev) : Bool :=
  ((List.range 16).map (240 + ·) ++ [260]).any (fun n => ringEnabled d n && (ring d n).hostIx != (ring d n).devIx) ||
    fld d fFW_RING_HEAD_HEAD 0 != fld d fFW_RING_TAIL_TAIL 0 ||
    (List.range 8).any (fun n => consumer d n == 1 && ringEnabled d n && !(drawer d n).items.isEmpty &&
      decide (indexDist d n (ring d n).hostIx (ring d n).devIx < ringSize d n))

/-- Nothing is held in a pipeline, a recirculation port, a queue, the reorder pool or a MAC buffer, and no ring has work
(R548). -/
def quiet (d : Dev) : Bool :=
  d.tm.queues.all (fun e => e.2.items.isEmpty) && d.up.reissue.isEmpty && !(List.range 4).any (inFlight d) &&
    d.bond.flows.all (fun e => e.2.held.isEmpty && e.2.openPkt.isNone) && !ringsWork d

/-- IDLE_AFTER has passed with nothing to do: the core clock stops (R548). -/
def idleEntry (d : Dev) : Dev :=
  if fld d fPW_CFG_IDLE_EN 0 = 1 ∧ d.pwr.state = 0 ∧ d.pwr.change.isNone ∧ quiet d then
    count .pwIdle 0 { d with pwr := { d.pwr with state := 1 } }
  else d

/-- Loss of line begins to hold (R553). (DEDUCED, log entry 124) -/
def lossOfLine (d : Dev) : Dev :=
  if actState d ≠ 0 ∨ anyUp d ∨ d.pwr.lossOfLine ∨ !engineRuns d then d
  else
    let d := { d with pwr := { d.pwr with lossOfLine := true } }
    if fld d fPW_CFG_AUTO_DEEP 0 = 1 then (askPower 4 0 .controller d).2 else d

/-- LL_HOLD ends: Run lifeline is requested (R557). -/
def holdExpiry (d : Dev) : Dev :=
  if dueBy d.pwr.holdDue d.now ∧ onBattery d then
    let d := { d with pwr := { d.pwr with holdDue := none } }
    if d.pwr.shutdown then d else (submitReq { target := 2, origin := .controller, mains := true } d).2
  else d

/-- LL_RESTORE ends: Run full is requested (R557). -/
def restoreExpiry (d : Dev) : Dev :=
  if dueBy d.pwr.restoreDue d.now ∧ ¬ d.act.pfailLow ∧ ¬ d.pwr.shutdown then
    (submitReq { target := 1, origin := .controller } { d with pwr := { d.pwr with restoreDue := none } }).2
  else d

/-- NOTICE_WAIT ends without a burst that carried the notice (R554). -/
def noticeExpiry (d : Dev) : Dev :=
  match d.pwr.change with
  | some c =>
    if c.phase = .pending ∧ dueBy c.noticeDue d.now ∧ ¬ d.act.noticeLeft then
      let d := raise fPW_EVENT_NOTICE_UNSENT 0 (count .pwUnsent 0 d)
      holdBegin c { d with act := { d.act with noticePending := none } }
    else d
  | none => d

/-! ## Meanings -/

/-- REQUEST_RUN_FULL (R552). -/
def execRequestRunFull (t : Time) (o : PowerOrigin) (s : State) : Out := at_ t (fsDrive (powerRow 1 0 o)) s

/-- REQUEST_RUN_LIFELINE (R552, R558). -/
def execRequestRunLifeline (t : Time) (o : PowerOrigin) (s : State) : Out := at_ t (fsDrive (powerRow 2 0 o)) s

/-- REQUEST_SLEEP (R549, R552). -/
def execRequestSleep (t : Time) (o : PowerOrigin) (period : Nat) (s : State) : Out :=
  at_ t (fsDrive (powerRow 3 period o)) s

/-- REQUEST_DEEP_SLEEP (R552). -/
def execRequestDeepSleep (t : Time) (o : PowerOrigin) (s : State) : Out := at_ t (fsDrive (powerRow 4 0 o)) s

/-- REQUEST_OFF (R552). -/
def execRequestOff (t : Time) (o : PowerOrigin) (s : State) : Out := at_ t (fsDrive (powerRow 5 0 o)) s

/-- NOTICE_WAIT_EXPIRY (R554). -/
def execNoticeWaitExpiry (t : Time) (s : State) : Out := at_ t (fsDrive noticeExpiry) s

/-- POWER_CHANGE_COMMIT (R554). -/
def execPowerChangeCommit (t : Time) (s : State) : Out := at_ t (fsDrive commitP) s

/-- RETENTION_COMMIT (R554). -/
def execRetentionCommit (t : Time) (s : State) : Out := at_ t (fsDrive retentionCommit) s

/-- RAIL_ACKNOWLEDGED (R561). -/
def execRailAcknowledged (t : Time) (r : Fin 5) (s : State) : Out := at_ t (fsDrive (railAck r)) s

/-- RAIL_ACK_TIMEOUT (R561). -/
def execRailAckTimeout (t : Time) (r : Fin 5) (s : State) : Out := at_ t (fsDrive (railTimeout r)) s

/-- IDLE_ENTRY (R548). -/
def execIdleEntry (t : Time) (s : State) : Out := at_ t idleEntry s

/-- LOSS_OF_LINE (R553). -/
def execLossOfLine (t : Time) (s : State) : Out := at_ t (fsDrive lossOfLine) s

/-- LIFELINE_HOLD_EXPIRY (R557). -/
def execLifelineHoldExpiry (t : Time) (s : State) : Out := at_ t (fsDrive holdExpiry) s

/-- LIFELINE_RESTORE_EXPIRY (R557). -/
def execLifelineRestoreExpiry (t : Time) (s : State) : Out := at_ t (fsDrive restoreExpiry) s

/-- WAKE_PIN (R563). -/
def execWakePin (t : Time) (level : Bool) (s : State) : Out := at_ t (fsDrive (wakePin level)) s

/-- TWO_WIRE_ADDRESS_MATCH (R564). -/
def execTwoWireAddressMatch (x : TwoWireMatch) (s : State) : Out := at_ x.t (fsDrive (twoWire x)) s

/-- LINE_TIMER_EXPIRY (R565). -/
def execLineTimerExpiry (t : Time) (s : State) : Out := at_ t (fsDrive lineTimer) s

/-- OSC_RDY_TIMEOUT (R568). -/
def execOscRdyTimeout (t : Time) (s : State) : Out := at_ t (fsDrive oscTimeout) s

/-- BATT_N_CHANGE (R557). -/
def execBattNChange (t : Time) (level : Bool) (s : State) : Out := at_ t (battChange level) s

/-- PFAIL_FALL (R154, R557). -/
def execPfailFall (t : Time) (s : State) : Out := at_ t (fsDrive pfailFalls) s

/-- PFAIL_RISE (R154, R557). -/
def execPfailRise (t : Time) (s : State) : Out := at_ t pfailRises s

/-- FS_FRAME_START: the hold of a power change may end with it, and the change complete (R195 to R202, R554). -/
def execFsFrameStart (f : FsFrame) (s : State) : Out := at_ f.t (fsDrive (fun d => powerHoldTry (fsFrame f d))) s

/-- ENVELOPE_RECEIVED (R83 to R113, R549). -/
def execEnvelopeReceived (e : EnvelopeIn) (s : State) : Out := at_ e.t (fsDrive (fun d => mgmtWake (envelopeReceived e d))) s

/-- REORDER_WINDOW_EXPIRY (R101, R549). -/
def execReorderWindowExpiry (t : Time) (flow : BitVec 16) (s : State) : Out :=
  at_ t (fsDrive (fun d => mgmtWake (reorderExpiry flow.toNat d))) s

/-- ASSIGN_TERMINAL (R147, R558). -/
def execAssignTerminal (m : CtlMsg) (s : State) : Out :=
  at_ m.t (fun d => domsRefresh (fsOn 0x02 fsAssign m (receive 0x02 m (assignTerminal m) d))) s

/-- BURST_END (R163, R152). -/
def execBurstEnd (t : Time) (ch : Fin 16) (s : State) : Out := at_ t (fsDrive (fun d => pwResume (burstEnd ch d))) s

/-- The image-activation hold ends at the second frame boundary after its beginning, within its 250 µs (R202).
(DEDUCED, log entry 148) -/
def imageHoldStep (d : Dev) : Dev :=
  if !d.fs.image then d
  else if d.fs.imageFrames = 0 then { d with fs := { d.fs with imageFrames := 1 } }
  else setHolds (fun f => { f with image := false, imageFrames := 0 }) d

end Sys2Proof.Machine
end

