-- ==== Sys2Proof/Machine/Monitors.lean ====
section
/-!
DEFINITION. Machine/Monitors.lean: temperature and voltage monitors, thermal shutdown, tracking of rail 0
(R591 to R597, R627).
-/

namespace Sys2Proof.Machine

/-! ## Thermal shutdown (R593, R594) -/

/-- Thermal shutdown begins: the record, FAULT_N and the thermal hold; whatever change, wake or request there was is
gone. (DEDUCED, log entry 114) -/
def thermalTrip (cause sensor : Nat) (d : Dev) : Dev :=
  if d.pwr.shutdown then d
  else
    let d := setFld fTH_TRIP_CAUSE 0 cause (setFld fTH_TRIP_SENSOR 0 sensor (setFld fTH_TRIP_TIME 0 (alwaysOn d % 2 ^ 32) d))
    let d := setFault true d
    let due := some (d.now + 100 * Config.us)
    let d := { d with pwr := { d.pwr with
      shutdown := true, isolateDue := due, change := none, next := none, wake := none, stopping := [], lower := [],
      holdDue := none, restoreDue := none, lineTimer := none } }
    setHolds (fun f => { f with thermal := true }) d

/-- Every domain but PD0 isolated and stopped; the rails that are on go down in the order 4 to 0 (R561, R593).
(DEDUCED, log entry 115) -/
def thermalIsolate (d : Dev) : Dev :=
  if d.pwr.shutdown ∧ ¬ d.pwr.isolated ∧ dueBy d.pwr.isolateDue d.now then
    let rails := [4, 3, 2, 1, 0].filter (fun r => railMapped d r && !d.pwr.railsDown.contains r)
    let d := applyDomains (domState d 4 false) d
    let d := { d with pwr := { d.pwr with isolated := true, isolateDue := none, lower := rails } }
    lowerNext (emit (.oscEn false) d)
  else d

/-! ## Temperatures (R591, R592) -/

/-- A die sensor's record set. -/
def setDie (n : Nat) (x : DieSensor) (d : Dev) : Dev :=
  { d with mon := { d.mon with die := aputD d.mon.die n x {} } }

/-- A stack's temperature. -/
def stackTemp (d : Dev) (n : Nat) : StackTemp := agetD d.mon.stackTemps n {}

/-- A stack's record set. -/
def setStack (n : Nat) (x : StackTemp) (d : Dev) : Dev :=
  { d with mon := { d.mon with stackTemps := aputD d.mon.stackTemps n x {} } }

/-- The thermal hold ends once no sensor is at its limit, unless the domains are isolated already (R202). -/
def thermalOver (d : Dev) : Dev :=
  let hot := d.mon.die.any (fun e => e.2.limitRun != 0) || d.mon.stackTemps.any (fun e => e.2.limitRun != 0)
  if d.fs.thermal ∧ ¬ d.pwr.isolated ∧ ¬ hot then setHolds (fun f => { f with thermal := false }) d else d

/-- A sample of die sensor n in units of 0.25 °C, against TEMP_WARN and TEMP_LIMIT (R592). (DEDUCED, log entry 112) -/
def dieSample (n : Nat) (temp : Int) (d : Dev) : Dev :=
  let old := dieSensor d n
  let peak := some (match old.peak with | some p => max p temp | none => temp)
  if temp < -240 ∨ 600 < temp then
    raiseIf (!old.excluded) fTH_EVENT_SENSOR_FAIL 0 (setDie n { temp := temp, peak := peak, excluded := true } d)
  else
    let warn := if (fld d fTH_CFG_TEMP_WARN 0 : Int) * 4 ≤ temp then min 2 (old.warnRun + 1) else 0
    let limit := if (fld d fTH_CFG_TEMP_LIMIT 0 : Int) * 4 ≤ temp then min 2 (old.limitRun + 1) else 0
    let d := setDie n { temp := temp, peak := peak, warnRun := warn, limitRun := limit } d
    let d := raiseIf (warn == 2) fTH_EVENT_DIE_WARN 0 d
    if limit = 2 then thermalTrip 1 n d else thermalOver d

/-- A temperature report of stack n, against HBM_WARN and HBM_LIMIT (R592). -/
def hbmReport (n temp : Nat) (d : Dev) : Dev :=
  let limit := if fld d fTH_CFG_HBM_LIMIT 0 ≤ temp then min 2 ((stackTemp d n).limitRun + 1) else 0
  let d := setStack n { temp := temp, valid := true, limitRun := limit } d
  let d := raiseIf (decide (fld d fTH_CFG_HBM_WARN 0 ≤ temp)) fTH_EVENT_HBM_WARN 0 d
  if limit = 2 then thermalTrip 3 (16 + n) d else thermalOver d

/-- The stack's third report in a row is missed (R591). -/
def hbmMissed (n : Nat) (d : Dev) : Dev :=
  let old := stackTemp d n
  raiseIf (!old.excluded) fTH_EVENT_SENSOR_FAIL 0
    (setStack n { old with valid := false, missed := 3, excluded := true, limitRun := 0 } d)

/-- TH_TS n as it reads. -/
def dieWord (x : DieSensor) : Word :=
  BitVec.ofNat 48 (((BitVec.ofInt 12 (x.peak.getD 0)).toNat) * 2 ^ 16 + (BitVec.ofInt 12 x.temp).toNat)

/-- A read of TH_TS n: PEAK is returned and cleared (R597). (DEDUCED, log entry 113) -/
def peakRead (n : Nat) (d : Dev) : Dev :=
  let x := dieSensor d n
  emit (.barRead (regOffset .thTs n) (dieWord x)) (setDie n { x with peak := none } d)

/-! ## Rails (R595, R627) -/

/-- A rail's reading against its window; for rail 0 LOW and HIGH are offsets from the AVS target (R595). -/
def voltageSample (r mv : Nat) (d : Dev) : Dev :=
  let d := { d with mon := { d.mon with rails := aputD d.mon.rails r mv 0 } }
  let low := fld d fTH_VWIN_LOW r
  let high := fld d fTH_VWIN_HIGH r
  let out := if r = 0 then decide (mv + low < d.mon.avsTarget) || decide (d.mon.avsTarget + high < mv)
    else decide (mv < low) || decide (high < mv)
  if out then raise fTH_EVENT_V_OUT 0 (count .monOut 0 d) else d

/-- The power controller follows rail 0's target: from the boot level at once, then in steps of 5 mV at most, one in 10 ms at
most (R627). (DEDUCED, log entry 116) -/
def avsTrack (asked : Nat) (d : Dev) : Dev :=
  let target := avsBound asked
  if ¬ railMapped d 0 ∨ fld d fGL_BOOT_STEP 0 < 3 ∨ d.pwr.railsDown.contains 0 ∨ d.pwr.isolated then d
  else
    let d := { d with mon := { d.mon with avsTarget := target } }
    if fld d fGL_BOOT_RAIL0_BOOT 0 = 1 then
      setFld fGL_BOOT_RAIL0_BOOT 0 0 { d with mon := { d.mon with avs := target, avsAt := some d.now } }
    else
      let waits : Bool := match d.mon.avsAt with
        | some t => decide (d.now < t + 10 * Config.ms)
        | none => false
      if waits ∨ d.mon.avs = target then d
      else
        let mv := if d.mon.avs < target then min target (d.mon.avs + 5) else max target (d.mon.avs - 5)
        { d with mon := { d.mon with avs := mv, avsAt := some d.now } }

/-! ## Meanings -/

/-- DIE_TEMP_SAMPLE (R591, R592). -/
def execDieTempSample (t : Time) (n : Fin 16) (temp : BitVec 12) (s : State) : Out :=
  at_ t (fsDrive (dieSample n temp.toInt)) s

/-- HBM_TEMP_REPORT (R591, R592). -/
def execHbmTempReport (t : Time) (n : Fin 5) (temp : BitVec 8) (s : State) : Out :=
  at_ t (fsDrive (hbmReport n temp.toNat)) s

/-- HBM_REPORT_MISSED (R591). -/
def execHbmReportMissed (t : Time) (n : Fin 5) (s : State) : Out := at_ t (hbmMissed n) s

/-- HARDWARE_THERMAL_TRIP (R592). -/
def execHardwareThermalTrip (t : Time) (n : Fin 16) (s : State) : Out := at_ t (fsDrive (thermalTrip 2 n)) s

/-- THERMAL_ISOLATION (R593). -/
def execThermalIsolation (t : Time) (s : State) : Out := at_ t (fsDrive thermalIsolate) s

/-- VOLTAGE_SAMPLE (R595). -/
def execVoltageSample (t : Time) (r : Fin 8) (mv : BitVec 16) (s : State) : Out := at_ t (voltageSample r mv.toNat) s

/-- TEMPERATURE_PEAK_READ (R597). -/
def execTemperaturePeakRead (n : Fin 16) (s : State) : Out := onDev (peakRead n) s

/-- AVS_TRACK (R627). -/
def execAvsTrack (t : Time) (target : BitVec 16) (s : State) : Out := at_ t (avsTrack target.toNat) s

end Sys2Proof.Machine
end

