-- ==== Sys2Proof/Machine/EntryView.lean ====
section
/-!
DEFINITION. Machine/EntryView.lean: what an entry of the dictionary reads as, and the checks of a write to it (R6, R496 to
R500, R516, R518).
-/

namespace Sys2Proof.Machine

/-! ## Factory values (R504, R505) -/

/-- A text of the part. -/
def partText : Part → String
  | .az9616 => "AZ9616"
  | .az9608 => "AZ9608"
  | .az4808 => "AZ4808"

/-- The value of a capability entry of 0x1100 (R505). -/
def capability (d : Dev) (sub : Nat) : List Byte :=
  let p := d.part
  match sub with
  | 1 => natToBytes 2 (2 ^ p.channels - 1)
  | 2 => bitmapBytes 12 (2 ^ p.ports - 1)
  | 3 => natToBytes 1 (2 ^ p.pipes - 1)
  | 4 => natToBytes 1 (2 ^ p.stacks - 1)
  | 5 => [1]
  | 6 => natToBytes 1 p.hasSideboard.toNat
  | 7 => natToBytes 1 p.hasTributaries.toNat
  | 8 => [0x0F]
  | 9 => [0x0F]
  | 10 => bitmapBytes 7 ((List.range 50).foldl (fun a n => a + if pdAbsent p n then 0 else 2 ^ n) 0)
  | _ => natToBytes 1 (fullCapacity p)

/-- The value of a capability entry of 0x1101 (R505). -/
def quantity (d : Dev) (sub : Nat) : Nat :=
  let p := d.part
  match sub with
  | 1 => 8192
  | 2 => 512
  | 3 => 64 * p.ports
  | 4 => 16384
  | 5 => 32768
  | 6 => 1048576
  | 7 => 7168
  | 8 => if p.hasSideboard then 1024 else 0
  | 9 => if p.hasTributaries then 32 else 0
  | _ => if p.ports = 48 then 54 else 104

/-- A TIME value. -/
def timeBytes (s ns : Nat) : List Byte := natToBytes 6 s ++ natToBytes 4 ns

/-- An entry of a block of the counter directory (R578). -/
def blockEntry (b : CounterBlock) (sub : Nat) : List Byte :=
  match sub with
  | 1 => b.name.take 24
  | 2 => natToBytes 4 b.first
  | 3 => natToBytes 2 b.scopes.length
  | 4 => natToBytes 2 b.stride
  | 5 => natToBytes 1 (b.counters.take 239).length
  | 6 => natToBytes 1 (blockDomain b)
  | _ => ((b.counters.map (·.2)).getD (sub - 0x10) []).take 24

/-- A factory entry (R501). -/
def factoryBytes (d : Dev) (e : EntryDef) (index sub : Nat) : List Byte :=
  if index = 0x1100 then capability d sub
  else if index = 0x1101 then natToBytes e.ty.size (quantity d sub)
  else if index = 0x2000 then natToBytes 8 ownSerial
  else if index = 0x1000 then
    match sub with
    | 1 => textBytes (partText d.part)
    | 2 => natToBytes 2 d.part.device
    | 3 => natToBytes 1 Config.stepping.toNat
    | 4 => natToBytes 2 0x504C
    | 5 => natToBytes 8 ownSerial
    | 10 => natToBytes 2 Config.stepping.toNat
    | 6 => timeBytes Config.manufactured.1 Config.manufactured.2
    | _ => natToBytes 4 Config.romVersion.toNat
  else match Config.counterBlocks[index - 0xA100]? with
    | some b => blockEntry b sub
    | none => []

/-! ## Status values (R497) -/

/-- Code of a generation slot's state and of its owner (R270, R287). -/
def slotStateCode : SlotState → Nat
  | .free => 0
  | .loading => 1
  | .ready => 2
  | .current => 3
  | .draining => 4
  | .evicting => 5

/-- Code of an owner. -/
def ownerCode : Option Path → Nat
  | none => 0
  | some .h => 1
  | some .l => 2
  | some .s => 3

/-- Code of a cluster's state (R545). -/
def clusterCode : ClusterState → Nat
  | .off => 0
  | .loading => 1
  | .running => 2
  | .failed => 3

/-- Code of an image slot's state (R613). -/
def imageCode : SlotImage → Nat
  | .empty => 0
  | .writing => 1
  | .staged => 2
  | .active => 3
  | .previous => 4
  | .invalid => 5

/-- Image slot A or B. -/
def imgSlot (d : Dev) (s : Nat) : ImgSlot := if s = 0 then d.img.a else d.img.b

/-- Code of the Cabinet's state (R597). -/
def cabCode : CabPhase → Nat
  | .idle => 0
  | .armed .. => 1
  | .draining => 2

/-- Code of a transaction's state (R506). -/
def txnCode : TxnPhase → Nat
  | .none => 0
  | .open_ => 1
  | .pending => 2

/-- A connection memory word as its entry shows it (R414). -/
def connCode (w : Word) : Nat := bitsOf w.toNat 9 0 + (connValid w).toNat * 0x8000

/-- The event-log record of a sequence number; zeros where it does not exist or is overwritten: the log holds the newest
1,048,576 (R602, R622). -/
def logRecord (d : Dev) (seq : Nat) : List Byte :=
  let newest := d.sec.log.length
  if seq = 0 ∨ newest < seq ∨ seq + 1048576 ≤ newest then List.replicate 64 0
  else
    match d.sec.log[newest - seq]? with
    | some r => Config.logBytes seq r.seconds r.ns (r.kind.ctorIdx) r.value
    | none => List.replicate 64 0

/-- Seconds of the trial that remain (R619, R622). -/
def trialLeft (d : Dev) : Nat :=
  if d.img.ptr.trial then 600 - min 600 ((d.now - d.img.trialAt) / Config.sec) else 0

/-- Sessions that are open. -/
def openSessions (d : Dev) : Nat := (d.img.sessions.filter (fun e => e.2.opened)).length

/-- The number that a status entry reads as, for those of at most 64 bits; p is the path that reads, n the entry's place in
its grid. (DEDUCED, log entry 142) -/
def statusNat (d : Dev) (p : Path) (e : EntryDef) (n : Nat) : Nat :=
  match e.index with
  | 0x2100 => d.prot.sel.toNat
  | 0x2000 =>
    match e.sub with
    | 1 => actState d
    | 2 => if numHeld d then termNum d else 0xFFFF
    | 3 => homeChan d
    | 5 => fld d fACT_EQD_W_EQD 0
    | 6 => fld d fACT_EQD_P_EQD 0
    | 0xA => consentLeft d
    | _ => d.act.stopRecord.isSome.toNat
  | 0xC000 => if e.sub = 5 then d.fs.nonce.toNat else d.fs.cause
  | 0x3000 => (serial d n).st
  | 0x4000 => (genSlot d (currentSlot d)).gen.toNat
  | 0x4001 =>
    let g := genSlot d n
    match e.sub with
    | 2 => slotStateCode g.state
    | 3 => ownerCode g.owner
    | 4 => g.gen.toNat
    | 5 => g.drain
    | _ => g.badPipe * 0x100000 + g.badAddr
  | 0x4020 => macValidCount d
  | 0x5020 => slotPages d n
  | 0x5100 => queuedLength d (upCiphered d) n
  | 0x5400 => queuedLength d (upCiphered d) (upBase + n)
  | 0x9200 => if e.sub = 2 then wdPages d else (wdUsed d).length
  | 0x9301 => (match p with | .h => d.sb.resH | .l => d.sb.resL | .s => d.sb.resS).toNat
  | 0x9400 => if e.sub = 0xA then (prog d n).rate / 1000000 else (progIdle d n).toNat
  | 0x8000 => if fld d fTSI_STATUS_PENDING 0 = 1 then 1 else if fld d fTSI_STATUS_COPYING 0 = 1 then 2 else 0
  | 0x8010 => (reg d .tbStatus n).toNat % 256
  | 0x8028 => connCode (connEntry d.trib.active (512 ≤ n) (n % 512))
  | 0x6000 => if e.sub = 2 then d.lc.valid.toNat else servoCode d.lc.servo
  | 0x9001 =>
    match e.sub with
    | 1 => d.mc.capacity
    | 2 => partSize d 2
    | 3 => partSize d 3
    | 4 => partSize d 4
    | 5 => sparesFree d
    | _ => ranksWithdrawn d
  | 0x9020 => (rankState d n).code
  | 0x7000 => match p with
    | .h => 0
    | .l => d.pwr.resL
    | .s => d.pwr.resS
  | 0x7001 =>
    match e.sub with
    | 1 => d.pwr.state
    | 2 => d.pwr.lifeline.toNat
    | 3 => fld d fPW_WAKE_SOURCE 0
    | _ => dictNat d 0x7001 4 0
  | 0x1000 => if e.sub = 8 then (imgSlot d d.img.ptr.active).version else (imgSlot d d.img.ptr.active).format
  | 0x1800 => if e.sub = 1 then d.dic.gen.toNat else if e.sub = 2 then d.dic.store.gen.toNat else d.dic.saveState
  | 0x1801 =>
    let x := pathSt d (if n = 0 then .h else if n = 1 then .l else .s)
    if e.sub = 1 then txnCode x.phase
    else if x.phase = .none ∨ x.single.isSome then 0 else x.openGen.toNat
  | 0x1900 =>
    if e.sub = 2 then (List.range 4).foldl (fun a c => a + clusterCode (cluster d c).state * 16 ^ c) 0 else d.sec.cause
  | 0xA010 => if e.sub = 5 then d.cab.done.toNat else cabCode d.cab.phase
  | 0xA040 => (BitVec.ofInt 48 (dieSensor d n).temp).toNat
  | 0xA041 => (stackTemp d n).temp
  | 0xA042 => agetD d.mon.rails n 0
  | 0xA043 => if reg d .thTrip 0 = 0 then d.boot.lastTrip.toNat else (reg d .thTrip 0).toNat
  | 0xA200 => (counterNo d.cnt.values n).toNat
  | 0xA600 =>
    match bankOf d d.cab.done with
    | some b => (bankValue b (8 * (0x200 + n))).toNat
    | none => 0
  | 0xB000 =>
    match e.sub with
    | 1 => d.img.ptr.active
    | 2 => d.img.ptr.trial.toNat
    | 3 => trialLeft d
    | 6 => d.img.rollbackCause
    | 7 => d.img.rollbacks
    | 8 => d.dic.store.format
    | _ => match d.dic.pre with
      | some s => s.format
      | none => 0
  | 0xB001 =>
    let s := imgSlot d n
    match e.sub with
    | 1 => imageCode s.state
    | 2 => s.version
    | 3 => s.format
    | _ => s.total
  | 0xB010 => if e.sub = 4 then d.img.reqState else d.img.reqCode
  | 0xB100 => if e.sub = 7 then d.img.serviceKey.isSome.toNat else openSessions d
  | 0xB200 => d.sec.log.length
  | _ => 0

/-- The value bytes of a status entry. -/
def statusBytes (d : Dev) (p : Path) (e : EntryDef) (n : Nat) : List Byte :=
  if e.index = 0x6000 ∧ e.sub = 1 then
    let (s, ns, _) := ltSplit (ltNow d)
    timeBytes s ns
  else if e.index = 0x7001 ∧ e.sub = 5 then (List.range 50).map (fun k => BitVec.ofNat 8 (pdState d k))
  else if e.index = 0x9400 ∧ e.sub = 9 then bitmapBytes 12 (prog d n).live
  else if e.index = 0xB001 ∧ e.sub = 5 then timeBytes (imgSlot d n).stagedS (imgSlot d n).stagedNs
  else if e.index = 0xB200 ∧ e.sub = 3 then logRecord d (entryAt d 0xB200 2)
  else natToBytes e.ty.size (statusNat d p e n)

/-! ## Reads (R496, R500, R516) -/

/-- Configuration entries whose value the device moves: the current slot, slot 0 of the allocation IDs, the standby page
(R191, R275, R410). -/
def liveConfig (d : Dev) (index sub : Nat) : Option (List Byte) :=
  if index = 0x4000 ∧ sub = 1 then some (natToBytes 1 (currentSlot d))
  else if index = 0x2C00 ∧ sub = 1 then some (natToBytes 2 (if numHeld d then termNum d else 0))
  else if index = 0x2C00 ∧ sub = 2 then some (natToBytes 1 (numHeld d).toNat)
  else if index = 0x2C00 ∧ sub = 3 then some [0]
  else if 0x8020 ≤ index ∧ index < 0x8028 ∧ d.part.hasTributaries then
    let n := (index - 0x8020) * 128 + (sub - 1)
    some (natToBytes 2 (connCode (connEntry d.trib.standby (512 ≤ n) (n % 512))))
  else none

/-- The committed value, or the status value as it stands; a command reads 0 (R497). -/
def valueOf (d : Dev) (p : Path) (e : EntryDef) (index sub : Nat) : List Byte :=
  match e.kind with
  | .command => List.replicate e.ty.size 0
  | .status => if e.pers = .factory then factoryBytes d e index sub else statusBytes d p e (e.item index sub)
  | .config =>
    match liveConfig d index sub with
    | some bs => bs
    | none => entryBytes d e index sub

/-- The highest subindex in use at an index, none where it holds no entry; the factory fixes those of the counter directory
(R496, R578). -/
def highest (index : Nat) : Option Nat :=
  let h := highestSub index
  if h = 0 then none
  else if 0xA100 ≤ index ∧ index < 0xA200 then
    (Config.counterBlocks[index - 0xA100]?).map (fun b => 0x0F + (b.counters.take 239).length)
  else some h

/-- An entry found, or the code 0x01 or 0x02 (R496). -/
def findEntry (index sub : Nat) : Except Nat EntryDef :=
  match highest index with
  | none => .error 0x01
  | some h =>
    if h < sub then .error 0x02
    else
      match entryDef index sub with
      | some e => .ok e
      | none => .error 0x02

/-- The unit of an entry is absent from the part (R6, R578). -/
def unitAbsent (d : Dev) (e : EntryDef) (index sub : Nat) : Bool :=
  if 0xA100 ≤ index ∧ index < 0xA200 then
    match Config.counterBlocks[index - 0xA100]? with
    | some b => blockAbsent d.part b
    | none => false
  else e.absent d.part (e.item index sub)

/-- Code, type code and value of a read. -/
def readEntry (d : Dev) (p : Path) (index sub : Nat) : Nat × Nat × List Byte :=
  if sub = 0 then
    match highest index with
    | some h => (0, 2, natToBytes 1 h)
    | none => (0x01, 0, [])
  else
    match findEntry index sub with
    | .error c => (c, 0, [])
    | .ok e =>
      if e.right p = 0 then (0x03, 0, [])
      else if unitAbsent d e index sub then (0x07, 0, [])
      else (0, e.ty.code, valueOf d p e index sub)

/-! ## Checks of a write (R499, R518) -/

/-- One byte of UTF-8 after a state: bytes still to come and the bounds of the next. -/
def utf8Step (s : Option (Nat × Nat × Nat)) (b : Byte) : Option (Nat × Nat × Nat) :=
  match s with
  | none => none
  | some (0, _, _) =>
    let x := b.toNat
    if x < 0x80 then some (0, 0, 0)
    else if 0xC2 ≤ x ∧ x < 0xE0 then some (1, 0x80, 0xBF)
    else if x = 0xE0 then some (2, 0xA0, 0xBF)
    else if x = 0xED then some (2, 0x80, 0x9F)
    else if 0xE1 ≤ x ∧ x < 0xF0 then some (2, 0x80, 0xBF)
    else if x = 0xF0 then some (3, 0x90, 0xBF)
    else if 0xF1 ≤ x ∧ x < 0xF4 then some (3, 0x80, 0xBF)
    else if x = 0xF4 then some (3, 0x80, 0x8F)
    else none
  | some (n + 1, lo, hi) => if lo ≤ b.toNat ∧ b.toNat ≤ hi then some (n, 0x80, 0xBF) else none

/-- A text is UTF-8. -/
def utf8Ok (bs : List Byte) : Bool :=
  match bs.foldl utf8Step (some (0, 0, 0)) with
  | some (0, _, _) => true
  | _ => false

/-- The length suits the type (R499). -/
def lengthOk (ty : EType) (n : Nat) : Bool :=
  match ty with
  | .string m => decide (n ≤ m)
  | ty => n == ty.size

/-- The value lies in the entry's range (R498, R499). -/
def rangeOk (e : EntryDef) (index : Nat) (bs : List Byte) : Bool :=
  let v := decodeInt e.ty bs
  let typed := match e.ty with
    | .bool => decide (v ≤ 1)
    | .time => decide (bytesToNat (bs.drop 6) ≤ 999999999)
    | .string _ => utf8Ok bs
    | _ => true
  let ranged := match e.range with
    | some (lo, hi) => decide (lo ≤ v) && decide (v ≤ hi)
    | none => true
  let own :=
    if index / 256 = 0x30 ∧ e.sub = 2 then v == 10 || v == 25 || v == 50 || v == 100
    else if e.index = 0x9400 ∧ e.sub = 8 then v == 0 || v == 16 || v == 32
    else if e.index = 0x7010 ∧ e.sub = 1 then v == 0 || v == 1 || v == 0xFF
    else if e.index = 0x7010 ∧ e.sub = 2 then decide (v ≤ 0x77)
    else true
  typed && ranged && own

/-- The value names a unit that the part lacks (R98, R191, R292, R357, R447). -/
def namesAbsent (d : Dev) (e : EntryDef) (bs : List Byte) : Bool :=
  let v := bytesToNat bs
  if e.index = 0x2400 ∧ e.sub = 6 then decide (d.part.pipes ≤ v)
  else if e.index = 0x400C ∧ e.sub = 1 then decide (d.part.pipes ≤ v)
  else if e.index = 0x2C00 ∧ e.sub = 3 then v == 1 && !d.part.hasTributaries
  else if e.index = 0x5300 ∧ e.sub = 1 then decide (2 ^ d.part.ports ≤ bitmapNat bs)
  else if e.index = 0x9000 ∧ e.sub = 2 then decide (0 < v) && !d.part.hasSideboard
  else false

/-- The path may write the entry now (R191, R500). -/
def mayWrite (d : Dev) (p : Path) (e : EntryDef) (index sub : Nat) : Bool :=
  if index = 0x2C00 ∧ sub ≤ 3 then false
  else if e.right p = 2 then true
  else if e.right p = 3 then entryBytes d e index sub == encodeInt e.ty (e.default d.part (e.item index sub))
  else false

/-- The code of a write's checks but for the transaction's size: access, type, range, presence (R518). -/
def writeCheck (d : Dev) (p : Path) (index sub ty : Nat) (bs : List Byte) : Nat :=
  if sub = 0 then (if (highest index).isSome then 0x03 else 0x01)
  else
    match findEntry index sub with
    | .error c => c
    | .ok e =>
      if !mayWrite d p e index sub then 0x03
      else if ty ≠ e.ty.code ∨ ¬ lengthOk e.ty bs.length then 0x04
      else if !rangeOk e index bs then 0x05
      else if unitAbsent d e index sub || namesAbsent d e bs then 0x07
      else 0

end Sys2Proof.Machine
end

