-- ==== Sys2Proof/Machine/Secretary.lean ====
section
/-!
DEFINITION. Machine/Secretary.lean: restarts of the Secretary and of the clusters, the slot pointer's trial, and what follows
a restart (R33, R521, R528 to R530, R545, R616 to R621).
-/

namespace Sys2Proof.Machine

/-! ## Restarts (R33, R521, R528) -/

/-- A path as the Secretary restarts: an open transaction is abandoned, a pending one cancelled with the outcome 0x08 after
the restart (R521). -/
def restartPath (p : Path) (d : Dev) : Dev :=
  let x := pathSt d p
  match x.phase with
  | .none => d
  | .open_ => abandonTxn p d
  | .pending => modPath p (fun y => { noTxn y with owed := some 0x08, single := y.single }) d

/-- The Secretary reset and restarting from the boot ROM, with every cluster held until it is loaded and those that ran
restarted (R528). -/
def restartCore (cause : Nat) (d : Dev) : Dev :=
  let d := logEvent .secretaryRestart cause (count .secretaryRestarts cause d)
  let d := { d with sec := { d.sec with restarting := true, cause := cause } }
  let d := (List.range 4).foldl (fun d c => if clusterUp d c then restartCluster c 4 d else holdCluster c d) d
  [Path.h, Path.l, Path.s].foldl (fun d p => restartPath p d) d

/-- An image slot changed. -/
def modSlotImg (s : Nat) (f : ImgSlot → ImgSlot) (d : Dev) : Dev :=
  if s = 0 then { d with img := { d.img with a := f d.img.a } } else { d with img := { d.img with b := f d.img.b } }

/-- The slot pointer written: into the record that does not hold the higher sequence (R602). -/
def writePtr (active : Nat) (previous : Option Nat) (trial : Bool) (starts : Nat) (d : Dev) : Dev :=
  { d with img := { d.img with
    ptr := { seq := d.img.ptr.seq + 1, active := active, previous := previous, trial := trial, starts := starts },
    other := d.img.ptr } }

/-- The image-activation hold begins (R202, R616). -/
def imageHold (d : Dev) : Dev := setHolds (fun f => { f with image := true, imageFrames := 0 }) d

/-- What a rollback writes: the previous slot active, Trial 0, previous slot none; the rejected slot is Staged again
(R620). -/
def rollbackPtr (cause : Nat) (d : Dev) : Dev :=
  let old := d.img.ptr.active
  let new := d.img.ptr.previous.getD old
  let d := modSlotImg new (fun s => { s with state := .active })
    (if new = old then d else modSlotImg old (fun s => { s with state := .staged }) d)
  let d := writePtr new none false 0 d
  let d := { d with img := { d.img with
    rollbackCause := cause, rollbacks := d.img.rollbacks + 1, restored := false, savedUnder := false } }
  logEvent .rollback cause (count .rollbacks cause d)

/-! ## The image of a start (R602, R605) -/

/-- A slot holds a verified image that the boot ROM finds to pass R604. -/
def slotPasses (ok : List Bool) (d : Dev) (s : Nat) : Bool :=
  let st := (imgSlot d s).state
  (st == .active || st == .previous || st == .staged) && ok.getD s false

/-- The other slot takes the place of an active slot that fails, its trial clear (R605). -/
def otherSlot (d : Dev) : Dev :=
  let old := d.img.ptr.active
  let new := 1 - old
  let d := modSlotImg new (fun s => { s with state := .active }) (modSlotImg old (fun s => { s with state := .invalid }) d)
  let d := { d with img := { d.img with rollbackCause := 3 } }
  logEvent .slotFailed old (writePtr new none false 0 d)

/-- The slot pointer that the boot ROM goes by: the record that passes its CRC and has the higher sequence (R602). -/
def bootPtr (ptrOk : Bool) (d : Dev) : Dev :=
  if ptrOk then d
  else
    let lost := d.img.ptr.active
    let d := { d with img := { d.img with ptr := d.img.other } }
    if d.img.ptr.active = lost then d
    else
      modSlotImg d.img.ptr.active (fun s => { s with state := .active }) (modSlotImg lost (fun s => { s with state := .staged }) d)

/-- The image to run; none where no slot passes (R605, R620). (DEDUCED, log entry 152) -/
def chooseImage (slotsOk : List Bool) (d : Dev) : Option Dev :=
  let ok := fun (d : Dev) => slotPasses slotsOk d d.img.ptr.active
  let settle := fun (d : Dev) =>
    if ok d then some d else if slotPasses slotsOk d (1 - d.img.ptr.active) then some (otherSlot d) else none
  if ok d then some d
  else if d.img.ptr.trial then settle (rollbackPtr 3 d)
  else settle d

/-- A rollback: the Secretary restarts under R616 (R620). -/
def rollback (cause : Nat) (d : Dev) : Dev := restartCore 3 (imageHold (rollbackPtr cause d))

/-- A start of the Secretary counts toward its trial; the third rolls back (R620). (DEDUCED, log entry 149) -/
def trialStart (d : Dev) : Dev :=
  if d.img.ptr.trial then
    let n := d.img.ptr.starts + 1
    let d := writePtr d.img.ptr.active d.img.ptr.previous true n d
    if 3 ≤ n then rollback 2 d else d
  else d

/-- A restart of the Secretary with its cause: 1 watchdog, 2 exception, 3 image activation, 4 command (R545). -/
def secretaryRestart (cause : Nat) (d : Dev) : Dev := if pdOn d 3 then trialStart (restartCore cause d) else d

/-! ## Migration (R618) -/

/-- Keys of the entries that the dictionary store holds: persistent configuration, and the count of wake failures. -/
def storedKey (k : Nat) : Bool :=
  k == 0x7001 * 256 + 4 ||
    match entryDef (k / 256) (k % 256) with
    | some e => e.kind == .config && e.pers == .persistent
    | none => false

/-- The dictionary with the stored values in place of the persistent ones. -/
def withStored (values : List (Nat × List Byte)) (dict : List (Nat × List Byte)) : List (Nat × List Byte) :=
  values.foldl (fun l e => aput l e.1 e.2) (dict.filter (fun e => !storedKey e.1))

/-- The Sideboard programmes, flow slots and allocation-ID slots that keys name. -/
def keysIn (lo hi : Nat) (keys : List Nat) : List Nat :=
  ((keys.filter (fun k => decide (lo ≤ k / 256) && decide (k / 256 < hi))).map
    (fun k => 4 * (k / 256 - lo) + k % 256 / 16)).eraseDups

/-- A programme's setting changed: disabled or resized it loses what it recorded, and enabled or resized it starts anew (R367,
R381). -/
def programmeCommit (d0 : Dev) (m : Nat) (d : Dev) : Dev :=
  if progEnabled d0 m ≠ progEnabled d m ∨ segSize d0 m ≠ segSize d m then
    let d := resetProg m d
    if progEnabled d m then modProg m (fun p => { p with enabledAt := some d.now }) d else d
  else d

/-- What follows from entries that the units read in the dictionary, and from the states that entries open or close. -/
def afterEntries (d0 : Dev) (keys : List Nat) (d : Dev) : Dev :=
  let d := (keysIn 0x2400 0x2C00 keys).foldl (fun d k => flowCommit d0 k d) d
  let allocs := keysIn 0x2C00 0x2C80 keys
  let d := allocs.foldl (fun d k => allocCommit d0 k d) d
  let d := if allocs.isEmpty then d else loadTrib d
  let d := (keysIn 0x9400 0x9500 keys).foldl (fun d m => programmeCommit d0 m d) d
  let d := if keys.any (fun k => k / 256 == 0x2102) then
      enablesChanged d
    else d
  let d := if keys.contains (0x2000 * 256 + 9) then secretaryRelease (settleState d) else d
  if keys.any (fun k => k / 256 == 0x7002) then domsRefresh d else d

/-- Persistent entries restored from a record, with the registers of those that it or the dictionary before lists and what
follows from their new values (R129, R523, R618). -/
def restoreFrom (values : List (Nat × List Byte)) (d : Dev) : Dev :=
  let keys := ((d.dict.filter (fun e => storedKey e.1)).map (·.1) ++ values.map (·.1)).eraseDups
  afterEntries d keys (loadKeys 3 keys { d with dict := withStored values d.dict })

/-- The store at a start of the active image: equal versions need nothing; a lower one is kept as the pre-migration copy and
converted; from a higher one the image goes back to the pre-migration copy at its version (R618). -/
def migrateStore (d : Dev) : Dev :=
  let v := (imgSlot d d.img.ptr.active).format
  let s := d.dic.store
  if s.format = v then d
  else if s.format < v then
    count .storeMigrations 0 { d with dic := { d.dic with pre := some s, store := { s with format := v } } }
  else
    match d.dic.pre with
    | some x =>
      if x.format = v then
        let lost := s.gen.toNat - x.gen.toNat
        logEvent .commitsLost lost (countN .commitsLost 0 lost { d with dic := { d.dic with store := x } })
      else d
    | none => d

/-- Migration at a restart: entries are restored where the pre-migration copy has come into force (R501, R618). -/
def migrate (d : Dev) : Dev :=
  let d' := migrateStore d
  if d'.dic.store.format < d.dic.store.format then restoreFrom d'.dic.store.values d' else d'

/-! ## Clusters (R545) -/

/-- A commanded restart of a cluster: c + 1 is written. -/
def restartCmd (v : Nat) (d : Dev) : Nat × Dev :=
  if v = 0 ∨ 4 < v then (0x05, d) else (0, restartCluster (v - 1) 3 d)

/-- A commanded restart of the Secretary: 0x05EC; its outcome comes after the restart (R545). -/
def restartSecretaryCmd (v : Nat) (d : Dev) : Nat × Dev := if v = 0x05EC then (0, secretaryRestart 4 d) else (0x05, d)

/-- The command as it stands beside the dictionary's messages: a code other than 0 is answered at once, the outcome of a restart
after it (R545). -/
def restartSecretaryOn (p : Path) (v : Nat) (d : Dev) : Dev :=
  if v = 0x05EC ∧ p ≠ .h ∧ secretaryRuns d then
    (restartSecretaryCmd v { d with sec := { d.sec with answers := d.sec.answers ++ [p] } }).2
  else commandOn p false (restartSecretaryCmd v) d

/-- A power change has passed its commit point (R30, R621). -/
def pwRunning (d : Dev) : Bool :=
  match d.pwr.change with
  | some c => c.phase == .running
  | none => false

/-- The activation request that waited for another takes the slot once that one is complete (R30). -/
def nextActivation (d : Dev) : Dev :=
  match d.img.next with
  | some q =>
    let (s, f) := (imgSlot d q.target, d.dic.store.format)
    if s.state ≠ .staged ∧ s.state ≠ .previous ∨ s.format < f ∧ d.dic.pre.all (fun x => x.format != s.format) then
      count .actRefused 0 { d with img := { d.img with next := none, reqState := 4, reqCode := 5 } }
    else { d with img := { d.img with next := none, request := some { q with waits := pwRunning d }, reqState := 1 } }
  | none => d

/-- The answers owed to commanded restarts. -/
def tellRestarts (d : Dev) : Dev :=
  d.sec.answers.foldl (fun d p => emit (.result p 0) d) { d with sec := { d.sec with answers := [] } }

/-! ## After a restart -/

/-- The outcomes that waited for the restart (R521, R545). -/
def tellOwed (p : Path) (d : Dev) : Dev :=
  let x := pathSt d p
  match x.owed with
  | some c => tellOutcome p x.commitId c 0 x.single (modPath p (fun y => { y with owed := none, single := none }) d)
  | none => d

/-- The boot ROM checks the slots again and chooses the image; a rollback there begins the activation hold (R602, R604, R605, R616,
R620). None where no slot passes. -/
def restartImage (x : RestartInputs) (d : Dev) : Option Dev :=
  (chooseImage x.slotsOk (bootPtr x.ptrOk d)).map (fun d' =>
    if d'.img.rollbacks = d.img.rollbacks then d' else imageHold d')

/-- The end of a restart of the Secretary (R33, R618, R619); where no slot passes, recovery from the boot ROM (R605). -/
def restartDone (x : RestartInputs) (d : Dev) : Dev :=
  if !d.sec.restarting then d
  else
    let d := { d with sec := { d.sec with restarting := false } }
    match restartImage x d with
    | none => setFld fGL_BOOT_RECOVERY 0 1 (bootPtr x.ptrOk d)
    | some d =>
    let d := migrate (setFld fGL_BOOT_RECOVERY 0 0 d)
    let d := { d with img := { d.img with restored := true } }
    nextActivation (secretaryRelieves (secretaryRelease (tellRestarts ([Path.h, Path.l, Path.s].foldl (fun d p => tellOwed p d) d))))

/-! ## Trial (R619, R620) -/

/-- The image is healthy (R619). -/
def healthy (d : Dev) : Bool :=
  (List.range 4).all (fun c => !pdOn d (4 + c) || (cluster d c).state == .running) && d.img.restored && d.img.savedUnder

/-- Confirmation: the slot pointer with Trial 0. -/
def confirmImage (d : Dev) : Dev :=
  count .confirmations 0 (writePtr d.img.ptr.active d.img.ptr.previous false 0 d)

/-- The confirm command (R619, R621). (DEDUCED, log entry 150) -/
def confirmCmd (v : Nat) (d : Dev) : Nat × Dev :=
  if v ≠ 1 ∨ ¬ d.img.ptr.trial ∨ ¬ healthy d then (0x05, d) else (0, confirmImage d)

/-- AUTO_CONFIRM: a healthy image is confirmed at once unless the operator must (R619). -/
def autoConfirm (d : Dev) : Dev :=
  if secretaryRuns d && d.img.ptr.trial && healthy d && entryAt d 0xB000 5 == 0 then confirmImage d else d

/-- TRIAL_TIMEOUT: 600 always-on seconds (R619, R620). -/
def trialTimeout (d : Dev) : Dev :=
  if d.img.ptr.trial ∧ d.img.trialAt + 600 * Config.sec ≤ d.now then rollback 1 d else d

/-! ## Activation (R615, R616, R621) -/

/-- Why an activation request is refused, with its time (R615). -/
def activationRefusal (d : Dev) (target secs ns : Nat) : Option Nat :=
  let s := imgSlot d target
  let now := ltNow d
  let t := ltOf secs ns
  let preAt : Bool := match d.dic.pre with
    | some x => x.format == s.format
    | none => false
  if s.state ≠ .staged ∧ s.state ≠ .previous then some 0x05
  else if (secs ≠ 0 ∨ ns ≠ 0) ∧ ¬ d.lc.valid then some 0x0C
  else if (secs ≠ 0 ∨ ns ≠ 0) ∧
      ¬ (now + 1000000 * 65536 ≤ t ∧ t ≤ now + 86400 * 1000000000 * 65536) then some 0x05
  else if s.format < d.dic.store.format ∧ ¬ preAt then some 0x05
  else none

/-- The request's time has come. -/
def activationDue (d : Dev) (q : ActRequest) : Bool :=
  match q.boundary with
  | some b => decide (b ≤ d.now)
  | none => decide (ltOf q.seconds q.ns ≤ ltNow d)

/-- The request's commit point has come, though the slot pointer is not written yet: its time is there, and neither a power change
nor a protection switch holds it back (R25, R621). -/
def activationReached (d : Dev) (q : ActRequest) : Bool :=
  !q.waits && !protRuns d && activationDue d q && (match q.boundary with | some b => boundarySince b d | none => true)

/-- An activation request from the entries: its state shows whether it waits behind a power change, a protection switch or an activation
whose commit point has come, or replaced a request; a power request that waits for its commit point steps back behind it (R30, R75,
R615). (DEDUCED, log entry 173) -/
def activationAsk (d : Dev) : Dev :=
  let target := entryAt d 0xB010 2
  let bs := dictBytes d 0xB010 1 (List.replicate 10 0)
  let secs := bytesToNat (bs.take 6)
  let ns := bytesToNat (bs.drop 6)
  match activationRefusal d target secs ns with
  | some c => count .actRefused 0 { d with img := { d.img with reqState := 4, reqCode := c } }
  | none =>
    let ahead := match d.img.request with
      | some q => activationReached d q
      | none => false
    let replaces := if ahead then d.img.next.isSome else d.img.request.isSome
    let waits := pwRunning d
    let d := if replaces then count .actReplaced 0 d else d
    let q : ActRequest := { target := target, seconds := secs, ns := ns, waits := waits,
                            boundary := if secs = 0 ∧ ns = 0 then some (d.now + 1) else none }
    if ahead then { d with img := { d.img with reqState := 3, next := some q } }
    else
      let d := pwYield d
      { d with img := { d.img with
        reqState := if waits || protRuns d then 3 else if replaces then 2 else 1, request := some q } }

/-- An abort of an activation: before the commit point it cancels, at it or later the activation stands (R25, R621). -/
def activationAbort (d : Dev) : Nat × Dev :=
  let late := { d with img := { d.img with reqState := 7 } }
  match d.img.request with
  | some q => if activationReached d q then (0x09, late) else (0, activationLost d)
  | none => (0x09, if d.img.reqState = 6 then late else d)

/-- ACTIVATION_COMMIT: the slot pointer is written, the hold begins, the Secretary restarts (R616); behind a power change or
a protection switch the request waits (R621). -/
def activationCommit (d : Dev) : Dev :=
  match d.img.request with
  | none => d
  | some q =>
    if !pdOn d 3 ∨ !activationDue d q then d
    else if q.waits ∨ protRuns d then { d with img := { d.img with reqState := 3 } }
    else
      let old := d.img.ptr.active
      let d := modSlotImg q.target (fun s => { s with state := .active })
        (modSlotImg old (fun s => { s with state := .previous }) d)
      let d := writePtr q.target (some old) true 0 d
      let d := { d with img := { d.img with
        request := none, reqState := if d.img.reqState = 7 then 7 else if d.img.next.isSome then 3 else 6, trialAt := d.now, restored := false, savedUnder := false } }
      let d := logEvent .activation q.target (count .actCommitted 0 d)
      secretaryRestart 3 (imageHold d)

/-- A request whose time came during a protection switch commits at the first frame boundary after it (R621). -/
def activationRetry (d : Dev) : Dev :=
  match d.img.request with
  | some q => if d.img.reqState = 3 ∧ activationReached d q then activationCommit d else d
  | none => d

/-! ## Meanings -/

/-- FRAME_BOUNDARY (R39). -/
def execFrameBoundary (t : Time) (inp : BoundaryInputs) (s : State) : Out :=
  at_ t (fsDrive (fun d => activationRetry (imageHoldStep (pwResume (frameBoundary inp d))))) s

/-- WATCHDOG_EXPIRY (R528). -/
def execWatchdogExpiry (t : Time) (s : State) : Out := at_ t (fsDrive (secretaryRestart 1)) s

/-- SECRETARY_EXCEPTION (R528). -/
def execSecretaryException (t : Time) (s : State) : Out := at_ t (fsDrive (secretaryRestart 2)) s

/-- RESTART_CLUSTER (R545). -/
def execRestartCluster (t : Time) (p : Path) (v : BitVec 8) (s : State) : Out :=
  at_ t (commandOn p false (restartCmd v.toNat)) s

/-- RESTART_SECRETARY (R545). -/
def execRestartSecretary (t : Time) (p : Path) (v : BitVec 16) (s : State) : Out :=
  at_ t (fsDrive (restartSecretaryOn p v.toNat)) s

/-- SECRETARY_RESTART_DONE (R33). -/
def execSecretaryRestartDone (x : RestartInputs) (s : State) : Out := at_ x.t (fsDrive (restartDone x)) s

/-- CONFIRM (R619). -/
def execConfirm (t : Time) (p : Path) (v : BitVec 8) (s : State) : Out := at_ t (commandOn p true (confirmCmd v.toNat)) s

/-- AUTO_CONFIRM (R619). -/
def execAutoConfirm (t : Time) (s : State) : Out := at_ t autoConfirm s

/-- TRIAL_TIMEOUT (R620). -/
def execTrialTimeout (t : Time) (s : State) : Out := at_ t (fsDrive trialTimeout) s

/-- ACTIVATION_REQUEST (R615). -/
def execActivationRequest (t : Time) (p : Path) (s : State) : Out :=
  at_ t (commandOn p true (fun d => (0, activationAsk d))) s

/-- ACTIVATION_ABORT (R621). -/
def execActivationAbort (t : Time) (p : Path) (s : State) : Out := at_ t (commandOn p true activationAbort) s

/-- ACTIVATION_COMMIT (R616). -/
def execActivationCommit (t : Time) (s : State) : Out := at_ t (fsDrive activationCommit) s

end Sys2Proof.Machine
end

