-- ==== Sys2Proof/Machine/Images.lean ====
section
/-!
DEFINITION. Machine/Images.lean: the service port, the Waifel sessions, and the staging of images (R603 to R614).
-/

namespace Sys2Proof.Machine

/-! ## Sessions (R609 to R611) -/

/-- The Hello reply's payload (R608). -/
def helloPayload (result id : Nat) (nonce : BitVec 128) : List Byte :=
  natToBytes 1 result ++ [0] ++ natToBytes 2 id ++ natToBytes 16 nonce.toNat

/-- A Hello reply: the terminal's first message, with a check value of zero (R607). -/
def helloReply (result id ack : Nat) (nonce : BitVec 128) (d : Dev) : Dev :=
  emit (.waifel (wfBody 0x02 id 1 ack (helloPayload result id nonce) ++ natToBytes 8 0)) d

/-- A Hello refused, with its code. (DEDUCED, log entry 144) -/
def helloRefuse (code ack : Nat) (d : Dev) : Dev :=
  let (i, d) := nextFree (count .helloRefused 0 d)
  helloReply code 0 ack (Config.freeWaifelNonce i) d

/-- HELLO (R609, R610). -/
def helloOp (m : WaifelMsg) (d : Dev) : Dev :=
  if !waifelRuns d then d
  else if m.payload.length ≠ 16 ∨ m.session ≠ 0 then count .wfDiscarded 0 d
  else
    match d.img.serviceKey with
    | none => helloRefuse 0x03 m.seq.toNat d
    | some k =>
      match [1, 2, 3, 4].find? (fun i => (session d i).isNone) with
      | none => helloRefuse 0x08 m.seq.toNat d
      | some id =>
        let (i, d) := nextFree d
        let client := BitVec.ofNat 128 (bytesToNat m.payload)
        let terminal := Config.freeWaifelNonce i
        let key := sessionKey k client terminal
        let d := setSession id { clientNonce := client, terminalNonce := terminal, key := key, rxSeq := m.seq.toNat,
                                 txSeq := 1, lastAt := d.now } d
        let d := { d with cipher := { d.cipher with slots := aput d.cipher.slots (2 + id) key } }
        helloReply 0 id m.seq.toNat terminal d

/-- OPEN_SESSION (R610). -/
def openOp (m : WaifelMsg) (d : Dev) : Dev :=
  let id := m.session.toNat
  if !waifelRuns d then d
  else
    match session d id with
    | none => count .wfDiscarded 0 d
    | some x =>
      if m.payload ≠ [] then count .wfDiscarded 0 d
      else if wfCheck x.key (wfBody 0x03 id m.seq.toNat m.ack.toNat []) ≠ m.check.toNat then
        if x.opened then count .wfCheckFail 0 d
        else endSession id (sessionSend id 0x04 m.seq.toNat [0x03] (count .openFailed 0 d))
      else if m.seq.toNat ≤ x.rxSeq then count .wfReplayed 0 d
      else sessionSend id 0x04 m.seq.toNat [0x00]
        (setSession id { x with opened := true, rxSeq := m.seq.toNat, lastAt := d.now } d)

/-- A message of a session that is acted on (R611): f of its session ID. -/
def inSession (m : WaifelMsg) (type : Nat) (wellFormed : Bool) (f : Nat → Dev → Dev) (d : Dev) : Dev :=
  let id := m.session.toNat
  if !waifelRuns d then d
  else if !wellFormed then count .wfDiscarded 0 d
  else
    let (ok, d) := wfAccept d.now id type m.seq.toNat m.ack.toNat m.payload m.check.toNat d
    if ok then f id d else d

/-- A session that waits for its Open is freed 5 s after its Hello reply (R610). -/
def openTimeout (id : Nat) (d : Dev) : Dev :=
  match session d id with
  | some x =>
    if waifelRuns d ∧ ¬ x.opened ∧ x.lastAt + 5 * Config.sec ≤ d.now then endSession id (count .wfTimeouts 0 d) else d
  | none => d

/-- A session without an accepted message for the idle timeout is closed (R611). -/
def idleTimeout (id : Nat) (d : Dev) : Dev :=
  match session d id with
  | some x =>
    if waifelRuns d ∧ x.opened ∧ x.lastAt + entryAt d 0xB100 9 * Config.sec ≤ d.now then
      endSession id (count .wfTimeouts 0 d)
    else d
  | none => d

/-- The service key set; every session is closed (R609, R622). -/
def setServiceKey (key : BitVec 256) (d : Dev) : Dev :=
  let d := [1, 2, 3, 4].foldl (fun d id => if (session d id).isSome then endSession id d else d) d
  { d with img := { d.img with serviceKey := some key } }

/-! ## Staging (R612 to R614) -/

/-- An Image reply (R608). -/
def imageReply (id ack offset code : Nat) (d : Dev) : Dev :=
  sessionSend id 0x2F ack (natToBytes 4 offset ++ natToBytes 1 code) d

/-- Transfer of a session. -/
def transferOf (d : Dev) (id : Nat) : Option Nat := (session d id).bind (·.transfer)

/-- A session's transfer set. -/
def setTransfer (id : Nat) (t : Option Nat) (d : Dev) : Dev :=
  match session d id with
  | some x => setSession id { x with transfer := t } d
  | none => d

/-- Image begin is refused for the slot (R614). -/
def slotRefused (d : Dev) (id slot : Nat) : Bool :=
  let s := imgSlot d slot
  let claimed := d.img.sessions.any (fun e => e.1 != id && e.2.transfer == some slot)
  let named := d.img.request.any (·.target == slot) || d.img.next.any (·.target == slot)
  s.state == .active || (s.state == .previous && d.img.ptr.trial) || claimed || named

/-- IMAGE_BEGIN in a session (R612, R614). (DEDUCED, log entry 146) -/
def imageBegin (m : WaifelMsg) (id : Nat) (d : Dev) : Dev :=
  let slot := (m.payload.getD 0 0).toNat
  let total := bytesToNat (m.payload.drop 4)
  let ack := m.seq.toNat
  if slotRefused d id slot then imageReply id ack 0xFFFFFFFF 0x02 d
  else if total < 4096 ∨ 134217728 < total ∨ total % 4096 ≠ 0 then imageReply id ack 0xFFFFFFFF 0x03 d
  else if !m.chestOk then imageReply id ack 0xFFFFFFFF 0x0B d
  else
    let d := modSlotImg slot (fun _ => { state := .writing, total := total }) d
    imageReply id ack 0xFFFFFFFF 0x00 (setTransfer id (some slot) (count .imgBegun slot d))

/-- IMAGE_BLOCK in a session (R612). -/
def imageBlock (m : WaifelMsg) (id : Nat) (d : Dev) : Dev :=
  let off := bytesToNat (m.payload.take 4)
  let data := m.payload.drop 4
  let ack := m.seq.toNat
  match transferOf d id with
  | none => imageReply id ack off 0x01 d
  | some slot =>
    let s := imgSlot d slot
    if off % 1024 ≠ 0 ∨ s.total < off + data.length ∨ data.length ≠ 1024 then imageReply id ack off 0x04 d
    else if !m.chestOk then imageReply id ack off 0x0B d
    else
      let d := modSlotImg slot (fun s => { s with blocks := aput s.blocks off data }) d
      imageReply id ack off 0x00 (count .imgBlocks slot d)

/-- A field of n bytes of an image. -/
def imf (img : List Byte) (at_ n : Nat) : Nat := bytesToNat ((img.drop at_).take n)

/-- A section lies inside the body (R603, R604). -/
def sectionInside (off len body : Nat) : Bool := 4096 ≤ off && off + len ≤ 4096 + body

/-- Bit of the part in the field Parts (R603). -/
def partBit : Part → Nat
  | .az9616 => 0
  | .az9608 => 1
  | .az4808 => 2

/-- The first failed check of R604 with its code of R612; 0 where all hold. -/
def imageCheck (p : Part) (img : List Byte) : Nat :=
  let body := imf img 20 4
  if imf img 0 4 ≠ 0x504C4946 ∨ imf img 4 2 ≠ 1 ∨ body % 4096 ≠ 0 ∨ 134217728 < 4096 + body ∨
      img.length < 4096 + body ∨ !sectionInside (imf img 24 4) (imf img 28 4) body ∨
      !sectionInside (imf img 32 4) (imf img 36 4) body then 0x06
  else if !(imf img 6 2).testBit (partBit p) then 0x07
  else if Config.romVersion.toNat < imf img 16 4 then 0x08
  else if sha384 ((img.drop 4096).take body) ≠ (img.drop 88).take 48 then 0x09
  else
    match Config.romKey (imf img 14 2) with
    | none => 0x0A
    | some k =>
      if ecdsaOk k (bytesToNat (sha384 (img.take 4000))) (imf img 4000 48) (imf img 4048 48) then 0 else 0x0A

/-- IMAGE_END in a session (R612). -/
def imageEnd (m : WaifelMsg) (id : Nat) (d : Dev) : Dev :=
  let ack := m.seq.toNat
  match transferOf d id with
  | none => imageReply id ack 0xFFFFFFFF 0x01 d
  | some slot =>
    if !m.chestOk then imageReply id ack 0xFFFFFFFF 0x0B d else
    let s := imgSlot d slot
    let img := (s.blocks.map (·.2)).flatten
    let code := if img.length < s.total then 0x05 else imageCheck d.part img
    let d := setTransfer id none d
    if code ≠ 0 then
      imageReply id ack 0xFFFFFFFF code
        (count .imgInvalid slot (modSlotImg slot (fun s => { s with state := .invalid }) d))
    else
      let (secs, ns, _) := ltSplit (ltNow d)
      let d := modSlotImg slot (fun s =>
        { s with state := .staged, version := imf img 8 4, format := imf img 12 2, stagedS := secs, stagedNs := ns }) d
      imageReply id ack 0xFFFFFFFF 0x00 (count .imgStaged slot d)

/-! ## The service port (R606) -/

/-- The checksum field's value for bytes whose own field is zero. -/
def inetChecksum (bs : List Byte) : List Byte := natToBytes 2 (65535 - onesSum bs)

/-- The service port's IPv4 and IPv6 addresses; none where they are zero (R622). -/
def serviceV4 (d : Dev) : Option Nat := let a := entryAt d 0xB100 2; if a = 0 then none else some a
def serviceV6 (d : Dev) : Option Nat :=
  let a := bytesToNat (dictBytes d 0xB100 4 (List.replicate 16 0))
  if a = 0 then none else some a

/-- An Ethernet frame of the service port to an address. -/
def serviceFrame (toWho : List Byte) (type : Nat) (payload : List Byte) : List Byte :=
  toWho ++ natToBytes 6 Config.serviceAddress.toNat ++ natToBytes 2 type ++ payload

/-- The answer to an ARP request for the port's address. (PRESUMED, log entry 147) -/
def arpAnswer (d : Dev) (from_ p : List Byte) : Option (List Byte) :=
  let f (a n : Nat) : Nat := bytesToNat ((p.drop a).take n)
  if 28 ≤ p.length ∧ f 0 2 = 1 ∧ f 2 2 = 0x0800 ∧ f 4 1 = 6 ∧ f 5 1 = 4 ∧ f 6 2 = 1 ∧ serviceV4 d = some (f 24 4) then
    some (serviceFrame from_ 0x0806 ((p.take 6) ++ [0, 2] ++ natToBytes 6 Config.serviceAddress.toNat ++
      (p.drop 24).take 4 ++ (p.drop 8).take 10))
  else none

/-- The answer to an ICMP echo request to the port's address; the identification is a free value. -/
def echoAnswer (d : Dev) (free : Nat) (from_ p : List Byte) : Option (List Byte) :=
  let f (a n : Nat) : Nat := bytesToNat ((p.drop a).take n)
  let ihl := f 0 1 % 16 * 4
  let icmp := (p.take (f 2 2)).drop ihl
  if f 0 1 / 16 = 4 ∧ 20 ≤ ihl ∧ ihl + 8 ≤ f 2 2 ∧ f 2 2 ≤ p.length ∧ onesSum (p.take ihl) = 65535 ∧
      f 6 2 % 16384 = 0 ∧ f 9 1 = 1 ∧ serviceV4 d = some (f 16 4) ∧ icmp.take 2 = [8, 0] ∧ onesSum icmp = 65535 then
    let rest := icmp.drop 4
    let reply := [0, 0] ++ inetChecksum ([0, 0, 0, 0] ++ rest) ++ rest
    let head (sum : List Byte) : List Byte :=
      [0x45, 0] ++ natToBytes 2 (20 + reply.length) ++ natToBytes 2 (Config.freeWord free).toNat ++ [0, 0] ++
        [Config.serviceHops, 1] ++ sum ++ (p.drop 16).take 4 ++ (p.drop 12).take 4
    some (serviceFrame from_ 0x0800 (head (inetChecksum (head [0, 0])) ++ reply))
  else none

/-- An ICMPv6 packet from the port's address with its checksum over the pseudo-header. -/
def icmp6 (src dst : List Byte) (hops : Byte) (type : Nat) (body : List Byte) : List Byte :=
  let n := 4 + body.length
  let sum := inetChecksum (src ++ dst ++ natToBytes 4 n ++ [0, 0, 0, 58] ++ natToBytes 1 type ++ [0, 0, 0] ++ body)
  [0x60, 0, 0, 0] ++ natToBytes 2 n ++ [58, hops] ++ src ++ dst ++ natToBytes 1 type ++ [0] ++ sum ++ body

/-- The answer to an ICMPv6 echo request to the port's address, or to a neighbour solicitation for it. -/
def v6Answer (d : Dev) (from_ p : List Byte) : Option (List Byte) :=
  let f (a n : Nat) : Nat := bytesToNat ((p.drop a).take n)
  let src := (p.drop 8).take 16
  let dst := (p.drop 24).take 16
  let len := f 4 2
  let icmp := (p.drop 40).take len
  let sumOk := onesSum (src ++ dst ++ natToBytes 4 len ++ [0, 0, 0, 58] ++ icmp) = 65535
  if f 0 1 / 16 ≠ 6 ∨ p.length < 40 + len ∨ f 6 1 ≠ 58 ∨ ¬ sumOk then none
  else if 8 ≤ len ∧ icmp.take 2 = [128, 0] ∧ serviceV6 d = some (bytesToNat dst) then
    some (serviceFrame from_ 0x86DD (icmp6 dst src Config.serviceHops 129 (icmp.drop 4)))
  else if 24 ≤ len ∧ icmp.take 2 = [135, 0] ∧ f 7 1 = 255 ∧ serviceV6 d = some (bytesToNat ((icmp.drop 8).take 16)) then
    let target := (icmp.drop 8).take 16
    let unspecified := bytesToNat src = 0
    let toWho : List Byte := if unspecified then [0xFF, 0x02] ++ List.replicate 13 0 ++ [1] else src
    let mac : List Byte := if unspecified then [0x33, 0x33, 0, 0, 0, 1] else from_
    let flags : Byte := if unspecified then 0x20 else 0x60
    some (serviceFrame mac 0x86DD (icmp6 target toWho 255 136
      ([flags, 0, 0, 0] ++ target ++ [2, 1] ++ natToBytes 6 Config.serviceAddress.toNat)))
  else none

/-- The answer to a frame, if it has one (R606). -/
def serviceAnswer (d : Dev) (free : Nat) (bs : List Byte) : Option (List Byte) :=
  let toWho := bytesToNat (bs.take 6)
  let from_ := (bs.drop 6).take 6
  let p := bs.drop 14
  if toWho ≠ Config.serviceAddress.toNat ∧ toWho / 2 ^ 40 % 2 = 0 then none
  else
    match bytesToNat ((bs.drop 12).take 2) with
    | 0x0806 => arpAnswer d from_ p
    | 0x0800 => echoAnswer d free from_ p
    | 0x86DD => v6Answer d from_ p
    | _ => none

/-- SERVICE_PORT_FRAME, destination address first, without its FCS (R606). -/
def serviceOp (bs : List Byte) (d : Dev) : Dev :=
  if !waifelRuns d then d
  else
    let (i, d') := nextFree d
    match serviceAnswer d i bs with
    | some r => emit (.servicePort r) d'
    | none => count .wfDiscarded 0 d'

/-! ## Meanings -/

/-- HELLO (R610). -/
def execHello (m : WaifelMsg) (s : State) : Out := at_ m.t (helloOp m) s

/-- OPEN_SESSION (R610). -/
def execOpenSession (m : WaifelMsg) (s : State) : Out := at_ m.t (openOp m) s

/-- CLOSE (R611). -/
def execClose (m : WaifelMsg) (s : State) : Out := at_ m.t (inSession m 0x30 m.payload.isEmpty endSession) s

/-- SESSION_OPEN_TIMEOUT (R610): operand i names session i + 1. -/
def execSessionOpenTimeout (t : Time) (i : Fin 4) (s : State) : Out := at_ t (openTimeout (i.val + 1)) s

/-- SESSION_IDLE_TIMEOUT (R611): operand i names session i + 1. -/
def execSessionIdleTimeout (t : Time) (i : Fin 4) (s : State) : Out := at_ t (idleTimeout (i.val + 1)) s

/-- SERVICE_PORT_FRAME (R606). -/
def execServicePortFrame (t : Time) (bs : List Byte) (s : State) : Out := at_ t (serviceOp bs) s

/-- IMAGE_BEGIN (R612). -/
def execImageBegin (m : WaifelMsg) (s : State) : Out :=
  at_ m.t (inSession m 0x20 (m.payload.length == 8 && decide ((m.payload.getD 0 0).toNat ≤ 1)) (imageBegin m)) s

/-- IMAGE_BLOCK (R612). -/
def execImageBlock (m : WaifelMsg) (s : State) : Out :=
  at_ m.t (inSession m 0x21 (decide (5 ≤ m.payload.length) && decide (m.payload.length ≤ 1028)) (imageBlock m)) s

/-- IMAGE_END (R612). -/
def execImageEnd (m : WaifelMsg) (s : State) : Out := at_ m.t (inSession m 0x22 m.payload.isEmpty (imageEnd m)) s

/-- SET_SERVICE_KEY (R609, R622). -/
def execSetServiceKey (t : Time) (p : Path) (key : BitVec 256) (s : State) : Out :=
  at_ t (commandOn p true (fun d => (0, setServiceKey key d))) s

end Sys2Proof.Machine
end

