-- ==== Sys2Proof/Machine/CommitRules.lean ====
section
/-!
DEFINITION. Machine/CommitRules.lean: the checks that judge a commit as a whole, the commands that a commit carries out, and
the commit itself (R520, with the rules of R80, R97, R191, R253, R260, R271, R272, R331, R337, R342, R359, R381, R404, R410, R447,
R452).
-/

namespace Sys2Proof.Machine

/-! ## Rules across entries (R520) -/

/-- Line channels (R80): the home channel stays enabled while a terminal number is held, and some channel does. -/
def lineRule (d : Dev) (sub : Nat) : Nat :=
  let on := fun (n : Nat) => dictBool d 0x2102 (n + 1) true
  if ¬ on (sub - 1) ∧ ((numHeld d ∧ homeChan d = sub - 1) ∨ ¬ (List.range d.part.channels).any on) then 0x05 else 0

/-- A flow slot (R97). -/
def flowRule (d : Dev) (k : Nat) : Nat :=
  let id := fun (j : Nat) => flowField d j 1 0
  let others := (enabledFlows d).filter (· != k)
  if flowField d k 2 0 = 0 then 0
  else if others.any (fun j => id j == id k) || decide (0xFFF0 ≤ id k) ||
      ((flowField d k 3 1).testBit 1 && flowField d k 5 0 != 0) ||
      (flowField d k 7 0 == 1 && others.any (fun j => flowField d j 7 0 == 1)) then 0x05
  else 0

/-- An allocation-ID slot (R191). -/
def allocRule (d : Dev) (k : Nat) : Nat :=
  let trib := fun (j : Nat) => dictNat d (allocKey j 3).1 (allocKey j 3).2 0 == 1
  let others := (enabledAllocs d).filter (fun j => j != k && j != 0)
  if k = 0 ∨ ¬ allocEnabled d k then 0
  else if allocId d k < 0x200 ∨ 0x3FFE < allocId d k ∨ others.any (fun j => allocId d j == allocId d k) ∨
      (trib k ∧ others.any trib) then 0x05
  else 0

/-- A drop port (R253). -/
def portRule (d : Dev) (index sub : Nat) : Nat :=
  let v := fun s => entryAt d index s
  if (sub = 2 ∨ sub = 3) ∧ v 3 ≠ 0 ∧ v 2 ≠ 100 then 0x05
  else if (sub = 0xB ∨ sub = 0xC) ∧ v 0xB ≤ v 0xC then 0x05
  else 0

/-- Region of slot k in a pipeline as the entries give it (R292). -/
def regionEntry (d : Dev) (pipe k : Nat) : Nat × Nat :=
  (entryAt d (0x4008 + pipe) (2 * k + 1), entryAt d (0x4008 + pipe) (2 * k + 2))

/-- Two regions share a word. -/
def regionsMeet (a b : Nat × Nat) : Bool :=
  !regionEmpty a && !regionEmpty b && decide (a.1 ≤ b.2) && decide (b.1 ≤ a.2)

/-- A region written (R260, R271, R272): d is the state before, with the entries of the commit; claims are the slots that the
commit claims. -/
def regionRule (d : Dev) (p : Path) (claims : List Nat) (pipe k : Nat) : Nat :=
  let r := regionEntry d pipe k
  let claimed := fun (j : Nat) => claims.contains j && (genSlot d j).state == .free
  let mine := claimed k || ((genSlot d k).state == .loading && (genSlot d k).owner == some p)
  let meets := fun (ok : Nat → Bool) => (List.range 4).any (fun j => j != k && ok j && regionsMeet r (regionEntry d pipe j))
  let held := fun (j : Nat) =>
    claimed j || (genSlot d j).state == .current || (genSlot d j).state == .loading || (genSlot d j).state == .ready
  let leaving := fun (j : Nat) => (genSlot d j).state == .draining || (genSlot d j).state == .evicting
  if ¬ mine ∨ r.1 % 8 ≠ 0 ∨ (r.2 + 1) % 8 ≠ 0 ∨ 0xFFFFF < r.1 ∨ 0xFFFFF < r.2 ∨ meets held then 0x05
  else if meets leaving then 0x08
  else 0

/-- A scheduler node, by the model's number (R331): d before, d1 with the commit's entries, d' with the registers that will
stand; neither the entries nor the registers may break a limit. -/
def nodeRule (d d1 d' : Dev) (base n m : Nat) : Nat :=
  let v := fun k => entryAt d1 (base + m / 16) (16 * (m % 16) + k)
  let q := (node d' n).queues
  if !nodeOk n (v 1) (v 2) ∨ !nodeOk n (node d' n).strict q then 0x05
  else if q < (node d n).queues ∧ nodeHolds d n q then 0x08
  else 0

/-- A policer, by number (R337): PIR below CIR in the entries or in the registers that will stand. -/
def policerRule (d1 d' : Dev) (index sub n : Nat) : Nat :=
  let c := (policer d' n).cfg
  if entryAt d1 index (sub / 16 * 16 + 3) < entryAt d1 index (sub / 16 * 16 + 1) ∨ c.pir < c.cir then 0x05 else 0

/-- The reserves of all queues stay within A / 2 (R342). -/
def reserveRule (d' : Dev) : Nat := if admitCells d' < 2 * (reserves d').2 then 0x05 else 0

/-- A programme (R359, R381). -/
def programmeRule (d' : Dev) (m : Nat) : Nat :=
  if !progEnabled d' m then 0
  else
    let f := progField d' m 2 0
    let served := flowField d' f 2 0 != 0 && (flowField d' f 3 1).testBit 0 && flowField d' f 7 0 == 2
    let others := (enabledProgs d').filter (· != m)
    if !served || others.any (fun j => progField d' j 2 0 == f) ||
        decide (partSize d' 3 * 1024 < (enabledProgs d').foldl (fun a j => a + segSize d' j) 0) then 0x05
    else 0

/-- The configured partitions fit the current capacity (R447). -/
def sizeRule (d' : Dev) : Nat :=
  if d'.mc.capacity < (List.range 5).foldl (fun a p => a + configuredSize d' p) 0 then 0x05 else 0

/-- Guarantees and limits of the memory ports (R452). (DEDUCED, log entry 105) -/
def regulatorRule (d' : Dev) (sub : Nat) : Nat :=
  let j := (sub - 1) / 2
  let g := fun (j : Nat) => entryAt d' 0x9010 (2 * j + 1)
  if entryAt d' 0x9010 (2 * j + 2) < g j ∨ 16000 < (List.range 5).foldl (fun a j => a + g j) 0 then 0x05 else 0

/-- Highway mode and a tributary of kind 1.544 exclude each other (R404). -/
def highwayRule (d' : Dev) : Nat :=
  if entryAt d' 0x8000 1 = 1 ∧ (List.range 32).any (fun k => entryAt d' (0x8010 + k / 16) (16 * (k % 16) + 1) == 2) then 0x05
  else 0

/-- The address of a mapped regulator suits its bus (R572). -/
def railRule (d' : Dev) (index : Nat) : Nat :=
  let bus := entryAt d' index 1
  let a := entryAt d' index 2
  if (bus = 0 ∧ ¬ (0x08 ≤ a ∧ a ≤ 0x77)) ∨ (bus = 1 ∧ 15 < a) then 0x05 else 0

/-- The code of the rule that judges a written configuration entry with the commit as a whole; 0 where none is broken. d is
the state before, d1 with the commit's entries, d' with their registers written too. -/
def entryRule (p : Path) (claims : List Nat) (d d1 d' : Dev) (index sub : Nat) : Nat :=
  let m16 := fun (base : Nat) => (index - base) * 16 + sub / 16
  if index = 0x2102 then lineRule d1 sub
  else if index = 0x2300 ∧ sub = 2 then reserveRule d'
  else if index = 0x2200 ∧ sub = 1 then reserveRule d'
  else if 0x2400 ≤ index ∧ index < 0x2C00 then flowRule d1 (4 * (index - 0x2400) + sub / 16)
  else if 0x2C00 ≤ index ∧ index < 0x2C80 then allocRule d1 (4 * (index - 0x2C00) + sub / 16)
  else if index / 256 = 0x30 then portRule d1 index sub
  else if 0x4008 ≤ index ∧ index < 0x400C then regionRule d1 p claims (index - 0x4008) ((sub - 1) / 2)
  else if index = 0x4020 ∧ (sub = 4 ∨ sub = 5) then (if macValidCount d ≠ 0 then 0x08 else 0)
  else if 0x5010 ≤ index ∧ index < 0x5016 then
    (if sub % 16 ≤ 2 then nodeRule d d1 d' 0x5010 (m16 0x5010) (m16 0x5010) else 0)
  else if 0x5020 ≤ index ∧ index < 0x5040 then
    (if sub % 16 ≤ 2 then nodeRule d d1 d' 0x5020 (96 + m16 0x5020) (m16 0x5020) else 0)
  else if 0x5100 ≤ index ∧ index < 0x5280 ∧ sub % 16 = 3 then reserveRule d'
  else if 0x5400 ≤ index ∧ index < 0x5800 ∧ sub % 16 = 3 then reserveRule d'
  else if 0x5800 ≤ index ∧ index < 0x6000 ∧ (sub % 16 = 1 ∨ sub % 16 = 3) then
    policerRule d1 d' index sub (m16 0x5800)
  else if 0x7010 ≤ index ∧ index < 0x7015 then railRule d1 index
  else if index = 0x8000 ∧ sub = 1 then highwayRule d1
  else if (index = 0x8010 ∨ index = 0x8011) ∧ sub % 16 = 1 then highwayRule d1
  else if index = 0x9000 ∧ sub ≤ 3 then sizeRule d1
  else if index = 0x9010 then regulatorRule d1 sub
  else if 0x9400 ≤ index ∧ index < 0x9500 then programmeRule d1 (4 * (index - 0x9400) + sub / 16)
  else 0

/-! ## Commands in a commit (R497) -/

/-- The words of the window entry: 64 words of 6 bytes (R292). -/
def windowWords : Nat → List Byte → List Word
  | 0, _ => []
  | n + 1, bs => BitVec.ofNat 48 (bytesToNat (bs.take 6)) :: windowWords n (bs.drop 6)

/-- Window data written through the dictionary: 64 words from the window's address on, each written or refused by itself; the
address then lies 64 further (R273, R292). (DEDUCED, log entry 138) -/
def windowData (p : Path) (bs : List Byte) (d : Dev) : Dev :=
  let pipe := entryAt d 0x400C 1
  let a := entryAt d 0x400C 2
  let d := ((List.range 64).zip (windowWords 64 bs)).foldl (fun d x => (treeWrite p pipe ((a + x.1) % 2 ^ 20) x.2 d).2) d
  { d with dict := aput (aput d.dict (0x400C * 256 + 2) (natToBytes 4 ((a + 64) % 2 ^ 20))) (0x400C * 256 + 3) bs }

/-- A membership command of an entry (R371, R385). -/
def memberCmd (p : Path) (v : Nat) (d : Dev) : Dev :=
  let port := bitsOf v 22 16
  let m := bitsOf v 9 0
  match bitsOf v 31 30 with
  | 1 => joinCmd (.entry p) port m d
  | 2 => leaveCmd (.entry p) port m d
  | 3 => leaveAllCmd (.entry p) port d
  | _ => d

/-- The entry is one that acts: a command, or a configuration entry whose write does more than change a value. -/
def actsAtCommit (key : Nat) : Bool :=
  let index := key / 256
  let sub := key % 256
  index == 0x400C || (index == 0x4000 && sub == 1) || (decide (0x8020 ≤ index) && decide (index < 0x8028)) ||
    match entryDef index sub with
    | some e => e.kind == .command
    | none => false

/-- A written entry that acts, carried out: its code, 0 where it has its effect. -/
def actOn (p : Path) (key : Nat) (bs : List Byte) (d : Dev) : Nat × Dev :=
  let index := key / 256
  let sub := key % 256
  let v := bytesToNat bs
  if index = 0x400C then
    (0, if sub = 3 then windowData p bs d else { d with dict := aput d.dict key bs })
  else if index = 0x4000 then makeCurrent v d
  else if 0x4001 ≤ index ∧ index < 0x4005 then
    let k := index - 0x4001
    if v = 1 then slotClaim p k d
    else if v = 2 then slotSeal p k d
    else if v = 3 then slotAbandon p k d
    else slotEvict k d
  else if 0x8020 ≤ index ∧ index < 0x8028 then
    let n := (index - 0x8020) * 128 + (sub - 1)
    connWrite (decide (512 ≤ n)) (n % 512) (BitVec.ofNat 48 (v % 1024 + v / 32768 * 1024)) d
  else if index = 0x8000 then (if v = 1 then swapRequest d else swapAbort d)
  else if index = 0xA010 then cabEntry (v == 1) d
  else if index = 0xB000 then confirmCmd v d
  else if index = 0xB010 then (if v = 1 then (0, activationAsk d) else activationAbort d)
  else if index = 0xB100 then (0, setServiceKey (BitVec.ofNat 256 v) d)
  else if index = 0x7000 then askPower v (if v = 3 then entryAt d 0x7000 2 else 0) (.entry p) d
  else if index = 0x9301 then (0, memberCmd p v d)
  else if index = 0xC000 then (0, fsReleaseWrite (BitVec.ofNat 32 v) d)
  else if index = 0x1800 then (0, { d with dic := { d.dic with restore := true } })
  else if index = 0x1900 ∧ sub = 4 then restartCmd v d
  else (0, d)

/-- The acting entries of a commit in the order of their writes, up to the first that fails: its code and key, with the
device. -/
def actAll (p : Path) : List (Nat × List Byte) → Dev → Option (Nat × Nat) × Dev
  | [], d => (none, d)
  | (key, bs) :: l, d =>
    let (c, d') := actOn p key bs d
    if c = 0 then actAll p l d' else (some (c, key), d')

/-! ## Slot commands (R270 to R279) -/

/-- Current slot written by a command of its own: the dictionary store is owed the image of the new slot, as after every commit
(R278). -/
def commandCurrent (k : Nat) (d : Dev) : Nat × Dev :=
  let (c, d) := makeCurrent k d
  (c, if c = 0 then { d with dic := { d.dic with saveState := 1 } } else d)

/-- SLOT_CLAIM (R271). -/
def execSlotClaim (t : Time) (path : Path) (k : Fin 4) (s : State) : Out :=
  at_ t (commandOn path true (slotClaim path k)) s

/-- SLOT_SEAL (R274). -/
def execSlotSeal (t : Time) (path : Path) (k : Fin 4) (s : State) : Out :=
  at_ t (commandOn path true (slotSeal path k)) s

/-- SLOT_ABANDON (R271). -/
def execSlotAbandon (t : Time) (path : Path) (k : Fin 4) (s : State) : Out :=
  at_ t (commandOn path true (slotAbandon path k)) s

/-- SLOT_EVICT (R277). -/
def execSlotEvict (t : Time) (path : Path) (k : Fin 4) (s : State) : Out :=
  at_ t (commandOn path true (slotEvict k)) s

/-- MAKE_CURRENT (R275). -/
def execMakeCurrent (t : Time) (path : Path) (k : BitVec 8) (s : State) : Out :=
  at_ t (commandOn path true (commandCurrent k.toNat)) s

/-! ## The commit (R520) -/

/-- The entry is a configuration entry. -/
def isConfig (key : Nat) : Bool :=
  match entryDef (key / 256) (key % 256) with
  | some e => e.kind == .config
  | none => false

/-- A configuration entry was written by another commit since an opening generation (R520). -/
def writtenSince (d : Dev) (gen : Word) (key : Nat) : Bool :=
  isConfig key && decide (gen.toNat < (agetD d.dic.writers key 0).toNat)

/-- The cause of a protection switch that a commit of a path brings about (R78). -/
def pathCause (p : Path) : BitVec 2 := if p = .h then 2 else 3

/-- The configuration entries of a commit in force: the dictionary's values, then the registers (R79, R521). -/
def putEntries (cfg : List (Nat × List Byte)) (d : Dev) : Dev :=
  { d with dict := cfg.foldl (fun l e => aput l e.1 e.2) d.dict }

/-- Their registers. -/
def loadEntries (p : Path) (d0 : Dev) (cfg : List (Nat × List Byte)) (d : Dev) : Dev :=
  afterEntries d0 (cfg.map (·.1)) (loadKeys (pathCause p) (cfg.map (·.1)) d)

/-- A commit counted and owed to the store: the generation one higher, the last writer of every entry written (R520,
R522). -/
def noteCommit (keys : List Nat) (d : Dev) : Dev :=
  let gen := d.dic.gen + 1
  { d with dic := { d.dic with
    gen := gen, writers := keys.foldl (fun l k => aput l k gen) d.dic.writers, unsaved := d.dic.unsaved + 1,
    saveState := 1 } }

/-- What a command that fails in a commit leaves to be seen, though nothing of the commit is applied (R552, R598, R599). -/
def showFailed (p : Path) (key code : Nat) (bs : List Byte) (d : Dev) : Dev :=
  if key / 256 = 0xA010 then (if bytesToNat bs = 1 then cabRefusal d else d)
  else if key / 256 = 0x7000 then (if code = 0x09 then d else powerRefused (.entry p) code d)
  else
    let (c, d') := actOn p key bs d
    if c = code then d' else d

/-- A commit judged and applied: none with the device after it, or the code and first offending entry with nothing applied
(R518, R520). Where a command fails, what it shows of its failure stays. (DEDUCED, log entries 135, 136) -/
def commitTry (p : Path) (x : PathSt) (d : Dev) : Option (Nat × Nat) × Dev :=
  let keys := x.writes.map (·.1)
  match x.failed with
  | some f => (some f, d)
  | none =>
    match (x.reads ++ keys).find? (writtenSince d x.openGen) with
    | some k => (some (0x06, k), d)
    | none =>
      let cfg := x.writes.filter (fun e => !actsAtCommit e.1)
      let acts := x.writes.filter (fun e => actsAtCommit e.1)
      let claims := (acts.filter (fun e => decide (0x4001 ≤ e.1 / 256) && decide (e.1 / 256 < 0x4005) &&
        bytesToNat e.2 == 1)).map (fun e => e.1 / 256 - 0x4001)
      let d1 := putEntries cfg d
      let d2 := loadEntries p d cfg d1
      let broken := cfg.filterMap (fun e =>
        let c := entryRule p claims d d1 d2 (e.1 / 256) (e.1 % 256)
        if c = 0 then none else some (c, e.1))
      let (failed, d3) := actAll p acts d2
      let rules := broken.filter (fun f => f.1 != 0x08)
      let busy := broken.filter (fun f => f.1 == 0x08)
      let acted := fun (f : Nat × Nat) =>
        match acts.find? (fun e => e.1 == f.2) with
        | some e => (some f, showFailed p e.1 f.1 e.2 d)
        | none => (some f, d)
      match rules, failed, busy with
      | f :: _, _, _ => (some f, d)
      | [], some (c, k), b =>
        if c ≠ 0x08 then acted (c, k)
        else
          match b with
          | f :: _ => (some f, d)
          | [] => acted (c, k)
      | [], none, f :: _ => (some f, d)
      | [], none, [] => if 32768 ≤ d.dic.unsaved then (some (0x08, 0), d) else (none, noteCommit keys d3)

end Sys2Proof.Machine
end

