-- ==== Sys2Proof/Machine/Dictionary.lean ====
section
/-!
DEFINITION. Machine/Dictionary.lean: the requests of the three paths, the commit points, the saves, and the commands that
stand beside the dictionary's messages (R79, R213, R506 to R522).
-/

namespace Sys2Proof.Machine

/-! ## Requests as messages (R512, R514) -/

/-- A request as its bytes. -/
def requestBytes (op flags records : Nat) (id : BitVec 32) (secs ns : Nat) (body : List Byte) : List Byte :=
  dictMessage op flags records id 0 secs ns body

/-- Read request records. -/
def readBody (rs : List (BitVec 16 × BitVec 8)) : List Byte :=
  (rs.map (fun r => natToBytes 2 r.1.toNat ++ natToBytes 1 r.2.toNat ++ [0])).flatten

/-- Write request records. -/
def writeBody (rs : List WriteRec) : List Byte :=
  (rs.map (fun r => natToBytes 2 r.index.toNat ++ natToBytes 1 r.sub.toNat ++ natToBytes 1 r.ty.toNat ++
    natToBytes 2 r.value.length ++ [0, 0] ++ padValue r.value)).flatten

/-- A request discarded without a reply: a stale ID is counted on every path, any other on H and S (R510, R526). -/
def discardRequest (p : Path) (stale : Bool) (d : Dev) : Dev :=
  match p with
  | .l =>
    let d := if stale then count .dictStale 1 d else d
    raise fMB_EVENT_DISCARDED 0 (setFld fMB_STATUS_STATE 0 0 d)
  | p => count .dictStale (pathNo p) d

/-- The carrier's own acceptance: the management packet's check value on H, the Waifel message's on S (R507, R509, R611). -/
def carried (hd : DictHead) (bs : List Byte) (d : Dev) : Bool × Dev :=
  match hd.path with
  | .l => (true, count .dictReceived 1 d)
  | .h =>
    let d := count .dictReceived 0 d
    if (checkKey d 2).isSome ∧ pathCheck d bs ≠ hd.check.toNat then (false, count .dictCheckFail 0 d) else (true, d)
  | .s =>
    let failed := match session d hd.session.toNat with
      | some x => x.opened && wfCheck x.key (wfBody 0x10 hd.session.toNat hd.seq.toNat 0 bs) != hd.check.toNat
      | none => false
    let (ok, d) := wfAccept d.now hd.session.toNat 0x10 hd.seq.toNat 0 bs hd.check.toNat d
    (ok, if ok then count .dictReceived 2 d else if failed then count .dictCheckFail 2 d else d)

/-- An ID comes before another in half-range order (R510). -/
def idEarlier (a b : BitVec 32) : Bool := let n := (b - a).toNat; decide (0 < n) && decide (n < 2 ^ 31)

/-- A request acted on by its ID: repeated, stale, or new (R510); the first new one after an abandon is told of it (R515).
(DEDUCED, log entry 131) -/
def newRequest (p : Path) (op : Nat) (id : BitVec 32) (f : Dev → Dev) (d : Dev) : Dev :=
  let x := pathSt d p
  if x.lastId = some id then
    match x.reply with
    | some r => sendOn p x.carrier r (count .dictRepeated (pathNo p) d)
    | none => discardRequest p false d
  else if (match x.lastId with
      | some l => idEarlier id l
      | none => false) then discardRequest p true d
  else
    let d := modPath p (fun x => { x with lastId := some id, reply := none }) d
    if (pathSt d p).abandoned then answerOn p op 0x0D id (modPath p (fun x => { x with abandoned := false }) d)
    else f d

/-- A request of its path: what carries it, the length that the mailbox takes, a restart, its ID; it renews the path's idle time
(R33, R507, R510, R511, R515). -/
def requestOn (hd : DictHead) (op : Nat) (id : BitVec 32) (bs : List Byte) (f : Dev → Dev) (d : Dev) : Dev :=
  if !pdOn d 3 ∨ inRecovery d then d
  else if hd.path = .l ∧ (bs.length < 24 ∨ 8192 < bs.length) then setFld fMB_STATUS_STATE 0 3 d
  else
    let (ok, d) := carried hd bs d
    if !ok then d
    else
      let p := hd.path
      let d := modPath p (fun x => { x with carrier := (hd.session.toNat, hd.seq.toNat), lastAt := d.now }) d
      if d.sec.restarting then
        sendOn p (pathSt d p).carrier (replyMessage op 0x08 0 id d.dic.gen 0 0 []) d
      else newRequest p op id f d

/-- A well-formed request; one that is too long is answered 0x0B (R512, R525). (DEDUCED, log entry 177) -/
def request (hd : DictHead) (op : Nat) (bs : List Byte) (big : Bool) (f : Dev → Dev) (d : Dev) : Dev :=
  requestOn hd op hd.reqId bs
    (fun d => if big ∨ 8192 < bs.length then answerOn hd.path op 0x0B hd.reqId d else f d) d

/-! ## Read and Write (R516 to R518) -/

/-- The latest value that a transaction has written to an entry. -/
def ownWrite (x : PathSt) (key : Nat) : Option (List Byte) :=
  (x.writes.reverse.find? (fun e => e.1 == key)).map (·.2)

/-- One read: its reply record, and the entry read where it counts for conflicts (R516, R520). -/
def readOne (d : Dev) (p : Path) (x : PathSt) (index sub : Nat) : List Byte × List Nat :=
  let key := index * 256 + sub
  let (c, ty, v) := readEntry d p index sub
  let own := if x.phase != .none && x.single.isNone then ownWrite x key else none
  match own with
  | some bs => (readRecord index sub c (if c = 0 then ty else 0) (if c = 0 then bs else []), [])
  | none => (readRecord index sub c ty v, if x.phase == .open_ && c == 0 && isConfig key then [key] else [])

/-- Read (R516). (DEDUCED, log entry 130) -/
def readOp (p : Path) (id : BitVec 32) (rs : List (BitVec 16 × BitVec 8)) (d : Dev) : Dev :=
  let x := pathSt d p
  let out := rs.map (fun r => readOne d p x r.1.toNat r.2.toNat)
  let d := modPath p (fun x => { x with reads := (x.reads ++ (out.map (·.2)).flatten).eraseDups }) d
  replyOn p id (replyMessage 0x01 0 rs.length id d.dic.gen 0 0 (out.map (·.1)).flatten) d

/-- One write entered into a transaction (R518): the entries of the tree window are kept in their order, any other entry holds
its latest value. -/
def enterWrite (d : Dev) (p : Path) (x : PathSt) (r : WriteRec) : PathSt × (Nat × Nat) :=
  let key := r.index.toNat * 256 + r.sub.toNat
  let c := writeCheck d p r.index.toNat r.sub.toNat r.ty.toNat r.value
  let old := if r.index = 0x400C then none else x.writes.find? (fun e => e.1 == key)
  let bytes := x.bytes + r.value.length - (match old with
    | some e => e.2.length
    | none => 0)
  let c := if c = 0 ∧ ((old.isNone ∧ 4096 ≤ x.writes.length) ∨ 2 ^ 20 < bytes) then 0x0B else c
  if c ≠ 0 then ({ x with failed := some (x.failed.getD (c, key)) }, (key, c))
  else
    let ws := match old with
      | some _ => x.writes.map (fun e => if e.1 = key then (key, r.value) else e)
      | none => x.writes ++ [(key, r.value)]
    ({ x with writes := ws, bytes := bytes }, (key, 0))

/-- Write records entered in order: the path's state and their results. (DEDUCED, log entry 133) -/
def enterAll (d : Dev) (p : Path) : PathSt → List WriteRec → PathSt × List (Nat × Nat)
  | x, [] => (x, [])
  | x, r :: rs =>
    let (x, o) := enterWrite d p x r
    let (x, os) := enterAll d p x rs
    (x, o :: os)

/-- Write: into the open transaction, or a transaction of its own that commits at the next frame boundary (R517, R518).
(DEDUCED, log entry 132) -/
def writeOp (p : Path) (id : BitVec 32) (rs : List WriteRec) (d : Dev) : Dev :=
  let x := pathSt d p
  match x.phase with
  | .pending => answerOn p 0x02 0x08 id d
  | .open_ =>
    let (x, out) := enterAll d p x rs
    let first := ((out.map (·.2)).find? (· != 0)).getD 0
    replyOn p id (replyMessage 0x02 first rs.length id d.dic.gen 0 0 (out.map (fun o => writeRecord o.1 o.2)).flatten)
      (modPath p (fun _ => x) d)
  | .none =>
    let (x, out) := enterAll d p { noTxn x with openGen := d.dic.gen } rs
    modPath p (fun _ => { x with
      phase := .pending, due := some (.boundary d.now), commitId := id, commitCarrier := x.carrier, single := some out,
      reached := false, muted := false }) d

/-! ## Transactions (R515, R519) -/

/-- Open (R515). -/
def openTxn (p : Path) (id : BitVec 32) (d : Dev) : Dev :=
  if (pathSt d p).phase ≠ .none then answerOn p 0x03 0x08 id d
  else
    answerOn p 0x03 0x00 id
      (modPath p (fun x => { noTxn x with
        phase := .open_, openGen := d.dic.gen, reached := false, muted := false, commitId := 0 }) d)

/-- The code that refuses a Commit's time (R519). -/
def timeRefused (t : TimeVal) (d : Dev) : Nat :=
  let v := ltOf t.seconds.toNat t.ns.toNat
  let now := ltNow d
  if !d.lc.valid then 0x0C
  else if 999999999 < t.ns.toNat ∨ v < now + 1000000 * 65536 ∨ now + 86400 * 1000000000 * 65536 < v then 0x05
  else 0

/-- Commit (R515, R519). -/
def commitOp (p : Path) (id : BitVec 32) (scheduled : Option TimeVal) (d : Dev) : Dev :=
  let x := pathSt d p
  let accept := fun (due : CommitAt) (secs ns : Nat) =>
    replyOn p id (replyMessage 0x04 0 0 id d.dic.gen secs ns [])
      (modPath p (fun x => { x with
        phase := .pending, due := some due, commitId := id, commitCarrier := x.carrier, reached := false }) d)
  match x.phase with
  | .none => answerOn p 0x04 0x0A id d
  | .pending => answerOn p 0x04 0x08 id d
  | .open_ =>
    match scheduled with
    | none => accept (.boundary (d.now + 100 * Config.us)) 0 0
    | some t =>
      let c := timeRefused t d
      if c ≠ 0 then answerOn p 0x04 c id d
      else accept (.scheduled t.seconds t.ns.toNat) t.seconds.toNat t.ns.toNat

/-- Abort (R25, R515): a pending transaction's outcome is 0x00 with nothing applied, unless its commit point has come; a pending
Write of its own is answered 0x08. -/
def abortOp (p : Path) (id : BitVec 32) (d : Dev) : Dev :=
  let x := pathSt d p
  match x.phase with
  | .none => answerOn p 0x05 (if x.reached then 0x09 else 0x0A) id d
  | .open_ => answerOn p 0x05 0x00 id (modPath p noTxn (count .dictAborts (pathNo p) d))
  | .pending =>
    if pointReached d x then answerOn p 0x05 0x09 id d else cancelTxn p 0x08 (answerOn p 0x05 0x00 id (count .dictAborts (pathNo p) d))

/-- Query (R513, R514). -/
def queryOp (p : Path) (id : BitVec 32) (d : Dev) : Dev :=
  let x := pathSt d p
  let o := x.outcome
  let (body, gen) := match x.phase with
    | .open_ => (outcomeRecord 0 1 0 0, d.dic.gen)
    | .pending => (outcomeRecord x.commitId 2 0 0, d.dic.gen)
    | .none => (outcomeRecord o.reqId o.state o.result o.entry, if o.state = 3 then o.gen else d.dic.gen)
  replyOn p id (replyMessage 0x06 0 1 id gen 0 0 body) d

/-- A path's open transaction abandoned after the idle timeout (R515). -/
def txnIdle (p : Path) (d : Dev) : Dev :=
  let x := pathSt d p
  if secretaryRuns d ∧ x.phase = .open_ ∧ x.lastAt + entryAt d 0x1800 3 * Config.sec ≤ d.now then
    abandonTxn p (count .dictIdle (pathNo p) d)
  else d

/-! ## Commit points (R79, R520, R521) -/

/-- The lockout of a Protection Control message written into 0x2100.04 (R79, R522). -/
def lockoutCommit (d : Dev) : Dev :=
  match d.act.lockoutDue with
  | some b =>
    if secretaryRuns d ∧ d.dic.unsaved < 32768 then
      let key := 0x2100 * 256 + 4
      noteCommit [key] (protEval (setFld fPROT_CTRL_LOCKOUT 0 b.toNat { d with
        dict := aput d.dict key (natToBytes 1 b.toNat), act := { d.act with lockoutDue := none } }))
    else d
  | none => d

/-- A pending transaction's commit point has come; boundaries count where this is one. -/
def commitDue (d : Dev) (boundary : Bool) (x : PathSt) : Bool :=
  x.phase == .pending &&
    match x.due with
    | some (.boundary t) => boundary && decide (t ≤ d.now)
    | some (.scheduled s n) => decide (ltOf s.toNat n ≤ ltNow d)
    | none => false

/-- A pending transaction resolved at its commit point; a commanded restart of the Secretary follows its commit, and its
outcome waits for the end of it (R520, R545). -/
def resolveTxn (p : Path) (d : Dev) : Dev :=
  let x := pathSt d p
  let (r, d) := commitTry p x d
  let d := modPath p (fun y => { noTxn y with reached := true }) d
  match r with
  | some (c, key) =>
    let d := if c = 0x06 then count .dictConflicts (pathNo p) d
      else if c = 0x08 then count .dictBusy (pathNo p) d
      else d
    tellOutcome p x.commitId c key x.single d
  | none =>
    let d := count .dictCommits (pathNo p) d
    if x.writes.any (fun e => e.1 == 0x1900 * 256 + 5) then
      secretaryRestart 4 (modPath p (fun y => { y with owed := some 0, single := x.single }) d)
    else tellOutcome p x.commitId 0 0 x.single d

/-- COMMIT_POINT: the transactions of H, L and S that are due, in this order, up to the path's; at a frame boundary the
device's own commit goes ahead (R26, R79, R521). (DEDUCED, log entry 137) -/
def commitPoint (p : Path) (d : Dev) : Dev :=
  let x := pathSt d p
  let boundary := match x.due with
    | some (.boundary _) => true
    | _ => false
  if !secretaryRuns d ∨ !commitDue d boundary x then d
  else
    let d := if boundary then lockoutCommit d else d
    let upTo := match p with
      | .h => [Path.h]
      | .l => [Path.h, Path.l]
      | .s => [Path.h, Path.l, Path.s]
    upTo.foldl (fun d q => if secretaryRuns d && commitDue d boundary (pathSt d q) then resolveTxn q d else d) d

/-! ## Saves (R278, R522) -/

/-- The current generation's image as it is saved. -/
def savedGen (d : Dev) : SavedGen :=
  let k := currentSlot d
  { regions := (List.range d.part.pipes).map (fun p => region d p k),
    words := d.cls.tree.filter (fun e => (List.range d.part.pipes).any (fun p =>
      e.1 / 2 ^ 20 == p && inRegion d p k (e.1 % 2 ^ 20))) }

/-- DICTIONARY_SAVE: the persistent entries, the generation and the current image as one record; a failed one leaves the
record before in force and is logged (R278, R522). (DEDUCED, log entry 139) -/
def dictSave (ok : Bool) (d : Dev) : Dev :=
  if !secretaryRuns d ∨ d.dic.saveState ≠ 1 then d
  else if !ok then logEvent .saveFailed 0 (count .savesFailed 0 { d with dic := { d.dic with saveState := 2 } })
  else
    let image := if entryAt d 0x4000 3 = 1 then some (savedGen d) else d.dic.store.image
    count .savesMade 0 { d with
      dic := { d.dic with
        saveState := 0, unsaved := 0,
        store := { values := d.dict.filter (fun e => storedKey e.1), gen := d.dic.gen, format := d.dic.store.format,
                   image := image } },
      img := { d.img with savedUnder := true } }

/-! ## Malformed requests (R511, R512) -/

/-- MALFORMED_REQUEST: on L without bytes the request was unreadable; any other is a request of its ID, answered 0x05, or 0x0B where
it is too long. -/
def malformed (hd : DictHead) (bytes : Option (List Byte)) (d : Dev) : Dev :=
  match bytes with
  | none => if hd.path = .l ∧ pdOn d 3 then setFld fMB_STATUS_STATE 0 3 d else d
  | some bs =>
    let op := (bs.getD 1 0).toNat
    let id := BitVec.ofNat 32 (if 8 ≤ bs.length then bytesToNat ((bs.drop 4).take 4) else 0)
    requestOn hd op id bs (answerOn hd.path op (if 8192 < bs.length then 0x0B else 0x05) id) d

/-! ## Meanings -/

/-- A request's row. -/
def onRequest (hd : DictHead) (op flags records secs ns : Nat) (body : List Byte) (f : Dev → Dev) (s : State) : Out :=
  at_ hd.t (request hd op (requestBytes op flags records hd.reqId secs ns body) (decide (255 < records)) f) s

/-- READ (R516). -/
def execRead (hd : DictHead) (rs : List (BitVec 16 × BitVec 8)) (s : State) : Out :=
  onRequest hd 0x01 0 rs.length 0 0 (readBody rs) (readOp hd.path hd.reqId rs) s

/-- WRITE (R517, R518). -/
def execWrite (hd : DictHead) (rs : List WriteRec) (s : State) : Out :=
  onRequest hd 0x02 0 rs.length 0 0 (writeBody rs) (writeOp hd.path hd.reqId rs) s

/-- OPEN (R515). -/
def execOpen (hd : DictHead) (s : State) : Out := onRequest hd 0x03 0 0 0 0 [] (openTxn hd.path hd.reqId) s

/-- COMMIT (R519). -/
def execCommit (hd : DictHead) (t : Option TimeVal) (s : State) : Out :=
  onRequest hd 0x04 t.isSome.toNat 0 (t.map (·.seconds.toNat) |>.getD 0) (t.map (·.ns.toNat) |>.getD 0) []
    (commitOp hd.path hd.reqId t) s

/-- ABORT (R515). -/
def execAbort (hd : DictHead) (s : State) : Out := onRequest hd 0x05 0 0 0 0 [] (abortOp hd.path hd.reqId) s

/-- QUERY (R513). -/
def execQuery (hd : DictHead) (s : State) : Out := onRequest hd 0x06 0 0 0 0 [] (queryOp hd.path hd.reqId) s

/-- COMMIT_POINT (R520). -/
def execCommitPoint (t : Time) (p : Path) (s : State) : Out := at_ t (fsDrive (commitPoint p)) s

/-- TRANSACTION_IDLE_TIMEOUT (R515). -/
def execTransactionIdleTimeout (t : Time) (p : Path) (s : State) : Out := at_ t (txnIdle p) s

/-- DICTIONARY_SAVE (R522). -/
def execDictionarySave (t : Time) (ok : Bool) (s : State) : Out := at_ t (dictSave ok) s

/-- RESTORE_DEFAULTS (R506). -/
def execRestoreDefaults (t : Time) (p : Path) (v : BitVec 16) (s : State) : Out :=
  at_ t (commandOn p false (fun d =>
    if v = 0x0DEF then (0, { d with dic := { d.dic with restore := true } }) else (0x05, d))) s

/-- MALFORMED_REQUEST (R512). -/
def execMalformedRequest (hd : DictHead) (bytes : Option (List Byte)) (s : State) : Out := at_ hd.t (malformed hd bytes) s

/-- RELEASE_COMMAND (R213). (DEDUCED, log entry 141) -/
def execReleaseCommand (t : Time) (p : Path) (nonce : BitVec 32) (s : State) : Out :=
  at_ t (fsDrive (commandOn p false (fun d => (0, fsReleaseWrite nonce d)))) s

/-- LOCKOUT_DEVICE_COMMIT (R79). -/
def execLockoutDeviceCommit (t : Time) (s : State) : Out := at_ t lockoutCommit s

end Sys2Proof.Machine
end

