-- ==== Sys2Proof/Machine/Boot.lean ====
section
/-!
DEFINITION. Machine/Boot.lean: PORST_N, WARM_N, the boot sequence and the line start release (R204 to R214, R576, R605, R625
to R634).
-/

namespace Sys2Proof.Machine

/-! ## What a reset leaves (R130, R576, R630, R631) -/

/-- Channels with nothing but the level of LCn_RXLOS. -/
def chansOff (d : Dev) : List (Nat × Chan) :=
  d.chans.filterMap (fun e => if e.2.rxlos then some (e.1, { rxlos := true }) else none)

/-- What the engine that joins the tree keeps: the stop record of the Chest and the levels of its pins. -/
def actOff (d : Dev) : ActSt := { stopRecord := d.act.stopRecord, pfailLow := d.act.pfailLow, battLow := d.act.battLow }

/-- The Chest's part of the images; the trial timer starts again except at a WARM_N (R619, R631). -/
def imgOff (timer : Bool) (d : Dev) : ImgSt :=
  { d.img with
    request := none, next := none, reqState := 0, reqCode := 0, trialAt := if timer then d.now else d.img.trialAt,
    restored := false, savedUnder := false, sessions := [] }

/-- The Chest's part of the dictionary. -/
def dicOff (d : Dev) : DictSt := { store := d.dic.store, pre := d.dic.pre, restore := d.dic.restore }

/-- Pins driven as PORST_N leaves them (R635, R636). -/
def porstPins (d : Dev) : Dev :=
  let d := if d.prot.sel then emit (.protSel false) d else d
  let d := if d.pwr.fault then emit (.faultN true) d else d
  let d := if d.lc.pps then emit (.pps false) d else d
  if 3 ≤ d.pwr.state ∨ d.pwr.isolated then emit (.oscEn true) d else d

/-- PORST_N low: every burst is cut and every domain in reset; the Chest, and with it the rank records, stands (R451, R600, R630). -/
def porstReset (d0 : Dev) : Dev :=
  let d := porstPins (forceAllLow d0)
  let trip := reg d .thTrip 0
  { part := d.part, now := d.now, freeCtr := d.freeCtr, emitted := d.emitted, porstLow := true,
    chans := chansOff d, prot := { chestPath := d.prot.chestPath }, act := actOff d,
    lc := { at_ := d.now, alwaysOnAt := d.now }, mc := d.mc, sec := { log := d.sec.log },
    pwr := { wakeHigh := d.pwr.wakeHigh }, trib := { saved := d.trib.saved }, dic := dicOff d, img := imgOff true d,
    boot := { lastTrip := d.boot.lastTrip, tripOwed := if trip = 0 then d.boot.tripOwed else trip } }

/-- Registers of PD0, and of PD1 where it keeps its state (R631). -/
def keptReg (fs : Bool) (o : Nat) : Bool :=
  let isPw : Bool := o / 0x100000 == regOffset .pwWake 0 / 0x100000
  let isFs : Bool := o / 0x100000 == regOffset .fsEvent 0 / 0x100000
  isPw || o == regOffset .thTrip 0 || (fs && isFs)

/-- Every burst is cut, and every domain but PD0 in reset, PD1 too at a wake from Off (R130, R550, R576, R631).
(DESIGN CHOICE, log entry 208) -/
def lowReset (off : Bool) (d0 : Dev) : Dev :=
  let d := forceAllLow d0
  let d := if off then d else ltStop d
  let d := if d.prot.sel then emit (.protSel false) d else d
  let rail := fld d fGL_BOOT_RAIL0_BOOT 0
  let fs := { fsForget d.fs with startup := true, tested := [], selfTestOk := false, release := false, consent := false }
  let x : Dev :=
    { part := d.part, now := d.now, freeCtr := d.freeCtr, emitted := d.emitted, porstLow := false,
      regs := d.regs.filter (fun e => keptReg (!off) e.1), cnt := { values := d.cnt.values },
      mon := { avs := d.mon.avs, avsTarget := d.mon.avsTarget, avsAt := d.mon.avsAt },
      chans := chansOff d, prot := { chestPath := d.prot.chestPath }, act := actOff d,
      fs := if off then {} else fs, lc := ltReset d.lc, mc := d.mc, sec := { log := d.sec.log },
      pwr := { d.pwr with
        state := 0, change := none, next := if off then d.pwr.next else none, resL := 0, resS := 0, wake := none, stopping := [],
        cold := [], lower := [], tries := 0, home := 0, lossOfLine := false, holdDue := none, lineTimer := none, edge := none,
        enteredByLoss := false, heldMgmt := [], sleepReports := [], sleepAges := [] },
      trib := { saved := d.trib.saved }, dic := dicOff d, img := imgOff off d,
      boot := { lastTrip := d.boot.lastTrip, tripOwed := d.boot.tripOwed } }
  let x := if off then { x with cnt := {} } else zeroCounters (fun n => n != 0 && n != 1) x
  setFld fGL_BOOT_RAIL0_BOOT 0 rail ((List.range 3).foldl (fun x i => setReg .pwDom i 0 x) (setReg .pwDom3 0 0 x))

/-! ## Step 1 (R194, R214, R632) -/

/-- The Firescreen as it comes out of its own reset: it reads the stop record and its serial number (R194, R209, R214). -/
def fsBoot (b : BootInputs) (d : Dev) : Dev :=
  let f := fsFromChest d {}
  if !b.fsClk then { d with fs := { f with undriven := true, failCause := 9 } }
  else if b.serialCrcOk then { d with fs := f }
  else
    let (i, d) := nextFree { d with fs := f }
    failDark ((Config.freeWord i).toNat % 9 + 1) d

/-! ## Step 2 (R605, R620) -/

/-- The start counts toward a trial; the third goes back to the previous image (R620). -/
def countStart (d : Dev) : Dev :=
  if !d.img.ptr.trial then d
  else
    let n := d.img.ptr.starts + 1
    if 3 ≤ n then rollbackPtr 2 d else writePtr d.img.ptr.active d.img.ptr.previous true n d

/-! ## Steps 3 to 5 (R221, R278, R411, R506, R523, R594, R627) -/

/-- Persistent entries at their defaults, but for operator storage, the stop record and the rank states (R506).
(DEDUCED, log entry 140) -/
def restoreDefaults (d : Dev) : Dev :=
  if !d.dic.restore then d
  else
    let s := d.dic.store
    { d with
      dic := { d.dic with restore := false, store := { s with values := s.values.filter (fun e => keptAtDefaults (e.1 / 256)) } },
      prot := { d.prot with chestPath := false }, trib := { d.trib with saved := [] },
      img := { d.img with rollbackCause := 0, rollbacks := 0 }, boot := { d.boot with lastTrip := 0 } }

/-- The thermal trip that ended the run before goes into the event log (R594). (DEDUCED, log entry 155) -/
def logTrip (d : Dev) : Dev :=
  let w := d.boot.tripOwed
  if w = 0 then d
  else logEvent .thermalTrip (bitsOf w.toNat 47 44) { d with boot := { d.boot with lastTrip := w, tripOwed := 0 } }

/-- The store read: persistent entries, generation, event log (R506, R523, R618). An image does not read a store of a higher
version than its own. (DEDUCED, log entry 154) -/
def readStore (d : Dev) : Dev :=
  let d := logTrip (restoreDefaults (migrateStore d))
  let s := d.dic.store
  let values := if s.format ≤ (imgSlot d d.img.ptr.active).format then s.values else []
  countFails { d with
    dict := withStored values [], dic := { d.dic with gen := s.gen + 65536 }, img := { d.img with restored := true } }

/-- An entry loaded at a start; the path and highway settings are there from the beginning, and change nothing (R76,
R411). (DEDUCED, log entry 156) -/
def bootLoad (d : Dev) (key : Nat) : Dev :=
  let index := key / 256
  let sub := key % 256
  if index = 0x2100 ∨ index = 0x8000 then
    match entryDef index sub with
    | some e => e.dest.foldl (fun d f => setFld f 0 (entryAt d index sub) d) d
    | none => d
  else loadOrDefer 3 index sub d

/-- Entries whose registers are loaded whatever they hold: those of domains that the start does not reset, and those whose
default differs from the register's reset value (R80, R440, R442). -/
def alwaysLoaded (p : Part) : List Nat :=
  (List.range p.channels).map (fun n => 0x2102 * 256 + n + 1) ++ (List.range 11).map (fun n => 0x7002 * 256 + n + 1) ++
    [0xC000 * 256 + 1] ++ (List.range p.ports).map (fun n => (0x6100 + n) * 256 + 2)

/-- Optic limits from their entries (R220, R221). -/
def opticLimits (d : Dev) (n : Nat) : OpticLimits :=
  let v := fun s => entryAt d (0xC010 + n) s
  { address := BitVec.ofNat 8 (v 1), biasReg := BitVec.ofNat 16 (v 2), powerReg := BitVec.ofNat 16 (v 3),
    biasLimit := BitVec.ofNat 16 (v 4), darkBiasLimit := BitVec.ofNat 16 (v 5), powerLimit := BitVec.ofNat 16 (v 6) }

/-- The limits loaded and locked, unless they are locked already (R205, R221). -/
def lockLimits (d : Dev) : Dev :=
  if d.fs.locked then d
  else
    let ls := (presentChans d).map (fun n => (n, opticLimits d n))
    { d with fs := { d.fs with limits := ls, locked := true } }

/-- The saved generation in G0, with rule-generation number 1 (R278). -/
def loadG0 (d : Dev) : Dev :=
  match d.dic.store.image with
  | none => d
  | some g =>
    if entryAt d 0x4000 3 = 0 then d
    else
      let put := fun (d : Dev) (x : Nat × (Nat × Nat)) =>
        let d := setFld fCL_REGION_LIMIT_LIMIT (4 * x.1) x.2.2 (setFld fCL_REGION_BASE_BASE (4 * x.1) x.2.1 d)
        { d with dict := aput (aput d.dict ((0x4008 + x.1) * 256 + 1) (natToBytes 4 x.2.1))
                              ((0x4008 + x.1) * 256 + 2) (natToBytes 4 x.2.2) }
      let d := ((List.range d.part.pipes).zip g.regions).foldl put d
      { d with cls := { d.cls with tree := g.words, lastGen := 1, g0 := { d.cls.g0 with state := .current, gen := 1 } } }

/-- Rail 0 at its AVS target once the regulator map names it (R627). -/
def bootAvs (reached : Bool) (d : Dev) : Dev :=
  if reached ∧ railMapped d 0 then
    let t := avsGoal d
    setFld fGL_BOOT_RAIL0_BOOT 0 0 { d with mon := { d.mon with avs := t, avsTarget := t, avsAt := some d.now } }
  else d

/-- Step 5: every unit's registers, the limits, G0, the connection memory; then every domain of the profile runs (R632). -/
def bootUnits (d : Dev) : Dev :=
  let d := (loadOrder ((alwaysLoaded d.part ++ d.dict.map (·.1)).eraseDups)).foldl bootLoad d
  let d := loadG0 (lockLimits d)
  let d := { d with trib := { d.trib with active := d.trib.saved, standby := d.trib.saved } }
  protStart (applyDomains (domState d 0 d.pwr.lifeline) d)

/-- The image that a boot runs: the third start of a trial goes back to the previous image, which the boot ROM then checks as it
did the other (R604, R605, R620). -/
def bootImage (slotsOk : List Bool) (d : Dev) : Option Dev :=
  (chooseImage slotsOk d).bind (fun d1 =>
    let d2 := countStart d1
    if d2.img.rollbacks = d1.img.rollbacks then some d2 else chooseImage slotsOk d2)

/-- Recovery: every present line channel enabled, no dictionary, no release (R605, R632, R634). -/
def recovery (d : Dev) : Dev :=
  let d := (presentChans d).foldl (fun d n => setFld fLC_CTRL_ENABLE n 1 d) (setFld fGL_BOOT_RECOVERY 0 1 d)
  applyDomains (domState d 0 d.pwr.lifeline) d

/-- Boot steps 2 to 5, once the clocks run (R632). (DEDUCED, log entry 151) -/
def bootSteps (b : BootInputs) (d : Dev) : Dev :=
  let warm := fld d fGL_BOOT_CAUSE 0 == 1
  let d := ltResume ((List.range 4).foldl (fun d n => setPd n 1 d) (setFld fGL_BOOT_STEP 0 2 d))
  let d := { d with boot := { d.boot with waiting := false } }
  match bootImage b.slotsOk (bootPtr b.ptrOk d) with
  | none => recovery (bootPtr b.ptrOk d)
  | some d =>
    let d := bootAvs b.rail0AtTarget (readStore d)
    let d := memStart warm b.stackOk (setFld fGL_BOOT_STEP 0 4 d)
    offerWindow (setFld fGL_BOOT_STEP 0 5 (bootUnits d))

/-- A start from step 1, with its cause (R632, R634, R649). -/
def bootStart (cause : Nat) (b : BootInputs) (d : Dev) : Dev :=
  let d := setFld fGL_BOOT_STEP 0 1 (setFld fGL_BOOT_CAUSE 0 cause d)
  let d := { d with boot := { d.boot with from_ := d.now } }
  let d := if cause = 1 then raise fFS_EVENT_HOLD_CHANGE 0 d else fsBoot b d
  if b.oscRdy then bootSteps b d else { d with boot := { d.boot with waiting := true } }

/-! ## The rows -/

/-- PORST_N falls (R630). -/
def porstAssert (t : Time) (d : Dev) : Dev := if d.porstLow then d else porstReset (tick t d)

/-- PORST_N rises: power-good (R630, R632). -/
def powerGood (b : BootInputs) (d : Dev) : Dev :=
  let d := { d with porstLow := false, now := max d.now b.t }
  let d := { d with lc := { d.lc with at_ := d.now, alwaysOnAt := d.now }, img := { d.img with trialAt := d.now } }
  bootStart 0 b d

/-- WARM_N has been low for 10 µs and rises: ignored in the lower states and in a thermal shutdown (R631). -/
def warmTaken (d : Dev) : Bool := !d.porstLow && decide (d.pwr.state ≤ 1) && !d.pwr.shutdown && d.pwr.wake.isNone

/-- A warm reset (R631). (DEDUCED, log entry 153) -/
def warmReset (b : BootInputs) (d : Dev) : Dev := bootStart 1 b (lowReset false d)

/-- The boot after a wake from Off (R567, R632). -/
def offWake (b : BootInputs) (w : PwWake) (d : Dev) : Dev :=
  let d := setFault false (setProfilePw w.lifeline true (lowReset true d))
  startNext (restoreTimer (raise fPW_EVENT_WAKE 0 (bootStart 2 { b with oscRdy := true } d)))

/-- OSC_RDY rises: a boot waits for it in step 1, or a wake does (R567, R632, R634). -/
def oscRdy (b : BootInputs) (d : Dev) : Dev :=
  if d.pwr.shutdown then d
  else if d.boot.waiting then bootSteps b (setFault false d)
  else
    match d.pwr.wake with
    | some w => if w.oscDue.isNone then d else if w.from_ = 4 then offWake b w d else wakeDone w d
    | none => d

/-- The row starts the memory anew: a boot passes step 4. -/
def bootClears (d d' : Dev) : Bool := fld d fGL_BOOT_STEP 0 != 5 && fld d' fGL_BOOT_STEP 0 == 5

/-- Line start release (R632, R633). -/
def lineStart (d : Dev) : Dev :=
  if fld d fGL_BOOT_STEP 0 ≠ 5 ∨ d.sec.restarting then d
  else
    let ms := min 65535 ((d.now - d.boot.from_) / Config.ms)
    let d := setFld fGL_BOOT_STEP 0 6 (setFld fGL_BOOT_RELEASED 0 1 (setFld fGL_BOOT_RELEASE_MS 0 ms d))
    holdTimer (pwResume (actOnUp { d with act := { d.act with lineRelease := true } }))

/-- The kill outputs leave their start-up assertion (R633). -/
def killRelease (d : Dev) : Dev :=
  if d.fs.selfTestOk ∧ d.fs.locked then { d with fs := { d.fs with killsHeld := false } } else d

/-! ## Meanings -/

/-- PORST_ASSERT (R630). -/
def execPorstAssert (t : Time) (s : State) : Out := .next { s with dev := fsDrive (porstAssert t) s.dev }

/-- POWER_GOOD (R630, R632): with the memory's contents lost. -/
def execPowerGood (b : BootInputs) (s : State) : Out :=
  .next (if s.dev.porstLow then clearedMemory { s with dev := fsDrive (powerGood b) s.dev } else s)

/-- WARM_RESET (R631). -/
def execWarmReset (b : BootInputs) (s : State) : Out :=
  .next (if warmTaken s.dev then clearedMemory { s with dev := fsDrive (fun d => warmReset b (tick b.t d)) s.dev } else s)

/-- OSC_RDY (R567, R634): the memory's contents are lost where a boot goes on. -/
def execOscRdy (b : BootInputs) (s : State) : Out :=
  onWhole (fun s =>
    let d := fsDrive (fun d => oscRdy b (tick b.t d)) s.dev
    if bootClears s.dev d then clearedMemory { s with dev := d } else { s with dev := d }) s

/-- LINE_START_RELEASE (R633). -/
def execLineStartRelease (t : Time) (s : State) : Out := at_ t (fsDrive lineStart) s

/-- KILL_RELEASE (R633). -/
def execKillRelease (t : Time) (s : State) : Out := at_ t (fsDrive killRelease) s

end Sys2Proof.Machine
end

