-- ==== Sys2Proof/Machine/Clusters.lean ====
section
/-!
DEFINITION. Machine/Clusters.lean: the loading of a service cluster from the active image (R529 to R531, R603).
-/

namespace Sys2Proof.Machine

/-- Bytes held of an image slot; none where the image was delivered with the part. -/
def imageBytes (d : Dev) (s : Nat) : List Byte := ((imgSlot d s).blocks.map (·.2)).flatten

/-- The service-core section of an image (R603). -/
def serviceSection (img : List Byte) : List Byte := (img.drop (imf img 32 4)).take (imf img 36 4)

/-- The section's digest is the header's; true of an image delivered with the part (R529, R603).
(DESIGN CHOICE, log entry 190) -/
def sectionOk (img : List Byte) : Bool := img.isEmpty || sha384 (serviceSection img) == (img.drop 40).take 48

/-- Byte address in memory of a line of a cluster's area (R529). -/
def areaLine (d : Dev) (c i : Nat) : Nat := resolve d (partBase d 1 * 2 ^ 30 + c * 2 ^ 24 + 64 * i)

/-- The section copied into the cluster's 16 MiB, 64 bytes a line (R529). -/
def copySection (c : Nat) (sec : List Byte) (s : State) : State :=
  let sec := sec.take (2 ^ 24)
  { s with mem := (List.range (ceilDiv sec.length 64)).foldl (fun m i =>
    m.writeAll (areaLine s.dev c i) ((sec.drop (64 * i)).take 64)) s.mem }

/-- What the copy's checks make of a cluster: it is released, or stays in reset; the lines of its area are written anew (R529 to
R531). -/
def clusterLoad (c : Nat) (digestOk secondOk : Bool) (d : Dev) : Dev :=
  let d := { d with mc := { d.mc with poison := d.mc.poison.filter (fun l => areaCluster d l != some c) } }
  if (digestOk || secondOk) && sectionOk (imageBytes d d.img.ptr.active) then modCluster c (fun x => { x with state := .running }) d
  else raise fBN_EVENT_CLUSTER_FAIL 0 (count .clusterLoadFails c (modCluster c (fun x => { x with state := .failed }) d))

/-- A cluster held in reset, whose domain and the Secretary run, is loaded (R529, R530). -/
def clusterStart (c : Nat) (digestOk secondOk : Bool) (s : State) : State :=
  let d := s.dev
  if (cluster d c).state ≠ .loading ∨ d.sec.restarting ∨ !pdOn d (4 + c) then s
  else
    let s := copySection c (serviceSection (imageBytes d d.img.ptr.active)) s
    { s with dev := clusterLoad c digestOk secondOk s.dev }

/-! ## Meanings -/

/-- CLUSTER_LOAD (R529). -/
def execClusterLoad (t : Time) (c : Fin 4) (digestOk secondOk : Bool) (s : State) : Out :=
  onWhole (fun s => clusterStart c digestOk secondOk (inDev (tick t) s)) s

end Sys2Proof.Machine
end

