-- ==== Sys2Proof/Machine/Forwarding.lean ====
section
/-!
DEFINITION. Machine/Forwarding.lean: table descriptors, the learn merge and filters, ageing and the table scrubber (R308 to
R323): the meanings of their commands.
-/

namespace Sys2Proof.Machine

/-! ## Descriptors (R308 to R312) -/

/-- COUNT of a descriptor. -/
def dscCount (x : Descriptor) : Nat := bitsOf x.w0.toNat 31 24

/-- Word i of a descriptor's buffer. -/
def dscBuf (x : Descriptor) (i : Nat) : Nat := (x.buf.getD i 0).toNat

/-- A descriptor may execute: ring 0 only while its head differs from its tail (R324). -/
def dscReady (d : Dev) (x : Descriptor) : Bool := x.ring1 || fld d fFW_RING_HEAD_HEAD 0 != fld d fFW_RING_TAIL_TAIL 0

/-- OP of a descriptor (R309). -/
def dscOp (x : Descriptor) : Nat := bitsOf x.w0.toNat 47 40

/-- Host byte address of the descriptor at a ring's head (R308, R309, R324); ring 1's from its base, which is not in BAR0. -/
def dscAt (d : Dev) (x : Descriptor) : Nat :=
  if x.ring1 then 32 * d.fwd.ring1Head else 64 * fld d fFW_RING_BASE_BASE 0 + 32 * fld d fFW_RING_HEAD_HEAD 0

/-- A finished descriptor: its status, then the ring's head (R312). -/
def dscDone (x : Descriptor) (status addr : Nat) (buf : List Nat) (d : Dev) : Dev :=
  let d := emit (.descriptor x.ring1 (dscAt d x) status (BitVec.ofNat 48 addr) x.w3 (8 * x.w2.toNat)
    (buf.map (BitVec.ofNat 48))) d
  let d := count .fwDescriptors 0 (raiseIf (status == 4 || status == 5) fFW_EVENT_DESC_ERR 0 d)
  if x.ring1 then { d with fwd := { d.fwd with ring1Head := d.fwd.ring1Head + 1 } }
  else
    let log := fld d fFW_RING_SIZE_LOG2 0
    setFld fFW_RING_HEAD_HEAD 0 ((fld d fFW_RING_HEAD_HEAD 0 + 1) % 2 ^ log) d

/-- A descriptor of the OP given run: nothing on an empty ring; the words this execution finds in error are marked first.
(DEDUCED, log entry 80) -/
def runDsc (op : Bool) (trie : Bool) (x : Descriptor) (f : Dev → Dev) (d : Dev) : Dev :=
  let word := fun (a : Nat) => if trie then 2 ^ 22 + a % 2 ^ 21 else a % 2 ^ 22
  if op && dscReady d x then f (meetErrors ⟨x.bad.map word, x.soft.map word⟩ d) else d

/-- The key in a descriptor's buffer: its way, after the reads of both buckets (R310). -/
def dscFind (x : Descriptor) (d : Dev) : Option Nat × Dev := macLookup (bitsOf (dscBuf x 1) 42 31) (dscBuf x 0) d

/-- The four words of the entry in a descriptor's buffer. -/
def dscEntry (x : Descriptor) : List Nat := (List.range 4).map (dscBuf x)

/-- MAC_INSERT (R310): the way of the key, or the first free way of H0, then of H1. -/
def macInsert (x : Descriptor) (d : Dev) : Dev :=
  match dscFind x d with
  | (some loc, d) => dscDone x 1 loc [] (setMacEntry loc (dscEntry x) d)
  | (none, d) =>
    let k := macKey (bitsOf (dscBuf x 1) 42 31) (dscBuf x 0)
    let ways := (List.range 8).map (fun w => hash0 d k * 8 + w) ++ (List.range 8).map (fun w => hash1 d k * 8 + w)
    match ways.find? (fun loc => !macValid (macEntry d loc)) with
    | some loc => dscDone x 1 loc [] (setMacEntry loc (dscEntry x) d)
    | none => dscDone x 3 x.w1.toNat [] d

/-- MAC_DELETE (R310). -/
def macDelete (x : Descriptor) (d : Dev) : Dev :=
  match dscFind x d with
  | (some loc, d) => dscDone x 1 loc [] (setMacEntry loc (withBit1 (macEntry d loc) 47 false) d)
  | (none, d) => dscDone x 2 x.w1.toNat [] d

/-- MAC_FIND (R310). -/
def macFindOp (x : Descriptor) (d : Dev) : Dev :=
  match dscFind x d with
  | (some loc, d) => dscDone x 1 loc (macEntry d loc) d
  | (none, d) => dscDone x 2 x.w1.toNat [] d

/-- MAC_LOCK (R310, R311): LOCK set and the entry read in one cycle. -/
def macLockOp (x : Descriptor) (d : Dev) : Dev :=
  match dscFind x d with
  | (some loc, d) =>
    let d := setMacEntry loc (withBit1 (macEntry d loc) 46 true) d
    dscDone x 1 loc (macEntry d loc) d
  | (none, d) => dscDone x 2 x.w1.toNat [] d

/-- MAC_WRITE (R310): the buffer's entry at ADDR. -/
def macWriteOp (x : Descriptor) (d : Dev) : Dev :=
  let a := x.w1.toNat
  if a < 2 ^ 20 then dscDone x 1 a [] (setMacEntry a (dscEntry x) d) else dscDone x 4 a [] d

/-- MAC_READ (R310, R312, R322): ways of one bucket; an uncorrectable word reads zero and its entry is invalidated. -/
def macReadOp (x : Descriptor) (d : Dev) : Dev :=
  let a := x.w1.toNat
  let n := dscCount x
  if a < 2 ^ 20 ∧ 1 ≤ n ∧ n ≤ 8 ∧ a / 8 = (a + n - 1) / 8 then
    let words := (List.range (4 * n)).map (4 * a + ·)
    let hit := words.filter (fun w => d.fwd.bad.contains w)
    let buf := words.map (fun w => if d.fwd.bad.contains w then 0 else macWord d w)
    dscDone x (if hit.isEmpty then 1 else 6) a buf (hit.foldl (fun d w => macUe w d) (softReads words.contains d))
  else dscDone x 4 a [] d

/-- TRIE_WRITE (R310): words of one aligned group of eight. -/
def trieWriteOp (x : Descriptor) (d : Dev) : Dev :=
  let a := x.w1.toNat
  let n := dscCount x
  if a < 2 ^ 21 ∧ 1 ≤ n ∧ n ≤ 8 ∧ a / 8 = (a + n - 1) / 8 then
    dscDone x 1 a [] ((List.range n).foldl (fun d i => setTrieWord (a + i) (dscBuf x i) d) d)
  else dscDone x 4 a [] d

/-- TRIE_READ (R310, R312, R322): an uncorrectable word reads zero and is poisoned. -/
def trieReadOp (x : Descriptor) (d : Dev) : Dev :=
  let a := x.w1.toNat
  let n := dscCount x
  if 1 ≤ n ∧ n ≤ 255 ∧ a + n ≤ 2 ^ 21 then
    let words := (List.range n).map (a + ·)
    let hit := words.filter (fun w => d.fwd.bad.contains (2 ^ 22 + w))
    let buf := words.map (fun w => if d.fwd.bad.contains (2 ^ 22 + w) then 0 else trieWord d w)
    dscDone x (if hit.isEmpty then 1 else 6) a buf
      (hit.foldl (fun d w => trieUe w d) (softReads (fun w => words.any (fun y => 2 ^ 22 + y == w)) d))
  else dscDone x 4 a [] d

/-! ## Learning (R316, R318) -/

/-- One notification is ahead of another in the merge: earlier, or of the lower pipeline at equal times (R318). -/
def learnBefore (a b : LearnItem) : Bool :=
  a.at_ < b.at_ || (a.at_ == b.at_ && (a.pipe < b.pipe || (a.pipe == b.pipe && a.order < b.order)))

/-- The notification at the head of the merge. -/
def mergeHead : List LearnItem → Option LearnItem
  | [] => none
  | a :: l =>
    match mergeHead l with
    | none => some a
    | some b => if learnBefore b a then some b else some a

/-- The head may leave the merge: every other pipeline has offered a later item, or nothing for 2 µs (R318).
(DEDUCED, log entry 78) -/
def mergeReady (d : Dev) (i : LearnItem) : Bool :=
  decide (i.at_ + 2 * Config.us ≤ d.now) ||
    (List.range d.part.pipes).all (fun p => p == i.pipe || decide (i.at_ < agetD d.fwd.offers p 0))

/-- The merge releases the items that are due, in order, at most n of them (R318). -/
def mergeRelease : Nat → Dev → Dev
  | 0, d => d
  | n + 1, d =>
    match mergeHead d.fwd.merge with
    | none => d
    | some i =>
      if mergeReady d i then
        mergeRelease n (learnPost i { d with fwd := { d.fwd with merge := d.fwd.merge.erase i } })
      else d

/-- Learn filter entries past LF_HOLD leave the filter (R316). -/
def filterExpiry (pipe : Nat) (d : Dev) : Dev :=
  { d with fwd := { d.fwd with filters := aputD d.fwd.filters pipe (liveFilter d pipe) [] } }

/-! ## Ageing (R320, R321) -/

/-- The sweep's position one way further; SWEEP_DONE at the end of a period (R320, R324). -/
def sweepOn (d : Dev) : Dev :=
  let next := (d.fwd.sweep + 1) % 2 ^ 20
  raiseIf (next == 0) fFW_EVENT_SWEEP_DONE 0 { d with fwd := { d.fwd with sweep := next } }

/-- The sweep's visit of a way (R313, R320). (DEDUCED, log entry 79) -/
def ageingVisit (d : Dev) : Dev :=
  if fld d fFW_CTRL_AGE_EN 0 = 0 then d
  else
    let loc := d.fwd.sweep
    let d := (d.fwd.bad.filter (fun a => a / 4 == loc)).foldl (fun d a => macUe a d) (softReads (fun a => a / 4 == loc) d)
    let e := macEntry d loc
    let seen := d.fwd.lockedSeen
    if macValid e && macLock e then
      let d := raiseIf (seen.contains loc) fFW_EVENT_LOCK_HELD 0 d
      sweepOn { d with fwd := { d.fwd with lockedSeen := if seen.contains loc then seen else loc :: seen } }
    else
      let d := { d with fwd := { d.fwd with lockedSeen := seen.filter (· != loc) } }
      if macValid e && !macStatic e then
        if macHit e then sweepOn (setMacEntry loc (withBit1 (withBit1 e 45 false) 43 false) d)
        else if !macAge1 e then sweepOn (setMacEntry loc (withBit1 e 43 true) d)
        else
          let d := count .agedEntries 0 (setMacEntry loc (withBit1 e 47 false) d)
          let i : LearnItem := ⟨2, macPort e / 24 % 4, macPort e, macDomain e, e.getD 0 0, d.now, ltNow d, 0, loc, d.fwd.made⟩
          sweepOn (learnPost i { d with fwd := { d.fwd with made := d.fwd.made + 1 } })
      else sweepOn d

/-- One word read by a table scrubber; a word it corrects is rewritten (R322). -/
def tableScrub (table : FwdTable) (a : Nat) (e : EccResult) (d : Dev) : Dev :=
  let word := match table with
    | .mac => a
    | .trie => 2 ^ 22 + a % 2 ^ 21
  match e with
  | .good => d
  | .corrected => count .tableCe 0 { d with fwd := { d.fwd with soft := d.fwd.soft.filter (· != word) } }
  | .uncorrectable =>
    match table with
    | .mac => macUe a d
    | .trie => trieUe (a % 2 ^ 21) d

/-! ## Meanings -/

/-- MAC_INSERT (R310). -/
def execMacInsert (x : Descriptor) (s : State) : Out := atCore x.t (runDsc (dscOp x == 1) false x (macInsert x)) s

/-- MAC_DELETE (R310). -/
def execMacDelete (x : Descriptor) (s : State) : Out := atCore x.t (runDsc (dscOp x == 2) false x (macDelete x)) s

/-- MAC_FIND (R310). -/
def execMacFind (x : Descriptor) (s : State) : Out := atCore x.t (runDsc (dscOp x == 3) false x (macFindOp x)) s

/-- MAC_LOCK (R310, R311). -/
def execMacLock (x : Descriptor) (s : State) : Out := atCore x.t (runDsc (dscOp x == 4) false x (macLockOp x)) s

/-- MAC_WRITE (R310). -/
def execMacWrite (x : Descriptor) (s : State) : Out := atCore x.t (runDsc (dscOp x == 5) false x (macWriteOp x)) s

/-- MAC_READ (R310). -/
def execMacRead (x : Descriptor) (s : State) : Out := atCore x.t (runDsc (dscOp x == 6) false x (macReadOp x)) s

/-- TRIE_WRITE (R310). -/
def execTrieWrite (x : Descriptor) (s : State) : Out := atCore x.t (runDsc (dscOp x == 7) true x (trieWriteOp x)) s

/-- TRIE_READ (R310). -/
def execTrieRead (x : Descriptor) (s : State) : Out := atCore x.t (runDsc (dscOp x == 8) true x (trieReadOp x)) s

/-- UNKNOWN_OP (R312). -/
def execUnknownOp (x : Descriptor) (s : State) : Out := 
  atCore x.t (runDsc (dscOp x == 0 || decide (8 < dscOp x)) false x (dscDone x 5 x.w1.toNat [])) s

/-- LEARN_MERGE_RELEASE (R318). -/
def execLearnMergeRelease (t : Time) (s : State) : Out := at_ t (fun d => mergeRelease d.fwd.merge.length d) s

/-- LEARN_FILTER_EXPIRY (R316). -/
def execLearnFilterExpiry (t : Time) (pipe : Fin 4) (s : State) : Out := at_ t (filterExpiry pipe) s

/-- AGEING_VISIT (R320). -/
def execAgeingVisit (t : Time) (s : State) : Out := atCore t ageingVisit s

/-- TABLE_SCRUB (R322). -/
def execTableScrub (t : Time) (table : FwdTable) (a : BitVec 22) (e : EccResult) (s : State) : Out :=
  atCore t (tableScrub table a.toNat e) s

end Sys2Proof.Machine
end

