-- ==== Sys2Proof/Machine/HostSpace.lean ====
section
/-!
DEFINITION. Machine/HostSpace.lean: accesses to BAR2, BAR4 and the configuration space (R468, R469, R476, R479, R490, R492, R494,
R544).
-/

namespace Sys2Proof.Machine

/-! ## BAR2: drawer and doorbell pages (R490, R492, R544) -/

/-- DRW_STATUS (R490). -/
def drwStatusWord (d : Dev) (n : Nat) : Nat :=
  let w := drawer d n
  drawerDepth n * 2 ^ 16 + w.flushes.toNat * 2 ^ 8 + (decide (drawerDepth n ≤ w.items.length)).toNat * 2 ^ 7 + w.items.length

/-- A read of BAR2 answered. -/
def bar2Reply (o : Nat) (v : Word) (d : Dev) : Dev := emit (.barRead (bar2 o) v) d

/-- An access at a byte of a drawer's page (R6, R486, R490). -/
def drawerPage (n o : Nat) (a : BarAccess) (d : Dev) : Dev :=
  let there := drawerPresent d n
  if a.write then
    if o = 0x28 then drawerLevel n a.value d
    else if o = 0x30 then drawerFlush n a.value d
    else if o = 0x38 then doorbell n ⟨a.value.setWidth 16, []⟩ (ringIdleExit n d)
    else d
  else if o < 0x20 then drawerRead n (o / 8) d
  else
    let v := if !there then 0 else if o = 0x20 then drwStatusWord d n else if o = 0x28 then (drawer d n).level
      else if o = 0x38 then (ring d n).hostIx.toNat else if o = 0x40 then (ring d n).devIx.toNat else 0
    bar2Reply a.offset (BitVec.ofNat 48 v) d

/-- What a slot of a packet ring's or the Bench's doorbell page holds: a ring's index from the host or the device's own (R479, R492,
R544). -/
def doorbellSlot (page o : Nat) : Option (Nat × Bool) :=
  if 128 ≤ page ∧ page < 144 then
    let r := page - 128
    if o = 0 then some (220 + r, true) else if o = 8 then some (200 + r, true)
    else if o = 0x10 then some (220 + r, false) else if o = 0x18 then some (200 + r, false) else none
  else if 160 ≤ page ∧ page < 176 then
    if o = 0 then some (240 + (page - 160), true) else if o = 8 then some (240 + (page - 160), false) else none
  else if page = 192 then
    if o = 0 then some (260, true) else if o = 8 then some (260, false)
    else if o = 0x10 then some (261, true) else if o = 0x18 then some (261, false) else none
  else none

/-- An access to BAR2; what no page names, and what is not 8 aligned bytes, reads zero and ignores writes (R492).
(DEDUCED, log entries 19, 185) -/
def bar2Access (a : BarAccess) (d : Dev) : Dev :=
  let page := a.offset / 0x1000
  let o := a.offset % 0x1000
  if !hostPort d then d
  else if a.size ≠ 8 ∨ a.offset % 8 ≠ 0 then (if a.write then d else bar2Reply a.offset 0 d)
  else if page < 104 then drawerPage page o a d
  else
    match doorbellSlot page o with
    | some (n, host) =>
      if a.write then (if host then doorbell n ⟨a.value.setWidth 16, []⟩ (ringIdleExit n d) else d)
      else bar2Reply a.offset (BitVec.ofNat 48 (if host then (ring d n).hostIx else (ring d n).devIx).toNat) d
    | none => if a.write then d else bar2Reply a.offset 0 d

/-! ## BAR4: MSI-X table and pending bits (R469, R494) -/

/-- An entry of the MSI-X table. -/
def vectorEntry (d : Dev) (v : Nat) : VectorEntry := agetD d.host.vectors v {}

/-- An entry of the MSI-X table set. -/
def setVector (v : Nat) (e : VectorEntry) (d : Dev) : Dev :=
  { d with host := { d.host with vectors := aputD d.host.vectors v e {} } }

/-- The 32-bit word at a multiple of 4 in BAR4: address, data and mask of a vector, or 32 pending bits. -/
def bar4Word (d : Dev) (o : Nat) : BitVec 32 :=
  let e := vectorEntry d (o / 16)
  if o < 0x8000 then
    match o % 16 / 4 with
    | 0 => e.addr.setWidth 32
    | 1 => (e.addr >>> 32).setWidth 32
    | 2 => e.data
    | _ => if o / 16 ∈ d.host.unmasked then 0 else 1
  else if o < 0x8100 then
    BitVec.ofNat 32 ((List.range 32).foldl (fun a i =>
      a + (d.host.heldVectors.contains ((o - 0x8000) * 8 + i)).toNat * 2 ^ i) 0)
  else 0

/-- A 32-bit word written in BAR4; the pending bits are read-only. -/
def bar4Store (o : Nat) (w : BitVec 32) (d : Dev) : Dev :=
  let v := o / 16
  let e := vectorEntry d v
  if 0x8000 ≤ o then d
  else
    match o % 16 / 4 with
    | 0 => setVector v { e with addr := e.addr &&& 0xFFFFFFFF00000000 ||| w.setWidth 64 } d
    | 1 => setVector v { e with addr := e.addr &&& 0xFFFFFFFF ||| w.setWidth 64 <<< 32 } d
    | 2 => setVector v { e with data := w } d
    | _ => if w.getLsbD 0 then mask v d else unmask v d

/-- An access to BAR4: 4 or 8 aligned bytes; any other reads zero and is ignored. (PRESUMED, log entry 186) -/
def bar4Access (a : WideAccess) (d : Dev) : Dev :=
  if !hostPort d then d
  else
    let good := (a.size == 4 || a.size == 8) && a.offset % a.size == 0
    if a.write then
      if !good then d
      else
        let d := bar4Store a.offset (a.value.setWidth 32) d
        if a.size = 8 then bar4Store (a.offset + 4) ((a.value >>> 32).setWidth 32) d else d
    else
      let lo := (bar4Word d a.offset).toNat
      let hi := if a.size = 8 then (bar4Word d (a.offset + 4)).toNat else 0
      emit (.hostRead (some a.offset) (if good then BitVec.ofNat 64 (hi * 2 ^ 32 + lo) else 0)) d

/-! ## Configuration space (R468, R469, R476) -/

/-- Bytes of a BAR (R469). -/
def barBytes (bar : Nat) : Nat := if bar = 0 then 2 ^ 25 else if bar = 1 then 2 ^ 22 else 2 ^ 16

/-- What a register of the configuration space reads. (PRESUMED, log entry 184) -/
def cfgWord (d : Dev) : CfgReg → BitVec 64
  | .identity => BitVec.ofNat 64 (d.part.device * 2 ^ 16 + Config.pciVendor.toNat)
  | .classCode => BitVec.ofNat 64 (0x028000 * 2 ^ 8 + Config.stepping.toNat)
  | .base n => agetD d.host.cfg.bases n.val 0 ||| 4
  | .power => if d.host.cfg.d3hot then 3 else 0
  | .errors => d.host.cfg.errors.setWidth 64
  | .range1 =>
    if memOffered d then BitVec.ofNat 64 (d.mc.sizes.getD 4 0 * 2 ^ 30 + (memActive d).toNat * 2 + 1) else 0
  | .hdmBase => d.host.cfg.hdmBase
  | .hdmSize => d.host.cfg.hdmSize

/-- A write of a register of the configuration space; a recorded error clears where it is written 1, and the HDM decoder stands in
CXL mode only. -/
def cfgStore (r : CfgReg) (v : BitVec 64) (c : CfgSpace) (cxl : Bool) : CfgSpace :=
  match r with
  | .base n => { c with bases := aputD c.bases n.val (BitVec.ofNat 64 (v.toNat / barBytes n.val * barBytes n.val)) 0 }
  | .power => if v.toNat % 4 = 0 then { c with d3hot := false } else if v.toNat % 4 = 3 then { c with d3hot := true } else c
  | .errors => { c with errors := c.errors &&& ~~~(v.setWidth 32) }
  | .hdmBase => if cxl then { c with hdmBase := v } else c
  | .hdmSize => if cxl then { c with hdmSize := v } else c
  | .identity | .classCode | .range1 => c

/-- An access to the configuration space. -/
def cfgAccess (write : Bool) (r : CfgReg) (v : BitVec 64) (d : Dev) : Dev :=
  if !hostPort d then d
  else if write then { d with host := { d.host with cfg := cfgStore r v d.host.cfg d.host.link.cxl } }
  else emit (.hostRead none (cfgWord d r)) d

end Sys2Proof.Machine
end

