-- ==== Sys2Proof/Machine/RegRead.lean ====
section
/-!
DEFINITION. Machine/RegRead.lean: what a register of BAR0 reads as: the bits it stores, and the status that its unit holds
(R6, R12 to R15, R473 and the register's own row).
-/

namespace Sys2Proof.Machine

/-! ## Registers of absent units (R6, R412, R493) -/

/-- Instance i of a register belongs to a unit that the part has. -/
def regPresent (d : Dev) (r : Reg) (i : Nat) : Bool :=
  let laneThere : Bool := if i < 96 then decide (i < d.part.ports) else chanPresent d ((i - 96) / 2)
  match r with
  | .lcCtrl | .lcStatus | .lcEvent | .lcSkew | .lcFrame | .lcSd | .lcLane | .lcTrain => chanPresent d i
  | .dpCtrl | .dpMac | .dpFrame | .dpFc | .dpStatus | .dpEvent | .dpTrain | .ltPtp => decide (i < d.part.ports)
  | .lntCtrl | .lntInject | .lntStatus | .lntBits | .lntErrors | .lntSymerr | .lntLockloss => laneThere
  | .clRegionBase | .clRegionLimit => pipePresent d (i / 4)
  | .clFragCtrl | .clFragStatus => pipePresent d i
  | .sbCtrl | .sbRepair | .sbMac | .sbCmd | .sbCmdStatus | .sbStatus | .sbEvent | .sbProgSel | .sbProgData0 | .sbProgData1
  | .sbProgData2 => d.part.hasSideboard
  | .trCtrl | .trEvent | .tsiSel | .tsiData | .tsiCmd | .tsiStatus | .tbCfg | .tbStatus | .tbEvent => d.part.hasTributaries
  | .drwCtrl | .dringBase | .dringCfg | .dringWb | .dringTailLine => drawerPresent d i
  | .thHb => i == 4 || decide (i < d.part.stacks)
  | _ => true

/-! ## Status words -/

/-- The sum of bits that hold, given with their places. -/
def flags (bs : List (Nat × Bool)) : Nat := bs.foldl (fun a b => a + b.2.toNat * 2 ^ b.1) 0

/-- Code of a lane's alignment state (R77). -/
def alignCode : LaneAlign → Nat
  | .hunt => 0
  | .presync => 1
  | .sync => 2
  | .los => 3

/-- LC_STATUS (R77). -/
def lcStatusWord (d : Dev) (n : Nat) : Nat :=
  let c := chan d n
  flags [(11, c.up), (10, c.ais), (9, c.rdi), (8, c.sd), (7, c.skewDefect),
    (6, c.laneA.al.mismatch || c.laneB.al.mismatch), (5, numHeld d && homeChan d == n)] +
    alignCode c.laneB.al.align * 4 + alignCode c.laneA.al.align

/-- PROT_STATUS (R78). -/
def protStatusWord (d : Dev) : Nat :=
  let st := match d.prot.state with
    | .normal => 0
    | .holdoff => 1
    | .settle => 2
    | .resync => 3
    | .alternating => 4
  st * 8 + d.prot.cause.toNat * 2 + d.prot.sel.toNat

/-- FS_STATUS (R219). -/
def fsStatusWord (d : Dev) : Nat :=
  let f := d.fs
  flags [(29, f.failDark), (28, allKillOn d && !d.porstLow), (27, f.selfTestOk), (26, f.consent), (25, f.release), (24, f.stopped),
    (23, f.thermal), (22, f.image), (21, f.power), (20, f.protection), (19, f.startup), (9, f.number.isSome),
    (8, f.eqdP.isSome), (7, f.eqdW.isSome), (0, d.prot.sel)] + f.number.getD 0 * 2 ^ 10 + fsState d * 2 ^ 5

/-- DP_STATUS (R250). -/
def dpStatusWord (d : Dev) (n : Nat) : Nat :=
  let l := serial d n
  let locked := l.st == 5 || l.st == 6
  (List.range 8).foldl (fun a p => a + (pausedQueue d n (8 * p)).toNat * 2 ^ (9 + p)) 0 +
    flags [(8, l.noHcd), (7, l.precodeTx), (6, l.precodeRx), (5, locked && fecUsed d n), (4, locked), (3, linkUp d n)] +
    l.st

/-- LC_LANE (R251). -/
def lcLaneWord (d : Dev) (n : Nat) : Nat :=
  let st := fun (k : Nat) => (serial d k).st
  st (txKey n true) * 2 ^ 11 + st (txKey n false) * 2 ^ 8 + st (rxKey n true) * 2 ^ 5 + st (rxKey n false) * 4

/-- SB_STATUS (R383). -/
def sbStatusWord (d : Dev) : Nat :=
  let used := ((enabledProgs d).filter (fun m => !(prog d m).lost)).foldl (fun a m => a + segSize d m) 0
  d.sb.contexts.length * 2 ^ 32 + used * 2 ^ 16 + partSize d 3 * 1024

/-- SB_PROG_DATA2 (R384). -/
def sbProgWord (d : Dev) (m : Nat) : Nat :=
  let p := prog d m
  flags [(25, progIdle d m), (24, (latestRecall d m).isSome)] + min (p.rate / 1000000) (2 ^ 24 - 1)

/-- Frequency source of Longcase: the home channel while it is up, else the lowest up channel (R419). -/
def freqSource (d : Dev) : Option Nat :=
  if numHeld d && chanUp d (homeChan d) then some (homeChan d)
  else (List.range d.part.channels).find? (chanUp d)

/-- LT_STATUS (R440). -/
def ltStatusWord (d : Dev) : Nat :=
  (freqSource d).getD 0 * 8 + (freqSource d).isNone.toNat * 4 + servoCode d.lc.servo

/-- MC_STATUS (R464). -/
def mcStatusWord (d : Dev) : Nat :=
  d.mc.grain * 2 ^ 24 + d.mc.capacity * 2 ^ 16 + sparesFree d * 2 ^ 13 +
    flags [(12, d.mc.migration.isSome), (11, !d.mc.waiting.isEmpty)]

/-- Rank states as MC_RANK0 and MC_RANK1 show them: n ranks from rank k on, 4 bits each (R464). -/
def rankWord (d : Dev) (k n : Nat) : Nat :=
  (List.range n).foldl (fun a i => a + (rankState d (k + i)).code * 16 ^ i) 0

/-- MC_MIG (R464). -/
def mcMigWord (d : Dev) : Nat :=
  match d.mc.migration with
  | none => 0
  | some m =>
    flags [(31, stacksOn d m.spare.isSome), (30, m.spare.isNone)] + (m.rank / 4) * 2 ^ 27 + (m.rank % 4) * 2 ^ 25 +
      m.spare.getD 0 * 2 ^ 23 + m.done

/-- GL_LINK (R475). -/
def glLinkWord (d : Dev) : Nat :=
  let l := d.host.link
  flags [(9, memActive d), (8, l.cxl)] + l.width * 8 + l.speed

/-- BN_CORE (R544). -/
def bnCoreWord (d : Dev) (k : Nat) : Nat :=
  let c := core d k
  c.lastType * 2 ^ 40 + c.lastContext * 2 ^ 24 + c.busy.getD 0 * 2 ^ 12 + c.busy.isSome.toNat * 2 ^ 11

/-- PW_STATUS (R571). -/
def pwStatusWord (d : Dev) : Nat :=
  let pend := match d.pwr.change with
    | none => 0
    | some c => if beforeP c then 1 else if d.pwr.next.isSome then 3 else 2
  flags [(11, d.pwr.fault), (10, onBattery d), (9, consented d 5), (8, consented d 4), (7, lineLost d),
    (3, d.pwr.lifeline)] + pend * 16 + d.pwr.state

/-- CAB_STATUS (R598). -/
def cabStatusWord (d : Dev) : Nat := d.cab.result.toNat * 4 + cabCode d.cab.phase

/-- MD_STATUS.MD_VALID: lane A of the home channel is in Sync and not in AIS (R412). -/
def mdValid (d : Dev) : Bool :=
  let c := chan d (homeChan d)
  numHeld d && c.laneA.al.align == .sync && !c.ais

/-- CL_RCNT: the hit counter that CL_RCNT_SEL selects (R289). -/
def ruleCount (d : Dev) : Nat :=
  let f := fun (hi lo : Nat) => fld d ⟨.clRcntSel, hi, lo⟩ 0
  (agetD d.cls.hits ((f 19 18 * 4 + f 17 16) * 2 ^ 16 + f 15 0) 0).toNat

/-- The status that a register shows; none for a register that holds what it reads as. (DEDUCED, log entry 17) -/
def statusWord (d : Dev) (r : Reg) (i : Nat) : Option Nat :=
  match r with
  | .lcStatus => some (lcStatusWord d i)
  | .lcSkew => some ((chan d i).bLate.toNat * 128 + min (chan d i).skew 127)
  | .protStatus => some (protStatusWord d)
  | .bondStatus => some (ceilDiv (poolUsed d) 1024)
  | .actSerial => some (Config.serialUnique.toNat)
  | .fsStatus => some (fsStatusWord d)
  | .fsStage => some ((presentChans d).foldl (fun a n => a + (fsChan d n).stage * 4 ^ n) 0)
  | .fsHeld => some ((List.range 16).foldl (fun a n => a + (fsHeld d n).toNat * 2 ^ n) 0)
  | .fsTrip => some (d.fs.cause * 2 ^ 32 + d.fs.nonce.toNat)
  | .fsEqdW => some (d.fs.eqdW.getD 0)
  | .fsEqdP => some (d.fs.eqdP.getD 0)
  | .fsCfg => some (d.fs.locked.toNat * 2 ^ 16 + d.fs.refuseLimit * 2 ^ 12 + d.fs.guard)
  | .dpStatus => some (dpStatusWord d i)
  | .lcLane => some (lcLaneWord d i)
  | .clSlotState => some (ownerCode (genSlot d i).owner * 64 + slotStateCode (genSlot d i).state)
  | .clSlotGen => some ((genSlot d i).gen.toNat)
  | .clSlotDrain => some ((genSlot d i).drain)
  | .clSlotBadword => some ((genSlot d i).badPipe * 2 ^ 20 + (genSlot d i).badAddr)
  | .clRcnt => some (ruleCount d)
  | .clFragStatus => some ((holdBuffer d i).length * 2 ^ 15 + (liveFrags d i).length)
  | .fwStatus => some (macValidCount d)
  | .tmBuf => some (freeCells d * 2 ^ 19 + admitCells d)
  | .wdStatus => some (wdPages d * 2 ^ 21 + (wdUsed d).length)
  | .wdBlocks => some (raUsed d)
  | .sbCmdStatus => some (d.sb.resReg.toNat)
  | .sbStatus => some (sbStatusWord d)
  | .sbProgData0 => some ((prog d (fld d ⟨.sbProgSel, 9, 0⟩ 0)).live % 2 ^ 48)
  | .sbProgData1 => some ((prog d (fld d ⟨.sbProgSel, 9, 0⟩ 0)).live / 2 ^ 48)
  | .sbProgData2 => some (sbProgWord d (fld d ⟨.sbProgSel, 9, 0⟩ 0))
  | .mdStatus => some (mdValid d).toNat
  | .ltStatus => some (ltStatusWord d)
  | .ltNowSec => some (d.lc.latchSec.toNat)
  | .ltNowNs32 => some (d.lc.latchNs32.toNat)
  | .ltSteps => some (d.lc.latchSteps.toNat)
  | .ltOffset => some ((BitVec.ofInt 48 d.lc.offset).toNat)
  | .ltTrim => some ((BitVec.ofInt 48 d.lc.trim).toNat)
  | .mcStatus => some (mcStatusWord d)
  | .mcRank0 => some (rankWord d 0 12)
  | .mcRank1 => some (rankWord d 12 8)
  | .mcMig => some (mcMigWord d)
  | .mcPart => some (partBase d i * 256 + partSize d i)
  | .glId => some (d.part.device * 2 ^ 32 + Config.stepping.toNat * 2 ^ 24 + 0x504C)
  | .glLink => some (glLinkWord d)
  | .bnStatus => some (d.sec.tasks.length * 2 ^ 16 + (idleCores d).foldl (fun a k => a + 2 ^ k) 0)
  | .bnCmdStatus => some (d.sec.cancelResult.toNat)
  | .bnCore => some (bnCoreWord d i)
  | .pwStatus => some (pwStatusWord d)
  | .cnSummary => some (summaryBits d)
  | .scCnt => some ((selCount d i).toNat)
  | .thTs => some ((dieWord (dieSensor d i)).toNat)
  | .thHb => some ((stackTemp d i).valid.toNat * 256 + (stackTemp d i).temp)
  | .thV => some (agetD d.mon.rails i 0)
  | .cabStatus => some (cabStatusWord d)
  | .cabGen => some (d.cab.done.toNat)
  | _ => none

/-- Bits of a register that a read shows as stored: all but the write-only ones (R14). -/
def shownBits (r : Reg) : Nat :=
  (regFields r).foldl (fun a f => if f.acc == .wo then a else a + (2 ^ (f.hi - f.lo + 1) - 1) * 2 ^ f.lo) 0

/-- What instance i of a register reads as (R6, R14, R15). -/
def readWord (d : Dev) (r : Reg) (i : Nat) : Word :=
  if !regPresent d r i then 0
  else
    match statusWord d r i with
    | some v => BitVec.ofNat 48 v
    | none => reg d r i &&& BitVec.ofNat 48 (shownBits r)

/-! ## Places (R473) -/

/-- The register that an offset names, with its instance. -/
def regAt (o : Nat) : Option (Reg × Nat) :=
  match allRegs.find? (isRegAt o) with
  | some r =>
    let (b, s, _) := regPlace r
    some (r, if s = 0 then 0 else (o - b) / s)
  | none => none

end Sys2Proof.Machine
end

