-- ==== Sys2Proof/Machine/RegAccess.lean ====
section
/-!
DEFINITION. Machine/RegAccess.lean: an access to BAR0 (R12 to R15, R473, R474): what a write does at the register it names,
what a read answers, and an access that breaks the alignment: the meaning of REGISTER_WRITE.
-/

namespace Sys2Proof.Machine

/-! ## Alignment (R474) -/

/-- BAR0 accepts the access. -/
def accessOk (a : BarAccess) : Bool := a.size == 8 && a.offset % 8 == 0

/-- An access that BAR0 does not accept: counted, BAD_ACCESS set, and its offset held where it is the first (R474, R495).
(DEDUCED, log entry 16) -/
def badAccess (a : BarAccess) (d : Dev) : Dev :=
  let d := count .badAccess 0 d
  let d := if fld d ⟨.glEvent, 2, 2⟩ 0 = 0 then setReg .glBadAddr 0 (BitVec.ofNat 48 (a.offset % 2 ^ 25)) d else d
  let d := raise ⟨.glEvent, 2, 2⟩ 0 d
  if a.write then d else emit (.barRead a.offset 0) d

/-! ## Writes with an effect of their own -/

/-- LC_CTRL: the channel's domain, lanes and state follow ENABLE (R77, R80, R558). -/
def writeLcCtrl (n : Nat) (w : Word) (d : Dev) : Dev :=
  let was := fld d fLC_CTRL_ENABLE n
  let d := storeWrite .lcCtrl n w d
  if fld d fLC_CTRL_ENABLE n = was then d
  else enablesChanged d

/-- DP_CTRL: a port enabled or disabled, or a new speed, interface or FEC through a full bring-up (R249, R250). -/
def writeDpCtrl (n : Nat) (w : Word) (d0 : Dev) : Dev :=
  let d := storeWrite .dpCtrl n w d0
  let same := fun (f : Fld) => fld d f n == fld d0 f n
  if !same fDP_CTRL_ENABLE then laneRefresh n d
  else if same fDP_CTRL_SPEED && same fDP_CTRL_IFTYPE && same fDP_CTRL_FEC then d
  else laneRestart n d

/-- Upstream inhibit set or cleared: the state follows, and a held release goes on (R129, R150, R157). -/
def writeActCtrl (w : Word) (d : Dev) : Dev := secretaryRelease (settleState (storeWrite .actCtrl 0 w d))

/-- A ring's configuration: EN cleared stops the ring; the completion ring of the Bench takes what waits for it (R477,
R543). -/
def writeRingCfg (r : Reg) (i n : Nat) (w : Word) (d : Dev) : Dev :=
  let was := (reg d r i).toNat.testBit 4
  let d := storeWrite r i w d
  let on := (reg d r i).toNat.testBit 4
  if was && !on then ringStop n d else if n = 261 ∧ !was ∧ on then benchFlush d else d

/-- CN_SUMMARY_MASK: vector 0 for every summary bit that the new mask lets through (R584). (DEDUCED, log entry 20) -/
def writeSummaryMask (w : Word) (d : Dev) : Dev :=
  let old := fld d fCN_SUMMARY_MASK_MASK 0
  let d := storeWrite .cnSummaryMask 0 w d
  let new := fld d fCN_SUMMARY_MASK_MASK 0
  (List.range 21).foldl (fun d u =>
    if (summaryBits d).testBit u && new.testBit u && !old.testBit u then signal 0 d else d) d

/-- CAB_CTRL: the settings, then ABORT and ARM (R586, R598). -/
def writeCabCtrl (w : Word) (d : Dev) : Dev :=
  let d := storeWrite .cabCtrl 0 w d
  let d := if w.toNat.testBit 1 then cabAborted (.register w) d else d
  if w.toNat.testBit 0 then cabArmed (.register w) d else d

/-- TSI_CMD: each command that its bits name, lowest bit first (R409 to R412). (DEDUCED, log entry 15) -/
def writeTsiCmd (w : Word) (d : Dev) : Dev :=
  let on := fun (b : Nat) (f : Dev → Dev) (d : Dev) => if w.toNat.testBit b then f d else d
  on 3 tsiReadCmd (on 2 tsiAbortCmd (on 1 tsiSwapCmd (on 0 tsiWriteCmd d)))

/-- TM_ACC_CMD (R354). -/
def writeAccCmd (w : Word) (d : Dev) : Dev :=
  if w.toNat.testBit 1 then accWrite d else if w.toNat.testBit 0 then accRead d else d

/-- SB_CMD (R371, R383). -/
def writeSbCmd (w : Word) (d : Dev) : Dev :=
  let port := bitsOf w.toNat 16 10
  let m := bitsOf w.toNat 9 0
  match bitsOf w.toNat 47 46 with
  | 1 => joinCmd .register port m d
  | 2 => leaveCmd .register port m d
  | 3 => leaveAllCmd .register port d
  | _ => d

/-- MB_CMD: GO takes a request, unless the mailbox is busy; a length outside 24 to 8,192 bytes is unreadable (R511). -/
def writeMbCmd (w : Word) (d : Dev) : Dev :=
  let len := bitsOf (reg d .mbReqLen 0).toNat 13 0
  if !w.toNat.testBit 0 then d
  else if fld d fMB_STATUS_STATE 0 = 1 then raise ⟨.mbEvent, 2, 2⟩ 0 (count .mbOverruns 0 d)
  else setFld fMB_STATUS_STATE 0 (if 24 ≤ len ∧ len ≤ 8192 then 1 else 3) d

/-- PW_REQ (R552, R571). -/
def writePwReq (w : Word) (d : Dev) : Dev :=
  let t := bitsOf w.toNat 2 0
  if 1 ≤ t ∧ t ≤ 5 then (askPower t (bitsOf w.toNat 19 3) .host d).2 else d

/-- What a write of w does at instance i of a register (R14, R15). -/
def writeAt (r : Reg) (i : Nat) (w : Word) (d : Dev) : Dev :=
  match r with
  | .lcCtrl => writeLcCtrl i w d
  | .lcLane => if w.toNat.testBit 1 then retrainChan i d else d
  | .protCtrl => protCtrlWrite w d
  | .cyKeyData => setReg .cyKeyData i w d
  | .cyKeyData5 => setReg .cyKeyData5 0 (BitVec.ofNat 48 (bitsOf w.toNat 47 32 * 2 ^ 32)) d
  | .cyKeyCmd => keyCommand (bitsOf w.toNat 10 8) (bitsOf w.toNat 7 0) d
  | .actCtrl => writeActCtrl w d
  | .dpCtrl => writeDpCtrl i w d
  | .dpMac | .dpFc => flowEval i (storeWrite r i w d)
  | .lntCtrl => testCtrl i w d
  | .lntInject => testInject i w d
  | .clWinData => windowWrite w d
  | .tmAccCmd => writeAccCmd w d
  | .sbCmd => writeSbCmd w d
  | .trCtrl => trSettings (storeWrite .trCtrl 0 w) d
  | .tsiCmd => writeTsiCmd w d
  | .tbCfg => tbSettings i (storeWrite .tbCfg i w) d
  | .ltCtrl | .ltServo | .ltPps => ltSettings (storeWrite r i w) d
  | .ltSwOffset => softwareOffset w d
  | .ltCmd => ltCmd w d
  | .dringCfg => writeRingCfg r i i w d
  | .rxcCfg => writeRingCfg r i (200 + i) w d
  | .rxbCfg => writeRingCfg r i (220 + i) w d
  | .txrCfg => writeRingCfg r i (240 + i) w d
  | .bnsCfg => writeRingCfg r i 260 w d
  | .bncCfg => writeRingCfg r i 261 w d
  | .drwCtrl => drawerConsumer i w d
  | .mbCmd => writeMbCmd w d
  | .bnCtrl => hostHandlesWrite w d
  | .bnCancel => taskCancel (bitsOf w.toNat 11 0) d
  | .pwReq => writePwReq w d
  | .pwLl => domsRefresh (storeWrite .pwLl 0 w d)
  | .cnSummaryMask => writeSummaryMask w d
  | .scCfg => selClear i w d
  | .cabCtrl => writeCabCtrl w d
  | _ => storeWrite r i w d

/-! ## Reads with an effect of their own -/

/-- A read of instance i of a register at an offset: its value, and what reading it does (R14, R289, R437, R581, R588,
R597). -/
def readAt (o : Nat) (r : Reg) (i : Nat) (d : Dev) : Dev :=
  match r with
  | .clWinStatus => windowStatusRead d
  | .ltNowNs => longcaseNow d
  | .scCnt => selRead i d
  | .cabRdData => cabRead d
  | .thTs => peakRead i d
  | _ => emit (.barRead o (readWord d r i)) d

/-! ## The access -/

/-- Units on the core clock, by the number of their base: a register access to one of them ends Idle (R548).
(DEDUCED, log entry 18) -/
def coreClocked (u : Nat) : Bool := (7 ≤ u && u ≤ 11) || u == 14

/-- An access that BAR0 accepts (R6, R473, R574). -/
def goodAccess (a : BarAccess) (d : Dev) : Dev :=
  let wake := fun (d : Dev) => if coreClocked (a.offset / 0x100000) then idleExit d else d
  match regAt a.offset with
  | some (r, i) =>
    if !regPresent d r i then (if a.write then d else emit (.barRead a.offset 0) d)
    else
      let d := if a.offset / 0x100000 = 6 then testSync i (wake d) else wake d
      if a.write then writeAt r i a.value d else readAt a.offset r i d
  | none =>
    let d := wake d
    if a.write then d
    else
      match counterOffset a.offset with
      | some c => emit (.barRead a.offset (counterNo d.cnt.values c)) d
      | none => emit (.barRead a.offset 0) d

/-- An access to BAR0. (DEDUCED, log entry 14) -/
def barAccess (a : BarAccess) (d : Dev) : Dev := if accessOk a then goodAccess a d else badAccess a d

/-- A host access to one of the function's spaces (R469, R473). -/
def hostAccess (x : HostAccess) (d : Dev) : Dev :=
  match x with
  | .bar0 a => barAccess a d
  | .bar2 a => bar2Access a d
  | .bar4 a => bar4Access a d
  | .config _ write r v => cfgAccess write r v d

/-- REGISTER_WRITE (R474). -/
def execRegisterWrite (x : HostAccess) (s : State) : Out := at_ x.t (fsDrive (hostAccess x)) s

end Sys2Proof.Machine
end

