-- ==== Sys2Proof/Machine/Tasks.lean ====
section
/-!
DEFINITION. Machine/Tasks.lean: what the published task types do and answer (R304, R305, R314, R539, R587).
-/

namespace Sys2Proof.Machine

/-! ## Table batch (R308, R310, R539) -/

/-- A descriptor run by its operation. -/
def descriptorRun (x : Descriptor) (d : Dev) : Dev :=
  let run := fun (trie : Bool) (f : Dev → Dev) => runDsc true trie x f d
  match dscOp x with
  | 1 => run false (macInsert x)
  | 2 => run false (macDelete x)
  | 3 => run false (macFindOp x)
  | 4 => run false (macLockOp x)
  | 5 => run false (macWriteOp x)
  | 6 => run false (macReadOp x)
  | 7 => run true (trieWriteOp x)
  | 8 => run true (trieReadOp x)
  | _ => run false (dscDone x 5 x.w1.toNat [])

/-- The descriptors of a batch in order, through ring 1. -/
def tableBatch (xs : List Descriptor) (d : Dev) : Dev :=
  xs.foldl (fun d x => descriptorRun { x with ring1 := true } d) d

/-! ## Routes in the trie (R301 to R305, R314) -/

/-- Bits of an address of the family. -/
def addrBits (v6 : Bool) : Nat := if v6 then 128 else 32

/-- The stage whose words a prefix covers, from 0. -/
def routeStage (plen : Nat) : Nat := if plen ≤ 16 then 0 else (plen - 9) / 8

/-- An address's place among the words of a stage's array. -/
def stageIndex (v6 : Bool) (addr k : Nat) : Nat :=
  let low := addrBits v6 - 16 - 8 * k
  if k = 0 then addr / 2 ^ low % 65536 else addr / 2 ^ low % 256

/-- First word of an array, and of a family's stage-1 array (R301). -/
def arrayAt (a : Nat) : Nat := 0x40000 + 256 * a
def stageOne (v6 : Bool) : Nat := if v6 then 0x10000 else 0

/-- The array that a word links (R302). -/
def childOf (w : Nat) : Option Nat := if w.testBit 47 ∧ bitsOf w 46 34 ≤ 7167 then some (bitsOf w 46 34) else none

/-- An array that no word links and that has been unlinked for 1 µs (R314). -/
def arrayFree (d : Dev) (a : Nat) : Bool :=
  !d.fwd.trie.any (fun e => (e.1 < 0x20000 || 0x40000 ≤ e.1) && childOf e.2.toNat == some a) &&
    !d.fwd.freed.any (fun e => e.1 == a && decide (d.now < e.2 + Config.us))

/-- An array emptied and linked from a word (R314). -/
def linkArray (w a : Nat) (d : Dev) : Dev :=
  let d := (List.range 256).foldl (fun d i => if trieWord d (arrayAt a + i) = 0 then d else setTrieWord (arrayAt a + i) 0 d) d
  setTrieWord w (withBits (withBits (trieWord d w) 46 34 a) 47 47 1) d

/-- The arrays on the way to stage k, made where they are missing: first word of the stage's array, or none where no array is
free (R305, R539). (DESIGN CHOICE, log entry 187) -/
def makePath (v6 : Bool) (addr : Nat) : Nat → Dev → Option (Nat × Dev)
  | 0, d => some (stageOne v6, d)
  | k + 1, d =>
    match makePath v6 addr k d with
    | none => none
    | some (base, d) =>
      let w := base + stageIndex v6 addr k
      match childOf (trieWord d w) with
      | some a => some (arrayAt a, d)
      | none =>
        match (List.range 7168).find? (arrayFree d) with
        | some a => some (arrayAt a, linkArray w a d)
        | none => none

/-- The arrays on the way to stage k as they stand. -/
def findPath (v6 : Bool) (addr : Nat) (d : Dev) : Nat → Option Nat
  | 0 => some (stageOne v6)
  | k + 1 => (findPath v6 addr d k).bind (fun base => (childOf (trieWord d (base + stageIndex v6 addr k))).map arrayAt)

/-- The words of a stage's array that a prefix covers, as offsets: first and count. -/
def covered (v6 : Bool) (addr plen : Nat) : Nat × Nat :=
  let k := routeStage plen
  let n := 2 ^ (16 + 8 * k - plen)
  (stageIndex v6 addr k / n * n, n)

/-- A word with a next hop and the length of its prefix (R302). -/
def withHop (w nh plen : Nat) : Nat := withBits (withBits (withBits (withBits w 33 33 1) 32 17 nh) 16 9 plen) 8 8 0

/-- The prefixes of two routes agree in their first n bits. -/
def sameBits (v6 : Bool) (a b n : Nat) : Bool := a / 2 ^ (addrBits v6 - n) == b / 2 ^ (addrBits v6 - n)

/-- A prefix's covered words given its next hop, unless a longer one covers them (R304). -/
def spreadRoute (r : Route) (base : Nat) (d : Dev) : Dev :=
  let (first, n) := covered r.v6 r.addr r.plen
  (List.range n).foldl (fun d i =>
    let a := base + first + i
    let w := trieWord d a
    if w.testBit 33 ∧ r.plen < bitsOf w 16 9 then d else setTrieWord a (withHop w r.nh r.plen) d) d

/-- A route added or replaced; none where it needs an array and none is free. -/
def routeAdd (r : Route) (d : Dev) : Option Dev :=
  (makePath r.v6 r.addr (routeStage r.plen) d).map (fun (base, d) =>
    let keep := d.fwd.routes.filter (fun x => !(x.v6 == r.v6 && x.plen == r.plen && sameBits r.v6 x.addr r.addr r.plen))
    spreadRoute r base { d with fwd := { d.fwd with routes := r :: keep } })

/-- The longest of the routes of a stage that covers a word of it: its address's first bits are given. -/
def coveringRoute (d : Dev) (v6 : Bool) (stage addr : Nat) : Option Route :=
  (d.fwd.routes.filter (fun x => x.v6 == v6 && routeStage x.plen == stage && sameBits v6 x.addr addr x.plen)).foldl
    (fun best x => match best with
      | some b => if b.plen < x.plen then some x else some b
      | none => some x) none

/-- A deleted prefix's words take the next hop of the longest prefix of the stage that still covers them (R304, R314). -/
def withdrawRoute (v6 : Bool) (addr plen base : Nat) (d : Dev) : Dev :=
  let k := routeStage plen
  let (first, n) := covered v6 addr plen
  let low := addrBits v6 - 16 - 8 * k
  let top := addr / 2 ^ (addrBits v6 - plen) * 2 ^ (addrBits v6 - plen)
  (List.range n).foldl (fun d i =>
    let a := base + first + i
    let w := trieWord d a
    if w.testBit 33 ∧ bitsOf w 16 9 = plen then
      match coveringRoute d v6 k (top + i * 2 ^ low) with
      | some r => setTrieWord a (withHop w r.nh r.plen) d
      | none => setTrieWord a (withBits (withBits (withBits w 33 33 0) 32 17 0) 16 9 0) d
    else d) d

/-- Arrays on the way to stage k that hold nothing any more are unlinked, the deepest first (R314). -/
def pruneRoute (v6 : Bool) (addr : Nat) : Nat → Dev → Dev
  | 0, d => d
  | k + 1, d =>
    match findPath v6 addr d k with
    | none => pruneRoute v6 addr k d
    | some base =>
      let w := base + stageIndex v6 addr k
      match childOf (trieWord d w) with
      | none => pruneRoute v6 addr k d
      | some a =>
        if (List.range 256).any (fun i =>
            let x := trieWord d (arrayAt a + i)
            x.testBit 33 || x.testBit 47) then d
        else
          let d := setTrieWord w (withBits (withBits (trieWord d w) 46 34 0) 47 47 0) d
          pruneRoute v6 addr k { d with fwd := { d.fwd with freed := (a, d.now) :: d.fwd.freed } }

/-- A route deleted; an absent one counts as applied (R539). -/
def routeDelete (v6 : Bool) (addr plen : Nat) (d : Dev) : Dev :=
  let left := d.fwd.routes.filter (fun x => !(x.v6 == v6 && x.plen == plen && sameBits v6 x.addr addr plen))
  let d := { d with fwd := { d.fwd with routes := left } }
  match findPath v6 addr d (routeStage plen) with
  | some base => pruneRoute v6 addr (routeStage plen) (withdrawRoute v6 addr plen base d)
  | none => d

/-- One route record applied; none where it stops the batch: its PLEN is above its family's, or it needs an array and none is free,
or its OP is neither add nor delete (R539). -/
def routeRecord (ws : List Word) (d : Dev) : Option Dev :=
  let w0 := (ws.getD 0 0).toNat
  let v6 := w0.testBit 45
  let plen := bitsOf w0 44 37
  let s := fun (i : Nat) => (ws.getD i 0).toNat
  let addr := if v6 then s 1 * 2 ^ 80 + s 2 * 2 ^ 32 + bitsOf (s 3) 47 16 else bitsOf (s 1) 31 0
  if (if v6 then 72 else 32) < plen then none
  else if bitsOf w0 47 46 = 1 then routeAdd ⟨v6, addr, plen, bitsOf w0 36 21⟩ d
  else if bitsOf w0 47 46 = 2 then some (routeDelete v6 addr plen d)
  else none

/-- Records of four slots applied in order, at most n, up to one that stops the batch: how many were applied. -/
def routeBatch : Nat → List Word → Dev → Nat × Dev
  | 0, _, d => (0, d)
  | n + 1, ws, d =>
    match routeRecord (ws.take 4) d with
    | none => (0, d)
    | some d =>
      let (k, d) := routeBatch n (ws.drop 4) d
      (k + 1, d)

/-! ## Counters and snapshots (R539, R587) -/

/-- The value that the slot of a counter gather takes; free where its offset names no counter. -/
def gatherOne (o : Word) (d : Dev) : Word × Dev :=
  match counterOffset o.toNat with
  | some c => (counterNo d.cnt.values c, d)
  | none =>
    let (i, d) := nextFree d
    (Config.freeWord i, d)

/-- The slots of a counter gather overwritten in order. -/
def gatherAll : List Word → Dev → List Word × Dev
  | [], d => ([], d)
  | o :: l, d =>
    let (v, d) := gatherOne o d
    let (vs, d) := gatherAll l d
    (v :: vs, d)

/-- The completed bank whose generation has these low 16 bits (R587). -/
def bankLow (d : Dev) (g : Nat) : Option CabBank :=
  match aget d.cab.banks (g % 8) with
  | some b => if b.gen.toNat % 65536 = g ∧ b.gen ≠ 0 then some b else none
  | none => none

/-! ## The task -/

/-- What a task does as it ends on its core: its status, its RESULT and the device. A firmware task answers what its image gives.
(DEDUCED, log entry 119) -/
def taskAction (x : Task) (status : Nat) (a : TaskAnswer) (d : Dev) : Nat × Word × Dev :=
  let n := bitsOf a.header.toNat 31 0
  let at_ := 64 * x.arg.toNat + 8
  let bad := n = 0 ∨ 65535 < n
  match x.ty with
  | 0x41 =>
    if bad then (4, 0, d) else (0, BitVec.ofNat 48 n, tableBatch (a.descriptors.take n) (idleExit d))
  | 0x42 =>
    if bad then (4, 0, d)
    else
      let (k, d) := routeBatch n a.slots (idleExit d)
      (if k = n then 0 else 4, BitVec.ofNat 48 k, d)
  | 0x43 =>
    if bad then (4, 0, d)
    else
      let (vs, d) := gatherAll (a.slots.take n) d
      (0, BitVec.ofNat 48 n, emit (.hostWords at_ vs) d)
  | 0x44 =>
    match bankLow d (bitsOf a.header.toNat 47 32) with
    | some b => (0, 1171456, emit (.bankCopy at_ b) d)
    | none => (4, 0, d)
  | _ => (status, a.result, d)

/-- A core's task ends: 0 done, 4 bad argument (R535, R536, R539). -/
def taskComplete (k status : Nat) (a : TaskAnswer) (d : Dev) : Dev :=
  match (core d k).busy with
  | none => d
  | some h =>
    match task d h with
    | none => d
    | some x =>
      if status ≠ 0 ∧ status ≠ 4 then d
      else
        let (st, result, d) := taskAction x status a d
        finish ⟨h, st, k, result⟩ (modCore k (fun c => { c with busy := none }) d)

/-! ## Meanings -/

/-- TASK_COMPLETE (R535). -/
def execTaskComplete (t : Time) (k : Fin 16) (status : BitVec 3) (a : TaskAnswer) (s : State) : Out :=
  at_ t (taskComplete k status.toNat a) s

end Sys2Proof.Machine
end

