-- ==== Sys2Proof/Machine/Dispatch.lean ====
section
/-!
DEFINITION. Machine/Dispatch.lean: one arm for each command, each a direct call of its meaning.
-/

namespace Sys2Proof.Machine

def exec (i : Instr) (s : State) : Host.Outcome State Fault Refusal :=
  match i with
  | .lineFrameReceived f => Sys2Proof.Machine.execLineFrameReceived f s
  | .losEntered t ch cause => Sys2Proof.Machine.execLosEntered t ch cause s
  | .losLeft t ch lane => Sys2Proof.Machine.execLosLeft t ch lane s
  | .frameBoundary t inp => Sys2Proof.Machine.execFrameBoundary t inp s
  | .holdoffExpiry t => Sys2Proof.Machine.execHoldoffExpiry t s
  | .settleEnd t => Sys2Proof.Machine.execSettleEnd t s
  | .protectionCheckExpiry t => Sys2Proof.Machine.execProtectionCheckExpiry t s
  | .alternationDwellExpiry t => Sys2Proof.Machine.execAlternationDwellExpiry t s
  | .switchToWorking t value => Sys2Proof.Machine.execSwitchToWorking t value s
  | .switchToProtection t value => Sys2Proof.Machine.execSwitchToProtection t value s
  | .lockoutDeviceCommit t => Sys2Proof.Machine.execLockoutDeviceCommit t s
  | .envelopeReceived e => Sys2Proof.Machine.execEnvelopeReceived e s
  | .reorderWindowExpiry t flow => Sys2Proof.Machine.execReorderWindowExpiry t flow s
  | .keyWriteEntry entry => Sys2Proof.Machine.execKeyWriteEntry entry s
  | .keyEraseEntry entry => Sys2Proof.Machine.execKeyEraseEntry entry s
  | .keyReadEntryState entry => Sys2Proof.Machine.execKeyReadEntryState entry s
  | .checkValueSlotWrite slot => Sys2Proof.Machine.execCheckValueSlotWrite slot s
  | .checkValueSlotErase slot => Sys2Proof.Machine.execCheckValueSlotErase slot s
  | .keyCommandInvalid op entry => Sys2Proof.Machine.execKeyCommandInvalid op entry s
  | .txIndexWrite reg value => Sys2Proof.Machine.execTxIndexWrite reg value s
  | .burstProfile m => Sys2Proof.Machine.execBurstProfile m s
  | .assignTerminal m => Sys2Proof.Machine.execAssignTerminal m s
  | .rangingRequest m => Sys2Proof.Machine.execRangingRequest m s
  | .rangingTime m => Sys2Proof.Machine.execRangingTime m s
  | .deactivate m => Sys2Proof.Machine.execDeactivate m s
  | .disable m => Sys2Proof.Machine.execDisable m s
  | .enable m => Sys2Proof.Machine.execEnable m s
  | .keyControlSwitch m => Sys2Proof.Machine.execKeyControlSwitch m s
  | .keyControlReport m => Sys2Proof.Machine.execKeyControlReport m s
  | .keySwitchCommit t => Sys2Proof.Machine.execKeySwitchCommit t s
  | .timeOfDay m => Sys2Proof.Machine.execTimeOfDay m s
  | .sleepAllow m => Sys2Proof.Machine.execSleepAllow m s
  | .protectionControl m => Sys2Proof.Machine.execProtectionControl m s
  | .rangingTimerExpiry t => Sys2Proof.Machine.execRangingTimerExpiry t s
  | .lossTimerExpiry t => Sys2Proof.Machine.execLossTimerExpiry t s
  | .sleepConsentExpiry t => Sys2Proof.Machine.execSleepConsentExpiry t s
  | .pfailFall t => Sys2Proof.Machine.execPfailFall t s
  | .pfailRise t => Sys2Proof.Machine.execPfailRise t s
  | .grantFill t fill => Sys2Proof.Machine.execGrantFill t fill s
  | .wardrobePrefetchComplete t ch => Sys2Proof.Machine.execWardrobePrefetchComplete t ch s
  | .burstStart t ch => Sys2Proof.Machine.execBurstStart t ch s
  | .burstEnd t ch => Sys2Proof.Machine.execBurstEnd t ch s
  | .tribBlockExpiry t => Sys2Proof.Machine.execTribBlockExpiry t s
  | .fsFrameStart f => Sys2Proof.Machine.execFsFrameStart f s
  | .fsFrameTimeout ch => Sys2Proof.Machine.execFsFrameTimeout ch s
  | .fsWindowOpen t ch => Sys2Proof.Machine.execFsWindowOpen t ch s
  | .fsWindowClose t ch lit => Sys2Proof.Machine.execFsWindowClose t ch lit s
  | .benRequest t ch level => Sys2Proof.Machine.execBenRequest t ch level s
  | .lightOutsideWindow t ch => Sys2Proof.Machine.execLightOutsideWindow t ch s
  | .stage2Timeout t ch lmon => Sys2Proof.Machine.execStage2Timeout t ch lmon s
  | .stage3Timeout t ch lmon => Sys2Proof.Machine.execStage3Timeout t ch lmon s
  | .opticRead r => Sys2Proof.Machine.execOpticRead r s
  | .selfTestPulse t out assertNs releaseNs => Sys2Proof.Machine.execSelfTestPulse t out assertNs releaseNs s
  | .parityError t => Sys2Proof.Machine.execParityError t s
  | .fsSupplyClockLoss t clock => Sys2Proof.Machine.execFsSupplyClockLoss t clock s
  | .fsRelease t nonce => Sys2Proof.Machine.execFsRelease t nonce s
  | .releaseCommand t path nonce => Sys2Proof.Machine.execReleaseCommand t path nonce s
  | .fsRestart t key clockOk => Sys2Proof.Machine.execFsRestart t key clockOk s
  | .admissionWrite complement slot value => Sys2Proof.Machine.execAdmissionWrite complement slot value s
  | .fsLimitsWrite ch limits => Sys2Proof.Machine.execFsLimitsWrite ch limits s
  | .fsSetcfgWrite guardNs refuseLimit => Sys2Proof.Machine.execFsSetcfgWrite guardNs refuseLimit s
  | .laneSignalDetected lane => Sys2Proof.Machine.execLaneSignalDetected lane s
  | .negotiationResolved port => Sys2Proof.Machine.execNegotiationResolved port s
  | .trainingComplete lane precodeTx precodeRx => Sys2Proof.Machine.execTrainingComplete lane precodeTx precodeRx s
  | .trainTimeout lane => Sys2Proof.Machine.execTrainTimeout lane s
  | .laneLock lane => Sys2Proof.Machine.execLaneLock lane s
  | .lockTimeout lane => Sys2Proof.Machine.execLockTimeout lane s
  | .exchangeComplete lane => Sys2Proof.Machine.execExchangeComplete lane s
  | .exchangeTimeout lane => Sys2Proof.Machine.execExchangeTimeout lane s
  | .quietPeriodEnd lane => Sys2Proof.Machine.execQuietPeriodEnd lane s
  | .laneSignalLost t lane => Sys2Proof.Machine.execLaneSignalLost t lane s
  | .lineRetrainTimeout ch lane => Sys2Proof.Machine.execLineRetrainTimeout ch lane s
  | .retrain t ch => Sys2Proof.Machine.execRetrain t ch s
  | .laneTestStart t lane value => Sys2Proof.Machine.execLaneTestStart t lane value s
  | .laneTestStop lane value counts => Sys2Proof.Machine.execLaneTestStop lane value counts s
  | .start lane value => Sys2Proof.Machine.execStart lane value s
  | .injectOne lane value => Sys2Proof.Machine.execInjectOne lane value s
  | .macFrameReceived f => Sys2Proof.Machine.execMacFrameReceived f s
  | .pauseExpiry t port prio => Sys2Proof.Machine.execPauseExpiry t port prio s
  | .xoffRepeat t port => Sys2Proof.Machine.execXoffRepeat t port s
  | .frameTransmit t out => Sys2Proof.Machine.execFrameTransmit t out s
  | .packetEntry t entry => Sys2Proof.Machine.execPacketEntry t entry s
  | .secondPass t pass => Sys2Proof.Machine.execSecondPass t pass s
  | .fragmentHoldTimeout t pipe => Sys2Proof.Machine.execFragmentHoldTimeout t pipe s
  | .fragmentEntryExpiry t pipe => Sys2Proof.Machine.execFragmentEntryExpiry t pipe s
  | .slotClaim t path slot => Sys2Proof.Machine.execSlotClaim t path slot s
  | .slotSeal t path slot => Sys2Proof.Machine.execSlotSeal t path slot s
  | .slotAbandon t path slot => Sys2Proof.Machine.execSlotAbandon t path slot s
  | .slotEvict t path slot => Sys2Proof.Machine.execSlotEvict t path slot s
  | .makeCurrent t path slot => Sys2Proof.Machine.execMakeCurrent t path slot s
  | .drainSlow t slot => Sys2Proof.Machine.execDrainSlow t slot s
  | .windowDataWrite value => Sys2Proof.Machine.execWindowDataWrite value s
  | .windowStatusRead => Sys2Proof.Machine.execWindowStatusRead s
  | .treeScrub pipe addr ecc => Sys2Proof.Machine.execTreeScrub pipe addr ecc s
  | .macInsert d => Sys2Proof.Machine.execMacInsert d s
  | .macDelete d => Sys2Proof.Machine.execMacDelete d s
  | .macFind d => Sys2Proof.Machine.execMacFind d s
  | .macLock d => Sys2Proof.Machine.execMacLock d s
  | .macWrite d => Sys2Proof.Machine.execMacWrite d s
  | .macRead d => Sys2Proof.Machine.execMacRead d s
  | .trieWrite d => Sys2Proof.Machine.execTrieWrite d s
  | .trieRead d => Sys2Proof.Machine.execTrieRead d s
  | .unknownOp d => Sys2Proof.Machine.execUnknownOp d s
  | .learnMergeRelease t => Sys2Proof.Machine.execLearnMergeRelease t s
  | .learnFilterExpiry t pipe => Sys2Proof.Machine.execLearnFilterExpiry t pipe s
  | .ageingVisit t => Sys2Proof.Machine.execAgeingVisit t s
  | .tableScrub t table addr ecc => Sys2Proof.Machine.execTableScrub t table addr ecc s
  | .shaperRefill t => Sys2Proof.Machine.execShaperRefill t s
  | .policerRefill t => Sys2Proof.Machine.execPolicerRefill t s
  | .tmObjectWrite => Sys2Proof.Machine.execTmObjectWrite s
  | .tmObjectRead => Sys2Proof.Machine.execTmObjectRead s
  | .wardrobeWriteback packets => Sys2Proof.Machine.execWardrobeWriteback packets s
  | .queueSample t => Sys2Proof.Machine.execQueueSample t s
  | .recordedRateUpdate t => Sys2Proof.Machine.execRecordedRateUpdate t s
  | .join t origin port programme => Sys2Proof.Machine.execJoin t origin port programme s
  | .leave t origin port programme => Sys2Proof.Machine.execLeave t origin port programme s
  | .leaveAll t origin port => Sys2Proof.Machine.execLeaveAll t origin port s
  | .replayIssue t ctx => Sys2Proof.Machine.execReplayIssue t ctx s
  | .splice t ctx => Sys2Proof.Machine.execSplice t ctx s
  | .catchupTimeout t ctx => Sys2Proof.Machine.execCatchupTimeout t ctx s
  | .forcedSplice t ctx => Sys2Proof.Machine.execForcedSplice t ctx s
  | .membershipReport t => Sys2Proof.Machine.execMembershipReport t s
  | .generalQuery t port => Sys2Proof.Machine.execGeneralQuery t port s
  | .membershipExpiry t port programme => Sys2Proof.Machine.execMembershipExpiry t port programme s
  | .repairServe t => Sys2Proof.Machine.execRepairServe t s
  | .repairBudgetRefill t => Sys2Proof.Machine.execRepairBudgetRefill t s
  | .tributaryInputLos trib => Sys2Proof.Machine.execTributaryInputLos trib s
  | .tributaryLosEnd trib => Sys2Proof.Machine.execTributaryLosEnd trib s
  | .controlledSlip trib slip => Sys2Proof.Machine.execControlledSlip trib slip s
  | .tsiWrite => Sys2Proof.Machine.execTsiWrite s
  | .tsiRead => Sys2Proof.Machine.execTsiRead s
  | .tsiSwap => Sys2Proof.Machine.execTsiSwap s
  | .tsiAbort => Sys2Proof.Machine.execTsiAbort s
  | .swapCommit t => Sys2Proof.Machine.execSwapCommit t s
  | .standbyCopyDone t => Sys2Proof.Machine.execStandbyCopyDone t s
  | .highwayChangeEnd t => Sys2Proof.Machine.execHighwayChangeEnd t s
  | .heldTodDue t => Sys2Proof.Machine.execHeldTodDue t s
  | .offsetTimeout t => Sys2Proof.Machine.execOffsetTimeout t s
  | .softwareOffset t value => Sys2Proof.Machine.execSoftwareOffset t value s
  | .set t value => Sys2Proof.Machine.execSet t value s
  | .setLoad t => Sys2Proof.Machine.execSetLoad t s
  | .ppsPulse t => Sys2Proof.Machine.execPpsPulse t s
  | .ppsWidthEnd t => Sys2Proof.Machine.execPpsWidthEnd t s
  | .pltodMessage t => Sys2Proof.Machine.execPltodMessage t s
  | .longcaseNowRead t => Sys2Proof.Machine.execLongcaseNowRead t s
  | .memoryErrorDetected e => Sys2Proof.Machine.execMemoryErrorDetected e s
  | .migrationStart t => Sys2Proof.Machine.execMigrationStart t s
  | .migrationStep t badLines => Sys2Proof.Machine.execMigrationStep t badLines s
  | .rankWithdrawal t => Sys2Proof.Machine.execRankWithdrawal t s
  | .cxlMemAccess offset access => Sys2Proof.Machine.execCxlMemAccess offset access s
  | .hostReset t cause => Sys2Proof.Machine.execHostReset t cause s
  | .linkTrained t l => Sys2Proof.Machine.execLinkTrained t l s
  | .ringDoorbell t ring index => Sys2Proof.Machine.execRingDoorbell t ring index s
  | .tailLineSnoop t ring index => Sys2Proof.Machine.execTailLineSnoop t ring index s
  | .ringDisable ring => Sys2Proof.Machine.execRingDisable ring s
  | .ringWriteback t ring => Sys2Proof.Machine.execRingWriteback t ring s
  | .hostTransmit d => Sys2Proof.Machine.execHostTransmit d s
  | .drawerRead d slot => Sys2Proof.Machine.execDrawerRead d slot s
  | .drawerFlush d value => Sys2Proof.Machine.execDrawerFlush d value s
  | .drawerLevelWrite d value => Sys2Proof.Machine.execDrawerLevelWrite d value s
  | .drawerConsumerWrite d value => Sys2Proof.Machine.execDrawerConsumerWrite d value s
  | .drawerDmaCopy t d => Sys2Proof.Machine.execDrawerDmaCopy t d s
  | .vectorUnmask vector => Sys2Proof.Machine.execVectorUnmask vector s
  | .registerWrite a => Sys2Proof.Machine.execRegisterWrite a s
  | .read hd records => Sys2Proof.Machine.execRead hd records s
  | .write hd records => Sys2Proof.Machine.execWrite hd records s
  | .open_ hd => Sys2Proof.Machine.execOpen hd s
  | .commit hd scheduled => Sys2Proof.Machine.execCommit hd scheduled s
  | .abort hd => Sys2Proof.Machine.execAbort hd s
  | .query hd => Sys2Proof.Machine.execQuery hd s
  | .commitPoint t path => Sys2Proof.Machine.execCommitPoint t path s
  | .transactionIdleTimeout t path => Sys2Proof.Machine.execTransactionIdleTimeout t path s
  | .dictionarySave t ok => Sys2Proof.Machine.execDictionarySave t ok s
  | .restoreDefaults t path value => Sys2Proof.Machine.execRestoreDefaults t path value s
  | .taskSubmit d => Sys2Proof.Machine.execTaskSubmit d s
  | .taskDispatch t => Sys2Proof.Machine.execTaskDispatch t s
  | .affinityWindowExpiry t handle => Sys2Proof.Machine.execAffinityWindowExpiry t handle s
  | .taskComplete t core status answer => Sys2Proof.Machine.execTaskComplete t core status answer s
  | .taskFault t core cause => Sys2Proof.Machine.execTaskFault t core cause s
  | .taskCancel t handle => Sys2Proof.Machine.execTaskCancel t handle s
  | .hostHandlesWrite value => Sys2Proof.Machine.execHostHandlesWrite value s
  | .watchdogExpiry t => Sys2Proof.Machine.execWatchdogExpiry t s
  | .secretaryException t => Sys2Proof.Machine.execSecretaryException t s
  | .clusterLoad t cluster digestOk secondOk => Sys2Proof.Machine.execClusterLoad t cluster digestOk secondOk s
  | .restartCluster t path value => Sys2Proof.Machine.execRestartCluster t path value s
  | .restartSecretary t path value => Sys2Proof.Machine.execRestartSecretary t path value s
  | .requestRunFull t origin => Sys2Proof.Machine.execRequestRunFull t origin s
  | .requestRunLifeline t origin => Sys2Proof.Machine.execRequestRunLifeline t origin s
  | .requestSleep t origin period => Sys2Proof.Machine.execRequestSleep t origin period s
  | .requestDeepSleep t origin => Sys2Proof.Machine.execRequestDeepSleep t origin s
  | .requestOff t origin => Sys2Proof.Machine.execRequestOff t origin s
  | .noticeWaitExpiry t => Sys2Proof.Machine.execNoticeWaitExpiry t s
  | .powerChangeCommit t => Sys2Proof.Machine.execPowerChangeCommit t s
  | .retentionCommit t => Sys2Proof.Machine.execRetentionCommit t s
  | .railAcknowledged t rail => Sys2Proof.Machine.execRailAcknowledged t rail s
  | .railAckTimeout t rail => Sys2Proof.Machine.execRailAckTimeout t rail s
  | .idleEntry t => Sys2Proof.Machine.execIdleEntry t s
  | .lossOfLine t => Sys2Proof.Machine.execLossOfLine t s
  | .lifelineHoldExpiry t => Sys2Proof.Machine.execLifelineHoldExpiry t s
  | .lifelineRestoreExpiry t => Sys2Proof.Machine.execLifelineRestoreExpiry t s
  | .wakePin t level => Sys2Proof.Machine.execWakePin t level s
  | .twoWireAddressMatch x => Sys2Proof.Machine.execTwoWireAddressMatch x s
  | .lineTimerExpiry t => Sys2Proof.Machine.execLineTimerExpiry t s
  | .oscRdy b => Sys2Proof.Machine.execOscRdy b s
  | .oscRdyTimeout t => Sys2Proof.Machine.execOscRdyTimeout t s
  | .clear counter value => Sys2Proof.Machine.execClear counter value s
  | .selectableCounterRead counter => Sys2Proof.Machine.execSelectableCounterRead counter s
  | .counterPageCopy t ok => Sys2Proof.Machine.execCounterPageCopy t ok s
  | .arm t origin => Sys2Proof.Machine.execArm t origin s
  | .cabinetAbort t origin => Sys2Proof.Machine.execCabinetAbort t origin s
  | .cabinetLatch t => Sys2Proof.Machine.execCabinetLatch t s
  | .cabinetDrainDone t => Sys2Proof.Machine.execCabinetDrainDone t s
  | .cabinetWindowRead => Sys2Proof.Machine.execCabinetWindowRead s
  | .dieTempSample t sensor temp => Sys2Proof.Machine.execDieTempSample t sensor temp s
  | .hbmTempReport t stack temp => Sys2Proof.Machine.execHbmTempReport t stack temp s
  | .hardwareThermalTrip t sensor => Sys2Proof.Machine.execHardwareThermalTrip t sensor s
  | .thermalIsolation t => Sys2Proof.Machine.execThermalIsolation t s
  | .voltageSample t rail mv => Sys2Proof.Machine.execVoltageSample t rail mv s
  | .temperaturePeakRead sensor => Sys2Proof.Machine.execTemperaturePeakRead sensor s
  | .hello m => Sys2Proof.Machine.execHello m s
  | .openSession m => Sys2Proof.Machine.execOpenSession m s
  | .close m => Sys2Proof.Machine.execClose m s
  | .sessionOpenTimeout t session => Sys2Proof.Machine.execSessionOpenTimeout t session s
  | .sessionIdleTimeout t session => Sys2Proof.Machine.execSessionIdleTimeout t session s
  | .servicePortFrame t bytes => Sys2Proof.Machine.execServicePortFrame t bytes s
  | .imageBegin m => Sys2Proof.Machine.execImageBegin m s
  | .imageBlock m => Sys2Proof.Machine.execImageBlock m s
  | .imageEnd m => Sys2Proof.Machine.execImageEnd m s
  | .setServiceKey t path key => Sys2Proof.Machine.execSetServiceKey t path key s
  | .activationRequest t path => Sys2Proof.Machine.execActivationRequest t path s
  | .activationAbort t path => Sys2Proof.Machine.execActivationAbort t path s
  | .activationCommit t => Sys2Proof.Machine.execActivationCommit t s
  | .confirm t path value => Sys2Proof.Machine.execConfirm t path value s
  | .autoConfirm t => Sys2Proof.Machine.execAutoConfirm t s
  | .trialTimeout t => Sys2Proof.Machine.execTrialTimeout t s
  | .porstAssert t => Sys2Proof.Machine.execPorstAssert t s
  | .powerGood b => Sys2Proof.Machine.execPowerGood b s
  | .warmReset b => Sys2Proof.Machine.execWarmReset b s
  | .lineStartRelease t => Sys2Proof.Machine.execLineStartRelease t s
  | .killRelease t => Sys2Proof.Machine.execKillRelease t s
  | .avsTrack t targetMv => Sys2Proof.Machine.execAvsTrack t targetMv s
  | .battNChange t level => Sys2Proof.Machine.execBattNChange t level s
  | .killSenseMismatch t out => Sys2Proof.Machine.execKillSenseMismatch t out s
  | .checkerLock lane => Sys2Proof.Machine.execCheckerLock lane s
  | .checkerLockLoss lane counts => Sys2Proof.Machine.execCheckerLockLoss lane counts s
  | .negotiationFailure port => Sys2Proof.Machine.execNegotiationFailure port s
  | .hbmReportMissed t stack => Sys2Proof.Machine.execHbmReportMissed t stack s
  | .secretaryRestartDone x => Sys2Proof.Machine.execSecretaryRestartDone x s
  | .malformedRequest hd bytes => Sys2Proof.Machine.execMalformedRequest hd bytes s

end Sys2Proof.Machine
end

