-- ==== Sys2Proof/Machine/Step.lean ====
section
/-!
DEFINITION. Machine/Step.lean: one step of the block takes the command at the front of its queue and gives it its effect.
-/

namespace Sys2Proof.Machine

/-- One step: the command at the front of the queue, run on the state with the queue's rest. On an empty queue the block
idles: every effect of time is a command of the table. (DESIGN CHOICE; DEDUCED, log entries 2, 3) -/
def step (s : State) : Host.Outcome State Fault Refusal :=
  match s.pending with
  | [] => .next s
  | c :: rest => exec c { s with pending := rest }

/-- The state with the command a word spells put at the front of its queue; the state itself where it spells none. -/
def State.withFetchWord (s : State) (nbits w : Nat) : State :=
  match decodeTableWord nbits w with
  | none => s
  | some c => { s with pending := c :: s.pending }

end Sys2Proof.Machine
end

