-- ==== Sys2Proof/Safety.lean ====
section
/-!
DEFINITION. Safety.lean: the terms that claims about the block use: which pieces of its state a command may change, the
form of its memory, and when its lasers are gated.
-/

namespace Sys2Proof.Machine

/-- The pieces of the device's state, one for each field of Dev. -/
inductive Piece where
  | part | now | freeCtr | emitted | porstLow | regs | dict | cnt | host | cab | mon | chans | prot | lanes | ports | bond
  | cipher | act | fs | up | lc | tm | cls | fwd | sb | mc | sec | pwr | trib | dic | img | boot
deriving DecidableEq, Repr

/-- A piece is the same in two devices. -/
def Piece.same (a b : Dev) : Piece → Prop
  | .part => b.part = a.part
  | .now => b.now = a.now
  | .freeCtr => b.freeCtr = a.freeCtr
  | .emitted => b.emitted = a.emitted
  | .porstLow => b.porstLow = a.porstLow
  | .regs => b.regs = a.regs
  | .dict => b.dict = a.dict
  | .cnt => b.cnt = a.cnt
  | .host => b.host = a.host
  | .cab => b.cab = a.cab
  | .mon => b.mon = a.mon
  | .chans => b.chans = a.chans
  | .prot => b.prot = a.prot
  | .lanes => b.lanes = a.lanes
  | .ports => b.ports = a.ports
  | .bond => b.bond = a.bond
  | .cipher => b.cipher = a.cipher
  | .act => b.act = a.act
  | .fs => b.fs = a.fs
  | .up => b.up = a.up
  | .lc => b.lc = a.lc
  | .tm => b.tm = a.tm
  | .cls => b.cls = a.cls
  | .fwd => b.fwd = a.fwd
  | .sb => b.sb = a.sb
  | .mc => b.mc = a.mc
  | .sec => b.sec = a.sec
  | .pwr => b.pwr = a.pwr
  | .trib => b.trib = a.trib
  | .dic => b.dic = a.dic
  | .img => b.img = a.img
  | .boot => b.boot = a.boot

/-- From device a to device b only these pieces may differ. -/
def Only (ps : List Piece) (a b : Dev) : Prop := ∀ p, p ∉ ps → p.same a b

/-- From device a to device b no register but instances of these reads otherwise in its stored bits (R12, R473). -/
def KeepRegs (rs : List Reg) (a b : Dev) : Prop := ∀ r i, r ∉ rs → i < (regPlace r).2.2 → reg b r i = reg a r i

/-- From device a to device b only these pieces, and of the registers only these, may differ. -/
def Frame (ps : List Piece) (rs : List Reg) (a b : Dev) : Prop := Only ps a b ∧ KeepRegs rs a b

/-- The pieces that a counted event touches: the counters, the registers with the wrap flags and events, and what signals
a vector (R575, R579, R584). -/
def countPieces : List Piece := [.cnt, .regs, .host, .emitted]

/-- The registers that a counted event may touch (R575, R579). -/
def countRegs : List Reg := [.cnWrap, .cnEvent, .scCfg]

/-- The pieces that the passing of time touches: the clock, the selectable counters on it, and what their wrap signals (R575,
R579). -/
def timePieces : List Piece := [.now, .cnt, .regs, .host, .emitted]

/-- The registers that the passing of time may touch (R579). -/
def timeRegs : List Reg := [.scCfg, .cnEvent]

/-- n steps, as long as each answers a next state. -/
def run : Nat → State → Option State
  | 0, s => some s
  | n + 1, s =>
    match step s with
    | .next t => run n t
    | _ => none

/-- The commands that may change the bytes of the in-package memory: the host's accesses, the migration engine's steps, the
loading of a service cluster, and what starts the part anew (R457, R463, R529, R631). -/
def touchesMemory : Instr → Bool
  | .cxlMemAccess _ _ => true
  | .migrationStep _ _ => true
  | .clusterLoad _ _ _ _ => true
  | .powerGood _ => true
  | .warmReset _ => true
  | .oscRdy _ => true
  | _ => false

/-- A command runs wherever pre holds: from every state whose part is out of reset and whose device meets pre, it answers a
next state with the queue and every byte of memory as they were, whose device stands to the one before as post says. -/
def Runs (c : Instr) (pre : Dev → Prop) (post : Dev → Dev → Prop) : Prop :=
  ∀ s : State, s.dev.porstLow = false → pre s.dev → ∃ d, exec c s = .next { s with dev := d } ∧ post s.dev d

/-- The same of a command that brings its instant: pre and post speak of the device once time has moved on to it. -/
def RunsAt (c : Instr) (t : Time) (pre : Dev → Prop) (post : Dev → Dev → Prop) : Prop :=
  ∀ s : State, s.dev.porstLow = false → pre (tick t s.dev) →
    ∃ d, exec c s = .next { s with dev := d } ∧ post (tick t s.dev) d

/-- Whatever the state, a command that answers a next state keeps the queue and the memory, and changes only these pieces of
the device and only these registers. -/
def Keeps (c : Instr) (ps : List Piece) (rs : List Reg) : Prop :=
  ∀ s t : State, exec c s = .next t → t.pending = s.pending ∧ t.mem = s.mem ∧ Frame ps rs s.dev t.dev

/-- The line engine acts on a message of a type: it runs, the channel is up and not in AIS, the message suits its flow, is meant for this
terminal, passes its check, has an action in the activation state and, where directed, is no repetition (R134, R135, R138,
R139). -/
def messageActs (ty : Nat) (m : CtlMsg) (d : Dev) : Bool :=
  lineHears m d && mType m == ty && rightFlow m &&
    (isBroadcast m || (numHeld d && mAddr m == termNum d)) && (checkFails m d).isNone &&
    actsIn ty (isBroadcast m) (actState d) &&
    (isBroadcast m || d.act.lastDirected.all (fun x => !(x.1 == mType m && x.2.1 == mSeq m)))

/-- What a drop port's node offers: the queue, and the device after the purge and the deficits that choose it (R277, R332). -/
def offered (n : Nat) (d : Dev) : Option Nat × Dev := nextQueue (pausedQueue d n) (headLength n) n (purgeNode n d)

/-- A frame as a drop port sends it: padded to 60 bytes, with its FCS (R246). -/
def onWire (bs : List Byte) : List Byte :=
  bs ++ List.replicate (60 - bs.length) 0 ++ fcsBytes (bs ++ List.replicate (60 - bs.length) 0)

/-- A frame of a drop port as a packet at its entry under the current slot (R255, R276). -/
def entering (n : Nat) (frame : List Byte) (d : Dev) : Pkt :=
  { bytes := frame.take (frame.length - 4), inSrc := n, pipe := portPipe n, slot := currentSlot d, entryAt := d.now }

/-- A packet classified by its walk is sent to queue q of drop port n: a matching or default rule with disposition 3,
unmetered and unedited, whose target is not its own port, and which the queue admits (R263, R265, R266, R342). -/
def goesTo (d : Dev) (p : Pkt) (n q : Nat) : Bool :=
  match walk d p.pipe p.slot false (keyOf (fld d fCL_CTRL_TPID3 0) p) with
  | .rule r _ =>
    (actionsOf r).disp == 3 && !(actionsOf r).polEn && !(actionsOf r).pcpSet && (actionsOf r).target == n &&
      (actionsOf r).queue == q && p.replay.isNone && ingressPort p != some n && decide (n < d.part.ports) &&
      decide (q < (node d n).queues) && admits d (64 * n + q) (cellsOf p.bytes.length) p.marked
  | _ => false

/-- What a frame of the repair drawer asks for: programme, first key and number, where its request is well formed, the
programme has keys and the port's budget covers it (R378 to R380). -/
def repairAsk (port : Nat) (bs : List Byte) (d : Dev) : Option (Nat × Nat × Nat) :=
  let pl := bs.drop (parse bs (fld d fCL_CTRL_TPID3 0)).l3Off
  let m := bytesToNat ((pl.drop 2).take 2)
  let first := bytesToNat ((pl.drop 4).take 4)
  let n := bytesToNat ((pl.drop 8).take 2)
  if pl.length < 16 ∨ pl.take 2 ≠ [1, 1] ∨ 1023 < m ∨ n = 0 ∨ 1024 < n ∨ (progField d m 8 0 = 16 ∧ 65536 ≤ first) ∨
      ¬ progEnabled d m ∨ progField d m 8 0 = 0 ∨ repairTokens d port / 125000 < n then none
  else some (m, first, n)

/-- A dictionary request is taken by its path: the Secretary runs, what carries the request accepts it, it is not too long,
its ID is a new one, and the path has no abandon to tell (R507, R510, R512, R515). -/
def asks (hd : DictHead) (bs : List Byte) (d : Dev) : Bool :=
  secretaryRuns d && (carried hd bs d).1 && decide (bs.length ≤ 8192) && !(pathSt d hd.path).abandoned &&
    (pathSt d hd.path).lastId.all (fun l => l != hd.reqId && !idEarlier hd.reqId l)

/-- A read by a path answers the committed value or the default of an entry: a configuration entry that the path may read, whose
unit is present and which no unit shows live (R497, R516). -/
def readsPlain (d : Dev) (p : Path) (index sub : Nat) : Bool :=
  sub != 0 && (findEntry index sub).toOption.any (fun e =>
    e.kind == .config && e.right p != 0 && !unitAbsent d e index sub && (liveConfig d index sub).isNone)

/-- The registers whose write does more than store what R14 says, each by its own rule. -/
def actsOnWrite : List Reg :=
  [.lcCtrl, .lcLane, .protCtrl, .cyKeyData, .cyKeyData5, .cyKeyCmd, .actCtrl, .dpCtrl, .dpMac, .dpFc, .lntCtrl, .lntInject,
   .clWinData, .tmAccCmd, .sbCmd, .trCtrl, .tsiCmd, .tbCfg, .ltCtrl, .ltServo, .ltPps, .ltSwOffset, .ltCmd, .dringCfg,
   .rxcCfg, .rxbCfg, .txrCfg, .bnsCfg, .bncCfg, .drwCtrl, .mbCmd, .bnCtrl, .bnCancel, .pwReq, .pwLl, .cnSummaryMask, .scCfg,
   .cabCtrl]

/-- The registers whose read does more than answer (R14). -/
def actsOnRead : List Reg := [.clWinStatus, .ltNowNs, .scCnt, .cabRdData, .thTs]

/-- The lasers are gated: where the Firescreen drives BEN of a present channel, the channel is not tripped, the terminal is
not stopped, nothing has failed and no thermal hold applies (R201, R202, R207, R209, R214). -/
def lasersGated (d : Dev) : Prop :=
  ∀ n, (fsChan d n).ben = true →
    (fsChan d n).stage = 0 ∧ d.fs.stopped = false ∧ d.fs.failDark = false ∧ d.fs.undriven = false ∧ d.fs.thermal = false

/-- A state a safe run may be in: the memory in its canonical form and the lasers gated. -/
def State.Safe (s : State) : Prop := s.mem.wf = true ∧ lasersGated s.dev

end Sys2Proof.Machine
end

