-- ==== Sys2Proof/Certificates/Slice0/Obligations.lean ====
section
/-!
DEFINITION. Certificates/Slice0/Obligations.lean: the statements for the provers, each from the rules it names.
-/

open Sys2Proof Sys2Proof.Machine

/-- A step runs the command at the front of the queue, and idles on an empty queue (95_what_each_step_holds.md). -/
def Obligations.StepRunsFrontCommand : Prop :=
  (∀ (c : Instr) (rest : List Instr) (s : State),
    s.pending = c :: rest → step s = exec c { s with pending := rest }) ∧
  (∀ s : State, s.pending = [] → step s = .next s)

/-- Every command, in every state, completes with a next state and leaves the queue (95_what_each_step_holds.md). -/
def Obligations.EveryCommandCompletes : Prop :=
  ∀ (c : Instr) (s : State), ∃ t, exec c s = .next t ∧ t.pending = s.pending

/-- Every queue of commands runs to its end (95_what_each_step_holds.md). -/
def Obligations.RunEmptiesQueue : Prop :=
  ∀ s : State, ∃ t, run s.pending.length s = some t ∧ t.pending = []

/-- Only the host, the migration engine, a cluster load and a start change a byte of memory (R448, R457, R463, R529, R631). -/
def Obligations.MemoryBytesKept : Prop :=
  ∀ (c : Instr) (s t : State), touchesMemory c = false → exec c s = .next t →
    ∀ a, t.mem.read a = s.mem.read a

/-- Every step keeps the memory in its canonical form (R448, R463). -/
def Obligations.MemoryStaysCanonical : Prop :=
  ∀ s t : State, s.mem.wf = true → step s = .next t → t.mem.wf = true

/-- At reset the memory is in its canonical form, every drawer is within its depth and the queue is empty (R483, R493, R630). -/
def Obligations.ResetMeetsTheInvariants : Prop :=
  State.reset.mem.wf = true ∧ (∀ n, (drawer State.reset.dev n).items.length ≤ drawerDepth n) ∧ State.reset.pending = [] ∧
  State.reset.dev.porstLow = true

/-- Every step keeps every drawer within its depth (R483, R489, R493). -/
def Obligations.DrawersStayWithinDepth : Prop :=
  ∀ s t : State, (∀ n, (drawer s.dev n).items.length ≤ drawerDepth n) → step s = .next t →
    ∀ n, (drawer t.dev n).items.length ≤ drawerDepth n

/-- While PORST_N is low nothing but power-good has an effect (R630). -/
def Obligations.NothingHappensInReset : Prop :=
  ∀ (c : Instr) (s : State), s.dev.porstLow = true → (∀ b, c ≠ .powerGood b) → exec c s = .next s

/-- Lanes find, keep and lose the frame: loss of signal, the hunt, errored patterns and Sync (R35, R48, R61, R72, R47, R49, R52,
R36). -/
def Obligations.LineReception : Prop :=
  (∀ (t : Time) (ch : Fin 16) (l : Lane), RunsAt (.losEntered t ch (.noLock l)) t
    (fun a => chanPresent a ch = true ∧ a.prot.settling = false)
    (fun _ d => (laneOf (chan d ch) (l == .b)).al.align = .los ∧ (laneOf (chan d ch) (l == .b)).noSignal = true)) ∧
  (∀ (t : Time) (ch : Fin 16) (l : Lane), RunsAt (.losEntered t ch (.noTransitions l)) t
    (fun a => chanPresent a ch = true ∧ a.prot.settling = false)
    (fun _ d => (laneOf (chan d ch) (l == .b)).al.align = .los ∧ (laneOf (chan d ch) (l == .b)).noSignal = true)) ∧
  (∀ (t : Time) (ch : Fin 16), RunsAt (.losEntered t ch .rxlos) t
    (fun a => chanPresent a ch = true ∧ a.prot.settling = false)
    (fun _ d => (chan d ch).rxlos = true ∧ (chan d ch).laneA.al.align = .los ∧ (chan d ch).laneB.al.align = .los)) ∧
  (∀ (t : Time) (ch : Fin 16) (l : Lane), RunsAt (.losLeft t ch l) t
    (fun a => chanPresent a ch = true ∧ (serial a (rxKey ch (l == .b))).st = 6 ∧ a.prot.settling = false ∧
      (laneOf (chan a ch) (l == .b)).al.align = .los)
    (fun _ d => (laneOf (chan d ch) (l == .b)).al.align = .hunt ∧ (laneOf (chan d ch) (l == .b)).noSignal = false ∧
      (chan d ch).rxlos = false)) ∧
  (∀ (f : LineFrame) (p : Nat) (k : Nat) (h : Nat), RunsAt (.lineFrameReceived f) f.t
    (fun a => chanEnabled a f.ch = true ∧ a.prot.settling = false ∧ engineRuns a = true ∧
      (laneOf (chan a f.ch) (f.lane == .b)).al.align = .hunt ∧ (laneOf (chan a f.ch) (f.lane == .b)).al.cands = [] ∧
      foundSights (fld a (if f.lane == .b then fLC_CTRL_RX_INV_B else fLC_CTRL_RX_INV_A) f.ch == 1) f.sightings = [(p, k, h)])
    (fun _ d => (laneOf (chan d f.ch) (f.lane == .b)).al.align = .presync ∧
      (laneOf (chan d f.ch) (f.lane == .b)).al.cands.map (·.pos) = [p])) ∧
  (∀ (f : LineFrame), RunsAt (.lineFrameReceived f) f.t
    (fun a => chanEnabled a f.ch = true ∧ a.prot.settling = false ∧ engineRuns a = true ∧
      (laneOf (chan a f.ch) (f.lane == .b)).al.align = .sync ∧
      fld a fLC_CTRL_ALIGN_M f.ch ≤ (laneOf (chan a f.ch) (f.lane == .b)).al.errRun + 1 ∧
      (foundSights (fld a (if f.lane == .b then fLC_CTRL_RX_INV_B else fLC_CTRL_RX_INV_A) f.ch == 1) f.sightings).any
        (fun x => x.1 == (laneOf (chan a f.ch) (f.lane == .b)).al.pos) = false)
    (fun _ d => (laneOf (chan d f.ch) (f.lane == .b)).al.align = .hunt ∧ (laneOf (chan d f.ch) (f.lane == .b)).al.errRun = 0 ∧
      chanUp d f.ch = false))

/-- A frame boundary puts ranged delays into force; the comb switches path by defect and by order (R39, R144, R70, R71, R72,
R73, R75, R78, R650). -/
def Obligations.BoundaryAndProtection : Prop :=
  (∀ (t : Time) (inp : BoundaryInputs) (v : Nat), RunsAt (.frameBoundary t inp) t
    (fun a => engineRuns a = true ∧ a.act.delayPend = [(0, v)] ∧ v < 2 ^ 24)
    (fun _ d => fld d fACT_EQD_W_EQD 0 = v ∧ fld d fACT_STATUS_RANGED_W 0 = 1 ∧ d.act.delayPend = [])) ∧
  (∀ (t : Time), RunsAt (.holdoffExpiry t) t
    (fun a => a.prot.state = .holdoff ∧ a.prot.due ≤ a.now ∧ (protAuto a && protFault a) = true)
    (fun a d => d.prot = { a.prot with state := .settle, cause := 1, sel := !a.prot.sel, chestPath := !a.prot.sel, settling := true, settleDue := a.now + settleTime a, checking := false, atStart := false })) ∧
  (∀ (t : Time), RunsAt (.holdoffExpiry t) t
    (fun a => a.prot.state = .holdoff ∧ a.prot.due ≤ a.now ∧ (protAuto a && protFault a) = false)
    (fun a d => d.prot = { a.prot with state := .normal, checking := false, atStart := false })) ∧
  (∀ (t : Time), RunsAt (.settleEnd t) t
    (fun a => a.prot.settling = true ∧ a.prot.settleDue ≤ a.now)
    (fun _ d => d.prot.settling = false)) ∧
  (∀ (t : Time), RunsAt (.protectionCheckExpiry t) t
    (fun a => a.prot.checking = true ∧ a.prot.checkDue ≤ a.now ∧ anyUp a = false ∧ protAuto a = true)
    (fun a d => d.prot = { a.prot with state := .alternating, cause := 1, sel := !a.prot.sel, chestPath := !a.prot.sel, settling := true, settleDue := a.now + settleTime a, checking := false, atStart := false, due := a.now + Config.sec })) ∧
  (∀ (t : Time), RunsAt (.alternationDwellExpiry t) t
    (fun a => a.prot.state = .alternating ∧ a.prot.due ≤ a.now ∧ anyUp a = false ∧ protAuto a = true)
    (fun a d => d.prot = { a.prot with state := .alternating, cause := 1, sel := !a.prot.sel, chestPath := !a.prot.sel, settling := true, settleDue := a.now + settleTime a, checking := false, atStart := false, due := a.now + Config.sec })) ∧
  (∀ (t : Time) (v : Word), RunsAt (.switchToWorking t v) t
    (fun a => fld a fPROT_CTRL_ENABLE 0 = 1 ∧ bitsOf v.toNat 1 1 = 1 ∧ bitsOf v.toNat 5 4 = 1)
    (fun _ d => d.prot.sel = false)) ∧
  (∀ (t : Time) (v : Word), RunsAt (.switchToProtection t v) t
    (fun a => fld a fPROT_CTRL_ENABLE 0 = 1 ∧ bitsOf v.toNat 1 1 = 1 ∧ bitsOf v.toNat 5 4 = 2)
    (fun _ d => d.prot.sel = true)) ∧
  (∀ (t : Time) (b : Bool), RunsAt (.lockoutDeviceCommit t) t
    (fun a => a.act.lockoutDue = some b ∧ secretaryRuns a = true ∧ a.dic.unsaved < 32768)
    (fun _ d => dictBool d 0x2100 4 (!b) = b ∧ d.act.lockoutDue = none))

/-- Burst Profile, Assign Terminal, Ranging Request and Ranging Time act by the activation state (R129, R131, R134, R137, R139,
R147, R170, R143, R144, R145, R651). -/
def Obligations.JoiningMessages : Prop :=
  (∀ (m : CtlMsg), RunsAt (.burstProfile m) m.t
    (fun a => messageActs 0x01 m a = true ∧ badProfile m = false)
    (fun a d => fld d fPROF_CFG_HELD (mf m 4 1 % 4) = (msgProfile m).held.toNat ∧
      d.up.profHist.head? = some { prof := mf m 4 1 % 4, fc := m.fc, old := profNow a (mf m 4 1 % 4) })) ∧
  (∀ (m : CtlMsg), RunsAt (.assignTerminal m) m.t
    (fun a => messageActs 0x02 m a = true ∧ mf m 4 8 = ownSerial ∧ actState a ≠ 4 ∧ mf m 12 2 ≤ 511 ∧
      mf m 14 1 ≤ 15 ∧ chanEnabled a (mf m 14 1) = true ∧ a.pwr.lifeline = false ∧
      (a.pwr.state = 0 ∨ a.pwr.state = 1) ∧
      (List.range 50).all (fun n => pdState a n == domState a a.pwr.state false n) = true)
    (fun a d => fld d fACT_STATUS_TERM_NUM 0 = mf m 12 2 ∧ fld d fACT_STATUS_NUM_VALID 0 = 1 ∧ homeChan d = mf m 14 1 ∧
      actState d = 3 ∧ d.act.rangingDue = some (a.now + fld a fACT_CTRL_RANGING_TIMER 0 * Config.ms))) ∧
  (∀ (m : CtlMsg), RunsAt (.rangingRequest m) m.t
    (fun a => messageActs 0x03 m a = true ∧ mf m 4 1 ≤ 15 ∧ chanPresent a (mf m 4 1) = true ∧
      chanUp a (mf m 4 1) = true ∧ mf m 5 1 = pathNow a)
    (fun _ d => d.act.provDelay = mf m 6 3 ∧ d.act.ranging = some (mf m 4 1, m.fc))) ∧
  (∀ (m : CtlMsg) (v : Nat), RunsAt (.rangingTime m) m.t
    (fun a => messageActs 0x04 m a = true ∧ mf m 4 1 ≤ 1 ∧ mf m 5 1 ≤ 1 ∧
      msgDelay m (latestDelay a (mf m 4 1)) = some v)
    (fun a d => d.act.delayPend = a.act.delayPend ++ [(mf m 4 1, v)] ∧ fld d fACT_EVENT_RANGED 0 = 1 ∧
      (actState a = 3 ∧ mf m 4 1 = pathNow a → actState d = 4)))

/-- Deactivate, Disable and Enable, and the two forms of Key Control (R129, R139, R148, R149, R150, R114, R137, R138, R651). -/
def Obligations.StopAndKeyMessages : Prop :=
  (∀ (m : CtlMsg), RunsAt (.deactivate m) m.t
    (fun a => messageActs 0x05 m a = true)
    (fun _ d => numHeld d = false ∧ (actState d = 1 ∨ actState d = 2) ∧ fld d fACT_EVENT_DEACTIVATED 0 = 1 ∧
      d.act.rangingDue = none)) ∧
  (∀ (m : CtlMsg), RunsAt (.disable m) m.t
    (fun a => messageActs 0x06 m a = true ∧ mf m 4 1 ≤ 1 ∧ scopeNames m = true)
    (fun _ d => actState d = 6 ∧ d.act.stopRecord = some (BitVec.ofNat 32 (mf m 13 4)) ∧ d.act.consent = false ∧ d.act.release = false)) ∧
  (∀ (m : CtlMsg), RunsAt (.enable m) m.t
    (fun a => messageActs 0x07 m a = true ∧ mf m 4 1 ≤ 1 ∧ BitVec.ofNat 32 (mf m 15 4) = a.fs.nonce ∧
      enableNames m (if numHeld a then some (termNum a) else none) = true ∧
      fld a fACT_CTRL_INHIBIT 0 = 0 ∧ secretaryActs a = true)
    (fun _ d => actState d ≤ 2 ∧ d.act.stopRecord = none ∧ numHeld d = false)) ∧
  (∀ (m : CtlMsg), RunsAt (.enable m) m.t
    (fun a => messageActs 0x07 m a = true ∧ mf m 4 1 ≤ 1 ∧ BitVec.ofNat 32 (mf m 15 4) = a.fs.nonce ∧
      enableNames m (if numHeld a then some (termNum a) else none) = true ∧ fld a fACT_CTRL_INHIBIT 0 = 1)
    (fun _ d => actState d = 6 ∧ d.act.consent = true)) ∧
  (∀ (m : CtlMsg), RunsAt (.keyControlSwitch m) m.t
    (fun a => messageActs 0x08 m a = true ∧ mf m 4 1 = 1 ∧ mf m 5 1 ≤ 3)
    (fun _ d => d.act.keySwitch = some (mf m 5 1, BitVec.ofNat 48 (max (mf m 6 6) (m.fc.toNat + 1))))) ∧
  (∀ (m : CtlMsg), RunsAt (.keyControlReport m) m.t
    (fun a => messageActs 0x08 m a = true ∧ mf m 4 1 = 2 ∧ mf m 5 1 ≤ 3 ∧ mAck m = true)
    (fun a d => d.act.outbox.length = a.act.outbox.length + 1 ∧
      d.act.outbox.getLast?.map (fun x => (x.drop 4).take 10) = some ([8, BitVec.ofNat 8 (mSeq m), 0] ++ keyReport a))) ∧
  (∀ (t : Time) (i : Nat) (f : Word), RunsAt (.keySwitchCommit t) t
    (fun a => a.act.keySwitch = some (i, f) ∧ i ≤ 3 ∧ f ≤ frameNow a + 1)
    (fun _ d => txIndex d 0 = i ∧ d.act.keySwitch = none))

/-- Time of Day, Sleep Allow and Protection Control, and the timers of the activation (R75, R137, R139, R151, R421, R651, R129,
R130, R131, R154). -/
def Obligations.OtherMessagesAndTimers : Prop :=
  (∀ (m : CtlMsg), RunsAt (.timeOfDay m) m.t
    (fun a => messageActs 0x09 m a = true ∧ mf m 16 4 ≤ 999999999 ∧
      a.lc.history.any (fun h => h.fc == BitVec.ofNat 48 (mf m 4 6)) = false ∧ numHeld a = true ∧
      frameNow a < BitVec.ofNat 48 (mf m 4 6) ∧ mf m 4 6 ≤ (frameNow a).toNat + 8000)
    (fun _ d => d.lc.heldTod = some (BitVec.ofNat 48 (mf m 4 6), (mf m 10 6 * 1000000000 + mf m 16 4) * 65536 + mf m 20 2))) ∧
  (∀ (m : CtlMsg), RunsAt (.sleepAllow m) m.t
    (fun a => messageActs 0x0A m a = true ∧ mf m 4 1 = 1 ∧ 0 < mf m 6 2)
    (fun a d => d.act.sleepStates = mf m 5 1 % 4 ∧ d.act.sleepUntil = some (a.now + mf m 6 2 * Config.sec) ∧
      fld d fACT_EVENT_SLEEP_CONSENT 0 = 1)) ∧
  (∀ (m : CtlMsg), RunsAt (.sleepAllow m) m.t
    (fun a => messageActs 0x0A m a = true ∧ mf m 4 1 = 0)
    (fun _ d => d.act.sleepStates = 0 ∧ d.act.sleepUntil = none)) ∧
  (∀ (m : CtlMsg), RunsAt (.protectionControl m) m.t
    (fun a => messageActs 0x0B m a = true ∧ (mf m 4 1 = 1 ∨ mf m 4 1 = 2) ∧ mf m 5 1 = 0 ∧ fld a fPROT_CTRL_ENABLE 0 = 1)
    (fun _ d => d.prot.sel = (mf m 4 1 == 2))) ∧
  (∀ (t : Time) (x : Time), RunsAt (.rangingTimerExpiry t) t
    (fun a => actState a = 3 ∧ a.act.rangingDue = some x ∧ x ≤ a.now)
    (fun _ d => numHeld d = false ∧ (actState d = 1 ∨ actState d = 2) ∧ d.act.rangingDue = none ∧
      fld d fACT_EVENT_RANGING_EXPIRED 0 = 1)) ∧
  (∀ (t : Time) (x : Time), RunsAt (.lossTimerExpiry t) t
    (fun a => actState a = 5 ∧ a.act.lossDue = some x ∧ x ≤ a.now)
    (fun _ d => numHeld d = false ∧ actState d = 0 ∧ d.act.lossDue = none ∧ fld d fACT_EVENT_LOSS_EXPIRED 0 = 1)) ∧
  (∀ (t : Time) (x : Time), RunsAt (.sleepConsentExpiry t) t
    (fun a => a.act.sleepUntil = some x ∧ x ≤ a.now)
    (fun _ d => d.act.sleepStates = 0 ∧ d.act.sleepUntil = none)) ∧
  (∀ (t : Time), RunsAt (.pfailRise t) t
    (fun _ => True)
    (fun _ d => d.act.pfailLow = false ∧ d.act.gaspPending = false)) ∧
  (∀ (t : Time), RunsAt (.pfailFall t) t
    (fun a => a.act.battLow = false)
    (fun a d => d.act.pfailLow = true ∧ d.act.pfailAt = a.now ∧ d.act.gaspPending = (actState a == 4) ∧ d.act.gaspSent = []))

/-- The key commands write, erase and read entries and check-value slots and give their RESULT (R114, R118, R119, R123). -/
def Obligations.KeyRegisters : Prop :=
  (∀ (e : BitVec 8), Runs (.keyWriteEntry e)
    (fun a => keyInUse a e.toNat = false)
    (fun a d => keyEntry d e.toNat = { key := some (keyData a) } ∧ fld d fCY_KEY_STATUS_RESULT 0 = 0)) ∧
  (∀ (e : BitVec 8), Runs (.keyWriteEntry e)
    (fun a => keyInUse a e.toNat = true)
    (fun a d => d.cipher = a.cipher ∧ fld d fCY_KEY_STATUS_RESULT 0 = 1)) ∧
  (∀ (e : BitVec 8), Runs (.keyEraseEntry e)
    (fun a => keyInUse a e.toNat = false)
    (fun _ d => keyEntry d e.toNat = {} ∧ fld d fCY_KEY_STATUS_RESULT 0 = 0)) ∧
  (∀ (e : BitVec 8), Runs (.keyEraseEntry e)
    (fun a => keyInUse a e.toNat = true)
    (fun a d => d.cipher = a.cipher ∧ fld d fCY_KEY_STATUS_RESULT 0 = 1)) ∧
  (∀ (e : BitVec 8), Runs (.keyReadEntryState e)
    (fun _ => True)
    (fun a d => reg d .cyKeyCount 0 = (keyEntry a e.toNat).count ∧ d.cipher = a.cipher ∧ fld d fCY_KEY_STATUS_RESULT 0 = 0 ∧
      fld d fCY_KEY_STATUS_STATE 0 = if (keyEntry a e.toNat).key.isNone then 0 else if (keyEntry a e.toNat).count = deadCount then 2 else 1)) ∧
  (∀ (k : BitVec 8), Runs (.checkValueSlotWrite k)
    (fun _ => k.toNat < 7)
    (fun a d => checkKey d k.toNat = some (keyData a) ∧ fld d fCY_KEY_STATUS_RESULT 0 = 0)) ∧
  (∀ (k : BitVec 8), Runs (.checkValueSlotWrite k)
    (fun _ => 7 ≤ k.toNat)
    (fun a d => d.cipher = a.cipher ∧ fld d fCY_KEY_STATUS_RESULT 0 = 2)) ∧
  (∀ (k : BitVec 8), Runs (.checkValueSlotErase k)
    (fun _ => k.toNat < 7)
    (fun _ d => checkKey d k.toNat = none ∧ fld d fCY_KEY_STATUS_RESULT 0 = 0)) ∧
  (∀ (k : BitVec 8), Runs (.checkValueSlotErase k)
    (fun _ => 7 ≤ k.toNat)
    (fun a d => d.cipher = a.cipher ∧ fld d fCY_KEY_STATUS_RESULT 0 = 2)) ∧
  (∀ (o : BitVec 3) (e : BitVec 8), Runs (.keyCommandInvalid o e)
    (fun _ => o = 0 ∨ o = 4 ∨ o = 7)
    (fun a d => d.cipher = a.cipher ∧ fld d fCY_KEY_STATUS_RESULT 0 = 2)) ∧
  (∀ (i : Fin 3) (v : Word), Runs (.txIndexWrite i v)
    (fun _ => True)
    (fun _ d => ∀ j : Fin 24, 24 * i.val + j.val < 64 → txIndex d (24 * i.val + j.val) = bitsOf v.toNat (2 * j.val + 1) (2 * j.val)))

/-- An envelope is discarded, joins its packet or waits in its flow; the reorder window gives up a gap (R85, R86, R91, R94,
R100, R101, R108). -/
def Obligations.EnvelopesIn : Prop :=
  (∀ (e : EnvelopeIn), RunsAt (.envelopeReceived e) e.t
    (fun a => laneGives a e.ch (e.lane == .b) = true ∧ (laneOf (chan a e.ch) (e.lane == .b)).delin = .sync ∧
      (laneOf (chan a e.ch) (e.lane == .b)).nextWord ≤ e.word ∧ e.word < areaSize (laneOf (chan a e.ch) (e.lane == .b)) (e.lane == .b) ∧
      a.pwr.heldMgmt = [] ∧ e.headerErrored = false ∧ envCheckOk e.header = true ∧
      e.payloadErrored = false ∧ e.word + envWords e.header ≤ areaSize (laneOf (chan a e.ch) (e.lane == .b)) (e.lane == .b) ∧
      (envFlow e.header = 0xFFFD ∨ envFlow e.header = 0xFFFE) ∧ envLen e.header = 48 ∧ knownType (e.payload.headD 0).toNat = true)
    (fun a d => d.act.inbox = a.act.inbox ++ [⟨a.now, e.ch, (laneOf (chan a e.ch) (e.lane == .b)).al.fc, BitVec.ofNat 16 (envFlow e.header), e.payload.take 48⟩] ∧
      (laneOf (chan d e.ch) (e.lane == .b)).nextWord = e.word + envWords e.header)) ∧
  (∀ (e : EnvelopeIn), RunsAt (.envelopeReceived e) e.t
    (fun a => laneGives a e.ch (e.lane == .b) = true ∧ (laneOf (chan a e.ch) (e.lane == .b)).delin = .sync ∧
      (laneOf (chan a e.ch) (e.lane == .b)).nextWord ≤ e.word ∧ e.word < areaSize (laneOf (chan a e.ch) (e.lane == .b)) (e.lane == .b) ∧
      a.pwr.heldMgmt = [] ∧ e.headerErrored = false ∧ envCheckOk e.header = false ∧
      ((laneOf (chan a e.ch) (e.lane == .b)).headerBad = false ∨ e.lane = .b))
    (fun a d => (laneOf (chan d e.ch) (e.lane == .b)).delin = .hunt ∧ (laneOf (chan d e.ch) (e.lane == .b)).nextWord = e.word + 1 ∧
      counter d .envHeaderFail (laneScope e.ch (e.lane == .b)) = counter a .envHeaderFail (laneScope e.ch (e.lane == .b)) + 1)) ∧
  (∀ (t : Time) (f : BitVec 16) (k : Nat) (x : BondEnv) (q : Nat), RunsAt (.reorderWindowExpiry t f) t
    (fun a => downSlot a f.toNat = some k ∧ isMgmt a k = false ∧ (bondFlow a k).held = [x] ∧ (bondFlow a k).expected = some q ∧
      q < 4096 ∧ x.seq < 4096 ∧ a.pwr.heldMgmt = [] ∧ x.since + fld a fBOND_CTRL_WINDOW 0 * Config.us ≤ a.now)
    (fun _ d => (bondFlow d k).held = [] ∧ (bondFlow d k).expected = some ((x.seq + 1) % 4096))) ∧
  (∀ (t : Time) (f : BitVec 16) (k : Nat) (x : BondEnv) (l : List BondEnv), RunsAt (.reorderWindowExpiry t f) t
    (fun a => downSlot a f.toNat = some k ∧ (bondFlow a k).held = x :: l ∧ a.pwr.heldMgmt = [] ∧
      a.now < x.since + fld a fBOND_CTRL_WINDOW 0 * Config.us)
    (fun a d => d.bond = a.bond))

/-- A grant is filled in its order, its burst starts and ends, and the tributary block ends with its time (R165, R174, R176,
R184, R163, R166, R276, R188). -/
def Obligations.Bursts : Prop :=
  (∀ (t : Time) (ch : Fin 16) (bad : List (BitVec 14)) (g : Grant), RunsAt (.grantFill t ⟨ch, bad⟩) t
    (fun a => engineRuns a = true ∧ isTribGrant a g = false ∧
      firstGrant a (fun x => x.ch == ch && x.content.isNone && decide (grantBegin x ≤ a.now + fld a fLE_FILL_FILL_LEAD 0 * Config.us)) = some g)
    (fun _ d => d.up.grants.any (fun x => { x with content := none } == g && (match x.content with
        | some c => c.leadB.length == 1 && c.leadA.length == 1 + c.reports
        | none => false)) = true)) ∧
  (∀ (t : Time) (ch : Fin 16) (g : Grant), RunsAt (.wardrobePrefetchComplete t ch) t
    (fun a => firstGrant a (fun x => x.ch == ch && (x.content.map (·.fetched) == some false)) = some g)
    (fun _ d => d.up.grants.any (fun x => x == { g with content := g.content.map (fun c => { c with fetched := true }) }) = true)) ∧
  (∀ (t : Time) (ch : Fin 16) (g : Grant) (c : Content), RunsAt (.burstStart t ch) t
    (fun a => engineRuns a = true ∧ (fsChan a g.ch).ben = true ∧ g.content = some c ∧ c.fetched = true ∧
      firstGrant a (fun x => x.ch == ch && !x.started && decide (grantBegin x ≤ a.now)) = some g)
    (fun a d => d.emitted.any (fun x => x == burstEmission (gapLevels a g) g c) = true ∧
      d.up.grants.any (fun x => x == { g with content := some c, started := true }) = true)) ∧
  (∀ (t : Time) (ch : Fin 16) (g : Grant), RunsAt (.burstEnd t ch) t
    (fun a => a.pwr.change = none ∧
      firstGrant a (fun x => x.ch == ch && x.started && decide (grantEnd x ≤ a.now)) = some g)
    (fun a d => d.up.grants = a.up.grants.erase g)) ∧
  (∀ (t : Time), RunsAt (.tribBlockExpiry t) t
    (fun a => a.up.blocks.any (fun b => decide (b.builtAt + 2 * Config.frame ≤ a.now)) = true)
    (fun a d => d.up.blocks = a.up.blocks.filter (fun b => decide (a.now < b.builtAt + 2 * Config.frame)) ∧
      fld d fLE_GRANT_EVENT_TRIB_LATE 0 = 1)) ∧
  (∀ (t : Time), RunsAt (.tribBlockExpiry t) t
    (fun a => a.up.blocks.any (fun b => decide (b.builtAt + 2 * Config.frame ≤ a.now)) = false)
    (fun a d => d = a))

/-- Frame timing, grant windows and the gate of BEN (R195, R202, R652, R197, R201). -/
def Obligations.FirescreenView : Prop :=
  (∀ (f : FsFrame), RunsAt (.fsFrameStart f) f.t
    (fun a => chanPresent a f.ch = true ∧ a.fs.undriven = false ∧ f.lane = .a ∧ (fsChan a f.ch).frames ≠ 0 ∧ (fsChan a f.ch).timing = false ∧
      (f.spacing < 6248 ∨ 6252 < f.spacing))
    (fun _ d => (fsChan d f.ch).timing = true ∧ (fsChan d f.ch).ben = false ∧ (fsChan d f.ch).up = false)) ∧
  (∀ (f : FsFrame), RunsAt (.fsFrameStart f) f.t
    (fun a => chanPresent a f.ch = true ∧ a.fs.undriven = false ∧ f.lane = .a ∧ (fsChan a f.ch).frames ≠ 0 ∧ (fsChan a f.ch).timing = true ∧
      6248 ≤ f.spacing ∧ f.spacing ≤ 6252)
    (fun a d => (fsChan d f.ch).timing = decide ((fsChan a f.ch).spaced < 7) ∧
      ((fsChan a f.ch).spaced < 7 → (fsChan d f.ch).spaced = (fsChan a f.ch).spaced + 1))) ∧
  (∀ (ch : Fin 16), Runs (.fsFrameTimeout ch)
    (fun a => chanPresent a ch = true)
    (fun _ d => (fsChan d ch).timing = true ∧ (fsChan d ch).up = false ∧ (fsChan d ch).upFrames = 0)) ∧
  (∀ (t : Time) (ch : Fin 16) (w : FsWindow), RunsAt (.fsWindowOpen t ch) t
    (fun a => (fsChan a ch).windows.contains w = true ∧ w.mode = .pending ∧ w.openAt ≤ a.now ∧ (chanHold a ch = true ∨ chanReady a ch = true))
    (fun a d => (fsChan d ch).windows.contains { w with mode := if chanHold a ch then .dark else .opened } = true)) ∧
  (∀ (t : Time) (ch : Fin 16), RunsAt (.fsWindowOpen t ch) t
    (fun a => chanHold a ch = false ∧ chanReady a ch = false)
    (fun a d => (fsChan d ch).windows = (fsChan a ch).windows.filter (fun w => decide (w.mode ≠ .pending ∨ a.now < w.openAt)))) ∧
  (∀ (t : Time) (ch : Fin 16) (l : Bool), RunsAt (.fsWindowClose t ch l) t
    (fun _ => True)
    (fun a d => (fsChan d ch).windows = (fsChan a ch).windows.filterMap (windowPast a.now) ∧
      (windowOver d ch a.now .opened = false → (fsChan d ch).ben = false))) ∧
  (∀ (t : Time) (ch : Fin 16), RunsAt (.benRequest t ch true) t
    (fun a => chanPresent a ch = true ∧ a.fs.undriven = false ∧ a.fs.failDark = false ∧ (fsChan a ch).ben = false ∧ chanHold a ch = false ∧
      (fsChan a ch).stage = 0 ∧ a.fs.stopped = false ∧ windowOver a ch a.now .dark = false ∧ windowOver a ch a.now .opened = true)
    (fun a d => (fsChan d ch).ben = true ∧ d.emitted.contains (.ben ch true a.now) = true)) ∧
  (∀ (t : Time) (ch : Fin 16), RunsAt (.benRequest t ch true) t
    (fun a => chanPresent a ch = true ∧ a.fs.undriven = false ∧ (fsChan a ch).ben = false ∧ chanHold a ch = false ∧
      (fsChan a ch).windows = [])
    (fun a d => (fsChan d ch).ben = false ∧ counter d .fsRefusedEnables ch = counter a .fsRefusedEnables ch + 1 ∧ fld d fFS_EVENT_REFUSED 0 = 1)) ∧
  (∀ (t : Time) (ch : Fin 16), RunsAt (.benRequest t ch false) t
    (fun a => chanPresent a ch = true ∧ a.fs.undriven = false)
    (fun _ d => (fsChan d ch).ben = false ∧ (fsChan d ch).request = false))

/-- Light and optics trip a channel, a failure of its own leaves every laser dark (R203, R205, R206, R207, R211, R202, R208,
R209). -/
def Obligations.FirescreenTripsAndFailures : Prop :=
  (∀ (t : Time) (ch : Fin 16), RunsAt (.lightOutsideWindow t ch) t
    (fun a => chanPresent a ch = true ∧ a.fs.undriven = false ∧ (fsChan a ch).stage = 0 ∧ (fsChan a ch).windows = [] ∧ (fsChan a ch).lightAt = none)
    (fun a d => (fsChan d ch).stage = 1 ∧ d.fs.cause = 1 ∧ d.fs.report = !everyDark d ∧ (fsChan d ch).ben = false ∧ (fsChan d ch).lightAt = some a.now)) ∧
  (∀ (t : Time) (ch : Fin 16) (x : Time), RunsAt (.stage2Timeout t ch true) t
    (fun a => a.fs.undriven = false ∧ (fsChan a ch).lightAt = some x ∧ x + Config.us ≤ a.now ∧ 0 < (fsChan a ch).stage)
    (fun a d => (fsChan d ch).stage = max (fsChan a ch).stage 2 ∧ txKillOn d ch = true)) ∧
  (∀ (t : Time) (ch : Fin 16) (x : Time), RunsAt (.stage3Timeout t ch true) t
    (fun a => a.fs.undriven = false ∧ chanPresent a ch = true ∧ (fsChan a ch).lightAt = some x ∧ x + 10 * Config.us ≤ a.now ∧ (fsChan a ch).stage = 2)
    (fun _ d => (fsChan d ch).stage = 3 ∧ allKillOn d = true)) ∧
  (∀ (t : Time) (ch : Fin 16), RunsAt (.stage2Timeout t ch false) t
    (fun a => a.fs.undriven = false)
    (fun a d => (fsChan d ch).lightAt = none ∧ (fsChan d ch).stage = (fsChan a ch).stage)) ∧
  (∀ (t : Time) (ch : Fin 16), RunsAt (.stage3Timeout t ch false) t
    (fun a => a.fs.undriven = false)
    (fun a d => (fsChan d ch).lightAt = none ∧ (fsChan d ch).stage = (fsChan a ch).stage)) ∧
  (∀ (r : OpticRead), RunsAt (.opticRead r) r.t
    (fun a => chanPresent a r.ch = true ∧ a.fs.locked = true ∧ a.fs.undriven = false ∧ (fsChan a r.ch).stage = 0 ∧ r.answered = true ∧
      (agetD a.fs.limits r.ch ⟨0, 0, 0, 0, 0, 0⟩).powerLimit < r.power)
    (fun _ d => 1 ≤ (fsChan d r.ch).stage ∧ d.fs.cause = 4 ∧ (fsChan d r.ch).badPower = true ∧ (fsChan d r.ch).ben = false)) ∧
  (∀ (t : Time) (x : Nat) (y : Nat), RunsAt (.selfTestPulse t .all x y) t
    (fun a => a.fs.undriven = false ∧ a.fs.failDark = false ∧ (60 < x ∨ 60 < y))
    (fun _ d => d.fs.failDark = true ∧ d.fs.failCause = 7 ∧ allKillOn d = true ∧ ∀ n < d.part.channels, (fsChan d n).ben = false)) ∧
  (∀ (t : Time) (ch : Fin 16) (x : Nat) (y : Nat), RunsAt (.selfTestPulse t (.tx ch) x y) t
    (fun a => a.fs.undriven = false ∧ a.fs.failDark = false ∧ x ≤ 60 ∧ y ≤ 60 ∧ chanPresent a ch = true ∧ a.fs.selfTestOk = false ∧
      (16 :: presentChans a).all (fun n => n == ch.val || a.fs.tested.contains n) = true)
    (fun a d => d.fs.selfTestOk = true ∧ d.fs.startup = false ∧ (a.fs.relatch = true → d.fs.cause = a.fs.failCause ∧ d.fs.killsHeld = false ∧ ∀ n < d.part.channels, (fsChan d n).stage = 3))) ∧
  (∀ (t : Time), RunsAt (.parityError t) t
    (fun a => a.fs.undriven = false ∧ a.fs.failDark = false)
    (fun _ d => d.fs.failDark = true ∧ d.fs.failCause = 8 ∧ allKillOn d = true ∧ ∀ n < d.part.channels, (fsChan d n).ben = false)) ∧
  (∀ (t : Time), RunsAt (.killSenseMismatch t .all) t
    (fun a => a.fs.undriven = false ∧ a.fs.failDark = false)
    (fun _ d => d.fs.failDark = true ∧ d.fs.failCause = 7 ∧ allKillOn d = true ∧ ∀ n < d.part.channels, (fsChan d n).ben = false)) ∧
  (∀ (t : Time) (c : Bool), RunsAt (.fsSupplyClockLoss t c) t
    (fun a => a.fs.undriven = false)
    (fun _ d => d.fs.undriven = true ∧ d.fs.failCause = 9 ∧ allKillOn d = true ∧ ∀ n < d.part.channels, (fsChan d n).ben = false))

/-- Release and restart by their keys; limits, settings and admission entries as written (R210, R212, R214, R200, R220). -/
def Obligations.FirescreenReleaseAndTables : Prop :=
  (∀ (t : Time) (n : BitVec 32), RunsAt (.fsRelease t n) t
    (fun a => n = a.fs.nonce ∧ a.fs.consent = true)
    (fun _ d => d.fs.stopped = false ∧ d.fs.consent = false ∧ d.fs.release = false ∧ (∀ k < d.part.channels, (fsChan d k).stage = 0) ∧ fld d fFS_EVENT_RELEASED 0 = 1)) ∧
  (∀ (t : Time) (n : BitVec 32), RunsAt (.fsRelease t n) t
    (fun a => n = a.fs.nonce ∧ a.fs.consent = false)
    (fun a d => d.fs = { a.fs with release := true })) ∧
  (∀ (t : Time) (n : BitVec 32), RunsAt (.fsRelease t n) t
    (fun a => n ≠ a.fs.nonce)
    (fun a d => d.fs = a.fs ∧ counter d .fsWrongRelease 0 = counter a .fsWrongRelease 0 + 1)) ∧
  (∀ (t : Time), RunsAt (.fsRestart t 0x0FA5 true) t
    (fun a => a.fs.undriven = false ∧ a.fs.failDark = false)
    (fun a d => d.fs = { a.fs with startup := true, selfTestOk := false, tested := [] })) ∧
  (∀ (t : Time), RunsAt (.fsRestart t 0x0FA5 true) t
    (fun a => a.fs.failDark = true ∨ a.fs.undriven = true)
    (fun a d => d.fs.failDark = false ∧ d.fs.undriven = false ∧ d.fs.relatch = true ∧ d.fs.startup = true ∧ d.fs.selfTestOk = false ∧ d.fs.killsHeld = true ∧ d.fs.failCause = a.fs.failCause ∧ d.fs.number = none)) ∧
  (∀ (t : Time) (k : BitVec 16) (c : Bool), RunsAt (.fsRestart t k c) t
    (fun _ => k ≠ 0x0FA5 ∨ c = false)
    (fun a d => d = a)) ∧
  (∀ (k : Fin 512) (v : BitVec 14), Runs (.admissionWrite false k v)
    (fun _ => k ≠ 0)
    (fun a d => agetD d.fs.admV k 0 = v.toNat ∧ d.fs.admC = a.fs.admC)) ∧
  (∀ (k : Fin 512) (v : BitVec 14), Runs (.admissionWrite true k v)
    (fun _ => k ≠ 0)
    (fun a d => agetD d.fs.admC k 0x3FFF = v.toNat ∧ d.fs.admV = a.fs.admV)) ∧
  (∀ (c : Bool) (v : BitVec 14), Runs (.admissionWrite c 0 v)
    (fun _ => True)
    (fun a d => d = a)) ∧
  (∀ (ch : Fin 16) (l : OpticLimits), Runs (.fsLimitsWrite ch l)
    (fun a => a.fs.locked = false ∧ chanPresent a ch = true)
    (fun _ d => aget d.fs.limits ch = some l)) ∧
  (∀ (ch : Fin 16) (l : OpticLimits), Runs (.fsLimitsWrite ch l)
    (fun a => a.fs.locked = true)
    (fun a d => d = a)) ∧
  (∀ (g : BitVec 8) (r : BitVec 4), Runs (.fsSetcfgWrite g r)
    (fun _ => r ≠ 0)
    (fun a d => d.fs = { a.fs with nextCfg := some (g.toNat, r.toNat) }))

/-- Lanes come up step by step, fail by their bounds, and count it (R226, R227, R228, R230, R229, R232, R251). -/
def Obligations.LaneStates : Prop :=
  (∀ (l : LaneId), Runs (.laneSignalDetected l)
    (fun a => (serial a (laneKey l)).st = 1 ∧ (serial a (laneKey l)).quiet = false)
    (fun a d => (serial d (laneKey l)).st = if 96 ≤ laneKey l then 3 else if fullTraining a (laneKey l) then 2 else 4)) ∧
  (∀ (p : Fin 96), Runs (.negotiationResolved p)
    (fun a => (serial a p).st = 2)
    (fun _ d => (serial d p).st = 3 ∧ (serial d p).noHcd = false)) ∧
  (∀ (p : Fin 96), Runs (.negotiationFailure p)
    (fun a => (serial a p).st = 2)
    (fun _ d => (serial d p).st = 2 ∧ (serial d p).noHcd = true ∧ fld d fDP_EVENT_TRAIN_FAIL p = 1)) ∧
  (∀ (l : LaneId) (x : Bool) (y : Bool), Runs (.trainingComplete l x y)
    (fun a => (serial a (laneKey l)).st = 3 ∧ 96 ≤ laneKey l ∧ (fsChan a (keyChan (laneKey l))).ben = true)
    (fun a d => d = a)) ∧
  (∀ (l : LaneId) (x : Bool) (y : Bool), Runs (.trainingComplete l x y)
    (fun a => (serial a (laneKey l)).st = 3 ∧ (laneKey l < 96 ∨ (fsChan a (keyChan (laneKey l))).ben = false))
    (fun _ d => (serial d (laneKey l)).st = 4 ∧ (serial d (laneKey l)).precodeTx = x ∧ (serial d (laneKey l)).precodeRx = y ∧ (serial d (laneKey l)).relock = false)) ∧
  (∀ (l : LaneId), Runs (.laneLock l)
    (fun a => (serial a (laneKey l)).st = 4 ∧ (serial a (laneKey l)).relock = true)
    (fun _ d => (serial d (laneKey l)).st = 6 ∧ (serial d (laneKey l)).relock = false)) ∧
  (∀ (l : LaneId), Runs (.laneLock l)
    (fun a => (serial a (laneKey l)).st = 4 ∧ (serial a (laneKey l)).relock = false)
    (fun a d => (serial d (laneKey l)).st = if laneKey l < 96 ∧ fullTraining a (laneKey l) = false then 6 else 5)) ∧
  (∀ (l : LaneId), Runs (.exchangeComplete l)
    (fun a => (serial a (laneKey l)).st = 5)
    (fun _ d => (serial d (laneKey l)).st = 6)) ∧
  (∀ (l : LaneId), Runs (.trainTimeout l)
    (fun a => (serial a (laneKey l)).st = 3)
    (fun _ d => (serial d (laneKey l)).st = 1 ∧ (serial d (laneKey l)).quiet = true)) ∧
  (∀ (l : LaneId), Runs (.lockTimeout l)
    (fun a => (serial a (laneKey l)).st = 4 ∧ (serial a (laneKey l)).relock = false)
    (fun a d => (serial d (laneKey l)).st = 1 ∧ (serial d (laneKey l)).quiet = (decide (96 ≤ laneKey l) || fullTraining a (laneKey l)))) ∧
  (∀ (l : LaneId), Runs (.exchangeTimeout l)
    (fun a => (serial a (laneKey l)).st = 5)
    (fun _ d => (serial d (laneKey l)).st = 1 ∧ (serial d (laneKey l)).quiet = true)) ∧
  (∀ (l : LaneId), Runs (.quietPeriodEnd l)
    (fun _ => True)
    (fun a d => (serial d (laneKey l)).quiet = false ∧ (serial d (laneKey l)).st = (serial a (laneKey l)).st)) ∧
  (∀ (t : Time) (p : Fin 96), RunsAt (.laneSignalLost t (.drop p)) t
    (fun a => (serial a p).st = 6)
    (fun _ d => (serial d p).st = 1 ∧ fld d fDP_EVENT_LINK_DOWN p = 1)) ∧
  (∀ (t : Time) (ch : Fin 16) (x : Lane), RunsAt (.laneSignalLost t (.lineRx ch x)) t
    (fun a => (serial a (rxKey ch (x == .b))).st = 6)
    (fun _ d => (serial d (rxKey ch (x == .b))).st = 4 ∧ (serial d (rxKey ch (x == .b))).relock = true)) ∧
  (∀ (ch : Fin 16) (x : Lane), Runs (.lineRetrainTimeout ch x)
    (fun a => (serial a (rxKey ch (x == .b))).st = 4 ∧ (serial a (rxKey ch (x == .b))).relock = true)
    (fun _ d => (serial d (rxKey ch (x == .b))).st = 1)) ∧
  (∀ (t : Time) (ch : Fin 16) (x : Lane), RunsAt (.retrain t ch) t
    (fun a => chanPresent a ch = true ∧ (serial a (rxKey ch (x == .b))).st ≠ 0 ∧ (serial a (rxKey ch (x == .b))).st ≠ 7)
    (fun _ d => (serial d (rxKey ch (x == .b))).st = 1))

/-- The lane test unit: entry, end, counters, injected errors and the checker (R235, R237, R238, R239, R240, R252). -/
def Obligations.LaneTest : Prop :=
  (∀ (t : Time) (l : Fin 128) (v : Word), RunsAt (.laneTestStart t l v) t
    (fun a => testAllowed a l v.toNat = true ∧ v.toNat.testBit 0 = true)
    (fun _ d => (serial d l).st = 7 ∧ fld d fLNT_STATUS_RESULT l = 0)) ∧
  (∀ (t : Time) (l : Fin 128) (v : Word), RunsAt (.laneTestStart t l v) t
    (fun a => testAllowed a l v.toNat = false)
    (fun a d => (serial d l).st = (serial a l).st ∧ fld d fLNT_STATUS_RESULT l = 1)) ∧
  (∀ (l : Fin 128) (v : Word) (c : LaneCounts), Runs (.laneTestStop l v c)
    (fun a => testAllowed a l v.toNat = true ∧ v.toNat.testBit 0 = false)
    (fun _ d => (serial d l).st ≠ 7 ∧ fld d fLNT_STATUS_LOCK l = 0 ∧ fld d fLNT_STATUS_RESULT l = 0)) ∧
  (∀ (l : Fin 128) (v : Word), Runs (.start l v)
    (fun a => testAllowed a l v.toNat = true ∧ v.toNat.testBit 3 = true)
    (fun _ d => fld d fLNT_BITS_BITS l = 0 ∧ fld d fLNT_ERRORS_ERRORS l = 0 ∧ fld d fLNT_SYMERR_SYMERR l = 0 ∧ fld d fLNT_LOCKLOSS_LOCKLOSS l = 0)) ∧
  (∀ (l : Fin 128) (v : Word), Runs (.injectOne l v)
    (fun a => generating a l = true ∧ v.toNat.testBit 6 = true)
    (fun _ d => d.emitted.contains (.inverted l) = true)) ∧
  (∀ (l : Fin 128), Runs (.checkerLock l)
    (fun a => checking a l = true)
    (fun _ d => fld d fLNT_STATUS_LOCK l = 1)) ∧
  (∀ (l : Fin 128) (c : LaneCounts), Runs (.checkerLockLoss l c)
    (fun a => checking a l = true ∧ fld a fLNT_STATUS_LOCK l = 1)
    (fun a d => fld d fLNT_STATUS_LOCK l = 0 ∧ fld d fLNT_LOCKLOSS_LOCKLOSS l = min (fld a fLNT_LOCKLOSS_LOCKLOSS l + 1) (2 ^ 48 - 1)))

/-- A frame from a drop port is taken, dropped with its count or acts as pause; XOFF repeats (R241, R242, R244, R247, R248). -/
def Obligations.PortReception : Prop :=
  (∀ (f : MacFrame), RunsAt (.macFrameReceived f) f.t
    (fun a => portActive a f.port = true ∧ rxFill a f.port + fld a fDP_FRAME_MAX_FRAME f.port ≤ 65536 ∧ f.codeError = false ∧
      f.inverted = (fld a fDP_CTRL_RX_INV f.port == 1) ∧ 63 < f.bytes.length ∧ f.bytes.length ≤ fld a fDP_FRAME_MAX_FRAME f.port ∧ f.bytes.drop (f.bytes.length - 4) = fcsBytes (f.bytes.take (f.bytes.length - 4)) ∧
      take0 (f.bytes.take (f.bytes.length - 4)) 12 2 ≠ 0x8808 ∧ (a.part.hasSideboard = false ∨ sbPortField a f.port 1 0 = 0 ∧ sbPortField a f.port 3 0 = 0) ∧
      fld a fLT_PTP_PTP_EN f.port = 0)
    (fun a d => (port d f.port).rx = (port a f.port).rx ++ [f.bytes] ∧ counter d .rxFrames f.port = counter a .rxFrames f.port + 1)) ∧
  (∀ (f : MacFrame), RunsAt (.macFrameReceived f) f.t
    (fun a => portActive a f.port = true ∧ rxFill a f.port + fld a fDP_FRAME_MAX_FRAME f.port ≤ 65536 ∧ f.codeError = false ∧
      f.inverted = (fld a fDP_CTRL_RX_INV f.port == 1) ∧ 63 < f.bytes.length ∧ f.bytes.length ≤ fld a fDP_FRAME_MAX_FRAME f.port ∧ f.bytes.drop (f.bytes.length - 4) ≠ fcsBytes (f.bytes.take (f.bytes.length - 4)))
    (fun a d => (port d f.port).rx = (port a f.port).rx ∧ counter d .fcsErrors f.port = counter a .fcsErrors f.port + 1)) ∧
  (∀ (t : Time) (n : Fin 96) (p : Fin 8) (x : Time), RunsAt (.pauseExpiry t n p) t
    (fun a => aget (port a n).paused p = some x ∧ x ≤ a.now)
    (fun _ d => aget (port d n).paused p = none)) ∧
  (∀ (t : Time) (n : Fin 96), RunsAt (.xoffRepeat t n) t
    (fun a => (port a n).xoff = true ∧ fld a fDP_MAC_FC_TX n = 1 ∧ fld a fDP_FC_XON_THRESH n < rxFill a n ∧
      (port a n).xoffAt + fld a fDP_FC_TX_QUANTA n * quantum a n / 2 ≤ a.now ∧ portActive a n = true)
    (fun a d => (port d n).xoff = true ∧ (port d n).xoffAt = a.now ∧ fld d fDP_EVENT_XOFF_SENT n = 1))

/-- A packet is classified at its entry and queued; a port sends the head of the node with its FCS (R245, R246, R268, R332,
R265, R266, R276, R280). -/
def Obligations.PacketsInAndOut : Prop :=
  (∀ (t : Time) (n : Fin 96) (q : Nat) (p : QPkt) (l : List QPkt) (bs : List Byte), RunsAt (.frameTransmit t ⟨n, false⟩) t
    (fun a => n.val < a.part.ports ∧ pdOn a 40 = true ∧ portActive a n = true ∧ (offered n a).1 = some q ∧
      (queue (offered n a).2 q).items = p :: l ∧ p.ecc = false ∧ p.timing = 0 ∧
      (match egressWalk a n p with | .send x _ _ _ => x == bs | _ => false) = true)
    (fun a d => d.emitted.contains (.frame n (onWire bs) (fld a fDP_CTRL_TX_INV n == 1)) = true ∧ (queue d q).items = l)) ∧
  (∀ (t : Time) (n : Fin 96) (bad : Bool) (q : Nat) (p : QPkt) (l : List QPkt), RunsAt (.frameTransmit t ⟨n, bad⟩) t
    (fun a => n.val < a.part.ports ∧ pdOn a 40 = true ∧ (offered n a).1 = some q ∧
      (queue (offered n a).2 q).items = p :: l ∧ (p.ecc || bad) = true)
    (fun a d => (queue d q).items = l ∧ counter d .qEccDrops q = counter (offered n a).2 .qEccDrops q + 1 ∧ fld d fTM_EVENT_BUF_ECC 0 = 1)) ∧
  (∀ (t : Time) (n : Fin 96) (e : TableErrors) (f : List Byte) (l : List (List Byte)) (m : Nat) (q : Nat), RunsAt (.packetEntry t ⟨.drop n, e⟩) t
    (fun a => entryAdmitted a (.drop n) = true ∧ pipeRuns a (portPipe n) = true ∧ (port a n).rx = f :: l ∧
      (parse (f.take (f.length - 4)) (fld a fCL_CTRL_TPID3 0)).frag = 0 ∧ goesTo (meetErrors e a) (entering n f a) m q = true)
    (fun a d => (port d n).rx = l ∧ (queue d (64 * m + q)).items.map (·.bytes) = (queue a (64 * m + q)).items.map (·.bytes) ++ [f.take (f.length - 4)])) ∧
  (∀ (t : Time) (p : Fin 4) (e : TableErrors) (o : BondOut) (l : List BondOut), RunsAt (.packetEntry t ⟨.line p, e⟩) t
    (fun a => entryAdmitted a (.line p) = true ∧ pipeRuns a p = true ∧ takeReady a.now (agetD a.bond.out p []) = some (o, l) ∧ o.pkt.pipe = p.val)
    (fun a d => agetD d.bond.out p [] = l ∧ counter d .clEntered (4 * p.val + currentSlot a) = counter a .clEntered (4 * p.val + currentSlot a) + 1)) ∧
  (∀ (t : Time) (i : Fin 4) (e : TableErrors) (p : Pkt) (l : List Pkt) (m : Nat) (q : Nat), RunsAt (.secondPass t ⟨i, e⟩) t
    (fun a => recircWaits a i = true ∧ inTurn a i 25 = true ∧ agetD a.cls.recirc i [] = p :: l ∧ evicted a p.slot = false ∧ p.second = true ∧ goesTo (meetErrors e a) p m q = true)
    (fun a d => agetD d.cls.recirc i [] = l ∧ (queue d (64 * m + q)).items.map (·.bytes) = (queue a (64 * m + q)).items.map (·.bytes) ++ [p.bytes]))

/-- Generation slots are claimed, sealed, abandoned, evicted and made current (R270, R271, R274, R277, R275). -/
def Obligations.GenerationSlots : Prop :=
  (∀ (t : Time) (p : Path) (k : Fin 4), RunsAt (.slotClaim t p k) t
    (fun a => secretaryRuns a = true ∧ (genSlot a k).state = .free)
    (fun _ d => (genSlot d k).state = .loading ∧ (genSlot d k).owner = some p ∧ d.emitted.head? = some (.result p 0))) ∧
  (∀ (t : Time) (p : Path) (k : Fin 4), RunsAt (.slotClaim t p k) t
    (fun a => secretaryRuns a = true ∧ (genSlot a k).state ≠ .free)
    (fun a d => d.cls = a.cls ∧ d.emitted.head? = some (.result p 0x08))) ∧
  (∀ (t : Time) (p : Path) (k : Fin 4), RunsAt (.slotSeal t p k) t
    (fun a => secretaryRuns a = true ∧ (genSlot a k).state = .loading ∧ (genSlot a k).owner = some p ∧
      (List.range a.part.pipes).all (fun i => match sealPipe a i k with | .ok _ => true | .error _ => false) = true)
    (fun _ d => (genSlot d k).state = .ready ∧ d.emitted.head? = some (.result p 0))) ∧
  (∀ (t : Time) (p : Path) (k : Fin 4), RunsAt (.slotSeal t p k) t
    (fun a => secretaryRuns a = true ∧ ((genSlot a k).state ≠ .loading ∨ (genSlot a k).owner ≠ some p))
    (fun a d => d.cls = a.cls ∧ d.emitted.head? = some (.result p 0x05))) ∧
  (∀ (t : Time) (p : Path) (k : Fin 4), RunsAt (.slotAbandon t p k) t
    (fun a => secretaryRuns a = true ∧ (((genSlot a k).state = .loading ∨ (genSlot a k).state = .ready) ∧ ((genSlot a k).owner = some p ∨ p = .l ∨ p = .s)))
    (fun _ d => (genSlot d k).state = .free ∧ (genSlot d k).owner = none ∧ d.emitted.head? = some (.result p 0))) ∧
  (∀ (t : Time) (p : Path) (k : Fin 4), RunsAt (.slotEvict t p k) t
    (fun a => secretaryRuns a = true ∧ (genSlot a k).state = .draining)
    (fun _ d => (genSlot d k).state = .evicting ∧ d.emitted.head? = some (.result p 0))) ∧
  (∀ (t : Time) (p : Path) (k : Fin 4), RunsAt (.slotEvict t p k) t
    (fun a => secretaryRuns a = true ∧ (genSlot a k).state ≠ .draining)
    (fun a d => d.cls = a.cls ∧ d.emitted.head? = some (.result p 0x05))) ∧
  (∀ (t : Time) (p : Path) (k : BitVec 8), RunsAt (.makeCurrent t p k) t
    (fun a => secretaryRuns a = true ∧ k.toNat ≤ 3 ∧ (genSlot a k.toNat).state = .ready ∧ (genSlot a (currentSlot a)).state = .current)
    (fun a d => (genSlot d k.toNat).state = .current ∧ (genSlot d k.toNat).gen = a.cls.lastGen + 1 ∧ d.cls.lastGen = a.cls.lastGen + 1 ∧
      (genSlot d (currentSlot a)).state = (if (genSlot a (currentSlot a)).drain = 0 then .free else .draining) ∧ d.dic.saveState = 1 ∧ d.emitted.head? = some (.result p 0))) ∧
  (∀ (t : Time) (p : Path) (k : BitVec 8), RunsAt (.makeCurrent t p k) t
    (fun a => secretaryRuns a = true ∧ (3 < k.toNat ∨ (genSlot a k.toNat).state ≠ .ready))
    (fun a d => d.cls = a.cls ∧ d.emitted.head? = some (.result p 0x05))) ∧
  (∀ (t : Time) (k : Fin 4), RunsAt (.drainSlow t k) t
    (fun a => (genSlot a k).state = .draining ∧ (genSlot a k).slowRaised = false ∧ (genSlot a k).drainingSince + fld a fCL_CTRL_DRAIN_LIMIT 0 * Config.ms ≤ a.now)
    (fun _ d => (genSlot d k).slowRaised = true ∧ fld d fCL_EVENT_DRAIN_SLOW 0 = 1))

/-- The tree window writes and reads in its region, the scrub checks; fragment entries expire (R269, R273, R289, R284, R285). -/
def Obligations.TreeAndFragments : Prop :=
  (∀ (w : Word), Runs (.windowDataWrite w)
    (fun a => fld a fCL_WIN_ADDR_PIPE 0 < a.part.pipes ∧ treeWritable a .l (fld a fCL_WIN_ADDR_PIPE 0) (fld a fCL_WIN_ADDR_ADDR 0) = true)
    (fun a d => treeWord d (fld a fCL_WIN_ADDR_PIPE 0) (fld a fCL_WIN_ADDR_ADDR 0) = some w.toNat ∧ fld d fCL_WIN_ADDR_ADDR 0 = (fld a fCL_WIN_ADDR_ADDR 0 + 1) % 2 ^ 20)) ∧
  (∀ (w : Word), Runs (.windowDataWrite w)
    (fun a => treeWritable a .l (fld a fCL_WIN_ADDR_PIPE 0) (fld a fCL_WIN_ADDR_ADDR 0) = false)
    (fun a d => d.cls = a.cls ∧ fld d fCL_WIN_STATUS_REFUSED 0 = 1 ∧ fld d fCL_WIN_ADDR_ADDR 0 = (fld a fCL_WIN_ADDR_ADDR 0 + 1) % 2 ^ 20)) ∧
  (Runs (.windowStatusRead)
    (fun _ => True)
    (fun a d => d.emitted.head? = some (.barRead (regOffset .clWinStatus 0) (reg a .clWinStatus 0)) ∧ fld d fCL_WIN_STATUS_REFUSED 0 = 0)) ∧
  (∀ (p : Fin 4) (x : BitVec 20), Runs (.treeScrub p x .uncorrectable)
    (fun a => p.val < a.part.pipes)
    (fun _ d => treeWord d p x.toNat = none ∧ fld d fCL_EVENT_TREE_ECC 0 = 1)) ∧
  (∀ (p : Fin 4) (x : BitVec 20) (e : EccResult), Runs (.treeScrub p x e)
    (fun _ => e ≠ .uncorrectable)
    (fun a d => d = idleExit a)) ∧
  (∀ (t : Time) (p : Fin 4), RunsAt (.fragmentHoldTimeout t p) t
    (fun _ => True)
    (fun a d => holdBuffer d p = (holdBuffer a p).filter (fun h => decide (a.now < h.since + fld a fCL_FRAG_CTRL_HOLD_TIME p * Config.us)))) ∧
  (∀ (t : Time) (p : Fin 4), RunsAt (.fragmentEntryExpiry t p) t
    (fun _ => True)
    (fun a d => agetD d.cls.frags p [] = (agetD a.cls.frags p []).filter (fun e => decide (a.now < e.at_ + fld a fCL_FRAG_CTRL_EXPIRY p * Config.ms))))

/-- Shapers, policers, write-backs and samples at their intervals (R335, R336, R337, R340, R349, R352, R353). -/
def Obligations.RefillsAndSamples : Prop :=
  (∀ (t : Time) (q : Nat), RunsAt (.shaperRefill t) t
    (fun a => (queue a q).shaper.enable = true)
    (fun a d => queue d q = { queue a q with shaper := { (queue a q).shaper with credit := min ((queue a q).shaper.credit + (queue a q).shaper.rate) (queue a q).shaper.burst } })) ∧
  (∀ (t : Time) (n : Nat), RunsAt (.shaperRefill t) t
    (fun a => (node a n).shaper.enable = true)
    (fun a d => node d n = { node a n with shaper := { (node a n).shaper with credit := min ((node a n).shaper.credit + (node a n).shaper.rate) (node a n).shaper.burst } })) ∧
  (∀ (t : Time) (q : Nat) (n : Nat), RunsAt (.shaperRefill t) t
    (fun a => (queue a q).shaper.enable = false ∧ aget a.tm.queues q ≠ some queueDefault ∧ (node a n).shaper.enable = false ∧ aget a.tm.nodes n ≠ some (nodeDefault n))
    (fun a d => queue d q = queue a q ∧ node d n = node a n)) ∧
  (∀ (t : Time) (i : Nat), RunsAt (.policerRefill t) t
    (fun a => (policer a i).cfg ≠ {})
    (fun a d => (policer d i).cfg = (policer a i).cfg ∧ (policer d i).eff = (policer a i).cfg ∧ (policer d i).fill = false ∧
      (policer d i).tc = (if (policer a i).fill then (policer a i).cfg.cbs * token else min ((policer a i).cfg.cbs * token) ((policer a i).tc + (policer a i).cfg.cir * 8 * token / 1000000)) ∧
      (policer d i).tp = (if (policer a i).fill then (policer a i).cfg.pbs * token else min ((policer a i).cfg.pbs * token) ((policer a i).tp + (policer a i).cfg.pir * 8 * token / 1000000)))) ∧
  (∀ (n : Nat), Runs (.wardrobeWriteback n)
    (fun _ => True)
    (fun a d => (stagedStores d).length = (stagedStores a).length - n ∧ (∀ x ∈ stagedStores d, x ∈ stagedStores a ∧ ∀ y ∈ stagedStores a, y ∉ stagedStores d → y < x) ∧
      d.tm.queues.map (fun (e : Nat × Queue) => (e.1, { e.2 with items := e.2.items.map (fun (p : QPkt) => { p with staged := false }) })) =
        a.tm.queues.map (fun (e : Nat × Queue) => (e.1, { e.2 with items := e.2.items.map (fun (p : QPkt) => { p with staged := false }) })))) ∧
  (∀ (t : Time) (x : Nat) (q : Nat), RunsAt (.queueSample t) t
    (fun a => coreRuns a = true ∧ sampleList a = [(x, q)] ∧ drawerRoom a 3 = true)
    (fun a d => (drawer d 3).items = (drawer a 3).items ++ [sampleItem a x q] ∧ d.tm.sampleSeq = a.tm.sampleSeq + 1 ∧ counter d .samplesPosted 0 = counter a .samplesPosted 0 + 1)) ∧
  (∀ (t : Time), RunsAt (.queueSample t) t
    (fun a => coreRuns a = true ∧ (drawer a 3).flushedAt ≠ some a.now ∧ (drawer a 3).items.length + (sampleList a).length ≤ drawerDepth 3)
    (fun a d => (drawer d 3).items.length = (drawer a 3).items.length + (sampleList a).length ∧ (drawer d 3).items.take (drawer a 3).items.length = (drawer a 3).items ∧ d.tm.sampleSeq = a.tm.sampleSeq + (sampleList a).length)) ∧
  (∀ (t : Time), RunsAt (.queueSample t) t
    (fun a => coreRuns a = true ∧ drawerRoom a 3 = false)
    (fun a d => (drawer d 3).items = (drawer a 3).items ∧ d.tm.sampleSeq = a.tm.sampleSeq + (sampleList a).length ∧ counter d .samplesDropped 0 = counter a .samplesDropped 0 + BitVec.ofNat 48 (sampleList a).length ∧ (sampleList a ≠ [] → fld d fTM_EVENT_SAMPLE_DROP 0 = 1)))

/-- The traffic manager's object window writes and reads queues, groups and policers (R331, R342, R354). -/
def Obligations.ObjectWindow : Prop :=
  (Runs (.tmObjectWrite)
    (fun a => fld a fTM_ACC_SEL_TABLE 0 = 0 ∧ fld a fTM_ACC_SEL_INDEX 0 < 64 * a.part.ports ∧
      shaperOk (bitsOf (reg a .tmAccData 0).toNat 45 24) (bitsOf (reg a .tmAccData 0).toNat 23 0) = true ∧ reserveOk a (fld a fTM_ACC_SEL_INDEX 0) (bitsOf (reg a .tmAccData 1).toNat 34 25) = true)
    (fun a d => fld d fTM_ACC_STATUS_RESULT 0 = 0 ∧ (queue d (fld a fTM_ACC_SEL_INDEX 0)).weight = bitsOf (reg a .tmAccData 1).toNat 47 38 ∧
      (queue d (fld a fTM_ACC_SEL_INDEX 0)).alpha = bitsOf (reg a .tmAccData 1).toNat 37 35 ∧ (queue d (fld a fTM_ACC_SEL_INDEX 0)).reserve = bitsOf (reg a .tmAccData 1).toNat 34 25 ∧
      (queue d (fld a fTM_ACC_SEL_INDEX 0)).shaper.rate = bitsOf (reg a .tmAccData 0).toNat 45 24 ∧ (queue d (fld a fTM_ACC_SEL_INDEX 0)).shaper.burst = bitsOf (reg a .tmAccData 0).toNat 23 0 ∧
      (queue d (fld a fTM_ACC_SEL_INDEX 0)).shaper.enable = (reg a .tmAccData 0).toNat.testBit 47)) ∧
  (Runs (.tmObjectWrite)
    (fun a => fld a fTM_ACC_SEL_TABLE 0 = 5 ∧ fld a fTM_ACC_SEL_INDEX 0 < 4096 ∧ (reg a .tmAccData 1).toNat * 2 ^ 48 + (reg a .tmAccData 0).toNat < 2 ^ a.part.ports)
    (fun a d => fld d fTM_ACC_STATUS_RESULT 0 = 0 ∧ group d (fld a fTM_ACC_SEL_INDEX 0) = ⟨(reg a .tmAccData 1).toNat * 2 ^ 48 + (reg a .tmAccData 0).toNat, (reg a .tmAccData 2).toNat.testBit 0, (reg a .tmAccData 2).toNat.testBit 1⟩)) ∧
  (Runs (.tmObjectWrite)
    (fun a => 6 ≤ fld a fTM_ACC_SEL_TABLE 0)
    (fun a d => d.tm = a.tm ∧ fld d fTM_ACC_STATUS_RESULT 0 = 1 ∧ fld d fTM_EVENT_ACC_REFUSED 0 = 1)) ∧
  (Runs (.tmObjectRead)
    (fun a => fld a fTM_ACC_SEL_TABLE 0 = 4)
    (fun a d => fld d fTM_ACC_STATUS_RESULT 0 = 0 ∧ d.tm = a.tm ∧
      reg d .tmAccData 0 = BitVec.ofNat 48 ((policer a (fld a fTM_ACC_SEL_INDEX 0)).cfg.cir * 2 ^ 16 + (policer a (fld a fTM_ACC_SEL_INDEX 0)).cfg.cbs) ∧
      reg d .tmAccData 3 = BitVec.ofNat 48 ((policer a (fld a fTM_ACC_SEL_INDEX 0)).tc / token * 2 ^ 16 + (policer a (fld a fTM_ACC_SEL_INDEX 0)).tp / token)))

/-- The descriptors of the MAC, route and other tables find, insert, delete, lock, write and read (R300, R309, R310, R311,
R312). -/
def Obligations.TableCommands : Prop :=
  (∀ (x : Descriptor) (n : Nat), RunsAt (.macInsert x) x.t
    (fun a => coreRuns a = true ∧ dscReady a x = true ∧ x.bad = [] ∧ a.fwd.bad = [] ∧ dscOp x = 1 ∧ macFind? a (bitsOf (dscBuf x 1) 42 31) (dscBuf x 0) = some n)
    (fun a d => macEntry d n = dscEntry x ∧ d.emitted.contains (.descriptor x.ring1 (dscAt a x) 1 (BitVec.ofNat 48 n) x.w3 (8 * x.w2.toNat) []) = true)) ∧
  (∀ (x : Descriptor) (n : Nat), RunsAt (.macInsert x) x.t
    (fun a => coreRuns a = true ∧ dscReady a x = true ∧ x.bad = [] ∧ a.fwd.bad = [] ∧ dscOp x = 1 ∧ macFind? a (bitsOf (dscBuf x 1) 42 31) (dscBuf x 0) = none ∧
      ((List.range 8).map (fun w => hash0 a (macKey (bitsOf (dscBuf x 1) 42 31) (dscBuf x 0)) * 8 + w) ++
        (List.range 8).map (fun w => hash1 a (macKey (bitsOf (dscBuf x 1) 42 31) (dscBuf x 0)) * 8 + w)).find? (fun k => !macValid (macEntry a k)) = some n)
    (fun a d => macEntry d n = dscEntry x ∧ d.emitted.contains (.descriptor x.ring1 (dscAt a x) 1 (BitVec.ofNat 48 n) x.w3 (8 * x.w2.toNat) []) = true)) ∧
  (∀ (x : Descriptor) (n : Nat), RunsAt (.macDelete x) x.t
    (fun a => coreRuns a = true ∧ dscReady a x = true ∧ x.bad = [] ∧ a.fwd.bad = [] ∧ dscOp x = 2 ∧ macFind? a (bitsOf (dscBuf x 1) 42 31) (dscBuf x 0) = some n)
    (fun a d => macValid (macEntry d n) = false ∧ d.emitted.contains (.descriptor x.ring1 (dscAt a x) 1 (BitVec.ofNat 48 n) x.w3 (8 * x.w2.toNat) []) = true)) ∧
  (∀ (x : Descriptor) (n : Nat), RunsAt (.macFind x) x.t
    (fun a => coreRuns a = true ∧ dscReady a x = true ∧ x.bad = [] ∧ a.fwd.bad = [] ∧ dscOp x = 3 ∧ macFind? a (bitsOf (dscBuf x 1) 42 31) (dscBuf x 0) = some n)
    (fun a d => d.fwd.mac = a.fwd.mac ∧ d.emitted.contains (.descriptor x.ring1 (dscAt a x) 1 (BitVec.ofNat 48 n) x.w3 (8 * x.w2.toNat) ((macEntry a n).map (BitVec.ofNat 48))) = true)) ∧
  (∀ (x : Descriptor) (n : Nat), RunsAt (.macLock x) x.t
    (fun a => coreRuns a = true ∧ dscReady a x = true ∧ x.bad = [] ∧ a.fwd.bad = [] ∧ dscOp x = 4 ∧ macFind? a (bitsOf (dscBuf x 1) 42 31) (dscBuf x 0) = some n)
    (fun a d => macLock (macEntry d n) = true ∧ d.emitted.contains (.descriptor x.ring1 (dscAt a x) 1 (BitVec.ofNat 48 n) x.w3 (8 * x.w2.toNat) ((macEntry d n).map (BitVec.ofNat 48))) = true)) ∧
  (∀ (x : Descriptor), RunsAt (.macDelete x) x.t
    (fun a => coreRuns a = true ∧ dscReady a x = true ∧ x.bad = [] ∧ a.fwd.bad = [] ∧ dscOp x = 2 ∧ macFind? a (bitsOf (dscBuf x 1) 42 31) (dscBuf x 0) = none)
    (fun a d => d.fwd.mac = a.fwd.mac ∧ d.emitted.contains (.descriptor x.ring1 (dscAt a x) 2 x.w1 x.w3 (8 * x.w2.toNat) []) = true)) ∧
  (∀ (x : Descriptor), RunsAt (.macFind x) x.t
    (fun a => coreRuns a = true ∧ dscReady a x = true ∧ x.bad = [] ∧ a.fwd.bad = [] ∧ dscOp x = 3 ∧ macFind? a (bitsOf (dscBuf x 1) 42 31) (dscBuf x 0) = none)
    (fun a d => d.fwd.mac = a.fwd.mac ∧ d.emitted.contains (.descriptor x.ring1 (dscAt a x) 2 x.w1 x.w3 (8 * x.w2.toNat) []) = true)) ∧
  (∀ (x : Descriptor), RunsAt (.macLock x) x.t
    (fun a => coreRuns a = true ∧ dscReady a x = true ∧ x.bad = [] ∧ a.fwd.bad = [] ∧ dscOp x = 4 ∧ macFind? a (bitsOf (dscBuf x 1) 42 31) (dscBuf x 0) = none)
    (fun a d => d.fwd.mac = a.fwd.mac ∧ d.emitted.contains (.descriptor x.ring1 (dscAt a x) 2 x.w1 x.w3 (8 * x.w2.toNat) []) = true)) ∧
  (∀ (x : Descriptor), RunsAt (.macWrite x) x.t
    (fun a => coreRuns a = true ∧ dscReady a x = true ∧ x.bad = [] ∧ a.fwd.bad = [] ∧ dscOp x = 5 ∧ x.w1.toNat < 2 ^ 20)
    (fun a d => macEntry d x.w1.toNat = dscEntry x ∧ d.emitted.contains (.descriptor x.ring1 (dscAt a x) 1 x.w1 x.w3 (8 * x.w2.toNat) []) = true)) ∧
  (∀ (x : Descriptor), RunsAt (.macWrite x) x.t
    (fun a => coreRuns a = true ∧ dscReady a x = true ∧ x.bad = [] ∧ a.fwd.bad = [] ∧ dscOp x = 5 ∧ 2 ^ 20 ≤ x.w1.toNat)
    (fun a d => d.fwd.mac = a.fwd.mac ∧ d.emitted.contains (.descriptor x.ring1 (dscAt a x) 4 x.w1 x.w3 (8 * x.w2.toNat) []) = true ∧ fld d fFW_EVENT_DESC_ERR 0 = 1)) ∧
  (∀ (x : Descriptor), RunsAt (.macRead x) x.t
    (fun a => coreRuns a = true ∧ dscReady a x = true ∧ x.bad = [] ∧ a.fwd.bad = [] ∧ dscOp x = 6 ∧ x.w1.toNat < 2 ^ 20 ∧ 1 ≤ dscCount x ∧ dscCount x ≤ 8 ∧
      x.w1.toNat / 8 = (x.w1.toNat + dscCount x - 1) / 8)
    (fun a d => d.fwd.mac = a.fwd.mac ∧ d.emitted.contains (.descriptor x.ring1 (dscAt a x) 1 x.w1 x.w3 (8 * x.w2.toNat) ((List.range (4 * dscCount x)).map (fun i => BitVec.ofNat 48 (macWord a (4 * x.w1.toNat + i))))) = true)) ∧
  (∀ (x : Descriptor) (i : Nat), RunsAt (.trieWrite x) x.t
    (fun a => coreRuns a = true ∧ dscReady a x = true ∧ x.bad = [] ∧ a.fwd.bad = [] ∧ dscOp x = 7 ∧ x.w1.toNat < 2 ^ 21 ∧ 1 ≤ dscCount x ∧ dscCount x ≤ 8 ∧
      x.w1.toNat / 8 = (x.w1.toNat + dscCount x - 1) / 8 ∧ i < dscCount x)
    (fun a d => trieWord d (x.w1.toNat + i) = dscBuf x i ∧ d.emitted.contains (.descriptor x.ring1 (dscAt a x) 1 x.w1 x.w3 (8 * x.w2.toNat) []) = true)) ∧
  (∀ (x : Descriptor), RunsAt (.trieRead x) x.t
    (fun a => coreRuns a = true ∧ dscReady a x = true ∧ x.bad = [] ∧ a.fwd.bad = [] ∧ dscOp x = 8 ∧ 1 ≤ dscCount x ∧ x.w1.toNat + dscCount x ≤ 2 ^ 21)
    (fun a d => d.fwd.trie = a.fwd.trie ∧ d.emitted.contains (.descriptor x.ring1 (dscAt a x) 1 x.w1 x.w3 (8 * x.w2.toNat) ((List.range (dscCount x)).map (fun i => BitVec.ofNat 48 (trieWord a (x.w1.toNat + i))))) = true)) ∧
  (∀ (x : Descriptor), RunsAt (.unknownOp x) x.t
    (fun a => coreRuns a = true ∧ dscReady a x = true ∧ x.bad = [] ∧ a.fwd.bad = [] ∧ (dscOp x = 0 ∨ 8 < dscOp x))
    (fun a d => d.fwd.mac = a.fwd.mac ∧ d.fwd.trie = a.fwd.trie ∧ d.emitted.contains (.descriptor x.ring1 (dscAt a x) 5 x.w1 x.w3 (8 * x.w2.toNat) []) = true ∧ fld d fFW_EVENT_DESC_ERR 0 = 1))

/-- Learn notifications leave merged, the filter forgets, ageing and scrub visit entries (R316, R317, R318, R313, R320, R322,
R323). -/
def Obligations.LearningAndAgeing : Prop :=
  (∀ (t : Time) (i : LearnItem), RunsAt (.learnMergeRelease t) t
    (fun a => a.fwd.merge = [i] ∧ mergeReady a i = true ∧ drawerRoom a 0 = true)
    (fun a d => d.fwd.merge = [] ∧ d.fwd.seq = (a.fwd.seq + 1) % 2 ^ 23 ∧ (drawer d 0).items.length = (drawer a 0).items.length + 1 ∧
      ((drawer d 0).items.getLast?.map (·.take 2)) = some [BitVec.ofNat 48 (2 ^ 47 + i.reason * 2 ^ 44 + i.pipe * 2 ^ 42 + i.port * 2 ^ 35 + i.domain * 2 ^ 23 + a.fwd.seq), BitVec.ofNat 48 i.mac])) ∧
  (∀ (t : Time) (p : Fin 4), RunsAt (.learnFilterExpiry t p) t
    (fun _ => True)
    (fun a d => agetD d.fwd.filters p [] = (agetD a.fwd.filters p []).filter (fun f => decide (a.now < f.until_)))) ∧
  (∀ (t : Time), RunsAt (.ageingVisit t) t
    (fun a => coreRuns a = true ∧ fld a fFW_CTRL_AGE_EN 0 = 1 ∧ a.fwd.bad = [] ∧ macValid (macEntry a a.fwd.sweep) = true ∧
      macLock (macEntry a a.fwd.sweep) = false ∧ macStatic (macEntry a a.fwd.sweep) = false ∧ macHit (macEntry a a.fwd.sweep) = true)
    (fun a d => macHit (macEntry d a.fwd.sweep) = false ∧ macAge1 (macEntry d a.fwd.sweep) = false ∧ macValid (macEntry d a.fwd.sweep) = true ∧ d.fwd.sweep = (a.fwd.sweep + 1) % 2 ^ 20)) ∧
  (∀ (t : Time), RunsAt (.ageingVisit t) t
    (fun a => coreRuns a = true ∧ fld a fFW_CTRL_AGE_EN 0 = 1 ∧ a.fwd.bad = [] ∧ macValid (macEntry a a.fwd.sweep) = true ∧
      macLock (macEntry a a.fwd.sweep) = false ∧ macStatic (macEntry a a.fwd.sweep) = false ∧ macHit (macEntry a a.fwd.sweep) = false ∧ macAge1 (macEntry a a.fwd.sweep) = false)
    (fun a d => macAge1 (macEntry d a.fwd.sweep) = true ∧ macValid (macEntry d a.fwd.sweep) = true ∧ d.fwd.sweep = (a.fwd.sweep + 1) % 2 ^ 20)) ∧
  (∀ (t : Time), RunsAt (.ageingVisit t) t
    (fun a => coreRuns a = true ∧ fld a fFW_CTRL_AGE_EN 0 = 1 ∧ a.fwd.bad = [] ∧ macValid (macEntry a a.fwd.sweep) = true ∧
      macLock (macEntry a a.fwd.sweep) = false ∧ macStatic (macEntry a a.fwd.sweep) = false ∧ macHit (macEntry a a.fwd.sweep) = false ∧ macAge1 (macEntry a a.fwd.sweep) = true)
    (fun a d => macValid (macEntry d a.fwd.sweep) = false ∧ d.fwd.sweep = (a.fwd.sweep + 1) % 2 ^ 20)) ∧
  (∀ (t : Time) (x : FwdTable) (p : BitVec 22), RunsAt (.tableScrub t x p .corrected) t
    (fun a => coreRuns a = true)
    (fun a d => counter d .tableCe 0 = counter a .tableCe 0 + 1 ∧ d.fwd.mac = a.fwd.mac ∧ d.fwd.trie = a.fwd.trie)) ∧
  (∀ (t : Time) (p : BitVec 22), RunsAt (.tableScrub t .mac p .uncorrectable) t
    (fun a => coreRuns a = true)
    (fun _ d => macValid (macEntry d (p.toNat / 4)) = false ∧ fld d fFW_EVENT_TABLE_ECC 0 = 1)) ∧
  (∀ (t : Time) (p : BitVec 22), RunsAt (.tableScrub t .trie p .uncorrectable) t
    (fun a => coreRuns a = true)
    (fun _ d => trieWord d (p.toNat % 2 ^ 21) = 256 ∧ fld d fFW_EVENT_TABLE_ECC 0 = 1))

/-- Join, Leave and the membership task (R371, R372, R376, R383, R369, R370). -/
def Obligations.SideboardMembership : Prop :=
  (∀ (t : Time) (p : BitVec 7) (m : BitVec 10), RunsAt (.join t .register p m) t
    (fun a => a.part.hasSideboard = true ∧ (prog a m.toNat).live.testBit p.toNat = false ∧
      a.sb.contexts.any (fun e => e.2.port == p.toNat && e.2.programme == m.toNat) = false ∧ progEnabled a m.toNat = true ∧ portEnabled a p.toNat = true ∧ segSize a m.toNat = 0)
    (fun _ d => (prog d m.toNat).live.testBit p.toNat = true ∧ fld d fSB_CMD_STATUS_RESULT 0 = 1)) ∧
  (∀ (t : Time) (p : BitVec 7) (m : BitVec 10) (c : Nat) (r : Record), RunsAt (.join t .register p m) t
    (fun a => a.part.hasSideboard = true ∧ (prog a m.toNat).live.testBit p.toNat = false ∧
      a.sb.contexts.any (fun e => e.2.port == p.toNat && e.2.programme == m.toNat) = false ∧ progEnabled a m.toNat = true ∧ portEnabled a p.toNat = true ∧ segSize a m.toNat ≠ 0 ∧
      latestRecall a m.toNat = some r ∧ progIdle a m.toNat = false ∧ pdOn a 48 = true ∧ freeCtx a = some c)
    (fun a d => aget d.sb.contexts c = some { port := p.toNat, programme := m.toNat, next := r.seq, startedAt := a.now, serial := a.sb.nextReplay } ∧ d.sb.nextReplay = a.sb.nextReplay + 1 ∧ fld d fSB_CMD_STATUS_RESULT 0 = 0)) ∧
  (∀ (t : Time) (p : BitVec 7) (m : BitVec 10), RunsAt (.join t .register p m) t
    (fun a => a.part.hasSideboard = true ∧ (prog a m.toNat).live.testBit p.toNat = true)
    (fun a d => d.sb.contexts = a.sb.contexts ∧ d.sb.programmes = a.sb.programmes ∧ fld d fSB_CMD_STATUS_RESULT 0 = 2)) ∧
  (∀ (t : Time) (p : BitVec 7) (m : BitVec 10), RunsAt (.leave t .register p m) t
    (fun a => a.part.hasSideboard = true ∧ p.toNat < a.part.ports)
    (fun _ d => (prog d m.toNat).live.testBit p.toNat = false ∧ d.sb.contexts.any (fun e => e.2.port == p.toNat && e.2.programme == m.toNat) = false ∧
      fld d fSB_CMD_STATUS_RESULT 0 = 0)) ∧
  (∀ (t : Time) (p : BitVec 7) (m : BitVec 10), RunsAt (.leave t .register p m) t
    (fun a => a.part.hasSideboard = true ∧ a.part.ports ≤ p.toNat)
    (fun a d => d.sb.contexts = a.sb.contexts ∧ d.sb.programmes = a.sb.programmes ∧ fld d fSB_CMD_STATUS_RESULT 0 = 3)) ∧
  (∀ (t : Time) (p : BitVec 7) (m : Nat), RunsAt (.leaveAll t .register p) t
    (fun a => a.part.hasSideboard = true ∧ p.toNat < a.part.ports)
    (fun _ d => (prog d m).live.testBit p.toNat = false ∧ d.sb.contexts.any (fun e => e.2.port == p.toNat) = false ∧
      fld d fSB_CMD_STATUS_RESULT 0 = 0)) ∧
  (∀ (t : Time) (p : Nat) (bs : List Byte) (l : List (Nat × List Byte)) (v : Bool) (g : Nat) (m : Nat), RunsAt (.membershipReport t) t
    (fun a => a.part.hasSideboard = true ∧ a.sb.memFrames = (p, bs) :: l ∧ clusterRuns a = true ∧ a.sec.restarting = false ∧
      reportSays bs (fld a fCL_CTRL_TPID3 0) = some [⟨v, g, true⟩] ∧ progOfGroup a v g = some m ∧ progEnabled a m = true ∧ portEnabled a p = true)
    (fun a d => d.sb.memFrames = l ∧ d.sb.memberships.contains ⟨p, m, a.now⟩ = true ∧
      ((prog d m).live.testBit p || d.sb.contexts.any (fun e => e.2.port == p && e.2.programme == m)) = true)) ∧
  (∀ (t : Time) (p : Nat) (bs : List Byte) (l : List (Nat × List Byte)), RunsAt (.membershipReport t) t
    (fun a => a.part.hasSideboard = true ∧ a.sb.memFrames = (p, bs) :: l ∧ clusterRuns a = true ∧ a.sec.restarting = false ∧
      reportSays bs (fld a fCL_CTRL_TPID3 0) = none)
    (fun a d => d.sb.memFrames = l ∧ d.sb.memberships = a.sb.memberships ∧ counter d .memIgnored p = counter a .memIgnored p + 1)) ∧
  (∀ (t : Time) (p : Fin 96), RunsAt (.generalQuery t p) t
    (fun a => a.part.hasSideboard = true ∧ sbPortField a p 2 0 ≠ 0 ∧ clusterRuns a = true ∧
      a.sb.memberships.any (fun x => x.port == p.val && progField a x.programme 3 0 != 0) = true)
    (fun _ d => d.emitted.contains (.query p false) = true)) ∧
  (∀ (t : Time) (p : Fin 96) (m : BitVec 10) (x : Membership), RunsAt (.membershipExpiry t p m) t
    (fun a => a.part.hasSideboard = true ∧ p.val < a.part.ports ∧ a.sb.memberships.find? (fun x => x.port == p.val && x.programme == m.toNat) = some x ∧ x.last + 260 * Config.sec ≤ a.now ∧ clusterRuns a = true)
    (fun a d => d.sb.memberships = a.sb.memberships.filter (fun x => !(x.port == p.val && x.programme == m.toNat)) ∧ (prog d m.toNat).live.testBit p = false))

/-- Replay, splice, catch-up and forced splice; repair requests and the recorded rate (R373, R374, R375, R376, R367, R378, R379,
R380). -/
def Obligations.SideboardReplay : Prop :=
  (∀ (t : Time) (x : Fin 512) (c : Replay) (r : Record), RunsAt (.replayIssue t x) t
    (fun a => a.part.hasSideboard = true ∧ aget a.sb.contexts x = some c ∧ readyRecord a c = some r ∧ nextRecord a c = some r ∧ mayIssue a x r = true ∧ recordPoisoned a c.programme r = false)
    (fun a d => agetD d.sb.waiting (portPipe c.port) [] = agetD a.sb.waiting (portPipe c.port) [] ++ [replayPkt c.port x c.serial r] ∧
      (aget d.sb.contexts x).map (fun y => (y.next, y.outstanding)) = some (r.seq + 1, c.outstanding + 1))) ∧
  (∀ (t : Time) (x : Fin 512) (c : Replay), RunsAt (.splice t x) t
    (fun a => a.part.hasSideboard = true ∧ aget a.sb.contexts x = some c ∧ c.caughtAt.isSome = true ∧ c.outstanding = 0 ∧ (nextRecord a c).isNone = true)
    (fun _ d => aget d.sb.contexts x = none ∧ (prog d c.programme).live.testBit c.port = true)) ∧
  (∀ (t : Time) (x : Fin 512) (c : Replay), RunsAt (.catchupTimeout t x) t
    (fun a => a.part.hasSideboard = true ∧ aget a.sb.contexts x = some c ∧ c.caughtAt = none ∧ c.startedAt + fld a fSB_CTRL_CATCHUP_LIMIT 0 * Config.sec ≤ a.now)
    (fun _ d => aget d.sb.contexts x = none ∧ (prog d c.programme).live.testBit c.port = true ∧ fld d fSB_EVENT_CATCHUP_TIMEOUT 0 = 1)) ∧
  (∀ (t : Time) (x : Fin 512) (c : Replay) (y : Time), RunsAt (.forcedSplice t x) t
    (fun a => a.part.hasSideboard = true ∧ aget a.sb.contexts x = some c ∧ c.caughtAt = some y ∧ 0 < c.outstanding ∧ y + fld a fSB_CTRL_SPLICE_LIMIT 0 * Config.ms ≤ a.now)
    (fun _ d => aget d.sb.contexts x = none ∧ (prog d c.programme).live.testBit c.port = true ∧ fld d fSB_EVENT_FORCED_SPLICE 0 = 1)) ∧
  (∀ (t : Time) (p : Nat) (bs : List Byte) (l : List (Nat × List Byte)) (m : Nat) (f : Nat) (n : Nat), RunsAt (.repairServe t) t
    (fun a => a.part.hasSideboard = true ∧ pdOn a 48 = true ∧ a.sb.issuedNow < recordLimit ∧ a.sb.repFrames = (p, bs) :: l ∧ repairAsk p bs a = some (m, f, n))
    (fun a d => d.sb.repFrames = l ∧ counter d .repServed p = counter a .repServed p + 1 ∧
      (agetD d.sb.waiting (portPipe p) []).length = (agetD a.sb.waiting (portPipe p) []).length + (repairFind a m f n).1.length + 1)) ∧
  (∀ (t : Time) (p : Nat) (bs : List Byte) (l : List (Nat × List Byte)), RunsAt (.repairServe t) t
    (fun a => a.part.hasSideboard = true ∧ pdOn a 48 = true ∧ a.sb.issuedNow < recordLimit ∧ a.sb.repFrames = (p, bs) :: l ∧
      (bs.drop (parse bs (fld a fCL_CTRL_TPID3 0)).l3Off).length < 16)
    (fun a d => d.sb.repFrames = l ∧ counter d .repRefused p = counter a .repRefused p + 1 ∧ fld d fSB_EVENT_REPAIR_DROP 0 = 1)) ∧
  (∀ (t : Time) (p : Nat) (x : Nat), RunsAt (.repairBudgetRefill t) t
    (fun a => a.part.hasSideboard = true ∧ aget a.sb.budgets p = some x)
    (fun a d => aget d.sb.budgets p = some (min (sbPortField a p 4 10000 * 125000) (x + sbPortField a p 4 10000)))) ∧
  (∀ (t : Time) (m : Nat), RunsAt (.recordedRateUpdate t) t
    (fun a => a.part.hasSideboard = true ∧ (aget a.sb.programmes m).isSome = true)
    (fun a d => (prog d m).windowNow = 0 ∧ (prog d m).rate = ((((prog a m).windowNow :: (prog a m).window).take 128).foldl (· + ·) 0) * 8 * 1000 / 1024))

/-- Tributary inputs, slips and the highway; the time-slot interchange written, read, swapped and aborted (R397, R398, R407,
R411, R25, R409, R410, R412). -/
def Obligations.Tributaries : Prop :=
  (∀ (k : Fin 32), Runs (.tributaryInputLos k)
    (fun a => tribUnit a = true ∧ highway a = false ∧ tribKind a k ≠ 0 ∧ fld a fTB_STATUS_IN_LOS k = 0)
    (fun _ d => fld d fTB_STATUS_IN_LOS k = 1 ∧ fld d fTB_EVENT_IN_LOS_IN k = 1)) ∧
  (∀ (k : Fin 32), Runs (.tributaryInputLos k)
    (fun a => highway a = true)
    (fun a d => d = a)) ∧
  (∀ (k : Fin 32), Runs (.tributaryLosEnd k)
    (fun a => tribUnit a = true ∧ fld a fTB_STATUS_IN_LOS k = 1)
    (fun _ d => fld d fTB_STATUS_IN_LOS k = 0 ∧ (trib d k).buf.length = 32)) ∧
  (∀ (k : Fin 32), Runs (.controlledSlip k .repeatFrame)
    (fun a => tribUnit a = true ∧ highway a = true ∧ tribKind a k ≠ 0 ∧ (trib a k).slip = [])
    (fun a d => (trib d k).slip = [(trib a k).lastFrame] ∧ fld d fTB_EVENT_SLIP k = 1)) ∧
  (∀ (k : Fin 32), Runs (.controlledSlip k .deleteFrame)
    (fun a => tribUnit a = true ∧ highway a = true ∧ tribKind a k ≠ 0 ∧ 2 ≤ (trib a k).slip.length)
    (fun a d => (trib d k).slip = (trib a k).slip.drop 1 ∧ fld d fTB_EVENT_SLIP k = 1)) ∧
  (∀ (k : Fin 32) (x : Slip), Runs (.controlledSlip k x)
    (fun a => (trib a k).slip.length = 1)
    (fun a d => d = a)) ∧
  (∀ (t : Time) (x : Time), RunsAt (.highwayChangeEnd t) t
    (fun a => a.trib.changeDue = some x ∧ x ≤ a.now)
    (fun _ d => d.trib.changeDue = none)) ∧
  (Runs (.tsiWrite)
    (fun a => tribUnit a = true ∧ fld a fTSI_SEL_PAGE 0 = 0 ∧ tsiBusy a = false ∧ connSlot (reg a .tsiData 0) ≠ 0)
    (fun a d => connEntry d.trib.standby (fld a fTSI_SEL_DIR 0 == 1) (fld a fTSI_SEL_ENTRY 0) = reg a .tsiData 0 &&& 0x7FF ∧ d.trib.active = a.trib.active ∧ fld d fTSI_STATUS_RESULT 0 = 0)) ∧
  (Runs (.tsiWrite)
    (fun a => tribUnit a = true ∧ fld a fTSI_SEL_PAGE 0 = 1)
    (fun a d => d.trib = a.trib ∧ fld d fTSI_STATUS_RESULT 0 = 2)) ∧
  (Runs (.tsiWrite)
    (fun a => tribUnit a = true ∧ fld a fTSI_SEL_PAGE 0 = 0 ∧ tsiBusy a = true)
    (fun a d => d.trib = a.trib ∧ fld d fTSI_STATUS_RESULT 0 = 1)) ∧
  (Runs (.tsiRead)
    (fun a => tribUnit a = true)
    (fun a d => reg d .tsiData 0 = connEntry (if fld a fTSI_SEL_PAGE 0 = 1 then a.trib.active else a.trib.standby) (fld a fTSI_SEL_DIR 0 == 1) (fld a fTSI_SEL_ENTRY 0) ∧ d.trib = a.trib ∧ fld d fTSI_STATUS_RESULT 0 = 0)) ∧
  (Runs (.tsiSwap)
    (fun a => tribUnit a = true ∧ tsiBusy a = false ∧ a.sec.restarting = false ∧ doubleFed a = false)
    (fun _ d => fld d fTSI_STATUS_PENDING 0 = 1 ∧ fld d fTSI_STATUS_RESULT 0 = 0)) ∧
  (Runs (.tsiSwap)
    (fun a => tribUnit a = true ∧ tsiBusy a = true)
    (fun a d => d.trib = a.trib ∧ fld d fTSI_STATUS_RESULT 0 = 1 ∧ counter d .swapsRefused 0 = counter a .swapsRefused 0 + 1)) ∧
  (Runs (.tsiAbort)
    (fun a => tribUnit a = true ∧ fld a fTSI_STATUS_PENDING 0 = 1 ∧ boundarySince a.trib.swapAsked a = false)
    (fun _ d => fld d fTSI_STATUS_PENDING 0 = 0 ∧ fld d fTSI_STATUS_RESULT 0 = 0)) ∧
  (Runs (.tsiAbort)
    (fun a => tribUnit a = true ∧ (fld a fTSI_STATUS_PENDING 0 = 0 ∨ boundarySince a.trib.swapAsked a = true))
    (fun a d => d.trib = a.trib ∧ fld d fTSI_STATUS_RESULT 0 = 3)) ∧
  (∀ (t : Time), RunsAt (.swapCommit t) t
    (fun a => fld a fTSI_STATUS_PENDING 0 = 1 ∧ a.trib.swapAsked ≤ a.now)
    (fun a d => d.trib.active = a.trib.standby ∧ d.trib.standby = a.trib.active ∧ d.trib.saved = a.trib.standby ∧ fld d fTSI_STATUS_COPYING 0 = 1 ∧ fld d fTSI_STATUS_PENDING 0 = 0 ∧ fld d fTR_EVENT_SWAP_DONE 0 = 1)) ∧
  (∀ (t : Time), RunsAt (.standbyCopyDone t) t
    (fun a => fld a fTSI_STATUS_COPYING 0 = 1)
    (fun a d => d.trib.standby = a.trib.active ∧ d.trib.active = a.trib.active ∧ fld d fTSI_STATUS_COPYING 0 = 0))

/-- Software offsets, held Times of Day and the offset timeout move the servo (R423, R424, R425, R427, R420, R421, R422). -/
def Obligations.ServoAndTimeOfDay : Prop :=
  (∀ (t : Time) (v : Word), RunsAt (.softwareOffset t v) t
    (fun a => ltSource a = 1 ∧ a.lc.servo = .free)
    (fun a d => ltNow d = ltNow a - v.toInt ∧ d.lc.servo = .acquiring ∧ d.lc.valid = true ∧ d.lc.steps = a.lc.steps + 1 ∧ fld d fLT_EVENT_STEP 0 = 1)) ∧
  (∀ (t : Time) (v : Word), RunsAt (.softwareOffset t v) t
    (fun a => ltSource a = 1 ∧ a.lc.servo ≠ .free ∧ v.toInt.natAbs ≤ fld a fLT_SERVO_STEP_THRESH 0 * ltNs)
    (fun a d => d.lc.slew = -v.toInt / (2 ^ fld a fLT_SERVO_KP_SHIFT 0 : Nat) ∧ d.lc.lastAccepted = some a.now ∧ d.lc.outlierRun = 0 ∧ d.lc.steps = a.lc.steps)) ∧
  (∀ (t : Time) (v : Word), RunsAt (.softwareOffset t v) t
    (fun a => ltSource a = 1 ∧ a.lc.servo ≠ .free ∧ fld a fLT_SERVO_STEP_THRESH 0 * ltNs < v.toInt.natAbs ∧ a.lc.outlierRun = 0)
    (fun a d => d.lc.trim = a.lc.trim ∧ d.lc.slew = a.lc.slew ∧ d.lc.steps = a.lc.steps ∧ counter d .todOutliers 0 = counter a .todOutliers 0 + 1)) ∧
  (∀ (t : Time) (v : Word), RunsAt (.softwareOffset t v) t
    (fun a => ltSource a ≠ 1)
    (fun a d => d.lc = a.lc ∧ fld d fLT_EVENT_SW_REFUSED 0 = 1 ∧ counter d .swRefused 0 = counter a .swRefused 0 + 1)) ∧
  (∀ (t : Time) (f : Word) (x : Nat) (h : HistFrame), RunsAt (.heldTodDue t) t
    (fun a => a.lc.heldTod = some (f, x) ∧ f ≤ homeFc a ∧ a.lc.history.find? (fun y => y.fc == f) = some h ∧ h.usable = true ∧ ltSource a ≠ 0)
    (fun a d => d.lc.heldTod = none ∧ d.lc.offset = max (-(2 ^ 47 : Int)) (min (2 ^ 47 - 1) (lineOffsetOf a h x)) ∧ counter d .todUsed 0 = counter a .todUsed 0 + 1)) ∧
  (∀ (t : Time) (f : Word) (x : Nat), RunsAt (.heldTodDue t) t
    (fun a => a.lc.heldTod = some (f, x) ∧ f ≤ homeFc a ∧ a.lc.history.find? (fun y => y.fc == f) = none)
    (fun a d => d.lc = { a.lc with heldTod := none } ∧ fld d fLT_EVENT_TOD_DISCARD 0 = 1 ∧ counter d .todDiscarded 0 = counter a .todDiscarded 0 + 1)) ∧
  (∀ (t : Time) (x : Time), RunsAt (.offsetTimeout t) t
    (fun a => a.lc.lastAccepted = some x ∧ x + fld a fLT_CTRL_OFFSET_TIMEOUT 0 * Config.sec ≤ a.now ∧ (a.lc.servo = .acquiring ∨ a.lc.servo = .locked))
    (fun _ d => d.lc.servo = .holdover ∧ fld d fLT_EVENT_HOLDOVER 0 = 1))

/-- SET loads a second; the pulse, the time message and a read of Longcase (R427, R429, R430, R437). -/
def Obligations.LongcaseSetAndOutputs : Prop :=
  (∀ (t : Time) (v : Word), RunsAt (.set t v) t
    (fun a => v.toNat.testBit 0 = true ∧ ltSource a ≠ 0)
    (fun a d => d.lc.setArmed = some (secondsNow a))) ∧
  (∀ (t : Time) (v : Word), RunsAt (.set t v) t
    (fun a => v.toNat.testBit 0 = true ∧ ltSource a = 0)
    (fun a d => d.lc = a.lc ∧ fld d fLT_EVENT_SW_REFUSED 0 = 1)) ∧
  (∀ (t : Time) (x : Nat), RunsAt (.setLoad t) t
    (fun a => a.lc.setArmed = some x ∧ ltSource a ≠ 0 ∧ x < secondsNow a ∧ onBoundary a = true)
    (fun a d => ltNow d = ((reg a .ltSetSec 0).toNat * ltSec : Nat) ∧ d.lc.setArmed = none ∧ d.lc.valid = true)) ∧
  (∀ (t : Time), RunsAt (.setLoad t) t
    (fun a => ltSource a ≠ 0 ∧ onBoundary a = false)
    (fun a d => d.lc = a.lc)) ∧
  (∀ (t : Time), RunsAt (.ppsPulse t) t
    (fun a => fld a fLT_CTRL_PPS_EN 0 = 1 ∧ a.lc.valid = true ∧ ppsReached a = true)
    (fun a d => d.lc.pps = true ∧ d.lc.ppsAt = a.now ∧ d.emitted.contains (.pps true) = true ∧ d.lc.todDue = some (ppsSecond a).toNat)) ∧
  (∀ (t : Time), RunsAt (.ppsPulse t) t
    (fun a => fld a fLT_CTRL_PPS_EN 0 ≠ 1 ∨ a.lc.valid = false ∨ ppsReached a = false)
    (fun a d => d.lc = a.lc)) ∧
  (∀ (t : Time), RunsAt (.ppsWidthEnd t) t
    (fun a => a.lc.pps = true ∧ a.lc.ppsAt + fld a fLT_PPS_PPS_WIDTH 0 * 1000 * Config.ns ≤ a.now)
    (fun _ d => d.lc.pps = false ∧ d.emitted.contains (.pps false) = true)) ∧
  (∀ (t : Time), RunsAt (.ppsWidthEnd t) t
    (fun a => a.now < a.lc.ppsAt + fld a fLT_PPS_PPS_WIDTH 0 * 1000 * Config.ns)
    (fun a d => d.lc.pps = a.lc.pps)) ∧
  (∀ (t : Time) (x : Nat), RunsAt (.pltodMessage t) t
    (fun a => a.lc.todDue = some x ∧ a.lc.ppsAt + 10 * Config.ms ≤ a.now ∧ fld a fLT_CTRL_TOD_EN 0 = 1 ∧ a.lc.valid = true)
    (fun a d => d.emitted.contains (.timeMessage (timeText a x)) = true ∧ d.lc.todDue = none)) ∧
  (∀ (t : Time), RunsAt (.pltodMessage t) t
    (fun a => a.now < a.lc.ppsAt + 10 * Config.ms)
    (fun a d => d.lc = a.lc)) ∧
  (∀ (t : Time), RunsAt (.longcaseNowRead t) t
    (fun _ => True)
    (fun a d => d.emitted.head? = some (.barRead (regOffset .ltNowNs 0) (BitVec.ofNat 48 ((ltSplit (ltNow a)).2.2 * 2 ^ 32 + (ltSplit (ltNow a)).2.1))) ∧
      d.lc.latchSec = BitVec.ofNat 48 (ltSplit (ltNow a)).1 ∧ d.lc.latchSteps = a.lc.steps))

/-- Errors are corrected, retried or poison; a failed rank migrates to its spare or is withdrawn (R454, R455, R458, R464, R465,
R456, R457, R459, R460). -/
def Obligations.MemoryErrorsAndMigration : Prop :=
  (∀ (e : MemError), RunsAt (.memoryErrorDetected e) e.t
    (fun a => (e.stack.val = 4 ∨ e.stack.val < a.part.stacks) ∧ e.block < rankBlocks ∧ pdOn a (41 + e.stack.val) = true ∧ e.kind = .correctable ∧ fld a fMC_CE_LIMIT_CE_LIMIT 0 = 0)
    (fun a d => counter d .memCe (4 * e.stack.val + e.rank.val) = counter a .memCe (4 * e.stack.val + e.rank.val) + 1 ∧ fld d fMC_EVENT_CE 0 = 1 ∧ d.mc.ranks = a.mc.ranks ∧ d.mc.poison = a.mc.poison)) ∧
  (∀ (e : MemError), RunsAt (.memoryErrorDetected e) e.t
    (fun a => (e.stack.val = 4 ∨ e.stack.val < a.part.stacks) ∧ e.block < rankBlocks ∧ pdOn a (41 + e.stack.val) = true ∧ e.kind = .uncorrectable ∧ e.port = .cxl ∧ e.stack.val < 4 ∧ rankState a (4 * e.stack.val + e.rank.val) = .inService)
    (fun a d => rankState d (4 * e.stack.val + e.rank.val) = .failed ∧ d.mc.waiting.map (·.1) = a.mc.waiting.map (·.1) ++ [(4 * e.stack.val + e.rank.val)] ∧
      d.mc.poison.contains (((4 * e.stack.val + e.rank.val) * rankBlocks + e.block) * 64 + e.line) = true ∧ fld d fMC_EVENT_UE 0 = 1 ∧ fld d fMC_EVENT_RANK_FAILED 0 = 1)) ∧
  (∀ (t : Time) (k : Nat) (j : Nat) (l : List (Nat × Option Nat)), RunsAt (.migrationStart t) t
    (fun a => a.mc.migration = none ∧ a.mc.waiting = (k, some j) :: l ∧ stacksOn a true = true)
    (fun _ d => rankState d k = .migrating ∧ d.mc.waiting = l ∧ d.mc.migration = some { rank := k, spare := some j })) ∧
  (∀ (s : State) (t : Time) (bad : List (Fin 64)) (m : Migration) (j : Nat), s.dev.porstLow = false → s.mem.wf = true →
    (tick t s.dev).mc.migration = some m → m.spare = some j → m.done + 1 < rankBlocks → stacksOn (tick t s.dev) true = true →
    ∃ u, exec (.migrationStep t bad) s = .next u ∧ u.pending = s.pending ∧
      u.dev.mc.migration = some { m with done := m.done + 1, next := m.next + 1 } ∧
      (∀ i < 4096, u.mem.read (physical (16 + j) m.next i) =
        s.mem.read (physical
          (located { s.dev.mc with places := aput s.dev.mc.places m.rank ((agetD s.dev.mc.places m.rank []).drop 1) } m.rank m.next) m.next i)) ∧
      (∀ x, (∀ i < 4096, x ≠ physical (16 + j) m.next i) → u.mem.read x = s.mem.read x)) ∧
  (∀ (t : Time) (k : Nat) (l : List (Nat × Option Nat)), RunsAt (.rankWithdrawal t) t
    (fun a => a.mc.migration = none ∧ a.mc.waiting = (k, none) :: l ∧ 18 ≤ a.mc.capacity)
    (fun a d => d.mc.capacity = a.mc.capacity - 8 ∧ rankState d k = .withdrawing ∧ d.mc.migration = some { rank := k, spare := none } ∧ d.mc.waiting = l ∧ fld d fMC_EVENT_WITHDRAWN 0 = 1)) ∧
  (∀ (t : Time) (k : Nat) (l : List (Nat × Option Nat)), RunsAt (.rankWithdrawal t) t
    (fun a => a.mc.migration = none ∧ a.mc.waiting = (k, none) :: l ∧ a.mc.capacity < 18)
    (fun a d => d.mc.capacity = a.mc.capacity ∧ rankState d k = .noHome ∧ d.mc.migration = none ∧ fld d fMC_EVENT_EXHAUSTED 0 = 1))

/-- The CXL.mem window reads and writes exactly the bytes of its lines (R448, R449, R458, R463). -/
def Obligations.WindowAccesses : Prop :=
  (∀ (s : State) (off n : Nat), s.dev.porstLow = false → windowOpen s.dev = true →
    off + n ≤ partSize s.dev 4 * 2 ^ 30 →
    (∀ i < n, ∀ p, windowByte s.dev (off + i) = some p → s.dev.mc.poison.contains (p / 64) = false) →
    ∃ u, exec (.cxlMemAccess off (.read n)) s = .next u ∧ u.pending = s.pending ∧ u.mem = s.mem ∧
      u.dev.emitted.head? = some (.cxlData (some ((List.range n).map (fun i =>
        s.mem.read (resolve s.dev (partBase s.dev 4 * 2 ^ 30 + (off + i)))))))) ∧
  (∀ (s : State) (off p : Nat) (bs : List Byte), s.dev.porstLow = false → windowOpen s.dev = true →
    windowByte s.dev (off / 64 * 64) = some p →
    ∃ u, exec (.cxlMemAccess off (.writeLine bs)) s = .next u ∧ u.pending = s.pending ∧
      u.dev.mc.poison.contains (p / 64) = false ∧
      (∀ i < 64, u.mem.read (p + i) = bs.getD i 0) ∧ (∀ x, x < p ∨ p + 64 ≤ x → u.mem.read x = s.mem.read x)) ∧
  (∀ (s : State) (off p k : Nat) (bs : List Byte), s.dev.porstLow = false → windowOpen s.dev = true →
    windowByte s.dev (off / 64 * 64) = some p → k + bs.length ≤ 64 → bs ≠ [] →
    ∃ u, exec (.cxlMemAccess off (.writePart k bs)) s = .next u ∧ u.pending = s.pending ∧ u.dev = s.dev ∧
      (∀ i < bs.length, u.mem.read (p + k + i) = bs.getD i 0) ∧
      (∀ x, x < p + k ∨ p + k + bs.length ≤ x → u.mem.read x = s.mem.read x))

/-- Ring indexes, host frames, link and host reset, and unmasked vectors (R477, R478, R479, R492, R480, R470, R471, R476, R494). -/
def Obligations.RingsAndHost : Prop :=
  (∀ (t : Time) (r : RingId) (ix : RingIndex), RunsAt (.ringDoorbell t r ix) t
    (fun a => tailLine a (ringNo r) = false)
    (fun a d => (ring d (ringNo r)).hostIx = BitVec.ofNat 16 (ix.index.toNat % (2 * ringSize a (ringNo r))))) ∧
  (∀ (t : Time) (r : RingId) (ix : RingIndex), RunsAt (.ringDoorbell t r ix) t
    (fun a => tailLine a (ringNo r) = true)
    (fun a d => (ring d (ringNo r)) = ring a (ringNo r) ∧ counter d .doorbellIgnored 0 = counter a .doorbellIgnored 0 + 1)) ∧
  (∀ (t : Time) (r : RingId) (ix : RingIndex), RunsAt (.tailLineSnoop t r ix) t
    (fun a => tailLine a (ringNo r) = true)
    (fun a d => (ring d (ringNo r)).hostIx = BitVec.ofNat 16 (ix.index.toNat % (2 * ringSize a (ringNo r))))) ∧
  (∀ (t : Time) (r : RingId) (ix : RingIndex), RunsAt (.tailLineSnoop t r ix) t
    (fun a => tailLine a (ringNo r) = false)
    (fun a d => d.host = a.host)) ∧
  (∀ (r : RingId), Runs (.ringDisable r)
    (fun _ => True)
    (fun a d => ring d (ringNo r) = {} ∧ ringEnabled d (ringNo r) = false ∧ ringSize d (ringNo r) = ringSize a (ringNo r))) ∧
  (∀ (t : Time) (r : RingId), RunsAt (.ringWriteback t r) t
    (fun a => writeBackDue a (ringNo r) = true)
    (fun a d => (ring d (ringNo r)).wbCount = 0 ∧ (ring d (ringNo r)).wbSince = none ∧
      (reg a (ringWbReg (ringNo r)).1 (ringWbReg (ringNo r)).2 ≠ 0 → d.emitted.contains (.ringIndex (ringNo r) (ring a (ringNo r)).devIx) = true))) ∧
  (∀ (t : Time) (r : RingId), RunsAt (.ringWriteback t r) t
    (fun a => writeBackDue a (ringNo r) = false)
    (fun a d => d = a)) ∧
  (∀ (x : BarAccess) (n : Nat) (h : Bool), RunsAt (.registerWrite (.bar2 x)) x.t
    (fun a => hostPort a = true ∧ x.size = 8 ∧ x.offset % 8 = 0 ∧ x.write = false ∧ 104 ≤ x.offset / 0x1000 ∧
      doorbellSlot (x.offset / 0x1000) (x.offset % 0x1000) = some (n, h))
    (fun a d => d = emit (.barRead (bar2 x.offset) (BitVec.ofNat 48 (if h then (ring a n).hostIx else (ring a n).devIx).toNat)) a)) ∧
  (∀ (x : TxDescriptor) (bs : List Byte), RunsAt (.hostTransmit x) x.t
    (fun a => takesWork a 46 = true ∧ ringEnabled a (240 + x.ring.val) = true ∧ (ring a (240 + x.ring.val)).hostIx ≠ (ring a (240 + x.ring.val)).devIx ∧
      14 ≤ bitsOf x.w0.toNat 44 31 ∧ bitsOf x.w0.toNat 44 31 ≤ 16348 ∧ bitsOf x.w0.toNat 46 45 < a.part.pipes ∧ x.frame = some bs)
    (fun a d => agetD d.host.txFrames (bitsOf x.w0.toNat 46 45) [] = agetD a.host.txFrames (bitsOf x.w0.toNat 46 45) [] ++ [⟨x.ring, bs.take (bitsOf x.w0.toNat 44 31), x.timing, x.tag⟩] ∧
      counter d .htxFrames x.ring = counter a .htxFrames x.ring + 1 ∧ counter d .htxBytes x.ring = counter a .htxBytes x.ring + BitVec.ofNat 48 (bitsOf x.w0.toNat 44 31) ∧
      (ring d (240 + x.ring.val)).devIx = indexNext a (240 + x.ring.val) (ring a (240 + x.ring.val)).devIx)) ∧
  (∀ (x : TxDescriptor), RunsAt (.hostTransmit x) x.t
    (fun a => takesWork a 46 = true ∧ ringEnabled a (240 + x.ring.val) = true ∧ (ring a (240 + x.ring.val)).hostIx ≠ (ring a (240 + x.ring.val)).devIx ∧
      (bitsOf x.w0.toNat 44 31 < 14 ∨ 16348 < bitsOf x.w0.toNat 44 31 ∨ a.part.pipes ≤ bitsOf x.w0.toNat 46 45))
    (fun a d => d.host.txFrames = a.host.txFrames ∧ counter d .htxSkipped x.ring = counter a .htxSkipped x.ring + 1)) ∧
  (∀ (x : TxDescriptor), RunsAt (.hostTransmit x) x.t
    (fun a => takesWork a 46 = true ∧ ringEnabled a (240 + x.ring.val) = true ∧ (ring a (240 + x.ring.val)).hostIx ≠ (ring a (240 + x.ring.val)).devIx ∧
      14 ≤ bitsOf x.w0.toNat 44 31 ∧ bitsOf x.w0.toNat 44 31 ≤ 16348 ∧ bitsOf x.w0.toNat 46 45 < a.part.pipes ∧ x.frame = none)
    (fun a d => d.host.txFrames = a.host.txFrames ∧ counter d .htxReadFail x.ring = counter a .htxReadFail x.ring + 1)) ∧
  (∀ (x : TxDescriptor), RunsAt (.hostTransmit x) x.t
    (fun a => ringEnabled a (240 + x.ring.val) = false ∨ (ring a (240 + x.ring.val)).hostIx = (ring a (240 + x.ring.val)).devIx)
    (fun a d => d.host = a.host)) ∧
  (∀ (t : Time) (c : HostResetCause), RunsAt (.hostReset t c) t
    (fun _ => True)
    (fun a d => d.host.txFrames = [] ∧ d.host.rings = [] ∧ d.host.unmasked = [] ∧
      d.host.link = (if c = .flr then a.host.link else {}) ∧ fld d fGL_EVENT_FLR 0 = 1 ∧ counter d .hostResets 0 = counter a .hostResets 0 + 1)) ∧
  (∀ (t : Time) (l : LinkTraining), RunsAt (.linkTrained t l) t
    (fun a => hostPort a = true)
    (fun _ d => d.host.link.up = true ∧ d.host.link.width = l.lanes ∧ d.host.link.speed = l.speed.val ∧
      d.host.link.cxl = (l.cxlNegotiated && l.speed.val == 5 && (l.lanes == 8 || l.lanes == 4)) ∧ (l.lanes < 8 → fld d fGL_EVENT_LINK_DEGRADED 0 = 1))) ∧
  (∀ (v : Fin 2048), Runs (.vectorUnmask v)
    (fun _ => True)
    (fun a d => d.host.unmasked.contains v.val = true ∧ d.host.heldVectors.contains v.val = false ∧
      (a.host.heldVectors.contains v.val = true → d.emitted.head? = some (.msix v)))) ∧
  (∀ (x : WideAccess) (v : Fin 2048), RunsAt (.registerWrite (.bar4 x)) x.t
    (fun a => hostPort a = true ∧ x.size = 4 ∧ x.write = true ∧ x.offset = 16 * v.val + 12 ∧ x.value.getLsbD 0 = true)
    (fun a d => d.host.unmasked.contains v.val = false ∧ d.host.heldVectors = a.host.heldVectors ∧ d.emitted = a.emitted)) ∧
  (∀ (t : Time) (r : CfgReg) (v : BitVec 64), RunsAt (.registerWrite (.config t false r v)) t
    (fun a => hostPort a = true)
    (fun a d => d = emit (.hostRead none (cfgWord a r)) a))

/-- A drawer read pops the head, a flush empties, LEVEL arms, CONSUMER flushes on a change, DMA copies (R485, R486, R487, R488,
R491, R493). -/
def Obligations.DrawerCommands : Prop :=
  (∀ (n : Fin 104) (x : List Word) (l : List (List Word)), Runs (.drawerRead n 0)
    (fun a => drawerPresent a n = true ∧ consumer a n = 0 ∧ (drawer a n).items = x :: l)
    (fun _ d => (drawer d n).items = l ∧ (drawer d n).latch = x ∧ d.emitted.head? = some (.barRead (bar2 (0x1000 * n.val)) (x.getD 0 0)))) ∧
  (∀ (n : Fin 104) (k : Fin 4), Runs (.drawerRead n k)
    (fun a => drawerPresent a n = true ∧ consumer a n = 0 ∧ k ≠ 0)
    (fun a d => d.host = a.host ∧ d.emitted.head? = some (.barRead (bar2 (0x1000 * n.val + 8 * k.val)) (if k.val < drawerWords n then (drawer a n).latch.getD k 0 else 0)))) ∧
  (∀ (n : Fin 104) (k : Fin 4), Runs (.drawerRead n k)
    (fun a => consumer a n ≠ 0)
    (fun a d => d.host = a.host ∧ d.emitted.head? = some (.barRead (bar2 (0x1000 * n.val + 8 * k.val)) 0))) ∧
  (∀ (n : Fin 104) (v : Word), Runs (.drawerFlush n v)
    (fun a => drawerPresent a n = true ∧ v.toNat.testBit 0 = true)
    (fun a d => (drawer d n).items = [] ∧ (drawer d n).latch = [] ∧ (drawer d n).flushes = (drawer a n).flushes + 1 ∧ counter d .drwFlushes n = counter a .drwFlushes n + 1)) ∧
  (∀ (n : Fin 104) (v : Word), Runs (.drawerLevelWrite n v)
    (fun a => drawerPresent a n = true)
    (fun a d => (drawer d n).level = min (bitsOf v.toNat 6 0) (drawerDepth n) ∧ (drawer d n).items = (drawer a n).items)) ∧
  (∀ (n : Fin 104) (v : Word), Runs (.drawerConsumerWrite n v)
    (fun a => drawerPresent a n = true ∧ (n.val = 6 ∨ n.val = 7 → 2 ≤ bitsOf v.toNat 1 0))
    (fun a d => consumer d n = min (bitsOf v.toNat 1 0) 2 ∧ (drawer d n).items = if min (bitsOf v.toNat 1 0) 2 = consumer a n then (drawer a n).items else [])) ∧
  (∀ (n : Fin 104) (v : Word), Runs (.drawerConsumerWrite n v)
    (fun _ => (n.val = 6 ∨ n.val = 7) ∧ bitsOf v.toNat 1 0 < 2)
    (fun a d => d = a)) ∧
  (∀ (t : Time) (n : Fin 104) (x : List Word) (l : List (List Word)), RunsAt (.drawerDmaCopy t n) t
    (fun a => (drawer a n).items = x :: l ∧ consumer a n = 1 ∧ hostPort a = true ∧ ringEnabled a n = true ∧
      indexDist a n (ring a n).hostIx (ring a n).devIx < ringSize a n)
    (fun a d => (drawer d n).items = l ∧ (ring d n).devIx = indexNext a n (ring a n).devIx ∧
      d.emitted.contains (.ringEntry n (ring a n).devIx (x ++ List.replicate (4 - x.length) 0)) = true)) ∧
  (∀ (x : BarAccess) (n : Fin 104), RunsAt (.registerWrite (.bar2 x)) x.t
    (fun a => hostPort a = true ∧ x.size = 8 ∧ x.write = false ∧ x.offset = 0x1000 * n.val + 0x20 ∧ drawerPresent a n = true)
    (fun a d => d = emit (.barRead (bar2 x.offset) (BitVec.ofNat 48 (drawerDepth n * 2 ^ 16 + (drawer a n).flushes.toNat * 2 ^ 8 + (if drawerDepth n ≤ (drawer a n).items.length then 128 else 0) + (drawer a n).items.length))) a))

/-- An aligned 8-byte access writes or reads the register at its offset (R12, R14, R15, R473, R548). -/
def Obligations.RegisterAccess : Prop :=
  (∀ (x : BarAccess) (r : Reg) (i : Nat), RunsAt (.registerWrite (.bar0 x)) x.t
    (fun a => accessOk x = true ∧ x.write = true ∧ regAt x.offset = some (r, i) ∧ regPresent a r i = true ∧ actsOnWrite.contains r = false)
    (fun a d => d.regs = (storeWrite r i x.value a).regs ∧ d.cnt = a.cnt ∧ d.dict = a.dict ∧ d.emitted = a.emitted)) ∧
  (∀ (x : BarAccess), RunsAt (.registerWrite (.bar0 x)) x.t
    (fun a => accessOk x = true ∧ x.write = true ∧ (regAt x.offset).all (fun p => !regPresent a p.1 p.2) = true)
    (fun a d => d.regs = a.regs ∧ d.cnt = a.cnt ∧ d.dict = a.dict ∧ d.emitted = a.emitted)) ∧
  (∀ (x : BarAccess) (r : Reg) (i : Nat), RunsAt (.registerWrite (.bar0 x)) x.t
    (fun a => accessOk x = true ∧ x.write = false ∧ regAt x.offset = some (r, i) ∧ regPresent a r i = true ∧ actsOnRead.contains r = false ∧ a.pwr.state ≠ 1)
    (fun a d => d = emit (.barRead x.offset (readWord a r i)) a)) ∧
  (∀ (x : BarAccess), RunsAt (.registerWrite (.bar0 x)) x.t
    (fun _ => accessOk x = true ∧ x.write = false ∧ regAt x.offset = none)
    (fun a d => d.regs = a.regs ∧ d.emitted = .barRead x.offset (match counterOffset x.offset with | some c => counterNo a.cnt.values c | none => 0) :: a.emitted)) ∧
  (∀ (x : BarAccess), RunsAt (.registerWrite (.bar0 x)) x.t
    (fun _ => accessOk x = true ∧ x.write = true ∧ x.offset = regOffset .glEvent 0)
    (fun a d => fld d ⟨.glEvent, 2, 2⟩ 0 = if x.value.toNat.testBit 2 then 0 else fld a ⟨.glEvent, 2, 2⟩ 0)) ∧
  (∀ (x : BarAccess), RunsAt (.registerWrite (.bar0 x)) x.t
    (fun a => accessOk x = true ∧ coreClocked (x.offset / 0x100000) = true ∧ a.pwr.state = 1 ∧ regAt x.offset = none)
    (fun _ d => d.pwr.state = 0))

/-- An access to BAR0 that is not 8 bytes aligned to 8 reads zero or is ignored, and sets BAD_ACCESS (R474). -/
def Obligations.UnacceptedAccess : Prop :=
  (∀ (x : BarAccess), RunsAt (.registerWrite (.bar0 x)) x.t
    (fun _ => x.size ≠ 8 ∨ x.offset % 8 ≠ 0)
    (fun a d => fld d ⟨.glEvent, 2, 2⟩ 0 = 1 ∧ reg d .glBadAddr 0 = (if fld a ⟨.glEvent, 2, 2⟩ 0 = 0 then BitVec.ofNat 48 (x.offset % 2 ^ 25) else reg a .glBadAddr 0) ∧ d.dict = a.dict)) ∧
  (∀ (x : BarAccess), RunsAt (.registerWrite (.bar0 x)) x.t
    (fun _ => (x.size ≠ 8 ∨ x.offset % 8 ≠ 0) ∧ x.write = false)
    (fun _ d => d.emitted.head? = some (.barRead x.offset 0))) ∧
  (∀ (x : BarAccess), RunsAt (.registerWrite (.bar0 x)) x.t
    (fun _ => x.size ≠ 8 ∨ x.offset % 8 ≠ 0)
    (fun a d => KeepRegs (.glEvent :: .glBadAddr :: countRegs) a d))

/-- Reads of the dictionary answer their entries; restore-defaults, release and malformed requests (R496, R497, R512, R513,
R516, R213, R500, R506, R511). -/
def Obligations.ReadsAndSideCommands : Prop :=
  (∀ (hd : DictHead) (ix : BitVec 16) (h : Nat), RunsAt (.read hd [(ix, 0)]) hd.t
    (fun a => asks hd (requestBytes 1 0 1 hd.reqId 0 0 (readBody [(ix, 0)])) a = true ∧ (pathSt a hd.path).phase = .none ∧ highest ix.toNat = some h)
    (fun a d => d.emitted.contains (.dictReply hd.path (deliveredOn a hd.path (replyMessage 1 0 1 hd.reqId a.dic.gen 0 0 (readRecord ix.toNat 0 0 2 (natToBytes 1 h))))) = true)) ∧
  (∀ (hd : DictHead) (ix : BitVec 16), RunsAt (.read hd [(ix, 0)]) hd.t
    (fun a => asks hd (requestBytes 1 0 1 hd.reqId 0 0 (readBody [(ix, 0)])) a = true ∧ (pathSt a hd.path).phase = .none ∧ highest ix.toNat = none)
    (fun a d => d.emitted.contains (.dictReply hd.path (deliveredOn a hd.path (replyMessage 1 0 1 hd.reqId a.dic.gen 0 0 (readRecord ix.toNat 0 1 0 [])))) = true)) ∧
  (∀ (hd : DictHead) (ix : BitVec 16) (sub : BitVec 8) (e : EntryDef), RunsAt (.read hd [(ix, sub)]) hd.t
    (fun a => asks hd (requestBytes 1 0 1 hd.reqId 0 0 (readBody [(ix, sub)])) a = true ∧ (pathSt a hd.path).phase = .none ∧ sub ≠ 0 ∧ (findEntry ix.toNat sub.toNat).toOption = some e ∧ e.kind = .config ∧ e.right hd.path ≠ 0 ∧
      unitAbsent a e ix.toNat sub.toNat = false ∧ liveConfig a ix.toNat sub.toNat = none)
    (fun a d => d.emitted.contains (.dictReply hd.path (deliveredOn a hd.path (replyMessage 1 0 1 hd.reqId a.dic.gen 0 0 (readRecord ix.toNat sub.toNat 0 e.ty.code (entryBytes a e ix.toNat sub.toNat))))) = true)) ∧
  (∀ (hd : DictHead) (rs : List (BitVec 16 × BitVec 8)), RunsAt (.read hd rs) hd.t
    (fun a => asks hd (requestBytes 1 0 rs.length hd.reqId 0 0 (readBody rs)) a = true ∧ (pathSt a hd.path).phase = .none ∧ rs.all (fun r => readsPlain a hd.path r.1.toNat r.2.toNat) = true)
    (fun a d => d.emitted.contains (.dictReply hd.path (deliveredOn a hd.path (replyMessage 1 0 rs.length hd.reqId a.dic.gen 0 0 (rs.map (fun r => readRecord r.1.toNat r.2.toNat 0 (readEntry a hd.path r.1.toNat r.2.toNat).2.1 (readEntry a hd.path r.1.toNat r.2.toNat).2.2)).flatten))) = true)) ∧
  (∀ (hd : DictHead) (ix : BitVec 16) (sub : BitVec 8) (e : EntryDef) (bs : List Byte), RunsAt (.read hd [(ix, sub)]) hd.t
    (fun a => asks hd (requestBytes 1 0 1 hd.reqId 0 0 (readBody [(ix, sub)])) a = true ∧ (pathSt a hd.path).phase = .open_ ∧ (pathSt a hd.path).single = none ∧ (pathSt a hd.path).writes = [(ix.toNat * 256 + sub.toNat, bs)] ∧ sub ≠ 0 ∧ (findEntry ix.toNat sub.toNat).toOption = some e ∧ e.right hd.path ≠ 0 ∧
      unitAbsent a e ix.toNat sub.toNat = false)
    (fun a d => (pathSt d hd.path).phase = .open_ ∧ (pathSt d hd.path).writes = (pathSt a hd.path).writes ∧ d.emitted.contains (.dictReply hd.path (deliveredOn a hd.path (replyMessage 1 0 1 hd.reqId a.dic.gen 0 0 (readRecord ix.toNat sub.toNat 0 e.ty.code bs)))) = true)) ∧
  (∀ (t : Time) (p : Path) (v : BitVec 16), RunsAt (.restoreDefaults t p v) t
    (fun a => secretaryRuns a = true ∧ p ≠ .h ∧ v = 0x0DEF)
    (fun _ d => d.dic.restore = true ∧ d.emitted.head? = some (.result p 0))) ∧
  (∀ (t : Time) (p : Path) (v : BitVec 16), RunsAt (.restoreDefaults t p v) t
    (fun a => secretaryRuns a = true ∧ (p = .h ∨ v ≠ 0x0DEF))
    (fun a d => d.dic = a.dic ∧ d.emitted.head? = some (.result p (if p = .h then 3 else 5)))) ∧
  (∀ (t : Time) (p : Path) (n : BitVec 32), RunsAt (.releaseCommand t p n) t
    (fun a => secretaryRuns a = true ∧ p ≠ .h ∧ n ≠ a.fs.nonce)
    (fun a d => d.fs = a.fs ∧ counter d .fsWrongRelease 0 = counter a .fsWrongRelease 0 + 1 ∧ d.emitted.contains (.result p 0) = true)) ∧
  (∀ (t : Time) (p : Path) (n : BitVec 32), RunsAt (.releaseCommand t p n) t
    (fun a => secretaryRuns a = true ∧ p ≠ .h ∧ n = a.fs.nonce ∧ a.fs.consent = true)
    (fun _ d => d.fs.stopped = false ∧ d.fs.consent = false ∧ d.fs.release = false ∧ (∀ k < d.part.channels, (fsChan d k).stage = 0) ∧ fld d fFS_EVENT_RELEASED 0 = 1 ∧ d.emitted.contains (.result p 0) = true)) ∧
  (∀ (t : Time) (p : Path) (n : BitVec 32), RunsAt (.releaseCommand t p n) t
    (fun a => secretaryRuns a = true ∧ p ≠ .h ∧ n = a.fs.nonce ∧ a.fs.consent = false)
    (fun a d => d.fs = { a.fs with release := true } ∧ d.emitted.contains (.result p 0) = true)) ∧
  (∀ (t : Time) (p : Path) (n : BitVec 32), RunsAt (.releaseCommand t p n) t
    (fun a => secretaryRuns a = true ∧ p = .h)
    (fun a d => d.fs = a.fs ∧ d.emitted.contains (.result p 3) = true)) ∧
  (∀ (hd : DictHead), RunsAt (.malformedRequest hd none) hd.t
    (fun a => hd.path = .l ∧ pdOn a 3 = true)
    (fun _ d => fld d fMB_STATUS_STATE 0 = 3)) ∧
  (∀ (hd : DictHead) (bs : List Byte), RunsAt (.malformedRequest hd (some bs)) hd.t
    (fun a => hd.path = .l ∧ secretaryRuns a = true ∧ (bs.length < 24 ∨ 8192 < bs.length))
    (fun _ d => fld d fMB_STATUS_STATE 0 = 3)) ∧
  (∀ (hd : DictHead) (bs : List Byte), RunsAt (.malformedRequest hd (some bs)) hd.t
    (fun a => hd.path = .l ∧ 24 ≤ bs.length ∧
      asks { hd with reqId := BitVec.ofNat 32 (bytesToNat ((bs.drop 4).take 4)) } bs a = true)
    (fun a d => d.emitted.contains (.dictReply .l (deliveredOn a .l
        (replyMessage (bs.getD 1 0).toNat 5 0 (BitVec.ofNat 32 (bytesToNat ((bs.drop 4).take 4))) a.dic.gen 0 0 []))) = true ∧
      fld d fMB_STATUS_STATE 0 = 2))

/-- Write, Open, Commit, Abort and Query act on their path by the phase of its transaction (R510, R513, R514, R515, R517, R518,
R519). -/
def Obligations.WriteAndTransactions : Prop :=
  (∀ (hd : DictHead) (r : WriteRec), RunsAt (.write hd [r]) hd.t
    (fun a => asks hd (requestBytes 2 0 1 hd.reqId 0 0 (writeBody [r])) a = true ∧ (pathSt a hd.path).phase = .none ∧ writeCheck a hd.path r.index.toNat r.sub.toNat r.ty.toNat r.value = 0 ∧ r.value.length ≤ 2 ^ 20)
    (fun a d => (pathSt d hd.path).phase = .pending ∧ (pathSt d hd.path).due = some (.boundary a.now) ∧ (pathSt d hd.path).writes = [(r.index.toNat * 256 + r.sub.toNat, r.value)] ∧ (pathSt d hd.path).failed = none ∧ (pathSt d hd.path).commitId = hd.reqId ∧ (pathSt d hd.path).openGen = a.dic.gen ∧ d.dict = a.dict)) ∧
  (∀ (hd : DictHead) (r : WriteRec), RunsAt (.write hd [r]) hd.t
    (fun a => asks hd (requestBytes 2 0 1 hd.reqId 0 0 (writeBody [r])) a = true ∧ (pathSt a hd.path).phase = .open_ ∧ (pathSt a hd.path).writes = [] ∧ (pathSt a hd.path).bytes = 0 ∧ r.value.length ≤ 2 ^ 20 ∧
      writeCheck a hd.path r.index.toNat r.sub.toNat r.ty.toNat r.value = 0)
    (fun a d => (pathSt d hd.path).phase = .open_ ∧ (pathSt d hd.path).writes = [(r.index.toNat * 256 + r.sub.toNat, r.value)] ∧ (pathSt d hd.path).bytes = r.value.length ∧ d.dict = a.dict ∧ d.emitted.contains (.dictReply hd.path (deliveredOn a hd.path (replyMessage 2 0 1 hd.reqId a.dic.gen 0 0 (writeRecord (r.index.toNat * 256 + r.sub.toNat) 0)))) = true)) ∧
  (∀ (hd : DictHead) (rs : List WriteRec), RunsAt (.write hd rs) hd.t
    (fun a => asks hd (requestBytes 2 0 rs.length hd.reqId 0 0 (writeBody rs)) a = true ∧ (pathSt a hd.path).phase = .pending ∧ rs.length ≤ 255)
    (fun a d => (pathSt d hd.path).phase = .pending ∧ (pathSt d hd.path).writes = (pathSt a hd.path).writes ∧ d.emitted.contains (.dictReply hd.path (deliveredOn a hd.path (replyMessage 2 8 0 hd.reqId a.dic.gen 0 0 []))) = true)) ∧
  (∀ (hd : DictHead), RunsAt (.open_ hd) hd.t
    (fun a => asks hd (requestBytes 3 0 0 hd.reqId 0 0 []) a = true ∧ (pathSt a hd.path).phase = .none)
    (fun a d => (pathSt d hd.path).phase = .open_ ∧ (pathSt d hd.path).openGen = a.dic.gen ∧ (pathSt d hd.path).writes = [] ∧ (pathSt d hd.path).reads = [] ∧ d.emitted.contains (.dictReply hd.path (deliveredOn a hd.path (replyMessage 3 0 0 hd.reqId a.dic.gen 0 0 []))) = true)) ∧
  (∀ (hd : DictHead), RunsAt (.open_ hd) hd.t
    (fun a => asks hd (requestBytes 3 0 0 hd.reqId 0 0 []) a = true ∧ (pathSt a hd.path).phase ≠ .none)
    (fun a d => (pathSt d hd.path).phase = (pathSt a hd.path).phase ∧ (pathSt d hd.path).writes = (pathSt a hd.path).writes ∧ d.emitted.contains (.dictReply hd.path (deliveredOn a hd.path (replyMessage 3 8 0 hd.reqId a.dic.gen 0 0 []))) = true)) ∧
  (∀ (hd : DictHead), RunsAt (.commit hd none) hd.t
    (fun a => asks hd (requestBytes 4 0 0 hd.reqId 0 0 []) a = true ∧ (pathSt a hd.path).phase = .open_)
    (fun a d => (pathSt d hd.path).phase = .pending ∧ (pathSt d hd.path).due = some (.boundary (a.now + 100 * Config.us)) ∧ (pathSt d hd.path).commitId = hd.reqId ∧ (pathSt d hd.path).writes = (pathSt a hd.path).writes ∧ d.emitted.contains (.dictReply hd.path (deliveredOn a hd.path (replyMessage 4 0 0 hd.reqId a.dic.gen 0 0 []))) = true)) ∧
  (∀ (hd : DictHead) (x : TimeVal), RunsAt (.commit hd (some x)) hd.t
    (fun a => asks hd (requestBytes 4 1 0 hd.reqId x.seconds.toNat x.ns.toNat []) a = true ∧ (pathSt a hd.path).phase = .open_ ∧ timeRefused x a = 0)
    (fun a d => (pathSt d hd.path).phase = .pending ∧ (pathSt d hd.path).due = some (.scheduled x.seconds x.ns.toNat) ∧ d.emitted.contains (.dictReply hd.path (deliveredOn a hd.path (replyMessage 4 0 0 hd.reqId a.dic.gen x.seconds.toNat x.ns.toNat []))) = true)) ∧
  (∀ (hd : DictHead), RunsAt (.commit hd none) hd.t
    (fun a => asks hd (requestBytes 4 0 0 hd.reqId 0 0 []) a = true ∧ (pathSt a hd.path).phase ≠ .open_)
    (fun a d => (pathSt d hd.path).phase = (pathSt a hd.path).phase ∧ d.emitted.contains (.dictReply hd.path (deliveredOn a hd.path (replyMessage 4 (if (pathSt a hd.path).phase = .none then 10 else 8) 0 hd.reqId a.dic.gen 0 0 []))) = true)) ∧
  (∀ (hd : DictHead), RunsAt (.abort hd) hd.t
    (fun a => asks hd (requestBytes 5 0 0 hd.reqId 0 0 []) a = true ∧ (pathSt a hd.path).phase = .open_)
    (fun a d => (pathSt d hd.path).phase = .none ∧ (pathSt d hd.path).writes = [] ∧ d.dict = a.dict ∧ counter d .dictAborts (pathNo hd.path) = counter a .dictAborts (pathNo hd.path) + 1 ∧ d.emitted.contains (.dictReply hd.path (deliveredOn a hd.path (replyMessage 5 0 0 hd.reqId a.dic.gen 0 0 []))) = true)) ∧
  (∀ (hd : DictHead), RunsAt (.abort hd) hd.t
    (fun a => asks hd (requestBytes 5 0 0 hd.reqId 0 0 []) a = true ∧ (pathSt a hd.path).phase = .pending ∧ pointReached a (pathSt a hd.path) = true)
    (fun a d => (pathSt d hd.path).phase = .pending ∧ (pathSt d hd.path).writes = (pathSt a hd.path).writes ∧ d.dict = a.dict ∧ d.emitted.contains (.dictReply hd.path (deliveredOn a hd.path (replyMessage 5 9 0 hd.reqId a.dic.gen 0 0 []))) = true)) ∧
  (∀ (hd : DictHead), RunsAt (.abort hd) hd.t
    (fun a => asks hd (requestBytes 5 0 0 hd.reqId 0 0 []) a = true ∧ (pathSt a hd.path).phase = .pending ∧ pointReached a (pathSt a hd.path) = false)
    (fun a d => (pathSt d hd.path).phase = .none ∧ (pathSt d hd.path).writes = [] ∧ (pathSt d hd.path).outcome.state = 3 ∧ d.dict = a.dict ∧ d.emitted.contains (.dictReply hd.path (deliveredOn a hd.path (replyMessage 5 0 0 hd.reqId a.dic.gen 0 0 []))) = true)) ∧
  (∀ (hd : DictHead), RunsAt (.abort hd) hd.t
    (fun a => asks hd (requestBytes 5 0 0 hd.reqId 0 0 []) a = true ∧ (pathSt a hd.path).phase = .none)
    (fun a d => (pathSt d hd.path).phase = .none ∧ d.emitted.contains (.dictReply hd.path (deliveredOn a hd.path (replyMessage 5 (if (pathSt a hd.path).reached then 9 else 10) 0 hd.reqId a.dic.gen 0 0 []))) = true)) ∧
  (∀ (hd : DictHead), RunsAt (.query hd) hd.t
    (fun a => asks hd (requestBytes 6 0 0 hd.reqId 0 0 []) a = true ∧ (pathSt a hd.path).phase = .open_)
    (fun a d => (pathSt d hd.path).phase = .open_ ∧ d.emitted.contains (.dictReply hd.path (deliveredOn a hd.path (replyMessage 6 0 1 hd.reqId a.dic.gen 0 0 (outcomeRecord 0 1 0 0)))) = true)) ∧
  (∀ (hd : DictHead), RunsAt (.query hd) hd.t
    (fun a => asks hd (requestBytes 6 0 0 hd.reqId 0 0 []) a = true ∧ (pathSt a hd.path).phase = .pending)
    (fun a d => (pathSt d hd.path).phase = .pending ∧ d.emitted.contains (.dictReply hd.path (deliveredOn a hd.path (replyMessage 6 0 1 hd.reqId a.dic.gen 0 0 (outcomeRecord (pathSt a hd.path).commitId 2 0 0)))) = true))

/-- A commit point applies or refuses its transaction whole; idle ends an open one; a save writes the store (R515, R518, R520,
R521, R522). -/
def Obligations.CommitPointsAndSaves : Prop :=
  (∀ (t : Time) (p : Path) (n : Time), RunsAt (.commitPoint t p) t
    (fun a => secretaryRuns a = true ∧ a.act.lockoutDue = none ∧ (pathSt a p).phase = .pending ∧ (pathSt a p).due = some (.boundary n) ∧ n ≤ a.now ∧ [Path.h, .l, .s].all (fun q => q == p || (pathSt a q).phase != .pending) = true ∧ (pathSt a p).writes = [] ∧ (pathSt a p).reads = [] ∧ (pathSt a p).failed = none ∧ a.dic.unsaved < 32768)
    (fun a d => d.dic.gen = a.dic.gen + 1 ∧ (pathSt d p).phase = .none ∧ (pathSt d p).reached = true ∧ (pathSt d p).outcome.state = 3 ∧ (pathSt d p).outcome.result = 0 ∧ (pathSt d p).outcome.reqId = (pathSt a p).commitId ∧ (pathSt d p).outcome.gen = a.dic.gen + 1 ∧ d.dic.saveState = 1 ∧ d.dict = a.dict)) ∧
  (∀ (t : Time) (p : Path) (n : Time) (c : Nat) (k : Nat), RunsAt (.commitPoint t p) t
    (fun a => secretaryRuns a = true ∧ a.act.lockoutDue = none ∧ (pathSt a p).phase = .pending ∧ (pathSt a p).due = some (.boundary n) ∧ n ≤ a.now ∧ [Path.h, .l, .s].all (fun q => q == p || (pathSt a q).phase != .pending) = true ∧ (pathSt a p).failed = some (c, k))
    (fun a d => d.dic.gen = a.dic.gen ∧ d.dict = a.dict ∧ (pathSt d p).phase = .none ∧ (pathSt d p).outcome.result = c ∧ (pathSt d p).outcome.entry = k)) ∧
  (∀ (t : Time) (p : Path) (n : Time), RunsAt (.commitPoint t p) t
    (fun a => secretaryRuns a = true ∧ a.act.lockoutDue = none ∧ (pathSt a p).phase = .pending ∧ (pathSt a p).due = some (.boundary n) ∧ n ≤ a.now ∧ [Path.h, .l, .s].all (fun q => q == p || (pathSt a q).phase != .pending) = true ∧ (pathSt a p).writes.any (fun e => e.1 == 0x1900 * 256 + 5) = false)
    (fun a d => d.dict = (commitTry p (pathSt a p) a).2.dict ∧ (pathSt d p).phase = .none ∧ (pathSt d p).outcome.result = ((commitTry p (pathSt a p) a).1.map (·.1)).getD 0)) ∧
  (∀ (t : Time) (p : Path), RunsAt (.transactionIdleTimeout t p) t
    (fun a => secretaryRuns a = true ∧ (pathSt a p).phase = .open_ ∧ (pathSt a p).lastAt + entryAt a 0x1800 3 * Config.sec ≤ a.now)
    (fun a d => (pathSt d p).phase = .none ∧ (pathSt d p).abandoned = true ∧ (pathSt d p).writes = [] ∧ counter d .dictIdle (pathNo p) = counter a .dictIdle (pathNo p) + 1)) ∧
  (∀ (t : Time), RunsAt (.dictionarySave t true) t
    (fun a => secretaryRuns a = true ∧ a.dic.saveState = 1)
    (fun a d => d.dic.saveState = 0 ∧ d.dic.unsaved = 0 ∧ d.dic.store.values = a.dict.filter (fun e => storedKey e.1) ∧ d.dic.store.gen = a.dic.gen ∧ counter d .savesMade 0 = counter a .savesMade 0 + 1)) ∧
  (∀ (t : Time), RunsAt (.dictionarySave t false) t
    (fun a => secretaryRuns a = true ∧ a.dic.saveState = 1)
    (fun a d => d.dic.saveState = 2 ∧ d.dic.store = a.dic.store ∧ d.dic.unsaved = a.dic.unsaved ∧ counter d .savesFailed 0 = counter a .savesFailed 0 + 1))

/-- A submitted task waits or is ready or refused; a ready one goes to the core that its affinity names (R532, R533, R534, R535,
R539, R540). -/
def Obligations.TaskSubmissionAndDispatch : Prop :=
  (∀ (x : TaskDesc), RunsAt (.taskSubmit x) x.t
    (fun a => takesWork a 3 = true ∧ hostPort a = true ∧ ringEnabled a 260 = true ∧ (ring a 260).hostIx ≠ (ring a 260).devIx ∧ task a (bitsOf x.w0.toNat 23 12) = none ∧ hostHandle a (bitsOf x.w0.toNat 23 12) = true ∧ publishedType (bitsOf x.w0.toNat 47 40) = true ∧
      bitsOf x.w3.toNat 35 33 ≤ 4 ∧ (([bitsOf x.w1.toNat 47 36, bitsOf x.w1.toNat 35 24, bitsOf x.w1.toNat 23 12, bitsOf x.w1.toNat 11 0]).take (bitsOf x.w3.toNat 35 33)).all (hostHandle a) = true ∧ bitsOf x.w3.toNat 47 37 ≤ 1879 ∧ 0 < (bitsOf x.w0.toNat 11 0))
    (fun a d => task d (bitsOf x.w0.toNat 23 12) = some (newTask (bitsOf x.w0.toNat 47 40) (bitsOf x.w0.toNat 39 24) (bitsOf x.w0.toNat 11 0) (([bitsOf x.w1.toNat 47 36, bitsOf x.w1.toNat 35 24, bitsOf x.w1.toNat 23 12, bitsOf x.w1.toNat 11 0]).take (bitsOf x.w3.toNat 35 33)) (x.w3.toNat.testBit 36) x.w2 (bitsOf x.w3.toNat 47 37) (BitVec.ofNat 32 (bitsOf x.w3.toNat 31 0))) ∧ counter d .tasksAccepted 0 = counter a .tasksAccepted 0 + 1)) ∧
  (∀ (x : TaskDesc), RunsAt (.taskSubmit x) x.t
    (fun a => takesWork a 3 = true ∧ hostPort a = true ∧ ringEnabled a 260 = true ∧ (ring a 260).hostIx ≠ (ring a 260).devIx ∧ task a (bitsOf x.w0.toNat 23 12) = none ∧ hostHandle a (bitsOf x.w0.toNat 23 12) = true ∧ publishedType (bitsOf x.w0.toNat 47 40) = true ∧
      bitsOf x.w3.toNat 35 33 ≤ 4 ∧ (([bitsOf x.w1.toNat 47 36, bitsOf x.w1.toNat 35 24, bitsOf x.w1.toNat 23 12, bitsOf x.w1.toNat 11 0]).take (bitsOf x.w3.toNat 35 33)).all (hostHandle a) = true ∧ bitsOf x.w3.toNat 47 37 ≤ 1879 ∧ (bitsOf x.w0.toNat 11 0) = 0 ∧ (bitsOf x.w0.toNat 47 40) ≠ 0x40)
    (fun a d => task d (bitsOf x.w0.toNat 23 12) = some { newTask (bitsOf x.w0.toNat 47 40) (bitsOf x.w0.toNat 39 24) 0 (([bitsOf x.w1.toNat 47 36, bitsOf x.w1.toNat 35 24, bitsOf x.w1.toNat 23 12, bitsOf x.w1.toNat 11 0]).take (bitsOf x.w3.toNat 35 33)) (x.w3.toNat.testBit 36) x.w2 (bitsOf x.w3.toNat 47 37) (BitVec.ofNat 32 (bitsOf x.w3.toNat 31 0)) with state := .ready, readyAt := a.now, order := a.sec.nextOrder } ∧ counter d .tasksAccepted 0 = counter a .tasksAccepted 0 + 1)) ∧
  (∀ (x : TaskDesc), RunsAt (.taskSubmit x) x.t
    (fun a => takesWork a 3 = true ∧ hostPort a = true ∧ ringEnabled a 260 = true ∧ (ring a 260).hostIx ≠ (ring a 260).devIx ∧ task a (bitsOf x.w0.toNat 23 12) = none ∧ hostHandle a (bitsOf x.w0.toNat 23 12) = true ∧ publishedType (bitsOf x.w0.toNat 47 40) = true ∧
      bitsOf x.w3.toNat 35 33 ≤ 4 ∧ (([bitsOf x.w1.toNat 47 36, bitsOf x.w1.toNat 35 24, bitsOf x.w1.toNat 23 12, bitsOf x.w1.toNat 11 0]).take (bitsOf x.w3.toNat 35 33)).all (hostHandle a) = true ∧ bitsOf x.w3.toNat 47 37 ≤ 1879 ∧ (bitsOf x.w0.toNat 11 0) = 0 ∧ (bitsOf x.w0.toNat 47 40) = 0x40 ∧ bitsOf x.w3.toNat 35 33 = 0)
    (fun a d => task d (bitsOf x.w0.toNat 23 12) = none ∧ counter d .tasksAccepted 0 = counter a .tasksAccepted 0 + 1)) ∧
  (∀ (x : TaskDesc), RunsAt (.taskSubmit x) x.t
    (fun a => takesWork a 3 = true ∧ hostPort a = true ∧ ringEnabled a 260 = true ∧ (ring a 260).hostIx ≠ (ring a 260).devIx ∧ ((task a (bitsOf x.w0.toNat 23 12)).isSome = true ∨ hostHandle a (bitsOf x.w0.toNat 23 12) = false ∨ publishedType (bitsOf x.w0.toNat 47 40) = false))
    (fun a d => d.sec.tasks = a.sec.tasks ∧ counter d .tasksRefused 0 = counter a .tasksRefused 0 + 1 ∧ fld d fBN_EVENT_REFUSED 0 = 1)) ∧
  (∀ (t : Time) (h : Nat) (x : Task) (k : Nat), RunsAt (.taskDispatch t) t
    (fun a => takesWork a 3 = true ∧ readyTasks (firmwareWork a) = [(h, x)] ∧ ((idleCores a).filter (fun k => !firmwareTask x || Config.imageTaskAllowed x.ty (k / 4))).find? (fun k => (core a k).lastType == x.ty && (core a k).lastContext == x.context) = some k)
    (fun a d => (core d k).busy = some h ∧ (core d k).lastType = x.ty ∧ task d h = some { x with state := .running, startedAt := a.now } ∧ d.emitted.contains (.task k h [x.arg]) = true)) ∧
  (∀ (t : Time) (h : Nat) (x : Task) (k : Nat), RunsAt (.taskDispatch t) t
    (fun a => takesWork a 3 = true ∧ readyTasks (firmwareWork a) = [(h, x)] ∧ ((idleCores a).filter (fun k => !firmwareTask x || Config.imageTaskAllowed x.ty (k / 4))).find? (fun k => (core a k).lastType == x.ty && (core a k).lastContext == x.context) = none ∧ (busyCores a).any (fun k => (core a k).lastType == x.ty && (core a k).lastContext == x.context) = false ∧ ((idleCores a).filter (fun k => !firmwareTask x || Config.imageTaskAllowed x.ty (k / 4))).head? = some k)
    (fun a d => (core d k).busy = some h ∧ (core d k).lastType = x.ty ∧ task d h = some { x with state := .running, startedAt := a.now } ∧ d.emitted.contains (.task k h [x.arg]) = true)) ∧
  (∀ (t : Time) (h : Nat) (x : Task), RunsAt (.taskDispatch t) t
    (fun a => takesWork a 3 = true ∧ readyTasks (firmwareWork a) = [(h, x)] ∧ ((idleCores a).filter (fun k => !firmwareTask x || Config.imageTaskAllowed x.ty (k / 4))).find? (fun k => (core a k).lastType == x.ty && (core a k).lastContext == x.context) = none ∧ (busyCores a).any (fun k => (core a k).lastType == x.ty && (core a k).lastContext == x.context) = true ∧ a.now - x.readyAt < fld a fBN_CTRL_AFFINITY_WINDOW 0 * Config.ns)
    (fun a d => d.sec = (firmwareWork a).sec)) ∧
  (∀ (t : Time) (h : BitVec 12) (x : Task) (k : Nat), RunsAt (.affinityWindowExpiry t h) t
    (fun a => pdOn a 3 = true ∧ task a h.toNat = some x ∧ x.state = .ready ∧ x.redispatched = false ∧ x.readyAt + fld a fBN_CTRL_AFFINITY_WINDOW 0 * Config.ns ≤ a.now ∧ ((idleCores a).filter (fun k => !firmwareTask x || Config.imageTaskAllowed x.ty (k / 4))).find? (fun k => (core a k).lastType == x.ty && (core a k).lastContext == x.context) = none ∧ ((idleCores a).filter (fun k => !firmwareTask x || Config.imageTaskAllowed x.ty (k / 4))).head? = some k)
    (fun a d => (core d k).busy = some h.toNat ∧ (core d k).lastType = x.ty ∧ task d h.toNat = some { x with state := .running, startedAt := a.now } ∧ d.emitted.contains (.task k h.toNat [x.arg]) = true ∧ counter d .taskWindow k = counter a .taskWindow k + 1))

/-- Tasks end by completion, fault and cancel; handles stay while live, clusters load or fail (R535, R536, R537, R538, R541,
R529, R530, R532). -/
def Obligations.TaskEndsAndClusters : Prop :=
  (∀ (t : Time) (k : Fin 16) (c : BitVec 3) (r : TaskAnswer) (h : Nat) (x : Task), RunsAt (.taskComplete t k c r) t
    (fun a => (core a k).busy = some h ∧ (c = 0 ∨ c = 4) ∧ task a h = some x ∧ x.succs = [])
    (fun _ d => task d h = none ∧ (core d k).busy = none)) ∧
  (∀ (t : Time) (k : Fin 16) (r : TaskAnswer) (h : Nat) (x : Task) (j : Nat) (y : Task), RunsAt (.taskComplete t k 0 r) t
    (fun a => (core a k).busy = some h ∧ task a h = some x ∧ (taskAction x 0 r a).1 = 0 ∧ x.succs = [j] ∧ j ≠ h ∧ task a j = some y ∧ y.state = .waiting ∧ 1 < y.dep)
    (fun _ d => task d h = none ∧ task d j = some { y with dep := y.dep - 1 })) ∧
  (∀ (t : Time) (k : Fin 16) (r : TaskAnswer) (h : Nat) (x : Task) (j : Nat) (y : Task), RunsAt (.taskComplete t k 0 r) t
    (fun a => (core a k).busy = some h ∧ task a h = some x ∧ (taskAction x 0 r a).1 = 0 ∧ x.succs = [j] ∧ j ≠ h ∧ task a j = some y ∧ y.state = .waiting ∧ y.dep = 1 ∧ y.ty ≠ 0x40)
    (fun a d => task d h = none ∧ task d j = some { y with state := .ready, dep := 0, readyAt := a.now, order := a.sec.nextOrder })) ∧
  (∀ (t : Time) (k : Fin 16) (r : TaskAnswer) (h : Nat) (x : Task) (b : CabBank), RunsAt (.taskComplete t k 0 r) t
    (fun a => (core a k).busy = some h ∧ task a h = some x ∧ x.ty = 0x44 ∧ x.succs = [] ∧ bankLow a (bitsOf r.header.toNat 47 32) = some b)
    (fun _ d => task d h = none ∧ d.emitted.contains (.bankCopy (64 * x.arg.toNat + 8) b) = true)) ∧
  (∀ (t : Time) (k : Fin 16) (h : Nat) (x : Task), RunsAt (.taskFault t k .exception) t
    (fun a => (core a k).busy = some h ∧ task a h = some x ∧ x.succs = [] ∧ ((cluster a (k.val / 4)).faults.filter (fun u => decide (a.now < u + Config.sec))).length < 2)
    (fun a d => task d h = none ∧ (core d k).busy = none ∧ counter d .taskFaults k = counter a .taskFaults k + 1 ∧ fld d fBN_EVENT_FAULT 0 = 1 ∧ (cluster d (k.val / 4)).faults.head? = some a.now ∧ (cluster d (k.val / 4)).state = (cluster a (k.val / 4)).state)) ∧
  (∀ (t : Time) (k : Fin 16) (h : Nat) (x : Task), RunsAt (.taskFault t k .poison) t
    (fun a => clusterUp a (k.val / 4) = true ∧ (core a k).busy = some h ∧ task a h = some x ∧ x.succs = [])
    (fun a d => task d h = none ∧ counter d .clusterRestarts (k.val / 4) = counter a .clusterRestarts (k.val / 4) + 1 ∧ (cluster d (k.val / 4)).state = (if pdOn a (4 + k.val / 4) then ClusterState.loading else .off))) ∧
  (∀ (t : Time) (h : BitVec 12), RunsAt (.taskCancel t h) t
    (fun a => pdOn a 3 = true ∧ hostHandle a h.toNat = false)
    (fun a d => d.sec = { a.sec with cancelResult := 1 })) ∧
  (∀ (t : Time) (h : BitVec 12), RunsAt (.taskCancel t h) t
    (fun a => pdOn a 3 = true ∧ hostHandle a h.toNat = true ∧ task (dispatchReady a) h.toNat = none)
    (fun a d => d.sec = { (dispatchReady a).sec with cancelResult := 1 })) ∧
  (∀ (t : Time) (h : BitVec 12) (x : Task), RunsAt (.taskCancel t h) t
    (fun a => pdOn a 3 = true ∧ hostHandle a h.toNat = true ∧ task (dispatchReady a) h.toNat = some x ∧ x.state = .running)
    (fun a d => d.sec = { (dispatchReady a).sec with cancelResult := 3 })) ∧
  (∀ (t : Time) (h : BitVec 12) (x : Task), RunsAt (.taskCancel t h) t
    (fun a => pdOn a 3 = true ∧ hostHandle a h.toNat = true ∧ task (dispatchReady a) h.toNat = some x ∧ x.state ≠ .running ∧ x.succs = [])
    (fun a d => task d h.toNat = none ∧ d.sec.cancelResult = 0 ∧ counter d .tasksCancelled 0 = counter (dispatchReady a) .tasksCancelled 0 + 1)) ∧
  (∀ (v : Word), Runs (.hostHandlesWrite v)
    (fun a => a.sec.tasks.any (fun e => hostHandle a e.1) = false)
    (fun a d => fld d fBN_CTRL_HOST_HANDLES 0 = (if bitsOf v.toNat 27 16 ≤ 2048 then bitsOf v.toNat 27 16 else fld a fBN_CTRL_HOST_HANDLES 0) ∧ fld d fBN_CTRL_AFFINITY_WINDOW 0 = fld a fBN_CTRL_AFFINITY_WINDOW 0 ∧ d.sec = a.sec)) ∧
  (∀ (v : Word), Runs (.hostHandlesWrite v)
    (fun a => a.sec.tasks.any (fun e => hostHandle a e.1) = true)
    (fun a d => fld d fBN_CTRL_HOST_HANDLES 0 = fld a fBN_CTRL_HOST_HANDLES 0 ∧ fld d fBN_EVENT_ACC_REFUSED 0 = 1)) ∧
  (∀ (s : State) (a : Dev) (t : Time) (c : Fin 4) (x y : Bool), s.dev.porstLow = false → a = tick t s.dev →
    (cluster a c).state = .loading → a.sec.restarting = false → pdOn a (4 + c.val) = true →
    (x || y) = true → sectionOk (imageBytes a a.img.ptr.active) = true →
    ∃ u, exec (.clusterLoad t c x y) s = .next u ∧ u.pending = s.pending ∧ (cluster u.dev c).state = .running) ∧
  (∀ (s : State) (a : Dev) (t : Time) (c : Fin 4) (x y : Bool), s.dev.porstLow = false → a = tick t s.dev →
    (cluster a c).state = .loading → a.sec.restarting = false → pdOn a (4 + c.val) = true →
    ((x || y) = false ∨ sectionOk (imageBytes a a.img.ptr.active) = false) →
    ∃ u, exec (.clusterLoad t c x y) s = .next u ∧ u.pending = s.pending ∧ (cluster u.dev c).state = .failed ∧
      counter u.dev .clusterLoadFails c = counter a .clusterLoadFails c + 1 ∧ fld u.dev fBN_EVENT_CLUSTER_FAIL 0 = 1) ∧
  (∀ (s : State) (a : Dev) (t : Time) (c : Fin 4) (x y : Bool) (sec : List Byte) (n : Nat), s.dev.porstLow = false → a = tick t s.dev →
    (cluster a c).state = .loading → a.sec.restarting = false → pdOn a (4 + c.val) = true →
    s.mem.wf = true → sec = serviceSection (imageBytes a a.img.ptr.active) → n = sec.length → n ≤ 2 ^ 24 →
    (∀ i < ceilDiv n 64, ∀ j < i, areaLine a c i + 64 ≤ areaLine a c j ∨ areaLine a c j + 64 ≤ areaLine a c i) →
    ∃ u, exec (.clusterLoad t c x y) s = .next u ∧ u.pending = s.pending ∧
      Frame [.now, .cnt, .regs, .host, .emitted, .mc, .sec] [.bnEvent, .cnWrap, .cnEvent, .scCfg] s.dev u.dev ∧
      (∀ i < n, u.mem.read (areaLine a c (i / 64) + i % 64) = sec.getD i 0) ∧
      (∀ p, (∀ i < n, p ≠ areaLine a c (i / 64) + i % 64) → u.mem.read p = s.mem.read p)) ∧
  (∀ (t : Time) (c : Fin 4) (x : Bool) (y : Bool), RunsAt (.clusterLoad t c x y) t
    (fun a => (cluster a c).state ≠ .loading)
    (fun a d => d = a))

/-- A watchdog, an exception and a command restart the Secretary and hold its clusters; a trial counts the start (R33, R521,
R528, R545, R620). -/
def Obligations.SecretaryRestarts : Prop :=
  (∀ (t : Time), RunsAt (.watchdogExpiry t) t
    (fun a => pdOn a 3 = true ∧ a.img.ptr.trial = false)
    (fun a d => d.sec.restarting = true ∧ d.sec.cause = 1 ∧ counter d .secretaryRestarts 1 = counter a .secretaryRestarts 1 + 1 ∧ (List.range 4).all (fun c => (cluster d c).state == if pdOn a (4 + c) then .loading else .off) = true)) ∧
  (∀ (t : Time), RunsAt (.watchdogExpiry t) t
    (fun a => pdOn a 3 = true ∧ a.img.ptr.trial = true ∧ a.img.ptr.starts < 2)
    (fun a d => d.sec.restarting = true ∧ d.sec.cause = 1 ∧ counter d .secretaryRestarts 1 = counter a .secretaryRestarts 1 + 1 ∧ d.img.ptr.starts = a.img.ptr.starts + 1 ∧ d.img.ptr.trial = true ∧ d.img.ptr.active = a.img.ptr.active)) ∧
  (∀ (t : Time), RunsAt (.secretaryException t) t
    (fun a => pdOn a 3 = true ∧ a.img.ptr.trial = false)
    (fun a d => d.sec.restarting = true ∧ d.sec.cause = 2 ∧ counter d .secretaryRestarts 2 = counter a .secretaryRestarts 2 + 1 ∧ (List.range 4).all (fun c => (cluster d c).state == if pdOn a (4 + c) then .loading else .off) = true)) ∧
  (∀ (t : Time) (p : Path), RunsAt (.restartSecretary t p 0x05EC) t
    (fun a => secretaryRuns a = true ∧ p ≠ .h ∧ a.img.ptr.trial = false)
    (fun a d => d.sec.restarting = true ∧ d.sec.cause = 4 ∧ counter d .secretaryRestarts 4 = counter a .secretaryRestarts 4 + 1 ∧ (List.range 4).all (fun c => (cluster d c).state == if pdOn a (4 + c) then .loading else .off) = true ∧ d.sec.answers = a.sec.answers ++ [p])) ∧
  (∀ (t : Time) (p : Path) (v : BitVec 16), RunsAt (.restartSecretary t p v) t
    (fun a => secretaryRuns a = true ∧ p ≠ .h ∧ v ≠ 0x05EC)
    (fun a d => d.sec = a.sec ∧ d.emitted.contains (.result p 5) = true)) ∧
  (∀ (t : Time) (p : Path) (v : BitVec 8), RunsAt (.restartCluster t p v) t
    (fun a => secretaryRuns a = true ∧ p ≠ .h ∧ 1 ≤ v.toNat ∧ v.toNat ≤ 4)
    (fun a d => (cluster d (v.toNat - 1)).state = (if pdOn a (3 + v.toNat) then ClusterState.loading else .off) ∧
      counter d .clusterRestarts (v.toNat - 1) = counter a .clusterRestarts (v.toNat - 1) + 1 ∧ d.emitted.head? = some (.result p 0))) ∧
  (∀ (t : Time) (p : Path) (v : BitVec 8), RunsAt (.restartCluster t p v) t
    (fun a => secretaryRuns a = true ∧ p ≠ .h ∧ (v.toNat = 0 ∨ 4 < v.toNat))
    (fun a d => d.sec = a.sec ∧ d.emitted.head? = some (.result p 5))) ∧
  (∀ (x : RestartInputs), RunsAt (.secretaryRestartDone x) x.t
    (fun a => a.sec.restarting = true ∧ x.ptrOk = true ∧ slotPasses x.slotsOk a a.img.ptr.active = true ∧ (imgSlot a a.img.ptr.active).format = a.dic.store.format)
    (fun a d => d.sec.restarting = false ∧ d.img.restored = true ∧ d.dic.h.owed = none ∧ d.dic.l.owed = none ∧ d.dic.s.owed = none ∧ d.sec.answers = [] ∧ (a.sec.answers.all (fun p => d.emitted.contains (.result p 0))) = true))

/-- An activation is asked for, aborted or committed to the slot pointer; its trial ends confirmed or rolled back (R615, R616,
R619, R620, R621). -/
def Obligations.ActivationCourse : Prop :=
  (∀ (t : Time) (p : Path), RunsAt (.activationRequest t p) t
    (fun a => secretaryRuns a = true ∧ activationRefusal a (entryAt a 0xB010 2) (bytesToNat ((dictBytes a 0xB010 1 (List.replicate 10 0)).take 6)) (bytesToNat ((dictBytes a 0xB010 1 (List.replicate 10 0)).drop 6)) = none ∧ a.img.request.all (fun q => !activationReached a q) = true)
    (fun a d => d.img.request.map (fun q => (q.target, q.waits)) = some (entryAt a 0xB010 2, pwRunning a) ∧ d.img.reqState = (if pwRunning a || protRuns a then 3 else if a.img.request.isSome then 2 else 1) ∧ d.emitted.head? = some (.result p 0))) ∧
  (∀ (t : Time) (p : Path) (q : ActRequest), RunsAt (.activationRequest t p) t
    (fun a => secretaryRuns a = true ∧ activationRefusal a (entryAt a 0xB010 2) (bytesToNat ((dictBytes a 0xB010 1 (List.replicate 10 0)).take 6)) (bytesToNat ((dictBytes a 0xB010 1 (List.replicate 10 0)).drop 6)) = none ∧ a.img.request = some q ∧ activationReached a q = true)
    (fun a d => d.img.request = some q ∧ d.img.next.map (fun q => (q.target, q.waits)) = some (entryAt a 0xB010 2, pwRunning a) ∧ d.img.reqState = 3 ∧ d.emitted.head? = some (.result p 0))) ∧
  (∀ (t : Time) (p : Path) (c : Nat), RunsAt (.activationRequest t p) t
    (fun a => secretaryRuns a = true ∧ activationRefusal a (entryAt a 0xB010 2) (bytesToNat ((dictBytes a 0xB010 1 (List.replicate 10 0)).take 6)) (bytesToNat ((dictBytes a 0xB010 1 (List.replicate 10 0)).drop 6)) = some c)
    (fun a d => d.img = { a.img with reqState := 4, reqCode := c } ∧ counter d .actRefused 0 = counter a .actRefused 0 + 1)) ∧
  (∀ (t : Time) (p : Path) (q : ActRequest), RunsAt (.activationAbort t p) t
    (fun a => secretaryRuns a = true ∧ a.img.request = some q ∧ activationReached a q = false)
    (fun a d => d.img = { a.img with request := none, next := none, reqState := 5 } ∧ counter d .actCancelled 0 = counter a .actCancelled 0 + 1 ∧ d.emitted.head? = some (.result p 0))) ∧
  (∀ (t : Time) (p : Path) (q : ActRequest), RunsAt (.activationAbort t p) t
    (fun a => secretaryRuns a = true ∧ a.img.request = some q ∧ activationReached a q = true)
    (fun a d => d.img = { a.img with reqState := 7 } ∧ d.emitted.head? = some (.result p 9))) ∧
  (∀ (t : Time) (p : Path), RunsAt (.activationAbort t p) t
    (fun a => secretaryRuns a = true ∧ a.img.request = none)
    (fun a d => d.img = { a.img with reqState := if a.img.reqState = 6 then 7 else a.img.reqState } ∧ d.emitted.head? = some (.result p 9))) ∧
  (∀ (t : Time) (q : ActRequest), RunsAt (.activationCommit t) t
    (fun a => pdOn a 3 = true ∧ a.img.request = some q ∧ activationDue a q = true ∧ q.waits = false ∧ protRuns a = false)
    (fun a d => d.img.ptr.active = q.target ∧ d.img.ptr.previous = some a.img.ptr.active ∧ d.img.ptr.trial = true ∧ d.img.ptr.starts = 1 ∧
      (imgSlot d q.target).state = .active ∧ d.img.request = none ∧ d.img.reqState = (if a.img.reqState = 7 then 7 else if a.img.next.isSome then 3 else 6) ∧ d.fs.image = true ∧ d.sec.restarting = true ∧ d.sec.cause = 3)) ∧
  (∀ (t : Time) (p : Path) (v : BitVec 8), RunsAt (.confirm t p v) t
    (fun a => secretaryRuns a = true ∧ v = 1 ∧ a.img.ptr.trial = true ∧ healthy a = true)
    (fun a d => d.img.ptr.trial = false ∧ d.img.ptr.active = a.img.ptr.active ∧ counter d .confirmations 0 = counter a .confirmations 0 + 1 ∧ d.emitted.head? = some (.result p 0))) ∧
  (∀ (t : Time) (p : Path) (v : BitVec 8), RunsAt (.confirm t p v) t
    (fun a => secretaryRuns a = true ∧ (v ≠ 1 ∨ a.img.ptr.trial = false ∨ healthy a = false))
    (fun a d => d.img = a.img ∧ d.emitted.head? = some (.result p 5))) ∧
  (∀ (t : Time), RunsAt (.autoConfirm t) t
    (fun a => secretaryRuns a = true ∧ a.img.ptr.trial = true ∧ healthy a = true ∧ entryAt a 0xB000 5 = 0)
    (fun a d => d.img.ptr.trial = false ∧ d.img.ptr.active = a.img.ptr.active ∧ counter d .confirmations 0 = counter a .confirmations 0 + 1)) ∧
  (∀ (t : Time), RunsAt (.trialTimeout t) t
    (fun a => a.img.ptr.trial = true ∧ a.img.trialAt + 600 * Config.sec ≤ a.now)
    (fun a d => d.img.ptr.active = a.img.ptr.previous.getD a.img.ptr.active ∧ d.img.ptr.trial = false ∧ d.img.ptr.previous = none ∧ d.img.rollbackCause = 1 ∧
      d.img.rollbacks = a.img.rollbacks + 1 ∧ d.sec.restarting = true ∧ d.sec.cause = 3))

/-- A power request becomes pending, is refused with its code, waits, or stands behind the running change (R552, R553, R554,
R555, R556). -/
def Obligations.PowerRequests : Prop :=
  (∀ (t : Time), RunsAt (.requestRunFull t .host) t
    (fun a => pdOn a 46 = true ∧  a.pwr.shutdown = false ∧ a.pwr.change = none ∧ a.pwr.wake = none ∧ pwBlocked a = false ∧ a.pwr.state ≤ 1 ∧ a.pwr.lifeline = true)
    (fun _ d => d.pwr.change.map (fun c => (c.req.target, c.phase, c.held)) = some (1, .pending, true) ∧ d.fs.power = true ∧ fld d fPW_REQ_STATUS_RESULT 0 = 1)) ∧
  (∀ (t : Time), RunsAt (.requestRunLifeline t .host) t
    (fun a => pdOn a 46 = true ∧  a.pwr.shutdown = false ∧ a.pwr.change = none ∧ a.pwr.wake = none ∧ pwBlocked a = false ∧ a.pwr.state ≤ 1 ∧ a.pwr.lifeline = false ∧ fld a fPW_LL_LL_GROUP 0 < a.part.groups)
    (fun _ d => d.pwr.change.map (fun c => (c.req.target, c.phase, c.held)) = some (2, .pending, true) ∧ d.fs.power = true ∧ fld d fPW_REQ_STATUS_RESULT 0 = 1)) ∧
  (∀ (t : Time) (p : Nat), RunsAt (.requestSleep t .host p) t
    (fun a => pdOn a 46 = true ∧  a.pwr.shutdown = false ∧ a.pwr.change = none ∧ a.pwr.wake = none ∧ pwBlocked a = false ∧ a.pwr.state ≤ 1 ∧ 1 ≤ p ∧ p ≤ 86400)
    (fun _ d => d.pwr.change.map (fun c => (c.req.target, c.phase, c.held)) = some (3, .pending, true) ∧ d.fs.power = true ∧ d.pwr.change.map (fun c => c.req.period) = some p ∧ d.pwr.state = 0)) ∧
  (∀ (t : Time), RunsAt (.requestDeepSleep t .host) t
    (fun a => pdOn a 46 = true ∧  a.pwr.shutdown = false ∧ a.pwr.change = none ∧ a.pwr.wake = none ∧ pwBlocked a = false ∧ a.pwr.state ≤ 1 ∧ refusal { target := 4, origin := .host } a = none)
    (fun a d => d.pwr.change.map (fun c => (c.req.target, c.phase, c.held)) = some (4, .pending, false) ∧ d.act.noticePending = some 3 ∧ d.pwr.change.map (fun c => c.noticeDue) = some (some (a.now + fld a fPW_TIMERS_NOTICE_WAIT 0 * Config.ms)))) ∧
  (∀ (t : Time), RunsAt (.requestOff t .host) t
    (fun a => pdOn a 46 = true ∧  a.pwr.shutdown = false ∧ a.pwr.change = none ∧ a.pwr.wake = none ∧ pwBlocked a = false ∧ a.pwr.state ≤ 1 ∧ refusal { target := 5, origin := .host } a = none)
    (fun a d => d.pwr.change.map (fun c => (c.req.target, c.phase, c.held)) = some (5, .pending, false) ∧ d.act.noticePending = some 4 ∧ d.pwr.change.map (fun c => c.noticeDue) = some (some (a.now + fld a fPW_TIMERS_NOTICE_WAIT 0 * Config.ms)))) ∧
  (∀ (t : Time) (p : Path), RunsAt (.requestRunFull t (.entry p)) t
    (fun a => secretaryRuns a = true ∧ p ≠ .h ∧  a.pwr.shutdown = false ∧ a.pwr.change = none ∧ a.pwr.wake = none ∧ pwBlocked a = false ∧ a.pwr.state ≤ 1 ∧ a.pwr.lifeline = true)
    (fun _ d => d.pwr.change.map (fun c => (c.req.target, c.phase, c.held)) = some (1, .pending, true) ∧ d.emitted.head? = some (.result p 0))) ∧
  (∀ (t : Time) (p : Path), RunsAt (.requestRunLifeline t (.entry p)) t
    (fun a => secretaryRuns a = true ∧ p ≠ .h ∧  a.pwr.shutdown = false ∧ a.pwr.change = none ∧ a.pwr.wake = none ∧ pwBlocked a = false ∧ a.pwr.state ≤ 1 ∧ a.pwr.lifeline = false ∧ fld a fPW_LL_LL_GROUP 0 < a.part.groups)
    (fun _ d => d.pwr.change.map (fun c => (c.req.target, c.phase, c.held)) = some (2, .pending, true) ∧ d.emitted.head? = some (.result p 0))) ∧
  (∀ (t : Time) (p : Path) (n : Nat), RunsAt (.requestSleep t (.entry p) n) t
    (fun a => secretaryRuns a = true ∧ p ≠ .h ∧  a.pwr.shutdown = false ∧ a.pwr.change = none ∧ a.pwr.wake = none ∧ pwBlocked a = false ∧ a.pwr.state ≤ 1 ∧ 1 ≤ n ∧ n ≤ 86400)
    (fun _ d => d.pwr.change.map (fun c => (c.req.target, c.phase, c.held)) = some (3, .pending, true) ∧ d.pwr.change.map (fun c => c.req.period) = some n ∧ d.emitted.head? = some (.result p 0))) ∧
  (∀ (t : Time) (p : Path), RunsAt (.requestDeepSleep t (.entry p)) t
    (fun a => secretaryRuns a = true ∧ p ≠ .h ∧  a.pwr.shutdown = false ∧ a.pwr.change = none ∧ a.pwr.wake = none ∧ pwBlocked a = false ∧ a.pwr.state ≤ 1 ∧ refusal { target := 4, origin := .entry p } a = none)
    (fun _ d => d.pwr.change.map (fun c => (c.req.target, c.phase, c.held)) = some (4, .pending, false) ∧ d.act.noticePending = some 3 ∧ d.emitted.head? = some (.result p 0))) ∧
  (∀ (t : Time) (p : Path), RunsAt (.requestOff t (.entry p)) t
    (fun a => secretaryRuns a = true ∧ p ≠ .h ∧  a.pwr.shutdown = false ∧ a.pwr.change = none ∧ a.pwr.wake = none ∧ pwBlocked a = false ∧ a.pwr.state ≤ 1 ∧ refusal { target := 5, origin := .entry p } a = none)
    (fun _ d => d.pwr.change.map (fun c => (c.req.target, c.phase, c.held)) = some (5, .pending, false) ∧ d.act.noticePending = some 4 ∧ d.emitted.head? = some (.result p 0))) ∧
  (∀ (t : Time) (c : Nat), RunsAt (.requestRunLifeline t .host) t
    (fun a => pdOn a 46 = true ∧ a.pwr.shutdown = false ∧ refusal { target := 2, period := 0, origin := .host } a = some c)
    (fun a d => d.pwr = a.pwr ∧ fld d fPW_REQ_STATUS_RESULT 0 = 4 ∧ fld d fPW_REQ_STATUS_CODE 0 = c ∧ counter d .pwRefused 0 = counter a .pwRefused 0 + 1 ∧ fld d fPW_EVENT_REFUSED 0 = 1)) ∧
  (∀ (t : Time) (p : Nat) (c : Nat), RunsAt (.requestSleep t .host p) t
    (fun a => pdOn a 46 = true ∧ a.pwr.shutdown = false ∧ refusal { target := 3, period := p, origin := .host } a = some c)
    (fun a d => d.pwr = a.pwr ∧ fld d fPW_REQ_STATUS_RESULT 0 = 4 ∧ fld d fPW_REQ_STATUS_CODE 0 = c ∧ counter d .pwRefused 0 = counter a .pwRefused 0 + 1 ∧ fld d fPW_EVENT_REFUSED 0 = 1)) ∧
  (∀ (t : Time) (c : Nat), RunsAt (.requestDeepSleep t .host) t
    (fun a => pdOn a 46 = true ∧ a.pwr.shutdown = false ∧ refusal { target := 4, period := 0, origin := .host } a = some c)
    (fun a d => d.pwr = a.pwr ∧ fld d fPW_REQ_STATUS_RESULT 0 = 4 ∧ fld d fPW_REQ_STATUS_CODE 0 = c ∧ counter d .pwRefused 0 = counter a .pwRefused 0 + 1 ∧ fld d fPW_EVENT_REFUSED 0 = 1)) ∧
  (∀ (t : Time) (c : Nat), RunsAt (.requestOff t .host) t
    (fun a => pdOn a 46 = true ∧ a.pwr.shutdown = false ∧ refusal { target := 5, period := 0, origin := .host } a = some c)
    (fun a d => d.pwr = a.pwr ∧ fld d fPW_REQ_STATUS_RESULT 0 = 4 ∧ fld d fPW_REQ_STATUS_CODE 0 = c ∧ counter d .pwRefused 0 = counter a .pwRefused 0 + 1 ∧ fld d fPW_EVENT_REFUSED 0 = 1)) ∧
  (∀ (t : Time), RunsAt (.requestRunLifeline t .host) t
    (fun a => pdOn a 46 = true ∧ a.pwr.shutdown = false ∧ a.pwr.change = none ∧ a.pwr.wake = none ∧ a.pwr.state ≤ 1 ∧ pwBlocked a = true ∧ refusal { target := 2, origin := .host } a = none ∧ inForce a 2 = false)
    (fun _ d => d.pwr.change.map (fun c => (c.req.target, c.phase)) = some (2, .waits) ∧ fld d fPW_REQ_STATUS_RESULT 0 = 3)) ∧
  (∀ (t : Time) (c : PwChange), RunsAt (.requestRunFull t .host) t
    (fun a => pdOn a 46 = true ∧ a.pwr.shutdown = false ∧ a.pwr.change = some c ∧ c.phase = .running)
    (fun _ d => d.pwr.change = some c ∧ d.pwr.next = some { target := 1, origin := .host }))

/-- A change commits, is cancelled or enters its state; rails follow one by one and failed ones fail the wake (R554, R563, R565,
R566, R567, R561, R562, R568, R634). -/
def Obligations.PowerChangeAndRails : Prop :=
  (∀ (t : Time) (c : PwChange), RunsAt (.noticeWaitExpiry t) t
    (fun a => a.pwr.change = some c ∧ c.phase = .pending ∧ dueBy c.noticeDue a.now = true ∧ a.act.noticeLeft = false)
    (fun a d => d.pwr.change = some { c with held := true, noticeDue := none } ∧ d.act.noticePending = none ∧ d.fs.power = true ∧
      counter d .pwUnsent 0 = counter a .pwUnsent 0 + 1 ∧ fld d fPW_EVENT_NOTICE_UNSENT 0 = 1)) ∧
  (∀ (t : Time) (c : PwChange), RunsAt (.powerChangeCommit t) t
    (fun a => a.pwr.change = some c ∧ c.phase = .pending ∧ c.held = true ∧ pwBlocked a = false ∧ (c.req.target = 4 → (List.range 4).any (fun q => pipeRuns a q && inFlight a q) = false) ∧ (c.req.target ≤ 2 ∨ a.pwr.wakeHigh = false ∧ a.pwr.edge = none))
    (fun a d => d.pwr.change = some { c with phase := .running } ∧ counter d .pwCommitted 0 = counter a .pwCommitted 0 + 1 ∧ fld d fPW_EVENT_STATE_CHANGE 0 = 1)) ∧
  (∀ (t : Time) (c : PwChange), RunsAt (.powerChangeCommit t) t
    (fun a => a.pwr.change = some c ∧ c.phase = .pending ∧ c.held = true ∧ pwBlocked a = false ∧ (c.req.target = 4 ∨ c.req.target = 5) ∧ (c.req.target = 4 → (List.range 4).any (fun q => pipeRuns a q && inFlight a q) = false) ∧ a.pwr.state ≤ 1 ∧ a.pwr.wakeHigh = true)
    (fun a d => d.pwr.change = none ∧ d.pwr.state = a.pwr.state ∧ counter d .pwCancelled 0 = counter a .pwCancelled 0 + 1 ∧ (reg d .pwWake 0).toNat.testBit 15 = true ∧ bitsOf (reg d .pwWake 0).toNat 3 0 = 1)) ∧
  (∀ (t : Time) (c : PwChange), RunsAt (.retentionCommit t) t
    (fun a => a.pwr.change = some c ∧ c.phase = .running ∧ c.retained = false ∧ (c.req.target = 1 ∨ c.req.target = 2) ∧ a.pwr.next = none)
    (fun _ d => d.pwr.state = 0 ∧ d.pwr.lifeline = decide (c.req.target = 2) ∧ d.pwr.change = if d.fs.power then some { c with retained := true } else none)) ∧
  (∀ (t : Time) (c : PwChange), RunsAt (.retentionCommit t) t
    (fun a => a.pwr.change = some c ∧ c.phase = .running ∧ c.retained = false ∧ c.req.target = 3 ∧ a.pwr.wakeHigh = false ∧ a.pwr.next = none)
    (fun a d => d.pwr.state = 2 ∧ d.pwr.lineTimer = some (a.now + c.req.period * Config.sec) ∧ d.pwr.change = none)) ∧
  (∀ (t : Time) (c : PwChange), RunsAt (.retentionCommit t) t
    (fun a => a.pwr.change = some c ∧ c.phase = .running ∧ c.retained = false ∧ c.req.target = 4 ∧ railMapped a 0 = true ∧ a.pwr.state ≤ 1)
    (fun _ d => d.pwr.state = 3 ∧ d.pwr.change = some { c with retained := true } ∧ d.emitted.contains (.oscEn false) = true ∧ d.pwr.lower.getLast? = some 0)) ∧
  (∀ (t : Time) (r : Fin 5) (x : Nat) (l : List Nat), RunsAt (.railAcknowledged t r) t
    (fun a => a.pwr.lower = r.val :: x :: l)
    (fun a d => d.pwr.lower = x :: l ∧ d.emitted.contains (railCommand a x false) = true ∧ d.pwr.tries = 0)) ∧
  (∀ (t : Time) (r : Fin 5) (w : PwWake), RunsAt (.railAcknowledged t r) t
    (fun a => a.pwr.lower = [] ∧ a.pwr.wake = some w ∧ w.raise = [r.val])
    (fun a d => d.pwr.wake = some { w with raise := [], raised := r.val :: w.raised, oscDue := some (a.now + 10 * Config.ms) } ∧ d.emitted.contains (.oscEn true) = true)) ∧
  (∀ (t : Time) (r : Fin 5), RunsAt (.railAckTimeout t r) t
    (fun a => a.pwr.lower.head? = some r.val ∧ a.pwr.tries < 3)
    (fun a d => d.pwr.tries = a.pwr.tries + 1 ∧ d.pwr.lower = a.pwr.lower ∧ d.emitted.contains (railCommand a r false) = true ∧ counter d .railNoAck r = counter a .railNoAck r + 1 ∧ counter d .railRetries r = counter a .railRetries r + 1)) ∧
  (∀ (t : Time) (r : Fin 5) (x : Nat) (l : List Nat), RunsAt (.railAckTimeout t r) t
    (fun a => a.pwr.lower = r.val :: x :: l ∧ 3 ≤ a.pwr.tries)
    (fun _ d => d.pwr.lower = x :: l ∧ d.pwr.fault = true ∧ fld d fPW_EVENT_REG_FAIL 0 = 1)) ∧
  (∀ (t : Time) (r : Fin 5) (w : PwWake), RunsAt (.railAckTimeout t r) t
    (fun a => a.pwr.lower = [] ∧ a.pwr.change = none ∧ a.pwr.wake = some w ∧ w.raise.head? = some r.val ∧ 3 ≤ a.pwr.tries)
    (fun a d => d.pwr.wake = none ∧ d.pwr.fault = true ∧ counter d .pwWakeFails 0 = counter a .pwWakeFails 0 + 1 ∧ fld d fPW_EVENT_WAKE_FAIL 0 = 1)) ∧
  (∀ (t : Time) (w : PwWake), RunsAt (.oscRdyTimeout t) t
    (fun a => a.pwr.wake = some w ∧ dueBy w.oscDue a.now = true ∧ a.pwr.change = none)
    (fun a d => d.pwr.wake = none ∧ d.pwr.fault = true ∧ counter d .pwWakeFails 0 = counter a .pwWakeFails 0 + 1 ∧ d.emitted.contains (.oscEn false) = true)) ∧
  (∀ (t : Time), RunsAt (.oscRdyTimeout t) t
    (fun a => a.pwr.wake = none ∧ a.boot.waiting = true ∧ a.boot.from_ + 10 * Config.ms ≤ a.now)
    (fun _ d => d.pwr.fault = true ∧ fld d fGL_BOOT_OSC_LATE 0 = 1))

/-- WAKE, a two-wire match and the line timer wake a lower state; mains and line conditions make their own requests (R548, R553,
R557, R563, R564, R565, R567). -/
def Obligations.WakeSources : Prop :=
  (∀ (t : Time) (r : Nat) (l : List Nat), RunsAt (.wakePin t true) t
    (fun a => a.pwr.state = 3 ∧ a.pwr.change = none ∧ a.pwr.wake = none ∧ a.pwr.shutdown = false ∧ (railsOff 3).filter (railMapped a) = r :: l)
    (fun a d => d.pwr.wake = some { source := 1, from_ := 3, raise := r :: l, lifeline := onBattery a } ∧ d.emitted.contains (railCommand a r true) = true ∧ d.pwr.wakeHigh = true)) ∧
  (∀ (t : Time), RunsAt (.wakePin t true) t
    (fun a => a.pwr.state = 2 ∧ a.pwr.change = none ∧ a.pwr.wake = none ∧ a.pwr.shutdown = false)
    (fun _ d => d.pwr.state = 0 ∧ d.pwr.wakeHigh = true ∧ fld d fPW_EVENT_WAKE 0 = 1)) ∧
  (∀ (t : Time), RunsAt (.wakePin t false) t
    (fun _ => True)
    (fun a d => d.pwr = { a.pwr with wakeHigh := false })) ∧
  (∀ (x : TwoWireMatch) (r : Nat) (l : List Nat), RunsAt (.twoWireAddressMatch x) x.t
    (fun a => x.address.toNat = 0x58 + Config.twAddr.toNat ∧ a.pwr.state = 3 ∧ a.pwr.change = none ∧ a.pwr.wake = none ∧ a.pwr.shutdown = false ∧ (railsOff 3).filter (railMapped a) = r :: l)
    (fun a d => d.pwr.wake = some { source := 2, from_ := 3, raise := r :: l, lifeline := onBattery a } ∧ d.emitted.contains (railCommand a r true) = true ∧ d.emitted.contains (.twoWireAck (true :: List.replicate x.more false)) = true)) ∧
  (∀ (x : TwoWireMatch), RunsAt (.twoWireAddressMatch x) x.t
    (fun _ => x.address.toNat ≠ 0x58 + Config.twAddr.toNat)
    (fun a d => d = a)) ∧
  (∀ (x : TwoWireMatch), RunsAt (.twoWireAddressMatch x) x.t
    (fun a => x.address.toNat = 0x58 + Config.twAddr.toNat ∧ a.pwr.state ≤ 1 ∧ a.pwr.change = none)
    (fun a d => d.pwr = a.pwr ∧ counter d .pwTwoWire 0 = counter a .pwTwoWire 0 + 1)) ∧
  (∀ (t : Time) (r : Nat) (l : List Nat), RunsAt (.lineTimerExpiry t) t
    (fun a => a.pwr.state = 3 ∧ a.pwr.change = none ∧ a.pwr.wake = none ∧ a.pwr.shutdown = false ∧ (railsOff 3).filter (railMapped a) = r :: l ∧ dueBy a.pwr.lineTimer a.now = true)
    (fun a d => d.pwr.wake = some { source := 3, from_ := 3, raise := r :: l, lifeline := onBattery a } ∧ d.emitted.contains (railCommand a r true) = true ∧ d.pwr.lineTimer = none)) ∧
  (∀ (t : Time), RunsAt (.idleEntry t) t
    (fun a => fld a fPW_CFG_IDLE_EN 0 = 1 ∧ a.pwr.state = 0 ∧ a.pwr.change = none ∧ quiet a = true)
    (fun a d => d.pwr = { a.pwr with state := 1 } ∧ counter d .pwIdle 0 = counter a .pwIdle 0 + 1)) ∧
  (∀ (t : Time), RunsAt (.lossOfLine t) t
    (fun a => actState a = 0 ∧ anyUp a = false ∧ a.pwr.lossOfLine = false ∧ engineRuns a = true ∧ fld a fPW_CFG_AUTO_DEEP 0 = 0)
    (fun a d => d.pwr = { a.pwr with lossOfLine := true })) ∧
  (∀ (t : Time), RunsAt (.lifelineHoldExpiry t) t
    (fun a => dueBy a.pwr.holdDue a.now = true ∧ onBattery a = true ∧ a.pwr.state ≤ 1 ∧ a.pwr.change = none ∧ a.pwr.lifeline = false ∧ a.pwr.shutdown = false ∧ a.pwr.wake = none ∧ pwBlocked a = false ∧ fld a fPW_LL_LL_GROUP 0 < a.part.groups)
    (fun _ d => d.pwr.change.map (fun c => (c.req.target, c.req.mains, c.phase)) = some (2, true, .pending) ∧ d.pwr.holdDue = none)) ∧
  (∀ (t : Time), RunsAt (.lifelineRestoreExpiry t) t
    (fun a => dueBy a.pwr.restoreDue a.now = true ∧ a.act.pfailLow = false ∧ a.pwr.shutdown = false ∧ a.pwr.wake = none ∧ a.pwr.state ≤ 1 ∧ a.pwr.change = none ∧ a.pwr.lifeline = true ∧ pwBlocked a = false)
    (fun _ d => d.pwr.change.map (fun c => (c.req.target, c.phase, c.held)) = some (1, .pending, true) ∧ d.pwr.restoreDue = none)) ∧
  (∀ (t : Time) (l : Bool), RunsAt (.battNChange t l) t
    (fun _ => True)
    (fun a d => d.act.battLow = (!l) ∧ d.pwr.holdDue = if a.act.pfailLow && !l && a.act.lineRelease then some (a.now + fld a fPW_LL_LL_HOLD 0 * Config.ms) else none))

/-- Selectable counters clear and read; pages are copied to the host; the Cabinet latches, drains and answers (R579, R580, R582,
R585, R586, R587, R588, R590). -/
def Obligations.CountersPagesAndCabinet : Prop :=
  (∀ (k : Fin 64) (v : Word), Runs (.clear k v)
    (fun _ => v.toNat.testBit 44 = true)
    (fun a d => selCount d k = 0 ∧ (k.val % 2 = 0 → fld a fSC_CFG_CHAIN (k.val + 1) = 1 → selCount d (k.val + 1) = 0) ∧ (List.range 64).all (fun j => j == k.val || j == k.val + 1 || selCount d j == selCount a j) = true)) ∧
  (∀ (k : Fin 64) (v : Word), Runs (.clear k v)
    (fun _ => v.toNat.testBit 44 = false)
    (fun a d => d.cnt = a.cnt)) ∧
  (∀ (k : Fin 64), Runs (.selectableCounterRead k)
    (fun a => k.val % 2 = 1 ∧ fld a fSC_CFG_CHAIN k ≠ 1)
    (fun a d => d.emitted.head? = some (.barRead (regOffset .scCnt k) (selCount a k)) ∧ d.cnt = a.cnt)) ∧
  (∀ (t : Time) (ok : Bool) (i : Nat), RunsAt (.counterPageCopy t ok) t
    (fun a => pdOn a 46 = true ∧ i < 240 ∧ fld a fCN_MIR_EN_USER i = 1 ∧ ok = true)
    (fun a d => agetD d.cnt.mirrorSeq i 0 = agetD a.cnt.mirrorSeq i 0 + 1 ∧ d.emitted.contains (.counterPage (16 + i) (reg a .cnMirAddr i) (pageWrites a i (agetD a.cnt.mirrorSeq i 0 + 1).toNat)) = true)) ∧
  (∀ (t : Time) (ok : Bool) (i : Nat), RunsAt (.counterPageCopy t ok) t
    (fun a => pdOn a 46 = true ∧ i < 240 ∧ fld a fCN_MIR_EN_USER i = 1 ∧ ok = false)
    (fun a d => d.cnt.mirrorSeq = a.cnt.mirrorSeq ∧ fld d fCN_EVENT_MIRROR_FAIL 0 = 1)) ∧
  (∀ (t : Time) (ok : Bool) (i : Nat), RunsAt (.counterPageCopy t ok) t
    (fun a => pdOn a 46 = true ∧ i < 240 ∧ fld a fCN_MIR_EN_USER i = 0)
    (fun a d => agetD d.cnt.mirrorSeq i 0 = agetD a.cnt.mirrorSeq i 0)) ∧
  (∀ (t : Time) (ok : Bool), RunsAt (.counterPageCopy t ok) t
    (fun a => pdOn a 46 = false)
    (fun a d => d = a)) ∧
  (∀ (t : Time) (p : Path), RunsAt (.arm t (.entry p)) t
    (fun a => secretaryRuns a = true ∧ a.cab.phase = .idle ∧ fld a fCAB_TIME_SEC_SECONDS 0 = 0 ∧ fld a fCAB_TIME_NS_NS 0 = 0)
    (fun a d => d.cab.phase = .armed (BitVec.ofNat 48 (ltSplit (ltNow a + 10000 * 65536)).1) (BitVec.ofNat 32 (ltSplit (ltNow a + 10000 * 65536)).2.1) ∧ d.emitted.head? = some (.result p 0))) ∧
  (∀ (t : Time) (p : Path), RunsAt (.arm t (.entry p)) t
    (fun a => secretaryRuns a = true ∧ a.cab.phase ≠ .idle)
    (fun a d => d.cab = a.cab ∧ counter d .cabRefused 0 = counter a .cabRefused 0 + 1 ∧ fld d fCAB_EVENT_REFUSED 0 = 1 ∧ d.emitted.head? = some (.result p 8))) ∧
  (∀ (t : Time) (v : Word), RunsAt (.arm t (.register v)) t
    (fun a => v.toNat.testBit 0 = true ∧ a.cab.phase ≠ .idle)
    (fun a d => d.cab = { a.cab with result := 1 } ∧ counter d .cabRefused 0 = counter a .cabRefused 0 + 1 ∧ fld d fCAB_EVENT_REFUSED 0 = 1)) ∧
  (∀ (t : Time) (v : Word), RunsAt (.arm t (.register v)) t
    (fun a => v.toNat.testBit 0 = true ∧ a.cab.phase = .idle ∧ fld a fCAB_TIME_SEC_SECONDS 0 = 0 ∧ fld a fCAB_TIME_NS_NS 0 = 0)
    (fun a d => d.cab.phase = .armed (BitVec.ofNat 48 (ltSplit (ltNow a + 10000 * 65536)).1) (BitVec.ofNat 32 (ltSplit (ltNow a + 10000 * 65536)).2.1) ∧ d.cab.result = 0)) ∧
  (∀ (t : Time) (p : Path) (u : Word) (n : BitVec 32), RunsAt (.cabinetAbort t (.entry p)) t
    (fun a => secretaryRuns a = true ∧ a.cab.phase = .armed u n ∧ ltNow a < ltOf u.toNat n.toNat)
    (fun a d => d.cab = { a.cab with phase := .idle } ∧ counter d .cabAborted 0 = counter a .cabAborted 0 + 1 ∧ d.emitted.head? = some (.result p 0))) ∧
  (∀ (t : Time) (p : Path), RunsAt (.cabinetAbort t (.entry p)) t
    (fun a => secretaryRuns a = true ∧ (a.cab.phase = .idle ∨ a.cab.phase = .draining))
    (fun a d => d.cab = a.cab ∧ d.emitted.head? = some (.result p 9))) ∧
  (∀ (t : Time) (u : Word) (n : BitVec 32), RunsAt (.cabinetLatch t) t
    (fun a => a.cab.phase = .armed u n ∧ ltOf u.toNat n.toNat ≤ ltNow a)
    (fun a d => d.cab.phase = .draining ∧ d.cab.gen = a.cab.gen + 1 ∧ d.cab.latched = some (cabBank a u n) ∧ d.cab.done = a.cab.done ∧
      counter d .cabLatched 0 = counter a .cabLatched 0 + 1)) ∧
  (∀ (t : Time) (b : CabBank), RunsAt (.cabinetDrainDone t) t
    (fun a => a.cab.phase = .draining ∧ a.cab.latched = some b)
    (fun _ d => d.cab.phase = .idle ∧ d.cab.latched = none ∧ d.cab.done = b.gen ∧ fld d fCAB_EVENT_DONE 0 = 1 ∧ (b.gen ≠ 0 → bankOf d b.gen = some b))) ∧
  (∀ (b : CabBank), Runs (.cabinetWindowRead)
    (fun a => bankOf a (reg a .cabRdGen 0) = some b)
    (fun a d => d = emit (.barRead (regOffset .cabRdData 0) (bankValue b (fld a fCAB_RD_OFF_OFF 0))) a)) ∧
  (Runs (.cabinetWindowRead)
    (fun a => bankOf a (reg a .cabRdGen 0) = none)
    (fun a d => d.emitted.head? = some (.barRead (regOffset .cabRdData 0) 0) ∧ d.cab = a.cab ∧ counter d .cabStale 0 = counter a .cabStale 0 + 1 ∧ fld d fCAB_EVENT_STALE 0 = 1))

/-- A read of an even counter latches its odd partner, which a chained read then returns (R581). -/
def Obligations.ChainedPairRead : Prop :=
  (∀ (k : Fin 64), Runs (.selectableCounterRead k)
    (fun _ => k.val % 2 = 0)
    (fun a d => d.emitted.head? = some (.barRead (regOffset .scCnt k) (selCount a k)) ∧ agetD d.cnt.selLatch (k.val + 1) 0 = selCount a (k.val + 1) ∧ d.cnt.sel = a.cnt.sel)) ∧
  (∀ (k : Fin 64), Runs (.selectableCounterRead k)
    (fun a => k.val % 2 = 1 ∧ fld a fSC_CFG_CHAIN k = 1)
    (fun a d => d = emit (.barRead (regOffset .scCnt k) (agetD a.cnt.selLatch k 0)) a)) ∧
  (∀ (k j : Fin 64) (s : State), s.dev.porstLow = false → k.val % 2 = 0 → j.val = k.val + 1 → fld s.dev fSC_CFG_CHAIN j = 1 →
    ∃ d e, exec (.selectableCounterRead k) s = .next { s with dev := d } ∧
      exec (.selectableCounterRead j) { s with dev := d } = .next { s with dev := e } ∧
      d.emitted = .barRead (regOffset .scCnt k) (selCount s.dev k) :: s.dev.emitted ∧
      e.emitted = .barRead (regOffset .scCnt j) (selCount s.dev j) :: d.emitted)

/-- Temperatures and voltages are kept and judged; a thermal shutdown begins and isolates; rail 0 tracks (R591, R592, R593,
R594, R597, R595, R627). -/
def Obligations.MonitorsAndShutdown : Prop :=
  (∀ (t : Time) (n : Fin 16) (temp : BitVec 12), RunsAt (.dieTempSample t n temp) t
    (fun _ => temp.toInt < -240 ∨ 600 < temp.toInt)
    (fun a d => (dieSensor d n).excluded = true ∧ (dieSensor d n).temp = temp.toInt ∧ d.pwr = a.pwr ∧ ((dieSensor a n).excluded = false → fld d fTH_EVENT_SENSOR_FAIL 0 = 1))) ∧
  (∀ (t : Time) (n : Fin 16) (temp : BitVec 12), RunsAt (.dieTempSample t n temp) t
    (fun a => -240 ≤ temp.toInt ∧ temp.toInt ≤ 600 ∧ temp.toInt < (fld a fTH_CFG_TEMP_WARN 0 : Int) * 4 ∧ temp.toInt < (fld a fTH_CFG_TEMP_LIMIT 0 : Int) * 4)
    (fun a d => dieSensor d n = { temp := temp.toInt, peak := some (match (dieSensor a n).peak with | some p => max p temp.toInt | none => temp.toInt) } ∧ d.pwr = a.pwr)) ∧
  (∀ (t : Time) (n : Fin 16) (temp : BitVec 12), RunsAt (.dieTempSample t n temp) t
    (fun a => temp.toInt ≤ 600 ∧ -240 ≤ temp.toInt ∧ (fld a fTH_CFG_TEMP_WARN 0 : Int) * 4 ≤ temp.toInt ∧ temp.toInt < (fld a fTH_CFG_TEMP_LIMIT 0 : Int) * 4 ∧ 1 ≤ (dieSensor a n).warnRun)
    (fun a d => fld d fTH_EVENT_DIE_WARN 0 = 1 ∧ (dieSensor d n).warnRun = 2 ∧ d.pwr = a.pwr)) ∧
  (∀ (t : Time) (n : Fin 16) (temp : BitVec 12), RunsAt (.dieTempSample t n temp) t
    (fun a => temp.toInt ≤ 600 ∧ -240 ≤ temp.toInt ∧ (fld a fTH_CFG_TEMP_LIMIT 0 : Int) * 4 ≤ temp.toInt ∧ 1 ≤ (dieSensor a n).limitRun ∧ a.pwr.shutdown = false)
    (fun a d => d.pwr.shutdown = true ∧ d.pwr.isolateDue = some (a.now + 100 * Config.us) ∧ d.pwr.fault = true ∧ d.fs.thermal = true ∧ d.pwr.change = none ∧ d.pwr.next = none ∧ d.pwr.wake = none ∧ fld d fTH_TRIP_CAUSE 0 = 1 ∧ fld d fTH_TRIP_SENSOR 0 = n)) ∧
  (∀ (t : Time) (n : Fin 5) (temp : BitVec 8), RunsAt (.hbmTempReport t n temp) t
    (fun a => temp.toNat < fld a fTH_CFG_HBM_LIMIT 0)
    (fun a d => stackTemp d n = { temp := temp.toNat, valid := true } ∧ d.pwr = a.pwr ∧ (fld a fTH_CFG_HBM_WARN 0 ≤ temp.toNat → fld d fTH_EVENT_HBM_WARN 0 = 1))) ∧
  (∀ (t : Time) (n : Fin 5) (temp : BitVec 8), RunsAt (.hbmTempReport t n temp) t
    (fun a => fld a fTH_CFG_HBM_LIMIT 0 ≤ temp.toNat ∧ 1 ≤ (stackTemp a n).limitRun ∧ a.pwr.shutdown = false)
    (fun a d => d.pwr.shutdown = true ∧ d.pwr.isolateDue = some (a.now + 100 * Config.us) ∧ d.pwr.fault = true ∧ d.fs.thermal = true ∧ d.pwr.change = none ∧ d.pwr.next = none ∧ d.pwr.wake = none ∧ fld d fTH_TRIP_CAUSE 0 = 3 ∧ fld d fTH_TRIP_SENSOR 0 = 16 + n.val)) ∧
  (∀ (t : Time) (n : Fin 5), RunsAt (.hbmReportMissed t n) t
    (fun _ => True)
    (fun a d => (stackTemp d n).valid = false ∧ (stackTemp d n).excluded = true ∧ (stackTemp d n).temp = (stackTemp a n).temp ∧ ((stackTemp a n).excluded = false → fld d fTH_EVENT_SENSOR_FAIL 0 = 1))) ∧
  (∀ (n : Fin 16), Runs (.temperaturePeakRead n)
    (fun _ => True)
    (fun a d => d.emitted.head? = some (.barRead (regOffset .thTs n) (dieWord (dieSensor a n))) ∧ dieSensor d n = { dieSensor a n with peak := none })) ∧
  (∀ (t : Time) (n : Fin 16), RunsAt (.hardwareThermalTrip t n) t
    (fun a => a.pwr.shutdown = false)
    (fun a d => d.pwr.shutdown = true ∧ d.pwr.isolateDue = some (a.now + 100 * Config.us) ∧ d.pwr.fault = true ∧ d.fs.thermal = true ∧ d.pwr.change = none ∧ d.pwr.next = none ∧ d.pwr.wake = none ∧ fld d fTH_TRIP_CAUSE 0 = 2 ∧ fld d fTH_TRIP_SENSOR 0 = n)) ∧
  (∀ (t : Time) (n : Fin 16), RunsAt (.hardwareThermalTrip t n) t
    (fun a => a.pwr.shutdown = true)
    (fun a d => d = a)) ∧
  (∀ (t : Time) (r : Nat) (l : List Nat), RunsAt (.thermalIsolation t) t
    (fun a => a.pwr.shutdown = true ∧ a.pwr.isolated = false ∧ dueBy a.pwr.isolateDue a.now = true ∧ [4, 3, 2, 1, 0].filter (fun r => railMapped a r && !a.pwr.railsDown.contains r) = r :: l)
    (fun a d => d.pwr.isolated = true ∧ d.pwr.isolateDue = none ∧ d.pwr.lower = r :: l ∧ d.emitted.contains (.oscEn false) = true ∧ d.emitted.contains (railCommand a r false) = true)) ∧
  (∀ (t : Time) (r : Fin 8) (mv : BitVec 16), RunsAt (.voltageSample t r mv) t
    (fun a => r ≠ 0 ∧ (mv.toNat < fld a fTH_VWIN_LOW r ∨ fld a fTH_VWIN_HIGH r < mv.toNat))
    (fun a d => agetD d.mon.rails r 0 = mv.toNat ∧ counter d .monOut 0 = counter a .monOut 0 + 1 ∧ fld d fTH_EVENT_V_OUT 0 = 1)) ∧
  (∀ (t : Time) (r : Fin 8) (mv : BitVec 16), RunsAt (.voltageSample t r mv) t
    (fun a => r = 0 ∧ (mv.toNat + fld a fTH_VWIN_LOW 0 < a.mon.avsTarget ∨ a.mon.avsTarget + fld a fTH_VWIN_HIGH 0 < mv.toNat))
    (fun a d => agetD d.mon.rails r 0 = mv.toNat ∧ counter d .monOut 0 = counter a .monOut 0 + 1 ∧ fld d fTH_EVENT_V_OUT 0 = 1)) ∧
  (∀ (t : Time) (r : Fin 8) (mv : BitVec 16), RunsAt (.voltageSample t r mv) t
    (fun a => r ≠ 0 ∧ fld a fTH_VWIN_LOW r ≤ mv.toNat ∧ mv.toNat ≤ fld a fTH_VWIN_HIGH r)
    (fun a d => agetD d.mon.rails r 0 = mv.toNat ∧ d.cnt = a.cnt ∧ d.regs = a.regs)) ∧
  (∀ (t : Time) (v : BitVec 16), RunsAt (.avsTrack t v) t
    (fun a => railMapped a 0 = true ∧ 3 ≤ fld a fGL_BOOT_STEP 0 ∧ a.pwr.railsDown.contains 0 = false ∧ a.pwr.isolated = false ∧ fld a fGL_BOOT_RAIL0_BOOT 0 = 1)
    (fun _ d => d.mon.avs = avsBound v.toNat ∧ d.mon.avsTarget = avsBound v.toNat ∧ fld d fGL_BOOT_RAIL0_BOOT 0 = 0)) ∧
  (∀ (t : Time) (v : BitVec 16) (u : Time), RunsAt (.avsTrack t v) t
    (fun a => railMapped a 0 = true ∧ 3 ≤ fld a fGL_BOOT_STEP 0 ∧ a.pwr.railsDown.contains 0 = false ∧ a.pwr.isolated = false ∧ fld a fGL_BOOT_RAIL0_BOOT 0 = 0 ∧ a.mon.avsAt = some u ∧ u + 10 * Config.ms ≤ a.now)
    (fun a d => d.mon.avsTarget = avsBound v.toNat ∧ d.mon.avs = if a.mon.avs < avsBound v.toNat then min (avsBound v.toNat) (a.mon.avs + 5) else max (avsBound v.toNat) (a.mon.avs - 5)))

/-- Sessions open with their key, are refused, close and time out; the service port answers (R607, R608, R609, R610, R606,
R611). -/
def Obligations.Sessions : Prop :=
  (∀ (m : WaifelMsg) (k : BitVec 256) (id : Nat), RunsAt (.hello m) m.t
    (fun a => waifelRuns a = true ∧ m.payload.length = 16 ∧ m.session = 0 ∧ a.img.serviceKey = some k ∧ [1, 2, 3, 4].find? (fun i => (session a i).isNone) = some id)
    (fun a d => session d id = some { clientNonce := BitVec.ofNat 128 (bytesToNat m.payload), terminalNonce := Config.freeWaifelNonce a.freeCtr, key := sessionKey k (BitVec.ofNat 128 (bytesToNat m.payload)) (Config.freeWaifelNonce a.freeCtr), rxSeq := m.seq.toNat, txSeq := 1, lastAt := a.now } ∧
      aget d.cipher.slots (2 + id) = some (sessionKey k (BitVec.ofNat 128 (bytesToNat m.payload)) (Config.freeWaifelNonce a.freeCtr)) ∧ d.freeCtr = a.freeCtr + 1)) ∧
  (∀ (m : WaifelMsg), RunsAt (.hello m) m.t
    (fun a => waifelRuns a = true ∧ m.payload.length = 16 ∧ m.session = 0 ∧ (a.img.serviceKey = none ∨ [1, 2, 3, 4].all (fun i => (session a i).isSome) = true))
    (fun a d => d.img = a.img ∧ d.cipher = a.cipher ∧ counter d .helloRefused 0 = counter a .helloRefused 0 + 1)) ∧
  (∀ (m : WaifelMsg) (x : Session), RunsAt (.openSession m) m.t
    (fun a => waifelRuns a = true ∧ session a m.session.toNat = some x ∧ m.payload = [] ∧ wfCheck x.key (wfBody 0x03 m.session.toNat m.seq.toNat m.ack.toNat []) = m.check.toNat ∧ x.rxSeq < m.seq.toNat)
    (fun a d => session d m.session.toNat = some { x with opened := true, rxSeq := m.seq.toNat, lastAt := a.now, txSeq := x.txSeq + 1 })) ∧
  (∀ (m : WaifelMsg) (x : Session), RunsAt (.openSession m) m.t
    (fun a => waifelRuns a = true ∧ session a m.session.toNat = some x ∧ m.payload = [] ∧ wfCheck x.key (wfBody 0x03 m.session.toNat m.seq.toNat m.ack.toNat []) ≠ m.check.toNat ∧ x.opened = false)
    (fun a d => session d m.session.toNat = none ∧ aget d.cipher.slots (2 + m.session.toNat) = none ∧ counter d .openFailed 0 = counter a .openFailed 0 + 1)) ∧
  (∀ (m : WaifelMsg), RunsAt (.close m) m.t
    (fun a => waifelRuns a = true ∧ (wfAccept a.now m.session.toNat 0x30 m.seq.toNat m.ack.toNat m.payload m.check.toNat a).1 = true ∧ m.payload = [])
    (fun _ d => session d m.session.toNat = none ∧ aget d.cipher.slots (2 + m.session.toNat) = none)) ∧
  (∀ (t : Time) (i : Fin 4) (x : Session), RunsAt (.sessionOpenTimeout t i) t
    (fun a => waifelRuns a = true ∧ session a (i.val + 1) = some x ∧ x.opened = false ∧ x.lastAt + 5 * Config.sec ≤ a.now)
    (fun a d => session d (i.val + 1) = none ∧ counter d .wfTimeouts 0 = counter a .wfTimeouts 0 + 1)) ∧
  (∀ (t : Time) (i : Fin 4) (x : Session), RunsAt (.sessionOpenTimeout t i) t
    (fun a => session a (i.val + 1) = some x ∧ (x.opened = true ∨ a.now < x.lastAt + 5 * Config.sec))
    (fun a d => d = a)) ∧
  (∀ (t : Time) (i : Fin 4) (x : Session), RunsAt (.sessionIdleTimeout t i) t
    (fun a => waifelRuns a = true ∧ session a (i.val + 1) = some x ∧ x.opened = true ∧ x.lastAt + entryAt a 0xB100 9 * Config.sec ≤ a.now)
    (fun a d => session d (i.val + 1) = none ∧ counter d .wfTimeouts 0 = counter a .wfTimeouts 0 + 1)) ∧
  (∀ (t : Time) (i : Fin 4) (x : Session), RunsAt (.sessionIdleTimeout t i) t
    (fun a => session a (i.val + 1) = some x ∧ (x.opened = false ∨ a.now < x.lastAt + entryAt a 0xB100 9 * Config.sec))
    (fun a d => d = a)) ∧
  (∀ (t : Time) (p : Path) (k : BitVec 256), RunsAt (.setServiceKey t p k) t
    (fun a => secretaryRuns a = true)
    (fun _ d => d.img.serviceKey = some k ∧ [1, 2, 3, 4].all (fun i => (session d i).isNone) = true ∧ d.emitted.head? = some (.result p 0))) ∧
  (∀ (t : Time) (bs : List Byte) (r : List Byte), RunsAt (.servicePortFrame t bs) t
    (fun a => waifelRuns a = true ∧ serviceAnswer a a.freeCtr bs = some r)
    (fun a d => d.emitted.head? = some (.servicePort r) ∧ d.img = a.img)) ∧
  (∀ (t : Time) (bs : List Byte), RunsAt (.servicePortFrame t bs) t
    (fun a => waifelRuns a = true ∧ serviceAnswer a a.freeCtr bs = none)
    (fun a d => d.img = a.img ∧ counter d .wfDiscarded 0 = counter a .wfDiscarded 0 + 1))

/-- An image transfer begins in a free slot, fills it block by block, and ends staged or invalid (R604, R612, R613, R614). -/
def Obligations.ImageStaging : Prop :=
  (∀ (m : WaifelMsg), RunsAt (.imageBegin m) m.t
    (fun a => waifelRuns a = true ∧ (wfAccept a.now m.session.toNat 0x20 m.seq.toNat m.ack.toNat m.payload m.check.toNat a).1 = true ∧ m.payload.length = 8 ∧ (m.payload.getD 0 0).toNat ≤ 1 ∧ slotRefused a m.session.toNat (m.payload.getD 0 0).toNat = false ∧ 4096 ≤ bytesToNat (m.payload.drop 4) ∧ bytesToNat (m.payload.drop 4) ≤ 134217728 ∧ bytesToNat (m.payload.drop 4) % 4096 = 0 ∧ m.chestOk = true)
    (fun a d => imgSlot d (m.payload.getD 0 0).toNat = { state := .writing, total := bytesToNat (m.payload.drop 4) } ∧ transferOf d m.session.toNat = some (m.payload.getD 0 0).toNat ∧ counter d .imgBegun (m.payload.getD 0 0).toNat = counter a .imgBegun (m.payload.getD 0 0).toNat + 1)) ∧
  (∀ (m : WaifelMsg), RunsAt (.imageBegin m) m.t
    (fun a => waifelRuns a = true ∧ (wfAccept a.now m.session.toNat 0x20 m.seq.toNat m.ack.toNat m.payload m.check.toNat a).1 = true ∧ m.payload.length = 8 ∧ (m.payload.getD 0 0).toNat ≤ 1 ∧ (slotRefused a m.session.toNat (m.payload.getD 0 0).toNat = true ∨ bytesToNat (m.payload.drop 4) < 4096 ∨ 134217728 < bytesToNat (m.payload.drop 4) ∨ bytesToNat (m.payload.drop 4) % 4096 ≠ 0 ∨ m.chestOk = false))
    (fun a d => d.img.a = a.img.a ∧ d.img.b = a.img.b ∧ transferOf d m.session.toNat = transferOf a m.session.toNat)) ∧
  (∀ (m : WaifelMsg) (k : Nat), RunsAt (.imageBlock m) m.t
    (fun a => waifelRuns a = true ∧ (wfAccept a.now m.session.toNat 0x21 m.seq.toNat m.ack.toNat m.payload m.check.toNat a).1 = true ∧ m.payload.length = 1028 ∧ transferOf a m.session.toNat = some k ∧ (bytesToNat (m.payload.take 4)) % 1024 = 0 ∧ (bytesToNat (m.payload.take 4)) + 1024 ≤ (imgSlot a k).total ∧ m.chestOk = true)
    (fun a d => imgSlot d k = { imgSlot a k with blocks := aput (imgSlot a k).blocks (bytesToNat (m.payload.take 4)) (m.payload.drop 4) } ∧ counter d .imgBlocks k = counter a .imgBlocks k + 1)) ∧
  (∀ (m : WaifelMsg), RunsAt (.imageBlock m) m.t
    (fun a => waifelRuns a = true ∧ (wfAccept a.now m.session.toNat 0x21 m.seq.toNat m.ack.toNat m.payload m.check.toNat a).1 = true ∧ 5 ≤ m.payload.length ∧ m.payload.length ≤ 1028 ∧ (transferOf a m.session.toNat = none ∨ m.payload.length ≠ 1028 ∨ (bytesToNat (m.payload.take 4)) % 1024 ≠ 0 ∨ m.chestOk = false))
    (fun a d => d.img.a = a.img.a ∧ d.img.b = a.img.b)) ∧
  (∀ (m : WaifelMsg) (k : Nat), RunsAt (.imageEnd m) m.t
    (fun a => waifelRuns a = true ∧ (wfAccept a.now m.session.toNat 0x22 m.seq.toNat m.ack.toNat m.payload m.check.toNat a).1 = true ∧ m.payload = [] ∧ transferOf a m.session.toNat = some k ∧ m.chestOk = true)
    (fun a d => (imgSlot d k).state = (if ((imgSlot a k).blocks.map (·.2)).flatten.length < (imgSlot a k).total ∨ imageCheck a.part (((imgSlot a k).blocks.map (·.2)).flatten) ≠ 0 then SlotImage.invalid else .staged) ∧ (imgSlot d k).blocks = (imgSlot a k).blocks ∧ transferOf d m.session.toNat = none)) ∧
  (∀ (m : WaifelMsg), RunsAt (.imageEnd m) m.t
    (fun a => waifelRuns a = true ∧ (wfAccept a.now m.session.toNat 0x22 m.seq.toNat m.ack.toNat m.payload m.check.toNat a).1 = true ∧ m.payload = [] ∧ (transferOf a m.session.toNat = none ∨ m.chestOk = false))
    (fun a d => d.img.a = a.img.a ∧ d.img.b = a.img.b ∧ transferOf d m.session.toNat = transferOf a m.session.toNat))

/-- PORST_N, power-good, warm reset and OSC_RDY lead through the boot; its releases follow (R605, R630, R632, R634, R567, R631,
R633). -/
def Obligations.StartsAndResets : Prop :=
  (∀ (t : Time), RunsAt (.porstAssert t) t
    (fun _ => True)
    (fun a d => d.porstLow = true ∧ d.regs = [] ∧ d.dict = [] ∧ d.cnt = {} ∧ d.host = {} ∧ d.fs = {} ∧ d.tm = {} ∧ d.now = a.now ∧ d.dic.store = a.dic.store ∧ d.img.ptr = a.img.ptr)) ∧
  (∀ (s : State) (b : BootInputs), s.dev.porstLow = true → b.oscRdy = false →
    ∃ d, exec (.powerGood b) s = .next { s with mem := {}, dev := d } ∧ d.porstLow = false ∧ d.now = max s.dev.now b.t ∧
      d.boot.waiting = true ∧ d.boot.from_ = d.now ∧ fld d fGL_BOOT_STEP 0 = 1 ∧ fld d fGL_BOOT_CAUSE 0 = 0) ∧
  (∀ (s : State) (b : BootInputs), s.dev.porstLow = true → b.oscRdy = true → b.ptrOk = true → slotPasses b.slotsOk s.dev s.dev.img.ptr.active = true →
    (s.dev.img.ptr.trial = false ∨ s.dev.img.ptr.starts < 2) →
    ∃ d, exec (.powerGood b) s = .next { s with mem := {}, dev := d } ∧ d.porstLow = false ∧ d.boot.waiting = false ∧
      fld d fGL_BOOT_STEP 0 = 5) ∧
  (∀ (s : State) (b : BootInputs), s.dev.porstLow = true → b.oscRdy = true → b.slotsOk.all (fun x => !x) = true →
    ∃ d, exec (.powerGood b) s = .next { s with mem := {}, dev := d } ∧ d.porstLow = false ∧ fld d fGL_BOOT_RECOVERY 0 = 1) ∧
  (∀ (s : State) (b : BootInputs), s.dev.porstLow = false → exec (.powerGood b) s = .next s) ∧
  (∀ (s : State) (b : BootInputs), warmTaken s.dev = true → b.oscRdy = false →
    ∃ d, exec (.warmReset b) s = .next { s with mem := {}, dev := d } ∧ d.porstLow = false ∧ d.boot.waiting = true ∧
      fld d fGL_BOOT_STEP 0 = 1 ∧ fld d fGL_BOOT_CAUSE 0 = 1 ∧ d.pwr.state = 0 ∧ d.pwr.change = none ∧ d.dict = [] ∧
      d.dic.store = s.dev.dic.store ∧ d.img.ptr = s.dev.img.ptr) ∧
  (∀ (s : State) (b : BootInputs), warmTaken s.dev = false → exec (.warmReset b) s = .next s) ∧
  (∀ (s : State) (b : BootInputs), s.dev.porstLow = false → s.dev.boot.waiting = true → b.ptrOk = true → slotPasses b.slotsOk s.dev s.dev.img.ptr.active = true →
    (s.dev.img.ptr.trial = false ∨ s.dev.img.ptr.starts < 2) →
    ∃ u, exec (.oscRdy b) s = .next u ∧ u.pending = s.pending ∧ u.dev.boot.waiting = false ∧ fld u.dev fGL_BOOT_STEP 0 = 5 ∧
      u.dev.pwr.fault = false) ∧
  (∀ (s : State) (b : BootInputs) (w : PwWake), s.dev.porstLow = false → s.dev.boot.waiting = false → s.dev.pwr.wake = some w →
    w.oscDue.isSome = true → w.from_ = 3 → s.dev.pwr.next = none →
    ∃ u, exec (.oscRdy b) s = .next u ∧ u.pending = s.pending ∧ u.mem = s.mem ∧ u.dev.pwr.state = 0 ∧ u.dev.pwr.wake = none ∧
      u.dev.pwr.lifeline = w.lifeline ∧ u.dev.pwr.fault = false) ∧
  (∀ (t : Time), RunsAt (.lineStartRelease t) t
    (fun a => fld a fGL_BOOT_STEP 0 = 5 ∧ a.sec.restarting = false)
    (fun a d => d.act.lineRelease = true ∧ fld d fGL_BOOT_STEP 0 = 6 ∧ fld d fGL_BOOT_RELEASED 0 = 1 ∧ fld d fGL_BOOT_RELEASE_MS 0 = min 65535 ((a.now - a.boot.from_) / Config.ms))) ∧
  (∀ (t : Time), RunsAt (.lineStartRelease t) t
    (fun a => fld a fGL_BOOT_STEP 0 ≠ 5)
    (fun a d => d = a)) ∧
  (∀ (t : Time), RunsAt (.killRelease t) t
    (fun _ => True)
    (fun a d => d.fs.killsHeld = if a.fs.selfTestOk && a.fs.locked then false else a.fs.killsHeld))

/-- What line, joining, key, burst and Firescreen commands leave unchanged (02_downstream_comb.md,
03_envelopes_bonding_cipher.md, 04_joining_the_tree.md, 05_upstream_bursts_reports.md, 06_firescreen.md, R575, R579). -/
def Obligations.FrameOfLineAndSafety : Prop :=
  (∀ t ch lane, Keeps (.losLeft t ch lane) [.now, .emitted, .regs, .cnt, .host, .chans, .prot, .act, .fs, .up] [.cnEvent, .cnWrap, .fsEvent, .leGrantEvent, .scCfg]) ∧
  (∀ t, Keeps (.settleEnd t) [.now, .emitted, .regs, .cnt, .host, .chans, .prot, .act, .fs, .up] [.cnEvent, .cnWrap, .fsEvent, .lcEvent, .leGrantEvent, .scCfg]) ∧
  (∀ t, Keeps (.lockoutDeviceCommit t) [.now, .emitted, .regs, .dict, .cnt, .host, .prot, .act, .fs, .up, .dic] [.cnEvent, .cnWrap, .fsEvent, .leGrantEvent, .protCtrl, .scCfg]) ∧
  (∀ entry, Keeps (.keyWriteEntry entry) [.regs, .cipher] [.cyKeyStatus]) ∧
  (∀ entry, Keeps (.keyEraseEntry entry) [.regs, .cipher] [.cyKeyStatus]) ∧
  (∀ entry, Keeps (.keyReadEntryState entry) [.regs] [.cyKeyCount, .cyKeyStatus]) ∧
  (∀ slot, Keeps (.checkValueSlotWrite slot) [.regs, .cipher] [.cyKeyStatus]) ∧
  (∀ slot, Keeps (.checkValueSlotErase slot) [.regs, .cipher] [.cyKeyStatus]) ∧
  (∀ op entry, Keeps (.keyCommandInvalid op entry) [.regs, .cipher] [.cyKeyCount, .cyKeyStatus]) ∧
  (∀ reg value, Keeps (.txIndexWrite reg value) [.regs] [.cyTxidx]) ∧
  (∀ m, Keeps (.burstProfile m) [.now, .freeCtr, .emitted, .regs, .cnt, .host, .lanes, .act, .fs, .up, .pwr] [.actEvent, .actStatus, .cnEvent, .cnWrap, .fsEvent, .leGrantEvent, .profCfg, .profDelay, .profDelimHi, .profDelimLo, .pwReqStatus, .scCfg]) ∧
  (∀ m, Keeps (.rangingRequest m) [.now, .freeCtr, .emitted, .regs, .cnt, .host, .act, .fs] [.cnEvent, .cnWrap, .scCfg]) ∧
  (∀ m, Keeps (.rangingTime m) [.now, .freeCtr, .emitted, .regs, .cnt, .host, .lanes, .act, .fs, .up, .pwr] [.actEvent, .actStatus, .cnEvent, .cnWrap, .fsEvent, .leGrantEvent, .pwReqStatus, .scCfg]) ∧
  (∀ m, Keeps (.disable m) [.now, .freeCtr, .emitted, .regs, .cnt, .host, .lanes, .act, .fs, .up, .pwr] [.actEvent, .actStatus, .cnEvent, .cnWrap, .fsEvent, .leGrantEvent, .pwReqStatus, .scCfg]) ∧
  (∀ m, Keeps (.keyControlSwitch m) [.now, .freeCtr, .emitted, .regs, .cnt, .host, .act] [.cnEvent, .cnWrap, .scCfg]) ∧
  (∀ m, Keeps (.keyControlReport m) [.now, .freeCtr, .emitted, .regs, .cnt, .host, .act] [.cnEvent, .cnWrap, .scCfg]) ∧
  (∀ t, Keeps (.keySwitchCommit t) [.now, .emitted, .regs, .cnt, .host, .act] [.cnEvent, .cyTxidx, .scCfg]) ∧
  (∀ m, Keeps (.timeOfDay m) [.now, .freeCtr, .emitted, .regs, .cnt, .host, .act, .lc] [.cnEvent, .cnWrap, .ltEvent, .scCfg]) ∧
  (∀ m, Keeps (.sleepAllow m) [.now, .freeCtr, .emitted, .regs, .cnt, .host, .lanes, .act, .fs, .pwr] [.actEvent, .cnEvent, .cnWrap, .fsEvent, .pwReqStatus, .scCfg]) ∧
  (∀ t, Keeps (.lossTimerExpiry t) [.now, .emitted, .regs, .dict, .cnt, .host, .lanes, .bond, .cipher, .act, .fs, .up, .tm, .cls, .pwr] [.actEqdP, .actEqdW, .actEvent, .actStatus, .clEvent, .cnEvent, .cnWrap, .fsEvent, .leTrib, .pwReqStatus, .scCfg]) ∧
  (∀ t, Keeps (.sleepConsentExpiry t) [.now, .emitted, .regs, .cnt, .host, .lanes, .act, .fs, .pwr] [.cnEvent, .cnWrap, .fsEvent, .pwReqStatus, .scCfg]) ∧
  (∀ t, Keeps (.pfailRise t) [.now, .emitted, .regs, .cnt, .host, .act, .up, .pwr] [.cnEvent, .scCfg]) ∧
  (∀ t fill, Keeps (.grantFill t fill) [.now, .freeCtr, .emitted, .regs, .cnt, .host, .cipher, .act, .fs, .up, .tm, .cls, .mc] [.clEvent, .cnEvent, .cnWrap, .cyEvent, .mcEvent, .scCfg, .tmEvent, .wdEvent]) ∧
  (∀ t ch, Keeps (.wardrobePrefetchComplete t ch) [.now, .emitted, .regs, .cnt, .host, .up, .cls] [.clEvent, .cnEvent, .cnWrap, .scCfg, .wdEvent]) ∧
  (∀ t ch, Keeps (.burstStart t ch) [.now, .freeCtr, .emitted, .regs, .cnt, .host, .cipher, .act, .fs, .up, .tm, .cls, .mc] [.actEvent, .clEvent, .cnEvent, .cnWrap, .cyEvent, .fsEvent, .leGrantEvent, .mcEvent, .scCfg, .tmEvent, .wdEvent]) ∧
  (∀ t ch, Keeps (.burstEnd t ch) [.now, .freeCtr, .emitted, .regs, .dict, .cnt, .host, .chans, .prot, .lanes, .ports, .bond, .cipher, .act, .fs, .up, .lc, .tm, .cls, .sb, .pwr] [.actEqdP, .actEqdW, .actEvent, .actStatus, .clEvent, .cnEvent, .cnWrap, .dpEvent, .fsEvent, .lcEvent, .leGrantEvent, .leTrib, .ltEvent, .pwReqStatus, .scCfg]) ∧
  (∀ t, Keeps (.tribBlockExpiry t) [.now, .emitted, .regs, .cnt, .host, .up] [.cnEvent, .cnWrap, .leGrantEvent, .scCfg]) ∧
  (∀ f, Keeps (.fsFrameStart f) [.now, .freeCtr, .emitted, .regs, .dict, .cnt, .host, .chans, .prot, .lanes, .ports, .bond, .cipher, .act, .fs, .up, .lc, .tm, .cls, .sb, .mc, .sec, .pwr, .trib, .dic, .img] [.actEqdP, .actEqdW, .actEvent, .actStatus, .bnEvent, .cabCtrl, .cabMask, .cabTimeNs, .cabTimeSec, .clEvent, .cnEvent, .cnWrap, .cnZeroed, .dpEvent, .fsEvent, .glEvent, .lcEvent, .leGrantEvent, .leTrib, .ltEvent, .mbEvent, .mbStatus, .mdCtrl, .pwDom, .pwDom3, .pwEvent, .pwReqStatus, .pwWake, .sbEvent, .scCfg, .tbStatus]) ∧
  (∀ ch, Keeps (.fsFrameTimeout ch) [.emitted, .regs, .cnt, .host, .act, .fs, .up] [.cnEvent, .cnWrap, .fsEvent, .leGrantEvent, .scCfg]) ∧
  (∀ t ch, Keeps (.fsWindowOpen t ch) [.now, .emitted, .regs, .cnt, .host, .fs] [.cnEvent, .scCfg]) ∧
  (∀ t ch lit, Keeps (.fsWindowClose t ch lit) [.now, .freeCtr, .emitted, .regs, .cnt, .host, .act, .fs, .up] [.cnEvent, .cnWrap, .fsEvent, .leGrantEvent, .scCfg]) ∧
  (∀ t ch level, Keeps (.benRequest t ch level) [.now, .freeCtr, .emitted, .regs, .cnt, .host, .act, .fs, .up] [.cnEvent, .cnWrap, .fsEvent, .leGrantEvent, .scCfg]) ∧
  (∀ t ch, Keeps (.lightOutsideWindow t ch) [.now, .freeCtr, .emitted, .regs, .cnt, .host, .act, .fs, .up] [.cnEvent, .cnWrap, .fsEvent, .leGrantEvent, .scCfg]) ∧
  (∀ t ch lmon, Keeps (.stage2Timeout t ch lmon) [.now, .emitted, .regs, .cnt, .host, .fs] [.cnEvent, .scCfg]) ∧
  (∀ t ch lmon, Keeps (.stage3Timeout t ch lmon) [.now, .emitted, .regs, .cnt, .host, .fs] [.cnEvent, .scCfg]) ∧
  (∀ r, Keeps (.opticRead r) [.now, .freeCtr, .emitted, .regs, .cnt, .host, .act, .fs, .up] [.cnEvent, .cnWrap, .fsEvent, .leGrantEvent, .scCfg]) ∧
  (∀ t out assertNs releaseNs, Keeps (.selfTestPulse t out assertNs releaseNs) [.now, .freeCtr, .emitted, .regs, .cnt, .host, .act, .fs, .up] [.cnEvent, .cnWrap, .fsEvent, .leGrantEvent, .scCfg]) ∧
  (∀ t, Keeps (.parityError t) [.now, .emitted, .regs, .cnt, .host, .act, .fs, .up] [.cnEvent, .cnWrap, .fsEvent, .leGrantEvent, .scCfg]) ∧
  (∀ t clock, Keeps (.fsSupplyClockLoss t clock) [.now, .emitted, .regs, .cnt, .host, .act, .fs, .up] [.cnEvent, .cnWrap, .leGrantEvent, .scCfg]) ∧
  (∀ t nonce, Keeps (.fsRelease t nonce) [.now, .emitted, .regs, .cnt, .host, .fs] [.cnEvent, .cnWrap, .fsEvent, .scCfg]) ∧
  (∀ t path nonce, Keeps (.releaseCommand t path nonce) [.now, .emitted, .regs, .cnt, .host, .fs] [.cnEvent, .cnWrap, .fsEvent, .scCfg]) ∧
  (∀ t key clockOk, Keeps (.fsRestart t key clockOk) [.now, .emitted, .regs, .cnt, .host, .act, .fs, .up] [.cnEvent, .cnWrap, .fsEvent, .leGrantEvent, .scCfg]) ∧
  (∀ complement slot value, Keeps (.admissionWrite complement slot value) [.fs] []) ∧
  (∀ ch limits, Keeps (.fsLimitsWrite ch limits) [.fs] []) ∧
  (∀ guardNs refuseLimit, Keeps (.fsSetcfgWrite guardNs refuseLimit) [.fs] [])

/-- What port, classification, table, queue and Sideboard commands leave unchanged (07_drop_ports_and_lanes.md,
08_classification_generations.md, 09_forwarding_and_learning.md, 10_queues_meters_wardrobe.md, 11_sideboard_recall.md, R575,
R579). -/
def Obligations.FrameOfPacketsAndTables : Prop :=
  (∀ lane, Keeps (.quietPeriodEnd lane) [.lanes] []) ∧
  (∀ lane value, Keeps (.injectOne lane value) [.freeCtr, .emitted, .regs, .lanes] [.lntBits, .lntErrors, .lntInject, .lntStatus, .lntSymerr]) ∧
  (∀ f, Keeps (.macFrameReceived f) [.now, .freeCtr, .emitted, .regs, .cnt, .host, .ports, .sb, .sec, .pwr] [.cnEvent, .cnWrap, .dpEvent, .sbEvent, .scCfg]) ∧
  (∀ t port prio, Keeps (.pauseExpiry t port prio) [.now, .emitted, .regs, .cnt, .host, .ports] [.cnEvent, .scCfg]) ∧
  (∀ t port, Keeps (.xoffRepeat t port) [.now, .emitted, .regs, .cnt, .host, .ports] [.cnEvent, .cnWrap, .dpEvent, .scCfg]) ∧
  (∀ t out, Keeps (.frameTransmit t out) [.now, .emitted, .regs, .cnt, .host, .lc, .tm, .cls] [.clErraddr, .clEvent, .cnEvent, .cnWrap, .ltEvent, .scCfg, .tmEvent]) ∧
  (∀ t entry, Keeps (.packetEntry t entry) [.now, .freeCtr, .emitted, .regs, .cnt, .host, .ports, .bond, .tm, .cls, .fwd, .sb, .sec, .pwr] [.clErraddr, .clEvent, .cnEvent, .cnWrap, .dpEvent, .fwEvent, .scCfg, .tmEvent, .wdEvent]) ∧
  (∀ t pass, Keeps (.secondPass t pass) [.now, .freeCtr, .emitted, .regs, .cnt, .host, .tm, .cls, .fwd, .sb, .sec] [.clErraddr, .clEvent, .cnEvent, .cnWrap, .fwEvent, .scCfg, .tmEvent, .wdEvent]) ∧
  (∀ t pipe, Keeps (.fragmentHoldTimeout t pipe) [.now, .freeCtr, .emitted, .regs, .cnt, .host, .tm, .cls, .fwd, .sb, .sec] [.clErraddr, .clEvent, .cnEvent, .cnWrap, .fwEvent, .scCfg, .tmEvent, .wdEvent]) ∧
  (∀ t pipe, Keeps (.fragmentEntryExpiry t pipe) [.now, .emitted, .regs, .cnt, .host, .cls] [.cnEvent, .scCfg]) ∧
  (∀ t path slot, Keeps (.slotClaim t path slot) [.now, .emitted, .regs, .cnt, .host, .cls] [.cnEvent, .scCfg]) ∧
  (∀ t path slot, Keeps (.slotSeal t path slot) [.now, .emitted, .regs, .cnt, .host, .cls] [.cnEvent, .scCfg]) ∧
  (∀ t path slot, Keeps (.slotAbandon t path slot) [.now, .emitted, .regs, .cnt, .host, .cls] [.cnEvent, .scCfg]) ∧
  (∀ t path slot, Keeps (.slotEvict t path slot) [.now, .emitted, .regs, .cnt, .host, .cls] [.cnEvent, .scCfg]) ∧
  (∀ t path slot, Keeps (.makeCurrent t path slot) [.now, .emitted, .regs, .cnt, .host, .cls, .dic] [.clEvent, .cnEvent, .scCfg]) ∧
  (∀ t slot, Keeps (.drainSlow t slot) [.now, .emitted, .regs, .cnt, .host, .cls] [.clEvent, .cnEvent, .scCfg]) ∧
  (∀ value, Keeps (.windowDataWrite value) [.emitted, .regs, .cnt, .host, .cls, .pwr] [.clWinAddr, .clWinStatus, .cnEvent, .cnWrap, .scCfg]) ∧
  (Keeps (.windowStatusRead) [.emitted, .regs, .pwr] [.clWinStatus]) ∧
  (∀ pipe addr ecc, Keeps (.treeScrub pipe addr ecc) [.emitted, .regs, .host, .cls, .pwr] [.clErraddr, .clEvent]) ∧
  (∀ d, Keeps (.macInsert d) [.now, .emitted, .regs, .cnt, .host, .fwd, .pwr] [.cnEvent, .cnWrap, .fwEvent, .fwRingHead, .scCfg]) ∧
  (∀ d, Keeps (.macDelete d) [.now, .emitted, .regs, .cnt, .host, .fwd, .pwr] [.cnEvent, .cnWrap, .fwEvent, .fwRingHead, .scCfg]) ∧
  (∀ d, Keeps (.macFind d) [.now, .emitted, .regs, .cnt, .host, .fwd, .pwr] [.cnEvent, .cnWrap, .fwEvent, .fwRingHead, .scCfg]) ∧
  (∀ d, Keeps (.macLock d) [.now, .emitted, .regs, .cnt, .host, .fwd, .pwr] [.cnEvent, .cnWrap, .fwEvent, .fwRingHead, .scCfg]) ∧
  (∀ d, Keeps (.macWrite d) [.now, .emitted, .regs, .cnt, .host, .fwd, .pwr] [.cnEvent, .cnWrap, .fwEvent, .fwRingHead, .scCfg]) ∧
  (∀ d, Keeps (.macRead d) [.now, .emitted, .regs, .cnt, .host, .fwd, .pwr] [.cnEvent, .cnWrap, .fwEvent, .fwRingHead, .scCfg]) ∧
  (∀ d, Keeps (.trieWrite d) [.now, .emitted, .regs, .cnt, .host, .fwd, .pwr] [.cnEvent, .cnWrap, .fwEvent, .fwRingHead, .scCfg]) ∧
  (∀ d, Keeps (.trieRead d) [.now, .emitted, .regs, .cnt, .host, .fwd, .pwr] [.cnEvent, .cnWrap, .fwEvent, .fwRingHead, .scCfg]) ∧
  (∀ d, Keeps (.unknownOp d) [.now, .emitted, .regs, .cnt, .host, .fwd, .pwr] [.cnEvent, .cnWrap, .fwEvent, .fwRingHead, .scCfg]) ∧
  (∀ t, Keeps (.learnMergeRelease t) [.now, .emitted, .regs, .cnt, .host, .fwd] [.cnEvent, .cnWrap, .fwEvent, .scCfg]) ∧
  (∀ t pipe, Keeps (.learnFilterExpiry t pipe) [.now, .emitted, .regs, .cnt, .host, .fwd] [.cnEvent, .scCfg]) ∧
  (∀ t, Keeps (.ageingVisit t) [.now, .emitted, .regs, .cnt, .host, .fwd, .pwr] [.cnEvent, .cnWrap, .fwEvent, .scCfg]) ∧
  (∀ t table addr ecc, Keeps (.tableScrub t table addr ecc) [.now, .emitted, .regs, .cnt, .host, .fwd, .pwr] [.cnEvent, .cnWrap, .fwEvent, .scCfg]) ∧
  (∀ t, Keeps (.shaperRefill t) [.now, .emitted, .regs, .cnt, .host, .tm] [.cnEvent, .scCfg]) ∧
  (∀ t, Keeps (.policerRefill t) [.now, .emitted, .regs, .cnt, .host, .tm] [.cnEvent, .scCfg]) ∧
  (Keeps (.tmObjectWrite) [.emitted, .regs, .host, .tm, .pwr] [.tmAccStatus, .tmEvent]) ∧
  (Keeps (.tmObjectRead) [.emitted, .regs, .host, .pwr] [.tmAccData, .tmAccStatus, .tmEvent]) ∧
  (∀ packets, Keeps (.wardrobeWriteback packets) [.emitted, .regs, .cnt, .host, .tm, .mc] [.cnEvent, .cnWrap, .scCfg]) ∧
  (∀ t, Keeps (.queueSample t) [.now, .emitted, .regs, .cnt, .host, .tm, .pwr] [.cnEvent, .cnWrap, .scCfg, .tmEvent]) ∧
  (∀ t, Keeps (.recordedRateUpdate t) [.now, .emitted, .regs, .cnt, .host, .sb] [.cnEvent, .scCfg]) ∧
  (∀ t origin port programme, Keeps (.join t origin port programme) [.now, .emitted, .regs, .cnt, .host, .sb] [.cnEvent, .cnWrap, .sbCmdStatus, .sbEvent, .scCfg]) ∧
  (∀ t origin port programme, Keeps (.leave t origin port programme) [.now, .emitted, .regs, .cnt, .host, .sb] [.cnEvent, .sbCmdStatus, .scCfg]) ∧
  (∀ t origin port, Keeps (.leaveAll t origin port) [.now, .emitted, .regs, .cnt, .host, .sb] [.cnEvent, .sbCmdStatus, .scCfg]) ∧
  (∀ t ctx, Keeps (.replayIssue t ctx) [.now, .emitted, .regs, .cnt, .host, .sb, .mc] [.cnEvent, .cnWrap, .mcEvent, .scCfg]) ∧
  (∀ t ctx, Keeps (.splice t ctx) [.now, .emitted, .regs, .cnt, .host, .sb] [.cnEvent, .scCfg]) ∧
  (∀ t ctx, Keeps (.catchupTimeout t ctx) [.now, .emitted, .regs, .cnt, .host, .sb] [.cnEvent, .cnWrap, .sbEvent, .scCfg]) ∧
  (∀ t ctx, Keeps (.forcedSplice t ctx) [.now, .emitted, .regs, .cnt, .host, .sb] [.cnEvent, .cnWrap, .sbEvent, .scCfg]) ∧
  (∀ t, Keeps (.membershipReport t) [.now, .emitted, .regs, .cnt, .host, .sb] [.cnEvent, .cnWrap, .sbCmdStatus, .sbEvent, .scCfg]) ∧
  (∀ t port, Keeps (.generalQuery t port) [.now, .emitted, .regs, .cnt, .host] [.cnEvent, .scCfg]) ∧
  (∀ t port programme, Keeps (.membershipExpiry t port programme) [.now, .emitted, .regs, .cnt, .host, .sb] [.cnEvent, .sbCmdStatus, .scCfg]) ∧
  (∀ t, Keeps (.repairServe t) [.now, .emitted, .regs, .cnt, .host, .sb, .mc] [.cnEvent, .cnWrap, .mcEvent, .sbEvent, .scCfg]) ∧
  (∀ t, Keeps (.repairBudgetRefill t) [.now, .emitted, .regs, .cnt, .host, .sb] [.cnEvent, .scCfg])

/-- What tributary, Longcase, memory, host and dictionary commands leave unchanged (12_tributaries_and_overhead.md,
13_longcase_time.md, 14_memory_complex.md, 15_host_attachment_and_drawers.md, 16_object_dictionary.md, R575, R579). -/
def Obligations.FrameOfTributariesTimeMemoryHost : Prop :=
  (∀ trib, Keeps (.tributaryInputLos trib) [.emitted, .regs, .host] [.tbEvent, .tbStatus]) ∧
  (∀ trib, Keeps (.tributaryLosEnd trib) [.freeCtr, .regs, .trib] [.tbStatus]) ∧
  (∀ trib slip, Keeps (.controlledSlip trib slip) [.emitted, .regs, .cnt, .host, .trib] [.cnEvent, .cnWrap, .scCfg, .tbEvent, .trEvent]) ∧
  (Keeps (.tsiWrite) [.regs, .trib] [.tsiStatus]) ∧
  (Keeps (.tsiRead) [.regs] [.tsiData, .tsiStatus]) ∧
  (Keeps (.tsiSwap) [.emitted, .regs, .cnt, .host, .trib] [.cnEvent, .cnWrap, .scCfg, .tsiStatus]) ∧
  (Keeps (.tsiAbort) [.regs] [.tsiStatus]) ∧
  (∀ t, Keeps (.swapCommit t) [.now, .emitted, .regs, .cnt, .host, .trib] [.cnEvent, .cnWrap, .scCfg, .trEvent, .tsiStatus]) ∧
  (∀ t, Keeps (.standbyCopyDone t) [.now, .emitted, .regs, .cnt, .host, .trib] [.cnEvent, .scCfg, .tsiStatus]) ∧
  (∀ t, Keeps (.highwayChangeEnd t) [.now, .emitted, .regs, .cnt, .host, .trib] [.cnEvent, .scCfg]) ∧
  (∀ t, Keeps (.heldTodDue t) [.now, .emitted, .regs, .cnt, .host, .lc] [.cnEvent, .cnWrap, .ltEvent, .scCfg]) ∧
  (∀ t, Keeps (.offsetTimeout t) [.now, .emitted, .regs, .cnt, .host, .lc] [.cnEvent, .ltEvent, .scCfg]) ∧
  (∀ t value, Keeps (.softwareOffset t value) [.now, .emitted, .regs, .cnt, .host, .lc] [.cnEvent, .cnWrap, .ltEvent, .scCfg]) ∧
  (∀ t value, Keeps (.set t value) [.now, .emitted, .regs, .cnt, .host, .lc] [.cnEvent, .cnWrap, .ltEvent, .scCfg]) ∧
  (∀ t, Keeps (.setLoad t) [.now, .emitted, .regs, .cnt, .host, .lc] [.cnEvent, .cnWrap, .ltEvent, .scCfg]) ∧
  (∀ t, Keeps (.ppsPulse t) [.now, .emitted, .regs, .cnt, .host, .lc] [.cnEvent, .scCfg]) ∧
  (∀ t, Keeps (.ppsWidthEnd t) [.now, .emitted, .regs, .cnt, .host, .lc] [.cnEvent, .scCfg]) ∧
  (∀ t, Keeps (.pltodMessage t) [.now, .emitted, .regs, .cnt, .host, .lc] [.cnEvent, .scCfg]) ∧
  (∀ t, Keeps (.longcaseNowRead t) [.now, .emitted, .regs, .cnt, .host, .lc] [.cnEvent, .scCfg]) ∧
  (∀ e, Keeps (.memoryErrorDetected e) [.now, .freeCtr, .emitted, .regs, .cnt, .host, .up, .tm, .cls, .sb, .mc, .sec] [.bnEvent, .clEvent, .cnEvent, .cnWrap, .mcEvent, .pwDom, .pwDom3, .scCfg, .wdEvent]) ∧
  (∀ t, Keeps (.migrationStart t) [.now, .emitted, .regs, .cnt, .host, .mc] [.cnEvent, .cnWrap, .scCfg]) ∧
  (∀ t, Keeps (.rankWithdrawal t) [.now, .emitted, .regs, .cnt, .host, .tm, .cls, .sb, .mc] [.clEvent, .cnEvent, .cnWrap, .mcEvent, .sbEvent, .scCfg]) ∧
  (∀ t l, Keeps (.linkTrained t l) [.now, .emitted, .regs, .cnt, .host] [.cnEvent, .glEvent, .scCfg]) ∧
  (∀ t ring index, Keeps (.ringDoorbell t ring index) [.now, .emitted, .regs, .cnt, .host, .sec, .pwr] [.cnEvent, .cnWrap, .scCfg]) ∧
  (∀ t ring index, Keeps (.tailLineSnoop t ring index) [.now, .emitted, .regs, .cnt, .host, .sec, .pwr] [.cnEvent, .scCfg]) ∧
  (∀ t ring, Keeps (.ringWriteback t ring) [.now, .emitted, .regs, .cnt, .host, .sec] [.cnEvent, .scCfg]) ∧
  (∀ d, Keeps (.hostTransmit d) [.now, .emitted, .regs, .cnt, .host, .sec, .pwr] [.cnEvent, .cnWrap, .scCfg]) ∧
  (∀ d slot, Keeps (.drawerRead d slot) [.emitted, .host] []) ∧
  (∀ d value, Keeps (.drawerFlush d value) [.emitted, .regs, .cnt, .host, .sb] [.cnEvent, .cnWrap, .scCfg]) ∧
  (∀ d value, Keeps (.drawerLevelWrite d value) [.emitted, .host] []) ∧
  (∀ d value, Keeps (.drawerConsumerWrite d value) [.emitted, .regs, .cnt, .host, .sb] [.cnEvent, .cnWrap, .drwCtrl, .scCfg]) ∧
  (∀ t d, Keeps (.drawerDmaCopy t d) [.now, .emitted, .regs, .cnt, .host, .sec] [.cnEvent, .scCfg]) ∧
  (∀ vector, Keeps (.vectorUnmask vector) [.emitted, .host] []) ∧
  (∀ hd records, Keeps (.read hd records) [.now, .emitted, .regs, .cnt, .host, .tm, .cls, .dic, .img] [.clEvent, .cnEvent, .cnWrap, .mbEvent, .mbStatus, .scCfg, .wdEvent]) ∧
  (∀ hd records, Keeps (.write hd records) [.now, .emitted, .regs, .cnt, .host, .tm, .cls, .dic, .img] [.clEvent, .cnEvent, .cnWrap, .mbEvent, .mbStatus, .scCfg, .wdEvent]) ∧
  (∀ hd, Keeps (.open_ hd) [.now, .emitted, .regs, .cnt, .host, .tm, .cls, .dic, .img] [.clEvent, .cnEvent, .cnWrap, .mbEvent, .mbStatus, .scCfg, .wdEvent]) ∧
  (∀ hd scheduled, Keeps (.commit hd scheduled) [.now, .emitted, .regs, .cnt, .host, .tm, .cls, .dic, .img] [.clEvent, .cnEvent, .cnWrap, .mbEvent, .mbStatus, .scCfg, .wdEvent]) ∧
  (∀ hd, Keeps (.abort hd) [.now, .emitted, .regs, .cnt, .host, .tm, .cls, .dic, .img] [.clEvent, .cnEvent, .cnWrap, .mbEvent, .mbStatus, .scCfg, .wdEvent]) ∧
  (∀ hd, Keeps (.query hd) [.now, .emitted, .regs, .cnt, .host, .tm, .cls, .dic, .img] [.clEvent, .cnEvent, .cnWrap, .mbEvent, .mbStatus, .scCfg, .wdEvent]) ∧
  (∀ t path, Keeps (.transactionIdleTimeout t path) [.now, .emitted, .regs, .cnt, .host, .dic] [.cnEvent, .cnWrap, .scCfg]) ∧
  (∀ t ok, Keeps (.dictionarySave t ok) [.now, .emitted, .regs, .cnt, .host, .sec, .dic, .img] [.cnEvent, .cnWrap, .scCfg]) ∧
  (∀ t path value, Keeps (.restoreDefaults t path value) [.now, .emitted, .regs, .cnt, .host, .dic] [.cnEvent, .scCfg])

/-- What Bench, Secretary, power, counter, monitor and image commands leave unchanged (17_secretary_and_bench.md,
18_power_and_lifeline.md, 19_counters_and_cabinet.md, 20_images_and_activation.md, R575, R579). -/
def Obligations.FrameOfTasksPowerCountersImages : Prop :=
  (∀ d, Keeps (.taskSubmit d) [.now, .emitted, .regs, .cnt, .host, .sec] [.bnEvent, .cnEvent, .cnWrap, .scCfg]) ∧
  (∀ t, Keeps (.taskDispatch t) [.now, .freeCtr, .emitted, .regs, .cnt, .host, .sec] [.cnEvent, .cnWrap, .scCfg]) ∧
  (∀ t handle, Keeps (.affinityWindowExpiry t handle) [.now, .emitted, .regs, .cnt, .host, .sec] [.cnEvent, .cnWrap, .scCfg]) ∧
  (∀ t core status answer, Keeps (.taskComplete t core status answer) [.now, .freeCtr, .emitted, .regs, .cnt, .host, .fwd, .sec, .pwr] [.bnEvent, .cnEvent, .cnWrap, .fwEvent, .fwRingHead, .scCfg]) ∧
  (∀ t core cause, Keeps (.taskFault t core cause) [.now, .freeCtr, .emitted, .regs, .cnt, .host, .sec] [.bnEvent, .cnEvent, .cnWrap, .mcEvent, .scCfg]) ∧
  (∀ t handle, Keeps (.taskCancel t handle) [.now, .emitted, .regs, .cnt, .host, .sec] [.bnEvent, .cnEvent, .cnWrap, .scCfg]) ∧
  (∀ value, Keeps (.hostHandlesWrite value) [.emitted, .regs, .host] [.bnCtrl, .bnEvent]) ∧
  (∀ t, Keeps (.watchdogExpiry t) [.now, .freeCtr, .emitted, .regs, .cnt, .host, .act, .fs, .up, .sec, .dic, .img] [.bnEvent, .cnEvent, .cnWrap, .fsEvent, .leGrantEvent, .scCfg]) ∧
  (∀ t, Keeps (.secretaryException t) [.now, .freeCtr, .emitted, .regs, .cnt, .host, .act, .fs, .up, .sec, .dic, .img] [.bnEvent, .cnEvent, .cnWrap, .fsEvent, .leGrantEvent, .scCfg]) ∧
  (∀ t path value, Keeps (.restartCluster t path value) [.now, .freeCtr, .emitted, .regs, .cnt, .host, .sec] [.bnEvent, .cnEvent, .cnWrap, .scCfg]) ∧
  (∀ t path value, Keeps (.restartSecretary t path value) [.now, .freeCtr, .emitted, .regs, .cnt, .host, .act, .fs, .up, .sec, .dic, .img] [.bnEvent, .cnEvent, .cnWrap, .fsEvent, .leGrantEvent, .scCfg]) ∧
  (∀ t origin, Keeps (.requestRunFull t origin) [.now, .freeCtr, .emitted, .regs, .dict, .cnt, .host, .chans, .prot, .lanes, .ports, .bond, .cipher, .act, .fs, .up, .lc, .tm, .cls, .sb, .mc, .sec, .pwr, .trib, .dic] [.actEqdP, .actEqdW, .actEvent, .actStatus, .bnEvent, .cabCtrl, .cabMask, .cabTimeNs, .cabTimeSec, .clEvent, .cnEvent, .cnWrap, .cnZeroed, .dpEvent, .fsEvent, .glEvent, .lcEvent, .leGrantEvent, .leTrib, .ltEvent, .mbEvent, .mbStatus, .mdCtrl, .pwDom, .pwDom3, .pwEvent, .pwReqStatus, .pwWake, .sbEvent, .scCfg, .tbStatus]) ∧
  (∀ t origin, Keeps (.requestRunLifeline t origin) [.now, .freeCtr, .emitted, .regs, .dict, .cnt, .host, .chans, .prot, .lanes, .ports, .bond, .cipher, .act, .fs, .up, .lc, .tm, .cls, .sb, .mc, .sec, .pwr, .trib, .dic] [.actEqdP, .actEqdW, .actEvent, .actStatus, .bnEvent, .cabCtrl, .cabMask, .cabTimeNs, .cabTimeSec, .clEvent, .cnEvent, .cnWrap, .cnZeroed, .dpEvent, .fsEvent, .glEvent, .lcEvent, .leGrantEvent, .leTrib, .ltEvent, .mbEvent, .mbStatus, .mdCtrl, .pwDom, .pwDom3, .pwEvent, .pwReqStatus, .pwWake, .sbEvent, .scCfg, .tbStatus]) ∧
  (∀ t origin period, Keeps (.requestSleep t origin period) [.now, .freeCtr, .emitted, .regs, .dict, .cnt, .host, .chans, .prot, .lanes, .ports, .bond, .cipher, .act, .fs, .up, .lc, .tm, .cls, .sb, .mc, .sec, .pwr, .trib, .dic] [.actEqdP, .actEqdW, .actEvent, .actStatus, .bnEvent, .cabCtrl, .cabMask, .cabTimeNs, .cabTimeSec, .clEvent, .cnEvent, .cnWrap, .cnZeroed, .dpEvent, .fsEvent, .glEvent, .lcEvent, .leGrantEvent, .leTrib, .ltEvent, .mbEvent, .mbStatus, .mdCtrl, .pwDom, .pwDom3, .pwEvent, .pwReqStatus, .pwWake, .sbEvent, .scCfg, .tbStatus]) ∧
  (∀ t origin, Keeps (.requestDeepSleep t origin) [.now, .freeCtr, .emitted, .regs, .dict, .cnt, .host, .chans, .prot, .lanes, .ports, .bond, .cipher, .act, .fs, .up, .lc, .tm, .cls, .sb, .mc, .sec, .pwr, .trib, .dic] [.actEqdP, .actEqdW, .actEvent, .actStatus, .bnEvent, .cabCtrl, .cabMask, .cabTimeNs, .cabTimeSec, .clEvent, .cnEvent, .cnWrap, .cnZeroed, .dpEvent, .fsEvent, .glEvent, .lcEvent, .leGrantEvent, .leTrib, .ltEvent, .mbEvent, .mbStatus, .mdCtrl, .pwDom, .pwDom3, .pwEvent, .pwReqStatus, .pwWake, .sbEvent, .scCfg, .tbStatus]) ∧
  (∀ t origin, Keeps (.requestOff t origin) [.now, .freeCtr, .emitted, .regs, .dict, .cnt, .host, .chans, .prot, .lanes, .ports, .bond, .cipher, .act, .fs, .up, .lc, .tm, .cls, .sb, .mc, .sec, .pwr, .trib, .dic] [.actEqdP, .actEqdW, .actEvent, .actStatus, .bnEvent, .cabCtrl, .cabMask, .cabTimeNs, .cabTimeSec, .clEvent, .cnEvent, .cnWrap, .cnZeroed, .dpEvent, .fsEvent, .glEvent, .lcEvent, .leGrantEvent, .leTrib, .ltEvent, .mbEvent, .mbStatus, .mdCtrl, .pwDom, .pwDom3, .pwEvent, .pwReqStatus, .pwWake, .sbEvent, .scCfg, .tbStatus]) ∧
  (∀ t, Keeps (.noticeWaitExpiry t) [.now, .emitted, .regs, .dict, .cnt, .host, .chans, .prot, .lanes, .ports, .bond, .cipher, .act, .fs, .up, .lc, .tm, .cls, .sb, .pwr] [.actEqdP, .actEqdW, .actEvent, .actStatus, .clEvent, .cnEvent, .cnWrap, .dpEvent, .fsEvent, .lcEvent, .leGrantEvent, .leTrib, .ltEvent, .pwEvent, .pwReqStatus, .scCfg]) ∧
  (∀ t, Keeps (.powerChangeCommit t) [.now, .freeCtr, .emitted, .regs, .dict, .cnt, .host, .chans, .prot, .lanes, .ports, .bond, .cipher, .act, .fs, .up, .lc, .tm, .cls, .sb, .mc, .sec, .pwr, .trib, .dic] [.actEqdP, .actEqdW, .actEvent, .actStatus, .bnEvent, .cabCtrl, .cabMask, .cabTimeNs, .cabTimeSec, .clEvent, .cnEvent, .cnWrap, .cnZeroed, .dpEvent, .fsEvent, .glEvent, .lcEvent, .leGrantEvent, .leTrib, .ltEvent, .mbEvent, .mbStatus, .mdCtrl, .pwDom, .pwDom3, .pwEvent, .pwReqStatus, .pwWake, .sbEvent, .scCfg, .tbStatus]) ∧
  (∀ t, Keeps (.idleEntry t) [.now, .emitted, .regs, .cnt, .host, .pwr] [.cnEvent, .cnWrap, .scCfg]) ∧
  (∀ t, Keeps (.lossOfLine t) [.now, .freeCtr, .emitted, .regs, .dict, .cnt, .host, .chans, .prot, .lanes, .ports, .bond, .cipher, .act, .fs, .up, .lc, .tm, .cls, .sb, .mc, .sec, .pwr, .trib, .dic] [.actEqdP, .actEqdW, .actEvent, .actStatus, .bnEvent, .cabCtrl, .cabMask, .cabTimeNs, .cabTimeSec, .clEvent, .cnEvent, .cnWrap, .cnZeroed, .dpEvent, .fsEvent, .glEvent, .lcEvent, .leGrantEvent, .leTrib, .ltEvent, .mbEvent, .mbStatus, .mdCtrl, .pwDom, .pwDom3, .pwEvent, .pwReqStatus, .pwWake, .sbEvent, .scCfg, .tbStatus]) ∧
  (∀ t, Keeps (.lifelineHoldExpiry t) [.now, .freeCtr, .emitted, .regs, .dict, .cnt, .host, .chans, .prot, .lanes, .ports, .bond, .cipher, .act, .fs, .up, .lc, .tm, .cls, .sb, .mc, .sec, .pwr, .trib, .dic] [.actEqdP, .actEqdW, .actEvent, .actStatus, .bnEvent, .cabCtrl, .cabMask, .cabTimeNs, .cabTimeSec, .clEvent, .cnEvent, .cnWrap, .cnZeroed, .dpEvent, .fsEvent, .glEvent, .lcEvent, .leGrantEvent, .leTrib, .ltEvent, .mbEvent, .mbStatus, .mdCtrl, .pwDom, .pwDom3, .pwEvent, .pwReqStatus, .pwWake, .sbEvent, .scCfg, .tbStatus]) ∧
  (∀ t, Keeps (.lifelineRestoreExpiry t) [.now, .freeCtr, .emitted, .regs, .dict, .cnt, .host, .chans, .prot, .lanes, .ports, .bond, .cipher, .act, .fs, .up, .lc, .tm, .cls, .sb, .mc, .sec, .pwr, .trib, .dic] [.actEqdP, .actEqdW, .actEvent, .actStatus, .bnEvent, .cabCtrl, .cabMask, .cabTimeNs, .cabTimeSec, .clEvent, .cnEvent, .cnWrap, .cnZeroed, .dpEvent, .fsEvent, .glEvent, .lcEvent, .leGrantEvent, .leTrib, .ltEvent, .mbEvent, .mbStatus, .mdCtrl, .pwDom, .pwDom3, .pwEvent, .pwReqStatus, .pwWake, .sbEvent, .scCfg, .tbStatus]) ∧
  (∀ counter value, Keeps (.clear counter value) [.regs, .cnt] [.scCfg]) ∧
  (∀ counter, Keeps (.selectableCounterRead counter) [.emitted, .cnt] []) ∧
  (∀ t ok, Keeps (.counterPageCopy t ok) [.now, .emitted, .regs, .cnt, .host] [.cnEvent, .cnWrap, .scCfg]) ∧
  (∀ t origin, Keeps (.arm t origin) [.now, .emitted, .regs, .cnt, .host, .cab] [.cabCtrl, .cabEvent, .cabMask, .cabTimeNs, .cabTimeSec, .cnEvent, .cnWrap, .scCfg]) ∧
  (∀ t origin, Keeps (.cabinetAbort t origin) [.now, .emitted, .regs, .cnt, .host, .cab] [.cabCtrl, .cabEvent, .cabMask, .cabTimeNs, .cabTimeSec, .cnEvent, .cnWrap, .scCfg]) ∧
  (∀ t, Keeps (.cabinetLatch t) [.now, .emitted, .regs, .cnt, .host, .cab] [.cnEvent, .cnWrap, .scCfg]) ∧
  (∀ t, Keeps (.cabinetDrainDone t) [.now, .emitted, .regs, .cnt, .host, .cab] [.cabEvent, .cnEvent, .scCfg]) ∧
  (Keeps (.cabinetWindowRead) [.emitted, .regs, .cnt, .host] [.cabEvent, .cnEvent, .cnWrap, .scCfg]) ∧
  (∀ t sensor temp, Keeps (.dieTempSample t sensor temp) [.now, .emitted, .regs, .cnt, .host, .mon, .act, .fs, .up, .pwr] [.cnEvent, .cnWrap, .fsEvent, .leGrantEvent, .scCfg, .thEvent, .thTrip]) ∧
  (∀ t stack temp, Keeps (.hbmTempReport t stack temp) [.now, .emitted, .regs, .cnt, .host, .mon, .act, .fs, .up, .pwr] [.cnEvent, .cnWrap, .fsEvent, .leGrantEvent, .scCfg, .thEvent, .thTrip]) ∧
  (∀ t sensor, Keeps (.hardwareThermalTrip t sensor) [.now, .emitted, .regs, .cnt, .host, .act, .fs, .up, .pwr] [.cnEvent, .cnWrap, .fsEvent, .leGrantEvent, .scCfg, .thTrip]) ∧
  (∀ t rail mv, Keeps (.voltageSample t rail mv) [.now, .emitted, .regs, .cnt, .host, .mon] [.cnEvent, .cnWrap, .scCfg, .thEvent]) ∧
  (∀ sensor, Keeps (.temperaturePeakRead sensor) [.emitted, .mon] []) ∧
  (∀ m, Keeps (.hello m) [.now, .freeCtr, .emitted, .regs, .cnt, .host, .cipher, .img] [.cnEvent, .cnWrap, .scCfg]) ∧
  (∀ m, Keeps (.openSession m) [.now, .emitted, .regs, .cnt, .host, .cipher, .img] [.cnEvent, .cnWrap, .scCfg]) ∧
  (∀ m, Keeps (.close m) [.now, .emitted, .regs, .cnt, .host, .cipher, .img] [.cnEvent, .cnWrap, .scCfg]) ∧
  (∀ t session, Keeps (.sessionOpenTimeout t session) [.now, .emitted, .regs, .cnt, .host, .cipher, .img] [.cnEvent, .cnWrap, .scCfg]) ∧
  (∀ t session, Keeps (.sessionIdleTimeout t session) [.now, .emitted, .regs, .cnt, .host, .cipher, .img] [.cnEvent, .cnWrap, .scCfg]) ∧
  (∀ t bytes, Keeps (.servicePortFrame t bytes) [.now, .freeCtr, .emitted, .regs, .cnt, .host] [.cnEvent, .cnWrap, .scCfg]) ∧
  (∀ m, Keeps (.imageBegin m) [.now, .emitted, .regs, .cnt, .host, .img] [.cnEvent, .cnWrap, .scCfg]) ∧
  (∀ m, Keeps (.imageBlock m) [.now, .emitted, .regs, .cnt, .host, .img] [.cnEvent, .cnWrap, .scCfg]) ∧
  (∀ m, Keeps (.imageEnd m) [.now, .emitted, .regs, .cnt, .host, .img] [.cnEvent, .cnWrap, .scCfg]) ∧
  (∀ t path key, Keeps (.setServiceKey t path key) [.now, .emitted, .regs, .cnt, .host, .cipher, .img] [.cnEvent, .scCfg]) ∧
  (∀ t path, Keeps (.activationRequest t path) [.now, .emitted, .regs, .cnt, .host, .lanes, .act, .fs, .pwr, .img] [.cnEvent, .cnWrap, .fsEvent, .pwReqStatus, .scCfg]) ∧
  (∀ t path, Keeps (.activationAbort t path) [.now, .emitted, .regs, .cnt, .host, .img] [.cnEvent, .cnWrap, .scCfg]) ∧
  (∀ t, Keeps (.activationCommit t) [.now, .freeCtr, .emitted, .regs, .cnt, .host, .act, .fs, .up, .sec, .dic, .img] [.bnEvent, .cnEvent, .cnWrap, .fsEvent, .leGrantEvent, .scCfg]) ∧
  (∀ t path value, Keeps (.confirm t path value) [.now, .emitted, .regs, .cnt, .host, .img] [.cnEvent, .cnWrap, .scCfg]) ∧
  (∀ t, Keeps (.autoConfirm t) [.now, .emitted, .regs, .cnt, .host, .img] [.cnEvent, .cnWrap, .scCfg]) ∧
  (∀ t, Keeps (.trialTimeout t) [.now, .freeCtr, .emitted, .regs, .cnt, .host, .act, .fs, .up, .sec, .dic, .img] [.bnEvent, .cnEvent, .cnWrap, .fsEvent, .leGrantEvent, .scCfg]) ∧
  (∀ t, Keeps (.lineStartRelease t) [.now, .emitted, .regs, .dict, .cnt, .host, .chans, .prot, .lanes, .ports, .bond, .cipher, .act, .fs, .up, .lc, .tm, .cls, .sb, .pwr] [.actEqdP, .actEqdW, .actEvent, .actStatus, .clEvent, .cnEvent, .cnWrap, .dpEvent, .fsEvent, .glBoot, .lcEvent, .leGrantEvent, .leTrib, .ltEvent, .pwReqStatus, .scCfg]) ∧
  (∀ t, Keeps (.killRelease t) [.now, .emitted, .regs, .cnt, .host, .fs] [.cnEvent, .scCfg]) ∧
  (∀ t targetMv, Keeps (.avsTrack t targetMv) [.now, .emitted, .regs, .cnt, .host, .mon] [.cnEvent, .glBoot, .scCfg]) ∧
  (∀ t level, Keeps (.battNChange t level) [.now, .emitted, .regs, .cnt, .host, .act, .pwr] [.cnEvent, .scCfg]) ∧
  (∀ t out, Keeps (.killSenseMismatch t out) [.now, .emitted, .regs, .cnt, .host, .act, .fs, .up] [.cnEvent, .cnWrap, .fsEvent, .leGrantEvent, .scCfg]) ∧
  (∀ lane, Keeps (.checkerLock lane) [.regs, .lanes] [.lntStatus]) ∧
  (∀ lane counts, Keeps (.checkerLockLoss lane counts) [.regs, .lanes] [.lntBits, .lntErrors, .lntLockloss, .lntStatus, .lntSymerr]) ∧
  (∀ port, Keeps (.negotiationFailure port) [.emitted, .regs, .cnt, .host, .lanes] [.cnEvent, .cnWrap, .dpEvent, .scCfg]) ∧
  (∀ t stack, Keeps (.hbmReportMissed t stack) [.now, .emitted, .regs, .cnt, .host, .mon] [.cnEvent, .scCfg, .thEvent]) ∧
  (∀ hd bytes, Keeps (.malformedRequest hd bytes) [.now, .emitted, .regs, .cnt, .host, .tm, .cls, .dic, .img] [.clEvent, .cnEvent, .cnWrap, .mbEvent, .mbStatus, .scCfg, .wdEvent])
end

