-- ==== Sys2Proof/Laws/Assoc.lean ====
section
/-!
SUPPORT. Laws/Assoc.lean: reading a sparse map after it was written, and the form of its list.
-/

namespace Sys2Proof.Laws

open Sys2Proof.Machine

variable {α : Type}

theorem aget_aput_same (l : List (Nat × α)) (k : Nat) (v : α) : aget (aput l k v) k = some v := by
  induction l with
  | nil => simp [aput, aget]
  | cons a l ih =>
    obtain ⟨k', v'⟩ := a
    simp only [aput]
    split
    · simp [aget]
    · split
      · simp [aget]
      · rename_i h1 h2
        simp only [aget]
        rw [if_neg (fun e => h2 e.symm)]
        exact ih

theorem aget_aput_ne (l : List (Nat × α)) {k j : Nat} (v : α) (h : j ≠ k) : aget (aput l k v) j = aget l j := by
  induction l with
  | nil => simpa [aput, aget] using fun e : k = j => h e.symm
  | cons a l ih =>
    obtain ⟨k', v'⟩ := a
    simp only [aput]
    split
    · simp only [aget]
      rw [if_neg (fun e => h e.symm)]
    · split
      · rename_i h1 h2
        subst h2
        simp only [aget]
        rw [if_neg (fun e => h e.symm), if_neg (fun e => h e.symm)]
      · simp only [aget, ih]

theorem aget_adel_same (l : List (Nat × α)) (k : Nat) : aget (adel l k) k = none := by
  induction l with
  | nil => rfl
  | cons a l ih =>
    obtain ⟨k', v'⟩ := a
    simp only [adel]
    split
    · exact ih
    · rename_i h
      simp only [aget]
      rw [if_neg h]
      exact ih

theorem aget_adel_ne (l : List (Nat × α)) {k j : Nat} (h : j ≠ k) : aget (adel l k) j = aget l j := by
  induction l with
  | nil => rfl
  | cons a l ih =>
    obtain ⟨k', v'⟩ := a
    simp only [adel]
    split
    · rename_i e
      subst e
      simp only [aget]
      rw [if_neg (fun e => h e.symm)]
      exact ih
    · simp only [aget, ih]

/-- A key reads as what was written there last. -/
@[simp] theorem agetD_aputD_same [DecidableEq α] (l : List (Nat × α)) (k : Nat) (v d : α) :
    agetD (aputD l k v d) k d = v := by
  simp only [agetD, aputD]
  split
  · rename_i h; simp [aget_adel_same, h]
  · simp [aget_aput_same]

/-- Another key reads as before. -/
theorem agetD_aputD_ne [DecidableEq α] (l : List (Nat × α)) {k j : Nat} (v d e : α) (h : j ≠ k) :
    agetD (aputD l k v d) j e = agetD l j e := by
  simp only [agetD, aputD]
  split
  · rw [aget_adel_ne l h]
  · rw [aget_aput_ne l v h]

@[simp] theorem agetD_nil (k : Nat) (d : α) : agetD ([] : List (Nat × α)) k d = d := rfl

/-! ## Order -/

/-- The first key of a list lies above a bound. -/
def above (b : Nat) : List (Nat × α) → Bool
  | [] => true
  | (k, _) :: _ => decide (b < k)

theorem keysRise_cons (k : Nat) (v : α) (l : List (Nat × α)) :
    keysRise ((k, v) :: l) = (above k l && keysRise l) := by
  cases l with
  | nil => rfl
  | cons a l => rfl

theorem above_aput {b k : Nat} (v : α) (l : List (Nat × α)) (h : above b l = true) (hk : b < k) :
    above b (aput l k v) = true := by
  cases l with
  | nil => simpa [aput, above] using hk
  | cons a l =>
    obtain ⟨k', v'⟩ := a
    simp only [aput]
    split
    · simpa [above] using hk
    · split
      · simpa [above] using hk
      · simpa [above] using h

theorem keysRise_aput (l : List (Nat × α)) (k : Nat) (v : α) (h : keysRise l = true) : keysRise (aput l k v) = true := by
  induction l with
  | nil => rfl
  | cons a l ih =>
    obtain ⟨k', v'⟩ := a
    rw [keysRise_cons, Bool.and_eq_true] at h
    simp only [aput]
    split
    · rename_i hk
      rw [keysRise_cons, keysRise_cons, h.1, h.2]
      simpa [above] using hk
    · split
      · rename_i hk
        subst hk
        simp [keysRise_cons, h.1, h.2]
      · rw [keysRise_cons, Bool.and_eq_true]
        exact ⟨above_aput v l h.1 (by omega), ih h.2⟩

theorem keysRise_tail {k : Nat} {v : α} {l : List (Nat × α)} (h : keysRise ((k, v) :: l) = true) : keysRise l = true := by
  rw [keysRise_cons, Bool.and_eq_true] at h
  exact h.2

theorem above_mono {b c : Nat} {l : List (Nat × α)} (h : above c l = true) (hb : b ≤ c) : above b l = true := by
  cases l with
  | nil => rfl
  | cons a l => simp only [above, decide_eq_true_eq] at h ⊢; omega

theorem above_filter {b : Nat} (p : Nat × α → Bool) (l : List (Nat × α)) (h : above b l = true) (hr : keysRise l = true) :
    above b (l.filter p) = true := by
  induction l with
  | nil => rfl
  | cons a l ih =>
    obtain ⟨k, v⟩ := a
    rw [keysRise_cons, Bool.and_eq_true] at hr
    by_cases hp : p (k, v)
    · simpa [List.filter_cons, hp, above] using h
    · rw [List.filter_cons, if_neg hp]
      simp only [above, decide_eq_true_eq] at h
      exact ih (above_mono hr.1 (by omega)) hr.2

/-- Filtering keeps the order of the keys. -/
theorem keysRise_filter (p : Nat × α → Bool) (l : List (Nat × α)) (h : keysRise l = true) :
    keysRise (l.filter p) = true := by
  induction l with
  | nil => rfl
  | cons a l ih =>
    obtain ⟨k, v⟩ := a
    have ht := keysRise_tail h
    rw [keysRise_cons, Bool.and_eq_true] at h
    by_cases hp : p (k, v)
    · rw [List.filter_cons, if_pos hp, keysRise_cons, Bool.and_eq_true]
      exact ⟨above_filter p l h.1 ht, ih ht⟩
    · rw [List.filter_cons, if_neg hp]
      exact ih ht

theorem adel_eq_filter (l : List (Nat × α)) (k : Nat) : adel l k = l.filter (fun e => e.1 != k) := by
  induction l with
  | nil => rfl
  | cons a l ih =>
    obtain ⟨k', v'⟩ := a
    simp only [adel, List.filter_cons, bne_iff_ne]
    split
    · rename_i h; simp [h, ih]
    · rename_i h; simpa using ih

theorem keysRise_adel (l : List (Nat × α)) (k : Nat) (h : keysRise l = true) : keysRise (adel l k) = true := by
  rw [adel_eq_filter]
  exact keysRise_filter _ l h

theorem all_aput (p : Nat × α → Bool) (l : List (Nat × α)) (k : Nat) (v : α) (h : l.all p = true) (hv : p (k, v) = true) :
    (aput l k v).all p = true := by
  induction l with
  | nil => simp [aput, hv]
  | cons a l ih =>
    obtain ⟨k', v'⟩ := a
    simp only [List.all_cons, Bool.and_eq_true] at h
    simp only [aput]
    split
    · simp [hv, h.1, h.2]
    · split
      · simp [hv, h.2]
      · simp [h.1, ih h.2]

theorem all_filter (p q : Nat × α → Bool) (l : List (Nat × α)) (h : l.all p = true) : (l.filter q).all p = true := by
  simp only [List.all_eq_true, List.mem_filter] at h ⊢
  exact fun x hx => h x hx.1

end Sys2Proof.Laws
end

