-- ==== Sys2Proof/Laws/Registers.lean ====
section
/-!
SUPPORT. Laws/Registers.lean: no two registers of BAR0 lie at one offset, and what follows for reading one register after
another was set.
-/

namespace Sys2Proof.Laws

set_option Elab.async false

open Sys2Proof.Machine

/-- Two rows of places have no offset in common: one ends before the other begins, or no place of the first is one of the
second. -/
def rowsApart (a b : Nat × Nat × Nat) : Bool :=
  decide (a.1 + a.2.1 * (a.2.2 - 1) < b.1) || decide (b.1 + b.2.1 * (b.2.2 - 1) < a.1) ||
    (List.range a.2.2).all (fun i =>
      decide (a.1 + a.2.1 * i < b.1) || (a.1 + a.2.1 * i - b.1) % (max 1 b.2.1) != 0 ||
        decide (b.2.2 ≤ (a.1 + a.2.1 * i - b.1) / max 1 b.2.1))

/-- Every later row is apart from the first, and so on. -/
def allApart : List (Nat × Nat × Nat) → Bool
  | [] => true
  | a :: l => l.all (rowsApart a) && allApart l

theorem rowsApart_ne {a b : Nat × Nat × Nat} (h : rowsApart a b = true) (i j : Nat) (hi : i < a.2.2) (hj : j < b.2.2) :
    a.1 + a.2.1 * i ≠ b.1 + b.2.1 * j := by
  intro he
  simp only [rowsApart, Bool.or_eq_true, decide_eq_true_eq, List.all_eq_true, List.mem_range, bne_iff_ne] at h
  have m1 : a.2.1 * i ≤ a.2.1 * (a.2.2 - 1) := Nat.mul_le_mul_left _ (by omega)
  have m2 : b.2.1 * j ≤ b.2.1 * (b.2.2 - 1) := Nat.mul_le_mul_left _ (by omega)
  rcases h with (h | h) | h
  · omega
  · omega
  · have k := h i hi
    rw [he] at k
    have e : b.1 + b.2.1 * j - b.1 = b.2.1 * j := by omega
    rw [e] at k
    by_cases z : b.2.1 = 0
    · rcases k with (k | k) | k
      · omega
      · simp [z] at k
      · simp [z] at k; omega
    · have mx : max 1 b.2.1 = b.2.1 := by omega
      rw [mx] at k
      rcases k with (k | k) | k
      · omega
      · simp at k
      · rw [Nat.mul_div_cancel_left _ (by omega)] at k; omega

set_option maxRecDepth 100000 in
theorem places_apart : allApart (allRegs.map regPlace) = true := by decide +kernel

theorem allApart_get : ∀ (l : List (Nat × Nat × Nat)), allApart l = true → ∀ i j, i < j → ∀ (hj : j < l.length) (hi : i < l.length),
    rowsApart l[i] l[j] = true
  | [], _, i, j, _, hj, _ => by simp at hj
  | a :: l, h, i, j, hij, hj, hi => by
    simp only [allApart, Bool.and_eq_true, List.all_eq_true] at h
    cases j with
    | zero => omega
    | succ j =>
      cases i with
      | zero =>
        simp only [List.getElem_cons_zero, List.getElem_cons_succ]
        exact h.1 _ (List.getElem_mem _)
      | succ i =>
        simp only [List.getElem_cons_succ]
        exact allApart_get l h.2 i j (by omega) (by simpa using hj) (by simpa using hi)

/-- Every register stands in the list. -/
theorem mem_allRegs (r : Reg) : r ∈ allRegs := by cases r <;> decide

/-- No two registers lie at one offset (R473). -/
theorem regOffset_ne {r r' : Reg} (h : r ≠ r') {i j : Nat} (hi : i < (regPlace r).2.2) (hj : j < (regPlace r').2.2) :
    regOffset r i ≠ regOffset r' j := by
  obtain ⟨a, ha, ea⟩ := List.mem_iff_getElem.mp (mem_allRegs r)
  obtain ⟨b, hb, eb⟩ := List.mem_iff_getElem.mp (mem_allRegs r')
  have key := allApart_get _ places_apart
  have la : a < (allRegs.map regPlace).length := by simpa using ha
  have lb : b < (allRegs.map regPlace).length := by simpa using hb
  rcases Nat.lt_trichotomy a b with hab | hab | hab
  · have k := key a b hab lb la
    simp only [List.getElem_map, ea, eb] at k
    exact rowsApart_ne k i j hi hj
  · subst hab; exact absurd (ea.symm.trans eb) h
  · have k := key b a hab la lb
    simp only [List.getElem_map, ea, eb] at k
    exact fun e => rowsApart_ne k j i hj hi e.symm

/-- A register that was set reads as set. -/
@[simp] theorem reg_setReg_same (r : Reg) (i : Nat) (v : Word) (d : Dev) : reg (setReg r i v d) r i = v := by
  simp [reg, setReg]

/-- Another register reads as before. -/
theorem reg_setReg_ne {r r' : Reg} (h : r' ≠ r) {i j : Nat} (v : Word) (d : Dev) (hi : i < (regPlace r).2.2)
    (hj : j < (regPlace r').2.2) : reg (setReg r i v d) r' j = reg d r' j := by
  simp only [reg, setReg]
  exact agetD_aputD_ne _ _ _ _ (regOffset_ne h hj hi)

/-- Another instance of a register that has several reads as before. -/
theorem reg_setReg_other {r : Reg} {i j : Nat} (h : j ≠ i) (hs : 0 < (regPlace r).2.1) (v : Word) (d : Dev) :
    reg (setReg r i v d) r j = reg d r j := by
  simp only [reg, setReg]
  refine agetD_aputD_ne _ _ _ _ ?_
  simp only [regOffset]
  intro e
  exact h (Nat.eq_of_mul_eq_mul_left hs (by omega))

/-! ## Fields -/

/-- A number with some bits replaced, as a sum of its parts. -/
theorem withBits_eq (x hi lo v : Nat) :
    withBits x hi lo v =
      2 ^ lo * (2 ^ (hi - lo + 1) * (x / 2 ^ lo / 2 ^ (hi - lo + 1)) + v % 2 ^ (hi - lo + 1)) + x % 2 ^ lo := by
  simp only [withBits, bitsOf, Nat.shiftRight_eq_div_pow]
  have e : 2 ^ lo * (x / 2 ^ lo) + x % 2 ^ lo = x := Nat.div_add_mod _ _
  have e2 := Nat.div_add_mod (x / 2 ^ lo) (2 ^ (hi - lo + 1))
  generalize 2 ^ (hi - lo + 1) = w at *
  generalize hq : x / 2 ^ lo = q at *
  generalize x % 2 ^ lo = m at *
  generalize 2 ^ lo = p at *
  generalize q % w = r at *
  generalize q / w = t at *
  generalize v % w = u at *
  have e3 : x = p * (w * t) + r * p + m := by rw [← e, ← e2, Nat.mul_add, Nat.mul_comm r p]
  have e4 : p * (w * t + u) = p * (w * t) + u * p := by rw [Nat.mul_add, Nat.mul_comm u p]
  omega

/-- The bits of a number with some bits replaced. -/
theorem testBit_withBits (x hi lo v k : Nat) (h : lo ≤ hi) :
    (withBits x hi lo v).testBit k = if lo ≤ k ∧ k ≤ hi then v.testBit (k - lo) else x.testBit k := by
  rw [withBits_eq, Nat.testBit_two_pow_mul_add _ (Nat.mod_lt _ (Nat.two_pow_pos _))]
  split
  · rename_i hk
    rw [if_neg (by omega), Nat.testBit_mod_two_pow]
    simp [hk]
  · rename_i hk
    rw [Nat.testBit_two_pow_mul_add _ (Nat.mod_lt _ (Nat.two_pow_pos _))]
    split
    · rename_i hk2
      rw [if_pos (by omega), Nat.testBit_mod_two_pow]
      simp [hk2]
    · rename_i hk2
      rw [if_neg (by omega), Nat.testBit_div_two_pow, Nat.testBit_div_two_pow]
      congr 1
      omega

/-- The bits of a part of a number. -/
theorem testBit_bitsOf (x hi lo k : Nat) : (bitsOf x hi lo).testBit k = (decide (k < hi - lo + 1) && x.testBit (k + lo)) := by
  simp only [bitsOf, Nat.testBit_mod_two_pow, Nat.testBit_shiftRight, Nat.add_comm lo k]

/-- A part of a number that was put there. -/
theorem bitsOf_withBits (x hi lo v : Nat) (h : lo ≤ hi) : bitsOf (withBits x hi lo v) hi lo = v % 2 ^ (hi - lo + 1) := by
  apply Nat.eq_of_testBit_eq
  intro k
  rw [testBit_bitsOf, testBit_withBits _ _ _ _ _ h, Nat.testBit_mod_two_pow]
  by_cases hk : k < hi - lo + 1
  · rw [if_pos (by omega)]; simp [hk]
  · simp [hk]

/-- A part of a number apart from the bits replaced. -/
theorem bitsOf_withBits_ne (x hi lo v hi' lo' : Nat) (h : lo ≤ hi) (h' : lo' ≤ hi') (ha : hi < lo' ∨ hi' < lo) :
    bitsOf (withBits x hi lo v) hi' lo' = bitsOf x hi' lo' := by
  apply Nat.eq_of_testBit_eq
  intro k
  rw [testBit_bitsOf, testBit_bitsOf, testBit_withBits _ _ _ _ _ h]
  by_cases hk : k < hi' - lo' + 1
  · rw [if_neg (by omega)]
  · simp [hk]

/-- Bits within a word stay within it. -/
theorem withBits_lt (x hi lo v n : Nat) (hx : x < 2 ^ n) (h : lo ≤ hi) (hn : hi < n) : withBits x hi lo v < 2 ^ n := by
  apply Nat.lt_pow_two_of_testBit
  intro k hk
  rw [testBit_withBits _ _ _ _ _ h, if_neg (by omega)]
  exact Nat.testBit_lt_two_pow (Nat.lt_of_lt_of_le hx (Nat.pow_le_pow_right (by omega) hk))

/-- A field that was set reads as set. -/
theorem fld_setFld_same (f : Fld) (i v : Nat) (d : Dev) (h : f.lo ≤ f.hi) (h' : f.hi < 48) :
    fld (setFld f i v d) f i = v % 2 ^ (f.hi - f.lo + 1) := by
  simp only [fld, setFld, reg_setReg_same, BitVec.toNat_ofNat]
  rw [Nat.mod_eq_of_lt (withBits_lt _ _ _ _ 48 (reg d f.reg i).isLt h h'), bitsOf_withBits _ _ _ _ h]

/-- Another field of the same register reads as before. -/
theorem fld_setFld_apart (f g : Fld) (i v : Nat) (d : Dev) (hr : g.reg = f.reg) (h : f.lo ≤ f.hi) (h' : f.hi < 48)
    (hg : g.lo ≤ g.hi) (ha : f.hi < g.lo ∨ g.hi < f.lo) : fld (setFld f i v d) g i = fld d g i := by
  simp only [fld, setFld, hr, reg_setReg_same, BitVec.toNat_ofNat]
  rw [Nat.mod_eq_of_lt (withBits_lt _ _ _ _ 48 (reg d f.reg i).isLt h h'), bitsOf_withBits_ne _ _ _ _ _ _ h hg ha]

/-- A field of another register reads as before. -/
theorem fld_setFld_ne (f g : Fld) (i j v : Nat) (d : Dev) (hr : g.reg ≠ f.reg) (hi : i < (regPlace f.reg).2.2)
    (hj : j < (regPlace g.reg).2.2) : fld (setFld f i v d) g j = fld d g j := by
  simp only [fld, setFld]
  rw [reg_setReg_ne hr _ _ hi hj]

/-- A field of a register that another register's setting leaves. -/
theorem fld_setReg_ne (r : Reg) (g : Fld) (i j : Nat) (v : Word) (d : Dev) (hr : g.reg ≠ r) (hi : i < (regPlace r).2.2)
    (hj : j < (regPlace g.reg).2.2) : fld (setReg r i v d) g j = fld d g j := by
  simp only [fld]
  rw [reg_setReg_ne hr _ _ hi hj]

end Sys2Proof.Laws
end

