-- ==== Sys2Proof/Laws/Frame.lean ====
section
/-!
SUPPORT. Laws/Frame.lean: how frames compose, and the frame of each shared operation: what it may change at all.
-/

namespace Sys2Proof.Laws

open Sys2Proof.Machine

/-! ## Composition -/

theorem Only_refl (ps : List Piece) (a : Dev) : Only ps a a := fun p _ => by cases p <;> rfl

theorem same_trans {a b c : Dev} {p : Piece} (h : p.same a b) (k : p.same b c) : p.same a c := by
  cases p <;> exact Eq.trans k h

theorem Only_trans {ps qs : List Piece} {a b c : Dev} (h : Only ps a b) (k : Only qs b c) : Only (ps ++ qs) a c :=
  fun p hp => by
    simp only [List.mem_append, not_or] at hp
    exact same_trans (h p hp.1) (k p hp.2)

theorem Only_mono {ps qs : List Piece} {a b : Dev} (h : Only ps a b) (s : ∀ p ∈ ps, p ∈ qs) : Only qs a b :=
  fun p hp => h p (fun m => hp (s p m))

theorem KeepRegs_refl (rs : List Reg) (a : Dev) : KeepRegs rs a a := fun _ _ _ _ => rfl

theorem KeepRegs_trans {rs qs : List Reg} {a b c : Dev} (h : KeepRegs rs a b) (k : KeepRegs qs b c) :
    KeepRegs (rs ++ qs) a c := fun r i hr hi => by
  simp only [List.mem_append, not_or] at hr
  exact (k r i hr.2 hi).trans (h r i hr.1 hi)

theorem KeepRegs_mono {rs qs : List Reg} {a b : Dev} (h : KeepRegs rs a b) (s : ∀ r ∈ rs, r ∈ qs) : KeepRegs qs a b :=
  fun r i hr hi => h r i (fun m => hr (s r m)) hi

/-- A device whose registers are untouched keeps them all. -/
theorem KeepRegs_of_eq {rs : List Reg} {a b : Dev} (h : b.regs = a.regs) : KeepRegs rs a b :=
  fun r i _ _ => by simp only [reg, h]

theorem Frame_refl (ps : List Piece) (rs : List Reg) (a : Dev) : Frame ps rs a a := ⟨Only_refl ps a, KeepRegs_refl rs a⟩

theorem Frame_trans {ps qs : List Piece} {rs ts : List Reg} {a b c : Dev} (h : Frame ps rs a b) (k : Frame qs ts b c) :
    Frame (ps ++ qs) (rs ++ ts) a c := ⟨Only_trans h.1 k.1, KeepRegs_trans h.2 k.2⟩

theorem Frame_mono {ps qs : List Piece} {rs ts : List Reg} {a b : Dev} (h : Frame ps rs a b) (s : ∀ p ∈ ps, p ∈ qs)
    (t : ∀ r ∈ rs, r ∈ ts) : Frame qs ts a b := ⟨Only_mono h.1 s, KeepRegs_mono h.2 t⟩

/-- Two steps within one frame. -/
theorem Frame_step {ps : List Piece} {rs : List Reg} {a b c : Dev} (h : Frame ps rs a b) (k : Frame ps rs b c) :
    Frame ps rs a c :=
  Frame_mono (Frame_trans h k) (by simp) (by simp)

/-- A fold whose every step stays within a frame. -/
theorem Frame_foldl {β : Type} {ps : List Piece} {rs : List Reg} (f : Dev → β → Dev) (h : ∀ d x, Frame ps rs d (f d x)) :
    ∀ (l : List β) (d : Dev), Frame ps rs d (l.foldl f d)
  | [], d => Frame_refl ps rs d
  | x :: l, d => Frame_step (h d x) (Frame_foldl f h l (f d x))

/-- A fold over listed elements whose every step stays within a frame. -/
theorem Frame_foldl_mem {β : Type} {ps : List Piece} {rs : List Reg} (f : Dev → β → Dev) :
    ∀ (l : List β), (∀ x ∈ l, ∀ d, Frame ps rs d (f d x)) → ∀ (d : Dev), Frame ps rs d (l.foldl f d)
  | [], _, d => Frame_refl ps rs d
  | x :: l, h, d =>
    Frame_step (h x (List.mem_cons_self) d)
      (Frame_foldl_mem f l (fun y hy => h y (List.mem_cons_of_mem _ hy)) (f d x))

/-- A choice between two devices within a frame. -/
theorem Frame_ite {ps : List Piece} {rs : List Reg} {a b c : Dev} (p : Prop) [Decidable p] (h : Frame ps rs a b)
    (k : Frame ps rs a c) : Frame ps rs a (if p then b else c) := by
  split
  · exact h
  · exact k

/-! ## Shared operations -/

theorem frame_setReg (r : Reg) (i : Nat) (v : Word) (d : Dev) (hi : i < (regPlace r).2.2) :
    Frame [.regs] [r] d (setReg r i v d) := by
  refine ⟨fun p hp => ?_, fun r' j hr hj => reg_setReg_ne (by simpa using hr) v d hi hj⟩
  cases p <;> first | rfl | (exact absurd (by simp) hp)

theorem frame_setFld (f : Fld) (i v : Nat) (d : Dev) (hi : i < (regPlace f.reg).2.2) :
    Frame [.regs] [f.reg] d (setFld f i v d) := frame_setReg _ _ _ _ hi

theorem frame_emit (e : Emission) (d : Dev) : Frame [.emitted] [] d (emit e d) :=
  ⟨fun p hp => by cases p <;> first | rfl | (exact absurd (by simp) hp), KeepRegs_of_eq rfl⟩

theorem frame_signal (v : Nat) (d : Dev) : Frame [.host, .emitted] [] d (signal v d) := by
  refine ⟨fun p hp => ?_, ?_⟩
  · simp only [signal]
    split
    · exact (frame_emit _ d).1 p (fun m => hp (by simp only [List.mem_singleton] at m; simp [m]))
    · split
      · cases p <;> rfl
      · cases p <;> first | rfl | (exact absurd (by simp) hp)
  · refine KeepRegs_of_eq ?_
    simp only [signal]
    split
    · rfl
    · split <;> rfl

theorem frame_raise (f : Fld) (i : Nat) (d : Dev) (hi : i < (regPlace f.reg).2.2) :
    Frame [.regs, .host, .emitted] [f.reg] d (raise f i d) := by
  have h := frame_setFld f i 1 d hi
  simp only [raise]
  split
  · exact Frame_mono (Frame_trans h (frame_signal 0 _)) (by simp) (by simp)
  · exact Frame_mono h (by simp) (by simp)

theorem frame_raiseIf (c : Bool) (f : Fld) (i : Nat) (d : Dev) (hi : i < (regPlace f.reg).2.2) :
    Frame [.regs, .host, .emitted] [f.reg] d (raiseIf c f i d) := by
  simp only [raiseIf]
  split
  · exact frame_raise f i d hi
  · exact Frame_refl _ _ d

theorem frame_selWrap (k : Nat) (d : Dev) (hk : k < 64) :
    Frame [.cnt, .regs, .host, .emitted] [.scCfg, .cnEvent] d (selWrap k d) :=
  Frame_mono (Frame_trans (frame_setFld fSC_CFG_WRAP k 1 d hk) (frame_raise fCN_EVENT_WRAP 0 _ (by decide)))
    (by simp) (by simp)

theorem frame_selAdd (k n : Nat) (d : Dev) (hk : k < 64) :
    Frame [.cnt, .regs, .host, .emitted] [.scCfg, .cnEvent] d (selAdd k n d) := by
  have c : ∀ (d : Dev) (k v : Nat), Frame [.cnt, .regs, .host, .emitted] [.scCfg, .cnEvent] d (selPut k v d) := fun d k v =>
    ⟨fun p hp => by cases p <;> first | rfl | (exact absurd (by simp) hp), KeepRegs_of_eq rfl⟩
  simp only [selAdd]
  split
  · exact c d _ _
  · split
    · rename_i h
      have hk1 : k + 1 < 64 := by omega
      split
      · exact Frame_step (Frame_step (c d _ _) (frame_selWrap k _ hk)) (c _ _ _)
      · exact Frame_step (Frame_step (Frame_step (c d _ _) (frame_selWrap k _ hk)) (c _ _ _)) (frame_selWrap (k + 1) _ hk1)
    · exact Frame_step (c d _ _) (frame_selWrap k _ hk)

theorem frame_selFeed (src : Nat → Bool) (n m : Nat) (d : Dev) :
    Frame [.cnt, .regs, .host, .emitted] [.scCfg, .cnEvent] d (selFeed src n m d) := by
  simp only [selFeed]
  refine Frame_foldl_mem _ _ (fun k hk d => ?_) d
  split
  · exact frame_selAdd k _ d (by simpa using hk)
  · exact Frame_refl _ _ d

theorem frame_wrapFlag (c : CName) (scope : Nat) (d : Dev) :
    Frame [.regs] [.cnWrap] d (wrapFlag (counterNumber (cnameIndex c) scope) d) := by
  cases h : counterNumber (cnameIndex c) scope with
  | none => exact Frame_refl _ _ d
  | some n =>
    rw [counterNumber] at h
    have hn := List.mem_range.1 (List.mem_of_find?_eq_some h)
    exact frame_setReg .cnWrap _ _ d (by rw [show (regPlace .cnWrap).2.2 = 2560 from rfl]; omega)

theorem frame_countN (c : CName) (scope n : Nat) (d : Dev) : Frame countPieces countRegs d (countN c scope n d) := by
  have s : ∀ (d : Dev) (x : CounterSt), Frame countPieces countRegs d { d with cnt := x } := fun d x =>
    ⟨fun p hp => by cases p <;> first | rfl | (exact absurd (by simp [countPieces]) hp), KeepRegs_of_eq rfl⟩
  have f : ∀ (d : Dev) (q : Nat → Bool) (m : Nat), Frame countPieces countRegs d (selFeed q n m d) := fun d q m =>
    Frame_mono (frame_selFeed q n m d) (by simp [countPieces]) (by simp [countRegs])
  have wf : ∀ (d : Dev), Frame countPieces countRegs d
      (raise fCN_EVENT_WRAP 0 (wrapFlag (counterNumber (cnameIndex c) scope) d)) := fun d =>
    Frame_mono (Frame_trans (frame_wrapFlag c scope d) (frame_raise fCN_EVENT_WRAP 0 _ (by decide)))
      (by simp [countPieces]) (by simp [countRegs])
  simp only [countN]
  split
  · exact Frame_refl _ _ d
  · split
    · split
      · exact Frame_step (s d _) (f _ _ _)
      · exact s d _
    · split
      · exact Frame_step (Frame_step (s d _) (f _ _ _)) (wf _)
      · exact Frame_step (s d _) (wf _)

theorem frame_count (c : CName) (scope : Nat) (d : Dev) : Frame countPieces countRegs d (count c scope d) :=
  frame_countN c scope 1 d

theorem frame_tick (t : Time) (d : Dev) : Frame timePieces timeRegs d (tick t d) := by
  have s : Frame timePieces timeRegs d { d with now := max d.now t } :=
    ⟨fun p hp => by cases p <;> first | rfl | (exact absurd (by simp [timePieces]) hp), KeepRegs_of_eq rfl⟩
  have f : ∀ (d : Dev) (q : Nat → Bool) (n m : Nat), Frame timePieces timeRegs d (selFeed q n m d) := fun d q n m =>
    Frame_mono (frame_selFeed q n m d) (by simp [timePieces]) (by simp [timeRegs])
  simp only [tick]
  split
  · split
    · exact Frame_step s (Frame_ite _ (f _ _ _ _) (Frame_refl _ _ _))
    · exact Frame_step (Frame_step s (Frame_ite _ (f _ _ _ _) (Frame_refl _ _ _))) (f _ _ _ _)
  · exact s

end Sys2Proof.Laws
end

