-- ==== Sys2Proof/Laws/State.lean ====
section
/-!
SUPPORT. Laws/State.lean: for each shared operation and each piece of the state that it leaves, that it leaves it.
-/

namespace Sys2Proof.Laws

open Sys2Proof.Machine

/-! ## What a shared operation may change, whatever its operands -/

theorem only_setReg (r : Reg) (i : Nat) (v : Word) (d : Dev) : Only [.regs] d (setReg r i v d) := fun p hp => by
  cases p <;> first | rfl | (exact absurd (by simp) hp)

theorem only_setFld (f : Fld) (i v : Nat) (d : Dev) : Only [.regs] d (setFld f i v d) := only_setReg _ _ _ _

theorem only_raise (f : Fld) (i : Nat) (d : Dev) : Only [.regs, .host, .emitted] d (raise f i d) := by
  simp only [raise]
  split
  · exact Only_mono (Only_trans (only_setFld f i 1 d) (frame_signal 0 _).1) (by simp)
  · exact Only_mono (only_setFld f i 1 d) (by simp)

theorem only_raiseIf (c : Bool) (f : Fld) (i : Nat) (d : Dev) : Only [.regs, .host, .emitted] d (raiseIf c f i d) := by
  simp only [raiseIf]
  split
  · exact only_raise f i d
  · exact Only_refl _ d

theorem only_setPd (n v : Nat) (d : Dev) : Only [.regs] d (setPd n v d) := by
  simp only [setPd]
  split <;> exact only_setReg _ _ _ _

theorem only_setDrawer (n : Nat) (w : Drawer) (d : Dev) : Only [.host] d (setDrawer n w d) := fun p hp => by
  cases p <;> first | rfl | (exact absurd (by simp) hp)

theorem only_levelCheck (n : Nat) (d : Dev) : Only [.host, .emitted] d (levelCheck n d) := by
  have s : ∀ w d, Only [.host, .emitted] d (setDrawer n w d) := fun w d => Only_mono (only_setDrawer n w d) (by simp)
  simp only [levelCheck]
  split
  · exact Only_refl _ d
  · split
    · exact s _ d
    · split
      · split
        · exact s _ d
        · exact Only_mono (Only_trans (s _ d) (frame_signal _ _).1) (by simp)
      · exact Only_refl _ d

theorem only_post (n : Nat) (item : List Word) (d : Dev) : Only countPieces d (post n item d) := by
  have s : ∀ w d, Only countPieces d (setDrawer n w d) := fun w d => Only_mono (only_setDrawer n w d) (by simp [countPieces])
  have l : ∀ d, Only countPieces d (levelCheck n d) := fun d => Only_mono (only_levelCheck n d) (by simp [countPieces])
  simp only [post]
  split
  · exact (frame_count _ _ _).1
  · exact Only_mono (Only_trans (Only_trans (s _ d) (frame_count _ _ _).1) (l _)) (by simp)

/-! ## Piece by piece -/

@[simp] theorem emit_part (e : Emission) (d : Dev) : (emit e d).part = d.part := rfl
@[simp] theorem emit_now (e : Emission) (d : Dev) : (emit e d).now = d.now := rfl
@[simp] theorem emit_freeCtr (e : Emission) (d : Dev) : (emit e d).freeCtr = d.freeCtr := rfl
@[simp] theorem emit_porstLow (e : Emission) (d : Dev) : (emit e d).porstLow = d.porstLow := rfl
@[simp] theorem emit_regs (e : Emission) (d : Dev) : (emit e d).regs = d.regs := rfl
@[simp] theorem emit_dict (e : Emission) (d : Dev) : (emit e d).dict = d.dict := rfl
@[simp] theorem emit_cnt (e : Emission) (d : Dev) : (emit e d).cnt = d.cnt := rfl
@[simp] theorem emit_host (e : Emission) (d : Dev) : (emit e d).host = d.host := rfl
@[simp] theorem emit_cab (e : Emission) (d : Dev) : (emit e d).cab = d.cab := rfl
@[simp] theorem emit_mon (e : Emission) (d : Dev) : (emit e d).mon = d.mon := rfl
@[simp] theorem emit_chans (e : Emission) (d : Dev) : (emit e d).chans = d.chans := rfl
@[simp] theorem emit_prot (e : Emission) (d : Dev) : (emit e d).prot = d.prot := rfl
@[simp] theorem emit_lanes (e : Emission) (d : Dev) : (emit e d).lanes = d.lanes := rfl
@[simp] theorem emit_ports (e : Emission) (d : Dev) : (emit e d).ports = d.ports := rfl
@[simp] theorem emit_bond (e : Emission) (d : Dev) : (emit e d).bond = d.bond := rfl
@[simp] theorem emit_cipher (e : Emission) (d : Dev) : (emit e d).cipher = d.cipher := rfl
@[simp] theorem emit_act (e : Emission) (d : Dev) : (emit e d).act = d.act := rfl
@[simp] theorem emit_fs (e : Emission) (d : Dev) : (emit e d).fs = d.fs := rfl
@[simp] theorem emit_up (e : Emission) (d : Dev) : (emit e d).up = d.up := rfl
@[simp] theorem emit_lc (e : Emission) (d : Dev) : (emit e d).lc = d.lc := rfl
@[simp] theorem emit_tm (e : Emission) (d : Dev) : (emit e d).tm = d.tm := rfl
@[simp] theorem emit_cls (e : Emission) (d : Dev) : (emit e d).cls = d.cls := rfl
@[simp] theorem emit_fwd (e : Emission) (d : Dev) : (emit e d).fwd = d.fwd := rfl
@[simp] theorem emit_sb (e : Emission) (d : Dev) : (emit e d).sb = d.sb := rfl
@[simp] theorem emit_mc (e : Emission) (d : Dev) : (emit e d).mc = d.mc := rfl
@[simp] theorem emit_sec (e : Emission) (d : Dev) : (emit e d).sec = d.sec := rfl
@[simp] theorem emit_pwr (e : Emission) (d : Dev) : (emit e d).pwr = d.pwr := rfl
@[simp] theorem emit_trib (e : Emission) (d : Dev) : (emit e d).trib = d.trib := rfl
@[simp] theorem emit_dic (e : Emission) (d : Dev) : (emit e d).dic = d.dic := rfl
@[simp] theorem emit_img (e : Emission) (d : Dev) : (emit e d).img = d.img := rfl
@[simp] theorem emit_boot (e : Emission) (d : Dev) : (emit e d).boot = d.boot := rfl

@[simp] theorem emit_emitted (e : Emission) (d : Dev) : (emit e d).emitted = e :: d.emitted := rfl

@[simp] theorem setReg_part (r : Reg) (i : Nat) (v : Word) (d : Dev) : (setReg r i v d).part = d.part := rfl
@[simp] theorem setReg_now (r : Reg) (i : Nat) (v : Word) (d : Dev) : (setReg r i v d).now = d.now := rfl
@[simp] theorem setReg_freeCtr (r : Reg) (i : Nat) (v : Word) (d : Dev) : (setReg r i v d).freeCtr = d.freeCtr := rfl
@[simp] theorem setReg_emitted (r : Reg) (i : Nat) (v : Word) (d : Dev) : (setReg r i v d).emitted = d.emitted := rfl
@[simp] theorem setReg_porstLow (r : Reg) (i : Nat) (v : Word) (d : Dev) : (setReg r i v d).porstLow = d.porstLow := rfl
@[simp] theorem setReg_dict (r : Reg) (i : Nat) (v : Word) (d : Dev) : (setReg r i v d).dict = d.dict := rfl
@[simp] theorem setReg_cnt (r : Reg) (i : Nat) (v : Word) (d : Dev) : (setReg r i v d).cnt = d.cnt := rfl
@[simp] theorem setReg_host (r : Reg) (i : Nat) (v : Word) (d : Dev) : (setReg r i v d).host = d.host := rfl
@[simp] theorem setReg_cab (r : Reg) (i : Nat) (v : Word) (d : Dev) : (setReg r i v d).cab = d.cab := rfl
@[simp] theorem setReg_mon (r : Reg) (i : Nat) (v : Word) (d : Dev) : (setReg r i v d).mon = d.mon := rfl
@[simp] theorem setReg_chans (r : Reg) (i : Nat) (v : Word) (d : Dev) : (setReg r i v d).chans = d.chans := rfl
@[simp] theorem setReg_prot (r : Reg) (i : Nat) (v : Word) (d : Dev) : (setReg r i v d).prot = d.prot := rfl
@[simp] theorem setReg_lanes (r : Reg) (i : Nat) (v : Word) (d : Dev) : (setReg r i v d).lanes = d.lanes := rfl
@[simp] theorem setReg_ports (r : Reg) (i : Nat) (v : Word) (d : Dev) : (setReg r i v d).ports = d.ports := rfl
@[simp] theorem setReg_bond (r : Reg) (i : Nat) (v : Word) (d : Dev) : (setReg r i v d).bond = d.bond := rfl
@[simp] theorem setReg_cipher (r : Reg) (i : Nat) (v : Word) (d : Dev) : (setReg r i v d).cipher = d.cipher := rfl
@[simp] theorem setReg_act (r : Reg) (i : Nat) (v : Word) (d : Dev) : (setReg r i v d).act = d.act := rfl
@[simp] theorem setReg_fs (r : Reg) (i : Nat) (v : Word) (d : Dev) : (setReg r i v d).fs = d.fs := rfl
@[simp] theorem setReg_up (r : Reg) (i : Nat) (v : Word) (d : Dev) : (setReg r i v d).up = d.up := rfl
@[simp] theorem setReg_lc (r : Reg) (i : Nat) (v : Word) (d : Dev) : (setReg r i v d).lc = d.lc := rfl
@[simp] theorem setReg_tm (r : Reg) (i : Nat) (v : Word) (d : Dev) : (setReg r i v d).tm = d.tm := rfl
@[simp] theorem setReg_cls (r : Reg) (i : Nat) (v : Word) (d : Dev) : (setReg r i v d).cls = d.cls := rfl
@[simp] theorem setReg_fwd (r : Reg) (i : Nat) (v : Word) (d : Dev) : (setReg r i v d).fwd = d.fwd := rfl
@[simp] theorem setReg_sb (r : Reg) (i : Nat) (v : Word) (d : Dev) : (setReg r i v d).sb = d.sb := rfl
@[simp] theorem setReg_mc (r : Reg) (i : Nat) (v : Word) (d : Dev) : (setReg r i v d).mc = d.mc := rfl
@[simp] theorem setReg_sec (r : Reg) (i : Nat) (v : Word) (d : Dev) : (setReg r i v d).sec = d.sec := rfl
@[simp] theorem setReg_pwr (r : Reg) (i : Nat) (v : Word) (d : Dev) : (setReg r i v d).pwr = d.pwr := rfl
@[simp] theorem setReg_trib (r : Reg) (i : Nat) (v : Word) (d : Dev) : (setReg r i v d).trib = d.trib := rfl
@[simp] theorem setReg_dic (r : Reg) (i : Nat) (v : Word) (d : Dev) : (setReg r i v d).dic = d.dic := rfl
@[simp] theorem setReg_img (r : Reg) (i : Nat) (v : Word) (d : Dev) : (setReg r i v d).img = d.img := rfl
@[simp] theorem setReg_boot (r : Reg) (i : Nat) (v : Word) (d : Dev) : (setReg r i v d).boot = d.boot := rfl

@[simp] theorem setFld_part (f : Fld) (i v : Nat) (d : Dev) : (setFld f i v d).part = d.part := rfl
@[simp] theorem setFld_now (f : Fld) (i v : Nat) (d : Dev) : (setFld f i v d).now = d.now := rfl
@[simp] theorem setFld_freeCtr (f : Fld) (i v : Nat) (d : Dev) : (setFld f i v d).freeCtr = d.freeCtr := rfl
@[simp] theorem setFld_emitted (f : Fld) (i v : Nat) (d : Dev) : (setFld f i v d).emitted = d.emitted := rfl
@[simp] theorem setFld_porstLow (f : Fld) (i v : Nat) (d : Dev) : (setFld f i v d).porstLow = d.porstLow := rfl
@[simp] theorem setFld_dict (f : Fld) (i v : Nat) (d : Dev) : (setFld f i v d).dict = d.dict := rfl
@[simp] theorem setFld_cnt (f : Fld) (i v : Nat) (d : Dev) : (setFld f i v d).cnt = d.cnt := rfl
@[simp] theorem setFld_host (f : Fld) (i v : Nat) (d : Dev) : (setFld f i v d).host = d.host := rfl
@[simp] theorem setFld_cab (f : Fld) (i v : Nat) (d : Dev) : (setFld f i v d).cab = d.cab := rfl
@[simp] theorem setFld_mon (f : Fld) (i v : Nat) (d : Dev) : (setFld f i v d).mon = d.mon := rfl
@[simp] theorem setFld_chans (f : Fld) (i v : Nat) (d : Dev) : (setFld f i v d).chans = d.chans := rfl
@[simp] theorem setFld_prot (f : Fld) (i v : Nat) (d : Dev) : (setFld f i v d).prot = d.prot := rfl
@[simp] theorem setFld_lanes (f : Fld) (i v : Nat) (d : Dev) : (setFld f i v d).lanes = d.lanes := rfl
@[simp] theorem setFld_ports (f : Fld) (i v : Nat) (d : Dev) : (setFld f i v d).ports = d.ports := rfl
@[simp] theorem setFld_bond (f : Fld) (i v : Nat) (d : Dev) : (setFld f i v d).bond = d.bond := rfl
@[simp] theorem setFld_cipher (f : Fld) (i v : Nat) (d : Dev) : (setFld f i v d).cipher = d.cipher := rfl
@[simp] theorem setFld_act (f : Fld) (i v : Nat) (d : Dev) : (setFld f i v d).act = d.act := rfl
@[simp] theorem setFld_fs (f : Fld) (i v : Nat) (d : Dev) : (setFld f i v d).fs = d.fs := rfl
@[simp] theorem setFld_up (f : Fld) (i v : Nat) (d : Dev) : (setFld f i v d).up = d.up := rfl
@[simp] theorem setFld_lc (f : Fld) (i v : Nat) (d : Dev) : (setFld f i v d).lc = d.lc := rfl
@[simp] theorem setFld_tm (f : Fld) (i v : Nat) (d : Dev) : (setFld f i v d).tm = d.tm := rfl
@[simp] theorem setFld_cls (f : Fld) (i v : Nat) (d : Dev) : (setFld f i v d).cls = d.cls := rfl
@[simp] theorem setFld_fwd (f : Fld) (i v : Nat) (d : Dev) : (setFld f i v d).fwd = d.fwd := rfl
@[simp] theorem setFld_sb (f : Fld) (i v : Nat) (d : Dev) : (setFld f i v d).sb = d.sb := rfl
@[simp] theorem setFld_mc (f : Fld) (i v : Nat) (d : Dev) : (setFld f i v d).mc = d.mc := rfl
@[simp] theorem setFld_sec (f : Fld) (i v : Nat) (d : Dev) : (setFld f i v d).sec = d.sec := rfl
@[simp] theorem setFld_pwr (f : Fld) (i v : Nat) (d : Dev) : (setFld f i v d).pwr = d.pwr := rfl
@[simp] theorem setFld_trib (f : Fld) (i v : Nat) (d : Dev) : (setFld f i v d).trib = d.trib := rfl
@[simp] theorem setFld_dic (f : Fld) (i v : Nat) (d : Dev) : (setFld f i v d).dic = d.dic := rfl
@[simp] theorem setFld_img (f : Fld) (i v : Nat) (d : Dev) : (setFld f i v d).img = d.img := rfl
@[simp] theorem setFld_boot (f : Fld) (i v : Nat) (d : Dev) : (setFld f i v d).boot = d.boot := rfl

@[simp] theorem modChan_part (n : Nat) (f : Chan → Chan) (d : Dev) : (modChan n f d).part = d.part := rfl
@[simp] theorem modChan_now (n : Nat) (f : Chan → Chan) (d : Dev) : (modChan n f d).now = d.now := rfl
@[simp] theorem modChan_freeCtr (n : Nat) (f : Chan → Chan) (d : Dev) : (modChan n f d).freeCtr = d.freeCtr := rfl
@[simp] theorem modChan_emitted (n : Nat) (f : Chan → Chan) (d : Dev) : (modChan n f d).emitted = d.emitted := rfl
@[simp] theorem modChan_porstLow (n : Nat) (f : Chan → Chan) (d : Dev) : (modChan n f d).porstLow = d.porstLow := rfl
@[simp] theorem modChan_regs (n : Nat) (f : Chan → Chan) (d : Dev) : (modChan n f d).regs = d.regs := rfl
@[simp] theorem modChan_dict (n : Nat) (f : Chan → Chan) (d : Dev) : (modChan n f d).dict = d.dict := rfl
@[simp] theorem modChan_cnt (n : Nat) (f : Chan → Chan) (d : Dev) : (modChan n f d).cnt = d.cnt := rfl
@[simp] theorem modChan_host (n : Nat) (f : Chan → Chan) (d : Dev) : (modChan n f d).host = d.host := rfl
@[simp] theorem modChan_cab (n : Nat) (f : Chan → Chan) (d : Dev) : (modChan n f d).cab = d.cab := rfl
@[simp] theorem modChan_mon (n : Nat) (f : Chan → Chan) (d : Dev) : (modChan n f d).mon = d.mon := rfl
@[simp] theorem modChan_prot (n : Nat) (f : Chan → Chan) (d : Dev) : (modChan n f d).prot = d.prot := rfl
@[simp] theorem modChan_lanes (n : Nat) (f : Chan → Chan) (d : Dev) : (modChan n f d).lanes = d.lanes := rfl
@[simp] theorem modChan_ports (n : Nat) (f : Chan → Chan) (d : Dev) : (modChan n f d).ports = d.ports := rfl
@[simp] theorem modChan_bond (n : Nat) (f : Chan → Chan) (d : Dev) : (modChan n f d).bond = d.bond := rfl
@[simp] theorem modChan_cipher (n : Nat) (f : Chan → Chan) (d : Dev) : (modChan n f d).cipher = d.cipher := rfl
@[simp] theorem modChan_act (n : Nat) (f : Chan → Chan) (d : Dev) : (modChan n f d).act = d.act := rfl
@[simp] theorem modChan_fs (n : Nat) (f : Chan → Chan) (d : Dev) : (modChan n f d).fs = d.fs := rfl
@[simp] theorem modChan_up (n : Nat) (f : Chan → Chan) (d : Dev) : (modChan n f d).up = d.up := rfl
@[simp] theorem modChan_lc (n : Nat) (f : Chan → Chan) (d : Dev) : (modChan n f d).lc = d.lc := rfl
@[simp] theorem modChan_tm (n : Nat) (f : Chan → Chan) (d : Dev) : (modChan n f d).tm = d.tm := rfl
@[simp] theorem modChan_cls (n : Nat) (f : Chan → Chan) (d : Dev) : (modChan n f d).cls = d.cls := rfl
@[simp] theorem modChan_fwd (n : Nat) (f : Chan → Chan) (d : Dev) : (modChan n f d).fwd = d.fwd := rfl
@[simp] theorem modChan_sb (n : Nat) (f : Chan → Chan) (d : Dev) : (modChan n f d).sb = d.sb := rfl
@[simp] theorem modChan_mc (n : Nat) (f : Chan → Chan) (d : Dev) : (modChan n f d).mc = d.mc := rfl
@[simp] theorem modChan_sec (n : Nat) (f : Chan → Chan) (d : Dev) : (modChan n f d).sec = d.sec := rfl
@[simp] theorem modChan_pwr (n : Nat) (f : Chan → Chan) (d : Dev) : (modChan n f d).pwr = d.pwr := rfl
@[simp] theorem modChan_trib (n : Nat) (f : Chan → Chan) (d : Dev) : (modChan n f d).trib = d.trib := rfl
@[simp] theorem modChan_dic (n : Nat) (f : Chan → Chan) (d : Dev) : (modChan n f d).dic = d.dic := rfl
@[simp] theorem modChan_img (n : Nat) (f : Chan → Chan) (d : Dev) : (modChan n f d).img = d.img := rfl
@[simp] theorem modChan_boot (n : Nat) (f : Chan → Chan) (d : Dev) : (modChan n f d).boot = d.boot := rfl

@[simp] theorem setDrawer_part (n : Nat) (w : Drawer) (d : Dev) : (setDrawer n w d).part = d.part := rfl
@[simp] theorem setDrawer_now (n : Nat) (w : Drawer) (d : Dev) : (setDrawer n w d).now = d.now := rfl
@[simp] theorem setDrawer_freeCtr (n : Nat) (w : Drawer) (d : Dev) : (setDrawer n w d).freeCtr = d.freeCtr := rfl
@[simp] theorem setDrawer_emitted (n : Nat) (w : Drawer) (d : Dev) : (setDrawer n w d).emitted = d.emitted := rfl
@[simp] theorem setDrawer_porstLow (n : Nat) (w : Drawer) (d : Dev) : (setDrawer n w d).porstLow = d.porstLow := rfl
@[simp] theorem setDrawer_regs (n : Nat) (w : Drawer) (d : Dev) : (setDrawer n w d).regs = d.regs := rfl
@[simp] theorem setDrawer_dict (n : Nat) (w : Drawer) (d : Dev) : (setDrawer n w d).dict = d.dict := rfl
@[simp] theorem setDrawer_cnt (n : Nat) (w : Drawer) (d : Dev) : (setDrawer n w d).cnt = d.cnt := rfl
@[simp] theorem setDrawer_cab (n : Nat) (w : Drawer) (d : Dev) : (setDrawer n w d).cab = d.cab := rfl
@[simp] theorem setDrawer_mon (n : Nat) (w : Drawer) (d : Dev) : (setDrawer n w d).mon = d.mon := rfl
@[simp] theorem setDrawer_chans (n : Nat) (w : Drawer) (d : Dev) : (setDrawer n w d).chans = d.chans := rfl
@[simp] theorem setDrawer_prot (n : Nat) (w : Drawer) (d : Dev) : (setDrawer n w d).prot = d.prot := rfl
@[simp] theorem setDrawer_lanes (n : Nat) (w : Drawer) (d : Dev) : (setDrawer n w d).lanes = d.lanes := rfl
@[simp] theorem setDrawer_ports (n : Nat) (w : Drawer) (d : Dev) : (setDrawer n w d).ports = d.ports := rfl
@[simp] theorem setDrawer_bond (n : Nat) (w : Drawer) (d : Dev) : (setDrawer n w d).bond = d.bond := rfl
@[simp] theorem setDrawer_cipher (n : Nat) (w : Drawer) (d : Dev) : (setDrawer n w d).cipher = d.cipher := rfl
@[simp] theorem setDrawer_act (n : Nat) (w : Drawer) (d : Dev) : (setDrawer n w d).act = d.act := rfl
@[simp] theorem setDrawer_fs (n : Nat) (w : Drawer) (d : Dev) : (setDrawer n w d).fs = d.fs := rfl
@[simp] theorem setDrawer_up (n : Nat) (w : Drawer) (d : Dev) : (setDrawer n w d).up = d.up := rfl
@[simp] theorem setDrawer_lc (n : Nat) (w : Drawer) (d : Dev) : (setDrawer n w d).lc = d.lc := rfl
@[simp] theorem setDrawer_tm (n : Nat) (w : Drawer) (d : Dev) : (setDrawer n w d).tm = d.tm := rfl
@[simp] theorem setDrawer_cls (n : Nat) (w : Drawer) (d : Dev) : (setDrawer n w d).cls = d.cls := rfl
@[simp] theorem setDrawer_fwd (n : Nat) (w : Drawer) (d : Dev) : (setDrawer n w d).fwd = d.fwd := rfl
@[simp] theorem setDrawer_sb (n : Nat) (w : Drawer) (d : Dev) : (setDrawer n w d).sb = d.sb := rfl
@[simp] theorem setDrawer_mc (n : Nat) (w : Drawer) (d : Dev) : (setDrawer n w d).mc = d.mc := rfl
@[simp] theorem setDrawer_sec (n : Nat) (w : Drawer) (d : Dev) : (setDrawer n w d).sec = d.sec := rfl
@[simp] theorem setDrawer_pwr (n : Nat) (w : Drawer) (d : Dev) : (setDrawer n w d).pwr = d.pwr := rfl
@[simp] theorem setDrawer_trib (n : Nat) (w : Drawer) (d : Dev) : (setDrawer n w d).trib = d.trib := rfl
@[simp] theorem setDrawer_dic (n : Nat) (w : Drawer) (d : Dev) : (setDrawer n w d).dic = d.dic := rfl
@[simp] theorem setDrawer_img (n : Nat) (w : Drawer) (d : Dev) : (setDrawer n w d).img = d.img := rfl
@[simp] theorem setDrawer_boot (n : Nat) (w : Drawer) (d : Dev) : (setDrawer n w d).boot = d.boot := rfl

@[simp] theorem nextFree_part (d : Dev) : ((nextFree d).2).part = d.part := rfl
@[simp] theorem nextFree_now (d : Dev) : ((nextFree d).2).now = d.now := rfl
@[simp] theorem nextFree_emitted (d : Dev) : ((nextFree d).2).emitted = d.emitted := rfl
@[simp] theorem nextFree_porstLow (d : Dev) : ((nextFree d).2).porstLow = d.porstLow := rfl
@[simp] theorem nextFree_regs (d : Dev) : ((nextFree d).2).regs = d.regs := rfl
@[simp] theorem nextFree_dict (d : Dev) : ((nextFree d).2).dict = d.dict := rfl
@[simp] theorem nextFree_cnt (d : Dev) : ((nextFree d).2).cnt = d.cnt := rfl
@[simp] theorem nextFree_host (d : Dev) : ((nextFree d).2).host = d.host := rfl
@[simp] theorem nextFree_cab (d : Dev) : ((nextFree d).2).cab = d.cab := rfl
@[simp] theorem nextFree_mon (d : Dev) : ((nextFree d).2).mon = d.mon := rfl
@[simp] theorem nextFree_chans (d : Dev) : ((nextFree d).2).chans = d.chans := rfl
@[simp] theorem nextFree_prot (d : Dev) : ((nextFree d).2).prot = d.prot := rfl
@[simp] theorem nextFree_lanes (d : Dev) : ((nextFree d).2).lanes = d.lanes := rfl
@[simp] theorem nextFree_ports (d : Dev) : ((nextFree d).2).ports = d.ports := rfl
@[simp] theorem nextFree_bond (d : Dev) : ((nextFree d).2).bond = d.bond := rfl
@[simp] theorem nextFree_cipher (d : Dev) : ((nextFree d).2).cipher = d.cipher := rfl
@[simp] theorem nextFree_act (d : Dev) : ((nextFree d).2).act = d.act := rfl
@[simp] theorem nextFree_fs (d : Dev) : ((nextFree d).2).fs = d.fs := rfl
@[simp] theorem nextFree_up (d : Dev) : ((nextFree d).2).up = d.up := rfl
@[simp] theorem nextFree_lc (d : Dev) : ((nextFree d).2).lc = d.lc := rfl
@[simp] theorem nextFree_tm (d : Dev) : ((nextFree d).2).tm = d.tm := rfl
@[simp] theorem nextFree_cls (d : Dev) : ((nextFree d).2).cls = d.cls := rfl
@[simp] theorem nextFree_fwd (d : Dev) : ((nextFree d).2).fwd = d.fwd := rfl
@[simp] theorem nextFree_sb (d : Dev) : ((nextFree d).2).sb = d.sb := rfl
@[simp] theorem nextFree_mc (d : Dev) : ((nextFree d).2).mc = d.mc := rfl
@[simp] theorem nextFree_sec (d : Dev) : ((nextFree d).2).sec = d.sec := rfl
@[simp] theorem nextFree_pwr (d : Dev) : ((nextFree d).2).pwr = d.pwr := rfl
@[simp] theorem nextFree_trib (d : Dev) : ((nextFree d).2).trib = d.trib := rfl
@[simp] theorem nextFree_dic (d : Dev) : ((nextFree d).2).dic = d.dic := rfl
@[simp] theorem nextFree_img (d : Dev) : ((nextFree d).2).img = d.img := rfl
@[simp] theorem nextFree_boot (d : Dev) : ((nextFree d).2).boot = d.boot := rfl

@[simp] theorem signal_part (v : Nat) (d : Dev) : (signal v d).part = d.part :=
  (frame_signal v d).1 .part (by decide)
@[simp] theorem signal_now (v : Nat) (d : Dev) : (signal v d).now = d.now :=
  (frame_signal v d).1 .now (by decide)
@[simp] theorem signal_freeCtr (v : Nat) (d : Dev) : (signal v d).freeCtr = d.freeCtr :=
  (frame_signal v d).1 .freeCtr (by decide)
@[simp] theorem signal_porstLow (v : Nat) (d : Dev) : (signal v d).porstLow = d.porstLow :=
  (frame_signal v d).1 .porstLow (by decide)
@[simp] theorem signal_regs (v : Nat) (d : Dev) : (signal v d).regs = d.regs :=
  (frame_signal v d).1 .regs (by decide)
@[simp] theorem signal_dict (v : Nat) (d : Dev) : (signal v d).dict = d.dict :=
  (frame_signal v d).1 .dict (by decide)
@[simp] theorem signal_cnt (v : Nat) (d : Dev) : (signal v d).cnt = d.cnt :=
  (frame_signal v d).1 .cnt (by decide)
@[simp] theorem signal_cab (v : Nat) (d : Dev) : (signal v d).cab = d.cab :=
  (frame_signal v d).1 .cab (by decide)
@[simp] theorem signal_mon (v : Nat) (d : Dev) : (signal v d).mon = d.mon :=
  (frame_signal v d).1 .mon (by decide)
@[simp] theorem signal_chans (v : Nat) (d : Dev) : (signal v d).chans = d.chans :=
  (frame_signal v d).1 .chans (by decide)
@[simp] theorem signal_prot (v : Nat) (d : Dev) : (signal v d).prot = d.prot :=
  (frame_signal v d).1 .prot (by decide)
@[simp] theorem signal_lanes (v : Nat) (d : Dev) : (signal v d).lanes = d.lanes :=
  (frame_signal v d).1 .lanes (by decide)
@[simp] theorem signal_ports (v : Nat) (d : Dev) : (signal v d).ports = d.ports :=
  (frame_signal v d).1 .ports (by decide)
@[simp] theorem signal_bond (v : Nat) (d : Dev) : (signal v d).bond = d.bond :=
  (frame_signal v d).1 .bond (by decide)
@[simp] theorem signal_cipher (v : Nat) (d : Dev) : (signal v d).cipher = d.cipher :=
  (frame_signal v d).1 .cipher (by decide)
@[simp] theorem signal_act (v : Nat) (d : Dev) : (signal v d).act = d.act :=
  (frame_signal v d).1 .act (by decide)
@[simp] theorem signal_fs (v : Nat) (d : Dev) : (signal v d).fs = d.fs :=
  (frame_signal v d).1 .fs (by decide)
@[simp] theorem signal_up (v : Nat) (d : Dev) : (signal v d).up = d.up :=
  (frame_signal v d).1 .up (by decide)
@[simp] theorem signal_lc (v : Nat) (d : Dev) : (signal v d).lc = d.lc :=
  (frame_signal v d).1 .lc (by decide)
@[simp] theorem signal_tm (v : Nat) (d : Dev) : (signal v d).tm = d.tm :=
  (frame_signal v d).1 .tm (by decide)
@[simp] theorem signal_cls (v : Nat) (d : Dev) : (signal v d).cls = d.cls :=
  (frame_signal v d).1 .cls (by decide)
@[simp] theorem signal_fwd (v : Nat) (d : Dev) : (signal v d).fwd = d.fwd :=
  (frame_signal v d).1 .fwd (by decide)
@[simp] theorem signal_sb (v : Nat) (d : Dev) : (signal v d).sb = d.sb :=
  (frame_signal v d).1 .sb (by decide)
@[simp] theorem signal_mc (v : Nat) (d : Dev) : (signal v d).mc = d.mc :=
  (frame_signal v d).1 .mc (by decide)
@[simp] theorem signal_sec (v : Nat) (d : Dev) : (signal v d).sec = d.sec :=
  (frame_signal v d).1 .sec (by decide)
@[simp] theorem signal_pwr (v : Nat) (d : Dev) : (signal v d).pwr = d.pwr :=
  (frame_signal v d).1 .pwr (by decide)
@[simp] theorem signal_trib (v : Nat) (d : Dev) : (signal v d).trib = d.trib :=
  (frame_signal v d).1 .trib (by decide)
@[simp] theorem signal_dic (v : Nat) (d : Dev) : (signal v d).dic = d.dic :=
  (frame_signal v d).1 .dic (by decide)
@[simp] theorem signal_img (v : Nat) (d : Dev) : (signal v d).img = d.img :=
  (frame_signal v d).1 .img (by decide)
@[simp] theorem signal_boot (v : Nat) (d : Dev) : (signal v d).boot = d.boot :=
  (frame_signal v d).1 .boot (by decide)

@[simp] theorem raise_part (f : Fld) (i : Nat) (d : Dev) : (raise f i d).part = d.part :=
  only_raise f i d .part (by decide)
@[simp] theorem raise_now (f : Fld) (i : Nat) (d : Dev) : (raise f i d).now = d.now :=
  only_raise f i d .now (by decide)
@[simp] theorem raise_freeCtr (f : Fld) (i : Nat) (d : Dev) : (raise f i d).freeCtr = d.freeCtr :=
  only_raise f i d .freeCtr (by decide)
@[simp] theorem raise_porstLow (f : Fld) (i : Nat) (d : Dev) : (raise f i d).porstLow = d.porstLow :=
  only_raise f i d .porstLow (by decide)
@[simp] theorem raise_dict (f : Fld) (i : Nat) (d : Dev) : (raise f i d).dict = d.dict :=
  only_raise f i d .dict (by decide)
@[simp] theorem raise_cnt (f : Fld) (i : Nat) (d : Dev) : (raise f i d).cnt = d.cnt :=
  only_raise f i d .cnt (by decide)
@[simp] theorem raise_cab (f : Fld) (i : Nat) (d : Dev) : (raise f i d).cab = d.cab :=
  only_raise f i d .cab (by decide)
@[simp] theorem raise_mon (f : Fld) (i : Nat) (d : Dev) : (raise f i d).mon = d.mon :=
  only_raise f i d .mon (by decide)
@[simp] theorem raise_chans (f : Fld) (i : Nat) (d : Dev) : (raise f i d).chans = d.chans :=
  only_raise f i d .chans (by decide)
@[simp] theorem raise_prot (f : Fld) (i : Nat) (d : Dev) : (raise f i d).prot = d.prot :=
  only_raise f i d .prot (by decide)
@[simp] theorem raise_lanes (f : Fld) (i : Nat) (d : Dev) : (raise f i d).lanes = d.lanes :=
  only_raise f i d .lanes (by decide)
@[simp] theorem raise_ports (f : Fld) (i : Nat) (d : Dev) : (raise f i d).ports = d.ports :=
  only_raise f i d .ports (by decide)
@[simp] theorem raise_bond (f : Fld) (i : Nat) (d : Dev) : (raise f i d).bond = d.bond :=
  only_raise f i d .bond (by decide)
@[simp] theorem raise_cipher (f : Fld) (i : Nat) (d : Dev) : (raise f i d).cipher = d.cipher :=
  only_raise f i d .cipher (by decide)
@[simp] theorem raise_act (f : Fld) (i : Nat) (d : Dev) : (raise f i d).act = d.act :=
  only_raise f i d .act (by decide)
@[simp] theorem raise_fs (f : Fld) (i : Nat) (d : Dev) : (raise f i d).fs = d.fs :=
  only_raise f i d .fs (by decide)
@[simp] theorem raise_up (f : Fld) (i : Nat) (d : Dev) : (raise f i d).up = d.up :=
  only_raise f i d .up (by decide)
@[simp] theorem raise_lc (f : Fld) (i : Nat) (d : Dev) : (raise f i d).lc = d.lc :=
  only_raise f i d .lc (by decide)
@[simp] theorem raise_tm (f : Fld) (i : Nat) (d : Dev) : (raise f i d).tm = d.tm :=
  only_raise f i d .tm (by decide)
@[simp] theorem raise_cls (f : Fld) (i : Nat) (d : Dev) : (raise f i d).cls = d.cls :=
  only_raise f i d .cls (by decide)
@[simp] theorem raise_fwd (f : Fld) (i : Nat) (d : Dev) : (raise f i d).fwd = d.fwd :=
  only_raise f i d .fwd (by decide)
@[simp] theorem raise_sb (f : Fld) (i : Nat) (d : Dev) : (raise f i d).sb = d.sb :=
  only_raise f i d .sb (by decide)
@[simp] theorem raise_mc (f : Fld) (i : Nat) (d : Dev) : (raise f i d).mc = d.mc :=
  only_raise f i d .mc (by decide)
@[simp] theorem raise_sec (f : Fld) (i : Nat) (d : Dev) : (raise f i d).sec = d.sec :=
  only_raise f i d .sec (by decide)
@[simp] theorem raise_pwr (f : Fld) (i : Nat) (d : Dev) : (raise f i d).pwr = d.pwr :=
  only_raise f i d .pwr (by decide)
@[simp] theorem raise_trib (f : Fld) (i : Nat) (d : Dev) : (raise f i d).trib = d.trib :=
  only_raise f i d .trib (by decide)
@[simp] theorem raise_dic (f : Fld) (i : Nat) (d : Dev) : (raise f i d).dic = d.dic :=
  only_raise f i d .dic (by decide)
@[simp] theorem raise_img (f : Fld) (i : Nat) (d : Dev) : (raise f i d).img = d.img :=
  only_raise f i d .img (by decide)
@[simp] theorem raise_boot (f : Fld) (i : Nat) (d : Dev) : (raise f i d).boot = d.boot :=
  only_raise f i d .boot (by decide)

@[simp] theorem raiseIf_part (c : Bool) (f : Fld) (i : Nat) (d : Dev) : (raiseIf c f i d).part = d.part :=
  only_raiseIf c f i d .part (by decide)
@[simp] theorem raiseIf_now (c : Bool) (f : Fld) (i : Nat) (d : Dev) : (raiseIf c f i d).now = d.now :=
  only_raiseIf c f i d .now (by decide)
@[simp] theorem raiseIf_freeCtr (c : Bool) (f : Fld) (i : Nat) (d : Dev) : (raiseIf c f i d).freeCtr = d.freeCtr :=
  only_raiseIf c f i d .freeCtr (by decide)
@[simp] theorem raiseIf_porstLow (c : Bool) (f : Fld) (i : Nat) (d : Dev) : (raiseIf c f i d).porstLow = d.porstLow :=
  only_raiseIf c f i d .porstLow (by decide)
@[simp] theorem raiseIf_dict (c : Bool) (f : Fld) (i : Nat) (d : Dev) : (raiseIf c f i d).dict = d.dict :=
  only_raiseIf c f i d .dict (by decide)
@[simp] theorem raiseIf_cnt (c : Bool) (f : Fld) (i : Nat) (d : Dev) : (raiseIf c f i d).cnt = d.cnt :=
  only_raiseIf c f i d .cnt (by decide)
@[simp] theorem raiseIf_cab (c : Bool) (f : Fld) (i : Nat) (d : Dev) : (raiseIf c f i d).cab = d.cab :=
  only_raiseIf c f i d .cab (by decide)
@[simp] theorem raiseIf_mon (c : Bool) (f : Fld) (i : Nat) (d : Dev) : (raiseIf c f i d).mon = d.mon :=
  only_raiseIf c f i d .mon (by decide)
@[simp] theorem raiseIf_chans (c : Bool) (f : Fld) (i : Nat) (d : Dev) : (raiseIf c f i d).chans = d.chans :=
  only_raiseIf c f i d .chans (by decide)
@[simp] theorem raiseIf_prot (c : Bool) (f : Fld) (i : Nat) (d : Dev) : (raiseIf c f i d).prot = d.prot :=
  only_raiseIf c f i d .prot (by decide)
@[simp] theorem raiseIf_lanes (c : Bool) (f : Fld) (i : Nat) (d : Dev) : (raiseIf c f i d).lanes = d.lanes :=
  only_raiseIf c f i d .lanes (by decide)
@[simp] theorem raiseIf_ports (c : Bool) (f : Fld) (i : Nat) (d : Dev) : (raiseIf c f i d).ports = d.ports :=
  only_raiseIf c f i d .ports (by decide)
@[simp] theorem raiseIf_bond (c : Bool) (f : Fld) (i : Nat) (d : Dev) : (raiseIf c f i d).bond = d.bond :=
  only_raiseIf c f i d .bond (by decide)
@[simp] theorem raiseIf_cipher (c : Bool) (f : Fld) (i : Nat) (d : Dev) : (raiseIf c f i d).cipher = d.cipher :=
  only_raiseIf c f i d .cipher (by decide)
@[simp] theorem raiseIf_act (c : Bool) (f : Fld) (i : Nat) (d : Dev) : (raiseIf c f i d).act = d.act :=
  only_raiseIf c f i d .act (by decide)
@[simp] theorem raiseIf_fs (c : Bool) (f : Fld) (i : Nat) (d : Dev) : (raiseIf c f i d).fs = d.fs :=
  only_raiseIf c f i d .fs (by decide)
@[simp] theorem raiseIf_up (c : Bool) (f : Fld) (i : Nat) (d : Dev) : (raiseIf c f i d).up = d.up :=
  only_raiseIf c f i d .up (by decide)
@[simp] theorem raiseIf_lc (c : Bool) (f : Fld) (i : Nat) (d : Dev) : (raiseIf c f i d).lc = d.lc :=
  only_raiseIf c f i d .lc (by decide)
@[simp] theorem raiseIf_tm (c : Bool) (f : Fld) (i : Nat) (d : Dev) : (raiseIf c f i d).tm = d.tm :=
  only_raiseIf c f i d .tm (by decide)
@[simp] theorem raiseIf_cls (c : Bool) (f : Fld) (i : Nat) (d : Dev) : (raiseIf c f i d).cls = d.cls :=
  only_raiseIf c f i d .cls (by decide)
@[simp] theorem raiseIf_fwd (c : Bool) (f : Fld) (i : Nat) (d : Dev) : (raiseIf c f i d).fwd = d.fwd :=
  only_raiseIf c f i d .fwd (by decide)
@[simp] theorem raiseIf_sb (c : Bool) (f : Fld) (i : Nat) (d : Dev) : (raiseIf c f i d).sb = d.sb :=
  only_raiseIf c f i d .sb (by decide)
@[simp] theorem raiseIf_mc (c : Bool) (f : Fld) (i : Nat) (d : Dev) : (raiseIf c f i d).mc = d.mc :=
  only_raiseIf c f i d .mc (by decide)
@[simp] theorem raiseIf_sec (c : Bool) (f : Fld) (i : Nat) (d : Dev) : (raiseIf c f i d).sec = d.sec :=
  only_raiseIf c f i d .sec (by decide)
@[simp] theorem raiseIf_pwr (c : Bool) (f : Fld) (i : Nat) (d : Dev) : (raiseIf c f i d).pwr = d.pwr :=
  only_raiseIf c f i d .pwr (by decide)
@[simp] theorem raiseIf_trib (c : Bool) (f : Fld) (i : Nat) (d : Dev) : (raiseIf c f i d).trib = d.trib :=
  only_raiseIf c f i d .trib (by decide)
@[simp] theorem raiseIf_dic (c : Bool) (f : Fld) (i : Nat) (d : Dev) : (raiseIf c f i d).dic = d.dic :=
  only_raiseIf c f i d .dic (by decide)
@[simp] theorem raiseIf_img (c : Bool) (f : Fld) (i : Nat) (d : Dev) : (raiseIf c f i d).img = d.img :=
  only_raiseIf c f i d .img (by decide)
@[simp] theorem raiseIf_boot (c : Bool) (f : Fld) (i : Nat) (d : Dev) : (raiseIf c f i d).boot = d.boot :=
  only_raiseIf c f i d .boot (by decide)

@[simp] theorem countN_part (c : CName) (k n : Nat) (d : Dev) : (countN c k n d).part = d.part :=
  (frame_countN c k n d).1 .part (by decide)
@[simp] theorem countN_now (c : CName) (k n : Nat) (d : Dev) : (countN c k n d).now = d.now :=
  (frame_countN c k n d).1 .now (by decide)
@[simp] theorem countN_freeCtr (c : CName) (k n : Nat) (d : Dev) : (countN c k n d).freeCtr = d.freeCtr :=
  (frame_countN c k n d).1 .freeCtr (by decide)
@[simp] theorem countN_porstLow (c : CName) (k n : Nat) (d : Dev) : (countN c k n d).porstLow = d.porstLow :=
  (frame_countN c k n d).1 .porstLow (by decide)
@[simp] theorem countN_dict (c : CName) (k n : Nat) (d : Dev) : (countN c k n d).dict = d.dict :=
  (frame_countN c k n d).1 .dict (by decide)
@[simp] theorem countN_cab (c : CName) (k n : Nat) (d : Dev) : (countN c k n d).cab = d.cab :=
  (frame_countN c k n d).1 .cab (by decide)
@[simp] theorem countN_mon (c : CName) (k n : Nat) (d : Dev) : (countN c k n d).mon = d.mon :=
  (frame_countN c k n d).1 .mon (by decide)
@[simp] theorem countN_chans (c : CName) (k n : Nat) (d : Dev) : (countN c k n d).chans = d.chans :=
  (frame_countN c k n d).1 .chans (by decide)
@[simp] theorem countN_prot (c : CName) (k n : Nat) (d : Dev) : (countN c k n d).prot = d.prot :=
  (frame_countN c k n d).1 .prot (by decide)
@[simp] theorem countN_lanes (c : CName) (k n : Nat) (d : Dev) : (countN c k n d).lanes = d.lanes :=
  (frame_countN c k n d).1 .lanes (by decide)
@[simp] theorem countN_ports (c : CName) (k n : Nat) (d : Dev) : (countN c k n d).ports = d.ports :=
  (frame_countN c k n d).1 .ports (by decide)
@[simp] theorem countN_bond (c : CName) (k n : Nat) (d : Dev) : (countN c k n d).bond = d.bond :=
  (frame_countN c k n d).1 .bond (by decide)
@[simp] theorem countN_cipher (c : CName) (k n : Nat) (d : Dev) : (countN c k n d).cipher = d.cipher :=
  (frame_countN c k n d).1 .cipher (by decide)
@[simp] theorem countN_act (c : CName) (k n : Nat) (d : Dev) : (countN c k n d).act = d.act :=
  (frame_countN c k n d).1 .act (by decide)
@[simp] theorem countN_fs (c : CName) (k n : Nat) (d : Dev) : (countN c k n d).fs = d.fs :=
  (frame_countN c k n d).1 .fs (by decide)
@[simp] theorem countN_up (c : CName) (k n : Nat) (d : Dev) : (countN c k n d).up = d.up :=
  (frame_countN c k n d).1 .up (by decide)
@[simp] theorem countN_lc (c : CName) (k n : Nat) (d : Dev) : (countN c k n d).lc = d.lc :=
  (frame_countN c k n d).1 .lc (by decide)
@[simp] theorem countN_tm (c : CName) (k n : Nat) (d : Dev) : (countN c k n d).tm = d.tm :=
  (frame_countN c k n d).1 .tm (by decide)
@[simp] theorem countN_cls (c : CName) (k n : Nat) (d : Dev) : (countN c k n d).cls = d.cls :=
  (frame_countN c k n d).1 .cls (by decide)
@[simp] theorem countN_fwd (c : CName) (k n : Nat) (d : Dev) : (countN c k n d).fwd = d.fwd :=
  (frame_countN c k n d).1 .fwd (by decide)
@[simp] theorem countN_sb (c : CName) (k n : Nat) (d : Dev) : (countN c k n d).sb = d.sb :=
  (frame_countN c k n d).1 .sb (by decide)
@[simp] theorem countN_mc (c : CName) (k n : Nat) (d : Dev) : (countN c k n d).mc = d.mc :=
  (frame_countN c k n d).1 .mc (by decide)
@[simp] theorem countN_sec (c : CName) (k n : Nat) (d : Dev) : (countN c k n d).sec = d.sec :=
  (frame_countN c k n d).1 .sec (by decide)
@[simp] theorem countN_pwr (c : CName) (k n : Nat) (d : Dev) : (countN c k n d).pwr = d.pwr :=
  (frame_countN c k n d).1 .pwr (by decide)
@[simp] theorem countN_trib (c : CName) (k n : Nat) (d : Dev) : (countN c k n d).trib = d.trib :=
  (frame_countN c k n d).1 .trib (by decide)
@[simp] theorem countN_dic (c : CName) (k n : Nat) (d : Dev) : (countN c k n d).dic = d.dic :=
  (frame_countN c k n d).1 .dic (by decide)
@[simp] theorem countN_img (c : CName) (k n : Nat) (d : Dev) : (countN c k n d).img = d.img :=
  (frame_countN c k n d).1 .img (by decide)
@[simp] theorem countN_boot (c : CName) (k n : Nat) (d : Dev) : (countN c k n d).boot = d.boot :=
  (frame_countN c k n d).1 .boot (by decide)

@[simp] theorem count_part (c : CName) (k : Nat) (d : Dev) : (count c k d).part = d.part :=
  (frame_count c k d).1 .part (by decide)
@[simp] theorem count_now (c : CName) (k : Nat) (d : Dev) : (count c k d).now = d.now :=
  (frame_count c k d).1 .now (by decide)
@[simp] theorem count_freeCtr (c : CName) (k : Nat) (d : Dev) : (count c k d).freeCtr = d.freeCtr :=
  (frame_count c k d).1 .freeCtr (by decide)
@[simp] theorem count_porstLow (c : CName) (k : Nat) (d : Dev) : (count c k d).porstLow = d.porstLow :=
  (frame_count c k d).1 .porstLow (by decide)
@[simp] theorem count_dict (c : CName) (k : Nat) (d : Dev) : (count c k d).dict = d.dict :=
  (frame_count c k d).1 .dict (by decide)
@[simp] theorem count_cab (c : CName) (k : Nat) (d : Dev) : (count c k d).cab = d.cab :=
  (frame_count c k d).1 .cab (by decide)
@[simp] theorem count_mon (c : CName) (k : Nat) (d : Dev) : (count c k d).mon = d.mon :=
  (frame_count c k d).1 .mon (by decide)
@[simp] theorem count_chans (c : CName) (k : Nat) (d : Dev) : (count c k d).chans = d.chans :=
  (frame_count c k d).1 .chans (by decide)
@[simp] theorem count_prot (c : CName) (k : Nat) (d : Dev) : (count c k d).prot = d.prot :=
  (frame_count c k d).1 .prot (by decide)
@[simp] theorem count_lanes (c : CName) (k : Nat) (d : Dev) : (count c k d).lanes = d.lanes :=
  (frame_count c k d).1 .lanes (by decide)
@[simp] theorem count_ports (c : CName) (k : Nat) (d : Dev) : (count c k d).ports = d.ports :=
  (frame_count c k d).1 .ports (by decide)
@[simp] theorem count_bond (c : CName) (k : Nat) (d : Dev) : (count c k d).bond = d.bond :=
  (frame_count c k d).1 .bond (by decide)
@[simp] theorem count_cipher (c : CName) (k : Nat) (d : Dev) : (count c k d).cipher = d.cipher :=
  (frame_count c k d).1 .cipher (by decide)
@[simp] theorem count_act (c : CName) (k : Nat) (d : Dev) : (count c k d).act = d.act :=
  (frame_count c k d).1 .act (by decide)
@[simp] theorem count_fs (c : CName) (k : Nat) (d : Dev) : (count c k d).fs = d.fs :=
  (frame_count c k d).1 .fs (by decide)
@[simp] theorem count_up (c : CName) (k : Nat) (d : Dev) : (count c k d).up = d.up :=
  (frame_count c k d).1 .up (by decide)
@[simp] theorem count_lc (c : CName) (k : Nat) (d : Dev) : (count c k d).lc = d.lc :=
  (frame_count c k d).1 .lc (by decide)
@[simp] theorem count_tm (c : CName) (k : Nat) (d : Dev) : (count c k d).tm = d.tm :=
  (frame_count c k d).1 .tm (by decide)
@[simp] theorem count_cls (c : CName) (k : Nat) (d : Dev) : (count c k d).cls = d.cls :=
  (frame_count c k d).1 .cls (by decide)
@[simp] theorem count_fwd (c : CName) (k : Nat) (d : Dev) : (count c k d).fwd = d.fwd :=
  (frame_count c k d).1 .fwd (by decide)
@[simp] theorem count_sb (c : CName) (k : Nat) (d : Dev) : (count c k d).sb = d.sb :=
  (frame_count c k d).1 .sb (by decide)
@[simp] theorem count_mc (c : CName) (k : Nat) (d : Dev) : (count c k d).mc = d.mc :=
  (frame_count c k d).1 .mc (by decide)
@[simp] theorem count_sec (c : CName) (k : Nat) (d : Dev) : (count c k d).sec = d.sec :=
  (frame_count c k d).1 .sec (by decide)
@[simp] theorem count_pwr (c : CName) (k : Nat) (d : Dev) : (count c k d).pwr = d.pwr :=
  (frame_count c k d).1 .pwr (by decide)
@[simp] theorem count_trib (c : CName) (k : Nat) (d : Dev) : (count c k d).trib = d.trib :=
  (frame_count c k d).1 .trib (by decide)
@[simp] theorem count_dic (c : CName) (k : Nat) (d : Dev) : (count c k d).dic = d.dic :=
  (frame_count c k d).1 .dic (by decide)
@[simp] theorem count_img (c : CName) (k : Nat) (d : Dev) : (count c k d).img = d.img :=
  (frame_count c k d).1 .img (by decide)
@[simp] theorem count_boot (c : CName) (k : Nat) (d : Dev) : (count c k d).boot = d.boot :=
  (frame_count c k d).1 .boot (by decide)

@[simp] theorem tick_part (t : Time) (d : Dev) : (tick t d).part = d.part :=
  (frame_tick t d).1 .part (by decide)
@[simp] theorem tick_freeCtr (t : Time) (d : Dev) : (tick t d).freeCtr = d.freeCtr :=
  (frame_tick t d).1 .freeCtr (by decide)
@[simp] theorem tick_porstLow (t : Time) (d : Dev) : (tick t d).porstLow = d.porstLow :=
  (frame_tick t d).1 .porstLow (by decide)
@[simp] theorem tick_dict (t : Time) (d : Dev) : (tick t d).dict = d.dict :=
  (frame_tick t d).1 .dict (by decide)
@[simp] theorem tick_cab (t : Time) (d : Dev) : (tick t d).cab = d.cab :=
  (frame_tick t d).1 .cab (by decide)
@[simp] theorem tick_mon (t : Time) (d : Dev) : (tick t d).mon = d.mon :=
  (frame_tick t d).1 .mon (by decide)
@[simp] theorem tick_chans (t : Time) (d : Dev) : (tick t d).chans = d.chans :=
  (frame_tick t d).1 .chans (by decide)
@[simp] theorem tick_prot (t : Time) (d : Dev) : (tick t d).prot = d.prot :=
  (frame_tick t d).1 .prot (by decide)
@[simp] theorem tick_lanes (t : Time) (d : Dev) : (tick t d).lanes = d.lanes :=
  (frame_tick t d).1 .lanes (by decide)
@[simp] theorem tick_ports (t : Time) (d : Dev) : (tick t d).ports = d.ports :=
  (frame_tick t d).1 .ports (by decide)
@[simp] theorem tick_bond (t : Time) (d : Dev) : (tick t d).bond = d.bond :=
  (frame_tick t d).1 .bond (by decide)
@[simp] theorem tick_cipher (t : Time) (d : Dev) : (tick t d).cipher = d.cipher :=
  (frame_tick t d).1 .cipher (by decide)
@[simp] theorem tick_act (t : Time) (d : Dev) : (tick t d).act = d.act :=
  (frame_tick t d).1 .act (by decide)
@[simp] theorem tick_fs (t : Time) (d : Dev) : (tick t d).fs = d.fs :=
  (frame_tick t d).1 .fs (by decide)
@[simp] theorem tick_up (t : Time) (d : Dev) : (tick t d).up = d.up :=
  (frame_tick t d).1 .up (by decide)
@[simp] theorem tick_lc (t : Time) (d : Dev) : (tick t d).lc = d.lc :=
  (frame_tick t d).1 .lc (by decide)
@[simp] theorem tick_tm (t : Time) (d : Dev) : (tick t d).tm = d.tm :=
  (frame_tick t d).1 .tm (by decide)
@[simp] theorem tick_cls (t : Time) (d : Dev) : (tick t d).cls = d.cls :=
  (frame_tick t d).1 .cls (by decide)
@[simp] theorem tick_fwd (t : Time) (d : Dev) : (tick t d).fwd = d.fwd :=
  (frame_tick t d).1 .fwd (by decide)
@[simp] theorem tick_sb (t : Time) (d : Dev) : (tick t d).sb = d.sb :=
  (frame_tick t d).1 .sb (by decide)
@[simp] theorem tick_mc (t : Time) (d : Dev) : (tick t d).mc = d.mc :=
  (frame_tick t d).1 .mc (by decide)
@[simp] theorem tick_sec (t : Time) (d : Dev) : (tick t d).sec = d.sec :=
  (frame_tick t d).1 .sec (by decide)
@[simp] theorem tick_pwr (t : Time) (d : Dev) : (tick t d).pwr = d.pwr :=
  (frame_tick t d).1 .pwr (by decide)
@[simp] theorem tick_trib (t : Time) (d : Dev) : (tick t d).trib = d.trib :=
  (frame_tick t d).1 .trib (by decide)
@[simp] theorem tick_dic (t : Time) (d : Dev) : (tick t d).dic = d.dic :=
  (frame_tick t d).1 .dic (by decide)
@[simp] theorem tick_img (t : Time) (d : Dev) : (tick t d).img = d.img :=
  (frame_tick t d).1 .img (by decide)
@[simp] theorem tick_boot (t : Time) (d : Dev) : (tick t d).boot = d.boot :=
  (frame_tick t d).1 .boot (by decide)

@[simp] theorem setPd_part (n v : Nat) (d : Dev) : (setPd n v d).part = d.part :=
  only_setPd n v d .part (by decide)
@[simp] theorem setPd_now (n v : Nat) (d : Dev) : (setPd n v d).now = d.now :=
  only_setPd n v d .now (by decide)
@[simp] theorem setPd_freeCtr (n v : Nat) (d : Dev) : (setPd n v d).freeCtr = d.freeCtr :=
  only_setPd n v d .freeCtr (by decide)
@[simp] theorem setPd_emitted (n v : Nat) (d : Dev) : (setPd n v d).emitted = d.emitted :=
  only_setPd n v d .emitted (by decide)
@[simp] theorem setPd_porstLow (n v : Nat) (d : Dev) : (setPd n v d).porstLow = d.porstLow :=
  only_setPd n v d .porstLow (by decide)
@[simp] theorem setPd_dict (n v : Nat) (d : Dev) : (setPd n v d).dict = d.dict :=
  only_setPd n v d .dict (by decide)
@[simp] theorem setPd_cnt (n v : Nat) (d : Dev) : (setPd n v d).cnt = d.cnt :=
  only_setPd n v d .cnt (by decide)
@[simp] theorem setPd_host (n v : Nat) (d : Dev) : (setPd n v d).host = d.host :=
  only_setPd n v d .host (by decide)
@[simp] theorem setPd_cab (n v : Nat) (d : Dev) : (setPd n v d).cab = d.cab :=
  only_setPd n v d .cab (by decide)
@[simp] theorem setPd_mon (n v : Nat) (d : Dev) : (setPd n v d).mon = d.mon :=
  only_setPd n v d .mon (by decide)
@[simp] theorem setPd_chans (n v : Nat) (d : Dev) : (setPd n v d).chans = d.chans :=
  only_setPd n v d .chans (by decide)
@[simp] theorem setPd_prot (n v : Nat) (d : Dev) : (setPd n v d).prot = d.prot :=
  only_setPd n v d .prot (by decide)
@[simp] theorem setPd_lanes (n v : Nat) (d : Dev) : (setPd n v d).lanes = d.lanes :=
  only_setPd n v d .lanes (by decide)
@[simp] theorem setPd_ports (n v : Nat) (d : Dev) : (setPd n v d).ports = d.ports :=
  only_setPd n v d .ports (by decide)
@[simp] theorem setPd_bond (n v : Nat) (d : Dev) : (setPd n v d).bond = d.bond :=
  only_setPd n v d .bond (by decide)
@[simp] theorem setPd_cipher (n v : Nat) (d : Dev) : (setPd n v d).cipher = d.cipher :=
  only_setPd n v d .cipher (by decide)
@[simp] theorem setPd_act (n v : Nat) (d : Dev) : (setPd n v d).act = d.act :=
  only_setPd n v d .act (by decide)
@[simp] theorem setPd_fs (n v : Nat) (d : Dev) : (setPd n v d).fs = d.fs :=
  only_setPd n v d .fs (by decide)
@[simp] theorem setPd_up (n v : Nat) (d : Dev) : (setPd n v d).up = d.up :=
  only_setPd n v d .up (by decide)
@[simp] theorem setPd_lc (n v : Nat) (d : Dev) : (setPd n v d).lc = d.lc :=
  only_setPd n v d .lc (by decide)
@[simp] theorem setPd_tm (n v : Nat) (d : Dev) : (setPd n v d).tm = d.tm :=
  only_setPd n v d .tm (by decide)
@[simp] theorem setPd_cls (n v : Nat) (d : Dev) : (setPd n v d).cls = d.cls :=
  only_setPd n v d .cls (by decide)
@[simp] theorem setPd_fwd (n v : Nat) (d : Dev) : (setPd n v d).fwd = d.fwd :=
  only_setPd n v d .fwd (by decide)
@[simp] theorem setPd_sb (n v : Nat) (d : Dev) : (setPd n v d).sb = d.sb :=
  only_setPd n v d .sb (by decide)
@[simp] theorem setPd_mc (n v : Nat) (d : Dev) : (setPd n v d).mc = d.mc :=
  only_setPd n v d .mc (by decide)
@[simp] theorem setPd_sec (n v : Nat) (d : Dev) : (setPd n v d).sec = d.sec :=
  only_setPd n v d .sec (by decide)
@[simp] theorem setPd_pwr (n v : Nat) (d : Dev) : (setPd n v d).pwr = d.pwr :=
  only_setPd n v d .pwr (by decide)
@[simp] theorem setPd_trib (n v : Nat) (d : Dev) : (setPd n v d).trib = d.trib :=
  only_setPd n v d .trib (by decide)
@[simp] theorem setPd_dic (n v : Nat) (d : Dev) : (setPd n v d).dic = d.dic :=
  only_setPd n v d .dic (by decide)
@[simp] theorem setPd_img (n v : Nat) (d : Dev) : (setPd n v d).img = d.img :=
  only_setPd n v d .img (by decide)
@[simp] theorem setPd_boot (n v : Nat) (d : Dev) : (setPd n v d).boot = d.boot :=
  only_setPd n v d .boot (by decide)

@[simp] theorem post_part (n : Nat) (item : List Word) (d : Dev) : (post n item d).part = d.part :=
  only_post n item d .part (by decide)
@[simp] theorem post_now (n : Nat) (item : List Word) (d : Dev) : (post n item d).now = d.now :=
  only_post n item d .now (by decide)
@[simp] theorem post_freeCtr (n : Nat) (item : List Word) (d : Dev) : (post n item d).freeCtr = d.freeCtr :=
  only_post n item d .freeCtr (by decide)
@[simp] theorem post_porstLow (n : Nat) (item : List Word) (d : Dev) : (post n item d).porstLow = d.porstLow :=
  only_post n item d .porstLow (by decide)
@[simp] theorem post_dict (n : Nat) (item : List Word) (d : Dev) : (post n item d).dict = d.dict :=
  only_post n item d .dict (by decide)
@[simp] theorem post_cab (n : Nat) (item : List Word) (d : Dev) : (post n item d).cab = d.cab :=
  only_post n item d .cab (by decide)
@[simp] theorem post_mon (n : Nat) (item : List Word) (d : Dev) : (post n item d).mon = d.mon :=
  only_post n item d .mon (by decide)
@[simp] theorem post_chans (n : Nat) (item : List Word) (d : Dev) : (post n item d).chans = d.chans :=
  only_post n item d .chans (by decide)
@[simp] theorem post_prot (n : Nat) (item : List Word) (d : Dev) : (post n item d).prot = d.prot :=
  only_post n item d .prot (by decide)
@[simp] theorem post_lanes (n : Nat) (item : List Word) (d : Dev) : (post n item d).lanes = d.lanes :=
  only_post n item d .lanes (by decide)
@[simp] theorem post_ports (n : Nat) (item : List Word) (d : Dev) : (post n item d).ports = d.ports :=
  only_post n item d .ports (by decide)
@[simp] theorem post_bond (n : Nat) (item : List Word) (d : Dev) : (post n item d).bond = d.bond :=
  only_post n item d .bond (by decide)
@[simp] theorem post_cipher (n : Nat) (item : List Word) (d : Dev) : (post n item d).cipher = d.cipher :=
  only_post n item d .cipher (by decide)
@[simp] theorem post_act (n : Nat) (item : List Word) (d : Dev) : (post n item d).act = d.act :=
  only_post n item d .act (by decide)
@[simp] theorem post_fs (n : Nat) (item : List Word) (d : Dev) : (post n item d).fs = d.fs :=
  only_post n item d .fs (by decide)
@[simp] theorem post_up (n : Nat) (item : List Word) (d : Dev) : (post n item d).up = d.up :=
  only_post n item d .up (by decide)
@[simp] theorem post_lc (n : Nat) (item : List Word) (d : Dev) : (post n item d).lc = d.lc :=
  only_post n item d .lc (by decide)
@[simp] theorem post_tm (n : Nat) (item : List Word) (d : Dev) : (post n item d).tm = d.tm :=
  only_post n item d .tm (by decide)
@[simp] theorem post_cls (n : Nat) (item : List Word) (d : Dev) : (post n item d).cls = d.cls :=
  only_post n item d .cls (by decide)
@[simp] theorem post_fwd (n : Nat) (item : List Word) (d : Dev) : (post n item d).fwd = d.fwd :=
  only_post n item d .fwd (by decide)
@[simp] theorem post_sb (n : Nat) (item : List Word) (d : Dev) : (post n item d).sb = d.sb :=
  only_post n item d .sb (by decide)
@[simp] theorem post_mc (n : Nat) (item : List Word) (d : Dev) : (post n item d).mc = d.mc :=
  only_post n item d .mc (by decide)
@[simp] theorem post_sec (n : Nat) (item : List Word) (d : Dev) : (post n item d).sec = d.sec :=
  only_post n item d .sec (by decide)
@[simp] theorem post_pwr (n : Nat) (item : List Word) (d : Dev) : (post n item d).pwr = d.pwr :=
  only_post n item d .pwr (by decide)
@[simp] theorem post_trib (n : Nat) (item : List Word) (d : Dev) : (post n item d).trib = d.trib :=
  only_post n item d .trib (by decide)
@[simp] theorem post_dic (n : Nat) (item : List Word) (d : Dev) : (post n item d).dic = d.dic :=
  only_post n item d .dic (by decide)
@[simp] theorem post_img (n : Nat) (item : List Word) (d : Dev) : (post n item d).img = d.img :=
  only_post n item d .img (by decide)
@[simp] theorem post_boot (n : Nat) (item : List Word) (d : Dev) : (post n item d).boot = d.boot :=
  only_post n item d .boot (by decide)

end Sys2Proof.Laws
end

