-- ==== Sys2Proof/Laws/Lift.lean ====
section
/-!
SUPPORT. Laws/Lift.lean: what the lifts of a device's change to the whole state answer.
-/

namespace Sys2Proof.Laws

open Sys2Proof.Machine

theorem onDev_eq (f : Dev → Dev) (s : State) (h : s.dev.porstLow = false) : onDev f s = .next { s with dev := f s.dev } := by
  simp [onDev, h]

theorem at_eq (t : Time) (f : Dev → Dev) (s : State) (h : s.dev.porstLow = false) :
    at_ t f s = .next { s with dev := f (tick t s.dev) } := onDev_eq _ s h

theorem onDev_low (f : Dev → Dev) (s : State) (h : s.dev.porstLow = true) : onDev f s = .next s := by
  simp [onDev, h]

theorem at_low (t : Time) (f : Dev → Dev) (s : State) (h : s.dev.porstLow = true) : at_ t f s = .next s := onDev_low _ s h

theorem atCore_low (t : Time) (f : Dev → Dev) (s : State) (h : s.dev.porstLow = true) : atCore t f s = .next s :=
  at_low _ _ s h

theorem onWhole_low (f : State → State) (s : State) (h : s.dev.porstLow = true) : onWhole f s = .next s := by
  simp [onWhole, h]

/-- A lift answers a next state with the queue and the memory as they were. -/
theorem onDev_keeps (f : Dev → Dev) (s : State) :
    ∃ t, onDev f s = .next t ∧ t.pending = s.pending ∧ t.mem = s.mem := ⟨_, rfl, rfl, rfl⟩

end Sys2Proof.Laws
end

