-- ==== Sys2Proof/Laws/Exec.lean ====
section
/-!
SUPPORT. Laws/Exec.lean: what each command is: the lift of its change of the state.
-/

namespace Sys2Proof.Laws

open Sys2Proof Sys2Proof.Machine

@[simp] theorem exec_lineFrameReceived (f : LineFrame) (s : State) :
    exec (.lineFrameReceived f) s = at_ f.t (lineFrame f) s := rfl

@[simp] theorem exec_losEntered (t : Time) (ch : Fin 16) (c : LosCause) (s : State) :
    exec (.losEntered t ch c) s = at_ t (losEntered ch c) s := rfl

@[simp] theorem exec_losLeft (t : Time) (ch : Fin 16) (lane : Lane) (s : State) :
    exec (.losLeft t ch lane) s = at_ t (losLeft ch (lane == .b)) s := rfl

@[simp] theorem exec_frameBoundary (t : Time) (inp : BoundaryInputs) (s : State) :
    exec (.frameBoundary t inp) s =
    at_ t (fsDrive (fun d => activationRetry (imageHoldStep (pwResume (frameBoundary inp d))))) s := rfl

@[simp] theorem exec_holdoffExpiry (t : Time) (s : State) :
    exec (.holdoffExpiry t) s = at_ t holdoffExpiry s := rfl

@[simp] theorem exec_settleEnd (t : Time) (s : State) :
    exec (.settleEnd t) s = at_ t settleEnd s := rfl

@[simp] theorem exec_protectionCheckExpiry (t : Time) (s : State) :
    exec (.protectionCheckExpiry t) s = at_ t checkExpiry s := rfl

@[simp] theorem exec_alternationDwellExpiry (t : Time) (s : State) :
    exec (.alternationDwellExpiry t) s = at_ t dwellExpiry s := rfl

@[simp] theorem exec_switchToWorking (t : Time) (v : Word) (s : State) :
    exec (.switchToWorking t v) s = at_ t (protCtrlWrite v) s := rfl

@[simp] theorem exec_switchToProtection (t : Time) (v : Word) (s : State) :
    exec (.switchToProtection t v) s = at_ t (protCtrlWrite v) s := rfl

@[simp] theorem exec_lockoutDeviceCommit (t : Time) (s : State) :
    exec (.lockoutDeviceCommit t) s = at_ t lockoutCommit s := rfl

@[simp] theorem exec_envelopeReceived (e : EnvelopeIn) (s : State) :
    exec (.envelopeReceived e) s = at_ e.t (fsDrive (fun d => mgmtWake (envelopeReceived e d))) s := rfl

@[simp] theorem exec_reorderWindowExpiry (t : Time) (flow : BitVec 16) (s : State) :
    exec (.reorderWindowExpiry t flow) s =
    at_ t (fsDrive (fun d => mgmtWake (reorderExpiry flow.toNat d))) s := rfl

@[simp] theorem exec_keyWriteEntry (e : BitVec 8) (s : State) :
    exec (.keyWriteEntry e) s = onDev (keyWrite e.toNat) s := rfl

@[simp] theorem exec_keyEraseEntry (e : BitVec 8) (s : State) :
    exec (.keyEraseEntry e) s = onDev (keyErase e.toNat) s := rfl

@[simp] theorem exec_keyReadEntryState (e : BitVec 8) (s : State) :
    exec (.keyReadEntryState e) s = onDev (keyRead e.toNat) s := rfl

@[simp] theorem exec_checkValueSlotWrite (k : BitVec 8) (s : State) :
    exec (.checkValueSlotWrite k) s = onDev (fun d => slotSet k.toNat (some (keyData d)) d) s := rfl

@[simp] theorem exec_checkValueSlotErase (k : BitVec 8) (s : State) :
    exec (.checkValueSlotErase k) s = onDev (slotSet k.toNat none) s := rfl

@[simp] theorem exec_keyCommandInvalid (op : BitVec 3) (entry : BitVec 8) (s : State) :
    exec (.keyCommandInvalid op entry) s =
    onDev (keyCommand op.toNat entry.toNat) s := rfl

@[simp] theorem exec_txIndexWrite (i : Fin 3) (v : Word) (s : State) :
    exec (.txIndexWrite i v) s = onDev (storeWrite .cyTxidx i v) s := rfl

@[simp] theorem exec_burstProfile (m : CtlMsg) (s : State) :
    exec (.burstProfile m) s =
    at_ m.t (fun d => fsOn 0x01 fsProfile m (receive 0x01 m (burstProfile m) d)) s := rfl

@[simp] theorem exec_assignTerminal (m : CtlMsg) (s : State) :
    exec (.assignTerminal m) s =
    at_ m.t (fun d => domsRefresh (fsOn 0x02 fsAssign m (receive 0x02 m (assignTerminal m) d))) s := rfl

@[simp] theorem exec_rangingRequest (m : CtlMsg) (s : State) :
    exec (.rangingRequest m) s =
    at_ m.t (fun d => fsOn 0x03 fsRangingRequest m (receive 0x03 m (rangingRequest m) d)) s := rfl

@[simp] theorem exec_rangingTime (m : CtlMsg) (s : State) :
    exec (.rangingTime m) s =
    at_ m.t (fun d => fsOn 0x04 fsRangingTime m (receive 0x04 m (rangingTime m) d)) s := rfl

@[simp] theorem exec_deactivate (m : CtlMsg) (s : State) :
    exec (.deactivate m) s =
    at_ m.t (fun d => receive 0x05 m deactivate (fsOn 0x05 fsDeactivate m d)) s := rfl

@[simp] theorem exec_disable (m : CtlMsg) (s : State) :
    exec (.disable m) s =
    at_ m.t (fsDrive (fun d => receive 0x06 m (disable m) (fsOn 0x06 fsDisable m d))) s := rfl

@[simp] theorem exec_enable (m : CtlMsg) (s : State) :
    exec (.enable m) s =
    at_ m.t (fsDrive (fun d => receive 0x07 m (enable m d.fs.nonce) (fsOn 0x07 fsEnable m (nonceCheck m d)))) s := rfl

@[simp] theorem exec_keyControlSwitch (m : CtlMsg) (s : State) :
    exec (.keyControlSwitch m) s = at_ m.t (receive 0x08 m (keyControl m)) s := rfl

@[simp] theorem exec_keyControlReport (m : CtlMsg) (s : State) :
    exec (.keyControlReport m) s = at_ m.t (receive 0x08 m (keyControl m)) s := rfl

@[simp] theorem exec_keySwitchCommit (t : Time) (s : State) :
    exec (.keySwitchCommit t) s = at_ t keySwitchCommit s := rfl

@[simp] theorem exec_timeOfDay (m : CtlMsg) (s : State) :
    exec (.timeOfDay m) s = at_ m.t (receive 0x09 m (timeOfDay m)) s := rfl

@[simp] theorem exec_sleepAllow (m : CtlMsg) (s : State) :
    exec (.sleepAllow m) s = at_ m.t (receive 0x0A m (sleepAllow m)) s := rfl

@[simp] theorem exec_protectionControl (m : CtlMsg) (s : State) :
    exec (.protectionControl m) s = at_ m.t (receive 0x0B m (protectionControl m)) s := rfl

@[simp] theorem exec_rangingTimerExpiry (t : Time) (s : State) :
    exec (.rangingTimerExpiry t) s = at_ t rangingExpiry s := rfl

@[simp] theorem exec_lossTimerExpiry (t : Time) (s : State) :
    exec (.lossTimerExpiry t) s = at_ t lossExpiry s := rfl

@[simp] theorem exec_sleepConsentExpiry (t : Time) (s : State) :
    exec (.sleepConsentExpiry t) s = at_ t sleepExpiry s := rfl

@[simp] theorem exec_pfailFall (t : Time) (s : State) :
    exec (.pfailFall t) s = at_ t (fsDrive pfailFalls) s := rfl

@[simp] theorem exec_pfailRise (t : Time) (s : State) :
    exec (.pfailRise t) s = at_ t pfailRises s := rfl

@[simp] theorem exec_grantFill (t : Time) (x : FillPoint) (s : State) :
    exec (.grantFill t x) s =
    at_ t (grantFill x.ch (x.bad.map (·.toNat))) s := rfl

@[simp] theorem exec_wardrobePrefetchComplete (t : Time) (ch : Fin 16) (s : State) :
    exec (.wardrobePrefetchComplete t ch) s = at_ t (prefetchDone ch) s := rfl

@[simp] theorem exec_burstStart (t : Time) (ch : Fin 16) (s : State) :
    exec (.burstStart t ch) s = at_ t (fsDrive (burstStart ch)) s := rfl

@[simp] theorem exec_burstEnd (t : Time) (ch : Fin 16) (s : State) :
    exec (.burstEnd t ch) s = at_ t (fsDrive (fun d => pwResume (burstEnd ch d))) s := rfl

@[simp] theorem exec_tribBlockExpiry (t : Time) (s : State) :
    exec (.tribBlockExpiry t) s = at_ t tribExpiry s := rfl

@[simp] theorem exec_fsFrameStart (f : FsFrame) (s : State) :
    exec (.fsFrameStart f) s = at_ f.t (fsDrive (fun d => powerHoldTry (fsFrame f d))) s := rfl

@[simp] theorem exec_fsFrameTimeout (ch : Fin 16) (s : State) :
    exec (.fsFrameTimeout ch) s = onDev (fsDrive (fsTimeout ch)) s := rfl

@[simp] theorem exec_fsWindowOpen (t : Time) (ch : Fin 16) (s : State) :
    exec (.fsWindowOpen t ch) s = at_ t (openDue ch) s := rfl

@[simp] theorem exec_fsWindowClose (t : Time) (ch : Fin 16) (lit : Bool) (s : State) :
    exec (.fsWindowClose t ch lit) s = at_ t (fsDrive (closeDue ch lit)) s := rfl

@[simp] theorem exec_benRequest (t : Time) (ch : Fin 16) (level : Bool) (s : State) :
    exec (.benRequest t ch level) s = at_ t (fsDrive (benRequest ch level)) s := rfl

@[simp] theorem exec_lightOutsideWindow (t : Time) (ch : Fin 16) (s : State) :
    exec (.lightOutsideWindow t ch) s = at_ t (fsDrive (lightDetected ch)) s := rfl

@[simp] theorem exec_stage2Timeout (t : Time) (ch : Fin 16) (lmon : Bool) (s : State) :
    exec (.stage2Timeout t ch lmon) s =
    at_ t (fsDrive (lightStill ch 2 Config.us lmon)) s := rfl

@[simp] theorem exec_stage3Timeout (t : Time) (ch : Fin 16) (lmon : Bool) (s : State) :
    exec (.stage3Timeout t ch lmon) s =
    at_ t (fsDrive (lightStill ch 3 (10 * Config.us) lmon)) s := rfl

@[simp] theorem exec_opticRead (r : OpticRead) (s : State) :
    exec (.opticRead r) s = at_ r.t (fsDrive (opticRead r)) s := rfl

@[simp] theorem exec_selfTestPulse (t : Time) (out : KillOut) (assertNs releaseNs : Nat) (s : State) :
    exec (.selfTestPulse t out assertNs releaseNs) s =
    at_ t (fsDrive (fun d => match out with
      | .tx ch => if chanPresent d ch then selfTest ch assertNs releaseNs d else d
      | .all => selfTest 16 assertNs releaseNs d)) s := rfl

@[simp] theorem exec_parityError (t : Time) (s : State) :
    exec (.parityError t) s = at_ t (fsDrive (failDark 8)) s := rfl

@[simp] theorem exec_fsSupplyClockLoss (t : Time) (clock : Bool) (s : State) :
    exec (.fsSupplyClockLoss t clock) s = at_ t (fsDrive fsLost) s := rfl

@[simp] theorem exec_fsRelease (t : Time) (nonce : BitVec 32) (s : State) :
    exec (.fsRelease t nonce) s = at_ t (fsDrive (fsReleaseWrite nonce)) s := rfl

@[simp] theorem exec_releaseCommand (t : Time) (p : Path) (nonce : BitVec 32) (s : State) :
    exec (.releaseCommand t p nonce) s =
    at_ t (fsDrive (commandOn p false (fun d => (0, fsReleaseWrite nonce d)))) s := rfl

@[simp] theorem exec_fsRestart (t : Time) (key : BitVec 16) (clockOk : Bool) (s : State) :
    exec (.fsRestart t key clockOk) s =
    at_ t (fsDrive (fsRestart key clockOk)) s := rfl

@[simp] theorem exec_admissionWrite (complement : Bool) (slot : Fin 512) (v : BitVec 14) (s : State) :
    exec (.admissionWrite complement slot v) s =
    onDev (admWrite complement slot v.toNat) s := rfl

@[simp] theorem exec_fsLimitsWrite (ch : Fin 16) (lim : OpticLimits) (s : State) :
    exec (.fsLimitsWrite ch lim) s =
    onDev (fun d => if d.fs.locked ∨ ¬ chanPresent d ch then d
      else { d with fs := { d.fs with limits := aput d.fs.limits ch lim } }) s := rfl

@[simp] theorem exec_fsSetcfgWrite (guardNs : BitVec 8) (refuseLimit : BitVec 4) (s : State) :
    exec (.fsSetcfgWrite guardNs refuseLimit) s =
    onDev (fun d => { d with fs := { d.fs with nextCfg := some (guardNs.toNat,
      if refuseLimit = 0 then d.fs.refuseLimit else refuseLimit.toNat) } }) s := rfl

@[simp] theorem exec_laneSignalDetected (l : LaneId) (s : State) :
    exec (.laneSignalDetected l) s = onDev (signalDetected (laneKey l)) s := rfl

@[simp] theorem exec_negotiationResolved (port : Fin 96) (s : State) :
    exec (.negotiationResolved port) s = onDev (negotiated port) s := rfl

@[simp] theorem exec_trainingComplete (l : LaneId) (ptx prx : Bool) (s : State) :
    exec (.trainingComplete l ptx prx) s = onDev (trained (laneKey l) ptx prx) s := rfl

@[simp] theorem exec_trainTimeout (l : LaneId) (s : State) :
    exec (.trainTimeout l) s = onDev (trainTimeout (laneKey l)) s := rfl

@[simp] theorem exec_laneLock (l : LaneId) (s : State) :
    exec (.laneLock l) s = onDev (laneLocked (laneKey l)) s := rfl

@[simp] theorem exec_lockTimeout (l : LaneId) (s : State) :
    exec (.lockTimeout l) s = onDev (lockTimeout (laneKey l)) s := rfl

@[simp] theorem exec_exchangeComplete (l : LaneId) (s : State) :
    exec (.exchangeComplete l) s = onDev (exchanged (laneKey l)) s := rfl

@[simp] theorem exec_exchangeTimeout (l : LaneId) (s : State) :
    exec (.exchangeTimeout l) s = onDev (exchangeTimeout (laneKey l)) s := rfl

@[simp] theorem exec_quietPeriodEnd (l : LaneId) (s : State) :
    exec (.quietPeriodEnd l) s = onDev (quietEnd (laneKey l)) s := rfl

@[simp] theorem exec_laneSignalLost (t : Time) (l : LaneId) (s : State) :
    exec (.laneSignalLost t l) s = at_ t (signalLost (laneKey l)) s := rfl

@[simp] theorem exec_lineRetrainTimeout (ch : Fin 16) (l : Lane) (s : State) :
    exec (.lineRetrainTimeout ch l) s = onDev (retrainTimeout (rxKey ch (l == .b))) s := rfl

@[simp] theorem exec_retrain (t : Time) (ch : Fin 16) (s : State) :
    exec (.retrain t ch) s = at_ t (retrainChan ch) s := rfl

@[simp] theorem exec_laneTestStart (t : Time) (lane : Fin 128) (v : Word) (s : State) :
    exec (.laneTestStart t lane v) s = at_ t (testCtrl lane v) s := rfl

@[simp] theorem exec_laneTestStop (lane : Fin 128) (v : Word) (c : LaneCounts) (s : State) :
    exec (.laneTestStop lane v c) s = onDev (testStop lane v c) s := rfl

@[simp] theorem exec_start (lane : Fin 128) (v : Word) (s : State) :
    exec (.start lane v) s = onDev (testCtrl lane v) s := rfl

@[simp] theorem exec_injectOne (lane : Fin 128) (v : Word) (s : State) :
    exec (.injectOne lane v) s = onDev (testInject lane v) s := rfl

@[simp] theorem exec_macFrameReceived (f : MacFrame) (s : State) :
    exec (.macFrameReceived f) s = at_ f.t (fun d => macFrame f (idleExit d)) s := rfl

@[simp] theorem exec_pauseExpiry (t : Time) (n : Fin 96) (p : Fin 8) (s : State) :
    exec (.pauseExpiry t n p) s = at_ t (pauseExpiry n p) s := rfl

@[simp] theorem exec_xoffRepeat (t : Time) (n : Fin 96) (s : State) :
    exec (.xoffRepeat t n) s = at_ t (xoffRepeat n) s := rfl

@[simp] theorem exec_frameTransmit (t : Time) (x : PortRead) (s : State) :
    exec (.frameTransmit t x) s = at_ t (frameTransmit x.port x.bad) s := rfl

@[simp] theorem exec_packetEntry (t : Time) (x : EntryPoint) (s : State) :
    exec (.packetEntry t x) s =
    at_ t (fun d => entryPoint x (idleExit d)) s := rfl

@[simp] theorem exec_secondPass (t : Time) (x : SecondPoint) (s : State) :
    exec (.secondPass t x) s = at_ t (recircPass x) s := rfl

@[simp] theorem exec_fragmentHoldTimeout (t : Time) (pipe : Fin 4) (s : State) :
    exec (.fragmentHoldTimeout t pipe) s = at_ t (holdTimeout pipe) s := rfl

@[simp] theorem exec_fragmentEntryExpiry (t : Time) (pipe : Fin 4) (s : State) :
    exec (.fragmentEntryExpiry t pipe) s = at_ t (fragExpiry pipe) s := rfl

@[simp] theorem exec_slotClaim (t : Time) (path : Path) (k : Fin 4) (s : State) :
    exec (.slotClaim t path k) s =
    at_ t (commandOn path true (slotClaim path k)) s := rfl

@[simp] theorem exec_slotSeal (t : Time) (path : Path) (k : Fin 4) (s : State) :
    exec (.slotSeal t path k) s =
    at_ t (commandOn path true (slotSeal path k)) s := rfl

@[simp] theorem exec_slotAbandon (t : Time) (path : Path) (k : Fin 4) (s : State) :
    exec (.slotAbandon t path k) s =
    at_ t (commandOn path true (slotAbandon path k)) s := rfl

@[simp] theorem exec_slotEvict (t : Time) (path : Path) (k : Fin 4) (s : State) :
    exec (.slotEvict t path k) s =
    at_ t (commandOn path true (slotEvict k)) s := rfl

@[simp] theorem exec_makeCurrent (t : Time) (path : Path) (k : BitVec 8) (s : State) :
    exec (.makeCurrent t path k) s =
    at_ t (commandOn path true (commandCurrent k.toNat)) s := rfl

@[simp] theorem exec_drainSlow (t : Time) (k : Fin 4) (s : State) :
    exec (.drainSlow t k) s = at_ t (drainSlow k) s := rfl

@[simp] theorem exec_windowDataWrite (w : Word) (s : State) :
    exec (.windowDataWrite w) s = onDev (fun d => windowWrite w (idleExit d)) s := rfl

@[simp] theorem exec_windowStatusRead (s : State) :
    exec (.windowStatusRead ) s = onDev (fun d => windowStatusRead (idleExit d)) s := rfl

@[simp] theorem exec_treeScrub (pipe : Fin 4) (addr : BitVec 20) (e : EccResult) (s : State) :
    exec (.treeScrub pipe addr e) s =
    onDev (fun d => treeScrub pipe addr.toNat e (idleExit d)) s := rfl

@[simp] theorem exec_macInsert (x : Descriptor) (s : State) :
    exec (.macInsert x) s = atCore x.t (runDsc (dscOp x == 1) false x (macInsert x)) s := rfl

@[simp] theorem exec_macDelete (x : Descriptor) (s : State) :
    exec (.macDelete x) s = atCore x.t (runDsc (dscOp x == 2) false x (macDelete x)) s := rfl

@[simp] theorem exec_macFind (x : Descriptor) (s : State) :
    exec (.macFind x) s = atCore x.t (runDsc (dscOp x == 3) false x (macFindOp x)) s := rfl

@[simp] theorem exec_macLock (x : Descriptor) (s : State) :
    exec (.macLock x) s = atCore x.t (runDsc (dscOp x == 4) false x (macLockOp x)) s := rfl

@[simp] theorem exec_macWrite (x : Descriptor) (s : State) :
    exec (.macWrite x) s = atCore x.t (runDsc (dscOp x == 5) false x (macWriteOp x)) s := rfl

@[simp] theorem exec_macRead (x : Descriptor) (s : State) :
    exec (.macRead x) s = atCore x.t (runDsc (dscOp x == 6) false x (macReadOp x)) s := rfl

@[simp] theorem exec_trieWrite (x : Descriptor) (s : State) :
    exec (.trieWrite x) s = atCore x.t (runDsc (dscOp x == 7) true x (trieWriteOp x)) s := rfl

@[simp] theorem exec_trieRead (x : Descriptor) (s : State) :
    exec (.trieRead x) s = atCore x.t (runDsc (dscOp x == 8) true x (trieReadOp x)) s := rfl

@[simp] theorem exec_unknownOp (x : Descriptor) (s : State) :
    exec (.unknownOp x) s = 
    atCore x.t (runDsc (dscOp x == 0 || decide (8 < dscOp x)) false x (dscDone x 5 x.w1.toNat [])) s := rfl

@[simp] theorem exec_learnMergeRelease (t : Time) (s : State) :
    exec (.learnMergeRelease t) s = at_ t (fun d => mergeRelease d.fwd.merge.length d) s := rfl

@[simp] theorem exec_learnFilterExpiry (t : Time) (pipe : Fin 4) (s : State) :
    exec (.learnFilterExpiry t pipe) s = at_ t (filterExpiry pipe) s := rfl

@[simp] theorem exec_ageingVisit (t : Time) (s : State) :
    exec (.ageingVisit t) s = atCore t ageingVisit s := rfl

@[simp] theorem exec_tableScrub (t : Time) (table : FwdTable) (a : BitVec 22) (e : EccResult) (s : State) :
    exec (.tableScrub t table a e) s =
    atCore t (tableScrub table a.toNat e) s := rfl

@[simp] theorem exec_shaperRefill (t : Time) (s : State) :
    exec (.shaperRefill t) s = at_ t refillShapers s := rfl

@[simp] theorem exec_policerRefill (t : Time) (s : State) :
    exec (.policerRefill t) s = at_ t refillPolicers s := rfl

@[simp] theorem exec_tmObjectWrite (s : State) :
    exec (.tmObjectWrite ) s = onDev (fun d => accWrite (idleExit d)) s := rfl

@[simp] theorem exec_tmObjectRead (s : State) :
    exec (.tmObjectRead ) s = onDev (fun d => accRead (idleExit d)) s := rfl

@[simp] theorem exec_wardrobeWriteback (n : Nat) (s : State) :
    exec (.wardrobeWriteback n) s = onDev (writebackOldest n) s := rfl

@[simp] theorem exec_queueSample (t : Time) (s : State) :
    exec (.queueSample t) s =
    atCore t (fun d => (sampleList d).foldl (fun d e => sampleQueue e.1 e.2 d) d) s := rfl

@[simp] theorem exec_recordedRateUpdate (t : Time) (s : State) :
    exec (.recordedRateUpdate t) s = at_ t (withSideboard rateUpdate) s := rfl

@[simp] theorem exec_join (t : Time) (o : SbOrigin) (port : BitVec 7) (m : BitVec 10) (s : State) :
    exec (.join t o port m) s =
    at_ t (memberRow o (joinCmd o port.toNat m.toNat)) s := rfl

@[simp] theorem exec_leave (t : Time) (o : SbOrigin) (port : BitVec 7) (m : BitVec 10) (s : State) :
    exec (.leave t o port m) s =
    at_ t (memberRow o (leaveCmd o port.toNat m.toNat)) s := rfl

@[simp] theorem exec_leaveAll (t : Time) (o : SbOrigin) (port : BitVec 7) (s : State) :
    exec (.leaveAll t o port) s = 
    at_ t (memberRow o (leaveAllCmd o port.toNat)) s := rfl

@[simp] theorem exec_replayIssue (t : Time) (ctx : Fin 512) (s : State) :
    exec (.replayIssue t ctx) s = at_ t (withSideboard (replayIssue ctx)) s := rfl

@[simp] theorem exec_splice (t : Time) (ctx : Fin 512) (s : State) :
    exec (.splice t ctx) s = at_ t (withSideboard (spliceCtx ctx)) s := rfl

@[simp] theorem exec_catchupTimeout (t : Time) (ctx : Fin 512) (s : State) :
    exec (.catchupTimeout t ctx) s = at_ t (withSideboard (catchupTimeout ctx)) s := rfl

@[simp] theorem exec_forcedSplice (t : Time) (ctx : Fin 512) (s : State) :
    exec (.forcedSplice t ctx) s = at_ t (withSideboard (forcedSplice ctx)) s := rfl

@[simp] theorem exec_membershipReport (t : Time) (s : State) :
    exec (.membershipReport t) s = at_ t (withSideboard membershipReport) s := rfl

@[simp] theorem exec_generalQuery (t : Time) (port : Fin 96) (s : State) :
    exec (.generalQuery t port) s = at_ t (generalQuery port) s := rfl

@[simp] theorem exec_membershipExpiry (t : Time) (port : Fin 96) (m : BitVec 10) (s : State) :
    exec (.membershipExpiry t port m) s =
    at_ t (withSideboard (membershipExpiry port m.toNat)) s := rfl

@[simp] theorem exec_repairServe (t : Time) (s : State) :
    exec (.repairServe t) s = at_ t (withSideboard repairServe) s := rfl

@[simp] theorem exec_repairBudgetRefill (t : Time) (s : State) :
    exec (.repairBudgetRefill t) s = at_ t (withSideboard refillBudgets) s := rfl

@[simp] theorem exec_tributaryInputLos (k : Fin 32) (s : State) :
    exec (.tributaryInputLos k) s = onDev (inputLos k) s := rfl

@[simp] theorem exec_tributaryLosEnd (k : Fin 32) (s : State) :
    exec (.tributaryLosEnd k) s = onDev (inputBack k) s := rfl

@[simp] theorem exec_controlledSlip (k : Fin 32) (x : Slip) (s : State) :
    exec (.controlledSlip k x) s = onDev (controlledSlip k x) s := rfl

@[simp] theorem exec_tsiWrite (s : State) :
    exec (.tsiWrite ) s = onDev tsiWriteCmd s := rfl

@[simp] theorem exec_tsiRead (s : State) :
    exec (.tsiRead ) s = onDev tsiReadCmd s := rfl

@[simp] theorem exec_tsiSwap (s : State) :
    exec (.tsiSwap ) s = onDev tsiSwapCmd s := rfl

@[simp] theorem exec_tsiAbort (s : State) :
    exec (.tsiAbort ) s = onDev tsiAbortCmd s := rfl

@[simp] theorem exec_swapCommit (t : Time) (s : State) :
    exec (.swapCommit t) s = at_ t swapCommit s := rfl

@[simp] theorem exec_standbyCopyDone (t : Time) (s : State) :
    exec (.standbyCopyDone t) s = at_ t copyDone s := rfl

@[simp] theorem exec_highwayChangeEnd (t : Time) (s : State) :
    exec (.highwayChangeEnd t) s = at_ t changeEnd s := rfl

@[simp] theorem exec_heldTodDue (t : Time) (s : State) :
    exec (.heldTodDue t) s = at_ t heldTodDue s := rfl

@[simp] theorem exec_offsetTimeout (t : Time) (s : State) :
    exec (.offsetTimeout t) s = at_ t offsetTimeout s := rfl

@[simp] theorem exec_softwareOffset (t : Time) (v : Word) (s : State) :
    exec (.softwareOffset t v) s = at_ t (softwareOffset v) s := rfl

@[simp] theorem exec_set (t : Time) (v : Word) (s : State) :
    exec (.set t v) s = at_ t (ltCmd v) s := rfl

@[simp] theorem exec_setLoad (t : Time) (s : State) :
    exec (.setLoad t) s = at_ t setLoad s := rfl

@[simp] theorem exec_ppsPulse (t : Time) (s : State) :
    exec (.ppsPulse t) s = at_ t ppsPulse s := rfl

@[simp] theorem exec_ppsWidthEnd (t : Time) (s : State) :
    exec (.ppsWidthEnd t) s = at_ t ppsEnd s := rfl

@[simp] theorem exec_pltodMessage (t : Time) (s : State) :
    exec (.pltodMessage t) s = at_ t pltod s := rfl

@[simp] theorem exec_longcaseNowRead (t : Time) (s : State) :
    exec (.longcaseNowRead t) s = at_ t longcaseNow s := rfl

@[simp] theorem exec_memoryErrorDetected (e : MemError) (s : State) :
    exec (.memoryErrorDetected e) s = at_ e.t (memoryError e) s := rfl

@[simp] theorem exec_migrationStart (t : Time) (s : State) :
    exec (.migrationStart t) s = at_ t migrationStart s := rfl

@[simp] theorem exec_migrationStep (t : Time) (bad : List (Fin 64)) (s : State) :
    exec (.migrationStep t bad) s =
    onWhole (fun s => migrationStep (bad.map (·.val)) (inDev (tick t) s)) s := rfl

@[simp] theorem exec_rankWithdrawal (t : Time) (s : State) :
    exec (.rankWithdrawal t) s = at_ t rankWithdrawal s := rfl

@[simp] theorem exec_cxlMemAccess (off : Nat) (x : CxlAccess) (s : State) :
    exec (.cxlMemAccess off x) s = onWhole (cxlAccess off x) s := rfl

@[simp] theorem exec_hostReset (t : Time) (c : HostResetCause) (s : State) :
    exec (.hostReset t c) s = at_ t (hostResetBy c) s := rfl

@[simp] theorem exec_linkTrained (t : Time) (l : LinkTraining) (s : State) :
    exec (.linkTrained t l) s = at_ t (linkTrained l) s := rfl

@[simp] theorem exec_ringDoorbell (t : Time) (r : RingId) (ix : RingIndex) (s : State) :
    exec (.ringDoorbell t r ix) s =
    at_ t (fun d => doorbell (ringNo r) ix (ringIdleExit (ringNo r) d)) s := rfl

@[simp] theorem exec_tailLineSnoop (t : Time) (r : RingId) (ix : RingIndex) (s : State) :
    exec (.tailLineSnoop t r ix) s =
    at_ t (fun d => tailSnoop (ringNo r) ix (ringIdleExit (ringNo r) d)) s := rfl

@[simp] theorem exec_ringDisable (r : RingId) (s : State) :
    exec (.ringDisable r) s = onDev (fun d => if ringAbsent d (ringNo r) then d else ringStop (ringNo r) d) s := rfl

@[simp] theorem exec_ringWriteback (t : Time) (r : RingId) (s : State) :
    exec (.ringWriteback t r) s =
    at_ t (fun d => if writeBackDue d (ringNo r) then writeBack (ringNo r) d else d) s := rfl

@[simp] theorem exec_hostTransmit (x : TxDescriptor) (s : State) :
    exec (.hostTransmit x) s = at_ x.t (fun d => hostTransmit x (idleExit d)) s := rfl

@[simp] theorem exec_drawerRead (n : Fin 104) (slot : Fin 4) (s : State) :
    exec (.drawerRead n slot) s = onDev (drawerRead n slot) s := rfl

@[simp] theorem exec_drawerFlush (n : Fin 104) (v : Word) (s : State) :
    exec (.drawerFlush n v) s = onDev (drawerFlush n v) s := rfl

@[simp] theorem exec_drawerLevelWrite (n : Fin 104) (v : Word) (s : State) :
    exec (.drawerLevelWrite n v) s = onDev (drawerLevel n v) s := rfl

@[simp] theorem exec_drawerConsumerWrite (n : Fin 104) (v : Word) (s : State) :
    exec (.drawerConsumerWrite n v) s = onDev (drawerConsumer n v) s := rfl

@[simp] theorem exec_drawerDmaCopy (t : Time) (n : Fin 104) (s : State) :
    exec (.drawerDmaCopy t n) s = at_ t (drawerCopy n) s := rfl

@[simp] theorem exec_vectorUnmask (v : Fin 2048) (s : State) :
    exec (.vectorUnmask v) s = onDev (unmask v) s := rfl

@[simp] theorem exec_registerWrite (x : HostAccess) (s : State) :
    exec (.registerWrite x) s = at_ x.t (fsDrive (hostAccess x)) s := rfl

@[simp] theorem exec_read (hd : DictHead) (rs : List (BitVec 16 × BitVec 8)) (s : State) :
    exec (.read hd rs) s =
    onRequest hd 0x01 0 rs.length 0 0 (readBody rs) (readOp hd.path hd.reqId rs) s := rfl

@[simp] theorem exec_write (hd : DictHead) (rs : List WriteRec) (s : State) :
    exec (.write hd rs) s =
    onRequest hd 0x02 0 rs.length 0 0 (writeBody rs) (writeOp hd.path hd.reqId rs) s := rfl

@[simp] theorem exec_open (hd : DictHead) (s : State) :
    exec (.open_ hd) s = onRequest hd 0x03 0 0 0 0 [] (openTxn hd.path hd.reqId) s := rfl

@[simp] theorem exec_commit (hd : DictHead) (t : Option TimeVal) (s : State) :
    exec (.commit hd t) s =
    onRequest hd 0x04 t.isSome.toNat 0 (t.map (·.seconds.toNat) |>.getD 0) (t.map (·.ns.toNat) |>.getD 0) []
      (commitOp hd.path hd.reqId t) s := rfl

@[simp] theorem exec_abort (hd : DictHead) (s : State) :
    exec (.abort hd) s = onRequest hd 0x05 0 0 0 0 [] (abortOp hd.path hd.reqId) s := rfl

@[simp] theorem exec_query (hd : DictHead) (s : State) :
    exec (.query hd) s = onRequest hd 0x06 0 0 0 0 [] (queryOp hd.path hd.reqId) s := rfl

@[simp] theorem exec_commitPoint (t : Time) (p : Path) (s : State) :
    exec (.commitPoint t p) s = at_ t (fsDrive (commitPoint p)) s := rfl

@[simp] theorem exec_transactionIdleTimeout (t : Time) (p : Path) (s : State) :
    exec (.transactionIdleTimeout t p) s = at_ t (txnIdle p) s := rfl

@[simp] theorem exec_dictionarySave (t : Time) (ok : Bool) (s : State) :
    exec (.dictionarySave t ok) s = at_ t (dictSave ok) s := rfl

@[simp] theorem exec_restoreDefaults (t : Time) (p : Path) (v : BitVec 16) (s : State) :
    exec (.restoreDefaults t p v) s =
    at_ t (commandOn p false (fun d =>
      if v = 0x0DEF then (0, { d with dic := { d.dic with restore := true } }) else (0x05, d))) s := rfl

@[simp] theorem exec_taskSubmit (x : TaskDesc) (s : State) :
    exec (.taskSubmit x) s = at_ x.t (taskSubmit x) s := rfl

@[simp] theorem exec_taskDispatch (t : Time) (s : State) :
    exec (.taskDispatch t) s = at_ t dispatchAll s := rfl

@[simp] theorem exec_affinityWindowExpiry (t : Time) (h : BitVec 12) (s : State) :
    exec (.affinityWindowExpiry t h) s = at_ t (affinityExpiry h.toNat) s := rfl

@[simp] theorem exec_taskComplete (t : Time) (k : Fin 16) (status : BitVec 3) (a : TaskAnswer) (s : State) :
    exec (.taskComplete t k status a) s =
    at_ t (taskComplete k status.toNat a) s := rfl

@[simp] theorem exec_taskFault (t : Time) (k : Fin 16) (cause : TaskFaultCause) (s : State) :
    exec (.taskFault t k cause) s = at_ t (taskFault k cause) s := rfl

@[simp] theorem exec_taskCancel (t : Time) (h : BitVec 12) (s : State) :
    exec (.taskCancel t h) s = at_ t (taskCancel h.toNat) s := rfl

@[simp] theorem exec_hostHandlesWrite (v : Word) (s : State) :
    exec (.hostHandlesWrite v) s = onDev (hostHandlesWrite v) s := rfl

@[simp] theorem exec_watchdogExpiry (t : Time) (s : State) :
    exec (.watchdogExpiry t) s = at_ t (fsDrive (secretaryRestart 1)) s := rfl

@[simp] theorem exec_secretaryException (t : Time) (s : State) :
    exec (.secretaryException t) s = at_ t (fsDrive (secretaryRestart 2)) s := rfl

@[simp] theorem exec_clusterLoad (t : Time) (c : Fin 4) (digestOk secondOk : Bool) (s : State) :
    exec (.clusterLoad t c digestOk secondOk) s =
    onWhole (fun s => clusterStart c digestOk secondOk (inDev (tick t) s)) s := rfl

@[simp] theorem exec_restartCluster (t : Time) (p : Path) (v : BitVec 8) (s : State) :
    exec (.restartCluster t p v) s =
    at_ t (commandOn p false (restartCmd v.toNat)) s := rfl

@[simp] theorem exec_restartSecretary (t : Time) (p : Path) (v : BitVec 16) (s : State) :
    exec (.restartSecretary t p v) s =
    at_ t (fsDrive (restartSecretaryOn p v.toNat)) s := rfl

@[simp] theorem exec_requestRunFull (t : Time) (o : PowerOrigin) (s : State) :
    exec (.requestRunFull t o) s = at_ t (fsDrive (powerRow 1 0 o)) s := rfl

@[simp] theorem exec_requestRunLifeline (t : Time) (o : PowerOrigin) (s : State) :
    exec (.requestRunLifeline t o) s = at_ t (fsDrive (powerRow 2 0 o)) s := rfl

@[simp] theorem exec_requestSleep (t : Time) (o : PowerOrigin) (period : Nat) (s : State) :
    exec (.requestSleep t o period) s =
    at_ t (fsDrive (powerRow 3 period o)) s := rfl

@[simp] theorem exec_requestDeepSleep (t : Time) (o : PowerOrigin) (s : State) :
    exec (.requestDeepSleep t o) s = at_ t (fsDrive (powerRow 4 0 o)) s := rfl

@[simp] theorem exec_requestOff (t : Time) (o : PowerOrigin) (s : State) :
    exec (.requestOff t o) s = at_ t (fsDrive (powerRow 5 0 o)) s := rfl

@[simp] theorem exec_noticeWaitExpiry (t : Time) (s : State) :
    exec (.noticeWaitExpiry t) s = at_ t (fsDrive noticeExpiry) s := rfl

@[simp] theorem exec_powerChangeCommit (t : Time) (s : State) :
    exec (.powerChangeCommit t) s = at_ t (fsDrive commitP) s := rfl

@[simp] theorem exec_retentionCommit (t : Time) (s : State) :
    exec (.retentionCommit t) s = at_ t (fsDrive retentionCommit) s := rfl

@[simp] theorem exec_railAcknowledged (t : Time) (r : Fin 5) (s : State) :
    exec (.railAcknowledged t r) s = at_ t (fsDrive (railAck r)) s := rfl

@[simp] theorem exec_railAckTimeout (t : Time) (r : Fin 5) (s : State) :
    exec (.railAckTimeout t r) s = at_ t (fsDrive (railTimeout r)) s := rfl

@[simp] theorem exec_idleEntry (t : Time) (s : State) :
    exec (.idleEntry t) s = at_ t idleEntry s := rfl

@[simp] theorem exec_lossOfLine (t : Time) (s : State) :
    exec (.lossOfLine t) s = at_ t (fsDrive lossOfLine) s := rfl

@[simp] theorem exec_lifelineHoldExpiry (t : Time) (s : State) :
    exec (.lifelineHoldExpiry t) s = at_ t (fsDrive holdExpiry) s := rfl

@[simp] theorem exec_lifelineRestoreExpiry (t : Time) (s : State) :
    exec (.lifelineRestoreExpiry t) s = at_ t (fsDrive restoreExpiry) s := rfl

@[simp] theorem exec_wakePin (t : Time) (level : Bool) (s : State) :
    exec (.wakePin t level) s = at_ t (fsDrive (wakePin level)) s := rfl

@[simp] theorem exec_twoWireAddressMatch (x : TwoWireMatch) (s : State) :
    exec (.twoWireAddressMatch x) s = at_ x.t (fsDrive (twoWire x)) s := rfl

@[simp] theorem exec_lineTimerExpiry (t : Time) (s : State) :
    exec (.lineTimerExpiry t) s = at_ t (fsDrive lineTimer) s := rfl

@[simp] theorem exec_oscRdy (b : BootInputs) (s : State) :
    exec (.oscRdy b) s =
    onWhole (fun s =>
      let d := fsDrive (fun d => oscRdy b (tick b.t d)) s.dev
      if bootClears s.dev d then clearedMemory { s with dev := d } else { s with dev := d }) s := rfl

@[simp] theorem exec_oscRdyTimeout (t : Time) (s : State) :
    exec (.oscRdyTimeout t) s = at_ t (fsDrive oscTimeout) s := rfl

@[simp] theorem exec_clear (k : Fin 64) (v : Word) (s : State) :
    exec (.clear k v) s = onDev (selClear k v) s := rfl

@[simp] theorem exec_selectableCounterRead (k : Fin 64) (s : State) :
    exec (.selectableCounterRead k) s = onDev (selRead k) s := rfl

@[simp] theorem exec_counterPageCopy (t : Time) (ok : Bool) (s : State) :
    exec (.counterPageCopy t ok) s = at_ t (pagesCopy ok) s := rfl

@[simp] theorem exec_arm (t : Time) (o : CabOrigin) (s : State) :
    exec (.arm t o) s = at_ t (cabArmed o) s := rfl

@[simp] theorem exec_cabinetAbort (t : Time) (o : CabOrigin) (s : State) :
    exec (.cabinetAbort t o) s = at_ t (cabAborted o) s := rfl

@[simp] theorem exec_cabinetLatch (t : Time) (s : State) :
    exec (.cabinetLatch t) s = at_ t cabLatch s := rfl

@[simp] theorem exec_cabinetDrainDone (t : Time) (s : State) :
    exec (.cabinetDrainDone t) s = at_ t cabDrained s := rfl

@[simp] theorem exec_cabinetWindowRead (s : State) :
    exec (.cabinetWindowRead ) s = onDev cabRead s := rfl

@[simp] theorem exec_dieTempSample (t : Time) (n : Fin 16) (temp : BitVec 12) (s : State) :
    exec (.dieTempSample t n temp) s =
    at_ t (fsDrive (dieSample n temp.toInt)) s := rfl

@[simp] theorem exec_hbmTempReport (t : Time) (n : Fin 5) (temp : BitVec 8) (s : State) :
    exec (.hbmTempReport t n temp) s =
    at_ t (fsDrive (hbmReport n temp.toNat)) s := rfl

@[simp] theorem exec_hardwareThermalTrip (t : Time) (n : Fin 16) (s : State) :
    exec (.hardwareThermalTrip t n) s = at_ t (fsDrive (thermalTrip 2 n)) s := rfl

@[simp] theorem exec_thermalIsolation (t : Time) (s : State) :
    exec (.thermalIsolation t) s = at_ t (fsDrive thermalIsolate) s := rfl

@[simp] theorem exec_voltageSample (t : Time) (r : Fin 8) (mv : BitVec 16) (s : State) :
    exec (.voltageSample t r mv) s = at_ t (voltageSample r mv.toNat) s := rfl

@[simp] theorem exec_temperaturePeakRead (n : Fin 16) (s : State) :
    exec (.temperaturePeakRead n) s = onDev (peakRead n) s := rfl

@[simp] theorem exec_hello (m : WaifelMsg) (s : State) :
    exec (.hello m) s = at_ m.t (helloOp m) s := rfl

@[simp] theorem exec_openSession (m : WaifelMsg) (s : State) :
    exec (.openSession m) s = at_ m.t (openOp m) s := rfl

@[simp] theorem exec_close (m : WaifelMsg) (s : State) :
    exec (.close m) s = at_ m.t (inSession m 0x30 m.payload.isEmpty endSession) s := rfl

@[simp] theorem exec_sessionOpenTimeout (t : Time) (i : Fin 4) (s : State) :
    exec (.sessionOpenTimeout t i) s = at_ t (openTimeout (i.val + 1)) s := rfl

@[simp] theorem exec_sessionIdleTimeout (t : Time) (i : Fin 4) (s : State) :
    exec (.sessionIdleTimeout t i) s = at_ t (idleTimeout (i.val + 1)) s := rfl

@[simp] theorem exec_servicePortFrame (t : Time) (bs : List Byte) (s : State) :
    exec (.servicePortFrame t bs) s = at_ t (serviceOp bs) s := rfl

@[simp] theorem exec_imageBegin (m : WaifelMsg) (s : State) :
    exec (.imageBegin m) s =
    at_ m.t (inSession m 0x20 (m.payload.length == 8 && decide ((m.payload.getD 0 0).toNat ≤ 1)) (imageBegin m)) s := rfl

@[simp] theorem exec_imageBlock (m : WaifelMsg) (s : State) :
    exec (.imageBlock m) s =
    at_ m.t (inSession m 0x21 (decide (5 ≤ m.payload.length) && decide (m.payload.length ≤ 1028)) (imageBlock m)) s := rfl

@[simp] theorem exec_imageEnd (m : WaifelMsg) (s : State) :
    exec (.imageEnd m) s = at_ m.t (inSession m 0x22 m.payload.isEmpty (imageEnd m)) s := rfl

@[simp] theorem exec_setServiceKey (t : Time) (p : Path) (key : BitVec 256) (s : State) :
    exec (.setServiceKey t p key) s =
    at_ t (commandOn p true (fun d => (0, setServiceKey key d))) s := rfl

@[simp] theorem exec_activationRequest (t : Time) (p : Path) (s : State) :
    exec (.activationRequest t p) s =
    at_ t (commandOn p true (fun d => (0, activationAsk d))) s := rfl

@[simp] theorem exec_activationAbort (t : Time) (p : Path) (s : State) :
    exec (.activationAbort t p) s = at_ t (commandOn p true activationAbort) s := rfl

@[simp] theorem exec_activationCommit (t : Time) (s : State) :
    exec (.activationCommit t) s = at_ t (fsDrive activationCommit) s := rfl

@[simp] theorem exec_confirm (t : Time) (p : Path) (v : BitVec 8) (s : State) :
    exec (.confirm t p v) s = at_ t (commandOn p true (confirmCmd v.toNat)) s := rfl

@[simp] theorem exec_autoConfirm (t : Time) (s : State) :
    exec (.autoConfirm t) s = at_ t autoConfirm s := rfl

@[simp] theorem exec_trialTimeout (t : Time) (s : State) :
    exec (.trialTimeout t) s = at_ t (fsDrive trialTimeout) s := rfl

@[simp] theorem exec_porstAssert (t : Time) (s : State) :
    exec (.porstAssert t) s = .next { s with dev := fsDrive (porstAssert t) s.dev } := rfl

@[simp] theorem exec_powerGood (b : BootInputs) (s : State) :
    exec (.powerGood b) s =
    .next (if s.dev.porstLow then clearedMemory { s with dev := fsDrive (powerGood b) s.dev } else s) := rfl

@[simp] theorem exec_warmReset (b : BootInputs) (s : State) :
    exec (.warmReset b) s =
    .next (if warmTaken s.dev then clearedMemory { s with dev := fsDrive (fun d => warmReset b (tick b.t d)) s.dev } else s) := rfl

@[simp] theorem exec_lineStartRelease (t : Time) (s : State) :
    exec (.lineStartRelease t) s = at_ t (fsDrive lineStart) s := rfl

@[simp] theorem exec_killRelease (t : Time) (s : State) :
    exec (.killRelease t) s = at_ t (fsDrive killRelease) s := rfl

@[simp] theorem exec_avsTrack (t : Time) (target : BitVec 16) (s : State) :
    exec (.avsTrack t target) s = at_ t (avsTrack target.toNat) s := rfl

@[simp] theorem exec_battNChange (t : Time) (level : Bool) (s : State) :
    exec (.battNChange t level) s = at_ t (battChange level) s := rfl

@[simp] theorem exec_killSenseMismatch (t : Time) (out : KillOut) (s : State) :
    exec (.killSenseMismatch t out) s =
    at_ t (fsDrive (fun d => match out with
      | .tx ch => if chanPresent d ch then failDark 7 d else d
      | .all => failDark 7 d)) s := rfl

@[simp] theorem exec_checkerLock (lane : Fin 128) (s : State) :
    exec (.checkerLock lane) s = onDev (checkerLock lane) s := rfl

@[simp] theorem exec_checkerLockLoss (lane : Fin 128) (c : LaneCounts) (s : State) :
    exec (.checkerLockLoss lane c) s = onDev (checkerLoss lane c) s := rfl

@[simp] theorem exec_negotiationFailure (port : Fin 96) (s : State) :
    exec (.negotiationFailure port) s = onDev (negotiationFailed port) s := rfl

@[simp] theorem exec_hbmReportMissed (t : Time) (n : Fin 5) (s : State) :
    exec (.hbmReportMissed t n) s = at_ t (hbmMissed n) s := rfl

@[simp] theorem exec_secretaryRestartDone (x : RestartInputs) (s : State) :
    exec (.secretaryRestartDone x) s = at_ x.t (fsDrive (restartDone x)) s := rfl

@[simp] theorem exec_malformedRequest (hd : DictHead) (bytes : Option (List Byte)) (s : State) :
    exec (.malformedRequest hd bytes) s = at_ hd.t (malformed hd bytes) s := rfl

end Sys2Proof.Laws
end

