-- ==== Sys2Proof/Laws/Effects.lean ====
section
/-!
SUPPORT. Laws/Effects.lean: what the shared operations leave in registers, fields and counters: what each sets, and that it
leaves the others.
-/

namespace Sys2Proof.Laws

open Sys2Proof Sys2Proof.Machine

/-! ## Registers under the shared operations -/

@[simp] theorem reg_emit (e : Emission) (d : Dev) (r : Reg) (i : Nat) : reg (emit e d) r i = reg d r i := rfl

@[simp] theorem reg_signal (v : Nat) (d : Dev) (r : Reg) (i : Nat) : reg (signal v d) r i = reg d r i := by
  simp only [reg, signal]
  split
  · rfl
  · split <;> rfl

@[simp] theorem fld_emit (e : Emission) (d : Dev) (f : Fld) (i : Nat) : fld (emit e d) f i = fld d f i := rfl

@[simp] theorem fld_signal (v : Nat) (d : Dev) (f : Fld) (i : Nat) : fld (signal v d) f i = fld d f i := by simp [fld]

theorem reg_raise (f : Fld) (i : Nat) (d : Dev) (r : Reg) (j : Nat) : reg (raise f i d) r j = reg (setFld f i 1 d) r j := by
  simp only [raise]
  split <;> simp

theorem fld_raise (f : Fld) (i : Nat) (d : Dev) (g : Fld) (j : Nat) : fld (raise f i d) g j = fld (setFld f i 1 d) g j := by
  simp only [fld, reg_raise]

/-- A register that a frame does not name reads as before. -/
theorem Frame_reg {ps : List Piece} {rs : List Reg} {a b : Dev} (h : Frame ps rs a b) {r : Reg} {i : Nat} (hr : r ∉ rs)
    (hi : i < (regPlace r).2.2) : reg b r i = reg a r i := h.2 r i hr hi

/-- So does a field of it. -/
theorem Frame_fld {ps : List Piece} {rs : List Reg} {a b : Dev} (h : Frame ps rs a b) {f : Fld} {i : Nat} (hr : f.reg ∉ rs)
    (hi : i < (regPlace f.reg).2.2) : fld b f i = fld a f i := by simp only [fld, Frame_reg h hr hi]

theorem reg_countN (c : CName) (k n : Nat) (d : Dev) {r : Reg} {i : Nat} (hr : r ∉ countRegs) (hi : i < (regPlace r).2.2) :
    reg (countN c k n d) r i = reg d r i := Frame_reg (frame_countN c k n d) hr hi

theorem fld_countN (c : CName) (k n : Nat) (d : Dev) {f : Fld} {i : Nat} (hr : f.reg ∉ countRegs)
    (hi : i < (regPlace f.reg).2.2) : fld (countN c k n d) f i = fld d f i := Frame_fld (frame_countN c k n d) hr hi

theorem reg_count (c : CName) (k : Nat) (d : Dev) {r : Reg} {i : Nat} (hr : r ∉ countRegs) (hi : i < (regPlace r).2.2) :
    reg (count c k d) r i = reg d r i := reg_countN c k 1 d hr hi

theorem fld_count (c : CName) (k : Nat) (d : Dev) {f : Fld} {i : Nat} (hr : f.reg ∉ countRegs)
    (hi : i < (regPlace f.reg).2.2) : fld (count c k d) f i = fld d f i := fld_countN c k 1 d hr hi

theorem reg_tick (t : Time) (d : Dev) {r : Reg} {i : Nat} (hr : r ∉ timeRegs) (hi : i < (regPlace r).2.2) :
    reg (tick t d) r i = reg d r i := Frame_reg (frame_tick t d) hr hi

theorem fld_tick (t : Time) (d : Dev) {f : Fld} {i : Nat} (hr : f.reg ∉ timeRegs)
    (hi : i < (regPlace f.reg).2.2) : fld (tick t d) f i = fld d f i := Frame_fld (frame_tick t d) hr hi

/-- A register of another name under a raised event. -/
theorem reg_raise_ne (f : Fld) (i : Nat) (d : Dev) {r : Reg} {j : Nat} (hr : r ≠ f.reg) (hi : i < (regPlace f.reg).2.2)
    (hj : j < (regPlace r).2.2) : reg (raise f i d) r j = reg d r j := by
  rw [reg_raise]; exact reg_setReg_ne hr _ _ hi hj

/-- A field of another register under a raised event. -/
theorem fld_raise_ne (f g : Fld) (i j : Nat) (d : Dev) (hr : g.reg ≠ f.reg) (hi : i < (regPlace f.reg).2.2)
    (hj : j < (regPlace g.reg).2.2) : fld (raise f i d) g j = fld d g j := by
  rw [fld_raise]; exact fld_setFld_ne f g i j 1 d hr hi hj

/-- Another field of the register of a raised event. -/
theorem fld_raise_apart (f g : Fld) (i : Nat) (d : Dev) (hr : g.reg = f.reg) (h : f.lo ≤ f.hi) (h' : f.hi < 48)
    (hg : g.lo ≤ g.hi) (ha : f.hi < g.lo ∨ g.hi < f.lo) : fld (raise f i d) g i = fld d g i := by
  rw [fld_raise]; exact fld_setFld_apart f g i 1 d hr h h' hg ha

/-- An event bit that was raised reads 1. -/
theorem fld_raise_same (f : Fld) (i : Nat) (d : Dev) (h : f.lo ≤ f.hi) (h' : f.hi < 48) : fld (raise f i d) f i = 1 := by
  rw [fld_raise, fld_setFld_same f i 1 d h h']
  refine Nat.mod_eq_of_lt ?_
  exact Nat.lt_of_lt_of_le (by decide : 1 < 2 ^ 1) (Nat.pow_le_pow_right (by omega) (by omega))

/-- Fields read the same where registers are the same. -/
theorem fld_of_regs {a b : Dev} (h : b.regs = a.regs) (f : Fld) (i : Nat) : fld b f i = fld a f i := by simp only [fld, reg, h]

theorem reg_of_regs {a b : Dev} (h : b.regs = a.regs) (r : Reg) (i : Nat) : reg b r i = reg a r i := by simp only [reg, h]

/-! ## Counters -/

theorem counter_of_cnt {a b : Dev} (h : b.cnt = a.cnt) (c : CName) (k : Nat) : counter b c k = counter a c k := by
  simp only [counter, h]

@[simp] theorem counter_emit (e : Emission) (d : Dev) (c : CName) (k : Nat) : counter (emit e d) c k = counter d c k := rfl

@[simp] theorem counter_setReg (r : Reg) (i : Nat) (v : Word) (d : Dev) (c : CName) (k : Nat) :
    counter (setReg r i v d) c k = counter d c k := rfl

@[simp] theorem counter_setFld (f : Fld) (i v : Nat) (d : Dev) (c : CName) (k : Nat) :
    counter (setFld f i v d) c k = counter d c k := rfl

@[simp] theorem counter_raise (f : Fld) (i : Nat) (d : Dev) (c : CName) (k : Nat) :
    counter (raise f i d) c k = counter d c k := counter_of_cnt (raise_cnt f i d) c k

@[simp] theorem counter_raiseIf (b : Bool) (f : Fld) (i : Nat) (d : Dev) (c : CName) (k : Nat) :
    counter (raiseIf b f i d) c k = counter d c k := counter_of_cnt (raiseIf_cnt b f i d) c k

@[simp] theorem counter_signal (v : Nat) (d : Dev) (c : CName) (k : Nat) : counter (signal v d) c k = counter d c k :=
  counter_of_cnt (signal_cnt v d) c k

@[simp] theorem counter_modChan (n : Nat) (f : Chan → Chan) (d : Dev) (c : CName) (k : Nat) :
    counter (modChan n f d) c k = counter d c k := rfl

theorem selPut_values (k v : Nat) (d : Dev) : (selPut k v d).cnt.values = d.cnt.values := rfl

theorem setFld_values (f : Fld) (i v : Nat) (d : Dev) : (setFld f i v d).cnt.values = d.cnt.values :=
  congrArg CounterSt.values (setFld_cnt f i v d)

theorem ite_values (p : Prop) [Decidable p] {a b c : Dev} (h : b.cnt.values = a.cnt.values)
    (k : c.cnt.values = a.cnt.values) : (if p then b else c).cnt.values = a.cnt.values := by split <;> assumption

theorem selWrap_values (k : Nat) (d : Dev) : (selWrap k d).cnt.values = d.cnt.values := by
  rw [selWrap, raise_cnt, setFld_values]

theorem wrapFlag_values (n : Option Nat) (d : Dev) : (wrapFlag n d).cnt.values = d.cnt.values := by
  cases n
  · rfl
  · exact congrArg CounterSt.values (setReg_cnt _ _ _ _)

/-- The per-event counters are the same after a selectable counter moved. -/
theorem selAdd_values (k n : Nat) (d : Dev) : (selAdd k n d).cnt.values = d.cnt.values := by
  refine ite_values _ (selPut_values _ _ _) (ite_values _ (ite_values _ ?_ ?_) ?_)
  · rw [selPut_values, selWrap_values, selPut_values]
  · rw [selWrap_values, selPut_values, selWrap_values, selPut_values]
  · rw [selWrap_values, selPut_values]

theorem foldl_values {β : Type} (f : Dev → β → Dev) (h : ∀ d x, (f d x).cnt.values = d.cnt.values) :
    ∀ (l : List β) (d : Dev), (l.foldl f d).cnt.values = d.cnt.values
  | [], _ => rfl
  | x :: l, d => (foldl_values f h l (f d x)).trans (h d x)

theorem selFeed_values (src : Nat → Bool) (n m : Nat) (d : Dev) : (selFeed src n m d).cnt.values = d.cnt.values := by
  simp only [selFeed]
  refine foldl_values _ (fun d k => ?_) _ d
  split
  · exact selAdd_values _ _ _
  · rfl

/-- A counted event's effect on the per-event counters. -/
theorem countN_values (c : CName) (k n : Nat) (d : Dev) :
    (countN c k n d).cnt.values =
      if n = 0 then d.cnt.values
      else aputD d.cnt.values (ckey c k) (BitVec.ofNat 48 ((counter d c k).toNat + n)) 0 := by
  simp only [countN]
  split
  · rfl
  · split
    · split
      · exact selFeed_values _ _ _ _
      · rfl
    · rw [raise_cnt, wrapFlag_values]
      split
      · exact selFeed_values _ _ _ _
      · rfl

/-- A counter raised by an amount reads that much more (R574). -/
theorem counter_countN_same (c : CName) (k n : Nat) (d : Dev) :
    counter (countN c k n d) c k = counter d c k + BitVec.ofNat 48 n := by
  simp only [counter, countN_values]
  split
  · rename_i h; simp [h]
  · rw [agetD_aputD_same]
    apply BitVec.eq_of_toNat_eq
    simp

/-- Another counter reads as before. -/
theorem counter_countN_ne (c c' : CName) (k k' n : Nat) (d : Dev) (h : ckey c' k' ≠ ckey c k) :
    counter (countN c k n d) c' k' = counter d c' k' := by
  simp only [counter, countN_values]
  split
  · rfl
  · exact agetD_aputD_ne _ _ _ _ h

/-- A counted event raises its counter by one. -/
@[simp] theorem counter_count_same (c : CName) (k : Nat) (d : Dev) : counter (count c k d) c k = counter d c k + 1 :=
  counter_countN_same c k 1 d

theorem counter_count_ne (c c' : CName) (k k' : Nat) (d : Dev) (h : ckey c' k' ≠ ckey c k) :
    counter (count c k d) c' k' = counter d c' k' := counter_countN_ne c c' k k' 1 d h

/-- Time does not move the per-event counters. -/
@[simp] theorem counter_tick (t : Time) (d : Dev) (c : CName) (k : Nat) : counter (tick t d) c k = counter d c k := by
  have v : ∀ (p : Prop) [Decidable p] (q : Nat → Bool) (n : Nat) (a : Dev),
      (if p then selFeed q n n a else a).cnt.values = a.cnt.values := fun p _ q n a => by
    split
    · exact selFeed_values q n n a
    · rfl
  simp only [counter, tick]
  split
  · split
    · rw [v]
    · rw [selFeed_values, v]
  · rfl

/-- Time moves to the later of two instants (R417). -/
@[simp] theorem tick_now (t : Time) (d : Dev) : (tick t d).now = max d.now t := by
  have f : ∀ (q : Nat → Bool) (n : Nat) (d : Dev), (selFeed q n n d).now = d.now := fun q n d =>
    (frame_selFeed q n n d).1 .now (by decide)
  have v : ∀ (p : Prop) [Decidable p] (q : Nat → Bool) (n : Nat) (a : Dev),
      (if p then selFeed q n n a else a).now = a.now := fun p _ q n a => by
    split
    · exact f q n a
    · rfl
  simp only [tick]
  split
  · split
    · rw [v]
    · rw [f, v]
  · rfl

/-! ## Channels -/

@[simp] theorem chan_modChan_same (n : Nat) (f : Chan → Chan) (d : Dev) : chan (modChan n f d) n = f (chan d n) := by
  simp [chan, modChan]

theorem chan_modChan_ne {n m : Nat} (f : Chan → Chan) (d : Dev) (h : m ≠ n) : chan (modChan n f d) m = chan d m :=
  agetD_aputD_ne _ _ _ _ h

theorem chan_of_chans {a b : Dev} (h : b.chans = a.chans) (n : Nat) : chan b n = chan a n := by simp only [chan, h]

/-! ## Drawers -/

@[simp] theorem drawer_setDrawer_same (n : Nat) (w : Drawer) (d : Dev) : drawer (setDrawer n w d) n = w := by
  simp [drawer, setDrawer]

theorem drawer_setDrawer_ne {n m : Nat} (w : Drawer) (d : Dev) (h : m ≠ n) : drawer (setDrawer n w d) m = drawer d m :=
  agetD_aputD_ne _ _ _ _ h

end Sys2Proof.Laws
end

