-- ==== Sys2Proof/Laws/Drive.lean ====
section
/-!
SUPPORT. Laws/Drive.lean: the kill outputs that a command drives change nothing but what left the part (R201).
-/

namespace Sys2Proof.Laws

open Sys2Proof Sys2Proof.Machine

/-- Emissions alone: a fold of them leaves everything else. -/
theorem emits_only {β : Type} (f : Dev → β → Dev) (h : ∀ d x, ∃ es, f d x = { d with emitted := es ++ d.emitted }) :
    ∀ (l : List β) (d : Dev), ∃ es, l.foldl f d = { d with emitted := es ++ d.emitted }
  | [], d => ⟨[], rfl⟩
  | x :: l, d => by
    obtain ⟨e1, h1⟩ := h d x
    obtain ⟨e2, h2⟩ := emits_only f h l (f d x)
    refine ⟨e2 ++ e1, ?_⟩
    rw [List.foldl_cons, h2, h1, List.append_assoc]

/-- Driving the kill outputs adds to what left the part and changes nothing else (R201). -/
theorem fsDrive_eq (f : Dev → Dev) (d : Dev) :
    ∃ es, fsDrive f d = { f d with emitted := es ++ (f d).emitted } := by
  simp only [fsDrive]
  obtain ⟨e1, h1⟩ := emits_only (fun x n => if txKillOn d n = txKillOn (f d) n then x else emit (.txKill n (txKillOn (f d) n)) x)
    (fun x n => by
      split
      · exact ⟨[], rfl⟩
      · exact ⟨[_], rfl⟩) (presentChans (f d)) (f d)
  rw [h1]
  split
  · exact ⟨e1, rfl⟩
  · exact ⟨_ :: e1, rfl⟩

@[simp] theorem fsDrive_part (f : Dev → Dev) (d : Dev) : (fsDrive f d).part = (f d).part := by
  obtain ⟨es, h⟩ := fsDrive_eq f d
  rw [h]

@[simp] theorem fsDrive_now (f : Dev → Dev) (d : Dev) : (fsDrive f d).now = (f d).now := by
  obtain ⟨es, h⟩ := fsDrive_eq f d
  rw [h]

@[simp] theorem fsDrive_freeCtr (f : Dev → Dev) (d : Dev) : (fsDrive f d).freeCtr = (f d).freeCtr := by
  obtain ⟨es, h⟩ := fsDrive_eq f d
  rw [h]

@[simp] theorem fsDrive_porstLow (f : Dev → Dev) (d : Dev) : (fsDrive f d).porstLow = (f d).porstLow := by
  obtain ⟨es, h⟩ := fsDrive_eq f d
  rw [h]

@[simp] theorem fsDrive_regs (f : Dev → Dev) (d : Dev) : (fsDrive f d).regs = (f d).regs := by
  obtain ⟨es, h⟩ := fsDrive_eq f d
  rw [h]

@[simp] theorem fsDrive_dict (f : Dev → Dev) (d : Dev) : (fsDrive f d).dict = (f d).dict := by
  obtain ⟨es, h⟩ := fsDrive_eq f d
  rw [h]

@[simp] theorem fsDrive_cnt (f : Dev → Dev) (d : Dev) : (fsDrive f d).cnt = (f d).cnt := by
  obtain ⟨es, h⟩ := fsDrive_eq f d
  rw [h]

@[simp] theorem fsDrive_host (f : Dev → Dev) (d : Dev) : (fsDrive f d).host = (f d).host := by
  obtain ⟨es, h⟩ := fsDrive_eq f d
  rw [h]

@[simp] theorem fsDrive_cab (f : Dev → Dev) (d : Dev) : (fsDrive f d).cab = (f d).cab := by
  obtain ⟨es, h⟩ := fsDrive_eq f d
  rw [h]

@[simp] theorem fsDrive_mon (f : Dev → Dev) (d : Dev) : (fsDrive f d).mon = (f d).mon := by
  obtain ⟨es, h⟩ := fsDrive_eq f d
  rw [h]

@[simp] theorem fsDrive_chans (f : Dev → Dev) (d : Dev) : (fsDrive f d).chans = (f d).chans := by
  obtain ⟨es, h⟩ := fsDrive_eq f d
  rw [h]

@[simp] theorem fsDrive_prot (f : Dev → Dev) (d : Dev) : (fsDrive f d).prot = (f d).prot := by
  obtain ⟨es, h⟩ := fsDrive_eq f d
  rw [h]

@[simp] theorem fsDrive_lanes (f : Dev → Dev) (d : Dev) : (fsDrive f d).lanes = (f d).lanes := by
  obtain ⟨es, h⟩ := fsDrive_eq f d
  rw [h]

@[simp] theorem fsDrive_ports (f : Dev → Dev) (d : Dev) : (fsDrive f d).ports = (f d).ports := by
  obtain ⟨es, h⟩ := fsDrive_eq f d
  rw [h]

@[simp] theorem fsDrive_bond (f : Dev → Dev) (d : Dev) : (fsDrive f d).bond = (f d).bond := by
  obtain ⟨es, h⟩ := fsDrive_eq f d
  rw [h]

@[simp] theorem fsDrive_cipher (f : Dev → Dev) (d : Dev) : (fsDrive f d).cipher = (f d).cipher := by
  obtain ⟨es, h⟩ := fsDrive_eq f d
  rw [h]

@[simp] theorem fsDrive_act (f : Dev → Dev) (d : Dev) : (fsDrive f d).act = (f d).act := by
  obtain ⟨es, h⟩ := fsDrive_eq f d
  rw [h]

@[simp] theorem fsDrive_fs (f : Dev → Dev) (d : Dev) : (fsDrive f d).fs = (f d).fs := by
  obtain ⟨es, h⟩ := fsDrive_eq f d
  rw [h]

@[simp] theorem fsDrive_up (f : Dev → Dev) (d : Dev) : (fsDrive f d).up = (f d).up := by
  obtain ⟨es, h⟩ := fsDrive_eq f d
  rw [h]

@[simp] theorem fsDrive_lc (f : Dev → Dev) (d : Dev) : (fsDrive f d).lc = (f d).lc := by
  obtain ⟨es, h⟩ := fsDrive_eq f d
  rw [h]

@[simp] theorem fsDrive_tm (f : Dev → Dev) (d : Dev) : (fsDrive f d).tm = (f d).tm := by
  obtain ⟨es, h⟩ := fsDrive_eq f d
  rw [h]

@[simp] theorem fsDrive_cls (f : Dev → Dev) (d : Dev) : (fsDrive f d).cls = (f d).cls := by
  obtain ⟨es, h⟩ := fsDrive_eq f d
  rw [h]

@[simp] theorem fsDrive_fwd (f : Dev → Dev) (d : Dev) : (fsDrive f d).fwd = (f d).fwd := by
  obtain ⟨es, h⟩ := fsDrive_eq f d
  rw [h]

@[simp] theorem fsDrive_sb (f : Dev → Dev) (d : Dev) : (fsDrive f d).sb = (f d).sb := by
  obtain ⟨es, h⟩ := fsDrive_eq f d
  rw [h]

@[simp] theorem fsDrive_mc (f : Dev → Dev) (d : Dev) : (fsDrive f d).mc = (f d).mc := by
  obtain ⟨es, h⟩ := fsDrive_eq f d
  rw [h]

@[simp] theorem fsDrive_sec (f : Dev → Dev) (d : Dev) : (fsDrive f d).sec = (f d).sec := by
  obtain ⟨es, h⟩ := fsDrive_eq f d
  rw [h]

@[simp] theorem fsDrive_pwr (f : Dev → Dev) (d : Dev) : (fsDrive f d).pwr = (f d).pwr := by
  obtain ⟨es, h⟩ := fsDrive_eq f d
  rw [h]

@[simp] theorem fsDrive_trib (f : Dev → Dev) (d : Dev) : (fsDrive f d).trib = (f d).trib := by
  obtain ⟨es, h⟩ := fsDrive_eq f d
  rw [h]

@[simp] theorem fsDrive_dic (f : Dev → Dev) (d : Dev) : (fsDrive f d).dic = (f d).dic := by
  obtain ⟨es, h⟩ := fsDrive_eq f d
  rw [h]

@[simp] theorem fsDrive_img (f : Dev → Dev) (d : Dev) : (fsDrive f d).img = (f d).img := by
  obtain ⟨es, h⟩ := fsDrive_eq f d
  rw [h]

@[simp] theorem fsDrive_boot (f : Dev → Dev) (d : Dev) : (fsDrive f d).boot = (f d).boot := by
  obtain ⟨es, h⟩ := fsDrive_eq f d
  rw [h]

/-- What left the part stays listed. -/
theorem fsDrive_emitted (f : Dev → Dev) (d : Dev) (e : Emission) (h : e ∈ (f d).emitted) : e ∈ (fsDrive f d).emitted := by
  obtain ⟨es, k⟩ := fsDrive_eq f d
  rw [k]
  exact List.mem_append_right es h

@[simp] theorem reg_fsDrive (f : Dev → Dev) (d : Dev) (r : Reg) (i : Nat) : reg (fsDrive f d) r i = reg (f d) r i :=
  reg_of_regs (fsDrive_regs f d) r i

@[simp] theorem fld_fsDrive (f : Dev → Dev) (d : Dev) (g : Fld) (i : Nat) : fld (fsDrive f d) g i = fld (f d) g i :=
  fld_of_regs (fsDrive_regs f d) g i

@[simp] theorem counter_fsDrive (f : Dev → Dev) (d : Dev) (c : CName) (k : Nat) :
    counter (fsDrive f d) c k = counter (f d) c k := counter_of_cnt (fsDrive_cnt f d) c k

theorem frame_fsDrive {ps : List Piece} {rs : List Reg} {a : Dev} (f : Dev → Dev) (d : Dev) (h : Frame ps rs a (f d)) :
    Frame (.emitted :: ps) rs a (fsDrive f d) := by
  obtain ⟨es, k⟩ := fsDrive_eq f d
  rw [k]
  refine ⟨fun p hp => ?_, fun r i hr hi => h.2 r i hr hi⟩
  have q := h.1 p (fun m => hp (List.mem_cons_of_mem _ m))
  cases p <;> first | exact q | (exact absurd List.mem_cons_self hp)

end Sys2Proof.Laws
end

