-- ==== Sys2Proof/Laws/Claims.lean ====
section
/-!
SUPPORT. Laws/Claims.lean: how a claim about a command follows from what its change of the device does.
-/

namespace Sys2Proof.Laws

open Sys2Proof Sys2Proof.Machine

theorem runs_of {c : Instr} {f : Dev → Dev} {pre : Dev → Prop} {post : Dev → Dev → Prop}
    (e : ∀ s, exec c s = onDev f s) (k : ∀ a, pre a → post a (f a)) : Runs c pre post :=
  fun s h p => ⟨f s.dev, (e s).trans (onDev_eq f s h), k _ p⟩

theorem runsAt_of {c : Instr} {t : Time} {f : Dev → Dev} {pre : Dev → Prop} {post : Dev → Dev → Prop}
    (e : ∀ s, exec c s = at_ t f s) (k : ∀ a, pre a → post a (f a)) : RunsAt c t pre post :=
  fun s h p => ⟨f (tick t s.dev), (e s).trans (at_eq t f s h), k _ p⟩

theorem runsAt_core {c : Instr} {t : Time} {f : Dev → Dev} {pre : Dev → Prop} {post : Dev → Dev → Prop}
    (e : ∀ s, exec c s = atCore t f s) (k : ∀ a, pre a → coreRuns a = true ∧ post a (f (idleExit a))) :
    RunsAt c t pre post :=
  runsAt_of (f := fun d => if coreRuns d then f (idleExit d) else d) e fun a p => by
    obtain ⟨h, q⟩ := k a p
    simp only [h, ↓reduceIte]
    exact q

theorem onDev_frame {ps : List Piece} {rs : List Reg} {f : Dev → Dev} {s t : State} (e : onDev f s = .next t)
    (h : Frame ps rs s.dev (f s.dev)) : t.pending = s.pending ∧ t.mem = s.mem ∧ Frame ps rs s.dev t.dev := by
  cases e
  refine ⟨rfl, rfl, ?_⟩
  split
  · exact Frame_refl _ _ _
  · exact h

theorem keeps_of {c : Instr} {f : Dev → Dev} {ps : List Piece} {rs : List Reg}
    (e : ∀ s, exec c s = onDev f s) (k : ∀ a, Frame ps rs a (f a)) : Keeps c ps rs :=
  fun s _ q => onDev_frame ((e s).symm.trans q) (k s.dev)

theorem keepsAt_of {c : Instr} {t : Time} {f : Dev → Dev} {ps : List Piece} {rs : List Reg}
    (e : ∀ s, exec c s = at_ t f s) (k : ∀ a, Frame ps rs a (f (tick t a))) : Keeps c ps rs :=
  fun s _ q => onDev_frame ((e s).symm.trans q) (k s.dev)

end Sys2Proof.Laws
end

