-- ==== Sys2Proof/Laws/Memory.lean ====
section
/-!
SUPPORT. Laws/Memory.lean: reading in-package memory after it was written, and that every operation keeps its canonical
form.
-/

namespace Sys2Proof.Laws

open Sys2Proof.Machine

theorem wf_iff (m : Memory) : m.wf = true ↔ keysRise m.cells = true ∧ m.cells.all (fun c => c.2 != 0) = true := by
  simp [Memory.wf]

theorem wf_empty : ({} : Memory).wf = true := rfl

/-- Writing a byte keeps the canonical form. -/
theorem wf_write (m : Memory) (a : Nat) (b : Byte) (h : m.wf = true) : (m.write a b).wf = true := by
  rw [wf_iff] at h ⊢
  simp only [Memory.write, aputD]
  split
  · rw [adel_eq_filter]
    exact ⟨keysRise_filter _ _ h.1, all_filter _ _ _ h.2⟩
  · rename_i hb
    exact ⟨keysRise_aput _ _ _ h.1, all_aput _ _ _ _ h.2 (by simpa using hb)⟩

theorem wf_writeAll (bs : List Byte) : ∀ (m : Memory) (a : Nat), m.wf = true → (m.writeAll a bs).wf = true := by
  induction bs with
  | nil => exact fun m a h => h
  | cons b bs ih => exact fun m a h => ih _ _ (wf_write m a b h)

theorem wf_fold {β : Type} (f : Memory → β → Memory) (hf : ∀ m x, m.wf = true → (f m x).wf = true) (l : List β) :
    ∀ m : Memory, m.wf = true → (l.foldl f m).wf = true := by
  induction l with
  | nil => exact fun m h => h
  | cons x l ih => exact fun m h => ih _ (hf m x h)

/-- Copying keeps the canonical form. -/
theorem wf_copy (m : Memory) (src dst n : Nat) (h : m.wf = true) : (m.copy src dst n).wf = true := by
  rw [wf_iff] at h
  simp only [Memory.copy]
  refine wf_fold _ (fun m x hm => wf_write m _ _ hm) _ _ ?_
  rw [wf_iff]
  exact ⟨keysRise_filter _ _ h.1, all_filter _ _ _ h.2⟩

/-- Copying a service-core section keeps the canonical form. -/
theorem wf_copySection (c : Nat) (sec : List Byte) (s : State) (h : s.mem.wf = true) : (copySection c sec s).mem.wf = true := by
  simp only [copySection]
  exact wf_fold _ (fun m i hm => wf_writeAll _ _ _ hm) _ _ h

/-- A byte reads as it was written last. -/
@[simp] theorem read_write_same (m : Memory) (a : Nat) (b : Byte) : (m.write a b).read a = b := by
  simp [Memory.read, Memory.write]

/-- Every other byte reads as before. -/
theorem read_write_ne (m : Memory) {a x : Nat} (b : Byte) (h : x ≠ a) : (m.write a b).read x = m.read x := by
  simp only [Memory.read, Memory.write]
  exact agetD_aputD_ne _ _ _ _ h

/-- A byte outside the bytes written reads as before. -/
theorem read_writeAll_out (bs : List Byte) : ∀ (m : Memory) (a x : Nat), (x < a ∨ a + bs.length ≤ x) →
    (m.writeAll a bs).read x = m.read x := by
  induction bs with
  | nil => exact fun m a x _ => rfl
  | cons b bs ih =>
    intro m a x h
    simp only [List.length_cons] at h
    rw [Memory.writeAll, ih (m.write a b) (a + 1) x (by omega), read_write_ne m b (by omega)]

/-- A byte among those written reads as written. -/
theorem read_writeAll_in (bs : List Byte) : ∀ (m : Memory) (a i : Nat) (h : i < bs.length),
    (m.writeAll a bs).read (a + i) = bs[i] := by
  induction bs with
  | nil => exact fun m a i h => absurd h (Nat.not_lt_zero i)
  | cons b bs ih =>
    intro m a i h
    rw [Memory.writeAll]
    cases i with
    | zero =>
      rw [read_writeAll_out bs _ _ _ (by omega)]
      simp
    | succ i =>
      have e : a + (i + 1) = a + 1 + i := by omega
      rw [e, ih (m.write a b) (a + 1) i (by simpa using h)]
      simp

end Sys2Proof.Laws
end

