-- ==== Sys2Proof/WellFormed.lean ====
section
/-!
DEFINITION. WellFormed.lean: which commands the surroundings of the part can form: the lengths and ranges that the formats of
the spec fix for what a command brings. A meaning is defined for the others too; the statements do not need them.
-/

namespace Sys2Proof

/-- Sightings lie in the frame, at most one per position, and every codeword has 544 symbols (R37, R44, R49). -/
def LineFrame.wf (f : LineFrame) : Bool :=
  f.sightings.all (fun s => decide (s.pos < 1328125)) &&
    f.codewords.all (fun c => decide (c.index < 2441) && c.symbols.length == 544)

/-- 24 bits for each of the four management data channels, 128 slots for each of the four highways, or a part without
either (R387, R405). -/
def BoundaryInputs.wf (b : BoundaryInputs) : Bool :=
  decide (b.md.length ≤ 4) && decide (b.highways.length ≤ 4) && b.highways.all (fun h => h.length == 128)

/-- The payload has the length that the header gives (R82). -/
def EnvelopeIn.wf (e : EnvelopeIn) : Bool := e.payload.length == (e.header.toNat >>> 34) % 16384

/-- A map has at most 1,024 words (R53, R160). -/
def FsFrame.wf (f : FsFrame) : Bool := decide (f.pos < 1328125) && decide (f.map.length ≤ 1024)

/-- A control message has 48 bytes (R133). -/
def CtlMsg.wf (m : CtlMsg) : Bool := m.bytes.length == 48

/-- A buffer of at most 255 words under a descriptor of the OP given (R309, R310). -/
def Descriptor.wf (op : Nat) (d : Descriptor) : Bool := d.w0.toNat / 2 ^ 40 == op && decide (d.buf.length ≤ 255)

/-- A descriptor with an OP that is none of R310's (R312). -/
def Descriptor.wfOther (d : Descriptor) : Bool :=
  (d.w0.toNat / 2 ^ 40 == 0 || decide (8 < d.w0.toNat / 2 ^ 40)) && decide (d.buf.length ≤ 255)

/-- A line of 64 bytes, or a part of one (R463). -/
def CxlAccess.wf : CxlAccess → Bool
  | .read n => decide (0 < n) && decide (n ≤ 64)
  | .writeLine bs => bs.length == 64
  | .writePart n bs => decide (n + bs.length ≤ 64)

/-- Widths and speeds of R475. -/
def LinkTraining.wf (l : LinkTraining) : Bool :=
  (l.lanes == 1 || l.lanes == 2 || l.lanes == 4 || l.lanes == 8) && decide (0 < l.speed.val) && decide (l.speed.val ≤ 5)

/-- The frame that was read has the descriptor's length (R480). -/
def TxDescriptor.wf (x : TxDescriptor) : Bool :=
  match x.frame with
  | some bs => bs.length == (x.w0.toNat >>> 31) % 16384
  | none => true

/-- The access lies in the bytes of its BAR (R469). -/
def BarAccess.wf (bytes : Nat) (a : BarAccess) : Bool := decide (0 < a.size) && decide (a.offset + a.size ≤ bytes)

/-- A host access lies in its space: BAR0 of 32 MiB, BAR2 of 4 MiB, BAR4 of 64 KiB (R469). -/
def HostAccess.wf : HostAccess → Bool
  | .bar0 a => a.wf (2 ^ 25)
  | .bar2 a => a.wf (2 ^ 22)
  | .bar4 a => decide (0 < a.size) && decide (a.offset + a.size ≤ 2 ^ 16)
  | .config _ _ _ _ => true

/-- A payload of at most 1,200 bytes (R607). -/
def WaifelMsg.wf (m : WaifelMsg) : Bool := decide (m.payload.length ≤ 1200)

/-- Five stacks, two image slots. -/
def BootInputs.wf (b : BootInputs) : Bool := b.stackOk.length == 5 && b.slotsOk.length == 2

/-- A well-formed command. -/
def Instr.wf : Instr → Bool
  | .lineFrameReceived f => f.wf
  | .frameBoundary _ inp => inp.wf
  | .envelopeReceived e => e.wf
  | .burstProfile m => m.wf
  | .assignTerminal m => m.wf
  | .rangingRequest m => m.wf
  | .rangingTime m => m.wf
  | .deactivate m => m.wf
  | .disable m => m.wf
  | .enable m => m.wf
  | .keyControlSwitch m => m.wf
  | .keyControlReport m => m.wf
  | .timeOfDay m => m.wf
  | .sleepAllow m => m.wf
  | .protectionControl m => m.wf
  | .fsFrameStart f => f.wf
  | .macFrameReceived f => !f.bytes.isEmpty
  | .macInsert x => x.wf 1
  | .macDelete x => x.wf 2
  | .macFind x => x.wf 3
  | .macLock x => x.wf 4
  | .macWrite x => x.wf 5
  | .macRead x => x.wf 6
  | .trieWrite x => x.wf 7
  | .trieRead x => x.wf 8
  | .unknownOp x => x.wfOther
  | .memoryErrorDetected e => decide (e.block < 2097152)
  | .cxlMemAccess _ x => x.wf
  | .linkTrained _ l => l.wf
  | .hostTransmit x => x.wf
  | .registerWrite a => a.wf
  | .read _ rs => decide (rs.length ≤ 65535)
  | .write _ rs => decide (rs.length ≤ 65535) && rs.all (fun r => decide (r.value.length ≤ 65535))
  | .commit _ t => (match t with | some x => decide (x.ns.toNat < 1000000000) | none => true)
  | .oscRdy b => b.wf
  | .hello m => m.wf
  | .openSession m => m.wf
  | .close m => m.wf
  | .imageBegin m => m.wf
  | .imageBlock m => m.wf
  | .imageEnd m => m.wf
  | .powerGood b => b.wf
  | .warmReset b => b.wf
  | .losEntered _ _ _ | .losLeft _ _ _ | .holdoffExpiry _ | .settleEnd _ | .protectionCheckExpiry _
  | .alternationDwellExpiry _ | .switchToWorking _ _ | .switchToProtection _ _ | .lockoutDeviceCommit _
  | .reorderWindowExpiry _ _ | .keyWriteEntry _ | .keyEraseEntry _ | .keyReadEntryState _ | .checkValueSlotWrite _
  | .checkValueSlotErase _ | .keyCommandInvalid _ _ | .txIndexWrite _ _ | .keySwitchCommit _ | .rangingTimerExpiry _
  | .lossTimerExpiry _ | .sleepConsentExpiry _ | .pfailFall _ | .pfailRise _ | .grantFill _ _
  | .wardrobePrefetchComplete _ _ | .burstStart _ _ | .burstEnd _ _ | .tribBlockExpiry _ | .fsFrameTimeout _
  | .fsWindowOpen _ _ | .fsWindowClose _ _ _ | .benRequest _ _ _ | .lightOutsideWindow _ _ | .stage2Timeout _ _ _
  | .stage3Timeout _ _ _ | .opticRead _ | .selfTestPulse _ _ _ _ | .parityError _ | .fsSupplyClockLoss _ _
  | .fsRelease _ _ | .releaseCommand _ _ _ | .fsRestart _ _ _ | .admissionWrite _ _ _ | .fsLimitsWrite _ _
  | .fsSetcfgWrite _ _ | .laneSignalDetected _ | .negotiationResolved _ | .trainingComplete _ _ _ | .trainTimeout _
  | .laneLock _ | .lockTimeout _ | .exchangeComplete _ | .exchangeTimeout _ | .quietPeriodEnd _ | .laneSignalLost _ _
  | .lineRetrainTimeout _ _ | .retrain _ _ | .laneTestStart _ _ _ | .laneTestStop _ _ _ | .start _ _ | .injectOne _ _
  | .pauseExpiry _ _ _ | .xoffRepeat _ _ | .frameTransmit _ _ | .packetEntry _ _ | .secondPass _ _
  | .fragmentHoldTimeout _ _ | .fragmentEntryExpiry _ _ | .slotClaim _ _ _ | .slotSeal _ _ _ | .slotAbandon _ _ _
  | .slotEvict _ _ _ | .makeCurrent _ _ _ | .drainSlow _ _ | .windowDataWrite _ | .windowStatusRead
  | .treeScrub _ _ _ | .learnMergeRelease _ | .learnFilterExpiry _ _ | .ageingVisit _ | .tableScrub _ _ _ _
  | .shaperRefill _ | .policerRefill _ | .tmObjectWrite | .tmObjectRead | .wardrobeWriteback _ | .queueSample _
  | .recordedRateUpdate _ | .join _ _ _ _ | .leave _ _ _ _ | .leaveAll _ _ _ | .replayIssue _ _ | .splice _ _
  | .catchupTimeout _ _ | .forcedSplice _ _ | .membershipReport _ | .generalQuery _ _ | .membershipExpiry _ _ _
  | .repairServe _ | .repairBudgetRefill _ | .tributaryInputLos _ | .tributaryLosEnd _ | .controlledSlip _ _
  | .tsiWrite | .tsiRead | .tsiSwap | .tsiAbort | .swapCommit _ | .standbyCopyDone _ | .highwayChangeEnd _
  | .heldTodDue _ | .offsetTimeout _ | .softwareOffset _ _ | .set _ _ | .setLoad _ | .ppsPulse _ | .ppsWidthEnd _
  | .pltodMessage _ | .longcaseNowRead _ | .migrationStart _ | .migrationStep _ _ | .rankWithdrawal _
  | .hostReset _ _ | .ringDoorbell _ _ _ | .tailLineSnoop _ _ _ | .ringDisable _ | .ringWriteback _ _
  | .drawerRead _ _ | .drawerFlush _ _ | .drawerLevelWrite _ _ | .drawerConsumerWrite _ _ | .drawerDmaCopy _ _
  | .vectorUnmask _ | .open_ _ | .abort _ | .query _ | .commitPoint _ _ | .transactionIdleTimeout _ _
  | .dictionarySave _ _ | .restoreDefaults _ _ _ | .taskSubmit _ | .taskDispatch _ | .affinityWindowExpiry _ _
  | .taskComplete _ _ _ _ | .taskFault _ _ _ | .taskCancel _ _ | .hostHandlesWrite _ | .watchdogExpiry _
  | .secretaryException _ | .clusterLoad _ _ _ _ | .restartCluster _ _ _ | .restartSecretary _ _ _
  | .requestRunFull _ _ | .requestRunLifeline _ _ | .requestSleep _ _ _ | .requestDeepSleep _ _ | .requestOff _ _
  | .noticeWaitExpiry _ | .powerChangeCommit _ | .retentionCommit _ | .railAcknowledged _ _ | .railAckTimeout _ _
  | .idleEntry _ | .lossOfLine _ | .lifelineHoldExpiry _ | .lifelineRestoreExpiry _ | .wakePin _ _
  | .twoWireAddressMatch _ | .lineTimerExpiry _ | .oscRdyTimeout _ | .clear _ _ | .selectableCounterRead _
  | .counterPageCopy _ _ | .arm _ _ | .cabinetAbort _ _ | .cabinetLatch _ | .cabinetDrainDone _ | .cabinetWindowRead
  | .dieTempSample _ _ _ | .hbmTempReport _ _ _ | .hardwareThermalTrip _ _ | .thermalIsolation _
  | .voltageSample _ _ _ | .temperaturePeakRead _ | .sessionOpenTimeout _ _ | .sessionIdleTimeout _ _
  | .servicePortFrame _ _ | .setServiceKey _ _ _ | .activationRequest _ _ | .activationAbort _ _
  | .activationCommit _ | .confirm _ _ _ | .autoConfirm _ | .trialTimeout _ | .porstAssert _ | .lineStartRelease _
  | .killRelease _ | .avsTrack _ _ | .battNChange _ _ | .killSenseMismatch _ _ | .checkerLock _
  | .checkerLockLoss _ _ | .negotiationFailure _ | .hbmReportMissed _ _ | .secretaryRestartDone _
  | .malformedRequest _ _ => true

end Sys2Proof
end

