-- ==== Sys2Proof/Tests/Slice0.lean ====
section
/-!
SUPPORT. Tests/Slice0.lean: the worked values of the spec, one ill-formed command for each check of WellFormed, and for every
statement with hypotheses a state and operands that meet them.
-/

namespace Slice0Tests

set_option linter.unusedVariables false
set_option Elab.async false

open Sys2Proof Sys2Proof.Machine

/-! ## Worked values of the spec -/

/-- R42: the CRC of "123456789" is 0x29B1. -/
theorem test_header_crc : headerCrc (natToBits 72 0x313233343536373839) = 0x29B1 := by decide +kernel

/-- R46: LC3 lane B in frame 0x000001234567 has seed 0x62DCBA98, and the first four bits are 1, 1, 1 and 0. -/
theorem test_scramble_seed : scrambleSeed 3 1 0x000001234567 = 0x62DCBA98 ∧
    scrambleBits [false, false, false, false] 0x62DCBA98 = [true, true, true, false] := by decide +kernel

/-- R82, R84: the two worked envelope headers. -/
theorem test_envelope_headers : envCheckOk 0xFFFF000000001B24 = true ∧ envCheckOk 0x01231773400A08A6 = true := by decide +kernel

/-- R160: the worked map entry has a right check and its fields; an entry of zeros fails. -/
theorem test_map_entry : mapCrcOk 0x009538800320A226 = true ∧ entryAlloc 0x009538800320A226 = 0x25 ∧
    entryStart 0x009538800320A226 = 20000 ∧ entryLen 0x009538800320A226 = 200 ∧ mapCrcOk 0 = false := by decide +kernel

/-- R299: the buckets of station 02:1A:2B:3C:4D:5E in domain 100. -/
theorem test_mac_buckets : hash0 State.reset.dev (macKey 100 0x021A2B3C4D5E) = 22602 ∧
    hash1 State.reset.dev (macKey 100 0x021A2B3C4D5E) = 73593 := by decide +kernel

/-- R448: the worked managed address at a granularity of 4 KiB, rank 2 of stack 2, block 953,621, byte 0x890. -/
theorem test_interleave : interleave .az9616 12 0x1234567890 = (4 * 2 + 2, 953621, 0x890) := by decide +kernel

/-- No row of the table has bits, so no word spells a command. -/
theorem test_no_word_spells : decodeTableWord 0 0 = none ∧ decodeTableWord 8 0xFF = none := by decide

/-! ## One ill-formed command for each check -/

theorem test_ill_sighting_outside_the_frame : Instr.wf (.lineFrameReceived ⟨10, 0, .a, [⟨1328125, 0, 0⟩], 0, 0, []⟩) = false := by decide +kernel

theorem test_ill_codeword_number : Instr.wf (.lineFrameReceived ⟨10, 0, .a, [], 0, 0, [⟨2441, List.replicate 544 0⟩]⟩) = false := by decide +kernel

theorem test_ill_codeword_length : Instr.wf (.lineFrameReceived ⟨10, 0, .a, [], 0, 0, [⟨0, []⟩]⟩) = false := by decide +kernel

theorem test_ill_management_channels : Instr.wf (.frameBoundary 10 ⟨[], [0, 0, 0, 0, 0], []⟩) = false := by decide +kernel

theorem test_ill_highway_count : Instr.wf (.frameBoundary 10 ⟨[], [], List.replicate 5 (List.replicate 128 0)⟩) = false := by decide +kernel

theorem test_ill_highway_slots : Instr.wf (.frameBoundary 10 ⟨[], [], [[0]]⟩) = false := by decide +kernel

theorem test_ill_envelope_length : Instr.wf (.envelopeReceived ⟨10, 0, .a, 0, 0, false, false, [0]⟩) = false := by decide +kernel

theorem test_ill_tap_position : Instr.wf (.fsFrameStart ⟨10, 0, .a, 0, 1328125, 0, 0, []⟩) = false := by decide +kernel

theorem test_ill_tap_map : Instr.wf (.fsFrameStart ⟨10, 0, .a, 0, 0, 0, 0, List.replicate 1025 none⟩) = false := by decide +kernel

theorem test_ill_message_of_burstProfile : Instr.wf (.burstProfile ⟨10, 0, 100, 0xFFFE, []⟩) = false := by decide +kernel

theorem test_ill_message_of_assignTerminal : Instr.wf (.assignTerminal ⟨10, 0, 100, 0xFFFE, []⟩) = false := by decide +kernel

theorem test_ill_message_of_rangingRequest : Instr.wf (.rangingRequest ⟨10, 0, 100, 0xFFFE, []⟩) = false := by decide +kernel

theorem test_ill_message_of_rangingTime : Instr.wf (.rangingTime ⟨10, 0, 100, 0xFFFE, []⟩) = false := by decide +kernel

theorem test_ill_message_of_deactivate : Instr.wf (.deactivate ⟨10, 0, 100, 0xFFFE, []⟩) = false := by decide +kernel

theorem test_ill_message_of_disable : Instr.wf (.disable ⟨10, 0, 100, 0xFFFE, []⟩) = false := by decide +kernel

theorem test_ill_message_of_enable : Instr.wf (.enable ⟨10, 0, 100, 0xFFFE, []⟩) = false := by decide +kernel

theorem test_ill_message_of_keyControlSwitch : Instr.wf (.keyControlSwitch ⟨10, 0, 100, 0xFFFE, []⟩) = false := by decide +kernel

theorem test_ill_message_of_keyControlReport : Instr.wf (.keyControlReport ⟨10, 0, 100, 0xFFFE, []⟩) = false := by decide +kernel

theorem test_ill_message_of_timeOfDay : Instr.wf (.timeOfDay ⟨10, 0, 100, 0xFFFE, []⟩) = false := by decide +kernel

theorem test_ill_message_of_sleepAllow : Instr.wf (.sleepAllow ⟨10, 0, 100, 0xFFFE, []⟩) = false := by decide +kernel

theorem test_ill_message_of_protectionControl : Instr.wf (.protectionControl ⟨10, 0, 100, 0xFFFE, []⟩) = false := by decide +kernel

theorem test_ill_empty_frame : Instr.wf (.macFrameReceived ⟨10, 0, [], false, 0, 0, 0, false⟩) = false := by decide +kernel

theorem test_ill_buffer_of_macInsert : Instr.wf (.macInsert ⟨10, false, 0x10000000000, 0, 0, 9, List.replicate 256 0, [], []⟩) = false := by decide +kernel

theorem test_ill_op_of_macInsert : Instr.wf (.macInsert ⟨10, false, 0x20000000000, 0, 0, 9, [], [], []⟩) = false := by decide +kernel

theorem test_ill_buffer_of_macDelete : Instr.wf (.macDelete ⟨10, false, 0x20000000000, 0, 0, 9, List.replicate 256 0, [], []⟩) = false := by decide +kernel

theorem test_ill_op_of_macDelete : Instr.wf (.macDelete ⟨10, false, 0x30000000000, 0, 0, 9, [], [], []⟩) = false := by decide +kernel

theorem test_ill_buffer_of_macFind : Instr.wf (.macFind ⟨10, false, 0x30000000000, 0, 0, 9, List.replicate 256 0, [], []⟩) = false := by decide +kernel

theorem test_ill_op_of_macFind : Instr.wf (.macFind ⟨10, false, 0x40000000000, 0, 0, 9, [], [], []⟩) = false := by decide +kernel

theorem test_ill_buffer_of_macLock : Instr.wf (.macLock ⟨10, false, 0x40000000000, 0, 0, 9, List.replicate 256 0, [], []⟩) = false := by decide +kernel

theorem test_ill_op_of_macLock : Instr.wf (.macLock ⟨10, false, 0x50000000000, 0, 0, 9, [], [], []⟩) = false := by decide +kernel

theorem test_ill_buffer_of_macWrite : Instr.wf (.macWrite ⟨10, false, 0x50000000000, 0, 0, 9, List.replicate 256 0, [], []⟩) = false := by decide +kernel

theorem test_ill_op_of_macWrite : Instr.wf (.macWrite ⟨10, false, 0x60000000000, 0, 0, 9, [], [], []⟩) = false := by decide +kernel

theorem test_ill_buffer_of_macRead : Instr.wf (.macRead ⟨10, false, 0x60000000000, 0, 0, 9, List.replicate 256 0, [], []⟩) = false := by decide +kernel

theorem test_ill_op_of_macRead : Instr.wf (.macRead ⟨10, false, 0x70000000000, 0, 0, 9, [], [], []⟩) = false := by decide +kernel

theorem test_ill_buffer_of_trieWrite : Instr.wf (.trieWrite ⟨10, false, 0x70000000000, 0, 0, 9, List.replicate 256 0, [], []⟩) = false := by decide +kernel

theorem test_ill_op_of_trieWrite : Instr.wf (.trieWrite ⟨10, false, 0x80000000000, 0, 0, 9, [], [], []⟩) = false := by decide +kernel

theorem test_ill_buffer_of_trieRead : Instr.wf (.trieRead ⟨10, false, 0x80000000000, 0, 0, 9, List.replicate 256 0, [], []⟩) = false := by decide +kernel

theorem test_ill_op_of_trieRead : Instr.wf (.trieRead ⟨10, false, 0x90000000000, 0, 0, 9, [], [], []⟩) = false := by decide +kernel

theorem test_ill_buffer_of_unknownOp : Instr.wf (.unknownOp ⟨10, false, 0x90000000000, 0, 0, 9, List.replicate 256 0, [], []⟩) = false := by decide +kernel

theorem test_ill_op_of_unknownOp : Instr.wf (.unknownOp ⟨10, false, 0x80000000000, 0, 0, 9, [], [], []⟩) = false := by decide +kernel

theorem test_ill_error_block : Instr.wf (.memoryErrorDetected ⟨10, .correctable, 0, 0, 0, 2097152, 0, .cxl⟩) = false := by decide +kernel

theorem test_ill_window_read_of_nothing : Instr.wf (.cxlMemAccess 0 (.read 0)) = false := by decide +kernel

theorem test_ill_window_read_beyond_a_line : Instr.wf (.cxlMemAccess 0 (.read 65)) = false := by decide +kernel

theorem test_ill_window_line : Instr.wf (.cxlMemAccess 0 (.writeLine [])) = false := by decide +kernel

theorem test_ill_window_part : Instr.wf (.cxlMemAccess 0 (.writePart 64 [0])) = false := by decide +kernel

theorem test_ill_link_width : Instr.wf (.linkTrained 10 ⟨true, 3, 5⟩) = false := by decide +kernel

theorem test_ill_link_speed_zero : Instr.wf (.linkTrained 10 ⟨true, 8, 0⟩) = false := by decide +kernel

theorem test_ill_link_speed : Instr.wf (.linkTrained 10 ⟨true, 8, 6⟩) = false := by decide +kernel

theorem test_ill_transmit_length : Instr.wf (.hostTransmit ⟨10, 0, 0, 0, 0, 0, some [0]⟩) = false := by decide +kernel

theorem test_ill_register_size : Instr.wf (.registerWrite (.bar0 ⟨10, true, 0, 0, 0⟩)) = false := by decide +kernel

theorem test_ill_register_offset : Instr.wf (.registerWrite (.bar0 ⟨10, true, 33554432, 8, 0⟩)) = false := by decide +kernel

theorem test_ill_doorbell_size : Instr.wf (.registerWrite (.bar2 ⟨10, true, 0, 0, 0⟩)) = false := by decide +kernel

theorem test_ill_doorbell_offset : Instr.wf (.registerWrite (.bar2 ⟨10, true, 4194304, 8, 0⟩)) = false := by decide +kernel

theorem test_ill_vector_size : Instr.wf (.registerWrite (.bar4 ⟨10, true, 0, 0, 0⟩)) = false := by decide +kernel

theorem test_ill_vector_offset : Instr.wf (.registerWrite (.bar4 ⟨10, true, 0x10000, 8, 0⟩)) = false := by decide +kernel

theorem test_ill_commit_time : Instr.wf (.commit ⟨10, .l, 1, 0, 0, 0⟩ (some ⟨0, 1000000000⟩)) = false := by decide +kernel

theorem test_ill_stacks_of_oscRdy : Instr.wf (.oscRdy ⟨500, true, true, true, [true], [true, false], true, true⟩) = false := by decide +kernel

theorem test_ill_slots_of_oscRdy : Instr.wf (.oscRdy ⟨500, true, true, true, [true, true, true, true, true], [], true, true⟩) = false := by decide +kernel

theorem test_ill_stacks_of_powerGood : Instr.wf (.powerGood ⟨500, true, true, true, [true], [true, false], true, true⟩) = false := by decide +kernel

theorem test_ill_slots_of_powerGood : Instr.wf (.powerGood ⟨500, true, true, true, [true, true, true, true, true], [], true, true⟩) = false := by decide +kernel

theorem test_ill_stacks_of_warmReset : Instr.wf (.warmReset ⟨500, true, true, true, [true], [true, false], true, true⟩) = false := by decide +kernel

theorem test_ill_slots_of_warmReset : Instr.wf (.warmReset ⟨500, true, true, true, [true, true, true, true, true], [], true, true⟩) = false := by decide +kernel

theorem test_ill_payload_of_hello : Instr.wf (.hello ⟨10, 0, 0, 0, List.replicate 1201 0, 0, true⟩) = false := by decide +kernel

theorem test_ill_payload_of_openSession : Instr.wf (.openSession ⟨10, 0, 0, 0, List.replicate 1201 0, 0, true⟩) = false := by decide +kernel

theorem test_ill_payload_of_close : Instr.wf (.close ⟨10, 0, 0, 0, List.replicate 1201 0, 0, true⟩) = false := by decide +kernel

theorem test_ill_payload_of_imageBegin : Instr.wf (.imageBegin ⟨10, 0, 0, 0, List.replicate 1201 0, 0, true⟩) = false := by decide +kernel

theorem test_ill_payload_of_imageBlock : Instr.wf (.imageBlock ⟨10, 0, 0, 0, List.replicate 1201 0, 0, true⟩) = false := by decide +kernel

theorem test_ill_payload_of_imageEnd : Instr.wf (.imageEnd ⟨10, 0, 0, 0, List.replicate 1201 0, 0, true⟩) = false := by decide +kernel

theorem test_ill_read_records (hd : DictHead) (rs : List (BitVec 16 × BitVec 8)) (h : 65535 < rs.length) :
    Instr.wf (.read hd rs) = false := by
  simp only [Instr.wf, decide_eq_false_iff_not]; omega

theorem test_ill_write_records (hd : DictHead) (rs : List WriteRec) (h : 65535 < rs.length) :
    Instr.wf (.write hd rs) = false := by
  simp only [Instr.wf, Bool.and_eq_false_iff, decide_eq_false_iff_not]; omega

theorem test_ill_write_value (hd : DictHead) (r : WriteRec) (h : 65535 < r.value.length) :
    Instr.wf (.write hd [r]) = false := by
  simp only [Instr.wf, List.all_cons, List.all_nil, Bool.and_true, Bool.and_eq_false_iff, decide_eq_false_iff_not]; omega

/-! ## States and operands for the statements -/

/-- The part of the tests: everything as at reset, out of reset. -/
def tb : Dev := { State.reset.dev with porstLow := false }

/-- Channel 0 enabled, its lanes in a given alignment. -/
def tLine (x : LaneAlign) : Dev :=
  setFld fLC_CTRL_ENABLE 0 1 { tb with chans := [(0, { laneA := { al := { align := x } }, laneB := { al := { align := x } } })] }

/-- A frame of lane A of channel 0 with one sighting at a position. -/
def tFrame (p : BitVec 64) : LineFrame := ⟨10, 0, .a, [⟨5, p, 0⟩], 0, 0, []⟩

/-- The part in Operation with number 7, home channel 0 up, and check-value keys 0 in slots 0 and 1. -/
def tOp (state : Nat) : Dev :=
  setFld fACT_STATUS_STATE 0 state (setFld fACT_STATUS_NUM_VALID 0 1 (setFld fACT_STATUS_TERM_NUM 0 7
    (setFld fLC_CTRL_ENABLE 0 1 { tb with
      chans := [(0, { up := true })], cipher := { tb.cipher with slots := [(0, 0), (1, 0)] } })))

/-- A message on channel 0 in frame 100. -/
def tMsg (flow : BitVec 16) (bs : List Nat) (check : List Nat) : CtlMsg :=
  ⟨10, 0, 100, flow, (bs ++ List.replicate (44 - bs.length) 0 ++ check ++ List.replicate (4 - check.length) 0).map (BitVec.ofNat 8)⟩

theorem natToBytes_back (x : Nat) (h : x < 2 ^ 64) : bytesToNat (natToBytes 8 x) = x := by
  simp only [natToBytes, bytesToNat, List.foldl, BitVec.toNat_ofNat, Nat.shiftRight_eq_div_pow]
  omega

theorem serial_back : bytesToNat (natToBytes 8 ownSerial) = ownSerial :=
  natToBytes_back _ (by have := Config.serialUnique.isLt; unfold ownSerial; omega)

/-- An Assign Terminal that names this serial number. -/
def tAssign : CtlMsg := ⟨10, 0, 100, 0xFFFE, [2, 255, 255, 0] ++ natToBytes 8 ownSerial ++ [0, 9, 0] ++ List.replicate 33 0⟩

theorem tAssign_serial : mf tAssign 4 8 = ownSerial := serial_back

/-- Channel 0 enabled and up, its lanes in Sync, and the key registers holding 5. -/
def tEnv (x : DelinState) : Dev :=
  setReg .cyKeyData5 0 0x500000000 (setFld fLC_CTRL_ENABLE 0 1 { tb with
    chans := [(0, { up := true, laneA := { delin := x }, laneB := { delin := x } })] })

/-- An envelope of lane A of channel 0 at word 0. -/
def tEnvIn (h : BitVec 64) (bs : List Byte) : EnvelopeIn := ⟨10, 0, .a, 0, h, false, false, bs⟩

/-- Flow slot 0 enabled with flow ID 5. -/
def tFlow : Dev := { tb with dict := [(0x240001, [0, 5]), (0x240002, [1])] }

/-- A data grant of channel 0, its burst from instant 10. -/
def tGrant : Grant :=
  { ch := 0, fc := 7, t0 := 10, kind := .data, alloc := 7, slot := 0, start := 0, burstAt := 0, len := 8, report := false, delay := 0, preamble := 2, profile := 0, pattern := 0, delim := 5 }

/-- The part in Operation with number 7 and one grant. -/
def tUp (g : Grant) : Dev :=
  setFld fACT_STATUS_STATE 0 4 (setFld fACT_STATUS_NUM_VALID 0 1 (setFld fACT_STATUS_TERM_NUM 0 7 (setFld fLC_CTRL_ENABLE 0 1
    { tb with up := { tb.up with grants := [g] }, chans := [(0, { up := true })] })))

/-- The tributary unit on, tributary 2 at 2.048 Mbit/s in highway mode, and the interchange's registers. -/
def tTrib (sel data status : Word) : Dev :=
  setReg .tsiStatus 0 status (setReg .tsiData 0 data (setReg .tsiSel 0 sel (setFld fTR_CTRL_HIGHWAY 0 1 (setFld fTB_CFG_KIND 2 1 (setPd 49 1
    { tb with trib := { tb.trib with active := [(5, 0x423)], standby := [(5, 0x421)], tribs := [(2, { slip := [[1]] })] } })))))

/-- The Firescreen past its start, channel 0 as given. -/
def tFs (c : FsChan) : Dev :=
  { tb with now := 100, fs := { tb.fs with startup := false, killsHeld := false, selfTestOk := true, chans := [(0, c)], nonce := 9 } }

/-- A window over the instants 50 to 200. -/
def tWin (m : WindowMode) : FsWindow := ⟨50, 200, 60, 190, m⟩

/-- A frame of lane A of channel 0 at the tap. -/
def tFsFrame (n : Nat) : FsFrame := ⟨100, 0, .a, n, 0, 0, 0, []⟩

/-- Serial lane k in a state. -/
def tLane (k : Nat) (l : SerialLane) : Dev := { tb with lanes := [(k, l)] }

/-- Rule trees of pipeline 0, slot 0: both walks end in the default rule at words 8 and 9. -/
def tTree (w0 w1 : Word) : Dev :=
  setFld fDP_CTRL_ENABLE 3 0x1 (setPd 8 1 (setPd 40 1 (setReg .clRegionLimit 0 15 { tb with
    lanes := [(3, { st := 6 })]
    cls := { tb.cls with tree := [(0, 0x800000000001), (1, 0x800000000001), (2, 1), (3, 1), (8, w0), (9, w1)] } })))

/-- A good frame of 64 bytes from station 2 to station 1. -/
def tFrameBytes : List Byte :=
  [0, 0, 0, 0, 0, 1, 0, 0, 0, 0, 0, 2, 0x90, 0] ++ List.replicate 46 0

def tGood : List Byte := tFrameBytes ++ fcsBytes tFrameBytes

/-- A copy of that frame in queue 0 of port 3. -/
def tCopy : QPkt := { bytes := tFrameBytes, key := [], slot := 0 }

/-- Generation slot k in a state, of the host, from instant 3. -/
def tSlot (k : Nat) (x : SlotState) : Dev := modSlot k (fun g => { g with state := x, owner := some .l, drainingSince := 3, gen := 4 }) tb

/-- Queue 192 with a shaper of 100 bytes a refill, its window selection at a table and index, and four data words. -/
def tTm (table index : Nat) (w0 w1 w2 w3 : Word) : Dev :=
  setFld fTM_ACC_SEL_TABLE 0 table (setFld fTM_ACC_SEL_INDEX 0 index (setReg .tmAccData 0 w0 (setReg .tmAccData 1 w1 (setReg .tmAccData 2 w2 (setReg .tmAccData 3 w3
    { tb with tm := { tb.tm with queues := [(192, { shaper := ⟨true, 100, 150, 60⟩ })], nodes := [(97, { queues := 32, shaper := ⟨true, 100, 150, 60⟩ })], policers := [(5, { cfg := { cir := 8 } })] } })))))

/-- A MAC table with station 2 of domain 1 in the first way of its first bucket. -/
def tMac (w1 : Word) : Dev :=
  let loc := hash0 tb (macKey 1 2) * 8
  { tb with fwd := { tb.fwd with mac := [(4 * loc, 2), (4 * loc + 1, w1), (4 * loc + 2, 5 * 2 ^ 38)], sweep := loc } }

/-- A descriptor of ring 1. -/
def tDsc (w0 w1 : Word) (buf : List Word) : Descriptor := ⟨10, true, w0, w1, 0, 9, buf, [], []⟩

/-- Word 1 of an entry of domain 1 with further bits. -/
def tW1 (bits : Nat) : Word := BitVec.ofNat 48 (bits * 2 ^ 43 + 2 ^ 31)

/-- The Sideboard on, programme 0 with a segment and key width enabled, port 3 enabled, a running cluster, and a state. -/
def tSb (f : SbSt → SbSt) : Dev :=
  setFld fDP_CTRL_ENABLE 3 1 (setPd 48 1 { tb with
    dict := [(0x938032, [1]), (0x940001, [1]), (0x940003, [224, 1, 1, 1]), (0x940008, [16])]
    sec := { tb.sec with clusters := [(0, { state := .running })] }
    sb := f tb.sb })

/-- An IGMPv2 report of group 224.1.1.1. -/
def tIgmp : List Byte :=
  [1, 0, 0x5E, 1, 1, 1, 0, 0, 0, 0, 0, 2, 8, 0, 0x45, 0, 0, 28, 0, 0, 0, 0, 1, 2, 0, 0, 10, 0, 0, 1, 224, 1, 1, 1,
   0x16, 0, 0, 0, 224, 1, 1, 1]

/-- A repair request of programme 0 for one key from 5 on. -/
def tRepair : List Byte :=
  [0, 0, 0, 0, 0, 1, 0, 0, 0, 0, 0, 2, 0x88, 0xB5, 1, 1, 0, 0, 0, 0, 0, 5, 0, 1, 0, 0, 0, 0, 0, 0, 0, 0, 0, 0, 0, 0]

/-- A record, a recall point, and a programme that holds it. -/
def tRec : Record := ⟨4, 0, 64, true, some 5, recordBytes 4 true false 0 0 5 0 0 [1, 2]⟩

def tProg : Programme := { records := [tRec], nextSeq := 5, nextPos := 64, recalls := [4], lastRecord := some 3 }

/-- Longcase in a servo state under a source, valid, at 5 s. -/
def tLt (s : Servo) (source : Nat) : Dev :=
  setFld fLT_CTRL_SOURCE 0 source { tb with lc := { tb.lc with base := 5 * ltSec, servo := s, valid := true } }

/-- Every domain on, the window active, and a memory complex. -/
def tMem (f : MemSt → MemSt) : Dev :=
  (List.range 50).foldl (fun d n => setPd n 1 d) (setFld fGL_BOOT_STEP 0 5 { tb with mc := f tb.mc, host := { tb.host with link := { up := true, cxl := true } } })

/-- A host port in Run, drawer and rings as given. -/
def tHost (n : Nat) (w : Drawer) : Dev := setDrawer n w (setPd 46 1 { tb with now := 100 })

/-- Transmit ring 0 enabled with 16 entries, and one descriptor in it. -/
def tTx : Dev := modRing 240 (fun r => { r with hostIx := 1 }) (setReg .txrCfg 0 0x14 (tHost 0 {}))

/-- An access to BAR0 at 100. -/
def tAcc (w : Bool) (o : Nat) (v : Word) : BarAccess := ⟨100, w, o, 8, v⟩

/-- Selectable counters 0 and 1 at 5 and 9, chained. -/
def tPair : Dev := setFld fSC_CFG_CHAIN 1 1 { tb with cnt := { sel := [(0, 5), (1, 9)], selLatch := [(1, 8)] } }

/-- The Secretary in Run, with path L as given. -/
def tDic (x : PathSt) : Dev := setPd 3 1 { tb with now := 100, dic := { tb.dic with l := x, gen := 7 } }

/-- A request on path L. -/
def tHd : DictHead := ⟨100, .l, 5, 0, 0, 0⟩

/-- The Secretary, the host port and cluster 0 in Run, ten handles with the host, a submission ring that holds a descriptor. -/
def tBn (x : SecSt) : Dev :=
  modRing 260 (fun r => { r with hostIx := 1 }) (setReg .bnsCfg 0 0x14 (setFld fBN_CTRL_HOST_HANDLES 0 10
    (setFld fBN_CTRL_AFFINITY_WINDOW 0 100 (setPd 46 1 (setPd 4 1 (setPd 3 1 { tb with now := 1000, sec := { x with clusters := [(0, { state := .running })] } }))))))

/-- A task of type 0x41, context 2. -/
def tTk (st : TaskState) : Task := { newTask 0x41 2 1 [] false 9 0 0 with state := st }

/-- A completed snapshot of generation 9. -/
def tCabBank : CabBank := ⟨9, 0, 0, false, false, [], [], [], [], [], []⟩

/-- A descriptor of a type for handle 3 with so many predecessors. -/
def tDesc (ty dep : Nat) : TaskDesc := ⟨1000, BitVec.ofNat 48 (ty * 2 ^ 40 + 2 * 2 ^ 24 + 3 * 2 ^ 12 + dep), 0, 9, 0⟩

/-- A header that names a service-core section of four bytes, and the section. -/
def tImg : List Byte := List.replicate 32 0 ++ [0, 0, 0, 40, 0, 0, 0, 4, 1, 2, 3, 4]

/-- Cluster 1 held in reset for its load, its domain on, and an image in the active slot. -/
def tCl (bs : List Byte) : Dev := setPd 5 1 { tBn {} with
  sec := { clusters := [(1, { state := .loading })] }, img := { a := { state := .active, blocks := [(0, bs)] } } }

/-- The Secretary and cluster 0 in Run, with the images as given. -/
def tSe (i : ImgSt) : Dev := { tBn {} with img := i }

/-- Run, released and Active in lane terms: the controller as given. -/
def tPw (p : PwrSt) : Dev :=
  setPd 3 1 (setPd 46 1 { tb with
    now := 100, pwr := p, act := { tb.act with lineRelease := true },
    dict := (List.range 5).map (fun k => ((0x7010 + k) * 256 + 1, [BitVec.ofNat 8 k])) })

/-- A change to a target, before its commit point or after it. -/
def tCh (target : Nat) (p : PwPhase) : PwChange := { req := { target := target, period := 9, origin := .host }, phase := p, held := true }

/-- A wake in which rail 0 is the next and the last to be raised. -/
def tWk : PwWake := { source := 2, from_ := 3, raise := [0] }

/-- Selectable counters 0 and 1 at 5 and 9, the Cabinet as given, Longcase valid at 5 s. -/
def tCn (c : Cabinet) : Dev :=
  setPd 3 1 (setPd 46 1 { tb with now := 100, cab := c, cnt := { sel := [(0, 5), (1, 9)], selLatch := [(1, 8)] }, lc := { base := 5 * ltSec, valid := true } })

/-- A bank of generation 1 of four counters of page 0. -/
def tBank : CabBank := ⟨1, 5, 7, true, false, [1], [], [(0, 42)], [3], [], []⟩

/-- The monitors as given, past step 3, rail 0 mapped. -/
def tMo (m : Monitors) : Dev := setFld fGL_BOOT_STEP 0 6 { tb with now := 100, mon := m, dict := [(0x7010 * 256 + 1, [0])] }

/-- The Secretary in Run, with the images as given and a service key. -/
def tIm (i : ImgSt) : Dev := setPd 3 1 { tb with now := 100, img := { i with serviceKey := some 5 }, dict := [(0xB100 * 256 + 2, [10, 0, 0, 1])] }

/-- Session 1 under key 0, open or not, with its transfer. -/
def tSs (o : Bool) (t : Option Nat) : ImgSt := { sessions := [(1, { opened := o, transfer := t, rxSeq := 3, lastAt := 50 })], b := { state := .writing, total := 4096 } }

/-- A message of a type in session 1 with its check value under key 0. -/
def tMg (type : Nat) (p : List Byte) : WaifelMsg := ⟨100, 1, 9, 0, p, BitVec.ofNat 64 (wfCheck 0 (wfBody type 1 9 0 p)), true⟩

/-- An ARP request for 10.0.0.1. -/
def tArp : List Byte :=
  List.replicate 6 255 ++ [2, 0, 0, 0, 0, 1, 8, 6, 0, 1, 8, 0, 6, 4, 0, 1, 2, 0, 0, 0, 0, 1, 10, 0, 0, 2, 0, 0, 0, 0, 0, 0, 10, 0, 0, 1]

/-- Such a message is acted on in a session open under key 0 whose sequence is behind it. -/
theorem tMg_taken (type : Nat) (p : List Byte) (d : Dev) (x : Session) (t : Time) (h : session d 1 = some x)
    (o : x.opened = true) (k : x.key = 0) (n : x.rxSeq < 9) :
    (wfAccept t (tMg type p).session.toNat type (tMg type p).seq.toNat (tMg type p).ack.toNat (tMg type p).payload
      (tMg type p).check.toNat d).1 = true := by
  have e : (tMg type p).check.toNat = wfCheck 0 (wfBody type 1 9 0 p) := by
    have b : wfCheck 0 (wfBody type 1 9 0 p) < 2 ^ 64 := by
      unfold wfCheck checkValue
      rw [Nat.shiftRight_eq_div_pow]
      exact Nat.div_lt_of_lt_mul (by have := (cmac 0 (wfBody type 1 9 0 p)).isLt; omega)
    exact (BitVec.toNat_ofNat ..).trans (Nat.mod_eq_of_lt b)
  have m : ((tMg type p).session.toNat, (tMg type p).seq.toNat, (tMg type p).ack.toNat, (tMg type p).payload) = (1, 9, 0, p) := rfl
  simp only [Prod.mk.injEq] at m
  simp only [wfAccept, m.1, m.2.1, m.2.2.1, m.2.2.2, e, h, o, k]
  simp [Nat.not_le.mpr n]

/-- The request is answered where the service port has its address. -/
theorem tArpAnswered (d : Dev) (i : Nat) (h : serviceV4 d = some 0x0A000001) :
    serviceAnswer d i tArp = some ((serviceAnswer d i tArp).getD []) := by
  have b : bytesToNat (tArp.take 6) = 2 ^ 48 - 1 := by decide +kernel
  have c : bytesToNat ((tArp.drop 12).take 2) = 0x0806 := by decide +kernel
  have e : (arpAnswer d ((tArp.drop 6).take 6) (tArp.drop 14)).isSome = true := by
    unfold arpAnswer
    rw [if_pos ⟨by decide +kernel, by decide +kernel, by decide +kernel, by decide +kernel, by decide +kernel, by decide +kernel,
      h.trans (by decide +kernel)⟩]
    rfl
  obtain ⟨r, q⟩ := Option.isSome_iff_exists.mp e
  have f : serviceAnswer d i tArp = some r := by
    unfold serviceAnswer
    simp only [b, c, q]
    exact if_neg fun x => absurd x.2 (by decide)
  rw [f]
  rfl

/-- What a boot finds where everything is in order. -/
def tBoot (osc : Bool) : BootInputs := ⟨500, osc, true, true, [true, true, true, true, true], [true, false], true, true⟩

theorem witness_StepRunsFrontCommand : ∃ (c : Instr) (rest : List Instr) (s : State), s.pending = c :: rest :=
  ⟨.ppsPulse 5, [], { State.reset with pending := [.ppsPulse 5] }, rfl⟩

theorem witness_StepIdles : ∃ s : State, s.pending = [] := ⟨State.reset, rfl⟩

theorem witness_MemoryBytesKept : ∃ (c : Instr) (s t : State), touchesMemory c = false ∧ exec c s = .next t :=
  ⟨.ppsPulse 5, { dev := tb }, _, rfl, rfl⟩

theorem witness_MemoryStaysCanonical : ∃ s t : State, s.mem.wf = true ∧ step s = .next t :=
  ⟨{ dev := tb, pending := [.ppsPulse 5] }, _, by decide +kernel, rfl⟩

theorem witness_DrawersStayWithinDepth :
    ∃ s t : State, (∀ n, (drawer s.dev n).items.length ≤ drawerDepth n) ∧ step s = .next t :=
  ⟨{ dev := tb, pending := [.ppsPulse 5] }, _, fun _ => Nat.zero_le _, rfl⟩

theorem witness_NothingHappensInReset :
    ∃ (c : Instr) (s : State), s.dev.porstLow = true ∧ ∀ b, c ≠ .powerGood b :=
  ⟨.ppsPulse 5, State.reset, by decide +kernel, fun _ h => nomatch h⟩

theorem witness_LineReception_1 :
    (∃ (t : Time) (ch : Fin 16) (l : Lane) (s : State), s.dev.porstLow = false ∧ chanPresent (tick t s.dev) ch = true ∧ (tick t s.dev).prot.settling = false) ∧
    (∃ (t : Time) (ch : Fin 16) (l : Lane) (s : State), s.dev.porstLow = false ∧ chanPresent (tick t s.dev) ch = true ∧ (tick t s.dev).prot.settling = false) ∧
    (∃ (t : Time) (ch : Fin 16) (s : State), s.dev.porstLow = false ∧ chanPresent (tick t s.dev) ch = true ∧ (tick t s.dev).prot.settling = false) ∧
    (∃ (t : Time) (ch : Fin 16) (l : Lane) (s : State), s.dev.porstLow = false ∧ chanPresent (tick t s.dev) ch = true ∧ (serial (tick t s.dev) (rxKey ch (l == .b))).st = 6 ∧ (tick t s.dev).prot.settling = false ∧
(laneOf (chan (tick t s.dev) ch) (l == .b)).al.align = .los) :=
  ⟨⟨5, 0, .a, { dev := tLine .sync }, by decide +kernel⟩,
   ⟨5, 0, .b, { dev := tLine .hunt }, by decide +kernel⟩,
   ⟨5, 0, { dev := tLine .sync }, by decide +kernel⟩,
   ⟨5, 0, .b, { dev := { tLine .los with lanes := [(97, { st := 6 })] } }, by decide +kernel⟩⟩

theorem witness_LineReception_2 :
    (∃ (f : LineFrame) (p : Nat) (k : Nat) (h : Nat) (s : State), s.dev.porstLow = false ∧ chanEnabled (tick f.t s.dev) f.ch = true ∧ (tick f.t s.dev).prot.settling = false ∧ engineRuns (tick f.t s.dev) = true ∧
(laneOf (chan (tick f.t s.dev) f.ch) (f.lane == .b)).al.align = .hunt ∧ (laneOf (chan (tick f.t s.dev) f.ch) (f.lane == .b)).al.cands = [] ∧
foundSights (fld (tick f.t s.dev) (if f.lane == .b then fLC_CTRL_RX_INV_B else fLC_CTRL_RX_INV_A) f.ch == 1) f.sightings = [(p, k, h)]) ∧
    (∃ (f : LineFrame) (s : State), s.dev.porstLow = false ∧ chanEnabled (tick f.t s.dev) f.ch = true ∧ (tick f.t s.dev).prot.settling = false ∧ engineRuns (tick f.t s.dev) = true ∧
(laneOf (chan (tick f.t s.dev) f.ch) (f.lane == .b)).al.align = .sync ∧
fld (tick f.t s.dev) fLC_CTRL_ALIGN_M f.ch ≤ (laneOf (chan (tick f.t s.dev) f.ch) (f.lane == .b)).al.errRun + 1 ∧
(foundSights (fld (tick f.t s.dev) (if f.lane == .b then fLC_CTRL_RX_INV_B else fLC_CTRL_RX_INV_A) f.ch == 1) f.sightings).any
  (fun x => x.1 == (laneOf (chan (tick f.t s.dev) f.ch) (f.lane == .b)).al.pos) = false) :=
  ⟨⟨tFrame 0xA6F31C8B5E2D94C7, 5, 0, 0, { dev := tLine .hunt }, by decide +kernel⟩,
   ⟨tFrame 0, { dev := { tLine .sync with chans := [(0, { laneA := { al := { align := .sync, errRun := 40 } } })] } }, by decide +kernel⟩⟩

theorem witness_BoundaryAndProtection_1 : (∃ (t : Time) (inp : BoundaryInputs) (v : Nat) (s : State), s.dev.porstLow = false ∧ engineRuns (tick t s.dev) = true ∧ (tick t s.dev).act.delayPend = [(0, v)] ∧ v < 2 ^ 24) := ⟨5, ⟨[], [], []⟩, 77, { dev := { tb with act := { tb.act with delayPend := [(0, 77)] } } }, by decide +kernel⟩

theorem witness_BoundaryAndProtection_2 :
    (∃ (t : Time) (s : State), s.dev.porstLow = false ∧ (tick t s.dev).prot.state = .holdoff ∧ (tick t s.dev).prot.due ≤ (tick t s.dev).now ∧ (protAuto (tick t s.dev) && protFault (tick t s.dev)) = true) ∧
    (∃ (t : Time) (s : State), s.dev.porstLow = false ∧ (tick t s.dev).prot.state = .holdoff ∧ (tick t s.dev).prot.due ≤ (tick t s.dev).now ∧ (protAuto (tick t s.dev) && protFault (tick t s.dev)) = false) ∧
    (∃ (t : Time) (s : State), s.dev.porstLow = false ∧ (tick t s.dev).prot.settling = true ∧ (tick t s.dev).prot.settleDue ≤ (tick t s.dev).now) ∧
    (∃ (t : Time) (s : State), s.dev.porstLow = false ∧ (tick t s.dev).prot.checking = true ∧ (tick t s.dev).prot.checkDue ≤ (tick t s.dev).now ∧ anyUp (tick t s.dev) = false ∧ protAuto (tick t s.dev) = true) ∧
    (∃ (t : Time) (s : State), s.dev.porstLow = false ∧ (tick t s.dev).prot.state = .alternating ∧ (tick t s.dev).prot.due ≤ (tick t s.dev).now ∧ anyUp (tick t s.dev) = false ∧ protAuto (tick t s.dev) = true) ∧
    (∃ (t : Time) (v : Word) (s : State), s.dev.porstLow = false ∧ fld (tick t s.dev) fPROT_CTRL_ENABLE 0 = 1 ∧ bitsOf v.toNat 1 1 = 1 ∧ bitsOf v.toNat 5 4 = 1) ∧
    (∃ (t : Time) (v : Word) (s : State), s.dev.porstLow = false ∧ fld (tick t s.dev) fPROT_CTRL_ENABLE 0 = 1 ∧ bitsOf v.toNat 1 1 = 1 ∧ bitsOf v.toNat 5 4 = 2) ∧
    (∃ (t : Time) (b : Bool) (s : State), s.dev.porstLow = false ∧ (tick t s.dev).act.lockoutDue = some b ∧ secretaryRuns (tick t s.dev) = true ∧ (tick t s.dev).dic.unsaved < 32768) :=
  ⟨⟨5, { dev := setFld fPROT_CTRL_ENABLE 0 1 { tLine .los with prot := { state := .holdoff, due := 3 } } }, by decide +kernel⟩,
   ⟨5, { dev := { tLine .los with prot := { state := .holdoff, due := 3 } } }, by decide +kernel⟩,
   ⟨5, { dev := { tLine .hunt with prot := { state := .settle, settling := true, settleDue := 4 } } }, by decide +kernel⟩,
   ⟨5, { dev := setFld fPROT_CTRL_ENABLE 0 1 { tLine .los with prot := { state := .resync, checking := true } } }, by decide +kernel⟩,
   ⟨5, { dev := setFld fPROT_CTRL_ENABLE 0 1 { tLine .los with prot := { state := .alternating } } }, by decide +kernel⟩,
   ⟨5, 0x12, { dev := setFld fPROT_CTRL_ENABLE 0 1 { tb with prot := { sel := true } } }, by decide +kernel⟩,
   ⟨5, 0x22, { dev := setFld fPROT_CTRL_ENABLE 0 1 { tb with prot := { sel := false } } }, by decide +kernel⟩,
   ⟨5, true, { dev := setPd 3 1 { tb with act := { tb.act with lockoutDue := some true } } }, by decide +kernel⟩⟩

theorem witness_JoiningMessages_1 :
    (∃ (m : CtlMsg) (s : State), s.dev.porstLow = false ∧ messageActs 0x01 m (tick m.t s.dev) = true ∧ badProfile m = false) ∧
    (∃ (m : CtlMsg) (s : State), s.dev.porstLow = false ∧ (messageActs 0x02 m (tick m.t s.dev) = true ∧ mf m 4 8 = ownSerial ∧ actState (tick m.t s.dev) ≠ 4 ∧ mf m 12 2 ≤ 511 ∧
mf m 14 1 ≤ 15 ∧ chanEnabled (tick m.t s.dev) (mf m 14 1) = true ∧ (tick m.t s.dev).pwr.lifeline = false ∧
((tick m.t s.dev).pwr.state = 0 ∨ (tick m.t s.dev).pwr.state = 1) ∧
(List.range 50).all (fun n => pdState (tick m.t s.dev) n == domState (tick m.t s.dev) (tick m.t s.dev).pwr.state false n) = true)) :=
  ⟨⟨tMsg 0xFFFE [1, 255, 255, 0, 0x80, 0, 1, 9, 0] [], { dev := tOp 4 }, by decide +kernel⟩,
   ⟨tAssign, { dev := (List.range 50).foldl (fun d n => setPd n (domState d 0 false n) d) (tOp 2) }, ⟨by decide +kernel, by decide +kernel, tAssign_serial, by decide +kernel, by decide +kernel, by decide +kernel, by decide +kernel, by decide +kernel, by decide +kernel, by decide +kernel⟩⟩⟩

theorem witness_JoiningMessages_2 :
    (∃ (m : CtlMsg) (s : State), s.dev.porstLow = false ∧ messageActs 0x03 m (tick m.t s.dev) = true ∧ mf m 4 1 ≤ 15 ∧ chanPresent (tick m.t s.dev) (mf m 4 1) = true ∧
chanUp (tick m.t s.dev) (mf m 4 1) = true ∧ mf m 5 1 = pathNow (tick m.t s.dev)) ∧
    (∃ (m : CtlMsg) (v : Nat) (s : State), s.dev.porstLow = false ∧ messageActs 0x04 m (tick m.t s.dev) = true ∧ mf m 4 1 ≤ 1 ∧ mf m 5 1 ≤ 1 ∧
msgDelay m (latestDelay (tick m.t s.dev) (mf m 4 1)) = some v) :=
  ⟨⟨tMsg 0xFFFD [3, 0, 7, 0, 0, 0, 0, 1, 2] [], { dev := tOp 3 }, by decide +kernel⟩,
   ⟨tMsg 0xFFFD [4, 0, 7, 0, 0, 0, 0, 1, 2] [], 258, { dev := tOp 3 }, by decide +kernel⟩⟩

theorem witness_StopAndKeyMessages_1 :
    (∃ (m : CtlMsg) (s : State), s.dev.porstLow = false ∧ messageActs 0x05 m (tick m.t s.dev) = true) ∧
    (∃ (m : CtlMsg) (s : State), s.dev.porstLow = false ∧ messageActs 0x06 m (tick m.t s.dev) = true ∧ mf m 4 1 ≤ 1 ∧ scopeNames m = true) ∧
    (∃ (m : CtlMsg) (s : State), s.dev.porstLow = false ∧ messageActs 0x07 m (tick m.t s.dev) = true ∧ mf m 4 1 ≤ 1 ∧ BitVec.ofNat 32 (mf m 15 4) = (tick m.t s.dev).fs.nonce ∧
enableNames m (if numHeld (tick m.t s.dev) then some (termNum (tick m.t s.dev)) else none) = true ∧
fld (tick m.t s.dev) fACT_CTRL_INHIBIT 0 = 0 ∧ secretaryActs (tick m.t s.dev) = true) ∧
    (∃ (m : CtlMsg) (s : State), s.dev.porstLow = false ∧ messageActs 0x07 m (tick m.t s.dev) = true ∧ mf m 4 1 ≤ 1 ∧ BitVec.ofNat 32 (mf m 15 4) = (tick m.t s.dev).fs.nonce ∧
enableNames m (if numHeld (tick m.t s.dev) then some (termNum (tick m.t s.dev)) else none) = true ∧ fld (tick m.t s.dev) fACT_CTRL_INHIBIT 0 = 1) :=
  ⟨⟨tMsg 0xFFFD [5, 0, 7, 0] [], { dev := tOp 4 }, by decide +kernel⟩,
   ⟨tMsg 0xFFFE [6, 255, 255, 0, 1, 0, 0, 0, 0, 0, 0, 0, 0, 0, 0, 0, 5] [], { dev := tOp 4 }, by decide +kernel⟩,
   ⟨tMsg 0xFFFE [7, 255, 255, 0, 1] [], { dev := setPd 3 1 (tOp 6) }, by decide +kernel⟩,
   ⟨tMsg 0xFFFE [7, 255, 255, 0, 1] [], { dev := setFld fACT_CTRL_INHIBIT 0 1 (tOp 6) }, by decide +kernel⟩⟩

theorem witness_StopAndKeyMessages_2 :
    (∃ (m : CtlMsg) (s : State), s.dev.porstLow = false ∧ messageActs 0x08 m (tick m.t s.dev) = true ∧ mf m 4 1 = 1 ∧ mf m 5 1 ≤ 3) ∧
    (∃ (m : CtlMsg) (s : State), s.dev.porstLow = false ∧ messageActs 0x08 m (tick m.t s.dev) = true ∧ mf m 4 1 = 2 ∧ mf m 5 1 ≤ 3 ∧ mAck m = true) ∧
    (∃ (t : Time) (i : Nat) (f : Word) (s : State), s.dev.porstLow = false ∧ (tick t s.dev).act.keySwitch = some (i, f) ∧ i ≤ 3 ∧ f ≤ frameNow (tick t s.dev) + 1) :=
  ⟨⟨tMsg 0xFFFD [8, 0, 7, 0, 1, 2] [180, 58, 226, 227], { dev := tOp 4 }, by decide +kernel⟩,
   ⟨tMsg 0xFFFD [8, 0, 7, 0x81, 2] [7, 202, 147, 68], { dev := tOp 4 }, by decide +kernel⟩,
   ⟨5, 3, 0, { dev := { tOp 4 with act := { tb.act with keySwitch := some (3, 0) } } }, by decide +kernel⟩⟩

theorem witness_OtherMessagesAndTimers_1 :
    (∃ (m : CtlMsg) (s : State), s.dev.porstLow = false ∧ messageActs 0x09 m (tick m.t s.dev) = true ∧ mf m 16 4 ≤ 999999999 ∧
(tick m.t s.dev).lc.history.any (fun h => h.fc == BitVec.ofNat 48 (mf m 4 6)) = false ∧ numHeld (tick m.t s.dev) = true ∧
frameNow (tick m.t s.dev) < BitVec.ofNat 48 (mf m 4 6) ∧ mf m 4 6 ≤ (frameNow (tick m.t s.dev)).toNat + 8000) ∧
    (∃ (m : CtlMsg) (s : State), s.dev.porstLow = false ∧ messageActs 0x0A m (tick m.t s.dev) = true ∧ mf m 4 1 = 1 ∧ 0 < mf m 6 2) ∧
    (∃ (m : CtlMsg) (s : State), s.dev.porstLow = false ∧ messageActs 0x0A m (tick m.t s.dev) = true ∧ mf m 4 1 = 0) ∧
    (∃ (m : CtlMsg) (s : State), s.dev.porstLow = false ∧ (messageActs 0x0B m (tick m.t s.dev) = true ∧ (mf m 4 1 = 1 ∨ mf m 4 1 = 2) ∧ mf m 5 1 = 0 ∧ fld (tick m.t s.dev) fPROT_CTRL_ENABLE 0 = 1)) :=
  ⟨⟨tMsg 0xFFFE [9, 255, 255, 0, 0, 0, 0, 0, 0, 60] [248, 21, 64, 206], { dev := tOp 4 }, by decide +kernel⟩,
   ⟨tMsg 0xFFFD [10, 0, 7, 0, 1, 3, 0, 60] [193, 213, 201, 126], { dev := tOp 4 }, by decide +kernel⟩,
   ⟨tMsg 0xFFFD [10, 0, 7, 0, 0] [218, 55, 218, 116], { dev := tOp 4 }, by decide +kernel⟩,
   ⟨tMsg 0xFFFD [11, 0, 7, 0, 2, 0] [234, 139, 81, 29], { dev := setFld fPROT_CTRL_ENABLE 0 1 (tOp 4) }, by decide +kernel⟩⟩

theorem witness_OtherMessagesAndTimers_2 :
    (∃ (t : Time) (x : Time) (s : State), s.dev.porstLow = false ∧ actState (tick t s.dev) = 3 ∧ (tick t s.dev).act.rangingDue = some x ∧ x ≤ (tick t s.dev).now) ∧
    (∃ (t : Time) (x : Time) (s : State), s.dev.porstLow = false ∧ actState (tick t s.dev) = 5 ∧ (tick t s.dev).act.lossDue = some x ∧ x ≤ (tick t s.dev).now) ∧
    (∃ (t : Time) (x : Time) (s : State), s.dev.porstLow = false ∧ (tick t s.dev).act.sleepUntil = some x ∧ x ≤ (tick t s.dev).now) ∧
    (∃ (t : Time) (s : State), s.dev.porstLow = false ∧ True) ∧
    (∃ (t : Time) (s : State), s.dev.porstLow = false ∧ (tick t s.dev).act.battLow = false) :=
  ⟨⟨5, 3, { dev := { tOp 3 with act := { tb.act with rangingDue := some 3 } } }, by decide +kernel⟩,
   ⟨5, 3, { dev := { tOp 5 with act := { tb.act with lossDue := some 3 } } }, by decide +kernel⟩,
   ⟨5, 3, { dev := { tOp 4 with act := { tb.act with sleepUntil := some 3, sleepStates := 2 } } }, by decide +kernel⟩,
   ⟨5, { dev := { tOp 4 with act := { tb.act with pfailLow := true } } }, by decide +kernel⟩,
   ⟨5, { dev := tOp 4 }, by decide +kernel⟩⟩

theorem witness_KeyRegisters :
    (∃ (e : BitVec 8) (s : State), s.dev.porstLow = false ∧ keyInUse s.dev e.toNat = false) ∧
    (∃ (e : BitVec 8) (s : State), s.dev.porstLow = false ∧ keyInUse s.dev e.toNat = true) ∧
    (∃ (e : BitVec 8) (s : State), s.dev.porstLow = false ∧ keyInUse s.dev e.toNat = false) ∧
    (∃ (e : BitVec 8) (s : State), s.dev.porstLow = false ∧ keyInUse s.dev e.toNat = true) ∧
    (∃ (e : BitVec 8) (s : State), s.dev.porstLow = false ∧ True) ∧
    (∃ (k : BitVec 8) (s : State), s.dev.porstLow = false ∧ k.toNat < 7) ∧
    (∃ (k : BitVec 8) (s : State), s.dev.porstLow = false ∧ 7 ≤ k.toNat) ∧
    (∃ (k : BitVec 8) (s : State), s.dev.porstLow = false ∧ k.toNat < 7) ∧
    (∃ (k : BitVec 8) (s : State), s.dev.porstLow = false ∧ 7 ≤ k.toNat) ∧
    (∃ (o : BitVec 3) (e : BitVec 8) (s : State), s.dev.porstLow = false ∧ (o = 0 ∨ o = 4 ∨ o = 7)) ∧
    (∃ (i : Fin 3) (v : Word) (s : State), s.dev.porstLow = false ∧ True) :=
  ⟨⟨9, { dev := tEnv .sync }, by decide +kernel⟩,
   ⟨0, { dev := tEnv .sync }, by decide +kernel⟩,
   ⟨9, { dev := setKeyEntry 9 { key := some 1 } tb }, by decide +kernel⟩,
   ⟨0, { dev := tb }, by decide +kernel⟩,
   ⟨9, { dev := setKeyEntry 9 { key := some 1, count := deadCount } tb }, by decide +kernel⟩,
   ⟨6, { dev := tEnv .sync }, by decide +kernel⟩,
   ⟨7, { dev := tb }, by decide +kernel⟩,
   ⟨6, { dev := { tb with cipher := { tb.cipher with slots := [(6, 1)] } } }, by decide +kernel⟩,
   ⟨255, { dev := tb }, by decide +kernel⟩,
   ⟨7, 3, { dev := tb }, by decide +kernel⟩,
   ⟨2, 0x1B, { dev := tb }, by decide +kernel⟩⟩

theorem witness_EnvelopesIn_1 :
    (∃ (e : EnvelopeIn) (s : State), s.dev.porstLow = false ∧ (laneGives (tick e.t s.dev) e.ch (e.lane == .b) = true ∧ (laneOf (chan (tick e.t s.dev) e.ch) (e.lane == .b)).delin = .sync ∧
(laneOf (chan (tick e.t s.dev) e.ch) (e.lane == .b)).nextWord ≤ e.word ∧ e.word < areaSize (laneOf (chan (tick e.t s.dev) e.ch) (e.lane == .b)) (e.lane == .b) ∧
(tick e.t s.dev).pwr.heldMgmt = [] ∧ e.headerErrored = false ∧ envCheckOk e.header = true ∧
e.payloadErrored = false ∧ e.word + envWords e.header ≤ areaSize (laneOf (chan (tick e.t s.dev) e.ch) (e.lane == .b)) (e.lane == .b) ∧
(envFlow e.header = 0xFFFD ∨ envFlow e.header = 0xFFFE) ∧ envLen e.header = 48 ∧ knownType (e.payload.headD 0).toNat = true)) ∧
    (∃ (e : EnvelopeIn) (s : State), s.dev.porstLow = false ∧ (laneGives (tick e.t s.dev) e.ch (e.lane == .b) = true ∧ (laneOf (chan (tick e.t s.dev) e.ch) (e.lane == .b)).delin = .sync ∧
(laneOf (chan (tick e.t s.dev) e.ch) (e.lane == .b)).nextWord ≤ e.word ∧ e.word < areaSize (laneOf (chan (tick e.t s.dev) e.ch) (e.lane == .b)) (e.lane == .b) ∧
(tick e.t s.dev).pwr.heldMgmt = [] ∧ e.headerErrored = false ∧ envCheckOk e.header = false ∧
((laneOf (chan (tick e.t s.dev) e.ch) (e.lane == .b)).headerBad = false ∨ e.lane = .b))) :=
  ⟨⟨tEnvIn (envHeader 0xFFFE 48 true true 0 0) (4 :: List.replicate 47 0), { dev := tEnv .sync }, by decide +kernel⟩,
   ⟨tEnvIn 0 [], { dev := tEnv .sync }, by decide +kernel⟩⟩

theorem witness_EnvelopesIn_2 :
    (∃ (t : Time) (f : BitVec 16) (k : Nat) (x : BondEnv) (q : Nat) (s : State), s.dev.porstLow = false ∧ downSlot (tick t s.dev) f.toNat = some k ∧ isMgmt (tick t s.dev) k = false ∧ (bondFlow (tick t s.dev) k).held = [x] ∧ (bondFlow (tick t s.dev) k).expected = some q ∧
q < 4096 ∧ x.seq < 4096 ∧ (tick t s.dev).pwr.heldMgmt = [] ∧ x.since + fld (tick t s.dev) fBOND_CTRL_WINDOW 0 * Config.us ≤ (tick t s.dev).now) ∧
    (∃ (t : Time) (f : BitVec 16) (k : Nat) (x : BondEnv) (l : List BondEnv) (s : State), s.dev.porstLow = false ∧ downSlot (tick t s.dev) f.toNat = some k ∧ (bondFlow (tick t s.dev) k).held = x :: l ∧ (tick t s.dev).pwr.heldMgmt = [] ∧
(tick t s.dev).now < x.since + fld (tick t s.dev) fBOND_CTRL_WINDOW 0 * Config.us) :=
  ⟨⟨2 ^ 50, 5, 0, ⟨9, 0, true, true, false, false, [1, 2], 16⟩, 7, { dev := { tFlow with bond := { tb.bond with flows := [(0, { expected := some 7, held := [⟨9, 0, true, true, false, false, [1, 2], 16⟩] })] } } }, by decide +kernel⟩,
   ⟨5, 5, 0, ⟨9, 0, true, true, false, false, [1, 2], 16⟩, [], { dev := { tFlow with bond := { tb.bond with flows := [(0, { expected := some 7, held := [⟨9, 0, true, true, false, false, [1, 2], 16⟩] })] } } }, by decide +kernel⟩⟩

theorem witness_Bursts_1 :
    (∃ (t : Time) (ch : Fin 16) (bad : List (BitVec 14)) (g : Grant) (s : State), s.dev.porstLow = false ∧ engineRuns (tick t s.dev) = true ∧ isTribGrant (tick t s.dev) g = false ∧
firstGrant (tick t s.dev) (fun x => x.ch == ch && x.content.isNone && decide (grantBegin x ≤ (tick t s.dev).now + fld (tick t s.dev) fLE_FILL_FILL_LEAD 0 * Config.us)) = some g) ∧
    (∃ (t : Time) (ch : Fin 16) (g : Grant) (s : State), s.dev.porstLow = false ∧ firstGrant (tick t s.dev) (fun x => x.ch == ch && (x.content.map (·.fetched) == some false)) = some g) :=
  ⟨⟨2 ^ 70, 0, [], tGrant, { dev := tUp tGrant }, by decide +kernel⟩,
   ⟨5, 0, { tGrant with content := some { fetched := false } }, { dev := tUp { tGrant with content := some { fetched := false } } }, by decide +kernel⟩⟩

theorem witness_Bursts_2 :
    (∃ (t : Time) (ch : Fin 16) (g : Grant) (c : Content) (s : State), s.dev.porstLow = false ∧ engineRuns (tick t s.dev) = true ∧ (fsChan (tick t s.dev) g.ch).ben = true ∧ g.content = some c ∧ c.fetched = true ∧
firstGrant (tick t s.dev) (fun x => x.ch == ch && !x.started && decide (grantBegin x ≤ (tick t s.dev).now)) = some g) ∧
    (∃ (t : Time) (ch : Fin 16) (g : Grant) (s : State), s.dev.porstLow = false ∧ (tick t s.dev).pwr.change = none ∧
firstGrant (tick t s.dev) (fun x => x.ch == ch && x.started && decide (grantEnd x ≤ (tick t s.dev).now)) = some g) :=
  ⟨⟨2 ^ 70, 0, { tGrant with content := some {} }, {}, { dev := { tUp { tGrant with content := some {} } with fs := { tb.fs with chans := [(0, { ben := true })] } } }, by decide +kernel⟩,
   ⟨2 ^ 70, 0, { tGrant with content := some {}, started := true }, { dev := tUp { tGrant with content := some {}, started := true } }, by decide +kernel⟩⟩

theorem witness_Bursts_3 :
    (∃ (t : Time) (s : State), s.dev.porstLow = false ∧ (tick t s.dev).up.blocks.any (fun b => decide (b.builtAt + 2 * Config.frame ≤ (tick t s.dev).now)) = true) ∧
    (∃ (t : Time) (s : State), s.dev.porstLow = false ∧ (tick t s.dev).up.blocks.any (fun b => decide (b.builtAt + 2 * Config.frame ≤ (tick t s.dev).now)) = false) :=
  ⟨⟨2 ^ 60, { dev := { tb with up := { tb.up with blocks := [⟨5, 3, []⟩] } } }, by decide +kernel⟩,
   ⟨5, { dev := { tb with up := { tb.up with blocks := [⟨5, 3, []⟩] } } }, by decide +kernel⟩⟩

theorem witness_FirescreenView_1 :
    (∃ (f : FsFrame) (s : State), s.dev.porstLow = false ∧ (chanPresent (tick f.t s.dev) f.ch = true ∧ (tick f.t s.dev).fs.undriven = false ∧ f.lane = .a ∧ (fsChan (tick f.t s.dev) f.ch).frames ≠ 0 ∧ (fsChan (tick f.t s.dev) f.ch).timing = false ∧
(f.spacing < 6248 ∨ 6252 < f.spacing))) ∧
    (∃ (f : FsFrame) (s : State), s.dev.porstLow = false ∧ chanPresent (tick f.t s.dev) f.ch = true ∧ (tick f.t s.dev).fs.undriven = false ∧ f.lane = .a ∧ (fsChan (tick f.t s.dev) f.ch).frames ≠ 0 ∧ (fsChan (tick f.t s.dev) f.ch).timing = true ∧
6248 ≤ f.spacing ∧ f.spacing ≤ 6252) ∧
    (∃ (ch : Fin 16) (s : State), s.dev.porstLow = false ∧ chanPresent s.dev ch = true) :=
  ⟨⟨tFsFrame 6253, { dev := tFs { frames := 5, ben := true } }, by decide +kernel⟩,
   ⟨tFsFrame 6252, { dev := tFs { frames := 5, timing := true, spaced := 7 } }, by decide +kernel⟩,
   ⟨0, { dev := tFs { frames := 5, up := true } }, by decide +kernel⟩⟩

theorem witness_FirescreenView_2 :
    (∃ (t : Time) (ch : Fin 16) (w : FsWindow) (s : State), s.dev.porstLow = false ∧ ((fsChan (tick t s.dev) ch).windows.contains w = true ∧ w.mode = .pending ∧ w.openAt ≤ (tick t s.dev).now ∧ (chanHold (tick t s.dev) ch = true ∨ chanReady (tick t s.dev) ch = true))) ∧
    (∃ (t : Time) (ch : Fin 16) (s : State), s.dev.porstLow = false ∧ chanHold (tick t s.dev) ch = false ∧ chanReady (tick t s.dev) ch = false) ∧
    (∃ (t : Time) (ch : Fin 16) (l : Bool) (s : State), s.dev.porstLow = false ∧ True) :=
  ⟨⟨100, 0, tWin .pending, { dev := tFs { up := true, upFrames := 8, windows := [tWin .pending] } }, by decide +kernel⟩,
   ⟨100, 0, { dev := tFs { up := true, upFrames := 7, windows := [tWin .pending, tWin .opened] } }, by decide +kernel⟩,
   ⟨200, 0, false, { dev := tFs { ben := true, passed := true, windows := [tWin .opened] } }, by decide +kernel⟩⟩

theorem witness_FirescreenView_3 :
    (∃ (t : Time) (ch : Fin 16) (s : State), s.dev.porstLow = false ∧ chanPresent (tick t s.dev) ch = true ∧ (tick t s.dev).fs.undriven = false ∧ (tick t s.dev).fs.failDark = false ∧ (fsChan (tick t s.dev) ch).ben = false ∧ chanHold (tick t s.dev) ch = false ∧
(fsChan (tick t s.dev) ch).stage = 0 ∧ (tick t s.dev).fs.stopped = false ∧ windowOver (tick t s.dev) ch (tick t s.dev).now .dark = false ∧ windowOver (tick t s.dev) ch (tick t s.dev).now .opened = true) ∧
    (∃ (t : Time) (ch : Fin 16) (s : State), s.dev.porstLow = false ∧ chanPresent (tick t s.dev) ch = true ∧ (tick t s.dev).fs.undriven = false ∧ (fsChan (tick t s.dev) ch).ben = false ∧ chanHold (tick t s.dev) ch = false ∧
(fsChan (tick t s.dev) ch).windows = []) ∧
    (∃ (t : Time) (ch : Fin 16) (s : State), s.dev.porstLow = false ∧ chanPresent (tick t s.dev) ch = true ∧ (tick t s.dev).fs.undriven = false) :=
  ⟨⟨100, 0, { dev := tFs { up := true, upFrames := 8, windows := [tWin .opened] } }, by decide +kernel⟩,
   ⟨100, 0, { dev := tFs { up := true, upFrames := 8 } }, by decide +kernel⟩,
   ⟨100, 0, { dev := tFs { ben := true, request := true } }, by decide +kernel⟩⟩

theorem witness_FirescreenTripsAndFailures_1 :
    (∃ (t : Time) (ch : Fin 16) (s : State), s.dev.porstLow = false ∧ chanPresent (tick t s.dev) ch = true ∧ (tick t s.dev).fs.undriven = false ∧ (fsChan (tick t s.dev) ch).stage = 0 ∧ (fsChan (tick t s.dev) ch).windows = [] ∧ (fsChan (tick t s.dev) ch).lightAt = none) ∧
    (∃ (t : Time) (ch : Fin 16) (x : Time) (s : State), s.dev.porstLow = false ∧ (tick t s.dev).fs.undriven = false ∧ (fsChan (tick t s.dev) ch).lightAt = some x ∧ x + Config.us ≤ (tick t s.dev).now ∧ 0 < (fsChan (tick t s.dev) ch).stage) ∧
    (∃ (t : Time) (ch : Fin 16) (x : Time) (s : State), s.dev.porstLow = false ∧ (tick t s.dev).fs.undriven = false ∧ chanPresent (tick t s.dev) ch = true ∧ (fsChan (tick t s.dev) ch).lightAt = some x ∧ x + 10 * Config.us ≤ (tick t s.dev).now ∧ (fsChan (tick t s.dev) ch).stage = 2) ∧
    (∃ (t : Time) (ch : Fin 16) (s : State), s.dev.porstLow = false ∧ (tick t s.dev).fs.undriven = false) ∧
    (∃ (t : Time) (ch : Fin 16) (s : State), s.dev.porstLow = false ∧ (tick t s.dev).fs.undriven = false) ∧
    (∃ (r : OpticRead) (s : State), s.dev.porstLow = false ∧ chanPresent (tick r.t s.dev) r.ch = true ∧ (tick r.t s.dev).fs.locked = true ∧ (tick r.t s.dev).fs.undriven = false ∧ (fsChan (tick r.t s.dev) r.ch).stage = 0 ∧ r.answered = true ∧
(agetD (tick r.t s.dev).fs.limits r.ch ⟨0, 0, 0, 0, 0, 0⟩).powerLimit < r.power) :=
  ⟨⟨100, 0, { dev := tFs { ben := true } }, by decide +kernel⟩,
   ⟨2 ^ 60, 0, 50, { dev := tFs { stage := 1, lightAt := some 50 } }, by decide +kernel⟩,
   ⟨2 ^ 60, 0, 50, { dev := tFs { stage := 2, lightAt := some 50 } }, by decide +kernel⟩,
   ⟨2 ^ 60, 0, { dev := tFs { stage := 1, lightAt := some 50 } }, by decide +kernel⟩,
   ⟨2 ^ 60, 0, { dev := tFs { stage := 1, lightAt := some 50 } }, by decide +kernel⟩,
   ⟨⟨100, 0, true, 0, 5, 0⟩, { dev := { tFs {} with fs := { (tFs {}).fs with locked := true } } }, by decide +kernel⟩⟩

theorem witness_FirescreenTripsAndFailures_2 :
    (∃ (t : Time) (x : Nat) (y : Nat) (s : State), s.dev.porstLow = false ∧ ((tick t s.dev).fs.undriven = false ∧ (tick t s.dev).fs.failDark = false ∧ (60 < x ∨ 60 < y))) ∧
    (∃ (t : Time) (ch : Fin 16) (x : Nat) (y : Nat) (s : State), s.dev.porstLow = false ∧ (tick t s.dev).fs.undriven = false ∧ (tick t s.dev).fs.failDark = false ∧ x ≤ 60 ∧ y ≤ 60 ∧ chanPresent (tick t s.dev) ch = true ∧ (tick t s.dev).fs.selfTestOk = false ∧
(16 :: presentChans (tick t s.dev)).all (fun n => n == ch.val || (tick t s.dev).fs.tested.contains n) = true) ∧
    (∃ (t : Time) (s : State), s.dev.porstLow = false ∧ (tick t s.dev).fs.undriven = false ∧ (tick t s.dev).fs.failDark = false) ∧
    (∃ (t : Time) (s : State), s.dev.porstLow = false ∧ (tick t s.dev).fs.undriven = false ∧ (tick t s.dev).fs.failDark = false) ∧
    (∃ (t : Time) (c : Bool) (s : State), s.dev.porstLow = false ∧ (tick t s.dev).fs.undriven = false) :=
  ⟨⟨100, 61, 0, { dev := tFs { ben := true } }, by decide +kernel⟩,
   ⟨100, 0, 60, 60, { dev := { tb with fs := { tb.fs with tested := List.range 17, relatch := true, failCause := 8 } } }, by decide +kernel⟩,
   ⟨100, { dev := tFs { ben := true } }, by decide +kernel⟩,
   ⟨100, { dev := tFs { ben := true } }, by decide +kernel⟩,
   ⟨100, true, { dev := tFs { ben := true } }, by decide +kernel⟩⟩

theorem witness_FirescreenReleaseAndTables_1 :
    (∃ (t : Time) (n : BitVec 32) (s : State), s.dev.porstLow = false ∧ n = (tick t s.dev).fs.nonce ∧ (tick t s.dev).fs.consent = true) ∧
    (∃ (t : Time) (n : BitVec 32) (s : State), s.dev.porstLow = false ∧ n = (tick t s.dev).fs.nonce ∧ (tick t s.dev).fs.consent = false) ∧
    (∃ (t : Time) (n : BitVec 32) (s : State), s.dev.porstLow = false ∧ n ≠ (tick t s.dev).fs.nonce) ∧
    (∃ (t : Time) (s : State), s.dev.porstLow = false ∧ (tick t s.dev).fs.undriven = false ∧ (tick t s.dev).fs.failDark = false) ∧
    (∃ (t : Time) (s : State), s.dev.porstLow = false ∧ ((tick t s.dev).fs.failDark = true ∨ (tick t s.dev).fs.undriven = true)) ∧
    (∃ (t : Time) (k : BitVec 16) (c : Bool) (s : State), s.dev.porstLow = false ∧ (k ≠ 0x0FA5 ∨ c = false)) :=
  ⟨⟨100, 9, { dev := { tFs { stage := 2 } with fs := { (tFs { stage := 2 }).fs with consent := true, stopped := true } } }, by decide +kernel⟩,
   ⟨100, 9, { dev := tFs { stage := 2 } }, by decide +kernel⟩,
   ⟨100, 8, { dev := tFs { stage := 2 } }, by decide +kernel⟩,
   ⟨100, { dev := tFs { stage := 2, ben := true } }, by decide +kernel⟩,
   ⟨100, { dev := { tFs {} with fs := { (tFs {}).fs with failDark := true, failCause := 8 } } }, by decide +kernel⟩,
   ⟨100, 5, true, { dev := tFs {} }, by decide +kernel⟩⟩

theorem witness_FirescreenReleaseAndTables_2 :
    (∃ (k : Fin 512) (v : BitVec 14) (s : State), s.dev.porstLow = false ∧ k ≠ 0) ∧
    (∃ (k : Fin 512) (v : BitVec 14) (s : State), s.dev.porstLow = false ∧ k ≠ 0) ∧
    (∃ (c : Bool) (v : BitVec 14) (s : State), s.dev.porstLow = false ∧ True) ∧
    (∃ (ch : Fin 16) (l : OpticLimits) (s : State), s.dev.porstLow = false ∧ s.dev.fs.locked = false ∧ chanPresent s.dev ch = true) ∧
    (∃ (ch : Fin 16) (l : OpticLimits) (s : State), s.dev.porstLow = false ∧ s.dev.fs.locked = true) ∧
    (∃ (g : BitVec 8) (r : BitVec 4) (s : State), s.dev.porstLow = false ∧ r ≠ 0) :=
  ⟨⟨5, 0x201, { dev := tb }, by decide +kernel⟩,
   ⟨5, 0x201, { dev := tb }, by decide +kernel⟩,
   ⟨true, 0x201, { dev := tb }, by decide +kernel⟩,
   ⟨3, ⟨1, 2, 3, 4, 5, 6⟩, { dev := tb }, by decide +kernel⟩,
   ⟨3, ⟨1, 2, 3, 4, 5, 6⟩, { dev := { tb with fs := { tb.fs with locked := true } } }, by decide +kernel⟩,
   ⟨60, 3, { dev := tb }, by decide +kernel⟩⟩

theorem witness_LaneStates_1 :
    (∃ (l : LaneId) (s : State), s.dev.porstLow = false ∧ (serial s.dev (laneKey l)).st = 1 ∧ (serial s.dev (laneKey l)).quiet = false) ∧
    (∃ (p : Fin 96) (s : State), s.dev.porstLow = false ∧ (serial s.dev p).st = 2) ∧
    (∃ (p : Fin 96) (s : State), s.dev.porstLow = false ∧ (serial s.dev p).st = 2) ∧
    (∃ (l : LaneId) (x : Bool) (y : Bool) (s : State), s.dev.porstLow = false ∧ (serial s.dev (laneKey l)).st = 3 ∧ 96 ≤ laneKey l ∧ (fsChan s.dev (keyChan (laneKey l))).ben = true) ∧
    (∃ (l : LaneId) (x : Bool) (y : Bool) (s : State), s.dev.porstLow = false ∧ ((serial s.dev (laneKey l)).st = 3 ∧ (laneKey l < 96 ∨ (fsChan s.dev (keyChan (laneKey l))).ben = false))) ∧
    (∃ (l : LaneId) (s : State), s.dev.porstLow = false ∧ (serial s.dev (laneKey l)).st = 4 ∧ (serial s.dev (laneKey l)).relock = true) ∧
    (∃ (l : LaneId) (s : State), s.dev.porstLow = false ∧ (serial s.dev (laneKey l)).st = 4 ∧ (serial s.dev (laneKey l)).relock = false) ∧
    (∃ (l : LaneId) (s : State), s.dev.porstLow = false ∧ (serial s.dev (laneKey l)).st = 5) :=
  ⟨⟨.drop 3, { dev := tLane 3 { st := 1 } }, by decide +kernel⟩,
   ⟨5, { dev := tLane 5 { st := 2, noHcd := true } }, by decide +kernel⟩,
   ⟨5, { dev := tLane 5 { st := 2 } }, by decide +kernel⟩,
   ⟨.lineTx 1 .b, true, false, { dev := { tLane 131 { st := 3 } with fs := { tb.fs with chans := [(1, { ben := true })] } } }, by decide +kernel⟩,
   ⟨.lineTx 1 .b, true, false, { dev := tLane 131 { st := 3 } }, by decide +kernel⟩,
   ⟨.lineRx 1 .b, { dev := tLane 99 { st := 4, relock := true } }, by decide +kernel⟩,
   ⟨.lineRx 1 .b, { dev := tLane 99 { st := 4 } }, by decide +kernel⟩,
   ⟨.drop 95, { dev := tLane 95 { st := 5 } }, by decide +kernel⟩⟩

theorem witness_LaneStates_2 :
    (∃ (l : LaneId) (s : State), s.dev.porstLow = false ∧ (serial s.dev (laneKey l)).st = 3) ∧
    (∃ (l : LaneId) (s : State), s.dev.porstLow = false ∧ (serial s.dev (laneKey l)).st = 4 ∧ (serial s.dev (laneKey l)).relock = false) ∧
    (∃ (l : LaneId) (s : State), s.dev.porstLow = false ∧ (serial s.dev (laneKey l)).st = 5) ∧
    (∃ (l : LaneId) (s : State), s.dev.porstLow = false ∧ True) ∧
    (∃ (t : Time) (p : Fin 96) (s : State), s.dev.porstLow = false ∧ (serial (tick t s.dev) p).st = 6) ∧
    (∃ (t : Time) (ch : Fin 16) (x : Lane) (s : State), s.dev.porstLow = false ∧ (serial (tick t s.dev) (rxKey ch (x == .b))).st = 6) ∧
    (∃ (ch : Fin 16) (x : Lane) (s : State), s.dev.porstLow = false ∧ (serial s.dev (rxKey ch (x == .b))).st = 4 ∧ (serial s.dev (rxKey ch (x == .b))).relock = true) ∧
    (∃ (t : Time) (ch : Fin 16) (x : Lane) (s : State), s.dev.porstLow = false ∧ chanPresent (tick t s.dev) ch = true ∧ (serial (tick t s.dev) (rxKey ch (x == .b))).st ≠ 0 ∧ (serial (tick t s.dev) (rxKey ch (x == .b))).st ≠ 7) :=
  ⟨⟨.drop 0, { dev := tLane 0 { st := 3 } }, by decide +kernel⟩,
   ⟨.lineRx 0 .a, { dev := tLane 96 { st := 4 } }, by decide +kernel⟩,
   ⟨.lineTx 0 .a, { dev := tLane 128 { st := 5 } }, by decide +kernel⟩,
   ⟨.drop 3, { dev := tLane 3 { st := 1, quiet := true } }, by decide +kernel⟩,
   ⟨5, 3, { dev := tLane 3 { st := 6 } }, by decide +kernel⟩,
   ⟨5, 0, .b, { dev := tLane 97 { st := 6 } }, by decide +kernel⟩,
   ⟨0, .a, { dev := tLane 96 { st := 4, relock := true } }, by decide +kernel⟩,
   ⟨5, 0, .b, { dev := tLane 97 { st := 6 } }, by decide +kernel⟩⟩

theorem witness_LaneTest :
    (∃ (t : Time) (l : Fin 128) (v : Word) (s : State), s.dev.porstLow = false ∧ testAllowed (tick t s.dev) l v.toNat = true ∧ v.toNat.testBit 0 = true) ∧
    (∃ (t : Time) (l : Fin 128) (v : Word) (s : State), s.dev.porstLow = false ∧ testAllowed (tick t s.dev) l v.toNat = false) ∧
    (∃ (l : Fin 128) (v : Word) (c : LaneCounts) (s : State), s.dev.porstLow = false ∧ testAllowed s.dev l v.toNat = true ∧ v.toNat.testBit 0 = false) ∧
    (∃ (l : Fin 128) (v : Word) (s : State), s.dev.porstLow = false ∧ testAllowed s.dev l v.toNat = true ∧ v.toNat.testBit 3 = true) ∧
    (∃ (l : Fin 128) (v : Word) (s : State), s.dev.porstLow = false ∧ generating s.dev l = true ∧ v.toNat.testBit 6 = true) ∧
    (∃ (l : Fin 128) (s : State), s.dev.porstLow = false ∧ checking s.dev l = true) ∧
    (∃ (l : Fin 128) (c : LaneCounts) (s : State), s.dev.porstLow = false ∧ checking s.dev l = true ∧ fld s.dev fLNT_STATUS_LOCK l = 1) :=
  ⟨⟨5, 3, 1, { dev := setPd 28 1 tb }, by decide +kernel⟩,
   ⟨5, 97, 0x20, { dev := tb }, by decide +kernel⟩,
   ⟨3, 0, ⟨1, 1, 1⟩, { dev := tLane 3 { st := 7 } }, by decide +kernel⟩,
   ⟨3, 9, { dev := setFld fLNT_BITS_BITS 3 5 (tLane 3 { st := 7 }) }, by decide +kernel⟩,
   ⟨3, 64, { dev := setFld fLNT_CTRL_GEN_EN 3 1 (tLane 3 { st := 7 }) }, by decide +kernel⟩,
   ⟨3, { dev := setFld fLNT_CTRL_CHK_EN 3 1 (tLane 3 { st := 7 }) }, by decide +kernel⟩,
   ⟨3, ⟨5, 1, 1⟩, { dev := setFld fLNT_STATUS_LOCK 3 1 (setFld fLNT_CTRL_CHK_EN 3 1 (tLane 3 { st := 7 })) }, by decide +kernel⟩⟩

theorem witness_PortReception_1 :
    (∃ (f : MacFrame) (s : State), s.dev.porstLow = false ∧ (portActive (tick f.t s.dev) f.port = true ∧ rxFill (tick f.t s.dev) f.port + fld (tick f.t s.dev) fDP_FRAME_MAX_FRAME f.port ≤ 65536 ∧ f.codeError = false ∧
f.inverted = (fld (tick f.t s.dev) fDP_CTRL_RX_INV f.port == 1) ∧ 63 < f.bytes.length ∧ f.bytes.length ≤ fld (tick f.t s.dev) fDP_FRAME_MAX_FRAME f.port ∧ f.bytes.drop (f.bytes.length - 4) = fcsBytes (f.bytes.take (f.bytes.length - 4)) ∧
take0 (f.bytes.take (f.bytes.length - 4)) 12 2 ≠ 0x8808 ∧ ((tick f.t s.dev).part.hasSideboard = false ∨ sbPortField (tick f.t s.dev) f.port 1 0 = 0 ∧ sbPortField (tick f.t s.dev) f.port 3 0 = 0) ∧
fld (tick f.t s.dev) fLT_PTP_PTP_EN f.port = 0)) ∧
    (∃ (f : MacFrame) (s : State), s.dev.porstLow = false ∧ portActive (tick f.t s.dev) f.port = true ∧ rxFill (tick f.t s.dev) f.port + fld (tick f.t s.dev) fDP_FRAME_MAX_FRAME f.port ≤ 65536 ∧ f.codeError = false ∧
f.inverted = (fld (tick f.t s.dev) fDP_CTRL_RX_INV f.port == 1) ∧ 63 < f.bytes.length ∧ f.bytes.length ≤ fld (tick f.t s.dev) fDP_FRAME_MAX_FRAME f.port ∧ f.bytes.drop (f.bytes.length - 4) ≠ fcsBytes (f.bytes.take (f.bytes.length - 4))) ∧
    (∃ (t : Time) (n : Fin 96) (p : Fin 8) (x : Time) (s : State), s.dev.porstLow = false ∧ aget (port (tick t s.dev) n).paused p = some x ∧ x ≤ (tick t s.dev).now) :=
  ⟨⟨⟨10, 3, tGood, false, 0, 0, 0, false⟩, { dev := tTree 0 0 }, by decide +kernel⟩,
   ⟨⟨10, 3, List.replicate 64 0, false, 0, 0, 0, false⟩, { dev := tTree 0 0 }, by decide +kernel⟩,
   ⟨9, 3, 2, 5, { dev := { tTree 0 0 with ports := [(3, { paused := [(2, 5)] })] } }, by decide +kernel⟩⟩

theorem witness_PortReception_2 : (∃ (t : Time) (n : Fin 96) (s : State), s.dev.porstLow = false ∧ (port (tick t s.dev) n).xoff = true ∧ fld (tick t s.dev) fDP_MAC_FC_TX n = 1 ∧ fld (tick t s.dev) fDP_FC_XON_THRESH n < rxFill (tick t s.dev) n ∧
(port (tick t s.dev) n).xoffAt + fld (tick t s.dev) fDP_FC_TX_QUANTA n * quantum (tick t s.dev) n / 2 ≤ (tick t s.dev).now ∧ portActive (tick t s.dev) n = true) := ⟨2 ^ 60, 3, { dev := setFld fDP_FC_XON_THRESH 3 1 (setFld fDP_MAC_FC_TX 3 1 { tTree 0 0 with ports := [(3, { xoff := true, rx := [tGood] })] }) }, by decide +kernel⟩

theorem witness_PacketsInAndOut_1 :
    (∃ (t : Time) (n : Fin 96) (q : Nat) (p : QPkt) (l : List QPkt) (bs : List Byte) (s : State), s.dev.porstLow = false ∧ n.val < (tick t s.dev).part.ports ∧ pdOn (tick t s.dev) 40 = true ∧ portActive (tick t s.dev) n = true ∧ (offered n (tick t s.dev)).1 = some q ∧
(queue (offered n (tick t s.dev)).2 q).items = p :: l ∧ p.ecc = false ∧ p.timing = 0 ∧
(match egressWalk (tick t s.dev) n p with | .send x _ _ _ => x == bs | _ => false) = true) ∧
    (∃ (t : Time) (n : Fin 96) (bad : Bool) (q : Nat) (p : QPkt) (l : List QPkt) (s : State), s.dev.porstLow = false ∧ n.val < (tick t s.dev).part.ports ∧ pdOn (tick t s.dev) 40 = true ∧ (offered n (tick t s.dev)).1 = some q ∧
(queue (offered n (tick t s.dev)).2 q).items = p :: l ∧ (p.ecc || bad) = true) :=
  ⟨⟨5, 3, 192, tCopy, [], tFrameBytes, { dev := { tTree 0x8000000 0 with tm := { tb.tm with queues := [(192, { items := [tCopy] })] } } }, by decide +kernel⟩,
   ⟨5, 3, true, 192, tCopy, [], { dev := { tTree 0x8000000 0 with tm := { tb.tm with queues := [(192, { items := [tCopy] })] } } }, by decide +kernel⟩⟩

theorem witness_PacketsInAndOut_2 :
    (∃ (t : Time) (n : Fin 96) (e : TableErrors) (f : List Byte) (l : List (List Byte)) (m : Nat) (q : Nat) (s : State), s.dev.porstLow = false ∧ entryAdmitted (tick t s.dev) (.drop n) = true ∧ pipeRuns (tick t s.dev) (portPipe n) = true ∧ (port (tick t s.dev) n).rx = f :: l ∧
(parse (f.take (f.length - 4)) (fld (tick t s.dev) fCL_CTRL_TPID3 0)).frag = 0 ∧ goesTo (meetErrors e (tick t s.dev)) (entering n f (tick t s.dev)) m q = true) ∧
    (∃ (t : Time) (p : Fin 4) (e : TableErrors) (o : BondOut) (l : List BondOut) (s : State), s.dev.porstLow = false ∧ entryAdmitted (tick t s.dev) (.line p) = true ∧ pipeRuns (tick t s.dev) p = true ∧ takeReady (tick t s.dev).now (agetD (tick t s.dev).bond.out p []) = some (o, l) ∧ o.pkt.pipe = p.val) ∧
    (∃ (t : Time) (i : Fin 4) (e : TableErrors) (p : Pkt) (l : List Pkt) (m : Nat) (q : Nat) (s : State), s.dev.porstLow = false ∧ recircWaits (tick t s.dev) i = true ∧ inTurn (tick t s.dev) i 25 = true ∧ agetD (tick t s.dev).cls.recirc i [] = p :: l ∧ evicted (tick t s.dev) p.slot = false ∧ p.second = true ∧ goesTo (meetErrors e (tick t s.dev)) p m q = true) :=
  ⟨⟨5, 3, ⟨[], []⟩, tGood, [], 5, 2, { dev := { tTree 0x18000000 0x2840000 with ports := [(3, { rx := [tGood] })] } }, by decide +kernel⟩,
   ⟨5, 0, ⟨[], []⟩, ⟨{ bytes := tFrameBytes, inSrc := 0x100 }, 3⟩, [], { dev := { tTree 0x18000000 0x2840000 with bond := { tb.bond with out := [(0, [⟨{ bytes := tFrameBytes, inSrc := 0x100 }, 3⟩])] } } }, by decide +kernel⟩,
   ⟨5, 0, ⟨[], []⟩, { bytes := tFrameBytes, inSrc := 3, second := true }, [], 5, 2, { dev := { tTree 0x18000000 0x2840000 with cls := { (tTree 0x18000000 0x2840000).cls with recirc := [(0, [{ bytes := tFrameBytes, inSrc := 3, second := true }])] } } }, by decide +kernel⟩⟩

theorem witness_GenerationSlots_1 :
    (∃ (t : Time) (p : Path) (k : Fin 4) (s : State), s.dev.porstLow = false ∧ secretaryRuns (tick t s.dev) = true ∧ (genSlot (tick t s.dev) k).state = .free) ∧
    (∃ (t : Time) (p : Path) (k : Fin 4) (s : State), s.dev.porstLow = false ∧ secretaryRuns (tick t s.dev) = true ∧ (genSlot (tick t s.dev) k).state ≠ .free) ∧
    (∃ (t : Time) (p : Path) (k : Fin 4) (s : State), s.dev.porstLow = false ∧ secretaryRuns (tick t s.dev) = true ∧ (genSlot (tick t s.dev) k).state = .loading ∧ (genSlot (tick t s.dev) k).owner = some p ∧
(List.range (tick t s.dev).part.pipes).all (fun i => match sealPipe (tick t s.dev) i k with | .ok _ => true | .error _ => false) = true) ∧
    (∃ (t : Time) (p : Path) (k : Fin 4) (s : State), s.dev.porstLow = false ∧ (secretaryRuns (tick t s.dev) = true ∧ ((genSlot (tick t s.dev) k).state ≠ .loading ∨ (genSlot (tick t s.dev) k).owner ≠ some p))) ∧
    (∃ (t : Time) (p : Path) (k : Fin 4) (s : State), s.dev.porstLow = false ∧ (secretaryRuns (tick t s.dev) = true ∧ (((genSlot (tick t s.dev) k).state = .loading ∨ (genSlot (tick t s.dev) k).state = .ready) ∧ ((genSlot (tick t s.dev) k).owner = some p ∨ p = .l ∨ p = .s)))) ∧
    (∃ (t : Time) (p : Path) (k : Fin 4) (s : State), s.dev.porstLow = false ∧ secretaryRuns (tick t s.dev) = true ∧ (genSlot (tick t s.dev) k).state = .draining) ∧
    (∃ (t : Time) (p : Path) (k : Fin 4) (s : State), s.dev.porstLow = false ∧ secretaryRuns (tick t s.dev) = true ∧ (genSlot (tick t s.dev) k).state ≠ .draining) :=
  ⟨⟨5, .l, 2, { dev := setPd 3 1 (tb) }, by decide +kernel⟩,
   ⟨5, .l, 2, { dev := setPd 3 1 (tSlot 2 .ready) }, by decide +kernel⟩,
   ⟨5, .l, 2, { dev := setPd 3 1 (tSlot 2 .loading) }, by decide +kernel⟩,
   ⟨5, .l, 2, { dev := setPd 3 1 (tSlot 2 .ready) }, by decide +kernel⟩,
   ⟨5, .l, 2, { dev := setPd 3 1 (tSlot 2 .ready) }, by decide +kernel⟩,
   ⟨5, .l, 2, { dev := setPd 3 1 (tSlot 2 .draining) }, by decide +kernel⟩,
   ⟨5, .l, 2, { dev := setPd 3 1 (tSlot 2 .ready) }, by decide +kernel⟩⟩

theorem witness_GenerationSlots_2 :
    (∃ (t : Time) (p : Path) (k : BitVec 8) (s : State), s.dev.porstLow = false ∧ secretaryRuns (tick t s.dev) = true ∧ k.toNat ≤ 3 ∧ (genSlot (tick t s.dev) k.toNat).state = .ready ∧ (genSlot (tick t s.dev) (currentSlot (tick t s.dev))).state = .current) ∧
    (∃ (t : Time) (p : Path) (k : BitVec 8) (s : State), s.dev.porstLow = false ∧ (secretaryRuns (tick t s.dev) = true ∧ (3 < k.toNat ∨ (genSlot (tick t s.dev) k.toNat).state ≠ .ready))) ∧
    (∃ (t : Time) (k : Fin 4) (s : State), s.dev.porstLow = false ∧ (genSlot (tick t s.dev) k).state = .draining ∧ (genSlot (tick t s.dev) k).slowRaised = false ∧ (genSlot (tick t s.dev) k).drainingSince + fld (tick t s.dev) fCL_CTRL_DRAIN_LIMIT 0 * Config.ms ≤ (tick t s.dev).now) :=
  ⟨⟨5, .s, 2, { dev := setPd 3 1 (tSlot 2 .ready) }, by decide +kernel⟩,
   ⟨5, .s, 2, { dev := setPd 3 1 (tSlot 2 .loading) }, by decide +kernel⟩,
   ⟨2 ^ 60, 1, { dev := tSlot 1 .draining }, by decide +kernel⟩⟩

theorem witness_TreeAndFragments_1 :
    (∃ (w : Word) (s : State), s.dev.porstLow = false ∧ fld s.dev fCL_WIN_ADDR_PIPE 0 < s.dev.part.pipes ∧ treeWritable s.dev .l (fld s.dev fCL_WIN_ADDR_PIPE 0) (fld s.dev fCL_WIN_ADDR_ADDR 0) = true) ∧
    (∃ (w : Word) (s : State), s.dev.porstLow = false ∧ treeWritable s.dev .l (fld s.dev fCL_WIN_ADDR_PIPE 0) (fld s.dev fCL_WIN_ADDR_ADDR 0) = false) ∧
    (∃ s : State, s.dev.porstLow = false ∧ True) ∧
    (∃ (p : Fin 4) (x : BitVec 20) (s : State), s.dev.porstLow = false ∧ p.val < s.dev.part.pipes) ∧
    (∃ (p : Fin 4) (x : BitVec 20) (e : EccResult) (s : State), s.dev.porstLow = false ∧ e ≠ .uncorrectable) :=
  ⟨⟨77, { dev := setFld fCL_WIN_ADDR_ADDR 0 3 (setReg .clRegionLimit 2 15 (tSlot 2 .loading)) }, by decide +kernel⟩,
   ⟨77, { dev := setFld fCL_WIN_ADDR_ADDR 0 0xFFFFF tb }, by decide +kernel⟩,
   ⟨{ dev := setFld fCL_WIN_STATUS_REFUSED 0 1 tb }, by decide +kernel⟩,
   ⟨1, 9, { dev := tb }, by decide +kernel⟩,
   ⟨1, 9, .corrected, { dev := tb }, by decide +kernel⟩⟩

theorem witness_TreeAndFragments_2 :
    (∃ (t : Time) (p : Fin 4) (s : State), s.dev.porstLow = false ∧ True) ∧
    (∃ (t : Time) (p : Fin 4) (s : State), s.dev.porstLow = false ∧ True) :=
  ⟨⟨2 ^ 60, 0, { dev := { tb with cls := { tb.cls with holds := [(0, [⟨{ bytes := [1], inSrc := 0 }, [], 5⟩])] } } }, by decide +kernel⟩,
   ⟨2 ^ 70, 0, { dev := { tb with cls := { tb.cls with frags := [(0, [⟨[], actionsOf [], 5⟩])] } } }, by decide +kernel⟩⟩

theorem witness_RefillsAndSamples_1 :
    (∃ (t : Time) (q : Nat) (s : State), s.dev.porstLow = false ∧ (queue (tick t s.dev) q).shaper.enable = true) ∧
    (∃ (t : Time) (n : Nat) (s : State), s.dev.porstLow = false ∧ (node (tick t s.dev) n).shaper.enable = true) ∧
    (∃ (t : Time) (q : Nat) (n : Nat) (s : State), s.dev.porstLow = false ∧ (queue (tick t s.dev) q).shaper.enable = false ∧ aget (tick t s.dev).tm.queues q ≠ some queueDefault ∧ (node (tick t s.dev) n).shaper.enable = false ∧ aget (tick t s.dev).tm.nodes n ≠ some (nodeDefault n)) ∧
    (∃ (t : Time) (i : Nat) (s : State), s.dev.porstLow = false ∧ (policer (tick t s.dev) i).cfg ≠ {}) :=
  ⟨⟨5, 192, { dev := tTm 0 0 0 0 0 0 }, by decide +kernel⟩,
   ⟨5, 97, { dev := tTm 0 0 0 0 0 0 }, by decide +kernel⟩,
   ⟨5, 191, 96, { dev := tTm 0 0 0 0 0 0 }, by decide +kernel⟩,
   ⟨5, 5, { dev := tTm 0 0 0 0 0 0 }, by decide +kernel⟩⟩

theorem witness_RefillsAndSamples_2 :
    (∃ (n : Nat) (s : State), s.dev.porstLow = false ∧ True) ∧
    (∃ (t : Time) (x : Nat) (q : Nat) (s : State), s.dev.porstLow = false ∧ coreRuns (tick t s.dev) = true ∧ sampleList (tick t s.dev) = [(x, q)] ∧ drawerRoom (tick t s.dev) 3 = true) ∧
    (∃ (t : Time) (s : State), s.dev.porstLow = false ∧ coreRuns (tick t s.dev) = true ∧ (drawer (tick t s.dev) 3).flushedAt ≠ some (tick t s.dev).now ∧ (drawer (tick t s.dev) 3).items.length + (sampleList (tick t s.dev)).length ≤ drawerDepth 3) ∧
    (∃ (t : Time) (s : State), s.dev.porstLow = false ∧ coreRuns (tick t s.dev) = true ∧ drawerRoom (tick t s.dev) 3 = false) :=
  ⟨⟨1, { dev := { tb with tm := { tb.tm with queues := [(6144, { items := [{ bytes := [1], key := [], slot := 0, page := some (0, 0), staged := true }, { bytes := [2], key := [], slot := 0, page := some (0, 1), staged := true, store := 7 }] })] } } }, by decide +kernel⟩,
   ⟨5, 1, 3, { dev := { tb with dict := [(0x528001, [0x80, 3])] } }, by decide +kernel⟩,
   ⟨5, { dev := { tb with dict := [(0x528001, [0x80, 3]), (0x528002, [0x80, 4])] } }, by decide +kernel⟩,
   ⟨5, { dev := { tb with dict := [(0x528001, [0x80, 3])], host := { tb.host with drawers := [(3, { items := List.replicate (drawerDepth 3) [] })] } } }, by decide +kernel⟩⟩

theorem witness_ObjectWindow :
    (∃ s : State, s.dev.porstLow = false ∧ fld s.dev fTM_ACC_SEL_TABLE 0 = 0 ∧ fld s.dev fTM_ACC_SEL_INDEX 0 < 64 * s.dev.part.ports ∧
shaperOk (bitsOf (reg s.dev .tmAccData 0).toNat 45 24) (bitsOf (reg s.dev .tmAccData 0).toNat 23 0) = true ∧ reserveOk s.dev (fld s.dev fTM_ACC_SEL_INDEX 0) (bitsOf (reg s.dev .tmAccData 1).toNat 34 25) = true) ∧
    (∃ s : State, s.dev.porstLow = false ∧ fld s.dev fTM_ACC_SEL_TABLE 0 = 5 ∧ fld s.dev fTM_ACC_SEL_INDEX 0 < 4096 ∧ (reg s.dev .tmAccData 1).toNat * 2 ^ 48 + (reg s.dev .tmAccData 0).toNat < 2 ^ s.dev.part.ports) ∧
    (∃ s : State, s.dev.porstLow = false ∧ 6 ≤ fld s.dev fTM_ACC_SEL_TABLE 0) ∧
    (∃ s : State, s.dev.porstLow = false ∧ fld s.dev fTM_ACC_SEL_TABLE 0 = 4) :=
  ⟨⟨{ dev := tTm 0 7 0x800001000100 0x8A000000000 0 0 }, by decide +kernel⟩,
   ⟨{ dev := tTm 5 7 0xF0 1 3 0 }, by decide +kernel⟩,
   ⟨{ dev := tTm 7 7 0xF0 1 3 0 }, by decide +kernel⟩,
   ⟨{ dev := tTm 4 5 0 0 0 0 }, by decide +kernel⟩⟩

theorem witness_TableCommands_1 :
    (∃ (x : Descriptor) (n : Nat) (s : State), s.dev.porstLow = false ∧ coreRuns (tick x.t s.dev) = true ∧ dscReady (tick x.t s.dev) x = true ∧ x.bad = [] ∧ (tick x.t s.dev).fwd.bad = [] ∧ dscOp x = 1 ∧ macFind? (tick x.t s.dev) (bitsOf (dscBuf x 1) 42 31) (dscBuf x 0) = some n) ∧
    (∃ (x : Descriptor) (n : Nat) (s : State), s.dev.porstLow = false ∧ coreRuns (tick x.t s.dev) = true ∧ dscReady (tick x.t s.dev) x = true ∧ x.bad = [] ∧ (tick x.t s.dev).fwd.bad = [] ∧ dscOp x = 1 ∧ macFind? (tick x.t s.dev) (bitsOf (dscBuf x 1) 42 31) (dscBuf x 0) = none ∧
((List.range 8).map (fun w => hash0 (tick x.t s.dev) (macKey (bitsOf (dscBuf x 1) 42 31) (dscBuf x 0)) * 8 + w) ++
  (List.range 8).map (fun w => hash1 (tick x.t s.dev) (macKey (bitsOf (dscBuf x 1) 42 31) (dscBuf x 0)) * 8 + w)).find? (fun k => !macValid (macEntry (tick x.t s.dev) k)) = some n) ∧
    (∃ (x : Descriptor) (n : Nat) (s : State), s.dev.porstLow = false ∧ coreRuns (tick x.t s.dev) = true ∧ dscReady (tick x.t s.dev) x = true ∧ x.bad = [] ∧ (tick x.t s.dev).fwd.bad = [] ∧ dscOp x = 2 ∧ macFind? (tick x.t s.dev) (bitsOf (dscBuf x 1) 42 31) (dscBuf x 0) = some n) ∧
    (∃ (x : Descriptor) (n : Nat) (s : State), s.dev.porstLow = false ∧ coreRuns (tick x.t s.dev) = true ∧ dscReady (tick x.t s.dev) x = true ∧ x.bad = [] ∧ (tick x.t s.dev).fwd.bad = [] ∧ dscOp x = 3 ∧ macFind? (tick x.t s.dev) (bitsOf (dscBuf x 1) 42 31) (dscBuf x 0) = some n) ∧
    (∃ (x : Descriptor) (n : Nat) (s : State), s.dev.porstLow = false ∧ coreRuns (tick x.t s.dev) = true ∧ dscReady (tick x.t s.dev) x = true ∧ x.bad = [] ∧ (tick x.t s.dev).fwd.bad = [] ∧ dscOp x = 4 ∧ macFind? (tick x.t s.dev) (bitsOf (dscBuf x 1) 42 31) (dscBuf x 0) = some n) ∧
    (∃ (x : Descriptor) (s : State), s.dev.porstLow = false ∧ coreRuns (tick x.t s.dev) = true ∧ dscReady (tick x.t s.dev) x = true ∧ x.bad = [] ∧ (tick x.t s.dev).fwd.bad = [] ∧ dscOp x = 2 ∧ macFind? (tick x.t s.dev) (bitsOf (dscBuf x 1) 42 31) (dscBuf x 0) = none) ∧
    (∃ (x : Descriptor) (s : State), s.dev.porstLow = false ∧ coreRuns (tick x.t s.dev) = true ∧ dscReady (tick x.t s.dev) x = true ∧ x.bad = [] ∧ (tick x.t s.dev).fwd.bad = [] ∧ dscOp x = 3 ∧ macFind? (tick x.t s.dev) (bitsOf (dscBuf x 1) 42 31) (dscBuf x 0) = none) ∧
    (∃ (x : Descriptor) (s : State), s.dev.porstLow = false ∧ coreRuns (tick x.t s.dev) = true ∧ dscReady (tick x.t s.dev) x = true ∧ x.bad = [] ∧ (tick x.t s.dev).fwd.bad = [] ∧ dscOp x = 4 ∧ macFind? (tick x.t s.dev) (bitsOf (dscBuf x 1) 42 31) (dscBuf x 0) = none) :=
  ⟨⟨tDsc 0x10000000000 0 [2, tW1 16, 3 * 2 ^ 38], (hash0 tb (macKey 1 2) * 8), { dev := tMac (tW1 16) }, by decide +kernel⟩,
   ⟨tDsc 0x10000000000 0 [2, tW1 16, 3 * 2 ^ 38], (hash0 tb (macKey 1 2) * 8), { dev := tb }, by decide +kernel⟩,
   ⟨tDsc 0x20000000000 0 [2, tW1 16, 3 * 2 ^ 38], (hash0 tb (macKey 1 2) * 8), { dev := tMac (tW1 16) }, by decide +kernel⟩,
   ⟨tDsc 0x30000000000 0 [2, tW1 16, 3 * 2 ^ 38], (hash0 tb (macKey 1 2) * 8), { dev := tMac (tW1 16) }, by decide +kernel⟩,
   ⟨tDsc 0x40000000000 0 [2, tW1 16, 3 * 2 ^ 38], (hash0 tb (macKey 1 2) * 8), { dev := tMac (tW1 16) }, by decide +kernel⟩,
   ⟨tDsc 0x20000000000 0 [2, tW1 16, 3 * 2 ^ 38], { dev := tb }, by decide +kernel⟩,
   ⟨tDsc 0x30000000000 0 [2, tW1 16, 3 * 2 ^ 38], { dev := tb }, by decide +kernel⟩,
   ⟨tDsc 0x40000000000 0 [2, tW1 16, 3 * 2 ^ 38], { dev := tb }, by decide +kernel⟩⟩

theorem witness_TableCommands_2 :
    (∃ (x : Descriptor) (s : State), s.dev.porstLow = false ∧ coreRuns (tick x.t s.dev) = true ∧ dscReady (tick x.t s.dev) x = true ∧ x.bad = [] ∧ (tick x.t s.dev).fwd.bad = [] ∧ dscOp x = 5 ∧ x.w1.toNat < 2 ^ 20) ∧
    (∃ (x : Descriptor) (s : State), s.dev.porstLow = false ∧ coreRuns (tick x.t s.dev) = true ∧ dscReady (tick x.t s.dev) x = true ∧ x.bad = [] ∧ (tick x.t s.dev).fwd.bad = [] ∧ dscOp x = 5 ∧ 2 ^ 20 ≤ x.w1.toNat) ∧
    (∃ (x : Descriptor) (s : State), s.dev.porstLow = false ∧ coreRuns (tick x.t s.dev) = true ∧ dscReady (tick x.t s.dev) x = true ∧ x.bad = [] ∧ (tick x.t s.dev).fwd.bad = [] ∧ dscOp x = 6 ∧ x.w1.toNat < 2 ^ 20 ∧ 1 ≤ dscCount x ∧ dscCount x ≤ 8 ∧
x.w1.toNat / 8 = (x.w1.toNat + dscCount x - 1) / 8) ∧
    (∃ (x : Descriptor) (i : Nat) (s : State), s.dev.porstLow = false ∧ coreRuns (tick x.t s.dev) = true ∧ dscReady (tick x.t s.dev) x = true ∧ x.bad = [] ∧ (tick x.t s.dev).fwd.bad = [] ∧ dscOp x = 7 ∧ x.w1.toNat < 2 ^ 21 ∧ 1 ≤ dscCount x ∧ dscCount x ≤ 8 ∧
x.w1.toNat / 8 = (x.w1.toNat + dscCount x - 1) / 8 ∧ i < dscCount x) ∧
    (∃ (x : Descriptor) (s : State), s.dev.porstLow = false ∧ coreRuns (tick x.t s.dev) = true ∧ dscReady (tick x.t s.dev) x = true ∧ x.bad = [] ∧ (tick x.t s.dev).fwd.bad = [] ∧ dscOp x = 8 ∧ 1 ≤ dscCount x ∧ x.w1.toNat + dscCount x ≤ 2 ^ 21) ∧
    (∃ (x : Descriptor) (s : State), s.dev.porstLow = false ∧ (coreRuns (tick x.t s.dev) = true ∧ dscReady (tick x.t s.dev) x = true ∧ x.bad = [] ∧ (tick x.t s.dev).fwd.bad = [] ∧ (dscOp x = 0 ∨ 8 < dscOp x))) :=
  ⟨⟨tDsc 0x50000000000 77 [2, tW1 16, 3 * 2 ^ 38], { dev := tb }, by decide +kernel⟩,
   ⟨tDsc 0x50000000000 0x100000 [2, tW1 16, 3 * 2 ^ 38], { dev := tb }, by decide +kernel⟩,
   ⟨tDsc 0x60001000000 0 [], { dev := tMac (tW1 16) }, by decide +kernel⟩,
   ⟨tDsc 0x70002000000 6 [5, 6], 1, { dev := tb }, by decide +kernel⟩,
   ⟨tDsc 0x80002000000 5 [], { dev := { tb with fwd := { tb.fwd with trie := [(6, 9)] } } }, by decide +kernel⟩,
   ⟨tDsc 0 0 [], { dev := tb }, by decide +kernel⟩⟩

theorem witness_LearningAndAgeing_1 :
    (∃ (t : Time) (i : LearnItem) (s : State), s.dev.porstLow = false ∧ (tick t s.dev).fwd.merge = [i] ∧ mergeReady (tick t s.dev) i = true ∧ drawerRoom (tick t s.dev) 0 = true) ∧
    (∃ (t : Time) (p : Fin 4) (s : State), s.dev.porstLow = false ∧ True) :=
  ⟨⟨2 ^ 60, ⟨1, 0, 3, 1, 2, 5, 4, 8, 0, 6⟩, { dev := { tb with fwd := { tb.fwd with merge := [⟨1, 0, 3, 1, 2, 5, 4, 8, 0, 6⟩] } } }, by decide +kernel⟩,
   ⟨9, 0, { dev := { tb with fwd := { tb.fwd with filters := [(0, [⟨1, 2, 3, 0, 8⟩, ⟨1, 3, 3, 0, 10⟩])] } } }, by decide +kernel⟩⟩

theorem witness_LearningAndAgeing_2 :
    (∃ (t : Time) (s : State), s.dev.porstLow = false ∧ coreRuns (tick t s.dev) = true ∧ fld (tick t s.dev) fFW_CTRL_AGE_EN 0 = 1 ∧ (tick t s.dev).fwd.bad = [] ∧ macValid (macEntry (tick t s.dev) (tick t s.dev).fwd.sweep) = true ∧
macLock (macEntry (tick t s.dev) (tick t s.dev).fwd.sweep) = false ∧ macStatic (macEntry (tick t s.dev) (tick t s.dev).fwd.sweep) = false ∧ macHit (macEntry (tick t s.dev) (tick t s.dev).fwd.sweep) = true) ∧
    (∃ (t : Time) (s : State), s.dev.porstLow = false ∧ coreRuns (tick t s.dev) = true ∧ fld (tick t s.dev) fFW_CTRL_AGE_EN 0 = 1 ∧ (tick t s.dev).fwd.bad = [] ∧ macValid (macEntry (tick t s.dev) (tick t s.dev).fwd.sweep) = true ∧
macLock (macEntry (tick t s.dev) (tick t s.dev).fwd.sweep) = false ∧ macStatic (macEntry (tick t s.dev) (tick t s.dev).fwd.sweep) = false ∧ macHit (macEntry (tick t s.dev) (tick t s.dev).fwd.sweep) = false ∧ macAge1 (macEntry (tick t s.dev) (tick t s.dev).fwd.sweep) = false) ∧
    (∃ (t : Time) (s : State), s.dev.porstLow = false ∧ coreRuns (tick t s.dev) = true ∧ fld (tick t s.dev) fFW_CTRL_AGE_EN 0 = 1 ∧ (tick t s.dev).fwd.bad = [] ∧ macValid (macEntry (tick t s.dev) (tick t s.dev).fwd.sweep) = true ∧
macLock (macEntry (tick t s.dev) (tick t s.dev).fwd.sweep) = false ∧ macStatic (macEntry (tick t s.dev) (tick t s.dev).fwd.sweep) = false ∧ macHit (macEntry (tick t s.dev) (tick t s.dev).fwd.sweep) = false ∧ macAge1 (macEntry (tick t s.dev) (tick t s.dev).fwd.sweep) = true) ∧
    (∃ (t : Time) (x : FwdTable) (p : BitVec 22) (s : State), s.dev.porstLow = false ∧ coreRuns (tick t s.dev) = true) ∧
    (∃ (t : Time) (p : BitVec 22) (s : State), s.dev.porstLow = false ∧ coreRuns (tick t s.dev) = true) ∧
    (∃ (t : Time) (p : BitVec 22) (s : State), s.dev.porstLow = false ∧ coreRuns (tick t s.dev) = true) :=
  ⟨⟨5, { dev := setFld fFW_CTRL_AGE_EN 0 1 (tMac (tW1 0x15)) }, by decide +kernel⟩,
   ⟨5, { dev := setFld fFW_CTRL_AGE_EN 0 1 (tMac (tW1 0x10)) }, by decide +kernel⟩,
   ⟨5, { dev := setFld fFW_CTRL_AGE_EN 0 1 (tMac (tW1 0x11)) }, by decide +kernel⟩,
   ⟨5, .mac, 5, { dev := tb }, by decide +kernel⟩,
   ⟨5, 5, { dev := tMac (tW1 0x10) }, by decide +kernel⟩,
   ⟨5, 5, { dev := tb }, by decide +kernel⟩⟩

theorem witness_SideboardMembership_1 :
    (∃ (t : Time) (p : BitVec 7) (m : BitVec 10) (s : State), s.dev.porstLow = false ∧ (tick t s.dev).part.hasSideboard = true ∧ (prog (tick t s.dev) m.toNat).live.testBit p.toNat = false ∧
(tick t s.dev).sb.contexts.any (fun e => e.2.port == p.toNat && e.2.programme == m.toNat) = false ∧ progEnabled (tick t s.dev) m.toNat = true ∧ portEnabled (tick t s.dev) p.toNat = true ∧ segSize (tick t s.dev) m.toNat = 0) ∧
    (∃ (t : Time) (p : BitVec 7) (m : BitVec 10) (c : Nat) (r : Record) (s : State), s.dev.porstLow = false ∧ (tick t s.dev).part.hasSideboard = true ∧ (prog (tick t s.dev) m.toNat).live.testBit p.toNat = false ∧
(tick t s.dev).sb.contexts.any (fun e => e.2.port == p.toNat && e.2.programme == m.toNat) = false ∧ progEnabled (tick t s.dev) m.toNat = true ∧ portEnabled (tick t s.dev) p.toNat = true ∧ segSize (tick t s.dev) m.toNat ≠ 0 ∧
latestRecall (tick t s.dev) m.toNat = some r ∧ progIdle (tick t s.dev) m.toNat = false ∧ pdOn (tick t s.dev) 48 = true ∧ freeCtx (tick t s.dev) = some c) ∧
    (∃ (t : Time) (p : BitVec 7) (m : BitVec 10) (s : State), s.dev.porstLow = false ∧ (tick t s.dev).part.hasSideboard = true ∧ (prog (tick t s.dev) m.toNat).live.testBit p.toNat = true) ∧
    (∃ (t : Time) (p : BitVec 7) (m : BitVec 10) (s : State), s.dev.porstLow = false ∧ (tick t s.dev).part.hasSideboard = true ∧ p.toNat < (tick t s.dev).part.ports) ∧
    (∃ (t : Time) (p : BitVec 7) (m : BitVec 10) (s : State), s.dev.porstLow = false ∧ (tick t s.dev).part.hasSideboard = true ∧ (tick t s.dev).part.ports ≤ p.toNat) ∧
    (∃ (t : Time) (p : BitVec 7) (m : Nat) (s : State), s.dev.porstLow = false ∧ (tick t s.dev).part.hasSideboard = true ∧ p.toNat < (tick t s.dev).part.ports) :=
  ⟨⟨5, 3, 0, { dev := { tSb id with dict := [(0x940001, [1]), (0x940005, [0])] } }, by decide +kernel⟩,
   ⟨5, 3, 0, 0, tRec, { dev := tSb (fun s => { s with programmes := [(0, tProg)] }) }, by decide +kernel⟩,
   ⟨5, 3, 0, { dev := tSb (fun s => { s with programmes := [(0, { live := 8 })] }) }, by decide +kernel⟩,
   ⟨5, 3, 0, { dev := tSb (fun s => { s with programmes := [(0, { live := 8 })], contexts := [(0, { port := 3, programme := 0, next := 0 })] }) }, by decide +kernel⟩,
   ⟨5, 100, 0, { dev := tSb id }, by decide +kernel⟩,
   ⟨5, 3, 0, { dev := tSb (fun s => { s with programmes := [(0, { live := 8 })], contexts := [(0, { port := 3, programme := 0, next := 0 })] }) }, by decide +kernel⟩⟩

theorem witness_SideboardMembership_2 :
    (∃ (t : Time) (p : Nat) (bs : List Byte) (l : List (Nat × List Byte)) (v : Bool) (g : Nat) (m : Nat) (s : State), s.dev.porstLow = false ∧ (tick t s.dev).part.hasSideboard = true ∧ (tick t s.dev).sb.memFrames = (p, bs) :: l ∧ clusterRuns (tick t s.dev) = true ∧ (tick t s.dev).sec.restarting = false ∧
reportSays bs (fld (tick t s.dev) fCL_CTRL_TPID3 0) = some [⟨v, g, true⟩] ∧ progOfGroup (tick t s.dev) v g = some m ∧ progEnabled (tick t s.dev) m = true ∧ portEnabled (tick t s.dev) p = true) ∧
    (∃ (t : Time) (p : Nat) (bs : List Byte) (l : List (Nat × List Byte)) (s : State), s.dev.porstLow = false ∧ (tick t s.dev).part.hasSideboard = true ∧ (tick t s.dev).sb.memFrames = (p, bs) :: l ∧ clusterRuns (tick t s.dev) = true ∧ (tick t s.dev).sec.restarting = false ∧
reportSays bs (fld (tick t s.dev) fCL_CTRL_TPID3 0) = none) ∧
    (∃ (t : Time) (p : Fin 96) (s : State), s.dev.porstLow = false ∧ (tick t s.dev).part.hasSideboard = true ∧ sbPortField (tick t s.dev) p 2 0 ≠ 0 ∧ clusterRuns (tick t s.dev) = true ∧
(tick t s.dev).sb.memberships.any (fun x => x.port == p.val && progField (tick t s.dev) x.programme 3 0 != 0) = true) ∧
    (∃ (t : Time) (p : Fin 96) (m : BitVec 10) (x : Membership) (s : State), s.dev.porstLow = false ∧ (tick t s.dev).part.hasSideboard = true ∧ p.val < (tick t s.dev).part.ports ∧ (tick t s.dev).sb.memberships.find? (fun x => x.port == p.val && x.programme == m.toNat) = some x ∧ x.last + 260 * Config.sec ≤ (tick t s.dev).now ∧ clusterRuns (tick t s.dev) = true) :=
  ⟨⟨5, 3, tIgmp, [], false, 0xE0010101, 0, { dev := tSb (fun s => { s with memFrames := [(3, tIgmp)] }) }, by decide +kernel⟩,
   ⟨5, 3, tIgmp.set 34 0x11, [], { dev := tSb (fun s => { s with memFrames := [(3, tIgmp.set 34 0x11)] }) }, by decide +kernel⟩,
   ⟨5, 3, { dev := tSb (fun s => { s with memberships := [⟨3, 0, 0⟩] }) }, by decide +kernel⟩,
   ⟨2 ^ 70, 3, 0, ⟨3, 0, 0⟩, { dev := tSb (fun s => { s with memberships := [⟨3, 0, 0⟩], programmes := [(0, { live := 8 })] }) }, by decide +kernel⟩⟩

theorem witness_SideboardReplay_1 :
    (∃ (t : Time) (x : Fin 512) (c : Replay) (r : Record) (s : State), s.dev.porstLow = false ∧ (tick t s.dev).part.hasSideboard = true ∧ aget (tick t s.dev).sb.contexts x = some c ∧ readyRecord (tick t s.dev) c = some r ∧ nextRecord (tick t s.dev) c = some r ∧ mayIssue (tick t s.dev) x r = true ∧ recordPoisoned (tick t s.dev) c.programme r = false) ∧
    (∃ (t : Time) (x : Fin 512) (c : Replay) (s : State), s.dev.porstLow = false ∧ (tick t s.dev).part.hasSideboard = true ∧ aget (tick t s.dev).sb.contexts x = some c ∧ c.caughtAt.isSome = true ∧ c.outstanding = 0 ∧ (nextRecord (tick t s.dev) c).isNone = true) ∧
    (∃ (t : Time) (x : Fin 512) (c : Replay) (s : State), s.dev.porstLow = false ∧ (tick t s.dev).part.hasSideboard = true ∧ aget (tick t s.dev).sb.contexts x = some c ∧ c.caughtAt = none ∧ c.startedAt + fld (tick t s.dev) fSB_CTRL_CATCHUP_LIMIT 0 * Config.sec ≤ (tick t s.dev).now) ∧
    (∃ (t : Time) (x : Fin 512) (c : Replay) (y : Time) (s : State), s.dev.porstLow = false ∧ (tick t s.dev).part.hasSideboard = true ∧ aget (tick t s.dev).sb.contexts x = some c ∧ c.caughtAt = some y ∧ 0 < c.outstanding ∧ y + fld (tick t s.dev) fSB_CTRL_SPLICE_LIMIT 0 * Config.ms ≤ (tick t s.dev).now) :=
  ⟨⟨5, 7, { port := 3, programme := 0, next := 4 }, tRec, { dev := tSb (fun s => { s with programmes := [(0, tProg)], contexts := [(7, { port := 3, programme := 0, next := 4 })] }) }, by decide +kernel⟩,
   ⟨5, 7, { port := 3, programme := 0, next := 5, caughtAt := some 3 }, { dev := tSb (fun s => { s with programmes := [(0, tProg)], contexts := [(7, { port := 3, programme := 0, next := 5, caughtAt := some 3 })] }) }, by decide +kernel⟩,
   ⟨2 ^ 70, 7, { port := 3, programme := 0, next := 4 }, { dev := tSb (fun s => { s with programmes := [(0, tProg)], contexts := [(7, { port := 3, programme := 0, next := 4 })] }) }, by decide +kernel⟩,
   ⟨2 ^ 70, 7, { port := 3, programme := 0, next := 5, outstanding := 1, caughtAt := some 3 }, 3, { dev := tSb (fun s => { s with programmes := [(0, tProg)], contexts := [(7, { port := 3, programme := 0, next := 5, outstanding := 1, caughtAt := some 3 })] }) }, by decide +kernel⟩⟩

theorem witness_SideboardReplay_2 :
    (∃ (t : Time) (p : Nat) (bs : List Byte) (l : List (Nat × List Byte)) (m : Nat) (f : Nat) (n : Nat) (s : State), s.dev.porstLow = false ∧ (tick t s.dev).part.hasSideboard = true ∧ pdOn (tick t s.dev) 48 = true ∧ (tick t s.dev).sb.issuedNow < recordLimit ∧ (tick t s.dev).sb.repFrames = (p, bs) :: l ∧ repairAsk p bs (tick t s.dev) = some (m, f, n)) ∧
    (∃ (t : Time) (p : Nat) (bs : List Byte) (l : List (Nat × List Byte)) (s : State), s.dev.porstLow = false ∧ (tick t s.dev).part.hasSideboard = true ∧ pdOn (tick t s.dev) 48 = true ∧ (tick t s.dev).sb.issuedNow < recordLimit ∧ (tick t s.dev).sb.repFrames = (p, bs) :: l ∧
(bs.drop (parse bs (fld (tick t s.dev) fCL_CTRL_TPID3 0)).l3Off).length < 16) ∧
    (∃ (t : Time) (p : Nat) (x : Nat) (s : State), s.dev.porstLow = false ∧ (tick t s.dev).part.hasSideboard = true ∧ aget (tick t s.dev).sb.budgets p = some x) ∧
    (∃ (t : Time) (m : Nat) (s : State), s.dev.porstLow = false ∧ (tick t s.dev).part.hasSideboard = true ∧ (aget (tick t s.dev).sb.programmes m).isSome = true) :=
  ⟨⟨5, 3, tRepair, [], 0, 5, 1, { dev := tSb (fun s => { s with programmes := [(0, tProg)], repFrames := [(3, tRepair)] }) }, by decide +kernel⟩,
   ⟨5, 3, tRepair.take 20, [], { dev := tSb (fun s => { s with repFrames := [(3, tRepair.take 20)] }) }, by decide +kernel⟩,
   ⟨5, 3, 7, { dev := tSb (fun s => { s with budgets := [(3, 7)] }) }, by decide +kernel⟩,
   ⟨5, 0, { dev := tSb (fun s => { s with programmes := [(0, { windowNow := 4096 })] }) }, by decide +kernel⟩⟩

theorem witness_Tributaries_1 :
    (∃ (k : Fin 32) (s : State), s.dev.porstLow = false ∧ tribUnit s.dev = true ∧ highway s.dev = false ∧ tribKind s.dev k ≠ 0 ∧ fld s.dev fTB_STATUS_IN_LOS k = 0) ∧
    (∃ (k : Fin 32) (s : State), s.dev.porstLow = false ∧ highway s.dev = true) ∧
    (∃ (k : Fin 32) (s : State), s.dev.porstLow = false ∧ tribUnit s.dev = true ∧ fld s.dev fTB_STATUS_IN_LOS k = 1) ∧
    (∃ (k : Fin 32) (s : State), s.dev.porstLow = false ∧ tribUnit s.dev = true ∧ highway s.dev = true ∧ tribKind s.dev k ≠ 0 ∧ (trib s.dev k).slip = []) ∧
    (∃ (k : Fin 32) (s : State), s.dev.porstLow = false ∧ tribUnit s.dev = true ∧ highway s.dev = true ∧ tribKind s.dev k ≠ 0 ∧ 2 ≤ (trib s.dev k).slip.length) ∧
    (∃ (k : Fin 32) (x : Slip) (s : State), s.dev.porstLow = false ∧ (trib s.dev k).slip.length = 1) ∧
    (∃ (t : Time) (x : Time) (s : State), s.dev.porstLow = false ∧ (tick t s.dev).trib.changeDue = some x ∧ x ≤ (tick t s.dev).now) :=
  ⟨⟨2, { dev := setFld fTR_CTRL_HIGHWAY 0 0 (tTrib 0 0 0) }, by decide +kernel⟩,
   ⟨2, { dev := tTrib 0 0 0 }, by decide +kernel⟩,
   ⟨2, { dev := setFld fTB_STATUS_IN_LOS 2 1 (tTrib 0 0 0) }, by decide +kernel⟩,
   ⟨2, { dev := { tTrib 0 0 0 with trib := { (tTrib 0 0 0).trib with tribs := [] } } }, by decide +kernel⟩,
   ⟨2, { dev := { tTrib 0 0 0 with trib := { (tTrib 0 0 0).trib with tribs := [(2, { slip := [[1], [2]] })] } } }, by decide +kernel⟩,
   ⟨2, .repeatFrame, { dev := tTrib 0 0 0 }, by decide +kernel⟩,
   ⟨9, 5, { dev := { tTrib 0 0 0 with trib := { (tTrib 0 0 0).trib with changeDue := some 5 } } }, by decide +kernel⟩⟩

theorem witness_Tributaries_2 :
    (∃ s : State, s.dev.porstLow = false ∧ tribUnit s.dev = true ∧ fld s.dev fTSI_SEL_PAGE 0 = 0 ∧ tsiBusy s.dev = false ∧ connSlot (reg s.dev .tsiData 0) ≠ 0) ∧
    (∃ s : State, s.dev.porstLow = false ∧ tribUnit s.dev = true ∧ fld s.dev fTSI_SEL_PAGE 0 = 1) ∧
    (∃ s : State, s.dev.porstLow = false ∧ tribUnit s.dev = true ∧ fld s.dev fTSI_SEL_PAGE 0 = 0 ∧ tsiBusy s.dev = true) ∧
    (∃ s : State, s.dev.porstLow = false ∧ tribUnit s.dev = true) ∧
    (∃ s : State, s.dev.porstLow = false ∧ tribUnit s.dev = true ∧ tsiBusy s.dev = false ∧ s.dev.sec.restarting = false ∧ doubleFed s.dev = false) ∧
    (∃ s : State, s.dev.porstLow = false ∧ tribUnit s.dev = true ∧ tsiBusy s.dev = true) ∧
    (∃ s : State, s.dev.porstLow = false ∧ tribUnit s.dev = true ∧ fld s.dev fTSI_STATUS_PENDING 0 = 1 ∧ boundarySince s.dev.trib.swapAsked s.dev = false) ∧
    (∃ s : State, s.dev.porstLow = false ∧ (tribUnit s.dev = true ∧ (fld s.dev fTSI_STATUS_PENDING 0 = 0 ∨ boundarySince s.dev.trib.swapAsked s.dev = true))) ∧
    (∃ (t : Time) (s : State), s.dev.porstLow = false ∧ fld (tick t s.dev) fTSI_STATUS_PENDING 0 = 1 ∧ (tick t s.dev).trib.swapAsked ≤ (tick t s.dev).now) ∧
    (∃ (t : Time) (s : State), s.dev.porstLow = false ∧ fld (tick t s.dev) fTSI_STATUS_COPYING 0 = 1) :=
  ⟨⟨{ dev := tTrib 5 0xFFFF 0 }, by decide +kernel⟩,
   ⟨{ dev := setFld fTSI_SEL_PAGE 0 1 (tTrib 5 0x423 0) }, by decide +kernel⟩,
   ⟨{ dev := setFld fTSI_STATUS_PENDING 0 1 (tTrib 5 0x423 0) }, by decide +kernel⟩,
   ⟨{ dev := setFld fTSI_SEL_ENTRY 0 5 (tTrib 0 0 0) }, by decide +kernel⟩,
   ⟨{ dev := tTrib 0 0 0 }, by decide +kernel⟩,
   ⟨{ dev := setFld fTSI_STATUS_COPYING 0 1 (tTrib 0 0 0) }, by decide +kernel⟩,
   ⟨{ dev := setFld fTSI_STATUS_PENDING 0 1 (tTrib 0 0 0) }, by decide +kernel⟩,
   ⟨{ dev := tTrib 0 0 0 }, by decide +kernel⟩,
   ⟨5, { dev := setFld fTSI_STATUS_PENDING 0 1 (tTrib 0 0 0) }, by decide +kernel⟩,
   ⟨5, { dev := setFld fTSI_STATUS_COPYING 0 1 (tTrib 0 0 0) }, by decide +kernel⟩⟩

theorem witness_ServoAndTimeOfDay_1 :
    (∃ (t : Time) (v : Word) (s : State), s.dev.porstLow = false ∧ ltSource (tick t s.dev) = 1 ∧ (tick t s.dev).lc.servo = .free) ∧
    (∃ (t : Time) (v : Word) (s : State), s.dev.porstLow = false ∧ ltSource (tick t s.dev) = 1 ∧ (tick t s.dev).lc.servo ≠ .free ∧ v.toInt.natAbs ≤ fld (tick t s.dev) fLT_SERVO_STEP_THRESH 0 * ltNs) ∧
    (∃ (t : Time) (v : Word) (s : State), s.dev.porstLow = false ∧ ltSource (tick t s.dev) = 1 ∧ (tick t s.dev).lc.servo ≠ .free ∧ fld (tick t s.dev) fLT_SERVO_STEP_THRESH 0 * ltNs < v.toInt.natAbs ∧ (tick t s.dev).lc.outlierRun = 0) ∧
    (∃ (t : Time) (v : Word) (s : State), s.dev.porstLow = false ∧ ltSource (tick t s.dev) ≠ 1) :=
  ⟨⟨85000, 70000, { dev := tLt .free 1 }, by decide +kernel⟩,
   ⟨85000, 65536, { dev := tLt .locked 1 }, by decide +kernel⟩,
   ⟨85000, 0x7FFFFFFFFFFF, { dev := tLt .locked 1 }, by decide +kernel⟩,
   ⟨85000, 5, { dev := tLt .locked 0 }, by decide +kernel⟩⟩

theorem witness_ServoAndTimeOfDay_2 :
    (∃ (t : Time) (f : Word) (x : Nat) (h : HistFrame) (s : State), s.dev.porstLow = false ∧ (tick t s.dev).lc.heldTod = some (f, x) ∧ f ≤ homeFc (tick t s.dev) ∧ (tick t s.dev).lc.history.find? (fun y => y.fc == f) = some h ∧ h.usable = true ∧ ltSource (tick t s.dev) ≠ 0) ∧
    (∃ (t : Time) (f : Word) (x : Nat) (s : State), s.dev.porstLow = false ∧ (tick t s.dev).lc.heldTod = some (f, x) ∧ f ≤ homeFc (tick t s.dev) ∧ (tick t s.dev).lc.history.find? (fun y => y.fc == f) = none) ∧
    (∃ (t : Time) (x : Time) (s : State), s.dev.porstLow = false ∧ ((tick t s.dev).lc.lastAccepted = some x ∧ x + fld (tick t s.dev) fLT_CTRL_OFFSET_TIMEOUT 0 * Config.sec ≤ (tick t s.dev).now ∧ ((tick t s.dev).lc.servo = .acquiring ∨ (tick t s.dev).lc.servo = .locked))) :=
  ⟨⟨85000, 0, 7, ⟨0, 9, 0, true⟩, { dev := { tLt .locked 2 with lc := { (tLt .locked 2).lc with heldTod := some (0, 7), history := [⟨0, 9, 0, true⟩] } } }, by decide +kernel⟩,
   ⟨85000, 0, 7, { dev := { tLt .locked 2 with lc := { (tLt .locked 2).lc with heldTod := some (0, 7) } } }, by decide +kernel⟩,
   ⟨2 ^ 70, 5, { dev := { tLt .locked 1 with lc := { (tLt .locked 1).lc with lastAccepted := some 5 } } }, by decide +kernel⟩⟩

theorem witness_LongcaseSetAndOutputs :
    (∃ (t : Time) (v : Word) (s : State), s.dev.porstLow = false ∧ v.toNat.testBit 0 = true ∧ ltSource (tick t s.dev) ≠ 0) ∧
    (∃ (t : Time) (v : Word) (s : State), s.dev.porstLow = false ∧ v.toNat.testBit 0 = true ∧ ltSource (tick t s.dev) = 0) ∧
    (∃ (t : Time) (x : Nat) (s : State), s.dev.porstLow = false ∧ (tick t s.dev).lc.setArmed = some x ∧ ltSource (tick t s.dev) ≠ 0 ∧ x < secondsNow (tick t s.dev) ∧ onBoundary (tick t s.dev) = true) ∧
    (∃ (t : Time) (s : State), s.dev.porstLow = false ∧ ltSource (tick t s.dev) ≠ 0 ∧ onBoundary (tick t s.dev) = false) ∧
    (∃ (t : Time) (s : State), s.dev.porstLow = false ∧ fld (tick t s.dev) fLT_CTRL_PPS_EN 0 = 1 ∧ (tick t s.dev).lc.valid = true ∧ ppsReached (tick t s.dev) = true) ∧
    (∃ (t : Time) (s : State), s.dev.porstLow = false ∧ (fld (tick t s.dev) fLT_CTRL_PPS_EN 0 ≠ 1 ∨ (tick t s.dev).lc.valid = false ∨ ppsReached (tick t s.dev) = false)) ∧
    (∃ (t : Time) (s : State), s.dev.porstLow = false ∧ (tick t s.dev).lc.pps = true ∧ (tick t s.dev).lc.ppsAt + fld (tick t s.dev) fLT_PPS_PPS_WIDTH 0 * 1000 * Config.ns ≤ (tick t s.dev).now) ∧
    (∃ (t : Time) (s : State), s.dev.porstLow = false ∧ (tick t s.dev).now < (tick t s.dev).lc.ppsAt + fld (tick t s.dev) fLT_PPS_PPS_WIDTH 0 * 1000 * Config.ns) ∧
    (∃ (t : Time) (x : Nat) (s : State), s.dev.porstLow = false ∧ (tick t s.dev).lc.todDue = some x ∧ (tick t s.dev).lc.ppsAt + 10 * Config.ms ≤ (tick t s.dev).now ∧ fld (tick t s.dev) fLT_CTRL_TOD_EN 0 = 1 ∧ (tick t s.dev).lc.valid = true) ∧
    (∃ (t : Time) (s : State), s.dev.porstLow = false ∧ (tick t s.dev).now < (tick t s.dev).lc.ppsAt + 10 * Config.ms) ∧
    (∃ (t : Time) (s : State), s.dev.porstLow = false ∧ True) :=
  ⟨⟨85000, 1, { dev := tLt .locked 2 }, by decide +kernel⟩,
   ⟨85000, 1, { dev := tLt .locked 0 }, by decide +kernel⟩,
   ⟨0, 4, { dev := setReg .ltSetSec 0 77 { tLt .locked 2 with lc := { (tLt .locked 2).lc with setArmed := some 4 } } }, by decide +kernel⟩,
   ⟨1000000, { dev := setReg .ltSetSec 0 77 { tLt .locked 2 with lc := { (tLt .locked 2).lc with setArmed := some 4 } } }, by decide +kernel⟩,
   ⟨0, { dev := setFld fLT_CTRL_PPS_EN 0 1 (tLt .locked 2) }, by decide +kernel⟩,
   ⟨1000000, { dev := setFld fLT_CTRL_PPS_EN 0 1 (tLt .locked 2) }, by decide +kernel⟩,
   ⟨2 ^ 60, { dev := { tLt .locked 2 with lc := { (tLt .locked 2).lc with pps := true } } }, by decide +kernel⟩,
   ⟨0, { dev := { tLt .locked 2 with lc := { (tLt .locked 2).lc with pps := true, ppsAt := 1 } } }, by decide +kernel⟩,
   ⟨2 ^ 60, 9, { dev := setFld fLT_CTRL_TOD_EN 0 1 { tLt .locked 2 with lc := { (tLt .locked 2).lc with todDue := some 9 } } }, by decide +kernel⟩,
   ⟨5, { dev := setFld fLT_CTRL_TOD_EN 0 1 { tLt .locked 2 with lc := { (tLt .locked 2).lc with todDue := some 9 } } }, by decide +kernel⟩,
   ⟨85000, { dev := tLt .locked 2 }, by decide +kernel⟩⟩

theorem witness_MemoryErrorsAndMigration_1 :
    (∃ (e : MemError) (s : State), s.dev.porstLow = false ∧ ((e.stack.val = 4 ∨ e.stack.val < (tick e.t s.dev).part.stacks) ∧ e.block < rankBlocks ∧ pdOn (tick e.t s.dev) (41 + e.stack.val) = true ∧ e.kind = .correctable ∧ fld (tick e.t s.dev) fMC_CE_LIMIT_CE_LIMIT 0 = 0)) ∧
    (∃ (e : MemError) (s : State), s.dev.porstLow = false ∧ ((e.stack.val = 4 ∨ e.stack.val < (tick e.t s.dev).part.stacks) ∧ e.block < rankBlocks ∧ pdOn (tick e.t s.dev) (41 + e.stack.val) = true ∧ e.kind = .uncorrectable ∧ e.port = .cxl ∧ e.stack.val < 4 ∧ rankState (tick e.t s.dev) (4 * e.stack.val + e.rank.val) = .inService)) :=
  ⟨⟨⟨5, .correctable, 1, 2, 3, 4, 5, .cxl⟩, { dev := setFld fMC_CE_LIMIT_CE_LIMIT 0 0 (tMem id) }, by decide +kernel⟩,
   ⟨⟨5, .uncorrectable, 1, 2, 3, 4, 5, .cxl⟩, { dev := tMem id }, by decide +kernel⟩⟩

theorem witness_MemoryErrorsAndMigration_2 :
    (∃ (t : Time) (k : Nat) (j : Nat) (l : List (Nat × Option Nat)) (s : State), s.dev.porstLow = false ∧ (tick t s.dev).mc.migration = none ∧ (tick t s.dev).mc.waiting = (k, some j) :: l ∧ stacksOn (tick t s.dev) true = true) ∧
    (∃ (s : State) (t : Time) (m : Migration) (j : Nat), s.dev.porstLow = false ∧ s.mem.wf = true ∧
    (tick t s.dev).mc.migration = some m ∧ m.spare = some j ∧ m.done + 1 < rankBlocks ∧ stacksOn (tick t s.dev) true = true) ∧
    (∃ (t : Time) (k : Nat) (l : List (Nat × Option Nat)) (s : State), s.dev.porstLow = false ∧ (tick t s.dev).mc.migration = none ∧ (tick t s.dev).mc.waiting = (k, none) :: l ∧ 18 ≤ (tick t s.dev).mc.capacity) ∧
    (∃ (t : Time) (k : Nat) (l : List (Nat × Option Nat)) (s : State), s.dev.porstLow = false ∧ (tick t s.dev).mc.migration = none ∧ (tick t s.dev).mc.waiting = (k, none) :: l ∧ (tick t s.dev).mc.capacity < 18) :=
  ⟨⟨5, 3, 1, [], { dev := tMem (fun m => { m with waiting := [(3, some 1)] }) }, by decide +kernel⟩,
   ⟨{ dev := tMem (fun m => { m with migration := some { rank := 3, spare := some 1 } }) }, 5, { rank := 3, spare := some 1 }, 1, by decide +kernel⟩,
   ⟨5, 3, [], { dev := tMem (fun m => { m with waiting := [(3, none)] }) }, by decide +kernel⟩,
   ⟨5, 3, [], { dev := tMem (fun m => { m with waiting := [(3, none)], capacity := 16 }) }, by decide +kernel⟩⟩

theorem witness_WindowAccesses :
    (∃ (s : State) (off n : Nat), s.dev.porstLow = false ∧ windowOpen s.dev = true ∧ off + n ≤ partSize s.dev 4 * 2 ^ 30 ∧ 0 < n ∧ s.dev.mc.poison = []) ∧
    (∃ (s : State) (off p : Nat), s.dev.porstLow = false ∧ windowOpen s.dev = true ∧ windowByte s.dev (off / 64 * 64) = some p) ∧
    (∃ (s : State) (off p k : Nat) (bs : List Byte), s.dev.porstLow = false ∧ windowOpen s.dev = true ∧ windowByte s.dev (off / 64 * 64) = some p ∧ k + bs.length ≤ 64 ∧ bs ≠ []) :=
  ⟨⟨{ dev := tMem id }, 64, 4, by decide +kernel⟩,
   ⟨{ dev := tMem id }, 64, resolve (tMem id) (partBase (tMem id) 4 * 2 ^ 30 + 64), by decide +kernel⟩,
   ⟨{ dev := tMem id }, 64, resolve (tMem id) (partBase (tMem id) 4 * 2 ^ 30 + 64), 60, [1, 2, 3, 4], by decide +kernel⟩⟩

theorem witness_RingsAndHost_1 :
    (∃ (t : Time) (r : RingId) (ix : RingIndex) (s : State), s.dev.porstLow = false ∧ tailLine (tick t s.dev) (ringNo r) = false) ∧
    (∃ (t : Time) (r : RingId) (ix : RingIndex) (s : State), s.dev.porstLow = false ∧ tailLine (tick t s.dev) (ringNo r) = true) ∧
    (∃ (t : Time) (r : RingId) (ix : RingIndex) (s : State), s.dev.porstLow = false ∧ tailLine (tick t s.dev) (ringNo r) = true) ∧
    (∃ (t : Time) (r : RingId) (ix : RingIndex) (s : State), s.dev.porstLow = false ∧ tailLine (tick t s.dev) (ringNo r) = false) ∧
    (∃ (r : RingId) (s : State), s.dev.porstLow = false ∧ True) ∧
    (∃ (t : Time) (r : RingId) (s : State), s.dev.porstLow = false ∧ writeBackDue (tick t s.dev) (ringNo r) = true) ∧
    (∃ (t : Time) (r : RingId) (s : State), s.dev.porstLow = false ∧ writeBackDue (tick t s.dev) (ringNo r) = false) ∧
    (∃ (x : BarAccess) (n : Nat) (h : Bool) (s : State), s.dev.porstLow = false ∧ hostPort (tick x.t s.dev) = true ∧ x.size = 8 ∧ x.offset % 8 = 0 ∧ x.write = false ∧ 104 ≤ x.offset / 0x1000 ∧
doorbellSlot (x.offset / 0x1000) (x.offset % 0x1000) = some (n, h)) :=
  ⟨⟨100, .tx 0, ⟨33, []⟩, { dev := tTx }, by decide +kernel⟩,
   ⟨100, .tx 0, ⟨33, []⟩, { dev := { setReg .txrTailLine 0 64 tTx with host := { tTx.host with link := { cxl := true } } } }, by decide +kernel⟩,
   ⟨100, .tx 0, ⟨33, []⟩, { dev := { setReg .txrTailLine 0 64 tTx with host := { tTx.host with link := { cxl := true } } } }, by decide +kernel⟩,
   ⟨100, .tx 0, ⟨33, []⟩, { dev := tTx }, by decide +kernel⟩,
   ⟨.tx 0, { dev := tTx }, by decide +kernel⟩,
   ⟨4000100, .tx 0, { dev := setReg .txrWb 0 0x1000 (modRing 240 (fun r => { r with devIx := 5, wbCount := 3, wbSince := some 100 }) tTx) }, by decide +kernel⟩,
   ⟨100, .tx 0, { dev := tTx }, by decide +kernel⟩,
   ⟨⟨100, false, 0xA0000, 8, 0⟩, 240, true, { dev := tTx }, by decide +kernel⟩⟩

theorem witness_RingsAndHost_2 :
    (∃ (x : TxDescriptor) (bs : List Byte) (s : State), s.dev.porstLow = false ∧ takesWork (tick x.t s.dev) 46 = true ∧ ringEnabled (tick x.t s.dev) (240 + x.ring.val) = true ∧ (ring (tick x.t s.dev) (240 + x.ring.val)).hostIx ≠ (ring (tick x.t s.dev) (240 + x.ring.val)).devIx ∧
14 ≤ bitsOf x.w0.toNat 44 31 ∧ bitsOf x.w0.toNat 44 31 ≤ 16348 ∧ bitsOf x.w0.toNat 46 45 < (tick x.t s.dev).part.pipes ∧ x.frame = some bs) ∧
    (∃ (x : TxDescriptor) (s : State), s.dev.porstLow = false ∧ (takesWork (tick x.t s.dev) 46 = true ∧ ringEnabled (tick x.t s.dev) (240 + x.ring.val) = true ∧ (ring (tick x.t s.dev) (240 + x.ring.val)).hostIx ≠ (ring (tick x.t s.dev) (240 + x.ring.val)).devIx ∧
(bitsOf x.w0.toNat 44 31 < 14 ∨ 16348 < bitsOf x.w0.toNat 44 31 ∨ (tick x.t s.dev).part.pipes ≤ bitsOf x.w0.toNat 46 45))) ∧
    (∃ (x : TxDescriptor) (s : State), s.dev.porstLow = false ∧ takesWork (tick x.t s.dev) 46 = true ∧ ringEnabled (tick x.t s.dev) (240 + x.ring.val) = true ∧ (ring (tick x.t s.dev) (240 + x.ring.val)).hostIx ≠ (ring (tick x.t s.dev) (240 + x.ring.val)).devIx ∧
14 ≤ bitsOf x.w0.toNat 44 31 ∧ bitsOf x.w0.toNat 44 31 ≤ 16348 ∧ bitsOf x.w0.toNat 46 45 < (tick x.t s.dev).part.pipes ∧ x.frame = none) ∧
    (∃ (x : TxDescriptor) (s : State), s.dev.porstLow = false ∧ (ringEnabled (tick x.t s.dev) (240 + x.ring.val) = false ∨ (ring (tick x.t s.dev) (240 + x.ring.val)).hostIx = (ring (tick x.t s.dev) (240 + x.ring.val)).devIx)) :=
  ⟨⟨⟨100, 0, BitVec.ofNat 48 (60 * 2 ^ 31), 0, 0, 0, some (List.replicate 60 7)⟩, List.replicate 60 7, { dev := tTx }, by decide +kernel⟩,
   ⟨⟨100, 0, BitVec.ofNat 48 (13 * 2 ^ 31), 0, 0, 0, none⟩, { dev := tTx }, by decide +kernel⟩,
   ⟨⟨100, 0, BitVec.ofNat 48 (60 * 2 ^ 31), 0, 0, 0, none⟩, { dev := tTx }, by decide +kernel⟩,
   ⟨⟨100, 0, 0, 0, 0, 0, none⟩, { dev := tHost 0 {} }, by decide +kernel⟩⟩

theorem witness_RingsAndHost_3 :
    (∃ (t : Time) (c : HostResetCause) (s : State), s.dev.porstLow = false ∧ True) ∧
    (∃ (t : Time) (l : LinkTraining) (s : State), s.dev.porstLow = false ∧ hostPort (tick t s.dev) = true) ∧
    (∃ (v : Fin 2048) (s : State), s.dev.porstLow = false ∧ True) ∧
    (∃ (x : WideAccess) (v : Fin 2048) (s : State), s.dev.porstLow = false ∧ hostPort (tick x.t s.dev) = true ∧ x.size = 4 ∧ x.write = true ∧ x.offset = 16 * v.val + 12 ∧ x.value.getLsbD 0 = true) ∧
    (∃ (t : Time) (r : CfgReg) (v : BitVec 64) (s : State), s.dev.porstLow = false ∧ hostPort (tick t s.dev) = true) :=
  ⟨⟨100, .dlDown, { dev := tTx }, by decide +kernel⟩,
   ⟨100, ⟨true, 4, 5⟩, { dev := tTx }, by decide +kernel⟩,
   ⟨9, { dev := { tTx with host := { tTx.host with heldVectors := [9, 8] } } }, by decide +kernel⟩,
   ⟨⟨100, true, 28, 4, 1⟩, 1, { dev := { tTx with host := { tTx.host with unmasked := [1, 2] } } }, by decide +kernel⟩,
   ⟨100, .power, 0, { dev := tTx }, by decide +kernel⟩⟩

theorem witness_DrawerCommands :
    (∃ (n : Fin 104) (x : List Word) (l : List (List Word)) (s : State), s.dev.porstLow = false ∧ drawerPresent s.dev n = true ∧ consumer s.dev n = 0 ∧ (drawer s.dev n).items = x :: l) ∧
    (∃ (n : Fin 104) (k : Fin 4) (s : State), s.dev.porstLow = false ∧ drawerPresent s.dev n = true ∧ consumer s.dev n = 0 ∧ k ≠ 0) ∧
    (∃ (n : Fin 104) (k : Fin 4) (s : State), s.dev.porstLow = false ∧ consumer s.dev n ≠ 0) ∧
    (∃ (n : Fin 104) (v : Word) (s : State), s.dev.porstLow = false ∧ drawerPresent s.dev n = true ∧ v.toNat.testBit 0 = true) ∧
    (∃ (n : Fin 104) (v : Word) (s : State), s.dev.porstLow = false ∧ drawerPresent s.dev n = true) ∧
    (∃ (n : Fin 104) (v : Word) (s : State), s.dev.porstLow = false ∧ (drawerPresent s.dev n = true ∧ (n.val = 6 ∨ n.val = 7 → 2 ≤ bitsOf v.toNat 1 0))) ∧
    (∃ (n : Fin 104) (v : Word) (s : State), s.dev.porstLow = false ∧ ((n.val = 6 ∨ n.val = 7) ∧ bitsOf v.toNat 1 0 < 2)) ∧
    (∃ (t : Time) (n : Fin 104) (x : List Word) (l : List (List Word)) (s : State), s.dev.porstLow = false ∧ (drawer (tick t s.dev) n).items = x :: l ∧ consumer (tick t s.dev) n = 1 ∧ hostPort (tick t s.dev) = true ∧ ringEnabled (tick t s.dev) n = true ∧
indexDist (tick t s.dev) n (ring (tick t s.dev) n).hostIx (ring (tick t s.dev) n).devIx < ringSize (tick t s.dev) n) ∧
    (∃ (x : BarAccess) (n : Fin 104) (s : State), s.dev.porstLow = false ∧ hostPort (tick x.t s.dev) = true ∧ x.size = 8 ∧ x.write = false ∧ x.offset = 0x1000 * n.val + 0x20 ∧ drawerPresent (tick x.t s.dev) n = true) :=
  ⟨⟨0, [1, 2, 3, 4], [], { dev := setFld fDRW_CTRL_CONSUMER 0 0 (tHost 0 { items := [[1, 2, 3, 4]] }) }, by decide +kernel⟩,
   ⟨0, 1, { dev := setFld fDRW_CTRL_CONSUMER 0 0 (tHost 0 { latch := [1, 2, 3, 4] }) }, by decide +kernel⟩,
   ⟨0, 0, { dev := tHost 0 { items := [[1, 2, 3, 4]] } }, by decide +kernel⟩,
   ⟨0, 1, { dev := tHost 0 { items := [[1, 2, 3, 4]] } }, by decide +kernel⟩,
   ⟨1, 127, { dev := tHost 1 { items := [[1, 2]] } }, by decide +kernel⟩,
   ⟨0, 1, { dev := tHost 0 { items := [[1, 2, 3, 4]] } }, by decide +kernel⟩,
   ⟨6, 1, { dev := tHost 6 { items := [[1, 2]] } }, by decide +kernel⟩,
   ⟨100, 3, [5, 6, 7], [], { dev := setReg .dringCfg 3 0x14 (tHost 3 { items := [[5, 6, 7]] }) }, by decide +kernel⟩,
   ⟨⟨100, false, 0x1020, 8, 0⟩, 1, { dev := tHost 1 { items := [[1, 2]] } }, by decide +kernel⟩⟩

theorem witness_RegisterAccess :
    (∃ (x : BarAccess) (r : Reg) (i : Nat) (s : State), s.dev.porstLow = false ∧ accessOk x = true ∧ x.write = true ∧ regAt x.offset = some (r, i) ∧ regPresent (tick x.t s.dev) r i = true ∧ actsOnWrite.contains r = false) ∧
    (∃ (x : BarAccess) (s : State), s.dev.porstLow = false ∧ accessOk x = true ∧ x.write = true ∧ (regAt x.offset).all (fun p => !regPresent (tick x.t s.dev) p.1 p.2) = true) ∧
    (∃ (x : BarAccess) (r : Reg) (i : Nat) (s : State), s.dev.porstLow = false ∧ accessOk x = true ∧ x.write = false ∧ regAt x.offset = some (r, i) ∧ regPresent (tick x.t s.dev) r i = true ∧ actsOnRead.contains r = false ∧ (tick x.t s.dev).pwr.state ≠ 1) ∧
    (∃ (x : BarAccess) (s : State), s.dev.porstLow = false ∧ accessOk x = true ∧ x.write = false ∧ regAt x.offset = none) ∧
    (∃ (x : BarAccess) (s : State), s.dev.porstLow = false ∧ accessOk x = true ∧ x.write = true ∧ x.offset = regOffset .glEvent 0) ∧
    (∃ (x : BarAccess) (s : State), s.dev.porstLow = false ∧ accessOk x = true ∧ coreClocked (x.offset / 0x100000) = true ∧ (tick x.t s.dev).pwr.state = 1 ∧ regAt x.offset = none) :=
  ⟨⟨tAcc true (regOffset .thCfg 0) 0x5A6E5A60, .thCfg, 0, { dev := tb }, by decide +kernel⟩,
   ⟨tAcc true 0xFFFF8 5, { dev := tb }, by decide +kernel⟩,
   ⟨tAcc false (regOffset .thCfg 0) 0, .thCfg, 0, { dev := tb }, by decide +kernel⟩,
   ⟨tAcc false 0xFFFF8 5, { dev := tb }, by decide +kernel⟩,
   ⟨tAcc true (regOffset .glEvent 0) 4, { dev := setFld ⟨.glEvent, 2, 2⟩ 0 1 tb }, by decide +kernel⟩,
   ⟨tAcc true 0x7FFFF8 0, { dev := { tb with pwr := { state := 1 } } }, by decide +kernel⟩⟩

theorem witness_UnacceptedAccess :
    (∃ (x : BarAccess) (s : State), s.dev.porstLow = false ∧ (x.size ≠ 8 ∨ x.offset % 8 ≠ 0)) ∧
    (∃ (x : BarAccess) (s : State), s.dev.porstLow = false ∧ ((x.size ≠ 8 ∨ x.offset % 8 ≠ 0) ∧ x.write = false)) ∧
    (∃ (x : BarAccess) (s : State), s.dev.porstLow = false ∧ (x.size ≠ 8 ∨ x.offset % 8 ≠ 0)) :=
  ⟨⟨⟨100, true, 0x14, 8, 5⟩, { dev := tb }, by decide +kernel⟩,
   ⟨⟨100, false, 0x10, 4, 5⟩, { dev := tb }, by decide +kernel⟩,
   ⟨⟨100, true, 0x10, 4, 5⟩, { dev := tb }, by decide +kernel⟩⟩

theorem witness_ReadsAndSideCommands_1 :
    (∃ (hd : DictHead) (ix : BitVec 16) (h : Nat) (s : State), s.dev.porstLow = false ∧ asks hd (requestBytes 1 0 1 hd.reqId 0 0 (readBody [(ix, 0)])) (tick hd.t s.dev) = true ∧ (pathSt (tick hd.t s.dev) hd.path).phase = .none ∧ highest ix.toNat = some h) ∧
    (∃ (hd : DictHead) (ix : BitVec 16) (s : State), s.dev.porstLow = false ∧ asks hd (requestBytes 1 0 1 hd.reqId 0 0 (readBody [(ix, 0)])) (tick hd.t s.dev) = true ∧ (pathSt (tick hd.t s.dev) hd.path).phase = .none ∧ highest ix.toNat = none) ∧
    (∃ (hd : DictHead) (ix : BitVec 16) (sub : BitVec 8) (e : EntryDef) (s : State), s.dev.porstLow = false ∧ asks hd (requestBytes 1 0 1 hd.reqId 0 0 (readBody [(ix, sub)])) (tick hd.t s.dev) = true ∧ (pathSt (tick hd.t s.dev) hd.path).phase = .none ∧ sub ≠ 0 ∧ (findEntry ix.toNat sub.toNat).toOption = some e ∧ e.kind = .config ∧ e.right hd.path ≠ 0 ∧
unitAbsent (tick hd.t s.dev) e ix.toNat sub.toNat = false ∧ liveConfig (tick hd.t s.dev) ix.toNat sub.toNat = none) ∧
    (∃ (hd : DictHead) (rs : List (BitVec 16 × BitVec 8)) (s : State), s.dev.porstLow = false ∧ asks hd (requestBytes 1 0 rs.length hd.reqId 0 0 (readBody rs)) (tick hd.t s.dev) = true ∧ (pathSt (tick hd.t s.dev) hd.path).phase = .none ∧ rs.all (fun r => readsPlain (tick hd.t s.dev) hd.path r.1.toNat r.2.toNat) = true) ∧
    (∃ (hd : DictHead) (ix : BitVec 16) (sub : BitVec 8) (e : EntryDef) (bs : List Byte) (s : State), s.dev.porstLow = false ∧ asks hd (requestBytes 1 0 1 hd.reqId 0 0 (readBody [(ix, sub)])) (tick hd.t s.dev) = true ∧ (pathSt (tick hd.t s.dev) hd.path).phase = .open_ ∧ (pathSt (tick hd.t s.dev) hd.path).single = none ∧ (pathSt (tick hd.t s.dev) hd.path).writes = [(ix.toNat * 256 + sub.toNat, bs)] ∧ sub ≠ 0 ∧ (findEntry ix.toNat sub.toNat).toOption = some e ∧ e.right hd.path ≠ 0 ∧
unitAbsent (tick hd.t s.dev) e ix.toNat sub.toNat = false) :=
  ⟨⟨tHd, 0x1900, (highest 0x1900).getD 0, { dev := tDic {} }, by decide +kernel⟩,
   ⟨tHd, 0x0001, { dev := tDic {} }, by decide +kernel⟩,
   ⟨tHd, 0x2000, 9, (entryDef 0x2000 9).get (by decide +kernel), { dev := tDic {} }, by decide +kernel⟩,
   ⟨tHd, [(0x2000, 9), (0x2000, 8)], { dev := tDic {} }, by decide +kernel⟩,
   ⟨tHd, 0x2000, 9, (entryDef 0x2000 9).get (by decide +kernel), [1], { dev := tDic { phase := .open_, writes := [(0x200009, [1])] } }, by decide +kernel⟩⟩

theorem witness_ReadsAndSideCommands_2 :
    (∃ (t : Time) (p : Path) (v : BitVec 16) (s : State), s.dev.porstLow = false ∧ secretaryRuns (tick t s.dev) = true ∧ p ≠ .h ∧ v = 0x0DEF) ∧
    (∃ (t : Time) (p : Path) (v : BitVec 16) (s : State), s.dev.porstLow = false ∧ (secretaryRuns (tick t s.dev) = true ∧ (p = .h ∨ v ≠ 0x0DEF))) ∧
    (∃ (t : Time) (p : Path) (n : BitVec 32) (s : State), s.dev.porstLow = false ∧ secretaryRuns (tick t s.dev) = true ∧ p ≠ .h ∧ n ≠ (tick t s.dev).fs.nonce) ∧
    (∃ (t : Time) (p : Path) (n : BitVec 32) (s : State), s.dev.porstLow = false ∧ secretaryRuns (tick t s.dev) = true ∧ p ≠ .h ∧ n = (tick t s.dev).fs.nonce ∧ (tick t s.dev).fs.consent = true) ∧
    (∃ (t : Time) (p : Path) (n : BitVec 32) (s : State), s.dev.porstLow = false ∧ secretaryRuns (tick t s.dev) = true ∧ p ≠ .h ∧ n = (tick t s.dev).fs.nonce ∧ (tick t s.dev).fs.consent = false) ∧
    (∃ (t : Time) (p : Path) (n : BitVec 32) (s : State), s.dev.porstLow = false ∧ secretaryRuns (tick t s.dev) = true ∧ p = .h) ∧
    (∃ (hd : DictHead) (s : State), s.dev.porstLow = false ∧ hd.path = .l ∧ pdOn (tick hd.t s.dev) 3 = true) ∧
    (∃ (hd : DictHead) (bs : List Byte) (s : State), s.dev.porstLow = false ∧ (hd.path = .l ∧ secretaryRuns (tick hd.t s.dev) = true ∧ (bs.length < 24 ∨ 8192 < bs.length))) ∧
    (∃ (hd : DictHead) (bs : List Byte) (s : State), s.dev.porstLow = false ∧ hd.path = .l ∧ 24 ≤ bs.length ∧
asks { hd with reqId := BitVec.ofNat 32 (bytesToNat ((bs.drop 4).take 4)) } bs (tick hd.t s.dev) = true) :=
  ⟨⟨100, .l, 0x0DEF, { dev := tDic {} }, by decide +kernel⟩,
   ⟨100, .s, 1, { dev := tDic {} }, by decide +kernel⟩,
   ⟨100, .l, 9, { dev := tDic {} }, by decide +kernel⟩,
   ⟨100, .l, 9, { dev := { tDic {} with fs := { (tDic {}).fs with nonce := 9, consent := true, stopped := true, chans := [(0, { stage := 2 })] } } }, by decide +kernel⟩,
   ⟨100, .s, 9, { dev := { tDic {} with fs := { (tDic {}).fs with nonce := 9 } } }, by decide +kernel⟩,
   ⟨100, .h, 9, { dev := tDic {} }, by decide +kernel⟩,
   ⟨tHd, { dev := tDic {} }, by decide +kernel⟩,
   ⟨tHd, [1, 9, 0, 0, 0, 0, 0, 7], { dev := tDic {} }, by decide +kernel⟩,
   ⟨tHd, [1, 9, 0, 0, 0, 0, 0, 7] ++ List.replicate 16 0, { dev := tDic {} }, by decide +kernel⟩⟩

theorem witness_WriteAndTransactions :
    (∃ (hd : DictHead) (r : WriteRec) (s : State), s.dev.porstLow = false ∧ asks hd (requestBytes 2 0 1 hd.reqId 0 0 (writeBody [r])) (tick hd.t s.dev) = true ∧ (pathSt (tick hd.t s.dev) hd.path).phase = .none ∧ writeCheck (tick hd.t s.dev) hd.path r.index.toNat r.sub.toNat r.ty.toNat r.value = 0 ∧ r.value.length ≤ 2 ^ 20) ∧
    (∃ (hd : DictHead) (r : WriteRec) (s : State), s.dev.porstLow = false ∧ asks hd (requestBytes 2 0 1 hd.reqId 0 0 (writeBody [r])) (tick hd.t s.dev) = true ∧ (pathSt (tick hd.t s.dev) hd.path).phase = .open_ ∧ (pathSt (tick hd.t s.dev) hd.path).writes = [] ∧ (pathSt (tick hd.t s.dev) hd.path).bytes = 0 ∧ r.value.length ≤ 2 ^ 20 ∧
writeCheck (tick hd.t s.dev) hd.path r.index.toNat r.sub.toNat r.ty.toNat r.value = 0) ∧
    (∃ (hd : DictHead) (rs : List WriteRec) (s : State), s.dev.porstLow = false ∧ asks hd (requestBytes 2 0 rs.length hd.reqId 0 0 (writeBody rs)) (tick hd.t s.dev) = true ∧ (pathSt (tick hd.t s.dev) hd.path).phase = .pending ∧ rs.length ≤ 255) ∧
    (∃ (hd : DictHead) (s : State), s.dev.porstLow = false ∧ asks hd (requestBytes 3 0 0 hd.reqId 0 0 []) (tick hd.t s.dev) = true ∧ (pathSt (tick hd.t s.dev) hd.path).phase = .none) ∧
    (∃ (hd : DictHead) (s : State), s.dev.porstLow = false ∧ asks hd (requestBytes 3 0 0 hd.reqId 0 0 []) (tick hd.t s.dev) = true ∧ (pathSt (tick hd.t s.dev) hd.path).phase ≠ .none) ∧
    (∃ (hd : DictHead) (s : State), s.dev.porstLow = false ∧ asks hd (requestBytes 4 0 0 hd.reqId 0 0 []) (tick hd.t s.dev) = true ∧ (pathSt (tick hd.t s.dev) hd.path).phase = .open_) ∧
    (∃ (hd : DictHead) (x : TimeVal) (s : State), s.dev.porstLow = false ∧ asks hd (requestBytes 4 1 0 hd.reqId x.seconds.toNat x.ns.toNat []) (tick hd.t s.dev) = true ∧ (pathSt (tick hd.t s.dev) hd.path).phase = .open_ ∧ timeRefused x (tick hd.t s.dev) = 0) ∧
    (∃ (hd : DictHead) (s : State), s.dev.porstLow = false ∧ asks hd (requestBytes 4 0 0 hd.reqId 0 0 []) (tick hd.t s.dev) = true ∧ (pathSt (tick hd.t s.dev) hd.path).phase ≠ .open_) ∧
    (∃ (hd : DictHead) (s : State), s.dev.porstLow = false ∧ asks hd (requestBytes 5 0 0 hd.reqId 0 0 []) (tick hd.t s.dev) = true ∧ (pathSt (tick hd.t s.dev) hd.path).phase = .open_) ∧
    (∃ (hd : DictHead) (s : State), s.dev.porstLow = false ∧ asks hd (requestBytes 5 0 0 hd.reqId 0 0 []) (tick hd.t s.dev) = true ∧ (pathSt (tick hd.t s.dev) hd.path).phase = .pending ∧ pointReached (tick hd.t s.dev) (pathSt (tick hd.t s.dev) hd.path) = true) ∧
    (∃ (hd : DictHead) (s : State), s.dev.porstLow = false ∧ asks hd (requestBytes 5 0 0 hd.reqId 0 0 []) (tick hd.t s.dev) = true ∧ (pathSt (tick hd.t s.dev) hd.path).phase = .pending ∧ pointReached (tick hd.t s.dev) (pathSt (tick hd.t s.dev) hd.path) = false) ∧
    (∃ (hd : DictHead) (s : State), s.dev.porstLow = false ∧ asks hd (requestBytes 5 0 0 hd.reqId 0 0 []) (tick hd.t s.dev) = true ∧ (pathSt (tick hd.t s.dev) hd.path).phase = .none) ∧
    (∃ (hd : DictHead) (s : State), s.dev.porstLow = false ∧ asks hd (requestBytes 6 0 0 hd.reqId 0 0 []) (tick hd.t s.dev) = true ∧ (pathSt (tick hd.t s.dev) hd.path).phase = .open_) ∧
    (∃ (hd : DictHead) (s : State), s.dev.porstLow = false ∧ asks hd (requestBytes 6 0 0 hd.reqId 0 0 []) (tick hd.t s.dev) = true ∧ (pathSt (tick hd.t s.dev) hd.path).phase = .pending) :=
  ⟨⟨tHd, ⟨0x2000, 9, 1, [1]⟩, { dev := tDic {} }, by decide +kernel⟩,
   ⟨tHd, ⟨0x2000, 9, 1, [1]⟩, { dev := tDic { phase := .open_ } }, by decide +kernel⟩,
   ⟨tHd, [⟨0x2000, 9, 1, [1]⟩], { dev := tDic { phase := .pending } }, by decide +kernel⟩,
   ⟨tHd, { dev := tDic {} }, by decide +kernel⟩,
   ⟨tHd, { dev := tDic { phase := .open_ } }, by decide +kernel⟩,
   ⟨tHd, { dev := tDic { phase := .open_ } }, by decide +kernel⟩,
   ⟨tHd, ⟨60, 5⟩, { dev := { tDic { phase := .open_ } with lc := { tb.lc with valid := true } } }, by decide +kernel⟩,
   ⟨tHd, { dev := tDic {} }, by decide +kernel⟩,
   ⟨tHd, { dev := tDic { phase := .open_, writes := [(9, [1])] } }, by decide +kernel⟩,
   ⟨tHd, { dev := tDic { phase := .pending, due := some (.scheduled 0 0), writes := [(9, [1])] } }, by decide +kernel⟩,
   ⟨tHd, { dev := tDic { phase := .pending, writes := [(9, [1])] } }, by decide +kernel⟩,
   ⟨tHd, { dev := tDic {} }, by decide +kernel⟩,
   ⟨tHd, { dev := tDic { phase := .open_ } }, by decide +kernel⟩,
   ⟨tHd, { dev := tDic { phase := .pending } }, by decide +kernel⟩⟩

theorem witness_CommitPointsAndSaves :
    (∃ (t : Time) (p : Path) (n : Time) (s : State), s.dev.porstLow = false ∧ secretaryRuns (tick t s.dev) = true ∧ (tick t s.dev).act.lockoutDue = none ∧ (pathSt (tick t s.dev) p).phase = .pending ∧ (pathSt (tick t s.dev) p).due = some (.boundary n) ∧ n ≤ (tick t s.dev).now ∧ [Path.h, .l, .s].all (fun q => q == p || (pathSt (tick t s.dev) q).phase != .pending) = true ∧ (pathSt (tick t s.dev) p).writes = [] ∧ (pathSt (tick t s.dev) p).reads = [] ∧ (pathSt (tick t s.dev) p).failed = none ∧ (tick t s.dev).dic.unsaved < 32768) ∧
    (∃ (t : Time) (p : Path) (n : Time) (c : Nat) (k : Nat) (s : State), s.dev.porstLow = false ∧ secretaryRuns (tick t s.dev) = true ∧ (tick t s.dev).act.lockoutDue = none ∧ (pathSt (tick t s.dev) p).phase = .pending ∧ (pathSt (tick t s.dev) p).due = some (.boundary n) ∧ n ≤ (tick t s.dev).now ∧ [Path.h, .l, .s].all (fun q => q == p || (pathSt (tick t s.dev) q).phase != .pending) = true ∧ (pathSt (tick t s.dev) p).failed = some (c, k)) ∧
    (∃ (t : Time) (p : Path) (n : Time) (s : State), s.dev.porstLow = false ∧ secretaryRuns (tick t s.dev) = true ∧ (tick t s.dev).act.lockoutDue = none ∧ (pathSt (tick t s.dev) p).phase = .pending ∧ (pathSt (tick t s.dev) p).due = some (.boundary n) ∧ n ≤ (tick t s.dev).now ∧ [Path.h, .l, .s].all (fun q => q == p || (pathSt (tick t s.dev) q).phase != .pending) = true ∧ (pathSt (tick t s.dev) p).writes.any (fun e => e.1 == 0x1900 * 256 + 5) = false) ∧
    (∃ (t : Time) (p : Path) (s : State), s.dev.porstLow = false ∧ secretaryRuns (tick t s.dev) = true ∧ (pathSt (tick t s.dev) p).phase = .open_ ∧ (pathSt (tick t s.dev) p).lastAt + entryAt (tick t s.dev) 0x1800 3 * Config.sec ≤ (tick t s.dev).now) ∧
    (∃ (t : Time) (s : State), s.dev.porstLow = false ∧ secretaryRuns (tick t s.dev) = true ∧ (tick t s.dev).dic.saveState = 1) ∧
    (∃ (t : Time) (s : State), s.dev.porstLow = false ∧ secretaryRuns (tick t s.dev) = true ∧ (tick t s.dev).dic.saveState = 1) :=
  ⟨⟨100, .l, 50, { dev := tDic { phase := .pending, due := some (.boundary 50), commitId := 5 } }, by decide +kernel⟩,
   ⟨100, .l, 50, 5, 9, { dev := tDic { phase := .pending, due := some (.boundary 50), failed := some (5, 9), writes := [(9, [1])] } }, by decide +kernel⟩,
   ⟨100, .l, 50, { dev := tDic { phase := .pending, due := some (.boundary 50), writes := [(0x2000 * 256 + 9, [1])] } }, by decide +kernel⟩,
   ⟨2 ^ 60, .l, { dev := tDic { phase := .open_ } }, by decide +kernel⟩,
   ⟨100, { dev := { tDic {} with dic := { (tDic {}).dic with saveState := 1, unsaved := 3 } } }, by decide +kernel⟩,
   ⟨100, { dev := { tDic {} with dic := { (tDic {}).dic with saveState := 1, unsaved := 3 } } }, by decide +kernel⟩⟩

theorem witness_TaskSubmissionAndDispatch_1 :
    (∃ (x : TaskDesc) (s : State), s.dev.porstLow = false ∧ takesWork (tick x.t s.dev) 3 = true ∧ hostPort (tick x.t s.dev) = true ∧ ringEnabled (tick x.t s.dev) 260 = true ∧ (ring (tick x.t s.dev) 260).hostIx ≠ (ring (tick x.t s.dev) 260).devIx ∧ task (tick x.t s.dev) (bitsOf x.w0.toNat 23 12) = none ∧ hostHandle (tick x.t s.dev) (bitsOf x.w0.toNat 23 12) = true ∧ publishedType (bitsOf x.w0.toNat 47 40) = true ∧
bitsOf x.w3.toNat 35 33 ≤ 4 ∧ (([bitsOf x.w1.toNat 47 36, bitsOf x.w1.toNat 35 24, bitsOf x.w1.toNat 23 12, bitsOf x.w1.toNat 11 0]).take (bitsOf x.w3.toNat 35 33)).all (hostHandle (tick x.t s.dev)) = true ∧ bitsOf x.w3.toNat 47 37 ≤ 1879 ∧ 0 < (bitsOf x.w0.toNat 11 0)) ∧
    (∃ (x : TaskDesc) (s : State), s.dev.porstLow = false ∧ takesWork (tick x.t s.dev) 3 = true ∧ hostPort (tick x.t s.dev) = true ∧ ringEnabled (tick x.t s.dev) 260 = true ∧ (ring (tick x.t s.dev) 260).hostIx ≠ (ring (tick x.t s.dev) 260).devIx ∧ task (tick x.t s.dev) (bitsOf x.w0.toNat 23 12) = none ∧ hostHandle (tick x.t s.dev) (bitsOf x.w0.toNat 23 12) = true ∧ publishedType (bitsOf x.w0.toNat 47 40) = true ∧
bitsOf x.w3.toNat 35 33 ≤ 4 ∧ (([bitsOf x.w1.toNat 47 36, bitsOf x.w1.toNat 35 24, bitsOf x.w1.toNat 23 12, bitsOf x.w1.toNat 11 0]).take (bitsOf x.w3.toNat 35 33)).all (hostHandle (tick x.t s.dev)) = true ∧ bitsOf x.w3.toNat 47 37 ≤ 1879 ∧ (bitsOf x.w0.toNat 11 0) = 0 ∧ (bitsOf x.w0.toNat 47 40) ≠ 0x40) ∧
    (∃ (x : TaskDesc) (s : State), s.dev.porstLow = false ∧ takesWork (tick x.t s.dev) 3 = true ∧ hostPort (tick x.t s.dev) = true ∧ ringEnabled (tick x.t s.dev) 260 = true ∧ (ring (tick x.t s.dev) 260).hostIx ≠ (ring (tick x.t s.dev) 260).devIx ∧ task (tick x.t s.dev) (bitsOf x.w0.toNat 23 12) = none ∧ hostHandle (tick x.t s.dev) (bitsOf x.w0.toNat 23 12) = true ∧ publishedType (bitsOf x.w0.toNat 47 40) = true ∧
bitsOf x.w3.toNat 35 33 ≤ 4 ∧ (([bitsOf x.w1.toNat 47 36, bitsOf x.w1.toNat 35 24, bitsOf x.w1.toNat 23 12, bitsOf x.w1.toNat 11 0]).take (bitsOf x.w3.toNat 35 33)).all (hostHandle (tick x.t s.dev)) = true ∧ bitsOf x.w3.toNat 47 37 ≤ 1879 ∧ (bitsOf x.w0.toNat 11 0) = 0 ∧ (bitsOf x.w0.toNat 47 40) = 0x40 ∧ bitsOf x.w3.toNat 35 33 = 0) ∧
    (∃ (x : TaskDesc) (s : State), s.dev.porstLow = false ∧ (takesWork (tick x.t s.dev) 3 = true ∧ hostPort (tick x.t s.dev) = true ∧ ringEnabled (tick x.t s.dev) 260 = true ∧ (ring (tick x.t s.dev) 260).hostIx ≠ (ring (tick x.t s.dev) 260).devIx ∧ ((task (tick x.t s.dev) (bitsOf x.w0.toNat 23 12)).isSome = true ∨ hostHandle (tick x.t s.dev) (bitsOf x.w0.toNat 23 12) = false ∨ publishedType (bitsOf x.w0.toNat 47 40) = false))) :=
  ⟨⟨tDesc 0x41 2, { dev := tBn {} }, by decide +kernel⟩,
   ⟨tDesc 0x41 0, { dev := tBn {} }, by decide +kernel⟩,
   ⟨tDesc 0x40 0, { dev := tBn {} }, by decide +kernel⟩,
   ⟨tDesc 0x39 0, { dev := tBn {} }, by decide +kernel⟩⟩

theorem witness_TaskSubmissionAndDispatch_2 :
    (∃ (t : Time) (h : Nat) (x : Task) (k : Nat) (s : State), s.dev.porstLow = false ∧ takesWork (tick t s.dev) 3 = true ∧ readyTasks (firmwareWork (tick t s.dev)) = [(h, x)] ∧ ((idleCores (tick t s.dev)).filter (fun k => !firmwareTask x || Config.imageTaskAllowed x.ty (k / 4))).find? (fun k => (core (tick t s.dev) k).lastType == x.ty && (core (tick t s.dev) k).lastContext == x.context) = some k) ∧
    (∃ (t : Time) (h : Nat) (x : Task) (k : Nat) (s : State), s.dev.porstLow = false ∧ takesWork (tick t s.dev) 3 = true ∧ readyTasks (firmwareWork (tick t s.dev)) = [(h, x)] ∧ ((idleCores (tick t s.dev)).filter (fun k => !firmwareTask x || Config.imageTaskAllowed x.ty (k / 4))).find? (fun k => (core (tick t s.dev) k).lastType == x.ty && (core (tick t s.dev) k).lastContext == x.context) = none ∧ (busyCores (tick t s.dev)).any (fun k => (core (tick t s.dev) k).lastType == x.ty && (core (tick t s.dev) k).lastContext == x.context) = false ∧ ((idleCores (tick t s.dev)).filter (fun k => !firmwareTask x || Config.imageTaskAllowed x.ty (k / 4))).head? = some k) ∧
    (∃ (t : Time) (h : Nat) (x : Task) (s : State), s.dev.porstLow = false ∧ takesWork (tick t s.dev) 3 = true ∧ readyTasks (firmwareWork (tick t s.dev)) = [(h, x)] ∧ ((idleCores (tick t s.dev)).filter (fun k => !firmwareTask x || Config.imageTaskAllowed x.ty (k / 4))).find? (fun k => (core (tick t s.dev) k).lastType == x.ty && (core (tick t s.dev) k).lastContext == x.context) = none ∧ (busyCores (tick t s.dev)).any (fun k => (core (tick t s.dev) k).lastType == x.ty && (core (tick t s.dev) k).lastContext == x.context) = true ∧ (tick t s.dev).now - x.readyAt < fld (tick t s.dev) fBN_CTRL_AFFINITY_WINDOW 0 * Config.ns) ∧
    (∃ (t : Time) (h : BitVec 12) (x : Task) (k : Nat) (s : State), s.dev.porstLow = false ∧ pdOn (tick t s.dev) 3 = true ∧ task (tick t s.dev) h.toNat = some x ∧ x.state = .ready ∧ x.redispatched = false ∧ x.readyAt + fld (tick t s.dev) fBN_CTRL_AFFINITY_WINDOW 0 * Config.ns ≤ (tick t s.dev).now ∧ ((idleCores (tick t s.dev)).filter (fun k => !firmwareTask x || Config.imageTaskAllowed x.ty (k / 4))).find? (fun k => (core (tick t s.dev) k).lastType == x.ty && (core (tick t s.dev) k).lastContext == x.context) = none ∧ ((idleCores (tick t s.dev)).filter (fun k => !firmwareTask x || Config.imageTaskAllowed x.ty (k / 4))).head? = some k) :=
  ⟨⟨1000, 3, tTk .ready, 1, { dev := tBn { tasks := [(3, tTk .ready)], cores := [(1, ⟨0x41, 2, none⟩)] } }, by decide +kernel⟩,
   ⟨1000, 3, tTk .ready, 0, { dev := tBn { tasks := [(3, tTk .ready)] } }, by decide +kernel⟩,
   ⟨1000, 3, { tTk .ready with readyAt := 990 }, { dev := tBn { tasks := [(3, { tTk .ready with readyAt := 990 })], cores := [(1, ⟨0x41, 2, some 4⟩)] } }, by decide +kernel⟩,
   ⟨1000000, 3, tTk .ready, 0, { dev := tBn { tasks := [(3, tTk .ready)], cores := [(1, ⟨0x41, 2, some 4⟩)] } }, by decide +kernel⟩⟩

theorem witness_TaskEndsAndClusters_1 :
    (∃ (t : Time) (k : Fin 16) (c : BitVec 3) (r : TaskAnswer) (h : Nat) (x : Task) (s : State), s.dev.porstLow = false ∧ ((core (tick t s.dev) k).busy = some h ∧ (c = 0 ∨ c = 4) ∧ task (tick t s.dev) h = some x ∧ x.succs = [])) ∧
    (∃ (t : Time) (k : Fin 16) (r : TaskAnswer) (h : Nat) (x : Task) (j : Nat) (y : Task) (s : State), s.dev.porstLow = false ∧ (core (tick t s.dev) k).busy = some h ∧ task (tick t s.dev) h = some x ∧ (taskAction x 0 r (tick t s.dev)).1 = 0 ∧ x.succs = [j] ∧ j ≠ h ∧ task (tick t s.dev) j = some y ∧ y.state = .waiting ∧ 1 < y.dep) ∧
    (∃ (t : Time) (k : Fin 16) (r : TaskAnswer) (h : Nat) (x : Task) (j : Nat) (y : Task) (s : State), s.dev.porstLow = false ∧ (core (tick t s.dev) k).busy = some h ∧ task (tick t s.dev) h = some x ∧ (taskAction x 0 r (tick t s.dev)).1 = 0 ∧ x.succs = [j] ∧ j ≠ h ∧ task (tick t s.dev) j = some y ∧ y.state = .waiting ∧ y.dep = 1 ∧ y.ty ≠ 0x40) ∧
    (∃ (t : Time) (k : Fin 16) (r : TaskAnswer) (h : Nat) (x : Task) (b : CabBank) (s : State), s.dev.porstLow = false ∧ (core (tick t s.dev) k).busy = some h ∧ task (tick t s.dev) h = some x ∧ x.ty = 0x44 ∧ x.succs = [] ∧ bankLow (tick t s.dev) (bitsOf r.header.toNat 47 32) = some b) ∧
    (∃ (t : Time) (k : Fin 16) (h : Nat) (x : Task) (s : State), s.dev.porstLow = false ∧ (core (tick t s.dev) k).busy = some h ∧ task (tick t s.dev) h = some x ∧ x.succs = [] ∧ ((cluster (tick t s.dev) (k.val / 4)).faults.filter (fun u => decide ((tick t s.dev).now < u + Config.sec))).length < 2) ∧
    (∃ (t : Time) (k : Fin 16) (h : Nat) (x : Task) (s : State), s.dev.porstLow = false ∧ clusterUp (tick t s.dev) (k.val / 4) = true ∧ (core (tick t s.dev) k).busy = some h ∧ task (tick t s.dev) h = some x ∧ x.succs = []) ∧
    (∃ (t : Time) (h : BitVec 12) (s : State), s.dev.porstLow = false ∧ pdOn (tick t s.dev) 3 = true ∧ hostHandle (tick t s.dev) h.toNat = false) ∧
    (∃ (t : Time) (h : BitVec 12) (s : State), s.dev.porstLow = false ∧ pdOn (tick t s.dev) 3 = true ∧ hostHandle (tick t s.dev) h.toNat = true ∧ task (dispatchReady (tick t s.dev)) h.toNat = none) ∧
    (∃ (t : Time) (h : BitVec 12) (x : Task) (s : State), s.dev.porstLow = false ∧ pdOn (tick t s.dev) 3 = true ∧ hostHandle (tick t s.dev) h.toNat = true ∧ task (dispatchReady (tick t s.dev)) h.toNat = some x ∧ x.state = .running) ∧
    (∃ (t : Time) (h : BitVec 12) (x : Task) (s : State), s.dev.porstLow = false ∧ pdOn (tick t s.dev) 3 = true ∧ hostHandle (tick t s.dev) h.toNat = true ∧ task (dispatchReady (tick t s.dev)) h.toNat = some x ∧ x.state ≠ .running ∧ x.succs = []) :=
  ⟨⟨1000, 1, 4, { result := 7 }, 3, tTk .running, { dev := tBn { tasks := [(3, tTk .running)], cores := [(1, ⟨0x41, 2, some 3⟩)] } }, by decide +kernel⟩,
   ⟨1000, 1, { result := 7, header := 1 }, 3, { tTk .running with succs := [5] }, 5, { tTk .waiting with dep := 2 }, { dev := tBn { tasks := [(3, { tTk .running with succs := [5] }), (5, { tTk .waiting with dep := 2 })], cores := [(1, ⟨0x41, 2, some 3⟩)] } }, by decide +kernel⟩,
   ⟨1000, 1, { result := 7, header := 1 }, 3, { tTk .running with succs := [5] }, 5, tTk .waiting, { dev := tBn { tasks := [(3, { tTk .running with succs := [5] }), (5, tTk .waiting)], cores := [(1, ⟨0x41, 2, some 3⟩)] } }, by decide +kernel⟩,
   ⟨1000, 1, { result := 0, header := BitVec.ofNat 48 (9 * 2 ^ 32) }, 3, { tTk .running with ty := 0x44 }, tCabBank, { dev := { tBn { tasks := [(3, { tTk .running with ty := 0x44 })], cores := [(1, ⟨0x44, 2, some 3⟩)] } with cab := { banks := [(1, tCabBank)] } } }, by decide +kernel⟩,
   ⟨1000, 1, 3, tTk .running, { dev := tBn { tasks := [(3, tTk .running)], cores := [(1, ⟨0x41, 2, some 3⟩)] } }, by decide +kernel⟩,
   ⟨1000, 1, 3, tTk .running, { dev := tBn { tasks := [(3, tTk .running)], cores := [(1, ⟨0x41, 2, some 3⟩)] } }, by decide +kernel⟩,
   ⟨1000, 100, { dev := tBn {} }, by decide +kernel⟩,
   ⟨1000, 3, { dev := tBn {} }, by decide +kernel⟩,
   ⟨1000, 3, tTk .running, { dev := tBn { tasks := [(3, tTk .running)] } }, by decide +kernel⟩,
   ⟨1000, 3, tTk .waiting, { dev := tBn { tasks := [(3, tTk .waiting)] } }, by decide +kernel⟩⟩

theorem witness_TaskEndsAndClusters_2 :
    (∃ (v : Word) (s : State), s.dev.porstLow = false ∧ s.dev.sec.tasks.any (fun e => hostHandle s.dev e.1) = false) ∧
    (∃ (v : Word) (s : State), s.dev.porstLow = false ∧ s.dev.sec.tasks.any (fun e => hostHandle s.dev e.1) = true) ∧
    (∃ (s : State) (t : Time) (c : Fin 4) (x y : Bool), s.dev.porstLow = false ∧ (cluster (tick t s.dev) c).state = .loading ∧ (tick t s.dev).sec.restarting = false ∧ pdOn (tick t s.dev) (4 + c.val) = true ∧ (x || y) = true ∧ sectionOk (imageBytes (tick t s.dev) (tick t s.dev).img.ptr.active) = true) ∧
    (∃ (s : State) (t : Time) (c : Fin 4) (x y : Bool), s.dev.porstLow = false ∧ (cluster (tick t s.dev) c).state = .loading ∧ (tick t s.dev).sec.restarting = false ∧ pdOn (tick t s.dev) (4 + c.val) = true ∧ ((x || y) = false ∨ sectionOk (imageBytes (tick t s.dev) (tick t s.dev).img.ptr.active) = false)) ∧
    (∃ (s : State) (t : Time) (c : Fin 4) (n : Nat), s.dev.porstLow = false ∧ (cluster (tick t s.dev) c).state = .loading ∧ (tick t s.dev).sec.restarting = false ∧ pdOn (tick t s.dev) (4 + c.val) = true ∧
    s.mem.wf = true ∧ n = (serviceSection (imageBytes (tick t s.dev) (tick t s.dev).img.ptr.active)).length ∧ 0 < n ∧ n ≤ 2 ^ 24 ∧
    (∀ i < ceilDiv n 64, ∀ j < i, areaLine (tick t s.dev) c i + 64 ≤ areaLine (tick t s.dev) c j ∨ areaLine (tick t s.dev) c j + 64 ≤ areaLine (tick t s.dev) c i)) ∧
    (∃ (t : Time) (c : Fin 4) (x : Bool) (y : Bool) (s : State), s.dev.porstLow = false ∧ (cluster (tick t s.dev) c).state ≠ .loading) :=
  ⟨⟨77, { dev := tBn {} }, by decide +kernel⟩,
   ⟨77, { dev := tBn { tasks := [(3, tTk .ready)] } }, by decide +kernel⟩,
   ⟨{ dev := setPd 5 1 { tBn {} with sec := { clusters := [(1, { state := .loading })] } } }, 1000, 1, false, true, by decide +kernel⟩,
   ⟨{ dev := tCl tImg }, 1000, 1, false, false, by decide +kernel, by decide +kernel, by decide +kernel, by decide +kernel, .inl rfl⟩,
   ⟨{ dev := tCl tImg }, 1000, 1, 4, by decide +kernel, by decide +kernel, by decide +kernel, by decide +kernel, by decide +kernel, by decide +kernel, by decide, by decide, by decide⟩,
   ⟨1000, 0, true, true, { dev := tBn {} }, by decide +kernel⟩⟩

theorem witness_SecretaryRestarts :
    (∃ (t : Time) (s : State), s.dev.porstLow = false ∧ pdOn (tick t s.dev) 3 = true ∧ (tick t s.dev).img.ptr.trial = false) ∧
    (∃ (t : Time) (s : State), s.dev.porstLow = false ∧ pdOn (tick t s.dev) 3 = true ∧ (tick t s.dev).img.ptr.trial = true ∧ (tick t s.dev).img.ptr.starts < 2) ∧
    (∃ (t : Time) (s : State), s.dev.porstLow = false ∧ pdOn (tick t s.dev) 3 = true ∧ (tick t s.dev).img.ptr.trial = false) ∧
    (∃ (t : Time) (p : Path) (s : State), s.dev.porstLow = false ∧ secretaryRuns (tick t s.dev) = true ∧ p ≠ .h ∧ (tick t s.dev).img.ptr.trial = false) ∧
    (∃ (t : Time) (p : Path) (v : BitVec 16) (s : State), s.dev.porstLow = false ∧ secretaryRuns (tick t s.dev) = true ∧ p ≠ .h ∧ v ≠ 0x05EC) ∧
    (∃ (t : Time) (p : Path) (v : BitVec 8) (s : State), s.dev.porstLow = false ∧ secretaryRuns (tick t s.dev) = true ∧ p ≠ .h ∧ 1 ≤ v.toNat ∧ v.toNat ≤ 4) ∧
    (∃ (t : Time) (p : Path) (v : BitVec 8) (s : State), s.dev.porstLow = false ∧ (secretaryRuns (tick t s.dev) = true ∧ p ≠ .h ∧ (v.toNat = 0 ∨ 4 < v.toNat))) ∧
    (∃ (x : RestartInputs) (s : State), s.dev.porstLow = false ∧ (tick x.t s.dev).sec.restarting = true ∧ x.ptrOk = true ∧ slotPasses x.slotsOk (tick x.t s.dev) (tick x.t s.dev).img.ptr.active = true ∧ (imgSlot (tick x.t s.dev) (tick x.t s.dev).img.ptr.active).format = (tick x.t s.dev).dic.store.format) :=
  ⟨⟨1000, { dev := tSe {} }, by decide +kernel⟩,
   ⟨1000, { dev := tSe { ptr := { trial := true, starts := 1, previous := some 1 } } }, by decide +kernel⟩,
   ⟨1000, { dev := tSe {} }, by decide +kernel⟩,
   ⟨1000, .l, { dev := tSe {} }, by decide +kernel⟩,
   ⟨1000, .s, 5, { dev := tSe {} }, by decide +kernel⟩,
   ⟨1000, .l, 1, { dev := tSe {} }, by decide +kernel⟩,
   ⟨1000, .l, 5, { dev := tSe {} }, by decide +kernel⟩,
   ⟨⟨1000, [true, true], true⟩, { dev := { tSe {} with sec := { (tSe {}).sec with restarting := true, answers := [.l] } } }, by decide +kernel⟩⟩

theorem witness_ActivationCourse :
    (∃ (t : Time) (p : Path) (s : State), s.dev.porstLow = false ∧ secretaryRuns (tick t s.dev) = true ∧ activationRefusal (tick t s.dev) (entryAt (tick t s.dev) 0xB010 2) (bytesToNat ((dictBytes (tick t s.dev) 0xB010 1 (List.replicate 10 0)).take 6)) (bytesToNat ((dictBytes (tick t s.dev) 0xB010 1 (List.replicate 10 0)).drop 6)) = none ∧ (tick t s.dev).img.request.all (fun q => !activationReached (tick t s.dev) q) = true) ∧
    (∃ (t : Time) (p : Path) (q : ActRequest) (s : State), s.dev.porstLow = false ∧ secretaryRuns (tick t s.dev) = true ∧ activationRefusal (tick t s.dev) (entryAt (tick t s.dev) 0xB010 2) (bytesToNat ((dictBytes (tick t s.dev) 0xB010 1 (List.replicate 10 0)).take 6)) (bytesToNat ((dictBytes (tick t s.dev) 0xB010 1 (List.replicate 10 0)).drop 6)) = none ∧ (tick t s.dev).img.request = some q ∧ activationReached (tick t s.dev) q = true) ∧
    (∃ (t : Time) (p : Path) (c : Nat) (s : State), s.dev.porstLow = false ∧ secretaryRuns (tick t s.dev) = true ∧ activationRefusal (tick t s.dev) (entryAt (tick t s.dev) 0xB010 2) (bytesToNat ((dictBytes (tick t s.dev) 0xB010 1 (List.replicate 10 0)).take 6)) (bytesToNat ((dictBytes (tick t s.dev) 0xB010 1 (List.replicate 10 0)).drop 6)) = some c) ∧
    (∃ (t : Time) (p : Path) (q : ActRequest) (s : State), s.dev.porstLow = false ∧ secretaryRuns (tick t s.dev) = true ∧ (tick t s.dev).img.request = some q ∧ activationReached (tick t s.dev) q = false) ∧
    (∃ (t : Time) (p : Path) (q : ActRequest) (s : State), s.dev.porstLow = false ∧ secretaryRuns (tick t s.dev) = true ∧ (tick t s.dev).img.request = some q ∧ activationReached (tick t s.dev) q = true) ∧
    (∃ (t : Time) (p : Path) (s : State), s.dev.porstLow = false ∧ secretaryRuns (tick t s.dev) = true ∧ (tick t s.dev).img.request = none) ∧
    (∃ (t : Time) (q : ActRequest) (s : State), s.dev.porstLow = false ∧ pdOn (tick t s.dev) 3 = true ∧ (tick t s.dev).img.request = some q ∧ activationDue (tick t s.dev) q = true ∧ q.waits = false ∧ protRuns (tick t s.dev) = false) ∧
    (∃ (t : Time) (p : Path) (v : BitVec 8) (s : State), s.dev.porstLow = false ∧ secretaryRuns (tick t s.dev) = true ∧ v = 1 ∧ (tick t s.dev).img.ptr.trial = true ∧ healthy (tick t s.dev) = true) ∧
    (∃ (t : Time) (p : Path) (v : BitVec 8) (s : State), s.dev.porstLow = false ∧ (secretaryRuns (tick t s.dev) = true ∧ (v ≠ 1 ∨ (tick t s.dev).img.ptr.trial = false ∨ healthy (tick t s.dev) = false))) ∧
    (∃ (t : Time) (s : State), s.dev.porstLow = false ∧ secretaryRuns (tick t s.dev) = true ∧ (tick t s.dev).img.ptr.trial = true ∧ healthy (tick t s.dev) = true ∧ entryAt (tick t s.dev) 0xB000 5 = 0) ∧
    (∃ (t : Time) (s : State), s.dev.porstLow = false ∧ (tick t s.dev).img.ptr.trial = true ∧ (tick t s.dev).img.trialAt + 600 * Config.sec ≤ (tick t s.dev).now) :=
  ⟨⟨1000, .h, { dev := { tSe { b := { state := .staged } } with dict := [(0xB010 * 256 + 2, [1])] } }, by decide +kernel⟩,
   ⟨1000, .h, ⟨1, 0, 0, none, false⟩, { dev := { tSe { b := { state := .staged }, request := some ⟨1, 0, 0, none, false⟩ } with dict := [(0xB010 * 256 + 2, [1])] } }, by decide +kernel⟩,
   ⟨1000, .h, 5, { dev := tSe {} }, by decide +kernel⟩,
   ⟨1000, .h, ⟨1, 0, 0, some 5, false⟩, { dev := tSe { request := some ⟨1, 0, 0, some 5, false⟩ } }, by decide +kernel⟩,
   ⟨1000, .h, ⟨1, 0, 0, none, false⟩, { dev := tSe { request := some ⟨1, 0, 0, none, false⟩ } }, by decide +kernel⟩,
   ⟨1000, .h, { dev := tSe { reqState := 6 } }, by decide +kernel⟩,
   ⟨1000, ⟨1, 0, 0, some 5, false⟩, { dev := tSe { request := some ⟨1, 0, 0, some 5, false⟩, b := { state := .staged } } }, by decide +kernel⟩,
   ⟨1000, .h, 1, { dev := tSe { restored := true, savedUnder := true, ptr := { trial := true, starts := 1, previous := some 1 } } }, by decide +kernel⟩,
   ⟨1000, .h, 2, { dev := tSe {} }, by decide +kernel⟩,
   ⟨1000, { dev := tSe { restored := true, savedUnder := true, ptr := { trial := true, starts := 1, previous := some 1 } } }, by decide +kernel⟩,
   ⟨2 ^ 80, { dev := tSe { ptr := { trial := true, starts := 1, previous := some 1 } } }, by decide +kernel⟩⟩

theorem witness_PowerRequests_1 :
    (∃ (t : Time) (s : State), s.dev.porstLow = false ∧ pdOn (tick t s.dev) 46 = true ∧  (tick t s.dev).pwr.shutdown = false ∧ (tick t s.dev).pwr.change = none ∧ (tick t s.dev).pwr.wake = none ∧ pwBlocked (tick t s.dev) = false ∧ (tick t s.dev).pwr.state ≤ 1 ∧ (tick t s.dev).pwr.lifeline = true) ∧
    (∃ (t : Time) (s : State), s.dev.porstLow = false ∧ pdOn (tick t s.dev) 46 = true ∧  (tick t s.dev).pwr.shutdown = false ∧ (tick t s.dev).pwr.change = none ∧ (tick t s.dev).pwr.wake = none ∧ pwBlocked (tick t s.dev) = false ∧ (tick t s.dev).pwr.state ≤ 1 ∧ (tick t s.dev).pwr.lifeline = false ∧ fld (tick t s.dev) fPW_LL_LL_GROUP 0 < (tick t s.dev).part.groups) ∧
    (∃ (t : Time) (p : Nat) (s : State), s.dev.porstLow = false ∧ pdOn (tick t s.dev) 46 = true ∧  (tick t s.dev).pwr.shutdown = false ∧ (tick t s.dev).pwr.change = none ∧ (tick t s.dev).pwr.wake = none ∧ pwBlocked (tick t s.dev) = false ∧ (tick t s.dev).pwr.state ≤ 1 ∧ 1 ≤ p ∧ p ≤ 86400) ∧
    (∃ (t : Time) (s : State), s.dev.porstLow = false ∧ pdOn (tick t s.dev) 46 = true ∧  (tick t s.dev).pwr.shutdown = false ∧ (tick t s.dev).pwr.change = none ∧ (tick t s.dev).pwr.wake = none ∧ pwBlocked (tick t s.dev) = false ∧ (tick t s.dev).pwr.state ≤ 1 ∧ refusal { target := 4, origin := .host } (tick t s.dev) = none) ∧
    (∃ (t : Time) (s : State), s.dev.porstLow = false ∧ pdOn (tick t s.dev) 46 = true ∧  (tick t s.dev).pwr.shutdown = false ∧ (tick t s.dev).pwr.change = none ∧ (tick t s.dev).pwr.wake = none ∧ pwBlocked (tick t s.dev) = false ∧ (tick t s.dev).pwr.state ≤ 1 ∧ refusal { target := 5, origin := .host } (tick t s.dev) = none) ∧
    (∃ (t : Time) (p : Path) (s : State), s.dev.porstLow = false ∧ secretaryRuns (tick t s.dev) = true ∧ p ≠ .h ∧  (tick t s.dev).pwr.shutdown = false ∧ (tick t s.dev).pwr.change = none ∧ (tick t s.dev).pwr.wake = none ∧ pwBlocked (tick t s.dev) = false ∧ (tick t s.dev).pwr.state ≤ 1 ∧ (tick t s.dev).pwr.lifeline = true) ∧
    (∃ (t : Time) (p : Path) (s : State), s.dev.porstLow = false ∧ secretaryRuns (tick t s.dev) = true ∧ p ≠ .h ∧  (tick t s.dev).pwr.shutdown = false ∧ (tick t s.dev).pwr.change = none ∧ (tick t s.dev).pwr.wake = none ∧ pwBlocked (tick t s.dev) = false ∧ (tick t s.dev).pwr.state ≤ 1 ∧ (tick t s.dev).pwr.lifeline = false ∧ fld (tick t s.dev) fPW_LL_LL_GROUP 0 < (tick t s.dev).part.groups) ∧
    (∃ (t : Time) (p : Path) (n : Nat) (s : State), s.dev.porstLow = false ∧ secretaryRuns (tick t s.dev) = true ∧ p ≠ .h ∧  (tick t s.dev).pwr.shutdown = false ∧ (tick t s.dev).pwr.change = none ∧ (tick t s.dev).pwr.wake = none ∧ pwBlocked (tick t s.dev) = false ∧ (tick t s.dev).pwr.state ≤ 1 ∧ 1 ≤ n ∧ n ≤ 86400) ∧
    (∃ (t : Time) (p : Path) (s : State), s.dev.porstLow = false ∧ secretaryRuns (tick t s.dev) = true ∧ p ≠ .h ∧  (tick t s.dev).pwr.shutdown = false ∧ (tick t s.dev).pwr.change = none ∧ (tick t s.dev).pwr.wake = none ∧ pwBlocked (tick t s.dev) = false ∧ (tick t s.dev).pwr.state ≤ 1 ∧ refusal { target := 4, origin := .entry p } (tick t s.dev) = none) ∧
    (∃ (t : Time) (p : Path) (s : State), s.dev.porstLow = false ∧ secretaryRuns (tick t s.dev) = true ∧ p ≠ .h ∧  (tick t s.dev).pwr.shutdown = false ∧ (tick t s.dev).pwr.change = none ∧ (tick t s.dev).pwr.wake = none ∧ pwBlocked (tick t s.dev) = false ∧ (tick t s.dev).pwr.state ≤ 1 ∧ refusal { target := 5, origin := .entry p } (tick t s.dev) = none) :=
  ⟨⟨100, { dev := tPw { lifeline := true } }, by decide +kernel⟩,
   ⟨100, { dev := tPw {} }, by decide +kernel⟩,
   ⟨100, 60, { dev := tPw { state := 1 } }, by decide +kernel⟩,
   ⟨100, { dev := tPw { lossOfLine := true } }, by decide +kernel⟩,
   ⟨100, { dev := tPw { lossOfLine := true } }, by decide +kernel⟩,
   ⟨100, .l, { dev := tPw { lifeline := true } }, by decide +kernel⟩,
   ⟨100, .l, { dev := tPw {} }, by decide +kernel⟩,
   ⟨100, .s, 60, { dev := tPw { state := 1 } }, by decide +kernel⟩,
   ⟨100, .l, { dev := tPw { lossOfLine := true } }, by decide +kernel⟩,
   ⟨100, .l, { dev := tPw { lossOfLine := true } }, by decide +kernel⟩⟩

theorem witness_PowerRequests_2 :
    (∃ (t : Time) (c : Nat) (s : State), s.dev.porstLow = false ∧ pdOn (tick t s.dev) 46 = true ∧ (tick t s.dev).pwr.shutdown = false ∧ refusal { target := 2, period := 0, origin := .host } (tick t s.dev) = some c) ∧
    (∃ (t : Time) (p : Nat) (c : Nat) (s : State), s.dev.porstLow = false ∧ pdOn (tick t s.dev) 46 = true ∧ (tick t s.dev).pwr.shutdown = false ∧ refusal { target := 3, period := p, origin := .host } (tick t s.dev) = some c) ∧
    (∃ (t : Time) (c : Nat) (s : State), s.dev.porstLow = false ∧ pdOn (tick t s.dev) 46 = true ∧ (tick t s.dev).pwr.shutdown = false ∧ refusal { target := 4, period := 0, origin := .host } (tick t s.dev) = some c) ∧
    (∃ (t : Time) (c : Nat) (s : State), s.dev.porstLow = false ∧ pdOn (tick t s.dev) 46 = true ∧ (tick t s.dev).pwr.shutdown = false ∧ refusal { target := 5, period := 0, origin := .host } (tick t s.dev) = some c) ∧
    (∃ (t : Time) (s : State), s.dev.porstLow = false ∧ pdOn (tick t s.dev) 46 = true ∧ (tick t s.dev).pwr.shutdown = false ∧ (tick t s.dev).pwr.change = none ∧ (tick t s.dev).pwr.wake = none ∧ (tick t s.dev).pwr.state ≤ 1 ∧ pwBlocked (tick t s.dev) = true ∧ refusal { target := 2, origin := .host } (tick t s.dev) = none ∧ inForce (tick t s.dev) 2 = false) ∧
    (∃ (t : Time) (c : PwChange) (s : State), s.dev.porstLow = false ∧ pdOn (tick t s.dev) 46 = true ∧ (tick t s.dev).pwr.shutdown = false ∧ (tick t s.dev).pwr.change = some c ∧ c.phase = .running) :=
  ⟨⟨100, 7, { dev := setFld fPW_LL_LL_GROUP 0 15 (tPw {}) }, by decide +kernel⟩,
   ⟨100, 0, 5, { dev := tPw {} }, by decide +kernel⟩,
   ⟨100, 3, { dev := tPw {} }, by decide +kernel⟩,
   ⟨100, 3, { dev := tPw {} }, by decide +kernel⟩,
   ⟨100, { dev := { tPw {} with act := tb.act } }, by decide +kernel⟩,
   ⟨100, tCh 3 .running, { dev := tPw { change := some (tCh 3 .running) } }, by decide +kernel⟩⟩

theorem witness_PowerChangeAndRails_1 :
    (∃ (t : Time) (c : PwChange) (s : State), s.dev.porstLow = false ∧ (tick t s.dev).pwr.change = some c ∧ c.phase = .pending ∧ dueBy c.noticeDue (tick t s.dev).now = true ∧ (tick t s.dev).act.noticeLeft = false) ∧
    (∃ (t : Time) (c : PwChange) (s : State), s.dev.porstLow = false ∧ ((tick t s.dev).pwr.change = some c ∧ c.phase = .pending ∧ c.held = true ∧ pwBlocked (tick t s.dev) = false ∧ (c.req.target = 4 → (List.range 4).any (fun q => pipeRuns (tick t s.dev) q && inFlight (tick t s.dev) q) = false) ∧ (c.req.target ≤ 2 ∨ (tick t s.dev).pwr.wakeHigh = false ∧ (tick t s.dev).pwr.edge = none))) ∧
    (∃ (t : Time) (c : PwChange) (s : State), s.dev.porstLow = false ∧ ((tick t s.dev).pwr.change = some c ∧ c.phase = .pending ∧ c.held = true ∧ pwBlocked (tick t s.dev) = false ∧ (c.req.target = 4 ∨ c.req.target = 5) ∧ (c.req.target = 4 → (List.range 4).any (fun q => pipeRuns (tick t s.dev) q && inFlight (tick t s.dev) q) = false) ∧ (tick t s.dev).pwr.state ≤ 1 ∧ (tick t s.dev).pwr.wakeHigh = true)) ∧
    (∃ (t : Time) (c : PwChange) (s : State), s.dev.porstLow = false ∧ ((tick t s.dev).pwr.change = some c ∧ c.phase = .running ∧ c.retained = false ∧ (c.req.target = 1 ∨ c.req.target = 2) ∧ (tick t s.dev).pwr.next = none)) ∧
    (∃ (t : Time) (c : PwChange) (s : State), s.dev.porstLow = false ∧ (tick t s.dev).pwr.change = some c ∧ c.phase = .running ∧ c.retained = false ∧ c.req.target = 3 ∧ (tick t s.dev).pwr.wakeHigh = false ∧ (tick t s.dev).pwr.next = none) ∧
    (∃ (t : Time) (c : PwChange) (s : State), s.dev.porstLow = false ∧ (tick t s.dev).pwr.change = some c ∧ c.phase = .running ∧ c.retained = false ∧ c.req.target = 4 ∧ railMapped (tick t s.dev) 0 = true ∧ (tick t s.dev).pwr.state ≤ 1) :=
  ⟨⟨100, { tCh 4 .pending with held := false, noticeDue := some 50 }, { dev := tPw { change := some { tCh 4 .pending with held := false, noticeDue := some 50 } } }, by decide +kernel⟩,
   ⟨100, tCh 4 .pending, { dev := tPw { change := some (tCh 4 .pending) } }, by decide +kernel⟩,
   ⟨100, tCh 5 .pending, { dev := tPw { change := some (tCh 5 .pending), wakeHigh := true } }, by decide +kernel⟩,
   ⟨100, tCh 2 .running, { dev := tPw { change := some (tCh 2 .running) } }, by decide +kernel⟩,
   ⟨100, tCh 3 .running, { dev := tPw { change := some (tCh 3 .running) } }, by decide +kernel⟩,
   ⟨100, tCh 4 .running, { dev := tPw { change := some (tCh 4 .running) } }, by decide +kernel⟩⟩

theorem witness_PowerChangeAndRails_2 :
    (∃ (t : Time) (r : Fin 5) (x : Nat) (l : List Nat) (s : State), s.dev.porstLow = false ∧ (tick t s.dev).pwr.lower = r.val :: x :: l) ∧
    (∃ (t : Time) (r : Fin 5) (w : PwWake) (s : State), s.dev.porstLow = false ∧ (tick t s.dev).pwr.lower = [] ∧ (tick t s.dev).pwr.wake = some w ∧ w.raise = [r.val]) ∧
    (∃ (t : Time) (r : Fin 5) (s : State), s.dev.porstLow = false ∧ (tick t s.dev).pwr.lower.head? = some r.val ∧ (tick t s.dev).pwr.tries < 3) ∧
    (∃ (t : Time) (r : Fin 5) (x : Nat) (l : List Nat) (s : State), s.dev.porstLow = false ∧ (tick t s.dev).pwr.lower = r.val :: x :: l ∧ 3 ≤ (tick t s.dev).pwr.tries) ∧
    (∃ (t : Time) (r : Fin 5) (w : PwWake) (s : State), s.dev.porstLow = false ∧ (tick t s.dev).pwr.lower = [] ∧ (tick t s.dev).pwr.change = none ∧ (tick t s.dev).pwr.wake = some w ∧ w.raise.head? = some r.val ∧ 3 ≤ (tick t s.dev).pwr.tries) ∧
    (∃ (t : Time) (w : PwWake) (s : State), s.dev.porstLow = false ∧ (tick t s.dev).pwr.wake = some w ∧ dueBy w.oscDue (tick t s.dev).now = true ∧ (tick t s.dev).pwr.change = none) ∧
    (∃ (t : Time) (s : State), s.dev.porstLow = false ∧ (tick t s.dev).pwr.wake = none ∧ (tick t s.dev).boot.waiting = true ∧ (tick t s.dev).boot.from_ + 10 * Config.ms ≤ (tick t s.dev).now) :=
  ⟨⟨100, 2, 1, [0], { dev := tPw { lower := [2, 1, 0] } }, by decide +kernel⟩,
   ⟨100, 0, tWk, { dev := tPw { state := 3, wake := some tWk } }, by decide +kernel⟩,
   ⟨100, 2, { dev := tPw { lower := [2, 1, 0] } }, by decide +kernel⟩,
   ⟨100, 2, 1, [0], { dev := tPw { lower := [2, 1, 0], tries := 3 } }, by decide +kernel⟩,
   ⟨100, 0, tWk, { dev := tPw { state := 3, wake := some tWk, tries := 3 } }, by decide +kernel⟩,
   ⟨100, { tWk with raise := [], raised := [0], oscDue := some 50 }, { dev := tPw { state := 3, wake := some { tWk with raise := [], raised := [0], oscDue := some 50 } } }, by decide +kernel⟩,
   ⟨2 ^ 60, { dev := { tPw {} with boot := { tb.boot with waiting := true, from_ := 5 } } }, by decide +kernel⟩⟩

theorem witness_WakeSources :
    (∃ (t : Time) (r : Nat) (l : List Nat) (s : State), s.dev.porstLow = false ∧ (tick t s.dev).pwr.state = 3 ∧ (tick t s.dev).pwr.change = none ∧ (tick t s.dev).pwr.wake = none ∧ (tick t s.dev).pwr.shutdown = false ∧ (railsOff 3).filter (railMapped (tick t s.dev)) = r :: l) ∧
    (∃ (t : Time) (s : State), s.dev.porstLow = false ∧ (tick t s.dev).pwr.state = 2 ∧ (tick t s.dev).pwr.change = none ∧ (tick t s.dev).pwr.wake = none ∧ (tick t s.dev).pwr.shutdown = false) ∧
    (∃ (t : Time) (s : State), s.dev.porstLow = false ∧ True) ∧
    (∃ (x : TwoWireMatch) (r : Nat) (l : List Nat) (s : State), s.dev.porstLow = false ∧ x.address.toNat = 0x58 + Config.twAddr.toNat ∧ (tick x.t s.dev).pwr.state = 3 ∧ (tick x.t s.dev).pwr.change = none ∧ (tick x.t s.dev).pwr.wake = none ∧ (tick x.t s.dev).pwr.shutdown = false ∧ (railsOff 3).filter (railMapped (tick x.t s.dev)) = r :: l) ∧
    (∃ (x : TwoWireMatch) (s : State), s.dev.porstLow = false ∧ x.address.toNat ≠ 0x58 + Config.twAddr.toNat) ∧
    (∃ (x : TwoWireMatch) (s : State), s.dev.porstLow = false ∧ x.address.toNat = 0x58 + Config.twAddr.toNat ∧ (tick x.t s.dev).pwr.state ≤ 1 ∧ (tick x.t s.dev).pwr.change = none) ∧
    (∃ (t : Time) (r : Nat) (l : List Nat) (s : State), s.dev.porstLow = false ∧ (tick t s.dev).pwr.state = 3 ∧ (tick t s.dev).pwr.change = none ∧ (tick t s.dev).pwr.wake = none ∧ (tick t s.dev).pwr.shutdown = false ∧ (railsOff 3).filter (railMapped (tick t s.dev)) = r :: l ∧ dueBy (tick t s.dev).pwr.lineTimer (tick t s.dev).now = true) ∧
    (∃ (t : Time) (s : State), s.dev.porstLow = false ∧ fld (tick t s.dev) fPW_CFG_IDLE_EN 0 = 1 ∧ (tick t s.dev).pwr.state = 0 ∧ (tick t s.dev).pwr.change = none ∧ quiet (tick t s.dev) = true) ∧
    (∃ (t : Time) (s : State), s.dev.porstLow = false ∧ actState (tick t s.dev) = 0 ∧ anyUp (tick t s.dev) = false ∧ (tick t s.dev).pwr.lossOfLine = false ∧ engineRuns (tick t s.dev) = true ∧ fld (tick t s.dev) fPW_CFG_AUTO_DEEP 0 = 0) ∧
    (∃ (t : Time) (s : State), s.dev.porstLow = false ∧ dueBy (tick t s.dev).pwr.holdDue (tick t s.dev).now = true ∧ onBattery (tick t s.dev) = true ∧ (tick t s.dev).pwr.state ≤ 1 ∧ (tick t s.dev).pwr.change = none ∧ (tick t s.dev).pwr.lifeline = false ∧ (tick t s.dev).pwr.shutdown = false ∧ (tick t s.dev).pwr.wake = none ∧ pwBlocked (tick t s.dev) = false ∧ fld (tick t s.dev) fPW_LL_LL_GROUP 0 < (tick t s.dev).part.groups) ∧
    (∃ (t : Time) (s : State), s.dev.porstLow = false ∧ dueBy (tick t s.dev).pwr.restoreDue (tick t s.dev).now = true ∧ (tick t s.dev).act.pfailLow = false ∧ (tick t s.dev).pwr.shutdown = false ∧ (tick t s.dev).pwr.wake = none ∧ (tick t s.dev).pwr.state ≤ 1 ∧ (tick t s.dev).pwr.change = none ∧ (tick t s.dev).pwr.lifeline = true ∧ pwBlocked (tick t s.dev) = false) ∧
    (∃ (t : Time) (l : Bool) (s : State), s.dev.porstLow = false ∧ True) :=
  ⟨⟨100, 0, [1, 2], { dev := tPw { state := 3 } }, by decide +kernel⟩,
   ⟨100, { dev := tPw { state := 2 } }, by decide +kernel⟩,
   ⟨100, { dev := tPw { wakeHigh := true } }, by decide +kernel⟩,
   ⟨⟨100, BitVec.ofNat 7 (0x58 + Config.twAddr.toNat), 1⟩, 0, [1, 2], { dev := tPw { state := 3 } }, by decide +kernel, by have := Config.twAddr.isLt; simp only [BitVec.toNat_ofNat]; omega, by decide +kernel⟩,
   ⟨⟨100, 0, 1⟩, { dev := tPw {} }, by decide +kernel, fun h => by have h : 0 = 0x58 + Config.twAddr.toNat := h; omega⟩,
   ⟨⟨100, BitVec.ofNat 7 (0x58 + Config.twAddr.toNat), 1⟩, { dev := tPw {} }, by decide +kernel, by have := Config.twAddr.isLt; simp only [BitVec.toNat_ofNat]; omega, by decide +kernel⟩,
   ⟨100, 0, [1, 2], { dev := tPw { state := 3, lineTimer := some 50 } }, by decide +kernel⟩,
   ⟨100, { dev := setFld fPW_CFG_IDLE_EN 0 1 (tPw {}) }, by decide +kernel⟩,
   ⟨100, { dev := setFld fPW_CFG_AUTO_DEEP 0 0 (tPw {}) }, by decide +kernel⟩,
   ⟨100, { dev := { tPw { holdDue := some 50 } with act := { tb.act with lineRelease := true, pfailLow := true, battLow := true } } }, by decide +kernel⟩,
   ⟨100, { dev := tPw { lifeline := true, restoreDue := some 50 } }, by decide +kernel⟩,
   ⟨100, false, { dev := { tPw {} with act := { tb.act with lineRelease := true, pfailLow := true } } }, by decide +kernel⟩⟩

theorem witness_CountersPagesAndCabinet_1 :
    (∃ (k : Fin 64) (v : Word) (s : State), s.dev.porstLow = false ∧ v.toNat.testBit 44 = true) ∧
    (∃ (k : Fin 64) (v : Word) (s : State), s.dev.porstLow = false ∧ v.toNat.testBit 44 = false) ∧
    (∃ (k : Fin 64) (s : State), s.dev.porstLow = false ∧ k.val % 2 = 1 ∧ fld s.dev fSC_CFG_CHAIN k ≠ 1) :=
  ⟨⟨0, 0x100000000000, { dev := setFld fSC_CFG_CHAIN 1 1 (tCn {}) }, by decide +kernel⟩,
   ⟨0, 0x800000000005, { dev := tCn {} }, by decide +kernel⟩,
   ⟨1, { dev := tCn {} }, by decide +kernel⟩⟩

theorem witness_CountersPagesAndCabinet_2 :
    (∃ (t : Time) (ok : Bool) (i : Nat) (s : State), s.dev.porstLow = false ∧ pdOn (tick t s.dev) 46 = true ∧ i < 240 ∧ fld (tick t s.dev) fCN_MIR_EN_USER i = 1 ∧ ok = true) ∧
    (∃ (t : Time) (ok : Bool) (i : Nat) (s : State), s.dev.porstLow = false ∧ pdOn (tick t s.dev) 46 = true ∧ i < 240 ∧ fld (tick t s.dev) fCN_MIR_EN_USER i = 1 ∧ ok = false) ∧
    (∃ (t : Time) (ok : Bool) (i : Nat) (s : State), s.dev.porstLow = false ∧ pdOn (tick t s.dev) 46 = true ∧ i < 240 ∧ fld (tick t s.dev) fCN_MIR_EN_USER i = 0) ∧
    (∃ (t : Time) (ok : Bool) (s : State), s.dev.porstLow = false ∧ pdOn (tick t s.dev) 46 = false) :=
  ⟨⟨100, true, 5, { dev := setReg .cnMirEn 5 1 (tCn {}) }, by decide +kernel⟩,
   ⟨100, false, 5, { dev := setReg .cnMirEn 5 1 (tCn {}) }, by decide +kernel⟩,
   ⟨100, true, 6, { dev := setReg .cnMirEn 5 1 (tCn {}) }, by decide +kernel⟩,
   ⟨100, true, { dev := setPd 46 0 (tCn {}) }, by decide +kernel⟩⟩

theorem witness_CountersPagesAndCabinet_3 :
    (∃ (t : Time) (p : Path) (s : State), s.dev.porstLow = false ∧ secretaryRuns (tick t s.dev) = true ∧ (tick t s.dev).cab.phase = .idle ∧ fld (tick t s.dev) fCAB_TIME_SEC_SECONDS 0 = 0 ∧ fld (tick t s.dev) fCAB_TIME_NS_NS 0 = 0) ∧
    (∃ (t : Time) (p : Path) (s : State), s.dev.porstLow = false ∧ secretaryRuns (tick t s.dev) = true ∧ (tick t s.dev).cab.phase ≠ .idle) ∧
    (∃ (t : Time) (v : Word) (s : State), s.dev.porstLow = false ∧ v.toNat.testBit 0 = true ∧ (tick t s.dev).cab.phase ≠ .idle) ∧
    (∃ (t : Time) (v : Word) (s : State), s.dev.porstLow = false ∧ v.toNat.testBit 0 = true ∧ (tick t s.dev).cab.phase = .idle ∧ fld (tick t s.dev) fCAB_TIME_SEC_SECONDS 0 = 0 ∧ fld (tick t s.dev) fCAB_TIME_NS_NS 0 = 0) ∧
    (∃ (t : Time) (p : Path) (u : Word) (n : BitVec 32) (s : State), s.dev.porstLow = false ∧ secretaryRuns (tick t s.dev) = true ∧ (tick t s.dev).cab.phase = .armed u n ∧ ltNow (tick t s.dev) < ltOf u.toNat n.toNat) ∧
    (∃ (t : Time) (p : Path) (s : State), s.dev.porstLow = false ∧ (secretaryRuns (tick t s.dev) = true ∧ ((tick t s.dev).cab.phase = .idle ∨ (tick t s.dev).cab.phase = .draining))) ∧
    (∃ (t : Time) (u : Word) (n : BitVec 32) (s : State), s.dev.porstLow = false ∧ (tick t s.dev).cab.phase = .armed u n ∧ ltOf u.toNat n.toNat ≤ ltNow (tick t s.dev)) ∧
    (∃ (t : Time) (b : CabBank) (s : State), s.dev.porstLow = false ∧ (tick t s.dev).cab.phase = .draining ∧ (tick t s.dev).cab.latched = some b) ∧
    (∃ (b : CabBank) (s : State), s.dev.porstLow = false ∧ bankOf s.dev (reg s.dev .cabRdGen 0) = some b) ∧
    (∃ s : State, s.dev.porstLow = false ∧ bankOf s.dev (reg s.dev .cabRdGen 0) = none) :=
  ⟨⟨100, .h, { dev := tCn {} }, by decide +kernel⟩,
   ⟨100, .h, { dev := tCn { phase := .draining } }, by decide +kernel⟩,
   ⟨100, 1, { dev := tCn { phase := .draining } }, by decide +kernel⟩,
   ⟨100, 1, { dev := tCn {} }, by decide +kernel⟩,
   ⟨100, .h, 9, 0, { dev := tCn { phase := .armed 9 0 } }, by decide +kernel⟩,
   ⟨100, .h, { dev := tCn {} }, by decide +kernel⟩,
   ⟨100, 4, 0, { dev := tCn { phase := .armed 4 0 } }, by decide +kernel⟩,
   ⟨100, tBank, { dev := tCn { phase := .draining, latched := some tBank } }, by decide +kernel⟩,
   ⟨tBank, { dev := setReg .cabRdGen 0 1 (tCn { banks := [(1, tBank)] }) }, by decide +kernel⟩,
   ⟨{ dev := tCn {} }, by decide +kernel⟩⟩

theorem witness_ChainedPairRead :
    (∃ (k : Fin 64) (s : State), s.dev.porstLow = false ∧ k.val % 2 = 0) ∧
    (∃ (k : Fin 64) (s : State), s.dev.porstLow = false ∧ k.val % 2 = 1 ∧ fld s.dev fSC_CFG_CHAIN k = 1) ∧
    (∃ (k j : Fin 64) (s : State), s.dev.porstLow = false ∧ k.val % 2 = 0 ∧ j.val = k.val + 1 ∧ fld s.dev fSC_CFG_CHAIN j = 1) :=
  ⟨⟨0, { dev := tPair }, by decide +kernel⟩,
   ⟨1, { dev := tPair }, by decide +kernel⟩,
   ⟨0, 1, { dev := tPair }, by decide +kernel⟩⟩

theorem witness_MonitorsAndShutdown_1 :
    (∃ (t : Time) (n : Fin 16) (temp : BitVec 12) (s : State), s.dev.porstLow = false ∧ (temp.toInt < -240 ∨ 600 < temp.toInt)) ∧
    (∃ (t : Time) (n : Fin 16) (temp : BitVec 12) (s : State), s.dev.porstLow = false ∧ -240 ≤ temp.toInt ∧ temp.toInt ≤ 600 ∧ temp.toInt < (fld (tick t s.dev) fTH_CFG_TEMP_WARN 0 : Int) * 4 ∧ temp.toInt < (fld (tick t s.dev) fTH_CFG_TEMP_LIMIT 0 : Int) * 4) ∧
    (∃ (t : Time) (n : Fin 16) (temp : BitVec 12) (s : State), s.dev.porstLow = false ∧ temp.toInt ≤ 600 ∧ -240 ≤ temp.toInt ∧ (fld (tick t s.dev) fTH_CFG_TEMP_WARN 0 : Int) * 4 ≤ temp.toInt ∧ temp.toInt < (fld (tick t s.dev) fTH_CFG_TEMP_LIMIT 0 : Int) * 4 ∧ 1 ≤ (dieSensor (tick t s.dev) n).warnRun) ∧
    (∃ (t : Time) (n : Fin 16) (temp : BitVec 12) (s : State), s.dev.porstLow = false ∧ temp.toInt ≤ 600 ∧ -240 ≤ temp.toInt ∧ (fld (tick t s.dev) fTH_CFG_TEMP_LIMIT 0 : Int) * 4 ≤ temp.toInt ∧ 1 ≤ (dieSensor (tick t s.dev) n).limitRun ∧ (tick t s.dev).pwr.shutdown = false) ∧
    (∃ (t : Time) (n : Fin 5) (temp : BitVec 8) (s : State), s.dev.porstLow = false ∧ temp.toNat < fld (tick t s.dev) fTH_CFG_HBM_LIMIT 0) ∧
    (∃ (t : Time) (n : Fin 5) (temp : BitVec 8) (s : State), s.dev.porstLow = false ∧ fld (tick t s.dev) fTH_CFG_HBM_LIMIT 0 ≤ temp.toNat ∧ 1 ≤ (stackTemp (tick t s.dev) n).limitRun ∧ (tick t s.dev).pwr.shutdown = false) ∧
    (∃ (t : Time) (n : Fin 5) (s : State), s.dev.porstLow = false ∧ True) ∧
    (∃ (n : Fin 16) (s : State), s.dev.porstLow = false ∧ True) :=
  ⟨⟨100, 3, 601, { dev := tMo {} }, by decide +kernel⟩,
   ⟨100, 3, 40, { dev := tMo { die := [(3, { peak := some 50 })] } }, by decide +kernel⟩,
   ⟨100, 3, 380, { dev := setFld fTH_CFG_TEMP_WARN 0 90 (setFld fTH_CFG_TEMP_LIMIT 0 110 (tMo { die := [(3, { warnRun := 1 })] })) }, by decide +kernel⟩,
   ⟨100, 3, 500, { dev := setFld fTH_CFG_TEMP_WARN 0 90 (setFld fTH_CFG_TEMP_LIMIT 0 110 (tMo { die := [(3, { limitRun := 1 })] })) }, by decide +kernel⟩,
   ⟨100, 2, 96, { dev := setFld fTH_CFG_HBM_WARN 0 95 (setFld fTH_CFG_HBM_LIMIT 0 105 (tMo {})) }, by decide +kernel⟩,
   ⟨100, 2, 106, { dev := setFld fTH_CFG_HBM_LIMIT 0 105 (tMo { stackTemps := [(2, { limitRun := 1 })] }) }, by decide +kernel⟩,
   ⟨100, 2, { dev := tMo {} }, by decide +kernel⟩,
   ⟨3, { dev := tMo { die := [(3, { temp := 40, peak := some 50 })] } }, by decide +kernel⟩⟩

theorem witness_MonitorsAndShutdown_2 :
    (∃ (t : Time) (n : Fin 16) (s : State), s.dev.porstLow = false ∧ (tick t s.dev).pwr.shutdown = false) ∧
    (∃ (t : Time) (n : Fin 16) (s : State), s.dev.porstLow = false ∧ (tick t s.dev).pwr.shutdown = true) ∧
    (∃ (t : Time) (r : Nat) (l : List Nat) (s : State), s.dev.porstLow = false ∧ (tick t s.dev).pwr.shutdown = true ∧ (tick t s.dev).pwr.isolated = false ∧ dueBy (tick t s.dev).pwr.isolateDue (tick t s.dev).now = true ∧ [4, 3, 2, 1, 0].filter (fun r => railMapped (tick t s.dev) r && !(tick t s.dev).pwr.railsDown.contains r) = r :: l) ∧
    (∃ (t : Time) (r : Fin 8) (mv : BitVec 16) (s : State), s.dev.porstLow = false ∧ (r ≠ 0 ∧ (mv.toNat < fld (tick t s.dev) fTH_VWIN_LOW r ∨ fld (tick t s.dev) fTH_VWIN_HIGH r < mv.toNat))) ∧
    (∃ (t : Time) (r : Fin 8) (mv : BitVec 16) (s : State), s.dev.porstLow = false ∧ (r = 0 ∧ (mv.toNat + fld (tick t s.dev) fTH_VWIN_LOW 0 < (tick t s.dev).mon.avsTarget ∨ (tick t s.dev).mon.avsTarget + fld (tick t s.dev) fTH_VWIN_HIGH 0 < mv.toNat))) ∧
    (∃ (t : Time) (r : Fin 8) (mv : BitVec 16) (s : State), s.dev.porstLow = false ∧ r ≠ 0 ∧ fld (tick t s.dev) fTH_VWIN_LOW r ≤ mv.toNat ∧ mv.toNat ≤ fld (tick t s.dev) fTH_VWIN_HIGH r) ∧
    (∃ (t : Time) (v : BitVec 16) (s : State), s.dev.porstLow = false ∧ railMapped (tick t s.dev) 0 = true ∧ 3 ≤ fld (tick t s.dev) fGL_BOOT_STEP 0 ∧ (tick t s.dev).pwr.railsDown.contains 0 = false ∧ (tick t s.dev).pwr.isolated = false ∧ fld (tick t s.dev) fGL_BOOT_RAIL0_BOOT 0 = 1) ∧
    (∃ (t : Time) (v : BitVec 16) (u : Time) (s : State), s.dev.porstLow = false ∧ railMapped (tick t s.dev) 0 = true ∧ 3 ≤ fld (tick t s.dev) fGL_BOOT_STEP 0 ∧ (tick t s.dev).pwr.railsDown.contains 0 = false ∧ (tick t s.dev).pwr.isolated = false ∧ fld (tick t s.dev) fGL_BOOT_RAIL0_BOOT 0 = 0 ∧ (tick t s.dev).mon.avsAt = some u ∧ u + 10 * Config.ms ≤ (tick t s.dev).now) :=
  ⟨⟨100, 3, { dev := tMo {} }, by decide +kernel⟩,
   ⟨100, 3, { dev := { tMo {} with pwr := { shutdown := true } } }, by decide +kernel⟩,
   ⟨2 ^ 40, 0, [], { dev := { tMo {} with pwr := { shutdown := true, isolateDue := some 50 } } }, by decide +kernel⟩,
   ⟨100, 1, 711, { dev := tMo {} }, by decide +kernel⟩,
   ⟨100, 0, 841, { dev := tMo {} }, by decide +kernel⟩,
   ⟨100, 1, 712, { dev := tMo {} }, by decide +kernel⟩,
   ⟨100, 760, { dev := setFld fGL_BOOT_RAIL0_BOOT 0 1 (tMo {}) }, by decide +kernel⟩,
   ⟨2 ^ 60, 760, 5, { dev := setFld fGL_BOOT_RAIL0_BOOT 0 0 (tMo { avsAt := some 5 }) }, by decide +kernel⟩⟩

theorem witness_Sessions_1 :
    (∃ (m : WaifelMsg) (k : BitVec 256) (id : Nat) (s : State), s.dev.porstLow = false ∧ waifelRuns (tick m.t s.dev) = true ∧ m.payload.length = 16 ∧ m.session = 0 ∧ (tick m.t s.dev).img.serviceKey = some k ∧ [1, 2, 3, 4].find? (fun i => (session (tick m.t s.dev) i).isNone) = some id) ∧
    (∃ (m : WaifelMsg) (s : State), s.dev.porstLow = false ∧ (waifelRuns (tick m.t s.dev) = true ∧ m.payload.length = 16 ∧ m.session = 0 ∧ ((tick m.t s.dev).img.serviceKey = none ∨ [1, 2, 3, 4].all (fun i => (session (tick m.t s.dev) i).isSome) = true))) ∧
    (∃ (m : WaifelMsg) (x : Session) (s : State), s.dev.porstLow = false ∧ waifelRuns (tick m.t s.dev) = true ∧ session (tick m.t s.dev) m.session.toNat = some x ∧ m.payload = [] ∧ wfCheck x.key (wfBody 0x03 m.session.toNat m.seq.toNat m.ack.toNat []) = m.check.toNat ∧ x.rxSeq < m.seq.toNat) ∧
    (∃ (m : WaifelMsg) (x : Session) (s : State), s.dev.porstLow = false ∧ waifelRuns (tick m.t s.dev) = true ∧ session (tick m.t s.dev) m.session.toNat = some x ∧ m.payload = [] ∧ wfCheck x.key (wfBody 0x03 m.session.toNat m.seq.toNat m.ack.toNat []) ≠ m.check.toNat ∧ x.opened = false) :=
  ⟨⟨⟨100, 0, 1, 0, List.replicate 16 7, 0, true⟩, 5, 2, { dev := tIm (tSs true none) }, by decide +kernel⟩,
   ⟨⟨100, 0, 1, 0, List.replicate 16 7, 0, true⟩, { dev := setPd 3 1 tb }, by decide +kernel⟩,
   ⟨tMg 3 [], { rxSeq := 3, lastAt := 50 }, { dev := tIm (tSs false none) }, by decide +kernel⟩,
   ⟨tMg 4 [], { rxSeq := 3, lastAt := 50 }, { dev := tIm (tSs false none) }, by decide +kernel⟩⟩

theorem witness_Sessions_2 :
    (∃ (m : WaifelMsg) (s : State), s.dev.porstLow = false ∧ waifelRuns (tick m.t s.dev) = true ∧ (wfAccept (tick m.t s.dev).now m.session.toNat 0x30 m.seq.toNat m.ack.toNat m.payload m.check.toNat (tick m.t s.dev)).1 = true ∧ m.payload = []) ∧
    (∃ (t : Time) (i : Fin 4) (x : Session) (s : State), s.dev.porstLow = false ∧ waifelRuns (tick t s.dev) = true ∧ session (tick t s.dev) (i.val + 1) = some x ∧ x.opened = false ∧ x.lastAt + 5 * Config.sec ≤ (tick t s.dev).now) ∧
    (∃ (t : Time) (i : Fin 4) (x : Session) (s : State), s.dev.porstLow = false ∧ (session (tick t s.dev) (i.val + 1) = some x ∧ (x.opened = true ∨ (tick t s.dev).now < x.lastAt + 5 * Config.sec))) ∧
    (∃ (t : Time) (i : Fin 4) (x : Session) (s : State), s.dev.porstLow = false ∧ waifelRuns (tick t s.dev) = true ∧ session (tick t s.dev) (i.val + 1) = some x ∧ x.opened = true ∧ x.lastAt + entryAt (tick t s.dev) 0xB100 9 * Config.sec ≤ (tick t s.dev).now) ∧
    (∃ (t : Time) (i : Fin 4) (x : Session) (s : State), s.dev.porstLow = false ∧ (session (tick t s.dev) (i.val + 1) = some x ∧ (x.opened = false ∨ (tick t s.dev).now < x.lastAt + entryAt (tick t s.dev) 0xB100 9 * Config.sec))) ∧
    (∃ (t : Time) (p : Path) (k : BitVec 256) (s : State), s.dev.porstLow = false ∧ secretaryRuns (tick t s.dev) = true) ∧
    (∃ (t : Time) (bs : List Byte) (r : List Byte) (s : State), s.dev.porstLow = false ∧ waifelRuns (tick t s.dev) = true ∧ serviceAnswer (tick t s.dev) (tick t s.dev).freeCtr bs = some r) ∧
    (∃ (t : Time) (bs : List Byte) (s : State), s.dev.porstLow = false ∧ waifelRuns (tick t s.dev) = true ∧ serviceAnswer (tick t s.dev) (tick t s.dev).freeCtr bs = none) :=
  ⟨⟨tMg 0x30 [], { dev := tIm (tSs true none) }, by decide +kernel⟩,
   ⟨2 ^ 60, 0, { rxSeq := 3, lastAt := 50 }, { dev := tIm (tSs false none) }, by decide +kernel⟩,
   ⟨100, 0, { rxSeq := 3, lastAt := 50 }, { dev := tIm (tSs false none) }, by decide +kernel⟩,
   ⟨2 ^ 60, 0, { opened := true, rxSeq := 3, lastAt := 50 }, { dev := tIm (tSs true none) }, by decide +kernel⟩,
   ⟨100, 0, { opened := true, rxSeq := 3, lastAt := 50 }, { dev := tIm (tSs true none) }, by decide +kernel⟩,
   ⟨100, .l, 9, { dev := tIm (tSs true none) }, by decide +kernel⟩,
   ⟨100, tArp, (serviceAnswer (tick 100 (tIm {})) (tick 100 (tIm {})).freeCtr tArp).getD [], { dev := tIm {} }, by
  refine ⟨by decide +kernel, by decide +kernel, ?_⟩
  exact tArpAnswered _ _ (by decide +kernel)⟩,
   ⟨100, [], { dev := tIm {} }, ⟨by decide +kernel, by decide +kernel, by simp [serviceAnswer, bytesToNat]⟩⟩⟩

theorem witness_ImageStaging :
    (∃ (m : WaifelMsg) (s : State), s.dev.porstLow = false ∧ waifelRuns (tick m.t s.dev) = true ∧ (wfAccept (tick m.t s.dev).now m.session.toNat 0x20 m.seq.toNat m.ack.toNat m.payload m.check.toNat (tick m.t s.dev)).1 = true ∧ m.payload.length = 8 ∧ (m.payload.getD 0 0).toNat ≤ 1 ∧ slotRefused (tick m.t s.dev) m.session.toNat (m.payload.getD 0 0).toNat = false ∧ 4096 ≤ bytesToNat (m.payload.drop 4) ∧ bytesToNat (m.payload.drop 4) ≤ 134217728 ∧ bytesToNat (m.payload.drop 4) % 4096 = 0 ∧ m.chestOk = true) ∧
    (∃ (m : WaifelMsg) (s : State), s.dev.porstLow = false ∧ (waifelRuns (tick m.t s.dev) = true ∧ (wfAccept (tick m.t s.dev).now m.session.toNat 0x20 m.seq.toNat m.ack.toNat m.payload m.check.toNat (tick m.t s.dev)).1 = true ∧ m.payload.length = 8 ∧ (m.payload.getD 0 0).toNat ≤ 1 ∧ (slotRefused (tick m.t s.dev) m.session.toNat (m.payload.getD 0 0).toNat = true ∨ bytesToNat (m.payload.drop 4) < 4096 ∨ 134217728 < bytesToNat (m.payload.drop 4) ∨ bytesToNat (m.payload.drop 4) % 4096 ≠ 0 ∨ m.chestOk = false))) ∧
    (∃ (m : WaifelMsg) (k : Nat) (s : State), s.dev.porstLow = false ∧ waifelRuns (tick m.t s.dev) = true ∧ (wfAccept (tick m.t s.dev).now m.session.toNat 0x21 m.seq.toNat m.ack.toNat m.payload m.check.toNat (tick m.t s.dev)).1 = true ∧ m.payload.length = 1028 ∧ transferOf (tick m.t s.dev) m.session.toNat = some k ∧ (bytesToNat (m.payload.take 4)) % 1024 = 0 ∧ (bytesToNat (m.payload.take 4)) + 1024 ≤ (imgSlot (tick m.t s.dev) k).total ∧ m.chestOk = true) ∧
    (∃ (m : WaifelMsg) (s : State), s.dev.porstLow = false ∧ (waifelRuns (tick m.t s.dev) = true ∧ (wfAccept (tick m.t s.dev).now m.session.toNat 0x21 m.seq.toNat m.ack.toNat m.payload m.check.toNat (tick m.t s.dev)).1 = true ∧ 5 ≤ m.payload.length ∧ m.payload.length ≤ 1028 ∧ (transferOf (tick m.t s.dev) m.session.toNat = none ∨ m.payload.length ≠ 1028 ∨ (bytesToNat (m.payload.take 4)) % 1024 ≠ 0 ∨ m.chestOk = false))) ∧
    (∃ (m : WaifelMsg) (k : Nat) (s : State), s.dev.porstLow = false ∧ waifelRuns (tick m.t s.dev) = true ∧ (wfAccept (tick m.t s.dev).now m.session.toNat 0x22 m.seq.toNat m.ack.toNat m.payload m.check.toNat (tick m.t s.dev)).1 = true ∧ m.payload = [] ∧ transferOf (tick m.t s.dev) m.session.toNat = some k ∧ m.chestOk = true) ∧
    (∃ (m : WaifelMsg) (s : State), s.dev.porstLow = false ∧ (waifelRuns (tick m.t s.dev) = true ∧ (wfAccept (tick m.t s.dev).now m.session.toNat 0x22 m.seq.toNat m.ack.toNat m.payload m.check.toNat (tick m.t s.dev)).1 = true ∧ m.payload = [] ∧ (transferOf (tick m.t s.dev) m.session.toNat = none ∨ m.chestOk = false))) :=
  ⟨⟨tMg 0x20 [1, 0, 0, 0, 0, 0, 32, 0], { dev := tIm (tSs true none) }, by decide +kernel⟩,
   ⟨tMg 0x20 [0, 0, 0, 0, 0, 0, 32, 0], { dev := tIm (tSs true none) }, by decide +kernel⟩,
   ⟨tMg 0x21 ([0, 0, 4, 0] ++ List.replicate 1024 7), 1, { dev := tIm (tSs true (some 1)) }, ⟨by decide +kernel, by decide +kernel, tMg_taken _ _ _ { opened := true, transfer := some 1, rxSeq := 3, lastAt := 50 } _ (by decide +kernel) rfl rfl (by decide), by decide +kernel, by decide +kernel, by decide +kernel, by decide +kernel, rfl⟩⟩,
   ⟨tMg 0x21 [0, 0, 4, 0, 9], { dev := tIm (tSs true none) }, by decide +kernel⟩,
   ⟨tMg 0x22 [], 1, { dev := tIm (tSs true (some 1)) }, by decide +kernel⟩,
   ⟨tMg 0x22 [], { dev := tIm (tSs true none) }, by decide +kernel⟩⟩

theorem witness_StartsAndResets_1 :
    (∃ (t : Time) (s : State), s.dev.porstLow = false ∧ True) ∧
    (∃ s : State, s.dev.porstLow = true ∧ (tBoot false).oscRdy = false) ∧
    (∃ s : State, s.dev.porstLow = true ∧ (tBoot true).oscRdy = true ∧ (tBoot true).ptrOk = true ∧ slotPasses (tBoot true).slotsOk s.dev s.dev.img.ptr.active = true ∧ s.dev.img.ptr.trial = false) ∧
    (∃ (s : State) (b : BootInputs), s.dev.porstLow = true ∧ b.oscRdy = true ∧ b.slotsOk.all (fun x => !x) = true) ∧
    (∃ s : State, s.dev.porstLow = false) :=
  ⟨⟨500, { dev := setFld fGL_BOOT_STEP 0 6 { tb with dict := [(9, [1])] } }, by decide +kernel⟩,
   ⟨{}, by decide +kernel⟩,
   ⟨{}, by decide +kernel⟩,
   ⟨{}, { tBoot true with slotsOk := [false, false] }, by decide +kernel⟩,
   ⟨{ dev := tb }, by decide +kernel⟩⟩

theorem witness_StartsAndResets_2 :
    (∃ s : State, warmTaken s.dev = true) ∧
    (∃ s : State, s.dev.porstLow = false ∧ warmTaken s.dev = false) ∧
    (∃ s : State, s.dev.porstLow = false ∧ s.dev.boot.waiting = true ∧ (tBoot true).ptrOk = true ∧ slotPasses (tBoot true).slotsOk s.dev s.dev.img.ptr.active = true ∧ s.dev.img.ptr.trial = false) ∧
    (∃ (s : State) (w : PwWake), s.dev.porstLow = false ∧ s.dev.boot.waiting = false ∧ s.dev.pwr.wake = some w ∧ w.oscDue.isSome = true ∧ w.from_ = 3 ∧ s.dev.pwr.next = none) :=
  ⟨⟨{ dev := tb }, by decide +kernel⟩,
   ⟨{ dev := { tb with pwr := { state := 3 } } }, by decide +kernel⟩,
   ⟨{ dev := { tb with boot := { waiting := true } } }, by decide +kernel⟩,
   ⟨{ dev := { tb with pwr := { state := 3, wake := some { source := 1, from_ := 3, oscDue := some 7 } } } }, { source := 1, from_ := 3, oscDue := some 7 }, by decide +kernel⟩⟩

theorem witness_StartsAndResets_3 :
    (∃ (t : Time) (s : State), s.dev.porstLow = false ∧ fld (tick t s.dev) fGL_BOOT_STEP 0 = 5 ∧ (tick t s.dev).sec.restarting = false) ∧
    (∃ (t : Time) (s : State), s.dev.porstLow = false ∧ fld (tick t s.dev) fGL_BOOT_STEP 0 ≠ 5) ∧
    (∃ (t : Time) (s : State), s.dev.porstLow = false ∧ True) :=
  ⟨⟨2 ^ 50, { dev := setFld fGL_BOOT_STEP 0 5 tb }, by decide +kernel⟩,
   ⟨500, { dev := setFld fGL_BOOT_STEP 0 4 tb }, by decide +kernel⟩,
   ⟨500, { dev := { tb with fs := { tb.fs with selfTestOk := true, locked := true } } }, by decide +kernel⟩⟩

theorem witness_FrameOfLineAndSafety : ∃ s t : State, exec (.losLeft 5 0 .a) s = .next t := ⟨{ dev := tb }, _, rfl⟩

theorem witness_FrameOfPacketsAndTables : ∃ s t : State, exec (.quietPeriodEnd (.drop 0)) s = .next t := ⟨{ dev := tb }, _, rfl⟩

theorem witness_FrameOfTributariesTimeMemoryHost : ∃ s t : State, exec (.tributaryInputLos 0) s = .next t := ⟨{ dev := tb }, _, rfl⟩

theorem witness_FrameOfTasksPowerCountersImages : ∃ s t : State, exec (.taskSubmit ⟨5, 0, 0, 0, 0⟩) s = .next t := ⟨{ dev := tb }, _, rfl⟩

end Slice0Tests
end

section
/-!
PROOF. The accesses to the registers of BAR0 (R14, R473): a statement that registers without an effect of their own only
store is refuted by the lane test block, whose counters follow the checker at every access (R238).
-/

namespace Sys2Proof.Proofs

open Sys2Proof Sys2Proof.Machine Sys2Proof.Laws

/-! ## Counters of a lane test -/

/-- A test counter that was raised leaves every register but itself and LNT_STATUS, which shows its saturation (R238). -/
theorem fld_testAdd_ne (f g : Fld) (t n : Nat) (d : Dev) (hf : g.reg ≠ f.reg) (hs : g.reg ≠ .lntStatus)
    (ht : t < 128) (hft : t < (regPlace f.reg).2.2) (hgt : t < (regPlace g.reg).2.2) :
    fld (testAdd f t n d) g t = fld d g t := by
  simp only [testAdd]
  split
  · exact fld_setFld_ne f g t t _ d hf hft hgt
  · exact (fld_setFld_ne fLNT_STATUS_SAT g t t _ _ hs ht hgt).trans (fld_setFld_ne f g t t _ d hf hft hgt)

/-- LNT_BITS below its largest value counts every compared bit. -/
theorem fld_testAdd_bits (t n : Nat) (d : Dev) (h : fld d fLNT_BITS_BITS t + n < 2 ^ 48 - 1) :
    fld (testAdd fLNT_BITS_BITS t n d) fLNT_BITS_BITS t = fld d fLNT_BITS_BITS t + n := by
  simp only [testAdd, if_pos h]
  rw [fld_setFld_same _ _ _ _ (by decide) (by decide)]
  exact Nat.mod_eq_of_lt (h.trans (by decide))

theorem fld_testCounts_bits (t : Nat) (c : LaneCounts) (d : Dev) (ht : t < 128)
    (h : fld d fLNT_BITS_BITS t + c.bits < 2 ^ 48 - 1) :
    fld (testCounts t c d) fLNT_BITS_BITS t = fld d fLNT_BITS_BITS t + c.bits := by
  simp only [testCounts]
  rw [fld_testAdd_ne fLNT_SYMERR_SYMERR fLNT_BITS_BITS _ _ _ (by decide) (by decide) ht ht ht,
    fld_testAdd_ne fLNT_ERRORS_ERRORS fLNT_BITS_BITS _ _ _ (by decide) (by decide) ht ht ht,
    fld_testAdd_bits t c.bits d h]

/-- Finding the errors of a comparison sets no register. -/
@[simp] theorem testErrors_regs (t n m : Nat) (d : Dev) : (testErrors t n m d).2.regs = d.regs := by
  simp only [testErrors]
  split <;> rfl

/-- A locked checker's LNT_BITS takes up the bits compared since it was last brought up to now (R238). -/
theorem fld_testSync_bits (t : Nat) (d : Dev) (ht : t < 128) (hlock : fld d fLNT_STATUS_LOCK t ≠ 0)
    (h : fld d fLNT_BITS_BITS t + (laneBits d t (d.now - (serial d t).lockAt) - (serial d t).counted) < 2 ^ 48 - 1) :
    fld (testSync t d) fLNT_BITS_BITS t =
      fld d fLNT_BITS_BITS t + (laneBits d t (d.now - (serial d t).lockAt) - (serial d t).counted) := by
  have total : ∀ m n : Nat, max m n - m = n - m := by omega
  have kept : ∀ n m, fld (testErrors t n m d).2 fLNT_BITS_BITS t = fld d fLNT_BITS_BITS t :=
    fun n m => fld_of_regs (testErrors_regs t n m d) _ _
  simp only [testSync, if_neg hlock, total]
  refine (fld_testCounts_bits t _ _ ht ?_).trans ?_
  · rw [kept]; exact h
  · rw [kept]

/-! ## Accesses to the lane test block (R252) -/

/-- An accepted write in the lane test block of a present lane finds the counters brought up to now. -/
theorem barAccess_laneTest_write {x : BarAccess} {r : Reg} {i : Nat} {d : Dev} (hok : accessOk x = true)
    (hw : x.write = true) (hr : regAt x.offset = some (r, i)) (hp : regPresent d r i = true)
    (hu : x.offset / 0x100000 = 6) : barAccess x d = writeAt r i x.value (testSync i d) := by
  have hcore : coreClocked 6 = false := by decide
  simp [barAccess, goodAccess, hok, hw, hr, hp, hu, hcore]

/-- A write stores nothing in a register whose fields are all read-only (R14). -/
theorem storeWrite_of_readOnly {r : Reg} (h : ∀ f ∈ regFields r, f.acc = .ro) (i : Nat) (w : Word) (d : Dev) :
    storeWrite r i w d = d := by
  simp only [storeWrite]
  refine List.foldlRecOn (motive := fun b => b = d) _ _ rfl fun b hb f hf => ?_
  simp only [storeField, h f hf]
  exact hb

theorem storeWrite_lntBits (i : Nat) (w : Word) (d : Dev) : storeWrite .lntBits i w d = d :=
  storeWrite_of_readOnly (by decide) i w d

/-! ## The counterexample -/

/-- Port 0's lane in Test, its checker on and locked since instant 0, and no bit counted yet. -/
def lockedChecker : Dev :=
  setFld fLNT_STATUS_LOCK 0 1 (setFld fLNT_CTRL_CHK_EN 0 1
    { State.reset.dev with porstLow := false, lanes := [(0, { st := 7 })] })

/-- A write of zero to LNT_BITS of port 0's lane, a read-only register, 100 units of time later. -/
def writeBitCounter : BarAccess := ⟨100, true, regOffset .lntBits 0, 8, 0⟩

/-- The write reaches LNT_BITS of lane 0, which is present, and finds a locked checker, no bit counted and 25 bits to
count. -/
theorem lockedChecker_facts :
    regAt writeBitCounter.offset = some (.lntBits, 0) ∧ regPresent (tick 100 lockedChecker) .lntBits 0 = true ∧
      fld (tick 100 lockedChecker) fLNT_STATUS_LOCK 0 = 1 ∧ fld (tick 100 lockedChecker) fLNT_BITS_BITS 0 = 0 ∧
      laneBits (tick 100 lockedChecker) 0 ((tick 100 lockedChecker).now - (serial (tick 100 lockedChecker) 0).lockAt) -
        (serial (tick 100 lockedChecker) 0).counted = 25 := by decide +kernel

/-- After the write LNT_BITS shows the 25 bits compared meanwhile. -/
theorem fld_writeBitCounter_bits :
    fld (fsDrive (hostAccess (.bar0 writeBitCounter)) (tick 100 lockedChecker)) fLNT_BITS_BITS 0 = 25 := by
  obtain ⟨hr, hp, hlock, hbits, hnew⟩ := lockedChecker_facts
  have access : barAccess writeBitCounter (tick 100 lockedChecker) = testSync 0 (tick 100 lockedChecker) :=
    (barAccess_laneTest_write (by decide) rfl hr hp (by decide)).trans (storeWrite_lntBits 0 _ _)
  rw [fld_fsDrive, hostAccess, access, fld_testSync_bits 0 _ (by decide) (by omega) (by omega), hbits, hnew]

/-- Refutes O39: an access to the lane test block first brings the counters of a locked checker up to now, as R238 has them
count; so a write to the read-only LNT_BITS, which stores nothing, still finds the register 25 higher than before. -/
theorem not_registerAccess : ¬ Obligations.RegisterAccess := by
  rintro ⟨writeStores, -⟩
  obtain ⟨hr, hp, -, hbits, -⟩ := lockedChecker_facts
  obtain ⟨d, hexec, hregs, -⟩ := writeStores writeBitCounter .lntBits 0 { dev := lockedChecker } rfl
    ⟨by decide, rfl, hr, hp, by decide⟩
  have reached : d = fsDrive (hostAccess (.bar0 writeBitCounter)) (tick 100 lockedChecker) := by
    rw [exec_registerWrite, at_eq _ _ _ rfl] at hexec
    injection hexec with hstate
    exact (congrArg State.dev hstate).symm
  have unchanged : fld d fLNT_BITS_BITS 0 = 0 := by
    rw [storeWrite_lntBits] at hregs
    exact (fld_of_regs hregs _ _).trans hbits
  rw [reached, fld_writeBitCounter_bits] at unchanged
  exact absurd unchanged (by decide)

end Sys2Proof.Proofs
end

section
/-!
PROOF. Restarts of the Secretary and of the clusters (R33, R528, R538, R545, R620): what the end of a cluster's tasks leaves
of the restart and of the other clusters, what a restart sets, and what is told at its end.
-/

namespace Sys2Proof.Proofs

open Sys2Proof Sys2Proof.Machine Sys2Proof.Laws

/-! ## Counters apart -/

/-- The keys of counters of two names are apart, whatever their scopes of 16 bits. -/
theorem ckey_ne_of_index_ne {c c' : CName} {k k' : Nat} (h : cnameIndex c' ≠ cnameIndex c) (hk : k < 65536)
    (hk' : k' < 65536) : ckey c' k' ≠ ckey c k := by
  simp only [ckey]
  omega

/-! ## What the work of tasks leaves (R534 to R538) -/

/-- The pieces that the start and the end of tasks may touch. -/
def taskPieces : List Piece := [.freeCtr, .sec, .cnt, .regs, .host, .emitted]

/-- The registers that the start and the end of tasks may touch. -/
def taskRegs : List Reg := [.bnEvent, .cnWrap, .cnEvent, .scCfg]

/-- The restart as the Secretary's state holds it: under way or not, the paths it answers, its cause (R545). -/
def restartCourse (x : SecSt) : Bool × List Path × Nat := (x.restarting, x.answers, x.cause)

/-- From device a to device b only what tasks touch may differ, and the restart and the count of the Secretary's restarts are
the same. -/
structure KeepsCourse (a b : Dev) : Prop where
  frame : Frame taskPieces taskRegs a b
  course : restartCourse b.sec = restartCourse a.sec
  restarts : ∀ k < 65536, counter b .secretaryRestarts k = counter a .secretaryRestarts k

/-- The clusters and the counts of their restarts are the same, too. -/
structure KeepsClusters (a b : Dev) : Prop extends KeepsCourse a b where
  clusters : b.sec.clusters = a.sec.clusters
  clusterRestarts : ∀ k < 65536, counter b .clusterRestarts k = counter a .clusterRestarts k

theorem KeepsCourse.refl {d : Dev} : KeepsCourse d d := ⟨Frame_refl _ _ _, rfl, fun _ _ => rfl⟩

theorem KeepsCourse.trans {a b c : Dev} (h : KeepsCourse a b) (k : KeepsCourse b c) : KeepsCourse a c :=
  ⟨Frame_step h.frame k.frame, k.course.trans h.course, fun n hn => (k.restarts n hn).trans (h.restarts n hn)⟩

theorem KeepsClusters.refl {d : Dev} : KeepsClusters d d := ⟨.refl, rfl, fun _ _ => rfl⟩

theorem KeepsClusters.trans {a b c : Dev} (h : KeepsClusters a b) (k : KeepsClusters b c) : KeepsClusters a c :=
  ⟨h.toKeepsCourse.trans k.toKeepsCourse, k.clusters.trans h.clusters,
    fun n hn => (k.clusterRestarts n hn).trans (h.clusterRestarts n hn)⟩

/-- A last step joined to those before it, found from the device that it leads to. -/
theorem KeepsClusters.after {a b c : Dev} (k : KeepsClusters b c) (h : KeepsClusters a b) : KeepsClusters a c := h.trans k

theorem KeepsClusters.ite {a b c : Dev} {p : Prop} [Decidable p] (h : KeepsClusters a b) (k : KeepsClusters a c) :
    KeepsClusters a (if p then b else c) := by
  split
  · exact h
  · exact k

theorem KeepsClusters.foldl {β : Type} {f : Dev → β → Dev} (h : ∀ d x, KeepsClusters d (f d x)) :
    ∀ (l : List β) (d : Dev), KeepsClusters d (l.foldl f d)
  | [], _ => .refl
  | x :: l, d => (h d x).trans (KeepsClusters.foldl h l (f d x))

/-- A step within a frame that leaves the Secretary's state and the counters alone. -/
theorem KeepsClusters.of_frame {a b : Dev} (h : Frame taskPieces taskRegs a b) (hs : b.sec = a.sec) (hc : b.cnt = a.cnt) :
    KeepsClusters a b :=
  ⟨⟨h, by rw [hs], fun _ _ => counter_of_cnt hc _ _⟩, by rw [hs], fun _ _ => counter_of_cnt hc _ _⟩

theorem frame_sec {d : Dev} {x : SecSt} : Frame taskPieces taskRegs d { d with sec := x } := by
  refine ⟨fun p hp => ?_, KeepRegs_of_eq rfl⟩
  cases p with
  | sec => exact absurd (by decide) hp
  | _ => rfl

theorem frame_host {d : Dev} {x : HostSt} : Frame taskPieces taskRegs d { d with host := x } := by
  refine ⟨fun p hp => ?_, KeepRegs_of_eq rfl⟩
  cases p with
  | host => exact absurd (by decide) hp
  | _ => rfl

theorem frame_nextFree {d : Dev} : Frame taskPieces taskRegs d (nextFree d).2 := by
  refine ⟨fun p hp => ?_, KeepRegs_of_eq rfl⟩
  cases p with
  | freeCtr => exact absurd (by decide) hp
  | _ => rfl

/-- A change of the Secretary's state alone, past the restart and the clusters. -/
theorem keepsClusters_sec {d : Dev} {x : SecSt} (hr : restartCourse x = restartCourse d.sec)
    (hc : x.clusters = d.sec.clusters) : KeepsClusters d { d with sec := x } :=
  ⟨⟨frame_sec, hr, fun _ _ => rfl⟩, hc, fun _ _ => rfl⟩

/-- A change of the host's side alone. -/
theorem keepsClusters_host {d : Dev} {x : HostSt} : KeepsClusters d { d with host := x } :=
  .of_frame frame_host rfl rfl

theorem keepsClusters_nextFree {d : Dev} : KeepsClusters d (nextFree d).2 :=
  .of_frame frame_nextFree rfl rfl

theorem keepsClusters_emit {e : Emission} {d : Dev} : KeepsClusters d (emit e d) :=
  .of_frame (Frame_mono (frame_emit e d) (by decide) (by decide)) rfl rfl

theorem keepsClusters_signal {v : Nat} {d : Dev} : KeepsClusters d (signal v d) :=
  .of_frame (Frame_mono (frame_signal v d) (by decide) (by decide)) (signal_sec v d) (signal_cnt v d)

theorem keepsClusters_raise {f : Fld} {i : Nat} {d : Dev} (hf : f.reg = .bnEvent) (hi : i < (regPlace f.reg).2.2) :
    KeepsClusters d (raise f i d) :=
  .of_frame (Frame_mono (frame_raise f i d hi) (by decide) (by simp [hf, taskRegs])) (raise_sec f i d) (raise_cnt f i d)

/-- A counted event of another name than a restart's. -/
theorem keepsClusters_count {c : CName} {k : Nat} {d : Dev} (hs : cnameIndex .secretaryRestarts ≠ cnameIndex c)
    (hc : cnameIndex .clusterRestarts ≠ cnameIndex c) (hk : k < 65536) : KeepsClusters d (count c k d) where
  frame := Frame_mono (frame_count c k d) (by decide) (by decide)
  course := by rw [count_sec]
  restarts n hn := counter_count_ne _ _ _ _ _ (ckey_ne_of_index_ne hs hk hn)
  clusters := by rw [count_sec]
  clusterRestarts n hn := counter_count_ne _ _ _ _ _ (ckey_ne_of_index_ne hc hk hn)

theorem keepsClusters_levelCheck {n : Nat} {d : Dev} : KeepsClusters d (levelCheck n d) := by
  simp only [levelCheck]
  exact .ite .refl (.ite keepsClusters_host (.ite (.ite keepsClusters_host (keepsClusters_signal.after keepsClusters_host)) .refl))

/-- An item for a drawer, entered or dropped (R483, R487). -/
theorem keepsClusters_post {n : Nat} {item : List Word} {d : Dev} (hn : n < 65536) : KeepsClusters d (post n item d) := by
  simp only [post]
  exact .ite (keepsClusters_count (by decide) (by decide) hn)
    (keepsClusters_levelCheck.after (.after (keepsClusters_count (by decide) (by decide) hn) keepsClusters_host))

/-! ### Completions (R536, R543) -/

theorem keepsClusters_benchVectors {d : Dev} : KeepsClusters d (benchVectors d) := by
  simp only [benchVectors]
  exact .after (.foldl (fun _ _ => keepsClusters_signal) _ _) (keepsClusters_sec rfl rfl)

theorem keepsClusters_writeBack {n : Nat} {d : Dev} : KeepsClusters d (writeBack n d) := by
  have shown : KeepsClusters d
      (if reg (modRing n (fun r => { r with wbCount := 0, wbSince := none }) d) (ringWbReg n).1 (ringWbReg n).2 = 0
        then modRing n (fun r => { r with wbCount := 0, wbSince := none }) d
        else emit (.ringIndex n (ring d n).devIx) (modRing n (fun r => { r with wbCount := 0, wbSince := none }) d)) :=
    .ite keepsClusters_host (keepsClusters_emit.after keepsClusters_host)
  simp only [writeBack]
  split
  · exact keepsClusters_signal.after shown
  · exact .ite (keepsClusters_benchVectors.after shown) shown

theorem keepsClusters_readLine {n : Nat} {d : Dev} : KeepsClusters d (readLine n d) := by
  simp only [readLine]
  exact .ite keepsClusters_host .refl

theorem keepsClusters_modRing {n : Nat} {f : RingIx → RingIx} {d : Dev} : KeepsClusters d (modRing n f d) :=
  keepsClusters_host

theorem keepsClusters_ringStep {n : Nat} {d : Dev} : KeepsClusters d (ringStep n d) := by
  have moved := fun f => (keepsClusters_readLine (n := n) (d := d)).trans (keepsClusters_modRing (n := n) (f := f))
  simp only [ringStep]
  exact .ite (keepsClusters_writeBack.after (moved _)) (moved _)

theorem keepsClusters_benchFlush_loop : ∀ {n : Nat} {d : Dev}, KeepsClusters d (benchFlush.loop n d)
  | 0, _ => .refl
  | n + 1, d => by
    simp only [benchFlush.loop]
    split
    · exact .refl
    · split
      · exact keepsClusters_benchFlush_loop.after (keepsClusters_ringStep.after
          (keepsClusters_emit.after (keepsClusters_sec rfl rfl)))
      · exact .refl

theorem keepsClusters_postCompletion {status core h vec : Nat} {result : Word} {tag : BitVec 32} {d : Dev} :
    KeepsClusters d (postCompletion status core h vec result tag d) := by
  simp only [postCompletion, benchFlush]
  exact keepsClusters_benchFlush_loop.after (keepsClusters_sec rfl rfl)

/-! ### Ends of tasks (R534 to R536) -/

theorem keepsClusters_setTask {h : Nat} {x : Task} {d : Dev} : KeepsClusters d (setTask h x d) := keepsClusters_sec rfl rfl

theorem keepsClusters_makeReady {h : Nat} {x : Task} {d : Dev} : KeepsClusters d (makeReady h x d) :=
  keepsClusters_sec rfl rfl

theorem keepsClusters_decrement {h : Nat} {d : Dev} : KeepsClusters d (decrement h d).2 := by
  simp only [decrement]
  split
  · exact (keepsClusters_count (by decide) (by decide) (by decide)).trans (keepsClusters_raise rfl (by decide))
  · split
    · exact keepsClusters_count (by decide) (by decide) (by decide)
    · split
      · exact keepsClusters_setTask
      · exact keepsClusters_makeReady

theorem keepsClusters_onSuccessor {goOn : Bool} {h : Nat} {d : Dev} : KeepsClusters d (onSuccessor goOn h d).2 := by
  simp only [onSuccessor]
  split
  · exact keepsClusters_decrement
  · split <;> exact .refl

/-- The successors of a task that ended, one after the other, with the ends that follow. -/
theorem keepsClusters_successors {goOn : Bool} : ∀ (l : List Nat) (a : List TaskEnd × Dev), KeepsClusters a.2
    (l.foldl (fun (a : List TaskEnd × Dev) h => (a.1 ++ (onSuccessor goOn h a.2).1, (onSuccessor goOn h a.2).2)) a).2
  | [], _ => .refl
  | h :: l, a => (keepsClusters_onSuccessor (goOn := goOn) (h := h)).trans
      (keepsClusters_successors l (a.1 ++ (onSuccessor goOn h a.2).1, (onSuccessor goOn h a.2).2))

theorem keepsClusters_endTask {e : TaskEnd} {d : Dev} : KeepsClusters d (endTask e d).2 := by
  simp only [endTask]
  split
  · exact .refl
  · refine .after (keepsClusters_post (by decide)) (.after (.ite .refl keepsClusters_postCompletion) ?_)
    refine .after (.ite (keepsClusters_count (by decide) (by decide) (by decide)) .refl) ?_
    exact .after (keepsClusters_sec rfl rfl) (keepsClusters_successors _ ([], d))

theorem keepsClusters_endTasks : ∀ {n : Nat} {l : List TaskEnd} {d : Dev}, KeepsClusters d (endTasks n l d)
  | 0, _, _ => .refl
  | _ + 1, [], _ => .refl
  | _ + 1, _ :: _, _ => keepsClusters_endTask.trans keepsClusters_endTasks

theorem keepsClusters_firmwareReady {h : Nat} {item : List Word} {d : Dev} : KeepsClusters d (firmwareReady h item d) :=
  keepsClusters_nextFree.trans (keepsClusters_nextFree.trans keepsClusters_makeReady)

/-- The Running tasks of a cluster end, or become Ready again, and no cluster changes by it (R538). -/
theorem keepsClusters_dropRunning {c : Nat} {d : Dev} : KeepsClusters d (dropRunning c d) := by
  simp only [dropRunning]
  refine .foldl (fun d k => ?_) _ _
  split
  · exact .refl
  · have idle : KeepsClusters d (modCore k (fun x => { x with busy := none }) d) := keepsClusters_sec rfl rfl
    split
    · exact idle
    · exact idle.trans (.ite (keepsClusters_endTasks.trans keepsClusters_firmwareReady)
        (.ite keepsClusters_endTasks keepsClusters_makeReady))

/-! ## Clusters held in reset (R528, R530, R545) -/

@[simp] theorem cluster_modCluster_same (c : Nat) (f : Cluster → Cluster) (d : Dev) :
    cluster (modCluster c f d) c = f (cluster d c) := by
  simp only [cluster, modCluster, agetD_aputD_same]

theorem cluster_modCluster_ne {c k : Nat} (f : Cluster → Cluster) (d : Dev) (h : k ≠ c) :
    cluster (modCluster c f d) k = cluster d k := by
  simp only [cluster, modCluster]
  exact agetD_aputD_ne _ _ _ _ h

theorem cluster_of_clusters {a b : Dev} (h : b.sec.clusters = a.sec.clusters) (c : Nat) : cluster b c = cluster a c := by
  simp only [cluster, h]

/-- The power domains below 48 stand in PW_DOM (R571). -/
theorem pdOn_of_pwDom {a b : Dev} (h : ∀ i < 3, reg b .pwDom i = reg a .pwDom i) {n : Nat} (hn : n < 48) :
    pdOn b n = pdOn a n := by
  simp only [pdOn, pdState, if_pos hn, h (n / 16) (by omega)]

/-- Power domains read the same where only what tasks touch has changed. -/
theorem KeepsCourse.pdOn {a b : Dev} (h : KeepsCourse a b) {n : Nat} (hn : n < 48) : pdOn b n = pdOn a n :=
  pdOn_of_pwDom (fun _ hi => Frame_reg h.frame (by decide) hi) hn

theorem KeepsCourse.img {a b : Dev} (h : KeepsCourse a b) : b.img = a.img := h.frame.1 .img (by decide)

/-- A change of the clusters alone. -/
theorem keepsCourse_modCluster {c : Nat} {f : Cluster → Cluster} {d : Dev} : KeepsCourse d (modCluster c f d) :=
  ⟨frame_sec, rfl, fun _ _ => rfl⟩

theorem keepsClusters_logEvent {kind : LogKind} {v : Nat} {d : Dev} : KeepsClusters d (logEvent kind v d) := by
  simp only [logEvent]
  exact keepsClusters_sec rfl rfl

/-- The restart of one cluster is no restart of the Secretary. -/
theorem keepsCourse_count_clusterRestarts {c : Nat} {d : Dev} (hc : c < 65536) :
    KeepsCourse d (count .clusterRestarts c d) where
  frame := Frame_mono (frame_count _ c d) (by decide) (by decide)
  course := by rw [count_sec]
  restarts n hn := counter_count_ne _ _ _ _ _ (ckey_ne_of_index_ne (by decide) hc hn)

/-- State of a held cluster: to be loaded where its domain runs, else off (R529, R530). -/
def heldState (d : Dev) (c : Nat) : ClusterState := if pdOn d (4 + c) then .loading else .off

/-- From device a to device b cluster c is held in reset, and the other clusters and the restart are the same. -/
structure HoldsCluster (c : Nat) (a b : Dev) : Prop extends KeepsCourse a b where
  held : (cluster b c).state = heldState a c
  others : ∀ k, k ≠ c → cluster b k = cluster a k

theorem holdCluster_holds {c : Nat} {d : Dev} (hc : c < 4) : HoldsCluster c d (holdCluster c d) := by
  have drop : KeepsClusters d (dropRunning c d) := keepsClusters_dropRunning
  have hold : KeepsCourse (dropRunning c d) (holdCluster c d) := by
    simp only [holdCluster]
    exact keepsCourse_modCluster
  refine ⟨drop.toKeepsCourse.trans hold, ?_, fun k hk => ?_⟩
  · simp only [holdCluster, cluster_modCluster_same, heldState, drop.pdOn (show 4 + c < 48 by omega)]
  · exact (cluster_modCluster_ne _ _ hk).trans (cluster_of_clusters drop.clusters k)

/-- A cluster that restarts is held, and its restart is logged. -/
theorem restartCluster_holds {c cause : Nat} {d : Dev} (hc : c < 4) : HoldsCluster c d (restartCluster c cause d) := by
  obtain ⟨hold, held, others⟩ := holdCluster_holds (c := c) (d := d) hc
  have logged : KeepsClusters (count .clusterRestarts c (holdCluster c d)) (restartCluster c cause d) := by
    rw [restartCluster]
    exact keepsClusters_logEvent
  have same : ∀ k, cluster (restartCluster c cause d) k = cluster (holdCluster c d) k :=
    cluster_of_clusters (logged.clusters.trans (congrArg SecSt.clusters (count_sec _ c _)))
  refine ⟨hold.trans ((keepsCourse_count_clusterRestarts (by omega)).trans logged.toKeepsCourse), ?_,
    fun k hk => (same k).trans (others k hk)⟩
  rw [same, held]

/-- The restart of a cluster is counted once (R545). -/
theorem counter_restartCluster {c cause : Nat} {d : Dev} (hc : c < 4) :
    counter (restartCluster c cause d) .clusterRestarts c = counter d .clusterRestarts c + 1 := by
  have cnt : (holdCluster c d).cnt = (dropRunning c d).cnt := by simp only [holdCluster, modCluster]
  have hold : counter (holdCluster c d) .clusterRestarts c = counter d .clusterRestarts c :=
    (counter_of_cnt cnt _ _).trans (keepsClusters_dropRunning.clusterRestarts c (by omega))
  rw [restartCluster, keepsClusters_logEvent.clusterRestarts c (by omega), counter_count_same, hold]

/-- What a restart of the Secretary does to one cluster: those that ran restart, the others are held (R528). -/
def holdOrRestart (d : Dev) (c : Nat) : Dev := if clusterUp d c then restartCluster c 4 d else holdCluster c d

theorem holdOrRestart_holds {c : Nat} {d : Dev} (hc : c < 4) : HoldsCluster c d (holdOrRestart d c) := by
  simp only [holdOrRestart]
  split
  · exact restartCluster_holds hc
  · exact holdCluster_holds hc

/-- From device a to device b the first n clusters are held, and the restart is the same. -/
structure HoldsClusters (n : Nat) (a b : Dev) : Prop extends KeepsCourse a b where
  held : ∀ c < n, (cluster b c).state = heldState a c

/-- The clusters held one after the other. -/
theorem holdsClusters_foldl {d : Dev} : ∀ n ≤ 4, HoldsClusters n d ((List.range n).foldl holdOrRestart d)
  | 0, _ => ⟨.refl, fun _ h => absurd h (by omega)⟩
  | n + 1, hn => by
    obtain ⟨before, held⟩ := holdsClusters_foldl (d := d) n (by omega)
    rw [List.range_succ, List.foldl_append, List.foldl_cons, List.foldl_nil]
    obtain ⟨next, last, others⟩ := holdOrRestart_holds (c := n) (d := (List.range n).foldl holdOrRestart d) (by omega)
    refine ⟨before.trans next, fun c hc => ?_⟩
    by_cases h : c = n
    · subst h
      simp only [last, heldState, before.pdOn (show 4 + c < 48 by omega)]
    · rw [others c h, held c (by omega)]

/-! ## The Secretary's restart (R33, R528, R545) -/

/-- From device a to device d the Secretary has been put into its restart with a cause, counted, the clusters are held, and the
image and the answers that wait for the restart are the same. -/
structure Restarted (cause : Nat) (a d : Dev) : Prop where
  restarting : d.sec.restarting = true
  cause_eq : d.sec.cause = cause
  answers : d.sec.answers = a.sec.answers
  counted : counter d .secretaryRestarts cause = counter a .secretaryRestarts cause + 1
  held : (List.range 4).all (fun c => (cluster d c).state == if pdOn a (4 + c) then .loading else .off) = true
  img : d.img = a.img

/-- The transactions of a path that ends change the dictionary alone (R521). -/
theorem restartPath_pieces (p : Path) (d : Dev) :
    (restartPath p d).sec = d.sec ∧ (restartPath p d).cnt = d.cnt ∧ (restartPath p d).img = d.img := by
  simp only [restartPath]
  split
  · exact ⟨rfl, rfl, rfl⟩
  all_goals cases p <;> exact ⟨rfl, rfl, rfl⟩

/-- The transactions of all paths that end. -/
theorem restartPaths_pieces : ∀ (ps : List Path) (d : Dev),
    (ps.foldl (fun d p => restartPath p d) d).sec = d.sec ∧ (ps.foldl (fun d p => restartPath p d) d).cnt = d.cnt ∧
      (ps.foldl (fun d p => restartPath p d) d).img = d.img
  | [], _ => ⟨rfl, rfl, rfl⟩
  | p :: ps, d => by
    obtain ⟨hs, hc, hi⟩ := restartPaths_pieces ps (restartPath p d)
    obtain ⟨ks, kc, ki⟩ := restartPath_pieces p d
    exact ⟨hs.trans ks, hc.trans kc, hi.trans ki⟩

/-- The Secretary's own part of its restart: counted, logged, and under way with its cause. -/
def restartBegun (cause : Nat) (d : Dev) : Dev :=
  let d := logEvent .secretaryRestart cause (count .secretaryRestarts cause d)
  { d with sec := { d.sec with restarting := true, cause := cause } }

theorem restartCore_eq (cause : Nat) (d : Dev) : restartCore cause d =
    [Path.h, Path.l, Path.s].foldl (fun d p => restartPath p d) ((List.range 4).foldl holdOrRestart (restartBegun cause d)) :=
  rfl

theorem restartBegun_course (cause : Nat) (d : Dev) :
    restartCourse (restartBegun cause d).sec = (true, d.sec.answers, cause) := by
  simp only [restartBegun, logEvent, restartCourse, count_sec]

theorem restartBegun_img (cause : Nat) (d : Dev) : (restartBegun cause d).img = d.img := by
  simp only [restartBegun, logEvent, count_img]

theorem counter_restartBegun (cause : Nat) (d : Dev) :
    counter (restartBegun cause d) .secretaryRestarts cause = counter d .secretaryRestarts cause + 1 := by
  have cnt : (restartBegun cause d).cnt = (count .secretaryRestarts cause d).cnt := by simp only [restartBegun, logEvent]
  rw [counter_of_cnt cnt, counter_count_same]

theorem pdOn_restartBegun (cause : Nat) (d : Dev) {n : Nat} (hn : n < 48) : pdOn (restartBegun cause d) n = pdOn d n := by
  have regs : (restartBegun cause d).regs = (count .secretaryRestarts cause d).regs := by simp only [restartBegun, logEvent]
  exact pdOn_of_pwDom (fun i hi => (reg_of_regs regs .pwDom i).trans (reg_count _ cause d (by decide) hi)) hn

/-- A restart of the Secretary is under way, counted, with every cluster held until it is loaded (R33, R528). -/
theorem restartCore_restarted {cause : Nat} (hc : cause < 65536) (d : Dev) : Restarted cause d (restartCore cause d) := by
  obtain ⟨keep, held⟩ := holdsClusters_foldl (d := restartBegun cause d) 4 le_rfl
  have begun := keep.course.trans (restartBegun_course cause d)
  obtain ⟨hs, hcnt, hi⟩ := restartPaths_pieces [.h, .l, .s] ((List.range 4).foldl holdOrRestart (restartBegun cause d))
  rw [← restartCore_eq] at hs hcnt hi
  simp only [restartCourse, ← hs, Prod.mk.injEq] at begun
  obtain ⟨hr, ha, hcause⟩ := begun
  refine ⟨hr, hcause, ha, ?_, ?_, hi.trans (keep.img.trans (restartBegun_img cause d))⟩
  · rw [counter_of_cnt hcnt, keep.restarts cause hc, counter_restartBegun]
  · simp only [List.all_eq_true, List.mem_range, beq_iff_eq]
    intro c h
    rw [cluster_of_clusters (congrArg SecSt.clusters hs), held c h, heldState, pdOn_restartBegun cause d (by omega)]

/-- Driving the kill outputs is no part of a restart. -/
theorem Restarted.fsDrive {cause : Nat} {a d : Dev} {f : Dev → Dev} (h : Restarted cause a (f d)) :
    Restarted cause a (fsDrive f d) := by
  obtain ⟨hr, hc, ha, hn, hh, hi⟩ := h
  have same : ∀ c, cluster (Machine.fsDrive f d) c = cluster (f d) c :=
    cluster_of_clusters (congrArg SecSt.clusters (fsDrive_sec f d))
  refine ⟨?_, ?_, ?_, ?_, ?_, ?_⟩
  all_goals simpa only [fsDrive_sec, counter_fsDrive, fsDrive_img, same]

/-- Without a trial a restart is a restart alone (R620). -/
theorem secretaryRestart_restarted {cause : Nat} (hc : cause < 65536) {d : Dev} (hp : pdOn d 3 = true)
    (ht : d.img.ptr.trial = false) : Restarted cause d (secretaryRestart cause d) := by
  have h := restartCore_restarted hc d
  simpa only [secretaryRestart, hp, if_true, trialStart, h.img, ht, Bool.false_eq_true, if_false] using h

/-- Under a trial whose starts are fewer than two, a restart also counts the start in the slot pointer (R620). -/
theorem secretaryRestart_inTrial {cause : Nat} {d : Dev} (hp : pdOn d 3 = true) (ht : d.img.ptr.trial = true)
    (hs : d.img.ptr.starts < 2) (h : Restarted cause d (restartCore cause d)) : secretaryRestart cause d =
      writePtr d.img.ptr.active d.img.ptr.previous true (d.img.ptr.starts + 1) (restartCore cause d) := by
  simp only [secretaryRestart, hp, if_true, trialStart, h.img, ht]
  exact if_neg (by omega)

/-! ## Commands of the dictionary (R497) -/

/-- A Secretary that runs carries out a command of path L or S and answers it with its code. -/
theorem commandOn_of_runs {p : Path} {hMay : Bool} {f : Dev → Nat × Dev} {d : Dev} (h : secretaryRuns d = true)
    (hp : p ≠ .h) : commandOn p hMay f d = emit (.result p (f d).1) (f d).2 := by
  simp only [secretaryRuns, waifelRuns, Bool.and_eq_true, Bool.not_eq_true'] at h
  obtain ⟨⟨hon, hrun⟩, hrec⟩ := h
  simp [commandOn, hon, hrun, hrec, hp]

theorem restartCmd_of_cluster {v : Nat} (hl : 1 ≤ v) (hu : v ≤ 4) (d : Dev) :
    restartCmd v d = (0, restartCluster (v - 1) 3 d) := if_neg (by omega)

theorem restartCmd_refused {v : Nat} (h : v = 0 ∨ 4 < v) (d : Dev) : restartCmd v d = (0x05, d) := if_pos h

theorem restartSecretaryOn_restarts {p : Path} {d : Dev} (h : secretaryRuns d = true) (hp : p ≠ .h) :
    restartSecretaryOn p 0x05EC d = secretaryRestart 4 { d with sec := { d.sec with answers := d.sec.answers ++ [p] } } :=
  if_pos ⟨rfl, hp, h⟩

theorem restartSecretaryOn_refused {p : Path} {v : Nat} {d : Dev} (h : secretaryRuns d = true) (hp : p ≠ .h)
    (hv : v ≠ 0x05EC) : restartSecretaryOn p v d = emit (.result p 5) d := by
  simp only [restartSecretaryOn, hv, false_and, if_false]
  rw [commandOn_of_runs h hp, restartSecretaryCmd, if_neg hv]

/-! ## What the end of a restart leaves (R33, R521) -/

/-- From device a to device b the Secretary's state, the restore and the owed outcomes are the same, and what left the part
stays listed. -/
structure KeepsOutcome (a b : Dev) : Prop where
  sec : b.sec = a.sec
  restored : b.img.restored = a.img.restored
  owed : ∀ p, (pathSt b p).owed = (pathSt a p).owed
  emitted : a.emitted ⊆ b.emitted

theorem KeepsOutcome.refl {d : Dev} : KeepsOutcome d d := ⟨rfl, rfl, fun _ => rfl, List.Subset.refl _⟩

/-- A last step joined to those before it, found from the device that it leads to. -/
theorem KeepsOutcome.after {a b c : Dev} (k : KeepsOutcome b c) (h : KeepsOutcome a b) : KeepsOutcome a c :=
  ⟨k.sec.trans h.sec, k.restored.trans h.restored, fun p => (k.owed p).trans (h.owed p),
    List.Subset.trans h.emitted k.emitted⟩

theorem KeepsOutcome.ite {a b c : Dev} {p : Prop} [Decidable p] (h : KeepsOutcome a b) (k : KeepsOutcome a c) :
    KeepsOutcome a (if p then b else c) := by
  split
  · exact h
  · exact k

theorem KeepsOutcome.foldl {β : Type} {f : Dev → β → Dev} (h : ∀ d x, KeepsOutcome d (f d x)) :
    ∀ (l : List β) (d : Dev), KeepsOutcome d (l.foldl f d)
  | [], _ => .refl
  | x :: l, d => (KeepsOutcome.foldl h l (f d x)).after (h d x)

/-- A change of pieces that a release, a grant or a packet may touch, which emits nothing. -/
theorem keepsOutcome_pieces {d : Dev} {regs dict cnt host lanes bond cipher act fs up tm cls pwr} :
    KeepsOutcome d { d with
      regs := regs, dict := dict, cnt := cnt, host := host, lanes := lanes, bond := bond, cipher := cipher, act := act,
      fs := fs, up := up, tm := tm, cls := cls, pwr := pwr } :=
  ⟨rfl, rfl, fun _ => rfl, List.Subset.refl _⟩

/-! ### Shared operations -/

theorem keepsOutcome_emit {e : Emission} {d : Dev} : KeepsOutcome d (emit e d) :=
  ⟨rfl, rfl, fun _ => rfl, List.subset_cons_self _ _⟩

theorem keepsOutcome_setReg {r : Reg} {i : Nat} {v : Word} {d : Dev} : KeepsOutcome d (setReg r i v d) :=
  keepsOutcome_pieces

theorem keepsOutcome_setFld {f : Fld} {i v : Nat} {d : Dev} : KeepsOutcome d (setFld f i v d) := keepsOutcome_setReg

theorem keepsOutcome_signal {v : Nat} {d : Dev} : KeepsOutcome d (signal v d) := by
  simp only [signal]
  exact .ite keepsOutcome_emit (.ite .refl keepsOutcome_pieces)

theorem keepsOutcome_raise {f : Fld} {i : Nat} {d : Dev} : KeepsOutcome d (raise f i d) := by
  simp only [raise]
  exact .after (.ite keepsOutcome_signal .refl) keepsOutcome_setFld

theorem keepsOutcome_raiseIf {c : Bool} {f : Fld} {i : Nat} {d : Dev} : KeepsOutcome d (raiseIf c f i d) := by
  simp only [raiseIf]
  exact .ite keepsOutcome_raise .refl

theorem keepsOutcome_selPut {k v : Nat} {d : Dev} : KeepsOutcome d (selPut k v d) := keepsOutcome_pieces

theorem keepsOutcome_selWrap {k : Nat} {d : Dev} : KeepsOutcome d (selWrap k d) :=
  keepsOutcome_raise.after keepsOutcome_setFld

theorem keepsOutcome_selAdd {k n : Nat} {d : Dev} : KeepsOutcome d (selAdd k n d) := by
  have wrap : ∀ v, KeepsOutcome d (selWrap k (selPut k v d)) := fun _ => keepsOutcome_selWrap.after keepsOutcome_selPut
  simp only [selAdd]
  exact .ite keepsOutcome_selPut (.ite (.ite (keepsOutcome_selPut.after (wrap _))
    (keepsOutcome_selWrap.after (keepsOutcome_selPut.after (wrap _)))) (wrap _))

theorem keepsOutcome_selFeed {s : Nat → Bool} {n m : Nat} {d : Dev} : KeepsOutcome d (selFeed s n m d) := by
  simp only [selFeed]
  exact .foldl (fun _ _ => .ite keepsOutcome_selAdd .refl) _ _

theorem keepsOutcome_wrapFlag {n : Option Nat} {d : Dev} : KeepsOutcome d (wrapFlag n d) := by
  cases n
  · exact .refl
  · exact keepsOutcome_setReg

theorem keepsOutcome_countN {c : CName} {k n : Nat} {d : Dev} : KeepsOutcome d (countN c k n d) := by
  have fed : ∀ v s m, KeepsOutcome d
      (if selActive { d with cnt := { d.cnt with values := v } } then
        selFeed s n m { d with cnt := { d.cnt with values := v } }
      else { d with cnt := { d.cnt with values := v } }) := fun _ _ _ =>
    .ite (keepsOutcome_selFeed.after keepsOutcome_pieces) keepsOutcome_pieces
  simp only [countN]
  exact .ite .refl (.ite (fed _ _ _) (keepsOutcome_raise.after (keepsOutcome_wrapFlag.after (fed _ _ _))))

theorem keepsOutcome_count {c : CName} {k : Nat} {d : Dev} : KeepsOutcome d (count c k d) := keepsOutcome_countN

/-! ### Packets and grants dropped (R130, R181, R276) -/

theorem keepsOutcome_modSlot {k : Nat} {f : GenSlot → GenSlot} {d : Dev} : KeepsOutcome d (modSlot k f d) := by
  simp only [modSlot]
  split
  all_goals exact keepsOutcome_pieces

theorem keepsOutcome_drainDown {k : Nat} {d : Dev} : KeepsOutcome d (drainDown k d) := by
  simp only [drainDown]
  exact .ite (keepsOutcome_raise.after (keepsOutcome_modSlot.after keepsOutcome_modSlot)) keepsOutcome_modSlot

theorem keepsOutcome_dropCopies {ps : List QPkt} {d : Dev} : KeepsOutcome d (dropCopies ps d) :=
  .foldl (fun _ _ => keepsOutcome_drainDown) _ _

theorem keepsOutcome_endEnvs {es : List OutEnv} {d : Dev} : KeepsOutcome d (endEnvs es d) := by
  simp only [endEnvs]
  refine .foldl (fun d e => ?_) _ _
  split
  · exact keepsOutcome_drainDown
  · exact .refl

theorem keepsOutcome_modQueue {q : Nat} {f : Queue → Queue} {d : Dev} : KeepsOutcome d (modQueue q f d) :=
  keepsOutcome_pieces

theorem keepsOutcome_modNode {n : Nat} {f : Node → Node} {d : Dev} : KeepsOutcome d (modNode n f d) :=
  keepsOutcome_pieces

theorem keepsOutcome_emptied {q : Nat} {d : Dev} : KeepsOutcome d (emptied q d) := by
  simp only [emptied]
  exact .ite (.ite (keepsOutcome_modNode.after keepsOutcome_modQueue) keepsOutcome_modQueue) .refl

/-- The upstream queues and the re-issued envelopes dropped (R130). -/
theorem keepsOutcome_dropUpstream {d : Dev} : KeepsOutcome d (dropUpstream d) := by
  simp only [dropUpstream]
  refine .after keepsOutcome_pieces (.after (.foldl (fun _ _ => ?_) _ _) (.foldl (fun _ _ => ?_) _ _))
  · exact keepsOutcome_countN.after keepsOutcome_endEnvs
  · exact keepsOutcome_countN.after (keepsOutcome_dropCopies.after (keepsOutcome_emptied.after keepsOutcome_modQueue))

theorem keepsOutcome_loseGrant {d : Dev} {g : Grant} : KeepsOutcome d (loseGrant d g) := by
  simp only [loseGrant]
  split
  · exact .refl
  · exact keepsOutcome_raiseIf.after (keepsOutcome_countN.after keepsOutcome_pieces)

theorem keepsOutcome_abandonGrants {p : Grant → Bool} {d : Dev} : KeepsOutcome d (abandonGrants p d) := by
  simp only [abandonGrants]
  exact .after (.foldl (fun _ _ => keepsOutcome_loseGrant) _ _) keepsOutcome_pieces

/-! ### Power requests that rest on consent (R152, R556) -/

theorem keepsOutcome_pwResult {o : PowerOrigin} {r c : Nat} {d : Dev} : KeepsOutcome d (pwResult o r c d) := by
  simp only [pwResult]
  split
  · exact keepsOutcome_setFld.after keepsOutcome_setFld
  all_goals exact keepsOutcome_pieces

theorem keepsOutcome_modSerial {k : Nat} {f : SerialLane → SerialLane} {d : Dev} : KeepsOutcome d (modSerial k f d) :=
  keepsOutcome_pieces

theorem keepsOutcome_releaseUnits {d : Dev} : KeepsOutcome d (releaseUnits d) := by
  simp only [releaseUnits]
  exact .ite .refl (.after (.foldl (fun _ _ => .ite keepsOutcome_modSerial .refl) _ _) keepsOutcome_pieces)

theorem keepsOutcome_powerHoldEnd {d : Dev} : KeepsOutcome d (powerHoldEnd d) := by
  simp only [powerHoldEnd]
  exact .ite (keepsOutcome_raise.after keepsOutcome_pieces) .refl

theorem keepsOutcome_cancelChange {d : Dev} : KeepsOutcome d (cancelChange d) := by
  simp only [cancelChange]
  split
  · exact .ite (keepsOutcome_powerHoldEnd.after (keepsOutcome_releaseUnits.after (keepsOutcome_count.after
      (keepsOutcome_pwResult.after keepsOutcome_pieces)))) .refl
  · exact .refl

theorem keepsOutcome_waitingGone {d : Dev} : KeepsOutcome d (waitingGone d) := by
  simp only [waitingGone]
  split
  · exact .ite (keepsOutcome_count.after (keepsOutcome_pwResult.after keepsOutcome_pieces)) .refl
  · exact .refl

theorem keepsOutcome_consentGone {d : Dev} : KeepsOutcome d (consentGone d) := by
  simp only [consentGone]
  split
  · exact keepsOutcome_waitingGone.after (.ite keepsOutcome_cancelChange .refl)
  · exact keepsOutcome_waitingGone

theorem keepsOutcome_endConsent {d : Dev} : KeepsOutcome d (endConsent d) := by
  simp only [endConsent]
  exact keepsOutcome_consentGone.after keepsOutcome_pieces

/-! ### The release on consent (R129, R130, R150) -/

theorem keepsOutcome_clearRecord {d : Dev} : KeepsOutcome d (clearRecord d) := by
  simp only [clearRecord, defaultEntries]
  refine keepsOutcome_dropUpstream.after (keepsOutcome_endConsent.after (keepsOutcome_pieces.after ?_))
  refine keepsOutcome_setReg.after (keepsOutcome_pieces.after ?_)
  refine keepsOutcome_setFld.after (keepsOutcome_setFld.after (keepsOutcome_setFld.after (keepsOutcome_setFld.after ?_)))
  exact keepsOutcome_setFld.after (keepsOutcome_setFld.after (keepsOutcome_setFld.after keepsOutcome_pieces))

theorem keepsOutcome_setState {n : Nat} {d : Dev} : KeepsOutcome d (setState n d) := by
  simp only [setState]
  exact .ite .refl (keepsOutcome_raise.after (keepsOutcome_setFld.after (.ite keepsOutcome_endConsent .refl)))

theorem keepsOutcome_settleState {d : Dev} : KeepsOutcome d (settleState d) := by
  simp only [settleState]
  exact .ite keepsOutcome_setState (.ite (keepsOutcome_setState.after keepsOutcome_abandonGrants) .refl)

theorem keepsOutcome_actOnDown {d : Dev} : KeepsOutcome d (actOnDown d) := by
  simp only [actOnDown]
  exact .ite .refl (.ite (keepsOutcome_clearRecord.after (keepsOutcome_setState.after keepsOutcome_pieces))
    (.ite (keepsOutcome_setState.after keepsOutcome_pieces) .refl))

theorem keepsOutcome_leaveStop {d : Dev} : KeepsOutcome d (leaveStop d) := by
  simp only [leaveStop]
  exact .ite (keepsOutcome_settleState.after (.after (.ite .refl keepsOutcome_actOnDown)
    (keepsOutcome_clearRecord.after (keepsOutcome_setState.after keepsOutcome_pieces)))) .refl

theorem keepsOutcome_secretaryRelease {d : Dev} : KeepsOutcome d (secretaryRelease d) := by
  simp only [secretaryRelease]
  exact .ite (keepsOutcome_leaveStop.after keepsOutcome_pieces) .refl

/-! ### The release of the Firescreen (R212, R213) -/

theorem keepsOutcome_modFs {n : Nat} {f : FsChan → FsChan} {d : Dev} : KeepsOutcome d (modFs n f d) :=
  keepsOutcome_pieces

theorem keepsOutcome_releaseCommit {d : Dev} : KeepsOutcome d (releaseCommit d) := by
  simp only [releaseCommit]
  exact .ite .refl (keepsOutcome_raise.after (.after keepsOutcome_pieces (.foldl (fun _ _ => keepsOutcome_modFs) _ _)))

theorem keepsOutcome_fsReleaseWrite {nonce : BitVec 32} {d : Dev} : KeepsOutcome d (fsReleaseWrite nonce d) := by
  simp only [fsReleaseWrite]
  exact .ite (keepsOutcome_releaseCommit.after keepsOutcome_pieces) keepsOutcome_count

theorem keepsOutcome_secretaryRelieves {d : Dev} : KeepsOutcome d (secretaryRelieves d) := by
  simp only [secretaryRelieves]
  exact .ite keepsOutcome_fsReleaseWrite .refl

/-! ### The waiting activation (R30) -/

/-- A change of the image past the restore. -/
theorem keepsOutcome_img {d : Dev} {x : ImgSt} (h : x.restored = d.img.restored) : KeepsOutcome d { d with img := x } :=
  ⟨rfl, h, fun _ => rfl, List.Subset.refl _⟩

theorem keepsOutcome_nextActivation {d : Dev} : KeepsOutcome d (nextActivation d) := by
  simp only [nextActivation]
  split
  · exact .ite (.after keepsOutcome_count (keepsOutcome_img rfl)) (keepsOutcome_img rfl)
  · exact .refl

/-! ## Outcomes told (R507, R511, R517, R521) -/

theorem pathSt_modPath_same (p : Path) (f : PathSt → PathSt) (d : Dev) : pathSt (modPath p f d) p = f (pathSt d p) := by
  cases p <;> rfl

theorem pathSt_modPath_ne {p q : Path} (f : PathSt → PathSt) (d : Dev) (h : q ≠ p) :
    pathSt (modPath p f d) q = pathSt d q := by
  cases p <;> cases q <;> simp [pathSt, modPath] at h ⊢

/-- A path changed: nothing but the path. -/
theorem modPath_pieces (p : Path) (f : PathSt → PathSt) (d : Dev) :
    (modPath p f d).sec = d.sec ∧ (modPath p f d).img = d.img ∧ (modPath p f d).emitted = d.emitted := by
  cases p <;> exact ⟨rfl, rfl, rfl⟩

/-- A path changed past its owed outcome. -/
theorem keepsOutcome_modPath {p : Path} {f : PathSt → PathSt} {d : Dev} (h : ∀ x, (f x).owed = x.owed) :
    KeepsOutcome d (modPath p f d) := by
  obtain ⟨hs, hi, he⟩ := modPath_pieces p f d
  refine ⟨hs, by rw [hi], fun q => ?_, by rw [he]; exact List.Subset.refl _⟩
  by_cases k : q = p
  · rw [k, pathSt_modPath_same, h]
  · rw [pathSt_modPath_ne f d k]

theorem keepsOutcome_noteAdmitted {k : Nat} {p : QPkt} {d : Dev} : KeepsOutcome d (noteAdmitted k p d) :=
  keepsOutcome_pieces

theorem keepsOutcome_spill {k i : Nat} {p : QPkt} {d : Dev} : KeepsOutcome d (spill k i p d) := by
  have lost : ∀ c n f, KeepsOutcome d (drainDown p.slot (raise f 0 (count c n d))) := fun _ _ _ =>
    keepsOutcome_drainDown.after (keepsOutcome_raise.after keepsOutcome_count)
  have stored : ∀ n q f, KeepsOutcome d (noteAdmitted k p (count .qSpilled n (modQueue q f d))) := fun _ _ _ =>
    keepsOutcome_noteAdmitted.after (keepsOutcome_count.after keepsOutcome_modQueue)
  simp only [spill]
  refine .ite (lost _ _ _) ?_
  split
  · exact stored _ _ _
  · refine .ite (lost _ _ _) ?_
    split
    · exact lost _ _ _
    · exact stored _ _ _

theorem keepsOutcome_enqueueUp {k i : Nat} {p : QPkt} {d : Dev} : KeepsOutcome d (enqueueUp k i p d) := by
  simp only [enqueueUp]
  exact .ite (keepsOutcome_noteAdmitted.after (keepsOutcome_countN.after (keepsOutcome_count.after keepsOutcome_modQueue)))
    keepsOutcome_spill

theorem keepsOutcome_sendUpstream {bs : List Byte} {d : Dev} : KeepsOutcome d (sendUpstream bs d) := by
  simp only [sendUpstream, newStore]
  split
  · exact .refl
  · exact keepsOutcome_enqueueUp.after keepsOutcome_pieces

theorem keepsOutcome_sessionSend {id type ack : Nat} {bs : List Byte} {d : Dev} :
    KeepsOutcome d (sessionSend id type ack bs d) := by
  simp only [sessionSend]
  split
  · exact .refl
  · exact keepsOutcome_emit.after (keepsOutcome_img rfl)

theorem keepsOutcome_sendOn {p : Path} {w : Nat × Nat} {bs : List Byte} {d : Dev} : KeepsOutcome d (sendOn p w bs d) := by
  have listed : KeepsOutcome d (emit (.dictReply p (deliveredOn d p bs)) (count .dictReplies (pathNo p) d)) :=
    keepsOutcome_emit.after keepsOutcome_count
  cases p
  · exact keepsOutcome_sendUpstream.after listed
  · exact keepsOutcome_raise.after (keepsOutcome_setFld.after (keepsOutcome_setFld.after
      (keepsOutcome_setFld.after listed)))
  · exact keepsOutcome_sessionSend.after listed

theorem keepsOutcome_replyTo {p : Path} {w : Nat × Nat} {id : BitVec 32} {bs : List Byte} {d : Dev} :
    KeepsOutcome d (replyTo p w id bs d) := by
  simp only [replyTo]
  exact keepsOutcome_sendOn.after (.ite (keepsOutcome_modPath fun _ => rfl) .refl)

/-- An outcome told leaves every owed outcome as it is. -/
theorem keepsOutcome_tellOutcome {p : Path} {id : BitVec 32} {code key : Nat} {single : Option (List (Nat × Nat))} {d : Dev} :
    KeepsOutcome d (tellOutcome p id code key single d) := by
  have noted : ∀ o, KeepsOutcome d (modPath p (fun x => { x with outcome := o }) d) := fun _ =>
    keepsOutcome_modPath fun _ => rfl
  simp only [tellOutcome]
  split
  · exact .ite (noted _) (keepsOutcome_replyTo.after (noted _))
  · split
    · exact keepsOutcome_raise.after (noted _)
    · exact keepsOutcome_sendOn.after (noted _)

/-! ## The end of a restart (R33, R521, R602, R618) -/

/-- A path's owed outcome is told and owed no longer, and the other paths' stay (R521). -/
theorem tellOwed_owed (p q : Path) (d : Dev) :
    (pathSt (tellOwed p d) q).owed = if q = p then none else (pathSt d q).owed := by
  by_cases k : q = p
  · subst k
    simp only [tellOwed, if_true]
    split
    · rw [keepsOutcome_tellOutcome.owed, pathSt_modPath_same]
    · assumption
  · simp only [tellOwed, k, if_false]
    split
    · rw [keepsOutcome_tellOutcome.owed, pathSt_modPath_ne _ _ k]
    · rfl

/-- Telling a path's owed outcome leaves the Secretary's state and the restore. -/
theorem tellOwed_keeps (p : Path) (d : Dev) :
    (tellOwed p d).sec = d.sec ∧ (tellOwed p d).img.restored = d.img.restored := by
  simp only [tellOwed]
  split
  · obtain ⟨hs, hi, -⟩ := modPath_pieces p (fun y => { y with owed := none, single := none }) d
    exact ⟨keepsOutcome_tellOutcome.sec.trans hs, keepsOutcome_tellOutcome.restored.trans (congrArg ImgSt.restored hi)⟩
  · exact ⟨rfl, rfl⟩

/-- The outcomes owed on all paths told (R521). -/
def tellAllOwed (d : Dev) : Dev := [Path.h, Path.l, Path.s].foldl (fun d p => tellOwed p d) d

theorem tellAllOwed_owed (q : Path) (d : Dev) : (pathSt (tellAllOwed d) q).owed = none := by
  simp only [tellAllOwed, List.foldl_cons, List.foldl_nil, tellOwed_owed]
  cases q <;> simp

theorem tellAllOwed_keeps (d : Dev) :
    (tellAllOwed d).sec = d.sec ∧ (tellAllOwed d).img.restored = d.img.restored := by
  simp only [tellAllOwed, List.foldl_cons, List.foldl_nil, tellOwed_keeps, and_self]

/-- The answers to commanded restarts leave the part, one to each path. -/
theorem answers_foldl : ∀ (ps : List Path) (d : Dev), ps.foldl (fun d p => emit (.result p 0) d) d =
    { d with emitted := (ps.map (Emission.result · 0)).reverse ++ d.emitted }
  | [], _ => rfl
  | p :: ps, d => by
    rw [List.foldl_cons, answers_foldl ps, List.map_cons, List.reverse_cons, List.append_assoc]
    rfl

/-- The commanded restarts are answered, and none waits any longer (R545). -/
theorem tellRestarts_eq (d : Dev) : tellRestarts d =
    { d with sec := { d.sec with answers := [] }, emitted := (d.sec.answers.map (Emission.result · 0)).reverse ++ d.emitted } :=
  answers_foldl _ _

/-- The slot pointer's image runs where its slot passes (R602, R605). -/
theorem restartImage_of_passes {x : RestartInputs} {d : Dev} (hp : x.ptrOk = true)
    (h : slotPasses x.slotsOk d d.img.ptr.active = true) : restartImage x d = some d := by
  simp [restartImage, bootPtr, hp, chooseImage, h]

/-- A store at the image's version needs no migration (R618). -/
theorem migrate_of_format {d : Dev} (h : (imgSlot d d.img.ptr.active).format = d.dic.store.format) : migrate d = d := by
  simp [migrate, migrateStore, h]

/-- The Secretary out of its restart, with its image's dictionary restored. -/
def restartEnded (d : Dev) : Dev :=
  let d := setFld fGL_BOOT_RECOVERY 0 0 { d with sec := { d.sec with restarting := false } }
  { d with img := { d.img with restored := true } }

/-- The end of a restart into the image that the slot pointer names, with the store at its version. -/
theorem restartDone_eq {x : RestartInputs} {d : Dev} (hr : d.sec.restarting = true) (hp : x.ptrOk = true)
    (hs : slotPasses x.slotsOk d d.img.ptr.active = true)
    (hf : (imgSlot d d.img.ptr.active).format = d.dic.store.format) : restartDone x d =
      nextActivation (secretaryRelieves (secretaryRelease (tellRestarts (tellAllOwed (restartEnded d))))) := by
  have image : restartImage x { d with sec := { d.sec with restarting := false } } =
      some { d with sec := { d.sec with restarting := false } } := restartImage_of_passes hp hs
  have store : migrate (setFld fGL_BOOT_RECOVERY 0 0 { d with sec := { d.sec with restarting := false } }) =
      setFld fGL_BOOT_RECOVERY 0 0 { d with sec := { d.sec with restarting := false } } := migrate_of_format hf
  simp only [restartDone, hr, Bool.not_true, Bool.false_eq_true, if_false, image, store]
  rfl

/-- Once a restart has ended, the restore is complete, no outcome is owed and the commanded restarts are answered. -/
theorem restartDone_told {x : RestartInputs} {d : Dev} (hr : d.sec.restarting = true) (hp : x.ptrOk = true)
    (hs : slotPasses x.slotsOk d d.img.ptr.active = true)
    (hf : (imgSlot d d.img.ptr.active).format = d.dic.store.format) :
    (restartDone x d).sec.restarting = false ∧ (restartDone x d).sec.answers = [] ∧
      (restartDone x d).img.restored = true ∧ (∀ p, (pathSt (restartDone x d) p).owed = none) ∧
      ∀ p ∈ d.sec.answers, Emission.result p 0 ∈ (restartDone x d).emitted := by
  obtain ⟨secKept, restoredKept⟩ := tellAllOwed_keeps (restartEnded d)
  have told := tellRestarts_eq (tellAllOwed (restartEnded d))
  have late : KeepsOutcome (tellRestarts (tellAllOwed (restartEnded d))) (restartDone x d) := by
    rw [restartDone_eq hr hp hs hf]
    exact keepsOutcome_nextActivation.after (keepsOutcome_secretaryRelieves.after keepsOutcome_secretaryRelease)
  rw [told] at late
  obtain ⟨hsec, hrestored, howed, hemitted⟩ := late
  refine ⟨?_, ?_, hrestored.trans restoredKept, fun p => (howed p).trans (tellAllOwed_owed p _), fun p h => hemitted ?_⟩
  · rw [hsec, secKept]
    rfl
  · rw [hsec]
  · refine List.mem_append_left _ (List.mem_reverse.2 (List.mem_map_of_mem ?_))
    rw [secKept]
    exact h

/-! ## The commands -/

/-- A watchdog's or an exception's restart, which owes no answer (R528). -/
theorem fsDrive_secretaryRestart_restarted {cause : Nat} (hc : cause < 65536) {a : Dev} (hp : pdOn a 3 = true)
    (ht : a.img.ptr.trial = false) : Restarted cause a (fsDrive (secretaryRestart cause) a) :=
  (secretaryRestart_restarted hc hp ht).fsDrive

theorem writePtr_sec (n : Nat) (q : Option Nat) (b : Bool) (k : Nat) (d : Dev) : (writePtr n q b k d).sec = d.sec := rfl

theorem counter_writePtr (n : Nat) (q : Option Nat) (b : Bool) (k : Nat) (d : Dev) (c : CName) (i : Nat) :
    counter (writePtr n q b k d) c i = counter d c i := rfl

theorem writePtr_ptr (n : Nat) (q : Option Nat) (b : Bool) (k : Nat) (d : Dev) : (writePtr n q b k d).img.ptr =
    { seq := d.img.ptr.seq + 1, active := n, previous := q, trial := b, starts := k } := rfl

/-- The watchdog's restart under a trial counts the start in the slot pointer, whose slot stays (R620). -/
theorem watchdogExpiry_inTrial (t : Time) : RunsAt (.watchdogExpiry t) t
    (fun a => pdOn a 3 = true ∧ a.img.ptr.trial = true ∧ a.img.ptr.starts < 2)
    (fun a d => d.sec.restarting = true ∧ d.sec.cause = 1 ∧
      counter d .secretaryRestarts 1 = counter a .secretaryRestarts 1 + 1 ∧
      d.img.ptr.starts = a.img.ptr.starts + 1 ∧ d.img.ptr.trial = true ∧ d.img.ptr.active = a.img.ptr.active) := by
  refine runsAt_of (exec_watchdogExpiry t) fun a ⟨hp, ht, hs⟩ => ?_
  have h : Restarted 1 a (restartCore 1 a) := restartCore_restarted (by decide) a
  simp only [fsDrive_sec, fsDrive_img, counter_fsDrive, secretaryRestart_inTrial hp ht hs h, writePtr_sec,
    counter_writePtr, writePtr_ptr, and_true]
  exact ⟨h.restarting, h.cause_eq, h.counted⟩

/-- The commanded restart of the Secretary is answered after it (R545). -/
theorem restartSecretary_commanded (t : Time) (p : Path) : RunsAt (.restartSecretary t p 0x05EC) t
    (fun a => secretaryRuns a = true ∧ p ≠ .h ∧ a.img.ptr.trial = false)
    (fun a d => d.sec.restarting = true ∧ d.sec.cause = 4 ∧
      counter d .secretaryRestarts 4 = counter a .secretaryRestarts 4 + 1 ∧
      (List.range 4).all (fun c => (cluster d c).state == if pdOn a (4 + c) then .loading else .off) = true ∧
      d.sec.answers = a.sec.answers ++ [p]) := by
  refine runsAt_of (exec_restartSecretary t p 0x05EC) fun a ⟨hr, hp, ht⟩ => ?_
  have on : pdOn a 3 = true := (Bool.and_eq_true_iff.1 (Bool.and_eq_true_iff.1 hr).1).1
  have h : Restarted 4 { a with sec := { a.sec with answers := a.sec.answers ++ [p] } }
      (fsDrive (restartSecretaryOn p 0x05EC) a) := by
    refine Restarted.fsDrive ?_
    rw [restartSecretaryOn_restarts hr hp]
    exact secretaryRestart_restarted (by decide) on ht
  exact ⟨h.restarting, h.cause_eq, h.counted, h.held, h.answers⟩

/-- Another value than 0x05EC restarts nothing (R545). -/
theorem restartSecretary_refused (t : Time) (p : Path) (v : BitVec 16) : RunsAt (.restartSecretary t p v) t
    (fun a => secretaryRuns a = true ∧ p ≠ .h ∧ v ≠ 0x05EC)
    (fun a d => d.sec = a.sec ∧ d.emitted.contains (.result p 5) = true) := by
  refine runsAt_of (exec_restartSecretary t p v) fun a ⟨hr, hp, hv⟩ => ?_
  have value : v.toNat ≠ 0x05EC := fun h => hv (BitVec.eq_of_toNat_eq h)
  have answered := restartSecretaryOn_refused hr hp value
  refine ⟨by rw [fsDrive_sec, answered, emit_sec], List.contains_iff_mem.2 (fsDrive_emitted _ _ _ ?_)⟩
  rw [answered]
  exact List.mem_cons_self

/-- A commanded restart of cluster 1 to 4 holds it, counts it and is answered at once (R545). -/
theorem restartCluster_commanded (t : Time) (p : Path) (v : BitVec 8) : RunsAt (.restartCluster t p v) t
    (fun a => secretaryRuns a = true ∧ p ≠ .h ∧ 1 ≤ v.toNat ∧ v.toNat ≤ 4)
    (fun a d => (cluster d (v.toNat - 1)).state = (if pdOn a (3 + v.toNat) then ClusterState.loading else .off) ∧
      counter d .clusterRestarts (v.toNat - 1) = counter a .clusterRestarts (v.toNat - 1) + 1 ∧
      d.emitted.head? = some (.result p 0)) := by
  refine runsAt_of (exec_restartCluster t p v) fun a ⟨hr, hp, hl, hu⟩ => ?_
  have domain : 4 + (v.toNat - 1) = 3 + v.toNat := by omega
  rw [commandOn_of_runs hr hp, restartCmd_of_cluster hl hu]
  have held : HoldsCluster (v.toNat - 1) a (restartCluster (v.toNat - 1) 3 a) := restartCluster_holds (by omega)
  refine ⟨?_, ?_, by rw [emit_emitted, List.head?_cons]⟩
  · rw [cluster_of_clusters (congrArg SecSt.clusters (emit_sec _ _)), held.held, heldState, domain]
  · rw [counter_emit, counter_restartCluster (by omega)]

/-- Another value than 1 to 4 restarts no cluster (R545). -/
theorem restartCluster_refused (t : Time) (p : Path) (v : BitVec 8) : RunsAt (.restartCluster t p v) t
    (fun a => secretaryRuns a = true ∧ p ≠ .h ∧ (v.toNat = 0 ∨ 4 < v.toNat))
    (fun a d => d.sec = a.sec ∧ d.emitted.head? = some (.result p 5)) := by
  refine runsAt_of (exec_restartCluster t p v) fun a ⟨hr, hp, hv⟩ => ?_
  rw [commandOn_of_runs hr hp, restartCmd_refused hv]
  exact ⟨rfl, rfl⟩

/-- The end of a restart into the slot pointer's image (R33, R521, R545). -/
theorem secretaryRestartDone_told (x : RestartInputs) : RunsAt (.secretaryRestartDone x) x.t
    (fun a => a.sec.restarting = true ∧ x.ptrOk = true ∧ slotPasses x.slotsOk a a.img.ptr.active = true ∧
      (imgSlot a a.img.ptr.active).format = a.dic.store.format)
    (fun a d => d.sec.restarting = false ∧ d.img.restored = true ∧ d.dic.h.owed = none ∧ d.dic.l.owed = none ∧
      d.dic.s.owed = none ∧ d.sec.answers = [] ∧
      (a.sec.answers.all (fun p => d.emitted.contains (.result p 0))) = true) := by
  refine runsAt_of (exec_secretaryRestartDone x) fun a ⟨hr, hp, hs, hf⟩ => ?_
  obtain ⟨ended, answers, restored, owed, answered⟩ := restartDone_told hr hp hs hf
  simp only [fsDrive_sec, fsDrive_img, fsDrive_dic]
  refine ⟨ended, restored, owed .h, owed .l, owed .s, answers, List.all_eq_true.2 fun p h => ?_⟩
  exact List.contains_iff_mem.2 (fsDrive_emitted _ _ _ (answered p h))

/-- Settles O46: each restart goes through restartCore, whose clusters are held one after the other while the ends of their
tasks leave the restart as it is, and after the end of a restart nothing touches the Secretary's state, the restore or an
outcome that was owed. -/
theorem secretaryRestarts : Obligations.SecretaryRestarts := by
  unfold Obligations.SecretaryRestarts
  refine ⟨fun t => ?_, watchdogExpiry_inTrial, fun t => ?_, restartSecretary_commanded, restartSecretary_refused,
    restartCluster_commanded, restartCluster_refused, secretaryRestartDone_told⟩
  · refine runsAt_of (exec_watchdogExpiry t) fun a ⟨hp, ht⟩ => ?_
    have h := fsDrive_secretaryRestart_restarted (cause := 1) (by decide) hp ht
    exact ⟨h.restarting, h.cause_eq, h.counted, h.held⟩
  · refine runsAt_of (exec_secretaryException t) fun a ⟨hp, ht⟩ => ?_
    have h := fsDrive_secretaryRestart_restarted (cause := 2) (by decide) hp ht
    exact ⟨h.restarting, h.cause_eq, h.counted, h.held⟩

end Sys2Proof.Proofs
end

section
/-!
PROOF. What the operations that the line and the activation share may touch (R66, R71, R129, R130, R151): the end of a
consent, lost grants, dropped upstream data, the cleared record, the activation state and the protection hold.
-/

namespace Sys2Proof.Proofs

open Sys2Proof Sys2Proof.Machine Sys2Proof.Laws

/-! ## Consent and the power change that rests on it (R151, R152) -/

/-- The pieces that the end of a consent may touch. -/
def consentPieces : List Piece := [.regs, .host, .emitted, .cnt, .pwr, .act, .fs, .lanes]

/-- The registers that the end of a consent, and dropped data and grants, may touch. -/
def upkeepRegs : List Reg := [.fsEvent, .pwReqStatus, .leGrantEvent, .clEvent] ++ countRegs

theorem frame_consentParts {d : Dev} {rs : List Reg} {w : PwrSt} {x : ActSt} {f : FsSt} {l : List (Nat × SerialLane)} :
    Frame consentPieces rs d { d with pwr := w, act := x, fs := f, lanes := l } := by
  refine ⟨fun p hp => ?_, KeepRegs_of_eq rfl⟩
  cases p with
  | pwr | act | fs | lanes => exact absurd (by decide) hp
  | _ => rfl

theorem frame_powerHoldEnd (d : Dev) : Frame consentPieces upkeepRegs d (powerHoldEnd d) := by
  simp only [powerHoldEnd]
  exact Frame_ite _ (Frame_step frame_consentParts
    (Frame_mono (frame_raise fFS_EVENT_HOLD_CHANGE 0 _ (by decide)) (by decide) (by decide))) (Frame_refl _ _ _)

theorem frame_releaseUnits (d : Dev) : Frame consentPieces upkeepRegs d (releaseUnits d) := by
  simp only [releaseUnits]
  refine Frame_ite _ (Frame_refl _ _ _) (Frame_step frame_consentParts (Frame_foldl _ (fun d k => ?_) _ _))
  exact Frame_ite _ frame_consentParts (Frame_refl _ _ _)

theorem frame_pwResult (o : PowerOrigin) (r c : Nat) (d : Dev) : Frame consentPieces upkeepRegs d (pwResult o r c d) := by
  match o with
  | .host =>
    exact Frame_mono (Frame_step (frame_setFld fPW_REQ_STATUS_CODE 0 c d (by decide))
      (frame_setFld fPW_REQ_STATUS_RESULT 0 r _ (by decide))) (by decide) (by decide)
  | .entry .l => exact frame_consentParts
  | .entry .s => exact frame_consentParts
  | .entry .h => exact Frame_refl _ _ _
  | .controller => exact Frame_refl _ _ _

/-- A counted event within a frame that takes in what counting touches. -/
theorem frame_counted {ps : List Piece} {rs : List Reg} {a b : Dev} (c : CName) (k n : Nat) (h : Frame ps rs a b)
    (hp : ∀ p ∈ countPieces, p ∈ ps) (hr : ∀ r ∈ countRegs, r ∈ rs) : Frame ps rs a (countN c k n b) :=
  Frame_step h (Frame_mono (frame_countN c k n b) hp hr)

theorem frame_cancelChange (d : Dev) : Frame consentPieces upkeepRegs d (cancelChange d) := by
  simp only [cancelChange]
  split
  · refine Frame_ite _ (Frame_step ?_ (frame_powerHoldEnd _)) (Frame_refl _ _ _)
    refine Frame_step (frame_counted .pwCancelled 0 1 ?_ (by decide) (by decide)) (frame_releaseUnits _)
    exact Frame_step frame_consentParts (frame_pwResult _ _ _ _)
  · exact Frame_refl _ _ _

theorem frame_waitingGone (d : Dev) : Frame consentPieces upkeepRegs d (waitingGone d) := by
  simp only [waitingGone]
  split
  · refine Frame_ite _ (frame_counted .pwCancelled 0 1 ?_ (by decide) (by decide)) (Frame_refl _ _ _)
    exact Frame_step frame_consentParts (frame_pwResult _ _ _ _)
  · exact Frame_refl _ _ _

theorem frame_consentGone (d : Dev) : Frame consentPieces upkeepRegs d (consentGone d) := by
  simp only [consentGone]
  split
  · exact Frame_step (Frame_ite _ (frame_cancelChange d) (Frame_refl _ _ _)) (frame_waitingGone _)
  · exact frame_waitingGone d

theorem frame_endConsent (d : Dev) : Frame consentPieces upkeepRegs d (endConsent d) :=
  Frame_step frame_consentParts (frame_consentGone _)

/-! ### Of the activation, only a Sleep Notice that waits is touched -/

@[simp] theorem powerHoldEnd_act (d : Dev) : (powerHoldEnd d).act = d.act := by
  simp only [powerHoldEnd]
  split
  · rw [raise_act]
  · rfl

@[simp] theorem releaseUnits_act (d : Dev) : (releaseUnits d).act = d.act := by
  simp only [releaseUnits]
  split
  · rfl
  · refine List.foldlRecOn (motive := fun b : Dev => b.act = d.act) _ _ rfl fun b hb k _ => ?_
    split <;> exact hb

@[simp] theorem pwResult_act (o : PowerOrigin) (r c : Nat) (d : Dev) : (pwResult o r c d).act = d.act := by
  match o with
  | .host | .entry .l | .entry .s | .entry .h | .controller => rfl

theorem cancelChange_act (d : Dev) :
    (cancelChange d).act = { d.act with noticePending := (cancelChange d).act.noticePending } := by
  simp only [cancelChange]
  split
  · split
    · simp only [powerHoldEnd_act, releaseUnits_act, count_act, pwResult_act]
    · rfl
  · rfl

@[simp] theorem waitingGone_act (d : Dev) : (waitingGone d).act = d.act := by
  simp only [waitingGone]
  split
  · split
    · rw [count_act, pwResult_act]
    · rfl
  · rfl

theorem consentGone_act (d : Dev) :
    (consentGone d).act = { d.act with noticePending := (consentGone d).act.noticePending } := by
  simp only [consentGone]
  split
  · rw [waitingGone_act]
    split
    · exact cancelChange_act d
    · rfl
  · rw [waitingGone_act]

theorem endConsent_act (d : Dev) : (endConsent d).act =
    { d.act with sleepStates := 0, sleepUntil := none, noticePending := (endConsent d).act.noticePending } :=
  consentGone_act _

/-! ## Grants and upstream data (R130, R181) -/

/-- The pieces that lost grants and dropped data may touch. -/
def dropPieces : List Piece := [.regs, .host, .emitted, .cnt, .up, .tm, .cls]

theorem frame_dropParts {d : Dev} {rs : List Reg} {u : UpSt} {q : TmSt} {c : ClsSt} :
    Frame dropPieces rs d { d with up := u, tm := q, cls := c } := by
  refine ⟨fun p hp => ?_, KeepRegs_of_eq rfl⟩
  cases p with
  | up | tm | cls => exact absurd (by decide) hp
  | _ => rfl

theorem frame_loseGrant (d : Dev) (g : Grant) : Frame dropPieces upkeepRegs d (loseGrant d g) := by
  simp only [loseGrant]
  split
  · exact Frame_refl _ _ _
  · refine Frame_step ?_ (Frame_mono (frame_raiseIf _ fLE_GRANT_EVENT_REISSUE 0 _ (by decide)) (by decide) (by decide))
    exact frame_counted .reissuedEnvelopes g.ch _ frame_dropParts (by decide) (by decide)

theorem frame_abandonGrants (p : Grant → Bool) (d : Dev) : Frame dropPieces upkeepRegs d (abandonGrants p d) := by
  simp only [abandonGrants]
  exact Frame_step frame_dropParts (Frame_foldl _ frame_loseGrant _ _)

theorem frame_modSlot (k : Nat) (f : GenSlot → GenSlot) (d : Dev) : Frame dropPieces upkeepRegs d (modSlot k f d) := by
  match k with
  | 0 | 1 | 2 | 3 => exact frame_dropParts
  | _ + 4 => exact Frame_refl _ _ _

theorem frame_drainDown (k : Nat) (d : Dev) : Frame dropPieces upkeepRegs d (drainDown k d) := by
  simp only [drainDown]
  refine Frame_ite _ (Frame_step ?_ (Frame_mono (frame_raise fCL_EVENT_SLOT_FREE 0 _ (by decide)) (by decide) (by decide)))
    (frame_modSlot _ _ _)
  exact Frame_step (frame_modSlot _ _ _) (frame_modSlot _ _ _)

theorem frame_dropCopies (ps : List QPkt) (d : Dev) : Frame dropPieces upkeepRegs d (dropCopies ps d) :=
  Frame_foldl (fun d p => drainDown p.slot d) (fun d p => frame_drainDown p.slot d) ps d

theorem frame_endEnvs (es : List OutEnv) (d : Dev) : Frame dropPieces upkeepRegs d (endEnvs es d) := by
  simp only [endEnvs]
  refine Frame_foldl _ (fun d e => ?_) es d
  split
  · exact frame_drainDown _ d
  · exact Frame_refl _ _ _

theorem frame_emptied (q : Nat) (d : Dev) : Frame dropPieces upkeepRegs d (emptied q d) := by
  simp only [emptied]
  exact Frame_ite _ (Frame_ite _ (Frame_step frame_dropParts frame_dropParts) frame_dropParts) (Frame_refl _ _ _)

theorem frame_dropUpstream (d : Dev) : Frame dropPieces upkeepRegs d (dropUpstream d) := by
  simp only [dropUpstream]
  refine Frame_step (Frame_step (Frame_foldl _ (fun d e => ?_) _ _) (Frame_foldl _ (fun d e => ?_) _ _)) frame_dropParts
  · refine frame_counted .clearDrops _ _ (Frame_step ?_ (frame_dropCopies _ _)) (by decide) (by decide)
    exact Frame_step frame_dropParts (frame_emptied _ _)
  · exact frame_counted .clearDrops _ _ (frame_endEnvs _ d) (by decide) (by decide)

/-! ## The record and the activation state (R129, R130) -/

/-- The pieces that a change of the activation state may touch, the clearing of the record with it. -/
def recordPieces : List Piece := [.dict, .cipher, .bond] ++ consentPieces ++ dropPieces

/-- The registers that a change of the activation state may touch, the clearing of the record with it. -/
def recordRegs : List Reg := [.actStatus, .actEvent, .actEqdW, .actEqdP, .leTrib] ++ upkeepRegs

theorem frame_recordParts {d : Dev} {rs : List Reg} {di : List (Nat × List Byte)} {c : CipherSt} {b : BondSt} {w : PwrSt}
    {x : ActSt} {f : FsSt} {u : UpSt} :
    Frame recordPieces rs d { d with dict := di, cipher := c, bond := b, pwr := w, act := x, fs := f, up := u } := by
  refine ⟨fun p hp => ?_, KeepRegs_of_eq rfl⟩
  cases p with
  | dict | cipher | bond | pwr | act | fs | up => exact absurd (by decide) hp
  | _ => rfl

theorem frame_record_of_consent {a b : Dev} (h : Frame consentPieces upkeepRegs a b) : Frame recordPieces recordRegs a b :=
  Frame_mono h (by decide) (by decide)

theorem frame_record_of_drop {a b : Dev} (h : Frame dropPieces upkeepRegs a b) : Frame recordPieces recordRegs a b :=
  Frame_mono h (by decide) (by decide)

/-- A register of the record set. -/
theorem frame_record_setReg {r : Reg} {i : Nat} {v : Word} {d : Dev} (hr : r ∈ recordRegs) (hi : i < (regPlace r).2.2) :
    Frame recordPieces recordRegs d (setReg r i v d) :=
  Frame_mono (frame_setReg r i v d hi) (by decide) (by simpa using hr)

/-- An event of the activation. -/
theorem frame_record_raise {f : Fld} {d : Dev} (hr : f.reg ∈ recordRegs) (hi : 0 < (regPlace f.reg).2.2) :
    Frame recordPieces recordRegs d (raise f 0 d) :=
  Frame_mono (frame_raise f 0 d hi) (by decide) (by simpa using hr)

/-- Number, home and delays erased, the home channel kept for Sleep and lifeline (R130, R550). -/
def eraseNumber (d : Dev) : Dev :=
  let d := { d with pwr := { d.pwr with home := keptHome d } }
  let d := setFld fACT_STATUS_NUM_VALID 0 0 (setFld fACT_STATUS_TERM_NUM 0 0 (setFld fACT_STATUS_HOME 0 0 d))
  let d := setFld fACT_STATUS_RANGED_W 0 0 (setFld fACT_STATUS_RANGED_P 0 0 d)
  setFld fACT_EQD_W_EQD 0 0 (setFld fACT_EQD_P_EQD 0 0 d)

/-- What goes with the number: keys of set 0 and check values, flows, delays and messages that wait, sequences (R130). -/
def eraseHeld (d : Dev) : Dev :=
  { d with
    cipher := { d.cipher with keys := d.cipher.keys.filter (fun e => 4 ≤ e.1), slots := d.cipher.slots.filter (fun e => 2 ≤ e.1) },
    bond := { d.bond with flows := [], mgmtReplaced := false },
    act := { d.act with provDelay := 0, ranging := none, keySwitch := none, delayPend := [], delayHist := [], outbox := [] },
    fs := fsForget d.fs,
    up := { d.up with forecast := [], seqs := [] } }

theorem clearRecord_eq (d : Dev) : clearRecord d =
    dropUpstream (endConsent (eraseHeld (setReg .leTrib 0 0 (defaultEntries 0x2400 0x2C7F (eraseNumber d))))) := rfl

theorem eraseHeld_regs (d : Dev) : (eraseHeld d).regs = d.regs := rfl

theorem defaultEntries_regs (lo hi : Nat) (d : Dev) : (defaultEntries lo hi d).regs = d.regs := rfl

theorem defaultEntries_act (lo hi : Nat) (d : Dev) : (defaultEntries lo hi d).act = d.act := rfl

theorem eraseHeld_timers (d : Dev) :
    (eraseHeld d).act.rangingDue = d.act.rangingDue ∧ (eraseHeld d).act.lossDue = d.act.lossDue := ⟨rfl, rfl⟩

/-- The erasing of the number sets registers, and the home channel that is kept. -/
theorem frame_eraseNumber (d : Dev) : Frame [.pwr, .regs] [.actStatus, .actEqdW, .actEqdP] d (eraseNumber d) := by
  have step : ∀ {b : Dev} (f : Fld), f.reg ∈ [Reg.actStatus, .actEqdW, .actEqdP] → 0 < (regPlace f.reg).2.2 →
      Frame [.pwr, .regs] [.actStatus, .actEqdW, .actEqdP] d b →
      Frame [.pwr, .regs] [.actStatus, .actEqdW, .actEqdP] d (setFld f 0 0 b) := fun f hr hi h =>
    Frame_step h (Frame_mono (frame_setFld f 0 0 _ hi) (by decide) (by simpa using hr))
  have kept : Frame [.pwr, .regs] [.actStatus, .actEqdW, .actEqdP] d { d with pwr := { d.pwr with home := keptHome d } } := by
    refine ⟨fun p hp => ?_, KeepRegs_of_eq rfl⟩
    cases p with
    | pwr => exact absurd (by decide) hp
    | _ => rfl
  refine step fACT_EQD_W_EQD (by decide) (by decide) (step fACT_EQD_P_EQD (by decide) (by decide) ?_)
  refine step fACT_STATUS_RANGED_W (by decide) (by decide) (step fACT_STATUS_RANGED_P (by decide) (by decide) ?_)
  refine step fACT_STATUS_NUM_VALID (by decide) (by decide) (step fACT_STATUS_TERM_NUM (by decide) (by decide) ?_)
  exact step fACT_STATUS_HOME (by decide) (by decide) kept

theorem frame_clearRecord (d : Dev) : Frame recordPieces recordRegs d (clearRecord d) := by
  rw [clearRecord_eq]
  refine Frame_step ?_ (frame_record_of_drop (frame_dropUpstream _))
  refine Frame_step ?_ (frame_record_of_consent (frame_endConsent _))
  refine Frame_step ?_ frame_recordParts
  refine Frame_step ?_ (frame_record_setReg (by decide) (by decide))
  exact Frame_step (Frame_mono (frame_eraseNumber d) (by decide) (by decide)) frame_recordParts

/-- After the number is erased, the clearing leaves the registers of the activation. -/
theorem fld_clearRecord {f : Fld} (d : Dev) (hr : f.reg ∉ upkeepRegs) (ht : f.reg ≠ .leTrib) (hi : 0 < (regPlace f.reg).2.2) :
    fld (clearRecord d) f 0 = fld (eraseNumber d) f 0 := by
  rw [clearRecord_eq, Frame_fld (frame_dropUpstream _) hr hi, Frame_fld (frame_endConsent _) hr hi]
  rw [fld_of_regs (eraseHeld_regs _), fld_setReg_ne .leTrib f 0 0 0 _ ht (by decide) hi,
    fld_of_regs (defaultEntries_regs _ _ _)]

@[simp] theorem numHeld_clearRecord (d : Dev) : numHeld (clearRecord d) = false := by
  rw [numHeld, fld_clearRecord d (by decide) (by decide) (by decide), eraseNumber]
  simp (disch := decide) only [fld_setFld_ne, fld_setFld_apart, fld_setFld_same]
  rfl

@[simp] theorem actState_clearRecord (d : Dev) : actState (clearRecord d) = actState d := by
  rw [actState, fld_clearRecord d (by decide) (by decide) (by decide), eraseNumber]
  simp (disch := decide) only [fld_setFld_ne, fld_setFld_apart]
  exact fld_of_regs rfl _ _

/-- The events of the activation stand when the record is cleared. -/
theorem fld_clearRecord_event (d : Dev) {f : Fld} (h : f.reg = .actEvent) : fld (clearRecord d) f 0 = fld d f 0 := by
  rw [fld_clearRecord d (by rw [h]; decide) (by rw [h]; decide) (by rw [h]; decide)]
  exact Frame_fld (frame_eraseNumber d) (by rw [h]; decide) (by rw [h]; decide)

/-- The timers of the activation stand when the record is cleared. -/
theorem clearRecord_timers (d : Dev) :
    (clearRecord d).act.rangingDue = d.act.rangingDue ∧ (clearRecord d).act.lossDue = d.act.lossDue := by
  rw [clearRecord_eq, (frame_dropUpstream _).1 .act (by decide), endConsent_act]
  have act : (setReg .leTrib 0 0 (defaultEntries 0x2400 0x2C7F (eraseNumber d))).act = d.act := by
    rw [setReg_act, defaultEntries_act, (frame_eraseNumber d).1 .act (by decide)]
  obtain ⟨ranging, loss⟩ := eraseHeld_timers (setReg .leTrib 0 0 (defaultEntries 0x2400 0x2C7F (eraseNumber d)))
  rw [act] at ranging loss
  exact ⟨ranging, loss⟩

/-! ### The state (R129) -/

theorem frame_setState (n : Nat) (d : Dev) : Frame recordPieces recordRegs d (setState n d) := by
  simp only [setState]
  refine Frame_ite _ (Frame_refl _ _ _) (Frame_step ?_ (frame_record_raise (by decide) (by decide)))
  refine Frame_step ?_ (frame_record_setReg (by decide) (by decide))
  exact Frame_ite _ (frame_record_of_consent (frame_endConsent d)) (Frame_refl _ _ _)

theorem frame_settleState (d : Dev) : Frame recordPieces recordRegs d (settleState d) := by
  simp only [settleState]
  refine Frame_ite _ (frame_setState 2 d) (Frame_ite _ (Frame_step ?_ (frame_setState 1 _)) (Frame_refl _ _ _))
  exact frame_record_of_drop (frame_abandonGrants _ d)

theorem frame_startRanging (d : Dev) : Frame recordPieces recordRegs d (startRanging d) := frame_recordParts

theorem frame_actOnUp (d : Dev) : Frame recordPieces recordRegs d (actOnUp d) := by
  simp only [actOnUp]
  refine Frame_ite _ (Frame_refl _ _ _) (Frame_ite _ ?leavesInitial (Frame_ite _ ?lossOver (Frame_refl _ _ _)))
  case leavesInitial =>
    exact Frame_ite _ (Frame_step (frame_setState 6 d) (frame_record_raise (by decide) (by decide)))
      (Frame_step (frame_setState 1 d) (frame_settleState _))
  case lossOver =>
    exact Frame_ite _ (Frame_step frame_recordParts (frame_setState 4 _))
      (Frame_step (Frame_step frame_recordParts (frame_setState 3 _)) (frame_startRanging _))

theorem frame_actOnDown (d : Dev) : Frame recordPieces recordRegs d (actOnDown d) := by
  simp only [actOnDown]
  refine Frame_ite _ (Frame_refl _ _ _) (Frame_ite _ ?toInitial (Frame_ite _ ?toLoss (Frame_refl _ _ _)))
  case toInitial => exact Frame_step (Frame_step frame_recordParts (frame_setState 0 _)) (frame_clearRecord _)
  case toLoss => exact Frame_step frame_recordParts (frame_setState 5 _)

/-- A state that was set reads as set. -/
theorem actState_setState {n : Nat} (hn : n < 8) (d : Dev) : actState (setState n d) = n := by
  simp only [setState]
  split
  · assumption
  · rw [actState, fld_raise_ne fACT_EVENT_STATE_CHANGE fACT_STATUS_STATE 0 0 _ (by decide) (by decide) (by decide),
      fld_setFld_same fACT_STATUS_STATE 0 n _ (by decide) (by decide)]
    exact Nat.mod_eq_of_lt hn

/-- Out of Operation a new state changes nothing else that the activation holds. -/
theorem setState_act {d : Dev} (n : Nat) (h : actState d ≠ 4) : (setState n d).act = d.act := by
  simp only [setState, if_neg h]
  split
  · rfl
  · rw [raise_act, setFld_act]

/-- Out of Operation a new state leaves the number held. -/
theorem numHeld_setState {d : Dev} (n : Nat) (h : actState d ≠ 4) : numHeld (setState n d) = numHeld d := by
  simp only [setState, if_neg h]
  split
  · rfl
  · rw [numHeld, fld_raise_ne fACT_EVENT_STATE_CHANGE fACT_STATUS_NUM_VALID 0 0 _ (by decide) (by decide) (by decide),
      fld_setFld_apart fACT_STATUS_STATE fACT_STATUS_NUM_VALID 0 n d rfl (by decide) (by decide) (by decide) (by decide),
      numHeld]

/-- Out of Operation a new state raises one event; the others stand. -/
theorem fld_setState_event {d : Dev} {f : Fld} (n : Nat) (h : actState d ≠ 4) (hr : f.reg = .actEvent) (hl : 0 < f.lo)
    (hf : f.lo ≤ f.hi) : fld (setState n d) f 0 = fld d f 0 := by
  simp only [setState, if_neg h]
  split
  · rfl
  · rw [fld_raise_apart fACT_EVENT_STATE_CHANGE f 0 _ hr (by decide) (by decide) hf (.inl hl),
      fld_setFld_ne fACT_STATUS_STATE f 0 0 n d (by rw [hr]; decide) (by decide) (by rw [hr]; decide)]

/-- Standby is settled into Serial Number, or stays (R129). -/
theorem settleState_of_standby {d : Dev} (h : actState d = 1) : settleState d = setState 2 d ∨ settleState d = d := by
  simp only [settleState, h, true_and]
  split
  · exact .inl rfl
  · exact .inr (if_neg (by omega))

/-! ### The channels and the protection switch stand -/

@[simp] theorem abandonGrants_chans (p : Grant → Bool) (d : Dev) : (abandonGrants p d).chans = d.chans :=
  (frame_abandonGrants p d).1 .chans (by decide)
@[simp] theorem abandonGrants_prot (p : Grant → Bool) (d : Dev) : (abandonGrants p d).prot = d.prot :=
  (frame_abandonGrants p d).1 .prot (by decide)
@[simp] theorem abandonGrants_act (p : Grant → Bool) (d : Dev) : (abandonGrants p d).act = d.act :=
  (frame_abandonGrants p d).1 .act (by decide)
@[simp] theorem actOnUp_chans (d : Dev) : (actOnUp d).chans = d.chans := (frame_actOnUp d).1 .chans (by decide)
@[simp] theorem actOnUp_prot (d : Dev) : (actOnUp d).prot = d.prot := (frame_actOnUp d).1 .prot (by decide)
@[simp] theorem actOnDown_chans (d : Dev) : (actOnDown d).chans = d.chans := (frame_actOnDown d).1 .chans (by decide)
@[simp] theorem actOnDown_prot (d : Dev) : (actOnDown d).prot = d.prot := (frame_actOnDown d).1 .prot (by decide)

/-! ## Longcase looked at again (R423, R427) -/

theorem frame_ltEval (d : Dev) : Frame [.lc, .regs, .host, .emitted] [.ltEvent] d (ltEval d) := by
  simp only [ltEval, enterHoldover]
  refine Frame_ite _ (Frame_ite _ (Frame_step ?_ (Frame_mono (frame_raise fLT_EVENT_HOLDOVER 0 _ (by decide))
    (by decide) (by decide))) (Frame_refl _ _ _)) (Frame_refl _ _ _)
  refine ⟨fun p hp => ?_, KeepRegs_of_eq rfl⟩
  cases p with
  | lc => exact absurd (by decide) hp
  | _ => rfl

@[simp] theorem ltEval_chans (d : Dev) : (ltEval d).chans = d.chans := (frame_ltEval d).1 .chans (by decide)
@[simp] theorem ltEval_prot (d : Dev) : (ltEval d).prot = d.prot := (frame_ltEval d).1 .prot (by decide)

/-! ## The protection hold and the protection switch (R71, R202) -/

theorem Only_step {ps : List Piece} {a b c : Dev} (h : Only ps a b) (k : Only ps b c) : Only ps a c :=
  Only_mono (Only_trans h k) (by simp)

theorem Only_ite {ps : List Piece} {a b c : Dev} (p : Prop) [Decidable p] (h : Only ps a b) (k : Only ps a c) :
    Only ps a (if p then b else c) := by
  split
  · exact h
  · exact k

/-- A fold whose every step changes only these pieces. -/
theorem Only_foldl {β : Type} {ps : List Piece} {f : Dev → β → Dev} (h : ∀ d x, Only ps d (f d x)) :
    ∀ (l : List β) (d : Dev), Only ps d (l.foldl f d)
  | [], d => Only_refl ps d
  | x :: l, d => Only_step (h d x) (Only_foldl h l (f d x))

/-- The pieces that a hold of the Firescreen may touch. -/
def holdPieces : List Piece := [.fs, .regs, .host, .emitted]

theorem only_fs {d : Dev} {x : FsSt} : Only holdPieces d { d with fs := x } := fun p hp => by
  cases p with
  | fs => exact absurd (by decide) hp
  | _ => rfl

/-- A change of holds that leaves the thermal hold darkens nothing at once. -/
theorem only_setHolds {f : FsSt → FsSt} (d : Dev) (h : (f d.fs).thermal = d.fs.thermal) :
    Only holdPieces d (setHolds f d) := by
  simp only [setHolds, h, Bool.and_not_self, Bool.false_eq_true, if_false]
  exact Only_ite _ only_fs (Only_step only_fs (Only_mono (only_raise fFS_EVENT_HOLD_CHANGE 0 _) (by decide)))

theorem only_pathAnew (d : Dev) : Only holdPieces d (protPathAnew d) := Only_foldl (fun _ _ => only_fs) _ d

theorem only_protHold (toggled : Bool) (d : Dev) : Only holdPieces d (protHold toggled d) := by
  simp only [protHold]
  exact Only_step (Only_ite _ (only_pathAnew d) (Only_refl _ d)) (only_setHolds _ rfl)

theorem only_protHoldEnd (d : Dev) : Only holdPieces d (protHoldEnd d) := by
  simp only [protHoldEnd]
  exact Only_ite _ (only_setHolds d rfl) (Only_refl _ d)

@[simp] theorem protHold_prot (toggled : Bool) (d : Dev) : (protHold toggled d).prot = d.prot :=
  only_protHold toggled d .prot (by decide)
@[simp] theorem protHoldEnd_prot (d : Dev) : (protHoldEnd d).prot = d.prot := only_protHoldEnd d .prot (by decide)

theorem only_modProt {f : Prot → Prot} {d : Dev} : Only (.prot :: holdPieces) d (modProt f d) := fun p hp => by
  cases p with
  | prot => exact absurd (by decide) hp
  | _ => rfl

theorem only_protNormal (d : Dev) : Only (.prot :: holdPieces) d (protNormal d) :=
  Only_step only_modProt (Only_mono (only_protHoldEnd _) (by decide))

/-- Whatever protection comes to, it changes its own state and its hold. -/
theorem only_protEval (d : Dev) : Only (.prot :: holdPieces) d (protEval d) := by
  have holdoff : ∀ f, Only (.prot :: holdPieces) d (protHold false (modProt f d)) := fun f =>
    Only_step only_modProt (Only_mono (only_protHold false _) (by decide))
  have normal := only_protNormal d
  have same := Only_refl (.prot :: holdPieces) d
  simp only [protEval]
  refine Only_ite _ same ?_
  split
  · exact Only_ite _ (Only_ite _ normal same) (Only_ite _ (holdoff _) same)
  · exact Only_ite _ same normal
  · exact Only_ite _ normal same
  · exact Only_ite _ normal (Only_ite _ (holdoff _) same)
  · exact same

@[simp] theorem protEval_chans (d : Dev) : (protEval d).chans = d.chans := only_protEval d .chans (by decide)

end Sys2Proof.Proofs
end

section
/-!
PROOF. Reception of the line (R35, R36, R47 to R52, R61, R72): what the commands of loss of signal and of a received frame leave
of a lane, and that a channel with a lane out of Sync is not up.
-/

namespace Sys2Proof.Proofs

open Sys2Proof Sys2Proof.Machine Sys2Proof.Laws

/-! ## Receivers of a channel -/

/-- What a channel receives with: both its lanes, and LCn_RXLOS. -/
def receivers (c : Chan) : LaneRx × LaneRx × Bool := (c.laneA, c.laneB, c.rxlos)

theorem laneOf_of_receivers {c c' : Chan} (h : receivers c' = receivers c) (b : Bool) : laneOf c' b = laneOf c b := by
  simp only [receivers, Prod.mk.injEq] at h
  obtain ⟨ha, hb, -⟩ := h
  cases b
  · exact ha
  · exact hb

theorem rxlos_of_receivers {c c' : Chan} (h : receivers c' = receivers c) : c'.rxlos = c.rxlos :=
  congrArg (fun x : LaneRx × LaneRx × Bool => x.2.2) h

theorem receivers_of_chans {a b : Dev} (h : b.chans = a.chans) (n : Nat) : receivers (chan b n) = receivers (chan a n) :=
  congrArg receivers (chan_of_chans h n)

/-- A change of a channel past its receivers leaves every channel's. -/
theorem receivers_modChan {f : Chan → Chan} (h : ∀ c, receivers (f c) = receivers c) (ch n : Nat) (d : Dev) :
    receivers (chan (modChan ch f d) n) = receivers (chan d n) := by
  by_cases hn : n = ch
  · rw [hn, chan_modChan_same, h]
  · rw [chan_modChan_ne f d hn]

theorem laneOf_modChan {f : Chan → Chan} (ha : ∀ c, (f c).laneA = c.laneA) (hb : ∀ c, (f c).laneB = c.laneB) (ch : Nat)
    (b : Bool) (d : Dev) : laneOf (chan (modChan ch f d) ch) b = laneOf (chan d ch) b := by
  rw [chan_modChan_same]
  cases b
  · exact ha _
  · exact hb _

@[simp] theorem laneOf_modLane_same (ch : Nat) (b : Bool) (f : LaneRx → LaneRx) (d : Dev) :
    laneOf (chan (modLane ch b f d) ch) b = f (laneOf (chan d ch) b) := by
  rw [modLane, chan_modChan_same]
  cases b <;> rfl

@[simp] theorem laneOf_modLane_other (ch : Nat) (b : Bool) (f : LaneRx → LaneRx) (d : Dev) :
    laneOf (chan (modLane ch b f d) ch) (!b) = laneOf (chan d ch) (!b) := by
  rw [modLane, chan_modChan_same]
  cases b <;> rfl

@[simp] theorem rxlos_modLane (ch : Nat) (b : Bool) (f : LaneRx → LaneRx) (d : Dev) :
    (chan (modLane ch b f d) ch).rxlos = (chan d ch).rxlos := by
  rw [modLane, chan_modChan_same]
  cases b <;> rfl

@[simp] theorem modLane_prot (ch : Nat) (b : Bool) (f : LaneRx → LaneRx) (d : Dev) : (modLane ch b f d).prot = d.prot := rfl

/-! ## Channels up and down (R36, R66) -/

@[simp] theorem chanFall_prot (ch : Nat) (d : Dev) : (chanFall ch d).prot = d.prot := by
  rw [chanFall, ltEval_prot, actOnDown_prot, abandonGrants_prot, raise_prot, modChan_prot]

theorem receivers_chanFall (ch n : Nat) (d : Dev) : receivers (chan (chanFall ch d) n) = receivers (chan d n) := by
  rw [chanFall, receivers_of_chans (ltEval_chans _), receivers_of_chans (actOnDown_chans _),
    receivers_of_chans (abandonGrants_chans _ _), receivers_of_chans (raise_chans _ _ _), receivers_modChan]
  exact fun _ => rfl

theorem chanUp_chanFall (ch : Nat) (d : Dev) : chanUp (chanFall ch d) ch = false := by
  rw [chanUp, chanFall, chan_of_chans (ltEval_chans _), chan_of_chans (actOnDown_chans _),
    chan_of_chans (abandonGrants_chans _ _), chan_of_chans (raise_chans _ _ _), chan_modChan_same]

@[simp] theorem chanEval_prot (ch : Nat) (d : Dev) : (chanEval ch d).prot = d.prot := by
  simp only [chanEval]
  split
  · rfl
  · split
    · rw [actOnUp_prot, modChan_prot]
    · exact chanFall_prot ch d

/-- A channel looked at again has the receivers it had. -/
theorem receivers_chanEval (ch n : Nat) (d : Dev) : receivers (chan (chanEval ch d) n) = receivers (chan d n) := by
  simp only [chanEval]
  split
  · rfl
  · split
    · rw [receivers_of_chans (actOnUp_chans _), receivers_modChan]
      exact fun _ => rfl
    · exact receivers_chanFall ch n d

/-- With a lane out of Sync a channel looked at again is not up (R36). -/
theorem chanUp_chanEval_of_out {ch : Nat} {b : Bool} {d : Dev} (h : laneSync d ch b = false) :
    chanUp (chanEval ch d) ch = false := by
  have good : chanGood d ch = false := by
    cases b <;> simp [chanGood, h]
  simp only [chanEval, good]
  split
  · rename_i same
    exact same.symm
  · exact chanUp_chanFall ch d

/-! ## Loss of signal (R35, R61, R72) -/

/-- From device a to device b a lane has come into LOS; the other lane, LCn_RXLOS and the protection switch stand. -/
structure LaneLost (ch : Nat) (lane : Bool) (a b : Dev) : Prop where
  los : (laneOf (chan b ch) lane).al.align = .los
  noSignal : (laneOf (chan b ch) lane).noSignal = (laneOf (chan a ch) lane).noSignal
  other : laneOf (chan b ch) (!lane) = laneOf (chan a ch) (!lane)
  rxlos : (chan b ch).rxlos = (chan a ch).rxlos
  prot : b.prot = a.prot

theorem laneRehunt_noSignal (l : LaneRx) : (laneRehunt l).noSignal = l.noSignal := by
  simp only [laneRehunt]
  split <;> rfl

/-- Outside a settle time a lane that loses its signal is in LOS. -/
theorem laneLos_lost {ch : Nat} {lane : Bool} {d : Dev} (h : d.prot.settling = false) :
    LaneLost ch lane d (laneLos ch lane d) := by
  by_cases was : (laneOf (chan d ch) lane).al.align = .los
  · rw [show laneLos ch lane d = d from if_pos (.inr was)]
    exact ⟨was, rfl, rfl, rfl, rfl⟩
  · simp only [laneLos, h, was, Bool.false_eq_true, or_self, if_false]
    have kept : ∀ (x : Dev) (f g : Fld) (left : Bool),
        receivers (chan (chanEval ch (raise f ch (raiseIf left g ch
          (modChan ch (fun c => { c with deskewed := false, skewGood := 0 }) x)))) ch) = receivers (chan x ch) := fun x f g left => by
      rw [receivers_chanEval, receivers_of_chans (raise_chans _ _ _), receivers_of_chans (raiseIf_chans _ _ _ _),
        receivers_modChan]
      exact fun _ => rfl
    refine ⟨?_, ?_, ?_, ?_, ?_⟩
    · rw [laneOf_of_receivers (kept _ _ _ _), laneOf_modLane_same]
    · rw [laneOf_of_receivers (kept _ _ _ _), laneOf_modLane_same]
      exact laneRehunt_noSignal _
    · rw [laneOf_of_receivers (kept _ _ _ _), laneOf_modLane_other]
    · rw [rxlos_of_receivers (kept _ _ _ _), rxlos_modLane]
    · rw [chanEval_prot, raise_prot, raiseIf_prot, modChan_prot, modLane_prot]

/-- A lane without its signal, whatever the cause, is in LOS and noted. -/
theorem laneNoSignal_lost {ch : Nat} {lane : Bool} {d : Dev} (h : d.prot.settling = false) :
    (laneOf (chan (protEval (laneNoSignal ch lane d)) ch) lane).al.align = .los ∧
      (laneOf (chan (protEval (laneNoSignal ch lane d)) ch) lane).noSignal = true := by
  have lost : LaneLost ch lane (modLane ch lane (fun l => { l with noSignal := true }) d) (laneNoSignal ch lane d) :=
    laneLos_lost h
  rw [chan_of_chans (protEval_chans _)]
  refine ⟨lost.los, ?_⟩
  rw [lost.noSignal, laneOf_modLane_same]

theorem losEntered_noLock (t : Time) (ch : Fin 16) (l : Lane) : RunsAt (.losEntered t ch (.noLock l)) t
    (fun a => chanPresent a ch = true ∧ a.prot.settling = false)
    (fun _ d => (laneOf (chan d ch) (l == .b)).al.align = .los ∧ (laneOf (chan d ch) (l == .b)).noSignal = true) := by
  refine runsAt_of (exec_losEntered t ch (.noLock l)) fun a ⟨hp, hs⟩ => ?_
  simp only [losEntered, hp, Bool.not_true, Bool.false_eq_true, if_false]
  exact laneNoSignal_lost hs

theorem losEntered_noTransitions (t : Time) (ch : Fin 16) (l : Lane) : RunsAt (.losEntered t ch (.noTransitions l)) t
    (fun a => chanPresent a ch = true ∧ a.prot.settling = false)
    (fun _ d => (laneOf (chan d ch) (l == .b)).al.align = .los ∧ (laneOf (chan d ch) (l == .b)).noSignal = true) := by
  refine runsAt_of (exec_losEntered t ch (.noTransitions l)) fun a ⟨hp, hs⟩ => ?_
  simp only [losEntered, hp, Bool.not_true, Bool.false_eq_true, if_false]
  exact laneNoSignal_lost hs

/-- LCn_RXLOS puts both lanes into LOS, lane A first (R35). -/
theorem losEntered_rxlos (t : Time) (ch : Fin 16) : RunsAt (.losEntered t ch .rxlos) t
    (fun a => chanPresent a ch = true ∧ a.prot.settling = false)
    (fun _ d => (chan d ch).rxlos = true ∧ (chan d ch).laneA.al.align = .los ∧ (chan d ch).laneB.al.align = .los) := by
  refine runsAt_of (exec_losEntered t ch .rxlos) fun a ⟨hp, hs⟩ => ?_
  simp only [losEntered, hp, Bool.not_true, Bool.false_eq_true, if_false, chan_of_chans (protEval_chans _)]
  have lostA := laneLos_lost (ch := ch) (lane := false) (d := modChan ch (fun c => { c with rxlos := true }) a) hs
  have lostB := laneLos_lost (ch := ch) (lane := true) (lostA.prot ▸ hs)
  refine ⟨?_, ?_, lostB.los⟩
  · rw [lostB.rxlos, lostA.rxlos, chan_modChan_same]
  · exact (congrArg (·.al.align) lostB.other).trans lostA.los

/-- A lane with its signal again, and LCn_RXLOS low (R61). -/
def signalBack (ch : Nat) (lane : Bool) (d : Dev) : Dev :=
  modChan ch (fun c => { c with rxlos := false }) (modLane ch lane (fun l => { l with noSignal := false }) d)

theorem laneOf_signalBack (ch : Nat) (lane : Bool) (d : Dev) :
    laneOf (chan (signalBack ch lane d) ch) lane = { laneOf (chan d ch) lane with noSignal := false } := by
  rw [signalBack, laneOf_modChan, laneOf_modLane_same]
  · exact fun _ => rfl
  · exact fun _ => rfl

theorem rxlos_signalBack (ch : Nat) (lane : Bool) (d : Dev) : (chan (signalBack ch lane d) ch).rxlos = false := by
  rw [signalBack, chan_modChan_same]

/-- LOS_LEFT on an Active lane in LOS, outside a settle time. -/
theorem losLeft_eq {ch : Nat} {lane : Bool} {d : Dev} (hp : chanPresent d ch = true)
    (hst : (serial d (rxKey ch lane)).st = 6) (hs : d.prot.settling = false)
    (hlos : (laneOf (chan d ch) lane).al.align = .los) :
    losLeft ch lane d = protEval (modLane ch lane (fun l => { l with al := { l.al with align := .hunt, cands := [] } })
      (signalBack ch lane d)) := by
  have guard : (!chanPresent d ch || (serial d (rxKey ch lane)).st != 6) = false := by simp [hp, hst]
  have inLos : (laneOf (chan (signalBack ch lane d) ch) lane).al.align = .los := by rw [laneOf_signalBack, hlos]
  have waits : ¬ ((signalBack ch lane d).prot.settling = true ∨
      (laneOf (chan (signalBack ch lane d) ch) lane).al.align ≠ .los) := fun h =>
    h.elim (fun settling => Bool.false_ne_true (hs.symm.trans settling)) (fun other => other inLos)
  rw [losLeft, guard]
  exact if_neg waits

/-- The signal is back on an Active lane in LOS: it hunts (R48, R61). -/
theorem losLeft_hunts (t : Time) (ch : Fin 16) (l : Lane) : RunsAt (.losLeft t ch l) t
    (fun a => chanPresent a ch = true ∧ (serial a (rxKey ch (l == .b))).st = 6 ∧ a.prot.settling = false ∧
      (laneOf (chan a ch) (l == .b)).al.align = .los)
    (fun _ d => (laneOf (chan d ch) (l == .b)).al.align = .hunt ∧ (laneOf (chan d ch) (l == .b)).noSignal = false ∧
      (chan d ch).rxlos = false) := by
  refine runsAt_of (exec_losLeft t ch l) fun a ⟨hp, hst, hs, hlos⟩ => ?_
  rw [losLeft_eq hp hst hs hlos, chan_of_chans (protEval_chans _), laneOf_modLane_same, rxlos_modLane, rxlos_signalBack,
    laneOf_signalBack]
  exact ⟨rfl, rfl, rfl⟩

/-! ## A received frame (R47 to R52) -/

/-- One pattern seen in Hunt, where no candidate is open, opens one there (R49). -/
theorem alignFrame_opens {a : Aligner} (n m p k h : Nat) (hunt : a.align = .hunt) (noCands : a.cands = []) :
    (alignFrame n m [(p, k, h)] a).1.align = .presync ∧ (alignFrame n m [(p, k, h)] a).1.cands.map (·.pos) = [p] := by
  have few : ∀ c : Candidate, c.confirmed = 0 → bestConfirmed (max 1 n) [c] = none := fun c hc => by
    simp only [bestConfirmed]
    exact if_pos (by omega)
  simp [alignFrame, hunt, huntFrame, noCands, insertPos, huntAt, openCandidate, few]

/-- The last errored pattern in succession that Sync bears sends the lane into Hunt (R52). -/
theorem alignFrame_loses {a : Aligner} {n m : Nat} {sights : List (Nat × Nat × Nat)} (sync : a.align = .sync)
    (missing : sights.any (fun x => x.1 == a.pos) = false) (last : m ≤ a.errRun + 1) :
    alignFrame n m sights a = ({ a with errRun := 0, align := .hunt, cands := [] }, true) := by
  simp only [alignFrame, sync, missing, if_true, Bool.false_eq_true, if_false]
  exact if_neg (by omega)

/-- A frame that leaves its lane out of Sync: the lane's aligner is what alignment gives, and the channel is not up. -/
theorem lineFrame_out {f : LineFrame} {d : Dev} {x : Aligner × Bool} (hen : chanEnabled d f.ch = true)
    (hs : d.prot.settling = false) (hrun : engineRuns d = true)
    (hlos : (laneOf (chan d f.ch) (f.lane == .b)).al.align ≠ .los)
    (ha : alignFrame (fld d fLC_CTRL_ALIGN_N f.ch) (fld d fLC_CTRL_ALIGN_M f.ch)
      (foundSights (fld d (if f.lane == .b then fLC_CTRL_RX_INV_B else fLC_CTRL_RX_INV_A) f.ch == 1) f.sightings)
      (laneOf (chan d f.ch) (f.lane == .b)).al = x)
    (hout : x.1.align ≠ .sync) :
    (laneOf (chan (lineFrame f d) f.ch) (f.lane == .b)).al = x.1 ∧ chanUp (lineFrame f d) f.ch = false := by
  obtain ⟨x, errored⟩ := x
  have guard : (!chanEnabled d f.ch || d.prot.settling || (laneOf (chan d f.ch) (f.lane == .b)).al.align == .los ||
      !engineRuns d) = false := by simp [hen, hs, hrun, hlos]
  simp only [lineFrame, guard, ha, if_pos hout, Bool.false_eq_true, if_false, chanUp, chan_of_chans (protEval_chans _)]
  generalize areaEnd (↑f.ch) (f.lane == .b) _ = e
  have lane : ∀ g left, laneOf (chan (raiseIf left g f.ch (modChan f.ch (fun c => { c with deskewed := false, skewGood := 0 })
      (modLane f.ch (f.lane == .b) lineFrame.laneRehuntKeep (modLane f.ch (f.lane == .b) (fun l => { l with al := x }) e)))) f.ch)
      (f.lane == .b) = lineFrame.laneRehuntKeep { laneOf (chan e f.ch) (f.lane == .b) with al := x } := fun g left => by
    rw [laneOf_of_receivers (receivers_of_chans (raiseIf_chans _ _ _ _) _), laneOf_of_receivers (receivers_modChan _ _ _ _),
      laneOf_modLane_same, laneOf_modLane_same]
    exact fun _ => rfl
  constructor
  · rw [laneOf_of_receivers (receivers_chanEval _ _ _), lane]
    rfl
  · refine chanUp_chanEval_of_out (b := f.lane == .b) ?_
    rw [laneSync, lane]
    exact beq_false_of_ne hout

theorem lineFrame_opensCandidate (f : LineFrame) (p k h : Nat) : RunsAt (.lineFrameReceived f) f.t
    (fun a => chanEnabled a f.ch = true ∧ a.prot.settling = false ∧ engineRuns a = true ∧
      (laneOf (chan a f.ch) (f.lane == .b)).al.align = .hunt ∧ (laneOf (chan a f.ch) (f.lane == .b)).al.cands = [] ∧
      foundSights (fld a (if f.lane == .b then fLC_CTRL_RX_INV_B else fLC_CTRL_RX_INV_A) f.ch == 1) f.sightings = [(p, k, h)])
    (fun _ d => (laneOf (chan d f.ch) (f.lane == .b)).al.align = .presync ∧
      (laneOf (chan d f.ch) (f.lane == .b)).al.cands.map (·.pos) = [p]) := by
  refine runsAt_of (exec_lineFrameReceived f) fun a ⟨hen, hs, hrun, hunt, noCands, found⟩ => ?_
  obtain ⟨presync, cands⟩ := alignFrame_opens (fld a fLC_CTRL_ALIGN_N f.ch) (fld a fLC_CTRL_ALIGN_M f.ch) p k h hunt noCands
  rw [← found] at presync cands
  have out := (lineFrame_out hen hs hrun (by rw [hunt]; decide) rfl (by rw [presync]; decide)).1
  rw [out]
  exact ⟨presync, cands⟩

theorem lineFrame_losesSync (f : LineFrame) : RunsAt (.lineFrameReceived f) f.t
    (fun a => chanEnabled a f.ch = true ∧ a.prot.settling = false ∧ engineRuns a = true ∧
      (laneOf (chan a f.ch) (f.lane == .b)).al.align = .sync ∧
      fld a fLC_CTRL_ALIGN_M f.ch ≤ (laneOf (chan a f.ch) (f.lane == .b)).al.errRun + 1 ∧
      (foundSights (fld a (if f.lane == .b then fLC_CTRL_RX_INV_B else fLC_CTRL_RX_INV_A) f.ch == 1) f.sightings).any
        (fun x => x.1 == (laneOf (chan a f.ch) (f.lane == .b)).al.pos) = false)
    (fun _ d => (laneOf (chan d f.ch) (f.lane == .b)).al.align = .hunt ∧ (laneOf (chan d f.ch) (f.lane == .b)).al.errRun = 0 ∧
      chanUp d f.ch = false) := by
  refine runsAt_of (exec_lineFrameReceived f) fun a ⟨hen, hs, hrun, sync, last, missing⟩ => ?_
  obtain ⟨lane, down⟩ := lineFrame_out hen hs hrun (by rw [sync]; decide) (alignFrame_loses sync missing last)
    (fun h => LaneAlign.noConfusion h)
  rw [lane]
  exact ⟨rfl, rfl, down⟩

/-- Settles O9: a lane's alignment is what its own step makes it, for what follows, the channel going down, the activation and
protection looked at again, leaves every channel's receivers. -/
theorem lineReception : Obligations.LineReception := by
  unfold Obligations.LineReception
  exact ⟨losEntered_noLock, losEntered_noTransitions, losEntered_rxlos, losLeft_hunts, lineFrame_opensCandidate,
    lineFrame_losesSync⟩

end Sys2Proof.Proofs
end

section
/-!
PROOF. A frame boundary that the activation does not outlive (R39, R129, R130, R144, R554): the delay that it puts into force is
erased again in the same command, where a power change that waited begins with it and takes the last channel down.
-/

namespace Sys2Proof.Proofs

open Sys2Proof Sys2Proof.Machine Sys2Proof.Laws

/-- What a claim about a timed command says of the device that its change gives. -/
theorem post_of_runsAt {c : Instr} {t : Time} {f : Dev → Dev} {pre : Dev → Prop} {post : Dev → Dev → Prop}
    (e : ∀ s, exec c s = at_ t f s) (h : RunsAt c t pre post) (a : Dev) (high : a.porstLow = false) (p : pre (tick t a)) :
    post (tick t a) (f (tick t a)) := by
  obtain ⟨d, hexec, hd⟩ := h { dev := a } high p
  rw [e, at_eq t f { dev := a } high] at hexec
  have reached : f (tick t a) = d := congrArg State.dev (Host.Outcome.next.inj hexec)
  exact reached ▸ hd

/-! ## The counterexample -/

/-- The part in Ranging on the protection path: channel 1, the only one enabled, is up with both lanes Active, a Ranging Time of
77 for the working path waits for its boundary, and the host's Sleep request waits for what blocked it, which is over. -/
def rangingInRun : Dev :=
  setFld fACT_STATUS_STATE 0 3 (setFld fACT_STATUS_NUM_VALID 0 1 (setFld fLC_CTRL_ENABLE 1 1
    { State.reset.dev with
      porstLow := false
      chans := [(1, { laneA := { al := { align := .sync } }, laneB := { al := { align := .sync } }, deskewed := true, up := true })]
      lanes := [(98, { st := 6 }), (99, { st := 6 })]
      prot := { sel := true }
      act := { delayPend := [(0, 77)], lineRelease := true }
      pwr := { change := some { req := { target := 3, period := 60, origin := .host }, phase := .waits } } }))

/-- The same with every power domain as Run has it (R550). -/
def rangingBeforeSleep : Dev :=
  (List.range 50).foldl (fun d n => setPd n (domState d 0 false n) d) rangingInRun

/-- A boundary of a part without management data and highways. -/
def bareBoundary : BoundaryInputs := ⟨[], [], []⟩

theorem rangingBeforeSleep_high : rangingBeforeSleep.porstLow = false := by decide +kernel

/-- The line engine runs, and the delay of the working path is the one that waits. -/
theorem rangingBeforeSleep_facts : engineRuns (tick 5 rangingBeforeSleep) = true ∧
    (tick 5 rangingBeforeSleep).act.delayPend = [(0, 77)] ∧ 77 < 2 ^ 24 := by decide +kernel

/-- With the Sleep request begun, channel 1's lanes go Off, the channel falls, and Ranging is left with its record erased (R129,
R130, R228, R554). -/
theorem pwResume_rangingBeforeSleep :
    fld (activationRetry (imageHoldStep (pwResume (frameBoundary bareBoundary (tick 5 rangingBeforeSleep)))))
      fACT_STATUS_RANGED_W 0 = 0 := by decide +kernel

/-- Refutes O10: a delay that waits is put into force at the boundary, but the boundary is also where a waiting power change
begins; where that change takes down the last channel that is up, in Ranging, the activation returns to Initial and its record,
the new delay with it, is erased before the command ends. -/
theorem not_boundaryAndProtection : ¬ Obligations.BoundaryAndProtection := by
  rintro ⟨delaysInForce, -⟩
  obtain ⟨-, ranged, -⟩ := post_of_runsAt (exec_frameBoundary 5 bareBoundary) (delaysInForce 5 bareBoundary 77)
    rangingBeforeSleep rangingBeforeSleep_high rangingBeforeSleep_facts
  rw [fld_fsDrive, pwResume_rangingBeforeSleep] at ranged
  exact absurd ranged (by decide)

end Sys2Proof.Proofs
end

section
/-!
PROOF. Time of Day, Sleep Allow, Protection Control and the timers of the activation (R75, R129 to R131, R137 to R139, R151, R154,
R421): what a message that acts leaves besides its own effect, what a switch of the path leaves of the protection switch, and
what a fall of PFAIL_N leaves of the activation.
-/

namespace Sys2Proof.Proofs

open Sys2Proof Sys2Proof.Machine Sys2Proof.Laws

/-! ## A message that the line engine acts on (R134, R135, R138, R139) -/

/-- The message taken from those that wait (R86). -/
def taken (m : CtlMsg) (d : Dev) : Dev := { d with act := { d.act with inbox := d.act.inbox.erase m } }

/-- A message answered: a free value used up, and other messages waiting and remembered (R138, R140). -/
def answered (k : Nat) (box : List (List Byte)) (last : Option (Nat × Nat × Nat)) (d : Dev) : Dev :=
  { d with freeCtr := k, act := { d.act with outbox := box, lastDirected := last } }

theorem answered_same (d : Dev) : answered d.freeCtr d.act.outbox d.act.lastDirected d = d := rfl

theorem acknowledge_answers (m : CtlMsg) (r : Nat) (d : Dev) :
    ∃ k box, acknowledge m r d = answered k box d.act.lastDirected d := by
  simp only [acknowledge]
  split
  · exact ⟨_, _, rfl⟩
  · exact ⟨_, _, (answered_same d).symm⟩

theorem actDirected_answers (m : CtlMsg) (f : Dev → Nat × Dev) (d : Dev) :
    ∃ k box last, actDirected m f d = answered k box last (f d).2 := by
  obtain ⟨k, box, h⟩ := acknowledge_answers m (f d).1
    { (f d).2 with act := { (f d).2.act with lastDirected := some (mType m, mSeq m, (f d).1) } }
  exact ⟨k, box, _, h⟩

/-- A message that acts has its own effect, and is answered. -/
theorem receive_answers {ty : Nat} {m : CtlMsg} {d : Dev} (f : Dev → Nat × Dev) (h : messageActs ty m d = true) :
    ∃ k box last, receive ty m f d = answered k box last (f (taken m d)).2 := by
  simp only [messageActs, Bool.and_eq_true, beq_iff_eq] at h
  obtain ⟨⟨⟨⟨⟨⟨hears, type⟩, flow⟩, mine⟩, check⟩, acts⟩, fresh⟩ := h
  have heard : (!lineHears m (taken m d) || decide (mType m ≠ ty)) = false := by
    simp [type, show lineHears m (taken m d) = true from hears]
  have meant : (!isBroadcast m && !(numHeld (taken m d) && mAddr m == termNum (taken m d))) = false := by
    rw [show numHeld (taken m d) = numHeld d from rfl, show termNum (taken m d) = termNum d from rfl]
    obtain broadcast | ⟨numbered, mine⟩ := by simpa using mine
    · simp [broadcast]
    · simp [numbered, mine]
  have passes : checkFails m (taken m d) = none := by
    rw [show checkFails m (taken m d) = checkFails m d from rfl]
    simpa using check
  have acting : (!actsIn ty (isBroadcast m) (actState (taken m d))) = false := by
    rw [show actState (taken m d) = actState d from rfl, acts]
    rfl
  have taking : receive ty m f d = if isBroadcast m then (f (taken m d)).2 else actDirected m f (taken m d) := by
    simp only [taken] at heard meant passes acting ⊢
    simp only [receive, heard, flow, meant, passes, acting, Bool.not_true, Bool.false_eq_true, if_false]
    refine ite_congr rfl (fun _ => rfl) fun directed => ?_
    split
    next t q r known =>
      have unlike : ¬ (t = mType m ∧ q = mSeq m) := by simpa [directed, known, or_iff_not_imp_left] using fresh
      exact if_neg unlike
    next => rfl
  rw [taking]
  split
  · exact ⟨_, _, _, (answered_same _).symm⟩
  · exact actDirected_answers m f _

/-! ## Time of Day and Sleep Allow -/

/-- A Time of Day for a frame up to 8,000 ahead is held until that frame (R421). -/
theorem timeOfDay_held (m : CtlMsg) : RunsAt (.timeOfDay m) m.t
    (fun a => messageActs 0x09 m a = true ∧ mf m 16 4 ≤ 999999999 ∧
      a.lc.history.any (fun h => h.fc == BitVec.ofNat 48 (mf m 4 6)) = false ∧ numHeld a = true ∧
      frameNow a < BitVec.ofNat 48 (mf m 4 6) ∧ mf m 4 6 ≤ (frameNow a).toNat + 8000)
    (fun _ d => d.lc.heldTod = some (BitVec.ofNat 48 (mf m 4 6), (mf m 10 6 * 1000000000 + mf m 16 4) * 65536 + mf m 20 2)) := by
  refine runsAt_of (exec_timeOfDay m) fun a ⟨hm, nanos, unseen, held, ahead, near⟩ => ?_
  obtain ⟨k, box, last, e⟩ := receive_answers (timeOfDay m) hm
  have within : (BitVec.ofNat 48 (mf m 4 6)).toNat ≤ (frameNow a).toNat + 8000 :=
    (BitVec.toNat_ofNat _ _).trans_le ((Nat.mod_le _ _).trans near)
  have waits : (!(taken m a).lc.history.any (fun h => h.fc == BitVec.ofNat 48 (mf m 4 6)) && numHeld (taken m a) &&
      decide (frameNow (taken m a) < BitVec.ofNat 48 (mf m 4 6)) &&
      decide ((BitVec.ofNat 48 (mf m 4 6)).toNat ≤ (frameNow (taken m a)).toNat + 8000)) = true := by
    rw [show numHeld (taken m a) = numHeld a from rfl, show frameNow (taken m a) = frameNow a from rfl,
      show (taken m a).lc = a.lc from rfl, unseen, held, decide_eq_true ahead, decide_eq_true within]
    rfl
  rw [e, timeOfDay, if_neg (by omega)]
  simp only [todMessage, waits, if_true]
  rfl

/-- A Sleep Allow that consents sets the states and the end of its period (R151). -/
theorem sleepAllow_consents (m : CtlMsg) : RunsAt (.sleepAllow m) m.t
    (fun a => messageActs 0x0A m a = true ∧ mf m 4 1 = 1 ∧ 0 < mf m 6 2)
    (fun a d => d.act.sleepStates = mf m 5 1 % 4 ∧ d.act.sleepUntil = some (a.now + mf m 6 2 * Config.sec) ∧
      fld d fACT_EVENT_SLEEP_CONSENT 0 = 1) := by
  refine runsAt_of (exec_sleepAllow m) fun a ⟨hm, allow, period⟩ => ?_
  obtain ⟨k, box, last, e⟩ := receive_answers (sleepAllow m) hm
  have accepted : ¬ (1 < mf m 4 1 ∨ (mf m 4 1 = 1 ∧ mf m 6 2 = 0)) := by omega
  simp only [e, sleepAllow, if_neg accepted, if_pos allow]
  refine ⟨rfl, ?_, ?_⟩
  · simp only [answered, raise_now]
    rfl
  · exact (fld_of_regs rfl _ _).trans (fld_raise_same fACT_EVENT_SLEEP_CONSENT 0 _ (by decide) (by decide))

/-- A Sleep Allow that withdraws ends the consent (R151). -/
theorem sleepAllow_withdraws (m : CtlMsg) : RunsAt (.sleepAllow m) m.t
    (fun a => messageActs 0x0A m a = true ∧ mf m 4 1 = 0)
    (fun _ d => d.act.sleepStates = 0 ∧ d.act.sleepUntil = none) := by
  refine runsAt_of (exec_sleepAllow m) fun a ⟨hm, allow⟩ => ?_
  obtain ⟨k, box, last, e⟩ := receive_answers (sleepAllow m) hm
  have accepted : ¬ (1 < mf m 4 1 ∨ (mf m 4 1 = 1 ∧ mf m 6 2 = 0)) := by omega
  have other : ¬ mf m 4 1 = 1 := by omega
  simp only [e, sleepAllow, if_neg accepted, if_neg other, answered]
  rw [endConsent_act]
  exact ⟨rfl, rfl⟩

theorem sleepConsent_ends (t x : Time) : RunsAt (.sleepConsentExpiry t) t
    (fun a => a.act.sleepUntil = some x ∧ x ≤ a.now)
    (fun _ d => d.act.sleepStates = 0 ∧ d.act.sleepUntil = none) := by
  refine runsAt_of (exec_sleepConsentExpiry t) fun a ⟨hx, due⟩ => ?_
  have expired : dueBy a.act.sleepUntil a.now = true := by simp [dueBy, hx, due]
  rw [sleepExpiry, if_pos expired, endConsent_act]
  exact ⟨rfl, rfl⟩

/-! ## The bonding stage leaves the protection switch (R98 to R108, R360 to R366) -/

/-- The pieces that the release of held envelopes may touch. -/
def releasePieces : List Piece := [.regs, .host, .emitted, .cnt, .bond, .sb, .mc, .pwr]

theorem only_releaseParts {d : Dev} {b : BondSt} {s : SbSt} {m : MemSt} {w : PwrSt} :
    Only releasePieces d { d with bond := b, sb := s, mc := m, pwr := w } := fun p hp => by
  cases p with
  | bond | sb | mc | pwr => exact absurd (by decide) hp
  | _ => rfl

theorem only_released_countN {d b : Dev} (c : CName) (k n : Nat) (h : Only releasePieces d b) :
    Only releasePieces d (countN c k n b) :=
  Only_step h (Only_mono (frame_countN c k n b).1 (by decide))

theorem only_modFlow (k : Nat) (f : BondFlow → BondFlow) (d : Dev) : Only releasePieces d (modFlow k f d) :=
  only_releaseParts

theorem only_mapReads (part off n : Nat) (d : Dev) : Only releasePieces d (mapReads part off n d) := by
  simp only [mapReads]
  exact Only_foldl (fun d x => Only_ite _ (Only_refl _ d) (only_released_countN .migMapMisses 0 1 only_releaseParts)) _ d

theorem only_clearPoison (ls : List Nat) (d : Dev) : Only releasePieces d (clearPoison ls d) := by
  simp only [clearPoison]
  exact Only_ite _ (Only_refl _ d) only_releaseParts

theorem only_overruns (m : Nat) (rs gone : List Record) (d : Dev) : Only releasePieces d (overruns m rs gone d) := by
  simp only [overruns]
  refine Only_foldl (fun d e => ?_) _ d
  refine Only_step (only_released_countN .sbOverruns m 1 ?_) (Only_mono (only_raise fSB_EVENT_REPLAY_OVERRUN 0 _) (by decide))
  exact Only_step only_releaseParts only_releaseParts

theorem only_tapRecord (m : Nat) (bs : List Byte) (recallOn : Bool) (fs ls : BitVec 12) (d : Dev) :
    Only releasePieces d (tapRecord m bs recallOn fs ls d) := by
  simp only [tapRecord]
  refine Only_ite _ (Only_refl _ d) (Only_ite _ ?dropped ?recorded)
  case dropped =>
    exact Only_step (only_released_countN .sbRecordDrops m 1 only_releaseParts)
      (Only_mono (only_raise fSB_EVENT_RECORD_DROP 0 _) (by decide))
  case recorded =>
    refine only_released_countN .sbRecordedBytes m _ (only_released_countN .sbRecorded m 1 ?_)
    refine Only_step (Only_step ?_ (Only_ite _ (only_released_countN .sbRecallHeld m 1 (Only_refl _ _)) (Only_refl _ _)))
      (only_overruns m _ _ _)
    exact Only_step (Only_step (only_mapReads _ _ _ d) (only_clearPoison _ _)) only_releaseParts

theorem only_bondOutput (k : Nat) (p : Pkt) (d : Dev) : Only releasePieces d (bondOutput k p d) := by
  simp only [bondOutput]
  exact Only_ite _ (only_released_countN .pipelineOverrun _ 1 (Only_refl _ d))
    (Only_step (only_modFlow k _ d) only_releaseParts)

theorem only_mgmtPacket (bs : List Byte) (d : Dev) : Only releasePieces d (mgmtPacket bs d) := by
  simp only [mgmtPacket]
  refine Only_ite _ (Only_ite _ only_releaseParts (only_released_countN .pwHeldDropped 0 1 (Only_refl _ d))) ?_
  exact Only_mono (frame_emit (.toSecretary bs) d).1 (by decide)

theorem only_bondPacket (k : Nat) (bs : List Byte) (recallOn : Bool) (fs ls : Nat) (d : Dev) :
    Only releasePieces d (bondPacket k bs recallOn fs ls d) := by
  simp only [bondPacket]
  refine Only_ite _ (only_mgmtPacket bs d) ?_
  split
  · exact Only_step (only_tapRecord _ bs recallOn _ _ d) (only_bondOutput k _ _)
  · exact only_bondOutput k _ d

theorem only_dropOpen (k : Nat) (d : Dev) : Only releasePieces d (dropOpen k d) := by
  simp only [dropOpen]
  exact Only_ite _ (only_released_countN .bondIncomplete k 1 (only_modFlow k _ d)) (Only_refl _ d)

theorem only_growPacket (k : Nat) (p : OpenPkt) (e : BondEnv) (d : Dev) : Only releasePieces d (growPacket k p e d) := by
  simp only [growPacket]
  refine Only_ite _ (only_released_countN .bondOversize k 1 (only_modFlow k _ d)) (Only_ite _ ?_ (only_modFlow k _ d))
  exact Only_ite _ (only_modFlow k _ d) (Only_step (only_modFlow k _ d) (only_bondPacket k _ _ _ _ _))

theorem only_reassemble (k : Nat) (e : BondEnv) (d : Dev) : Only releasePieces d (reassemble k e d) := by
  simp only [reassemble]
  refine Only_ite _ (Only_step (only_dropOpen k d) (only_growPacket k _ e _)) ?_
  split
  · exact only_released_countN .bondOrphan k 1 (Only_refl _ d)
  · exact only_growPacket k _ e d

theorem only_skipped (k n : Nat) (d : Dev) : Only releasePieces d (skipped k n d) := by
  simp only [skipped]
  exact Only_ite _ (Only_refl _ d) (Only_step (only_released_countN .bondGap k n (Only_refl _ d)) (only_dropOpen k _))

theorem only_deliverTo (k e lim : Nat) (l : List BondEnv) (o : Nat) (d : Dev) :
    Only releasePieces d (deliverTo k e lim l o d) := by
  induction l generalizing o d with
  | nil => exact only_skipped k _ d
  | cons x l ih =>
    simp only [deliverTo]
    exact Only_ite _ (Only_step (Only_step (only_skipped k _ d) (only_reassemble k x _)) (ih _ _)) (only_skipped k _ d)

theorem only_advance (k n : Nat) (d : Dev) : Only releasePieces d (advance k n d) := by
  simp only [advance]
  split
  · exact Only_refl _ d
  · exact Only_step (only_deliverTo k _ n _ 0 d) (only_modFlow k _ _)

theorem only_releaseFlows (d : Dev) : Only releasePieces d (releaseFlows d) := by
  simp only [releaseFlows]
  refine Only_foldl (fun d (x : Nat × BondFlow) => Only_step ?_ (only_modFlow x.1 _ _)) _ d
  split
  · exact only_advance x.1 _ d
  · exact Only_refl _ d

@[simp] theorem releaseFlows_prot (d : Dev) : (releaseFlows d).prot = d.prot := only_releaseFlows d .prot (by decide)

/-! ## A switch of the path (R72, R75) -/

@[simp] theorem chanRehunt_prot (ch : Nat) (d : Dev) : (chanRehunt ch d).prot = d.prot := by
  simp only [chanRehunt, chanEval_prot, raiseIf_prot]
  rfl

/-- After a toggle the switch stands on the other path (R72). -/
theorem toggle_sel (cause : Option (BitVec 2)) (st : ProtState) (d : Dev) : (toggle cause st d).prot.sel = !d.prot.sel := by
  simp only [toggle, releaseFlows_prot]
  refine List.foldlRecOn (motive := fun b : Dev => b.prot.sel = !d.prot.sel) _ _ ?_ fun b hb n _ => ?_
  · simp only [protHold_prot, emit_prot, count_prot]
    rfl
  · rw [chanRehunt_prot]
    exact hb

/-- With protection enabled a command to a path leaves the switch on it (R75). -/
theorem protCommand_sel (path : Bool) (cause : BitVec 2) {d : Dev} (h : fld d fPROT_CTRL_ENABLE 0 = 1) :
    (protCommand path cause d).2.prot.sel = path := by
  simp only [protCommand, h, Nat.one_ne_zero, if_false]
  split
  case isTrue same => exact same.symm
  case isFalse other =>
    rw [toggle_sel]
    cases path <;> cases hs : d.prot.sel <;> simp_all

/-! ## Placing envelopes anew leaves the activation (R154, R176) -/

/-- The pieces that the placing of envelopes may touch. -/
def placePieces : List Piece := [.freeCtr, .cipher, .up] ++ countPieces

theorem only_placeParts {d : Dev} {n : Nat} {c : CipherSt} {u : UpSt} :
    Only placePieces d { d with freeCtr := n, cipher := c, up := u } := fun p hp => by
  cases p with
  | freeCtr | cipher | up => exact absurd (by decide) hp
  | _ => rfl

theorem only_upMessage (ty : Nat) (content : List Byte) (d : Dev) : Only placePieces d (upMessage ty content d).2 :=
  only_placeParts

/-- A cipher event raised on a condition, with its item (R115, R116). -/
theorem only_cipherEvent (p : Prop) [Decidable p] (f : Fld) (item : List Word) (d : Dev) :
    Only placePieces d (if p then post 2 item (raise f 0 d) else d) :=
  Only_ite p (Only_step (Only_mono (only_raise f 0 d) (by decide)) (Only_mono (only_post 2 item _) (by decide)))
    (Only_refl _ d)

theorem only_cipherUse (e : Nat) (d : Dev) : Only placePieces d (cipherUse e d).2 := by
  simp only [cipherUse]
  split
  · exact Only_refl _ d
  · split
    · exact Only_refl _ d
    · exact Only_step (Only_step only_placeParts (only_cipherEvent _ fCY_EVENT_KEY_DEAD _ _))
        (only_cipherEvent _ fCY_EVENT_KEY_WARN _ _)

theorem only_sealEnv (g : Grant) (e : OutEnv) (d : Dev) : Only placePieces d (sealEnv g e d).2 := by
  simp only [sealEnv]
  split
  · exact only_cipherUse _ d
  · exact Only_refl _ d

theorem only_placeOn (g : Grant) (laneB : Bool) (n : Nat) (e : OutEnv) (fd : Filling × Dev) :
    Only placePieces fd.2 (placeOn g laneB n e fd).2 := by
  simp only [placeOn]
  split
  · exact only_sealEnv g _ fd.2
  · exact Only_refl _ fd.2

theorem only_place {g : Grant} {e : OutEnv} {fd r : Filling × Dev} (h : place g e fd = some r) : Only placePieces fd.2 r.2 := by
  obtain ⟨lane, -, rfl⟩ := Option.map_eq_some_iff.1 h
  exact only_placeOn g lane _ e fd

theorem only_placeMessage {g : Grant} {m : List Byte} {data : Bool} {fd r : Filling × Dev}
    (h : placeMessage g m data fd = some r) : Only placePieces fd.2 r.2 :=
  Only_step (b := (nextOrder fd.2).2) only_placeParts (only_place (fd := (fd.1, (nextOrder fd.2).2)) h)

theorem only_placedAfter {d b : Dev} {g : Grant} {m : List Byte} {data : Bool} {f : Filling} {r : Filling × Dev}
    (hd : Only placePieces d b) (h : placeMessage g m data (f, b) = some r) : Only placePieces d r.2 :=
  Only_step hd (only_placeMessage h)

theorem only_getD {d : Dev} {o : Option (Filling × Dev)} {fd : Filling × Dev}
    (h : ∀ r, o = some r → Only placePieces d r.2) (hd : Only placePieces d fd.2) : Only placePieces d (o.getD fd).2 := by
  cases o with
  | none => exact hd
  | some r => exact h r rfl

theorem only_placeGasp (g : Grant) (fd : Filling × Dev) : Only placePieces fd.2 (placeGasp g fd).2 := by
  simp only [placeGasp]
  split
  · exact only_getD (fun r h => only_placedAfter (only_upMessage _ _ fd.2) h) (Only_refl _ fd.2)
  · exact Only_refl _ fd.2

theorem only_placeReissue (g : Grant) (l kept : List OutEnv) (fd : Filling × Dev) :
    Only placePieces fd.2 (placeReissue g l kept fd).2.2.2 := by
  induction l generalizing kept fd with
  | nil => exact Only_refl _ fd.2
  | cons e l ih =>
    simp only [placeReissue]
    split
    · exact ih _ fd
    · split
      next placed => exact Only_step (only_place placed) (ih kept _)
      next => exact Only_refl _ fd.2

theorem only_addGasp (d : Dev) (g : Grant) : Only placePieces d (addGasp d g) := by
  simp only [addGasp]
  split
  · exact Only_refl _ d
  · refine Only_ite _ (Only_refl _ d) (Only_step (Only_step ?_ (only_placeReissue g _ [] _)) only_placeParts)
    exact Only_step (only_placeReissue g _ [] (_, d)) (only_placeGasp g _)

/-- A fall of PFAIL_N leaves of the activation what it records itself (R154). -/
theorem pfailFall_act (d : Dev) : (pfailFall d).act =
    { d.act with pfailLow := true, pfailAt := d.now, pfailLt := ltNow d, gaspPending := actState d == 4, gaspSent := [] } :=
  Only_foldl only_addGasp _ _ .act (by decide)

/-- On mains power nothing wakes and the activation stands. -/
theorem pfailFalls_act {d : Dev} (h : d.act.battLow = false) : (pfailFalls d).act =
    { d.act with pfailLow := true, pfailAt := d.now, pfailLt := ltNow d, gaspPending := actState d == 4, gaspSent := [] } := by
  have act : (holdTimer (pfailFall { d with pwr := { d.pwr with restoreDue := none } })).act =
      { d.act with pfailLow := true, pfailAt := d.now, pfailLt := ltNow d, gaspPending := actState d == 4, gaspSent := [] } :=
    pfailFall_act { d with pwr := { d.pwr with restoreDue := none } }
  have steady : (holdTimer (pfailFall { d with pwr := { d.pwr with restoreDue := none } })).act.battLow = false :=
    (congrArg ActSt.battLow act).trans h
  simp only [pfailFalls, steady, Bool.false_eq_true, if_false]
  exact act

theorem pfailRise_clears (t : Time) : RunsAt (.pfailRise t) t (fun _ => True)
    (fun _ d => d.act.pfailLow = false ∧ d.act.gaspPending = false) := by
  refine runsAt_of (exec_pfailRise t) fun a _ => ?_
  exact ⟨rfl, rfl⟩

theorem pfailFall_records (t : Time) : RunsAt (.pfailFall t) t (fun a => a.act.battLow = false)
    (fun a d => d.act.pfailLow = true ∧ d.act.pfailAt = a.now ∧ d.act.gaspPending = (actState a == 4) ∧ d.act.gaspSent = []) := by
  refine runsAt_of (exec_pfailFall t) fun a battery => ?_
  rw [fsDrive_act, pfailFalls_act battery]
  exact ⟨rfl, rfl, rfl, rfl⟩

/-! ## The timers of Ranging and Intermittent Loss (R129 to R131) -/

/-- A state left for another, the record cleared: no number, and the timers and events stand. -/
theorem clearRecord_setState {d : Dev} {n : Nat} (h : actState d ≠ 4) (hn : n < 8) :
    numHeld (clearRecord (setState n d)) = false ∧ actState (clearRecord (setState n d)) = n ∧
      (clearRecord (setState n d)).act.rangingDue = d.act.rangingDue ∧
      (clearRecord (setState n d)).act.lossDue = d.act.lossDue ∧
      ∀ f : Fld, f.reg = .actEvent → 0 < f.lo → f.lo ≤ f.hi → fld (clearRecord (setState n d)) f 0 = fld d f 0 := by
  obtain ⟨ranging, loss⟩ := clearRecord_timers (setState n d)
  rw [setState_act n h] at ranging loss
  refine ⟨numHeld_clearRecord _, (actState_clearRecord _).trans (actState_setState hn d), ranging, loss, fun f hr hl hf => ?_⟩
  rw [fld_clearRecord_event _ hr, fld_setState_event n h hr hl hf]

/-- The ranging timer run out: no grants, no timer, the event raised (R129). -/
def rangingOver (d : Dev) : Dev :=
  raise fACT_EVENT_RANGING_EXPIRED 0
    { abandonGrants (fun _ => true) d with act := { d.act with rangingDue := none } }

theorem rangingExpiry_due {d : Dev} (h : actState d = 3) (due : dueBy d.act.rangingDue d.now = true) :
    rangingExpiry d = settleState (clearRecord (setState 1 (rangingOver d))) := if_pos ⟨h, due⟩

theorem actState_rangingOver (d : Dev) : actState (rangingOver d) = actState d := by
  rw [rangingOver, actState, fld_raise_ne fACT_EVENT_RANGING_EXPIRED fACT_STATUS_STATE 0 0 _ (by decide) (by decide) (by decide)]
  exact (fld_of_regs rfl _ _).trans (Frame_fld (frame_abandonGrants _ d) (by decide) (by decide))

theorem rangingOver_rangingDue (d : Dev) : (rangingOver d).act.rangingDue = none := by
  rw [rangingOver, raise_act]

theorem rangingTimer_expires (t x : Time) : RunsAt (.rangingTimerExpiry t) t
    (fun a => actState a = 3 ∧ a.act.rangingDue = some x ∧ x ≤ a.now)
    (fun _ d => numHeld d = false ∧ (actState d = 1 ∨ actState d = 2) ∧ d.act.rangingDue = none ∧
      fld d fACT_EVENT_RANGING_EXPIRED 0 = 1) := by
  refine runsAt_of (exec_rangingTimerExpiry t) fun a ⟨ranging, hx, due⟩ => ?_
  rw [rangingExpiry_due ranging (by simp [dueBy, hx, due])]
  have raised : fld (rangingOver a) fACT_EVENT_RANGING_EXPIRED 0 = 1 :=
    fld_raise_same fACT_EVENT_RANGING_EXPIRED 0 _ (by decide) (by decide)
  obtain ⟨number, state, timer, -, events⟩ :=
    clearRecord_setState (d := rangingOver a) (n := 1) (by rw [actState_rangingOver]; omega) (by decide)
  have event := (events fACT_EVENT_RANGING_EXPIRED rfl (by decide) (by decide)).trans raised
  have standby : actState (clearRecord (setState 1 (rangingOver a))) ≠ 4 := by omega
  rw [rangingOver_rangingDue] at timer
  rcases settleState_of_standby state with e | e
  · rw [e]
    exact ⟨(numHeld_setState 2 standby).trans number, .inr (actState_setState (by decide) _),
      (congrArg ActSt.rangingDue (setState_act 2 standby)).trans timer,
      (fld_setState_event 2 standby rfl (by decide) (by decide)).trans event⟩
  · rw [e]
    exact ⟨number, .inl state, timer, event⟩

/-- The loss timer run out: no timer, the event raised (R129). -/
def lossOver (d : Dev) : Dev :=
  raise fACT_EVENT_LOSS_EXPIRED 0 { d with act := { d.act with lossDue := none, lossIsConsent := false } }

theorem lossExpiry_due {d : Dev} (h : actState d = 5) (due : dueBy d.act.lossDue d.now = true) :
    lossExpiry d = clearRecord (setState 0 (lossOver d)) := if_pos ⟨h, due⟩

theorem actState_lossOver (d : Dev) : actState (lossOver d) = actState d :=
  (fld_raise_ne fACT_EVENT_LOSS_EXPIRED fACT_STATUS_STATE 0 0 _ (by decide) (by decide) (by decide)).trans (fld_of_regs rfl _ _)

theorem lossOver_lossDue (d : Dev) : (lossOver d).act.lossDue = none := by
  rw [lossOver, raise_act]

theorem lossTimer_expires (t x : Time) : RunsAt (.lossTimerExpiry t) t
    (fun a => actState a = 5 ∧ a.act.lossDue = some x ∧ x ≤ a.now)
    (fun _ d => numHeld d = false ∧ actState d = 0 ∧ d.act.lossDue = none ∧ fld d fACT_EVENT_LOSS_EXPIRED 0 = 1) := by
  refine runsAt_of (exec_lossTimerExpiry t) fun a ⟨lost, hx, due⟩ => ?_
  rw [lossExpiry_due lost (by simp [dueBy, hx, due])]
  have raised : fld (lossOver a) fACT_EVENT_LOSS_EXPIRED 0 = 1 :=
    fld_raise_same fACT_EVENT_LOSS_EXPIRED 0 _ (by decide) (by decide)
  obtain ⟨number, state, -, timer, events⟩ :=
    clearRecord_setState (d := lossOver a) (n := 0) (by rw [actState_lossOver]; omega) (by decide)
  exact ⟨number, state, timer.trans (lossOver_lossDue a),
    (events fACT_EVENT_LOSS_EXPIRED rfl (by decide) (by decide)).trans raised⟩

/-! ## Protection Control (R75) -/

/-- A Protection Control for a path, without a lockout field, leaves the switch on that path. -/
theorem protectionControl_path (m : CtlMsg) : RunsAt (.protectionControl m) m.t
    (fun a => messageActs 0x0B m a = true ∧ (mf m 4 1 = 1 ∨ mf m 4 1 = 2) ∧ mf m 5 1 = 0 ∧ fld a fPROT_CTRL_ENABLE 0 = 1)
    (fun _ d => d.prot.sel = (mf m 4 1 == 2)) := by
  refine runsAt_of (exec_protectionControl m) fun a ⟨hm, path, lock, enabled⟩ => ?_
  obtain ⟨k, box, last, e⟩ := receive_answers (protectionControl m) hm
  have enabled : fld (taken m a) fPROT_CTRL_ENABLE 0 = 1 := (fld_of_regs rfl _ _).trans enabled
  have inRange : ¬ (2 < mf m 4 1 ∨ 2 < mf m 5 1) := by omega
  have command : ¬ mf m 4 1 = 0 := by omega
  have commanded : protectionControl m (taken m a) = protCommand (mf m 4 1 == 2) 2 (taken m a) := by
    rw [protectionControl, if_neg inRange, if_neg (by omega), if_pos lock, if_neg command]
  rw [e, commanded]
  exact protCommand_sel _ 2 enabled

/-- Settles O13: each message acts and is answered, each timer's command clears what it must; a toggle, the placing of the Dying
Gasp and the clearing of the record leave the pieces that the clauses speak of. -/
theorem otherMessagesAndTimers : Obligations.OtherMessagesAndTimers :=
  ⟨timeOfDay_held, sleepAllow_consents, sleepAllow_withdraws, protectionControl_path, rangingTimer_expires, lossTimer_expires,
    sleepConsent_ends, pfailRise_clears, pfailFall_records⟩

end Sys2Proof.Proofs
end

section
/-!
PROOF. The key registers (R114, R118, R119, R123): what RESULT shows after a command, and what the command leaves in the key
entries, the check-value slots and TX_INDEX.
-/

namespace Sys2Proof.Proofs

open Sys2Proof Sys2Proof.Machine Sys2Proof.Laws

/-! ## RESULT, entries and slots -/

/-- Giving a result touches no key. -/
@[simp] theorem keyResult_cipher (r : Nat) (d : Dev) : (keyResult r d).cipher = d.cipher := rfl

/-- RESULT reads as given (R123). -/
theorem fld_keyResult {r : Nat} (h : r < 4) (d : Dev) : fld (keyResult r d) fCY_KEY_STATUS_RESULT 0 = r :=
  (fld_setFld_same fCY_KEY_STATUS_RESULT 0 r d (by decide) (by decide)).trans (Nat.mod_eq_of_lt h)

theorem keyEntry_of_cipher {a b : Dev} (h : b.cipher = a.cipher) (e : Nat) : keyEntry b e = keyEntry a e := by
  simp only [keyEntry, h]

@[simp] theorem keyEntry_setKeyEntry_same (e : Nat) (k : KeyEntry) (d : Dev) : keyEntry (setKeyEntry e k d) e = k :=
  agetD_aputD_same _ _ _ _

/-- A command that only gives a result keeps every key. -/
theorem keyResult_only {r : Nat} (h : r < 4) (d : Dev) :
    (keyResult r d).cipher = d.cipher ∧ fld (keyResult r d) fCY_KEY_STATUS_RESULT 0 = r :=
  ⟨keyResult_cipher r d, fld_keyResult h d⟩

/-- An entry that was set, under result 0. -/
theorem keyEntry_set_result (e : Nat) (k : KeyEntry) (d : Dev) :
    keyEntry (keyResult 0 (setKeyEntry e k d)) e = k ∧ fld (keyResult 0 (setKeyEntry e k d)) fCY_KEY_STATUS_RESULT 0 = 0 :=
  ⟨(keyEntry_of_cipher (keyResult_cipher 0 _) e).trans (keyEntry_setKeyEntry_same e k d), fld_keyResult (by decide) _⟩

/-! ## Entries written and erased (R118) -/

theorem keyWrite_of_free {e : Nat} {d : Dev} (h : keyInUse d e = false) :
    keyWrite e d = keyResult 0 (setKeyEntry e { key := some (keyData d) } d) := by simp [keyWrite, h]

theorem keyWrite_of_inUse {e : Nat} {d : Dev} (h : keyInUse d e = true) : keyWrite e d = keyResult 1 d := by
  simp [keyWrite, h]

theorem keyErase_of_free {e : Nat} {d : Dev} (h : keyInUse d e = false) :
    keyErase e d = keyResult 0 (setKeyEntry e {} d) := by simp [keyErase, h]

theorem keyErase_of_inUse {e : Nat} {d : Dev} (h : keyInUse d e = true) : keyErase e d = keyResult 1 d := by
  simp [keyErase, h]

theorem keyWriteEntry_writes (e : BitVec 8) : Runs (.keyWriteEntry e)
    (fun a => keyInUse a e.toNat = false)
    (fun a d => keyEntry d e.toNat = { key := some (keyData a) } ∧ fld d fCY_KEY_STATUS_RESULT 0 = 0) :=
  runs_of (exec_keyWriteEntry e) fun a free => keyWrite_of_free free ▸ keyEntry_set_result _ _ a

theorem keyWriteEntry_refused (e : BitVec 8) : Runs (.keyWriteEntry e)
    (fun a => keyInUse a e.toNat = true)
    (fun a d => d.cipher = a.cipher ∧ fld d fCY_KEY_STATUS_RESULT 0 = 1) :=
  runs_of (exec_keyWriteEntry e) fun a used => keyWrite_of_inUse used ▸ keyResult_only (by decide) a

theorem keyEraseEntry_erases (e : BitVec 8) : Runs (.keyEraseEntry e)
    (fun a => keyInUse a e.toNat = false)
    (fun _ d => keyEntry d e.toNat = {} ∧ fld d fCY_KEY_STATUS_RESULT 0 = 0) :=
  runs_of (exec_keyEraseEntry e) fun a free => keyErase_of_free free ▸ keyEntry_set_result _ _ a

theorem keyEraseEntry_refused (e : BitVec 8) : Runs (.keyEraseEntry e)
    (fun a => keyInUse a e.toNat = true)
    (fun a d => d.cipher = a.cipher ∧ fld d fCY_KEY_STATUS_RESULT 0 = 1) :=
  runs_of (exec_keyEraseEntry e) fun a used => keyErase_of_inUse used ▸ keyResult_only (by decide) a

/-! ## An entry read (R123) -/

/-- STATE of a key entry: 0 empty, 2 dead, 1 otherwise (R123). -/
def entryState (k : KeyEntry) : Nat := if k.key.isNone then 0 else if k.count = deadCount then 2 else 1

theorem entryState_lt (k : KeyEntry) : entryState k < 4 := by
  unfold entryState
  split
  · decide
  · split <;> decide

theorem keyRead_eq (e : Nat) (d : Dev) : keyRead e d =
    keyResult 0 (setReg .cyKeyCount 0 (keyEntry d e).count (setFld fCY_KEY_STATUS_STATE 0 (entryState (keyEntry d e)) d)) :=
  rfl

theorem reg_keyRead_count (e : Nat) (d : Dev) : reg (keyRead e d) .cyKeyCount 0 = (keyEntry d e).count :=
  (reg_setReg_ne (r := .cyKeyStatus) (by decide) _ _ (by decide) (by decide)).trans (reg_setReg_same .cyKeyCount 0 _ _)

/-- STATE stands apart from RESULT and from the counter's register. -/
theorem fld_keyRead_state (e : Nat) (d : Dev) :
    fld (keyRead e d) fCY_KEY_STATUS_STATE 0 = entryState (keyEntry d e) := by
  rw [keyRead_eq, keyResult,
    fld_setFld_apart fCY_KEY_STATUS_RESULT fCY_KEY_STATUS_STATE 0 0 _ rfl (by decide) (by decide) (by decide) (by decide),
    fld_setReg_ne .cyKeyCount fCY_KEY_STATUS_STATE 0 0 _ _ (by decide) (by decide) (by decide),
    fld_setFld_same fCY_KEY_STATUS_STATE 0 _ _ (by decide) (by decide)]
  exact Nat.mod_eq_of_lt (entryState_lt _)

theorem keyReadEntryState_reads (e : BitVec 8) : Runs (.keyReadEntryState e)
    (fun _ => True)
    (fun a d => reg d .cyKeyCount 0 = (keyEntry a e.toNat).count ∧ d.cipher = a.cipher ∧ fld d fCY_KEY_STATUS_RESULT 0 = 0 ∧
      fld d fCY_KEY_STATUS_STATE 0 = if (keyEntry a e.toNat).key.isNone then 0 else if (keyEntry a e.toNat).count = deadCount then 2 else 1) :=
  runs_of (exec_keyReadEntryState e) fun a _ =>
    ⟨reg_keyRead_count _ a, rfl, fld_keyResult (by decide) _, fld_keyRead_state _ a⟩

/-! ## Check-value slots (R119) and invalid commands (R123) -/

theorem slotSet_of_invalid {k : Nat} (h : 7 ≤ k) (key : Option (BitVec 256)) (d : Dev) :
    slotSet k key d = keyResult 2 d := if_pos h

/-- A valid slot holds what was written, or nothing once erased. -/
theorem slotSet_of_valid {k : Nat} (h : k < 7) (key : Option (BitVec 256)) (d : Dev) :
    checkKey (slotSet k key d) k = key ∧ fld (slotSet k key d) fCY_KEY_STATUS_RESULT 0 = 0 := by
  simp only [slotSet, if_neg (Nat.not_le.2 h)]
  refine ⟨?_, fld_keyResult (by decide) _⟩
  cases key with
  | none => exact aget_adel_same _ k
  | some key => exact aget_aput_same _ k key

theorem checkValueSlotWrite_writes (k : BitVec 8) : Runs (.checkValueSlotWrite k)
    (fun _ => k.toNat < 7)
    (fun a d => checkKey d k.toNat = some (keyData a) ∧ fld d fCY_KEY_STATUS_RESULT 0 = 0) :=
  runs_of (exec_checkValueSlotWrite k) fun a valid => slotSet_of_valid valid (some (keyData a)) a

theorem checkValueSlotWrite_refused (k : BitVec 8) : Runs (.checkValueSlotWrite k)
    (fun _ => 7 ≤ k.toNat)
    (fun a d => d.cipher = a.cipher ∧ fld d fCY_KEY_STATUS_RESULT 0 = 2) :=
  runs_of (exec_checkValueSlotWrite k) fun a invalid =>
    slotSet_of_invalid invalid (some (keyData a)) a ▸ keyResult_only (by decide) a

theorem checkValueSlotErase_erases (k : BitVec 8) : Runs (.checkValueSlotErase k)
    (fun _ => k.toNat < 7)
    (fun _ d => checkKey d k.toNat = none ∧ fld d fCY_KEY_STATUS_RESULT 0 = 0) :=
  runs_of (exec_checkValueSlotErase k) fun a valid => slotSet_of_valid valid none a

theorem checkValueSlotErase_refused (k : BitVec 8) : Runs (.checkValueSlotErase k)
    (fun _ => 7 ≤ k.toNat)
    (fun a d => d.cipher = a.cipher ∧ fld d fCY_KEY_STATUS_RESULT 0 = 2) :=
  runs_of (exec_checkValueSlotErase k) fun a invalid => slotSet_of_invalid invalid none a ▸ keyResult_only (by decide) a

theorem keyCommandInvalid_refused (o : BitVec 3) (e : BitVec 8) : Runs (.keyCommandInvalid o e)
    (fun _ => o = 0 ∨ o = 4 ∨ o = 7)
    (fun a d => d.cipher = a.cipher ∧ fld d fCY_KEY_STATUS_RESULT 0 = 2) := by
  refine runs_of (exec_keyCommandInvalid o e) fun a code => ?_
  have refused : keyCommand o.toNat e.toNat a = keyResult 2 a := by
    rcases code with rfl | rfl | rfl <;> rfl
  rw [refused]
  exact keyResult_only (by decide) a

/-! ## TX_INDEX (R114) -/

/-- A write of CY_TXIDX sets the whole register: all its bits are RW. -/
theorem reg_storeWrite_cyTxidx (i : Nat) (v : Word) (d : Dev) : reg (storeWrite .cyTxidx i v d) .cyTxidx i = v := by
  have stored : fld (storeWrite .cyTxidx i v d) fCY_TXIDX_TX_INDEX i = bitsOf v.toNat 47 0 % 2 ^ 48 :=
    fld_setFld_same fCY_TXIDX_TX_INDEX i _ d (by decide) (by decide)
  have whole : ∀ w : Word, bitsOf w.toNat 47 0 = w.toNat := fun w => by
    simpa [bitsOf] using Nat.mod_eq_of_lt w.isLt
  refine BitVec.eq_of_toNat_eq ?_
  rw [fld, whole, whole, Nat.mod_eq_of_lt v.isLt] at stored
  exact stored

/-- Register i holds TX_INDEX of sets 24 i to 24 i + 23. -/
theorem txIndex_of_reg (d : Dev) (i : Nat) {j : Nat} (h : j < 24) :
    txIndex d (24 * i + j) = bitsOf (reg d .cyTxidx i).toNat (2 * j + 1) (2 * j) := by
  rw [txIndex, show (24 * i + j) / 24 = i by omega, show (24 * i + j) % 24 = j by omega]

theorem txIndexWrite_sets (i : Fin 3) (v : Word) : Runs (.txIndexWrite i v)
    (fun _ => True)
    (fun _ d => ∀ j : Fin 24, 24 * i.val + j.val < 64 → txIndex d (24 * i.val + j.val) = bitsOf v.toNat (2 * j.val + 1) (2 * j.val)) :=
  runs_of (exec_txIndexWrite i v) fun a _ j _ => by rw [txIndex_of_reg _ _ j.isLt, reg_storeWrite_cyTxidx]

/-- Settles O14: every command ends in giving its RESULT, which touches no key, so what stands is what was set before it. -/
theorem keyRegisters : Obligations.KeyRegisters :=
  ⟨keyWriteEntry_writes, keyWriteEntry_refused, keyEraseEntry_erases, keyEraseEntry_refused, keyReadEntryState_reads,
    checkValueSlotWrite_writes, checkValueSlotWrite_refused, checkValueSlotErase_erases, checkValueSlotErase_refused,
    keyCommandInvalid_refused, txIndexWrite_sets⟩

end Sys2Proof.Proofs
end

section
/-!
PROOF. The reorder window of a flow ID that two slots hold envelopes of (R97, R101, R508): the slot of the management flow and a
flow slot that received before the terminal number was assigned.
-/

namespace Sys2Proof.Proofs

open Sys2Proof Sys2Proof.Machine Sys2Proof.Laws

/-! ## The counterexample -/

/-- 2,000 µs, the default reorder window (R101). -/
def windowTime : Time := 2000 * Config.us

/-- A held envelope that is a packet of its own. -/
def heldEnvelope (seq : Nat) (since : Time) : BondEnv := ⟨seq, since, true, true, false, false, [1, 2], 16⟩

/-- Terminal 7, whose management flow is 0xFC07 (R508). Flow slot 0 is enabled for flow 0xFC07 too, in the upstream direction
since a commit, and holds envelope 6 of the time before, received at instant 0 where 5 was expected; the management flow holds
envelope 9, received 2,000 µs later where 7 was expected. -/
def flowHeldTwice : Dev :=
  setFld fACT_STATUS_NUM_VALID 0 1 (setFld fACT_STATUS_TERM_NUM 0 7
    { State.reset.dev with
      porstLow := false
      dict := [(0x240001, [0xFC, 0x07]), (0x240002, [1]), (0x240003, [2])]
      bond := { flows := [(0, { expected := some 5, held := [heldEnvelope 6 0] }),
        (8192, { expected := some 7, held := [heldEnvelope 9 windowTime] })] } })

theorem flowHeldTwice_high : flowHeldTwice.porstLow = false := by decide +kernel

/-- The settings of slot 0 are none that R97 refuses. -/
theorem flowRule_flowHeldTwice : flowRule flowHeldTwice 0 = 0 := by decide +kernel

/-- At the end of the first window flow 0xFC07 is the management flow's, and what that holds is not due. -/
theorem flowHeldTwice_facts :
    downSlot (tick windowTime flowHeldTwice) (0xFC07#16).toNat = some 8192 ∧
      (bondFlow (tick windowTime flowHeldTwice) 8192).held = [heldEnvelope 9 windowTime] ∧
      (tick windowTime flowHeldTwice).pwr.heldMgmt = [] ∧
      (tick windowTime flowHeldTwice).now < windowTime + fld (tick windowTime flowHeldTwice) fBOND_CTRL_WINDOW 0 * Config.us := by
  decide +kernel

/-- Slot 0 holds an envelope before the command. -/
theorem flowHeldTwice_held : (bondFlow (tick windowTime flowHeldTwice) 0).held ≠ [] := by decide +kernel

/-- The command delivers it: its own window has run (R101). -/
theorem reorderExpiry_flowHeldTwice :
    (bondFlow (mgmtWake (reorderExpiry (0xFC07#16).toNat (tick windowTime flowHeldTwice))) 0).held = [] := by
  decide +kernel

theorem bondFlow_of_bond {a b : Dev} (h : b.bond = a.bond) (k : Nat) : bondFlow b k = bondFlow a k := by
  simp only [bondFlow, h]

/-- Refutes O15: the window of the slot that receives a flow ID has not run, but another slot enabled for the same flow ID, which a
commit has turned to the upstream direction, still holds an envelope that is due; the command closes that slot's gap, and the
bonding stage does not stand. -/
theorem not_envelopesIn : ¬ Obligations.EnvelopesIn := by
  rintro ⟨-, -, -, bondStands⟩
  have kept := post_of_runsAt (exec_reorderWindowExpiry windowTime 0xFC07#16)
    (bondStands windowTime 0xFC07#16 8192 (heldEnvelope 9 windowTime) [])
    flowHeldTwice flowHeldTwice_high flowHeldTwice_facts
  rw [fsDrive_bond] at kept
  have same := congrArg BondFlow.held (bondFlow_of_bond kept 0)
  exact flowHeldTwice_held (same.symm.trans reorderExpiry_flowHeldTwice)

end Sys2Proof.Proofs
end

section
/-!
PROOF. Burst Profile, Assign Terminal, Ranging Request and Ranging Time (R129, R131, R134, R137, R139, R143 to R145, R147, R170,
R651): what the Firescreen's part of a message and a change of state out of Operation leave, and what each message sets.
-/

namespace Sys2Proof.Proofs

open Sys2Proof Sys2Proof.Machine Sys2Proof.Laws

/-! ## The Firescreen's part of a message (R194, R653) -/

/-- The pieces that the Firescreen's part of a message may touch where no channel is made dark. -/
def ownPieces : List Piece := .fs :: countPieces

/-- The registers that it may touch. -/
def ownRegs : List Reg := .fsEvent :: countRegs

theorem frame_ownFs {rs : List Reg} {d : Dev} {x : FsSt} : Frame ownPieces rs d { d with fs := x } := by
  refine ⟨fun p hp => ?_, KeepRegs_of_eq rfl⟩
  cases p with
  | fs => exact absurd (by decide) hp
  | _ => rfl

theorem frame_ownRaise {f : Fld} (d : Dev) (h : f.reg = .fsEvent) : Frame ownPieces ownRegs d (raise f 0 d) :=
  Frame_mono (frame_raise f 0 d (by rw [h]; decide)) (by decide) (by simp [h, ownRegs])

/-- A Firescreen's part within a frame, for a message of whatever type. -/
theorem frame_fsOn {ps : List Piece} {rs : List Reg} {ty : Nat} {f : CtlMsg → Dev → Dev} {m : CtlMsg} {d : Dev}
    (h : Frame ps rs d (f m d)) : Frame ps rs d (fsOn ty f m d) :=
  Frame_ite _ h (Frame_refl _ _ d)

theorem frame_fsNote (m : CtlMsg) (d : Dev) : Frame ownPieces ownRegs d (fsNote m d) :=
  Frame_ite _ (Frame_refl _ _ d) frame_ownFs

theorem frame_fsProfile (m : CtlMsg) (d : Dev) : Frame ownPieces ownRegs d (fsProfile m d) :=
  Frame_ite _ (Frame_refl _ _ d) frame_ownFs

theorem frame_fsAssign (m : CtlMsg) (d : Dev) : Frame ownPieces ownRegs d (fsAssign m d) :=
  Frame_ite _ frame_ownFs (Frame_refl _ _ d)

theorem frame_fsRangingRequest (m : CtlMsg) (d : Dev) : Frame ownPieces ownRegs d (fsRangingRequest m d) := by
  simp only [fsRangingRequest]
  have noted := frame_fsNote m d
  exact Frame_ite _ (Frame_refl _ _ d) (Frame_ite _ (Frame_step noted frame_ownFs) noted)

/-- The end of the protection hold leaves the thermal hold, so no channel is made dark. -/
theorem frame_protHoldEnd (d : Dev) : Frame ownPieces ownRegs d (protHoldEnd d) := by
  simp only [protHoldEnd, setHolds, Bool.and_not_self, Bool.false_eq_true, if_false]
  exact Frame_ite _ (Frame_ite _ frame_ownFs (Frame_step frame_ownFs (frame_ownRaise _ rfl))) (Frame_refl _ _ d)

theorem frame_fsRangingTime (m : CtlMsg) (d : Dev) : Frame ownPieces ownRegs d (fsRangingTime m d) := by
  have noted := frame_fsNote m d
  simp only [fsRangingTime]
  refine Frame_ite _ (Frame_refl _ _ d) (Frame_ite _ noted ?_)
  split
  · exact noted
  · exact Frame_step noted (Frame_step frame_ownFs (frame_protHoldEnd _))

/-! ## A message that was answered (R138) -/

@[simp] theorem fld_answered (k : Nat) (box : List (List Byte)) (last : Option (Nat × Nat × Nat)) (d : Dev) (f : Fld) (i : Nat) :
    fld (answered k box last d) f i = fld d f i := fld_of_regs rfl f i

theorem numHeld_answered (k : Nat) (box : List (List Byte)) (last : Option (Nat × Nat × Nat)) (d : Dev) :
    numHeld (answered k box last d) = numHeld d := rfl

theorem actState_answered (k : Nat) (box : List (List Byte)) (last : Option (Nat × Nat × Nat)) (d : Dev) :
    actState (answered k box last d) = actState d := fld_of_regs rfl _ _

@[simp] theorem answered_up (k : Nat) (box : List (List Byte)) (last : Option (Nat × Nat × Nat)) (d : Dev) :
    (answered k box last d).up = d.up := rfl

@[simp] theorem answered_rangingDue (k : Nat) (box : List (List Byte)) (last : Option (Nat × Nat × Nat)) (d : Dev) :
    (answered k box last d).act.rangingDue = d.act.rangingDue := rfl

theorem frame_answered (k : Nat) (box : List (List Byte)) (last : Option (Nat × Nat × Nat)) (d : Dev) {rs : List Reg} :
    Frame [.freeCtr, .act] rs d (answered k box last d) := by
  refine ⟨fun p hp => ?_, KeepRegs_of_eq rfl⟩
  cases p with
  | freeCtr | act => exact absurd (by decide) hp
  | _ => rfl

theorem frame_taken (m : CtlMsg) (d : Dev) {rs : List Reg} : Frame [.freeCtr, .act] rs d (taken m d) := by
  refine ⟨fun p hp => ?_, KeepRegs_of_eq rfl⟩
  cases p with
  | act => exact absurd (by decide) hp
  | _ => rfl

@[simp] theorem fld_taken (m : CtlMsg) (d : Dev) (f : Fld) (i : Nat) : fld (taken m d) f i = fld d f i := fld_of_regs rfl f i

/-! ## What a frame leaves of ACT_STATUS (R128) -/

theorem actState_of_frame {ps : List Piece} {rs : List Reg} {a b : Dev} (h : Frame ps rs a b) (hr : .actStatus ∉ rs) :
    actState b = actState a := Frame_fld h hr (by decide)

theorem homeChan_of_frame {ps : List Piece} {rs : List Reg} {a b : Dev} (h : Frame ps rs a b) (hr : .actStatus ∉ rs) :
    homeChan b = homeChan a := Frame_fld h hr (by decide)

theorem numHeld_of_frame {ps : List Piece} {rs : List Reg} {a b : Dev} (h : Frame ps rs a b) (hr : .actStatus ∉ rs) :
    numHeld b = numHeld a := by
  rw [numHeld, Frame_fld h hr (by decide), numHeld]

theorem termNum_of_frame {ps : List Piece} {rs : List Reg} {a b : Dev} (h : Frame ps rs a b) (hr : .actStatus ∉ rs) :
    termNum b = termNum a := Frame_fld h hr (by decide)

/-! ## A change of state out of Operation (R129, R151) -/

/-- Out of Operation no consent ends with the change: the state's register and its event are all that is touched. -/
theorem frame_setState_of_ne {d : Dev} (n : Nat) (h : actState d ≠ 4) :
    Frame [.regs, .host, .emitted] [.actStatus, .actEvent] d (setState n d) := by
  simp only [setState, if_neg h]
  refine Frame_ite _ (Frame_refl _ _ d) (Frame_step (b := setFld fACT_STATUS_STATE 0 n d) ?_ ?_)
  · exact Frame_mono (frame_setFld _ 0 n d (by decide)) (by decide) (by decide)
  · exact Frame_mono (frame_raise _ 0 _ (by decide)) (by decide) (by decide)

/-- Out of Operation a new state leaves the other fields of ACT_STATUS. -/
theorem fld_setState_status {d : Dev} {f : Fld} (n : Nat) (h : actState d ≠ 4) (hr : f.reg = .actStatus) (hl : 2 < f.lo)
    (hf : f.lo ≤ f.hi) : fld (setState n d) f 0 = fld d f 0 := by
  simp only [setState, if_neg h]
  split
  · rfl
  · rw [fld_raise_ne fACT_EVENT_STATE_CHANGE f 0 0 _ (by rw [hr]; decide) (by decide) (by rw [hr]; decide),
      fld_setFld_apart fACT_STATUS_STATE f 0 n d hr (by decide) (by decide) hf (.inl hl)]

/-! ## Burst Profile (R137, R170, R189) -/

/-- A profile's registers set: HELD reads as given. -/
theorem fld_setProfile_held {p : Nat} (hp : p < 4) (c : ProfCfg) (d : Dev) :
    fld (setProfile p c d) fPROF_CFG_HELD p = c.held.toNat := by
  have four : ∀ r ∈ [Reg.profCfg, .profDelay, .profDelimHi, .profDelimLo], 4 ≤ (regPlace r).2.2 := by decide
  have count : ∀ r ∈ [Reg.profCfg, .profDelay, .profDelimHi, .profDelimLo], p < (regPlace r).2.2 := fun r h =>
    hp.trans_le (four r h)
  simp only [setProfile]
  rw [fld_setFld_ne fACT_STATUS_PROFILES _ _ _ _ _ (by decide) (by decide) (count _ (by decide)),
    fld_setFld_ne fPROF_DELIM_HI_DELIM _ _ _ _ _ (by decide) (count _ (by decide)) (count _ (by decide)),
    fld_setFld_ne fPROF_DELIM_LO_DELIM _ _ _ _ _ (by decide) (count _ (by decide)) (count _ (by decide)),
    fld_setFld_ne fPROF_DELAY_PREASSIGNED _ _ _ _ _ (by decide) (count _ (by decide)) (count _ (by decide)),
    fld_setFld_same fPROF_CFG_HELD _ _ _ (by decide) (by decide)]
  cases c.held <;> rfl

theorem setProfile_up (p : Nat) (c : ProfCfg) (d : Dev) : (setProfile p c d).up = d.up := by
  have step : ∀ {b : Dev} (f : Fld) (i v : Nat), Only [.regs] d b → Only [.regs] d (setFld f i v b) := fun f i v h =>
    Only_step h (only_setFld f i v _)
  have written : Only [.regs] d (setProfile p c d) :=
    step _ _ _ (step _ _ _ (step _ _ _ (step _ _ _ (step _ _ _ (step _ _ _ (step _ _ _ (step _ _ _ (Only_refl _ d))))))))
  exact written .up (by decide)

/-- A lost grant leaves the history of the profiles. -/
theorem loseGrant_profHist (d : Dev) (g : Grant) : (loseGrant d g).up.profHist = d.up.profHist := by
  simp only [loseGrant]
  split
  · rfl
  · rw [raiseIf_up, countN_up]

theorem abandonGrants_profHist (p : Grant → Bool) (d : Dev) : (abandonGrants p d).up.profHist = d.up.profHist := by
  simp only [abandonGrants]
  exact List.foldlRecOn (motive := fun b : Dev => b.up.profHist = d.up.profHist) _ _ rfl
    fun b hb g _ => (loseGrant_profHist b g).trans hb

/-- Standby and Serial Number settled: the profiles' history stands. -/
theorem settleState_profHist (d : Dev) : (settleState d).up.profHist = d.up.profHist := by
  have status : ∀ p, actState (abandonGrants p d) = actState d := fun p =>
    Frame_fld (frame_abandonGrants p d) (by decide) (by decide)
  simp only [settleState]
  split
  case isTrue standby =>
    rw [(frame_setState_of_ne 2 (by omega)).1 .up (by decide)]
  case isFalse =>
    split
    case isTrue serial =>
      rw [(frame_setState_of_ne 1 (by rw [status]; omega)).1 .up (by decide), abandonGrants_profHist]
    case isFalse => rfl

/-- What a profile was, with the frame that carried the message, at the head of the history (R170). -/
def profileNoted (m : CtlMsg) (d : Dev) : Dev :=
  { d with up := { d.up with profHist :=
    (({ prof := mf m 4 1 % 4, fc := m.fc, old := profNow d (mf m 4 1 % 4) } : ProfChange) :: d.up.profHist).take 16 } }

theorem burstProfile_of_good {m : CtlMsg} (h : badProfile m = false) (d : Dev) :
    burstProfile m d = (0, settleState (setProfile (mf m 4 1 % 4) (msgProfile m) (profileNoted m d))) :=
  if_neg (by simp [h])

theorem burstProfile_sets (m : CtlMsg) : RunsAt (.burstProfile m) m.t
    (fun a => messageActs 0x01 m a = true ∧ badProfile m = false)
    (fun a d => fld d fPROF_CFG_HELD (mf m 4 1 % 4) = (msgProfile m).held.toNat ∧
      d.up.profHist.head? = some { prof := mf m 4 1 % 4, fc := m.fc, old := profNow a (mf m 4 1 % 4) }) := by
  refine runsAt_of (exec_burstProfile m) fun a ⟨hm, good⟩ => ?_
  obtain ⟨k, box, last, e⟩ := receive_answers (burstProfile m) hm
  have own := frame_fsOn (ty := 0x01) (frame_fsProfile m (receive 0x01 m (burstProfile m) a))
  have profile : mf m 4 1 % 4 < 4 := Nat.mod_lt _ (by decide)
  have up : _ = _ := own.1 .up (by decide)
  rw [Frame_fld own (by decide) profile, up, e, burstProfile_of_good good, fld_answered, answered_up, settleState_profHist,
    Frame_fld (frame_settleState _) (by decide) profile, fld_setProfile_held profile, setProfile_up]
  exact ⟨rfl, rfl⟩

/-! ## The domains in Run and Idle (R550) -/

/-- In Run and Idle, out of the lifeline profile, what a domain is rests on the part, the enabled channels and the spare rank
alone. -/
theorem domState_inRun {ps : List Piece} {rs : List Reg} {a b : Dev} {st : Nat} (h : Frame ps rs a b) (hpart : .part ∉ ps)
    (hmc : .mc ∉ ps) (hlc : .lcCtrl ∉ rs) (hst : st ≤ 1) (n : Nat) : domState b st false n = domState a st false n := by
  have part : b.part = a.part := h.1 .part hpart
  have spare : spareTaken b = spareTaken a := congrArg MemSt.hb4Taken (h.1 .mc hmc)
  have enabled : n < 28 → fld b fLC_CTRL_ENABLE (n - 12) = fld a fLC_CTRL_ENABLE (n - 12) := fun hn =>
    Frame_fld h hlc (show n - 12 < 16 by omega)
  simp only [domState, part, if_pos hst, runDomain, spare, Bool.not_false, Bool.true_or, if_true, Bool.false_eq_true, if_false]
  by_cases hn : n < 28
  · rw [enabled hn]
  · simp only [hn, if_false]

/-- The domains stand where their registers do (R571). -/
theorem pdState_of_frame {ps : List Piece} {rs : List Reg} {a b : Dev} (h : Frame ps rs a b) (hd : .pwDom ∉ rs)
    (hd3 : .pwDom3 ∉ rs) {n : Nat} (hn : n < 50) : pdState b n = pdState a n := by
  by_cases low : n < 48
  · simp only [pdState, if_pos low, Frame_reg h hd (show n / 16 < 3 by omega)]
  · simp only [pdState, if_neg low, Frame_reg h hd3 (show 0 < 1 by decide)]

/-- Domains that are as their state has them stay so. -/
theorem domsRefresh_settled {d : Dev}
    (h : (List.range 50).all (fun n => pdState d n == domState d d.pwr.state d.pwr.lifeline n) = true) : domsRefresh d = d := by
  simp only [domsRefresh, h, if_true, ite_self]

/-- In Run and Idle a change past what the domains rest on leaves them settled. -/
theorem domsRefresh_inRun {ps : List Piece} {rs : List Reg} {a b : Dev} (h : Frame ps rs a b)
    (hps : ∀ p ∈ [Piece.part, .mc, .pwr], p ∉ ps) (hrs : ∀ r ∈ [Reg.lcCtrl, .pwDom, .pwDom3], r ∉ rs)
    (hst : a.pwr.state = 0 ∨ a.pwr.state = 1) (full : a.pwr.lifeline = false)
    (settled : (List.range 50).all (fun n => pdState a n == domState a a.pwr.state false n) = true) : domsRefresh b = b := by
  have power : b.pwr = a.pwr := h.1 .pwr (hps _ (by decide))
  refine domsRefresh_settled ?_
  simp only [List.all_eq_true, List.mem_range, beq_iff_eq, power, full] at settled ⊢
  intro n hn
  rw [pdState_of_frame h (hrs _ (by decide)) (hrs _ (by decide)) hn, settled n hn,
    domState_inRun h (hps _ (by decide)) (hps _ (by decide)) (hrs _ (by decide)) (by omega)]

/-! ## Assign Terminal (R147) -/

/-- Number and home channel assigned; a new number forgets the management flow of the old one (R147, R508). -/
def assigned (m : CtlMsg) (d : Dev) : Dev :=
  setFld fACT_STATUS_NUM_VALID 0 1 (setFld fACT_STATUS_TERM_NUM 0 (mf m 12 2) (setFld fACT_STATUS_HOME 0 (mf m 14 1)
    (if numHeld d ∧ termNum d = mf m 12 2 then d else forgetFlow 8192 d)))

theorem assignTerminal_of_own {m : CtlMsg} {d : Dev} (serial : mf m 4 8 = ownSerial) (state : actState d ≠ 4)
    (number : mf m 12 2 ≤ 511) (home : mf m 14 1 ≤ 15) (enabled : chanEnabled d (mf m 14 1) = true) :
    assignTerminal m d = (0, startRanging (setState 3 (assigned m d))) := by
  have accepted : ¬ (actState d = 4 ∨ 511 < mf m 12 2 ∨ 15 < mf m 14 1 ∨ ¬ chanEnabled d (mf m 14 1) = true) := by
    simp [state, number, home, enabled]
  rw [assignTerminal, if_neg (not_not.2 serial), if_neg accepted]
  rfl

theorem frame_assigned (m : CtlMsg) (d : Dev) : Frame [.bond, .regs] [.actStatus] d (assigned m d) := by
  have forgotten : Frame [.bond, .regs] [.actStatus] d (forgetFlow 8192 d) := by
    refine ⟨fun p hp => ?_, KeepRegs_of_eq rfl⟩
    cases p with
    | bond => exact absurd (by decide) hp
    | _ => rfl
  have put : ∀ {b : Dev} (f : Fld) (v : Nat), f.reg = .actStatus → Frame [.bond, .regs] [.actStatus] d b →
      Frame [.bond, .regs] [.actStatus] d (setFld f 0 v b) := fun f v hr h =>
    Frame_step h (Frame_mono (frame_setFld f 0 v _ (by rw [hr]; decide)) (by decide) (by simp [hr]))
  exact put _ _ rfl (put _ _ rfl (put _ _ rfl (Frame_ite _ (Frame_refl _ _ d) forgotten)))

theorem assigned_status {m : CtlMsg} (d : Dev) (number : mf m 12 2 ≤ 511) (home : mf m 14 1 ≤ 15) :
    fld (assigned m d) fACT_STATUS_TERM_NUM 0 = mf m 12 2 ∧ fld (assigned m d) fACT_STATUS_NUM_VALID 0 = 1 ∧
      fld (assigned m d) fACT_STATUS_HOME 0 = mf m 14 1 := by
  simp (disch := decide) only [assigned, fld_setFld_apart, fld_setFld_same]
  exact ⟨Nat.mod_eq_of_lt (by omega), rfl, Nat.mod_eq_of_lt (by omega)⟩

theorem actState_assigned (m : CtlMsg) (d : Dev) : actState (assigned m d) = actState d := by
  simp (disch := decide) only [actState, assigned, fld_setFld_apart]
  split <;> rfl

@[simp] theorem fld_startRanging (d : Dev) (f : Fld) (i : Nat) : fld (startRanging d) f i = fld d f i :=
  fld_of_regs rfl f i

theorem startRanging_rangingDue (d : Dev) :
    (startRanging d).act.rangingDue = some (d.now + fld d fACT_CTRL_RANGING_TIMER 0 * Config.ms) := rfl

/-- The pieces that an assignment may touch, with the answer to its message. -/
def assignPieces : List Piece := [.bond, .act, .freeCtr] ++ ownPieces

/-- The registers that it may touch. -/
def assignRegs : List Reg := [.actStatus, .actEvent] ++ ownRegs

theorem frame_ranges {m : CtlMsg} {d : Dev} (h : actState (assigned m d) ≠ 4) :
    Frame assignPieces assignRegs d (setState 3 (assigned m d)) :=
  Frame_step (Frame_mono (frame_assigned m d) (by decide) (by decide))
    (Frame_mono (frame_setState_of_ne 3 h) (by decide) (by decide))

theorem frame_assign_startRanging (d : Dev) : Frame assignPieces assignRegs d (startRanging d) := by
  refine ⟨fun p hp => ?_, KeepRegs_of_eq rfl⟩
  cases p with
  | act => exact absurd (by decide) hp
  | _ => rfl

/-- An Assign Terminal that is accepted leaves the domains as they are, which in Run and Idle do not rest on the home channel. -/
theorem assignTerminal_ranges (m : CtlMsg) : RunsAt (.assignTerminal m) m.t
    (fun a => messageActs 0x02 m a = true ∧ mf m 4 8 = ownSerial ∧ actState a ≠ 4 ∧ mf m 12 2 ≤ 511 ∧
      mf m 14 1 ≤ 15 ∧ chanEnabled a (mf m 14 1) = true ∧ a.pwr.lifeline = false ∧
      (a.pwr.state = 0 ∨ a.pwr.state = 1) ∧
      (List.range 50).all (fun n => pdState a n == domState a a.pwr.state false n) = true)
    (fun a d => fld d fACT_STATUS_TERM_NUM 0 = mf m 12 2 ∧ fld d fACT_STATUS_NUM_VALID 0 = 1 ∧ homeChan d = mf m 14 1 ∧
      actState d = 3 ∧ d.act.rangingDue = some (a.now + fld a fACT_CTRL_RANGING_TIMER 0 * Config.ms)) := by
  refine runsAt_of (exec_assignTerminal m) fun a ⟨hm, serial, state, number, home, enabled, full, run, settled⟩ => ?_
  obtain ⟨k, box, last, e⟩ := receive_answers (assignTerminal m) hm
  have notOperating : actState (assigned m (taken m a)) ≠ 4 := (actState_assigned m _).trans_ne state
  have accepted := assignTerminal_of_own (d := taken m a) serial state number home enabled
  have own := frame_fsOn (ty := 0x02) (frame_fsAssign m (receive 0x02 m (assignTerminal m) a))
  have reached : Frame assignPieces assignRegs a (setState 3 (assigned m (taken m a))) :=
    Frame_step (Frame_mono (frame_taken m a (rs := [])) (by decide) (by decide)) (frame_ranges notOperating)
  have whole : Frame assignPieces assignRegs a (fsOn 0x02 fsAssign m (receive 0x02 m (assignTerminal m) a)) := by
    refine Frame_step ?_ (Frame_mono own (by decide) (by decide))
    rw [e, accepted]
    exact Frame_step (Frame_step reached (frame_assign_startRanging _))
      (Frame_mono (frame_answered k box last _ (rs := [])) (by decide) (by decide))
  have now : _ = _ := reached.1 .now (by decide)
  have act : _ = _ := own.1 .act (by decide)
  obtain ⟨term, valid, home'⟩ := assigned_status (taken m a) number home
  rw [domsRefresh_inRun whole (by decide) (by decide) run full settled, homeChan_of_frame own (by decide),
    actState_of_frame own (by decide), Frame_fld own (by decide) (by decide), Frame_fld own (by decide) (by decide), act, e,
    accepted, answered_rangingDue, startRanging_rangingDue, now,
    Frame_fld reached (f := fACT_CTRL_RANGING_TIMER) (by decide) (by decide)]
  simp only [homeChan, actState, fld_answered, fld_startRanging]
  have stands : ∀ f : Fld, f.reg = .actStatus → 2 < f.lo → f.lo ≤ f.hi →
      fld (setState 3 (assigned m (taken m a))) f 0 = fld (assigned m (taken m a)) f 0 := fun _ =>
    fld_setState_status 3 notOperating
  rw [stands _ rfl (by decide) (by decide), stands _ rfl (by decide) (by decide), stands _ rfl (by decide) (by decide)]
  exact ⟨term, valid, home', actState_setState (by decide) _, trivial⟩

/-! ## Ranging Request and Ranging Time (R143 to R145) -/

theorem rangingRequest_awaits (m : CtlMsg) : RunsAt (.rangingRequest m) m.t
    (fun a => messageActs 0x03 m a = true ∧ mf m 4 1 ≤ 15 ∧ chanPresent a (mf m 4 1) = true ∧
      chanUp a (mf m 4 1) = true ∧ mf m 5 1 = pathNow a)
    (fun _ d => d.act.provDelay = mf m 6 3 ∧ d.act.ranging = some (mf m 4 1, m.fc)) := by
  refine runsAt_of (exec_rangingRequest m) fun a ⟨hm, channel, present, up, path⟩ => ?_
  obtain ⟨k, box, last, e⟩ := receive_answers (rangingRequest m) hm
  have own := frame_fsOn (ty := 0x03) (frame_fsRangingRequest m (receive 0x03 m (rangingRequest m) a))
  have act : _ = _ := own.1 .act (by decide)
  have inRange : ¬ 1 < mf m 5 1 := by
    have onePath : pathNow a ≤ 1 := Bool.toNat_le _
    omega
  have known : ¬ (15 < mf m 4 1 ∨ ¬ chanPresent (taken m a) (mf m 4 1) = true) := by
    simp [show chanPresent (taken m a) (mf m 4 1) = true from present, channel]
  have here : ¬ (¬ chanUp (taken m a) (mf m 4 1) = true ∨ mf m 5 1 ≠ pathNow (taken m a)) := by
    simp [show chanUp (taken m a) (mf m 4 1) = true from up, show pathNow (taken m a) = pathNow a from rfl, path]
  rw [act, e, rangingRequest, if_neg inRange, if_neg known, if_neg here]
  exact ⟨rfl, rfl⟩

/-- A delay that joins those that wait, with what it replaces in the history, and its event (R144, R145). -/
def delayTaken (m : CtlMsg) (v : Nat) (d : Dev) : Dev :=
  raise fACT_EVENT_RANGED 0 { d with act := { d.act with
    delayPend := d.act.delayPend ++ [(mf m 4 1, v)],
    delayHist := (({ path := mf m 4 1, fc := m.fc, old := latestDelay d (mf m 4 1) } : DelayChange) :: d.act.delayHist).take 16 } }

/-- The ranging timer stopped (R131). -/
def timerStopped (d : Dev) : Dev := { d with act := { d.act with rangingDue := none } }

@[simp] theorem fld_timerStopped (d : Dev) (f : Fld) (i : Nat) : fld (timerStopped d) f i = fld d f i := fld_of_regs rfl f i

theorem timerStopped_delayPend (d : Dev) : (timerStopped d).act.delayPend = d.act.delayPend := rfl

theorem rangingTime_of_delay {m : CtlMsg} {v : Nat} {d : Dev} (path : mf m 4 1 ≤ 1) (kind : mf m 5 1 ≤ 1)
    (delay : msgDelay m (latestDelay d (mf m 4 1)) = some v) : rangingTime m d =
      if actState (delayTaken m v d) = 3 ∧ mf m 4 1 = pathNow (delayTaken m v d) then
        (0, setState 4 (timerStopped (delayTaken m v d)))
      else (0, delayTaken m v d) := by
  rw [rangingTime, if_neg (by omega)]
  simp only [delay]
  rfl

theorem delayTaken_delayPend (m : CtlMsg) (v : Nat) (d : Dev) :
    (delayTaken m v d).act.delayPend = d.act.delayPend ++ [(mf m 4 1, v)] := by
  rw [delayTaken, raise_act]

theorem fld_delayTaken_ranged (m : CtlMsg) (v : Nat) (d : Dev) : fld (delayTaken m v d) fACT_EVENT_RANGED 0 = 1 :=
  fld_raise_same fACT_EVENT_RANGED 0 _ (by decide) (by decide)

theorem actState_delayTaken (m : CtlMsg) (v : Nat) (d : Dev) : actState (delayTaken m v d) = actState d :=
  (fld_raise_ne fACT_EVENT_RANGED fACT_STATUS_STATE 0 0 _ (by decide) (by decide) (by decide)).trans (fld_of_regs rfl _ _)

theorem pathNow_delayTaken (m : CtlMsg) (v : Nat) (d : Dev) : pathNow (delayTaken m v d) = pathNow d :=
  congrArg (fun x : Prot => x.sel.toNat) (raise_prot _ _ _)

/-- What a Ranging Time in range leaves, before the Firescreen's part: the delay waits, the event stands, and Ranging of the current
path has become Operation. -/
theorem rangingTime_takes {m : CtlMsg} {v : Nat} {d : Dev} (path : mf m 4 1 ≤ 1) (kind : mf m 5 1 ≤ 1)
    (delay : msgDelay m (latestDelay d (mf m 4 1)) = some v) :
    (rangingTime m d).2.act.delayPend = d.act.delayPend ++ [(mf m 4 1, v)] ∧
      fld (rangingTime m d).2 fACT_EVENT_RANGED 0 = 1 ∧
      (actState d = 3 ∧ mf m 4 1 = pathNow d → actState (rangingTime m d).2 = 4) := by
  rw [rangingTime_of_delay path kind delay, actState_delayTaken, pathNow_delayTaken]
  split
  case isTrue now =>
    have ranging : actState (timerStopped (delayTaken m v d)) ≠ 4 := by
      rw [actState, fld_timerStopped, ← actState, actState_delayTaken]
      omega
    refine ⟨?_, ?_, fun _ => actState_setState (by decide) _⟩
    · rw [setState_act 4 ranging, timerStopped_delayPend, delayTaken_delayPend]
    · rw [fld_setState_event 4 ranging rfl (by decide) (by decide), fld_timerStopped, fld_delayTaken_ranged]
  case isFalse other =>
    exact ⟨delayTaken_delayPend m v d, fld_delayTaken_ranged m v d, fun now => absurd now other⟩

theorem rangingTime_ranges (m : CtlMsg) (v : Nat) : RunsAt (.rangingTime m) m.t
    (fun a => messageActs 0x04 m a = true ∧ mf m 4 1 ≤ 1 ∧ mf m 5 1 ≤ 1 ∧
      msgDelay m (latestDelay a (mf m 4 1)) = some v)
    (fun a d => d.act.delayPend = a.act.delayPend ++ [(mf m 4 1, v)] ∧ fld d fACT_EVENT_RANGED 0 = 1 ∧
      (actState a = 3 ∧ mf m 4 1 = pathNow a → actState d = 4)) := by
  refine runsAt_of (exec_rangingTime m) fun a ⟨hm, path, kind, delay⟩ => ?_
  obtain ⟨k, box, last, e⟩ := receive_answers (rangingTime m) hm
  have own := frame_fsOn (ty := 0x04) (frame_fsRangingTime m (receive 0x04 m (rangingTime m) a))
  have act : _ = _ := own.1 .act (by decide)
  obtain ⟨waits, ranged, operation⟩ := rangingTime_takes (d := taken m a) path kind delay
  rw [actState_of_frame own (by decide), Frame_fld own (by decide) (by decide), act, e, actState_answered, fld_answered]
  exact ⟨waits, ranged, operation⟩

/-- Settles O11: what the answer and the Firescreen's part add leaves what a message set; out of Operation a change of state ends
no consent, and in Run and Idle the domains do not rest on the home channel. -/
theorem joiningMessages : Obligations.JoiningMessages :=
  ⟨burstProfile_sets, assignTerminal_ranges, rangingRequest_awaits, rangingTime_ranges⟩

end Sys2Proof.Proofs
end

section
/-!
PROOF. Deactivate, Disable, Enable and Key Control (R114, R129, R137 to R139, R148 to R150, R651): what the Firescreen's part leaves
of what the line engine looks at, what stays of a stop under a change of state, and what each message leaves.
-/

namespace Sys2Proof.Proofs

open Sys2Proof Sys2Proof.Machine Sys2Proof.Laws

/-! ## What makes a message act (R134, R135, R138, R139) -/

/-- What the line engine looks at is the same, for a directed message also the last one acted on: a message acts as before. -/
theorem messageActs_of_frame {ps : List Piece} {rs : List Reg} {ty : Nat} {m : CtlMsg} {a b : Dev} (h : Frame ps rs a b)
    (hps : ∀ p ∈ [Piece.chans, .pwr, .cipher], p ∉ ps) (hr : .actStatus ∉ rs)
    (last : isBroadcast m = true ∨ b.act.lastDirected = a.act.lastDirected) : messageActs ty m b = messageActs ty m a := by
  have chans : b.chans = a.chans := h.1 .chans (hps _ (by decide))
  have power : b.pwr = a.pwr := h.1 .pwr (hps _ (by decide))
  have cipher : b.cipher = a.cipher := h.1 .cipher (hps _ (by decide))
  have hears : lineHears m b = lineHears m a := by
    simp only [lineHears, engineRuns, chanUp, power, chan_of_chans chans]
  have fails : checkFails m b = checkFails m a := by simp only [checkFails, checkKey, cipher]
  simp only [messageActs, hears, fails, actState_of_frame h hr, numHeld_of_frame h hr, termNum_of_frame h hr]
  rcases last with broadcast | last
  · simp only [broadcast, Bool.true_or]
  · rw [last]

/-- A message that acts is of its type, on the right flow, and has an action in the state. -/
theorem parts_of_acts {ty : Nat} {m : CtlMsg} {d : Dev} (h : messageActs ty m d = true) :
    mType m = ty ∧ rightFlow m = true ∧ actsIn ty (isBroadcast m) (actState d) = true := by
  simp only [messageActs, Bool.and_eq_true, beq_iff_eq] at h
  obtain ⟨⟨⟨⟨⟨⟨-, type⟩, flow⟩, -⟩, -⟩, acts⟩, -⟩ := h
  exact ⟨type, flow, acts⟩

/-- A type that is never directed came as a broadcast. -/
theorem isBroadcast_of_acts {ty : Nat} {m : CtlMsg} {d : Dev} (h : messageActs ty m d = true) (ht : directedType ty = false) :
    isBroadcast m = true := by
  obtain ⟨type, flow, -⟩ := parts_of_acts h
  by_contra directed
  simp [rightFlow, directed, type, ht] at flow

/-- A type that is never broadcast came directed. -/
theorem isDirected_of_acts {ty : Nat} {m : CtlMsg} {d : Dev} (h : messageActs ty m d = true) (ht : broadcastType ty = false) :
    isBroadcast m = false := by
  obtain ⟨type, flow, -⟩ := parts_of_acts h
  by_contra broadcast
  simp [rightFlow, broadcast, type, ht] at flow

/-! ## The Firescreen's part (R149, R198, R212 to R215) -/

theorem frame_fsDeactivate (m : CtlMsg) (d : Dev) : Frame ownPieces ownRegs d (fsDeactivate m d) :=
  Frame_ite _ (Frame_step (frame_fsNote m d) frame_ownFs) (Frame_refl _ _ d)

theorem frame_ownCount (c : CName) (k : Nat) (d : Dev) : Frame ownPieces ownRegs d (count c k d) :=
  Frame_mono (frame_count c k d) (by decide) (by decide)

theorem frame_nonceCheck (m : CtlMsg) (d : Dev) : Frame ownPieces ownRegs d (nonceCheck m d) :=
  Frame_ite _ (frame_ownCount _ _ d) (Frame_refl _ _ d)

theorem frame_releaseCommit (d : Dev) : Frame ownPieces ownRegs d (releaseCommit d) := by
  simp only [releaseCommit]
  refine Frame_ite _ (Frame_refl _ _ d) (Frame_step (Frame_step ?_ frame_ownFs) (frame_ownRaise _ rfl))
  exact Frame_foldl _ (fun _ _ => frame_ownFs) _ d

theorem frame_secretaryRelieves (d : Dev) : Frame ownPieces ownRegs d (secretaryRelieves d) := by
  simp only [secretaryRelieves, fsReleaseWrite]
  exact Frame_ite _ (Frame_ite _ (Frame_step frame_ownFs (frame_releaseCommit _)) (frame_ownCount _ _ d)) (Frame_refl _ _ d)

theorem frame_fsEnable (m : CtlMsg) (d : Dev) : Frame ownPieces ownRegs d (fsEnable m d) := by
  simp only [fsEnable]
  refine Frame_ite _ (Frame_step ?_ (frame_secretaryRelieves _)) (Frame_refl _ _ d)
  exact Frame_step (Frame_step frame_ownFs (frame_ownRaise _ rfl)) (frame_releaseCommit _)

/-- The pieces that a channel made dark may touch: a burst under way is cut, and a Sleep Notice in it counts as gone (R152,
R181). -/
def darkPieces : List Piece := [.up, .act] ++ ownPieces

/-- The registers that it may touch. -/
def darkRegs : List Reg := .leGrantEvent :: ownRegs

theorem frame_darkParts {rs : List Reg} {d : Dev} {u : UpSt} {x : ActSt} {f : FsSt} {es : List Emission} :
    Frame darkPieces rs d { d with up := u, act := x, fs := f, emitted := es } := by
  refine ⟨fun p hp => ?_, KeepRegs_of_eq rfl⟩
  cases p with
  | up | act | fs | emitted => exact absurd (by decide) hp
  | _ => rfl

theorem frame_leaveBurst (g : Grant) (d : Dev) : Frame darkPieces darkRegs d (leaveBurst g d) := by
  simp only [leaveBurst]
  split
  · exact Frame_refl _ _ d
  · exact Frame_ite _ frame_darkParts (Frame_refl _ _ d)

theorem frame_cutBurst (n : Nat) (d : Dev) : Frame darkPieces darkRegs d (cutBurst n d) := by
  simp only [cutBurst]
  refine Frame_step frame_darkParts (Frame_foldl _ (fun d g => ?_) _ _)
  refine Frame_step ?_ (Frame_mono (frame_raise fLE_GRANT_EVENT_BURST_CUT 0 _ (by decide)) (by decide) (by decide))
  exact frame_counted .burstsCut n 1 (frame_leaveBurst g d) (by decide) (by decide)

theorem frame_forceAllLow (d : Dev) : Frame darkPieces darkRegs d (forceAllLow d) := by
  refine Frame_foldl _ (fun d n => ?_) _ d
  simp only [forceLow]
  exact Frame_ite _ (Frame_step frame_darkParts (frame_cutBurst n _)) (Frame_refl _ _ d)

theorem frame_fsDisable (m : CtlMsg) (d : Dev) : Frame darkPieces darkRegs d (fsDisable m d) := by
  simp only [fsDisable]
  refine Frame_ite _ (Frame_step ?_ (frame_forceAllLow _)) (Frame_refl _ _ d)
  have stopped : ∀ x, Frame ownPieces ownRegs d (raise fFS_EVENT_DISABLED 0 { d with fs := x }) := fun _ =>
    Frame_step frame_ownFs (frame_ownRaise _ rfl)
  exact Frame_mono (stopped _) (by decide) (by decide)

/-! ## What stays of a stop, and the timer, under a change of state (R129, R130, R149, R151) -/

/-- From device a to device b the stop record, the consent and the release for it, and the ranging timer are the same. -/
structure KeepsStop (a b : Dev) : Prop where
  stopRecord : b.act.stopRecord = a.act.stopRecord
  consent : b.act.consent = a.act.consent
  release : b.act.release = a.act.release
  rangingDue : b.act.rangingDue = a.act.rangingDue

theorem KeepsStop.of_act {a b : Dev} (h : b.act = a.act) : KeepsStop a b :=
  ⟨congrArg (·.stopRecord) h, congrArg (·.consent) h, congrArg (·.release) h, congrArg (·.rangingDue) h⟩

theorem KeepsStop.trans {a b c : Dev} (h : KeepsStop a b) (k : KeepsStop b c) : KeepsStop a c :=
  ⟨k.stopRecord.trans h.stopRecord, k.consent.trans h.consent, k.release.trans h.release, k.rangingDue.trans h.rangingDue⟩

theorem keepsStop_endConsent (d : Dev) : KeepsStop d (endConsent d) := by
  constructor <;> rw [endConsent_act]

theorem keepsStop_setState (n : Nat) (d : Dev) : KeepsStop d (setState n d) := by
  by_cases operation : actState d = 4
  · simp only [setState, if_pos operation]
    split
    · exact .of_act rfl
    · exact (keepsStop_endConsent d).trans (.of_act (by rw [raise_act, setFld_act]))
  · exact .of_act (setState_act n operation)

theorem keepsStop_eraseHeld (d : Dev) : KeepsStop d (eraseHeld d) := ⟨rfl, rfl, rfl, rfl⟩

theorem keepsStop_clearRecord (d : Dev) : KeepsStop d (clearRecord d) := by
  have erased : KeepsStop d (setReg .leTrib 0 0 (defaultEntries 0x2400 0x2C7F (eraseNumber d))) :=
    .of_act (by rw [setReg_act, defaultEntries_act, (frame_eraseNumber d).1 .act (by decide)])
  rw [clearRecord_eq]
  exact ((erased.trans (keepsStop_eraseHeld _)).trans (keepsStop_endConsent _)).trans
    (.of_act ((frame_dropUpstream _).1 .act (by decide)))

/-- A new state raises one event of the activation; the others stand, in Operation too. -/
theorem fld_setState_otherEvent {d : Dev} {f : Fld} (n : Nat) (hr : f.reg = .actEvent) (hl : 0 < f.lo) (hf : f.lo ≤ f.hi) :
    fld (setState n d) f 0 = fld d f 0 := by
  by_cases operation : actState d = 4
  · simp only [setState, if_pos operation]
    split
    · rfl
    · rw [fld_raise_apart fACT_EVENT_STATE_CHANGE f 0 _ hr (by decide) (by decide) hf (.inl hl),
        fld_setFld_ne fACT_STATUS_STATE f 0 0 n _ (by rw [hr]; decide) (by decide) (by rw [hr]; decide),
        Frame_fld (frame_endConsent d) (by rw [hr]; decide) (by rw [hr]; decide)]
  · exact fld_setState_event n operation hr hl hf

/-- From device a to device b a state was taken with the record cleared: no number, and the stop, the timer and the events of the
activation as they were. -/
structure Cleared (n : Nat) (a b : Dev) : Prop where
  number : numHeld b = false
  state : actState b = n
  stop : KeepsStop a b
  events : ∀ f : Fld, f.reg = .actEvent → 0 < f.lo → f.lo ≤ f.hi → fld b f 0 = fld a f 0

theorem setState_cleared {n : Nat} (hn : n < 8) (d : Dev) : Cleared n d (clearRecord (setState n d)) where
  number := numHeld_clearRecord _
  state := (actState_clearRecord _).trans (actState_setState hn d)
  stop := (keepsStop_setState n d).trans (keepsStop_clearRecord _)
  events _ hr hl hf := (fld_clearRecord_event _ hr).trans (fld_setState_otherEvent n hr hl hf)

/-- Standby with the record cleared, settled: it has become Serial Number, or stays. -/
theorem settleState_cleared {a b : Dev} (h : Cleared 1 a b) :
    ∃ n, (n = 1 ∨ n = 2) ∧ Cleared n a (settleState b) := by
  obtain ⟨number, state, stop, events⟩ := h
  have notOperating : actState b ≠ 4 := by omega
  rcases settleState_of_standby state with e | e
  · rw [e]
    exact ⟨2, .inr rfl, (numHeld_setState 2 notOperating).trans number, actState_setState (by decide) b,
      stop.trans (keepsStop_setState 2 b),
      fun f hr hl hf => (fld_setState_otherEvent 2 hr hl hf).trans (events f hr hl hf)⟩
  · rw [e]
    exact ⟨1, .inl rfl, number, state, stop, events⟩

/-! ## Deactivate (R129, R148) -/

theorem timerStopped_rangingDue (d : Dev) : (timerStopped d).act.rangingDue = none := rfl

theorem deactivate_eq (d : Dev) : (deactivate d).2 = settleState (clearRecord (setState 1
    (timerStopped (abandonGrants (fun _ => true) (raise fACT_EVENT_DEACTIVATED 0 d))))) := by
  simp only [deactivate, timerStopped]

/-- Deactivated: the event, and no timer. -/
theorem fld_deactivated (d : Dev) :
    fld (timerStopped (abandonGrants (fun _ => true) (raise fACT_EVENT_DEACTIVATED 0 d))) fACT_EVENT_DEACTIVATED 0 = 1 := by
  rw [fld_timerStopped, Frame_fld (frame_abandonGrants _ _) (by decide) (by decide),
    fld_raise_same fACT_EVENT_DEACTIVATED 0 d (by decide) (by decide)]

/-- What a Deactivate leaves: Standby or Serial Number, no number, no timer, and its event. -/
theorem deactivate_leaves (d : Dev) :
    numHeld (deactivate d).2 = false ∧ (actState (deactivate d).2 = 1 ∨ actState (deactivate d).2 = 2) ∧
      fld (deactivate d).2 fACT_EVENT_DEACTIVATED 0 = 1 ∧ (deactivate d).2.act.rangingDue = none := by
  rw [deactivate_eq]
  obtain ⟨n, standby, number, state, stop, events⟩ := settleState_cleared (setState_cleared (n := 1) (by decide)
    (timerStopped (abandonGrants (fun _ => true) (raise fACT_EVENT_DEACTIVATED 0 d))))
  refine ⟨number, ?_, ?_, stop.rangingDue.trans (timerStopped_rangingDue _)⟩
  · rwa [state]
  · rw [events fACT_EVENT_DEACTIVATED rfl (by decide) (by decide), fld_deactivated]

theorem deactivate_givesUp (m : CtlMsg) : RunsAt (.deactivate m) m.t
    (fun a => messageActs 0x05 m a = true)
    (fun _ d => numHeld d = false ∧ (actState d = 1 ∨ actState d = 2) ∧ fld d fACT_EVENT_DEACTIVATED 0 = 1 ∧
      d.act.rangingDue = none) := by
  refine runsAt_of (exec_deactivate m) fun a hm => ?_
  have own := frame_fsOn (ty := 0x05) (frame_fsDeactivate m a)
  have act : _ = _ := own.1 .act (by decide)
  have still : messageActs 0x05 m (fsOn 0x05 fsDeactivate m a) = true :=
    (messageActs_of_frame own (by decide) (by decide) (.inr (congrArg ActSt.lastDirected act))).trans hm
  obtain ⟨k, box, last, e⟩ := receive_answers deactivate still
  rw [e, numHeld_answered, actState_answered, fld_answered, answered_rangingDue]
  exact deactivate_leaves _

/-! ## Disable (R129, R149) -/

/-- The Chest's stop record with its nonce, and no consent, release or timer (R149). -/
def stopRecorded (m : CtlMsg) (d : Dev) : Dev :=
  { d with act := { d.act with
    stopRecord := some (BitVec.ofNat 32 (mf m 13 4)), consent := false, release := false, rangingDue := none } }

theorem stopRecorded_stop (m : CtlMsg) (d : Dev) : (stopRecorded m d).act.stopRecord = some (BitVec.ofNat 32 (mf m 13 4)) ∧
    (stopRecorded m d).act.consent = false ∧ (stopRecorded m d).act.release = false := ⟨rfl, rfl, rfl⟩

theorem disable_of_named {m : CtlMsg} (scope : mf m 4 1 ≤ 1) (named : scopeNames m = true) (d : Dev) : disable m d =
    if actState (stopRecorded m d) = 6 then (0, stopRecorded m d)
    else (0, setState 6 (raise fACT_EVENT_STOPPED 0 (abandonGrants (fun _ => true) (stopRecorded m d)))) := by
  rw [disable, if_neg (by omega), if_neg (by simp [named])]
  rfl

/-- A Disable that names the terminal brings Emergency Stop, and the stop record stands as written. -/
theorem disable_stops {m : CtlMsg} (scope : mf m 4 1 ≤ 1) (named : scopeNames m = true) (d : Dev) :
    actState (disable m d).2 = 6 ∧ KeepsStop (stopRecorded m d) (disable m d).2 := by
  rw [disable_of_named scope named]
  split
  case isTrue stopped => exact ⟨stopped, .of_act rfl⟩
  case isFalse =>
    refine ⟨actState_setState (by decide) _, .trans (.of_act ?_) (keepsStop_setState 6 _)⟩
    rw [raise_act, abandonGrants_act]

theorem KeepsStop.answered {a b : Dev} (h : KeepsStop a b) (k : Nat) (box : List (List Byte))
    (last : Option (Nat × Nat × Nat)) : KeepsStop a (answered k box last b) :=
  ⟨h.stopRecord, h.consent, h.release, h.rangingDue⟩

theorem disable_records (m : CtlMsg) : RunsAt (.disable m) m.t
    (fun a => messageActs 0x06 m a = true ∧ mf m 4 1 ≤ 1 ∧ scopeNames m = true)
    (fun _ d => actState d = 6 ∧ d.act.stopRecord = some (BitVec.ofNat 32 (mf m 13 4)) ∧ d.act.consent = false ∧
      d.act.release = false) := by
  refine runsAt_of (exec_disable m) fun a ⟨hm, scope, named⟩ => ?_
  have own := frame_fsOn (ty := 0x06) (frame_fsDisable m a)
  have still : messageActs 0x06 m (fsOn 0x06 fsDisable m a) = true :=
    (messageActs_of_frame own (by decide) (by decide) (.inl (isBroadcast_of_acts hm rfl))).trans hm
  obtain ⟨k, box, last, e⟩ := receive_answers (disable m) still
  obtain ⟨state, stop⟩ := disable_stops scope named (taken m (fsOn 0x06 fsDisable m a))
  obtain ⟨record, consent, release⟩ := stopRecorded_stop m (taken m (fsOn 0x06 fsDisable m a))
  have kept := stop.answered k box last
  rw [actState, fld_fsDrive, fsDrive_act, e, kept.stopRecord, kept.consent, kept.release, fld_answered]
  exact ⟨state, record, consent, release⟩

/-! ## Enable (R149, R150) -/

/-- The consent held (R150). -/
def withConsent (d : Dev) : Dev := { d with act := { d.act with consent := true } }

/-- The release held, too (R150). -/
def withRelease (d : Dev) : Dev := { d with act := { d.act with release := true } }

/-- The stop record and what was held for it, erased as Emergency Stop is left (R150). -/
def stopErased (d : Dev) : Dev :=
  { d with act := { d.act with consent := false, release := false, stopRecord := none } }

theorem withConsent_consent (d : Dev) : (withConsent d).act.consent = true := rfl

theorem actState_withRelease (d : Dev) : actState (withRelease d) = actState d := fld_of_regs rfl _ _

theorem frame_withConsent (d : Dev) : Frame [.act] [] d (withConsent d) := by
  refine ⟨fun p hp => ?_, KeepRegs_of_eq rfl⟩
  cases p with
  | act => exact absurd (by decide) hp
  | _ => rfl

theorem enable_of_match {m : CtlMsg} {nonce : BitVec 32} {d : Dev} (scope : mf m 4 1 ≤ 1)
    (fits : BitVec.ofNat 32 (mf m 15 4) = nonce)
    (named : enableNames m (if numHeld d then some (termNum d) else none) = true) :
    enable m nonce d = (0, secretaryRelease (withConsent d)) := by
  rw [enable, if_neg (by omega), if_neg (not_not.2 fits), if_neg (by simp [named])]
  rfl

theorem settleState_of_initial {d : Dev} (h : actState d = 0) : settleState d = d := by
  simp [settleState, h]

/-- Without a channel that is up, Standby falls back to Initial with its record erased (R129). -/
theorem actOnDown_of_standby {d : Dev} (down : ¬ anyUp d = true) (h : actState d = 1) :
    actOnDown d = clearRecord (setState 0 (timerStopped d)) := by
  rw [actOnDown, if_neg down, if_pos (.inl h)]
  rfl

theorem leaveStop_of_held {d : Dev} (state : actState d = 6) (consent : d.act.consent = true) (release : d.act.release = true) :
    leaveStop d = settleState (if anyUp (clearRecord (setState 1 (stopErased d))) then clearRecord (setState 1 (stopErased d))
      else actOnDown (clearRecord (setState 1 (stopErased d)))) := by
  rw [leaveStop, if_pos ⟨state, consent, release⟩]
  rfl

/-- Once Emergency Stop is left, the state is Standby or what follows from it, without a stop record and without a number. -/
theorem leaveStop_leaves {d : Dev} (state : actState d = 6) (consent : d.act.consent = true) (release : d.act.release = true) :
    actState (leaveStop d) ≤ 2 ∧ (leaveStop d).act.stopRecord = none ∧ numHeld (leaveStop d) = false := by
  have standby := setState_cleared (n := 1) (by decide) (stopErased d)
  have erased : (stopErased d).act.stopRecord = none := rfl
  rw [leaveStop_of_held state consent release]
  generalize clearRecord (setState 1 (stopErased d)) = e at standby ⊢
  have gone := standby.stop.stopRecord.trans erased
  split
  case isTrue up =>
    obtain ⟨n, settled, number, stays, stop, -⟩ := settleState_cleared standby
    exact ⟨by omega, stop.stopRecord.trans erased, number⟩
  case isFalse down =>
    obtain ⟨number, initial, stop, -⟩ := setState_cleared (n := 0) (by decide) (timerStopped e)
    rw [actOnDown_of_standby down standby.state, settleState_of_initial initial]
    exact ⟨by omega, stop.stopRecord.trans gone, number⟩

/-- The Secretary acts as before where its state, its domain and the recovery bit stand. -/
theorem secretaryActs_of_frame {ps : List Piece} {rs : List Reg} {a b : Dev} (h : Frame ps rs a b) (hsec : .sec ∉ ps)
    (hd : .pwDom ∉ rs) (hd3 : .pwDom3 ∉ rs) (hb : .glBoot ∉ rs) : secretaryActs b = secretaryActs a := by
  have sec : b.sec = a.sec := h.1 .sec hsec
  rw [secretaryActs, pdOn, pdState_of_frame h hd hd3 (by decide), sec, Frame_fld h hb (by decide), secretaryActs, pdOn]

/-- On consent the Secretary releases where it acts and no inhibit stands (R150). -/
theorem secretaryRelease_of_free {d : Dev} (state : actState d = 6) (consent : d.act.consent = true)
    (free : fld d fACT_CTRL_INHIBIT 0 = 0) (acts : secretaryActs d = true) : secretaryRelease d = leaveStop (withRelease d) := by
  rw [secretaryRelease, if_pos ⟨state, consent, free, acts⟩]
  rfl

/-- Under Upstream inhibit it withholds its release (R150). -/
theorem secretaryRelease_of_inhibit {d : Dev} (inhibited : fld d fACT_CTRL_INHIBIT 0 = 1) : secretaryRelease d = d :=
  if_neg fun h => by
    obtain ⟨-, -, free, -⟩ := h
    omega

/-- The Firescreen's part of an Enable, before the line engine's (R150, R213). -/
def enableHeard (m : CtlMsg) (d : Dev) : Dev := fsOn 0x07 fsEnable m (nonceCheck m d)

theorem frame_enableHeard (m : CtlMsg) (d : Dev) : Frame ownPieces ownRegs d (enableHeard m d) :=
  Frame_step (frame_nonceCheck m d) (frame_fsOn (frame_fsEnable m _))

/-- An Enable that matches has given its consent to what the Secretary decides on, in Emergency Stop, with all else as it was. -/
theorem receive_enable {m : CtlMsg} {a : Dev} (hm : messageActs 0x07 m a = true) (scope : mf m 4 1 ≤ 1)
    (fits : BitVec.ofNat 32 (mf m 15 4) = a.fs.nonce)
    (named : enableNames m (if numHeld a then some (termNum a) else none) = true) :
    ∃ (k : Nat) (box : List (List Byte)) (last : Option (Nat × Nat × Nat)) (d : Dev),
      receive 0x07 m (enable m a.fs.nonce) (enableHeard m a) = answered k box last (secretaryRelease d) ∧
        Frame ([.act, .freeCtr] ++ ownPieces) ownRegs a d ∧ actState d = 6 ∧ d.act.consent = true := by
  have own := frame_enableHeard m a
  have act : _ = _ := own.1 .act (by decide)
  have still : messageActs 0x07 m (enableHeard m a) = true :=
    (messageActs_of_frame own (by decide) (by decide) (.inr (congrArg ActSt.lastDirected act))).trans hm
  obtain ⟨k, box, last, e⟩ := receive_answers (enable m a.fs.nonce) still
  have reached : Frame ([.act, .freeCtr] ++ ownPieces) ownRegs a (taken m (enableHeard m a)) :=
    Frame_step (Frame_mono own (by decide) (by decide)) (Frame_mono (frame_taken m _ (rs := [])) (by decide) (by decide))
  obtain ⟨-, -, acts⟩ := parts_of_acts hm
  have stopped : actState a = 6 := by simpa [actsIn] using acts
  have whole := Frame_step reached (Frame_mono (frame_withConsent _) (by decide) (by decide))
  refine ⟨k, box, last, withConsent (taken m (enableHeard m a)), ?_, whole, ?_, withConsent_consent _⟩
  · rw [e, enable_of_match scope fits]
    rwa [numHeld_of_frame reached (by decide), termNum_of_frame reached (by decide)]
  · rw [actState_of_frame whole (by decide), stopped]

theorem enable_releases (m : CtlMsg) : RunsAt (.enable m) m.t
    (fun a => messageActs 0x07 m a = true ∧ mf m 4 1 ≤ 1 ∧ BitVec.ofNat 32 (mf m 15 4) = a.fs.nonce ∧
      enableNames m (if numHeld a then some (termNum a) else none) = true ∧
      fld a fACT_CTRL_INHIBIT 0 = 0 ∧ secretaryActs a = true)
    (fun _ d => actState d ≤ 2 ∧ d.act.stopRecord = none ∧ numHeld d = false) := by
  refine runsAt_of (exec_enable m) fun a ⟨hm, scope, fits, named, free, acts⟩ => ?_
  obtain ⟨k, box, last, d, e, frame, state, consent⟩ := receive_enable hm scope fits named
  rw [enableHeard] at e
  have released := secretaryRelease_of_free state consent ((Frame_fld frame (by decide) (by decide)).trans free)
    ((secretaryActs_of_frame frame (by decide) (by decide) (by decide) (by decide)).trans acts)
  obtain ⟨left, gone, number⟩ := leaveStop_leaves (d := withRelease d) ((actState_withRelease d).trans state) consent rfl
  rw [actState, numHeld, fld_fsDrive, fld_fsDrive, fsDrive_act, e, released, fld_answered, fld_answered]
  exact ⟨left, gone, number⟩

theorem enable_holdsConsent (m : CtlMsg) : RunsAt (.enable m) m.t
    (fun a => messageActs 0x07 m a = true ∧ mf m 4 1 ≤ 1 ∧ BitVec.ofNat 32 (mf m 15 4) = a.fs.nonce ∧
      enableNames m (if numHeld a then some (termNum a) else none) = true ∧ fld a fACT_CTRL_INHIBIT 0 = 1)
    (fun _ d => actState d = 6 ∧ d.act.consent = true) := by
  refine runsAt_of (exec_enable m) fun a ⟨hm, scope, fits, named, inhibited⟩ => ?_
  obtain ⟨k, box, last, d, e, frame, state, consent⟩ := receive_enable hm scope fits named
  rw [enableHeard] at e
  rw [actState, fld_fsDrive, fsDrive_act, e,
    secretaryRelease_of_inhibit ((Frame_fld frame (by decide) (by decide)).trans inhibited), fld_answered]
  exact ⟨state, consent⟩

/-! ## Key Control (R114, R137, R138) -/

theorem keyControl_switch (m : CtlMsg) : RunsAt (.keyControlSwitch m) m.t
    (fun a => messageActs 0x08 m a = true ∧ mf m 4 1 = 1 ∧ mf m 5 1 ≤ 3)
    (fun _ d => d.act.keySwitch = some (mf m 5 1, BitVec.ofNat 48 (max (mf m 6 6) (m.fc.toNat + 1)))) := by
  refine runsAt_of (exec_keyControlSwitch m) fun a ⟨hm, operation, entry⟩ => ?_
  obtain ⟨k, box, last, e⟩ := receive_answers (keyControl m) hm
  rw [e, keyControl, if_neg (by omega), if_pos operation]
  rfl

/-- A directed message that acts is acted on as such: remembered with its result, and acknowledged. -/
theorem receive_directed {ty : Nat} {m : CtlMsg} {d : Dev} (f : Dev → Nat × Dev) (h : messageActs ty m d = true)
    (directed : isBroadcast m = false) : receive ty m f d = actDirected m f (taken m d) := by
  simp only [messageActs, Bool.and_eq_true, beq_iff_eq, directed, Bool.false_or] at h
  obtain ⟨⟨⟨⟨⟨⟨hears, type⟩, flow⟩, numbered, mine⟩, check⟩, acts⟩, fresh⟩ := h
  have heard : lineHears m (taken m d) = true := hears
  have named : (numHeld (taken m d) && mAddr m == termNum (taken m d)) = true :=
    Bool.and_eq_true_iff.2 ⟨numbered, beq_iff_eq.2 mine⟩
  have passes : checkFails m (taken m d) = none := Option.isNone_iff_eq_none.1 check
  have acting : actsIn ty false (actState (taken m d)) = true := acts
  simp only [taken] at heard named passes acting ⊢
  simp only [receive, heard, type, flow, directed, named, passes, acting, Bool.not_true, Bool.not_false, Bool.and_false,
    ne_eq, not_true, decide_false, Bool.or_false, Bool.false_eq_true, if_false]
  split
  next t q r known =>
    have unlike : ¬ (t = ty ∧ q = mSeq m) := by simpa [known, type, or_iff_not_imp_left] using fresh
    exact if_neg unlike
  next => rfl

/-- A directed message remembered with its result (R138). -/
def remembered (m : CtlMsg) (r : Nat) (d : Dev) : Dev :=
  { d with act := { d.act with lastDirected := some (mType m, mSeq m, r) } }

theorem keyControl_of_report {m : CtlMsg} (operation : mf m 4 1 = 2) (entry : mf m 5 1 ≤ 3) (d : Dev) :
    keyControl m d = (0, d) := by
  rw [keyControl, if_neg (by omega), if_neg (by omega)]

/-- What an Acknowledge of a Key Control report carries: type, sequence and result 0, key states and invocations (R137). -/
def reportContent (m : CtlMsg) (d : Dev) : List Byte :=
  natToBytes 1 8 ++ natToBytes 1 (mSeq m) ++ natToBytes 1 0 ++ keyReport d

theorem acknowledge_of_report {m : CtlMsg} (asks : mAck m = true) (type : mType m = 8) (operation : mf m 4 1 = 2) (d : Dev) :
    acknowledge m 0 d = queueMessage 0x82 (reportContent m d) d := by
  rw [acknowledge, if_pos ⟨asks, by omega⟩, if_pos ⟨type, operation⟩, type]
  rfl

theorem queueMessage_outbox (ty : Nat) (content : List Byte) (d : Dev) :
    (queueMessage ty content d).act.outbox = d.act.outbox ++ [(upMessage ty content d).1] := rfl

/-- The content of an upstream message stands behind its four bytes of type, address and sequence (R133). -/
theorem upMessage_content (ty : Nat) (content : List Byte) (d : Dev) :
    ((upMessage ty content d).1.drop 4).take content.length = content := by
  simp [upMessage, natToBytes]

theorem reportContent_eq (m : CtlMsg) (d : Dev) :
    reportContent m d = [8, BitVec.ofNat 8 (mSeq m), 0] ++ keyReport d := by
  simp [reportContent, natToBytes]

theorem reportContent_length (m : CtlMsg) (d : Dev) : (reportContent m d).length = 10 := by
  simp [reportContent, keyReport, natToBytes]

theorem keyReport_remembered (m n : CtlMsg) (r : Nat) (d : Dev) : keyReport (remembered m r (taken n d)) = keyReport d := rfl

theorem remembered_outbox (m n : CtlMsg) (r : Nat) (d : Dev) :
    (remembered m r (taken n d)).act.outbox = d.act.outbox := rfl

theorem keyControl_reports (m : CtlMsg) : RunsAt (.keyControlReport m) m.t
    (fun a => messageActs 0x08 m a = true ∧ mf m 4 1 = 2 ∧ mf m 5 1 ≤ 3 ∧ mAck m = true)
    (fun a d => d.act.outbox.length = a.act.outbox.length + 1 ∧
      d.act.outbox.getLast?.map (fun x => (x.drop 4).take 10) = some ([8, BitVec.ofNat 8 (mSeq m), 0] ++ keyReport a)) := by
  refine runsAt_of (exec_keyControlReport m) fun a ⟨hm, operation, entry, asks⟩ => ?_
  have acted : receive 0x08 m (keyControl m) a =
      queueMessage 0x82 (reportContent m (remembered m 0 (taken m a))) (remembered m 0 (taken m a)) := by
    rw [receive_directed (keyControl m) hm (isDirected_of_acts hm rfl), actDirected, keyControl_of_report operation entry]
    exact acknowledge_of_report asks (parts_of_acts hm).1 operation _
  have carried := upMessage_content 0x82 (reportContent m (remembered m 0 (taken m a))) (remembered m 0 (taken m a))
  rw [reportContent_length] at carried
  rw [acted, queueMessage_outbox, remembered_outbox, List.length_append, List.getLast?_append_of_ne_nil _ (List.cons_ne_nil _ _),
    List.getLast?_singleton, Option.map_some, carried, reportContent_eq, keyReport_remembered]
  exact ⟨rfl, rfl⟩

/-- TX_INDEX of key set 0 written within its register (R114). -/
theorem txIndex_setReg {i : Nat} (h : i ≤ 3) (d : Dev) :
    txIndex (setReg .cyTxidx 0 (BitVec.ofNat 48 (withBits (reg d .cyTxidx 0).toNat 1 0 i)) d) 0 = i := by
  rw [txIndex, reg_setReg_same, BitVec.toNat_ofNat,
    Nat.mod_eq_of_lt (withBits_lt _ _ _ _ 48 (reg d .cyTxidx 0).isLt (by decide) (by decide)), bitsOf_withBits _ _ _ _ (by decide)]
  exact Nat.mod_eq_of_lt (by omega)

/-- The waiting switch taken (R114). -/
def switchTaken (d : Dev) : Dev := { d with act := { d.act with keySwitch := none } }

theorem keySwitchCommit_of_due {i : Nat} {f : Word} {d : Dev} (waits : d.act.keySwitch = some (i, f)) (due : f ≤ frameNow d + 1) :
    keySwitchCommit d =
      setReg .cyTxidx 0 (BitVec.ofNat 48 (withBits (reg (switchTaken d) .cyTxidx 0).toNat 1 0 i)) (switchTaken d) := by
  simp only [keySwitchCommit, waits, if_pos due]
  rfl

theorem keySwitchCommit_switches (t : Time) (i : Nat) (f : Word) : RunsAt (.keySwitchCommit t) t
    (fun a => a.act.keySwitch = some (i, f) ∧ i ≤ 3 ∧ f ≤ frameNow a + 1)
    (fun _ d => txIndex d 0 = i ∧ d.act.keySwitch = none) := by
  refine runsAt_of (exec_keySwitchCommit t) fun a ⟨waits, entry, due⟩ => ?_
  rw [keySwitchCommit_of_due waits due, setReg_act]
  exact ⟨txIndex_setReg entry _, rfl⟩

/-- Settles O12: the Firescreen's part leaves what the line engine looks at, a change of state and the clearing of the record
leave what is held of a stop, and a Key Control acts on its own state alone. -/
theorem stopAndKeyMessages : Obligations.StopAndKeyMessages :=
  ⟨deactivate_givesUp, disable_records, enable_releases, enable_holdsConsent, keyControl_switch, keyControl_reports,
    keySwitchCommit_switches⟩

end Sys2Proof.Proofs
end

section
/-!
PROOF. A prefetch that meets poison (R32, R165, R351): the packet is taken out of the filled grant before the content is marked as
fetched, so what is marked is not what was filled.
-/

namespace Sys2Proof.Proofs

open Sys2Proof Sys2Proof.Machine Sys2Proof.Laws

/-! ## Grants that carry unread Wardrobe data -/

/-- The content of a grant holds an envelope whose data is in the Wardrobe and has not been read. -/
def carriesUnread (g : Grant) : Bool := g.content.any (·.envs.any unread)

/-- A grant with its content marked as fetched. -/
def markFetched (g : Grant) : Grant := { g with content := g.content.map (fun c => { c with fetched := true }) }

/-- The mark leaves the envelopes alone. -/
@[simp] theorem carriesUnread_markFetched (g : Grant) : carriesUnread (markFetched g) = carriesUnread g := by
  simp only [carriesUnread, markFetched, Option.any_map]

/-! ## The counterexample -/

/-- A data grant of channel 0 for slot 0, not yet filled. -/
def openGrant : Grant :=
  { ch := 0, fc := 7, t0 := 10, kind := .data, alloc := 7, slot := 0, start := 0, burstAt := 0, len := 8, report := false,
    delay := 0, preamble := 2, profile := 0, pattern := 0, delim := 5 }

/-- A packet of two bytes at the start of Wardrobe page 0. -/
def storedPacket : QPkt := { bytes := [1, 2], key := [], slot := 4, flow := 5, page := some (0, 0) }

/-- The part in Run with this grant, the packet waiting in the first queue of its slot. -/
def beforeFill : Dev :=
  { State.reset.dev with
    porstLow := false
    up := { grants := [openGrant] }
    tm := { State.reset.dev.tm with queues := [(upBase, { items := [storedPacket] })] } }

/-- The grant as its fill leaves it (R165). -/
def filledGrant : Grant := { openGrant with content := some (fillGrant openGrant beforeFill).1 }

/-- After the fill the line of the packet's data is poisoned, as a migration leaves a line that it could not read (R457, R458). -/
def poisonedAfterFill : Dev :=
  let d := fillNow openGrant beforeFill
  { d with mc := { d.mc with poison := memLines d 2 (pageData 0 0) storedPacket.bytes.length } }

theorem poisonedAfterFill_high : poisonedAfterFill.porstLow = false := by decide +kernel

/-- The filled grant is the earliest of its channel that waits for its data. -/
theorem firstGrant_poisonedAfterFill :
    firstGrant (tick 5 poisonedAfterFill) (fun x => x.ch == (0 : Fin 16) && (x.content.map (·.fetched) == some false)) =
      some filledGrant := by decide +kernel

theorem carriesUnread_filledGrant : carriesUnread filledGrant = true := by decide +kernel

/-- The command drops the packet, and idle fills its words (R32, R351): no grant carries unread data any more. -/
theorem prefetchDone_poisonedAfterFill :
    (prefetchDone (0 : Fin 16) (tick 5 poisonedAfterFill)).up.grants.any carriesUnread = false := by decide +kernel

/-- Refutes O16: where the Wardrobe data that a filled grant waits for is poisoned by the time its prefetch completes, the command
first drops the packet and puts idle in its words; the content that it then marks as fetched has lost the packet's envelope, so
the grant as filled, marked as fetched, is not in the list. -/
theorem not_bursts : ¬ Obligations.Bursts := by
  rintro ⟨-, fetchedAsFilled, -⟩
  have marked := post_of_runsAt (exec_wardrobePrefetchComplete 5 0) (fetchedAsFilled 5 0 filledGrant)
    poisonedAfterFill poisonedAfterFill_high firstGrant_poisonedAfterFill
  obtain ⟨x, listed, same⟩ := List.any_eq_true.mp marked
  have asFilled : x = markFetched filledGrant := eq_of_beq same
  have holds : carriesUnread x = true := by rw [asFilled, carriesUnread_markFetched, carriesUnread_filledGrant]
  exact Bool.false_ne_true (prefetchDone_poisonedAfterFill.symm.trans (List.any_of_mem listed holds))

end Sys2Proof.Proofs
end

section
/-!
PROOF. The Firescreen's channels (R181, R201, R206, R207, R209, R211, R215): what a channel reads as after it was changed, what a
channel made dark, a trip and the kill outputs leave, and what stands of the rest of the Firescreen.
-/

namespace Sys2Proof.Proofs

open Sys2Proof Sys2Proof.Machine Sys2Proof.Laws

/-! ## A channel after a change -/

theorem fsChan_of_fs {a b : Dev} (h : b.fs = a.fs) (n : Nat) : fsChan b n = fsChan a n := by simp only [fsChan, h]

@[simp] theorem fsChan_modFs_same (n : Nat) (f : FsChan → FsChan) (d : Dev) : fsChan (modFs n f d) n = f (fsChan d n) := by
  simp [fsChan, modFs]

theorem fsChan_modFs_ne {n m : Nat} (f : FsChan → FsChan) (d : Dev) (h : m ≠ n) : fsChan (modFs n f d) m = fsChan d m :=
  agetD_aputD_ne _ _ _ _ h

@[simp] theorem fsChan_emit (e : Emission) (d : Dev) (n : Nat) : fsChan (emit e d) n = fsChan d n := rfl

@[simp] theorem fsChan_setFld (f : Fld) (i v : Nat) (d : Dev) (n : Nat) : fsChan (setFld f i v d) n = fsChan d n := rfl

@[simp] theorem fsChan_raise (f : Fld) (i : Nat) (d : Dev) (n : Nat) : fsChan (raise f i d) n = fsChan d n :=
  fsChan_of_fs (raise_fs f i d) n

@[simp] theorem fsChan_count (c : CName) (k : Nat) (d : Dev) (n : Nat) : fsChan (count c k d) n = fsChan d n :=
  fsChan_of_fs (count_fs c k d) n

@[simp] theorem fsChan_fsDrive (f : Dev → Dev) (d : Dev) (n : Nat) : fsChan (fsDrive f d) n = fsChan (f d) n :=
  fsChan_of_fs (fsDrive_fs f d) n

@[simp] theorem modFs_now (n : Nat) (f : FsChan → FsChan) (d : Dev) : (modFs n f d).now = d.now := rfl
@[simp] theorem modFs_part (n : Nat) (f : FsChan → FsChan) (d : Dev) : (modFs n f d).part = d.part := rfl
@[simp] theorem modFs_emitted (n : Nat) (f : FsChan → FsChan) (d : Dev) : (modFs n f d).emitted = d.emitted := rfl

@[simp] theorem fld_modFs (n : Nat) (f : FsChan → FsChan) (d : Dev) (g : Fld) (i : Nat) : fld (modFs n f d) g i = fld d g i :=
  rfl

@[simp] theorem counter_modFs (n : Nat) (f : FsChan → FsChan) (d : Dev) (c : CName) (k : Nat) :
    counter (modFs n f d) c k = counter d c k := rfl

/-- A channel changed changes nothing of the Firescreen but its channels. -/
theorem modFs_fs (n : Nat) (f : FsChan → FsChan) (d : Dev) :
    (modFs n f d).fs = { d.fs with chans := (modFs n f d).fs.chans } := rfl

theorem mem_presentChans {d : Dev} {n : Nat} : n ∈ presentChans d ↔ n < d.part.channels := List.mem_range

theorem mem_presentChans_of_present {d : Dev} {n : Nat} (h : chanPresent d n = true) : n ∈ presentChans d :=
  mem_presentChans.2 (of_decide_eq_true h)

theorem nodup_presentChans (d : Dev) : (presentChans d).Nodup := List.nodup_range

/-- Listed channels changed, each in its own way. -/
def modEach (f : Nat → FsChan → FsChan) (l : List Nat) (d : Dev) : Dev := l.foldl (fun d n => modFs n (f n) d) d

/-- They change nothing but the channels. -/
theorem modEach_eq (f : Nat → FsChan → FsChan) : ∀ (l : List Nat) (d : Dev),
    ∃ cs, modEach f l d = { d with fs := { d.fs with chans := cs } }
  | [], d => ⟨d.fs.chans, rfl⟩
  | n :: l, d => modEach_eq f l (modFs n (f n) d)

/-- A channel reads as changed where it is listed, as before where it is not. -/
theorem fsChan_modEach (f : Nat → FsChan → FsChan) (n : Nat) : ∀ (l : List Nat) (d : Dev), l.Nodup →
    fsChan (modEach f l d) n = if n ∈ l then f n (fsChan d n) else fsChan d n
  | [], _, _ => rfl
  | k :: l, d, h => by
    obtain ⟨notIn, rest⟩ := List.nodup_cons.1 h
    have tail := fsChan_modEach f n l (modFs k (f k) d) rest
    by_cases e : n = k
    · subst e
      simpa [modEach, notIn] using tail
    · simpa [modEach, e, fsChan_modFs_ne _ _ e] using tail

theorem fsChan_modEach_present (f : Nat → FsChan → FsChan) {n : Nat} {d e : Dev} (h : n < d.part.channels) :
    fsChan (modEach f (presentChans d) e) n = f n (fsChan e n) := by
  rw [fsChan_modEach f n _ e (nodup_presentChans d), if_pos (mem_presentChans.2 h)]

/-! ## A channel made dark (R181, R206, R209) -/

@[simp] theorem cutBurst_fs (n : Nat) (d : Dev) : (cutBurst n d).fs = d.fs := by
  simp only [cutBurst]
  refine List.foldlRecOn (motive := fun b : Dev => b.fs = d.fs) _ _ rfl fun b hb g _ => ?_
  rw [raise_fs, count_fs, leaveBurst]
  split
  · exact hb
  · split <;> exact hb

@[simp] theorem fsChan_cutBurst (n : Nat) (d : Dev) (m : Nat) : fsChan (cutBurst n d) m = fsChan d m :=
  fsChan_of_fs (cutBurst_fs n d) m

/-- A channel with BEN low. -/
def darkened (c : FsChan) : FsChan := if c.ben then { c with ben := false, passed := false } else c

theorem darkened_ben (c : FsChan) : (darkened c).ben = false := by
  rw [darkened]
  split
  · rfl
  · simpa using ‹¬ c.ben = true›

theorem darkened_of_low {c : FsChan} (h : c.ben = false) : darkened c = c := by simp [darkened, h]

/-- A channel past what a trip changes of it. -/
def pastTrip (c : FsChan) : FsChan := { c with stage := 0, ben := false, passed := false }

@[simp] theorem pastTrip_darkened (c : FsChan) : pastTrip (darkened c) = pastTrip c := by
  rw [darkened]
  split <;> rfl

@[simp] theorem pastTrip_stage (c : FsChan) (k : Nat) : pastTrip { c with stage := k } = pastTrip c := rfl

@[simp] theorem darkened_stage (c : FsChan) : (darkened c).stage = c.stage := by
  rw [darkened]
  split <;> rfl

theorem fsChan_forceLow_same (n : Nat) (d : Dev) : fsChan (forceLow n d) n = darkened (fsChan d n) := by
  rw [forceLow, darkened]
  split
  · rw [fsChan_cutBurst, fsChan_emit, fsChan_modFs_same]
  · rfl

theorem fsChan_forceLow_ne {n m : Nat} (h : m ≠ n) (d : Dev) : fsChan (forceLow n d) m = fsChan d m := by
  rw [forceLow]
  split
  · rw [fsChan_cutBurst, fsChan_emit, fsChan_modFs_ne _ _ h]
  · rfl

/-- A channel made dark changes nothing of the Firescreen but its channels. -/
theorem forceLow_fs (n : Nat) (d : Dev) : (forceLow n d).fs = { d.fs with chans := (forceLow n d).fs.chans } := by
  rw [forceLow]
  split
  · rw [cutBurst_fs, emit_fs, modFs_fs]
  · rfl

theorem frame_forceLow (n : Nat) (d : Dev) : Frame darkPieces darkRegs d (forceLow n d) := by
  simp only [forceLow]
  exact Frame_ite _ (Frame_step frame_darkParts (frame_cutBurst n _)) (Frame_refl _ _ d)

@[simp] theorem forceLow_now (n : Nat) (d : Dev) : (forceLow n d).now = d.now := (frame_forceLow n d).1 .now (by decide)
@[simp] theorem forceLow_part (n : Nat) (d : Dev) : (forceLow n d).part = d.part := (frame_forceLow n d).1 .part (by decide)

/-- Where BEN is low already, nothing happens. -/
theorem forceLow_of_low {n : Nat} {d : Dev} (h : (fsChan d n).ben = false) : forceLow n d = d := by simp [forceLow, h]

/-- A channel that was dark stays dark, whichever is made dark. -/
theorem low_forceLow {n m : Nat} {d : Dev} (h : (fsChan d m).ben = false) : (fsChan (forceLow n d) m).ben = false := by
  by_cases e : m = n
  · rw [e, fsChan_forceLow_same, darkened_ben]
  · rw [fsChan_forceLow_ne e, h]

/-- Listed channels made dark: they change nothing of the Firescreen but its channels. -/
theorem forceEach_fs : ∀ (l : List Nat) (d : Dev), (l.foldl (fun d n => forceLow n d) d).fs =
    { d.fs with chans := (l.foldl (fun d n => forceLow n d) d).fs.chans }
  | [], _ => rfl
  | n :: l, d => by
    rw [List.foldl_cons, forceEach_fs l, forceLow_fs]

theorem forceEach_low {m : Nat} : ∀ (l : List Nat) (d : Dev), m ∈ l ∨ (fsChan d m).ben = false →
    (fsChan (l.foldl (fun d n => forceLow n d) d) m).ben = false
  | [], _, h => by simpa using h
  | n :: l, d, h => by
    refine forceEach_low l (forceLow n d) ?_
    rcases h with h | h
    · rcases List.mem_cons.1 h with e | h
      · exact .inr (by rw [e, fsChan_forceLow_same, darkened_ben])
      · exact .inl h
    · exact .inr (low_forceLow h)

theorem forceAllLow_fs (d : Dev) : (forceAllLow d).fs = { d.fs with chans := (forceAllLow d).fs.chans } :=
  forceEach_fs _ d

@[simp] theorem forceAllLow_part (d : Dev) : (forceAllLow d).part = d.part := (frame_forceAllLow d).1 .part (by decide)

/-- Every channel of the part is dark (R209). -/
theorem forceAllLow_low (d : Dev) (n : Nat) (h : n < d.part.channels) : (fsChan (forceAllLow d) n).ben = false :=
  forceEach_low _ d (.inl (mem_presentChans.2 h))

/-! ## The kill outputs (R206, R209) -/

theorem killBase_of_fs {a b : Dev} (h : b.fs = a.fs) : killBase b = killBase a := by simp only [killBase, h]

theorem allKillOn_of_same {a b : Dev} (hf : b.fs = a.fs) (hp : b.part = a.part) : allKillOn b = allKillOn a := by
  simp only [allKillOn, killBase, presentChans, fsChan, hf, hp]

theorem everyDark_of_stages {a b : Dev} (hk : killBase b = killBase a) (hs : b.fs.stopped = a.fs.stopped)
    (hp : b.part = a.part) (h : ∀ n, (fsChan b n).stage = (fsChan a n).stage) : everyDark b = everyDark a := by
  simp only [everyDark, presentChans, hk, hs, hp, h]

@[simp] theorem allKillOn_fsDrive (f : Dev → Dev) (d : Dev) : allKillOn (fsDrive f d) = allKillOn (f d) :=
  allKillOn_of_same (fsDrive_fs f d) (fsDrive_part f d)

@[simp] theorem txKillOn_fsDrive (f : Dev → Dev) (d : Dev) (n : Nat) : txKillOn (fsDrive f d) n = txKillOn (f d) n := by
  simp only [txKillOn, killBase, fsDrive_fs, fsChan_fsDrive]

@[simp] theorem everyDark_fsDrive (f : Dev → Dev) (d : Dev) : everyDark (fsDrive f d) = everyDark (f d) := by
  simp only [everyDark, killBase, presentChans, fsDrive_fs, fsDrive_part, fsChan_fsDrive]

theorem allKillOn_of_base {d : Dev} (h : killBase d = true) : allKillOn d = true := by simp [allKillOn, h]

/-- A change that changes nothing drives nothing. -/
theorem fsDrive_of_same {f : Dev → Dev} {d : Dev} (h : f d = d) : fsDrive f d = d := by
  simp only [fsDrive, h, if_true, List.foldl_fixed]

end Sys2Proof.Proofs
end

section
/-!
PROOF. Release, restart and the tables that the Secretary writes (R200, R205, R210, R212, R214, R220): what each command leaves of
the Firescreen.
-/

namespace Sys2Proof.Proofs

open Sys2Proof Sys2Proof.Machine Sys2Proof.Laws

/-! ## Release (R212) -/

/-- The Secretary's release, held (R212). -/
def releaseHeld (d : Dev) : Dev := { d with fs := { d.fs with release := true } }

theorem fsReleaseWrite_of_match (d : Dev) : fsReleaseWrite d.fs.nonce d = releaseCommit (releaseHeld d) := if_pos rfl

theorem fsReleaseWrite_of_wrong {n : BitVec 32} {d : Dev} (h : n ≠ d.fs.nonce) :
    fsReleaseWrite n d = count .fsWrongRelease 0 d := if_neg h

theorem releaseCommit_without_consent {d : Dev} (h : d.fs.consent = false) : releaseCommit d = d := if_pos (by simp [h])

/-- With both consents held the release ends the stop, both consents and every channel's trip, and raises its event. -/
theorem releaseCommit_releases {d : Dev} (consent : d.fs.consent = true) (release : d.fs.release = true) :
    (releaseCommit d).fs.stopped = false ∧ (releaseCommit d).fs.consent = false ∧ (releaseCommit d).fs.release = false ∧
      (∀ n < (releaseCommit d).part.channels, (fsChan (releaseCommit d) n).stage = 0) ∧
      fld (releaseCommit d) fFS_EVENT_RELEASED 0 = 1 := by
  rw [releaseCommit, if_neg (by simp [consent, release])]
  refine ⟨?_, ?_, ?_, fun n hn => ?_, fld_raise_same _ 0 _ (by decide) (by decide)⟩
  · rw [raise_fs]
  · rw [raise_fs]
  · rw [raise_fs]
  · rw [fsChan_raise]
    obtain ⟨cs, same⟩ := modEach_eq (fun n => releaseChan d.now (allKillOn d || txKillOn d n)) (presentChans d) d
    have here : n < d.part.channels := by
      rw [raise_part] at hn
      rw [modEach] at same
      simpa only [same] using hn
    exact congrArg FsChan.stage (fsChan_modEach_present (fun n => releaseChan d.now (allKillOn d || txKillOn d n)) here)

theorem fsRelease_ends (t : Time) (n : BitVec 32) : RunsAt (.fsRelease t n) t
    (fun a => n = a.fs.nonce ∧ a.fs.consent = true)
    (fun _ d => d.fs.stopped = false ∧ d.fs.consent = false ∧ d.fs.release = false ∧
      (∀ k < d.part.channels, (fsChan d k).stage = 0) ∧ fld d fFS_EVENT_RELEASED 0 = 1) := by
  refine runsAt_of (exec_fsRelease t n) fun a ⟨held, consent⟩ => ?_
  subst held
  simp only [fsDrive_fs, fsDrive_part, fsChan_fsDrive, fld_fsDrive, fsReleaseWrite_of_match]
  exact releaseCommit_releases (d := releaseHeld a) consent rfl

theorem fsRelease_held (t : Time) (n : BitVec 32) : RunsAt (.fsRelease t n) t
    (fun a => n = a.fs.nonce ∧ a.fs.consent = false)
    (fun a d => d.fs = { a.fs with release := true }) := by
  refine runsAt_of (exec_fsRelease t n) fun a ⟨held, consent⟩ => ?_
  subst held
  rw [fsDrive_fs, fsReleaseWrite_of_match, releaseCommit_without_consent (d := releaseHeld a) consent, releaseHeld]

theorem fsRelease_wrong (t : Time) (n : BitVec 32) : RunsAt (.fsRelease t n) t
    (fun a => n ≠ a.fs.nonce)
    (fun a d => d.fs = a.fs ∧ counter d .fsWrongRelease 0 = counter a .fsWrongRelease 0 + 1) := by
  refine runsAt_of (exec_fsRelease t n) fun a wrong => ?_
  rw [fsDrive_fs, counter_fsDrive, fsReleaseWrite_of_wrong wrong]
  exact ⟨count_fs _ _ a, counter_count_same _ _ a⟩

/-! ## Restart (R202, R210) -/

/-- A change of the holds that leaves the thermal hold changes just what it says. -/
theorem setHolds_fs {f : FsSt → FsSt} {d : Dev} (h : (f d.fs).thermal = d.fs.thermal) : (setHolds f d).fs = f d.fs := by
  simp only [setHolds, h, Bool.and_not_self, Bool.false_eq_true, if_false]
  split
  · rfl
  · rw [raise_fs]

/-- The start-up hold and the self-test anew (R202, R210). -/
def startAnew (f : FsSt) : FsSt := { f with startup := true, selfTestOk := false, tested := [] }

theorem fsRestart_running {d : Dev} (undriven : d.fs.undriven = false) (failDark : d.fs.failDark = false) :
    (fsRestart 0x0FA5 true d).fs = startAnew d.fs := by
  rw [fsRestart, if_neg (by simp), if_neg (by simp [undriven, failDark])]
  exact setHolds_fs rfl

theorem fsRestart_failed {d : Dev} (failed : d.fs.failDark = true ∨ d.fs.undriven = true) :
    (fsRestart 0x0FA5 true d).fs = startAnew (fsFromChest d (fsAnew d.fs)) := by
  rw [fsRestart, if_neg (by simp), if_pos failed]
  exact setHolds_fs rfl

theorem fsRestart_refused {k : BitVec 16} {c : Bool} (h : k ≠ 0x0FA5 ∨ c = false) (d : Dev) : fsRestart k c d = d :=
  if_pos (by simpa using h)

/-- What a start reads back from the Chest is the stop and its nonce. -/
theorem fsFromChest_eq (d : Dev) (f : FsSt) :
    fsFromChest d f = { f with stopped := (fsFromChest d f).stopped, nonce := (fsFromChest d f).nonce } := by
  rw [fsFromChest]
  split <;> rfl

theorem fsRestart_again (t : Time) : RunsAt (.fsRestart t 0x0FA5 true) t
    (fun a => a.fs.undriven = false ∧ a.fs.failDark = false)
    (fun a d => d.fs = { a.fs with startup := true, selfTestOk := false, tested := [] }) := by
  refine runsAt_of (exec_fsRestart t 0x0FA5 true) fun a ⟨undriven, failDark⟩ => ?_
  rw [fsDrive_fs, fsRestart_running undriven failDark, startAnew]

theorem fsRestart_afterFailure (t : Time) : RunsAt (.fsRestart t 0x0FA5 true) t
    (fun a => a.fs.failDark = true ∨ a.fs.undriven = true)
    (fun a d => d.fs.failDark = false ∧ d.fs.undriven = false ∧ d.fs.relatch = true ∧ d.fs.startup = true ∧
      d.fs.selfTestOk = false ∧ d.fs.killsHeld = true ∧ d.fs.failCause = a.fs.failCause ∧ d.fs.number = none) := by
  refine runsAt_of (exec_fsRestart t 0x0FA5 true) fun a failed => ?_
  rw [fsDrive_fs, fsRestart_failed failed, fsFromChest_eq]
  exact ⟨rfl, rfl, rfl, rfl, rfl, rfl, rfl, rfl⟩

theorem fsRestart_ignored (t : Time) (k : BitVec 16) (c : Bool) : RunsAt (.fsRestart t k c) t
    (fun _ => k ≠ 0x0FA5 ∨ c = false)
    (fun a d => d = a) :=
  runsAt_of (exec_fsRestart t k c) fun a refused => fsDrive_of_same (fsRestart_refused refused a)

/-! ## Admission, limits and settings (R200, R205, R220) -/

/-- One of the two copies of an admission entry written (R200). -/
def admStored (complement : Bool) (slot v : Nat) (d : Dev) : Dev :=
  if complement then { d with fs := { d.fs with admC := aputD d.fs.admC slot v 0x3FFF } }
  else { d with fs := { d.fs with admV := aputD d.fs.admV slot v 0 } }

/-- An entry whose copies agree with the slot table is no longer noted as different (R200). -/
def admAgreed (slot : Nat) (d : Dev) : Dev :=
  if admEntry d slot = slotEntry d slot then { d with fs := { d.fs with differ := d.fs.differ.filter (· != slot) } } else d

/-- No more than the noted differences change. -/
theorem admAgreed_fs (slot : Nat) (d : Dev) : ∃ differ, (admAgreed slot d).fs = { d.fs with differ := differ } := by
  rw [admAgreed]
  split
  · exact ⟨_, rfl⟩
  · exact ⟨_, rfl⟩

theorem admWrite_eq (complement : Bool) {slot : Nat} (v : Nat) (d : Dev) (h : slot ≠ 0) :
    admWrite complement slot v d = admAgreed slot (admStored complement slot v d) := if_neg h

theorem admissionWrite_value (k : Fin 512) (v : BitVec 14) : Runs (.admissionWrite false k v)
    (fun _ => k ≠ 0)
    (fun a d => agetD d.fs.admV k 0 = v.toNat ∧ d.fs.admC = a.fs.admC) := by
  refine runs_of (exec_admissionWrite false k v) fun a entry => ?_
  obtain ⟨differ, e⟩ := admAgreed_fs k (admStored false k v.toNat a)
  rw [admWrite_eq false _ a (Fin.val_ne_zero_iff.2 entry), e]
  exact ⟨agetD_aputD_same _ _ _ _, rfl⟩

theorem admissionWrite_complement (k : Fin 512) (v : BitVec 14) : Runs (.admissionWrite true k v)
    (fun _ => k ≠ 0)
    (fun a d => agetD d.fs.admC k 0x3FFF = v.toNat ∧ d.fs.admV = a.fs.admV) := by
  refine runs_of (exec_admissionWrite true k v) fun a entry => ?_
  obtain ⟨differ, e⟩ := admAgreed_fs k (admStored true k v.toNat a)
  rw [admWrite_eq true _ a (Fin.val_ne_zero_iff.2 entry), e]
  exact ⟨agetD_aputD_same _ _ _ _, rfl⟩

theorem admissionWrite_zero (c : Bool) (v : BitVec 14) : Runs (.admissionWrite c 0 v)
    (fun _ => True)
    (fun a d => d = a) :=
  runs_of (exec_admissionWrite c 0 v) fun _ _ => if_pos rfl

theorem fsLimitsWrite_stores (ch : Fin 16) (l : OpticLimits) : Runs (.fsLimitsWrite ch l)
    (fun a => a.fs.locked = false ∧ chanPresent a ch = true)
    (fun _ d => aget d.fs.limits ch = some l) := by
  refine runs_of (exec_fsLimitsWrite ch l) fun a ⟨unlocked, present⟩ => ?_
  rw [if_neg (by simp [unlocked, present])]
  exact aget_aput_same _ _ _

theorem fsLimitsWrite_locked (ch : Fin 16) (l : OpticLimits) : Runs (.fsLimitsWrite ch l)
    (fun a => a.fs.locked = true)
    (fun a d => d = a) :=
  runs_of (exec_fsLimitsWrite ch l) fun _ locked => if_pos (.inl locked)

theorem fsSetcfgWrite_holds (g : BitVec 8) (r : BitVec 4) : Runs (.fsSetcfgWrite g r)
    (fun _ => r ≠ 0)
    (fun a d => d.fs = { a.fs with nextCfg := some (g.toNat, r.toNat) }) := by
  refine runs_of (exec_fsSetcfgWrite g r) fun a named => ?_
  rw [if_neg named]

/-- Settles O19: a release with both consents ends every trip and the stop, one with a single consent is held; a restart begins
the start-up anew, on a view of its own that is new after a failure; the tables hold what was written. -/
theorem firescreenReleaseAndTables : Obligations.FirescreenReleaseAndTables :=
  ⟨fsRelease_ends, fsRelease_held, fsRelease_wrong, fsRestart_again, fsRestart_afterFailure, fsRestart_ignored,
    admissionWrite_value, admissionWrite_complement, admissionWrite_zero, fsLimitsWrite_stores, fsLimitsWrite_locked,
    fsSetcfgWrite_holds⟩

end Sys2Proof.Proofs
end

section
/-!
PROOF. Trips and failures of the Firescreen (R202, R203, R205 to R211, R215): what a trip leaves of its channel and of what a release
in the same cycle had ended, how the stages rise, and that a failure of the Firescreen's own leaves every channel dark.
-/

namespace Sys2Proof.Proofs

open Sys2Proof Sys2Proof.Machine Sys2Proof.Laws

/-! ## A release made void by a trip in its cycle (R215) -/

/-- The stages back that a release had ended. -/
def stagesBack (r : FsRelease) (d : Dev) : Dev :=
  modEach (fun k c => { c with stage := agetD r.stages k c.stage }) (presentChans d) d

/-- The event back as it stood before the release. -/
def eventBack (r : FsRelease) (d : Dev) : Dev := if r.event then d else setFld fFS_EVENT_RELEASED 0 0 d

/-- What a release had ended in force again (R215). -/
def releaseVoided (r : FsRelease) (d : Dev) : Dev :=
  { eventBack r (stagesBack r d) with
    fs := { (eventBack r (stagesBack r d)).fs with stopped := r.stopped, lastRelease := none } }

/-- A release is made void only where it had not ended a trip of this channel. -/
theorem voidRelease_cases (n : Nat) (d : Dev) :
    voidRelease n d = d ∨ ∃ r, voidRelease n d = releaseVoided r d ∧ agetD r.stages n 0 = 0 := by
  simp only [voidRelease]
  split
  · exact .inl rfl
  · rename_i r _
    split
    · exact .inl rfl
    · rename_i voided
      exact .inr ⟨r, rfl, by omega⟩

@[simp] theorem eventBack_fs (r : FsRelease) (d : Dev) : (eventBack r d).fs = d.fs := by
  rw [eventBack]
  split <;> rfl

/-- The void release changes channels, the stop and itself, and lowers at most its own event. -/
theorem releaseVoided_fs (r : FsRelease) (d : Dev) : ∃ cs,
    (releaseVoided r d).fs = { d.fs with chans := cs, stopped := r.stopped, lastRelease := none } := by
  obtain ⟨cs, e⟩ := modEach_eq (fun k c => { c with stage := agetD r.stages k c.stage }) (presentChans d) d
  exact ⟨cs, by rw [releaseVoided, eventBack_fs, stagesBack, e]⟩

theorem voidRelease_fs (n : Nat) (d : Dev) : ∃ cs stopped last,
    (voidRelease n d).fs = { d.fs with chans := cs, stopped := stopped, lastRelease := last } := by
  rcases voidRelease_cases n d with e | ⟨r, e, -⟩
  · exact ⟨d.fs.chans, d.fs.stopped, d.fs.lastRelease, by rw [e]⟩
  · obtain ⟨cs, k⟩ := releaseVoided_fs r d
    exact ⟨cs, r.stopped, none, by rw [e, k]⟩

theorem fsChan_releaseVoided (r : FsRelease) (d : Dev) (n : Nat) : fsChan (releaseVoided r d) n =
    if n < d.part.channels then { fsChan d n with stage := agetD r.stages n (fsChan d n).stage } else fsChan d n := by
  have chans : (releaseVoided r d).fs.chans = (stagesBack r d).fs.chans := by rw [releaseVoided, eventBack_fs]
  rw [fsChan, chans, ← fsChan, stagesBack, fsChan_modEach _ _ _ _ (nodup_presentChans d)]
  simp only [mem_presentChans]

/-- Of a channel a void release changes the stage alone. -/
theorem fsChan_voidRelease (n m : Nat) (d : Dev) : ∃ stage, fsChan (voidRelease n d) m = { fsChan d m with stage := stage } := by
  rcases voidRelease_cases n d with e | ⟨r, e, -⟩
  · exact ⟨(fsChan d m).stage, by rw [e]⟩
  · rw [e, fsChan_releaseVoided]
    split
    · exact ⟨_, rfl⟩
    · exact ⟨_, rfl⟩

/-- The channel that is about to trip is untripped as before. -/
theorem fsChan_voidRelease_of_untripped {n : Nat} {d : Dev} (h : (fsChan d n).stage = 0) :
    fsChan (voidRelease n d) n = fsChan d n := by
  rcases voidRelease_cases n d with e | ⟨r, e, notEnded⟩
  · rw [e]
  · rw [e, fsChan_releaseVoided, h, notEnded, ← h]
    split <;> rfl

theorem frame_modEach {rs : List Reg} (f : Nat → FsChan → FsChan) (l : List Nat) (d : Dev) :
    Frame ownPieces rs d (modEach f l d) := by
  obtain ⟨cs, e⟩ := modEach_eq f l d
  rw [e]
  exact frame_ownFs

theorem frame_voidRelease (n : Nat) (d : Dev) : Frame ownPieces ownRegs d (voidRelease n d) := by
  rcases voidRelease_cases n d with e | ⟨r, e, -⟩
  · rw [e]
    exact Frame_refl _ _ d
  · have event : ∀ e, Frame ownPieces ownRegs e (eventBack r e) := fun e =>
      Frame_ite _ (Frame_refl _ _ e)
        (Frame_mono (frame_setFld fFS_EVENT_RELEASED 0 0 e (by decide)) (by decide) (by decide))
    rw [e]
    exact Frame_step (Frame_step (frame_modEach _ _ d) (event _)) frame_ownFs

/-- Once made void, or kept, a release is not made void again in its cycle. -/
theorem voidRelease_again {n : Nat} {a b : Dev} (last : b.fs.lastRelease = (voidRelease n a).fs.lastRelease)
    (now : b.now = a.now) : voidRelease n b = b := by
  cases h : a.fs.lastRelease with
  | none =>
    have kept : voidRelease n a = a := by simp [voidRelease, h]
    rw [kept, h] at last
    simp [voidRelease, last]
  | some r =>
    by_cases k : r.at_ / (20 * Config.ns) ≠ a.now / (20 * Config.ns) ∨ 0 < agetD r.stages n 0
    · have kept : voidRelease n a = a := by simp only [voidRelease, h, if_pos k]
      rw [kept, h] at last
      simp only [voidRelease, last, now, if_pos k]
    · have voided : voidRelease n a = releaseVoided r a := by
        simp only [voidRelease, h, if_neg k]
        rfl
      obtain ⟨cs, e⟩ := releaseVoided_fs r a
      rw [voided, e] at last
      simp [voidRelease, last]

/-! ## A trip (R206, R207, R211) -/

/-- The stage latched, a new nonce drawn, the cause noted, and the report owed unless every channel is dark (R207, R211). -/
def latchTrip (n stage cause : Nat) (d : Dev) : Dev :=
  let latched := newNonce (drawNonce (modFs n (fun c => { c with stage := stage }) d)).1
    (drawNonce (modFs n (fun c => { c with stage := stage }) d)).2
  { latched with fs := { latched.fs with cause := cause, report := !everyDark latched } }

theorem trip_of_untripped {n stage cause : Nat} {d : Dev} (h : (fsChan (voidRelease n d) n).stage = 0) :
    trip n stage cause d = forceLow n (raise fFS_EVENT_TRIP 0 (latchTrip n stage cause (voidRelease n d))) := by
  rw [trip, if_neg (by omega)]
  rfl

theorem trip_of_tripped {n stage cause : Nat} {d : Dev} (h : 0 < (fsChan (voidRelease n d) n).stage) :
    trip n stage cause d = count .fsDetections n (voidRelease n d) := if_pos h

theorem forceLow_cause (n : Nat) (d : Dev) : (forceLow n d).fs.cause = d.fs.cause := by rw [forceLow_fs]

theorem forceLow_report (n : Nat) (d : Dev) : (forceLow n d).fs.report = d.fs.report := by rw [forceLow_fs]

theorem forceLow_lastRelease (n : Nat) (d : Dev) : (forceLow n d).fs.lastRelease = d.fs.lastRelease := by
  rw [forceLow_fs]

theorem everyDark_forceLow (n : Nat) (d : Dev) : everyDark (forceLow n d) = everyDark d := by
  refine everyDark_of_stages ?_ (by rw [forceLow_fs]) (forceLow_part n d) fun m => ?_
  · rw [killBase, forceLow_fs, killBase]
  · by_cases k : m = n
    · rw [k, fsChan_forceLow_same, darkened_stage]
    · rw [fsChan_forceLow_ne k]

theorem everyDark_raise (f : Fld) (i : Nat) (d : Dev) : everyDark (raise f i d) = everyDark d := by
  simp only [everyDark, killBase, presentChans, raise_fs, raise_part, fsChan_raise]

theorem fsChan_latchTrip (n stage cause : Nat) (d : Dev) (m : Nat) :
    fsChan (latchTrip n stage cause d) m = fsChan (modFs n (fun c => { c with stage := stage }) d) m := rfl

theorem latchTrip_cause (n stage cause : Nat) (d : Dev) : (latchTrip n stage cause d).fs.cause = cause := rfl

theorem latchTrip_lastRelease (n stage cause : Nat) (d : Dev) :
    (latchTrip n stage cause d).fs.lastRelease = d.fs.lastRelease := rfl

theorem latchTrip_report (n stage cause : Nat) (d : Dev) :
    (latchTrip n stage cause d).fs.report = !everyDark (latchTrip n stage cause d) := rfl

/-- The pieces that a trip may touch. -/
def tripPieces : List Piece := .freeCtr :: darkPieces

theorem frame_latchTrip (n stage cause : Nat) (d : Dev) : Frame tripPieces darkRegs d (latchTrip n stage cause d) := by
  refine ⟨fun p hp => ?_, KeepRegs_of_eq rfl⟩
  cases p with
  | freeCtr | act | fs => exact absurd (by decide) hp
  | _ => rfl

theorem frame_trip (n stage cause : Nat) (d : Dev) : Frame tripPieces darkRegs d (trip n stage cause d) := by
  have own : ∀ {a b : Dev}, Frame ownPieces ownRegs a b → Frame tripPieces darkRegs a b := fun h =>
    Frame_mono h (by decide) (by decide)
  have voided := own (frame_voidRelease n d)
  by_cases h : (fsChan (voidRelease n d) n).stage = 0
  · rw [trip_of_untripped h]
    refine Frame_step (Frame_step (Frame_step voided (frame_latchTrip n stage cause _))
      (own (frame_ownRaise (f := fFS_EVENT_TRIP) _ rfl))) ?_
    exact Frame_mono (frame_forceLow n _) (by decide) (by decide)
  · rw [trip_of_tripped (by omega)]
    exact Frame_step voided (own (frame_ownCount _ _ _))

@[simp] theorem trip_now (n stage cause : Nat) (d : Dev) : (trip n stage cause d).now = d.now :=
  (frame_trip n stage cause d).1 .now (by decide)

@[simp] theorem trip_part (n stage cause : Nat) (d : Dev) : (trip n stage cause d).part = d.part :=
  (frame_trip n stage cause d).1 .part (by decide)

/-- A trip of a channel that is not tripped latches its stage and forces BEN low; the rest of the channel stands. -/
theorem fsChan_trip_of_untripped {n : Nat} {d : Dev} (stage cause : Nat) (h : (fsChan d n).stage = 0) :
    fsChan (trip n stage cause d) n = darkened { fsChan d n with stage := stage } := by
  have untripped := fsChan_voidRelease_of_untripped h
  rw [trip_of_untripped (by rw [untripped, h]), fsChan_forceLow_same, fsChan_raise, fsChan_latchTrip, fsChan_modFs_same,
    untripped]

theorem trip_cause {n : Nat} {d : Dev} (stage cause : Nat) (h : (fsChan d n).stage = 0) :
    (trip n stage cause d).fs.cause = cause := by
  rw [trip_of_untripped (by rw [fsChan_voidRelease_of_untripped h, h]), forceLow_cause, raise_fs, latchTrip_cause]

/-- The report of a trip is owed unless every channel is dark after it (R211). -/
theorem trip_report {n : Nat} {d : Dev} (stage cause : Nat) (h : (fsChan d n).stage = 0) :
    (trip n stage cause d).fs.report = !everyDark (trip n stage cause d) := by
  rw [trip_of_untripped (by rw [fsChan_voidRelease_of_untripped h, h]), forceLow_report, everyDark_forceLow, raise_fs,
    everyDark_raise, latchTrip_report]

/-- After a trip no release of its cycle is made void any more. -/
theorem voidRelease_trip {n : Nat} {d : Dev} (stage cause : Nat) (h : (fsChan d n).stage = 0) :
    voidRelease n (trip n stage cause d) = trip n stage cause d := by
  refine voidRelease_again (a := d) ?_ (trip_now n stage cause d)
  rw [trip_of_untripped (by rw [fsChan_voidRelease_of_untripped h, h]), forceLow_lastRelease, raise_fs,
    latchTrip_lastRelease]

/-- Past stage and BEN, whatever a detection comes to leaves every channel. -/
theorem pastTrip_trip (n stage cause m : Nat) (d : Dev) :
    pastTrip (fsChan (trip n stage cause d) m) = pastTrip (fsChan d m) := by
  obtain ⟨s, voided⟩ := fsChan_voidRelease n m d
  by_cases h : (fsChan (voidRelease n d) n).stage = 0
  · rw [trip_of_untripped h]
    by_cases k : m = n
    · rw [k] at voided ⊢
      rw [fsChan_forceLow_same, fsChan_raise, fsChan_latchTrip, fsChan_modFs_same, voided, pastTrip_darkened,
        pastTrip_stage, pastTrip_stage]
    · rw [fsChan_forceLow_ne k, fsChan_raise, fsChan_latchTrip, fsChan_modFs_ne _ _ k, voided, pastTrip_stage]
  · rw [trip_of_tripped (by omega), fsChan_count, voided, pastTrip_stage]

/-- A channel that was dark stays dark, whatever a detection comes to. -/
theorem low_trip {n m stage cause : Nat} {d : Dev} (low : (fsChan d m).ben = false) :
    (fsChan (trip n stage cause d) m).ben = false := by
  obtain ⟨s, voided⟩ := fsChan_voidRelease n m d
  by_cases h : (fsChan (voidRelease n d) n).stage = 0
  · rw [trip_of_untripped h]
    refine low_forceLow ?_
    rw [fsChan_raise, fsChan_latchTrip]
    by_cases k : m = n
    · rw [k] at voided low ⊢
      rw [fsChan_modFs_same, voided, low]
    · rw [fsChan_modFs_ne _ _ k, voided, low]
  · rw [trip_of_tripped (by omega), fsChan_count, voided, low]

/-- A detection leaves since when light goes on. -/
theorem trip_lightAt (n stage cause m : Nat) (d : Dev) :
    (fsChan (trip n stage cause d) m).lightAt = (fsChan d m).lightAt := by
  have past := congrArg FsChan.lightAt (pastTrip_trip n stage cause m d)
  exact past

theorem modFs_cause (n : Nat) (f : FsChan → FsChan) (d : Dev) : (modFs n f d).fs.cause = d.fs.cause := rfl

theorem modFs_report (n : Nat) (f : FsChan → FsChan) (d : Dev) : (modFs n f d).fs.report = d.fs.report := rfl

/-- A change of a channel past its stage darkens and lights nothing. -/
theorem everyDark_modFs {f : FsChan → FsChan} (h : ∀ c, (f c).stage = c.stage) (n : Nat) (d : Dev) :
    everyDark (modFs n f d) = everyDark d := by
  refine everyDark_of_stages rfl rfl rfl fun m => ?_
  by_cases k : m = n
  · rw [k, fsChan_modFs_same, h]
  · rw [fsChan_modFs_ne _ _ k]

/-! ## Light outside a window (R203, R206) -/

theorem openDue_now (n : Nat) (d : Dev) : (openDue n d).now = d.now := rfl
theorem openDue_part (n : Nat) (d : Dev) : (openDue n d).part = d.part := rfl

/-- Windows that open leave the rest of their channel. -/
theorem fsChan_openDue (n : Nat) (d : Dev) :
    fsChan (openDue n d) n = { fsChan d n with windows := (fsChan (openDue n d) n).windows } := by
  rw [openDue, fsChan_modFs_same]

theorem openDue_fs (n : Nat) (d : Dev) : (openDue n d).fs = { d.fs with chans := (openDue n d).fs.chans } := rfl

theorem openDue_noWindows {n : Nat} {d : Dev} (h : (fsChan d n).windows = []) : (fsChan (openDue n d) n).windows = [] := by
  rw [openDue, fsChan_modFs_same]
  simp [h]

/-- Light that goes on since an instant, if not since an earlier one. -/
def litFrom (now : Time) (c : FsChan) : FsChan :=
  { c with litSince := true, lightAt := match c.lightAt with
    | some t => some t
    | none => some now }

theorem litFrom_unlit {now : Time} {c : FsChan} (h : c.lightAt = none) : (litFrom now c).lightAt = some now := by
  simp [litFrom, h]

theorem lightDetected_trips {n : Nat} {d : Dev} (present : chanPresent d n = true) (driven : d.fs.undriven = false)
    (dark : (fsChan d n).windows = []) : lightDetected n d = modFs n (litFrom d.now) (trip n 1 1 (openDue n d)) := by
  have outside : lightOutside (openDue n d) n = true := by simp [lightOutside, openDue_noWindows dark]
  have here : chanPresent (openDue n d) n = true := present
  have drives : (openDue n d).fs.undriven = false := driven
  rw [lightDetected, if_neg (by simp [outside, here, drives])]
  rfl

theorem lightOutsideWindow_trips (t : Time) (ch : Fin 16) : RunsAt (.lightOutsideWindow t ch) t
    (fun a => chanPresent a ch = true ∧ a.fs.undriven = false ∧ (fsChan a ch).stage = 0 ∧ (fsChan a ch).windows = [] ∧
      (fsChan a ch).lightAt = none)
    (fun a d => (fsChan d ch).stage = 1 ∧ d.fs.cause = 1 ∧ d.fs.report = !everyDark d ∧ (fsChan d ch).ben = false ∧
      (fsChan d ch).lightAt = some a.now) := by
  refine runsAt_of (exec_lightOutsideWindow t ch) fun a ⟨present, driven, untripped, dark, unlit⟩ => ?_
  have clear : (fsChan (openDue ch a) ch).stage = 0 := by rw [fsChan_openDue, untripped]
  have lightAt : (fsChan (trip ch 1 1 (openDue ch a)) ch).lightAt = none := by rw [trip_lightAt, fsChan_openDue, unlit]
  have channel := fsChan_trip_of_untripped 1 1 clear
  rw [fsDrive_fs, everyDark_fsDrive, fsChan_fsDrive, lightDetected_trips present driven dark, modFs_cause, modFs_report,
    everyDark_modFs (f := litFrom a.now) (fun _ => rfl), fsChan_modFs_same]
  refine ⟨?_, trip_cause 1 1 clear, trip_report 1 1 clear, ?_, litFrom_unlit lightAt⟩
  · rw [litFrom, channel, darkened_stage]
  · rw [litFrom, channel, darkened_ben]

/-! ## The looks after a detection (R206, R207) -/

theorem lightStill_raises {n stage after : Nat} {x : Time} {d : Dev} (driven : d.fs.undriven = false)
    (lit : (fsChan d n).lightAt = some x) (due : x + after ≤ d.now) :
    lightStill n stage after true d = escalate n stage d := by
  simp [lightStill, driven, lit, due]

theorem fsChan_escalate {n stage : Nat} {d : Dev} (tripped : 0 < (fsChan d n).stage) :
    fsChan (escalate n stage d) n = { fsChan d n with stage := max (fsChan d n).stage stage } := by
  rw [escalate, fsChan_modFs_same, if_pos tripped]

/-- Light that has gone is forgotten; the stage stands. -/
theorem lightStill_gone {n stage after : Nat} {d : Dev} (driven : d.fs.undriven = false) :
    (fsChan (lightStill n stage after false d) n).lightAt = none ∧
      (fsChan (lightStill n stage after false d) n).stage = (fsChan d n).stage := by
  rw [lightStill, if_neg (by simp [driven])]
  split
  · exact ⟨‹_›, rfl⟩
  · rw [if_pos (by simp), fsChan_modFs_same]
    exact ⟨rfl, rfl⟩

theorem stage2Timeout_raises (t : Time) (ch : Fin 16) (x : Time) : RunsAt (.stage2Timeout t ch true) t
    (fun a => a.fs.undriven = false ∧ (fsChan a ch).lightAt = some x ∧ x + Config.us ≤ a.now ∧ 0 < (fsChan a ch).stage)
    (fun a d => (fsChan d ch).stage = max (fsChan a ch).stage 2 ∧ txKillOn d ch = true) := by
  refine runsAt_of (exec_stage2Timeout t ch true) fun a ⟨driven, lit, due, tripped⟩ => ?_
  rw [fsChan_fsDrive, txKillOn_fsDrive, lightStill_raises driven lit due, txKillOn, fsChan_escalate tripped]
  exact ⟨rfl, by simp⟩

theorem stage3Timeout_raises (t : Time) (ch : Fin 16) (x : Time) : RunsAt (.stage3Timeout t ch true) t
    (fun a => a.fs.undriven = false ∧ chanPresent a ch = true ∧ (fsChan a ch).lightAt = some x ∧
      x + 10 * Config.us ≤ a.now ∧ (fsChan a ch).stage = 2)
    (fun _ d => (fsChan d ch).stage = 3 ∧ allKillOn d = true) := by
  refine runsAt_of (exec_stage3Timeout t ch true) fun a ⟨driven, present, lit, due, tripped⟩ => ?_
  have third : (fsChan (escalate ch 3 a) ch).stage = 3 := by rw [fsChan_escalate (by omega), tripped]; rfl
  rw [fsChan_fsDrive, allKillOn_fsDrive, lightStill_raises driven lit due]
  refine ⟨third, ?_⟩
  rw [allKillOn, Bool.or_eq_true]
  exact .inr (List.any_eq_true.2 ⟨ch, mem_presentChans_of_present present, by simp [third]⟩)

theorem stage2Timeout_forgets (t : Time) (ch : Fin 16) : RunsAt (.stage2Timeout t ch false) t
    (fun a => a.fs.undriven = false)
    (fun a d => (fsChan d ch).lightAt = none ∧ (fsChan d ch).stage = (fsChan a ch).stage) := by
  refine runsAt_of (exec_stage2Timeout t ch false) fun a driven => ?_
  rw [fsChan_fsDrive]
  exact lightStill_gone driven

theorem stage3Timeout_forgets (t : Time) (ch : Fin 16) : RunsAt (.stage3Timeout t ch false) t
    (fun a => a.fs.undriven = false)
    (fun a d => (fsChan d ch).lightAt = none ∧ (fsChan d ch).stage = (fsChan a ch).stage) := by
  refine runsAt_of (exec_stage3Timeout t ch false) fun a driven => ?_
  rw [fsChan_fsDrive]
  exact lightStill_gone driven

/-! ## The reads of an optic (R205) -/

theorem judge_absent (n cause : Nat) (was : Bool) (d : Dev) : judge n cause was false d = d := if_pos (by simp)

/-- A first violation trips the channel; with no light since, it is no more than that. -/
theorem judge_of_untripped {n cause : Nat} {was : Bool} {d : Dev} (h : (fsChan d n).stage = 0) :
    judge n cause was true d = trip n 1 cause d := by
  simp [judge, h]

/-- A violation on a tripped channel is counted, and may raise the stage. -/
theorem judge_of_tripped {n cause : Nat} {was now : Bool} {d : Dev} (kept : voidRelease n d = d)
    (tripped : 0 < (fsChan d n).stage) : 0 < (fsChan (judge n cause was now d) n).stage ∧
      (judge n cause was now d).fs.cause = d.fs.cause ∧ (fsChan (judge n cause was now d) n).ben = (fsChan d n).ben := by
  have counted : trip n 1 cause d = count .fsDetections n d := by rw [trip_of_tripped (by rw [kept]; exact tripped), kept]
  simp only [judge, counted]
  split
  · exact ⟨tripped, rfl, rfl⟩
  · split
    · rw [fsChan_escalate (by rw [fsChan_count]; exact tripped), fsChan_count]
      refine ⟨by dsimp only; omega, ?_, rfl⟩
      rw [escalate, modFs_fs, count_fs]
    · rw [fsChan_count, count_fs]
      exact ⟨tripped, rfl, rfl⟩

/-- What an answered read found (R206). -/
def readNoted (power bias : Bool) (c : FsChan) : FsChan :=
  { c with badMute := false, badPower := power, badBias := bias, litSince := false }

/-- An answered read whose power is the first violation of its channel: a trip, and the bias judged after it (R205). -/
theorem opticRead_trips {r : OpticRead} {d : Dev} (present : chanPresent d r.ch = true) (driven : d.fs.undriven = false)
    (locked : d.fs.locked = true) (untripped : (fsChan d r.ch).stage = 0) (answered : r.answered = true)
    (excess : (agetD d.fs.limits r.ch ⟨0, 0, 0, 0, 0, 0⟩).powerLimit < r.power) :
    ∃ was bias, opticRead r d = modFs r.ch (readNoted true bias) (judge r.ch 3 was bias (trip r.ch 1 4 d)) := by
  rw [opticRead, if_neg (by simp [present, driven])]
  simp only [answered, locked, decide_eq_true excess, Bool.and_true, Bool.not_true, judge_absent,
    judge_of_untripped untripped, if_true]
  exact ⟨_, _, rfl⟩

theorem opticRead_overPower (r : OpticRead) : RunsAt (.opticRead r) r.t
    (fun a => chanPresent a r.ch = true ∧ a.fs.locked = true ∧ a.fs.undriven = false ∧ (fsChan a r.ch).stage = 0 ∧
      r.answered = true ∧ (agetD a.fs.limits r.ch ⟨0, 0, 0, 0, 0, 0⟩).powerLimit < r.power)
    (fun _ d => 1 ≤ (fsChan d r.ch).stage ∧ d.fs.cause = 4 ∧ (fsChan d r.ch).badPower = true ∧ (fsChan d r.ch).ben = false) := by
  refine runsAt_of (exec_opticRead r) fun a ⟨present, locked, driven, untripped, answered, excess⟩ => ?_
  obtain ⟨was, bias, e⟩ := opticRead_trips present driven locked untripped answered excess
  have channel := fsChan_trip_of_untripped 1 4 untripped
  have tripped : 0 < (fsChan (trip r.ch 1 4 a) r.ch).stage := by
    rw [channel, darkened_stage]
    exact Nat.one_pos
  obtain ⟨stage, cause, ben⟩ := judge_of_tripped (cause := 3) (was := was) (now := bias) (voidRelease_trip 1 4 untripped) tripped
  rw [fsDrive_fs, fsChan_fsDrive, e, modFs_cause, fsChan_modFs_same, readNoted]
  refine ⟨stage, ?_, rfl, ?_⟩
  · rw [cause, trip_cause 1 4 untripped]
  · rw [ben, channel, darkened_ben]

/-! ## Failures of the Firescreen's own (R208, R209) -/

/-- Fail-dark with a cause: every BEN of the part low, and the kill outputs on (R209). -/
def FailedDark (cause : Nat) (d : Dev) : Prop :=
  d.fs.failDark = true ∧ d.fs.failCause = cause ∧ allKillOn d = true ∧ ∀ n < d.part.channels, (fsChan d n).ben = false

/-- What darkens the Firescreen enters fail-dark with its cause. -/
theorem failDark_enters {cause : Nat} {d : Dev} (driven : d.fs.undriven = false) (well : d.fs.failDark = false) :
    FailedDark cause (fsDrive (failDark cause) d) := by
  simp only [FailedDark, fsDrive_fs, fsDrive_part, fsChan_fsDrive, allKillOn_fsDrive]
  rw [failDark, if_neg (by simp [driven, well])]
  refine ⟨?_, ?_, allKillOn_of_base ?_, fun n hn => forceAllLow_low _ n (by rwa [forceAllLow_part] at hn)⟩
  · rw [forceAllLow_fs, raise_fs]
  · rw [forceAllLow_fs, raise_fs]
  · simp only [killBase]
    rw [forceAllLow_fs, raise_fs]
    simp

theorem selfTest_fails {out x y : Nat} {d : Dev} (driven : d.fs.undriven = false) (well : d.fs.failDark = false)
    (late : 60 < x ∨ 60 < y) : selfTest out x y d = failDark 7 d := by
  rw [selfTest, if_neg (by simp [driven, well]), if_pos late]

theorem selfTestPulse_fails (t : Time) (x y : Nat) : RunsAt (.selfTestPulse t .all x y) t
    (fun a => a.fs.undriven = false ∧ a.fs.failDark = false ∧ (60 < x ∨ 60 < y))
    (fun _ d => FailedDark 7 d) := by
  refine runsAt_of (exec_selfTestPulse t .all x y) fun a ⟨driven, well, late⟩ => ?_
  have fails : fsDrive (selfTest 16 x y) a = fsDrive (failDark 7) a := by
    simp only [fsDrive, selfTest_fails driven well late]
  exact fails ▸ failDark_enters driven well

theorem parityError_fails (t : Time) : RunsAt (.parityError t) t
    (fun a => a.fs.undriven = false ∧ a.fs.failDark = false)
    (fun _ d => FailedDark 8 d) :=
  runsAt_of (exec_parityError t) fun _ ⟨driven, well⟩ => failDark_enters driven well

theorem killSenseMismatch_fails (t : Time) : RunsAt (.killSenseMismatch t .all) t
    (fun a => a.fs.undriven = false ∧ a.fs.failDark = false)
    (fun _ d => FailedDark 7 d) :=
  runsAt_of (exec_killSenseMismatch t .all) fun _ ⟨driven, well⟩ => failDark_enters driven well

/-- Without clock or supply the outputs are undriven, and the board makes the same dark state (R209). -/
theorem fsSupplyClockLoss_darkens (t : Time) (c : Bool) : RunsAt (.fsSupplyClockLoss t c) t
    (fun a => a.fs.undriven = false)
    (fun _ d => d.fs.undriven = true ∧ d.fs.failCause = 9 ∧ allKillOn d = true ∧
      ∀ n < d.part.channels, (fsChan d n).ben = false) := by
  refine runsAt_of (exec_fsSupplyClockLoss t c) fun a driven => ?_
  simp only [fsDrive_fs, fsDrive_part, fsChan_fsDrive, allKillOn_fsDrive]
  rw [fsLost, if_neg (by simp [driven])]
  refine ⟨?_, ?_, allKillOn_of_base ?_, fun n hn => forceAllLow_low _ n (by rwa [forceAllLow_part] at hn)⟩
  · rw [forceAllLow_fs]
  · rw [forceAllLow_fs]
  · simp only [killBase]
    rw [forceAllLow_fs]
    rfl

/-! ## The start-up self-test passed (R202, R208, R210) -/

/-- The self-test passed and the start-up hold over (R202). -/
def testPassed (f : FsSt) : FsSt := { f with selfTestOk := true, tested := [], startup := false }

theorem setHolds_part {f : FsSt → FsSt} {d : Dev} (h : (f d.fs).thermal = d.fs.thermal) : (setHolds f d).part = d.part :=
  only_setHolds d h .part (by decide)

/-- The pulse that completes the self-test ends the start-up hold, and latches stage 3 where a failure came before. -/
theorem selfTest_passes {out x y : Nat} {d : Dev} (driven : d.fs.undriven = false) (well : d.fs.failDark = false)
    (inTime : x ≤ 60 ∧ y ≤ 60) (starting : d.fs.selfTestOk = false)
    (last : (16 :: presentChans d).all (fun n => n == out || d.fs.tested.contains n) = true) :
    selfTest out x y d =
      if (setHolds testPassed d).fs.relatch then latchAll (setHolds testPassed d) else setHolds testPassed d := by
  have all : (16 :: presentChans d).all (out :: d.fs.tested).eraseDups.contains = true := by
    refine List.all_eq_true.2 fun n hn => ?_
    have tested := List.all_eq_true.1 last n hn
    rw [List.contains_iff_mem, List.mem_eraseDups, List.mem_cons]
    simpa [Bool.or_eq_true] using tested
  rw [selfTest, if_neg (by simp [driven, well]), if_neg (by omega), if_neg (by simp [starting]), if_pos all]
  rfl

/-- Stage 3 on every present channel with the cause of the failure, and the kill outputs no longer held (R210). -/
theorem latchAll_latches (d : Dev) : (latchAll d).fs.cause = d.fs.failCause ∧ (latchAll d).fs.killsHeld = false ∧
    (latchAll d).fs.selfTestOk = d.fs.selfTestOk ∧ (latchAll d).fs.startup = d.fs.startup ∧
    ∀ n < (latchAll d).part.channels, (fsChan (latchAll d) n).stage = 3 := by
  obtain ⟨cs, e⟩ := modEach_eq (fun _ c => { c with stage := 3 }) (presentChans d) (newNonce (drawNonce d).1 (drawNonce d).2)
  rw [latchAll]
  refine ⟨?_, ?_, ?_, ?_, fun n hn => ?_⟩
  · rw [raise_fs]
  · rw [raise_fs]
  · rw [raise_fs]
    exact congrArg (·.fs.selfTestOk) e
  · rw [raise_fs]
    exact congrArg (·.fs.startup) e
  · rw [fsChan_raise]
    have here : n < d.part.channels := by
      rw [raise_part] at hn
      exact (congrArg (·.part.channels) e) ▸ hn
    exact congrArg FsChan.stage (fsChan_modEach_present (fun _ c => { c with stage := 3 }) here)

theorem selfTestPulse_passes (t : Time) (ch : Fin 16) (x y : Nat) : RunsAt (.selfTestPulse t (.tx ch) x y) t
    (fun a => a.fs.undriven = false ∧ a.fs.failDark = false ∧ x ≤ 60 ∧ y ≤ 60 ∧ chanPresent a ch = true ∧
      a.fs.selfTestOk = false ∧ (16 :: presentChans a).all (fun n => n == ch.val || a.fs.tested.contains n) = true)
    (fun a d => d.fs.selfTestOk = true ∧ d.fs.startup = false ∧ (a.fs.relatch = true →
      d.fs.cause = a.fs.failCause ∧ d.fs.killsHeld = false ∧ ∀ n < d.part.channels, (fsChan d n).stage = 3)) := by
  refine runsAt_of (exec_selfTestPulse t (.tx ch) x y) fun a ⟨driven, well, start, end_, present, starting, last⟩ => ?_
  have passed : (setHolds testPassed a).fs = testPassed a.fs := setHolds_fs rfl
  simp only [fsDrive_fs, fsDrive_part, fsChan_fsDrive, present, if_true,
    selfTest_passes driven well ⟨start, end_⟩ starting last, passed]
  split
  · obtain ⟨cause, kills, ok, startup, stages⟩ := latchAll_latches (setHolds testPassed a)
    rw [passed] at cause ok startup
    exact ⟨ok, startup, fun _ => ⟨cause, kills, stages⟩⟩
  · rename_i fresh
    rw [passed]
    exact ⟨rfl, rfl, fun relatch => absurd relatch fresh⟩

/-- Settles O18: a detection trips its channel and darkens it, the looks after it raise the stage while light is there, a failure of
the Firescreen's own darkens every channel, and the self-test that passes ends the start-up or latches what had failed. -/
theorem firescreenTripsAndFailures : Obligations.FirescreenTripsAndFailures :=
  ⟨lightOutsideWindow_trips, stage2Timeout_raises, stage3Timeout_raises, stage2Timeout_forgets, stage3Timeout_forgets,
    opticRead_overPower, selfTestPulse_fails, selfTestPulse_passes, parityError_fails, killSenseMismatch_fails,
    fsSupplyClockLoss_darkens⟩

end Sys2Proof.Proofs
end

section
/-!
PROOF. What a completed change of the power state leaves of the Firescreen's own view (R195, R202, R554, R555, R567): timing holds
and their frames, channels up, and channels that are dark. A frame of the tap may end the power change's hold, and what waited for
that then runs to its end, so the rules here go through every operation that a wake and a request that waited perform.
-/

namespace Sys2Proof.Proofs

open Sys2Proof Sys2Proof.Machine Sys2Proof.Laws

/-! ## Timing, view and BEN of every channel -/

/-- The timing hold of a channel, its frames within range, and whether it is up in the own view (R195, R652). -/
def ownTiming (c : FsChan) : Bool × Nat × Bool := (c.timing, c.spaced, c.up)

/-- From device a to device b every channel's timing stands, and a channel that was dark stays dark. -/
structure KeepsView (a b : Dev) : Prop where
  timing : ∀ n, ownTiming (fsChan b n) = ownTiming (fsChan a n)
  dark : ∀ n, (fsChan a n).ben = false → (fsChan b n).ben = false

theorem KeepsView.refl {d : Dev} : KeepsView d d := ⟨fun _ => rfl, fun _ h => h⟩

/-- A last step joined to those before it, found from the device that it leads to. -/
theorem KeepsView.after {a b c : Dev} (k : KeepsView b c) (h : KeepsView a b) : KeepsView a c :=
  ⟨fun n => (k.timing n).trans (h.timing n), fun n low => k.dark n (h.dark n low)⟩

theorem KeepsView.ite {a b c : Dev} {p : Prop} [Decidable p] (h : KeepsView a b) (k : KeepsView a c) :
    KeepsView a (if p then b else c) := by
  split
  · exact h
  · exact k

theorem KeepsView.foldl {β : Type} {f : Dev → β → Dev} (h : ∀ d x, KeepsView d (f d x)) :
    ∀ (l : List β) (d : Dev), KeepsView d (l.foldl f d)
  | [], _ => .refl
  | x :: l, d => (KeepsView.foldl h l (f d x)).after (h d x)

/-- Where the Firescreen's channels stand, their view stands. -/
theorem KeepsView.same {a b : Dev} (h : b.fs.chans = a.fs.chans) : KeepsView a b := by
  have chan : ∀ n, fsChan b n = fsChan a n := fun n => by rw [fsChan, fsChan, h]
  exact ⟨fun n => by rw [chan], fun n low => by rw [chan, low]⟩

/-- A change of pieces other than the Firescreen, which emits nothing. -/
theorem keepsView_pieces {d : Dev} {regs dict cnt host chans prot lanes ports bond cipher act up lc tm cls fwd sb mc sec pwr
    trib dic img boot} : KeepsView d { d with
      regs := regs, dict := dict, cnt := cnt, host := host, chans := chans, prot := prot, lanes := lanes, ports := ports,
      bond := bond, cipher := cipher, act := act, up := up, lc := lc, tm := tm, cls := cls, fwd := fwd, sb := sb, mc := mc,
      sec := sec, pwr := pwr, trib := trib, dic := dic, img := img, boot := boot } := .same rfl

/-- A change of the Firescreen past its channels. -/
theorem keepsView_pastChans {d : Dev} {f : FsSt} (h : f.chans = d.fs.chans) : KeepsView d { d with fs := f } := .same h

/-- So it does under whatever does not touch the Firescreen. -/
theorem KeepsView.of_only {ps : List Piece} {a b : Dev} (h : Only ps a b) (hp : .fs ∉ ps) : KeepsView a b :=
  .same (congrArg FsSt.chans (show b.fs = a.fs from h .fs hp))

/-- A change of one channel that leaves its timing and does not light it. -/
theorem keepsView_modFs {n : Nat} {f : FsChan → FsChan} {d : Dev} (timing : ∀ c, ownTiming (f c) = ownTiming c)
    (dark : ∀ c, c.ben = false → (f c).ben = false) : KeepsView d (modFs n f d) := by
  refine ⟨fun m => ?_, fun m low => ?_⟩
  · by_cases e : m = n
    · rw [e, fsChan_modFs_same, timing]
    · rw [fsChan_modFs_ne _ _ e]
  · by_cases e : m = n
    · rw [e, fsChan_modFs_same, dark _ (e ▸ low)]
    · rw [fsChan_modFs_ne _ _ e, low]

/-! ## Shared operations -/

theorem keepsView_emit {e : Emission} {d : Dev} : KeepsView d (emit e d) := .same rfl

theorem keepsView_setReg {r : Reg} {i : Nat} {v : Word} {d : Dev} : KeepsView d (setReg r i v d) := .same rfl

theorem keepsView_setFld {f : Fld} {i v : Nat} {d : Dev} : KeepsView d (setFld f i v d) := .same rfl

theorem keepsView_signal {v : Nat} {d : Dev} : KeepsView d (signal v d) := .same (by rw [signal_fs])

theorem keepsView_raise {f : Fld} {i : Nat} {d : Dev} : KeepsView d (raise f i d) := .same (by rw [raise_fs])

theorem keepsView_raiseIf {c : Bool} {f : Fld} {i : Nat} {d : Dev} : KeepsView d (raiseIf c f i d) :=
  .same (by rw [raiseIf_fs])

theorem keepsView_countN {c : CName} {k n : Nat} {d : Dev} : KeepsView d (countN c k n d) := .same (by rw [countN_fs])

theorem keepsView_count {c : CName} {k : Nat} {d : Dev} : KeepsView d (count c k d) := keepsView_countN

theorem keepsView_setPd {n v : Nat} {d : Dev} : KeepsView d (setPd n v d) := .same (by rw [setPd_fs])

/-! ## The Firescreen's own operations -/

theorem keepsView_forceLow {n : Nat} {d : Dev} : KeepsView d (forceLow n d) := by
  refine ⟨fun m => ?_, fun m low => low_forceLow low⟩
  by_cases e : m = n
  · rw [e, fsChan_forceLow_same, darkened]
    split <;> rfl
  · rw [fsChan_forceLow_ne e]

theorem keepsView_cutBurst {n : Nat} {d : Dev} : KeepsView d (cutBurst n d) := .same (by rw [cutBurst_fs])

/-- Holds that begin or end leave the thermal hold, and darken nothing at once. -/
theorem keepsView_setHolds {f : FsSt → FsSt} {d : Dev} (thermal : (f d.fs).thermal = d.fs.thermal)
    (chans : (f d.fs).chans = d.fs.chans) : KeepsView d (setHolds f d) := .same (by rw [setHolds_fs thermal, chans])

theorem keepsView_protHoldEnd {d : Dev} : KeepsView d (protHoldEnd d) := by
  simp only [protHoldEnd]
  exact .ite (keepsView_setHolds rfl rfl) .refl

/-- Frames counted anew: the view stands. -/
theorem keepsView_pathAnew {d : Dev} : KeepsView d (protPathAnew d) :=
  .foldl (f := fun d n => modFs n (fun c => { c with upFrames := 0 }) d)
    (fun _ _ => keepsView_modFs (fun _ => rfl) (fun _ low => low)) _ _

theorem keepsView_protHold {toggled : Bool} {d : Dev} : KeepsView d (protHold toggled d) := by
  have anew : KeepsView d (if toggled then protPathAnew d else d) := .ite keepsView_pathAnew .refl
  rw [protHold]
  refine .after (keepsView_setHolds ?_ ?_) anew
  all_goals rfl

theorem keepsView_releaseCommit {d : Dev} : KeepsView d (releaseCommit d) := by
  have released : ∀ killed : Nat → Bool,
      KeepsView d ((presentChans d).foldl (fun x n => modFs n (releaseChan d.now (killed n)) x) d) := fun _ =>
    .foldl (f := fun x n => modFs n (releaseChan d.now _) x)
      (fun _ _ => keepsView_modFs (fun _ => rfl) (fun _ low => low)) _ _
  rw [releaseCommit]
  exact .ite .refl (keepsView_raise.after (.after (keepsView_pastChans rfl) (released _)))

theorem keepsView_secretaryRelieves {d : Dev} : KeepsView d (secretaryRelieves d) := by
  simp only [secretaryRelieves, fsReleaseWrite]
  exact .ite (.ite (keepsView_releaseCommit.after (keepsView_pastChans rfl)) keepsView_count) .refl

/-! ## Consent, record and activation (R129, R130, R150 to R152) -/

theorem keepsView_pwResult {o : PowerOrigin} {r c : Nat} {d : Dev} : KeepsView d (pwResult o r c d) := by
  match o with
  | .host | .entry .l | .entry .s | .entry .h | .controller => exact keepsView_pieces

theorem keepsView_releaseUnits {d : Dev} : KeepsView d (releaseUnits d) := by
  simp only [releaseUnits]
  exact .ite .refl (.after (.foldl (fun _ _ => .ite keepsView_pieces .refl) _ _) keepsView_pieces)

theorem keepsView_powerHoldEnd {d : Dev} : KeepsView d (powerHoldEnd d) := by
  simp only [powerHoldEnd]
  exact .ite (keepsView_raise.after (keepsView_pastChans rfl)) .refl

theorem keepsView_cancelChange {d : Dev} : KeepsView d (cancelChange d) := by
  simp only [cancelChange]
  split
  · exact .ite (keepsView_powerHoldEnd.after (keepsView_releaseUnits.after (keepsView_count.after
      (keepsView_pwResult.after keepsView_pieces)))) .refl
  · exact .refl

theorem keepsView_waitingGone {d : Dev} : KeepsView d (waitingGone d) := by
  simp only [waitingGone]
  split
  · exact .ite (keepsView_count.after (keepsView_pwResult.after keepsView_pieces)) .refl
  · exact .refl

theorem keepsView_consentGone {d : Dev} : KeepsView d (consentGone d) := by
  simp only [consentGone]
  split
  · exact keepsView_waitingGone.after (.ite keepsView_cancelChange .refl)
  · exact keepsView_waitingGone

theorem keepsView_endConsent {d : Dev} : KeepsView d (endConsent d) := keepsView_consentGone.after keepsView_pieces

theorem keepsView_abandonGrants {p : Grant → Bool} {d : Dev} : KeepsView d (abandonGrants p d) :=
  .of_only (frame_abandonGrants p d).1 (by decide)

theorem keepsView_drainDown {k : Nat} {d : Dev} : KeepsView d (drainDown k d) := .of_only (frame_drainDown k d).1 (by decide)

/-- What a deactivation erases of the Firescreen is not its channels. -/
theorem keepsView_eraseHeld {d : Dev} : KeepsView d (eraseHeld d) := .same rfl

theorem keepsView_clearRecord {d : Dev} : KeepsView d (clearRecord d) := by
  rw [clearRecord_eq]
  refine .after (.of_only (frame_dropUpstream _).1 (by decide)) (keepsView_endConsent.after (.after keepsView_eraseHeld ?_))
  exact keepsView_setReg.after (.after keepsView_pieces (.of_only (frame_eraseNumber d).1 (by decide)))

theorem keepsView_setState {n : Nat} {d : Dev} : KeepsView d (setState n d) := by
  simp only [setState]
  exact .ite .refl (keepsView_raise.after (keepsView_setFld.after (.ite keepsView_endConsent .refl)))

theorem keepsView_settleState {d : Dev} : KeepsView d (settleState d) := by
  simp only [settleState]
  exact .ite keepsView_setState (.ite (keepsView_setState.after keepsView_abandonGrants) .refl)

theorem keepsView_actOnUp {d : Dev} : KeepsView d (actOnUp d) := by
  simp only [actOnUp]
  refine .ite .refl (.ite (.ite (keepsView_raise.after keepsView_setState)
    (keepsView_settleState.after keepsView_setState)) (.ite (.ite ?_ ?_) .refl))
  · exact keepsView_setState.after keepsView_pieces
  · exact .after keepsView_pieces (keepsView_setState.after keepsView_pieces)

theorem keepsView_actOnDown {d : Dev} : KeepsView d (actOnDown d) := by
  simp only [actOnDown]
  exact .ite .refl (.ite (keepsView_clearRecord.after (keepsView_setState.after keepsView_pieces))
    (.ite (keepsView_setState.after keepsView_pieces) .refl))

theorem keepsView_leaveStop {d : Dev} : KeepsView d (leaveStop d) := by
  simp only [leaveStop]
  exact .ite (keepsView_settleState.after (.after (.ite .refl keepsView_actOnDown)
    (keepsView_clearRecord.after (keepsView_setState.after keepsView_pieces)))) .refl

theorem keepsView_secretaryRelease {d : Dev} : KeepsView d (secretaryRelease d) := by
  simp only [secretaryRelease]
  exact .ite (keepsView_leaveStop.after keepsView_pieces) .refl

theorem keepsView_resumeActivation {d : Dev} : KeepsView d (resumeActivation d) := by
  simp only [resumeActivation]
  exact .ite (.after keepsView_pieces keepsView_setState) keepsView_endConsent

/-! ## Channels, protection and lanes (R36, R66, R70 to R76, R228) -/

theorem keepsView_ltEval {d : Dev} : KeepsView d (ltEval d) := .of_only (frame_ltEval d).1 (by decide)

theorem keepsView_chanFall {ch : Nat} {d : Dev} : KeepsView d (chanFall ch d) :=
  keepsView_ltEval.after (keepsView_actOnDown.after (keepsView_abandonGrants.after (keepsView_raise.after keepsView_pieces)))

theorem keepsView_chanEval {ch : Nat} {d : Dev} : KeepsView d (chanEval ch d) := by
  simp only [chanEval]
  exact .ite .refl (.ite (keepsView_actOnUp.after keepsView_pieces) keepsView_chanFall)

theorem keepsView_protNormal {d : Dev} : KeepsView d (protNormal d) := keepsView_protHoldEnd.after keepsView_pieces

theorem keepsView_protEval {d : Dev} : KeepsView d (protEval d) := by
  have holdoff : ∀ f, KeepsView d (protHold false (modProt f d)) := fun _ => keepsView_protHold.after keepsView_pieces
  simp only [protEval]
  refine .ite .refl ?_
  split
  · exact .ite (.ite keepsView_protNormal .refl) (.ite (holdoff _) .refl)
  · exact .ite .refl keepsView_protNormal
  · exact .ite keepsView_protNormal .refl
  · exact .ite keepsView_protNormal (.ite (holdoff _) .refl)
  · exact .refl

theorem keepsView_chanRehunt {ch : Nat} {d : Dev} : KeepsView d (chanRehunt ch d) :=
  keepsView_chanEval.after (keepsView_raiseIf.after (keepsView_raiseIf.after keepsView_pieces))

theorem keepsView_toggle {cause : Option (BitVec 2)} {st : ProtState} {d : Dev} : KeepsView d (toggle cause st d) := by
  simp only [toggle]
  refine .after (.of_only (only_releaseFlows _) (by decide)) (.after keepsView_pieces (.after (.foldl (fun _ _ => ?_) _ _) ?_))
  · exact keepsView_chanRehunt
  · exact keepsView_protHold.after (keepsView_emit.after (keepsView_count.after keepsView_pieces))

theorem keepsView_laneLos {ch : Nat} {laneB : Bool} {d : Dev} : KeepsView d (laneLos ch laneB d) := by
  simp only [laneLos]
  exact .ite .refl (keepsView_chanEval.after (keepsView_raise.after (keepsView_raiseIf.after keepsView_pieces)))

theorem keepsView_laneNoSignal {ch : Nat} {laneB : Bool} {d : Dev} : KeepsView d (laneNoSignal ch laneB d) :=
  keepsView_laneLos.after keepsView_pieces

theorem keepsView_setLaneState {k st : Nat} {f : SerialLane → SerialLane} {d : Dev} :
    KeepsView d (setLaneState k st f d) := by
  have moved : ∀ f, KeepsView d (modSerial k f d) := fun _ => keepsView_pieces
  simp only [setLaneState]
  refine .ite (.ite ?_ (.ite ?_ (moved _))) (.ite (keepsView_raise.after (moved _)) (moved _))
  · exact keepsView_raise.after (keepsView_count.after (moved _))
  · exact keepsView_protEval.after (keepsView_laneNoSignal.after (keepsView_count.after (moved _)))

theorem keepsView_laneRefresh {k : Nat} {d : Dev} : KeepsView d (laneRefresh k d) := by
  simp only [laneRefresh]
  exact .ite .refl (.ite (.ite keepsView_setLaneState .refl) (.ite .refl keepsView_setLaneState))

theorem keepsView_lanesRefresh {d : Dev} : KeepsView d (lanesRefresh d) := .foldl (fun _ _ => keepsView_laneRefresh) _ _

theorem keepsView_laneRestart {k : Nat} {d : Dev} : KeepsView d (laneRestart k d) := by
  simp only [laneRestart]
  exact .ite .refl keepsView_setLaneState

/-! ## Domains that leave Run and return (R361, R376, R418, R471, R529, R550) -/

theorem keepsView_spliceAll {d : Dev} : KeepsView d (spliceAll d) :=
  .foldl (fun _ _ => keepsView_raise.after (keepsView_count.after keepsView_pieces)) _ _

theorem keepsView_clusterDomain {want : Nat → Nat} {d0 d : Dev} {c : Nat} : KeepsView d (clusterDomain want d0 d c) := by
  simp only [clusterDomain, holdCluster]
  refine .ite (.after keepsView_pieces ?_) (.ite keepsView_pieces .refl)
  exact .of_only (keepsClusters_dropRunning (c := c)).frame.1 (by decide)

theorem keepsView_levelCheck {n : Nat} {d : Dev} : KeepsView d (levelCheck n d) := .of_only (only_levelCheck n d) (by decide)

theorem keepsView_flushDrawer {n : Nat} {d : Dev} : KeepsView d (flushDrawer n d) := by
  simp only [flushDrawer]
  refine keepsView_levelCheck.after (keepsView_countN.after (keepsView_count.after (.after keepsView_pieces ?_)))
  exact .ite keepsView_pieces (.ite keepsView_pieces .refl)

theorem keepsView_hostResetDrawer {d0 d : Dev} {n : Nat} : KeepsView d (hostResetDrawer d0 d n) :=
  .after keepsView_pieces (.ite keepsView_flushDrawer .refl)

theorem keepsView_resetReg {r : Reg} {d : Dev} : KeepsView d (resetReg r d) := keepsView_pieces

theorem keepsView_ringStop {n : Nat} {d : Dev} : KeepsView d (ringStop n d) := keepsView_pieces

theorem keepsView_dropHostFrames {d : Dev} : KeepsView d (dropHostFrames d) :=
  keepsView_countN.after keepsView_pieces

theorem keepsView_resetRegs {rs : List Reg} {d : Dev} : KeepsView d (resetRegs rs d) := .foldl (fun _ _ => keepsView_resetReg) _ _

theorem keepsView_modPath {p : Path} {f : PathSt → PathSt} {d : Dev} : KeepsView d (modPath p f d) := by
  match p with
  | .h | .l | .s => exact keepsView_pieces

theorem keepsView_hostPathReset {d : Dev} : KeepsView d (hostPathReset d) := by
  have owed : ∀ {e : Dev}, KeepsView d e → KeepsView d (
      let e := { e with dic := { e.dic with l := { e.dic.l with owed := none } } }
      if fld e fMB_STATUS_STATE 0 = 1 then setFld fMB_STATUS_STATE 0 0 e else e) := fun h =>
    .ite (keepsView_setFld.after (.after keepsView_pieces h)) (.after keepsView_pieces h)
  simp only [hostPathReset]
  refine owed ?_
  split
  · exact .refl
  · exact keepsView_modPath
  · exact .ite keepsView_modPath (.ite keepsView_modPath (keepsView_raise.after keepsView_modPath))

theorem keepsView_hostReset {lost : Bool} {d : Dev} : KeepsView d (hostReset lost d) := by
  simp only [hostReset]
  refine keepsView_hostPathReset.after (keepsView_count.after (keepsView_raise.after (.after keepsView_pieces ?_)))
  refine keepsView_resetRegs.after (keepsView_resetReg.after (keepsView_ringStop.after (keepsView_ringStop.after ?_)))
  exact .after (.foldl (fun _ _ => keepsView_hostResetDrawer) _ _) keepsView_dropHostFrames

theorem keepsView_zeroCounters {gone : Nat → Bool} {d : Dev} : KeepsView d (zeroCounters gone d) :=
  .after (.foldl (fun _ _ => .ite (keepsView_raise.after keepsView_setReg) .refl) _ _) keepsView_pieces

theorem keepsView_coldDomains {want : Nat → Nat} {d0 d : Dev} : KeepsView d (coldDomains want d0 d) := by
  simp only [coldDomains]
  exact .after keepsView_pieces (.after (.ite keepsView_pieces .refl) (.after (.ite .refl keepsView_zeroCounters)
    (.ite .refl keepsView_pieces)))

theorem keepsView_darkLine {d : Dev} : KeepsView d (darkLine d) :=
  .after keepsView_pieces (keepsView_abandonGrants.after
    (.foldl (fun _ _ => keepsView_cutBurst.after keepsView_forceLow) _ _))

theorem keepsView_ltStop {d : Dev} : KeepsView d (ltStop d) :=
  .after keepsView_pieces (.after (.ite keepsView_emit .refl) keepsView_pieces)

theorem keepsView_holdChanged {d0 d : Dev} : KeepsView d (holdChanged d0 d) := .foldl (fun _ _ => keepsView_pieces) _ _

/-! ## Settings that waited for their domain (R79, R521) -/

theorem keepsView_sendPause {n : Nat} {off : Bool} {d : Dev} : KeepsView d (sendPause n off d) := by
  have sent : ∀ {e : Dev} {bs : List Byte}, KeepsView e (count .pauseSent n (sendFrame n bs e)) :=
    keepsView_count.after (keepsView_emit.after (keepsView_countN.after keepsView_count))
  simp only [sendPause]
  exact .ite (.ite (keepsView_raise.after (sent.after keepsView_pieces)) (sent.after keepsView_pieces)) keepsView_pieces

theorem keepsView_flowEval {n : Nat} {d : Dev} : KeepsView d (flowEval n d) := by
  simp only [flowEval]
  exact .ite keepsView_pieces (.ite (.ite keepsView_sendPause .refl) (.ite keepsView_sendPause .refl))

theorem keepsView_setFlds {fs : List Fld} {n v : Nat} {d : Dev} :
    KeepsView d (fs.foldl (fun d f => setFld f n v d) d) := .foldl (fun _ _ => keepsView_setFld) _ _

theorem keepsView_loadPort {e : EntryDef} {n v : Nat} {d : Dev} : KeepsView d (loadPort e n v d) := by
  simp only [loadPort]
  exact .ite (keepsView_laneRefresh.after keepsView_setFlds) (.ite (.ite keepsView_setFlds
    (keepsView_laneRestart.after keepsView_setFlds)) (.ite (keepsView_flowEval.after keepsView_setFlds) keepsView_setFlds))

theorem keepsView_setNodeShape {n s q : Nat} {d : Dev} : KeepsView d (setNodeShape n s q d) := by
  simp only [setNodeShape]
  exact .ite .refl (.after (.foldl (fun _ _ => keepsView_pieces) _ _) keepsView_pieces)

theorem keepsView_loadNode {n sub v : Nat} {d : Dev} : KeepsView d (loadNode n sub v d) := by
  simp only [loadNode]
  exact .ite keepsView_setNodeShape (.ite keepsView_setNodeShape (.ite keepsView_pieces keepsView_pieces))

theorem keepsView_writeGroup {i ports : Nat} {line host : Bool} {d : Dev} :
    KeepsView d (writeGroup i ports line host d).2 := by
  simp only [writeGroup]
  split
  · exact keepsView_pieces
  · exact .refl

theorem keepsView_loadGroup {i sub v : Nat} {bs : List Byte} {d : Dev} : KeepsView d (loadGroup i sub v bs d) := by
  simp only [loadGroup]
  split
  · exact keepsView_writeGroup
  · split
    · exact keepsView_writeGroup
    · exact keepsView_writeGroup

theorem keepsView_loadCabinet {sub : Nat} {bs : List Byte} {d : Dev} : KeepsView d (loadCabinet sub bs d) := by
  simp only [loadCabinet]
  exact .ite (keepsView_setFld.after keepsView_setFld) (.ite (.foldl (fun _ _ => keepsView_setFld) _ _)
    (keepsView_setFld.after keepsView_setFld))

theorem keepsView_protSettings {f : Dev → Dev} {cause : BitVec 2} {d : Dev} (h : KeepsView d (f d)) :
    KeepsView d (protSettings f cause d) := by
  simp only [protSettings, protEnableChanged]
  exact keepsView_protEval.after (.after (.ite (.ite keepsView_toggle .refl) .refl) h)

theorem keepsView_ltSettings {f : Dev → Dev} {d : Dev} (h : ∀ d, KeepsView d (f d)) : KeepsView d (ltSettings f d) := by
  have cancelled : ∀ {e : Dev}, KeepsView e (cancelSet e) :=
    .ite (keepsView_raise.after (keepsView_count.after keepsView_pieces)) .refl
  have settled : KeepsView d (ltEval (cancelSet (f (ltRebase d)))) :=
    keepsView_ltEval.after (cancelled.after ((h _).after keepsView_pieces))
  simp only [ltSettings]
  exact .ite (.after (.ite (keepsView_emit.after keepsView_pieces) .refl) settled) settled

theorem keepsView_trSettings {f : Dev → Dev} {d : Dev} (h : KeepsView d (f d)) : KeepsView d (trSettings f d) := by
  simp only [trSettings]
  exact .ite h (.after keepsView_pieces (.ite (.after (.foldl (fun _ _ => keepsView_setFld) _ _) h) h))

theorem keepsView_tbSettings {k : Nat} {f : Dev → Dev} {d : Dev} (h : KeepsView d (f d)) :
    KeepsView d (tbSettings k f d) := by
  simp only [tbSettings, tribFresh]
  exact .ite h (keepsView_setReg.after (.after keepsView_pieces h))

theorem keepsView_loadEntry {cause : BitVec 2} {e : EntryDef} {index sub dom : Nat} {d : Dev} :
    KeepsView d (loadEntry cause e index sub dom d) := by
  simp only [loadEntry]
  refine .ite (keepsView_protSettings keepsView_setFlds) (.ite keepsView_setFlds (.ite keepsView_loadPort ?_))
  refine .ite keepsView_loadNode (.ite keepsView_loadNode (.ite keepsView_pieces (.ite keepsView_pieces ?_)))
  refine .ite keepsView_loadGroup ?_
  refine .ite keepsView_pieces (.ite (keepsView_ltSettings fun _ => keepsView_setFlds) ?_)
  refine .ite (keepsView_trSettings keepsView_setFlds) (.ite keepsView_setFld ?_)
  refine .ite (keepsView_tbSettings keepsView_setFlds) (.ite keepsView_loadCabinet ?_)
  exact .ite (keepsView_pastChans rfl) keepsView_setFlds

theorem keepsView_loadDeferred {d : Dev} : KeepsView d (loadDeferred d) := by
  simp only [loadDeferred]
  refine .ite .refl (.after (.foldl (fun d x => ?_) _ _) keepsView_pieces)
  split
  · exact keepsView_loadEntry
  · exact .refl

theorem keepsView_applyDomains {want : Nat → Nat} {d : Dev} : KeepsView d (applyDomains want d) := by
  simp only [applyDomains]
  refine keepsView_loadDeferred.after (.after (.ite keepsView_lanesRefresh (.foldl (fun _ _ => keepsView_laneRefresh) _ _)) ?_)
  refine keepsView_holdChanged.after (.after (.ite (keepsView_secretaryRelieves.after keepsView_secretaryRelease) .refl) ?_)
  refine .after (.ite (keepsView_ltStop.after keepsView_darkLine) (.ite keepsView_pieces .refl)) ?_
  refine keepsView_coldDomains.after (.after (.ite keepsView_hostReset .refl) ?_)
  refine .after (.foldl (fun _ _ => keepsView_clusterDomain) _ _) (.after (.ite keepsView_spliceAll .refl) ?_)
  exact .after (.foldl (fun _ _ => keepsView_setPd) _ _) keepsView_pieces

/-! ## Requests, wakes and the completion of a change (R554 to R556, R563, R567) -/

theorem keepsView_replayDone {p : Pkt} {d : Dev} : KeepsView d (replayDone p d) := by
  simp only [replayDone]
  split
  · split
    · exact .ite keepsView_pieces .refl
    · exact .refl
  · exact .refl

theorem keepsView_dropInFlight {d : Dev} : KeepsView d (dropInFlight d) := by
  simp only [dropInFlight]
  refine keepsView_countN.after (.after keepsView_pieces (.after (.foldl (fun _ _ => keepsView_replayDone) _ _) ?_))
  exact .foldl (fun _ _ => keepsView_drainDown) _ _

theorem keepsView_holdBegin {c : PwChange} {d : Dev} : KeepsView d (holdBegin c d) := by
  have stopped : ∀ {r : PwReq} {e : Dev}, KeepsView e (stopUnits r e) := fun {_ _} =>
    .ite (keepsView_dropInFlight.after (keepsView_lanesRefresh.after keepsView_pieces))
      (keepsView_lanesRefresh.after keepsView_pieces)
  exact stopped.after (.after (keepsView_setHolds rfl rfl) keepsView_pieces)

theorem keepsView_setChange {c : Option PwChange} {d : Dev} : KeepsView d (setChange c d) := keepsView_pieces

theorem keepsView_idleExit {d : Dev} : KeepsView d (idleExit d) := by
  simp only [idleExit]
  exact .ite keepsView_pieces .refl

theorem keepsView_beginChange {r : PwReq} {d : Dev} : KeepsView d (beginChange r d) := by
  have pending : ∀ o, KeepsView d (pwResult o 1 0
      { idleExit d with pwr := { (idleExit d).pwr with edge := none } }) := fun _ =>
    keepsView_pwResult.after (.after keepsView_pieces keepsView_idleExit)
  simp only [beginChange]
  exact .ite (keepsView_setChange.after (.after keepsView_pieces (pending _))) (keepsView_holdBegin.after (pending _))

theorem keepsView_takeSlot {r : PwReq} {d : Dev} : KeepsView d (takeSlot r d) := by
  simp only [takeSlot]
  exact .ite keepsView_pwResult (.ite (keepsView_pwResult.after keepsView_pieces) keepsView_beginChange)

theorem keepsView_startNext {d : Dev} : KeepsView d (startNext d) := by
  simp only [startNext]
  split
  · exact .ite .refl (keepsView_takeSlot.after keepsView_pieces)
  · exact .refl

theorem keepsView_setProfile {life mains : Bool} {d : Dev} : KeepsView d (setProfilePw life mains d) := by
  simp only [setProfilePw]
  exact .ite (keepsView_raise.after (keepsView_count.after keepsView_pieces))
    (.ite (keepsView_raise.after keepsView_pieces) keepsView_pieces)

theorem keepsView_finishWake {w : PwWake} {d : Dev} : KeepsView d (finishWake w d) := by
  have fault : ∀ {e : Dev}, KeepsView e (setFault false e) := .ite .refl (keepsView_emit.after keepsView_pieces)
  have fails : ∀ {e : Dev}, KeepsView e (countFails e) := .ite .refl keepsView_pieces
  have delivered : ∀ {e : Dev}, KeepsView e (deliverHeld e) := .after (.foldl (fun _ _ => keepsView_emit) _ _) keepsView_pieces
  simp only [finishWake]
  refine .after keepsView_pieces (keepsView_raise.after (keepsView_powerHoldEnd.after ?_))
  refine delivered.after (fails.after (fault.after (.after (.ite keepsView_resumeActivation keepsView_endConsent) ?_)))
  exact keepsView_applyDomains.after (keepsView_setProfile.after keepsView_pieces)

theorem keepsView_raiseNext {w : PwWake} {d : Dev} : KeepsView d (raiseNext w d) := by
  simp only [raiseNext]
  split
  · exact keepsView_emit.after keepsView_pieces
  · exact keepsView_emit.after keepsView_pieces

theorem keepsView_startWake {source : Nat} {d : Dev} : KeepsView d (startWake source d) := by
  have noted : KeepsView d (if source = 0 then d else count .pwWakes source (recordWake source false d)) :=
    .ite .refl (keepsView_count.after keepsView_setReg)
  simp only [startWake]
  refine .ite .refl (.ite ?_ (keepsView_raiseNext.after (.after keepsView_pieces noted)))
  exact keepsView_startNext.after (keepsView_finishWake.after (.after keepsView_pieces noted))

theorem keepsView_activationLost {d : Dev} : KeepsView d (activationLost d) := by
  simp only [activationLost]
  split
  · exact keepsView_count.after keepsView_pieces
  · exact .refl

theorem keepsView_restoreTimer {d : Dev} : KeepsView d (restoreTimer d) := keepsView_pieces

theorem keepsView_armTimer {c : PwChange} {d : Dev} : KeepsView d (armTimer c d) := keepsView_pieces

/-- An activation request as a completed change leaves it (R621). -/
def requestAfter (c : PwChange) (d : Dev) : Dev :=
  match d.img.request with
  | some q =>
    if 4 ≤ c.req.target then activationLost d
    else { d with img := { d.img with request := some { q with waits := false }, reqState := 1 } }
  | none => d

/-- The line timer armed for a lower state (R565). -/
def armedFor (c : PwChange) (d : Dev) : Dev := restoreTimer (if 3 ≤ c.req.target then armTimer c d else d)

/-- The wake that the levels or a latched edge begin once a change is complete (R566). -/
def wokenAfter (c : PwChange) (d : Dev) : Dev :=
  if 3 ≤ c.req.target ∧ d.pwr.wakeHigh then startWake 1 d
  else match d.pwr.edge with
    | some e => startWake e d
    | none => d

/-- The request that waited, started or waking the part first (R555). -/
def nextAfter (d : Dev) : Dev := if d.pwr.next.any (needsWake d) then startWake 0 d else startNext d

theorem completeChange_eq (c : PwChange) (d : Dev) : completeChange c d =
    nextAfter (wokenAfter c (armedFor c (requestAfter c (pwResult c.req.origin 0 0 (setChange none d))))) := rfl

theorem keepsView_requestAfter {c : PwChange} {d : Dev} : KeepsView d (requestAfter c d) := by
  simp only [requestAfter]
  split
  · exact .ite keepsView_activationLost keepsView_pieces
  · exact .refl

theorem keepsView_armedFor {c : PwChange} {d : Dev} : KeepsView d (armedFor c d) :=
  keepsView_restoreTimer.after (.ite keepsView_armTimer .refl)

theorem keepsView_wokenAfter {c : PwChange} {d : Dev} : KeepsView d (wokenAfter c d) := by
  rw [wokenAfter]
  refine .ite keepsView_startWake ?_
  split
  · exact keepsView_startWake
  · exact .refl

theorem keepsView_nextAfter {d : Dev} : KeepsView d (nextAfter d) := .ite keepsView_startWake keepsView_startNext

theorem keepsView_completeChange {c : PwChange} {d : Dev} : KeepsView d (completeChange c d) := by
  rw [completeChange_eq]
  exact keepsView_nextAfter.after (keepsView_wokenAfter.after (keepsView_armedFor.after (keepsView_requestAfter.after
    (keepsView_pwResult.after keepsView_setChange))))

/-- Whatever a change that completes lets begin, the view of every channel stands. -/
theorem keepsView_powerHoldTry {d : Dev} : KeepsView d (powerHoldTry d) := by
  simp only [powerHoldTry]
  split
  · exact .ite (keepsView_completeChange.after keepsView_powerHoldEnd) keepsView_powerHoldEnd
  · exact keepsView_powerHoldEnd

end Sys2Proof.Proofs
end

section
/-!
PROOF. The Firescreen's own view, its windows and the gate of BEN (R195, R197, R199, R201, R202, R203, R652): what a window comes to at
an opening and at an end, when a request passes, is refused or falls, and what a frame start of the tap leaves of its channel.
-/

namespace Sys2Proof.Proofs

open Sys2Proof Sys2Proof.Machine Sys2Proof.Laws

/-! ## Windows at an opening (R197, R199, R202) -/

/-- A window at an opening: one whose opening has come opens, stays dark under a hold, or is none where R199 is not met. -/
def openedAt (now : Time) (hold ready : Bool) (w : FsWindow) : Option FsWindow :=
  if w.mode ≠ .pending ∨ now < w.openAt then some w
  else if hold then some { w with mode := .dark }
  else if ready then some { w with mode := .opened }
  else none

theorem openDue_windows (n : Nat) (d : Dev) : (fsChan (openDue n d) n).windows =
    (fsChan d n).windows.filterMap (openedAt d.now (chanHold d n) (chanReady d n)) := by
  rw [openDue, fsChan_modFs_same]
  rfl

/-- A window that is not pending stands. -/
theorem openedAt_of_past {now : Time} {hold ready : Bool} {w : FsWindow} (h : w.mode ≠ .pending) :
    openedAt now hold ready w = some w := if_pos (.inl h)

/-- A due window opens, or is dark where a hold applies. -/
theorem openedAt_of_due {now : Time} {hold ready : Bool} {w : FsWindow} (pending : w.mode = .pending) (due : w.openAt ≤ now)
    (opens : hold = true ∨ ready = true) :
    openedAt now hold ready w = some { w with mode := if hold then .dark else .opened } := by
  rw [openedAt, if_neg (by simp [pending, due])]
  cases hold with
  | true => rfl
  | false => rw [opens.resolve_left Bool.false_ne_true]; rfl

/-- Without a hold and without R199 a due window is none. -/
theorem openedAt_unready (now : Time) :
    openedAt now false false = Option.guard (fun w => decide (w.mode ≠ .pending ∨ now < w.openAt)) := by
  funext w
  by_cases h : w.mode ≠ .pending ∨ now < w.openAt
  · rw [openedAt, if_pos h, Option.guard, if_pos (decide_eq_true h)]
  · rw [openedAt, if_neg h, Option.guard, decide_eq_false h]
    rfl

/-- Without a hold no window goes dark at an opening. -/
theorem mode_of_openedAt_unheld {now : Time} {ready : Bool} {w x : FsWindow} (h : openedAt now false ready w = some x) :
    x = w ∨ x.mode = .opened := by
  rw [openedAt] at h
  split at h
  · exact .inl (Option.some.inj h).symm
  · rw [if_neg Bool.false_ne_true] at h
    split at h
    · exact .inr (Option.some.inj h ▸ rfl)
    · exact absurd h (by simp)

theorem fsWindowOpen_opens (t : Time) (ch : Fin 16) (w : FsWindow) : RunsAt (.fsWindowOpen t ch) t
    (fun a => (fsChan a ch).windows.contains w = true ∧ w.mode = .pending ∧ w.openAt ≤ a.now ∧
      (chanHold a ch = true ∨ chanReady a ch = true))
    (fun a d => (fsChan d ch).windows.contains { w with mode := if chanHold a ch then .dark else .opened } = true) := by
  refine runsAt_of (exec_fsWindowOpen t ch) fun a ⟨held, pending, due, opens⟩ => ?_
  rw [List.contains_iff_mem] at held ⊢
  rw [openDue_windows, List.mem_filterMap]
  exact ⟨w, held, openedAt_of_due pending due opens⟩

theorem fsWindowOpen_drops (t : Time) (ch : Fin 16) : RunsAt (.fsWindowOpen t ch) t
    (fun a => chanHold a ch = false ∧ chanReady a ch = false)
    (fun a d => (fsChan d ch).windows =
      (fsChan a ch).windows.filter (fun w => decide (w.mode ≠ .pending ∨ a.now < w.openAt))) := by
  refine runsAt_of (exec_fsWindowOpen t ch) fun a ⟨unheld, unready⟩ => ?_
  rw [openDue_windows, unheld, unready, openedAt_unready, List.filterMap_eq_filter]

/-! ## Windows at an end (R201, R203, R204) -/

/-- Windows whose end has come closed, and BEN low where none is left open over the instant. -/
def closedGate (n : Nat) (d : Dev) : Dev :=
  let d := modFs n (fun c => { c with windows := c.windows.filterMap (windowPast d.now) }) d
  if windowOver d n d.now .opened then d else forceLow n d

/-- A burst was passed through a window whose end has come. -/
def burstPassed (n : Nat) (d : Dev) : Bool :=
  (fsChan d n).passed && (fsChan d n).windows.any (fun w => w.mode == .opened && decide (w.closeAt ≤ d.now))

/-- The light of a passed burst looked at: dark bursts are counted, and the eighth in a row trips (R204). -/
def burstCounted (n : Nat) (lit : Bool) (d : Dev) : Dev :=
  let d := modFs n (fun c => { c with passed := c.ben }) d
  if lit then modFs n (fun c => { c with darkRun := 0 }) d
  else
    let d := raise fFS_EVENT_LMON_DARK 0 (modFs n (fun c => { c with darkRun := c.darkRun + 1 }) d)
    if (fsChan d n).darkRun < 8 then d else trip n 1 6 (modFs n (fun c => { c with darkRun := 0 }) d)

theorem closeDue_eq (n : Nat) (lit : Bool) (d : Dev) :
    closeDue n lit d = if ¬ burstPassed n d then closedGate n d else burstCounted n lit (closedGate n d) := rfl

theorem trip_windows (n stage cause m : Nat) (d : Dev) :
    (fsChan (trip n stage cause d) m).windows = (fsChan d m).windows := by
  have past := congrArg FsChan.windows (pastTrip_trip n stage cause m d)
  exact past

theorem burstCounted_windows (n : Nat) (lit : Bool) (d : Dev) :
    (fsChan (burstCounted n lit d) n).windows = (fsChan d n).windows := by
  simp only [burstCounted]
  split
  · simp only [fsChan_modFs_same]
  · split
    · simp only [fsChan_raise, fsChan_modFs_same]
    · simp only [trip_windows, fsChan_raise, fsChan_modFs_same]

theorem burstCounted_low {n : Nat} {lit : Bool} {d : Dev} (low : (fsChan d n).ben = false) :
    (fsChan (burstCounted n lit d) n).ben = false := by
  simp only [burstCounted]
  split
  · simpa only [fsChan_modFs_same] using low
  · split
    · simpa only [fsChan_raise, fsChan_modFs_same] using low
    · refine low_trip ?_
      simpa only [fsChan_raise, fsChan_modFs_same] using low

theorem forceLow_windows (n : Nat) (d : Dev) : (fsChan (forceLow n d) n).windows = (fsChan d n).windows := by
  rw [fsChan_forceLow_same, darkened]
  split <;> rfl

theorem closedGate_windows (n : Nat) (d : Dev) :
    (fsChan (closedGate n d) n).windows = (fsChan d n).windows.filterMap (windowPast d.now) := by
  simp only [closedGate]
  split
  · rw [fsChan_modFs_same]
  · rw [forceLow_windows, fsChan_modFs_same]

/-- A window lies over an instant by the windows of its channel alone. -/
theorem windowOver_of_windows {a b : Dev} {n : Nat} (h : (fsChan b n).windows = (fsChan a n).windows) (t : Time)
    (m : WindowMode) : windowOver b n t m = windowOver a n t m := by rw [windowOver, h, windowOver]

theorem closedGate_low {n : Nat} {d : Dev} (none_ : windowOver (closedGate n d) n d.now .opened = false) :
    (fsChan (closedGate n d) n).ben = false := by
  have same : windowOver (closedGate n d) n d.now .opened =
      windowOver (modFs n (fun c => { c with windows := c.windows.filterMap (windowPast d.now) }) d) n d.now .opened :=
    windowOver_of_windows (by rw [closedGate_windows, fsChan_modFs_same]) _ _
  rw [same] at none_
  simp only [closedGate, modFs_now, none_, Bool.false_eq_true, if_false]
  rw [fsChan_forceLow_same, darkened_ben]

/-- What an end leaves of the windows, and that BEN is low where none of them is open. -/
theorem closeDue_closes (n : Nat) (lit : Bool) (d : Dev) :
    (fsChan (closeDue n lit d) n).windows = (fsChan d n).windows.filterMap (windowPast d.now) ∧
      (windowOver (closeDue n lit d) n d.now .opened = false → (fsChan (closeDue n lit d) n).ben = false) := by
  rw [closeDue_eq]
  split
  · exact ⟨closedGate_windows n d, closedGate_low⟩
  · have windows := burstCounted_windows n lit (closedGate n d)
    refine ⟨by rw [windows, closedGate_windows], fun none_ => burstCounted_low (closedGate_low ?_)⟩
    rwa [windowOver_of_windows windows] at none_

theorem fsWindowClose_closes (t : Time) (ch : Fin 16) (l : Bool) : RunsAt (.fsWindowClose t ch l) t
    (fun _ => True)
    (fun a d => (fsChan d ch).windows = (fsChan a ch).windows.filterMap (windowPast a.now) ∧
      (windowOver d ch a.now .opened = false → (fsChan d ch).ben = false)) := by
  refine runsAt_of (exec_fsWindowClose t ch l) fun a _ => ?_
  have driven : windowOver (fsDrive (closeDue ch l) a) ch a.now .opened = windowOver (closeDue ch l a) ch a.now .opened :=
    windowOver_of_windows (by rw [fsChan_fsDrive]) _ _
  rw [driven, fsChan_fsDrive]
  exact closeDue_closes ch l a

/-! ## The gate of BEN (R201) -/

/-- An enable asked for: the windows that are due are opened with it. -/
def enableAsked (n : Nat) (d : Dev) : Dev := openDue n (modFs n (fun c => { c with request := true }) d)

theorem enableAsked_fs (n : Nat) (d : Dev) : (enableAsked n d).fs = { d.fs with chans := (enableAsked n d).fs.chans } := rfl

/-- It opens windows of its channel and leaves the rest of it. -/
theorem fsChan_enableAsked (n : Nat) (d : Dev) : fsChan (enableAsked n d) n =
    { fsChan d n with
      request := true
      windows := (fsChan d n).windows.filterMap (openedAt d.now (chanHold d n) (chanReady d n)) } := by
  have hold : chanHold (modFs n (fun c => { c with request := true }) d) n = chanHold d n := by
    simp only [chanHold, fsChan_modFs_same]
    rfl
  have ready : chanReady (modFs n (fun c => { c with request := true }) d) n = chanReady d n := by
    simp only [chanReady, fsChan_modFs_same]
    rfl
  have windows := openDue_windows n (modFs n (fun c => { c with request := true }) d)
  rw [hold, ready] at windows
  rw [enableAsked, fsChan_openDue, windows, fsChan_modFs_same]
  rfl

theorem chanHold_enableAsked (n : Nat) (d : Dev) : chanHold (enableAsked n d) n = chanHold d n := by
  simp only [chanHold, fsChan_enableAsked]
  rfl

/-- An open window is still open. -/
theorem windowOver_enableAsked {n : Nat} {t : Time} {d : Dev} (h : windowOver d n t .opened = true) :
    windowOver (enableAsked n d) n t .opened = true := by
  rw [windowOver, List.any_eq_true] at h ⊢
  obtain ⟨w, held, lies⟩ := h
  have mode : w.mode ≠ .pending := fun e => by simp [e] at lies
  rw [fsChan_enableAsked]
  exact ⟨w, List.mem_filterMap.2 ⟨w, held, openedAt_of_past mode⟩, lies⟩

/-- Without a hold none goes dark. -/
theorem darkOver_enableAsked {n : Nat} {t : Time} {d : Dev} (unheld : chanHold d n = false)
    (h : windowOver d n t .dark = false) : windowOver (enableAsked n d) n t .dark = false := by
  rw [windowOver, List.any_eq_false] at h ⊢
  intro x hx
  rw [fsChan_enableAsked, unheld] at hx
  obtain ⟨w, held, opened⟩ := List.mem_filterMap.1 hx
  rcases mode_of_openedAt_unheld opened with e | e
  · rw [e]
    exact h w held
  · simp [e]

/-- An enable that neither a hold nor a dark window withholds. -/
theorem benAsk_of_unheld {t : Time} {n : Nat} {d : Dev} (present : chanPresent d n = true) (driven : d.fs.undriven = false)
    (low : (fsChan d n).ben = false) (unheld : chanHold d n = false) (clear : windowOver d n t .dark = false) :
    benAsk t n true d =
      if ¬ windowOver (enableAsked n d) n t .opened then refusedEnable n (enableAsked n d)
      else if 0 < (fsChan (enableAsked n d) n).stage ∨ (enableAsked n d).fs.stopped ∨ (enableAsked n d).fs.failDark then
        enableAsked n d
      else emit (.ben n true t) (modFs n (fun c => { c with ben := true, passed := true }) (enableAsked n d)) := by
  have stays : (fsChan (enableAsked n d) n).ben = false := by rw [fsChan_enableAsked, low]
  rw [benAsk, if_neg (by simp [present, driven]), if_neg (by simp), ← enableAsked]
  exact if_neg (by simp [stays, chanHold_enableAsked, unheld, darkOver_enableAsked unheld clear])

theorem benRequest_passes (t : Time) (ch : Fin 16) : RunsAt (.benRequest t ch true) t
    (fun a => chanPresent a ch = true ∧ a.fs.undriven = false ∧ a.fs.failDark = false ∧ (fsChan a ch).ben = false ∧
      chanHold a ch = false ∧ (fsChan a ch).stage = 0 ∧ a.fs.stopped = false ∧ windowOver a ch a.now .dark = false ∧
      windowOver a ch a.now .opened = true)
    (fun a d => (fsChan d ch).ben = true ∧ d.emitted.contains (.ben ch true a.now) = true) := by
  refine runsAt_of (exec_benRequest t ch true) fun a ⟨present, driven, well, low, unheld, untripped, goes, clear, lies⟩ => ?_
  have passes : benRequest ch true a =
      emit (.ben ch true a.now) (modFs ch (fun c => { c with ben := true, passed := true }) (enableAsked ch a)) := by
    rw [benRequest, benAsk_of_unheld present driven low unheld clear, if_neg (by simp [windowOver_enableAsked lies])]
    refine if_neg ?_
    rw [fsChan_enableAsked, enableAsked_fs]
    simp [untripped, goes, well]
  refine ⟨?_, List.contains_iff_mem.2 (fsDrive_emitted _ _ _ ?_)⟩
  · rw [fsChan_fsDrive, passes, fsChan_emit, fsChan_modFs_same]
  · rw [passes]
    exact List.mem_cons_self

/-! ### A refused enable -/

/-- A channel that is dark trips without a change of its outputs. -/
theorem trip_of_low {n stage cause : Nat} {d : Dev} (low : (fsChan d n).ben = false)
    (h : (fsChan (voidRelease n d) n).stage = 0) :
    trip n stage cause d = raise fFS_EVENT_TRIP 0 (latchTrip n stage cause (voidRelease n d)) := by
  obtain ⟨s, voided⟩ := fsChan_voidRelease n n d
  rw [trip_of_untripped h]
  refine forceLow_of_low ?_
  rw [fsChan_raise, fsChan_latchTrip, fsChan_modFs_same, voided, low]

theorem latchTrip_cnt (n stage cause : Nat) (d : Dev) : (latchTrip n stage cause d).cnt = d.cnt := rfl

theorem latchTrip_regs (n stage cause : Nat) (d : Dev) : (latchTrip n stage cause d).regs = d.regs := rfl

theorem releaseVoided_regs (r : FsRelease) (d : Dev) : (releaseVoided r d).regs = (eventBack r (stagesBack r d)).regs := rfl

theorem voidRelease_cnt (n : Nat) (d : Dev) : (voidRelease n d).cnt = d.cnt := by
  rcases voidRelease_cases n d with e | ⟨r, e, -⟩
  · rw [e]
  · obtain ⟨cs, k⟩ := modEach_eq (fun k c => { c with stage := agetD r.stages k c.stage }) (presentChans d) d
    rw [e, releaseVoided, eventBack, stagesBack, k]
    split <;> rfl

/-- A trip without an output to change counts at most the detection. -/
theorem counter_trip_of_low {n stage cause k : Nat} {c : CName} {d : Dev} (low : (fsChan d n).ben = false)
    (other : ckey c k ≠ ckey .fsDetections n) : counter (trip n stage cause d) c k = counter d c k := by
  have voided := counter_of_cnt (voidRelease_cnt n d) c k
  by_cases h : (fsChan (voidRelease n d) n).stage = 0
  · rw [trip_of_low low h, counter_raise, counter_of_cnt (latchTrip_cnt _ _ _ _), voided]
  · rw [trip_of_tripped (by omega), counter_count_ne _ _ _ _ _ other, voided]

/-- Of the Firescreen's events it changes RELEASED and TRIP alone. -/
theorem refused_trip_of_low {n stage cause : Nat} {d : Dev} (low : (fsChan d n).ben = false) :
    fld (trip n stage cause d) fFS_EVENT_REFUSED 0 = fld d fFS_EVENT_REFUSED 0 := by
  have voided : fld (voidRelease n d) fFS_EVENT_REFUSED 0 = fld d fFS_EVENT_REFUSED 0 := by
    rcases voidRelease_cases n d with e | ⟨r, e, -⟩
    · rw [e]
    · obtain ⟨cs, k⟩ := modEach_eq (fun k c => { c with stage := agetD r.stages k c.stage }) (presentChans d) d
      rw [e, fld_of_regs (releaseVoided_regs r d), eventBack, stagesBack, k]
      split
      · rfl
      · exact fld_setFld_apart fFS_EVENT_RELEASED fFS_EVENT_REFUSED 0 0 _ rfl (by decide) (by decide) (by decide) (by decide)
  by_cases h : (fsChan (voidRelease n d) n).stage = 0
  · rw [trip_of_low low h, fld_raise_apart fFS_EVENT_TRIP fFS_EVENT_REFUSED 0 _ rfl (by decide) (by decide) (by decide)
      (by decide), fld_of_regs (latchTrip_regs _ _ _ _), voided]
  · rw [trip_of_tripped (by omega), fld_count _ _ _ (by decide) (by decide), voided]

/-- A refused enable counted and flagged, and the frames with one in a row counted on. -/
def refusalNoted (n : Nat) (d : Dev) : Dev :=
  modFs n (fun c =>
    { c with refusedIn := c.frames,
             refusedRun := if c.refusedRun = 0 then 1 else if c.refusedIn = c.frames then c.refusedRun
               else if c.refusedIn + 1 = c.frames then c.refusedRun + 1 else 1 })
    (raise fFS_EVENT_REFUSED 0 (count .fsRefusedEnables n d))

/-- Too many frames in a row with a refused enable trip the channel. -/
theorem refusedEnable_eq (n : Nat) (d : Dev) : refusedEnable n d =
    if (fsChan (refusalNoted n d) n).refusedRun < (refusalNoted n d).fs.refuseLimit then refusalNoted n d
    else trip n 1 2 (modFs n (fun c => { c with refusedRun := 0 }) (refusalNoted n d)) := rfl

theorem refusalNoted_ben (n : Nat) (d : Dev) : (fsChan (refusalNoted n d) n).ben = (fsChan d n).ben := by
  rw [refusalNoted, fsChan_modFs_same, fsChan_raise, fsChan_count]

theorem refusalNoted_counter (n : Nat) (d : Dev) :
    counter (refusalNoted n d) .fsRefusedEnables n = counter d .fsRefusedEnables n + 1 := by
  rw [refusalNoted, counter_modFs, counter_raise, counter_count_same]

theorem refusalNoted_refused (n : Nat) (d : Dev) : fld (refusalNoted n d) fFS_EVENT_REFUSED 0 = 1 := by
  rw [refusalNoted, fld_modFs, fld_raise_same _ _ _ (by decide) (by decide)]

/-- A refused enable of a dark channel is counted and flagged, and BEN stays low (R201). -/
theorem refusedEnable_refuses {n : Nat} {d : Dev} (low : (fsChan d n).ben = false) (small : n < 65536) :
    (fsChan (refusedEnable n d) n).ben = false ∧
      counter (refusedEnable n d) .fsRefusedEnables n = counter d .fsRefusedEnables n + 1 ∧
      fld (refusedEnable n d) fFS_EVENT_REFUSED 0 = 1 := by
  have noted : (fsChan (refusalNoted n d) n).ben = false := by rw [refusalNoted_ben, low]
  have other : ckey .fsRefusedEnables n ≠ ckey .fsDetections n := ckey_ne_of_index_ne (by decide) small small
  rw [refusedEnable_eq]
  split
  · exact ⟨noted, refusalNoted_counter n d, refusalNoted_refused n d⟩
  · have dark : (fsChan (modFs n (fun c => { c with refusedRun := 0 }) (refusalNoted n d)) n).ben = false := by
      rw [fsChan_modFs_same, noted]
    refine ⟨low_trip dark, ?_, ?_⟩
    · rw [counter_trip_of_low dark other, counter_modFs, refusalNoted_counter]
    · rw [refused_trip_of_low dark, fld_modFs, refusalNoted_refused]

theorem benRequest_refused (t : Time) (ch : Fin 16) : RunsAt (.benRequest t ch true) t
    (fun a => chanPresent a ch = true ∧ a.fs.undriven = false ∧ (fsChan a ch).ben = false ∧ chanHold a ch = false ∧
      (fsChan a ch).windows = [])
    (fun a d => (fsChan d ch).ben = false ∧ counter d .fsRefusedEnables ch = counter a .fsRefusedEnables ch + 1 ∧
      fld d fFS_EVENT_REFUSED 0 = 1) := by
  refine runsAt_of (exec_benRequest t ch true) fun a ⟨present, driven, low, unheld, empty⟩ => ?_
  have none_ : ∀ m, windowOver a ch a.now m = false := fun m => by rw [windowOver, empty, List.any_nil]
  have closed : windowOver (enableAsked ch a) ch a.now .opened = false := by
    rw [windowOver, fsChan_enableAsked, empty, List.filterMap_nil, List.any_nil]
  have refused : benRequest ch true a = refusedEnable ch (enableAsked ch a) := by
    rw [benRequest, benAsk_of_unheld present driven low unheld (none_ _), if_pos (by simp [closed])]
  rw [fsChan_fsDrive, counter_fsDrive, fld_fsDrive, refused]
  exact refusedEnable_refuses (by rw [fsChan_enableAsked, low]) (by omega)

theorem benRequest_falls (t : Time) (ch : Fin 16) : RunsAt (.benRequest t ch false) t
    (fun a => chanPresent a ch = true ∧ a.fs.undriven = false)
    (fun _ d => (fsChan d ch).ben = false ∧ (fsChan d ch).request = false) := by
  refine runsAt_of (exec_benRequest t ch false) fun a ⟨present, driven⟩ => ?_
  rw [fsChan_fsDrive, benRequest, benAsk, if_neg (by simp [present, driven]), if_pos (by simp)]
  dsimp only
  split
  · rw [fsChan_emit, fsChan_modFs_same, fsChan_modFs_same]
    exact ⟨rfl, rfl⟩
  · rename_i low
    rw [fsChan_modFs_same] at low ⊢
    exact ⟨by simpa using low, rfl⟩

/-! ## The tap's timing (R195, R652) -/

/-- A timing hold that begins or goes on. -/
theorem timingHold_timing (n : Nat) (d : Dev) : (fsChan (timingHold n d) n).timing = true := by
  rw [timingHold]
  split
  · rw [fsChan_modFs_same]
    assumption
  · rw [fsChan_forceLow_same, fsChan_raise, fsChan_modFs_same, darkened]
    split <;> rfl

/-- Where it begins, the channel is dark at once. -/
theorem timingHold_dark {n : Nat} {d : Dev} (h : (fsChan d n).timing = false) : (fsChan (timingHold n d) n).ben = false := by
  rw [timingHold, if_neg (by simp [h]), fsChan_forceLow_same, darkened_ben]

/-- The own view looks at timing and gate, and leaves them. -/
theorem ownView_leaves (n : Nat) (laneA : Bool) (d : Dev) :
    (fsChan (ownView n laneA d) n).timing = (fsChan d n).timing ∧ (fsChan (ownView n laneA d) n).spaced = (fsChan d n).spaced ∧
      (fsChan (ownView n laneA d) n).ben = (fsChan d n).ben := by
  rw [ownView, fsChan_modFs_same]
  exact ⟨rfl, rfl, rfl⟩

/-- Under a timing hold a channel is down in it. -/
theorem ownView_down {n : Nat} {laneA : Bool} {d : Dev} (h : (fsChan d n).timing = true) :
    (fsChan (ownView n laneA d) n).up = false ∧ (fsChan (ownView n laneA d) n).upFrames = 0 := by
  rw [ownView, fsChan_modFs_same]
  simp [h]

theorem fsFrameTimeout_holds (ch : Fin 16) : Runs (.fsFrameTimeout ch)
    (fun a => chanPresent a ch = true)
    (fun _ d => (fsChan d ch).timing = true ∧ (fsChan d ch).up = false ∧ (fsChan d ch).upFrames = 0) := by
  refine runs_of (exec_fsFrameTimeout ch) fun a present => ?_
  have held := timingHold_timing ch a
  rw [fsChan_fsDrive, fsTimeout, if_pos present]
  exact ⟨by rw [(ownView_leaves _ _ _).1, held], ownView_down held⟩

/-! ## A frame start of the tap on lane A -/

/-- What a frame's alignment leaves of a channel: its timing hold, the frames within it and all seen, and BEN. -/
def tapped (c : FsChan) : Bool × Nat × Nat × Bool := (c.timing, c.spaced, c.frames, c.ben)

theorem tapped_aisSeen {p : Prop} [Decidable p] (n h : Nat) (d : Dev) :
    tapped (fsChan (if p then ownAis n h d else d) n) = tapped (fsChan d n) := by
  split
  · rw [ownAis, fsChan_modFs_same]
    rfl
  · rfl

/-- Settings taken over leave the view (R220). -/
theorem keepsView_settings {g r : Nat} {d : Dev} :
    KeepsView d { d with fs := { d.fs with guard := g, refuseLimit := r, nextCfg := none } } := keepsView_pastChans rfl

/-- Windows placed and dropped leave the view. -/
theorem keepsView_windows {n : Nat} {g : FsChan → List FsWindow} {d : Dev} :
    KeepsView d (modFs n (fun c => { c with windows := g c }) d) := keepsView_modFs (fun _ => rfl) fun _ low => low

theorem keepsView_fsEntry {ch : Nat} {fc : Word} {t0 : Time} {d : Dev} {e : Option (BitVec 64)} :
    KeepsView d (fsEntry ch fc t0 d e) := by
  cases e with
  | none => exact .refl
  | some w =>
    simp only [fsEntry]
    refine .ite .refl ?_
    split
    · exact .refl
    · exact .ite .refl (.ite .refl keepsView_windows)
    · refine .ite ?_ (.after (keepsView_pastChans rfl) ?_)
      all_goals exact .ite .refl (.ite .refl keepsView_windows)
    · exact .ite .refl (.ite .refl keepsView_windows)

/-- A lane A frame start counts its spacing on what the alignment left, looks at the own view, and keeps that from there. -/
theorem fsFrame_laneA {f : FsFrame} {d : Dev} (present : chanPresent d f.ch = true) (driven : d.fs.undriven = false)
    (lane : f.lane = .a) : ∃ e, tapped (fsChan e f.ch) = tapped (fsChan d f.ch) ∧
      KeepsView (ownView f.ch true (spacingStep f.ch f.spacing e)) (fsFrame f d) := by
  have laneB : (f.lane == .b) = false := by rw [lane]; rfl
  simp only [fsFrame, laneB, present, driven, Bool.false_eq_true, not_true_eq_false, or_self, if_false, Bool.not_false]
  apply Exists.intro
  refine ⟨?aligned, keepsView_protHoldEnd.after (.after (.ite (.foldl (fun _ _ => keepsView_fsEntry) _ _) .refl)
    ?settings)⟩
  case settings =>
    split
    · exact keepsView_settings
    · exact .refl
  case aligned =>
    split
    · rw [tapped_aisSeen, fsChan_modFs_same]
      rfl
    · rw [fsChan_modFs_same]
      rfl

/-- A spacing out of range begins a timing hold, which darkens the channel. -/
theorem spacingStep_outside {n spacing : Nat} {d : Dev} (later : (fsChan d n).frames ≠ 0) (timely : (fsChan d n).timing = false)
    (out : spacing < 6248 ∨ 6252 < spacing) : (fsChan (spacingStep n spacing d) n).timing = true ∧
      (fsChan (spacingStep n spacing d) n).ben = false := by
  rw [spacingStep, if_neg later, if_neg (by omega)]
  exact ⟨timingHold_timing n _, timingHold_dark (by rw [fsChan_modFs_same, timely])⟩

/-- A spacing in range under a timing hold is counted, and the eighth in a row ends it. -/
theorem spacingStep_within {n spacing : Nat} {d : Dev} (later : (fsChan d n).frames ≠ 0) (held : (fsChan d n).timing = true)
    (within : 6248 ≤ spacing ∧ spacing ≤ 6252) :
    (fsChan (spacingStep n spacing d) n).timing = decide ((fsChan d n).spaced < 7) ∧
      ((fsChan d n).spaced < 7 → (fsChan (spacingStep n spacing d) n).spaced = (fsChan d n).spaced + 1) := by
  rw [spacingStep, if_neg later, if_pos within, if_neg (by simp [held])]
  by_cases more : (fsChan d n).spaced < 7
  · rw [if_pos (by omega), fsChan_modFs_same, fsChan_modFs_same, decide_eq_true more]
    exact ⟨held, fun _ => rfl⟩
  · rw [if_neg (by omega), fsChan_raise, fsChan_modFs_same, decide_eq_false more]
    exact ⟨rfl, fun h => absurd h more⟩

theorem fsFrameStart_outside (f : FsFrame) : RunsAt (.fsFrameStart f) f.t
    (fun a => chanPresent a f.ch = true ∧ a.fs.undriven = false ∧ f.lane = .a ∧ (fsChan a f.ch).frames ≠ 0 ∧
      (fsChan a f.ch).timing = false ∧ (f.spacing < 6248 ∨ 6252 < f.spacing))
    (fun _ d => (fsChan d f.ch).timing = true ∧ (fsChan d f.ch).ben = false ∧ (fsChan d f.ch).up = false) := by
  refine runsAt_of (exec_fsFrameStart f) fun a ⟨present, driven, lane, later, timely, out⟩ => ?_
  obtain ⟨e, aligned, kept⟩ := fsFrame_laneA present driven lane
  simp only [tapped, Prod.mk.injEq] at aligned
  obtain ⟨timing, -, frames, -⟩ := aligned
  obtain ⟨held, dark⟩ := spacingStep_outside (n := f.ch) (spacing := f.spacing) (d := e) (by rw [frames]; exact later)
    (by rw [timing, timely]) out
  obtain ⟨sameTiming, -, sameBen⟩ := ownView_leaves f.ch true (spacingStep f.ch f.spacing e)
  obtain ⟨down, -⟩ := ownView_down (laneA := true) held
  have view := keepsView_powerHoldTry.after kept
  have own := view.timing f.ch
  simp only [ownTiming, Prod.mk.injEq, sameTiming, held, down] at own
  obtain ⟨timingHeld, -, up⟩ := own
  rw [fsChan_fsDrive]
  exact ⟨timingHeld, view.dark f.ch (sameBen.trans dark), up⟩

theorem fsFrameStart_within (f : FsFrame) : RunsAt (.fsFrameStart f) f.t
    (fun a => chanPresent a f.ch = true ∧ a.fs.undriven = false ∧ f.lane = .a ∧ (fsChan a f.ch).frames ≠ 0 ∧
      (fsChan a f.ch).timing = true ∧ 6248 ≤ f.spacing ∧ f.spacing ≤ 6252)
    (fun a d => (fsChan d f.ch).timing = decide ((fsChan a f.ch).spaced < 7) ∧
      ((fsChan a f.ch).spaced < 7 → (fsChan d f.ch).spaced = (fsChan a f.ch).spaced + 1)) := by
  refine runsAt_of (exec_fsFrameStart f) fun a ⟨present, driven, lane, later, held, within⟩ => ?_
  obtain ⟨e, aligned, kept⟩ := fsFrame_laneA present driven lane
  simp only [tapped, Prod.mk.injEq] at aligned
  obtain ⟨timing, spaced, frames, -⟩ := aligned
  have counted := spacingStep_within (n := f.ch) (spacing := f.spacing) (d := e) (by rw [frames]; exact later)
    (by rw [timing, held]) within
  obtain ⟨sameTiming, sameSpaced, -⟩ := ownView_leaves f.ch true (spacingStep f.ch f.spacing e)
  have own := (keepsView_powerHoldTry.after kept).timing f.ch
  simp only [ownTiming, Prod.mk.injEq, sameTiming, sameSpaced] at own
  obtain ⟨ownHeld, ownSpaced, -⟩ := own
  rw [fsChan_fsDrive, ownHeld, ownSpaced, ← spaced]
  exact counted

/-- Settles O17: a frame start out of range begins the timing hold and the eighth in range ends it, windows open and close at their
instants, and BEN follows its requests within them; what a frame lets complete of a power change leaves the own view. -/
theorem firescreenView : Obligations.FirescreenView :=
  ⟨fsFrameStart_outside, fsFrameStart_within, fsFrameTimeout_holds, fsWindowOpen_opens, fsWindowOpen_drops,
    fsWindowClose_closes, benRequest_passes, benRequest_refused, benRequest_falls⟩

end Sys2Proof.Proofs
end

section
/-!
PROOF. Bring-up of the serial lanes (R226 to R232, R251): what puts a lane into a state, and that what follows from it, a channel's
loss of its signal included, leaves every lane that is not Off.
-/

namespace Sys2Proof.Proofs

open Sys2Proof Sys2Proof.Machine Sys2Proof.Laws

/-! ## Lanes -/

@[simp] theorem serial_modSerial_same (k : Nat) (f : SerialLane → SerialLane) (d : Dev) :
    serial (modSerial k f d) k = f (serial d k) := agetD_aputD_same _ _ _ _

theorem serial_modSerial_ne {k x : Nat} (f : SerialLane → SerialLane) (d : Dev) (h : x ≠ k) :
    serial (modSerial k f d) x = serial d x := agetD_aputD_ne _ _ _ _ h

theorem serial_of_lanes {a b : Dev} (h : b.lanes = a.lanes) (k : Nat) : serial b k = serial a k := by rw [serial, h, serial]

/-! ## Lanes that are not Off stand (R228, R554)

The end of a channel may end a consent and with it a power change, whose stopped lanes come out of Off. -/

/-- From device a to device b every lane that is not Off stands. -/
def KeepsLanes (a b : Dev) : Prop := ∀ k, (serial a k).st ≠ 0 → serial b k = serial a k

theorem KeepsLanes.refl {d : Dev} : KeepsLanes d d := fun _ _ => rfl

theorem KeepsLanes.after {a b c : Dev} (k : KeepsLanes b c) (h : KeepsLanes a b) : KeepsLanes a c :=
  fun n on => (k n (by rw [h n on]; exact on)).trans (h n on)

theorem KeepsLanes.ite {a b c : Dev} {p : Prop} [Decidable p] (h : KeepsLanes a b) (k : KeepsLanes a c) :
    KeepsLanes a (if p then b else c) := by
  split
  · exact h
  · exact k

theorem KeepsLanes.same {a b : Dev} (h : b.lanes = a.lanes) : KeepsLanes a b := fun k _ => serial_of_lanes h k

theorem KeepsLanes.of_only {ps : List Piece} {a b : Dev} (h : Only ps a b) (hp : .lanes ∉ ps) : KeepsLanes a b :=
  .same (h .lanes hp)

theorem keepsLanes_raise {f : Fld} {i : Nat} {d : Dev} : KeepsLanes d (raise f i d) := .same (raise_lanes f i d)

theorem keepsLanes_count {c : CName} {k : Nat} {d : Dev} : KeepsLanes d (count c k d) := .same (count_lanes c k d)

theorem keepsLanes_pwResult {o : PowerOrigin} {r c : Nat} {d : Dev} : KeepsLanes d (pwResult o r c d) := by
  match o with
  | .host | .entry .l | .entry .s | .entry .h | .controller => exact .same rfl

theorem keepsLanes_powerHoldEnd {d : Dev} : KeepsLanes d (powerHoldEnd d) := by
  simp only [powerHoldEnd]
  exact .ite (keepsLanes_raise.after (.same rfl)) .refl

/-- Only lanes in Off come out of it. -/
theorem keepsLanes_releaseUnits {d : Dev} : KeepsLanes d (releaseUnits d) := by
  simp only [releaseUnits]
  refine .ite .refl (List.foldlRecOn (motive := KeepsLanes d) _ _ (.same rfl) fun e kept k _ => ?_)
  split
  · rename_i off
    refine .after (fun n on => serial_modSerial_ne _ e ?_) kept
    rintro rfl
    exact on off.1
  · exact kept

theorem keepsLanes_cancelChange {d : Dev} : KeepsLanes d (cancelChange d) := by
  simp only [cancelChange]
  split
  · exact .ite (keepsLanes_powerHoldEnd.after (keepsLanes_releaseUnits.after (keepsLanes_count.after
      (keepsLanes_pwResult.after (.same rfl))))) .refl
  · exact .refl

theorem keepsLanes_waitingGone {d : Dev} : KeepsLanes d (waitingGone d) := by
  simp only [waitingGone]
  split
  · exact .ite (keepsLanes_count.after (keepsLanes_pwResult.after (.same rfl))) .refl
  · exact .refl

theorem keepsLanes_consentGone {d : Dev} : KeepsLanes d (consentGone d) := by
  simp only [consentGone]
  split
  · exact keepsLanes_waitingGone.after (.ite keepsLanes_cancelChange .refl)
  · exact keepsLanes_waitingGone

theorem keepsLanes_endConsent {d : Dev} : KeepsLanes d (endConsent d) := keepsLanes_consentGone.after (.same rfl)

theorem keepsLanes_setState {n : Nat} {d : Dev} : KeepsLanes d (setState n d) := by
  simp only [setState]
  exact .ite .refl (keepsLanes_raise.after (.after (.same rfl) (.ite keepsLanes_endConsent .refl)))

/-- What a deactivation erases beside the number is not in the lanes. -/
theorem keepsLanes_eraseHeld {d : Dev} : KeepsLanes d (eraseHeld d) := .same rfl

theorem defaultEntries_lanes (lo hi : Nat) (d : Dev) : (defaultEntries lo hi d).lanes = d.lanes := rfl

theorem keepsLanes_clearRecord {d : Dev} : KeepsLanes d (clearRecord d) := by
  have number : KeepsLanes d (eraseNumber d) := .of_only (frame_eraseNumber d).1 (by decide)
  rw [clearRecord_eq]
  refine .after (.of_only (frame_dropUpstream _).1 (by decide)) (keepsLanes_endConsent.after ?_)
  exact keepsLanes_eraseHeld.after (.after (.same (setReg_lanes _ _ _ _)) (.after (.same (defaultEntries_lanes _ _ _)) number))

theorem keepsLanes_abandonGrants {p : Grant → Bool} {d : Dev} : KeepsLanes d (abandonGrants p d) :=
  .of_only (frame_abandonGrants p d).1 (by decide)

theorem keepsLanes_settleState {d : Dev} : KeepsLanes d (settleState d) := by
  simp only [settleState]
  exact .ite keepsLanes_setState (.ite (keepsLanes_setState.after keepsLanes_abandonGrants) .refl)

theorem keepsLanes_actOnUp {d : Dev} : KeepsLanes d (actOnUp d) := by
  simp only [actOnUp]
  refine .ite .refl (.ite (.ite (keepsLanes_raise.after keepsLanes_setState)
    (keepsLanes_settleState.after keepsLanes_setState)) (.ite (.ite ?_ ?_) .refl))
  · exact keepsLanes_setState.after (.same rfl)
  · exact .after (.same rfl) (keepsLanes_setState.after (.same rfl))

theorem keepsLanes_actOnDown {d : Dev} : KeepsLanes d (actOnDown d) := by
  simp only [actOnDown]
  exact .ite .refl (.ite (keepsLanes_clearRecord.after (keepsLanes_setState.after (.same rfl)))
    (.ite (keepsLanes_setState.after (.same rfl)) .refl))

theorem keepsLanes_chanEval {ch : Nat} {d : Dev} : KeepsLanes d (chanEval ch d) := by
  have falls : KeepsLanes d (chanFall ch d) :=
    .after (.of_only (frame_ltEval _).1 (by decide)) (keepsLanes_actOnDown.after (keepsLanes_abandonGrants.after
      (keepsLanes_raise.after (.same rfl))))
  simp only [chanEval]
  exact .ite .refl (.ite (keepsLanes_actOnUp.after (.same rfl)) falls)

/-- A line lane's lost signal leaves the lanes that are not Off. -/
theorem keepsLanes_laneNoSignal {ch : Nat} {laneB : Bool} {d : Dev} : KeepsLanes d (laneNoSignal ch laneB d) := by
  simp only [laneNoSignal, laneLos]
  exact .after (.ite .refl (keepsLanes_chanEval.after (keepsLanes_raise.after (.same (raiseIf_lanes _ _ _ _))))) (.same rfl)

/-! ## A lane put into a state (R227) -/

/-- What a new state brings with it leaves the lane as it was put, and the other lanes that are not Off. -/
theorem keepsLanes_setLaneState {k st : Nat} {f : SerialLane → SerialLane} {d : Dev} :
    KeepsLanes (modSerial k (fun l => { f l with st := st }) d) (setLaneState k st f d) := by
  simp only [setLaneState]
  refine .ite (.ite (keepsLanes_raise.after keepsLanes_count) (.ite ?_ .refl)) (.ite keepsLanes_raise .refl)
  exact .after (.of_only (only_protEval _) (by decide)) (keepsLanes_laneNoSignal.after keepsLanes_count)

theorem serial_setLaneState_same {st : Nat} (on : st ≠ 0) (k : Nat) (f : SerialLane → SerialLane) (d : Dev) :
    serial (setLaneState k st f d) k = { f (serial d k) with st := st } := by
  rw [keepsLanes_setLaneState k (by rw [serial_modSerial_same]; exact on), serial_modSerial_same]

theorem serial_setLaneState_ne {k x st : Nat} {f : SerialLane → SerialLane} {d : Dev} (h : x ≠ k)
    (on : (serial d x).st ≠ 0) : serial (setLaneState k st f d) x = serial d x := by
  rw [keepsLanes_setLaneState x (by rw [serial_modSerial_ne _ _ h]; exact on), serial_modSerial_ne _ _ h]

/-- An Active drop lane that leaves Active shows it (R250). -/
theorem fld_setLaneState_linkDown {k st : Nat} {f : SerialLane → SerialLane} {d : Dev} (drop : k < 96)
    (was : (serial d k).st = 6) (left : st ≠ 6) : fld (setLaneState k st f d) fDP_EVENT_LINK_DOWN k = 1 := by
  simp only [setLaneState, was, left, drop, ne_eq, not_false_eq_true, and_self, if_true]
  exact fld_raise_same _ _ _ (by decide) (by decide)

/-! ## Pairs of lanes (R230) -/

/-- A change of a lane and its partner, in turn: the lane comes to what its own turn makes it, where the partner's turn leaves
it before and after. -/
theorem serial_lanePair_foldl {step : Dev → Nat → Dev} {k : Nat} {d : Dev} {v : SerialLane}
    (own : ∀ e, serial e k = serial d k → serial (step e k) k = v)
    (partner : ∀ e x, x ≠ k → serial e k = serial d k ∨ serial e k = v → serial (step e x) k = serial e k) :
    serial ((lanePair k).foldl step d) k = v := by
  have first : serial (step d k) k = v := own d rfl
  simp only [lanePair]
  split
  · exact first
  · split
    · exact (partner _ (k + 32) (by omega) (.inr first)).trans first
    · exact own _ (partner d (k - 32) (by omega) (.inl rfl))

/-- A lane in the state that a move begins from comes to the one it leads to (R230). -/
theorem serial_moveLane {k a b : Nat} {f : SerialLane → SerialLane} {d : Dev} (was : (serial d k).st = a) (fromOn : a ≠ 0)
    (toOn : b ≠ 0) : serial (moveLane k a b f d) k = { f (serial d k) with st := b } := by
  refine serial_lanePair_foldl (fun e same => ?_) fun e x other now => ?_
  · rw [same, if_pos was, serial_setLaneState_same toOn, same]
  · split
    · refine serial_setLaneState_ne other.symm ?_
      rcases now with now | now
      · rw [now, was]
        exact fromOn
      · rw [now]
        exact toOn
    · rfl

/-- Training frames leave the lanes as the move to Train put them. -/
theorem serial_toTrain {k a : Nat} {f : SerialLane → SerialLane} {d : Dev} (was : (serial d k).st = a) (fromOn : a ≠ 0) :
    serial (toTrain k a f d) k = { f (serial d k) with st := 3 } := by
  have sent : (toTrain k a f d).lanes = (moveLane k a 3 f d).lanes :=
    List.foldlRecOn (motive := fun e : Dev => e.lanes = (moveLane k a 3 f d).lanes) _ _ rfl fun _ same _ _ => same
  rw [serial_of_lanes sent, serial_moveLane was fromOn (by decide)]

theorem serial_toDetect {k a : Nat} {quiet : Bool} {d : Dev} (was : (serial d k).st = a) (fromOn : a ≠ 0) :
    serial (toDetect k a quiet d) k = { serial d k with st := 1, quiet := quiet, relock := false } :=
  serial_moveLane was fromOn (by decide)

theorem trainFail_lanes (c : CName) (k : Nat) (d : Dev) : (trainFail c k d).lanes = d.lanes := by
  simp only [trainFail]
  split
  · rw [raise_lanes, count_lanes]
  · rw [count_lanes]

/-- A lane that is neither Off nor in Test retrains from Detect (R229, R251). -/
theorem serial_retrainPair {k : Nat} {d : Dev} (on : (serial d k).st ≠ 0) (noTest : (serial d k).st ≠ 7) :
    serial (retrainPair k d) k = { st := 1 } := by
  refine serial_lanePair_foldl (fun e same => ?_) fun e x other now => ?_
  · rw [same, if_neg (by simp [on, noTest]), serial_setLaneState_same (by decide)]
  · split
    · rfl
    · refine serial_setLaneState_ne other.symm ?_
      rcases now with now | now
      · rw [now]
        exact on
      · simp [now]

/-- A lane of another pair stands, unless it is Off. -/
theorem serial_retrainPair_other {k x : Nat} {d : Dev} (other : x ∉ lanePair k) (on : (serial d x).st ≠ 0) :
    serial (retrainPair k d) x = serial d x := by
  refine List.foldlRecOn (motive := fun e : Dev => serial e x = serial d x) _ _ rfl fun e same y member => ?_
  have apart : x ≠ y := fun h => other (h ▸ member)
  split
  · exact same
  · rw [serial_setLaneState_ne apart (by rw [same]; exact on), same]

/-! ## Up, step by step (R226, R228, R230) -/

theorem laneSignalDetected_leads (l : LaneId) : Runs (.laneSignalDetected l)
    (fun a => (serial a (laneKey l)).st = 1 ∧ (serial a (laneKey l)).quiet = false)
    (fun a d => (serial d (laneKey l)).st = if 96 ≤ laneKey l then 3 else if fullTraining a (laneKey l) then 2 else 4) := by
  refine runs_of (exec_laneSignalDetected l) fun a ⟨detect, loud⟩ => ?_
  have heard : ¬ ((serial a (laneKey l)).st ≠ 1 ∨ (serial a (laneKey l)).quiet = true) := by simp [detect, loud]
  simp only [signalDetected, if_neg heard]
  split
  · rw [serial_toTrain detect (by decide)]
  · split
    · rw [serial_of_lanes (emit_lanes _ _), serial_moveLane detect (by decide) (by decide)]
    · rw [serial_moveLane detect (by decide) (by decide)]

theorem negotiationResolved_trains (p : Fin 96) : Runs (.negotiationResolved p)
    (fun a => (serial a p).st = 2)
    (fun _ d => (serial d p).st = 3 ∧ (serial d p).noHcd = false) := by
  refine runs_of (exec_negotiationResolved p) fun a negotiates => ?_
  rw [negotiated, serial_toTrain negotiates (by decide)]
  exact ⟨rfl, rfl⟩

theorem negotiationFailure_stays (p : Fin 96) : Runs (.negotiationFailure p)
    (fun a => (serial a p).st = 2)
    (fun _ d => (serial d p).st = 2 ∧ (serial d p).noHcd = true ∧ fld d fDP_EVENT_TRAIN_FAIL p = 1) := by
  refine runs_of (exec_negotiationFailure p) fun a negotiates => ?_
  simp only [negotiationFailed, if_pos negotiates]
  rw [serial_of_lanes (raise_lanes _ _ _), serial_of_lanes (count_lanes _ _ _), serial_modSerial_same]
  exact ⟨negotiates, rfl, fld_raise_same _ _ _ (by decide) (by decide)⟩

/-- A line lane does not train while its channel's BEN is high (R230). -/
theorem trainingComplete_waits (l : LaneId) (x y : Bool) : Runs (.trainingComplete l x y)
    (fun a => (serial a (laneKey l)).st = 3 ∧ 96 ≤ laneKey l ∧ (fsChan a (keyChan (laneKey l))).ben = true)
    (fun a d => d = a) :=
  runs_of (exec_trainingComplete l x y) fun _ ⟨_, line, high⟩ => if_pos ⟨line, high⟩

theorem trainingComplete_locks (l : LaneId) (x y : Bool) : Runs (.trainingComplete l x y)
    (fun a => (serial a (laneKey l)).st = 3 ∧ (laneKey l < 96 ∨ (fsChan a (keyChan (laneKey l))).ben = false))
    (fun _ d => (serial d (laneKey l)).st = 4 ∧ (serial d (laneKey l)).precodeTx = x ∧
      (serial d (laneKey l)).precodeRx = y ∧ (serial d (laneKey l)).relock = false) := by
  refine runs_of (exec_trainingComplete l x y) fun a ⟨trains, free⟩ => ?_
  have may : ¬ (96 ≤ laneKey l ∧ (fsChan a (keyChan (laneKey l))).ben = true) := fun ⟨line, high⟩ =>
    free.elim (fun drop => by omega) (fun low => by simp [low] at high)
  rw [trained, if_neg may, serial_moveLane trains (by decide) (by decide)]
  exact ⟨rfl, rfl, rfl, rfl⟩

theorem laneLock_relocked (l : LaneId) : Runs (.laneLock l)
    (fun a => (serial a (laneKey l)).st = 4 ∧ (serial a (laneKey l)).relock = true)
    (fun _ d => (serial d (laneKey l)).st = 6 ∧ (serial d (laneKey l)).relock = false) := by
  refine runs_of (exec_laneLock l) fun a ⟨locks, relocks⟩ => ?_
  rw [laneLocked, if_neg (not_not_intro locks), if_pos (.inl relocks), serial_moveLane locks (by decide) (by decide)]
  exact ⟨rfl, rfl⟩

theorem laneLock_first (l : LaneId) : Runs (.laneLock l)
    (fun a => (serial a (laneKey l)).st = 4 ∧ (serial a (laneKey l)).relock = false)
    (fun a d => (serial d (laneKey l)).st =
      if laneKey l < 96 ∧ fullTraining a (laneKey l) = false then 6 else 5) := by
  refine runs_of (exec_laneLock l) fun a ⟨locks, first⟩ => ?_
  simp only [laneLocked, if_neg (not_not_intro locks), first, Bool.false_eq_true, false_or, Bool.not_eq_true]
  split
  · rw [serial_moveLane locks (by decide) (by decide)]
  · rw [serial_moveLane locks (by decide) (by decide)]

theorem exchangeComplete_active (l : LaneId) : Runs (.exchangeComplete l)
    (fun a => (serial a (laneKey l)).st = 5)
    (fun _ d => (serial d (laneKey l)).st = 6) := by
  refine runs_of (exec_exchangeComplete l) fun a exchanges => ?_
  rw [exchanged, serial_moveLane exchanges (by decide) (by decide)]

/-! ## Bounds (R228, R229) -/

theorem trainTimeout_detects (l : LaneId) : Runs (.trainTimeout l)
    (fun a => (serial a (laneKey l)).st = 3)
    (fun _ d => (serial d (laneKey l)).st = 1 ∧ (serial d (laneKey l)).quiet = true) := by
  refine runs_of (exec_trainTimeout l) fun a trains => ?_
  rw [trainTimeout, if_pos trains, serial_of_lanes (trainFail_lanes _ _ _), serial_toDetect trains (by decide)]
  exact ⟨rfl, rfl⟩

theorem lockTimeout_detects (l : LaneId) : Runs (.lockTimeout l)
    (fun a => (serial a (laneKey l)).st = 4 ∧ (serial a (laneKey l)).relock = false)
    (fun a d => (serial d (laneKey l)).st = 1 ∧
      (serial d (laneKey l)).quiet = (decide (96 ≤ laneKey l) || fullTraining a (laneKey l))) := by
  refine runs_of (exec_lockTimeout l) fun a ⟨locks, first⟩ => ?_
  have bound : ¬ ((serial a (laneKey l)).st ≠ 4 ∨ (serial a (laneKey l)).relock = true) := by simp [locks, first]
  rw [lockTimeout, if_neg bound, serial_of_lanes (trainFail_lanes _ _ _), serial_toDetect locks (by decide)]
  exact ⟨rfl, rfl⟩

theorem exchangeTimeout_detects (l : LaneId) : Runs (.exchangeTimeout l)
    (fun a => (serial a (laneKey l)).st = 5)
    (fun _ d => (serial d (laneKey l)).st = 1 ∧ (serial d (laneKey l)).quiet = true) := by
  refine runs_of (exec_exchangeTimeout l) fun a exchanges => ?_
  rw [exchangeTimeout, serial_toDetect exchanges (by decide)]
  exact ⟨rfl, rfl⟩

theorem quietPeriodEnd_ends (l : LaneId) : Runs (.quietPeriodEnd l)
    (fun _ => True)
    (fun a d => (serial d (laneKey l)).quiet = false ∧ (serial d (laneKey l)).st = (serial a (laneKey l)).st) := by
  refine runs_of (exec_quietPeriodEnd l) fun a _ => ?_
  have ended : serial (quietEnd (laneKey l) a) (laneKey l) = { serial a (laneKey l) with quiet := false } :=
    serial_lanePair_foldl (fun e same => by rw [serial_modSerial_same, same])
      fun e x other _ => serial_modSerial_ne _ e other.symm
  rw [ended]
  exact ⟨rfl, rfl⟩

/-! ## Down (R229, R250, R251) -/

theorem laneSignalLost_drop (t : Time) (p : Fin 96) : RunsAt (.laneSignalLost t (.drop p)) t
    (fun a => (serial a p).st = 6)
    (fun _ d => (serial d p).st = 1 ∧ fld d fDP_EVENT_LINK_DOWN p = 1) := by
  refine runsAt_of (exec_laneSignalLost t (.drop p)) fun a active => ?_
  rw [laneKey, signalLost, if_neg (not_not_intro active), if_pos p.isLt, serial_setLaneState_same (by decide)]
  exact ⟨rfl, fld_setLaneState_linkDown p.isLt active (by decide)⟩

theorem laneSignalLost_line (t : Time) (ch : Fin 16) (x : Lane) : RunsAt (.laneSignalLost t (.lineRx ch x)) t
    (fun a => (serial a (rxKey ch (x == .b))).st = 6)
    (fun _ d => (serial d (rxKey ch (x == .b))).st = 4 ∧ (serial d (rxKey ch (x == .b))).relock = true) := by
  refine runsAt_of (exec_laneSignalLost t (.lineRx ch x)) fun a active => ?_
  have place : 96 ≤ rxKey ch (x == .b) ∧ rxKey ch (x == .b) < 128 := by
    have bit := Bool.toNat_le (x == .b)
    simp only [rxKey]
    omega
  have line : isRx (rxKey ch (x == .b)) = true := by simp [isRx, place]
  rw [laneKey, signalLost, if_neg (not_not_intro active), if_neg (by omega), if_pos line,
    serial_setLaneState_same (by decide)]
  exact ⟨rfl, rfl⟩

theorem lineRetrainTimeout_detects (ch : Fin 16) (x : Lane) : Runs (.lineRetrainTimeout ch x)
    (fun a => (serial a (rxKey ch (x == .b))).st = 4 ∧ (serial a (rxKey ch (x == .b))).relock = true)
    (fun _ d => (serial d (rxKey ch (x == .b))).st = 1) := by
  refine runs_of (exec_lineRetrainTimeout ch x) fun a ⟨locks, relocks⟩ => ?_
  rw [retrainTimeout, if_pos ⟨locks, relocks⟩, serial_retrainPair (by rw [locks]; decide) (by rw [locks]; decide)]

/-- A channel's two pairs retrain one after the other, and neither touches the other's lanes. -/
theorem retrain_detects (t : Time) (ch : Fin 16) (x : Lane) : RunsAt (.retrain t ch) t
    (fun a => chanPresent a ch = true ∧ (serial a (rxKey ch (x == .b))).st ≠ 0 ∧
      (serial a (rxKey ch (x == .b))).st ≠ 7)
    (fun _ d => (serial d (rxKey ch (x == .b))).st = 1) := by
  refine runsAt_of (exec_retrain t ch) fun a ⟨present, on, noTest⟩ => ?_
  have apart : ∀ b b', b' = !b → rxKey ch b ∉ lanePair (rxKey ch b') := fun b b' h => by
    have letters : b.toNat + b'.toNat = 1 := by cases b <;> simp [h]
    have pair : lanePair (rxKey ch b') = [rxKey ch b', rxKey ch b' + 32] := by
      rw [lanePair, if_neg (by simp only [rxKey]; omega), if_pos (by simp only [rxKey]; omega)]
    rw [pair]
    simp only [rxKey, List.mem_cons, List.not_mem_nil, or_false]
    omega
  rw [retrainChan, if_pos present]
  cases x with
  | a =>
    have first : serial (retrainPair (rxKey ch false) a) (rxKey ch false) = { st := 1 } := serial_retrainPair on noTest
    have kept : serial (retrainPair (rxKey ch true) (retrainPair (rxKey ch false) a)) (rxKey ch false) = { st := 1 } := by
      rw [serial_retrainPair_other (apart false true rfl) (by rw [first]; decide), first]
    exact congrArg SerialLane.st kept
  | b =>
    have kept : serial (retrainPair (rxKey ch false) a) (rxKey ch true) = serial a (rxKey ch true) :=
      serial_retrainPair_other (apart true false rfl) on
    have second : serial (retrainPair (rxKey ch true) (retrainPair (rxKey ch false) a)) (rxKey ch true) = { st := 1 } :=
      serial_retrainPair (by rw [kept]; exact on) (by rw [kept]; exact noTest)
    exact congrArg SerialLane.st second

/-- Settles O20: each step of a lane is its own move, for what follows a move, an end of a power change by the lost line included,
leaves every lane that is not Off. -/
theorem laneStates : Obligations.LaneStates :=
  ⟨laneSignalDetected_leads, negotiationResolved_trains, negotiationFailure_stays, trainingComplete_waits,
    trainingComplete_locks, laneLock_relocked, laneLock_first, exchangeComplete_active, trainTimeout_detects,
    lockTimeout_detects, exchangeTimeout_detects, quietPeriodEnd_ends, laneSignalLost_drop, laneSignalLost_line,
    lineRetrainTimeout_detects, retrain_detects⟩

end Sys2Proof.Proofs
end

section
/-!
PROOF. The lane test unit (R6, R234, R238, R252): a statement that every test command which does not fit its lane shows RESULT 1 is
refuted by a lane that the part lacks, where the write is ignored.
-/

namespace Sys2Proof.Proofs

open Sys2Proof Sys2Proof.Machine Sys2Proof.Laws

/-- A test command of a lane that the part lacks is ignored (R6). -/
theorem testCtrl_absent {d : Dev} {t : Nat} (absent : testThere d t = false) (v : Word) : testCtrl t v d = d := by
  simp only [testCtrl, absent, Bool.not_false, if_true]

/-! ## The counterexample -/

/-- An AZ48-08 out of reset: it has the drop ports 0 to 47 only (R1). -/
def smallPart : Dev := { part := .az4808, porstLow := false }

/-- Drop lane 95, which the AZ48-08 lacks. -/
def lackedLane : Fin 128 := 95

/-- A command to put the lacked lane into Test does not fit it; its block shows RESULT 0. -/
theorem lackedLane_facts :
    testThere (tick 0 smallPart) lackedLane = false ∧ testAllowed (tick 0 smallPart) lackedLane (1 : Word).toNat = false ∧
      fld (tick 0 smallPart) fLNT_STATUS_RESULT lackedLane = 0 := by decide +kernel

/-- Refutes O21: on an AZ48-08 a test command to drop lane 95 does not fit its lane, for the lane can't be put into Test; but the
lane is absent, so its block takes no write (R6) and RESULT stays 0. -/
theorem not_laneTest : ¬ Obligations.LaneTest := by
  rintro ⟨-, refused, -⟩
  obtain ⟨absent, unfit, shown⟩ := lackedLane_facts
  obtain ⟨-, result⟩ :=
    post_of_runsAt (exec_laneTestStart 0 lackedLane 1) (refused 0 lackedLane 1) smallPart rfl unfit
  rw [testCtrl_absent absent, shown] at result
  exact absurd result (by decide)

end Sys2Proof.Proofs
end

section
/-!
PROOF. The MACs of the drop ports (R241 to R249): what flow control leaves of a port, which frames are taken into the receive buffer,
and that a frame is counted once in the counter of its own outcome.
-/

namespace Sys2Proof.Proofs

open Sys2Proof Sys2Proof.Machine Sys2Proof.Laws

/-! ## Ports -/

@[simp] theorem port_modPort_same (n : Nat) (f : Port → Port) (d : Dev) : port (modPort n f d) n = f (port d n) :=
  agetD_aputD_same _ _ _ _

theorem port_of_ports {a b : Dev} (h : b.ports = a.ports) (n : Nat) : port b n = port a n := by rw [port, h, port]

theorem rxFill_of_rx {a b : Dev} {n : Nat} (h : (port b n).rx = (port a n).rx) : rxFill b n = rxFill a n := by
  rw [rxFill, h, rxFill]

/-- Activity restarts the core clock and touches the power state alone (R548). -/
theorem idleExit_eq (d : Dev) : ∃ w, idleExit d = { d with pwr := w } := by
  simp only [idleExit]
  split
  · exact ⟨_, rfl⟩
  · exact ⟨d.pwr, rfl⟩

/-! ## Flow control (R247, R248) -/

/-- A flow-control frame changes of the MACs only the XOFF that stands. -/
theorem sendPause_ports (n : Nat) (off : Bool) (d : Dev) :
    (sendPause n off d).ports = (modPort n (fun p => { p with xoff := off, xoffAt := d.now }) d).ports := by
  simp only [sendPause, sendFrame]
  split
  · split
    · rw [raise_ports, count_ports, emit_ports, countN_ports, count_ports]
    · rw [count_ports, emit_ports, countN_ports, count_ports]
  · rfl

@[simp] theorem port_sendPause (n : Nat) (off : Bool) (d : Dev) :
    port (sendPause n off d) n = { port d n with xoff := off, xoffAt := d.now } := by
  rw [port_of_ports (sendPause_ports n off d), port_modPort_same]

/-- Flow control looked at again leaves the receive buffer. -/
@[simp] theorem rx_flowEval (n : Nat) (d : Dev) : (port (flowEval n d) n).rx = (port d n).rx := by
  simp only [flowEval]
  split
  · rw [port_modPort_same]
  · split
    · split
      · rw [port_sendPause]
      · rfl
    · split
      · rw [port_sendPause]
      · rfl

/-- The counters of frames that flow control sends (R248, R254). -/
def flowCounters : List CName := [.txFrames, .txBytes, .pauseSent]

theorem counter_count_other {c c' : CName} {k k' : Nat} {d : Dev} (h : cnameIndex c' ≠ cnameIndex c) (hk : k < 65536)
    (hk' : k' < 65536) : counter (count c k d) c' k' = counter d c' k' :=
  counter_count_ne _ _ _ _ _ (ckey_ne_of_index_ne h hk hk')

theorem counter_countN_other {c c' : CName} {k k' m : Nat} {d : Dev} (h : cnameIndex c' ≠ cnameIndex c) (hk : k < 65536)
    (hk' : k' < 65536) : counter (countN c k m d) c' k' = counter d c' k' :=
  counter_countN_ne _ _ _ _ _ _ (ckey_ne_of_index_ne h hk hk')

theorem counter_sendPause {c : CName} {n k : Nat} {off : Bool} {d : Dev} (other : ∀ x ∈ flowCounters, cnameIndex c ≠ cnameIndex x)
    (hn : n < 65536) (hk : k < 65536) : counter (sendPause n off d) c k = counter d c k := by
  have sent : ∀ e bs, counter (count .pauseSent n (sendFrame n bs e)) c k = counter e c k := fun e bs => by
    rw [sendFrame, counter_count_other (other _ (by decide)) hn hk, counter_emit,
      counter_countN_other (other _ (by decide)) hn hk, counter_count_other (other _ (by decide)) hn hk]
  simp only [sendPause]
  split
  · split
    · rw [counter_raise, sent]
      rfl
    · rw [sent]
      rfl
  · rfl

theorem counter_flowEval {c : CName} {n k : Nat} {d : Dev} (other : ∀ x ∈ flowCounters, cnameIndex c ≠ cnameIndex x)
    (hn : n < 65536) (hk : k < 65536) : counter (flowEval n d) c k = counter d c k := by
  simp only [flowEval]
  split
  · rfl
  · split
    · split
      · exact counter_sendPause other hn hk
      · rfl
    · split
      · exact counter_sendPause other hn hk
      · rfl

/-! ## Frames in (R241 to R244, R254) -/

theorem frame_countFec (f : MacFrame) (d : Dev) : Frame countPieces countRegs d (countFec f d) := by
  simp only [countFec]
  exact Frame_ite _ (Frame_step (Frame_step (frame_countN _ _ _ _) (frame_countN _ _ _ _)) (frame_countN _ _ _ _))
    (Frame_refl _ _ _)

theorem counter_countFec {c : CName} {k : Nat} {f : MacFrame} {d : Dev}
    (other : ∀ x ∈ [CName.portFecCorrectedCw, .portFecCorrectedSym, .portFecUncorrectable], cnameIndex c ≠ cnameIndex x)
    (hk : k < 65536) : counter (countFec f d) c k = counter d c k := by
  have hp : (f.port : Nat) < 65536 := by omega
  simp only [countFec]
  split
  · rw [counter_countN_other (other _ (by decide)) hp hk, counter_countN_other (other _ (by decide)) hp hk,
      counter_countN_other (other _ (by decide)) hp hk]
  · rfl

/-- A frame that its MAC judges by its FCS: the port takes frames and has room, the levels make a frame, and its length is allowed
(R241 to R243, R250). -/
structure Fits (f : MacFrame) (d : Dev) : Prop where
  active : portActive d f.port = true
  room : rxFill d f.port + fld d fDP_FRAME_MAX_FRAME f.port ≤ 65536
  coded : f.codeError = false
  upright : f.inverted = (fld d fDP_CTRL_RX_INV f.port == 1)
  long : 63 < f.bytes.length
  short : f.bytes.length ≤ fld d fDP_FRAME_MAX_FRAME f.port

/-- Such a frame is a good one where its FCS is, an FCS error otherwise. -/
theorem macFrame_of_fits {f : MacFrame} {d : Dev} (h : Fits f d) :
    macFrame f d =
      if f.bytes.drop (f.bytes.length - 4) ≠ fcsBytes (f.bytes.take (f.bytes.length - 4)) then
        count .fcsErrors f.port (countFec f d)
      else acceptFrame f.port f.bytes (countN .rxBytes f.port f.bytes.length (count .rxFrames f.port (countFec f d))) := by
  have max : fld (countFec f d) fDP_FRAME_MAX_FRAME f.port = fld d fDP_FRAME_MAX_FRAME f.port :=
    Frame_fld (frame_countFec f d) (by decide) f.port.isLt
  have fill : rxFill (countFec f d) f.port = rxFill d f.port :=
    rxFill_of_rx (congrArg Port.rx (port_of_ports ((frame_countFec f d).1 .ports (by decide)) _))
  have taken : (!portActive d f.port || f.inverted != (fld d fDP_CTRL_RX_INV f.port == 1)) = false := by
    simp [h.active, ← h.upright]
  have roomy : ¬ 65536 < rxFill d f.port + fld d fDP_FRAME_MAX_FRAME f.port := Nat.not_lt.mpr h.room
  have noRunt : ¬ f.bytes.length ≤ 63 := Nat.not_le.mpr h.long
  simp only [macFrame, taken, takeFrame, max, fill, if_neg roomy, h.coded, Bool.false_eq_true, if_false, if_neg noRunt,
    if_neg (Nat.not_lt.mpr h.short)]

/-- A good frame that is no MAC control frame and is diverted nowhere joins the receive buffer (R244, R368, R378, R432). -/
theorem acceptFrame_buffers {n : Nat} {frame : List Byte} {d : Dev}
    (noControl : take0 (frame.take (frame.length - 4)) 12 2 ≠ 0x8808)
    (undiverted : d.part.hasSideboard = false ∨ sbPortField d n 1 0 = 0 ∧ sbPortField d n 3 0 = 0)
    (noPtp : fld d fLT_PTP_PTP_EN n = 0) :
    acceptFrame n frame d = flowEval n (modPort n (fun x => { x with rx := x.rx ++ [frame] }) d) := by
  have noMember : ∀ p : Prop, ¬ (d.part.hasSideboard = true ∧ sbPortField d n 1 0 ≠ 0 ∧ p) := fun _ ⟨has, snoops, _⟩ =>
    undiverted.elim (fun lacks => by simp [lacks] at has) (fun off => snoops off.1)
  have noRepair : ∀ p : Prop, ¬ (d.part.hasSideboard = true ∧ sbPortField d n 3 0 ≠ 0 ∧ p) := fun _ ⟨has, repairs, _⟩ =>
    undiverted.elim (fun lacks => by simp [lacks] at has) (fun off => repairs off.2)
  have ptp : ∀ p : Prop, ¬ (fld d fLT_PTP_PTP_EN n = 1 ∧ p) := fun p h => by omega
  simp only [acceptFrame, if_neg noControl]
  rw [if_neg (noMember _), if_neg (noRepair _), if_neg (ptp _)]

theorem macFrameReceived_buffers (f : MacFrame) : RunsAt (.macFrameReceived f) f.t
    (fun a => portActive a f.port = true ∧ rxFill a f.port + fld a fDP_FRAME_MAX_FRAME f.port ≤ 65536 ∧
      f.codeError = false ∧ f.inverted = (fld a fDP_CTRL_RX_INV f.port == 1) ∧ 63 < f.bytes.length ∧
      f.bytes.length ≤ fld a fDP_FRAME_MAX_FRAME f.port ∧
      f.bytes.drop (f.bytes.length - 4) = fcsBytes (f.bytes.take (f.bytes.length - 4)) ∧
      take0 (f.bytes.take (f.bytes.length - 4)) 12 2 ≠ 0x8808 ∧
      (a.part.hasSideboard = false ∨ sbPortField a f.port 1 0 = 0 ∧ sbPortField a f.port 3 0 = 0) ∧
      fld a fLT_PTP_PTP_EN f.port = 0)
    (fun a d => (port d f.port).rx = (port a f.port).rx ++ [f.bytes] ∧
      counter d .rxFrames f.port = counter a .rxFrames f.port + 1) := by
  refine runsAt_of (exec_macFrameReceived f) fun a
    ⟨active, room, coded, upright, long, short, good, noControl, undiverted, noPtp⟩ => ?_
  obtain ⟨w, awake⟩ := idleExit_eq a
  have fits : Fits f { a with pwr := w } := ⟨active, room, coded, upright, long, short⟩
  have counted : Frame countPieces countRegs { a with pwr := w }
      (countN .rxBytes f.port f.bytes.length (count .rxFrames f.port (countFec f { a with pwr := w }))) :=
    Frame_step (Frame_step (frame_countFec _ _) (frame_count _ _ _)) (frame_countN _ _ _ _)
  have scope : (f.port : Nat) < 65536 := by omega
  rw [awake, macFrame_of_fits fits, if_neg (not_not_intro good), acceptFrame_buffers noControl]
  · rw [rx_flowEval, port_modPort_same, counter_flowEval (by decide) scope scope]
    refine ⟨congrArg (· ++ [f.bytes]) (congrArg Port.rx (port_of_ports (counted.1 .ports (by decide)) _)), ?_⟩
    calc counter (countN .rxBytes f.port f.bytes.length (count .rxFrames f.port (countFec f { a with pwr := w }))) .rxFrames
          f.port
        = counter (count .rxFrames f.port (countFec f { a with pwr := w })) .rxFrames f.port :=
          counter_countN_other (by decide) scope scope
      _ = counter (countFec f { a with pwr := w }) .rxFrames f.port + 1 := counter_count_same _ _ _
      _ = counter a .rxFrames f.port + 1 := by rw [counter_countFec (by decide) scope]; rfl
  · have dictionary := counted.1 .dict (by decide)
    have part := counted.1 .part (by decide)
    simp only [Piece.same] at dictionary part
    simp only [sbPortField, dictNat, dictionary, part]
    exact undiverted
  · rw [Frame_fld counted (by decide) f.port.isLt]
    exact noPtp

theorem macFrameReceived_badFcs (f : MacFrame) : RunsAt (.macFrameReceived f) f.t
    (fun a => portActive a f.port = true ∧ rxFill a f.port + fld a fDP_FRAME_MAX_FRAME f.port ≤ 65536 ∧
      f.codeError = false ∧ f.inverted = (fld a fDP_CTRL_RX_INV f.port == 1) ∧ 63 < f.bytes.length ∧
      f.bytes.length ≤ fld a fDP_FRAME_MAX_FRAME f.port ∧
      f.bytes.drop (f.bytes.length - 4) ≠ fcsBytes (f.bytes.take (f.bytes.length - 4)))
    (fun a d => (port d f.port).rx = (port a f.port).rx ∧
      counter d .fcsErrors f.port = counter a .fcsErrors f.port + 1) := by
  refine runsAt_of (exec_macFrameReceived f) fun a ⟨active, room, coded, upright, long, short, bad⟩ => ?_
  obtain ⟨w, awake⟩ := idleExit_eq a
  have fits : Fits f { a with pwr := w } := ⟨active, room, coded, upright, long, short⟩
  have scope : (f.port : Nat) < 65536 := by omega
  rw [awake, macFrame_of_fits fits, if_pos bad, counter_count_same, counter_countFec (by decide) scope,
    port_of_ports (count_ports _ _ _), port_of_ports ((frame_countFec f _).1 .ports (by decide))]
  exact ⟨rfl, rfl⟩

/-! ## Pauses (R247, R248) -/

theorem pauseExpiry_ends (t : Time) (n : Fin 96) (p : Fin 8) (x : Time) : RunsAt (.pauseExpiry t n p) t
    (fun a => aget (port a n).paused p = some x ∧ x ≤ a.now)
    (fun _ d => aget (port d n).paused p = none) := by
  refine runsAt_of (exec_pauseExpiry t n p) fun a ⟨paused, due⟩ => ?_
  simp only [pauseExpiry, paused, if_pos due, port_modPort_same]
  exact aget_adel_same _ _

/-- An XOFF from an active port shows XOFF_SENT (R248, R250). -/
theorem fld_sendPause_xoffSent {n : Nat} {d : Dev} (active : portActive d n = true) :
    fld (sendPause n true d) fDP_EVENT_XOFF_SENT n = 1 := by
  have still : ∀ f, portActive (modPort n f d) n = true := fun _ => active
  simp only [sendPause, still, if_true]
  exact fld_raise_same _ _ _ (by decide) (by decide)

theorem xoffRepeat_sends (t : Time) (n : Fin 96) : RunsAt (.xoffRepeat t n) t
    (fun a => (port a n).xoff = true ∧ fld a fDP_MAC_FC_TX n = 1 ∧ fld a fDP_FC_XON_THRESH n < rxFill a n ∧
      (port a n).xoffAt + fld a fDP_FC_TX_QUANTA n * quantum a n / 2 ≤ a.now ∧ portActive a n = true)
    (fun a d => (port d n).xoff = true ∧ (port d n).xoffAt = a.now ∧ fld d fDP_EVENT_XOFF_SENT n = 1) := by
  refine runsAt_of (exec_xoffRepeat t n) fun a ⟨stands, enabled, full, due, active⟩ => ?_
  rw [xoffRepeat, if_pos ⟨stands, enabled, full, due⟩, port_sendPause]
  exact ⟨rfl, rfl, fld_sendPause_xoffSent active⟩

/-- Settles O22: what the counts of a frame and flow control touch is apart from the receive buffer, the settings of the port and the
counter of the frame's own outcome. -/
theorem portReception : Obligations.PortReception :=
  ⟨macFrameReceived_buffers, macFrameReceived_badFcs, pauseExpiry_ends, xoffRepeat_sends⟩

end Sys2Proof.Proofs
end

section
/-!
PROOF. The generation slots (R270 to R278): what a slot reads as after a change, which code each command of a slot answers, and what
a slot made current leaves of the one before it.
-/

namespace Sys2Proof.Proofs

open Sys2Proof Sys2Proof.Machine Sys2Proof.Laws

/-! ## Slots -/

theorem genSlot_of_cls {a b : Dev} (h : b.cls = a.cls) (k : Nat) : genSlot b k = genSlot a k := by
  match k with
  | 0 | 1 | 2 | 3 => simp only [genSlot, h]
  | _ + 4 => rfl

theorem genSlot_modSlot_same {k : Nat} (h : k < 4) (f : GenSlot → GenSlot) (d : Dev) :
    genSlot (modSlot k f d) k = f (genSlot d k) := by
  match k, h with
  | 0, _ | 1, _ | 2, _ | 3, _ => rfl

theorem genSlot_modSlot_ne {j k : Nat} (h : j ≠ k) (f : GenSlot → GenSlot) (d : Dev) :
    genSlot (modSlot k f d) j = genSlot d j := by
  match k with
  | 0 | 1 | 2 | 3 => match j with
    | 0 | 1 | 2 | 3 => simp_all [genSlot, modSlot]
    | _ + 4 => rfl
  | _ + 4 => rfl

@[simp] theorem lastGen_modSlot (k : Nat) (f : GenSlot → GenSlot) (d : Dev) :
    (modSlot k f d).cls.lastGen = d.cls.lastGen := by
  match k with
  | 0 | 1 | 2 | 3 | _ + 4 => rfl

theorem currentSlot_lt (d : Dev) : currentSlot d < 4 := by
  simp only [currentSlot]
  split
  case h_1 found => exact List.mem_range.1 (List.mem_of_find?_eq_some found)
  case h_2 => omega

/-! ## Commands of a slot (R271, R497) -/

/-- A Secretary that runs answers a command that path H has the right to on every path. -/
theorem commandOn_open {p : Path} {f : Dev → Nat × Dev} {d : Dev} (h : secretaryRuns d = true) :
    commandOn p true f d = emit (.result p (f d).1) (f d).2 := by
  simp only [secretaryRuns, waifelRuns, Bool.and_eq_true, Bool.not_eq_true'] at h
  obtain ⟨⟨hon, hrun⟩, hrec⟩ := h
  simp [commandOn, hon, hrun, hrec]

theorem runsAt_command {c : Instr} {t : Time} {p : Path} {f : Dev → Nat × Dev} {pre : Dev → Prop} {post : Dev → Dev → Prop}
    (e : ∀ s, exec c s = at_ t (commandOn p true f) s)
    (k : ∀ a, pre a → post a (emit (.result p (f a).1) (f a).2)) :
    RunsAt c t (fun a => secretaryRuns a = true ∧ pre a) post :=
  runsAt_of e fun a ⟨runs, held⟩ => by
    rw [commandOn_open runs]
    exact k a held

/-- A command that is refused with a code leaves every slot. -/
theorem runsAt_refused {c : Instr} {t : Time} {p : Path} {f : Dev → Nat × Dev} {pre : Dev → Prop} {code : Nat}
    (e : ∀ s, exec c s = at_ t (commandOn p true f) s) (k : ∀ a, pre a → f a = (code, a)) :
    RunsAt c t (fun a => secretaryRuns a = true ∧ pre a)
      (fun a d => d.cls = a.cls ∧ d.emitted.head? = some (.result p code)) :=
  runsAt_command e fun a held => by
    rw [k a held]
    exact ⟨rfl, rfl⟩

/-! ## Claim, Seal, Abandon, Evict (R270, R271, R274, R277) -/

theorem slotClaim_claims (t : Time) (p : Path) (k : Fin 4) : RunsAt (.slotClaim t p k) t
    (fun a => secretaryRuns a = true ∧ (genSlot a k).state = .free)
    (fun _ d => (genSlot d k).state = .loading ∧ (genSlot d k).owner = some p ∧ d.emitted.head? = some (.result p 0)) :=
  runsAt_command (exec_slotClaim t p k) fun a free => by
    have slots : ∀ d : Dev, genSlot { d with cls := { d.cls with hits := d.cls.hits.filter (fun e => e.1 / 65536 % 4 != k) } } k =
        genSlot d k := fun d => by
      match k with
      | 0 | 1 | 2 | 3 => rfl
    rw [slotClaim, if_neg (not_not.2 free)]
    rw [genSlot_of_cls (emit_cls _ _), slots, genSlot_modSlot_same k.isLt]
    exact ⟨rfl, rfl, rfl⟩

theorem slotClaim_refused (t : Time) (p : Path) (k : Fin 4) : RunsAt (.slotClaim t p k) t
    (fun a => secretaryRuns a = true ∧ (genSlot a k).state ≠ .free)
    (fun a d => d.cls = a.cls ∧ d.emitted.head? = some (.result p 0x08)) :=
  runsAt_refused (exec_slotClaim t p k) fun _ taken => if_pos taken

/-- The image of a slot in pipeline i passes the seal's check (R274). -/
def imagePasses (d : Dev) (k i : Nat) : Bool :=
  match sealPipe d i k with
  | .ok _ => true
  | .error _ => false

/-- Seal finds no failing word where every pipeline's image passes. -/
theorem slotSeal_of_passes {p : Path} {k : Nat} {d : Dev} (loading : (genSlot d k).state = .loading)
    (owner : (genSlot d k).owner = some p) (passes : (List.range d.part.pipes).all (imagePasses d k) = true) :
    slotSeal p k d = (0, modSlot k (fun g => { g with state := .ready }) d) := by
  have mine : ¬ ((genSlot d k).state ≠ .loading ∨ (genSlot d k).owner ≠ some p) := by simp [loading, owner]
  rw [slotSeal, if_neg mine]
  split
  case h_1 failing =>
    obtain ⟨i, present, fails⟩ := List.exists_of_findSome?_eq_some failing
    have pass := List.all_eq_true.1 passes i present
    simp only [imagePasses] at pass
    split at pass
    case h_1 ok =>
      rw [ok] at fails
      cases fails
    case h_2 => cases pass
  case h_2 => rfl

theorem slotSeal_seals (t : Time) (p : Path) (k : Fin 4) : RunsAt (.slotSeal t p k) t
    (fun a => secretaryRuns a = true ∧ (genSlot a k).state = .loading ∧ (genSlot a k).owner = some p ∧
      (List.range a.part.pipes).all (imagePasses a k) = true)
    (fun _ d => (genSlot d k).state = .ready ∧ d.emitted.head? = some (.result p 0)) :=
  runsAt_command (exec_slotSeal t p k) fun a ⟨loading, owner, passes⟩ => by
    rw [slotSeal_of_passes loading owner passes, genSlot_of_cls (emit_cls _ _), genSlot_modSlot_same k.isLt]
    exact ⟨rfl, rfl⟩

theorem slotSeal_refused (t : Time) (p : Path) (k : Fin 4) : RunsAt (.slotSeal t p k) t
    (fun a => secretaryRuns a = true ∧ ((genSlot a k).state ≠ .loading ∨ (genSlot a k).owner ≠ some p))
    (fun a d => d.cls = a.cls ∧ d.emitted.head? = some (.result p 0x05)) :=
  runsAt_refused (exec_slotSeal t p k) fun _ foreign => if_pos foreign

theorem slotAbandon_frees (t : Time) (p : Path) (k : Fin 4) : RunsAt (.slotAbandon t p k) t
    (fun a => secretaryRuns a = true ∧
      (((genSlot a k).state = .loading ∨ (genSlot a k).state = .ready) ∧ ((genSlot a k).owner = some p ∨ p = .l ∨ p = .s)))
    (fun _ d => (genSlot d k).state = .free ∧ (genSlot d k).owner = none ∧ d.emitted.head? = some (.result p 0)) :=
  runsAt_command (exec_slotAbandon t p k) fun a may => by
    rw [slotAbandon, if_pos may, genSlot_of_cls (emit_cls _ _), genSlot_modSlot_same k.isLt]
    exact ⟨rfl, rfl, rfl⟩

theorem slotEvict_evicts (t : Time) (p : Path) (k : Fin 4) : RunsAt (.slotEvict t p k) t
    (fun a => secretaryRuns a = true ∧ (genSlot a k).state = .draining)
    (fun _ d => (genSlot d k).state = .evicting ∧ d.emitted.head? = some (.result p 0)) :=
  runsAt_command (exec_slotEvict t p k) fun a draining => by
    rw [slotEvict, if_pos draining, genSlot_of_cls (emit_cls _ _), genSlot_modSlot_same k.isLt]
    exact ⟨rfl, rfl⟩

theorem slotEvict_refused (t : Time) (p : Path) (k : Fin 4) : RunsAt (.slotEvict t p k) t
    (fun a => secretaryRuns a = true ∧ (genSlot a k).state ≠ .draining)
    (fun a d => d.cls = a.cls ∧ d.emitted.head? = some (.result p 0x05)) :=
  runsAt_refused (exec_slotEvict t p k) fun _ other => if_neg other

/-! ## A slot made current (R275) -/

/-- The slot before drains and slot k is current with the next generation, whether copies are under the slot before or not. -/
def turned (k : Nat) (d : Dev) : Dev :=
  let e := modSlot k (fun g => { g with state := .current, gen := d.cls.lastGen + 1 })
    (modSlot (currentSlot d) (fun g => { g with state := .draining, drainingSince := d.now, slowRaised := false }) d)
  { e with cls := { e.cls with lastGen := d.cls.lastGen + 1 } }

theorem genSlot_lastGen (d : Dev) (n : Word) (k : Nat) :
    genSlot { d with cls := { d.cls with lastGen := n } } k = genSlot d k := by
  match k with
  | 0 | 1 | 2 | 3 | _ + 4 => rfl

theorem genSlot_turned_same {k : Nat} {d : Dev} (h : k < 4) (other : k ≠ currentSlot d) :
    genSlot (turned k d) k = { genSlot d k with state := .current, gen := d.cls.lastGen + 1 } := by
  rw [turned, genSlot_lastGen, genSlot_modSlot_same h, genSlot_modSlot_ne other]

theorem genSlot_turned_before {k : Nat} {d : Dev} (other : k ≠ currentSlot d) : genSlot (turned k d) (currentSlot d) =
    { genSlot d (currentSlot d) with state := .draining, drainingSince := d.now, slowRaised := false } := by
  rw [turned, genSlot_lastGen, genSlot_modSlot_ne other.symm, genSlot_modSlot_same (currentSlot_lt d)]

/-- The slot before freed, with its event, where no copy is under it. -/
def relieved (old : Nat) (d : Dev) : Dev :=
  if (genSlot d old).drain = 0 then
    raise fCL_EVENT_SLOT_FREE 0 (modSlot old (fun g => { g with state := .free, owner := none }) d)
  else d

theorem genSlot_relieved_ne {j old : Nat} {d : Dev} (h : j ≠ old) : genSlot (relieved old d) j = genSlot d j := by
  rw [relieved]
  split
  · rw [genSlot_of_cls (raise_cls _ _ _), genSlot_modSlot_ne h]
  · rfl

theorem state_relieved {old : Nat} {d : Dev} (h : old < 4) :
    (genSlot (relieved old d) old).state = if (genSlot d old).drain = 0 then .free else (genSlot d old).state := by
  rw [relieved]
  split
  · rw [genSlot_of_cls (raise_cls _ _ _), genSlot_modSlot_same h]
  · rfl

@[simp] theorem lastGen_relieved (old : Nat) (d : Dev) : (relieved old d).cls.lastGen = d.cls.lastGen := by
  rw [relieved]
  split
  · rw [raise_cls, lastGen_modSlot]
  · rfl

theorem makeCurrent_of_ready {k : Nat} {d : Dev} (h : k ≤ 3) (ready : (genSlot d k).state = .ready) :
    makeCurrent k d = (0, relieved (currentSlot d) (turned k d)) := by
  have may : ¬ (k > 3 ∨ (genSlot d k).state ≠ .ready) := by simp [h, ready]
  rw [makeCurrent, if_neg may, relieved]
  split <;> simp_all [turned]

theorem makeCurrent_makes (t : Time) (p : Path) (k : BitVec 8) : RunsAt (.makeCurrent t p k) t
    (fun a => secretaryRuns a = true ∧ k.toNat ≤ 3 ∧ (genSlot a k.toNat).state = .ready ∧
      (genSlot a (currentSlot a)).state = .current)
    (fun a d => (genSlot d k.toNat).state = .current ∧ (genSlot d k.toNat).gen = a.cls.lastGen + 1 ∧
      d.cls.lastGen = a.cls.lastGen + 1 ∧
      (genSlot d (currentSlot a)).state = (if (genSlot a (currentSlot a)).drain = 0 then .free else .draining) ∧
      d.dic.saveState = 1 ∧ d.emitted.head? = some (.result p 0)) :=
  runsAt_command (exec_makeCurrent t p k) fun a ⟨small, ready, current⟩ => by
    have other : k.toNat ≠ currentSlot a := fun same => by simp [same, current] at ready
    have now : genSlot (relieved (currentSlot a) (turned k.toNat a)) k.toNat =
        { genSlot a k.toNat with state := .current, gen := a.cls.lastGen + 1 } := by
      rw [genSlot_relieved_ne other, genSlot_turned_same (by omega) other]
    have before : (genSlot (relieved (currentSlot a) (turned k.toNat a)) (currentSlot a)).state =
        if (genSlot a (currentSlot a)).drain = 0 then .free else .draining := by
      rw [state_relieved (currentSlot_lt a), genSlot_turned_before other]
    have gen : (relieved (currentSlot a) (turned k.toNat a)).cls.lastGen = a.cls.lastGen + 1 := lastGen_relieved _ _
    rw [commandCurrent, makeCurrent_of_ready small ready]
    generalize relieved (currentSlot a) (turned k.toNat a) = made at now before gen ⊢
    exact ⟨congrArg GenSlot.state now, congrArg GenSlot.gen now, gen, before, rfl, rfl⟩

theorem makeCurrent_refused (t : Time) (p : Path) (k : BitVec 8) : RunsAt (.makeCurrent t p k) t
    (fun a => secretaryRuns a = true ∧ (3 < k.toNat ∨ (genSlot a k.toNat).state ≠ .ready))
    (fun a d => d.cls = a.cls ∧ d.emitted.head? = some (.result p 0x05)) :=
  runsAt_refused (exec_makeCurrent t p k) fun a unfit => by
    have refused : makeCurrent k.toNat a = (5, a) := if_pos unfit
    rw [commandCurrent, refused]
    rfl

/-! ## A slot that drains for long (R277) -/

theorem drainSlow_tells (t : Time) (k : Fin 4) : RunsAt (.drainSlow t k) t
    (fun a => (genSlot a k).state = .draining ∧ (genSlot a k).slowRaised = false ∧
      (genSlot a k).drainingSince + fld a fCL_CTRL_DRAIN_LIMIT 0 * Config.ms ≤ a.now)
    (fun _ d => (genSlot d k).slowRaised = true ∧ fld d fCL_EVENT_DRAIN_SLOW 0 = 1) :=
  runsAt_of (exec_drainSlow t k) fun a ⟨draining, untold, due⟩ => by
    rw [drainSlow, if_pos ⟨draining, Bool.eq_false_iff.1 untold, due⟩, genSlot_of_cls (raise_cls _ _ _),
      genSlot_modSlot_same k.isLt]
    exact ⟨rfl, fld_raise_same _ _ _ (by decide) (by decide)⟩

/-- Settles O24: a Secretary that runs answers each command, and a refused one leaves the slots; a slot made current was ready, so it
isn't the one that drains, and what is set of each of the two stands. -/
theorem generationSlots : Obligations.GenerationSlots :=
  ⟨slotClaim_claims, slotClaim_refused, slotSeal_seals, slotSeal_refused, slotAbandon_frees, slotEvict_evicts,
    slotEvict_refused, makeCurrent_makes, makeCurrent_refused, drainSlow_tells⟩

end Sys2Proof.Proofs
end

section
/-!
PROOF. The hold buffers of the pipelines (R284): what a packet's way through metering, lookup and the queues leaves of the fragments
that are held.
-/

namespace Sys2Proof.Proofs

open Sys2Proof Sys2Proof.Machine Sys2Proof.Laws

/-! ## Steps that leave the hold buffers -/

/-- From device a to device b every pipeline holds the same fragments. -/
def KeepsHolds (a b : Dev) : Prop := b.cls.holds = a.cls.holds

theorem KeepsHolds.refl {d : Dev} : KeepsHolds d d := rfl

/-- A last step joined to those before it, found from the device that it leads to. -/
theorem KeepsHolds.after {a b c : Dev} (k : KeepsHolds b c) (h : KeepsHolds a b) : KeepsHolds a c := k.trans h

theorem KeepsHolds.ite {a b c : Dev} {p : Prop} [Decidable p] (h : KeepsHolds a b) (k : KeepsHolds a c) :
    KeepsHolds a (if p then b else c) := by
  split
  · exact h
  · exact k

theorem KeepsHolds.foldl {β : Type} {f : Dev → β → Dev} (h : ∀ d x, KeepsHolds d (f d x)) :
    ∀ (l : List β) (d : Dev), KeepsHolds d (l.foldl f d)
  | [], _ => .refl
  | x :: l, d => (KeepsHolds.foldl h l (f d x)).after (h d x)

theorem KeepsHolds.of_cls {a b : Dev} (h : b.cls = a.cls) : KeepsHolds a b := congrArg ClsSt.holds h

/-- A change of pieces other than classification. -/
theorem keepsHolds_pieces {d : Dev} {host tm fwd sb sec} :
    KeepsHolds d { d with host := host, tm := tm, fwd := fwd, sb := sb, sec := sec } := rfl

/-! ## Shared operations -/

theorem keepsHolds_emit {e : Emission} {d : Dev} : KeepsHolds d (emit e d) := rfl

theorem keepsHolds_setFld {f : Fld} {i v : Nat} {d : Dev} : KeepsHolds d (setFld f i v d) := rfl

theorem keepsHolds_nextFree {d : Dev} : KeepsHolds d (nextFree d).2 := rfl

theorem keepsHolds_signal {v : Nat} {d : Dev} : KeepsHolds d (signal v d) := .of_cls (signal_cls v d)

theorem keepsHolds_raise {f : Fld} {i : Nat} {d : Dev} : KeepsHolds d (raise f i d) := .of_cls (raise_cls f i d)

theorem keepsHolds_countN {c : CName} {k n : Nat} {d : Dev} : KeepsHolds d (countN c k n d) := .of_cls (countN_cls c k n d)

theorem keepsHolds_count {c : CName} {k : Nat} {d : Dev} : KeepsHolds d (count c k d) := keepsHolds_countN

theorem keepsHolds_post {n : Nat} {item : List Word} {d : Dev} : KeepsHolds d (post n item d) := .of_cls (post_cls n item d)

/-! ## Slots and rules (R263, R269, R270, R276) -/

theorem keepsHolds_modSlot {k : Nat} {f : GenSlot → GenSlot} {d : Dev} : KeepsHolds d (modSlot k f d) := by
  match k with
  | 0 | 1 | 2 | 3 | _ + 4 => rfl

theorem keepsHolds_drainUp {k n : Nat} {d : Dev} : KeepsHolds d (drainUp k n d) := keepsHolds_modSlot

theorem keepsHolds_drainDown {k : Nat} {d : Dev} : KeepsHolds d (drainDown k d) := by
  simp only [drainDown]
  exact .ite (keepsHolds_raise.after (keepsHolds_modSlot.after keepsHolds_modSlot)) keepsHolds_modSlot

theorem keepsHolds_dropCopy {p : Pkt} {d : Dev} : KeepsHolds d (dropCopy p d) := keepsHolds_drainDown

theorem keepsHolds_invalidTarget {p : Pkt} {d : Dev} : KeepsHolds d (invalidTarget p d) :=
  keepsHolds_dropCopy.after keepsHolds_count

theorem keepsHolds_replayDone {p : Pkt} {d : Dev} : KeepsHolds d (replayDone p d) := by
  simp only [replayDone]
  split
  · split
    · exact .ite keepsHolds_pieces .refl
    · exact .refl
  · exact .refl

/-- A copy dropped that may belong to a replay (R276, R374). -/
theorem keepsHolds_dropped {p : Pkt} {d : Dev} : KeepsHolds d (replayDone p (dropCopy p d)) :=
  keepsHolds_replayDone.after keepsHolds_dropCopy

theorem keepsHolds_hit {pipe k ruleId : Nat} {d : Dev} : KeepsHolds d (hit pipe k ruleId d) := rfl

theorem keepsHolds_dropHit {p : Pkt} {a : Actions} {d : Dev} : KeepsHolds d (dropHit p a d) := .ite keepsHolds_hit .refl

theorem keepsHolds_treeEcc {pipe k addr : Nat} {d : Dev} : KeepsHolds d (treeEcc pipe k addr d) := by
  simp only [treeEcc]
  exact keepsHolds_raise.after (.ite .refl (keepsHolds_setFld.after (keepsHolds_setFld.after keepsHolds_setFld)))

/-! ## Queues and policers (R328, R339, R343, R346, R347) -/

theorem keepsHolds_noteAdmitted {k : Nat} {p : QPkt} {d : Dev} : KeepsHolds d (noteAdmitted k p d) := keepsHolds_pieces

theorem keepsHolds_modQueue {q : Nat} {f : Queue → Queue} {d : Dev} : KeepsHolds d (modQueue q f d) := keepsHolds_pieces

theorem keepsHolds_spill {k i : Nat} {p : QPkt} {d : Dev} : KeepsHolds d (spill k i p d) := by
  have stored : ∀ f, KeepsHolds d (noteAdmitted k p (count .qSpilled (32 * k + i) (modQueue (upBase + 32 * k + i) f d))) :=
    fun _ => keepsHolds_noteAdmitted.after (keepsHolds_count.after keepsHolds_modQueue)
  have lost : ∀ f c n, KeepsHolds d (drainDown p.slot (raise f 0 (count c n d))) :=
    fun _ _ _ => keepsHolds_drainDown.after (keepsHolds_raise.after keepsHolds_count)
  simp only [spill]
  refine .ite (lost _ _ _) ?_
  split
  · exact stored _
  · refine .ite (lost _ _ _) ?_
    split
    · exact lost _ _ _
    · exact stored _

theorem keepsHolds_enqueueDown {port i : Nat} {p : QPkt} {d : Dev} : KeepsHolds d (enqueueDown port i p d) := by
  simp only [enqueueDown]
  refine .ite (keepsHolds_countN.after (keepsHolds_count.after keepsHolds_modQueue)) ?_
  exact keepsHolds_drainDown.after (keepsHolds_raise.after (.after (.ite keepsHolds_count .refl) keepsHolds_count))

theorem keepsHolds_enqueueUp {k i : Nat} {p : QPkt} {d : Dev} : KeepsHolds d (enqueueUp k i p d) := by
  simp only [enqueueUp]
  refine .ite ?_ keepsHolds_spill
  exact keepsHolds_noteAdmitted.after (keepsHolds_countN.after (keepsHolds_count.after keepsHolds_modQueue))

theorem keepsHolds_newStore {d : Dev} : KeepsHolds d (newStore d).2 := rfl

theorem keepsHolds_meter {i pre : Nat} {d : Dev} : KeepsHolds d (meter i pre d).1 := by
  have set : ∀ f, KeepsHolds d (modPolicer i f d) := fun _ => keepsHolds_pieces
  simp only [meter]
  split
  · exact keepsHolds_count.after (set _)
  · split
    · split
      · exact keepsHolds_count.after (keepsHolds_count.after (set _))
      · exact keepsHolds_count.after (set _)
    · split
      · exact keepsHolds_count.after (keepsHolds_count.after (set _))
      · exact keepsHolds_count.after (set _)

/-! ## The host packet path (R479, R481) -/

theorem keepsHolds_modRing {n : Nat} {f : RingIx → RingIx} {d : Dev} : KeepsHolds d (modRing n f d) := keepsHolds_pieces

theorem keepsHolds_writeBack {n : Nat} {d : Dev} : KeepsHolds d (writeBack n d) := by
  simp only [writeBack]
  split
  · exact keepsHolds_signal.after (.after (.ite .refl keepsHolds_emit) keepsHolds_modRing)
  · refine .after (.ite ?_ .refl) (.after (.ite .refl keepsHolds_emit) keepsHolds_modRing)
    exact .after (.foldl (fun _ _ => keepsHolds_signal) _ _) keepsHolds_pieces

theorem keepsHolds_readLine {n : Nat} {d : Dev} : KeepsHolds d (readLine n d) := by
  simp only [readLine]
  exact .ite keepsHolds_pieces .refl

theorem keepsHolds_ringStep {n : Nat} {d : Dev} : KeepsHolds d (ringStep n d) := by
  have stepped : ∀ f, KeepsHolds d (modRing n f (readLine n d)) := fun _ => keepsHolds_modRing.after keepsHolds_readLine
  simp only [ringStep]
  exact .ite (keepsHolds_writeBack.after (stepped _)) (stepped _)

theorem keepsHolds_bufferEntry {r : Nat} {d : Dev} : KeepsHolds d (bufferEntry r d).2 := by
  simp only [bufferEntry]
  split
  · exact .refl
  · exact keepsHolds_nextFree.after keepsHolds_nextFree

theorem keepsHolds_hostDeliver {reason queueNo ruleId inSrc flow : Nat} {stamp : Time} {bytes : List Byte} {d : Dev} :
    KeepsHolds d (hostDeliver reason queueNo ruleId inSrc flow stamp bytes d) := by
  simp only [hostDeliver]
  refine .ite keepsHolds_count (.ite keepsHolds_count (.ite keepsHolds_count ?_))
  refine keepsHolds_countN.after (keepsHolds_count.after (keepsHolds_ringStep.after (keepsHolds_ringStep.after ?_)))
  exact keepsHolds_emit.after (keepsHolds_emit.after keepsHolds_bufferEntry)

/-! ## Tables (R300, R303, R307, R315, R316, R322) -/

theorem keepsHolds_setMacEntry {loc : Nat} {ws : List Nat} {d : Dev} : KeepsHolds d (setMacEntry loc ws d) :=
  .foldl (fun _ _ => keepsHolds_pieces) _ _

theorem keepsHolds_tableErrorItem {trie : Bool} {a : Nat} {d : Dev} : KeepsHolds d (tableErrorItem trie a d) :=
  keepsHolds_post.after (keepsHolds_count.after keepsHolds_raise)

theorem keepsHolds_softReads {p : Nat → Bool} {d : Dev} : KeepsHolds d (softReads p d) := keepsHolds_countN

theorem keepsHolds_macScan {bucket : Nat} {d : Dev} : KeepsHolds d (macScan bucket d) :=
  .after (.foldl (fun _ _ => keepsHolds_tableErrorItem.after keepsHolds_setMacEntry) _ _) keepsHolds_softReads

theorem keepsHolds_macLookup {domain mac : Nat} {d : Dev} : KeepsHolds d (macLookup domain mac d).2 :=
  keepsHolds_macScan.after keepsHolds_macScan

theorem keepsHolds_setHit {loc : Nat} {d : Dev} : KeepsHolds d (setHit loc d) := .ite .refl keepsHolds_setMacEntry

theorem keepsHolds_trieUe {a : Nat} {d : Dev} : KeepsHolds d (trieUe a d) :=
  keepsHolds_tableErrorItem.after keepsHolds_pieces

theorem keepsHolds_learnNotify {reason pipe port dom mac oldPort loc : Nat} {at_ : Time} {d : Dev} :
    KeepsHolds d (learnNotify reason pipe port dom mac oldPort loc at_ d) :=
  .ite keepsHolds_count keepsHolds_pieces

theorem keepsHolds_learnSource {pipe port dom : Nat} {at_ : Time} {bs : List Byte} {d : Dev} :
    KeepsHolds d (learnSource pipe port dom at_ bs d).2 := by
  have looked : KeepsHolds d (macLookup dom (take0 bs 6 6) d).2 := keepsHolds_macLookup
  simp only [learnSource]
  split
  case h_1 found =>
    rw [found] at looked
    split
    · exact keepsHolds_count.after looked
    · exact keepsHolds_learnNotify.after looked
  case h_2 found =>
    rw [found] at looked
    split
    · exact keepsHolds_count.after looked
    · split
      · exact keepsHolds_setHit.after looked
      · split
        · exact keepsHolds_learnNotify.after (keepsHolds_setHit.after looked)
        · exact keepsHolds_learnNotify.after looked

theorem keepsHolds_forwardLookup {dom : Nat} {p : Parsed} {pipe : Nat} {bs : List Byte} {d : Dev} :
    KeepsHolds d (forwardLookup dom p pipe bs d).2.2 := by
  have routed : KeepsHolds d (trieLookup (p.l3 == 2) p.dst d).2 := keepsHolds_softReads
  have looked : KeepsHolds d (macLookup dom (take0 bs 0 6) d).2 := keepsHolds_macLookup
  have counted : ∀ {r : Dest} {x : List Byte} {c : CName} {e : Dev}, KeepsHolds d e →
      KeepsHolds d (r, x, count c pipe e).2.2 := fun h => keepsHolds_count.after h
  have missed : ∀ {e : Dev}, KeepsHolds d e → KeepsHolds d (if domainField e dom 4 = 1 then
      (Dest.host 2, bs, count .routeMisses pipe e) else (Dest.dropped, bs, count .routeMisses pipe e)).2.2 := fun h => by
    split
    · exact counted h
    · exact counted h
  simp only [forwardLookup]
  generalize trieLookup (p.l3 == 2) p.dst d = r at routed ⊢
  generalize macLookup dom (take0 bs 0 6) d = m at looked ⊢
  obtain ⟨way, b⟩ := m
  obtain ⟨hop, c⟩ := r
  split
  · split
    · exact counted .refl
    · cases hop with
      | poisoned => exact counted routed
      | uncorrectable x => exact counted (keepsHolds_trieUe.after routed)
      | miss => exact missed routed
      | hop n =>
        have read : ∀ {f}, KeepsHolds d (softReads f c) := keepsHolds_softReads.after routed
        dsimp only
        split
        · exact counted (keepsHolds_trieUe.after read)
        · split
          · exact counted read
          · split
            · exact missed read
            · exact counted read
  · cases way with
    | none => exact counted (keepsHolds_count.after looked)
    | some loc =>
      have hits : KeepsHolds d (count .macHits pipe (setHit loc b)) := keepsHolds_count.after (keepsHolds_setHit.after looked)
      dsimp only
      split
      · exact counted hits
      · exact hits

/-! ## Dispositions (R263, R266, R267, R280, R329) -/

theorem keepsHolds_toPort {p : Pkt} {key : List Nat} {bytes : List Byte} {egtag port i store : Nat} {marked : Bool} {d : Dev} :
    KeepsHolds d (toPort p key bytes egtag port i store marked d) := .ite keepsHolds_invalidTarget keepsHolds_enqueueDown

theorem keepsHolds_toLine {p : Pkt} {key : List Nat} {bytes : List Byte} {egtag flow k i store : Nat} {marked : Bool}
    {d : Dev} : KeepsHolds d (toLine p key bytes egtag flow k i store marked d) :=
  .ite keepsHolds_invalidTarget keepsHolds_enqueueUp

theorem keepsHolds_toHost {p : Pkt} {bytes : List Byte} {reason : Nat} {a : Actions} {d : Dev} :
    KeepsHolds d (toHost p bytes reason a d) := keepsHolds_dropCopy.after keepsHolds_hostDeliver

theorem keepsHolds_replicate {p : Pkt} {key : List Nat} {bytes : List Byte} {a : Actions} {ports : List Nat} {line host : Bool}
    {reason store : Nat} {marked : Bool} {d : Dev} :
    KeepsHolds d (replicate p key bytes a ports line host reason store marked d) := by
  simp only [replicate]
  refine .ite keepsHolds_dropCopy (.after (.ite keepsHolds_toHost .refl) (.after (.ite keepsHolds_toLine .refl) ?_))
  exact .after (.foldl (fun _ _ => keepsHolds_toPort) _ _) keepsHolds_drainUp

theorem keepsHolds_recirculate {p : Pkt} {a : Actions} {dom : Nat} {marked : Bool} {d : Dev} :
    KeepsHolds d (recirculate p a dom marked d) := by
  have waits : ∀ l, KeepsHolds d { d with cls := { d.cls with recirc := l } } := fun _ => rfl
  exact .ite (keepsHolds_dropped.after (keepsHolds_raise.after keepsHolds_count)) (keepsHolds_count.after (waits _))

theorem keepsHolds_doForward {p : Pkt} {key : List Nat} {bytes : List Byte} {a : Actions} {dom : Nat} {copy marked : Bool}
    {d : Dev} : KeepsHolds d (doForward p key bytes a dom copy marked d) := by
  simp only [doForward]
  cases p.liveMask with
  | some x => exact keepsHolds_replicate.after (.after (.ite keepsHolds_count .refl) keepsHolds_newStore)
  | none =>
    refine .after (.ite keepsHolds_dropCopy ?sent) ?learned
    case learned =>
      split
      · split
        · exact keepsHolds_learnSource.after keepsHolds_newStore
        · exact keepsHolds_newStore
      · exact keepsHolds_newStore
    case sent =>
      have hosted : ∀ {e : Dev}, KeepsHolds e (if copy = true then toHost p bytes 1 a (drainUp p.slot 1 e) else e) :=
        .ite (keepsHolds_toHost.after keepsHolds_drainUp) .refl
      generalize looked : forwardLookup dom _ p.pipe bytes _ = r
      replace looked := hosted.after (looked ▸ keepsHolds_forwardLookup)
      cases r.1 with
      | dropped => exact keepsHolds_dropCopy.after looked
      | bad => exact keepsHolds_dropCopy.after (keepsHolds_count.after looked)
      | host reason => exact keepsHolds_toHost.after looked
      | line => exact keepsHolds_toLine.after looked
      | port n => exact .ite (keepsHolds_dropCopy.after (keepsHolds_count.after looked)) (keepsHolds_toPort.after looked)
      | members g => exact keepsHolds_replicate.after (.ite (keepsHolds_count.after looked) (keepsHolds_countN.after looked))

theorem keepsHolds_applyActions {p : Pkt} {key : List Nat} {a : Actions} {d : Dev} :
    KeepsHolds d (applyActions p key a d) := by
  have metered : KeepsHolds d (if a.polEn = true then meter a.policer a.colour d else (d, false, false)).1 := by
    split
    · exact keepsHolds_meter
    · exact .refl
  simp only [applyActions]
  generalize (if a.polEn = true then meter a.policer a.colour d else (d, false, false)) = m at metered ⊢
  obtain ⟨e, dropped, mark⟩ := m
  refine .after (b := e) ?_ metered
  refine .ite keepsHolds_dropped (.ite keepsHolds_recirculate ?_)
  split
  · refine .ite keepsHolds_dropped (.ite (keepsHolds_dropped.after keepsHolds_count) ?_)
    exact keepsHolds_replayDone.after (keepsHolds_toPort.after keepsHolds_newStore)
  · split
    · exact keepsHolds_dropCopy
    · exact keepsHolds_doForward
    · exact keepsHolds_toLine.after keepsHolds_newStore
    · exact .ite keepsHolds_invalidTarget (keepsHolds_toPort.after keepsHolds_newStore)
    · exact keepsHolds_toHost
    · exact keepsHolds_doForward
    · exact keepsHolds_dropCopy.after keepsHolds_count

/-! ## The overflow action (R284) -/

theorem keepsHolds_applyDefault {p : Pkt} {key : List Nat} {d : Dev} : KeepsHolds d (applyDefault p key d) := by
  simp only [applyDefault]
  split
  · exact keepsHolds_dropped.after keepsHolds_count
  · exact keepsHolds_dropped.after (keepsHolds_treeEcc.after keepsHolds_count)
  · exact keepsHolds_applyActions.after keepsHolds_dropHit

theorem keepsHolds_fragOverflow {p : Pkt} {key : List Nat} {d : Dev} : KeepsHolds d (fragOverflow p key d) := by
  simp only [fragOverflow]
  exact .ite (keepsHolds_applyDefault.after keepsHolds_count) (keepsHolds_dropped.after keepsHolds_count)

end Sys2Proof.Proofs
end

section
/-!
PROOF. The tree window, the tree scrubber and the timers of fragments (R269, R273, R284, R285, R289): a word of tree memory after a
write, a refusal and a scrub, and what the two timers leave of their tables.
-/

namespace Sys2Proof.Proofs

open Sys2Proof Sys2Proof.Machine Sys2Proof.Laws

/-! ## Activity leaves the trees (R548) -/

@[simp] theorem idleExit_part (d : Dev) : (idleExit d).part = d.part := by
  obtain ⟨w, awake⟩ := idleExit_eq d
  rw [awake]

@[simp] theorem idleExit_cls (d : Dev) : (idleExit d).cls = d.cls := by
  obtain ⟨w, awake⟩ := idleExit_eq d
  rw [awake]

@[simp] theorem idleExit_regs (d : Dev) : (idleExit d).regs = d.regs := by
  obtain ⟨w, awake⟩ := idleExit_eq d
  rw [awake]

@[simp] theorem fld_idleExit (d : Dev) (f : Fld) (i : Nat) : fld (idleExit d) f i = fld d f i :=
  fld_of_regs (idleExit_regs d) f i

@[simp] theorem treeWritable_idleExit (d : Dev) (p : Path) (pipe addr : Nat) :
    treeWritable (idleExit d) p pipe addr = treeWritable d p pipe addr := by
  obtain ⟨w, awake⟩ := idleExit_eq d
  rw [awake]
  rfl

/-! ## The tree window (R273, R289) -/

theorem treeWord_of_cls {a b : Dev} (h : b.cls = a.cls) (pipe addr : Nat) : treeWord b pipe addr = treeWord a pipe addr := by
  simp only [treeWord, h]

/-- A tree word that was written reads good and as written. -/
theorem treeWrite_of_writable {p : Path} {pipe addr : Nat} {w : Word} {d : Dev} (present : pipe < d.part.pipes)
    (within : addr < 2 ^ 20) (h : treeWritable d p pipe addr = true) :
    (treeWrite p pipe addr w d).1 = true ∧ treeWord (treeWrite p pipe addr w d).2 pipe addr = some w.toNat := by
  rw [treeWrite, if_pos ⟨present, within, h⟩]
  exact ⟨rfl, by simp [treeWord]⟩

theorem treeWrite_refused {p : Path} {pipe addr : Nat} {w : Word} {d : Dev} (h : treeWritable d p pipe addr = false) :
    treeWrite p pipe addr w d = (false, count .winRefused 0 d) := by
  simp [treeWrite, h]

/-- The window's address is kept modulo its width. -/
theorem fld_winAddr_set (v : Nat) (d : Dev) : fld (setFld fCL_WIN_ADDR_ADDR 0 v d) fCL_WIN_ADDR_ADDR 0 = v % 2 ^ 20 :=
  fld_setFld_same _ _ _ _ (by decide) (by decide)

theorem windowWrite_stores {w : Word} {d : Dev} (present : fld d fCL_WIN_ADDR_PIPE 0 < d.part.pipes)
    (writable : treeWritable d .l (fld d fCL_WIN_ADDR_PIPE 0) (fld d fCL_WIN_ADDR_ADDR 0) = true) :
    treeWord (windowWrite w d) (fld d fCL_WIN_ADDR_PIPE 0) (fld d fCL_WIN_ADDR_ADDR 0) = some w.toNat ∧
      fld (windowWrite w d) fCL_WIN_ADDR_ADDR 0 = (fld d fCL_WIN_ADDR_ADDR 0 + 1) % 2 ^ 20 := by
  have within : fld d fCL_WIN_ADDR_ADDR 0 < 2 ^ 20 := Nat.mod_lt _ (by decide)
  obtain ⟨taken, written⟩ := treeWrite_of_writable (w := w) present within writable
  simp only [windowWrite, taken, if_true]
  exact ⟨by rw [treeWord_of_cls (setFld_cls _ _ _ _), written], fld_winAddr_set _ _⟩

theorem windowWrite_refuses {w : Word} {d : Dev}
    (barred : treeWritable d .l (fld d fCL_WIN_ADDR_PIPE 0) (fld d fCL_WIN_ADDR_ADDR 0) = false) :
    (windowWrite w d).cls = d.cls ∧ fld (windowWrite w d) fCL_WIN_STATUS_REFUSED 0 = 1 ∧
      fld (windowWrite w d) fCL_WIN_ADDR_ADDR 0 = (fld d fCL_WIN_ADDR_ADDR 0 + 1) % 2 ^ 20 := by
  simp only [windowWrite, treeWrite_refused barred, Bool.false_eq_true, if_false]
  refine ⟨?_, ?_, fld_winAddr_set _ _⟩
  · rw [setFld_cls, setFld_cls, count_cls]
  · rw [fld_setFld_ne _ _ _ _ _ _ (by decide) (by decide) (by decide)]
    exact fld_setFld_same _ _ _ _ (by decide) (by decide)

theorem windowDataWrite_stores (w : Word) : Runs (.windowDataWrite w)
    (fun a => fld a fCL_WIN_ADDR_PIPE 0 < a.part.pipes ∧
      treeWritable a .l (fld a fCL_WIN_ADDR_PIPE 0) (fld a fCL_WIN_ADDR_ADDR 0) = true)
    (fun a d => treeWord d (fld a fCL_WIN_ADDR_PIPE 0) (fld a fCL_WIN_ADDR_ADDR 0) = some w.toNat ∧
      fld d fCL_WIN_ADDR_ADDR 0 = (fld a fCL_WIN_ADDR_ADDR 0 + 1) % 2 ^ 20) :=
  runs_of (exec_windowDataWrite w) fun a ⟨present, writable⟩ => by
    have stored := windowWrite_stores (w := w) (d := idleExit a)
    simp only [fld_idleExit, idleExit_part, treeWritable_idleExit] at stored
    exact stored present writable

theorem windowDataWrite_refuses (w : Word) : Runs (.windowDataWrite w)
    (fun a => treeWritable a .l (fld a fCL_WIN_ADDR_PIPE 0) (fld a fCL_WIN_ADDR_ADDR 0) = false)
    (fun a d => d.cls = a.cls ∧ fld d fCL_WIN_STATUS_REFUSED 0 = 1 ∧
      fld d fCL_WIN_ADDR_ADDR 0 = (fld a fCL_WIN_ADDR_ADDR 0 + 1) % 2 ^ 20) :=
  runs_of (exec_windowDataWrite w) fun a barred => by
    have refused := windowWrite_refuses (w := w) (d := idleExit a)
    simp only [fld_idleExit, idleExit_cls, treeWritable_idleExit] at refused
    exact refused barred

theorem windowStatusRead_clears : Runs .windowStatusRead (fun _ => True)
    (fun a d => d.emitted.head? = some (.barRead (regOffset .clWinStatus 0) (reg a .clWinStatus 0)) ∧
      fld d fCL_WIN_STATUS_REFUSED 0 = 0) :=
  runs_of exec_windowStatusRead fun a _ => by
    rw [windowStatusRead, reg_of_regs (idleExit_regs a), fld_emit, fld_setFld_same _ _ _ _ (by decide) (by decide)]
    exact ⟨rfl, Nat.zero_mod _⟩

/-! ## The tree scrubber (R269) -/

@[simp] theorem treeEcc_cls (pipe k addr : Nat) (d : Dev) : (treeEcc pipe k addr d).cls = d.cls := by
  rw [treeEcc, raise_cls]
  split
  · rfl
  · rw [setFld_cls, setFld_cls, setFld_cls]

theorem fld_treeEcc_event (pipe k addr : Nat) (d : Dev) : fld (treeEcc pipe k addr d) fCL_EVENT_TREE_ECC 0 = 1 := by
  rw [treeEcc, fld_raise_same _ _ _ (by decide) (by decide)]

theorem treeScrub_marks (p : Fin 4) (x : BitVec 20) : Runs (.treeScrub p x .uncorrectable)
    (fun a => p.val < a.part.pipes)
    (fun _ d => treeWord d p x.toNat = none ∧ fld d fCL_EVENT_TREE_ECC 0 = 1) :=
  runs_of (exec_treeScrub p x .uncorrectable) fun a present => by
    have here : EccResult.uncorrectable = .uncorrectable ∧ p.val < (idleExit a).part.pipes := ⟨rfl, by rwa [idleExit_part]⟩
    rw [treeScrub, if_pos here, treeWord_of_cls (treeEcc_cls _ _ _ _), fld_treeEcc_event]
    exact ⟨by simp [treeWord], rfl⟩

theorem treeScrub_leaves (p : Fin 4) (x : BitVec 20) (e : EccResult) : Runs (.treeScrub p x e)
    (fun _ => e ≠ .uncorrectable) (fun a d => d = idleExit a) :=
  runs_of (exec_treeScrub p x e) fun _ sound => if_neg fun ⟨bad, _⟩ => sound bad

/-! ## The timers of fragments (R284, R285) -/

@[simp] theorem holdBuffer_setHoldBuffer_same (pipe : Nat) (l : List HeldFrag) (d : Dev) :
    holdBuffer (setHoldBuffer pipe l d) pipe = l := agetD_aputD_same _ _ _ _

theorem holdBuffer_of_keeps {a b : Dev} (h : KeepsHolds a b) (pipe : Nat) : holdBuffer b pipe = holdBuffer a pipe := by
  rw [holdBuffer, h, holdBuffer]

theorem fragmentHoldTimeout_releases (t : Time) (p : Fin 4) : RunsAt (.fragmentHoldTimeout t p) t
    (fun _ => True)
    (fun a d => holdBuffer d p = (holdBuffer a p).filter
      (fun h => decide (a.now < h.since + fld a fCL_FRAG_CTRL_HOLD_TIME p * Config.us))) := by
  refine runsAt_of (exec_fragmentHoldTimeout t p) fun a _ => ?_
  simp only [holdTimeout]
  rw [holdBuffer_of_keeps (.foldl (fun _ _ => ?given) _ _), holdBuffer_setHoldBuffer_same]
  case given => exact .ite (keepsHolds_dropped.after keepsHolds_count) (keepsHolds_fragOverflow.after keepsHolds_count)
  simp only [← decide_not, Nat.not_le]

theorem fragmentEntryExpiry_expires (t : Time) (p : Fin 4) : RunsAt (.fragmentEntryExpiry t p) t
    (fun _ => True)
    (fun a d => agetD d.cls.frags p [] = (agetD a.cls.frags p []).filter
      (fun e => decide (a.now < e.at_ + fld a fCL_FRAG_CTRL_EXPIRY p * Config.ms))) :=
  runsAt_of (exec_fragmentEntryExpiry t p) fun _ _ => agetD_aputD_same _ _ _ _

/-- Settles O25: a refused write and a sound scrub leave the trees, a stored or marked word reads so whatever events are raised
beside it; the overflow action sends or drops a fragment by ways that hold no other. -/
theorem treeAndFragments : Obligations.TreeAndFragments :=
  ⟨windowDataWrite_stores, windowDataWrite_refuses, windowStatusRead_clears, treeScrub_marks, treeScrub_leaves,
    fragmentHoldTimeout_releases, fragmentEntryExpiry_expires⟩

end Sys2Proof.Proofs
end

section
/-!
PROOF. What a counted or raised event leaves of what left the part and of the drawers, and what an item posted adds to its
drawer (R483, R494, R574, R575, R584).
-/

namespace Sys2Proof.Proofs

open Sys2Proof Sys2Proof.Machine Sys2Proof.Laws

/-! ## Events -/

/-- From device a to device b no drawer changed, and whatever had left the part is still listed. -/
structure KeepsPosted (a b : Dev) : Prop where
  drawers : b.host.drawers = a.host.drawers
  listed : ∀ e ∈ a.emitted, e ∈ b.emitted

theorem KeepsPosted.refl {d : Dev} : KeepsPosted d d := ⟨rfl, fun _ h => h⟩

/-- A last step joined to those before it, found from the device that it leads to. -/
theorem KeepsPosted.after {a b c : Dev} (k : KeepsPosted b c) (h : KeepsPosted a b) : KeepsPosted a c :=
  ⟨k.drawers.trans h.drawers, fun e he => k.listed e (h.listed e he)⟩

theorem KeepsPosted.ite {a b c : Dev} {p : Prop} [Decidable p] (h : KeepsPosted a b) (k : KeepsPosted a c) :
    KeepsPosted a (if p then b else c) := by
  split
  · exact h
  · exact k

theorem KeepsPosted.foldl {β : Type} {f : Dev → β → Dev} (h : ∀ d x, KeepsPosted d (f d x)) :
    ∀ (l : List β) (d : Dev), KeepsPosted d (l.foldl f d)
  | [], _ => .refl
  | x :: l, d => (KeepsPosted.foldl h l (f d x)).after (h d x)

/-- A change of registers, counters and forwarding. -/
theorem keepsPosted_pieces {d : Dev} {regs cnt fwd} : KeepsPosted d { d with regs := regs, cnt := cnt, fwd := fwd } :=
  ⟨rfl, fun _ h => h⟩

theorem keepsPosted_signal {v : Nat} {d : Dev} : KeepsPosted d (signal v d) :=
  .ite ⟨rfl, fun _ h => List.mem_cons_of_mem _ h⟩ (.ite .refl ⟨rfl, fun _ h => h⟩)

theorem keepsPosted_raise {f : Fld} {i : Nat} {d : Dev} : KeepsPosted d (raise f i d) :=
  .ite (keepsPosted_signal.after keepsPosted_pieces) keepsPosted_pieces

theorem keepsPosted_raiseIf {c : Bool} {f : Fld} {i : Nat} {d : Dev} : KeepsPosted d (raiseIf c f i d) :=
  .ite keepsPosted_raise .refl

theorem keepsPosted_selWrap {k : Nat} {d : Dev} : KeepsPosted d (selWrap k d) := keepsPosted_raise.after keepsPosted_pieces

theorem keepsPosted_selAdd {k n : Nat} {d : Dev} : KeepsPosted d (selAdd k n d) := by
  have put : ∀ {k v : Nat} {d : Dev}, KeepsPosted d (selPut k v d) := keepsPosted_pieces
  have carried : ∀ w, KeepsPosted d (selPut (k + 1) w (selWrap k (selPut k ((agetD d.cnt.sel k 0).toNat + n) d))) := fun _ =>
    put.after (keepsPosted_selWrap.after put)
  exact .ite put (.ite (.ite (carried _) (keepsPosted_selWrap.after (carried _))) (keepsPosted_selWrap.after put))

theorem keepsPosted_selFeed {p : Nat → Bool} {n m : Nat} {d : Dev} : KeepsPosted d (selFeed p n m d) :=
  .foldl (fun _ _ => .ite keepsPosted_selAdd .refl) _ _

theorem keepsPosted_wrapFlag {n : Option Nat} {d : Dev} : KeepsPosted d (wrapFlag n d) := by
  cases n with
  | none => exact .refl
  | some _ => exact keepsPosted_pieces

theorem keepsPosted_countN {c : CName} {k n : Nat} {d : Dev} : KeepsPosted d (countN c k n d) := by
  simp only [countN]
  have fed : ∀ {p : Nat → Bool} {m : Nat} {e : Dev}, KeepsPosted d e →
      KeepsPosted d (if selActive e then selFeed p n m e else e) := fun h => .after (.ite keepsPosted_selFeed .refl) h
  exact .ite .refl (.ite (fed keepsPosted_pieces) (keepsPosted_raise.after (keepsPosted_wrapFlag.after (fed keepsPosted_pieces))))

theorem keepsPosted_count {c : CName} {k : Nat} {d : Dev} : KeepsPosted d (count c k d) := keepsPosted_countN

/-! ## Drawers -/

theorem drawer_of_drawers {a b : Dev} (h : b.host.drawers = a.host.drawers) (n : Nat) : drawer b n = drawer a n := by
  rw [drawer, h, drawer]

/-- The level rule leaves a drawer's items (R488). -/
theorem items_levelCheck (n : Nat) (d : Dev) : (drawer (levelCheck n d) n).items = (drawer d n).items := by
  simp only [levelCheck]
  split
  · rfl
  · split
    · rw [drawer_setDrawer_same]
    · split
      · split
        · rw [drawer_setDrawer_same]
        · rw [drawer_of_drawers keepsPosted_signal.drawers, drawer_setDrawer_same]
      · rfl

/-- An item that a drawer has room for enters behind the others (R483). -/
theorem items_post {n : Nat} {d : Dev} (room : drawerRoom d n = true) (item : List Word) :
    (drawer (post n item d) n).items = (drawer d n).items ++ [item] := by
  simp only [post, room, Bool.not_true, Bool.false_eq_true, if_false]
  rw [items_levelCheck, drawer_of_drawers keepsPosted_count.drawers, drawer_setDrawer_same]

end Sys2Proof.Proofs
end

section
/-!
PROOF. The forwarding tables (R297, R298, R311, R322): what a word reads after a write of an entry or of several words, the bits
of an entry written with one of them changed, what a read of sound words leaves of the tables, and how an uncorrectable word is
told.
-/

namespace Sys2Proof.Proofs

open Sys2Proof Sys2Proof.Machine Sys2Proof.Laws

/-! ## Words written -/

/-- Places written one after the other: each reads as written, where a write is read at its own place alone. -/
theorem foldl_writes {put : Dev → Nat → Dev} {look : Dev → Nat → Nat} {v : Nat → Nat} (same : ∀ d i, look (put d i) i = v i)
    (other : ∀ d i j, j ≠ i → look (put d i) j = look d j) (d : Dev) :
    ∀ n i, i < n → look ((List.range n).foldl put d) i = v i
  | 0, _, h => absurd h (Nat.not_lt_zero _)
  | n + 1, i, h => by
    rw [List.range_succ, List.foldl_append, List.foldl_cons, List.foldl_nil]
    by_cases last : i = n
    · rw [last, same]
    · rw [other _ _ _ last, foldl_writes same other d n i (by omega)]

theorem macEntry_of_mac {a b : Dev} (h : b.fwd.mac = a.fwd.mac) (loc : Nat) : macEntry b loc = macEntry a loc := by
  simp only [macEntry, macWord, h]

theorem trieWord_of_trie {a b : Dev} (h : b.fwd.trie = a.fwd.trie) (addr : Nat) : trieWord b addr = trieWord a addr := by
  rw [trieWord, h, trieWord]

/-- An entry has a word 1. -/
theorem one_lt_length_macEntry (d : Dev) (loc : Nat) : 1 < (macEntry d loc).length := by simp [macEntry]

/-- Writing an entry touches the table and the marks of words in error alone (R311). -/
theorem setMacEntry_eq (loc : Nat) (ws : List Nat) (d : Dev) : ∃ mac bad soft,
    setMacEntry loc ws d = { d with fwd := { d.fwd with mac := mac, bad := bad, soft := soft } } := ⟨_, _, _, rfl⟩

/-- An entry reads as written, in words of 48 bits (R297). -/
theorem macEntry_setMacEntry (loc : Nat) (ws : List Nat) (d : Dev) :
    macEntry (setMacEntry loc ws d) loc = (List.range 4).map (fun i => (BitVec.ofNat 48 (ws.getD i 0)).toNat) := by
  refine List.map_congr_left fun i hi => ?_
  refine foldl_writes (look := fun d i => macWord d (4 * loc + i)) (v := fun i => (BitVec.ofNat 48 (ws.getD i 0)).toNat)
    (fun d j => ?_) (fun d j k apart => ?_) d 4 i (List.mem_range.1 hi)
  · rw [macWord, agetD_aputD_same]
  · simp only [macWord]
    rw [agetD_aputD_ne _ _ _ _ (by omega)]

/-- The bits of word 1 of an entry just written. -/
theorem testBit_setMacEntry {k : Nat} (hk : k < 48) (loc : Nat) (ws : List Nat) (d : Dev) :
    ((macEntry (setMacEntry loc ws d) loc).getD 1 0).testBit k = (ws.getD 1 0).testBit k := by
  rw [macEntry_setMacEntry]
  exact (Nat.testBit_mod_two_pow _ 48 k).trans (by simp [hk])

/-- The bits of word 1 with one of them set (R298). -/
theorem testBit_withBit1 {ws : List Nat} (h : 1 < ws.length) (n k : Nat) (b : Bool) :
    ((withBit1 ws n b).getD 1 0).testBit k = if k = n then b else (ws.getD 1 0).testBit k := by
  match ws with
  | w :: v :: l =>
    refine (testBit_withBits v n n b.toNat k le_rfl).trans ?_
    by_cases hk : k = n
    · subst hk
      cases b <;> simp
    · rw [if_neg (by omega), if_neg hk]
      rfl

theorem length_withBit1 (ws : List Nat) (n : Nat) (b : Bool) : (withBit1 ws n b).length = ws.length := by
  match ws with
  | [] | [_] | _ :: _ :: _ => rfl

/-- The bits of word 1 of an entry written back with one of them changed. -/
theorem testBit_macEntry_withBit1 {ws : List Nat} (h : 1 < ws.length) {k : Nat} (hk : k < 48) (loc n : Nat) (b : Bool) (d : Dev) :
    ((macEntry (setMacEntry loc (withBit1 ws n b) d) loc).getD 1 0).testBit k = if k = n then b else (ws.getD 1 0).testBit k :=
  (testBit_setMacEntry hk _ _ _).trans (testBit_withBit1 h n k b)

/-- An entry whose VALID was cleared is not in use. -/
theorem macValid_cleared (loc : Nat) (d : Dev) :
    macValid (macEntry (setMacEntry loc (withBit1 (macEntry d loc) 47 false) d) loc) = false :=
  testBit_macEntry_withBit1 (one_lt_length_macEntry d loc) (by decide) loc 47 false d

theorem trieWord_setTrieWord_same (addr v : Nat) (d : Dev) : trieWord (setTrieWord addr v d) addr = v % 2 ^ 48 := by
  rw [trieWord, setTrieWord, agetD_aputD_same, BitVec.toNat_ofNat]

theorem trieWord_setTrieWord_ne {addr other : Nat} (h : other ≠ addr) (v : Nat) (d : Dev) :
    trieWord (setTrieWord addr v d) other = trieWord d other := congrArg BitVec.toNat (agetD_aputD_ne _ _ _ _ h)

/-! ## Words read -/

/-- From device a to device b tables were read or visited: marks of correctable words and of locked ways moved, and registers of
counters, and nothing else of the tables or of the registers. -/
structure ReadsTables (a b : Dev) : Prop where
  fwd : ∃ soft seen, b.fwd = { a.fwd with soft := soft, lockedSeen := seen }
  regs : KeepRegs countRegs a b

theorem ReadsTables.of_same {a b : Dev} (fwd : b.fwd = a.fwd) (regs : KeepRegs countRegs a b) : ReadsTables a b :=
  ⟨⟨a.fwd.soft, a.fwd.lockedSeen, fwd⟩, regs⟩

theorem ReadsTables.after {a b c : Dev} (k : ReadsTables b c) (h : ReadsTables a b) : ReadsTables a c := by
  obtain ⟨⟨_, _, hfwd⟩, hregs⟩ := h
  obtain ⟨⟨soft, seen, kfwd⟩, kregs⟩ := k
  exact ⟨⟨soft, seen, by rw [kfwd, hfwd]⟩, KeepRegs_mono (KeepRegs_trans hregs kregs) (by simp)⟩

section
variable {a b : Dev} (h : ReadsTables a b)
include h

theorem ReadsTables.same_mac : b.fwd.mac = a.fwd.mac := by
  obtain ⟨_, _, hfwd⟩ := h.fwd
  rw [hfwd]

theorem ReadsTables.same_trie : b.fwd.trie = a.fwd.trie := by
  obtain ⟨_, _, hfwd⟩ := h.fwd
  rw [hfwd]

theorem ReadsTables.same_bad : b.fwd.bad = a.fwd.bad := by
  obtain ⟨_, _, hfwd⟩ := h.fwd
  rw [hfwd]

theorem ReadsTables.same_sweep : b.fwd.sweep = a.fwd.sweep := by
  obtain ⟨_, _, hfwd⟩ := h.fwd
  rw [hfwd]

theorem ReadsTables.same_ring1Head : b.fwd.ring1Head = a.fwd.ring1Head := by
  obtain ⟨_, _, hfwd⟩ := h.fwd
  rw [hfwd]

theorem ReadsTables.same_fld {f : Fld} {i : Nat} (hr : f.reg ∉ countRegs) (hi : i < (regPlace f.reg).2.2) :
    fld b f i = fld a f i := by
  rw [fld, h.regs _ _ hr hi, fld]

theorem ReadsTables.same_entry (loc : Nat) : macEntry b loc = macEntry a loc := macEntry_of_mac h.same_mac loc

theorem ReadsTables.same_hash0 (k : Nat) : hash0 b k = hash0 a k := by
  rw [hash0, h.same_fld (by decide) (by decide), hash0]

theorem ReadsTables.same_hash1 (k : Nat) : hash1 b k = hash1 a k := by
  simp only [hash1, h.same_hash0, h.same_fld (f := fFW_HASH_SEED1) (i := 0) (by decide) (by decide)]

theorem ReadsTables.same_find (domain mac : Nat) : macFind? b domain mac = macFind? a domain mac := by
  simp only [macFind?, h.same_hash0, h.same_hash1, h.same_entry]

end

theorem readsTables_idleExit (d : Dev) : ReadsTables d (idleExit d) := by
  obtain ⟨w, awake⟩ := idleExit_eq d
  rw [awake]
  exact .of_same rfl (KeepRegs_of_eq rfl)

/-- An execution that finds no uncorrectable word leaves none marked. -/
theorem readsTables_meetErrors {soft : List Nat} {d : Dev} (sound : d.fwd.bad = []) : ReadsTables d (meetErrors ⟨[], soft⟩ d) := by
  refine ⟨⟨(soft ++ d.fwd.soft).eraseDups, d.fwd.lockedSeen, ?_⟩, KeepRegs_of_eq rfl⟩
  simp [meetErrors, sound]

theorem readsTables_softReads (p : Nat → Bool) (d : Dev) : ReadsTables d (softReads p d) :=
  .of_same (countN_fwd _ _ _ _) (frame_countN _ _ _ _).2

/-- A bucket without an uncorrectable word. -/
theorem readsTables_macScan {bucket : Nat} {d : Dev} (sound : d.fwd.bad = []) : ReadsTables d (macScan bucket d) := by
  simp only [macScan, sound, List.filter_nil, List.foldl_nil]
  exact readsTables_softReads _ _

/-- A lookup in sound buckets answers the way that holds the key (R300). -/
theorem macLookup_of_sound {d : Dev} (sound : d.fwd.bad = []) (domain mac : Nat) :
    ∃ b, ReadsTables d b ∧ macLookup domain mac d = (macFind? d domain mac, b) := by
  have first : ReadsTables d (macScan (hash0 d (macKey domain mac)) d) := readsTables_macScan sound
  have both := (readsTables_macScan (bucket := hash1 d (macKey domain mac)) (first.same_bad.trans sound)).after first
  exact ⟨_, both, by rw [macLookup, both.same_find]⟩

/-! ## Uncorrectable words (R322, R323) -/

@[simp] theorem tableErrorItem_fwd (trie : Bool) (addr : Nat) (d : Dev) : (tableErrorItem trie addr d).fwd = d.fwd := by
  rw [tableErrorItem, post_fwd, count_fwd, raise_fwd]

@[simp] theorem macEntry_tableErrorItem (trie : Bool) (addr : Nat) (d : Dev) (loc : Nat) :
    macEntry (tableErrorItem trie addr d) loc = macEntry d loc := macEntry_of_mac (by rw [tableErrorItem_fwd]) loc

@[simp] theorem trieWord_tableErrorItem (trie : Bool) (addr : Nat) (d : Dev) (other : Nat) :
    trieWord (tableErrorItem trie addr d) other = trieWord d other := trieWord_of_trie (by rw [tableErrorItem_fwd]) other

theorem fld_tableErrorItem_event (trie : Bool) (addr : Nat) (d : Dev) :
    fld (tableErrorItem trie addr d) fFW_EVENT_TABLE_ECC 0 = 1 := by
  rw [tableErrorItem, Frame_fld (keepsClusters_post (by decide)).frame (by decide) (by decide),
    fld_count _ _ _ (by decide) (by decide), fld_raise_same _ _ _ (by decide) (by decide)]

end Sys2Proof.Proofs
end

section
/-!
PROOF. Descriptors of the forwarding tables (R309 to R312): how a finished descriptor is answered, that one without an
uncorrectable word finds the tables as they stood, and what each operation leaves of its entry or words.
-/

namespace Sys2Proof.Proofs

open Sys2Proof Sys2Proof.Machine Sys2Proof.Laws

/-! ## Answers (R312) -/

theorem dscAt_of_ring {a b : Dev} (regs : b.regs = a.regs) (head : b.fwd.ring1Head = a.fwd.ring1Head) (x : Descriptor) :
    dscAt b x = dscAt a x := by
  simp only [dscAt, fld_of_regs regs, head]

theorem ReadsTables.same_dscAt {a b : Dev} (h : ReadsTables a b) (x : Descriptor) : dscAt b x = dscAt a x := by
  simp only [dscAt, h.same_ring1Head, h.same_fld (f := fFW_RING_BASE_BASE) (i := 0) (by decide) (by decide),
    h.same_fld (f := fFW_RING_HEAD_HEAD) (i := 0) (by decide) (by decide)]

theorem dscAt_setMacEntry (loc : Nat) (ws : List Nat) (d : Dev) (x : Descriptor) :
    dscAt (setMacEntry loc ws d) x = dscAt d x := by
  obtain ⟨_, _, _, written⟩ := setMacEntry_eq loc ws d
  exact dscAt_of_ring (by rw [written]) (by rw [written]) x

/-- After its answer a descriptor only counts, raises its error and advances its ring. -/
theorem keepsPosted_dscDone (x : Descriptor) (status addr : Nat) (buf : List Nat) (d : Dev) :
    KeepsPosted (emit (.descriptor x.ring1 (dscAt d x) status (BitVec.ofNat 48 addr) x.w3 (8 * x.w2.toNat)
      (buf.map (BitVec.ofNat 48))) d) (dscDone x status addr buf d) := by
  have counted := fun e => (keepsPosted_count (c := .fwDescriptors) (k := 0)).after
    (keepsPosted_raiseIf (c := status == 4 || status == 5) (f := fFW_EVENT_DESC_ERR) (i := 0) (d := e))
  exact .ite (keepsPosted_pieces.after (counted _)) (keepsPosted_pieces.after (counted _))

/-- A finished descriptor was answered at its place in the ring with its status, location and buffer. -/
theorem dscDone_answers {a d : Dev} {x : Descriptor} (place : dscAt d x = dscAt a x) (status addr : Nat) (buf : List Nat) :
    (dscDone x status addr buf d).emitted.contains (.descriptor x.ring1 (dscAt a x) status (BitVec.ofNat 48 addr) x.w3
      (8 * x.w2.toNat) (buf.map (BitVec.ofNat 48))) = true := by
  rw [List.contains_iff_mem, ← place]
  exact (keepsPosted_dscDone x status addr buf d).listed _ List.mem_cons_self

/-- So was one that answers the location it came with. -/
theorem dscDone_answers_addr {a d : Dev} {x : Descriptor} (place : dscAt d x = dscAt a x) (status : Nat) (buf : List Nat) :
    (dscDone x status x.w1.toNat buf d).emitted.contains (.descriptor x.ring1 (dscAt a x) status x.w1 x.w3
      (8 * x.w2.toNat) (buf.map (BitVec.ofNat 48))) = true := by
  have answered := dscDone_answers place status x.w1.toNat buf
  rwa [BitVec.ofNat_toNat, BitVec.setWidth_eq] at answered

/-- The end of a descriptor moves nothing of the tables but ring 1's head. -/
theorem dscDone_fwd (x : Descriptor) (status addr : Nat) (buf : List Nat) (d : Dev) :
    ∃ head, (dscDone x status addr buf d).fwd = { d.fwd with ring1Head := head } := by
  simp only [dscDone]
  split
  · exact ⟨_, by rw [count_fwd, raiseIf_fwd, emit_fwd]⟩
  · exact ⟨d.fwd.ring1Head, by rw [setFld_fwd, count_fwd, raiseIf_fwd, emit_fwd]⟩

@[simp] theorem dscDone_mac (x : Descriptor) (status addr : Nat) (buf : List Nat) (d : Dev) :
    (dscDone x status addr buf d).fwd.mac = d.fwd.mac := by
  obtain ⟨_, ended⟩ := dscDone_fwd x status addr buf d
  rw [ended]

@[simp] theorem dscDone_trie (x : Descriptor) (status addr : Nat) (buf : List Nat) (d : Dev) :
    (dscDone x status addr buf d).fwd.trie = d.fwd.trie := by
  obtain ⟨_, ended⟩ := dscDone_fwd x status addr buf d
  rw [ended]

@[simp] theorem macEntry_dscDone (x : Descriptor) (status addr : Nat) (buf : List Nat) (d : Dev) (loc : Nat) :
    macEntry (dscDone x status addr buf d) loc = macEntry d loc := macEntry_of_mac (dscDone_mac x status addr buf d) loc

/-- A status of a malformed descriptor raises DESC_ERR (R324). -/
theorem fld_dscDone_event {status : Nat} (malformed : (status == 4 || status == 5) = true) (x : Descriptor) (addr : Nat)
    (buf : List Nat) (d : Dev) : fld (dscDone x status addr buf d) fFW_EVENT_DESC_ERR 0 = 1 := by
  have raised : ∀ e, fld (count .fwDescriptors 0 (raiseIf (status == 4 || status == 5) fFW_EVENT_DESC_ERR 0 e))
      fFW_EVENT_DESC_ERR 0 = 1 := fun e => by
    rw [fld_count _ _ _ (by decide) (by decide), raiseIf, if_pos malformed, fld_raise_same _ _ _ (by decide) (by decide)]
  simp only [dscDone]
  split
  · exact raised _
  · rw [fld_setFld_ne _ _ _ _ _ _ (by decide) (by decide) (by decide), raised]

/-! ## Executions -/

/-- A descriptor that may execute and finds no uncorrectable word acts on the tables as they stood. -/
theorem runsAt_descriptor {c : Instr} {x : Descriptor} {op trie : Bool} {f : Dev → Dev} {pre : Dev → Prop} {post : Dev → Dev → Prop}
    (e : ∀ s, exec c s = atCore x.t (runDsc op trie x f) s) (hop : ∀ a, pre a → op = true)
    (k : ∀ a b, ReadsTables a b → b.fwd.bad = [] → pre a → post a (f b)) : RunsAt c x.t
    (fun a => coreRuns a = true ∧ dscReady a x = true ∧ x.bad = [] ∧ a.fwd.bad = [] ∧ pre a) post := by
  refine runsAt_core e fun a ⟨runs, ready, unfound, sound, given⟩ => ⟨runs, ?_⟩
  have awake := readsTables_idleExit a
  have here : (op && dscReady (idleExit a) x) = true := by
    simpa only [dscReady, fld_idleExit, hop a given, Bool.true_and] using ready
  simp only [runDsc, here, if_true, unfound, List.map_nil]
  have met := fun soft => (readsTables_meetErrors (soft := soft) (awake.same_bad.trans sound)).after awake
  exact k a _ (met _) ((met _).same_bad.trans sound) given

/-- The key in a descriptor's buffer is looked up in the tables as they stood (R310). -/
theorem dscFind_of_sound {a b : Dev} (read : ReadsTables a b) (sound : b.fwd.bad = []) (x : Descriptor) :
    ∃ c, ReadsTables a c ∧ dscFind x b = (macFind? a (bitsOf (dscBuf x 1) 42 31) (dscBuf x 0), c) := by
  obtain ⟨c, looked, answer⟩ := macLookup_of_sound sound (bitsOf (dscBuf x 1) 42 31) (dscBuf x 0)
  exact ⟨c, looked.after read, by rw [dscFind, answer, read.same_find]⟩

/-- A keyed operation acts on what the lookup of its key answers. -/
theorem runsAt_keyed {c : Instr} {x : Descriptor} {n : Nat} {f : Dev → Dev} {way : Option Nat} {post : Dev → Dev → Prop}
    (e : ∀ s, exec c s = atCore x.t (runDsc (dscOp x == n) false x f) s)
    (k : ∀ a b c, ReadsTables a c → dscFind x b = (way, c) → post a (f b)) : RunsAt c x.t
    (fun a => coreRuns a = true ∧ dscReady a x = true ∧ x.bad = [] ∧ a.fwd.bad = [] ∧ dscOp x = n ∧
      macFind? a (bitsOf (dscBuf x 1) 42 31) (dscBuf x 0) = way) post :=
  runsAt_descriptor e (fun _ ⟨op, _⟩ => beq_iff_eq.2 op) fun a b read sound ⟨_, found⟩ => by
    obtain ⟨c, looked, answer⟩ := dscFind_of_sound read sound x
    exact k a b c looked (found ▸ answer)

/-! ## Operations by key (R310, R311) -/

theorem dscEntry_getD {x : Descriptor} {i : Nat} (h : i < 4) : (dscEntry x).getD i 0 = dscBuf x i := by
  rw [dscEntry, List.getD_eq_getElem _ _ (by simpa using h), List.getElem_map, List.getElem_range]

/-- Words of a buffer are words of the tables. -/
theorem dscBuf_mod (x : Descriptor) (i : Nat) : dscBuf x i % 2 ^ 48 = dscBuf x i := Nat.mod_eq_of_lt (x.buf.getD i 0).isLt

/-- The buffer's entry written at a way and the descriptor answered. -/
theorem dscDone_entryWritten {a d : Dev} (read : ReadsTables a d) (x : Descriptor) (loc : Nat) :
    macEntry (dscDone x 1 loc [] (setMacEntry loc (dscEntry x) d)) loc = dscEntry x ∧
      (dscDone x 1 loc [] (setMacEntry loc (dscEntry x) d)).emitted.contains
        (.descriptor x.ring1 (dscAt a x) 1 (BitVec.ofNat 48 loc) x.w3 (8 * x.w2.toNat) []) = true := by
  refine ⟨?_, dscDone_answers ((dscAt_setMacEntry _ _ _ x).trans (read.same_dscAt x)) 1 loc []⟩
  rw [macEntry_dscDone, macEntry_setMacEntry]
  refine List.map_congr_left fun i hi => ?_
  rw [dscEntry_getD (List.mem_range.1 hi), BitVec.toNat_ofNat, dscBuf_mod]

theorem macInsert_overwrites (x : Descriptor) (n : Nat) : RunsAt (.macInsert x) x.t
    (fun a => coreRuns a = true ∧ dscReady a x = true ∧ x.bad = [] ∧ a.fwd.bad = [] ∧ dscOp x = 1 ∧
      macFind? a (bitsOf (dscBuf x 1) 42 31) (dscBuf x 0) = some n)
    (fun a d => macEntry d n = dscEntry x ∧
      d.emitted.contains (.descriptor x.ring1 (dscAt a x) 1 (BitVec.ofNat 48 n) x.w3 (8 * x.w2.toNat) []) = true) :=
  runsAt_keyed (exec_macInsert x) fun a b c looked found => by
    simp only [macInsert, found]
    exact dscDone_entryWritten looked x n

theorem macInsert_fills (x : Descriptor) (n : Nat) : RunsAt (.macInsert x) x.t
    (fun a => coreRuns a = true ∧ dscReady a x = true ∧ x.bad = [] ∧ a.fwd.bad = [] ∧ dscOp x = 1 ∧
      macFind? a (bitsOf (dscBuf x 1) 42 31) (dscBuf x 0) = none ∧
      ((List.range 8).map (fun w => hash0 a (macKey (bitsOf (dscBuf x 1) 42 31) (dscBuf x 0)) * 8 + w) ++
        (List.range 8).map (fun w => hash1 a (macKey (bitsOf (dscBuf x 1) 42 31) (dscBuf x 0)) * 8 + w)).find?
          (fun k => !macValid (macEntry a k)) = some n)
    (fun a d => macEntry d n = dscEntry x ∧
      d.emitted.contains (.descriptor x.ring1 (dscAt a x) 1 (BitVec.ofNat 48 n) x.w3 (8 * x.w2.toNat) []) = true) :=
  runsAt_descriptor (exec_macInsert x) (fun _ ⟨op, _⟩ => beq_iff_eq.2 op) fun a b read sound ⟨_, absent, free⟩ => by
    obtain ⟨c, looked, answer⟩ := dscFind_of_sound read sound x
    simp only [macInsert, answer, absent, looked.same_hash0, looked.same_hash1, looked.same_entry, free]
    exact dscDone_entryWritten looked x n

theorem macDelete_clears (x : Descriptor) (n : Nat) : RunsAt (.macDelete x) x.t
    (fun a => coreRuns a = true ∧ dscReady a x = true ∧ x.bad = [] ∧ a.fwd.bad = [] ∧ dscOp x = 2 ∧
      macFind? a (bitsOf (dscBuf x 1) 42 31) (dscBuf x 0) = some n)
    (fun a d => macValid (macEntry d n) = false ∧
      d.emitted.contains (.descriptor x.ring1 (dscAt a x) 1 (BitVec.ofNat 48 n) x.w3 (8 * x.w2.toNat) []) = true) :=
  runsAt_keyed (exec_macDelete x) fun a b c looked found => by
    simp only [macDelete, found]
    refine ⟨?_, dscDone_answers ((dscAt_setMacEntry _ _ _ x).trans (looked.same_dscAt x)) 1 n []⟩
    rw [macEntry_dscDone, macValid_cleared]

theorem macFind_answers (x : Descriptor) (n : Nat) : RunsAt (.macFind x) x.t
    (fun a => coreRuns a = true ∧ dscReady a x = true ∧ x.bad = [] ∧ a.fwd.bad = [] ∧ dscOp x = 3 ∧
      macFind? a (bitsOf (dscBuf x 1) 42 31) (dscBuf x 0) = some n)
    (fun a d => d.fwd.mac = a.fwd.mac ∧ d.emitted.contains (.descriptor x.ring1 (dscAt a x) 1 (BitVec.ofNat 48 n) x.w3
      (8 * x.w2.toNat) ((macEntry a n).map (BitVec.ofNat 48))) = true) :=
  runsAt_keyed (exec_macFind x) fun a b c looked found => by
    simp only [macFindOp, found, looked.same_entry]
    exact ⟨(dscDone_mac _ _ _ _ _).trans looked.same_mac, dscDone_answers (looked.same_dscAt x) 1 n _⟩

theorem macLock_locks (x : Descriptor) (n : Nat) : RunsAt (.macLock x) x.t
    (fun a => coreRuns a = true ∧ dscReady a x = true ∧ x.bad = [] ∧ a.fwd.bad = [] ∧ dscOp x = 4 ∧
      macFind? a (bitsOf (dscBuf x 1) 42 31) (dscBuf x 0) = some n)
    (fun a d => macLock (macEntry d n) = true ∧ d.emitted.contains (.descriptor x.ring1 (dscAt a x) 1 (BitVec.ofNat 48 n) x.w3
      (8 * x.w2.toNat) ((macEntry d n).map (BitVec.ofNat 48))) = true) :=
  runsAt_keyed (exec_macLock x) fun a b c looked found => by
    simp only [macLockOp, found, macEntry_dscDone]
    refine ⟨?_, dscDone_answers ((dscAt_setMacEntry _ _ _ x).trans (looked.same_dscAt x)) 1 n _⟩
    exact testBit_macEntry_withBit1 (one_lt_length_macEntry c n) (by decide) n 46 true c

/-- An operation whose key no way holds answers 2 and leaves the table. -/
theorem runsAt_keyAbsent {c : Instr} {x : Descriptor} {n : Nat} {f : Dev → Dev}
    (e : ∀ s, exec c s = atCore x.t (runDsc (dscOp x == n) false x f) s)
    (ends : ∀ b c, dscFind x b = (none, c) → f b = dscDone x 2 x.w1.toNat [] c) : RunsAt c x.t
    (fun a => coreRuns a = true ∧ dscReady a x = true ∧ x.bad = [] ∧ a.fwd.bad = [] ∧ dscOp x = n ∧
      macFind? a (bitsOf (dscBuf x 1) 42 31) (dscBuf x 0) = none)
    (fun a d => d.fwd.mac = a.fwd.mac ∧
      d.emitted.contains (.descriptor x.ring1 (dscAt a x) 2 x.w1 x.w3 (8 * x.w2.toNat) []) = true) :=
  runsAt_keyed e fun a b c looked absent => by
    rw [ends b c absent]
    exact ⟨(dscDone_mac _ _ _ _ _).trans looked.same_mac, dscDone_answers_addr (looked.same_dscAt x) 2 []⟩

/-! ## Operations by address (R310) -/

theorem macWrite_writes (x : Descriptor) : RunsAt (.macWrite x) x.t
    (fun a => coreRuns a = true ∧ dscReady a x = true ∧ x.bad = [] ∧ a.fwd.bad = [] ∧ dscOp x = 5 ∧ x.w1.toNat < 2 ^ 20)
    (fun a d => macEntry d x.w1.toNat = dscEntry x ∧
      d.emitted.contains (.descriptor x.ring1 (dscAt a x) 1 x.w1 x.w3 (8 * x.w2.toNat) []) = true) :=
  runsAt_descriptor (exec_macWrite x) (fun _ ⟨op, _⟩ => beq_iff_eq.2 op) fun a b read _ ⟨_, within⟩ => by
    simp only [macWriteOp, if_pos within]
    exact ⟨(dscDone_entryWritten read x _).1, dscDone_answers_addr ((dscAt_setMacEntry _ _ _ x).trans (read.same_dscAt x)) 1 []⟩

theorem macWrite_refuses (x : Descriptor) : RunsAt (.macWrite x) x.t
    (fun a => coreRuns a = true ∧ dscReady a x = true ∧ x.bad = [] ∧ a.fwd.bad = [] ∧ dscOp x = 5 ∧ 2 ^ 20 ≤ x.w1.toNat)
    (fun a d => d.fwd.mac = a.fwd.mac ∧
      d.emitted.contains (.descriptor x.ring1 (dscAt a x) 4 x.w1 x.w3 (8 * x.w2.toNat) []) = true ∧
      fld d fFW_EVENT_DESC_ERR 0 = 1) :=
  runsAt_descriptor (exec_macWrite x) (fun _ ⟨op, _⟩ => beq_iff_eq.2 op) fun a b read _ ⟨_, beyond⟩ => by
    simp only [macWriteOp, if_neg (Nat.not_lt.2 beyond)]
    exact ⟨(dscDone_mac _ _ _ _ _).trans read.same_mac, dscDone_answers_addr (read.same_dscAt x) 4 [],
      fld_dscDone_event rfl x _ _ _⟩

/-- A read of ways without an uncorrectable word answers their words (R310). -/
theorem macReadOp_of_sound {x : Descriptor} {d : Dev} (sound : d.fwd.bad = []) (within : x.w1.toNat < 2 ^ 20 ∧
    1 ≤ dscCount x ∧ dscCount x ≤ 8 ∧ x.w1.toNat / 8 = (x.w1.toNat + dscCount x - 1) / 8) : ∃ p, macReadOp x d =
      dscDone x 1 x.w1.toNat ((List.range (4 * dscCount x)).map (fun i => macWord d (4 * x.w1.toNat + i))) (softReads p d) := by
  simp only [macReadOp, if_pos within, sound, List.contains_nil, Bool.false_eq_true, if_false, List.filter_false,
    List.isEmpty_nil, if_true, List.foldl_nil, List.map_map]
  exact ⟨_, rfl⟩

theorem macRead_answers (x : Descriptor) : RunsAt (.macRead x) x.t
    (fun a => coreRuns a = true ∧ dscReady a x = true ∧ x.bad = [] ∧ a.fwd.bad = [] ∧ dscOp x = 6 ∧ x.w1.toNat < 2 ^ 20 ∧
      1 ≤ dscCount x ∧ dscCount x ≤ 8 ∧ x.w1.toNat / 8 = (x.w1.toNat + dscCount x - 1) / 8)
    (fun a d => d.fwd.mac = a.fwd.mac ∧ d.emitted.contains (.descriptor x.ring1 (dscAt a x) 1 x.w1 x.w3 (8 * x.w2.toNat)
      ((List.range (4 * dscCount x)).map (fun i => BitVec.ofNat 48 (macWord a (4 * x.w1.toNat + i))))) = true) :=
  runsAt_descriptor (exec_macRead x) (fun _ ⟨op, _⟩ => beq_iff_eq.2 op) fun a b read sound ⟨_, within⟩ => by
    obtain ⟨p, done⟩ := macReadOp_of_sound sound within
    have counted := (readsTables_softReads p b).after read
    have answered := dscDone_answers_addr (counted.same_dscAt x) 1
      ((List.range (4 * dscCount x)).map (fun i => macWord a (4 * x.w1.toNat + i)))
    rw [List.map_map] at answered
    simp only [done, dscDone_mac, macWord, read.same_mac]
    exact ⟨counted.same_mac, answered⟩

/-- Words written to trie memory leave a descriptor's place in its ring. -/
theorem dscAt_setTrieWords (addr : Nat) (v : Nat → Nat) (x : Descriptor) (d : Dev) :
    ∀ n, dscAt ((List.range n).foldl (fun d i => setTrieWord (addr + i) (v i) d) d) x = dscAt d x
  | 0 => rfl
  | n + 1 => by
    rw [List.range_succ, List.foldl_append, List.foldl_cons, List.foldl_nil]
    exact dscAt_setTrieWords addr v x d n

/-- A word among those written to trie memory reads as written, in 48 bits (R301). -/
theorem trieWord_setTrieWords {addr n i : Nat} (h : i < n) (v : Nat → Nat) (d : Dev) :
    trieWord ((List.range n).foldl (fun d i => setTrieWord (addr + i) (v i) d) d) (addr + i) = v i % 2 ^ 48 :=
  foldl_writes (look := fun d i => trieWord d (addr + i)) (v := fun i => v i % 2 ^ 48)
    (fun d i => trieWord_setTrieWord_same _ _ d) (fun d i j apart => trieWord_setTrieWord_ne (by omega) _ d) d n i h

theorem trieWrite_writes (x : Descriptor) (i : Nat) : RunsAt (.trieWrite x) x.t
    (fun a => coreRuns a = true ∧ dscReady a x = true ∧ x.bad = [] ∧ a.fwd.bad = [] ∧ dscOp x = 7 ∧ x.w1.toNat < 2 ^ 21 ∧
      1 ≤ dscCount x ∧ dscCount x ≤ 8 ∧ x.w1.toNat / 8 = (x.w1.toNat + dscCount x - 1) / 8 ∧ i < dscCount x)
    (fun a d => trieWord d (x.w1.toNat + i) = dscBuf x i ∧
      d.emitted.contains (.descriptor x.ring1 (dscAt a x) 1 x.w1 x.w3 (8 * x.w2.toNat) []) = true) :=
  runsAt_descriptor (exec_trieWrite x) (fun _ ⟨op, _⟩ => beq_iff_eq.2 op)
    fun a b read _ ⟨_, below, least, most, aligned, listed⟩ => by
    have within := And.intro below (And.intro least (And.intro most aligned))
    simp only [trieWriteOp, if_pos within]
    refine ⟨?_, dscDone_answers_addr ((dscAt_setTrieWords _ (dscBuf x) x b _).trans (read.same_dscAt x)) 1 []⟩
    rw [trieWord_of_trie (dscDone_trie _ _ _ _ _), trieWord_setTrieWords listed, dscBuf_mod]

/-- COUNT has eight bits (R309). -/
theorem dscCount_le (x : Descriptor) : dscCount x ≤ 255 :=
  Nat.le_of_lt_succ (Nat.mod_lt _ (by decide))

/-- A read of trie words none of which is uncorrectable answers them (R310). -/
theorem trieReadOp_of_sound {x : Descriptor} {d : Dev} (sound : d.fwd.bad = []) (within : 1 ≤ dscCount x ∧ dscCount x ≤ 255 ∧
    x.w1.toNat + dscCount x ≤ 2 ^ 21) : ∃ p, trieReadOp x d =
      dscDone x 1 x.w1.toNat ((List.range (dscCount x)).map (fun i => trieWord d (x.w1.toNat + i))) (softReads p d) := by
  simp only [trieReadOp, if_pos within, sound, List.contains_nil, Bool.false_eq_true, if_false, List.filter_false,
    List.isEmpty_nil, if_true, List.foldl_nil, List.map_map]
  exact ⟨_, rfl⟩

theorem trieRead_answers (x : Descriptor) : RunsAt (.trieRead x) x.t
    (fun a => coreRuns a = true ∧ dscReady a x = true ∧ x.bad = [] ∧ a.fwd.bad = [] ∧ dscOp x = 8 ∧ 1 ≤ dscCount x ∧
      x.w1.toNat + dscCount x ≤ 2 ^ 21)
    (fun a d => d.fwd.trie = a.fwd.trie ∧ d.emitted.contains (.descriptor x.ring1 (dscAt a x) 1 x.w1 x.w3 (8 * x.w2.toNat)
      ((List.range (dscCount x)).map (fun i => BitVec.ofNat 48 (trieWord a (x.w1.toNat + i))))) = true) :=
  runsAt_descriptor (exec_trieRead x) (fun _ ⟨op, _⟩ => beq_iff_eq.2 op) fun a b read sound ⟨_, least, within⟩ => by
    obtain ⟨p, done⟩ := trieReadOp_of_sound sound ⟨least, dscCount_le x, within⟩
    have counted := (readsTables_softReads p b).after read
    have answered := dscDone_answers_addr (counted.same_dscAt x) 1
      ((List.range (dscCount x)).map (fun i => trieWord a (x.w1.toNat + i)))
    rw [List.map_map] at answered
    simp only [done, dscDone_trie, trieWord, read.same_trie]
    exact ⟨counted.same_trie, answered⟩

theorem unknownOp_refuses (x : Descriptor) : RunsAt (.unknownOp x) x.t
    (fun a => coreRuns a = true ∧ dscReady a x = true ∧ x.bad = [] ∧ a.fwd.bad = [] ∧ (dscOp x = 0 ∨ 8 < dscOp x))
    (fun a d => d.fwd.mac = a.fwd.mac ∧ d.fwd.trie = a.fwd.trie ∧
      d.emitted.contains (.descriptor x.ring1 (dscAt a x) 5 x.w1 x.w3 (8 * x.w2.toNat) []) = true ∧
      fld d fFW_EVENT_DESC_ERR 0 = 1) :=
  runsAt_descriptor (exec_unknownOp x) (fun _ op => by simpa using op) fun a b read _ _ =>
    ⟨(dscDone_mac _ _ _ _ _).trans read.same_mac, (dscDone_trie _ _ _ _ _).trans read.same_trie,
      dscDone_answers_addr (read.same_dscAt x) 5 [], fld_dscDone_event rfl x _ _ _⟩

/-- Settles O28: reads of sound words leave the tables, so a lookup and an access act on them as they stood; what the end of a
descriptor counts, raises and advances follows its answer and touches neither table. -/
theorem tableCommands : Obligations.TableCommands :=
  ⟨macInsert_overwrites, macInsert_fills, macDelete_clears, macFind_answers, macLock_locks,
    fun x => runsAt_keyAbsent (exec_macDelete x) fun _ _ absent => by simp only [macDelete, absent],
    fun x => runsAt_keyAbsent (exec_macFind x) fun _ _ absent => by simp only [macFindOp, absent],
    fun x => runsAt_keyAbsent (exec_macLock x) fun _ _ absent => by simp only [macLockOp, absent],
    macWrite_writes, macWrite_refuses, macRead_answers, trieWrite_writes, trieRead_answers, unknownOp_refuses⟩

end Sys2Proof.Proofs
end

section
/-!
PROOF. Learning and ageing (R313, R316 to R318, R320, R322): a notification that leaves the merge alone, the filters past their
hold, what the sweep leaves of a way by its hits, and the words that the scrubber finds in error.
-/

namespace Sys2Proof.Proofs

open Sys2Proof Sys2Proof.Machine Sys2Proof.Laws

/-! ## Notifications (R316, R317, R318) -/

/-- A notification posted or dropped moves SEQ and the filters of the learning path alone. -/
theorem learnPost_fwd (i : LearnItem) (d : Dev) :
    ∃ filters, (learnPost i d).fwd = { d.fwd with seq := (d.fwd.seq + 1) % 2 ^ 23, filters := filters } := by
  simp only [learnPost]
  split
  · split
    · exact ⟨d.fwd.filters, by rw [count_fwd, post_fwd]⟩
    · simp only [filterAdd]
      exact ⟨_, by rw [count_fwd, post_fwd]⟩
  · exact ⟨d.fwd.filters, by rw [raise_fwd, count_fwd, post_fwd]⟩

theorem learnPost_mac (i : LearnItem) (d : Dev) : (learnPost i d).fwd.mac = d.fwd.mac := by
  obtain ⟨_, posted⟩ := learnPost_fwd i d
  rw [posted]

theorem learnPost_sweep (i : LearnItem) (d : Dev) : (learnPost i d).fwd.sweep = d.fwd.sweep := by
  obtain ⟨_, posted⟩ := learnPost_fwd i d
  rw [posted]

/-- The filters stand apart from the drawers. -/
theorem drawer_filterAdd (pipe : Nat) (f : LearnFilter) (d : Dev) (n : Nat) : drawer (filterAdd pipe f d) n = drawer d n := rfl

/-- A notification for which the learn drawer has room enters it with the next sequence number. -/
theorem items_learnPost {i : LearnItem} {d : Dev} (room : drawerRoom d 0 = true) : ∃ item : List Word,
    (drawer (learnPost i d) 0).items = (drawer d 0).items ++ [item] ∧
      item.take 2 = [BitVec.ofNat 48 (2 ^ 47 + i.reason * 2 ^ 44 + i.pipe * 2 ^ 42 + i.port * 2 ^ 35 + i.domain * 2 ^ 23 +
        d.fwd.seq), BitVec.ofNat 48 i.mac] := by
  have taken : drawerRoom { d with fwd := { d.fwd with seq := (d.fwd.seq + 1) % 2 ^ 23 } } 0 = true := room
  simp only [learnPost, if_pos taken]
  split
  case' isFalse => rw [drawer_filterAdd]
  all_goals
    rw [drawer_of_drawers keepsPosted_count.drawers, items_post taken]
    exact ⟨_, rfl, rfl⟩

/-- A merge that holds one notification which may leave releases it. -/
theorem mergeRelease_single {i : LearnItem} {d : Dev} (held : d.fwd.merge = [i]) (due : mergeReady d i = true) :
    mergeRelease d.fwd.merge.length d = learnPost i { d with fwd := { d.fwd with merge := [] } } := by
  simp only [held, List.length_singleton, mergeRelease, mergeHead, due, if_true, List.erase_cons_head]

theorem learnMergeRelease_posts (t : Time) (i : LearnItem) : RunsAt (.learnMergeRelease t) t
    (fun a => a.fwd.merge = [i] ∧ mergeReady a i = true ∧ drawerRoom a 0 = true)
    (fun a d => d.fwd.merge = [] ∧ d.fwd.seq = (a.fwd.seq + 1) % 2 ^ 23 ∧
      (drawer d 0).items.length = (drawer a 0).items.length + 1 ∧
      ((drawer d 0).items.getLast?.map (·.take 2)) = some [BitVec.ofNat 48 (2 ^ 47 + i.reason * 2 ^ 44 + i.pipe * 2 ^ 42 +
        i.port * 2 ^ 35 + i.domain * 2 ^ 23 + a.fwd.seq), BitVec.ofNat 48 i.mac]) :=
  runsAt_of (exec_learnMergeRelease t) fun a ⟨held, due, room⟩ => by
    have emptied : drawerRoom { a with fwd := { a.fwd with merge := [] } } 0 = true := room
    obtain ⟨_, posted⟩ := learnPost_fwd i { a with fwd := { a.fwd with merge := [] } }
    obtain ⟨item, entered, words⟩ := items_learnPost (i := i) emptied
    rw [mergeRelease_single held due]
    refine ⟨by rw [posted], by rw [posted], ?_, ?_⟩
    · rw [entered, List.length_append]
      rfl
    · rw [entered, List.getLast?_concat, Option.map_some, words]

theorem learnFilterExpiry_forgets (t : Time) (p : Fin 4) : RunsAt (.learnFilterExpiry t p) t
    (fun _ => True)
    (fun a d => agetD d.fwd.filters p [] = (agetD a.fwd.filters p []).filter (fun f => decide (a.now < f.until_))) :=
  runsAt_of (exec_learnFilterExpiry t p) fun _ _ => agetD_aputD_same _ _ _ _

/-! ## Ageing (R320) -/

/-- The sweep goes on and leaves the table. -/
theorem sweepOn_fwd (d : Dev) : (sweepOn d).fwd = { d.fwd with sweep := (d.fwd.sweep + 1) % 2 ^ 20 } := by
  simp only [sweepOn, raiseIf_fwd]

theorem macEntry_sweepOn (d : Dev) (loc : Nat) : macEntry (sweepOn d) loc = macEntry d loc :=
  macEntry_of_mac (by rw [sweepOn_fwd]) loc

theorem sweep_setMacEntry (loc : Nat) (ws : List Nat) (d : Dev) : (setMacEntry loc ws d).fwd.sweep = d.fwd.sweep := by
  obtain ⟨_, _, _, written⟩ := setMacEntry_eq loc ws d
  rw [written]

/-- The sweep may age a way: it runs and finds no word uncorrectable, and the way is valid, unlocked and not static. -/
structure AgeableWay (d : Dev) : Prop where
  runs : fld d fFW_CTRL_AGE_EN 0 = 1
  sound : d.fwd.bad = []
  valid : macValid (macEntry d d.fwd.sweep) = true
  unlocked : macLock (macEntry d d.fwd.sweep) = false
  dynamic : macStatic (macEntry d d.fwd.sweep) = false

/-- What the visit of such a way leaves: an entry written at the way in a device that was only read, which no later step of the
visit touches, and the sweep at the next way. -/
structure Visited (a : Dev) (ws : List Nat) (d : Dev) : Prop where
  entry : ∃ b, macEntry d a.fwd.sweep = macEntry (setMacEntry a.fwd.sweep ws b) a.fwd.sweep
  next : d.fwd.sweep = (a.fwd.sweep + 1) % 2 ^ 20

/-- The visited entry with HIT and AGE1 both cleared. -/
def hitForgotten (ws : List Nat) : List Nat := withBit1 (withBit1 ws 45 false) 43 false

theorem Visited.of_written {a b d : Dev} {ws : List Nat} (read : ReadsTables a b)
    (mac : d.fwd.mac = (setMacEntry a.fwd.sweep ws b).fwd.mac) (next : d.fwd.sweep = b.fwd.sweep) :
    Visited a ws (sweepOn d) where
  entry := ⟨b, by rw [macEntry_sweepOn, macEntry_of_mac mac]⟩
  next := by rw [sweepOn_fwd, next, read.same_sweep]

/-- A visit writes the entry back by what its hits say: HIT cleared, AGE1 set, or the entry invalidated (R320). -/
theorem ageingVisit_of_ageable {a : Dev} (h : AgeableWay a) : Visited a
    (if macHit (macEntry a a.fwd.sweep) then hitForgotten (macEntry a a.fwd.sweep)
      else if !macAge1 (macEntry a a.fwd.sweep) then withBit1 (macEntry a a.fwd.sweep) 43 true
      else withBit1 (macEntry a a.fwd.sweep) 47 false) (ageingVisit (idleExit a)) := by
  have awake := readsTables_idleExit a
  have runs : fld (idleExit a) fFW_CTRL_AGE_EN 0 ≠ 0 := by rw [fld_idleExit, h.runs]; decide
  have read := (readsTables_softReads (fun x => x / 4 == a.fwd.sweep) (idleExit a)).after awake
  simp only [ageingVisit, if_neg runs, awake.same_bad, h.sound, List.filter_nil, List.foldl_nil, awake.same_sweep,
    read.same_entry, h.valid, h.unlocked, h.dynamic, Bool.and_false, Bool.false_eq_true, if_false, Bool.not_false,
    Bool.and_true, if_true]
  generalize softReads _ _ = b at read ⊢
  have seen : ReadsTables a { b with fwd := { b.fwd with lockedSeen := b.fwd.lockedSeen.filter (· != a.fwd.sweep) } } :=
    .after ⟨⟨b.fwd.soft, _, rfl⟩, KeepRegs_of_eq rfl⟩ read
  generalize ({ b with fwd := { b.fwd with lockedSeen := b.fwd.lockedSeen.filter (· != a.fwd.sweep) } } : Dev) = c at seen ⊢
  split
  · exact .of_written seen rfl (sweep_setMacEntry _ _ _)
  · split
    · exact .of_written seen rfl (sweep_setMacEntry _ _ _)
    · refine .of_written seen ?_ ?_
      · rw [learnPost_mac, count_fwd]
      · rw [learnPost_sweep, count_fwd, sweep_setMacEntry]

/-- The bits of word 1 after a visit are those of the entry it wrote. -/
theorem Visited.testBit {a d : Dev} {ws : List Nat} (h : Visited a ws d) {k : Nat} (hk : k < 48) :
    ((macEntry d a.fwd.sweep).getD 1 0).testBit k = (ws.getD 1 0).testBit k := by
  obtain ⟨b, entry⟩ := h.entry
  rw [entry, testBit_setMacEntry hk]

theorem ageingVisit_hit (t : Time) : RunsAt (.ageingVisit t) t
    (fun a => coreRuns a = true ∧ fld a fFW_CTRL_AGE_EN 0 = 1 ∧ a.fwd.bad = [] ∧ macValid (macEntry a a.fwd.sweep) = true ∧
      macLock (macEntry a a.fwd.sweep) = false ∧ macStatic (macEntry a a.fwd.sweep) = false ∧
      macHit (macEntry a a.fwd.sweep) = true)
    (fun a d => macHit (macEntry d a.fwd.sweep) = false ∧ macAge1 (macEntry d a.fwd.sweep) = false ∧
      macValid (macEntry d a.fwd.sweep) = true ∧ d.fwd.sweep = (a.fwd.sweep + 1) % 2 ^ 20) :=
  runsAt_core (exec_ageingVisit t) fun a ⟨runs, on, sound, valid, unlocked, dynamic, hit⟩ => by
    have visited := ageingVisit_of_ageable ⟨on, sound, valid, unlocked, dynamic⟩
    have long : 1 < (withBit1 (macEntry a a.fwd.sweep) 45 false).length := by
      rw [length_withBit1]
      exact one_lt_length_macEntry _ _
    rw [if_pos hit] at visited
    refine ⟨runs, (visited.testBit (by decide)).trans ?_, (visited.testBit (by decide)).trans ?_,
      (visited.testBit (by decide)).trans ?_, visited.next⟩
    all_goals rw [hitForgotten, testBit_withBit1 long, testBit_withBit1 (one_lt_length_macEntry _ _)]
    · rfl
    · rfl
    · exact valid

theorem ageingVisit_notHit (t : Time) : RunsAt (.ageingVisit t) t
    (fun a => coreRuns a = true ∧ fld a fFW_CTRL_AGE_EN 0 = 1 ∧ a.fwd.bad = [] ∧ macValid (macEntry a a.fwd.sweep) = true ∧
      macLock (macEntry a a.fwd.sweep) = false ∧ macStatic (macEntry a a.fwd.sweep) = false ∧
      macHit (macEntry a a.fwd.sweep) = false ∧ macAge1 (macEntry a a.fwd.sweep) = false)
    (fun a d => macAge1 (macEntry d a.fwd.sweep) = true ∧ macValid (macEntry d a.fwd.sweep) = true ∧
      d.fwd.sweep = (a.fwd.sweep + 1) % 2 ^ 20) :=
  runsAt_core (exec_ageingVisit t) fun a ⟨runs, on, sound, valid, unlocked, dynamic, unhit, young⟩ => by
    have visited := ageingVisit_of_ageable ⟨on, sound, valid, unlocked, dynamic⟩
    simp only [unhit, young, Bool.false_eq_true, if_false, Bool.not_false, if_true] at visited
    refine ⟨runs, (visited.testBit (by decide)).trans ?_, (visited.testBit (by decide)).trans ?_, visited.next⟩
    all_goals rw [testBit_withBit1 (one_lt_length_macEntry _ _)]
    · rfl
    · exact valid

theorem ageingVisit_notHitSince (t : Time) : RunsAt (.ageingVisit t) t
    (fun a => coreRuns a = true ∧ fld a fFW_CTRL_AGE_EN 0 = 1 ∧ a.fwd.bad = [] ∧ macValid (macEntry a a.fwd.sweep) = true ∧
      macLock (macEntry a a.fwd.sweep) = false ∧ macStatic (macEntry a a.fwd.sweep) = false ∧
      macHit (macEntry a a.fwd.sweep) = false ∧ macAge1 (macEntry a a.fwd.sweep) = true)
    (fun a d => macValid (macEntry d a.fwd.sweep) = false ∧ d.fwd.sweep = (a.fwd.sweep + 1) % 2 ^ 20) :=
  runsAt_core (exec_ageingVisit t) fun a ⟨runs, on, sound, valid, unlocked, dynamic, unhit, aged⟩ => by
    have visited := ageingVisit_of_ageable ⟨on, sound, valid, unlocked, dynamic⟩
    simp only [unhit, aged, Bool.false_eq_true, if_false, Bool.not_true] at visited
    refine ⟨runs, (visited.testBit (by decide)).trans ?_, visited.next⟩
    rw [testBit_withBit1 (one_lt_length_macEntry _ _)]
    rfl

/-! ## The scrubber (R322) -/

/-- A corrected word is counted and loses its mark (R322). -/
theorem tableScrub_corrected (x : FwdTable) (addr : Nat) (d : Dev) : ∃ soft, tableScrub x addr .corrected d =
    count .tableCe 0 { d with fwd := { d.fwd with soft := soft } } := ⟨_, rfl⟩

theorem tableScrub_counts (t : Time) (x : FwdTable) (p : BitVec 22) : RunsAt (.tableScrub t x p .corrected) t
    (fun a => coreRuns a = true)
    (fun a d => counter d .tableCe 0 = counter a .tableCe 0 + 1 ∧ d.fwd.mac = a.fwd.mac ∧ d.fwd.trie = a.fwd.trie) :=
  runsAt_core (exec_tableScrub t x p .corrected) fun a runs => by
    obtain ⟨w, awake⟩ := idleExit_eq a
    obtain ⟨soft, scrubbed⟩ := tableScrub_corrected x p.toNat (idleExit a)
    rw [scrubbed, awake, counter_count_same, count_fwd]
    exact ⟨runs, rfl, rfl, rfl⟩

theorem tableScrub_invalidates (t : Time) (p : BitVec 22) : RunsAt (.tableScrub t .mac p .uncorrectable) t
    (fun a => coreRuns a = true)
    (fun _ d => macValid (macEntry d (p.toNat / 4)) = false ∧ fld d fFW_EVENT_TABLE_ECC 0 = 1) :=
  runsAt_core (exec_tableScrub t .mac p .uncorrectable) fun a runs => by
    simp only [tableScrub, macUe]
    refine ⟨runs, ?_, fld_tableErrorItem_event _ _ _⟩
    rw [macEntry_tableErrorItem, macValid_cleared]

theorem tableScrub_poisons (t : Time) (p : BitVec 22) : RunsAt (.tableScrub t .trie p .uncorrectable) t
    (fun a => coreRuns a = true)
    (fun _ d => trieWord d (p.toNat % 2 ^ 21) = 256 ∧ fld d fFW_EVENT_TABLE_ECC 0 = 1) :=
  runsAt_core (exec_tableScrub t .trie p .uncorrectable) fun a runs => by
    simp only [tableScrub, trieUe]
    refine ⟨runs, ?_, fld_tableErrorItem_event _ _ _⟩
    rw [trieWord_tableErrorItem, trieWord_setTrieWord_same]
    exact Nat.mod_eq_of_lt (by decide)

/-- Settles O29: a released notification enters behind the drawer's items and leaves the merge; a visit writes the way's entry
back by its hits before anything else it does, and the telling of an error leaves the tables. -/
theorem learningAndAgeing : Obligations.LearningAndAgeing :=
  ⟨learnMergeRelease_posts, learnFilterExpiry_forgets, ageingVisit_hit, ageingVisit_notHit, ageingVisit_notHitSince,
    tableScrub_counts, tableScrub_invalidates, tableScrub_poisons⟩

end Sys2Proof.Proofs
end

section
/-!
PROOF. The object window of the traffic manager (R331, R342, R354): how the window answers, what a queue and a group read after
their write, and what the data words show after a policer was read.
-/

namespace Sys2Proof.Proofs

open Sys2Proof Sys2Proof.Machine Sys2Proof.Laws

/-! ## Objects after a write -/

@[simp] theorem queue_modQueue_same (q : Nat) (f : Queue → Queue) (d : Dev) : queue (modQueue q f d) q = f (queue d q) :=
  agetD_aputD_same _ _ _ _

theorem queue_of_tm {a b : Dev} (h : b.tm = a.tm) (q : Nat) : queue b q = queue a q := by rw [queue, h, queue]

theorem group_of_tm {a b : Dev} (h : b.tm = a.tm) (i : Nat) : group b i = group a i := by rw [group, h, group]

/-- A replication group set. -/
def setGroup (i : Nat) (g : Group) (d : Dev) : Dev :=
  { d with tm := { d.tm with groups := aputD d.tm.groups i g {} } }

@[simp] theorem group_setGroup_same (i : Nat) (g : Group) (d : Dev) : group (setGroup i g d) i = g :=
  agetD_aputD_same _ _ _ _

/-! ## The window's answer (R354, R355) -/

@[simp] theorem accResult_tm (ok : Bool) (d : Dev) : (accResult ok d).tm = d.tm := by
  rw [accResult, raiseIf_tm, setFld_tm]

theorem fld_accResult_done (d : Dev) : fld (accResult true d) fTM_ACC_STATUS_RESULT 0 = 0 :=
  fld_setFld_same _ _ _ _ (by decide) (by decide)

theorem fld_accResult_refused (d : Dev) : fld (accResult false d) fTM_ACC_STATUS_RESULT 0 = 1 :=
  (fld_raise_ne _ _ _ _ _ (by decide) (by decide) (by decide)).trans (fld_setFld_same _ _ _ _ (by decide) (by decide))

theorem fld_accResult_event (d : Dev) : fld (accResult false d) fTM_EVENT_ACC_REFUSED 0 = 1 :=
  fld_raise_same _ _ _ (by decide) (by decide)

theorem reg_accResult_data {i : Nat} (h : i < 4) (d : Dev) : reg (accResult true d) .tmAccData i = reg d .tmAccData i :=
  reg_setReg_ne (by decide) _ _ (by decide) h

/-! ## Writes (R331, R342, R354) -/

/-- What a write sets in a queue: its shaper, weight, alpha and reserve, from the first two data words. -/
def queueSettings (w0 w1 : Nat) (w : Queue) : Queue :=
  { w with
    shaper := setShaper (w0.testBit 47) (bitsOf w0 45 24) (bitsOf w0 23 0) w.shaper
    weight := bitsOf w1 47 38
    alpha := bitsOf w1 37 35
    reserve := bitsOf w1 34 25 }

/-- A queue's settings in range, for a downstream queue of the part, are taken. -/
theorem accWrite_queue {d : Dev} (table : fld d fTM_ACC_SEL_TABLE 0 = 0)
    (here : fld d fTM_ACC_SEL_INDEX 0 < 64 * d.part.ports)
    (shaper : shaperOk (bitsOf (accData d 0) 45 24) (bitsOf (accData d 0) 23 0) = true)
    (reserve : reserveOk d (fld d fTM_ACC_SEL_INDEX 0) (bitsOf (accData d 1) 34 25) = true) :
    fld (accWrite d) fTM_ACC_STATUS_RESULT 0 = 0 ∧ queue (accWrite d) (fld d fTM_ACC_SEL_INDEX 0) =
      queueSettings (accData d 0) (accData d 1) (queue d (fld d fTM_ACC_SEL_INDEX 0)) := by
  have known : accQueue d 0 (fld d fTM_ACC_SEL_INDEX 0) = some (fld d fTM_ACC_SEL_INDEX 0) := by
    rw [accQueue, if_pos rfl, if_pos here]
  have taken : accWrite d = accResult true
      (modQueue (fld d fTM_ACC_SEL_INDEX 0) (queueSettings (accData d 0) (accData d 1)) d) := by
    simp only [accWrite, table, Nat.zero_le, if_true, known, writeQueue, shaper, reserve, Bool.and_self]
    rfl
  rw [taken, queue_of_tm (accResult_tm _ _), queue_modQueue_same]
  exact ⟨fld_accResult_done _, rfl⟩

/-- A group of present ports is set. -/
theorem accWrite_group {d : Dev} (table : fld d fTM_ACC_SEL_TABLE 0 = 5) (here : fld d fTM_ACC_SEL_INDEX 0 < 4096)
    (ports : accData d 1 * 2 ^ 48 + accData d 0 < 2 ^ d.part.ports) :
    accWrite d = accResult true (setGroup (fld d fTM_ACC_SEL_INDEX 0)
      ⟨accData d 1 * 2 ^ 48 + accData d 0, (accData d 2).testBit 0, (accData d 2).testBit 1⟩ d) := by
  have noQueue : ¬ 5 ≤ 1 := by decide
  have noNode : ¬ 5 ≤ 3 := by decide
  have noPolicer : ¬ 5 = 4 := by decide
  simp only [accWrite, table, if_neg noQueue, if_neg noNode, if_neg noPolicer, true_and, if_pos here, writeGroup,
    if_pos ports]
  rfl

/-- A table past the last is refused. -/
theorem accWrite_noTable {d : Dev} (table : 6 ≤ fld d fTM_ACC_SEL_TABLE 0) : accWrite d = accResult false d := by
  have queues : ¬ fld d fTM_ACC_SEL_TABLE 0 ≤ 1 := by omega
  have nodes : ¬ fld d fTM_ACC_SEL_TABLE 0 ≤ 3 := by omega
  have policers : ¬ fld d fTM_ACC_SEL_TABLE 0 = 4 := by omega
  have groups : ¬ (fld d fTM_ACC_SEL_TABLE 0 = 5 ∧ fld d fTM_ACC_SEL_INDEX 0 < 4096) := by omega
  simp only [accWrite, if_neg queues, if_neg nodes, if_neg policers, if_neg groups]

theorem tmObjectWrite_setsQueue : Runs .tmObjectWrite
    (fun a => fld a fTM_ACC_SEL_TABLE 0 = 0 ∧ fld a fTM_ACC_SEL_INDEX 0 < 64 * a.part.ports ∧
      shaperOk (bitsOf (reg a .tmAccData 0).toNat 45 24) (bitsOf (reg a .tmAccData 0).toNat 23 0) = true ∧
      reserveOk a (fld a fTM_ACC_SEL_INDEX 0) (bitsOf (reg a .tmAccData 1).toNat 34 25) = true)
    (fun a d => fld d fTM_ACC_STATUS_RESULT 0 = 0 ∧
      (queue d (fld a fTM_ACC_SEL_INDEX 0)).weight = bitsOf (reg a .tmAccData 1).toNat 47 38 ∧
      (queue d (fld a fTM_ACC_SEL_INDEX 0)).alpha = bitsOf (reg a .tmAccData 1).toNat 37 35 ∧
      (queue d (fld a fTM_ACC_SEL_INDEX 0)).reserve = bitsOf (reg a .tmAccData 1).toNat 34 25 ∧
      (queue d (fld a fTM_ACC_SEL_INDEX 0)).shaper.rate = bitsOf (reg a .tmAccData 0).toNat 45 24 ∧
      (queue d (fld a fTM_ACC_SEL_INDEX 0)).shaper.burst = bitsOf (reg a .tmAccData 0).toNat 23 0 ∧
      (queue d (fld a fTM_ACC_SEL_INDEX 0)).shaper.enable = (reg a .tmAccData 0).toNat.testBit 47) :=
  runs_of exec_tmObjectWrite fun a ⟨table, here, shaper, reserve⟩ => by
    obtain ⟨w, awake⟩ := idleExit_eq a
    obtain ⟨done, set⟩ := accWrite_queue (d := { a with pwr := w }) table here shaper reserve
    rw [awake]
    exact ⟨done, congrArg Queue.weight set, congrArg Queue.alpha set, congrArg Queue.reserve set,
      congrArg (fun q => q.shaper.rate) set, congrArg (fun q => q.shaper.burst) set, congrArg (fun q => q.shaper.enable) set⟩

theorem tmObjectWrite_setsGroup : Runs .tmObjectWrite
    (fun a => fld a fTM_ACC_SEL_TABLE 0 = 5 ∧ fld a fTM_ACC_SEL_INDEX 0 < 4096 ∧
      (reg a .tmAccData 1).toNat * 2 ^ 48 + (reg a .tmAccData 0).toNat < 2 ^ a.part.ports)
    (fun a d => fld d fTM_ACC_STATUS_RESULT 0 = 0 ∧ group d (fld a fTM_ACC_SEL_INDEX 0) =
      ⟨(reg a .tmAccData 1).toNat * 2 ^ 48 + (reg a .tmAccData 0).toNat, (reg a .tmAccData 2).toNat.testBit 0,
        (reg a .tmAccData 2).toNat.testBit 1⟩) :=
  runs_of exec_tmObjectWrite fun a ⟨table, here, ports⟩ => by
    obtain ⟨w, awake⟩ := idleExit_eq a
    rw [awake, accWrite_group (d := { a with pwr := w }) table here ports, group_of_tm (accResult_tm _ _)]
    exact ⟨fld_accResult_done _, group_setGroup_same _ _ _⟩

theorem tmObjectWrite_refuses : Runs .tmObjectWrite
    (fun a => 6 ≤ fld a fTM_ACC_SEL_TABLE 0)
    (fun a d => d.tm = a.tm ∧ fld d fTM_ACC_STATUS_RESULT 0 = 1 ∧ fld d fTM_EVENT_ACC_REFUSED 0 = 1) :=
  runs_of exec_tmObjectWrite fun a table => by
    obtain ⟨w, awake⟩ := idleExit_eq a
    rw [awake, accWrite_noTable (d := { a with pwr := w }) table, accResult_tm]
    exact ⟨rfl, fld_accResult_refused _, fld_accResult_event _⟩

/-! ## Reads (R354) -/

/-- The data words set from a list, in order. -/
def setAccData (ws : List Nat) (d : Dev) : Dev :=
  (List.range 4).foldl (fun d i => setReg .tmAccData i (BitVec.ofNat 48 (ws.getD i 0)) d) d

@[simp] theorem setAccData_tm (ws : List Nat) (d : Dev) : (setAccData ws d).tm = d.tm := by
  simp only [setAccData, show List.range 4 = [0, 1, 2, 3] from rfl, List.foldl_cons, List.foldl_nil, setReg_tm]

theorem reg_setAccData {i : Nat} (h : i < 4) (ws : List Nat) (d : Dev) :
    reg (setAccData ws d) .tmAccData i = BitVec.ofNat 48 (ws.getD i 0) := by
  refine BitVec.eq_of_toNat_eq ?_
  refine foldl_writes (look := fun d i => (reg d .tmAccData i).toNat) (v := fun i => (BitVec.ofNat 48 (ws.getD i 0)).toNat)
    (fun d j => ?_) (fun d j k apart => ?_) d 4 i h
  · rw [reg_setReg_same]
  · rw [reg_setReg_other apart (by decide)]

theorem accRead_of_words {d : Dev} {ws : List Nat}
    (h : accWords d (fld d fTM_ACC_SEL_TABLE 0) (fld d fTM_ACC_SEL_INDEX 0) = some ws) :
    accRead d = accResult true (setAccData ws d) := by
  rw [accRead, h]
  rfl

/-- The four words of a policer. -/
def policerWords (p : Policer) : List Nat :=
  [p.cfg.cir * 2 ^ 16 + p.cfg.cbs, p.cfg.pir * 2 ^ 16 + p.cfg.pbs, p.cfg.aware.toNat * 8 + p.cfg.yellow * 2 + p.cfg.red,
    p.tc / token * 2 ^ 16 + p.tp / token]

theorem accWords_policer (d : Dev) (i : Nat) : accWords d 4 i = some (policerWords (policer d i)) := rfl

theorem tmObjectRead_showsPolicer : Runs .tmObjectRead
    (fun a => fld a fTM_ACC_SEL_TABLE 0 = 4)
    (fun a d => fld d fTM_ACC_STATUS_RESULT 0 = 0 ∧ d.tm = a.tm ∧
      reg d .tmAccData 0 = BitVec.ofNat 48 ((policer a (fld a fTM_ACC_SEL_INDEX 0)).cfg.cir * 2 ^ 16 +
        (policer a (fld a fTM_ACC_SEL_INDEX 0)).cfg.cbs) ∧
      reg d .tmAccData 3 = BitVec.ofNat 48 ((policer a (fld a fTM_ACC_SEL_INDEX 0)).tc / token * 2 ^ 16 +
        (policer a (fld a fTM_ACC_SEL_INDEX 0)).tp / token)) :=
  runs_of exec_tmObjectRead fun a table => by
    obtain ⟨w, awake⟩ := idleExit_eq a
    have words : accWords { a with pwr := w } (fld a fTM_ACC_SEL_TABLE 0) (fld a fTM_ACC_SEL_INDEX 0) =
        some (policerWords (policer a (fld a fTM_ACC_SEL_INDEX 0))) := by
      rw [table, accWords_policer]
      rfl
    rw [awake, accRead_of_words words, accResult_tm, setAccData_tm, reg_accResult_data (by decide),
      reg_accResult_data (by decide), reg_setAccData (by decide), reg_setAccData (by decide)]
    exact ⟨fld_accResult_done _, rfl, rfl, rfl⟩

/-- Settles O27: the window's answer leaves the objects and the data words, so an object reads as it was written and the words as
they were read. -/
theorem objectWindow : Obligations.ObjectWindow :=
  ⟨tmObjectWrite_setsQueue, tmObjectWrite_setsGroup, tmObjectWrite_refuses, tmObjectRead_showsPolicer⟩

end Sys2Proof.Proofs
end

section
/-!
PROOF. The refills of shapers and policers (R335 to R337, R340) and the Wardrobe's write buffer (R349): what a refill makes of an
object that is listed, and which packets a write-back takes from the buffer.
-/

namespace Sys2Proof.Proofs

open Sys2Proof Sys2Proof.Machine Sys2Proof.Laws

/-! ## Sparse maps changed entry by entry -/

section

variable {α : Type} {f : α → α} {u : Nat → α} {k : Nat}

/-- A listed entry whose change is not what an unlisted key reads as stays listed. -/
theorem aget_changed [DecidableEq α] : ∀ l : List (Nat × α), (∀ v, aget l k = some v → f v ≠ u k) →
    aget ((l.map (fun e => (e.1, f e.2))).filter (fun e => e.2 != u e.1)) k = (aget l k).map f
  | [], _ => rfl
  | (j, v) :: l, listed => by
    have rest := aget_changed l
    simp only [aget] at listed ⊢
    by_cases here : j = k
    · subst here
      have stays := listed v (if_pos rfl)
      simp [stays, aget]
    · simp only [if_neg here] at listed ⊢
      simp only [List.map_cons, List.filter_cons]
      split
      · simp only [aget, if_neg here]
        exact rest listed
      · exact rest listed

/-- So every key reads as its entry changed. -/
theorem agetD_changed [DecidableEq α] (unlisted : f (u k) = u k) {l : List (Nat × α)}
    (listed : ∀ v, aget l k = some v → f v ≠ u k) :
    agetD ((l.map (fun e => (e.1, f e.2))).filter (fun e => e.2 != u e.1)) k (u k) = f (agetD l k (u k)) := by
  rw [agetD, aget_changed l listed, agetD]
  cases aget l k with
  | none => exact unlisted.symm
  | some v => rfl

end

/-! ## Shapers (R335, R336) -/

theorem refillShaper_of_enabled {s : Shaper} (h : s.enable = true) :
    refillShaper s = { s with credit := min (s.credit + s.rate) s.burst } := if_pos h

theorem refillShaper_of_disabled {s : Shaper} (h : s.enable = false) : refillShaper s = s := by simp [refillShaper, h]

/-- A refill leaves a shaper's settings. -/
theorem refillShaper_enable (s : Shaper) : (refillShaper s).enable = s.enable := by
  simp only [refillShaper]
  split <;> rfl

theorem nodeDefault_disabled (n : Nat) : (nodeDefault n).shaper.enable = false := by
  simp only [nodeDefault]
  split <;> rfl

/-- A listed queue other than the defaults has its shaper refilled and is left otherwise. -/
theorem queue_refillShapers {q : Nat} {d : Dev} (listed : aget d.tm.queues q ≠ some queueDefault) :
    queue (refillShapers d) q = { queue d q with shaper := refillShaper (queue d q).shaper } :=
  agetD_changed (f := fun w : Queue => { w with shaper := refillShaper w.shaper }) (u := fun _ => queueDefault) rfl
    fun v here same => by
      have off : v.shaper.enable = false := by
        rw [← refillShaper_enable, show refillShaper v.shaper = queueDefault.shaper from congrArg Queue.shaper same]
        rfl
      rw [refillShaper_of_disabled off] at same
      exact listed (here.trans (congrArg some same))

/-- So has a node. -/
theorem node_refillShapers {n : Nat} {d : Dev} (listed : aget d.tm.nodes n ≠ some (nodeDefault n)) :
    node (refillShapers d) n = { node d n with shaper := refillShaper (node d n).shaper } := by
  refine agetD_changed (f := fun x : Node => { x with shaper := refillShaper x.shaper }) (u := nodeDefault) ?unlisted
    fun v here same => ?_
  case unlisted => rw [refillShaper_of_disabled (nodeDefault_disabled n)]
  have off : v.shaper.enable = false := by
    rw [← refillShaper_enable, show refillShaper v.shaper = (nodeDefault n).shaper from congrArg Node.shaper same,
      nodeDefault_disabled]
  rw [refillShaper_of_disabled off] at same
  exact listed (here.trans (congrArg some same))

theorem shaperRefill_queue (t : Time) (q : Nat) : RunsAt (.shaperRefill t) t
    (fun a => (queue a q).shaper.enable = true)
    (fun a d => queue d q = { queue a q with shaper := { (queue a q).shaper with
      credit := min ((queue a q).shaper.credit + (queue a q).shaper.rate) (queue a q).shaper.burst } }) :=
  runsAt_of (exec_shaperRefill t) fun a on => by
    have listed : aget a.tm.queues q ≠ some queueDefault := fun default => by
      rw [queue, agetD, default] at on
      exact absurd on (by decide)
    rw [queue_refillShapers listed, refillShaper_of_enabled on]

theorem shaperRefill_node (t : Time) (n : Nat) : RunsAt (.shaperRefill t) t
    (fun a => (node a n).shaper.enable = true)
    (fun a d => node d n = { node a n with shaper := { (node a n).shaper with
      credit := min ((node a n).shaper.credit + (node a n).shaper.rate) (node a n).shaper.burst } }) :=
  runsAt_of (exec_shaperRefill t) fun a on => by
    have listed : aget a.tm.nodes n ≠ some (nodeDefault n) := fun default => by
      rw [node, agetD, default, Option.getD_some, nodeDefault_disabled] at on
      exact absurd on (by decide)
    rw [node_refillShapers listed, refillShaper_of_enabled on]

theorem shaperRefill_leaves (t : Time) (q n : Nat) : RunsAt (.shaperRefill t) t
    (fun a => (queue a q).shaper.enable = false ∧ aget a.tm.queues q ≠ some queueDefault ∧
      (node a n).shaper.enable = false ∧ aget a.tm.nodes n ≠ some (nodeDefault n))
    (fun a d => queue d q = queue a q ∧ node d n = node a n) :=
  runsAt_of (exec_shaperRefill t) fun a ⟨queueOff, queueListed, nodeOff, nodeListed⟩ => by
    rw [queue_refillShapers queueListed, refillShaper_of_disabled queueOff, node_refillShapers nodeListed,
      refillShaper_of_disabled nodeOff]
    exact ⟨rfl, rfl⟩

/-! ## Policers (R337, R340) -/

@[simp] theorem refillPolicer_cfg (p : Policer) : (refillPolicer p).cfg = p.cfg := by
  simp only [refillPolicer]
  split <;> rfl

@[simp] theorem refillPolicer_eff (p : Policer) : (refillPolicer p).eff = p.cfg := by
  simp only [refillPolicer]
  split <;> rfl

@[simp] theorem refillPolicer_fill (p : Policer) : (refillPolicer p).fill = false := by
  simp only [refillPolicer]
  split <;> rfl

/-- The bucket of committed tokens after a refill: full after a change of its size, filled up by its rate otherwise. -/
theorem refillPolicer_tc (p : Policer) : (refillPolicer p).tc =
    if p.fill then p.cfg.cbs * token else min (p.cfg.cbs * token) (p.tc + p.cfg.cir * 8 * token / 1000000) := by
  simp only [refillPolicer]
  split <;> rfl

/-- So the bucket of peak tokens. -/
theorem refillPolicer_tp (p : Policer) : (refillPolicer p).tp =
    if p.fill then p.cfg.pbs * token else min (p.cfg.pbs * token) (p.tp + p.cfg.pir * 8 * token / 1000000) := by
  simp only [refillPolicer]
  split <;> rfl

/-- A policer of other settings than the defaults is refilled. -/
theorem policer_refillPolicers {i : Nat} {d : Dev} (set : (policer d i).cfg ≠ {}) :
    policer (refillPolicers d) i = refillPolicer (policer d i) :=
  agetD_changed (f := refillPolicer) (u := fun _ => {}) (by decide) fun v here same => by
    rw [policer, agetD, here, Option.getD_some, ← refillPolicer_cfg, same] at set
    exact set rfl

theorem policerRefill_fills (t : Time) (i : Nat) : RunsAt (.policerRefill t) t
    (fun a => (policer a i).cfg ≠ {})
    (fun a d => (policer d i).cfg = (policer a i).cfg ∧ (policer d i).eff = (policer a i).cfg ∧
      (policer d i).fill = false ∧
      (policer d i).tc = (if (policer a i).fill then (policer a i).cfg.cbs * token
        else min ((policer a i).cfg.cbs * token) ((policer a i).tc + (policer a i).cfg.cir * 8 * token / 1000000)) ∧
      (policer d i).tp = (if (policer a i).fill then (policer a i).cfg.pbs * token
        else min ((policer a i).cfg.pbs * token) ((policer a i).tp + (policer a i).cfg.pir * 8 * token / 1000000))) :=
  runsAt_of (exec_policerRefill t) fun a set => by
    rw [policer_refillPolicers set]
    exact ⟨refillPolicer_cfg _, refillPolicer_eff _, refillPolicer_fill _, refillPolicer_tc _, refillPolicer_tp _⟩

/-! ## The write buffer (R349) -/

theorem nodup_eraseDups {α : Type} [BEq α] [LawfulBEq α] : ∀ l : List α, l.eraseDups.Nodup
  | [] => List.nodup_nil
  | a :: l => by
    rw [List.eraseDups_cons, List.nodup_cons]
    exact ⟨by simp [List.mem_eraseDups], nodup_eraseDups (l.filter fun b => !b == a)⟩
termination_by l => l.length
decreasing_by exact Nat.lt_succ_of_le (List.length_filter_le _ _)

theorem nodup_stagedStores (d : Dev) : (stagedStores d).Nodup := nodup_eraseDups _

theorem mem_stagedStores {d : Dev} {x : Nat} :
    x ∈ stagedStores d ↔ ∃ e ∈ d.tm.queues, ∃ p ∈ e.2.items, p.staged = true ∧ p.store = x := by
  simp [stagedStores, List.mem_eraseDups, and_assoc]

/-- The packets in the write buffer, oldest first. -/
def stagedByAge (d : Dev) : List Nat := (stagedStores d).mergeSort (fun a b => decide (a ≤ b))

theorem perm_stagedByAge (d : Dev) : (stagedByAge d).Perm (stagedStores d) := List.mergeSort_perm _ _

theorem nodup_stagedByAge (d : Dev) : (stagedByAge d).Nodup := (perm_stagedByAge d).nodup_iff.2 (nodup_stagedStores d)

theorem pairwise_stagedByAge (d : Dev) : (stagedByAge d).Pairwise (· ≤ ·) := List.pairwise_mergeSort' _ _

/-- A packet of those named is no longer staged. -/
def unstage (cut : List Nat) (p : QPkt) : QPkt := { p with staged := p.staged && !cut.contains p.store }

/-- A write-back changes of the queues which packets are staged, and nothing else. -/
theorem queues_writebackOldest (n : Nat) (d : Dev) : (writebackOldest n d).tm.queues = d.tm.queues.map (fun e =>
    (e.1, { e.2 with items := e.2.items.map (unstage ((stagedByAge d).take n)) })) := by
  simp only [writebackOldest]
  congr 2
  refine Only_foldl (ps := releasePieces) (fun d p => ?_) _ d .tm (by decide)
  cases p.page with
  | none => exact Only_refl _ d
  | some at_ => exact Only_step (only_mapReads _ _ _ _) (only_clearPoison _ _)

@[simp] theorem staged_unstage (cut : List Nat) (p : QPkt) :
    (unstage cut p).staged = true ↔ p.staged = true ∧ p.store ∉ cut := by
  simp [unstage]

@[simp] theorem store_unstage (cut : List Nat) (p : QPkt) : (unstage cut p).store = p.store := rfl

/-- A packet is staged after a write-back where it was before and is none of the n oldest. -/
theorem mem_stagedStores_writebackOldest {n x : Nat} {d : Dev} :
    x ∈ stagedStores (writebackOldest n d) ↔ x ∈ stagedStores d ∧ x ∉ (stagedByAge d).take n := by
  simp only [mem_stagedStores, queues_writebackOldest, List.mem_map, exists_exists_and_eq_and, staged_unstage,
    store_unstage]
  constructor
  · rintro ⟨e, he, p, hp, ⟨staged, kept⟩, rfl⟩
    exact ⟨⟨e, he, p, hp, staged, rfl⟩, kept⟩
  · rintro ⟨⟨e, he, p, hp, staged, rfl⟩, kept⟩
    exact ⟨e, he, p, hp, ⟨staged, kept⟩, rfl⟩

/-- What a write-back leaves in the write buffer: the packets behind the n oldest. -/
theorem mem_stagedStores_drop {n x : Nat} {d : Dev} :
    x ∈ stagedStores (writebackOldest n d) ↔ x ∈ (stagedByAge d).drop n := by
  have apart := List.disjoint_take_drop (nodup_stagedByAge d) (Nat.le_refl n)
  have parts : x ∈ stagedStores d ↔ x ∈ (stagedByAge d).take n ∨ x ∈ (stagedByAge d).drop n := by
    rw [← (perm_stagedByAge d).mem_iff, ← List.mem_append, List.take_append_drop]
  rw [mem_stagedStores_writebackOldest, parts]
  exact ⟨fun ⟨either, kept⟩ => either.resolve_left kept, fun late => ⟨.inr late, fun early => apart early late⟩⟩

theorem length_stagedStores_writebackOldest (n : Nat) (d : Dev) :
    (stagedStores (writebackOldest n d)).length = (stagedStores d).length - n := by
  have left : (stagedStores (writebackOldest n d)).Perm ((stagedByAge d).drop n) :=
    (List.perm_ext_iff_of_nodup (nodup_stagedStores _) ((nodup_stagedByAge d).sublist (List.drop_sublist _ _))).2
      fun _ => mem_stagedStores_drop
  rw [left.length_eq, List.length_drop, (perm_stagedByAge d).length_eq]

/-- A packet written back is older than every one that is left. -/
theorem lt_of_written {n x y : Nat} {d : Dev} (left : x ∈ stagedStores (writebackOldest n d)) (was : y ∈ stagedStores d)
    (written : y ∉ stagedStores (writebackOldest n d)) : y < x := by
  have early : y ∈ (stagedByAge d).take n := by
    by_contra late
    exact written (mem_stagedStores_writebackOldest.2 ⟨was, late⟩)
  have sorted := pairwise_stagedByAge d
  rw [← List.take_append_drop n (stagedByAge d), List.pairwise_append] at sorted
  obtain ⟨-, -, le⟩ := sorted
  refine lt_of_le_of_ne (le y early x (mem_stagedStores_drop.1 left)) fun same => ?_
  exact written (same ▸ left)

theorem wardrobeWriteback_takesOldest (n : Nat) : Runs (.wardrobeWriteback n)
    (fun _ => True)
    (fun a d => (stagedStores d).length = (stagedStores a).length - n ∧
      (∀ x ∈ stagedStores d, x ∈ stagedStores a ∧ ∀ y ∈ stagedStores a, y ∉ stagedStores d → y < x) ∧
      d.tm.queues.map (fun (e : Nat × Queue) =>
          (e.1, { e.2 with items := e.2.items.map (fun (p : QPkt) => { p with staged := false }) })) =
        a.tm.queues.map (fun (e : Nat × Queue) =>
          (e.1, { e.2 with items := e.2.items.map (fun (p : QPkt) => { p with staged := false }) }))) :=
  runs_of (exec_wardrobeWriteback n) fun a _ => by
    refine ⟨length_stagedStores_writebackOldest n a, fun x left => ?_, ?_⟩
    · exact ⟨(mem_stagedStores_writebackOldest.1 left).1, fun y was written => lt_of_written left was written⟩
    · rw [queues_writebackOldest, List.map_map]
      refine List.map_congr_left fun e _ => ?_
      simp only [Function.comp_apply, List.map_map]
      rfl

end Sys2Proof.Proofs
end

section
/-!
PROOF. Queue samples (R352, R353): an item says the same whatever the power state, and what the samples of a list leave of their
drawer, with room for all of them and without.
-/

namespace Sys2Proof.Proofs

open Sys2Proof Sys2Proof.Machine Sys2Proof.Laws

/-! ## What a sample item speaks of (R265, R333, R353) -/

theorem treeWords_of_cls {a b : Dev} (h : b.cls = a.cls) (pipe : Nat) :
    ∀ n addr, treeWords b pipe addr n = treeWords a pipe addr n
  | 0, _ => rfl
  | n + 1, addr => by simp only [treeWords, treeWord_of_cls h, treeWords_of_cls h pipe n]

theorem firstRule_of_cls {a b : Dev} (h : b.cls = a.cls) (pipe : Nat) (key : List Nat) :
    ∀ ps, firstRule b pipe key ps = firstRule a pipe key ps
  | [] => rfl
  | p :: ps => by simp only [firstRule, treeWords_of_cls h, firstRule_of_cls h pipe key ps]

theorem walkFrom_of_cls {a b : Dev} (h : b.cls = a.cls) (pipe : Nat) (key : List Nat) :
    ∀ n blk leaf, walkFrom b pipe key n blk leaf = walkFrom a pipe key n blk leaf
  | 0, _, _ => by
    rw [walkFrom, walkFrom]
    simp only [treeWords_of_cls h, firstRule_of_cls h]
  | n + 1, _, _ => by
    rw [walkFrom, walkFrom]
    simp only [treeWords_of_cls h, firstRule_of_cls h, walkFrom_of_cls h pipe key n]

theorem region_of_regs {a b : Dev} (h : b.regs = a.regs) (pipe k : Nat) : region b pipe k = region a pipe k := by
  simp only [region, fld_of_regs h]

/-- A walk reads the trees, and the registers of their regions. -/
theorem walk_of_cls {a b : Dev} (cls : b.cls = a.cls) (regs : b.regs = a.regs) (pipe k : Nat) (egress : Bool)
    (key : List Nat) : walk b pipe k egress key = walk a pipe k egress key := by
  have default : defaultRule b pipe k egress = defaultRule a pipe k egress := by
    simp only [defaultRule, region_of_regs regs, treeWords_of_cls cls]
  simp only [walk, default, region_of_regs regs, treeWords_of_cls cls, walkFrom_of_cls cls]

theorem downLength_of_cls {a b : Dev} (cls : b.cls = a.cls) (regs : b.regs = a.regs) (port : Nat) (p : QPkt) :
    downLength b port p = downLength a port p := by
  simp only [downLength, egressWalk, walk_of_cls cls regs, fld_of_regs regs]

/-- A sample item doesn't speak of the power state. -/
theorem sampleItem_pwr (w : PwrSt) (d : Dev) (dir q : Nat) : sampleItem { d with pwr := w } dir q = sampleItem d dir q := by
  have length : ∀ c n, queuedLength { d with pwr := w } c n = queuedLength d c n := fun c n => by
    simp only [queuedLength, downLength_of_cls (a := d) (b := { d with pwr := w }) rfl rfl]
    rfl
  simp only [sampleItem, length]
  rfl

/-! ## Items posted (R483, R487, R488) -/

/-- An item for a full drawer, or one flushed in this cycle, is only counted (R483, R487). -/
theorem post_full {n : Nat} {d : Dev} (full : drawerRoom d n = false) (item : List Word) :
    post n item d = count .drwDropped n d := by
  simp only [post, full, Bool.not_false, if_true]

theorem drawerRoom_of_drawers {a b : Dev} (h : b.host.drawers = a.host.drawers) (now : b.now = a.now) (n : Nat) :
    drawerRoom b n = drawerRoom a n := by
  rw [drawerRoom, drawer_of_drawers h, now, drawerRoom]

/-- The level rule changes of a drawer only whether it is armed (R488). -/
theorem drawer_levelCheck (n : Nat) (d : Dev) : ∃ armed, drawer (levelCheck n d) n = { drawer d n with armed := armed } := by
  simp only [levelCheck]
  split
  · exact ⟨_, rfl⟩
  · split
    · exact ⟨true, drawer_setDrawer_same _ _ _⟩
    · split
      · split
        · exact ⟨false, drawer_setDrawer_same _ _ _⟩
        · exact ⟨false, (drawer_of_drawers keepsPosted_signal.drawers n).trans (drawer_setDrawer_same _ _ _)⟩
      · exact ⟨_, rfl⟩

theorem flushedAt_levelCheck (n : Nat) (d : Dev) : (drawer (levelCheck n d) n).flushedAt = (drawer d n).flushedAt := by
  obtain ⟨_, levelled⟩ := drawer_levelCheck n d
  rw [levelled]

/-- An item posted leaves the instant of its drawer's latest flush. -/
theorem flushedAt_post (n : Nat) (item : List Word) (d : Dev) :
    (drawer (post n item d) n).flushedAt = (drawer d n).flushedAt := by
  simp only [post]
  split
  · rw [drawer_of_drawers keepsPosted_count.drawers]
  · rw [flushedAt_levelCheck, drawer_of_drawers keepsPosted_count.drawers, drawer_setDrawer_same]

/-- An item posted is counted for its drawer alone. -/
theorem counter_post {c : CName} {n k : Nat} {item : List Word} {d : Dev}
    (other : ∀ x ∈ [CName.drwPosted, .drwDropped], cnameIndex c ≠ cnameIndex x) (hn : n < 65536) (hk : k < 65536) :
    counter (post n item d) c k = counter d c k := by
  simp only [post]
  split
  · exact counter_count_other (other _ (by decide)) hn hk
  · rw [counter_of_cnt (only_levelCheck n _ .cnt (by decide)), counter_count_other (other _ (by decide)) hn hk]
    rfl

/-! ## One queue sampled (R352, R353) -/

/-- The number for the next sample item is taken. -/
def numbered (d : Dev) : Dev := { d with tm := { d.tm with sampleSeq := d.tm.sampleSeq + 1 } }

/-- A sample that its drawer has room for is posted and counted. -/
theorem sampleQueue_of_room {d : Dev} (room : drawerRoom d 3 = true) (dir q : Nat) :
    sampleQueue dir q d = count .samplesPosted 0 (post 3 (sampleItem d dir q) (numbered d)) := by
  simp only [sampleQueue, room, if_true, numbered]

/-- Another one is dropped, counted and raised. -/
theorem sampleQueue_of_full {d : Dev} (full : drawerRoom d 3 = false) (dir q : Nat) :
    sampleQueue dir q d =
      raise fTM_EVENT_SAMPLE_DROP 0 (count .samplesDropped 0 (count .drwDropped 3 (numbered d))) := by
  have stillFull : drawerRoom (numbered d) 3 = false := full
  simp only [sampleQueue, full, Bool.false_eq_true, if_false]
  rw [← post_full stillFull (sampleItem d dir q)]
  rfl

/-- Either way it takes one number (R353). -/
theorem sampleSeq_sampleQueue (dir q : Nat) (d : Dev) : (sampleQueue dir q d).tm.sampleSeq = d.tm.sampleSeq + 1 := by
  cases room : drawerRoom d 3 with
  | true => rw [sampleQueue_of_room room, count_tm, post_tm, numbered]
  | false => rw [sampleQueue_of_full room, raise_tm, count_tm, count_tm, numbered]

/-- A posted sample enters behind the drawer's items. -/
theorem items_sampleQueue {d : Dev} (room : drawerRoom d 3 = true) (dir q : Nat) :
    (drawer (sampleQueue dir q d) 3).items = (drawer d 3).items ++ [sampleItem d dir q] := by
  have stillRoom : drawerRoom (numbered d) 3 = true := room
  rw [sampleQueue_of_room room, drawer_of_drawers keepsPosted_count.drawers, items_post stillRoom]
  rfl

theorem counter_samplesPosted_sampleQueue {d : Dev} (room : drawerRoom d 3 = true) (dir q : Nat) :
    counter (sampleQueue dir q d) .samplesPosted 0 = counter d .samplesPosted 0 + 1 := by
  rw [sampleQueue_of_room room, counter_count_same, counter_post (by decide) (by decide) (by decide)]
  rfl

/-! ## The queues of a list sampled (R352, R353) -/

/-- The queues of a list sampled in its order. -/
def sampleQueues (l : List (Nat × Nat)) (d : Dev) : Dev := l.foldl (fun d e => sampleQueue e.1 e.2 d) d

theorem sampleQueues_cons (e : Nat × Nat) (l : List (Nat × Nat)) (d : Dev) :
    sampleQueues (e :: l) d = sampleQueues l (sampleQueue e.1 e.2 d) := rfl

theorem sampleSeq_sampleQueues : ∀ (l : List (Nat × Nat)) (d : Dev),
    (sampleQueues l d).tm.sampleSeq = d.tm.sampleSeq + l.length
  | [], _ => rfl
  | e :: l, d => by
    rw [sampleQueues_cons, sampleSeq_sampleQueues l, sampleSeq_sampleQueue, List.length_cons]
    omega

/-- Drawer 3 takes n more items: it wasn't flushed in this cycle and holds few enough. -/
structure TakesSamples (n : Nat) (d : Dev) : Prop where
  unflushed : (drawer d 3).flushedAt ≠ some d.now
  fits : (drawer d 3).items.length + n ≤ drawerDepth 3

theorem TakesSamples.room {n : Nat} {d : Dev} (h : TakesSamples (n + 1) d) : drawerRoom d 3 = true := by
  have fits := h.fits
  rw [drawerRoom, Bool.and_eq_true, decide_eq_true_eq, decide_eq_true_eq]
  exact ⟨by omega, h.unflushed⟩

/-- One of them taken leaves room for the others. -/
theorem TakesSamples.after_sampleQueue {n : Nat} {d : Dev} (h : TakesSamples (n + 1) d) (dir q : Nat) :
    TakesSamples n (sampleQueue dir q d) where
  unflushed := by
    rw [sampleQueue_of_room h.room, drawer_of_drawers keepsPosted_count.drawers, flushedAt_post, count_now, post_now]
    exact h.unflushed
  fits := by
    have fits := h.fits
    rw [items_sampleQueue h.room, List.length_append, List.length_singleton]
    omega

/-- With room for all of a list, one item of each queue enters behind the drawer's items. -/
theorem items_sampleQueues : ∀ {l : List (Nat × Nat)} {d : Dev}, TakesSamples l.length d →
    ∃ new, (drawer (sampleQueues l d) 3).items = (drawer d 3).items ++ new ∧ new.length = l.length
  | [], _, _ => ⟨[], (List.append_nil _).symm, rfl⟩
  | e :: l, d, takes => by
    obtain ⟨new, entered, all⟩ := items_sampleQueues (takes.after_sampleQueue e.1 e.2)
    refine ⟨sampleItem d e.1 e.2 :: new, ?_, congrArg (· + 1) all⟩
    rw [sampleQueues_cons, entered, items_sampleQueue takes.room, List.append_assoc, List.singleton_append]

/-- What the samples of n queues leave where the drawer has no room: each is counted as dropped. -/
structure SamplesDropped (n : Nat) (a d : Dev) : Prop where
  drawers : d.host.drawers = a.host.drawers
  now : d.now = a.now
  counted : counter d .samplesDropped 0 = counter a .samplesDropped 0 + BitVec.ofNat 48 n
  raised : n ≠ 0 → fld d fTM_EVENT_SAMPLE_DROP 0 = 1

theorem SamplesDropped.refl (d : Dev) : SamplesDropped 0 d d :=
  ⟨rfl, rfl, (BitVec.add_zero _).symm, fun h => absurd rfl h⟩

theorem SamplesDropped.one {d : Dev} (full : drawerRoom d 3 = false) (dir q : Nat) :
    SamplesDropped 1 d (sampleQueue dir q d) := by
  rw [sampleQueue_of_full full]
  refine ⟨?_, ?_, ?_, fun _ => fld_raise_same _ _ _ (by decide) (by decide)⟩
  · exact (keepsPosted_raise.after (keepsPosted_count.after keepsPosted_count)).drawers
  · rw [raise_now, count_now, count_now, numbered]
  · rw [counter_raise, counter_count_same, counter_count_other (by decide) (by decide) (by decide)]
    rfl

/-- A first sample dropped before those of n other queues. -/
theorem SamplesDropped.cons {n : Nat} {a b c : Dev} (h : SamplesDropped 1 a b) (k : SamplesDropped n b c)
    (last : n = 0 → c = b) : SamplesDropped (n + 1) a c where
  drawers := k.drawers.trans h.drawers
  now := k.now.trans h.now
  counted := by
    rw [k.counted, h.counted, BitVec.add_assoc, ← BitVec.ofNat_add, Nat.add_comm]
  raised _ := by
    by_cases empty : n = 0
    · rw [last empty]
      exact h.raised Nat.one_ne_zero
    · exact k.raised empty

theorem sampleQueues_dropped : ∀ (l : List (Nat × Nat)) {d : Dev}, drawerRoom d 3 = false →
    SamplesDropped l.length d (sampleQueues l d)
  | [], d, _ => .refl d
  | e :: l, d, full => by
    have first := SamplesDropped.one full e.1 e.2
    have stillFull := (drawerRoom_of_drawers first.drawers first.now 3).trans full
    refine first.cons (sampleQueues_dropped l stillFull) fun last => ?_
    rw [List.eq_nil_of_length_eq_zero last]
    rfl

/-! ## The command (R352, R353) -/

theorem queueSample_posts (t : Time) (x q : Nat) : RunsAt (.queueSample t) t
    (fun a => coreRuns a = true ∧ sampleList a = [(x, q)] ∧ drawerRoom a 3 = true)
    (fun a d => (drawer d 3).items = (drawer a 3).items ++ [sampleItem a x q] ∧ d.tm.sampleSeq = a.tm.sampleSeq + 1 ∧
      counter d .samplesPosted 0 = counter a .samplesPosted 0 + 1) :=
  runsAt_core (exec_queueSample t) fun a ⟨runs, listed, room⟩ => by
    obtain ⟨w, awake⟩ := idleExit_eq a
    have listed : sampleList { a with pwr := w } = [(x, q)] := listed
    have room : drawerRoom { a with pwr := w } 3 = true := room
    rw [awake, listed, List.foldl_cons, List.foldl_nil, items_sampleQueue room, sampleItem_pwr, sampleSeq_sampleQueue,
      counter_samplesPosted_sampleQueue room]
    exact ⟨runs, rfl, rfl, rfl⟩

theorem queueSample_postsAll (t : Time) : RunsAt (.queueSample t) t
    (fun a => coreRuns a = true ∧ (drawer a 3).flushedAt ≠ some a.now ∧
      (drawer a 3).items.length + (sampleList a).length ≤ drawerDepth 3)
    (fun a d => (drawer d 3).items.length = (drawer a 3).items.length + (sampleList a).length ∧
      (drawer d 3).items.take (drawer a 3).items.length = (drawer a 3).items ∧
      d.tm.sampleSeq = a.tm.sampleSeq + (sampleList a).length) :=
  runsAt_core (exec_queueSample t) fun a ⟨runs, unflushed, fits⟩ => by
    obtain ⟨w, awake⟩ := idleExit_eq a
    have takes : TakesSamples (sampleList a).length { a with pwr := w } := ⟨unflushed, fits⟩
    obtain ⟨new, entered, all⟩ := items_sampleQueues takes
    rw [awake]
    refine ⟨runs, ?_, ?_, sampleSeq_sampleQueues (sampleList a) _⟩
    · exact (congrArg List.length entered).trans (by rw [List.length_append, all]; rfl)
    · exact (congrArg (List.take _) entered).trans List.take_left

theorem queueSample_drops (t : Time) : RunsAt (.queueSample t) t
    (fun a => coreRuns a = true ∧ drawerRoom a 3 = false)
    (fun a d => (drawer d 3).items = (drawer a 3).items ∧ d.tm.sampleSeq = a.tm.sampleSeq + (sampleList a).length ∧
      counter d .samplesDropped 0 = counter a .samplesDropped 0 + BitVec.ofNat 48 (sampleList a).length ∧
      (sampleList a ≠ [] → fld d fTM_EVENT_SAMPLE_DROP 0 = 1)) :=
  runsAt_core (exec_queueSample t) fun a ⟨runs, full⟩ => by
    obtain ⟨w, awake⟩ := idleExit_eq a
    have dropped := sampleQueues_dropped (sampleList a) (d := { a with pwr := w }) full
    rw [awake]
    refine ⟨runs, ?_, sampleSeq_sampleQueues (sampleList a) _, dropped.counted, fun sampled => ?_⟩
    · exact congrArg Drawer.items (drawer_of_drawers dropped.drawers 3)
    · exact dropped.raised fun empty => sampled (List.eq_nil_of_length_eq_zero empty)

/-- Settles O26: a refill leaves what is enabled or set listed, the write buffer keeps what lies behind its n oldest packets, and
each sample leaves the drawer with room for the rest of the list, or as full as it was. -/
theorem refillsAndSamples : Obligations.RefillsAndSamples :=
  ⟨shaperRefill_queue, shaperRefill_node, shaperRefill_leaves, policerRefill_fills, wardrobeWriteback_takesOldest,
    queueSample_posts, queueSample_postsAll, queueSample_drops⟩

end Sys2Proof.Proofs
end

section
/-!
PROOF. What every command is: a change of the device lifted to the state, or one of the six commands that reach the
in-package memory; hence every command completes, a queue runs to its end, nothing happens while PORST_N is low, and only the
six can change the memory.
-/

namespace Sys2Proof.Proofs

open Sys2Proof Sys2Proof.Machine Sys2Proof.Laws

/-! ## The form of a command -/

/-- The lifts of a device's change: at once, at the instant that a command brings, and there with the core domain running. -/
inductive Lifted : (State → Out) → Prop
  | now (f : Dev → Dev) : Lifted (onDev f)
  | at_ (t : Time) (f : Dev → Dev) : Lifted (at_ t f)
  | core (t : Time) (f : Dev → Dev) : Lifted (atCore t f)

theorem Lifted.eq_onDev {o : State → Out} (h : Lifted o) : ∃ f : Dev → Dev, o = onDev f := by
  cases h with
  | now f => exact ⟨f, rfl⟩
  | at_ t f => exact ⟨fun d => f (tick t d), rfl⟩
  | core t f => exact ⟨fun d => if coreRuns (tick t d) then f (idleExit (tick t d)) else tick t d, rfl⟩

theorem exec_porstAssert_eq_onDev (t : Time) (s : State) : exec (.porstAssert t) s = onDev (fsDrive (porstAssert t)) s := by
  cases low : s.dev.porstLow with
  | false => exact (onDev_eq _ s low).symm
  | true =>
    have same : fsDrive (porstAssert t) s.dev = s.dev := fsDrive_of_same (if_pos low)
    rw [onDev_low _ s low, exec_porstAssert, same]

/-- A command that leaves the memory alone is a lift of one change of the device. -/
theorem lifted_exec {c : Instr} (h : touchesMemory c = false) : Lifted fun s => exec c s := by
  cases c with
  | cxlMemAccess | migrationStep | clusterLoad | powerGood | warmReset | oscRdy => cases h
  | porstAssert t =>
    simp only [exec_porstAssert_eq_onDev]
    exact .now _
  | _ =>
    simp
    constructor

theorem exec_eq_onDev {c : Instr} (h : touchesMemory c = false) : ∃ f : Dev → Dev, ∀ s, exec c s = onDev f s := by
  obtain ⟨f, e⟩ := (lifted_exec h).eq_onDev
  exact ⟨f, congrFun e⟩

/-- A command's answer is a next state with the queue of s. -/
def Completes (o : Out) (s : State) : Prop := ∃ t, o = .next t ∧ t.pending = s.pending

theorem completes_onDev (f : Dev → Dev) (s : State) : Completes (onDev f s) s := ⟨_, rfl, rfl⟩

theorem completes_ite (p : Prop) [Decidable p] {t u s : State} (ht : t.pending = s.pending) (hu : u.pending = s.pending) :
    Completes (.next (if p then t else u)) s :=
  ⟨_, rfl, by split; exacts [ht, hu]⟩

/-- A change of the whole state that leaves the queue alone. -/
def KeepsQueue (f : State → State) : Prop := ∀ s, (f s).pending = s.pending

theorem completes_onWhole {f : State → State} (h : KeepsQueue f) (s : State) : Completes (onWhole f s) s :=
  completes_ite _ rfl (h s)

/-! ## The queue under the six commands that reach the memory -/

theorem cxlWriteLine_pending (p : Option Nat) (bs : List Byte) (s : State) : (cxlWriteLine p bs s).pending = s.pending := by
  cases p <;> rfl

theorem cxlWritePart_pending (p : Option Nat) (i : Nat) (bs : List Byte) (s : State) :
    (cxlWritePart p i bs s).pending = s.pending := by
  cases p <;> rfl

/-! An access of the window by its kind (R463). -/

theorem cxlAccess_closed {s : State} (h : windowOpen s.dev = false) (off : Nat) (x : CxlAccess) : cxlAccess off x s = s :=
  if_neg (by rw [h]; decide)

theorem cxlAccess_read {s : State} (h : windowOpen s.dev = true) (off n : Nat) :
    cxlAccess off (.read n) s =
      inDev (fun d => cxlRead ((List.range n).map fun i => windowByte d (off + i)) s.mem d)
        (inDev (mapReads 4 (off / 64 * 64) (n + off % 64)) s) := if_pos h

theorem cxlAccess_writeLine {s : State} (h : windowOpen s.dev = true) (off : Nat) (bs : List Byte) :
    cxlAccess off (.writeLine bs) s =
      cxlWriteLine (windowByte (mapReads 4 (off / 64 * 64) 64 s.dev) (off / 64 * 64)) bs
        (inDev (mapReads 4 (off / 64 * 64) 64) s) := if_pos h

theorem cxlAccess_writePart {s : State} (h : windowOpen s.dev = true) (off i : Nat) (bs : List Byte) :
    cxlAccess off (.writePart i bs) s =
      cxlWritePart (windowByte (mapReads 4 (off / 64 * 64) 64 s.dev) (off / 64 * 64)) i bs
        (inDev (mapReads 4 (off / 64 * 64) 64) s) := if_pos h

theorem keepsQueue_cxlAccess (off : Nat) (x : CxlAccess) : KeepsQueue (cxlAccess off x) := fun s => by
  cases open_ : windowOpen s.dev with
  | false => rw [cxlAccess_closed open_]
  | true =>
    cases x with
    | read n => rw [cxlAccess_read open_]; rfl
    | writeLine bs => rw [cxlAccess_writeLine open_, cxlWriteLine_pending]; rfl
    | writePart i bs => rw [cxlAccess_writePart open_, cxlWritePart_pending]; rfl

theorem keepsQueue_migrationStep (bad : List Nat) : KeepsQueue (migrationStep bad) := fun s => by
  simp only [migrationStep]
  split
  · rfl
  · split
    · rfl
    · split
      · rfl
      · split
        · rfl
        · split <;> rfl

theorem keepsQueue_clusterStart (c : Nat) (x y : Bool) : KeepsQueue (clusterStart c x y) := fun s => by
  simp only [clusterStart]
  split <;> rfl

/-- Every command completes (95_what_each_step_holds.md). -/
theorem completes_exec (c : Instr) (s : State) : Completes (exec c s) s := by
  by_cases h : touchesMemory c = false
  · obtain ⟨f, e⟩ := exec_eq_onDev h
    exact e s ▸ completes_onDev f s
  · cases c with
    | cxlMemAccess off x => exact completes_onWhole (keepsQueue_cxlAccess off x) s
    | migrationStep t bad => exact completes_onWhole (fun s => keepsQueue_migrationStep _ (inDev (tick t) s)) s
    | clusterLoad t k x y => exact completes_onWhole (fun s => keepsQueue_clusterStart k x y (inDev (tick t) s)) s
    | powerGood b => exact completes_ite _ rfl rfl
    | warmReset b => exact completes_ite _ rfl rfl
    | oscRdy b =>
      rw [exec_oscRdy]
      exact completes_onWhole (fun s => by dsimp only; split <;> rfl) s
    | _ => exact absurd rfl h

/-- Settles O1: a step is defined by the front of the queue. -/
theorem stepRunsFrontCommand : Obligations.StepRunsFrontCommand :=
  ⟨fun c rest s front => by rw [step, front], fun s empty => by rw [step, empty]⟩

/-- Settles O2: a command answers what a change of the state leaves, and the change lets the queue stand. -/
theorem everyCommandCompletes : Obligations.EveryCommandCompletes := completes_exec

/-! ## A queue run to its end -/

theorem step_takes_front {s : State} {c : Instr} {rest : List Instr} (front : s.pending = c :: rest) :
    ∃ t, step s = .next t ∧ t.pending = rest := by
  obtain ⟨t, next, queue⟩ := everyCommandCompletes c { s with pending := rest }
  exact ⟨t, (stepRunsFrontCommand.1 c rest s front).trans next, queue⟩

theorem run_to_end : ∀ (q : List Instr) (s : State), s.pending = q → ∃ t, run q.length s = some t ∧ t.pending = []
  | [], s, empty => ⟨s, rfl, empty⟩
  | c :: rest, s, front => by
    obtain ⟨u, next, left⟩ := step_takes_front front
    obtain ⟨t, ran, done⟩ := run_to_end rest u left
    exact ⟨t, by rw [List.length_cons, run, next]; exact ran, done⟩

/-- Settles O3, by induction on the queue: each step takes its front. -/
theorem runEmptiesQueue : Obligations.RunEmptiesQueue := fun s => run_to_end s.pending s rfl

/-! ## In reset (R630) -/

theorem warmTaken_low {d : Dev} (h : d.porstLow = true) : warmTaken d = false := by
  simp [warmTaken, h]

/-- Settles O8: every lift answers the state as it is while PORST_N is low, and a warm reset isn't taken then. -/
theorem nothingHappensInReset : Obligations.NothingHappensInReset := fun c s low started => by
  by_cases h : touchesMemory c = false
  · obtain ⟨f, e⟩ := exec_eq_onDev h
    exact (e s).trans (onDev_low f s low)
  · cases c with
    | cxlMemAccess off x => exact (exec_cxlMemAccess off x s).trans (onWhole_low _ s low)
    | migrationStep t bad => exact (exec_migrationStep t bad s).trans (onWhole_low _ s low)
    | clusterLoad t k x y => exact (exec_clusterLoad t k x y s).trans (onWhole_low _ s low)
    | oscRdy b => exact (exec_oscRdy b s).trans (onWhole_low _ s low)
    | powerGood b => exact absurd rfl (started b)
    | warmReset b => rw [exec_warmReset, warmTaken_low low]; rfl
    | _ => exact absurd rfl h

/-! ## The memory (R448, R457, R463, R529, R631) -/

theorem mem_of_onDev {f : Dev → Dev} {s t : State} (h : onDev f s = .next t) : t.mem = s.mem := by
  injection h with h
  exact (congrArg State.mem h).symm

/-- Settles O4: any other command changes the device alone. -/
theorem memoryBytesKept : Obligations.MemoryBytesKept := fun c s t h next a => by
  obtain ⟨f, e⟩ := exec_eq_onDev h
  rw [mem_of_onDev ((e s).symm.trans next)]

/-- A change of the whole state under which memory stays in its canonical form. -/
def KeepsForm (f : State → State) : Prop := ∀ s, s.mem.wf = true → (f s).mem.wf = true

theorem keepsForm_cxlWriteLine (p : Option Nat) (bs : List Byte) : KeepsForm (cxlWriteLine p bs) := fun s h => by
  cases p with
  | none => exact h
  | some a => exact wf_writeAll _ _ _ h

theorem keepsForm_cxlWritePart (p : Option Nat) (i : Nat) (bs : List Byte) : KeepsForm (cxlWritePart p i bs) := fun s h => by
  cases p with
  | none => exact h
  | some a => exact wf_writeAll _ _ _ h

theorem keepsForm_cxlAccess (off : Nat) (x : CxlAccess) : KeepsForm (cxlAccess off x) := fun s h => by
  cases open_ : windowOpen s.dev with
  | false => rwa [cxlAccess_closed open_]
  | true =>
    cases x with
    | read n => rwa [cxlAccess_read open_]
    | writeLine bs => rw [cxlAccess_writeLine open_]; exact keepsForm_cxlWriteLine _ _ _ h
    | writePart i bs => rw [cxlAccess_writePart open_]; exact keepsForm_cxlWritePart _ _ _ _ h

theorem keepsForm_migrationStep (bad : List Nat) : KeepsForm (migrationStep bad) := fun s h => by
  simp only [migrationStep]
  split
  · exact h
  · split
    · exact h
    · split
      · exact wf_copy _ _ _ _ h
      · split
        · exact h
        · split
          · exact h
          · exact wf_copy _ _ _ _ h

theorem keepsForm_clusterStart (c : Nat) (x y : Bool) : KeepsForm (clusterStart c x y) := fun s h => by
  simp only [clusterStart]
  split
  · exact h
  · exact wf_copySection _ _ _ h

/-- A command answers a memory in its canonical form. -/
def AnswersForm (o : Out) : Prop := ∀ t, o = .next t → t.mem.wf = true

theorem answersForm_next {s : State} (h : s.mem.wf = true) : AnswersForm (.next s) := fun t e => by
  injection e with e
  exact e ▸ h

theorem answersForm_ite {s : State} (p : Prop) [Decidable p] {u : State} (h : s.mem.wf = true) (k : u.mem.wf = true) :
    AnswersForm (.next (if p then u else s)) :=
  answersForm_next (by split; exacts [k, h])

theorem answersForm_onWhole {f : State → State} (k : KeepsForm f) {s : State} (h : s.mem.wf = true) :
    AnswersForm (onWhole f s) :=
  answersForm_next (by split; exacts [h, k s h])

theorem exec_answersForm (c : Instr) {s : State} (h : s.mem.wf = true) : AnswersForm (exec c s) := by
  by_cases touched : touchesMemory c = false
  · obtain ⟨f, e⟩ := exec_eq_onDev touched
    rw [e s]
    exact fun t next => (mem_of_onDev next).symm ▸ h
  · cases c with
    | cxlMemAccess off x => exact answersForm_onWhole (keepsForm_cxlAccess off x) h
    | migrationStep t bad => exact answersForm_onWhole (fun s h => keepsForm_migrationStep _ (inDev (tick t) s) h) h
    | clusterLoad t k x y => exact answersForm_onWhole (fun s h => keepsForm_clusterStart k x y (inDev (tick t) s) h) h
    | powerGood b => exact answersForm_ite _ h wf_empty
    | warmReset b => exact answersForm_ite _ h wf_empty
    | oscRdy b =>
      rw [exec_oscRdy]
      exact answersForm_onWhole (fun s h => by dsimp only; split; exacts [wf_empty, h]) h
    | _ => exact absurd rfl touched

/-- Settles O5: a byte written, a block or a section copied and a memory cleared each leave the list of bytes in order and
without zeros. -/
theorem memoryStaysCanonical : Obligations.MemoryStaysCanonical := fun s t h next => by
  cases q : s.pending with
  | nil => exact answersForm_next h t ((stepRunsFrontCommand.2 s q).symm.trans next)
  | cons c rest =>
    exact exec_answersForm c (s := { s with pending := rest }) h t ((stepRunsFrontCommand.1 c rest s q).symm.trans next)

/-- Settles O6: at reset nothing is in memory, in a drawer or in the queue. -/
theorem resetMeetsTheInvariants : Obligations.ResetMeetsTheInvariants :=
  ⟨wf_empty, fun _ => Nat.zero_le _, rfl, rfl⟩

end Sys2Proof.Proofs
end

section
/-!
PROOF. The frames of line and power commands (R521, R554): a setting that waited for its domain is written to its unit's
register when a power change brings the domain back, and the frames name none of those registers.
-/

namespace Sys2Proof.Proofs

open Sys2Proof Sys2Proof.Machine Sys2Proof.Laws

/-- What a frame says of a register that it doesn't name, for a command that brings its instant. -/
theorem reg_of_keepsAt {c : Instr} {ps : List Piece} {rs : List Reg} (keeps : Keeps c ps rs) {t : Time} {f : Dev → Dev}
    {a : Dev} (e : ∀ s, exec c s = at_ t f s) (low : a.porstLow = false) {r : Reg} {i : Nat} (unnamed : r ∉ rs)
    (i_lt : i < (regPlace r).2.2) : reg (f (tick t a)) r i = reg a r i :=
  Frame_reg (keeps { dev := a } _ ((e _).trans (at_eq t f { dev := a } low))).2.2 unnamed i_lt

/-- Sleep on an AZ96-16 whose domain of drop ports 0 to 7 is off, so that the MAX_FRAME of port 0, committed as 256, waits
for it (R521, R549). -/
def waitingFrameSize : Dev :=
  { State.reset.dev with
    porstLow := false
    pwr := { state := 2 }
    dict := [(0x3000 * 256 + 5, [0, 1])]
    dic := { deferred := [(28, 0x3000 * 256 + 5)] } }

/-- A request of Run full wakes it at once, the domain returns, and the setting reaches DP_FRAME of port 0 (R521, R563). -/
theorem reg_requestRunFull_waitingFrameSize :
    reg waitingFrameSize .dpFrame 0 ≠
      reg (fsDrive (powerRow 1 0 .controller) (tick 5 waitingFrameSize)) .dpFrame 0 := by decide +kernel

theorem not_keeps_requestRunFull {ps : List Piece} {rs : List Reg} (unnamed : .dpFrame ∉ rs) :
    ¬ Keeps (.requestRunFull 5 .controller) ps rs := fun keeps =>
  reg_requestRunFull_waitingFrameSize (reg_of_keepsAt keeps (exec_requestRunFull _ _) rfl unnamed (by decide)).symm

/-- Refutes O60: a request that wakes Sleep brings domains back, and what waited for them is written: here DP_FRAME, which the
frame of REQUEST_RUN_FULL doesn't name. -/
theorem not_frameOfTasksPowerCountersImages : ¬ Obligations.FrameOfTasksPowerCountersImages := by
  rintro ⟨-, -, -, -, -, -, -, -, -, -, -, requestRunFull, -⟩
  exact not_keeps_requestRunFull (by decide) (requestRunFull 5 .controller)

/-- The same terminal behind the retention commit of a change to Run, with an edge of a two-wire match latched meanwhile. -/
def wakingFrameSize : Dev :=
  { waitingFrameSize with
    pwr := { state := 2, edge := some 2
             change := some { req := { target := 1, origin := .controller }, phase := .running, retained := true } } }

/-- A frame of the tap on channel 0 in which nothing is seen. -/
def blankTap : FsFrame := ⟨5, 0, .a, 0, 0, 0, 0, []⟩

/-- The frame start completes the change, the edge wakes the terminal, and the setting reaches DP_FRAME of port 0. -/
theorem reg_fsFrameStart_wakingFrameSize :
    reg wakingFrameSize .dpFrame 0 ≠
      reg (fsDrive (fun d => powerHoldTry (fsFrame blankTap d)) (tick 5 wakingFrameSize)) .dpFrame 0 := by decide +kernel

theorem not_keeps_fsFrameStart {ps : List Piece} {rs : List Reg} (unnamed : .dpFrame ∉ rs) :
    ¬ Keeps (.fsFrameStart blankTap) ps rs := fun keeps =>
  reg_fsFrameStart_wakingFrameSize (reg_of_keepsAt keeps (exec_fsFrameStart _) rfl unnamed (by decide)).symm

/-- Refutes O57: a frame start that ends the hold of a power change completes it, and where a wake follows, what waited for the
domains is written: here DP_FRAME, which the frame of FS_FRAME_START doesn't name. -/
theorem not_frameOfLineAndSafety : ¬ Obligations.FrameOfLineAndSafety := by
  rintro ⟨-, -, -, -, -, -, -, -, -, -, -, -, -, -, -, -, -, -, -, -, -, -, -, -, -, -, -, frameStart, -⟩
  exact not_keeps_fsFrameStart (by decide) (frameStart blankTap)

end Sys2Proof.Proofs
end

section
/-!
PROOF. The Sideboard (R372, R373, R378, R554): a join or a repair request meets more than the statements name, an ending
domain or a limit reached.
-/

namespace Sys2Proof.Proofs

open Sys2Proof Sys2Proof.Machine Sys2Proof.Laws


/-! ## The counterexample to the join (R372, R554) -/

/-- A record of programme 0: a recall point with repair key 5 and a packet of two bytes. -/
def recallRecord : Record := ⟨4, 0, 64, true, some 5, recordBytes 4 true false 0 0 5 0 0 [1, 2]⟩

/-- The Sideboard running, port 3 and programme 0 enabled, one recall point held. -/
def heldProgramme : Dev :=
  setFld fDP_CTRL_ENABLE 3 1 (setPd 48 1 { State.reset.dev with
    porstLow := false
    dict := [(0x940001, [1]), (0x940008, [16])]
    sb := { programmes := [(0, { records := [recallRecord], recalls := [4], lastRecord := some 0 })] } })

/-- The same while a power change has the Sideboard's domain end its work. -/
def stoppingSideboard : Dev := { heldProgramme with pwr := { stopping := [48] } }

theorem stoppingSideboard_meets :
    (tick 5 stoppingSideboard).part.hasSideboard = true ∧ (prog (tick 5 stoppingSideboard) 0).live.testBit 3 = false ∧
      (tick 5 stoppingSideboard).sb.contexts.any (fun e => e.2.port == 3 && e.2.programme == 0) = false ∧
      progEnabled (tick 5 stoppingSideboard) 0 = true ∧ portEnabled (tick 5 stoppingSideboard) 3 = true ∧
      segSize (tick 5 stoppingSideboard) 0 ≠ 0 ∧ latestRecall (tick 5 stoppingSideboard) 0 = some recallRecord ∧
      progIdle (tick 5 stoppingSideboard) 0 = false ∧ pdOn (tick 5 stoppingSideboard) 48 = true ∧
      freeCtx (tick 5 stoppingSideboard) = some 0 := by decide +kernel

/-- The port is live at once. -/
theorem join_stoppingSideboard : fld (memberRow .register (joinCmd .register 3 0) (tick 5 stoppingSideboard))
    fSB_CMD_STATUS_RESULT 0 = 1 := by decide +kernel

/-- Refutes O30: a domain that a power change has end its work is on but takes none, so a join there goes live without a replay
and answers 1. -/
theorem not_sideboardMembership : ¬ Obligations.SideboardMembership := by
  rintro ⟨-, replayed, -⟩
  obtain ⟨-, -, result⟩ := post_of_runsAt (exec_join 5 .register 3 0) (replayed 5 3 0 0 recallRecord) _ rfl stoppingSideboard_meets
  exact absurd (join_stoppingSideboard.symm.trans result) (by decide)

/-! ## The counterexample to the repair (R373, R378) -/

/-- A repair request of port 3 for the record with key 5 of programme 0. -/
def repairRequest : List Byte := List.replicate 12 0 ++ natToBytes 2 0x88B5 ++ [1, 1, 0, 0, 0, 0, 0, 5, 0, 1] ++ List.replicate 36 0

/-- The 8 ms under way have room for one byte more. -/
def fullPeriod : Dev :=
  { heldProgramme with sb := { heldProgramme.sb with repFrames := [(3, repairRequest)], issuedNow := recordLimit - 1 } }

theorem fullPeriod_meets :
    (tick 5 fullPeriod).part.hasSideboard = true ∧ pdOn (tick 5 fullPeriod) 48 = true ∧
      (tick 5 fullPeriod).sb.issuedNow < recordLimit ∧ (tick 5 fullPeriod).sb.repFrames = [(3, repairRequest)] ∧
      repairAsk 3 repairRequest (tick 5 fullPeriod) = some (0, 5, 1) := by decide +kernel

theorem repFrames_fullPeriod : (withSideboard repairServe (tick 5 fullPeriod)).sb.repFrames = [(3, repairRequest)] := by
  decide +kernel

/-- Refutes O31: a request whose records would pass the limit of the 8 ms under way waits in its drawer. -/
theorem not_sideboardReplay : ¬ Obligations.SideboardReplay := by
  rintro ⟨-, -, -, -, served, -⟩
  obtain ⟨taken, -⟩ := post_of_runsAt (exec_repairServe 5) (served 5 3 repairRequest [] 0 5 1) _ rfl fullPeriod_meets
  exact absurd (repFrames_fullPeriod.symm.trans taken) (by decide)

end Sys2Proof.Proofs
end

section
/-!
PROOF. Tributary inputs, controlled slips and the time-slot interchange (R397, R398, R404, R407, R409 to R412).
-/

namespace Sys2Proof.Proofs

open Sys2Proof Sys2Proof.Machine Sys2Proof.Laws

/-! ## Inputs (R397, R398, R404) -/

theorem tribFlag_eq_true {d : Dev} {f : Fld} {k : Nat} (h : fld d f k = 1) : tribFlag d f k = true := by
  rw [tribFlag, h]; rfl

theorem tribFlag_eq_false {d : Dev} {f : Fld} {k : Nat} (h : fld d f k = 0) : tribFlag d f k = false := by
  rw [tribFlag, h]; rfl

theorem highway_eq_true {d : Dev} (h : highway d = true) : fld d fTR_CTRL_HIGHWAY 0 = 1 := beq_iff_eq.mp h

theorem inputLos_highway {d : Dev} (h : highway d = true) (k : Nat) : inputLos k d = d :=
  if_pos (.inr (.inl h))

theorem inputLos_lost {d : Dev} {k : Nat} (unit : tribUnit d = true) (direct : highway d = false) (kind : tribKind d k ≠ 0)
    (sound : fld d fTB_STATUS_IN_LOS k = 0) :
    inputLos k d = raise fTB_EVENT_IN_LOS_IN k (setFld fTB_STATUS_IN_LOS k 1 d) :=
  if_neg (by simp [unit, direct, kind, tribFlag_eq_false sound])

theorem tributaryInputLos_lost (k : Fin 32) : Runs (.tributaryInputLos k)
    (fun a => tribUnit a = true ∧ highway a = false ∧ tribKind a k ≠ 0 ∧ fld a fTB_STATUS_IN_LOS k = 0)
    (fun _ d => fld d fTB_STATUS_IN_LOS k = 1 ∧ fld d fTB_EVENT_IN_LOS_IN k = 1) :=
  runs_of (exec_tributaryInputLos k) fun a ⟨unit, direct, kind, sound⟩ => by
    rw [inputLos_lost unit direct kind sound]
    refine ⟨?_, fld_raise_same _ _ _ (by decide) (by decide)⟩
    rw [fld_raise_ne _ _ _ _ _ (by decide) k.isLt k.isLt]
    exact fld_setFld_same _ _ _ _ (by decide) (by decide)

theorem tributaryInputLos_highway (k : Fin 32) : Runs (.tributaryInputLos k) (fun a => highway a = true) (fun a d => d = a) :=
  runs_of (exec_tributaryInputLos k) fun _ h => inputLos_highway h k

@[simp] theorem freeBits_length : ∀ (n : Nat) (d : Dev), (freeBits n d).1.length = n
  | 0, _ => rfl
  | n + 1, d => congrArg (· + 1) (freeBits_length n (nextFree d).2)

@[simp] theorem trib_modTrib_same (k : Nat) (f : Trib → Trib) (d : Dev) : trib (modTrib k f d) k = f (trib d k) :=
  agetD_aputD_same _ _ _ _

theorem trib_of_trib {a b : Dev} (h : b.trib = a.trib) (k : Nat) : trib b k = trib a k := by simp only [trib, h]

theorem tributaryLosEnd_centres (k : Fin 32) : Runs (.tributaryLosEnd k)
    (fun a => tribUnit a = true ∧ fld a fTB_STATUS_IN_LOS k = 1)
    (fun _ d => fld d fTB_STATUS_IN_LOS k = 0 ∧ (trib d k).buf.length = 32) :=
  runs_of (exec_tributaryLosEnd k) fun a ⟨unit, lost⟩ => by
    have back : inputBack k a =
        setFld fTB_STATUS_IN_LOS k 0 (modTrib k (fun t => { t with buf := (freeBits 32 a).1 }) (freeBits 32 a).2) :=
      if_neg (by simp [unit, tribFlag_eq_true lost])
    rw [back, trib_of_trib (setFld_trib _ _ _ _)]
    exact ⟨fld_setFld_same _ _ _ _ (by decide) (by decide), by simp⟩

/-! ## Controlled slips (R407) -/

/-- A slip is shown by its tributary. -/
theorem fld_tribSlip (c : CName) (k : Fin 32) (d : Dev) : fld (tribSlip c k d) fTB_EVENT_SLIP k = 1 := by
  rw [tribSlip, fld_raise_ne _ _ _ _ _ (by decide) (by decide) k.isLt, fld_raise_same _ _ _ (by decide) (by decide)]

theorem trib_tribSlip (c : CName) (k j : Nat) (d : Dev) : trib (tribSlip c k d) j = trib d j :=
  trib_of_trib (by rw [tribSlip, raise_trib, raise_trib, count_trib]) j

theorem controlledSlip_repeats {d : Dev} {k : Nat} (unit : tribUnit d = true) (on : highway d = true) (kind : tribKind d k ≠ 0)
    (empty : (trib d k).slip = []) :
    controlledSlip k .repeatFrame d = tribSlip .tbControlled k (modTrib k (fun t => { t with slip := [t.lastFrame] }) d) := by
  simp [controlledSlip, unit, on, kind, empty]

theorem controlledSlip_deletes {d : Dev} {k : Nat} (unit : tribUnit d = true) (on : highway d = true) (kind : tribKind d k ≠ 0)
    (full : 2 ≤ (trib d k).slip.length) :
    controlledSlip k .deleteFrame d = tribSlip .tbControlled k (modTrib k (fun t => { t with slip := t.slip.drop 1 }) d) := by
  simp [controlledSlip, unit, on, kind, full]

/-- A slip buffer at its centre stays. -/
theorem controlledSlip_centre {d : Dev} {k : Nat} (centre : (trib d k).slip.length = 1) (x : Slip) :
    controlledSlip k x d = d := by
  have filled : (trib d k).slip.isEmpty = false := by
    rw [List.isEmpty_eq_false_iff]; intro empty; simp [empty] at centre
  cases x <;> simp [controlledSlip, centre, filled]

theorem controlledSlip_repeatFrame (k : Fin 32) : Runs (.controlledSlip k .repeatFrame)
    (fun a => tribUnit a = true ∧ highway a = true ∧ tribKind a k ≠ 0 ∧ (trib a k).slip = [])
    (fun a d => (trib d k).slip = [(trib a k).lastFrame] ∧ fld d fTB_EVENT_SLIP k = 1) :=
  runs_of (exec_controlledSlip k _) fun a ⟨unit, on, kind, empty⟩ => by
    rw [controlledSlip_repeats unit on kind empty, trib_tribSlip, trib_modTrib_same]
    exact ⟨rfl, fld_tribSlip _ _ _⟩

theorem controlledSlip_deleteFrame (k : Fin 32) : Runs (.controlledSlip k .deleteFrame)
    (fun a => tribUnit a = true ∧ highway a = true ∧ tribKind a k ≠ 0 ∧ 2 ≤ (trib a k).slip.length)
    (fun a d => (trib d k).slip = (trib a k).slip.drop 1 ∧ fld d fTB_EVENT_SLIP k = 1) :=
  runs_of (exec_controlledSlip k _) fun a ⟨unit, on, kind, full⟩ => by
    rw [controlledSlip_deletes unit on kind full, trib_tribSlip, trib_modTrib_same]
    exact ⟨rfl, fld_tribSlip _ _ _⟩

theorem highwayChangeEnd_ends (t x : Time) : RunsAt (.highwayChangeEnd t) t
    (fun a => a.trib.changeDue = some x ∧ x ≤ a.now) (fun _ d => d.trib.changeDue = none) :=
  runsAt_of (exec_highwayChangeEnd t) fun a ⟨set_, due⟩ => by
    simp [changeEnd, dueBy, set_, due]

/-! ## Fields of TSI_STATUS -/

theorem fld_tsiResult_same (r : Nat) (d : Dev) : fld (tsiResult r d) fTSI_STATUS_RESULT 0 = r % 4 :=
  fld_setFld_same _ _ _ _ (by decide) (by decide)

theorem fld_tsiResult_pending (r : Nat) (d : Dev) :
    fld (tsiResult r d) fTSI_STATUS_PENDING 0 = fld d fTSI_STATUS_PENDING 0 :=
  fld_setFld_apart _ _ _ _ _ rfl (by decide) (by decide) (by decide) (by decide)

@[simp] theorem tsiResult_trib (r : Nat) (d : Dev) : (tsiResult r d).trib = d.trib := rfl

/-! ## Entries written and read (R409, R412) -/

theorem connEntry_written (page : List (Nat × Word)) (up : Bool) (e : Nat) (w : Word) :
    connEntry (aputD page (512 * up.toNat + e) w 0) up e = w := agetD_aputD_same _ _ _ _

theorem connWrite_done {d : Dev} {w : Word} (free : tsiBusy d = false) (valid : connSlot w ≠ 0) (up : Bool) (e : Nat) :
    connWrite up e w d =
      (0, { d with trib := { d.trib with standby := aputD d.trib.standby (512 * up.toNat + e) (w &&& 0x7FF) 0 } }) := by
  rw [connWrite, free, if_neg Bool.false_ne_true, if_neg valid]

theorem tsiWrite_stores : Runs .tsiWrite
    (fun a => tribUnit a = true ∧ fld a fTSI_SEL_PAGE 0 = 0 ∧ tsiBusy a = false ∧ connSlot (reg a .tsiData 0) ≠ 0)
    (fun a d => connEntry d.trib.standby (fld a fTSI_SEL_DIR 0 == 1) (fld a fTSI_SEL_ENTRY 0) = reg a .tsiData 0 &&& 0x7FF ∧
      d.trib.active = a.trib.active ∧ fld d fTSI_STATUS_RESULT 0 = 0) :=
  runs_of exec_tsiWrite fun a ⟨unit, standby, free, valid⟩ => by
    have stored : tsiWriteCmd a =
        tsiResult 0 (connWrite (fld a fTSI_SEL_DIR 0 == 1) (fld a fTSI_SEL_ENTRY 0) (reg a .tsiData 0) a).2 := by
      simp [tsiWriteCmd, connWrite_done free valid, unit, standby]
    rw [stored, connWrite_done free valid]
    exact ⟨connEntry_written _ _ _ _, rfl, fld_tsiResult_same 0 _⟩

theorem tsiWrite_active : Runs .tsiWrite (fun a => tribUnit a = true ∧ fld a fTSI_SEL_PAGE 0 = 1)
    (fun a d => d.trib = a.trib ∧ fld d fTSI_STATUS_RESULT 0 = 2) :=
  runs_of exec_tsiWrite fun a ⟨unit, active⟩ => by
    have refused : tsiWriteCmd a = tsiResult 2 a := by simp [tsiWriteCmd, unit, active]
    rw [refused]
    exact ⟨rfl, fld_tsiResult_same 2 _⟩

theorem tsiWrite_busy : Runs .tsiWrite
    (fun a => tribUnit a = true ∧ fld a fTSI_SEL_PAGE 0 = 0 ∧ tsiBusy a = true)
    (fun a d => d.trib = a.trib ∧ fld d fTSI_STATUS_RESULT 0 = 1) :=
  runs_of exec_tsiWrite fun a ⟨unit, standby, busy⟩ => by
    have refused : tsiWriteCmd a = tsiResult 1 a := by simp [tsiWriteCmd, connWrite, unit, standby, busy]
    rw [refused]
    exact ⟨rfl, fld_tsiResult_same 1 _⟩

theorem tsiRead_shows : Runs .tsiRead (fun a => tribUnit a = true)
    (fun a d => reg d .tsiData 0 = connEntry (if fld a fTSI_SEL_PAGE 0 = 1 then a.trib.active else a.trib.standby)
        (fld a fTSI_SEL_DIR 0 == 1) (fld a fTSI_SEL_ENTRY 0) ∧
      d.trib = a.trib ∧ fld d fTSI_STATUS_RESULT 0 = 0) :=
  runs_of exec_tsiRead fun a unit => by
    have shown : tsiReadCmd a = tsiResult 0 (setReg .tsiData 0 (connEntry
        (if fld a fTSI_SEL_PAGE 0 = 1 then a.trib.active else a.trib.standby)
        (fld a fTSI_SEL_DIR 0 == 1) (fld a fTSI_SEL_ENTRY 0)) a) := if_neg (by simp [unit])
    rw [shown]
    refine ⟨?_, rfl, fld_tsiResult_same 0 _⟩
    exact (reg_setReg_ne (by decide) _ _ (by decide) (by decide)).trans (reg_setReg_same _ _ _ _)

/-! ## Swaps (R25, R410, R411) -/

theorem tsiSwap_asks : Runs .tsiSwap
    (fun a => tribUnit a = true ∧ tsiBusy a = false ∧ a.sec.restarting = false ∧ doubleFed a = false)
    (fun _ d => fld d fTSI_STATUS_PENDING 0 = 1 ∧ fld d fTSI_STATUS_RESULT 0 = 0) :=
  runs_of exec_tsiSwap fun a ⟨unit, free, up, single⟩ => by
    have asked : tsiSwapCmd a =
        tsiResult 0 (setFld fTSI_STATUS_PENDING 0 1 { a with trib := { a.trib with swapAsked := a.now + 1 } }) := by
      simp [tsiSwapCmd, swapRequest, unit, free, up, single]
    rw [asked, fld_tsiResult_pending]
    exact ⟨fld_setFld_same _ _ _ _ (by decide) (by decide), fld_tsiResult_same 0 _⟩

theorem tsiSwap_busy : Runs .tsiSwap (fun a => tribUnit a = true ∧ tsiBusy a = true)
    (fun a d => d.trib = a.trib ∧ fld d fTSI_STATUS_RESULT 0 = 1 ∧
      counter d .swapsRefused 0 = counter a .swapsRefused 0 + 1) :=
  runs_of exec_tsiSwap fun a ⟨unit, busy⟩ => by
    have refused : tsiSwapCmd a = tsiResult 1 (count .swapsRefused 0 a) := by simp [tsiSwapCmd, swapRequest, unit, busy]
    rw [refused]
    exact ⟨count_trib _ _ _, fld_tsiResult_same 1 _, counter_count_same _ _ _⟩

theorem tsiAbort_cancels : Runs .tsiAbort
    (fun a => tribUnit a = true ∧ fld a fTSI_STATUS_PENDING 0 = 1 ∧ boundarySince a.trib.swapAsked a = false)
    (fun _ d => fld d fTSI_STATUS_PENDING 0 = 0 ∧ fld d fTSI_STATUS_RESULT 0 = 0) :=
  runs_of exec_tsiAbort fun a ⟨unit, pending, early⟩ => by
    have cancelled : tsiAbortCmd a = tsiResult 0 (setFld fTSI_STATUS_PENDING 0 0 a) := by
      simp [tsiAbortCmd, swapAbort, unit, pending, early]
    rw [cancelled, fld_tsiResult_pending]
    exact ⟨fld_setFld_same _ _ _ _ (by decide) (by decide), fld_tsiResult_same 0 _⟩

theorem tsiAbort_tooLate : Runs .tsiAbort
    (fun a => tribUnit a = true ∧ (fld a fTSI_STATUS_PENDING 0 = 0 ∨ boundarySince a.trib.swapAsked a = true))
    (fun a d => d.trib = a.trib ∧ fld d fTSI_STATUS_RESULT 0 = 3) :=
  runs_of exec_tsiAbort fun a ⟨unit, late⟩ => by
    have answered : tsiAbortCmd a = tsiResult 3 a := by
      rcases late with none_ | reached
      · simp [tsiAbortCmd, swapAbort, unit, none_]
      · simp [tsiAbortCmd, swapAbort, unit, reached]
    rw [answered]
    exact ⟨rfl, fld_tsiResult_same 3 _⟩

/-- The device with its pages exchanged, before its copy is shown. -/
def swapped (d : Dev) : Dev :=
  { d with trib := { d.trib with
    active := d.trib.standby, standby := d.trib.active, saved := d.trib.standby, copyDue := some (d.now + Config.frame) } }

theorem swapCommit_due {d : Dev} (pending : fld d fTSI_STATUS_PENDING 0 = 1) (due : d.trib.swapAsked ≤ d.now) :
    swapCommit d = raise fTR_EVENT_SWAP_DONE 0 (count .swapsCommitted 0
      (setFld fTSI_STATUS_PENDING 0 0 (setFld fTSI_STATUS_COPYING 0 1 (swapped d)))) :=
  if_neg fun idle => idle.elim (fun none_ => absurd (pending.symm.trans none_) (by decide)) due.not_gt

theorem swapCommit_exchanges (t : Time) : RunsAt (.swapCommit t) t
    (fun a => fld a fTSI_STATUS_PENDING 0 = 1 ∧ a.trib.swapAsked ≤ a.now)
    (fun a d => d.trib.active = a.trib.standby ∧ d.trib.standby = a.trib.active ∧ d.trib.saved = a.trib.standby ∧
      fld d fTSI_STATUS_COPYING 0 = 1 ∧ fld d fTSI_STATUS_PENDING 0 = 0 ∧ fld d fTR_EVENT_SWAP_DONE 0 = 1) :=
  runsAt_of (exec_swapCommit t) fun a ⟨pending, due⟩ => by
    have pages : (swapCommit a).trib = (swapped a).trib := by
      rw [swapCommit_due pending due, raise_trib, count_trib, setFld_trib, setFld_trib]
    have status : ∀ f : Fld, f.reg = .tsiStatus → fld (swapCommit a) f 0 =
        fld (setFld fTSI_STATUS_PENDING 0 0 (setFld fTSI_STATUS_COPYING 0 1 (swapped a))) f 0 := fun f status => by
      rw [swapCommit_due pending due, fld_raise_ne _ _ _ _ _ (by rw [status]; decide) (by decide) (by rw [status]; decide),
        fld_count _ _ _ (by rw [status]; decide) (by rw [status]; decide)]
    rw [pages, status _ rfl, status _ rfl]
    refine ⟨rfl, rfl, rfl, ?_, fld_setFld_same _ _ _ _ (by decide) (by decide), ?_⟩
    · exact (fld_setFld_apart fTSI_STATUS_PENDING fTSI_STATUS_COPYING _ _ _ rfl (by decide) (by decide) (by decide)
        (by decide)).trans (fld_setFld_same _ _ _ _ (by decide) (by decide))
    · rw [swapCommit_due pending due, fld_raise_same _ _ _ (by decide) (by decide)]

theorem standbyCopyDone_copies (t : Time) : RunsAt (.standbyCopyDone t) t
    (fun a => fld a fTSI_STATUS_COPYING 0 = 1)
    (fun a d => d.trib.standby = a.trib.active ∧ d.trib.active = a.trib.active ∧ fld d fTSI_STATUS_COPYING 0 = 0) :=
  runsAt_of (exec_standbyCopyDone t) fun a copying => by
    have done : copyDone a =
        setFld fTSI_STATUS_COPYING 0 0 { a with trib := { a.trib with standby := a.trib.active, copyDue := none } } :=
      if_neg (by rw [copying]; decide)
    rw [done]
    exact ⟨rfl, rfl, fld_setFld_same _ _ _ _ (by decide) (by decide)⟩

/-- Settles O32: each command is the one branch that its premises choose, and a field of TSI_STATUS or of a tributary stands
under the others' setting. -/
theorem tributaries : Obligations.Tributaries :=
  ⟨tributaryInputLos_lost, tributaryInputLos_highway, tributaryLosEnd_centres, controlledSlip_repeatFrame,
    controlledSlip_deleteFrame, fun k x => runs_of (exec_controlledSlip k x) fun _ centre => controlledSlip_centre centre x,
    highwayChangeEnd_ends, tsiWrite_stores, tsiWrite_active, tsiWrite_busy, tsiRead_shows, tsiSwap_asks, tsiSwap_busy,
    tsiAbort_cancels, tsiAbort_tooLate, swapCommit_exchanges, standbyCopyDone_copies⟩

end Sys2Proof.Proofs
end

section
/-!
PROOF. Longcase: a held Time of Day waits for the latest frame, which without a home channel in Sync is that of the latest frame
boundary (R39, R420, R421); SET, the pulse, the time message and a read of Longcase (R427, R429, R430, R437).
-/

namespace Sys2Proof.Proofs

open Sys2Proof Sys2Proof.Machine Sys2Proof.Laws

/-! ## The counterexample to the held Time of Day (R39, R420, R421) -/

/-- The home channel lost Sync in frame 5; the latest frame boundary was that of frame 0, and a Time of Day is held for frame 5. -/
def heldWithoutSync : Dev :=
  { State.reset.dev with
    porstLow := false
    chans := [(0, { laneA := { al := { align := .hunt, fc := 5 } } })]
    lc := { heldTod := some (5, 0) } }

theorem heldWithoutSync_meets :
    (tick 5 heldWithoutSync).lc.heldTod = some (5, 0) ∧ 5 ≤ homeFc (tick 5 heldWithoutSync) ∧
      (tick 5 heldWithoutSync).lc.history.find? (fun y => y.fc == 5) = none := by decide +kernel

theorem heldTod_heldWithoutSync : (heldTodDue (tick 5 heldWithoutSync)).lc.heldTod = some (5, 0) := by decide +kernel

/-- Refutes O33: with the home channel out of Sync the latest frame is that of the latest frame boundary, so a Time of Day for the
frame counter that the lost channel still shows goes on waiting. -/
theorem not_servoAndTimeOfDay : ¬ Obligations.ServoAndTimeOfDay := by
  rintro ⟨-, -, -, -, -, discarded, -⟩
  obtain ⟨given, -⟩ := post_of_runsAt (exec_heldTodDue 5) (discarded 5 5 0) _ rfl heldWithoutSync_meets
  exact absurd (heldTod_heldWithoutSync.symm.trans (congrArg Longcase.heldTod given)) (by decide)

/-! ## The value -/

/-- At the instant of its base Longcase reads its base. -/
theorem ltNow_at_base {d : Dev} (h : d.lc.at_ = d.now) : ltNow d = d.lc.base := by
  simp only [ltNow, ltValue, h, Nat.sub_self, slewed, Nat.mul_zero, Nat.zero_mul, Nat.zero_div]
  simp

/-- What a step leaves of Longcase. -/
theorem ltStep_lc (v : Int) (d : Dev) : (ltStep v d).lc =
    { (ltRebase d).lc with
      base := v, slew := 0, valid := true, servo := .acquiring, inRun := 0, outRun := 0, outlierRun := 0
      steps := (ltRebase d).lc.steps + 1, edgeFrom := v
      setArmed := (ltRebase d).lc.setArmed.map (fun _ => (ltSplit v).1) } := by
  rw [ltStep, count_lc, raise_lc]
  rfl

theorem ltStep_now (v : Int) (d : Dev) : (ltStep v d).now = d.now := by
  rw [ltStep, count_now, raise_now]
  rfl

theorem ltStep_base (v : Int) (d : Dev) : (ltStep v d).lc.base = v := by rw [ltStep_lc]

theorem ltStep_at (v : Int) (d : Dev) : (ltStep v d).lc.at_ = d.now := by
  rw [ltStep_lc]
  rfl

theorem ltStep_valid (v : Int) (d : Dev) : (ltStep v d).lc.valid = true := by rw [ltStep_lc]

/-- Entering Holdover and looking for it leave everything of Longcase but its servo. -/
structure SameValue (a d : Dev) : Prop where
  base : d.lc.base = a.lc.base
  at_ : d.lc.at_ = a.lc.at_
  now : d.now = a.now
  valid : d.lc.valid = a.lc.valid
  setArmed : d.lc.setArmed = a.lc.setArmed

theorem sameValue_enterHoldover (d : Dev) : SameValue d (enterHoldover d) := by
  simp only [enterHoldover]
  split
  · constructor <;> simp [modLc]
  · exact ⟨rfl, rfl, rfl, rfl, rfl⟩

theorem sameValue_ltEval (d : Dev) : SameValue d (ltEval d) := by
  simp only [ltEval]
  split
  · exact sameValue_enterHoldover d
  · exact ⟨rfl, rfl, rfl, rfl, rfl⟩

/-! ## SET (R427) -/

theorem set_arms (t : Time) (v : Word) : RunsAt (.set t v) t (fun a => v.toNat.testBit 0 = true ∧ ltSource a ≠ 0)
    (fun a d => d.lc.setArmed = some (secondsNow a)) :=
  runsAt_of (exec_set t v) fun a ⟨bit, software⟩ => by
    simp [ltCmd, bit, software, modLc]

theorem set_refused (t : Time) (v : Word) : RunsAt (.set t v) t (fun a => v.toNat.testBit 0 = true ∧ ltSource a = 0)
    (fun a d => d.lc = a.lc ∧ fld d fLT_EVENT_SW_REFUSED 0 = 1) :=
  runsAt_of (exec_set t v) fun a ⟨bit, line⟩ => by
    have refused : ltCmd v a = raise fLT_EVENT_SW_REFUSED 0 (count .swRefused 0 a) := by simp [ltCmd, bit, line]
    rw [refused]
    exact ⟨by rw [raise_lc, count_lc], fld_raise_same _ _ _ (by decide) (by decide)⟩

theorem modLc_lc (f : Longcase → Longcase) (d : Dev) : (modLc f d).lc = f d.lc := rfl

theorem modLc_now (f : Longcase → Longcase) (d : Dev) : (modLc f d).now = d.now := rfl

/-- Longcase behind a step to a value, with nothing armed any more. -/
theorem stepped_disarmed (v : Int) (a : Dev) {d : Dev}
    (h : d = ltEval (modLc (fun l => { l with setArmed := none }) (ltStep v a))) :
    ltNow d = v ∧ d.lc.setArmed = none ∧ d.lc.valid = true := by
  have kept := sameValue_ltEval (modLc (fun l => { l with setArmed := none }) (ltStep v a))
  rw [← h] at kept
  have at_ : d.lc.at_ = d.now := by
    rw [kept.at_, kept.now, modLc_lc, modLc_now, ltStep_at, ltStep_now]
  refine ⟨(ltNow_at_base at_).trans ?_, by rw [kept.setArmed, modLc_lc], ?_⟩
  · rw [kept.base, modLc_lc, ltStep_base]
  · rw [kept.valid, modLc_lc, ltStep_valid]

theorem setLoad_loads (t : Time) (x : Nat) : RunsAt (.setLoad t) t
    (fun a => a.lc.setArmed = some x ∧ ltSource a ≠ 0 ∧ x < secondsNow a ∧ onBoundary a = true)
    (fun a d => ltNow d = ((reg a .ltSetSec 0).toNat * ltSec : Nat) ∧ d.lc.setArmed = none ∧ d.lc.valid = true) :=
  runsAt_of (exec_setLoad t) fun a ⟨armed, software, later, boundary⟩ => by
    rw [Int.natCast_mul]
    exact stepped_disarmed _ a (by simp [setLoad, armed, software, Nat.not_le.mpr later, boundary])

theorem setLoad_offBoundary (t : Time) : RunsAt (.setLoad t) t (fun a => ltSource a ≠ 0 ∧ onBoundary a = false)
    (fun a d => d.lc = a.lc) :=
  runsAt_of (exec_setLoad t) fun a ⟨software, off⟩ => by
    cases armed : a.lc.setArmed with
    | none => simp [setLoad, armed]
    | some x => simp [setLoad, armed, software, off]

/-! ## The pulse and the time message (R429, R430) -/

theorem ppsPulse_rises (t : Time) : RunsAt (.ppsPulse t) t
    (fun a => fld a fLT_CTRL_PPS_EN 0 = 1 ∧ a.lc.valid = true ∧ ppsReached a = true)
    (fun a d => d.lc.pps = true ∧ d.lc.ppsAt = a.now ∧ d.emitted.contains (.pps true) = true ∧
      d.lc.todDue = some (ppsSecond a).toNat) :=
  runsAt_of (exec_ppsPulse t) fun a due => by
    rw [ppsPulse, if_pos due]
    exact ⟨rfl, rfl, by simp, rfl⟩

theorem ppsPulse_rests (t : Time) : RunsAt (.ppsPulse t) t
    (fun a => fld a fLT_CTRL_PPS_EN 0 ≠ 1 ∨ a.lc.valid = false ∨ ppsReached a = false) (fun a d => d.lc = a.lc) :=
  runsAt_of (exec_ppsPulse t) fun a missing => by
    rw [ppsPulse, if_neg]
    rintro ⟨enabled, valid, reached⟩
    rcases missing with h | h | h
    · exact h enabled
    · exact absurd (h.symm.trans valid) (by decide)
    · exact absurd (h.symm.trans reached) (by decide)

theorem ppsWidthEnd_falls (t : Time) : RunsAt (.ppsWidthEnd t) t
    (fun a => a.lc.pps = true ∧ a.lc.ppsAt + fld a fLT_PPS_PPS_WIDTH 0 * 1000 * Config.ns ≤ a.now)
    (fun _ d => d.lc.pps = false ∧ d.emitted.contains (.pps false) = true) :=
  runsAt_of (exec_ppsWidthEnd t) fun a ⟨high, due⟩ => by
    rw [ppsEnd, if_pos due, ppsFall, if_pos high]
    exact ⟨rfl, by simp⟩

theorem ppsWidthEnd_early (t : Time) : RunsAt (.ppsWidthEnd t) t
    (fun a => a.now < a.lc.ppsAt + fld a fLT_PPS_PPS_WIDTH 0 * 1000 * Config.ns) (fun a d => d.lc.pps = a.lc.pps) :=
  runsAt_of (exec_ppsWidthEnd t) fun a early => by
    rw [ppsEnd, if_neg early.not_ge]

theorem pltodMessage_sent (t : Time) (x : Nat) : RunsAt (.pltodMessage t) t
    (fun a => a.lc.todDue = some x ∧ a.lc.ppsAt + 10 * Config.ms ≤ a.now ∧ fld a fLT_CTRL_TOD_EN 0 = 1 ∧ a.lc.valid = true)
    (fun a d => d.emitted.contains (.timeMessage (timeText a x)) = true ∧ d.lc.todDue = none) :=
  runsAt_of (exec_pltodMessage t) fun a ⟨edge, due, enabled, valid⟩ => by
    have sent : pltod a = emit (.timeMessage (timeText a x)) (modLc (fun l => { l with todDue := none }) a) := by
      simp [pltod, edge, due.not_gt, enabled, valid]
    rw [sent]
    exact ⟨by simp, rfl⟩

theorem pltodMessage_early (t : Time) : RunsAt (.pltodMessage t) t (fun a => a.now < a.lc.ppsAt + 10 * Config.ms)
    (fun a d => d.lc = a.lc) :=
  runsAt_of (exec_pltodMessage t) fun a early => by
    cases edge : a.lc.todDue with
    | none => simp [pltod, edge]
    | some x => simp [pltod, edge, early]

/-! ## A read of LT_NOW_NS (R437) -/

theorem longcaseNowRead_latches (t : Time) : RunsAt (.longcaseNowRead t) t (fun _ => True)
    (fun a d => d.emitted.head? = some (.barRead (regOffset .ltNowNs 0)
        (BitVec.ofNat 48 ((ltSplit (ltNow a)).2.2 * 2 ^ 32 + (ltSplit (ltNow a)).2.1))) ∧
      d.lc.latchSec = BitVec.ofNat 48 (ltSplit (ltNow a)).1 ∧ d.lc.latchSteps = a.lc.steps) :=
  runsAt_of (exec_longcaseNowRead t) fun _ _ => ⟨rfl, rfl, rfl⟩

/-- Settles O34: a step makes its value the base of Longcase at once, and each output is the branch that its premises choose. -/
theorem longcaseSetAndOutputs : Obligations.LongcaseSetAndOutputs :=
  ⟨set_arms, set_refused, setLoad_loads, setLoad_offBoundary, ppsPulse_rises, ppsPulse_rests, ppsWidthEnd_falls,
    ppsWidthEnd_early, pltodMessage_sent, pltodMessage_early, longcaseNowRead_latches⟩

end Sys2Proof.Proofs
end

section
/-!
PROOF. The CXL.mem window (R459, R463): an access reads the withdrawal maps through their cache, so even a write of a part of a line leaves a
trace in the device.
-/

namespace Sys2Proof.Proofs

open Sys2Proof Sys2Proof.Machine Sys2Proof.Laws

/-! ## The counterexample to a write of a part of a line (R459, R463) -/

/-- All on, the window active, and its first block moved by a withdrawal map that the cache doesn't hold. -/
def movedWindow : Dev :=
  (List.range 50).foldl (fun d n => setPd n 1 d) (setFld fGL_BOOT_STEP 0 5
    { State.reset.dev with
      porstLow := false
      host := { link := { up := true, cxl := true } }
      mc := { maps := [(0, 131072)], sizes := [0, 0, 0, 0, 6] } })

def movedWindowState : State := { dev := movedWindow }

theorem movedWindow_meets : movedWindowState.dev.porstLow = false ∧ windowOpen movedWindowState.dev = true ∧
    windowByte movedWindowState.dev (0 / 64 * 64) = some 536870912 := by decide +kernel

theorem mapCache_mapReads_movedWindow : (mapReads 4 (0 / 64 * 64) 64 movedWindowState.dev).mc.mapCache = [0] ∧
    movedWindowState.dev.mc.mapCache = [] := by decide +kernel

theorem cxlWritePart_dev (p : Option Nat) (i : Nat) (bs : List Byte) (s : State) : (cxlWritePart p i bs s).dev = s.dev := by
  cases p <;> rfl

/-- Refutes O36: a write of a part of a line in a moved block brings the block's map entry into the cache, and so the device
isn't as it was. -/
theorem not_windowAccesses : ¬ Obligations.WindowAccesses := by
  rintro ⟨-, -, writePart⟩
  obtain ⟨low, opened, place⟩ := movedWindow_meets
  obtain ⟨u, next, -, dev, -⟩ := writePart movedWindowState 0 536870912 0 [1] low opened place (by decide) (by decide)
  rw [exec_cxlMemAccess, onWhole, if_neg (by rw [low]; decide), cxlAccess_writePart opened] at next
  injection next with next
  have read : u.dev = mapReads 4 (0 / 64 * 64) 64 movedWindowState.dev := by
    rw [← next, cxlWritePart_dev, inDev]
  have kept : [0] = ([] : List Nat) := by
    rw [← mapCache_mapReads_movedWindow.1, ← mapCache_mapReads_movedWindow.2, ← read, dev]
  exact absurd kept (by decide)

end Sys2Proof.Proofs
end

section
/-!
PROOF. What a step moves (95_what_each_step_holds.md, R483): the pieces and registers that may differ and the drawers within their
depth, as one relation between two devices, and what it says of the shared operations.
-/

namespace Sys2Proof.Proofs

open Sys2Proof Sys2Proof.Machine Sys2Proof.Laws

/-! ## The relation -/

/-- Every drawer holds at most as many items as its depth (R483). -/
def WithinDepth (d : Dev) : Prop := ∀ n, (drawer d n).items.length ≤ drawerDepth n

/-- From device a to device b only these pieces and registers may differ, and drawers within their depth stay so. -/
structure Moves (ps : List Piece) (rs : List Reg) (a b : Dev) : Prop where
  frame : Frame ps rs a b
  fits : WithinDepth a → WithinDepth b

/-- Pieces and registers are among others. -/
def within (qs : List Piece) (ts : List Reg) (ps : List Piece) (rs : List Reg) : Bool :=
  qs.all (fun p => decide (p ∈ ps)) && ts.all (fun r => decide (r ∈ rs))

theorem withinDepth_of_drawers {a b : Dev} (h : b.host.drawers = a.host.drawers) : WithinDepth a → WithinDepth b :=
  fun k n => by rw [drawer_of_drawers h]; exact k n

section
variable {ps qs : List Piece} {rs ts : List Reg} {a b c : Dev}

theorem Moves.refl : Moves ps rs a a := ⟨Frame_refl _ _ _, id⟩

theorem Moves.mono (h : Moves qs ts a b) (sub : within qs ts ps rs = true) : Moves ps rs a b := by
  simp only [within, Bool.and_eq_true, List.all_eq_true, decide_eq_true_eq] at sub
  exact ⟨Frame_mono h.frame sub.1 sub.2, h.fits⟩

/-- A last step joined to those before it, found from the device that it leads to. -/
theorem Moves.step (k : Moves qs ts b c) (h : Moves ps rs a b) (sub : within qs ts ps rs = true) :
    Moves ps rs a c :=
  ⟨Frame_step h.frame (k.mono sub).frame, fun x => k.fits (h.fits x)⟩

theorem Moves.ite {p : Prop} [Decidable p] (h : Moves ps rs a b) (k : Moves ps rs a c) :
    Moves ps rs a (if p then b else c) := by
  split
  · exact h
  · exact k

theorem Moves.snd {α : Type} {x : α} (h : Moves ps rs a b) : Moves ps rs a (x, b).2 := h

theorem Moves.fst {α : Type} {x : α} (h : Moves ps rs a b) : Moves ps rs a (b, x).1 := h

theorem Moves.thd {α β : Type} {x : α} {y : β} (h : Moves ps rs a b) : Moves ps rs a (x, y, b).2.2 := h

/-- A step taken on a condition. -/
theorem Moves.when {p : Prop} [Decidable p] (step : Moves ps rs a b → Moves ps rs a c) (h : Moves ps rs a b) :
    Moves ps rs a (if p then c else b) := by
  split
  · exact step h
  · exact h

/-- A choice between two values that hold a device each. -/
theorem Moves.ite_snd {α : Type} {p : Prop} [Decidable p] {x y : α} (h : Moves ps rs a b) (k : Moves ps rs a c) :
    Moves ps rs a (if p then (x, b) else (y, c)).2 := by
  split
  · exact h
  · exact k

theorem Moves.ite_fst {α : Type} {p : Prop} [Decidable p] {x y : α} (h : Moves ps rs a b) (k : Moves ps rs a c) :
    Moves ps rs a (if p then (b, x) else (c, y)).1 := by
  split
  · exact h
  · exact k

theorem Moves.ite_thd {α β : Type} {p : Prop} [Decidable p] {x x' : α} {y y' : β} (h : Moves ps rs a b)
    (k : Moves ps rs a c) : Moves ps rs a (if p then (x, y, b) else (x', y', c)).2.2 := by
  split
  · exact h
  · exact k

/-- The same of any part of a value. -/
theorem Moves.ite_of {β : Type} (f : β → Dev) {p : Prop} [Decidable p] {x y : β} (h : Moves ps rs a (f x))
    (k : Moves ps rs a (f y)) : Moves ps rs a (f (if p then x else y)) := by
  split
  · exact h
  · exact k

theorem Moves.foldl {β : Type} {f : Dev → β → Dev} {l : List β} (h : ∀ d x, Moves ps rs d (f d x)) (k : Moves ps rs a b) :
    Moves ps rs a (l.foldl f b) := by
  induction l generalizing b with
  | nil => exact k
  | cons x l ih => exact ih ⟨Frame_step k.frame (h b x).frame, fun y => (h b x).fits (k.fits y)⟩

theorem Moves.foldl_mem {β : Type} {f : Dev → β → Dev} : ∀ {l : List β} {b : Dev},
    (∀ x ∈ l, ∀ d, Moves ps rs d (f d x)) → Moves ps rs a b → Moves ps rs a (l.foldl f b)
  | [], _, _, k => k
  | x :: l, b, h, k =>
    have step := h x List.mem_cons_self b
    Moves.foldl_mem (l := l) (b := f b x) (fun y hy => h y (List.mem_cons_of_mem x hy))
      ⟨Frame_step k.frame step.frame, fun y => step.fits (k.fits y)⟩

/-- A fold that carries a list besides the device. -/
theorem Moves.foldl_snd {α β : Type} {f : α × Dev → β → α × Dev} {l : List β} {x : α × Dev}
    (h : ∀ y z, Moves ps rs y.2 (f y z).2) (k : Moves ps rs a x.2) : Moves ps rs a (l.foldl f x).2 := by
  induction l generalizing x with
  | nil => exact k
  | cons z l ih => exact ih ⟨Frame_step k.frame (h x z).frame, fun y => (h x z).fits (k.fits y)⟩

/-- What holds of a part of a value holds where the value is known by another name. -/
theorem Moves.of_eq {β : Type} (f : β → Dev) {x y : β} (e : x = y) (h : Moves ps rs a (f x)) : Moves ps rs a (f y) := e ▸ h

/-- A change of one piece that isn't the registers, and of no drawer. -/
theorem Moves.of_piece {p : Piece} (same : ∀ q, q ≠ p → q.same a b) (regs : b.regs = a.regs)
    (drawers : b.host.drawers = a.host.drawers) : Moves [p] [] a b :=
  ⟨⟨fun q h => same q (fun e => h (e ▸ List.mem_cons_self)), KeepRegs_of_eq regs⟩, withinDepth_of_drawers drawers⟩

theorem Moves.now {x} : Moves [.now] [] a { a with now := x } :=
  .of_piece (fun q hq => by
    cases q
    case now => exact absurd rfl hq
    all_goals rfl) rfl rfl

theorem Moves.freeCtr {x} : Moves [.freeCtr] [] a { a with freeCtr := x } :=
  .of_piece (fun q hq => by
    cases q
    case freeCtr => exact absurd rfl hq
    all_goals rfl) rfl rfl

theorem Moves.dict {x} : Moves [.dict] [] a { a with dict := x } :=
  .of_piece (fun q hq => by
    cases q
    case dict => exact absurd rfl hq
    all_goals rfl) rfl rfl

theorem Moves.cnt {x} : Moves [.cnt] [] a { a with cnt := x } :=
  .of_piece (fun q hq => by
    cases q
    case cnt => exact absurd rfl hq
    all_goals rfl) rfl rfl

theorem Moves.host {x : HostSt} (h : x.drawers = a.host.drawers) : Moves [.host] [] a { a with host := x } :=
  .of_piece (fun q hq => by
    cases q
    case host => exact absurd rfl hq
    all_goals rfl) rfl h

theorem Moves.cab {x} : Moves [.cab] [] a { a with cab := x } :=
  .of_piece (fun q hq => by
    cases q
    case cab => exact absurd rfl hq
    all_goals rfl) rfl rfl

theorem Moves.mon {x} : Moves [.mon] [] a { a with mon := x } :=
  .of_piece (fun q hq => by
    cases q
    case mon => exact absurd rfl hq
    all_goals rfl) rfl rfl

theorem Moves.chans {x} : Moves [.chans] [] a { a with chans := x } :=
  .of_piece (fun q hq => by
    cases q
    case chans => exact absurd rfl hq
    all_goals rfl) rfl rfl

theorem Moves.prot {x} : Moves [.prot] [] a { a with prot := x } :=
  .of_piece (fun q hq => by
    cases q
    case prot => exact absurd rfl hq
    all_goals rfl) rfl rfl

theorem Moves.lanes {x} : Moves [.lanes] [] a { a with lanes := x } :=
  .of_piece (fun q hq => by
    cases q
    case lanes => exact absurd rfl hq
    all_goals rfl) rfl rfl

theorem Moves.ports {x} : Moves [.ports] [] a { a with ports := x } :=
  .of_piece (fun q hq => by
    cases q
    case ports => exact absurd rfl hq
    all_goals rfl) rfl rfl

theorem Moves.bond {x} : Moves [.bond] [] a { a with bond := x } :=
  .of_piece (fun q hq => by
    cases q
    case bond => exact absurd rfl hq
    all_goals rfl) rfl rfl

theorem Moves.cipher {x} : Moves [.cipher] [] a { a with cipher := x } :=
  .of_piece (fun q hq => by
    cases q
    case cipher => exact absurd rfl hq
    all_goals rfl) rfl rfl

theorem Moves.act {x} : Moves [.act] [] a { a with act := x } :=
  .of_piece (fun q hq => by
    cases q
    case act => exact absurd rfl hq
    all_goals rfl) rfl rfl

theorem Moves.fs {x} : Moves [.fs] [] a { a with fs := x } :=
  .of_piece (fun q hq => by
    cases q
    case fs => exact absurd rfl hq
    all_goals rfl) rfl rfl

theorem Moves.up {x} : Moves [.up] [] a { a with up := x } :=
  .of_piece (fun q hq => by
    cases q
    case up => exact absurd rfl hq
    all_goals rfl) rfl rfl

theorem Moves.lc {x} : Moves [.lc] [] a { a with lc := x } :=
  .of_piece (fun q hq => by
    cases q
    case lc => exact absurd rfl hq
    all_goals rfl) rfl rfl

theorem Moves.tm {x} : Moves [.tm] [] a { a with tm := x } :=
  .of_piece (fun q hq => by
    cases q
    case tm => exact absurd rfl hq
    all_goals rfl) rfl rfl

theorem Moves.cls {x} : Moves [.cls] [] a { a with cls := x } :=
  .of_piece (fun q hq => by
    cases q
    case cls => exact absurd rfl hq
    all_goals rfl) rfl rfl

theorem Moves.fwd {x} : Moves [.fwd] [] a { a with fwd := x } :=
  .of_piece (fun q hq => by
    cases q
    case fwd => exact absurd rfl hq
    all_goals rfl) rfl rfl

theorem Moves.sb {x} : Moves [.sb] [] a { a with sb := x } :=
  .of_piece (fun q hq => by
    cases q
    case sb => exact absurd rfl hq
    all_goals rfl) rfl rfl

theorem Moves.mc {x} : Moves [.mc] [] a { a with mc := x } :=
  .of_piece (fun q hq => by
    cases q
    case mc => exact absurd rfl hq
    all_goals rfl) rfl rfl

theorem Moves.sec {x} : Moves [.sec] [] a { a with sec := x } :=
  .of_piece (fun q hq => by
    cases q
    case sec => exact absurd rfl hq
    all_goals rfl) rfl rfl

theorem Moves.pwr {x} : Moves [.pwr] [] a { a with pwr := x } :=
  .of_piece (fun q hq => by
    cases q
    case pwr => exact absurd rfl hq
    all_goals rfl) rfl rfl

theorem Moves.trib {x} : Moves [.trib] [] a { a with trib := x } :=
  .of_piece (fun q hq => by
    cases q
    case trib => exact absurd rfl hq
    all_goals rfl) rfl rfl

theorem Moves.dic {x} : Moves [.dic] [] a { a with dic := x } :=
  .of_piece (fun q hq => by
    cases q
    case dic => exact absurd rfl hq
    all_goals rfl) rfl rfl

theorem Moves.img {x} : Moves [.img] [] a { a with img := x } :=
  .of_piece (fun q hq => by
    cases q
    case img => exact absurd rfl hq
    all_goals rfl) rfl rfl

theorem Moves.boot {x} : Moves [.boot] [] a { a with boot := x } :=
  .of_piece (fun q hq => by
    cases q
    case boot => exact absurd rfl hq
    all_goals rfl) rfl rfl

theorem Moves.dic_img {x y} : Moves [.dic, .img] [] a { a with dic := x, img := y } :=
  .step (Moves.img (a := { a with dic := x })) (.step Moves.dic .refl rfl) rfl

end

/-! ## Registers, events and counters -/

theorem moves_emit {e : Emission} {d : Dev} : Moves [.emitted] [] d (emit e d) := ⟨frame_emit e d, id⟩

theorem regPlace_pos (r : Reg) : 0 < (regPlace r).2.2 := by cases r <;> decide

section
variable {d : Dev} {r : Reg} {f : Fld} {i v : Nat} {w : Word} {c : Bool}

theorem moves_setRegAt (hi : i < (regPlace r).2.2) : Moves [.regs] [r] d (setReg r i w d) := ⟨frame_setReg r i w d hi, id⟩

theorem moves_setFldAt (hi : i < (regPlace f.reg).2.2) : Moves [.regs] [f.reg] d (setFld f i v d) := ⟨frame_setFld f i v d hi,
    id⟩

theorem moves_signal : Moves [.host, .emitted] [] d (signal v d) :=
  ⟨frame_signal v d, withinDepth_of_drawers keepsPosted_signal.drawers⟩

theorem moves_raiseAt (hi : i < (regPlace f.reg).2.2) : Moves [.regs, .host, .emitted] [f.reg] d (raise f i d) :=
  ⟨frame_raise f i d hi, withinDepth_of_drawers keepsPosted_raise.drawers⟩

theorem moves_raiseIfAt (hi : i < (regPlace f.reg).2.2) : Moves [.regs, .host, .emitted] [f.reg] d (raiseIf c f i d) :=
  ⟨frame_raiseIf c f i d hi, withinDepth_of_drawers keepsPosted_raiseIf.drawers⟩

/-! The first of a register's places is always there. -/

theorem moves_setReg : Moves [.regs] [r] d (setReg r 0 w d) := moves_setRegAt (regPlace_pos r)

theorem moves_setFld : Moves [.regs] [f.reg] d (setFld f 0 v d) := moves_setFldAt (regPlace_pos f.reg)

theorem moves_raise : Moves [.regs, .host, .emitted] [f.reg] d (raise f 0 d) := moves_raiseAt (regPlace_pos f.reg)

theorem moves_raiseIf : Moves [.regs, .host, .emitted] [f.reg] d (raiseIf c f 0 d) := moves_raiseIfAt (regPlace_pos f.reg)

end

theorem moves_countN {c : CName} {k n : Nat} {d : Dev} : Moves countPieces countRegs d (countN c k n d) :=
  ⟨frame_countN c k n d, withinDepth_of_drawers keepsPosted_countN.drawers⟩

theorem moves_count {c : CName} {k : Nat} {d : Dev} : Moves countPieces countRegs d (count c k d) := moves_countN

theorem moves_setPd {n v : Nat} {d : Dev} : Moves [.regs] [.pwDom, .pwDom3] d (setPd n v d) := by
  simp only [setPd]
  split
  · next low => exact .step (moves_setRegAt (show n / 16 < 3 by omega)) .refl rfl
  · exact .step moves_setReg .refl rfl

theorem fits_tick {t : Time} {d : Dev} (h : WithinDepth d) : WithinDepth (tick t d) := by
  have fed : ∀ {p : Nat → Bool} {n m : Nat} {e : Dev}, WithinDepth e → WithinDepth (selFeed p n m e) :=
    withinDepth_of_drawers keepsPosted_selFeed.drawers
  simp only [tick]
  split
  · split
    · split
      · exact fed h
      · exact h
    · split
      · exact fed (fed h)
      · exact fed h
  · exact h

theorem moves_tick {t : Time} {d : Dev} : Moves timePieces timeRegs d (tick t d) := ⟨frame_tick t d, fits_tick⟩

/-! ## Drawers -/

/-- A drawer set to what it may hold. -/
theorem fits_setDrawer {n : Nat} {w : Drawer} {d : Dev} (fit : w.items.length ≤ drawerDepth n) (h : WithinDepth d) :
    WithinDepth (setDrawer n w d) := fun m => by
  by_cases e : m = n
  · rw [e, drawer_setDrawer_same]
    exact fit
  · rw [drawer_setDrawer_ne w d e]
    exact h m

theorem moves_setDrawer {n : Nat} {w : Drawer} {d : Dev} (fit : WithinDepth d → w.items.length ≤ drawerDepth n) :
    Moves [.host] [] d (setDrawer n w d) :=
  ⟨⟨only_setDrawer n w d, KeepRegs_of_eq rfl⟩, fun h => fits_setDrawer (fit h) h⟩

theorem moves_levelCheck {n : Nat} {d : Dev} : Moves [.host, .emitted] [] d (levelCheck n d) := by
  simp only [levelCheck]
  refine .ite .refl (.ite ?_ (.ite (.ite ?_ ?_) .refl))
  · exact .step (moves_setDrawer fun h => h n) .refl rfl
  · exact .step (moves_setDrawer fun h => h n) .refl rfl
  · exact .step moves_signal (.step (moves_setDrawer fun h => h n) .refl rfl) rfl

/-- What stands behind the head of a drawer's items fits where they fit. -/
theorem shorter {x : List Word} {l items : List (List Word)} {k : Nat} (head : items = x :: l) (fit : items.length ≤ k) :
    l.length ≤ k := by
  rw [head, List.length_cons] at fit
  exact Nat.le_of_succ_le fit

theorem dropped {items : List (List Word)} {k : Nat} (fit : items.length ≤ k) : (items.drop 1).length ≤ k :=
  (List.length_drop ▸ Nat.sub_le ..).trans fit

/-- An item enters its drawer where there is room (R483). -/
theorem moves_post {n : Nat} {item : List Word} {d : Dev} : Moves countPieces countRegs d (post n item d) := by
  simp only [post]
  split
  · exact moves_count
  · next room =>
    have fit : (drawer d n).items.length < drawerDepth n := by
      simp only [drawerRoom, Bool.not_eq_true', Bool.and_eq_true, decide_eq_true_eq, Bool.not_eq_false] at room
      exact room.1
    refine .step moves_levelCheck (.step moves_count (.step (moves_setDrawer fun _ => ?_) .refl rfl) rfl) rfl
    rw [List.length_append]
    exact fit

/-! ## Drawers alone -/

theorem fits_emit {e : Emission} {d : Dev} (h : WithinDepth d) : WithinDepth (emit e d) := h

theorem fits_setReg {r : Reg} {i : Nat} {v : Word} {d : Dev} (h : WithinDepth d) : WithinDepth (setReg r i v d) := h

theorem fits_setFld {f : Fld} {i v : Nat} {d : Dev} (h : WithinDepth d) : WithinDepth (setFld f i v d) := h

theorem fits_setPd {n v : Nat} {d : Dev} (h : WithinDepth d) : WithinDepth (setPd n v d) := moves_setPd.fits h

theorem fits_signal {v : Nat} {d : Dev} (h : WithinDepth d) : WithinDepth (signal v d) := moves_signal.fits h

theorem fits_raise {f : Fld} {i : Nat} {d : Dev} : WithinDepth d → WithinDepth (raise f i d) :=
  withinDepth_of_drawers keepsPosted_raise.drawers

theorem fits_raiseIf {c : Bool} {f : Fld} {i : Nat} {d : Dev} : WithinDepth d → WithinDepth (raiseIf c f i d) :=
  withinDepth_of_drawers keepsPosted_raiseIf.drawers

theorem fits_countN {c : CName} {k n : Nat} {d : Dev} (h : WithinDepth d) : WithinDepth (countN c k n d) := moves_countN.fits h

theorem fits_count {c : CName} {k : Nat} {d : Dev} (h : WithinDepth d) : WithinDepth (count c k d) := moves_count.fits h

theorem fits_post {n : Nat} {item : List Word} {d : Dev} (h : WithinDepth d) : WithinDepth (post n item d) := moves_post.fits h

theorem fits_levelCheck {n : Nat} {d : Dev} (h : WithinDepth d) : WithinDepth (levelCheck n d) := moves_levelCheck.fits h


section
variable {b c : Dev}

/-- A change beside the drawers. -/
theorem fits_same (h : WithinDepth b) (e : c.host.drawers = b.host.drawers) : WithinDepth c :=
  withinDepth_of_drawers e h

theorem fits_host {x : HostSt} (h : WithinDepth b) (e : x.drawers = b.host.drawers) :
    WithinDepth { b with host := x } :=
  withinDepth_of_drawers e h

theorem fits_regs {x} (h : WithinDepth b) : WithinDepth { b with regs := x } := h

theorem fits_ite {p : Prop} [Decidable p] (h : WithinDepth b) (k : WithinDepth c) : WithinDepth (if p then b else c) := by
  split
  · exact h
  · exact k

theorem fits_snd {α : Type} {x : α} (h : WithinDepth b) : WithinDepth (x, b).2 := h

theorem fits_fst {α : Type} {x : α} (h : WithinDepth b) : WithinDepth (b, x).1 := h

theorem fits_thd {α β : Type} {x : α} {y : β} (h : WithinDepth b) : WithinDepth (x, y, b).2.2 := h

theorem fits_ite_snd {α : Type} {p : Prop} [Decidable p] {x y : α} (h : WithinDepth b) (k : WithinDepth c) :
    WithinDepth (if p then (x, b) else (y, c)).2 := by
  split
  · exact h
  · exact k

theorem fits_ite_fst {α : Type} {p : Prop} [Decidable p] {x y : α} (h : WithinDepth b) (k : WithinDepth c) :
    WithinDepth (if p then (b, x) else (c, y)).1 := by
  split
  · exact h
  · exact k

theorem fits_ite_thd {α β : Type} {p : Prop} [Decidable p] {x x' : α} {y y' : β} (h : WithinDepth b) (k : WithinDepth c) :
    WithinDepth (if p then (x, y, b) else (x', y', c)).2.2 := by
  split
  · exact h
  · exact k

theorem fits_ite_of {β : Type} (f : β → Dev) {p : Prop} [Decidable p] {x y : β} (h : WithinDepth (f x))
    (k : WithinDepth (f y)) : WithinDepth (f (if p then x else y)) := by
  split
  · exact h
  · exact k

theorem fits_foldl {β : Type} {f : Dev → β → Dev} {l : List β} (h : ∀ d x, WithinDepth d → WithinDepth (f d x))
    (k : WithinDepth b) : WithinDepth (l.foldl f b) := by
  induction l generalizing b with
  | nil => exact k
  | cons x l ih => exact ih (h b x k)

theorem fits_of_eq {β : Type} (f : β → Dev) {x y : β} (e : x = y) (h : WithinDepth (f x)) : WithinDepth (f y) := e ▸ h

end

end Sys2Proof.Proofs
end

section
/-!
PROOF. What each operation of the units that claims frame moves (R575, R579), in the model's order: the pieces and registers that
it may change, with no drawer over its depth.
-/

namespace Sys2Proof.Proofs

open Sys2Proof Sys2Proof.Machine Sys2Proof.Laws

/-! ## Ops -/

theorem moves_nextFree {d : Dev} : Moves [.freeCtr] [] d (nextFree d).2 :=
  .snd (.step Moves.freeCtr .refl rfl)

theorem moves_flushDrawer {n : Nat} {d : Dev} : Moves [.emitted, .regs, .cnt, .host, .sb] [.cnEvent, .cnWrap, .scCfg] d
    (flushDrawer n d) :=
  .step moves_levelCheck (.step moves_countN (.step moves_count (.step (moves_setDrawer fun _ => Nat.zero_le _)
    (.ite (.step Moves.sb .refl rfl) (.ite (.step Moves.sb .refl rfl) .refl)) rfl) rfl) rfl) rfl

/-! ## EntryCmd -/

/-- What a command's own change moves, its entry's command moves besides the answer. -/
theorem moves_commandOn {p : Path} {hMay : Bool} {f : Dev → Nat × Dev} {d : Dev} {ps : List Piece} {rs : List Reg}
    (h : Moves ps rs d (f d).2) (sub : within [.emitted] [] ps rs = true) : Moves ps rs d (commandOn p hMay f d)
      := by
  simp only [commandOn]
  exact .ite .refl (.ite (.step moves_emit .refl sub) (.ite (.step moves_emit .refl sub) (.step moves_emit h sub)))

/-! ## PowerBase -/

theorem moves_modSerial {k : Nat} {f : SerialLane → SerialLane} {d : Dev} : Moves [.lanes] [] d (modSerial k f d) :=
  .step Moves.lanes .refl rfl

theorem moves_idleExit {d : Dev} : Moves [.pwr] [] d (idleExit d) :=
  .ite (.step Moves.pwr .refl rfl) .refl

/-! ## Classify -/

theorem moves_modSlot {k : Nat} {f : GenSlot → GenSlot} {d : Dev} : Moves [.cls] [] d (modSlot k f d) := by
  simp only [modSlot]
  split
  · exact .step Moves.cls .refl rfl
  · exact .step Moves.cls .refl rfl
  · exact .step Moves.cls .refl rfl
  · exact .step Moves.cls .refl rfl
  · exact .refl

theorem moves_drainUp {k : Nat} {n : Nat} {d : Dev} : Moves [.cls] [] d (drainUp k n d) :=
  .step moves_modSlot .refl rfl

theorem moves_drainDown {k : Nat} {d : Dev} : Moves [.emitted, .regs, .host, .cls] [.clEvent] d (drainDown k d) :=
  .ite (.step moves_raise (.step moves_modSlot (.step moves_modSlot .refl rfl) rfl) rfl) (.step moves_modSlot .refl rfl)

theorem moves_hit {pipe : Nat} {k : Nat} {ruleId : Nat} {d : Dev} : Moves [.cls] [] d (hit pipe k ruleId d) :=
  .step Moves.cls .refl rfl

theorem moves_treeEcc {pipe : Nat} {k : Nat} {addr : Nat} {d : Dev} : Moves [.emitted, .regs, .host] [.clErraddr, .clEvent] d
    (treeEcc pipe k addr d) :=
  .step moves_raise (.ite .refl (.step moves_setFld (.step moves_setFld (.step moves_setFld .refl rfl) rfl) rfl)) rfl

/-! ## HostPath -/

theorem moves_modRing {n : Nat} {f : RingIx → RingIx} {d : Dev} : Moves [.host] [] d (modRing n f d) :=
  .step (Moves.host rfl) .refl rfl

theorem moves_benchVectors {d : Dev} : Moves [.emitted, .host, .sec] [] d (benchVectors d) :=
  .foldl (fun _ _ => .step moves_signal .refl rfl) (.step Moves.sec .refl rfl)

theorem moves_writeBack {n : Nat} {d : Dev} : Moves [.emitted, .host, .sec] [] d (writeBack n d) := by
  simp only [writeBack]
  split
  · exact .step moves_signal (.ite (.step moves_modRing .refl rfl) (.step moves_emit (.step moves_modRing .refl rfl) rfl)) rfl
  · exact .ite (.step moves_benchVectors (.ite (.step moves_modRing .refl rfl) (.step moves_emit (.step moves_modRing .refl
      rfl) rfl)) rfl)
      (.ite (.step moves_modRing .refl rfl) (.step moves_emit (.step moves_modRing .refl rfl) rfl))

theorem moves_cacheLine {l : Nat} {d : Dev} : Moves [.host] [] d (cacheLine l d) :=
  .step (Moves.host rfl) .refl rfl

theorem moves_readLine {n : Nat} {d : Dev} : Moves [.host] [] d (readLine n d) :=
  .ite (.step moves_cacheLine .refl rfl) .refl

theorem moves_ringStep {n : Nat} {d : Dev} : Moves [.emitted, .host, .sec] [] d (ringStep n d) :=
  .ite (.step moves_writeBack (.step moves_modRing (.step moves_readLine .refl rfl) rfl) rfl) (.step moves_modRing (.step
    moves_readLine
    .refl rfl) rfl)

theorem moves_benchFlush_loop {n : Nat} {d : Dev} : Moves [.emitted, .host, .sec] [] d (benchFlush.loop n d) := by
  induction n generalizing d with
  | zero => exact .refl
  | succ n ih =>
    simp only [benchFlush.loop]
    split
    · exact .refl
    · exact .ite (.step ih (.step moves_ringStep (.step moves_emit (.step Moves.sec .refl rfl) rfl) rfl) rfl) .refl

theorem moves_benchFlush {d : Dev} : Moves [.emitted, .host, .sec] [] d (benchFlush d) :=
  .step moves_benchFlush_loop .refl rfl

theorem moves_bufferEntry {r : Nat} {d : Dev} : Moves [.freeCtr] [] d (bufferEntry r d).2 := by
  simp only [bufferEntry]
  split
  · exact .snd .refl
  · exact .snd (.step moves_nextFree (.step moves_nextFree .refl rfl) rfl)

theorem moves_hostDeliver {reason : Nat} {queueNo : Nat} {ruleId : Nat} {inSrc : Nat} {flow : Nat} {stamp : Time} {bytes :
    List Byte} {d : Dev} : Moves [.freeCtr, .emitted, .regs, .cnt, .host, .sec] [.cnEvent, .cnWrap, .scCfg] d (hostDeliver
    reason queueNo ruleId inSrc flow stamp bytes d) :=
  .ite (.step moves_count .refl rfl) (.ite (.step moves_count .refl rfl) (.ite (.step moves_count .refl rfl) (.step
    moves_countN (.step
    moves_count (.step moves_ringStep (.step moves_ringStep (.step moves_emit (.step moves_emit (.step moves_bufferEntry
    .refl rfl) rfl) rfl) rfl) rfl) rfl) rfl)))

/-! ## Tm -/

theorem moves_modQueue {q : Nat} {f : Queue → Queue} {d : Dev} : Moves [.tm] [] d (modQueue q f d) :=
  .step Moves.tm .refl rfl

theorem moves_modNode {n : Nat} {f : Node → Node} {d : Dev} : Moves [.tm] [] d (modNode n f d) :=
  .step Moves.tm .refl rfl

theorem moves_noteAdmitted {k : Nat} {p : QPkt} {d : Dev} : Moves [.tm] [] d (noteAdmitted k p d) :=
  .step Moves.tm .refl rfl

theorem moves_spill {k : Nat} {i : Nat} {p : QPkt} {d : Dev} : Moves [.emitted, .regs, .cnt, .host, .tm, .cls] [.clEvent,
    .cnEvent, .cnWrap, .scCfg, .wdEvent] d (spill k i p d) := by
  simp only [spill]
  refine .ite ?_ ?_
  · exact .step moves_drainDown (.step moves_raise (.step moves_count .refl rfl) rfl) rfl
  · split
    · exact .step moves_noteAdmitted (.step moves_count (.step moves_modQueue .refl rfl) rfl) rfl
    · refine .ite ?_ ?_
      · exact .step moves_drainDown (.step moves_raise (.step moves_count .refl rfl) rfl) rfl
      · split
        · exact .step moves_drainDown (.step moves_raise (.step moves_count .refl rfl) rfl) rfl
        · exact .step moves_noteAdmitted (.step moves_count (.step moves_modQueue .refl rfl) rfl) rfl

theorem moves_enqueueDown {port : Nat} {i : Nat} {p : QPkt} {d : Dev} : Moves [.emitted, .regs, .cnt, .host, .tm, .cls]
    [.clEvent, .cnEvent, .cnWrap, .scCfg, .tmEvent] d (enqueueDown port i p d) :=
  .ite (.step moves_countN (.step moves_count (.step moves_modQueue .refl rfl) rfl) rfl) (.step moves_drainDown (.step
    moves_raise (.ite
    (.step moves_count (.step moves_count .refl rfl) rfl) (.step moves_count .refl rfl)) rfl) rfl)

theorem moves_enqueueUp {k : Nat} {i : Nat} {p : QPkt} {d : Dev} : Moves [.emitted, .regs, .cnt, .host, .tm, .cls] [.clEvent,
    .cnEvent, .cnWrap, .scCfg, .wdEvent] d (enqueueUp k i p d) :=
  .ite (.step moves_noteAdmitted (.step moves_countN (.step moves_count (.step moves_modQueue .refl rfl) rfl) rfl) rfl) (.step
    moves_spill
    .refl rfl)

theorem moves_drrVisit {blocked : Nat → Bool} {len : Dev → Nat → Nat} {n : Nat} {d : Dev} : Moves [.tm] [] d (drrVisit blocked
    len n d).2 :=
  .ite_snd (.ite_snd (.ite .refl (.step moves_modQueue .refl rfl)) (.step moves_modNode (.step moves_modQueue (.ite .refl (.step
    moves_modQueue .refl rfl)) rfl) rfl)) (.step moves_modNode (.step moves_modQueue .refl rfl) rfl)

theorem moves_drrLoop {blocked : Nat → Bool} {len : Dev → Nat → Nat} {n k : Nat} {d : Dev} :
    Moves [.tm] [] d (drrLoop blocked len n k d).2 := by
  induction k generalizing d with
  | zero => exact .refl
  | succ k ih =>
    simp only [drrLoop]
    split
    · next q e found => exact .of_eq Prod.snd found moves_drrVisit
    · next e none_ => exact .step ih (.of_eq Prod.snd none_ moves_drrVisit) rfl

theorem moves_nextQueue {blocked : Nat → Bool} {len : Dev → Nat → Nat} {n : Nat} {d : Dev} : Moves [.tm] [] d (nextQueue
    blocked len n d).2 := by
  simp only [nextQueue]
  refine .ite_snd ?_ ?_
  · exact .refl
  · split
    · exact .snd .refl
    · exact .ite_snd (.step moves_drrLoop .refl rfl) .refl

theorem moves_emptied {q : Nat} {d : Dev} : Moves [.tm] [] d (emptied q d) :=
  .ite (.ite (.step moves_modNode (.step moves_modQueue .refl rfl) rfl) (.step moves_modQueue .refl rfl)) .refl

theorem moves_charge {n : Nat} {q : Nat} {len : Nat} {d : Dev} : Moves [.tm] [] d (charge n q len d) :=
  .step moves_emptied (.step moves_modNode (.step moves_modQueue .refl rfl) rfl) rfl

/-- Packets taken out of a queue, each lost as is told. -/
theorem moves_takeOut {q : Nat} {gone : QPkt → Bool} {lost : QPkt → Dev → Dev} {d : Dev}
    (h : ∀ p d, Moves countPieces countRegs d (lost p d)) : Moves [.emitted, .regs, .cnt, .host, .tm, .cls]
    [.clEvent, .cnEvent, .cnWrap, .scCfg] d (takeOut q gone lost d) :=
  .ite .refl (.step moves_emptied (.step moves_modQueue (.foldl (fun d x => .step moves_drainDown (.step (h x d) .refl rfl) rfl)
    .refl) rfl) rfl)

theorem moves_popQueue {q : Nat} {d : Dev} : Moves [.tm] [] d (popQueue q d) :=
  .step moves_modQueue .refl rfl

theorem moves_refillShapers {d : Dev} : Moves [.tm] [] d (refillShapers d) :=
  .step Moves.tm .refl rfl

theorem moves_modPolicer {i : Nat} {f : Policer → Policer} {d : Dev} : Moves [.tm] [] d (modPolicer i f d) :=
  .step Moves.tm .refl rfl

theorem moves_meter {i : Nat} {pre : Nat} {d : Dev} : Moves [.emitted, .regs, .cnt, .host, .tm] [.cnEvent, .cnWrap, .scCfg] d
    (meter i pre d).1 :=
  .ite_fst (.step moves_count (.step moves_modPolicer .refl rfl) rfl) (.ite_fst (.ite_fst (.step moves_count (.step
    moves_count (.step
    moves_modPolicer .refl rfl) rfl) rfl) (.step moves_count (.step moves_modPolicer .refl rfl) rfl)) (.ite_fst (.step
      moves_count (.step
    moves_count (.step moves_modPolicer .refl rfl) rfl) rfl) (.step moves_count (.step moves_modPolicer .refl rfl) rfl)))

theorem moves_newStore {d : Dev} : Moves [.tm] [] d (newStore d).2 :=
  .snd (.step Moves.tm .refl rfl)

/-! ## LineEngine -/

theorem moves_dropCopies {ps : List QPkt} {d : Dev} : Moves [.emitted, .regs, .host, .cls] [.clEvent] d (dropCopies ps d) :=
  .foldl (fun _ _ => .step moves_drainDown .refl rfl) .refl

theorem moves_endEnvs {es : List OutEnv} {d : Dev} : Moves [.emitted, .regs, .host, .cls] [.clEvent] d (endEnvs es d) := by
  simp only [endEnvs]
  refine .foldl (fun _ _ => ?_) ?_
  · split
    · exact .step moves_drainDown .refl rfl
    · exact .refl
  · exact .refl

/-! ## Forward -/

theorem moves_setMacEntry {loc : Nat} {ws : List Nat} {d : Dev} : Moves [.fwd] [] d (setMacEntry loc ws d) :=
  .foldl (fun _ _ => .step Moves.fwd .refl rfl) .refl

theorem moves_tableErrorItem {trie : Bool} {a : Nat} {d : Dev} : Moves [.emitted, .regs, .cnt, .host] [.cnEvent, .cnWrap,
    .fwEvent, .scCfg] d (tableErrorItem trie a d) :=
  .step moves_post (.step moves_count (.step moves_raise .refl rfl) rfl) rfl

theorem moves_macUe {a : Nat} {d : Dev} : Moves [.emitted, .regs, .cnt, .host, .fwd] [.cnEvent, .cnWrap, .fwEvent, .scCfg] d
    (macUe a d) :=
  .step moves_tableErrorItem (.step moves_setMacEntry .refl rfl) rfl

theorem moves_meetErrors {e : TableErrors} {d : Dev} : Moves [.fwd] [] d (meetErrors e d) :=
  .step Moves.fwd .refl rfl

theorem moves_softReads {p : Nat → Bool} {d : Dev} : Moves [.emitted, .regs, .cnt, .host] [.cnEvent, .cnWrap, .scCfg] d
    (softReads p d) :=
  .step moves_countN .refl rfl

theorem moves_macScan {bucket : Nat} {d : Dev} : Moves [.emitted, .regs, .cnt, .host, .fwd] [.cnEvent, .cnWrap, .fwEvent,
    .scCfg] d (macScan bucket d) :=
  .foldl (fun _ _ => .step moves_macUe .refl rfl) (.step moves_softReads .refl rfl)

theorem moves_macLookup {domain : Nat} {mac : Nat} {d : Dev} : Moves [.emitted, .regs, .cnt, .host, .fwd] [.cnEvent, .cnWrap,
    .fwEvent, .scCfg] d (macLookup domain mac d).2 :=
  .snd (.step moves_macScan (.step moves_macScan .refl rfl) rfl)

theorem moves_setHit {loc : Nat} {d : Dev} : Moves [.fwd] [] d (setHit loc d) :=
  .ite .refl (.step moves_setMacEntry .refl rfl)

theorem moves_setTrieWord {a : Nat} {v : Nat} {d : Dev} : Moves [.fwd] [] d (setTrieWord a v d) :=
  .step Moves.fwd .refl rfl

theorem moves_trieUe {a : Nat} {d : Dev} : Moves [.emitted, .regs, .cnt, .host, .fwd] [.cnEvent, .cnWrap, .fwEvent, .scCfg] d
    (trieUe a d) :=
  .step moves_tableErrorItem (.step moves_setTrieWord .refl rfl) rfl

theorem moves_trieLookup {v6 : Bool} {dst : Nat} {d : Dev} : Moves [.emitted, .regs, .cnt, .host] [.cnEvent, .cnWrap, .scCfg]
    d (trieLookup v6 dst d).2 :=
  .snd (.step moves_softReads .refl rfl)

theorem moves_forwardLookup {dom : Nat} {p : Parsed} {pipe : Nat} {bs : List Byte} {d : Dev} :
    Moves [.emitted, .regs, .cnt, .host, .fwd] [.cnEvent, .cnWrap, .fwEvent, .scCfg] d (forwardLookup dom p pipe bs d).2.2 := by
  have looked : Moves [.emitted, .regs, .cnt, .host, .fwd] [.cnEvent, .cnWrap, .fwEvent, .scCfg] d
      (trieLookup (p.l3 == 2) p.dst d).2 := .step moves_trieLookup .refl rfl
  simp only [forwardLookup]
  refine .ite_thd (.ite_thd (.step moves_count .refl rfl) ?_) ?_
  · split
    · next taken =>
      dsimp only
      exact .step moves_count (.of_eq Prod.snd taken looked) rfl
    · next taken =>
      dsimp only
      exact .step moves_count (.step moves_trieUe (.of_eq Prod.snd taken looked) rfl) rfl
    · next taken =>
      have missed := Moves.of_eq Prod.snd taken looked
      exact .ite_thd (.step moves_count missed rfl) (.step moves_count missed rfl)
    · next n e taken =>
      have read := Moves.step (moves_softReads
        (p := fun x => x == 2 ^ 22 + (0x20000 + 2 * n) || x == 2 ^ 22 + (0x20000 + 2 * n) + 1)) (.of_eq Prod.snd taken looked)
          rfl
      split
      · dsimp only
        exact .step moves_count (.step moves_trieUe read rfl) rfl
      · refine .ite_thd (.step moves_count read rfl) (.ite_thd (.ite_thd ?_ ?_) ?_)
        · exact .step moves_count read rfl
        · exact .step moves_count read rfl
        · exact .step moves_count read rfl
  · split
    · next taken =>
      dsimp only
      exact .step moves_count (.step moves_count (.of_eq Prod.snd taken (.step moves_macLookup .refl rfl)) rfl) rfl
    · next loc e taken =>
      have hit := Moves.step (ps := [.emitted, .regs, .cnt, .host, .fwd]) (rs := [.cnEvent, .cnWrap, .fwEvent, .scCfg])
        (moves_setHit (loc := loc)) (.of_eq Prod.snd taken (.step moves_macLookup .refl rfl)) rfl
      exact .ite_thd (.step moves_count (.step moves_count hit rfl) rfl) (.step moves_count hit rfl)

theorem moves_learnNotify {reason : Nat} {pipe : Nat} {port : Nat} {dom : Nat} {mac : Nat} {oldPort : Nat} {loc : Nat} {at_ :
    Time} {d : Dev} : Moves [.emitted, .regs, .cnt, .host, .fwd] [.cnEvent, .cnWrap, .scCfg] d (learnNotify reason pipe port
    dom mac oldPort loc at_ d) :=
  .ite (.step moves_count .refl rfl) (.step Moves.fwd .refl rfl)

theorem moves_filterAdd {pipe : Nat} {f : LearnFilter} {d : Dev} : Moves [.fwd] [] d (filterAdd pipe f d) :=
  .step Moves.fwd .refl rfl

theorem moves_learnPost {i : LearnItem} {d : Dev} : Moves [.emitted, .regs, .cnt, .host, .fwd] [.cnEvent, .cnWrap, .fwEvent,
    .scCfg] d (learnPost i d) :=
  .ite (.ite (.step moves_count (.step moves_post (.step Moves.fwd .refl rfl) rfl) rfl) (.step moves_filterAdd (.step
    moves_count (.step
    moves_post (.step Moves.fwd .refl rfl) rfl) rfl) rfl)) (.step moves_raise (.step moves_count (.step moves_post (.step
      Moves.fwd .refl rfl) rfl) rfl) rfl)

theorem moves_learnSource {pipe : Nat} {port : Nat} {dom : Nat} {at_ : Time} {bs : List Byte} {d : Dev} : Moves [.emitted,
    .regs, .cnt, .host, .fwd] [.cnEvent, .cnWrap, .fwEvent, .scCfg] d (learnSource pipe port dom at_ bs d).2 := by
  simp only [learnSource]
  split
  next e taken =>
    exact .ite_snd (.step moves_count (.of_eq Prod.snd taken (.step moves_macLookup .refl rfl)) rfl) (.step moves_learnNotify
      (.of_eq
      Prod.snd taken (.step moves_macLookup .refl rfl)) rfl)
  next loc e1 taken1 =>
    exact .ite_snd (.step moves_count (.of_eq Prod.snd taken1 (.step moves_macLookup .refl rfl)) rfl) (.ite_snd (.step
      moves_setHit
      (.of_eq Prod.snd taken1 (.step moves_macLookup .refl rfl)) rfl) (.ite_snd (.step moves_learnNotify (.step moves_setHit
        (.of_eq
      Prod.snd taken1 (.step moves_macLookup .refl rfl)) rfl) rfl) (.step moves_learnNotify (.of_eq Prod.snd taken1 (.step
        moves_macLookup
      .refl rfl)) rfl)))

/-! ## Registers -/

theorem moves_storeField {d0 : Dev} {r : Reg} {i v : Nat} {d : Dev} {f : FieldSpec} (hi : i < (regPlace r).2.2) :
    Moves [.regs] [r] d (storeField d0 r i v d f) := by
  simp only [storeField]
  split
  · split
    · exact moves_setFldAt (f := ⟨r, f.hi, f.lo⟩) hi
    · exact .refl
  · exact moves_setFldAt (f := ⟨r, f.hi, f.lo⟩) hi
  · exact .refl

theorem moves_storeWrite {r : Reg} {i : Nat} {w : Word} {d : Dev} (hi : i < (regPlace r).2.2) :
    Moves [.regs] [r] d (storeWrite r i w d) :=
  .foldl (fun _ _ => moves_storeField hi) .refl

/-! ## MemMap -/

theorem moves_memItem {kind : Nat} {stack : Nat} {channel : Nat} {rank : Nat} {block : Nat} {line : Nat} {port : Nat} {d :
    Dev} : Moves [.emitted, .regs, .cnt, .host] [.cnEvent, .cnWrap, .scCfg] d (memItem kind stack channel rank block line port
    d) :=
  .step moves_post .refl rfl

theorem moves_poisonItem {l : Nat} {d : Dev} : Moves [.emitted, .regs, .cnt, .host] [.cnEvent, .cnWrap, .scCfg] d (poisonItem
    l d) :=
  .step moves_memItem .refl rfl

theorem moves_addPoison {ls : List Nat} {d : Dev} : Moves [.mc] [] d (addPoison ls d) :=
  .step Moves.mc .refl rfl

theorem moves_clearPoison {ls : List Nat} {d : Dev} : Moves [.mc] [] d (clearPoison ls d) :=
  .ite .refl (.step Moves.mc .refl rfl)

theorem moves_mapReads {part : Nat} {off : Nat} {n : Nat} {d : Dev} : Moves [.emitted, .regs, .cnt, .host, .mc] [.cnEvent,
    .cnWrap, .scCfg] d (mapReads part off n d) :=
  .foldl (fun _ _ => .ite .refl (.step moves_count (.step Moves.mc .refl rfl) rfl)) .refl

/-! ## Pipeline -/

theorem moves_dropCopy {p : Pkt} {d : Dev} : Moves [.emitted, .regs, .host, .cls] [.clEvent] d (dropCopy p d) :=
  .step moves_drainDown .refl rfl

theorem moves_invalidTarget {p : Pkt} {d : Dev} : Moves [.emitted, .regs, .cnt, .host, .cls] [.clEvent, .cnEvent, .cnWrap,
    .scCfg] d (invalidTarget p d) :=
  .step moves_dropCopy (.step moves_count .refl rfl) rfl

theorem moves_replayDone {p : Pkt} {d : Dev} : Moves [.sb] [] d (replayDone p d) := by
  simp only [replayDone]
  split
  · split
    · exact .ite (.step Moves.sb .refl rfl) .refl
    · exact .refl
  · exact .refl

theorem moves_toPort {p : Pkt} {key : List Nat} {bytes : List Byte} {egtag : Nat} {port : Nat} {i : Nat} {store : Nat} {marked
    : Bool} {d : Dev} : Moves [.emitted, .regs, .cnt, .host, .tm, .cls] [.clEvent, .cnEvent, .cnWrap, .scCfg, .tmEvent] d
    (toPort p key bytes egtag port i store marked d) :=
  .ite (.step moves_invalidTarget .refl rfl) (.step moves_enqueueDown .refl rfl)

theorem moves_toLine {p : Pkt} {key : List Nat} {bytes : List Byte} {egtag : Nat} {flow : Nat} {k : Nat} {i : Nat} {store :
    Nat} {marked : Bool} {d : Dev} : Moves [.emitted, .regs, .cnt, .host, .tm, .cls] [.clEvent, .cnEvent, .cnWrap, .scCfg,
    .wdEvent] d (toLine p key bytes egtag flow k i store marked d) :=
  .ite (.step moves_invalidTarget .refl rfl) (.step moves_enqueueUp .refl rfl)

theorem moves_toHost {p : Pkt} {bytes : List Byte} {reason : Nat} {a : Actions} {d : Dev} : Moves [.freeCtr, .emitted, .regs,
    .cnt, .host, .cls, .sec] [.clEvent, .cnEvent, .cnWrap, .scCfg] d (toHost p bytes reason a d) :=
  .step moves_dropCopy (.step moves_hostDeliver .refl rfl) rfl

theorem moves_replicate {p : Pkt} {key : List Nat} {bytes : List Byte} {a : Actions} {ports : List Nat} {line : Bool} {host :
    Bool} {hostReason : Nat} {store : Nat} {marked : Bool} {d : Dev} : Moves [.freeCtr, .emitted, .regs, .cnt, .host, .tm,
    .cls, .sec] [.clEvent, .cnEvent, .cnWrap, .scCfg, .tmEvent, .wdEvent] d (replicate p key bytes a ports line host
    hostReason store marked d) :=
  .ite (.step moves_dropCopy .refl rfl) (.ite (.step moves_toHost (.ite (.step moves_toLine (.foldl (fun _ _ => .step
    moves_toPort
    .refl rfl) (.step moves_drainUp .refl rfl)) rfl) (.foldl (fun _ _ => .step moves_toPort .refl rfl) (.step moves_drainUp
      .refl rfl))) rfl) (.ite
    (.step moves_toLine (.foldl (fun _ _ => .step moves_toPort .refl rfl) (.step moves_drainUp .refl rfl)) rfl) (.foldl (fun _
      _ => .step
    moves_toPort .refl rfl) (.step moves_drainUp .refl rfl))))

theorem moves_recirculate {p : Pkt} {a : Actions} {dom : Nat} {marked : Bool} {d : Dev} : Moves [.emitted, .regs, .cnt, .host,
    .cls, .sb] [.clEvent, .cnEvent, .cnWrap, .scCfg] d (recirculate p a dom marked d) :=
  .ite (.step moves_replayDone (.step moves_dropCopy (.step moves_raise (.step moves_count .refl rfl) rfl) rfl) rfl) (.step
    moves_count (.step
    Moves.cls .refl rfl) rfl)

theorem moves_doForward {p : Pkt} {key : List Nat} {bytes : List Byte} {a : Actions} {dom : Nat} {copy : Bool} {marked : Bool}
    {d : Dev} : Moves [.freeCtr, .emitted, .regs, .cnt, .host, .tm, .cls, .fwd, .sec] [.clEvent, .cnEvent, .cnWrap, .fwEvent,
    .scCfg, .tmEvent, .wdEvent] d (doForward p key bytes a dom copy marked d) := by
  have stored : Moves [.freeCtr, .emitted, .regs, .cnt, .host, .tm, .cls, .fwd, .sec] [.clEvent, .cnEvent, .cnWrap, .fwEvent,
      .scCfg, .tmEvent, .wdEvent] d (newStore d).2 := .step moves_newStore .refl rfl
  have learned : ∀ {o : Option Nat}, Moves [.freeCtr, .emitted, .regs, .cnt, .host, .tm, .cls, .fwd, .sec] [.clEvent, .cnEvent, .cnWrap, .fwEvent,
      .scCfg, .tmEvent, .wdEvent] d
      (match o with
        | some port => if a.learn then learnSource p.pipe port dom p.entryAt bytes (newStore d).2 else (false, (newStore d).2)
        | none => (false, (newStore d).2)).2 := fun {o} => by
    cases o with
    | some port => exact .ite_snd (.step moves_learnSource stored rfl) stored
    | none => exact stored
  have copied : ∀ {e : Dev}, Moves [.freeCtr, .emitted, .regs, .cnt, .host, .tm, .cls, .fwd, .sec] [.clEvent, .cnEvent, .cnWrap, .fwEvent,
      .scCfg, .tmEvent, .wdEvent] d e →
      Moves [.freeCtr, .emitted, .regs, .cnt, .host, .tm, .cls, .fwd, .sec] [.clEvent, .cnEvent, .cnWrap, .fwEvent,
      .scCfg, .tmEvent, .wdEvent] d
        (if copy then toHost p bytes 1 a (drainUp p.slot 1 e) else e) := fun h =>
    .when (fun h => .step moves_toHost (.step moves_drainUp h rfl) rfl) h
  simp only [doForward]
  split
  · exact .step moves_replicate (.when (fun h => .step moves_count h rfl) stored) rfl
  · refine .ite (.step moves_dropCopy learned rfl) ?_
    split
    · exact .step moves_dropCopy (copied (.step moves_forwardLookup learned rfl)) rfl
    · exact .step moves_dropCopy (.step moves_count (copied (.step moves_forwardLookup learned rfl)) rfl) rfl
    · exact .step moves_toHost (copied (.step moves_forwardLookup learned rfl)) rfl
    · exact .step moves_toLine (copied (.step moves_forwardLookup learned rfl)) rfl
    · exact .ite (.step moves_dropCopy (.step moves_count (copied (.step moves_forwardLookup learned rfl)) rfl) rfl)
        (.step moves_toPort (copied (.step moves_forwardLookup learned rfl)) rfl)
    · exact .step moves_replicate (.ite (.step moves_count (copied (.step moves_forwardLookup learned rfl)) rfl)
        (.step moves_countN (copied (.step moves_forwardLookup learned rfl)) rfl)) rfl

theorem moves_applyActions {p : Pkt} {key : List Nat} {a : Actions} {d : Dev} : Moves [.freeCtr, .emitted, .regs, .cnt, .host,
    .tm, .cls, .fwd, .sb, .sec] [.clEvent, .cnEvent, .cnWrap, .fwEvent, .scCfg, .tmEvent, .wdEvent] d (applyActions p key a d)
    := by
  have metered : Moves [.freeCtr, .emitted, .regs, .cnt, .host,
    .tm, .cls, .fwd, .sb, .sec] [.clEvent, .cnEvent, .cnWrap, .fwEvent, .scCfg, .tmEvent, .wdEvent] d
      (if a.polEn then meter a.policer a.colour d else (d, false, false)).1 := .ite_fst (.step moves_meter .refl rfl) .refl
  simp only [applyActions]
  refine .ite (.step moves_replayDone (.step moves_dropCopy metered rfl) rfl) (.ite (.step moves_recirculate metered rfl) ?_)
  split
  · refine .ite (.step moves_replayDone (.step moves_dropCopy metered rfl) rfl) (.ite ?_ ?_)
    · exact .step moves_replayDone (.step moves_dropCopy (.step moves_count metered rfl) rfl) rfl
    · exact .step moves_replayDone (.step moves_toPort (.step moves_newStore metered rfl) rfl) rfl
  · split
    · exact .step moves_dropCopy metered rfl
    · exact .step moves_doForward metered rfl
    · exact .step moves_toLine (.step moves_newStore metered rfl) rfl
    · exact .ite (.step moves_invalidTarget metered rfl) (.step moves_toPort (.step moves_newStore metered rfl) rfl)
    · exact .step moves_toHost metered rfl
    · exact .step moves_doForward metered rfl
    · exact .step moves_dropCopy (.step moves_count metered rfl) rfl

theorem moves_setFrags {pipe : Nat} {l : List FragEntry} {d : Dev} : Moves [.cls] [] d (setFrags pipe l d) :=
  .step Moves.cls .refl rfl

theorem moves_setHoldBuffer {pipe : Nat} {l : List HeldFrag} {d : Dev} : Moves [.cls] [] d (setHoldBuffer pipe l d) :=
  .step Moves.cls .refl rfl

theorem moves_fragStore {pipe : Nat} {key : List Nat} {a : Actions} {d : Dev} : Moves [.emitted, .regs, .cnt, .host, .cls]
    [.clEvent, .cnEvent, .cnWrap, .scCfg] d (fragStore pipe key a d) :=
  .ite (.step moves_raise (.step moves_count .refl rfl) rfl) (.step moves_count (.step moves_setFrags .refl rfl) rfl)

theorem moves_dropHit {p : Pkt} {a : Actions} {d : Dev} : Moves [.cls] [] d (dropHit p a d) :=
  .ite (.step moves_hit .refl rfl) .refl

theorem moves_applyDefault {p : Pkt} {key : List Nat} {d : Dev} : Moves [.freeCtr, .emitted, .regs, .cnt, .host, .tm, .cls,
    .fwd, .sb, .sec] [.clErraddr, .clEvent, .cnEvent, .cnWrap, .fwEvent, .scCfg, .tmEvent, .wdEvent] d (applyDefault p key d)
    := by
  simp only [applyDefault]
  split
  · exact .step moves_replayDone (.step moves_dropCopy (.step moves_count .refl rfl) rfl) rfl
  · exact .step moves_replayDone (.step moves_dropCopy (.step moves_treeEcc (.step moves_count .refl rfl) rfl) rfl) rfl
  · exact .step moves_applyActions (.step moves_dropHit .refl rfl) rfl

theorem moves_fragOverflow {p : Pkt} {key : List Nat} {d : Dev} : Moves [.freeCtr, .emitted, .regs, .cnt, .host, .tm, .cls,
    .fwd, .sb, .sec] [.clErraddr, .clEvent, .cnEvent, .cnWrap, .fwEvent, .scCfg, .tmEvent, .wdEvent] d (fragOverflow p key d) :=
  .ite (.step moves_applyDefault (.step moves_count .refl rfl) rfl) (.step moves_replayDone (.step moves_dropCopy (.step
    moves_count
    .refl rfl) rfl) rfl)

theorem moves_fragPending {p : Pkt} {key : List Nat} {fk : List Nat} {d : Dev} : Moves [.freeCtr, .emitted, .regs, .cnt,
    .host, .tm, .cls, .fwd, .sb, .sec] [.clErraddr, .clEvent, .cnEvent, .cnWrap, .fwEvent, .scCfg, .tmEvent, .wdEvent] d
    (fragPending p key fk d) := by
  simp only [fragPending]
  split
  · exact .ite (.step moves_count (.step moves_setHoldBuffer (.step moves_count .refl rfl) rfl) rfl) (.step moves_fragOverflow
      (.step
      moves_raise (.step moves_count .refl rfl) rfl) rfl)
  · exact .step moves_applyDefault (.step moves_count .refl rfl) rfl
  · exact .step moves_replayDone (.step moves_dropCopy (.step moves_count .refl rfl) rfl) rfl

theorem moves_releaseHeld {pipe : Nat} {fk : List Nat} {a : Actions} {d : Dev} : Moves [.freeCtr, .emitted, .regs, .cnt,
    .host, .tm, .cls, .fwd, .sb, .sec] [.clEvent, .cnEvent, .cnWrap, .fwEvent, .scCfg, .tmEvent, .wdEvent] d
    (Machine.releaseHeld pipe fk a d) :=
  .foldl (fun _ _ => .ite (.step moves_replayDone (.step moves_dropCopy (.step moves_count .refl rfl) rfl) rfl) (.step
    moves_applyActions
    (.step moves_count .refl rfl) rfl)) (.step moves_setHoldBuffer .refl rfl)

theorem moves_classify {p : Pkt} {key : List Nat} {ps : Parsed} {d : Dev} : Moves [.freeCtr, .emitted, .regs, .cnt, .host,
    .tm, .cls, .fwd, .sb, .sec] [.clErraddr, .clEvent, .cnEvent, .cnWrap, .fwEvent, .scCfg, .tmEvent, .wdEvent] d (classify p
    key ps d) := by
  simp only [classify]
  split
  · exact .step moves_replayDone (.step moves_dropCopy (.step moves_count .refl rfl) rfl) rfl
  · exact .step moves_replayDone (.step moves_dropCopy (.step moves_treeEcc (.step moves_count .refl rfl) rfl) rfl) rfl
  · exact .ite (.ite (.step moves_releaseHeld (.step moves_applyActions (.step moves_fragStore (.ite (.step moves_hit .refl rfl)
      (.step moves_dropHit .refl rfl)) rfl) rfl) rfl) (.step moves_applyActions (.step moves_fragStore (.ite (.step moves_hit
        .refl rfl) (.step
      moves_dropHit .refl rfl)) rfl) rfl)) (.step moves_applyActions (.ite (.step moves_hit .refl rfl) (.step moves_dropHit
        .refl rfl)) rfl)

theorem moves_process {p : Pkt} {d : Dev} : Moves [.freeCtr, .emitted, .regs, .cnt, .host, .tm, .cls, .fwd, .sb, .sec]
    [.clErraddr, .clEvent, .cnEvent, .cnWrap, .fwEvent, .scCfg, .tmEvent, .wdEvent] d (process p d) := by
  simp only [process]
  refine .ite ?_ ?_
  · split
    · exact .step moves_applyActions (.step moves_count (.step moves_setFrags .refl rfl) rfl) rfl
    · exact .step moves_fragPending .refl rfl
  · exact .step moves_classify .refl rfl

theorem moves_enter {p : Pkt} {d : Dev} : Moves [.freeCtr, .emitted, .regs, .cnt, .host, .tm, .cls, .fwd, .sb, .sec]
    [.clErraddr, .clEvent, .cnEvent, .cnWrap, .fwEvent, .scCfg, .tmEvent, .wdEvent] d (enter p d) := by
  simp only [enter]
  refine .ite ?_ ?_
  · split
    · exact .step moves_toPort (.step moves_newStore (.step moves_drainUp (.step moves_count .refl rfl) rfl) rfl) rfl
    · exact .step moves_dropCopy (.step moves_drainUp (.step moves_count .refl rfl) rfl) rfl
  · exact .step moves_process (.step moves_drainUp (.step moves_count .refl rfl) rfl) rfl

theorem moves_secondPass {pipe : Nat} {d : Dev} : Moves [.freeCtr, .emitted, .regs, .cnt, .host, .tm, .cls, .fwd, .sb, .sec]
    [.clErraddr, .clEvent, .cnEvent, .cnWrap, .fwEvent, .scCfg, .tmEvent, .wdEvent] d (secondPass pipe d) := by
  simp only [secondPass]
  split
  · exact .refl
  · exact .step moves_process (.step Moves.cls .refl rfl) rfl

/-! ## Sideboard -/

theorem moves_modProg {m : Nat} {f : Programme → Programme} {d : Dev} : Moves [.sb] [] d (modProg m f d) :=
  .step Moves.sb .refl rfl

theorem moves_setLive {m : Nat} {port : Nat} {b : Bool} {d : Dev} : Moves [.sb] [] d (setLive m port b d) :=
  .step moves_modProg .refl rfl

theorem moves_freeContext {ctx : Nat} {d : Dev} : Moves [.sb] [] d (freeContext ctx d) :=
  .step Moves.sb .refl rfl

theorem moves_spliceNow {ctx : Nat} {c : Replay} {d : Dev} : Moves [.sb] [] d (spliceNow ctx c d) :=
  .step moves_freeContext (.step moves_setLive .refl rfl) rfl

theorem moves_joinResult {origin : SbOrigin} {r : BitVec 2} {d : Dev} : Moves [.regs, .sb] [.sbCmdStatus] d (joinResult origin
    r d) := by
  simp only [joinResult]
  split
  · exact .refl
  · exact .step Moves.sb (.step moves_setFld .refl rfl) rfl
  · exact .step Moves.sb .refl rfl
  · exact .step Moves.sb .refl rfl
  · exact .step Moves.sb .refl rfl

theorem moves_doJoin {port m : Nat} {d : Dev} : Moves [.emitted, .regs, .cnt, .host, .sb]
    [.cnEvent, .cnWrap, .sbEvent, .scCfg] d (doJoin port m d).2 := by
  simp only [doJoin]
  split
  · exact .refl
  · split
    · exact .refl
    · split
      · exact .snd (.step moves_count (.step moves_setLive .refl rfl) rfl)
      · split
        · exact .snd (.step moves_count (.step Moves.sb .refl rfl) rfl)
        · exact .snd (.step moves_raise (.step moves_count (.step moves_count (.step moves_setLive .refl rfl) rfl) rfl) rfl)

theorem moves_doLeave {port : Nat} {m : Nat} {d : Dev} : Moves [.sb] [] d (doLeave port m d) :=
  .step moves_setLive (.foldl (fun _ _ => .step moves_freeContext .refl rfl) .refl) rfl

theorem moves_doLeaveAll {port : Nat} {d : Dev} : Moves [.sb] [] d (doLeaveAll port d) :=
  .foldl (fun _ _ => .step moves_doLeave .refl rfl) .refl

theorem moves_joinCmd {origin : SbOrigin} {port : Nat} {m : Nat} {d : Dev} : Moves [.emitted, .regs, .cnt, .host, .sb]
    [.cnEvent, .cnWrap, .sbCmdStatus, .sbEvent, .scCfg] d (joinCmd origin port m d) :=
  .ite .refl (.step moves_joinResult (.step moves_doJoin .refl rfl) rfl)

theorem moves_leaveCmd {origin : SbOrigin} {port : Nat} {m : Nat} {d : Dev} : Moves [.regs, .sb] [.sbCmdStatus] d (leaveCmd
    origin port m d) :=
  .ite .refl (.ite (.step moves_joinResult .refl rfl) (.step moves_joinResult (.step moves_doLeave .refl rfl) rfl))

theorem moves_leaveAllCmd {origin : SbOrigin} {port : Nat} {d : Dev} : Moves [.regs, .sb] [.sbCmdStatus] d (leaveAllCmd origin
    port d) :=
  .ite .refl (.ite (.step moves_joinResult .refl rfl) (.step moves_joinResult (.step moves_doLeaveAll .refl rfl) rfl))

/-- What a membership command's change moves, the command moves, from an entry besides its answer. -/
theorem moves_memberRow {o : SbOrigin} {f : Dev → Dev} {d : Dev} {ps : List Piece} {rs : List Reg}
    (h : Moves ps rs d (f d)) (sub : within [.emitted] [] ps rs = true) : Moves ps rs d (memberRow o f d) := by
  have answered : Moves ps rs d (if d.part.hasSideboard then (0, f d) else (0x07, d)).2 := .ite_snd h .refl
  cases o with
  | entry p => exact moves_commandOn (f := fun d => if d.part.hasSideboard then (0, f d) else (0x07, d)) answered sub
  | _ => exact h

theorem moves_offerReplay {port : Nat} {p : Pkt} {d : Dev} : Moves [.sb] [] d (offerReplay port p d) :=
  .step Moves.sb .refl rfl

theorem moves_issued {ctx : Nat} {n : Nat} {d : Dev} : Moves [.sb] [] d (issued ctx n d) :=
  .step Moves.sb .refl rfl

theorem moves_dropRecord {m : Nat} {r : Record} {d : Dev} : Moves [.emitted, .regs, .cnt, .host, .sb] [.cnEvent, .cnWrap,
    .mcEvent, .scCfg] d (dropRecord m r d) :=
  .step moves_raise (.step moves_count (.step moves_modProg .refl rfl) rfl) rfl

theorem moves_replayIssue {ctx : Nat} {d : Dev} : Moves [.emitted, .regs, .cnt, .host, .sb, .mc] [.cnEvent, .cnWrap, .mcEvent,
    .scCfg] d (replayIssue ctx d) := by
  simp only [replayIssue]
  split
  · exact .refl
  · split
    · exact .ite .refl (.step Moves.sb .refl rfl)
    · exact .ite (.ite (.step moves_dropRecord .refl rfl) (.step moves_count (.step moves_offerReplay (.step Moves.sb (.step
        moves_issued (.step moves_mapReads .refl rfl) rfl) rfl) rfl) rfl)) .refl

theorem moves_spliceCtx {ctx : Nat} {d : Dev} : Moves [.sb] [] d (spliceCtx ctx d) := by
  simp only [spliceCtx]
  split
  · exact .refl
  · exact .ite (.step moves_spliceNow .refl rfl) .refl

theorem moves_catchupTimeout {ctx : Nat} {d : Dev} : Moves [.emitted, .regs, .cnt, .host, .sb] [.cnEvent, .cnWrap, .sbEvent,
    .scCfg] d (catchupTimeout ctx d) := by
  simp only [catchupTimeout]
  split
  · exact .refl
  · exact .ite (.step moves_raise (.step moves_count (.step moves_spliceNow .refl rfl) rfl) rfl) .refl

theorem moves_forcedSplice {ctx : Nat} {d : Dev} : Moves [.emitted, .regs, .cnt, .host, .sb] [.cnEvent, .cnWrap, .sbEvent,
    .scCfg] d (forcedSplice ctx d) := by
  simp only [forcedSplice]
  split
  · exact .refl
  · split
    · exact .refl
    · exact .ite (.step moves_raise (.step moves_count (.step moves_spliceNow .refl rfl) rfl) rfl) .refl

theorem moves_keepMembership {port : Nat} {m : Nat} {d : Dev} : Moves [.sb] [] d (keepMembership port m d) :=
  .step Moves.sb .refl rfl

theorem moves_dropMembership {port : Nat} {m : Nat} {d : Dev} : Moves [.sb] [] d (dropMembership port m d) :=
  .step Moves.sb .refl rfl

theorem moves_takeSay {port : Nat} {s : GroupSay} {d : Dev} : Moves [.emitted, .regs, .cnt, .host, .sb] [.cnEvent, .cnWrap,
    .sbCmdStatus, .sbEvent, .scCfg] d (takeSay port s d) := by
  simp only [takeSay]
  split
  · exact .refl
  · exact .ite (.step moves_joinCmd (.step moves_keepMembership .refl rfl) rfl) (.step moves_leaveCmd (.step
      moves_dropMembership
      .refl rfl) rfl)

theorem moves_membershipReport {d : Dev} : Moves [.emitted, .regs, .cnt, .host, .sb] [.cnEvent, .cnWrap, .sbCmdStatus,
    .sbEvent, .scCfg] d
    (membershipReport d) := by
  simp only [membershipReport]
  split
  · exact .refl
  · refine .ite .refl ?_
    have taken : ∀ l, Moves [.emitted, .regs, .cnt, .host, .sb] [.cnEvent, .cnWrap, .sbCmdStatus, .sbEvent, .scCfg] d
      (levelCheck 6
        { setDrawer 6 { drawer d 6 with items := (drawer d 6).items.drop 1 } d with sb := { d.sb with memFrames := l } }) :=
      fun _ => .step moves_levelCheck (.step Moves.sb (.step (moves_setDrawer fun h => dropped (h 6)) .refl rfl) rfl) rfl
    split
    · exact .step moves_count (taken _) rfl
    · exact .foldl (fun _ _ => .step moves_takeSay .refl rfl) (taken _)

theorem moves_generalQuery {port : Nat} {d : Dev} : Moves [.emitted] [] d (generalQuery port d) :=
  .ite .refl (.ite (.step moves_emit (.ite (.step moves_emit .refl rfl) .refl) rfl) (.ite (.step moves_emit .refl rfl) .refl))

theorem moves_membershipExpiry {port : Nat} {m : Nat} {d : Dev} : Moves [.regs, .sb] [.sbCmdStatus] d (membershipExpiry port m
    d) := by
  simp only [membershipExpiry]
  split
  · exact .refl
  · exact .ite (.step moves_leaveCmd (.step moves_dropMembership .refl rfl) rfl) .refl

theorem moves_refillBudgets {d : Dev} : Moves [.sb] [] d (refillBudgets d) :=
  .step Moves.sb .refl rfl

theorem moves_repairServe {d : Dev} : Moves [.emitted, .regs, .cnt, .host, .sb, .mc]
    [.cnEvent, .cnWrap, .mcEvent, .sbEvent, .scCfg] d (repairServe d) := by
  simp only [repairServe]
  split
  · exact .refl
  · have taken : ∀ l, Moves [.emitted, .regs, .cnt, .host, .sb, .mc] [.cnEvent, .cnWrap, .mcEvent, .sbEvent, .scCfg] d
        (levelCheck 7 { setDrawer 7 { drawer d 7 with items := (drawer d 7).items.drop 1 } d with
          sb := { d.sb with repFrames := l } }) :=
      fun _ => .step moves_levelCheck (.step Moves.sb (.step (moves_setDrawer fun h => dropped (h 7)) .refl rfl) rfl) rfl
    refine .ite .refl (.ite ?_ (.ite ?_ (.ite ?_ (.step moves_offerReplay (.step moves_countN (.step moves_countN
      (.step moves_count ?_ rfl) rfl) rfl) rfl))))
    · exact .step moves_offerReplay (.step moves_raise (.step moves_count (taken _) rfl) rfl) rfl
    · exact .step moves_offerReplay (.step moves_raise (.step moves_count (taken _) rfl) rfl) rfl
    · exact .step moves_offerReplay (.step moves_raise (.step moves_count (taken _) rfl) rfl) rfl
    · exact .foldl (fun _ _ => .step moves_offerReplay .refl rfl) (.step Moves.sb (.foldl (fun _ _ => .step moves_mapReads
        .refl rfl)
        (.foldl (fun _ _ => .step moves_dropRecord .refl rfl) (taken _))) rfl)

theorem moves_rateUpdate {d : Dev} : Moves [.sb] [] d (rateUpdate d) :=
  .step Moves.sb .refl rfl

theorem moves_withSideboard {f : Dev → Dev} {d : Dev} {ps : List Piece} {rs : List Reg} (h : Moves ps rs d (f d)) :
    Moves ps rs d (withSideboard f d) :=
  .ite h .refl

/-! ## WaifelBase -/

theorem moves_setSession {id : Nat} {x : Session} {d : Dev} : Moves [.img] [] d (setSession id x d) :=
  .step Moves.img .refl rfl

theorem moves_sessionSend {id : Nat} {type : Nat} {ack : Nat} {payload : List Byte} {d : Dev} : Moves [.emitted, .img] [] d
    (sessionSend id type ack payload d) := by
  simp only [sessionSend]
  split
  · exact .refl
  · exact .step moves_emit (.step moves_setSession .refl rfl) rfl

theorem moves_wfAccept {now : Time} {id : Nat} {type : Nat} {seq : Nat} {ack : Nat} {payload : List Byte} {check : Nat} {d :
    Dev} : Moves [.emitted, .regs, .cnt, .host, .img] [.cnEvent, .cnWrap, .scCfg] d (wfAccept now id type seq ack payload
    check d).2 := by
  simp only [wfAccept]
  split
  · exact .snd (.step moves_count .refl rfl)
  · exact .ite_snd (.step moves_count .refl rfl) (.ite_snd (.step moves_count .refl rfl) (.ite_snd (.step moves_count .refl
      rfl) (.step
      moves_setSession .refl rfl)))

/-! ## Paths -/

theorem moves_modPath {p : Path} {f : PathSt → PathSt} {d : Dev} : Moves [.dic] [] d (modPath p f d) := by
  simp only [modPath]
  split
  · exact .step Moves.dic .refl rfl
  · exact .step Moves.dic .refl rfl
  · exact .step Moves.dic .refl rfl

theorem moves_sendUpstream {bs : List Byte} {d : Dev} : Moves [.emitted, .regs, .cnt, .host, .tm, .cls] [.clEvent, .cnEvent,
    .cnWrap, .scCfg, .wdEvent] d (sendUpstream bs d) := by
  simp only [sendUpstream]
  split
  · exact .refl
  · exact .step moves_enqueueUp (.step moves_newStore .refl rfl) rfl

theorem moves_sendOn {p : Path} {toWho : Nat × Nat} {bs : List Byte} {d : Dev} : Moves [.emitted, .regs, .cnt, .host, .tm,
    .cls, .img] [.clEvent, .cnEvent, .cnWrap, .mbEvent, .mbStatus, .scCfg, .wdEvent] d (sendOn p toWho bs d) := by
  simp only [sendOn]
  split
  · exact .step moves_sendUpstream (.step moves_emit (.step moves_count .refl rfl) rfl) rfl
  · exact .step moves_sessionSend (.step moves_emit (.step moves_count .refl rfl) rfl) rfl
  · exact .step moves_raise (.step moves_setFld (.step moves_setFld (.step moves_setFld (.step moves_emit (.step moves_count
      .refl rfl) rfl) rfl) rfl) rfl) rfl

theorem moves_replyTo {p : Path} {toWho : Nat × Nat} {id : BitVec 32} {bs : List Byte} {d : Dev} : Moves [.emitted, .regs,
    .cnt, .host, .tm, .cls, .dic, .img] [.clEvent, .cnEvent, .cnWrap, .mbEvent, .mbStatus, .scCfg, .wdEvent] d (replyTo p
    toWho id bs d) :=
  .step moves_sendOn (.ite (.step moves_modPath .refl rfl) .refl) rfl

theorem moves_replyOn {p : Path} {id : BitVec 32} {bs : List Byte} {d : Dev} : Moves [.emitted, .regs, .cnt, .host, .tm, .cls,
    .dic, .img] [.clEvent, .cnEvent, .cnWrap, .mbEvent, .mbStatus, .scCfg, .wdEvent] d (replyOn p id bs d) :=
  .step moves_replyTo .refl rfl

theorem moves_answerOn {p : Path} {op : Nat} {result : Nat} {id : BitVec 32} {d : Dev} : Moves [.emitted, .regs, .cnt, .host,
    .tm, .cls, .dic, .img] [.clEvent, .cnEvent, .cnWrap, .mbEvent, .mbStatus, .scCfg, .wdEvent] d (answerOn p op result id d) :=
  .step moves_replyOn .refl rfl

theorem moves_abandonTxn {p : Path} {d : Dev} : Moves [.dic] [] d (abandonTxn p d) :=
  .step moves_modPath .refl rfl

theorem moves_tellOutcome {p : Path} {id : BitVec 32} {code : Nat} {key : Nat} {single : Option (List (Nat × Nat))} {d : Dev}
    : Moves [.emitted, .regs, .cnt, .host, .tm, .cls, .dic, .img] [.clEvent, .cnEvent, .cnWrap, .mbEvent, .mbStatus, .scCfg,
    .wdEvent] d (tellOutcome p id code key single d) := by
  simp only [tellOutcome]
  split
  · exact .ite (.step moves_modPath .refl rfl) (.step moves_replyTo (.step moves_modPath .refl rfl) rfl)
  · split
    · exact .step moves_raise (.step moves_modPath .refl rfl) rfl
    · exact .step moves_sendOn (.step moves_modPath .refl rfl) rfl

theorem moves_cancelTxn {p : Path} {writeCode : Nat} {d : Dev} : Moves [.emitted, .regs, .cnt, .host, .tm, .cls, .dic, .img]
    [.clEvent, .cnEvent, .cnWrap, .mbEvent, .mbStatus, .scCfg, .wdEvent] d (cancelTxn p writeCode d) :=
  .step moves_tellOutcome (.step moves_modPath .refl rfl) rfl

/-! ## HostCmds -/

theorem moves_setHostIx {n : Nat} {ix : BitVec 16} {d : Dev} : Moves [.emitted, .host, .sec] [] d (setHostIx n ix d) :=
  .ite (.step moves_benchFlush (.step moves_modRing .refl rfl) rfl) (.step moves_modRing .refl rfl)

theorem moves_storeEntries {n : Nat} {es : List (Word × Word)} {d : Dev} : Moves [.host] [] d (storeEntries n es d) :=
  .ite .refl (.step (Moves.host rfl) .refl rfl)

theorem moves_doorbell {n : Nat} {x : RingIndex} {d : Dev} : Moves [.emitted, .regs, .cnt, .host, .sec] [.cnEvent, .cnWrap,
    .scCfg] d (doorbell n x d) :=
  .ite .refl (.ite (.step moves_count .refl rfl) (.step moves_setHostIx (.step moves_storeEntries .refl rfl) rfl))

theorem moves_tailSnoop {n : Nat} {x : RingIndex} {d : Dev} : Moves [.emitted, .host, .sec] [] d (tailSnoop n x d) :=
  .ite (.step moves_setHostIx (.step moves_storeEntries (.step moves_cacheLine .refl rfl) rfl) rfl) .refl

theorem moves_ringIdleExit {n : Nat} {d : Dev} : Moves [.pwr] [] d (ringIdleExit n d) :=
  .ite .refl (.step moves_idleExit .refl rfl)

theorem moves_readFailed {d : Dev} : Moves [.host] [] d (readFailed d) :=
  .step (Moves.host rfl) .refl rfl

theorem moves_hostTransmit {x : TxDescriptor} {d : Dev} : Moves [.emitted, .regs, .cnt, .host, .sec] [.cnEvent, .cnWrap,
    .scCfg] d (hostTransmit x d) := by
  simp only [hostTransmit]
  refine .ite ?_ ?_
  · exact .refl
  · refine .ite ?_ ?_
    · exact .step moves_count (.step moves_ringStep .refl rfl) rfl
    · split
      · exact .step moves_count (.step moves_readFailed (.step moves_ringStep .refl rfl) rfl) rfl
      · exact .step moves_countN (.step moves_count (.step moves_ringStep (.step (Moves.host rfl) .refl rfl) rfl) rfl) rfl

theorem moves_drawerRead {n slot : Nat} {d : Dev} : Moves [.emitted, .host] [] d (drawerRead n slot d) := by
  simp only [drawerRead]
  refine .ite (.step moves_emit .refl rfl) (.ite (.step moves_emit .refl rfl) ?_)
  split
  · exact .step moves_emit (.step (moves_setDrawer fun h => h n) .refl rfl) rfl
  · next head =>
    exact .step moves_emit (.step moves_levelCheck (.step (moves_setDrawer fun h => shorter head (h n)) .refl rfl) rfl) rfl

theorem moves_drawerLevel {n : Nat} {v : Word} {d : Dev} : Moves [.emitted, .host] [] d (drawerLevel n v d) :=
  .ite .refl (.step moves_levelCheck (.step (moves_setDrawer fun h => h n) .refl rfl) rfl)

theorem moves_drawerFlush {n : Nat} {v : Word} {d : Dev} : Moves [.emitted, .regs, .cnt, .host, .sb] [.cnEvent, .cnWrap,
    .scCfg] d (drawerFlush n v d) :=
  .ite (.step moves_flushDrawer .refl rfl) .refl

theorem moves_drawerConsumer {n : Nat} {v : Word} {d : Dev} (hn : n < (regPlace .drwCtrl).2.2) :
    Moves [.emitted, .regs, .cnt, .host, .sb] [.cnEvent, .cnWrap, .drwCtrl, .scCfg] d (drawerConsumer n v d) :=
  .ite .refl (.ite .refl (.ite (.step (moves_setFldAt hn) .refl rfl) (.step moves_flushDrawer (.step (moves_setFldAt hn) .refl
    rfl) rfl)))

theorem moves_drawerCopy {n : Nat} {d : Dev} : Moves [.emitted, .host, .sec] [] d (drawerCopy n d) := by
  simp only [drawerCopy]
  split
  · exact .refl
  · next head =>
    exact .ite (.step moves_ringStep (.step moves_emit (.step moves_levelCheck
      (.step (moves_setDrawer fun h => shorter head (h n)) .refl rfl) rfl) rfl) rfl) .refl

theorem moves_unmask {v : Nat} {d : Dev} : Moves [.emitted, .host] [] d (unmask v d) :=
  .ite (.step moves_emit (.step (Moves.host rfl) (.step (Moves.host rfl) .refl rfl) rfl) rfl) (.step (Moves.host rfl) .refl rfl)

theorem moves_offerWindow {d : Dev} : Moves [.emitted] [] d (offerWindow d) :=
  .ite (.step moves_emit .refl rfl) .refl

theorem moves_linkTrained {l : LinkTraining} {d : Dev} : Moves [.emitted, .regs, .host] [.glEvent] d (linkTrained l d) :=
  .ite .refl (.step moves_raiseIf (.step moves_offerWindow (.step (Moves.host rfl) .refl rfl) rfl) rfl)

/-! ## Bench -/

theorem moves_modCluster {c : Nat} {f : Cluster → Cluster} {d : Dev} : Moves [.sec] [] d (modCluster c f d) :=
  .step Moves.sec .refl rfl

theorem moves_modCore {k : Nat} {f : Core → Core} {d : Dev} : Moves [.sec] [] d (modCore k f d) :=
  .step Moves.sec .refl rfl

theorem moves_setTask {h : Nat} {x : Machine.Task} {d : Dev} : Moves [.sec] [] d (setTask h x d) :=
  .step Moves.sec .refl rfl

theorem moves_traceItem {reason : Nat} {core : Nat} {h : Nat} {ty : Nat} {context : Nat} {d : Dev} : Moves [.emitted, .regs,
    .cnt, .host] [.cnEvent, .cnWrap, .scCfg] d (traceItem reason core h ty context d) :=
  .step moves_post .refl rfl

theorem moves_postCompletion {status : Nat} {core : Nat} {h : Nat} {vec : Nat} {result : Word} {tag : BitVec 32} {d : Dev} :
    Moves [.emitted, .host, .sec] [] d (postCompletion status core h vec result tag d) :=
  .step moves_benchFlush (.step Moves.sec .refl rfl) rfl

theorem moves_makeReady {h : Nat} {x : Machine.Task} {d : Dev} : Moves [.sec] [] d (makeReady h x d) :=
  .step Moves.sec (.step moves_setTask .refl rfl) rfl

theorem moves_decrement {h : Nat} {d : Dev} : Moves [.emitted, .regs, .cnt, .host, .sec] [.bnEvent, .cnEvent, .cnWrap, .scCfg]
    d (decrement h d).2 := by
  simp only [decrement]
  split
  · exact .snd (.step moves_raise (.step moves_count .refl rfl) rfl)
  · exact .ite_snd (.step moves_count .refl rfl) (.ite_snd (.step moves_setTask .refl rfl) (.step moves_makeReady .refl rfl))

theorem moves_onSuccessor {goOn : Bool} {h : Nat} {d : Dev} : Moves [.emitted, .regs, .cnt, .host, .sec] [.bnEvent, .cnEvent,
    .cnWrap, .scCfg] d (onSuccessor goOn h d).2 := by
  simp only [onSuccessor]
  refine .ite_snd ?_ ?_
  · exact .step moves_decrement .refl rfl
  · split
    · exact .snd .refl
    · exact .snd .refl

theorem moves_endTask {e : TaskEnd} {d : Dev} : Moves [.emitted, .regs, .cnt, .host, .sec]
    [.bnEvent, .cnEvent, .cnWrap, .scCfg] d (endTask e d).2 := by
  simp only [endTask]
  split
  · exact .snd .refl
  · have ended : ∀ {goOn : Bool} {l : List Nat}, Moves [.emitted, .regs, .cnt, .host, .sec] [.bnEvent, .cnEvent, .cnWrap,
      .scCfg] d
        (l.foldl (fun (a : List TaskEnd × Dev) h => (a.1 ++ (onSuccessor goOn h a.2).1, (onSuccessor goOn h a.2).2))
          ([], d)).2 := .foldl_snd (fun _ _ => .snd (.step moves_onSuccessor .refl rfl)) .refl
    exact .snd (.step moves_traceItem (.ite (.ite (.step moves_count (.step Moves.sec ended rfl) rfl) (.step Moves.sec ended
      rfl))
      (.step moves_postCompletion (.ite (.step moves_count (.step Moves.sec ended rfl) rfl) (.step Moves.sec ended rfl)) rfl))
        rfl)

theorem moves_endTasks {n : Nat} {l : List TaskEnd} {d : Dev} : Moves [.emitted, .regs, .cnt, .host, .sec]
    [.bnEvent, .cnEvent, .cnWrap, .scCfg] d (endTasks n l d) := by
  induction n generalizing l d with
  | zero => exact .refl
  | succ n ih =>
    cases l with
    | nil => exact .refl
    | cons e l => exact .step ih moves_endTask rfl

theorem moves_finish {e : TaskEnd} {d : Dev} : Moves [.emitted, .regs, .cnt, .host, .sec] [.bnEvent, .cnEvent, .cnWrap,
    .scCfg] d (finish e d) :=
  .step moves_endTasks .refl rfl

theorem moves_firmwareReady {h : Nat} {item : List Word} {d : Dev} : Moves [.freeCtr, .sec] [] d (firmwareReady h item d) :=
  .step moves_makeReady (.step moves_nextFree (.step moves_nextFree .refl rfl) rfl) rfl

theorem moves_dropRunning {c : Nat} {d : Dev} : Moves [.freeCtr, .emitted, .regs, .cnt, .host, .sec] [.bnEvent, .cnEvent,
    .cnWrap, .scCfg] d (dropRunning c d) := by
  simp only [dropRunning]
  refine .foldl (fun _ _ => ?_) ?_
  · split
    · exact .refl
    · split
      · exact .step moves_modCore .refl rfl
      · exact .ite (.step moves_firmwareReady (.step moves_finish (.step moves_modCore .refl rfl) rfl) rfl) (.ite (.step
          moves_finish
          (.step moves_modCore .refl rfl) rfl) (.step moves_makeReady (.step moves_modCore .refl rfl) rfl))
  · exact .refl

theorem moves_logEvent {kind : LogKind} {value : Nat} {d : Dev} : Moves [.sec] [] d (logEvent kind value d) :=
  .step Moves.sec .refl rfl

theorem moves_holdCluster {c : Nat} {d : Dev} : Moves [.freeCtr, .emitted, .regs, .cnt, .host, .sec]
    [.bnEvent, .cnEvent, .cnWrap, .scCfg] d (holdCluster c d) := by
  simp only [holdCluster]
  exact .step moves_modCluster (.step moves_dropRunning .refl rfl) rfl

theorem moves_restartCluster {c : Nat} {cause : Nat} {d : Dev} : Moves [.freeCtr, .emitted, .regs, .cnt, .host, .sec]
    [.bnEvent, .cnEvent, .cnWrap, .scCfg] d (restartCluster c cause d) :=
  .step moves_logEvent (.step moves_count (.step moves_holdCluster .refl rfl) rfl) rfl

theorem moves_coreFaults {k : Nat} {h : Nat} {d : Dev} : Moves [.emitted, .regs, .cnt, .host, .sec] [.bnEvent, .cnEvent,
    .cnWrap, .scCfg] d (coreFaults k h d) :=
  .step moves_finish (.step moves_modCore (.step moves_raise (.step moves_count .refl rfl) rfl) rfl) rfl

theorem moves_readerFaults {c : Nat} {d : Dev} : Moves [.freeCtr, .emitted, .regs, .cnt, .host, .sec] [.bnEvent, .cnEvent,
    .cnWrap, .scCfg] d (readerFaults c d) :=
  .ite .refl (.step moves_coreFaults (.step moves_nextFree .refl rfl) rfl)

theorem moves_poisonRestart {c : Nat} {d : Dev} : Moves [.freeCtr, .emitted, .regs, .cnt, .host, .sec] [.bnEvent, .cnEvent,
    .cnWrap, .scCfg] d (poisonRestart c d) :=
  .ite (.step moves_restartCluster .refl rfl) .refl

/-! ## Classification -/

theorem moves_slotClaim {path : Path} {k : Nat} {d : Dev} : Moves [.cls] [] d (slotClaim path k d).2 :=
  .ite_snd .refl (.step Moves.cls (.step moves_modSlot .refl rfl) rfl)

theorem moves_slotSeal {path : Path} {k : Nat} {d : Dev} : Moves [.cls] [] d (slotSeal path k d).2 := by
  simp only [slotSeal]
  refine .ite_snd ?_ ?_
  · exact .refl
  · split
    · exact .snd (.step moves_modSlot .refl rfl)
    · exact .snd (.step moves_modSlot .refl rfl)

theorem moves_slotAbandon {path : Path} {k : Nat} {d : Dev} : Moves [.cls] [] d (slotAbandon path k d).2 :=
  .ite_snd (.step moves_modSlot .refl rfl) .refl

theorem moves_slotEvict {k : Nat} {d : Dev} : Moves [.cls] [] d (slotEvict k d).2 :=
  .ite_snd (.step moves_modSlot .refl rfl) .refl

theorem moves_makeCurrent {k : Nat} {d : Dev} : Moves [.emitted, .regs, .host, .cls] [.clEvent] d (makeCurrent k d).2 :=
  .ite_snd .refl (.ite_snd (.step moves_raise (.step moves_modSlot (.step Moves.cls (.step moves_modSlot (.step moves_modSlot
    .refl rfl) rfl) rfl) rfl) rfl) (.step Moves.cls (.step moves_modSlot (.step moves_modSlot .refl rfl) rfl) rfl))

theorem moves_drainSlow {k : Nat} {d : Dev} : Moves [.emitted, .regs, .host, .cls] [.clEvent] d (drainSlow k d) :=
  .ite (.step moves_raise (.step moves_modSlot .refl rfl) rfl) .refl

theorem moves_treeWrite {path : Path} {pipe : Nat} {addr : Nat} {w : Word} {d : Dev} : Moves [.emitted, .regs, .cnt, .host,
    .cls] [.cnEvent, .cnWrap, .scCfg] d (treeWrite path pipe addr w d).2 :=
  .ite_snd (.step Moves.cls .refl rfl) (.step moves_count .refl rfl)

theorem moves_windowWrite {w : Word} {d : Dev} : Moves [.emitted, .regs, .cnt, .host, .cls] [.clWinAddr, .clWinStatus,
    .cnEvent, .cnWrap, .scCfg] d (windowWrite w d) :=
  .step moves_setFld (.ite (.step moves_treeWrite .refl rfl) (.step moves_setFld (.step moves_treeWrite .refl rfl) rfl)) rfl

theorem moves_windowStatusRead {d : Dev} : Moves [.emitted, .regs] [.clWinStatus] d (windowStatusRead d) :=
  .step moves_emit (.step moves_setFld .refl rfl) rfl

theorem moves_treeScrub {pipe : Nat} {addr : Nat} {e : EccResult} {d : Dev} : Moves [.emitted, .regs, .host, .cls]
    [.clErraddr, .clEvent] d (treeScrub pipe addr e d) :=
  .ite (.step moves_treeEcc (.step Moves.cls .refl rfl) rfl) .refl

theorem moves_holdTimeout {pipe : Nat} {d : Dev} : Moves [.freeCtr, .emitted, .regs, .cnt, .host, .tm, .cls, .fwd, .sb, .sec]
    [.clErraddr, .clEvent, .cnEvent, .cnWrap, .fwEvent, .scCfg, .tmEvent, .wdEvent] d (holdTimeout pipe d) :=
  .foldl (fun _ _ => .ite (.step moves_replayDone (.step moves_dropCopy (.step moves_count .refl rfl) rfl) rfl) (.step
    moves_fragOverflow
    (.step moves_count .refl rfl) rfl)) (.step moves_setHoldBuffer .refl rfl)

theorem moves_fragExpiry {pipe : Nat} {d : Dev} : Moves [.cls] [] d (fragExpiry pipe d) :=
  .step moves_setFrags .refl rfl

/-! ## Longcase -/

theorem moves_ltRebase {d : Dev} : Moves [.lc] [] d (ltRebase d) :=
  .step Moves.lc .refl rfl

theorem moves_modLc {f : Longcase → Longcase} {d : Dev} : Moves [.lc] [] d (modLc f d) :=
  .step Moves.lc .refl rfl

theorem moves_ltStep {v : Int} {d : Dev} : Moves [.emitted, .regs, .cnt, .host, .lc] [.cnEvent, .cnWrap, .ltEvent, .scCfg] d
    (ltStep v d) :=
  .step moves_count (.step moves_raise (.step moves_modLc (.step moves_ltRebase .refl rfl) rfl) rfl) rfl

theorem moves_servoAccept {e : Int} {d : Dev} : Moves [.emitted, .regs, .host, .lc] [.ltEvent] d (servoAccept e d) :=
  .step moves_raiseIf (.step moves_modLc (.step moves_ltRebase .refl rfl) rfl) rfl

theorem moves_servoTake {e : Int} {d : Dev} : Moves [.emitted, .regs, .cnt, .host, .lc] [.cnEvent, .cnWrap, .ltEvent, .scCfg]
    d (servoTake e d) :=
  .ite (.step moves_modLc (.step moves_ltStep .refl rfl) rfl) (.ite (.ite (.step moves_modLc (.step moves_ltStep .refl rfl)
    rfl) (.step
    moves_count (.step moves_modLc .refl rfl) rfl)) (.step moves_servoAccept .refl rfl))

theorem moves_enterHoldover {d : Dev} : Moves [.emitted, .regs, .host, .lc] [.ltEvent] d (enterHoldover d) :=
  .ite (.step moves_raise (.step moves_modLc .refl rfl) rfl) .refl

theorem moves_ltEval {d : Dev} : Moves [.emitted, .regs, .host, .lc] [.ltEvent] d (ltEval d) :=
  .ite (.step moves_enterHoldover .refl rfl) .refl

theorem moves_cancelSet {d : Dev} : Moves [.emitted, .regs, .cnt, .host, .lc] [.cnEvent, .cnWrap, .ltEvent, .scCfg] d
    (cancelSet d) :=
  .ite (.step moves_raise (.step moves_count (.step moves_modLc .refl rfl) rfl) rfl) .refl

theorem moves_offsetTimeout {d : Dev} : Moves [.emitted, .regs, .host, .lc] [.ltEvent] d (offsetTimeout d) :=
  .ite (.step moves_enterHoldover .refl rfl) .refl

theorem moves_showOffset {e : Int} {d : Dev} : Moves [.lc] [] d (showOffset e d) :=
  .step moves_modLc .refl rfl

theorem moves_todDiscard {d : Dev} : Moves [.emitted, .regs, .cnt, .host] [.cnEvent, .cnWrap, .ltEvent, .scCfg] d (todDiscard
    d) :=
  .step moves_raise (.step moves_count .refl rfl) rfl

theorem moves_todUse {f : Word} {tod : Nat} {d : Dev} : Moves [.emitted, .regs, .cnt, .host, .lc] [.cnEvent, .cnWrap,
    .ltEvent, .scCfg] d (todUse f tod d) := by
  simp only [todUse]
  split
  · exact .ite (.ite (.step moves_servoTake (.step moves_count (.step moves_showOffset .refl rfl) rfl) rfl) (.step moves_count
      (.step
      moves_showOffset .refl rfl) rfl)) (.step moves_todDiscard .refl rfl)
  · exact .step moves_todDiscard .refl rfl

theorem moves_heldTodDue {d : Dev} : Moves [.emitted, .regs, .cnt, .host, .lc] [.cnEvent, .cnWrap, .ltEvent, .scCfg] d
    (heldTodDue d) := by
  simp only [heldTodDue]
  split
  · exact .ite .refl (.step moves_todUse (.step moves_modLc .refl rfl) rfl)
  · exact .refl

theorem moves_softwareOffset {v : Word} {d : Dev} : Moves [.emitted, .regs, .cnt, .host, .lc] [.cnEvent, .cnWrap, .ltEvent,
    .scCfg] d (softwareOffset v d) :=
  .ite (.step moves_servoTake (.step moves_count (.step moves_showOffset .refl rfl) rfl) rfl) (.step moves_raise (.step
    moves_count .refl rfl) rfl)

theorem moves_ltCmd {v : Word} {d : Dev} : Moves [.emitted, .regs, .cnt, .host, .lc] [.cnEvent, .cnWrap, .ltEvent, .scCfg] d
    (ltCmd v d) :=
  .ite .refl (.ite (.step moves_raise (.step moves_count .refl rfl) rfl) (.step moves_modLc .refl rfl))

theorem moves_setLoad {d : Dev} : Moves [.emitted, .regs, .cnt, .host, .lc] [.cnEvent, .cnWrap, .ltEvent, .scCfg] d (setLoad
    d) := by
  simp only [setLoad]
  split
  · exact .ite (.step moves_cancelSet .refl rfl) (.ite .refl (.step moves_ltEval (.step moves_modLc (.step moves_ltStep .refl
      rfl) rfl) rfl))
  · exact .refl

theorem moves_ppsPulse {d : Dev} : Moves [.emitted, .lc] [] d (ppsPulse d) :=
  .ite (.step moves_emit (.step moves_modLc .refl rfl) rfl) .refl

theorem moves_ppsFall {d : Dev} : Moves [.emitted, .lc] [] d (ppsFall d) :=
  .ite (.step moves_emit (.step moves_modLc .refl rfl) rfl) .refl

theorem moves_ppsEnd {d : Dev} : Moves [.emitted, .lc] [] d (ppsEnd d) :=
  .ite (.step moves_ppsFall .refl rfl) .refl

theorem moves_pltod {d : Dev} : Moves [.emitted, .lc] [] d (pltod d) := by
  simp only [pltod]
  split
  · exact .ite .refl (.ite (.step moves_emit (.step moves_modLc .refl rfl) rfl) (.step moves_modLc .refl rfl))
  · exact .refl

theorem moves_longcaseNow {d : Dev} : Moves [.emitted, .lc] [] d (longcaseNow d) :=
  .step moves_emit (.step moves_modLc .refl rfl) rfl

/-! ## Lanes -/

theorem moves_quietEnd {k : Nat} {d : Dev} : Moves [.lanes] [] d (quietEnd k d) :=
  .foldl (fun _ _ => .step moves_modSerial .refl rfl) .refl

theorem moves_testAdd {f : Fld} {t n : Nat} {d : Dev} (ht : t < (regPlace f.reg).2.2) (hs : t < (regPlace .lntStatus).2.2) :
    Moves [.regs] [f.reg, .lntStatus] d (testAdd f t n d) :=
  have sub : within [.regs] [f.reg] [.regs] [f.reg, .lntStatus] = true := by simp [within]
  have sub' : within [.regs] [.lntStatus] [.regs] [f.reg, .lntStatus] = true := by simp [within]
  .ite (.step (moves_setFldAt ht) .refl sub) (.step (moves_setFldAt hs) (.step (moves_setFldAt ht) .refl sub) sub')

theorem moves_testCounts {t : Nat} {c : LaneCounts} {d : Dev} (ht : t < (regPlace .lntStatus).2.2) :
    Moves [.regs] [.lntBits, .lntErrors, .lntStatus, .lntSymerr] d (testCounts t c d) :=
  .step (moves_testAdd ht ht) (.step (moves_testAdd ht ht) (.step (moves_testAdd ht ht) .refl rfl) rfl) rfl

theorem moves_testErrors {t : Nat} {from_ : Nat} {total : Nat} {d : Dev} : Moves [.freeCtr] [] d (testErrors t from_ total
    d).2 :=
  .ite_snd .refl (.step moves_nextFree (.step moves_nextFree .refl rfl) rfl)

theorem moves_testSync {t : Nat} {d : Dev} (ht : t < (regPlace .lntStatus).2.2) : Moves [.freeCtr, .regs, .lanes]
    [.lntBits, .lntErrors, .lntStatus, .lntSymerr] d (testSync t d) := by
  simp only [testSync]
  exact .ite .refl (.step moves_modSerial (.step (moves_testCounts ht) (.step moves_testErrors .refl rfl) rfl) rfl)

theorem moves_injectOne {t : Nat} {d : Dev} (ht : t < (regPlace .lntStatus).2.2) : Moves [.emitted, .regs, .lanes]
    [.lntBits, .lntErrors, .lntStatus, .lntSymerr] d (injectOne t d) := by
  have inverted : Moves [.emitted, .regs, .lanes] [.lntBits, .lntErrors, .lntStatus, .lntSymerr] d
      (if genOut d t then emit (.inverted t) d else d) := .ite (.step moves_emit .refl rfl) .refl
  exact .ite (.step moves_modSerial (.step (moves_testCounts ht) inverted rfl) rfl) inverted

theorem moves_testInject {t : Nat} {v : Word} {d : Dev} (ht : t < (regPlace .lntStatus).2.2) :
    Moves [.freeCtr, .emitted, .regs, .lanes] [.lntBits, .lntErrors, .lntInject, .lntStatus, .lntSymerr] d (testInject t v d) :=
  have written : Moves [.freeCtr, .emitted, .regs, .lanes] [.lntBits, .lntErrors, .lntInject, .lntStatus, .lntSymerr] d
      (storeWrite .lntInject t v (testSync t d)) := .step (moves_storeWrite ht) (.step (moves_testSync ht) .refl rfl) rfl
  have told : Moves [.freeCtr, .emitted, .regs, .lanes] [.lntBits, .lntErrors, .lntInject, .lntStatus, .lntSymerr] d _ :=
    .ite (.step moves_emit written rfl) written
  .ite .refl (.ite (.step (moves_injectOne ht) told rfl) told)

/-! ## Ports -/

theorem moves_modPort {n : Nat} {f : Port → Port} {d : Dev} : Moves [.ports] [] d (modPort n f d) :=
  .step Moves.ports .refl rfl

theorem moves_sendFrame {n : Nat} {bs : List Byte} {d : Dev} : Moves [.emitted, .regs, .cnt, .host] [.cnEvent, .cnWrap,
    .scCfg] d (sendFrame n bs d) :=
  .step moves_emit (.step moves_countN (.step moves_count .refl rfl) rfl) rfl

theorem moves_sendPause {n : Nat} {off : Bool} {d : Dev} (hn : n < (regPlace .dpEvent).2.2) :
    Moves [.emitted, .regs, .cnt, .host, .ports] [.cnEvent, .cnWrap, .dpEvent, .scCfg] d (sendPause n off d) :=
  .ite (.ite (.step (moves_raiseAt hn) (.step moves_count (.step moves_sendFrame (.step moves_modPort .refl rfl) rfl) rfl) rfl)
    (.step moves_count (.step moves_sendFrame (.step moves_modPort .refl rfl) rfl) rfl)) (.step moves_modPort .refl rfl)

theorem moves_flowEval {n : Nat} {d : Dev} (hn : n < (regPlace .dpEvent).2.2) :
    Moves [.emitted, .regs, .cnt, .host, .ports] [.cnEvent, .cnWrap, .dpEvent, .scCfg] d (flowEval n d) :=
  .ite (.step moves_modPort .refl rfl) (.ite (.ite (.step (moves_sendPause hn) .refl rfl) .refl)
    (.ite (.step (moves_sendPause hn) .refl rfl) .refl))

theorem moves_xoffRepeat {n : Nat} {d : Dev} (hn : n < (regPlace .dpEvent).2.2) :
    Moves [.emitted, .regs, .cnt, .host, .ports] [.cnEvent, .cnWrap, .dpEvent, .scCfg] d (xoffRepeat n d) :=
  .ite (.step (moves_sendPause hn) .refl rfl) .refl

theorem moves_setPause {n : Nat} {p : Nat} {quanta : Nat} {d : Dev} : Moves [.ports] [] d (setPause n p quanta d) :=
  .step moves_modPort .refl rfl

theorem moves_pauseExpiry {n : Nat} {p : Nat} {d : Dev} : Moves [.ports] [] d (pauseExpiry n p d) := by
  simp only [pauseExpiry]
  split
  · exact .ite (.step moves_modPort .refl rfl) .refl
  · exact .refl

theorem moves_macControl {n : Nat} {bs : List Byte} {d : Dev} (hn : n < (regPlace .dpEvent).2.2) :
    Moves [.emitted, .regs, .cnt, .host, .ports] [.cnEvent, .cnWrap, .dpEvent, .scCfg] d (macControl n bs d) :=
  have told : Moves [.emitted, .regs, .cnt, .host, .ports] [.cnEvent, .cnWrap, .dpEvent, .scCfg] d
      (raise fDP_EVENT_PAUSE_RX n (count .pauseReceived n d)) := .step (moves_raiseAt hn) (.step moves_count .refl rfl) rfl
  .ite (.step moves_count .refl rfl) (.ite (.foldl (fun _ _ => .step moves_setPause .refl rfl) told)
    (.foldl (fun _ _ => .ite (.step moves_setPause .refl rfl) .refl) told))

theorem moves_divertMember {n : Nat} {bs : List Byte} {d : Dev} : Moves [.emitted, .regs, .cnt, .host, .sb] [.cnEvent,
    .cnWrap, .scCfg] d (divertMember n bs d) :=
  .ite (.step moves_count (.ite .refl (.step moves_count .refl rfl)) rfl) (.step moves_count (.step moves_post (.step Moves.sb
    .refl rfl) rfl) rfl)

theorem moves_divertRepair {n : Nat} {bs : List Byte} {d : Dev} : Moves [.emitted, .regs, .cnt, .host, .sb] [.cnEvent,
    .cnWrap, .sbEvent, .scCfg] d (divertRepair n bs d) :=
  .ite (.step moves_post (.step Moves.sb (.step moves_count .refl rfl) rfl) rfl) (.step moves_raise (.step moves_count (.step
    moves_count
    (.step moves_count .refl rfl) rfl) rfl) rfl)

theorem moves_divertPtp {n : Nat} {bs : List Byte} {d : Dev} : Moves [.freeCtr, .emitted, .regs, .cnt, .host, .sec] [.cnEvent,
    .cnWrap, .scCfg] d (divertPtp n bs d) :=
  .ite (.step moves_emit (.step moves_count .refl rfl) rfl) (.step moves_hostDeliver (.step moves_count .refl rfl) rfl)

theorem moves_acceptFrame {n : Nat} {frame : List Byte} {d : Dev} (hn : n < (regPlace .dpEvent).2.2) :
    Moves [.freeCtr, .emitted, .regs, .cnt, .host, .ports, .sb, .sec] [.cnEvent, .cnWrap, .dpEvent, .sbEvent, .scCfg] d
    (acceptFrame n frame d) :=
  .ite (.step (moves_macControl hn) .refl rfl) (.ite (.step moves_divertMember .refl rfl) (.ite (.step moves_divertRepair
    .refl rfl)
    (.ite (.step moves_divertPtp .refl rfl) (.step (moves_flowEval hn) (.step moves_modPort .refl rfl) rfl))))

theorem moves_countFec {f : MacFrame} {d : Dev} : Moves [.emitted, .regs, .cnt, .host] [.cnEvent, .cnWrap, .scCfg] d (countFec
    f d) :=
  .ite (.step moves_countN (.step moves_countN (.step moves_countN .refl rfl) rfl) rfl) .refl

theorem moves_takeFrame {f : MacFrame} {d : Dev} : Moves [.freeCtr, .emitted, .regs, .cnt, .host, .ports, .sb, .sec]
    [.cnEvent, .cnWrap, .dpEvent, .sbEvent, .scCfg] d (takeFrame f d) :=
  have hn : f.port.val < (regPlace .dpEvent).2.2 := f.port.isLt
  .ite (.step (moves_raiseAt hn) (.step moves_count .refl rfl) rfl) (.ite (.step moves_count .refl rfl) (.ite (.step
    moves_count .refl rfl)
    (.ite (.ite (.step moves_hostDeliver (.step moves_count .refl rfl) rfl) (.step moves_count .refl rfl)) (.ite (.step
      moves_count .refl rfl)
      (.step (moves_acceptFrame hn) (.step moves_countN (.step moves_count .refl rfl) rfl) rfl)))))

theorem moves_macFrame {f : MacFrame} {d : Dev} : Moves [.freeCtr, .emitted, .regs, .cnt, .host, .ports, .sb, .sec] [.cnEvent,
    .cnWrap, .dpEvent, .sbEvent, .scCfg] d (macFrame f d) :=
  .ite .refl (.step moves_takeFrame (.step moves_countFec .refl rfl) rfl)

theorem moves_stampReport {n : Nat} {timing : Word} {v : Int} {d : Dev} : Moves [.emitted, .regs, .cnt, .host, .lc] [.cnEvent,
    .cnWrap, .ltEvent, .scCfg] d (stampReport n timing v d) :=
  .ite .refl (.ite (.step moves_count (.step moves_post (.step Moves.lc .refl rfl) rfl) rfl) (.step moves_raise (.step
    moves_count (.step
    moves_post (.step Moves.lc .refl rfl) rfl) rfl) rfl))

theorem moves_purgeQueue {q : Nat} {d : Dev} : Moves [.emitted, .regs, .cnt, .host, .tm, .cls] [.clEvent, .cnEvent, .cnWrap,
    .scCfg] d (purgeQueue q d) :=
  .ite .refl (.step moves_countN (.step moves_dropCopies (.step moves_emptied (.step moves_modQueue .refl rfl) rfl) rfl) rfl)

theorem moves_purgeNode {n : Nat} {d : Dev} : Moves [.emitted, .regs, .cnt, .host, .tm, .cls] [.clEvent, .cnEvent, .cnWrap,
    .scCfg] d (purgeNode n d) :=
  .foldl (fun _ _ => .step moves_purgeQueue .refl rfl) .refl

theorem moves_departCopy {n : Nat} {q : Nat} {p : QPkt} {d : Dev} : Moves [.emitted, .regs, .cnt, .host, .lc, .tm, .cls]
    [.clErraddr, .clEvent, .cnEvent, .cnWrap, .ltEvent, .scCfg, .tmEvent] d (departCopy n q p d) := by
  have gone : ∀ {e : Dev}, Moves [.emitted, .regs, .cnt, .host, .lc, .tm, .cls]
      [.clErraddr, .clEvent, .cnEvent, .cnWrap, .ltEvent, .scCfg, .tmEvent] d e → Moves [.emitted, .regs, .cnt, .host, .lc, .tm, .cls]
      [.clErraddr, .clEvent, .cnEvent, .cnWrap, .ltEvent, .scCfg, .tmEvent] d (drainDown p.slot (emptied q e)) := fun h =>
    .step moves_drainDown (.step moves_emptied h rfl) rfl
  have counted : ∀ {e : Dev} {c : CName} {k : Nat}, Moves [.emitted, .regs, .cnt, .host, .lc, .tm, .cls]
      [.clErraddr, .clEvent, .cnEvent, .cnWrap, .ltEvent, .scCfg, .tmEvent] d e → Moves [.emitted, .regs, .cnt, .host, .lc, .tm, .cls]
      [.clErraddr, .clEvent, .cnEvent, .cnWrap, .ltEvent, .scCfg, .tmEvent] d (count c k e) := fun h => .step moves_count h rfl
  have marked : ∀ {e : Dev} {r : Nat}, Moves [.emitted, .regs, .cnt, .host, .lc, .tm, .cls]
      [.clErraddr, .clEvent, .cnEvent, .cnWrap, .ltEvent, .scCfg, .tmEvent] d e → Moves [.emitted, .regs, .cnt, .host, .lc, .tm, .cls]
      [.clErraddr, .clEvent, .cnEvent, .cnWrap, .ltEvent, .scCfg, .tmEvent] d (hit (n / 24) p.slot r e) := fun h => .step moves_hit h rfl
  simp only [departCopy]
  refine .ite (gone (.step moves_raise (counted .refl) rfl)) (.ite (gone (counted .refl)) ?_)
  split
  · exact gone (counted .refl)
  · exact gone (.step moves_treeEcc (counted .refl) rfl)
  · exact gone (counted (.when marked .refl))
  · exact gone (counted (.when marked .refl))
  · split
    · exact gone (.step moves_stampReport (.step moves_sendFrame (counted (.when counted (.when marked
        (.step moves_charge .refl rfl)))) rfl) rfl)
    · exact gone (.step moves_stampReport (.step moves_sendFrame (.when counted (.when counted (.when marked
        (.step moves_charge .refl rfl)))) rfl) rfl)

theorem moves_frameTransmit {n : Nat} {bad : Bool} {d : Dev} : Moves [.emitted, .regs, .cnt, .host, .lc, .tm, .cls]
    [.clErraddr, .clEvent, .cnEvent, .cnWrap, .ltEvent, .scCfg, .tmEvent] d (frameTransmit n bad d) := by
  simp only [frameTransmit]
  refine .ite ?_ ?_
  · exact .refl
  · split
    next e taken =>
      exact .of_eq Prod.snd taken (.step moves_nextQueue (.step moves_purgeNode .refl rfl) rfl)
    next q e1 taken1 =>
      split
      · exact .of_eq Prod.snd taken1 (.step moves_nextQueue (.step moves_purgeNode .refl rfl) rfl)
      · exact .step moves_departCopy (.step moves_popQueue (.of_eq Prod.snd taken1 (.step moves_nextQueue (.step
          moves_purgeNode .refl rfl) rfl)) rfl) rfl

theorem moves_secondPassOrEvict {pipe : Nat} {d : Dev} : Moves [.freeCtr, .emitted, .regs, .cnt, .host, .tm, .cls, .fwd, .sb,
    .sec] [.clErraddr, .clEvent, .cnEvent, .cnWrap, .fwEvent, .scCfg, .tmEvent, .wdEvent] d (secondPassOrEvict pipe d) := by
  simp only [secondPassOrEvict]
  split
  · exact .ite (.step moves_replayDone (.step moves_dropCopy (.step moves_count (.step Moves.cls .refl rfl) rfl) rfl) rfl)
      (.step
      moves_secondPass .refl rfl)
  · exact .refl

theorem moves_setServed {q : Nat} {i : Nat} {d : Dev} : Moves [.cls] [] d (setServed q i d) :=
  .step Moves.cls .refl rfl

theorem moves_recircPass {x : SecondPoint} {d : Dev} : Moves [.freeCtr, .emitted, .regs, .cnt, .host, .tm, .cls, .fwd, .sb,
    .sec] [.clErraddr, .clEvent, .cnEvent, .cnWrap, .fwEvent, .scCfg, .tmEvent, .wdEvent] d (recircPass x d) :=
  .ite (.step moves_secondPassOrEvict (.step moves_meetErrors (.step moves_setServed .refl rfl) rfl) rfl) .refl

theorem moves_packetEntry {src : EntrySource} {d : Dev} : Moves [.freeCtr, .emitted, .regs, .cnt, .host, .ports, .bond, .tm,
    .cls, .fwd, .sb, .sec] [.clErraddr, .clEvent, .cnEvent, .cnWrap, .dpEvent, .fwEvent, .scCfg, .tmEvent, .wdEvent] d
    (packetEntry src d) := by
  cases src with
  | drop n =>
    simp only [packetEntry]
    split
    · exact .refl
    · exact .step moves_enter (.step (moves_flowEval n.isLt) (.step moves_modPort .refl rfl) rfl) rfl
  | line q =>
    simp only [packetEntry]
    split
    · exact .refl
    · exact .step moves_enter (.step Moves.bond .refl rfl) rfl
  | host q =>
    simp only [packetEntry]
    split
    · exact .refl
    · exact .step moves_enter (.step (Moves.host rfl) .refl rfl) rfl
  | replay q =>
    simp only [packetEntry]
    split
    · exact .refl
    · exact .step moves_enter (.step Moves.sb .refl rfl) rfl

theorem moves_entryPoint {x : EntryPoint} {d : Dev} : Moves [.freeCtr, .emitted, .regs, .cnt, .host, .ports, .bond, .tm, .cls,
    .fwd, .sb, .sec] [.clErraddr, .clEvent, .cnEvent, .cnWrap, .dpEvent, .fwEvent, .scCfg, .tmEvent, .wdEvent] d (entryPoint x
    d) :=
  .ite (.step moves_packetEntry (.step moves_meetErrors (.step moves_setServed .refl rfl) rfl) rfl) .refl

/-! ## Queues -/

theorem moves_accResult {ok : Bool} {d : Dev} : Moves [.emitted, .regs, .host] [.tmAccStatus, .tmEvent] d (accResult ok d) :=
  .step moves_raiseIf (.step moves_setFld .refl rfl) rfl

theorem moves_setNodeShape {n : Nat} {strict : Nat} {queues : Nat} {d : Dev} : Moves [.tm] [] d (setNodeShape n strict queues
    d) :=
  .ite .refl (.foldl (fun _ _ => .step moves_modQueue .refl rfl) (.step moves_modNode .refl rfl))

theorem moves_writeQueue {q : Nat} {w0 : Nat} {w1 : Nat} {d : Dev} : Moves [.tm] [] d (writeQueue q w0 w1 d).2 :=
  .ite_snd (.step moves_modQueue .refl rfl) .refl

theorem moves_writeNode {n : Nat} {w0 : Nat} {w1 : Nat} {w2 : Nat} {d : Dev} : Moves [.tm] [] d (writeNode n w0 w1 w2 d).2 :=
  .ite_snd (.step moves_modNode (.step moves_setNodeShape .refl rfl) rfl) .refl

theorem moves_writePolicer {i : Nat} {w0 : Nat} {w1 : Nat} {w2 : Nat} {d : Dev} : Moves [.tm] [] d (writePolicer i w0 w1 w2
    d).2 :=
  .ite_snd (.step moves_modPolicer .refl rfl) .refl

theorem moves_writeGroup {i : Nat} {ports : Nat} {line : Bool} {host : Bool} {d : Dev} : Moves [.tm] [] d (writeGroup i ports
    line host d).2 :=
  .ite_snd (.step Moves.tm .refl rfl) .refl

theorem moves_accWrite {d : Dev} : Moves [.emitted, .regs, .host, .tm] [.tmAccStatus, .tmEvent] d (accWrite d) := by
  simp only [accWrite]
  refine .step moves_accResult ?_ rfl
  split
  · split
    · exact .step moves_writeQueue .refl rfl
    · exact .snd .refl
  · split
    · split
      · exact .step moves_writeNode .refl rfl
      · exact .snd .refl
    · split
      · exact .step moves_writePolicer .refl rfl
      · split
        · exact .step moves_writeGroup .refl rfl
        · exact .snd .refl

theorem moves_accRead {d : Dev} : Moves [.emitted, .regs, .host] [.tmAccData, .tmAccStatus, .tmEvent] d (accRead d) := by
  simp only [accRead]
  split
  · exact .step moves_accResult .refl rfl
  · exact .step moves_accResult (.foldl_mem (fun i hi _ => .step (moves_setRegAt (List.mem_range.mp hi)) .refl rfl) .refl) rfl

theorem moves_refillPolicers {d : Dev} : Moves [.tm] [] d (refillPolicers d) :=
  .step Moves.tm .refl rfl

theorem moves_writebackOldest {n : Nat} {d : Dev} : Moves [.emitted, .regs, .cnt, .host, .tm, .mc] [.cnEvent, .cnWrap, .scCfg]
    d (writebackOldest n d) := by
  simp only [writebackOldest]
  refine .step Moves.tm ?_ rfl
  refine .foldl (fun _ _ => ?_) ?_
  · split
    · exact .step moves_clearPoison (.step moves_mapReads .refl rfl) rfl
    · exact .refl
  · exact .refl

theorem moves_sampleQueue {dir : Nat} {q : Nat} {d : Dev} : Moves [.emitted, .regs, .cnt, .host, .tm] [.cnEvent, .cnWrap,
    .scCfg, .tmEvent] d (sampleQueue dir q d) :=
  .ite (.step moves_count (.step moves_post (.step Moves.tm .refl rfl) rfl) rfl) (.step moves_raise (.step moves_count (.step
    moves_post
    (.step Moves.tm .refl rfl) rfl) rfl) rfl)

/-! ## Bursts -/

theorem moves_dropPage {page : Nat} {d : Dev} : Moves [.emitted, .regs, .cnt, .host, .tm, .cls]
    [.clEvent, .cnEvent, .cnWrap, .scCfg, .wdEvent] d (dropPage page d) :=
  .step moves_raiseIf (.foldl (fun _ _ => .step moves_modQueue (.step (moves_takeOut fun _ _ => moves_count) .refl rfl) rfl)
    .refl) rfl

theorem moves_setGrant {old : Grant} {new : Grant} {d : Dev} : Moves [.up] [] d (setGrant old new d) :=
  .step Moves.up .refl rfl

theorem moves_dropUnread {d : Dev} : Moves [.emitted, .regs, .cnt, .host, .up, .cls] [.clEvent, .cnEvent, .cnWrap, .scCfg,
    .wdEvent] d (dropUnread d) := by
  simp only [dropUnread]
  refine .foldl (fun _ _ => ?_) ?_
  · split
    · exact .refl
    · exact .ite .refl (.step moves_raise (.step moves_countN (.step moves_endEnvs (.step moves_setGrant .refl rfl) rfl) rfl)
        rfl)
  · exact .refl

/-! ## Tributaries -/

theorem moves_modTrib {k : Nat} {f : Trib → Trib} {d : Dev} : Moves [.trib] [] d (modTrib k f d) :=
  .step Moves.trib .refl rfl

theorem moves_tribSlip {c : CName} {k : Nat} {d : Dev} (hk : k < (regPlace .tbEvent).2.2) :
    Moves [.emitted, .regs, .cnt, .host] [.cnEvent, .cnWrap, .scCfg, .tbEvent, .trEvent] d (tribSlip c k d) :=
  .step moves_raise (.step (moves_raiseAt hk) (.step moves_count .refl rfl) rfl) rfl

theorem moves_freeBits {n : Nat} {d : Dev} : Moves [.freeCtr] [] d (freeBits n d).2 := by
  induction n generalizing d with
  | zero => exact .refl
  | succ n ih => exact .step ih moves_nextFree rfl

theorem moves_tsiResult {r : Nat} {d : Dev} : Moves [.regs] [.tsiStatus] d (tsiResult r d) :=
  .step moves_setFld .refl rfl

theorem moves_connWrite {up : Bool} {e : Nat} {w : Word} {d : Dev} : Moves [.trib] [] d (connWrite up e w d).2 :=
  .ite_snd .refl (.ite_snd .refl (.step Moves.trib .refl rfl))

theorem moves_tsiWriteCmd {d : Dev} : Moves [.regs, .trib] [.tsiStatus] d (tsiWriteCmd d) :=
  .ite .refl (.ite (.step moves_tsiResult .refl rfl) (.step moves_tsiResult (.step moves_connWrite .refl rfl) rfl))

theorem moves_tsiReadCmd {d : Dev} : Moves [.regs] [.tsiData, .tsiStatus] d (tsiReadCmd d) :=
  .ite .refl (.step moves_tsiResult (.step moves_setReg .refl rfl) rfl)

theorem moves_swapRequest {d : Dev} : Moves [.emitted, .regs, .cnt, .host, .trib] [.cnEvent, .cnWrap, .scCfg, .tsiStatus] d
    (swapRequest d).2 :=
  .ite_snd (.step moves_count .refl rfl) (.ite_snd (.step moves_count .refl rfl) (.step moves_setFld (.step Moves.trib .refl
    rfl) rfl))

theorem moves_swapAbort {d : Dev} : Moves [.regs] [.tsiStatus] d (swapAbort d).2 :=
  .ite_snd (.step moves_setFld .refl rfl) .refl

theorem moves_tsiSwapCmd {d : Dev} : Moves [.emitted, .regs, .cnt, .host, .trib] [.cnEvent, .cnWrap, .scCfg, .tsiStatus] d
    (tsiSwapCmd d) :=
  .ite .refl (.step moves_tsiResult (.step moves_swapRequest .refl rfl) rfl)

theorem moves_tsiAbortCmd {d : Dev} : Moves [.regs] [.tsiStatus] d (tsiAbortCmd d) :=
  .ite .refl (.step moves_tsiResult (.step moves_swapAbort .refl rfl) rfl)

theorem moves_swapCommit {d : Dev} : Moves [.emitted, .regs, .cnt, .host, .trib] [.cnEvent, .cnWrap, .scCfg, .trEvent,
    .tsiStatus] d (swapCommit d) :=
  .ite .refl (.step moves_raise (.step moves_count (.step moves_setFld (.step moves_setFld (.step Moves.trib .refl rfl) rfl)
    rfl) rfl) rfl)

theorem moves_copyDone {d : Dev} : Moves [.regs, .trib] [.tsiStatus] d (copyDone d) :=
  .ite .refl (.step moves_setFld (.step Moves.trib .refl rfl) rfl)

theorem moves_changeEnd {d : Dev} : Moves [.trib] [] d (changeEnd d) :=
  .ite (.step Moves.trib .refl rfl) .refl

theorem moves_inputLos {k : Nat} {d : Dev} (hk : k < (regPlace .tbEvent).2.2) : Moves [.emitted, .regs, .host]
    [.tbEvent, .tbStatus] d (inputLos k d) :=
  .ite .refl (.step (moves_raiseAt hk) (.step (moves_setFldAt hk) .refl rfl) rfl)

theorem moves_inputBack {k : Nat} {d : Dev} (hk : k < (regPlace .tbStatus).2.2) : Moves [.freeCtr, .regs, .trib] [.tbStatus] d
    (inputBack k d) := by
  simp only [inputBack]
  exact .ite .refl (.step (moves_setFldAt hk) (.step moves_modTrib (.step moves_freeBits .refl rfl) rfl) rfl)

theorem moves_controlledSlip {k : Nat} {x : Slip} {d : Dev} (hk : k < (regPlace .tbEvent).2.2) :
    Moves [.emitted, .regs, .cnt, .host, .trib] [.cnEvent, .cnWrap, .scCfg, .tbEvent, .trEvent] d (controlledSlip k x d) := by
  simp only [controlledSlip]
  refine .ite .refl ?_
  split
  · exact .ite (.step (moves_tribSlip hk) (.step moves_modTrib .refl rfl) rfl) .refl
  · exact .ite (.step (moves_tribSlip hk) (.step moves_modTrib .refl rfl) rfl) .refl

/-! ## MemComplex -/

theorem moves_setRank {k : Nat} {v : RankState} {d : Dev} : Moves [.mc] [] d (setRank k v d) :=
  .step Moves.mc .refl rfl

theorem moves_segmentLost {m : Nat} {d : Dev} : Moves [.emitted, .regs, .cnt, .host, .sb] [.cnEvent, .cnWrap, .sbEvent,
    .scCfg] d (segmentLost m d) :=
  .step moves_raise (.step moves_count (.step moves_modProg (.foldl (fun _ _ => .step moves_spliceNow .refl rfl) .refl) rfl)
    rfl) rfl

theorem moves_dropPages {q pages : Nat} {d : Dev} : Moves [.emitted, .regs, .cnt, .host, .tm, .cls]
    [.clEvent, .cnEvent, .cnWrap, .scCfg] d (dropPages q pages d) :=
  .step moves_modQueue (.step (moves_takeOut fun _ _ => moves_count) .refl rfl) rfl

theorem moves_setSizes {new : List Nat} {d : Dev} : Moves [.emitted, .regs, .cnt, .host, .tm, .cls, .sb, .mc] [.clEvent,
    .cnEvent, .cnWrap, .sbEvent, .scCfg] d (setSizes new d) :=
  .ite (.foldl (fun _ _ => .step moves_dropPages .refl rfl) (.foldl (fun _ _ => .step moves_segmentLost .refl rfl) (.step
    Moves.mc
    .refl rfl))) (.foldl (fun _ _ => .step moves_segmentLost .refl rfl) (.step Moves.mc .refl rfl))

theorem moves_rankItem {kind : Nat} {k : Nat} {d : Dev} : Moves [.emitted, .regs, .cnt, .host] [.cnEvent, .cnWrap, .scCfg] d
    (rankItem kind k d) :=
  .step moves_memItem .refl rfl

theorem moves_takeSpare {d : Dev} : Moves [.regs, .mc] [.pwDom, .pwDom3] d (takeSpare d).2 := by
  simp only [takeSpare]
  split
  · exact .snd .refl
  · exact .snd (.ite (.step moves_setPd (.step moves_setRank (.step Moves.mc .refl rfl) rfl) rfl) (.step moves_setRank (.step
      Moves.mc
      .refl rfl) rfl))

theorem moves_awaitMigration {k : Nat} {d : Dev} : Moves [.regs, .mc] [.pwDom, .pwDom3] d (awaitMigration k d) :=
  .step moves_setRank (.step Moves.mc (.step moves_takeSpare .refl rfl) rfl) rfl

theorem moves_restartMigration {m : Migration} {d : Dev} : Moves [.regs, .mc] [.pwDom, .pwDom3] d (restartMigration m d) := by
  simp only [restartMigration]
  split
  · exact .step Moves.mc (.step moves_takeSpare .refl rfl) rfl
  · exact .step moves_setRank (.step Moves.mc (.step moves_takeSpare .refl rfl) rfl) rfl

theorem moves_failRank_again {j : Nat} {d : Dev} : Moves [.regs, .mc] [.pwDom, .pwDom3] d (failRank.again j d) := by
  simp only [failRank.again]
  refine .ite ?_ ?_
  · exact .step Moves.mc (.step moves_takeSpare .refl rfl) rfl
  · split
    · exact .ite (.step moves_awaitMigration .refl rfl) .refl
    · exact .refl

theorem moves_failRank {p : Nat} {d : Dev} : Moves [.emitted, .regs, .cnt, .host, .mc] [.cnEvent, .cnWrap, .mcEvent, .pwDom,
    .pwDom3, .scCfg] d (failRank p d) := by
  simp only [failRank]
  refine .ite ?_ ?_
  · exact .ite (.step moves_awaitMigration (.step moves_raise (.step moves_rankItem .refl rfl) rfl) rfl) .refl
  · split
    · exact .step moves_raise (.step moves_rankItem (.step moves_setRank .refl rfl) rfl) rfl
    · split
      · exact .ite (.step moves_restartMigration (.step moves_raise (.step moves_rankItem (.step moves_setRank .refl rfl) rfl)
          rfl) rfl)
          (.step moves_failRank_again (.step moves_raise (.step moves_rankItem (.step moves_setRank .refl rfl) rfl) rfl) rfl)
      · exact .step moves_failRank_again (.step moves_raise (.step moves_rankItem (.step moves_setRank .refl rfl) rfl) rfl) rfl
    · exact .refl

theorem moves_wardrobePoison {off : Nat} {d : Dev} : Moves [.emitted, .regs, .cnt, .host, .up, .tm, .cls] [.clEvent, .cnEvent,
    .cnWrap, .scCfg, .wdEvent] d (wardrobePoison off d) :=
  .ite (.step moves_dropUnread .refl rfl) (.step moves_dropPage .refl rfl)

theorem moves_sideboardPoison {off : Nat} {d : Dev} : Moves [.sb] [] d (sideboardPoison off d) :=
  .foldl (fun _ _ => .ite (.step moves_modProg .refl rfl) .refl) .refl

theorem moves_poisonRead {port : MemPort} {l : Nat} {d : Dev} : Moves [.freeCtr, .emitted, .regs, .cnt, .host, .up, .tm, .cls,
    .sb, .sec] [.bnEvent, .clEvent, .cnEvent, .cnWrap, .mcEvent, .scCfg, .wdEvent] d (poisonRead port l d) := by
  simp only [poisonRead]
  split
  · split
    · exact .step moves_wardrobePoison (.step moves_raise (.step moves_count .refl rfl) rfl) rfl
    · exact .step moves_raise (.step moves_count .refl rfl) rfl
  · split
    · exact .step moves_sideboardPoison (.step moves_raise (.step moves_count .refl rfl) rfl) rfl
    · exact .step moves_raise (.step moves_count .refl rfl) rfl
  · split
    · exact .step moves_poisonRestart (.step moves_readerFaults (.step moves_poisonItem (.step moves_raise (.step moves_count
        .refl rfl) rfl) rfl) rfl) rfl
    · exact .step moves_poisonItem (.step moves_raise (.step moves_count .refl rfl) rfl) rfl
  · exact .step moves_raise (.step moves_count .refl rfl) rfl
  · exact .step moves_raise (.step moves_count .refl rfl) rfl

theorem moves_ceAdd {p : Nat} {d : Dev} : Moves [.mc] [] d (ceAdd p d).2 :=
  .snd (.step Moves.mc .refl rfl)

theorem moves_memoryError {e : MemError} {d : Dev} : Moves [.freeCtr, .emitted, .regs, .cnt, .host, .up, .tm, .cls, .sb, .mc,
    .sec] [.bnEvent, .clEvent, .cnEvent, .cnWrap, .mcEvent, .pwDom, .pwDom3, .scCfg, .wdEvent] d (memoryError e d) := by
  simp only [memoryError]
  refine .ite ?_ ?_
  · exact .refl
  · split
    · exact .ite (.step moves_failRank (.step moves_ceAdd (.step moves_memItem (.step moves_raise (.step moves_count
        .refl rfl) rfl) rfl) rfl) rfl) (.step moves_ceAdd (.step moves_memItem (.step moves_raise (.step moves_count .refl
          rfl) rfl) rfl) rfl)
    · exact .step moves_failRank (.step moves_poisonRead (.step moves_addPoison (.step moves_memItem (.step moves_raise (.step
        moves_count .refl rfl) rfl) rfl) rfl) rfl) rfl
    · exact .ite (.step moves_failRank (.step Moves.mc (.step moves_memItem (.step moves_count .refl rfl) rfl) rfl) rfl)
        (.step Moves.mc
        (.step moves_memItem (.step moves_count .refl rfl) rfl) rfl)

theorem moves_migrationStart {d : Dev} : Moves [.emitted, .regs, .cnt, .host, .mc] [.cnEvent, .cnWrap, .scCfg] d
    (migrationStart d) := by
  simp only [migrationStart]
  split
  · exact .ite .refl (.step moves_rankItem (.step moves_count (.step moves_setRank (.step Moves.mc .refl rfl) rfl) rfl) rfl)
  · exact .refl

theorem moves_shrinkTold {k : Nat} {d : Dev} : Moves [.emitted, .regs, .cnt, .host] [.cnEvent, .cnWrap, .mcEvent, .scCfg] d
    (shrinkTold k d) :=
  .step moves_raise (.step moves_signal (.step moves_memItem .refl rfl) rfl) rfl

theorem moves_rankWithdrawal {d : Dev} : Moves [.emitted, .regs, .cnt, .host, .tm, .cls, .sb, .mc] [.clEvent, .cnEvent,
    .cnWrap, .mcEvent, .sbEvent, .scCfg] d (rankWithdrawal d) := by
  simp only [rankWithdrawal]
  split
  · exact .ite (.step moves_raise (.step moves_setRank (.step Moves.mc .refl rfl) rfl) rfl) (.step moves_rankItem (.step
      moves_count
      (.step moves_setRank (.step Moves.mc (.step moves_shrinkTold (.step moves_setSizes (.step Moves.mc (.step Moves.mc
      .refl rfl) rfl) rfl) rfl) rfl) rfl) rfl) rfl)
  · exact .refl

/-! ## CommitRules -/

theorem moves_commandCurrent {k : Nat} {d : Dev} : Moves [.emitted, .regs, .host, .cls, .dic] [.clEvent] d (commandCurrent k
    d).2 :=
  .snd (.ite (.step Moves.dic (.step moves_makeCurrent .refl rfl) rfl) (.step moves_makeCurrent .refl rfl))

/-! ## Dictionary -/

theorem moves_discardRequest {p : Path} {stale : Bool} {d : Dev} : Moves [.emitted, .regs, .cnt, .host] [.cnEvent, .cnWrap,
    .mbEvent, .mbStatus, .scCfg] d (discardRequest p stale d) := by
  simp only [discardRequest]
  split
  · exact .step moves_raise (.step moves_setFld (.ite (.step moves_count .refl rfl) .refl) rfl) rfl
  · exact .step moves_count .refl rfl

theorem moves_carried {hd : DictHead} {bs : List Byte} {d : Dev} : Moves [.emitted, .regs, .cnt, .host, .img] [.cnEvent,
    .cnWrap, .scCfg] d (carried hd bs d).2 := by
  simp only [carried]
  split
  · exact .snd (.step moves_count .refl rfl)
  · exact .ite_snd (.step moves_count (.step moves_count .refl rfl) rfl) (.step moves_count .refl rfl)
  · exact .snd (.ite (.step moves_count (.step moves_wfAccept .refl rfl) rfl) (.ite (.step moves_count (.step moves_wfAccept
      .refl rfl) rfl)
      (.step moves_wfAccept .refl rfl)))

/-- The pieces that a dictionary request may move. -/
def requestPieces : List Piece := [.emitted, .regs, .cnt, .host, .tm, .cls, .dic, .img]

/-- The registers that a dictionary request may move. -/
def requestRegs : List Reg := [.clEvent, .cnEvent, .cnWrap, .mbEvent, .mbStatus, .scCfg, .wdEvent]

theorem moves_newRequest {p : Path} {op : Nat} {id : BitVec 32} {f : Dev → Dev} {d : Dev}
    (h : ∀ d, Moves requestPieces requestRegs d (f d)) : Moves requestPieces requestRegs d (newRequest p op id f d) := by
  simp only [newRequest]
  refine .ite ?_ (.ite (.step moves_discardRequest .refl rfl) (.ite ?_ (.step (h _) (.step moves_modPath .refl rfl) rfl)))
  · split
    · exact .step moves_sendOn (.step moves_count .refl rfl) rfl
    · exact .step moves_discardRequest .refl rfl
  · exact .step moves_answerOn (.step moves_modPath (.step moves_modPath .refl rfl) rfl) rfl

theorem moves_requestOn {hd : DictHead} {op : Nat} {id : BitVec 32} {bs : List Byte} {f : Dev → Dev} {d : Dev}
    (h : ∀ d, Moves requestPieces requestRegs d (f d)) : Moves requestPieces requestRegs d (requestOn hd op id bs f d) := by
  simp only [requestOn]
  exact .ite .refl (.ite (.step moves_setFld .refl rfl) (.ite (.step moves_carried .refl rfl)
    (.ite (.step moves_sendOn (.step moves_modPath (.step moves_carried .refl rfl) rfl) rfl)
      (.step (moves_newRequest h) (.step moves_modPath (.step moves_carried .refl rfl) rfl) rfl))))

theorem moves_request {hd : DictHead} {op : Nat} {bs : List Byte} {big : Bool} {f : Dev → Dev} {d : Dev}
    (h : ∀ d, Moves requestPieces requestRegs d (f d)) : Moves requestPieces requestRegs d (request hd op bs big f d) :=
  moves_requestOn fun d => .ite (.step moves_answerOn .refl rfl) (h d)

theorem moves_readOp {p : Path} {id : BitVec 32} {rs : List (BitVec 16 × BitVec 8)} {d : Dev} : Moves [.emitted, .regs, .cnt,
    .host, .tm, .cls, .dic, .img] [.clEvent, .cnEvent, .cnWrap, .mbEvent, .mbStatus, .scCfg, .wdEvent] d (readOp p id rs d) :=
  .step moves_replyOn (.step moves_modPath .refl rfl) rfl

theorem moves_writeOp {p : Path} {id : BitVec 32} {rs : List WriteRec} {d : Dev} : Moves [.emitted, .regs, .cnt, .host, .tm,
    .cls, .dic, .img] [.clEvent, .cnEvent, .cnWrap, .mbEvent, .mbStatus, .scCfg, .wdEvent] d (writeOp p id rs d) := by
  simp only [writeOp]
  split
  · exact .step moves_answerOn .refl rfl
  · exact .step moves_replyOn (.step moves_modPath .refl rfl) rfl
  · exact .step moves_modPath .refl rfl

theorem moves_commitOp {p : Path} {id : BitVec 32} {scheduled : Option TimeVal} {d : Dev} : Moves [.emitted, .regs, .cnt,
    .host, .tm, .cls, .dic, .img] [.clEvent, .cnEvent, .cnWrap, .mbEvent, .mbStatus, .scCfg, .wdEvent] d (commitOp p id
    scheduled d) := by
  simp only [commitOp]
  split
  · exact .step moves_answerOn .refl rfl
  · exact .step moves_answerOn .refl rfl
  · split
    · exact .step moves_replyOn (.step moves_modPath .refl rfl) rfl
    · exact .ite (.step moves_answerOn .refl rfl) (.step moves_replyOn (.step moves_modPath .refl rfl) rfl)

theorem moves_abortOp {p : Path} {id : BitVec 32} {d : Dev} : Moves [.emitted, .regs, .cnt, .host, .tm, .cls, .dic, .img]
    [.clEvent, .cnEvent, .cnWrap, .mbEvent, .mbStatus, .scCfg, .wdEvent] d (abortOp p id d) := by
  simp only [abortOp]
  split
  · exact .step moves_answerOn .refl rfl
  · exact .step moves_answerOn (.step moves_modPath (.step moves_count .refl rfl) rfl) rfl
  · exact .ite (.step moves_answerOn .refl rfl) (.step moves_cancelTxn (.step moves_answerOn (.step moves_count .refl rfl)
      rfl) rfl)

theorem moves_queryOp {p : Path} {id : BitVec 32} {d : Dev} : Moves [.emitted, .regs, .cnt, .host, .tm, .cls, .dic, .img]
    [.clEvent, .cnEvent, .cnWrap, .mbEvent, .mbStatus, .scCfg, .wdEvent] d (queryOp p id d) :=
  .step moves_replyOn .refl rfl

theorem moves_txnIdle {p : Path} {d : Dev} : Moves [.emitted, .regs, .cnt, .host, .dic] [.cnEvent, .cnWrap, .scCfg] d (txnIdle
    p d) :=
  .ite (.step moves_abandonTxn (.step moves_count .refl rfl) rfl) .refl

theorem moves_dictSave {ok : Bool} {d : Dev} : Moves [.emitted, .regs, .cnt, .host, .sec, .dic, .img] [.cnEvent, .cnWrap,
    .scCfg] d (dictSave ok d) :=
  .ite .refl (.ite (.step moves_logEvent (.step moves_count (.step Moves.dic .refl rfl) rfl) rfl) (.step moves_count (.step
    Moves.dic_img
    .refl rfl) rfl))

/-! ## Forwarding -/

theorem moves_dscDone {x : Descriptor} {status : Nat} {addr : Nat} {buf : List Nat} {d : Dev} : Moves [.emitted, .regs, .cnt,
    .host, .fwd] [.cnEvent, .cnWrap, .fwEvent, .fwRingHead, .scCfg] d (dscDone x status addr buf d) :=
  .ite (.step Moves.fwd (.step moves_count (.step moves_raiseIf (.step moves_emit .refl rfl) rfl) rfl) rfl) (.step
    moves_setFld (.step
    moves_count (.step moves_raiseIf (.step moves_emit .refl rfl) rfl) rfl) rfl)

/-- What a descriptor's command moves, with the errors of the words that it reads. -/
theorem moves_runDsc {op trie : Bool} {x : Descriptor} {f : Dev → Dev} {d : Dev} {ps : List Piece} {rs : List Reg}
    (h : ∀ d, Moves ps rs d (f d)) (sub : within [.fwd] [] ps rs = true) : Moves ps rs d (runDsc op trie x f d)
      := by
  simp only [runDsc]
  exact .ite ⟨Frame_step (Moves.step moves_meetErrors .refl sub).frame (h _).frame, fun y => (h _).fits (moves_meetErrors.fits
    y)⟩ .refl

theorem moves_dscFind {x : Descriptor} {d : Dev} : Moves [.emitted, .regs, .cnt, .host, .fwd] [.cnEvent, .cnWrap, .fwEvent,
    .scCfg] d (dscFind x d).2 :=
  .step moves_macLookup .refl rfl

theorem moves_macInsert {x : Descriptor} {d : Dev} : Moves [.emitted, .regs, .cnt, .host, .fwd] [.cnEvent, .cnWrap, .fwEvent,
    .fwRingHead, .scCfg] d (macInsert x d) := by
  simp only [macInsert]
  split
  next loc e taken =>
    exact .step moves_dscDone (.step moves_setMacEntry (.of_eq Prod.snd taken (.step moves_dscFind .refl rfl)) rfl) rfl
  next e1 taken1 =>
    split
    · exact .step moves_dscDone (.step moves_setMacEntry (.of_eq Prod.snd taken1 (.step moves_dscFind .refl rfl)) rfl) rfl
    · exact .step moves_dscDone (.of_eq Prod.snd taken1 (.step moves_dscFind .refl rfl)) rfl

theorem moves_macDelete {x : Descriptor} {d : Dev} : Moves [.emitted, .regs, .cnt, .host, .fwd] [.cnEvent, .cnWrap, .fwEvent,
    .fwRingHead, .scCfg] d (macDelete x d) := by
  simp only [macDelete]
  split
  next loc e taken =>
    exact .step moves_dscDone (.step moves_setMacEntry (.of_eq Prod.snd taken (.step moves_dscFind .refl rfl)) rfl) rfl
  next e1 taken1 =>
    exact .step moves_dscDone (.of_eq Prod.snd taken1 (.step moves_dscFind .refl rfl)) rfl

theorem moves_macFindOp {x : Descriptor} {d : Dev} : Moves [.emitted, .regs, .cnt, .host, .fwd] [.cnEvent, .cnWrap, .fwEvent,
    .fwRingHead, .scCfg] d (macFindOp x d) := by
  simp only [macFindOp]
  split
  next loc e taken =>
    exact .step moves_dscDone (.of_eq Prod.snd taken (.step moves_dscFind .refl rfl)) rfl
  next e1 taken1 =>
    exact .step moves_dscDone (.of_eq Prod.snd taken1 (.step moves_dscFind .refl rfl)) rfl

theorem moves_macLockOp {x : Descriptor} {d : Dev} : Moves [.emitted, .regs, .cnt, .host, .fwd] [.cnEvent, .cnWrap, .fwEvent,
    .fwRingHead, .scCfg] d (macLockOp x d) := by
  simp only [macLockOp]
  split
  next loc e taken =>
    exact .step moves_dscDone (.step moves_setMacEntry (.of_eq Prod.snd taken (.step moves_dscFind .refl rfl)) rfl) rfl
  next e1 taken1 =>
    exact .step moves_dscDone (.of_eq Prod.snd taken1 (.step moves_dscFind .refl rfl)) rfl

theorem moves_macWriteOp {x : Descriptor} {d : Dev} : Moves [.emitted, .regs, .cnt, .host, .fwd] [.cnEvent, .cnWrap, .fwEvent,
    .fwRingHead, .scCfg] d (macWriteOp x d) :=
  .ite (.step moves_dscDone (.step moves_setMacEntry .refl rfl) rfl) (.step moves_dscDone .refl rfl)

theorem moves_macReadOp {x : Descriptor} {d : Dev} : Moves [.emitted, .regs, .cnt, .host, .fwd] [.cnEvent, .cnWrap, .fwEvent,
    .fwRingHead, .scCfg] d (macReadOp x d) :=
  .ite (.step moves_dscDone (.foldl (fun _ _ => .step moves_macUe .refl rfl) (.step moves_softReads .refl rfl)) rfl) (.step
    moves_dscDone
    .refl rfl)

theorem moves_trieWriteOp {x : Descriptor} {d : Dev} : Moves [.emitted, .regs, .cnt, .host, .fwd] [.cnEvent, .cnWrap,
    .fwEvent, .fwRingHead, .scCfg] d (trieWriteOp x d) :=
  .ite (.step moves_dscDone (.foldl (fun _ _ => .step moves_setTrieWord .refl rfl) .refl) rfl) (.step moves_dscDone .refl rfl)

theorem moves_trieReadOp {x : Descriptor} {d : Dev} : Moves [.emitted, .regs, .cnt, .host, .fwd] [.cnEvent, .cnWrap, .fwEvent,
    .fwRingHead, .scCfg] d (trieReadOp x d) :=
  .ite (.step moves_dscDone (.foldl (fun _ _ => .step moves_trieUe .refl rfl) (.step moves_softReads .refl rfl)) rfl) (.step
    moves_dscDone
    .refl rfl)

theorem moves_mergeRelease {n : Nat} {d : Dev} : Moves [.emitted, .regs, .cnt, .host, .fwd] [.cnEvent, .cnWrap, .fwEvent,
    .scCfg]
    d (mergeRelease n d) := by
  induction n generalizing d with
  | zero => exact .refl
  | succ n ih =>
    simp only [mergeRelease]
    split
    · exact .refl
    · exact .ite (.step ih (.step moves_learnPost (.step Moves.fwd .refl rfl) rfl) rfl) .refl

theorem moves_filterExpiry {pipe : Nat} {d : Dev} : Moves [.fwd] [] d (filterExpiry pipe d) :=
  .step Moves.fwd .refl rfl

theorem moves_sweepOn {d : Dev} : Moves [.emitted, .regs, .host, .fwd] [.fwEvent] d (sweepOn d) :=
  .step moves_raiseIf (.step Moves.fwd .refl rfl) rfl

theorem moves_ageingVisit {d : Dev} : Moves [.emitted, .regs, .cnt, .host, .fwd] [.cnEvent, .cnWrap, .fwEvent, .scCfg] d
    (ageingVisit d) :=
  .ite .refl (.ite (.step moves_sweepOn (.step Moves.fwd (.step moves_raiseIf (.foldl (fun _ _ => .step moves_macUe .refl rfl)
    (.step moves_softReads .refl rfl)) rfl) rfl) rfl) (.ite (.ite (.step moves_sweepOn (.step moves_setMacEntry (.step
      Moves.fwd (.foldl (fun
    _ _ => .step moves_macUe .refl rfl) (.step moves_softReads .refl rfl)) rfl) rfl) rfl) (.ite (.step moves_sweepOn (.step
      moves_setMacEntry
    (.step Moves.fwd (.foldl (fun _ _ => .step moves_macUe .refl rfl) (.step moves_softReads .refl rfl)) rfl) rfl) rfl) (.step
      moves_sweepOn
    (.step moves_learnPost (.step Moves.fwd (.step moves_count (.step moves_setMacEntry (.step Moves.fwd (.foldl (fun _ _ =>
    .step moves_macUe .refl rfl) (.step moves_softReads .refl rfl)) rfl) rfl) rfl) rfl) rfl) rfl))) (.step moves_sweepOn
      (.step Moves.fwd (.foldl (fun _ _ =>
    .step moves_macUe .refl rfl) (.step moves_softReads .refl rfl)) rfl) rfl)))

theorem moves_tableScrub {table : FwdTable} {a : Nat} {e : EccResult} {d : Dev} : Moves [.emitted, .regs, .cnt, .host, .fwd]
    [.cnEvent, .cnWrap, .fwEvent, .scCfg] d (tableScrub table a e d) := by
  simp only [tableScrub]
  split
  · exact .refl
  · exact .step moves_count (.step Moves.fwd .refl rfl) rfl
  · split
    · exact .step moves_macUe .refl rfl
    · exact .step moves_trieUe .refl rfl

end Sys2Proof.Proofs
end

section
/-!
PROOF. The other operations leave every drawer within its depth (R483), in the model's order.
-/

namespace Sys2Proof.Proofs

open Sys2Proof Sys2Proof.Machine Sys2Proof.Laws

section
variable {b c e : Dev} {p : Prop} {dec : Decidable p}

/-- A step taken on a condition. -/
theorem fits_when (step : WithinDepth b → WithinDepth c) (fit : WithinDepth b) : WithinDepth (if p then c else b) := by
  split
  · exact step fit
  · exact fit

/-- One of two steps taken. -/
theorem fits_either (one : WithinDepth b → WithinDepth c) (other : WithinDepth b → WithinDepth e) (fit : WithinDepth b) :
    WithinDepth (if p then c else e) := by
  split
  · exact one fit
  · exact other fit

end

/-! ## What moves registers by a number, whatever the number -/

theorem fits_storeWrite {r : Reg} {i : Nat} {w : Word} {d : Dev} (fit : WithinDepth d) : WithinDepth (storeWrite r i w d) := by
  refine fits_foldl (fun d f fit => ?_) fit
  simp only [storeField]
  split
  · exact fits_ite (fits_setFld fit) fit
  · exact fits_setFld fit
  · exact fit

theorem fits_testAdd {f : Fld} {t n : Nat} {d : Dev} (fit : WithinDepth d) : WithinDepth (testAdd f t n d) :=
  fits_ite (fits_setFld fit) (fits_setFld (fits_setFld fit))

theorem fits_testCounts {t : Nat} {c : LaneCounts} {d : Dev} (fit : WithinDepth d) : WithinDepth (testCounts t c d) :=
  fits_testAdd (fits_testAdd (fits_testAdd fit))

theorem fits_testSync {t : Nat} {d : Dev} (fit : WithinDepth d) : WithinDepth (testSync t d) := by
  simp only [testSync]
  exact fits_ite fit (moves_modSerial.fits (fits_testCounts (moves_testErrors.fits fit)))

theorem fits_sendPause {n : Nat} {off : Bool} {d : Dev} (fit : WithinDepth d) : WithinDepth (sendPause n off d) := by
  simp only [sendPause]
  refine fits_ite (fits_ite (fits_raise ?_) ?_) (moves_modPort.fits fit)
  · exact fits_count (moves_sendFrame.fits (moves_modPort.fits fit))
  · exact fits_count (moves_sendFrame.fits (moves_modPort.fits fit))

theorem fits_flowEval {n : Nat} {d : Dev} (fit : WithinDepth d) : WithinDepth (flowEval n d) :=
  fits_ite (moves_modPort.fits fit) (fits_ite (fits_ite (fits_sendPause fit) fit) (fits_ite (fits_sendPause fit) fit))

theorem fits_tribSlip {c : CName} {k : Nat} {d : Dev} (fit : WithinDepth d) : WithinDepth (tribSlip c k d) :=
  fits_raise (fits_raise (fits_count fit))

theorem fits_takeOut {q : Nat} {gone : QPkt → Bool} {lost : QPkt → Dev → Dev} {d : Dev}
    (h : ∀ p d, WithinDepth d → WithinDepth (lost p d)) (fit : WithinDepth d) : WithinDepth (takeOut q gone lost d) :=
  fits_ite fit (moves_emptied.fits (moves_modQueue.fits (fits_foldl (fun d p fit => moves_drainDown.fits (h p d fit)) fit)))

theorem fits_commandOn {p : Path} {hMay : Bool} {f : Dev → Nat × Dev} {d : Dev} (h : WithinDepth (f d).2)
    (fit : WithinDepth d) : WithinDepth (commandOn p hMay f d) := by
  simp only [commandOn]
  exact fits_ite fit (fits_ite (fits_emit fit) (fits_ite (fits_emit fit) (fits_emit h)))

theorem fits_drawerConsumer {n : Nat} {v : Word} {d : Dev} (fit : WithinDepth d) : WithinDepth (drawerConsumer n v d) :=
  fits_ite fit (fits_ite fit (fits_ite (fits_setFld fit) (moves_flushDrawer.fits (fits_setFld fit))))

theorem fits_injectOne {t : Nat} {d : Dev} (fit : WithinDepth d) : WithinDepth (injectOne t d) :=
  fits_ite (moves_modSerial.fits (fits_testCounts (fits_ite (fits_emit fit) fit))) (fits_ite (fits_emit fit) fit)

theorem fits_testInject {t : Nat} {v : Word} {d : Dev} (fit : WithinDepth d) : WithinDepth (testInject t v d) := by
  have written : WithinDepth (storeWrite .lntInject t v (testSync t d)) := fits_storeWrite (fits_testSync fit)
  unfold testInject
  dsimp only
  generalize storeWrite .lntInject t v (testSync t d) = x at written ⊢
  refine fits_ite fit (fits_ite (fits_injectOne ?_) ?_)
  · exact fits_ite (fits_emit written) written
  · exact fits_ite (fits_emit written) written

/-- A device that holds no item. -/
theorem fits_of_empty {d : Dev} (h : d.host.drawers = []) : WithinDepth d := fun n => by
  simp only [drawer, h]
  exact Nat.zero_le _

/-! ## Ops -/

theorem fits_modChan {n : Nat} {f : Chan → Chan} {d : Dev} (fit : WithinDepth d) : WithinDepth (modChan n f d) :=
  Moves.chans.fits fit

/-! ## PowerBase -/

theorem fits_pwResult {o : PowerOrigin} {result : Nat} {code : Nat} {d : Dev} (fit : WithinDepth d) : WithinDepth (pwResult o
    result code d) := by
  simp only [pwResult]
  split
  · exact fits_setFld (fits_setFld fit)
  · exact Moves.pwr.fits fit
  · exact Moves.pwr.fits fit
  · exact fit
  · exact fit

theorem fits_releaseUnits {d0 : Dev} (fit : WithinDepth d0) : WithinDepth (releaseUnits d0) :=
  fits_ite fit (fits_foldl (fun _ _ fit => fits_ite (moves_modSerial.fits fit) fit) (Moves.pwr.fits fit))

theorem fits_powerHoldEnd {d : Dev} (fit : WithinDepth d) : WithinDepth (powerHoldEnd d) :=
  fits_ite (fits_raise (Moves.fs.fits fit)) fit

theorem fits_cancelChange {d : Dev} (fit : WithinDepth d) : WithinDepth (cancelChange d) := by
  simp only [cancelChange]
  split
  · exact fits_ite (fits_powerHoldEnd (fits_releaseUnits (fits_count (fits_pwResult (fits_same fit rfl))))) fit
  · exact fit

theorem fits_waitingGone {d : Dev} (fit : WithinDepth d) : WithinDepth (waitingGone d) := by
  simp only [waitingGone]
  split
  · exact fits_ite (fits_count (fits_pwResult (Moves.pwr.fits fit))) fit
  · exact fit

theorem fits_consentGone {d : Dev} (fit : WithinDepth d) : WithinDepth (consentGone d) := by
  simp only [consentGone]
  split
  · exact fits_waitingGone (fits_ite (fits_cancelChange fit) fit)
  · exact fits_waitingGone fit

theorem fits_railRequest {r : Nat} {on : Bool} {d : Dev} (fit : WithinDepth d) : WithinDepth (railRequest r on d) :=
  fits_emit fit

/-! ## LineEngine -/

theorem fits_loseGrant {d : Dev} {g : Grant} (fit : WithinDepth d) : WithinDepth (loseGrant d g) := by
  simp only [loseGrant]
  split
  · exact fit
  · exact fits_raiseIf (fits_countN (Moves.up.fits fit))

theorem fits_abandonGrants {p : Grant → Bool} {d : Dev} (fit : WithinDepth d) : WithinDepth (abandonGrants p d) :=
  fits_foldl (fun _ _ fit => fits_loseGrant fit) (Moves.up.fits fit)

theorem fits_leaveBurst {g : Grant} {d : Dev} (fit : WithinDepth d) : WithinDepth (leaveBurst g d) := by
  simp only [leaveBurst]
  split
  · exact fit
  · exact fits_ite (Moves.act.fits fit) fit

theorem fits_cutBurst {ch : Nat} {d : Dev} (fit : WithinDepth d) : WithinDepth (cutBurst ch d) :=
  fits_foldl (fun _ _ fit => fits_raise (fits_count (fits_leaveBurst fit))) (Moves.up.fits fit)

theorem fits_defaultEntries {lo : Nat} {hi : Nat} {d : Dev} (fit : WithinDepth d) : WithinDepth (defaultEntries lo hi d) :=
  Moves.dict.fits fit

theorem fits_dropUpstream {d : Dev} (fit : WithinDepth d) : WithinDepth (dropUpstream d) :=
  Moves.up.fits (fits_foldl (fun _ _ fit => fits_countN (moves_endEnvs.fits fit)) (fits_foldl (fun _ _ fit => fits_countN
    (moves_dropCopies.fits (moves_emptied.fits (moves_modQueue.fits fit)))) fit))

theorem fits_endConsent {d : Dev} (fit : WithinDepth d) : WithinDepth (endConsent d) :=
  fits_consentGone (Moves.act.fits fit)

theorem fits_eraseNumber {d : Dev} (fit : WithinDepth d) : WithinDepth (eraseNumber d) :=
  fits_setFld (fits_setFld (fits_setFld (fits_setFld (fits_setFld (fits_setFld (fits_setFld (Moves.pwr.fits fit)))))))

theorem fits_eraseHeld {d : Dev} (fit : WithinDepth d) : WithinDepth (eraseHeld d) := fits_same fit rfl

theorem fits_clearRecord {d : Dev} (fit : WithinDepth d) : WithinDepth (clearRecord d) := by
  rw [clearRecord_eq]
  exact fits_dropUpstream (fits_endConsent (fits_eraseHeld (fits_setReg (fits_defaultEntries (fits_eraseNumber fit)))))

theorem fits_setState {n : Nat} {d : Dev} (fit : WithinDepth d) : WithinDepth (setState n d) :=
  fits_ite fit (fits_raise (fits_setFld (fits_ite (fits_endConsent fit) fit)))

theorem fits_settleState {d : Dev} (fit : WithinDepth d) : WithinDepth (settleState d) :=
  fits_ite (fits_setState fit) (fits_ite (fits_setState (fits_abandonGrants fit)) fit)

theorem fits_startRanging {d : Dev} (fit : WithinDepth d) : WithinDepth (startRanging d) :=
  Moves.act.fits fit

theorem fits_actOnUp {d : Dev} (fit : WithinDepth d) : WithinDepth (actOnUp d) :=
  fits_ite fit (fits_ite (fits_ite (fits_raise (fits_setState fit)) (fits_settleState (fits_setState fit))) (fits_ite
    (fits_ite (fits_setState (Moves.act.fits fit)) (fits_startRanging (fits_setState (Moves.act.fits fit)))) fit))

theorem fits_actOnDown {d : Dev} (fit : WithinDepth d) : WithinDepth (actOnDown d) :=
  fits_ite fit (fits_ite (fits_clearRecord (fits_setState (Moves.act.fits fit))) (fits_ite (fits_setState (Moves.act.fits
    fit)) fit))

theorem fits_rangingExpiry {d : Dev} (fit : WithinDepth d) : WithinDepth (rangingExpiry d) :=
  fits_ite (fits_settleState (fits_clearRecord (fits_setState (fits_raise (Moves.act.fits (fits_abandonGrants fit)))))) fit

theorem fits_lossExpiry {d : Dev} (fit : WithinDepth d) : WithinDepth (lossExpiry d) :=
  fits_ite (fits_clearRecord (fits_setState (fits_raise (Moves.act.fits fit)))) fit

theorem fits_sleepExpiry {d : Dev} (fit : WithinDepth d) : WithinDepth (sleepExpiry d) :=
  fits_ite (fits_endConsent fit) fit

theorem fits_leaveStop {d : Dev} (fit : WithinDepth d) : WithinDepth (leaveStop d) :=
  fits_ite (fits_settleState (fits_ite (fits_clearRecord (fits_setState (Moves.act.fits fit))) (fits_actOnDown
    (fits_clearRecord (fits_setState (Moves.act.fits fit)))))) fit

theorem fits_secretaryRelease {d : Dev} (fit : WithinDepth d) : WithinDepth (secretaryRelease d) :=
  fits_ite (fits_leaveStop (Moves.act.fits fit)) fit

theorem fits_refuseGrant {c : CName} {scope : Nat} {d : Dev} (fit : WithinDepth d) : WithinDepth (refuseGrant c scope d) :=
  fits_raise (fits_count fit)

theorem fits_addGrant {g : Grant} {d : Dev} (fit : WithinDepth d) : WithinDepth (addGrant g d) :=
  fits_ite (fits_refuseGrant fit) (fits_count (Moves.up.fits (fits_ite (Moves.act.fits (fits_foldl (fun _ _ fit =>
    fits_refuseGrant fit) (fits_abandonGrants fit))) (fits_foldl (fun _ _ fit => fits_refuseGrant fit) (fits_abandonGrants
    fit)))))

theorem fits_takeEntry {ch : Nat} {fc : Word} {t0 : Time} {d : Dev} {e : Option (BitVec 64)} (fit : WithinDepth d) :
    WithinDepth (takeEntry ch fc t0 d e) := by
  simp only [takeEntry]
  split
  · exact fit
  · refine fits_ite ?_ ?_
    · exact fits_count fit
    · split
      · exact fit
      · refine fits_ite ?_ ?_
        · exact fits_refuseGrant fit
        · refine fits_ite ?_ ?_
          · exact fits_refuseGrant fit
          · refine fits_ite ?_ ?_
            · exact fits_refuseGrant fit
            · refine fits_ite ?_ ?_
              · exact fits_refuseGrant fit
              · refine fits_ite ?_ ?_
                · split
                  · exact fits_ite fit (fits_addGrant (fits_ite (fits_abandonGrants (moves_nextFree.fits fit))
                      (moves_nextFree.fits fit)))
                  · exact fits_addGrant (moves_nextFree.fits fit)
                · exact fits_addGrant fit

theorem fits_takeMap {ch : Nat} {fc : Word} {t0 : Time} {es : List (Option (BitVec 64))} {d : Dev} (fit : WithinDepth d) :
    WithinDepth (takeMap ch fc t0 es d) :=
  fits_ite (fits_foldl (fun _ _ fit => fits_takeEntry fit) fit) fit

/-! ## Registers -/

theorem fits_resetReg {r : Reg} {d : Dev} (fit : WithinDepth d) : WithinDepth (resetReg r d) :=
  fits_regs fit

theorem fits_resetRegs {rs : List Reg} {d : Dev} (fit : WithinDepth d) : WithinDepth (resetRegs rs d) :=
  fits_foldl (fun _ _ fit => fits_resetReg fit) fit

/-! ## Sideboard -/

theorem fits_overruns {m : Nat} {rs : List Record} {gone : List Record} {d : Dev} (fit : WithinDepth d) : WithinDepth
    (overruns m rs gone d) :=
  fits_foldl (fun _ _ fit => fits_raise (fits_count (moves_spliceNow.fits fit))) fit

theorem fits_tapRecord {m : Nat} {bs : List Byte} {recallOn : Bool} {fs : BitVec 12} {ls : BitVec 12} {d : Dev} (fit :
    WithinDepth d) : WithinDepth (tapRecord m bs recallOn fs ls d) :=
  fits_ite fit (fits_ite (fits_raise (fits_count (moves_modProg.fits fit))) (fits_countN (fits_count (fits_overruns (fits_ite
    (fits_count (moves_modProg.fits (moves_clearPoison.fits (moves_mapReads.fits fit)))) (moves_modProg.fits
    (moves_clearPoison.fits (moves_mapReads.fits fit))))))))

theorem fits_resetProg {m : Nat} {d : Dev} (fit : WithinDepth d) : WithinDepth (resetProg m d) :=
  Moves.sb.fits (fits_foldl (fun _ _ fit => moves_freeContext.fits fit) fit)

theorem fits_spliceAll {d : Dev} (fit : WithinDepth d) : WithinDepth (spliceAll d) :=
  fits_foldl (fun _ _ fit => fits_raise (fits_count (moves_spliceNow.fits fit))) fit

/-! ## Bonding -/

theorem fits_setKeyEntry {e : Nat} {k : KeyEntry} {d : Dev} (fit : WithinDepth d) : WithinDepth (setKeyEntry e k d) :=
  Moves.cipher.fits fit

theorem fits_cipherUse {e : Nat} {d : Dev} (fit : WithinDepth d) : WithinDepth (cipherUse e d).2 := by
  simp only [cipherUse]
  split
  · exact fits_snd fit
  · exact fits_ite_snd fit (fits_ite (fits_post (fits_raise (fits_ite (fits_post (fits_raise (fits_setKeyEntry fit)))
      (fits_setKeyEntry fit)))) (fits_ite (fits_post (fits_raise (fits_setKeyEntry fit))) (fits_setKeyEntry fit)))

theorem fits_decipher {e : Nat} {iv : BitVec 96} {h : BitVec 64} {payload : List Byte} {d : Dev} (fit : WithinDepth d) :
    WithinDepth (decipher e iv h payload d).2 := by
  simp only [decipher]
  refine fits_ite_snd ?_ ?_
  · exact fits_raise (fits_count (fits_ite (fits_count fit) fit))
  · split
    next e taken =>
      exact fits_snd (fits_raise (fits_count (fits_ite (fits_count (fits_of_eq Prod.snd taken (fits_cipherUse fit)))
        (fits_of_eq Prod.snd taken (fits_cipherUse fit)))))
    next key e1 taken1 =>
      split
      · exact fits_snd (fits_raise (fits_count (fits_ite (fits_count (fits_of_eq Prod.snd taken1 (fits_cipherUse fit)))
          (fits_of_eq Prod.snd taken1 (fits_cipherUse fit)))))
      · exact fits_snd (fits_of_eq Prod.snd taken1 (fits_cipherUse fit))

theorem fits_modFlow {k : Nat} {f : BondFlow → BondFlow} {d : Dev} (fit : WithinDepth d) : WithinDepth (modFlow k f d) :=
  Moves.bond.fits fit

theorem fits_holdChanged {d0 : Dev} {d : Dev} (fit : WithinDepth d) : WithinDepth (holdChanged d0 d) :=
  fits_foldl (fun _ _ fit => fits_modFlow fit) fit

theorem fits_bondOutput {k : Nat} {p : Pkt} {d : Dev} (fit : WithinDepth d) : WithinDepth (bondOutput k p d) :=
  fits_ite (fits_count fit) (Moves.bond.fits (fits_modFlow fit))

theorem fits_mgmtPacket {bs : List Byte} {d : Dev} (fit : WithinDepth d) : WithinDepth (mgmtPacket bs d) :=
  fits_ite (fits_ite (Moves.pwr.fits fit) (fits_count fit)) (fits_emit fit)

theorem fits_bondPacket {k : Nat} {bs : List Byte} {recallOn : Bool} {fs : Nat} {ls : Nat} {d : Dev} (fit : WithinDepth d) :
    WithinDepth (bondPacket k bs recallOn fs ls d) := by
  simp only [bondPacket]
  refine fits_ite ?_ ?_
  · exact fits_mgmtPacket fit
  · split
    · exact fits_bondOutput (fits_tapRecord fit)
    · exact fits_bondOutput fit

theorem fits_dropOpen {k : Nat} {d : Dev} (fit : WithinDepth d) : WithinDepth (dropOpen k d) :=
  fits_ite (fits_count (fits_modFlow fit)) fit

theorem fits_growPacket {k : Nat} {p : OpenPkt} {e : BondEnv} {d : Dev} (fit : WithinDepth d) : WithinDepth (growPacket k p e
    d) :=
  fits_ite (fits_count (fits_modFlow fit)) (fits_ite (fits_ite (fits_modFlow fit) (fits_bondPacket (fits_modFlow fit)))
    (fits_modFlow fit))

theorem fits_reassemble {k : Nat} {e : BondEnv} {d : Dev} (fit : WithinDepth d) : WithinDepth (reassemble k e d) := by
  simp only [reassemble]
  refine fits_ite ?_ ?_
  · exact fits_growPacket (fits_dropOpen fit)
  · split
    · exact fits_count fit
    · exact fits_growPacket fit

theorem fits_skipped {k : Nat} {n : Nat} {d : Dev} (fit : WithinDepth d) : WithinDepth (skipped k n d) :=
  fits_ite fit (fits_dropOpen (fits_countN fit))

theorem fits_deliverTo {k e lim : Nat} {l : List BondEnv} {o : Nat} {d : Dev} (fit : WithinDepth d) :
    WithinDepth (deliverTo k e lim l o d) := by
  induction l generalizing o d with
  | nil => exact fits_skipped fit
  | cons x l ih =>
    simp only [deliverTo]
    exact fits_ite (ih (fits_reassemble (fits_skipped fit))) (fits_skipped fit)

theorem fits_advance {k : Nat} {n : Nat} {d : Dev} (fit : WithinDepth d) : WithinDepth (advance k n d) := by
  simp only [advance]
  split
  · exact fit
  · exact fits_modFlow (fits_deliverTo fit)

theorem fits_drain {k : Nat} {d : Dev} (fit : WithinDepth d) : WithinDepth (drain k d) := by
  simp only [drain]
  split
  · exact fit
  · exact fits_ite fit (fits_advance fit)

theorem fits_closeGap {k : Nat} {d : Dev} (fit : WithinDepth d) : WithinDepth (closeGap k d) := by
  simp only [closeGap]
  split
  · exact fits_drain (fits_advance fit)
  · exact fit

theorem fits_makeRoom {fuel n : Nat} {d : Dev} (fit : WithinDepth d) : WithinDepth (makeRoom fuel n d) := by
  induction fuel generalizing d with
  | zero => exact fit
  | succ fuel ih =>
    simp only [makeRoom]
    refine fits_ite fit ?_
    split
    · exact fit
    · exact ih (fits_closeGap (fits_count fit))

theorem fits_poolGrow {d : Dev} (fit : WithinDepth d) : WithinDepth (poolGrow d) :=
  Moves.bond.fits fit

theorem fits_holdEnv {k : Nat} {b : BondEnv} {d : Dev} (fit : WithinDepth d) : WithinDepth (holdEnv k b d) := by
  simp only [holdEnv]
  split
  · exact fits_makeRoom (fits_poolGrow fit)
  · exact fits_ite (fits_count (fits_makeRoom (fits_poolGrow fit))) (fits_drain (fits_modFlow (fits_makeRoom (fits_poolGrow
      fit))))

theorem fits_bondArrive {k : Nat} {b : BondEnv} {d : Dev} (fit : WithinDepth d) : WithinDepth (bondArrive k b d) :=
  fits_ite (fits_count (fits_modFlow fit)) (fits_ite (fits_drain (fits_modFlow (fits_reassemble (fits_modFlow fit))))
    (fits_ite (fits_holdEnv (fits_modFlow fit)) (fits_ite (fits_holdEnv (fits_advance (fits_modFlow fit))) (fits_count
    (fits_modFlow fit)))))

theorem fits_windowExpiry {k fuel : Nat} {d : Dev} (fit : WithinDepth d) : WithinDepth (windowExpiry k fuel d) := by
  induction fuel generalizing d with
  | zero => exact fit
  | succ fuel ih =>
    simp only [windowExpiry]
    split
    · exact fit
    · exact fits_ite (ih (fits_closeGap fit)) fit

theorem fits_releaseFlows {d : Dev} (fit : WithinDepth d) : WithinDepth (releaseFlows d) := by
  simp only [releaseFlows]
  refine fits_foldl (fun _ _ fit => ?_) ?_
  · refine fits_modFlow ?_
    split
    · exact fits_advance fit
    · exact fit
  · exact fit

theorem fits_forgetFlow {k : Nat} {d : Dev} (fit : WithinDepth d) : WithinDepth (forgetFlow k d) :=
  Moves.bond.fits fit

theorem fits_modLane {ch : Nat} {laneB : Bool} {f : LaneRx → LaneRx} {d : Dev} (fit : WithinDepth d) : WithinDepth (modLane ch
    laneB f d) :=
  fits_modChan fit

theorem fits_dataEnvelope {e : EnvelopeIn} {fc : Word} {k : Nat} {d : Dev} (fit : WithinDepth d) :
    WithinDepth (dataEnvelope e fc k d) := by
  have idle := moves_idleExit.fits fit
  simp only [dataEnvelope]
  split
  · exact fits_count idle
  · refine fits_bondArrive ?_
    split
    · exact fits_decipher idle
    · exact idle

theorem fits_takeEnvelope {e : EnvelopeIn} {d : Dev} (fit : WithinDepth d) : WithinDepth (takeEnvelope e d) := by
  simp only [takeEnvelope]
  refine fits_ite ?_ ?_
  · exact fits_count fit
  · refine fits_ite ?_ ?_
    · exact fits_count fit
    · refine fits_ite ?_ ?_
      · exact fit
      · refine fits_ite ?_ ?_
        · exact fits_ite (fits_count fit) (fits_ite (fits_count fit) (Moves.act.fits fit))
        · refine fits_ite ?_ ?_
          · exact fits_count fit
          · split
            · exact fits_count fit
            · exact fits_dataEnvelope fit

theorem fits_delinSync {e : EnvelopeIn} {area : Nat} {l : LaneRx} {d : Dev} (fit : WithinDepth d) : WithinDepth (delinSync e
    area l d) :=
  fits_ite (fits_ite (fits_count (fits_modLane (fits_ite fit (fits_count fit)))) (fits_modLane (fits_ite fit (fits_count
    fit)))) (fits_ite (fits_count (fits_modLane fit)) (fits_takeEnvelope (fits_modLane fit)))

theorem fits_delinHunt {e : EnvelopeIn} {area : Nat} {d : Dev} (fit : WithinDepth d) : WithinDepth (delinHunt e area d) :=
  fits_ite fit (fits_ite (fits_takeEnvelope (fits_modLane fit)) (fits_modLane fit))

theorem fits_deliverPresync {ch : Nat} {laneB : Bool} {d : Dev} (fit : WithinDepth d) : WithinDepth (deliverPresync ch laneB
    d) :=
  fits_foldl (fun _ _ fit => fits_takeEnvelope fit) (fits_modLane fit)

theorem fits_delinPresync {e : EnvelopeIn} {area : Nat} {dconf : Nat} {l : LaneRx} {d : Dev} (fit : WithinDepth d) :
    WithinDepth (delinPresync e area dconf l d) :=
  fits_ite (fits_delinSync (fits_deliverPresync fit)) (fits_ite (fits_count (fits_modLane fit)) (fits_ite (fits_foldl (fun _ _
    fit => fits_takeEnvelope fit) (fits_modLane fit)) (fits_modLane fit)))

theorem fits_areaEnd {ch : Nat} {laneB : Bool} {d : Dev} (fit : WithinDepth d) : WithinDepth (areaEnd ch laneB d) :=
  fits_ite (fits_deliverPresync fit) fit

theorem fits_envelopeReceived {e : EnvelopeIn} {d : Dev} (fit : WithinDepth d) : WithinDepth (envelopeReceived e d) := by
  simp only [envelopeReceived]
  refine fits_ite ?_ ?_
  · exact fit
  · split
    · exact fits_delinSync fit
    · exact fits_delinHunt fit
    · exact fits_delinPresync fit

theorem fits_keyResult {r : Nat} {d : Dev} (fit : WithinDepth d) : WithinDepth (keyResult r d) :=
  fits_setFld fit

theorem fits_keyWrite {e : Nat} {d : Dev} (fit : WithinDepth d) : WithinDepth (keyWrite e d) :=
  fits_ite (fits_keyResult fit) (fits_keyResult (fits_setKeyEntry fit))

theorem fits_keyErase {e : Nat} {d : Dev} (fit : WithinDepth d) : WithinDepth (keyErase e d) :=
  fits_ite (fits_keyResult fit) (fits_keyResult (fits_setKeyEntry fit))

theorem fits_keyRead {e : Nat} {d : Dev} (fit : WithinDepth d) : WithinDepth (keyRead e d) :=
  fits_keyResult (fits_setReg (fits_setFld fit))

theorem fits_slotSet {slot : Nat} {key : Option (BitVec 256)} {d : Dev} (fit : WithinDepth d) : WithinDepth (slotSet slot key
    d) :=
  fits_ite (fits_keyResult fit) (fits_keyResult (Moves.cipher.fits fit))

theorem fits_keyCommand {op : Nat} {e : Nat} {d : Dev} (fit : WithinDepth d) : WithinDepth (keyCommand op e d) := by
  simp only [keyCommand]
  split
  · exact fits_keyWrite fit
  · exact fits_keyErase fit
  · exact fits_keyRead fit
  · exact fits_slotSet fit
  · exact fits_slotSet fit
  · exact fits_keyResult fit

theorem fits_reorderExpiry {flow : Nat} {d : Dev} (fit : WithinDepth d) : WithinDepth (reorderExpiry flow d) :=
  fits_foldl (fun _ _ fit => fits_windowExpiry fit) fit

/-! ## WaifelBase -/

theorem fits_endSession {id : Nat} {d : Dev} (fit : WithinDepth d) : WithinDepth (endSession id d) :=
  fits_same fit rfl

/-! ## Paths -/

theorem fits_hostPathReset {d : Dev} (fit : WithinDepth d) : WithinDepth (hostPathReset d) := by
  simp only [hostPathReset]
  refine fits_when fits_setFld (Moves.dic.fits ?_)
  split
  · exact fit
  · exact moves_abandonTxn.fits fit
  · exact fits_ite (moves_modPath.fits fit) (fits_either id fits_raise (moves_modPath.fits fit))

/-! ## HostCmds -/

theorem fits_ringStop {n : Nat} {d : Dev} (fit : WithinDepth d) : WithinDepth (ringStop n d) :=
  moves_modRing.fits (fits_setReg (fits_host fit rfl))

theorem fits_mask {v : Nat} {d : Dev} (fit : WithinDepth d) : WithinDepth (mask v d) :=
  fits_host fit rfl

theorem fits_hostResetDrawer {d0 d : Dev} {n : Nat} (fit : WithinDepth d) : WithinDepth (hostResetDrawer d0 d n) := by
  have flushed : WithinDepth (if consumer d0 n ≤ 1 ∨ consumer d0 n ≠ consumerReset n then flushDrawer n d else d) :=
    fits_ite (moves_flushDrawer.fits fit) fit
  exact fits_setDrawer (flushed n) flushed

theorem fits_dropHostFrames {d : Dev} (fit : WithinDepth d) : WithinDepth (dropHostFrames d) :=
  fits_countN (fits_host fit rfl)

theorem fits_hostReset {linkLost : Bool} {d : Dev} (fit : WithinDepth d) : WithinDepth (hostReset linkLost d) := by
  simp only [hostReset]
  exact fits_hostPathReset (fits_count (fits_raise (fits_host (fits_resetRegs (fits_resetReg (fits_ringStop (fits_ringStop
    (fits_foldl (fun _ _ fit => fits_hostResetDrawer fit) (fits_dropHostFrames fit)))))) rfl)))

theorem fits_hostResetBy {c : HostResetCause} {d : Dev} (fit : WithinDepth d) : WithinDepth (hostResetBy c d) :=
  fits_hostReset fit

/-! ## Bench -/

theorem fits_taskSubmit {x : TaskDesc} {d : Dev} (fit : WithinDepth d) : WithinDepth (taskSubmit x d) := by
  have stepped : WithinDepth (ringStep 260 d) := moves_ringStep.fits fit
  simp only [taskSubmit]
  refine fits_ite fit (fits_either (fun fit => ?refused) (fun fit => fits_either id (fun fit => ?ready) ?accepted) stepped)
  case refused => exact moves_traceItem.fits (moves_postCompletion.fits (fits_raise (fits_count fit)))
  case accepted => exact fits_count (moves_setTask.fits fit)
  case ready => exact fits_when moves_finish.fits (moves_makeReady.fits fit)

theorem fits_runTask {h : Nat} {x : Machine.Task} {k : Nat} {reason : Nat} {d : Dev} (fit : WithinDepth d) : WithinDepth
    (runTask h x k reason d) :=
  moves_traceItem.fits (fits_emit (fits_count (moves_modCore.fits (moves_setTask.fits fit))))

theorem fits_dispatchOne {h : Nat} {x : Machine.Task} {d : Dev} (fit : WithinDepth d) : WithinDepth (dispatchOne h x d) := by
  simp only [dispatchOne]
  split
  · exact fit
  · split
    · exact fits_runTask fit
    · exact fits_ite fit (fits_ite (fits_runTask fit) (fits_runTask fit))

theorem fits_dispatchReady {d : Dev} (fit : WithinDepth d) : WithinDepth (dispatchReady d) := by
  rw [dispatchReady]
  split
  · exact fit
  · exact fits_foldl (fun _ _ => fits_dispatchOne) fit

theorem fits_firmwareTakes {n k : Nat} {d : Dev} (fit : WithinDepth d) : WithinDepth (firmwareTakes n k d) := by
  induction k generalizing d with
  | zero => exact fit
  | succ k ih =>
    unfold firmwareTakes
    split
    · next head _ => exact ih (moves_firmwareReady.fits (fits_levelCheck (fits_setDrawer (shorter head (fit n)) fit)))
    · exact fit

theorem fits_firmwareWork {d : Dev} (fit : WithinDepth d) : WithinDepth (firmwareWork d) :=
  fits_ite fit (fits_foldl (fun _ _ fit => fits_ite (fits_firmwareTakes fit) fit) fit)

theorem fits_dispatchAll {d : Dev} (fit : WithinDepth d) : WithinDepth (dispatchAll d) :=
  fits_ite fit (fits_dispatchReady (fits_firmwareWork fit))

theorem fits_affinityExpiry {h : Nat} {d : Dev} (fit : WithinDepth d) : WithinDepth (affinityExpiry h d) := by
  simp only [affinityExpiry]
  split
  · exact fits_ite (fits_dispatchOne fit) fit
  · exact fit

theorem fits_corePoison {c : Nat} {d : Dev} (fit : WithinDepth d) : WithinDepth (corePoison c d) :=
  moves_poisonRestart.fits (moves_poisonItem.fits (moves_nextFree.fits (fits_raise (fits_count fit))))

theorem fits_taskFault {k : Nat} {cause : TaskFaultCause} {d : Dev} (fit : WithinDepth d) : WithinDepth (taskFault k cause d)
    := by
  simp only [taskFault]
  split
  · exact fit
  · split
    · exact fit
    · exact fits_ite fit (fits_ite (fits_corePoison (moves_coreFaults.fits (fits_ite (fits_count fit) fit))) (fits_ite
        (moves_restartCluster.fits (moves_coreFaults.fits (fits_ite (fits_count fit) fit))) (moves_modCluster.fits
        (moves_coreFaults.fits (fits_ite (fits_count fit) fit)))))

theorem fits_taskCancel {h : Nat} {d : Dev} (fit : WithinDepth d) : WithinDepth (taskCancel h d) := by
  simp only [taskCancel]
  refine fits_ite ?_ ?_
  · exact fit
  · refine fits_ite ?_ ?_
    · exact Moves.sec.fits fit
    · split
      · exact Moves.sec.fits (fits_dispatchReady fit)
      · exact fits_ite (Moves.sec.fits (fits_dispatchReady fit)) (Moves.sec.fits (moves_finish.fits (fits_dispatchReady fit)))

theorem fits_hostHandlesWrite {v : Word} {d : Dev} (fit : WithinDepth d) : WithinDepth (hostHandlesWrite v d) :=
  fits_ite (fits_raise (fits_setFld (fits_setFld (fits_storeWrite fit)))) (fits_setFld (fits_storeWrite fit))

/-! ## Firescreen -/

theorem fits_modFs {n : Nat} {f : FsChan → FsChan} {d : Dev} (fit : WithinDepth d) : WithinDepth (modFs n f d) :=
  Moves.fs.fits fit

theorem fits_fsDrive {f : Dev → Dev} {d : Dev} (fit : WithinDepth (f d)) : WithinDepth (fsDrive f d) := by
  have driven : WithinDepth ((presentChans (f d)).foldl (fun x n =>
      if txKillOn d n = txKillOn (f d) n then x else emit (.txKill n (txKillOn (f d) n)) x) (f d)) :=
    fits_foldl (fun _ _ fit => fits_ite fit (fits_emit fit)) fit
  exact fits_ite driven (fits_emit driven)

theorem fits_forceLow {n : Nat} {d : Dev} (fit : WithinDepth d) : WithinDepth (forceLow n d) :=
  fits_ite (fits_cutBurst (fits_emit (fits_modFs fit))) fit

theorem fits_forceAllLow {d : Dev} (fit : WithinDepth d) : WithinDepth (forceAllLow d) :=
  fits_foldl (fun _ _ fit => fits_forceLow fit) fit

theorem fits_setHolds {f : FsSt → FsSt} {d : Dev} (fit : WithinDepth d) : WithinDepth (setHolds f d) :=
  fits_ite (fits_ite (fits_forceAllLow (Moves.fs.fits fit)) (Moves.fs.fits fit)) (fits_raise (fits_ite (fits_forceAllLow
    (Moves.fs.fits fit)) (Moves.fs.fits fit)))

theorem fits_protHold {toggled : Bool} {d : Dev} (fit : WithinDepth d) : WithinDepth (protHold toggled d) :=
  fits_setHolds (fits_ite (fits_foldl (fun _ _ fit => fits_modFs fit) fit) fit)

theorem fits_protPathAnew {d : Dev} (fit : WithinDepth d) : WithinDepth (protPathAnew d) :=
  fits_foldl (fun _ _ fit => fits_modFs fit) fit

theorem fits_protHoldEnd {d : Dev} (fit : WithinDepth d) : WithinDepth (protHoldEnd d) :=
  fits_ite (fits_setHolds fit) fit

theorem fits_drawNonce {d : Dev} (fit : WithinDepth d) : WithinDepth (drawNonce d).2 :=
  fits_snd (moves_nextFree.fits fit)

theorem fits_newNonce {nonce : BitVec 32} {d : Dev} (fit : WithinDepth d) : WithinDepth (newNonce nonce d) :=
  fits_same fit rfl

theorem fits_voidRelease {n : Nat} {d : Dev} (fit : WithinDepth d) : WithinDepth (voidRelease n d) := by
  simp only [voidRelease]
  split
  · exact fit
  · exact fits_ite fit (Moves.fs.fits (fits_ite (fits_foldl (fun _ _ fit => fits_modFs fit) fit) (fits_setFld (fits_foldl (fun
      _ _ fit => fits_modFs fit) fit))))

theorem fits_trip {n : Nat} {stage : Nat} {cause : Nat} {d0 : Dev} (fit : WithinDepth d0) : WithinDepth (trip n stage cause
    d0) :=
  fits_ite (fits_count (fits_voidRelease fit)) (fits_forceLow (fits_raise (Moves.fs.fits (fits_newNonce (fits_drawNonce
    (fits_modFs (fits_voidRelease fit)))))))

theorem fits_escalate {n : Nat} {stage : Nat} {d : Dev} (fit : WithinDepth d) : WithinDepth (escalate n stage d) :=
  fits_modFs fit

theorem fits_failDark {cause : Nat} {d : Dev} (fit : WithinDepth d) : WithinDepth (failDark cause d) :=
  fits_ite fit (fits_forceAllLow (fits_raise (Moves.fs.fits fit)))

theorem fits_admCompare {d : Dev} (fit : WithinDepth d) : WithinDepth (admCompare d) :=
  fits_foldl (fun _ _ fit => fits_ite (Moves.fs.fits fit) (fits_ite fit (fits_count (Moves.fs.fits fit)))) fit

theorem fits_admWrite {complement : Bool} {slot : Nat} {v : Nat} {d : Dev} (fit : WithinDepth d) : WithinDepth (admWrite
    complement slot v d) :=
  fits_ite fit (fits_ite (Moves.fs.fits (fits_ite (Moves.fs.fits fit) (Moves.fs.fits fit))) (fits_ite (Moves.fs.fits fit)
    (Moves.fs.fits fit)))

theorem fits_fsEntry {ch : Nat} {fc : Word} {t0 : Time} {d : Dev} {e : Option (BitVec 64)} (fit : WithinDepth d) : WithinDepth
    (fsEntry ch fc t0 d e) := by
  simp only [fsEntry]
  split
  · exact fit
  · refine fits_ite ?_ ?_
    · exact fit
    · split
      · exact fit
      · exact fits_ite fit (fits_ite fit (fits_modFs fit))
      · exact fits_ite (fits_ite fit (fits_ite fit (fits_modFs fit))) (Moves.fs.fits (fits_ite fit (fits_ite fit (fits_modFs
          fit))))
      · exact fits_ite fit (fits_ite fit (fits_modFs fit))

theorem fits_openDue {n : Nat} {d : Dev} (fit : WithinDepth d) : WithinDepth (openDue n d) :=
  fits_modFs fit

theorem fits_closeDue {n : Nat} {lit : Bool} {d : Dev} (fit : WithinDepth d) : WithinDepth (closeDue n lit d) := by
  simp only [closeDue]
  refine fits_either id (fun fit => fits_either fits_modFs (fun fit => ?_) (fits_modFs fit)) (fits_either id fits_forceLow
    (fits_modFs fit))
  exact fits_either id (fun fit => fits_trip (fits_modFs fit)) (fits_raise (fits_modFs fit))

theorem fits_timingHold {n : Nat} {d : Dev} (fit : WithinDepth d) : WithinDepth (timingHold n d) :=
  fits_ite (fits_modFs fit) (fits_forceLow (fits_raise (fits_modFs fit)))

theorem fits_spacingStep {n : Nat} {spacing : Nat} {d : Dev} (fit : WithinDepth d) : WithinDepth (spacingStep n spacing d) :=
  fits_ite (fits_modFs fit) (fits_ite (fits_ite (fits_modFs fit) (fits_ite (fits_modFs (fits_modFs fit)) (fits_raise
    (fits_modFs (fits_modFs fit))))) (fits_timingHold (fits_modFs fit)))

theorem fits_ownView {n : Nat} {laneA : Bool} {d : Dev} (fit : WithinDepth d) : WithinDepth (ownView n laneA d) :=
  fits_modFs fit

theorem fits_ownAis {n : Nat} {h : Nat} {d : Dev} (fit : WithinDepth d) : WithinDepth (ownAis n h d) :=
  fits_modFs fit

theorem fits_fsFrame {f : FsFrame} {d : Dev} (fit : WithinDepth d) : WithinDepth (fsFrame f d) := by
  simp only [fsFrame]
  refine fits_ite fit (fits_protHoldEnd (fits_when (fun fit => fits_foldl (fun _ _ fit => fits_fsEntry fit) fit) ?_))
  have viewed : ∀ {e : Dev} {n : Nat} {laneA : Bool}, WithinDepth e → WithinDepth (
      match (ownView n laneA e).fs.nextCfg with
      | some (g, r) => { ownView n laneA e with fs := { (ownView n laneA e).fs with guard := g, refuseLimit := r, nextCfg := none } }
      | none => ownView n laneA e) := fun fit => by
    split
    · exact Moves.fs.fits (fits_ownView fit)
    · exact fits_ownView fit
  refine viewed (fits_either id fits_spacingStep ?_)
  split
  · exact fits_when fits_ownAis (fits_modFs fit)
  · exact fits_modFs fit

theorem fits_fsTimeout {n : Nat} {d : Dev} (fit : WithinDepth d) : WithinDepth (fsTimeout n d) :=
  fits_ite (fits_ownView (fits_timingHold fit)) fit

theorem fits_refusedEnable {n : Nat} {d : Dev} (fit : WithinDepth d) : WithinDepth (refusedEnable n d) :=
  fits_ite (fits_modFs (fits_raise (fits_count fit))) (fits_trip (fits_modFs (fits_modFs (fits_raise (fits_count fit)))))

theorem fits_benAsk {t : Time} {n : Nat} {level : Bool} {d : Dev} (fit : WithinDepth d) : WithinDepth (benAsk t n level d) :=
  fits_ite fit (fits_ite (fits_ite (fits_emit (fits_modFs (fits_modFs fit))) (fits_modFs fit)) (fits_ite (fits_openDue
    (fits_modFs fit)) (fits_ite (fits_refusedEnable (fits_openDue (fits_modFs fit))) (fits_ite (fits_openDue (fits_modFs fit))
    (fits_emit (fits_modFs (fits_openDue (fits_modFs fit))))))))

theorem fits_benRequest {n : Nat} {level : Bool} {d : Dev} (fit : WithinDepth d) : WithinDepth (benRequest n level d) :=
  fits_benAsk fit

theorem fits_lightDetected {n : Nat} {d : Dev} (fit : WithinDepth d) : WithinDepth (lightDetected n d) :=
  fits_ite (fits_openDue fit) (fits_modFs (fits_trip (fits_openDue fit)))

theorem fits_lightStill {n : Nat} {stage : Nat} {after : Nat} {lmon : Bool} {d : Dev} (fit : WithinDepth d) : WithinDepth
    (lightStill n stage after lmon d) := by
  simp only [lightStill]
  refine fits_ite ?_ ?_
  · exact fit
  · split
    · exact fit
    · exact fits_ite (fits_modFs fit) (fits_ite (fits_escalate fit) fit)

theorem fits_judge {n : Nat} {cause : Nat} {was : Bool} {now : Bool} {d : Dev} (fit : WithinDepth d) : WithinDepth (judge n
    cause was now d) :=
  fits_ite fit (fits_ite (fits_escalate (fits_trip fit)) (fits_trip fit))

theorem fits_opticRead {r : OpticRead} {d : Dev} (fit : WithinDepth d) : WithinDepth (opticRead r d) :=
  fits_ite fit (fits_modFs (fits_judge (fits_judge (fits_judge fit))))

theorem fits_latchAll {d : Dev} (fit : WithinDepth d) : WithinDepth (latchAll d) :=
  fits_raise (Moves.fs.fits (fits_foldl (fun _ _ fit => fits_modFs fit) (fits_newNonce (fits_drawNonce fit))))

theorem fits_selfTest {out : Nat} {assertNs : Nat} {releaseNs : Nat} {d : Dev} (fit : WithinDepth d) : WithinDepth (selfTest
    out assertNs releaseNs d) :=
  fits_ite fit (fits_ite (fits_failDark fit) (fits_ite fit (fits_ite (fits_ite (fits_latchAll (fits_setHolds fit))
    (fits_setHolds fit)) (Moves.fs.fits fit))))

theorem fits_fsLost {d : Dev} (fit : WithinDepth d) : WithinDepth (fsLost d) :=
  fits_ite fit (fits_forceAllLow (Moves.fs.fits fit))

theorem fits_releaseCommit {d : Dev} (fit : WithinDepth d) : WithinDepth (releaseCommit d) :=
  fits_ite fit (fits_raise (Moves.fs.fits (fits_foldl (fun _ _ fit => fits_modFs fit) fit)))

theorem fits_fsReleaseWrite {nonce : BitVec 32} {d : Dev} (fit : WithinDepth d) : WithinDepth (fsReleaseWrite nonce d) :=
  fits_ite (fits_releaseCommit (Moves.fs.fits fit)) (fits_count fit)

theorem fits_secretaryRelieves {d : Dev} (fit : WithinDepth d) : WithinDepth (secretaryRelieves d) :=
  fits_ite (fits_fsReleaseWrite fit) fit

theorem fits_fsRestart {key : BitVec 16} {clockOk : Bool} {d : Dev} (fit : WithinDepth d) : WithinDepth (fsRestart key clockOk
    d) :=
  fits_ite fit (fits_setHolds (fits_ite (Moves.fs.fits fit) fit))

theorem fits_fsNote {m : CtlMsg} {d : Dev} (fit : WithinDepth d) : WithinDepth (fsNote m d) :=
  fits_ite fit (Moves.fs.fits fit)

theorem fits_fsProfile {m : CtlMsg} {d : Dev} (fit : WithinDepth d) : WithinDepth (fsProfile m d) :=
  fits_ite fit (Moves.fs.fits fit)

theorem fits_fsAssign {m : CtlMsg} {d : Dev} (fit : WithinDepth d) : WithinDepth (fsAssign m d) :=
  fits_ite (Moves.fs.fits fit) fit

theorem fits_fsRangingRequest {m : CtlMsg} {d : Dev} (fit : WithinDepth d) : WithinDepth (fsRangingRequest m d) :=
  fits_ite fit (fits_ite (Moves.fs.fits (fits_fsNote fit)) (fits_fsNote fit))

theorem fits_fsRangingTime {m : CtlMsg} {d : Dev} (fit : WithinDepth d) : WithinDepth (fsRangingTime m d) := by
  simp only [fsRangingTime]
  refine fits_ite ?_ ?_
  · exact fit
  · refine fits_ite ?_ ?_
    · exact fits_fsNote fit
    · split
      · exact fits_fsNote fit
      · exact fits_protHoldEnd (Moves.fs.fits (fits_fsNote fit))

theorem fits_fsDeactivate {m : CtlMsg} {d : Dev} (fit : WithinDepth d) : WithinDepth (fsDeactivate m d) :=
  fits_ite (Moves.fs.fits (fits_fsNote fit)) fit

theorem fits_fsDisable {m : CtlMsg} {d : Dev} (fit : WithinDepth d) : WithinDepth (fsDisable m d) :=
  fits_ite (fits_forceAllLow (fits_raise (Moves.fs.fits fit))) fit

theorem fits_fsEnable {m : CtlMsg} {d : Dev} (fit : WithinDepth d) : WithinDepth (fsEnable m d) :=
  fits_ite (fits_secretaryRelieves (fits_releaseCommit (fits_raise (Moves.fs.fits fit)))) fit

/-! ## Longcase -/

theorem fits_todMessage {f : Word} {tod : Nat} {d : Dev} (fit : WithinDepth d) : WithinDepth (todMessage f tod d) :=
  fits_ite (moves_modLc.fits fit) (moves_todUse.fits fit)

theorem fits_ltStop {d : Dev} (fit : WithinDepth d) : WithinDepth (ltStop d) :=
  moves_modLc.fits (fits_ite (fits_emit (moves_ltRebase.fits fit)) (moves_ltRebase.fits fit))

theorem fits_ltResume {d : Dev} (fit : WithinDepth d) : WithinDepth (ltResume d) :=
  moves_modLc.fits fit

theorem fits_ltSettings {f : Dev → Dev} {d : Dev} (fit : WithinDepth (f (ltRebase d))) : WithinDepth (ltSettings f d) :=
  fits_ite (moves_ppsFall.fits (moves_ltEval.fits (moves_cancelSet.fits fit))) (moves_ltEval.fits (moves_cancelSet.fits fit))

/-! ## Line -/

theorem fits_chanFall {ch : Nat} {d : Dev} (fit : WithinDepth d) : WithinDepth (chanFall ch d) :=
  moves_ltEval.fits (fits_actOnDown (fits_abandonGrants (fits_raise (fits_modChan fit))))

theorem fits_chanEval {ch : Nat} {d : Dev} (fit : WithinDepth d) : WithinDepth (chanEval ch d) :=
  fits_ite fit (fits_ite (fits_actOnUp (fits_modChan fit)) (fits_chanFall fit))

theorem fits_modProt {f : Prot → Prot} {d : Dev} (fit : WithinDepth d) : WithinDepth (modProt f d) :=
  Moves.prot.fits fit

theorem fits_protNormal {d : Dev} (fit : WithinDepth d) : WithinDepth (protNormal d) :=
  fits_protHoldEnd (fits_modProt fit)

theorem fits_protEval {d : Dev} (fit : WithinDepth d) : WithinDepth (protEval d) := by
  simp only [protEval]
  refine fits_ite ?_ ?_
  · exact fit
  · split
    · exact fits_ite (fits_ite (fits_protNormal fit) fit) (fits_ite (fits_protHold (fits_modProt fit)) fit)
    · exact fits_ite fit (fits_protNormal fit)
    · exact fits_ite (fits_protNormal fit) fit
    · exact fits_ite (fits_protNormal fit) (fits_ite (fits_protHold (fits_modProt fit)) fit)
    · exact fit

theorem fits_chanRehunt {ch : Nat} {d : Dev} (fit : WithinDepth d) : WithinDepth (chanRehunt ch d) :=
  fits_chanEval (fits_raiseIf (fits_raiseIf (fits_modChan fit)))

theorem fits_toggle {cause : Option (BitVec 2)} {st : ProtState} {d : Dev} (fit : WithinDepth d) : WithinDepth (toggle cause
    st d) :=
  fits_releaseFlows (Moves.act.fits (fits_foldl (fun _ _ fit => fits_chanRehunt fit) (fits_protHold (fits_emit (fits_count
    (fits_modProt fit))))))

theorem fits_settleEnd {d : Dev} (fit : WithinDepth d) : WithinDepth (settleEnd d) :=
  fits_ite (fits_protEval (fits_protPathAnew (fits_modProt (fits_foldl (fun _ _ fit => fits_raiseIf (fits_raiseIf
    (fits_modChan fit))) fit)))) fit

theorem fits_alternate {d : Dev} (fit : WithinDepth d) : WithinDepth (alternate d) :=
  fits_toggle (fits_modProt fit)

theorem fits_holdoffExpiry {d : Dev} (fit : WithinDepth d) : WithinDepth (holdoffExpiry d) :=
  fits_ite (fits_ite (fits_toggle fit) (fits_protNormal fit)) fit

theorem fits_checkExpiry {d : Dev} (fit : WithinDepth d) : WithinDepth (checkExpiry d) :=
  fits_ite (fits_ite (fits_protEval (fits_modProt fit)) (fits_ite (fits_alternate (fits_modProt fit)) (fits_protNormal
    (fits_modProt fit)))) fit

theorem fits_dwellExpiry {d : Dev} (fit : WithinDepth d) : WithinDepth (dwellExpiry d) :=
  fits_ite (fits_alternate fit) fit

theorem fits_protCommand {path : Bool} {cause : BitVec 2} {d : Dev} (fit : WithinDepth d) : WithinDepth (protCommand path
    cause d).2 :=
  fits_ite_snd fit (fits_ite_snd fit (fits_toggle fit))

theorem fits_protEnableChanged {was : Bool} {cause : BitVec 2} {d : Dev} (fit : WithinDepth d) : WithinDepth
    (protEnableChanged was cause d) :=
  fits_ite (fits_ite (fits_toggle fit) fit) fit

theorem fits_protSettings {f : Dev → Dev} {cause : BitVec 2} {d : Dev} (fit : WithinDepth (f d)) :
    WithinDepth (protSettings f cause d) :=
  fits_protEval (fits_protEnableChanged fit)

theorem fits_protCtrlWrite {v : Word} {d : Dev} (fit : WithinDepth d) : WithinDepth (protCtrlWrite v d) := by
  have stored : WithinDepth (protSettings (storeWrite .protCtrl 0 v) 3 d) := fits_protSettings (fits_storeWrite fit)
  simp only [protCtrlWrite]
  split
  · exact fits_protCommand stored
  · exact fits_protCommand stored
  · exact stored

theorem fits_protStart {d : Dev} (fit : WithinDepth d) : WithinDepth (protStart d) :=
  fits_ite (fits_ite (fits_emit (fits_modProt fit)) (fits_modProt fit)) fit

theorem fits_laneLos {ch : Nat} {laneB : Bool} {d : Dev} (fit : WithinDepth d) : WithinDepth (laneLos ch laneB d) :=
  fits_ite fit (fits_chanEval (fits_raise (fits_raiseIf (fits_modChan (fits_modLane fit)))))

theorem fits_laneNoSignal {ch : Nat} {laneB : Bool} {d : Dev} (fit : WithinDepth d) : WithinDepth (laneNoSignal ch laneB d) :=
  fits_laneLos (fits_modLane fit)

theorem fits_losEntered {ch : Nat} {c : LosCause} {d : Dev} (fit : WithinDepth d) : WithinDepth (losEntered ch c d) := by
  simp only [losEntered]
  refine fits_ite ?_ ?_
  · exact fit
  · refine fits_protEval ?_
    split
    · exact fits_laneLos (fits_laneLos (fits_modChan fit))
    · exact fits_laneNoSignal fit
    · exact fits_laneNoSignal fit

theorem fits_losLeft {ch : Nat} {laneB : Bool} {d : Dev} (fit : WithinDepth d) : WithinDepth (losLeft ch laneB d) :=
  fits_ite fit (fits_ite (fits_modChan (fits_modLane fit)) (fits_protEval (fits_modLane (fits_modChan (fits_modLane fit)))))

theorem fits_frameFec {ch : Nat} {laneB : Bool} {inv : Bool} {cws : List RxCodeword} {d : Dev} (fit : WithinDepth d) :
    WithinDepth (frameFec ch laneB inv cws d) :=
  fits_modLane (fits_countN (fits_countN (fits_countN fit)))

theorem fits_aisRdi {ch : Nat} {h : Nat} {d : Dev} (fit : WithinDepth d) : WithinDepth (aisRdi ch h d) :=
  fits_raiseIf (fits_raiseIf (fits_modChan fit))

theorem fits_skewPair {ch : Nat} {d : Dev} (fit : WithinDepth d) : WithinDepth (skewPair ch d) := by
  simp only [skewPair]
  split
  · exact fits_ite fit (fits_raiseIf (fits_modChan fit))
  · exact fit

theorem fits_fcJump {ch : Nat} {d : Dev} (fit : WithinDepth d) : WithinDepth (fcJump ch d) :=
  fits_ite (Moves.lc.fits (fits_ite (moves_todDiscard.fits (fits_raise fit)) (fits_raise fit))) (fits_raise fit)

theorem fits_recordFrame {ch : Nat} {fc : Word} {t0 : Time} {ok : Bool} {d : Dev} (fit : WithinDepth d) : WithinDepth
    (recordFrame ch fc t0 ok d) :=
  Moves.lc.fits fit

/-- A step taken with a header where there is one. -/
theorem fits_header {v : Option Nat} {g : Nat → Dev} {d : Dev} (step : ∀ h, WithinDepth d → WithinDepth (g h))
    (fit : WithinDepth d) : WithinDepth (match v with | some h => g h | none => d) := by
  cases v with
  | some h => exact step h fit
  | none => exact fit

theorem fits_syncBlock {f : LineFrame} {inv : Bool} {steady : Bool} {d : Dev} (fit : WithinDepth d) : WithinDepth (syncBlock f
    inv steady d) := by
  simp only [syncBlock]
  refine fits_header (fun _ => fits_when fun fit => fits_setFld (fits_aisRdi fit)) ?_
  refine fits_raiseIf (fits_modLane (fits_countN (fits_when fits_fcJump ?_)))
  exact fits_header (fun _ => fits_when fits_count) (fits_when fits_count fit)

theorem fits_takeOverhead {f : LineFrame} {inv : Bool} {t0 : Time} {v : Option Nat} {d : Dev} (fit : WithinDepth d) :
    WithinDepth (takeOverhead f inv t0 v d) :=
  fits_ite (fits_modChan fit) fit

theorem fits_lineFrame {f : LineFrame} {d : Dev} (fit : WithinDepth d) : WithinDepth (lineFrame f d) := by
  simp only [lineFrame]
  refine fits_ite fit (fits_either (fun fit => fits_protEval (fits_chanEval (fits_raiseIf (fits_modChan (fits_modLane fit)))))
    (fun fit => ?_) (fits_modLane (fits_areaEnd (fits_when fits_count fit))))
  refine fits_either fits_protEval (fun fit => ?_) (fits_chanEval (fits_skewPair (fits_frameFec (fits_syncBlock fit))))
  exact fits_when fits_takeMap (fits_takeOverhead (fits_protEval (fits_when fits_recordFrame (fits_when fits_modChan fit))))

theorem fits_sdBoundary {ch : Nat} {d : Dev} (fit : WithinDepth d) : WithinDepth (sdBoundary ch d) :=
  fits_ite (fits_ite (fits_modChan fit) (fits_modChan fit)) (fits_ite (fits_raise (fits_modChan fit)) (fits_modChan fit))

theorem fits_sdAll {d : Dev} (fit : WithinDepth d) : WithinDepth (sdAll d) :=
  fits_protEval (fits_foldl (fun _ _ fit => fits_sdBoundary fit) fit)

/-! ## Lanes -/

theorem fits_setLaneState {k : Nat} {st : Nat} {f : SerialLane → SerialLane} {d : Dev} (fit : WithinDepth d) : WithinDepth
    (setLaneState k st f d) :=
  fits_ite (fits_ite (fits_raise (fits_count (moves_modSerial.fits fit))) (fits_ite (fits_protEval (fits_laneNoSignal
    (fits_count (moves_modSerial.fits fit)))) (moves_modSerial.fits fit))) (fits_ite (fits_raise (moves_modSerial.fits fit))
    (moves_modSerial.fits fit))

theorem fits_moveLane {k : Nat} {a : Nat} {b : Nat} {f : SerialLane → SerialLane} {d : Dev} (fit : WithinDepth d) :
    WithinDepth (moveLane k a b f d) :=
  fits_foldl (fun _ _ fit => fits_ite (fits_setLaneState fit) fit) fit

theorem fits_toDetect {k : Nat} {a : Nat} {quiet : Bool} {d : Dev} (fit : WithinDepth d) : WithinDepth (toDetect k a quiet d) :=
  fits_moveLane fit

theorem fits_laneRefresh {k : Nat} {d : Dev} (fit : WithinDepth d) : WithinDepth (laneRefresh k d) :=
  fits_ite fit (fits_ite (fits_ite (fits_setLaneState fit) fit) (fits_ite fit (fits_setLaneState fit)))

theorem fits_lanesRefresh {d : Dev} (fit : WithinDepth d) : WithinDepth (lanesRefresh d) :=
  fits_foldl (fun _ _ fit => fits_laneRefresh fit) fit

theorem fits_laneRestart {k : Nat} {d : Dev} (fit : WithinDepth d) : WithinDepth (laneRestart k d) :=
  fits_ite fit (fits_setLaneState fit)

theorem fits_trainLane {x : Nat} {d : Dev} (fit : WithinDepth d) : WithinDepth (trainLane x d) :=
  fits_emit fit

theorem fits_toTrain {k : Nat} {a : Nat} {f : SerialLane → SerialLane} {d : Dev} (fit : WithinDepth d) : WithinDepth (toTrain
    k a f d) :=
  fits_foldl (fun _ _ fit => fits_trainLane fit) (fits_moveLane fit)

theorem fits_signalDetected {k : Nat} {d : Dev} (fit : WithinDepth d) : WithinDepth (signalDetected k d) :=
  fits_ite fit (fits_ite (fits_toTrain fit) (fits_ite (fits_emit (fits_moveLane fit)) (fits_moveLane fit)))

theorem fits_negotiated {k : Nat} {d : Dev} (fit : WithinDepth d) : WithinDepth (negotiated k d) :=
  fits_toTrain fit

theorem fits_negotiationFailed {k : Nat} {d : Dev} (fit : WithinDepth d) : WithinDepth (negotiationFailed k d) :=
  fits_ite (fits_raise (fits_count (moves_modSerial.fits fit))) fit

theorem fits_trainFail {c : CName} {k : Nat} {d : Dev} (fit : WithinDepth d) : WithinDepth (trainFail c k d) :=
  fits_ite (fits_raise (fits_count fit)) (fits_count fit)

theorem fits_trained {k : Nat} {ptx : Bool} {prx : Bool} {d : Dev} (fit : WithinDepth d) : WithinDepth (trained k ptx prx d) :=
  fits_ite fit (fits_moveLane fit)

theorem fits_trainTimeout {k : Nat} {d : Dev} (fit : WithinDepth d) : WithinDepth (trainTimeout k d) :=
  fits_ite (fits_trainFail (fits_toDetect fit)) fit

theorem fits_laneLocked {k : Nat} {d : Dev} (fit : WithinDepth d) : WithinDepth (laneLocked k d) :=
  fits_ite fit (fits_ite (fits_moveLane fit) (fits_moveLane fit))

theorem fits_lockTimeout {k : Nat} {d : Dev} (fit : WithinDepth d) : WithinDepth (lockTimeout k d) :=
  fits_ite fit (fits_trainFail (fits_toDetect fit))

theorem fits_exchanged {k : Nat} {d : Dev} (fit : WithinDepth d) : WithinDepth (exchanged k d) :=
  fits_moveLane fit

theorem fits_exchangeTimeout {k : Nat} {d : Dev} (fit : WithinDepth d) : WithinDepth (exchangeTimeout k d) :=
  fits_toDetect fit

theorem fits_signalLost {k : Nat} {d : Dev} (fit : WithinDepth d) : WithinDepth (signalLost k d) :=
  fits_ite fit (fits_ite (fits_setLaneState fit) (fits_ite (fits_setLaneState fit) fit))

theorem fits_retrainPair {k : Nat} {d : Dev} (fit : WithinDepth d) : WithinDepth (retrainPair k d) :=
  fits_foldl (fun _ _ fit => fits_ite fit (fits_setLaneState fit)) fit

theorem fits_retrainTimeout {k : Nat} {d : Dev} (fit : WithinDepth d) : WithinDepth (retrainTimeout k d) :=
  fits_ite (fits_retrainPair fit) fit

theorem fits_retrainChan {ch : Nat} {d : Dev} (fit : WithinDepth d) : WithinDepth (retrainChan ch d) :=
  fits_ite (fits_retrainPair (fits_retrainPair fit)) fit

theorem fits_testEmit {t : Nat} {d : Dev} (fit : WithinDepth d) : WithinDepth (testEmit t d) :=
  fits_ite fit (fits_ite (fits_emit fit) (fits_ite fit (fits_emit fit)))

theorem fits_testOut {t : Nat} {d : Dev} (fit : WithinDepth d) : WithinDepth (testOut t d) :=
  fits_ite (fits_emit (fits_testEmit fit)) (fits_testEmit fit)

theorem fits_testMark {t : Nat} {d : Dev} (fit : WithinDepth d) : WithinDepth (testMark t d) :=
  moves_modSerial.fits fit

theorem fits_testFinal {t : Nat} {c : LaneCounts} {d : Dev} (fit : WithinDepth d) : WithinDepth (testFinal t c d) :=
  fits_testMark (fits_testCounts fit)

theorem fits_testClear {t : Nat} {d : Dev} (fit : WithinDepth d) : WithinDepth (testClear t d) :=
  fits_setFld (fits_setReg (fits_setReg (fits_setReg (fits_setReg fit))))

theorem fits_testEnter {t : Nat} {d : Dev} (fit : WithinDepth d) : WithinDepth (testEnter t d) :=
  fits_foldl (fun _ _ fit => fits_ite fit (fits_setLaneState fit)) fit

theorem fits_testLeave {t : Nat} {d : Dev} (fit : WithinDepth d) : WithinDepth (testLeave t d) :=
  fits_foldl (fun _ _ fit => fits_ite (fits_laneRefresh (fits_setLaneState fit)) fit) (fits_setFld fit)

theorem fits_testCtrl {t : Nat} {v : Word} {d : Dev} (fit : WithinDepth d) : WithinDepth (testCtrl t v d) := by
  simp only [testCtrl]
  refine fits_ite fit (fits_ite (fits_setFld fit) ?_)
  refine fits_either (fun fit => fits_either id fits_testOut (fits_testEnter fit)) fits_testLeave (fits_either id fits_setFld ?_)
  exact fits_when (fun fit => fits_testMark (fits_testClear fit)) (fits_setFld (fits_storeWrite (fits_testSync fit)))

theorem fits_checkerLock {t : Nat} {d : Dev} (fit : WithinDepth d) : WithinDepth (checkerLock t d) :=
  fits_ite (fits_testMark (fits_setFld fit)) fit

theorem fits_checkerLoss {t : Nat} {c : LaneCounts} {d : Dev} (fit : WithinDepth d) : WithinDepth (checkerLoss t c d) :=
  fits_ite (fits_testAdd (fits_setFld (fits_testFinal fit))) fit

theorem fits_testStop {t : Nat} {v : Word} {c : LaneCounts} {d : Dev} (fit : WithinDepth d) : WithinDepth (testStop t v c d) :=
  fits_testCtrl (fits_ite (fits_setFld (fits_testFinal fit)) fit)

/-! ## Messages -/

theorem fits_upMessage {ty : Nat} {content : List Byte} {d : Dev} (fit : WithinDepth d) : WithinDepth (upMessage ty content
    d).2 :=
  fits_snd (moves_nextFree.fits fit)

theorem fits_queueMessage {ty : Nat} {content : List Byte} {d : Dev} (fit : WithinDepth d) :
    WithinDepth (queueMessage ty content d) := by
  simp only [queueMessage]
  generalize made : upMessage ty content d = x
  exact Moves.act.fits (fits_of_eq Prod.snd made (fits_upMessage fit))

theorem fits_acknowledge {m : CtlMsg} {result : Nat} {d : Dev} (fit : WithinDepth d) : WithinDepth (acknowledge m result d) :=
  fits_ite (fits_queueMessage fit) fit

theorem fits_actDirected {m : CtlMsg} {f : Dev → Nat × Dev} {d : Dev} (fit : WithinDepth (f d).2) :
    WithinDepth (actDirected m f d) := by
  simp only [actDirected]
  exact fits_acknowledge (Moves.act.fits fit)

theorem fits_receive {ty : Nat} {m : CtlMsg} {f : Dev → Nat × Dev} {d : Dev} (h : ∀ d, WithinDepth d → WithinDepth (f d).2)
    (fit : WithinDepth d) : WithinDepth (receive ty m f d) := by
  have erased : WithinDepth { d with act := { d.act with inbox := d.act.inbox.erase m } } := Moves.act.fits fit
  simp only [receive]
  refine fits_ite erased (fits_ite (fits_count erased) (fits_ite erased ?_))
  split
  · exact fits_count erased
  · refine fits_ite erased (fits_ite (h _ erased) ?_)
    split
    · exact fits_ite (fits_acknowledge erased) (fits_actDirected (h _ erased))
    · exact fits_actDirected (h _ erased)

theorem fits_outOfRange {d : Dev} (fit : WithinDepth d) : WithinDepth (outOfRange d).2 :=
  fits_snd (fits_count fit)

theorem fits_setProfile {p : Nat} {c : ProfCfg} {d : Dev} (fit : WithinDepth d) : WithinDepth (setProfile p c d) :=
  fits_setFld (fits_setFld (fits_setFld (fits_setFld (fits_setFld (fits_setFld (fits_setFld (fits_setFld fit)))))))

theorem fits_burstProfile {m : CtlMsg} {d : Dev} (fit : WithinDepth d) : WithinDepth (burstProfile m d).2 :=
  fits_ite_snd (fits_ite_snd (fits_count fit) (fits_outOfRange fit)) (fits_settleState (fits_setProfile (Moves.up.fits fit)))

theorem fits_assignTerminal {m : CtlMsg} {d : Dev} (fit : WithinDepth d) : WithinDepth (assignTerminal m d).2 :=
  fits_ite_snd fit (fits_ite_snd (fits_count fit) (fits_startRanging (fits_setState (fits_setFld (fits_setFld (fits_setFld
    (fits_ite fit (fits_forgetFlow fit))))))))

theorem fits_rangingRequest {m : CtlMsg} {d : Dev} (fit : WithinDepth d) : WithinDepth (rangingRequest m d).2 :=
  fits_ite_snd fit (fits_ite_snd fit (fits_ite_snd fit (Moves.act.fits fit)))

theorem fits_rangingTime {m : CtlMsg} {d : Dev} (fit : WithinDepth d) : WithinDepth (rangingTime m d).2 := by
  simp only [rangingTime]
  refine fits_ite_snd ?_ ?_
  · exact fit
  · split
    · exact fits_snd (fits_count fit)
    · exact fits_ite_snd (fits_setState (Moves.act.fits (fits_raise (Moves.act.fits fit)))) (fits_raise (Moves.act.fits fit))

theorem fits_deactivate {d : Dev} (fit : WithinDepth d) : WithinDepth (deactivate d).2 :=
  fits_snd (fits_settleState (fits_clearRecord (fits_setState (Moves.act.fits (fits_abandonGrants (fits_raise fit))))))

theorem fits_disable {m : CtlMsg} {d : Dev} (fit : WithinDepth d) : WithinDepth (disable m d).2 :=
  fits_ite_snd (fits_outOfRange fit) (fits_ite_snd fit (fits_ite_snd (Moves.act.fits fit) (fits_setState (fits_raise
    (fits_abandonGrants (Moves.act.fits fit))))))

theorem fits_nonceCheck {m : CtlMsg} {d : Dev} (fit : WithinDepth d) : WithinDepth (nonceCheck m d) :=
  fits_ite (fits_count fit) fit

theorem fits_enable {m : CtlMsg} {nonce : BitVec 32} {d : Dev} (fit : WithinDepth d) : WithinDepth (enable m nonce d).2 :=
  fits_ite_snd (fits_outOfRange fit) (fits_ite_snd fit (fits_ite_snd fit (fits_secretaryRelease (Moves.act.fits fit))))

theorem fits_keyControl {m : CtlMsg} {d : Dev} (fit : WithinDepth d) : WithinDepth (keyControl m d).2 :=
  fits_ite_snd fit (fits_ite_snd (Moves.act.fits fit) fit)

theorem fits_keySwitchCommit {d : Dev} (fit : WithinDepth d) : WithinDepth (keySwitchCommit d) := by
  simp only [keySwitchCommit]
  split
  · exact fits_ite (fits_setReg (Moves.act.fits fit)) fit
  · exact fit

theorem fits_timeOfDay {m : CtlMsg} {d : Dev} (fit : WithinDepth d) : WithinDepth (timeOfDay m d).2 :=
  fits_ite_snd (fits_outOfRange fit) (fits_todMessage fit)

theorem fits_sleepAllow {m : CtlMsg} {d : Dev} (fit : WithinDepth d) : WithinDepth (sleepAllow m d).2 :=
  fits_ite_snd fit (fits_ite_snd (Moves.act.fits (fits_raise fit)) (fits_endConsent (fits_raise fit)))

theorem fits_protectionControl {m : CtlMsg} {d : Dev} (fit : WithinDepth d) : WithinDepth (protectionControl m d).2 :=
  fits_ite_snd fit (fits_ite_snd fit (fits_ite_snd (fits_ite fit (fits_protEval (fits_setFld (Moves.act.fits fit))))
    (fits_protCommand (fits_ite fit (fits_protEval (fits_setFld (Moves.act.fits fit)))))))

theorem fits_fsOn {ty : Nat} {f : CtlMsg → Dev → Dev} {m : CtlMsg} {d : Dev} (h : WithinDepth (f m d)) (fit : WithinDepth d) :
    WithinDepth (fsOn ty f m d) :=
  fits_ite h fit

/-! ## Bursts -/

theorem fits_sealEnv {g : Grant} {e : OutEnv} {d : Dev} (fit : WithinDepth d) : WithinDepth (sealEnv g e d).2 :=
  fits_ite_snd (fits_cipherUse fit) fit

theorem fits_nextOrder {d : Dev} (fit : WithinDepth d) : WithinDepth (nextOrder d).2 :=
  fits_snd (Moves.up.fits fit)

theorem fits_dropOutCopy {slot : Nat} {x : OutEnv} {d : Dev} (fit : WithinDepth d) : WithinDepth (dropOutCopy slot x d) := by
  simp only [dropOutCopy]
  split
  · exact fits_takeOut (fun _ _ fit => fit) (moves_endEnvs.fits (fits_count (Moves.up.fits fit)))
  · exact moves_endEnvs.fits (fits_count (Moves.up.fits fit))

theorem fits_purgeReissue {slot : Nat} {d : Dev} (fit : WithinDepth d) : WithinDepth (purgeReissue slot d) :=
  fits_foldl (fun _ _ fit => fits_dropOutCopy fit) fit

theorem fits_nextSeq {flow : Nat} {d : Dev} (fit : WithinDepth d) : WithinDepth (nextSeq flow d).2 :=
  fits_snd (Moves.up.fits fit)

theorem fits_wardrobeRead {d : Dev} (fit : WithinDepth d) : WithinDepth (wardrobeRead d) :=
  fits_raise (fits_count fit)

theorem fits_dropEcc {q : Nat} {p : QPkt} {d : Dev} (fit : WithinDepth d) : WithinDepth (dropEcc q p d) :=
  fits_ite (fits_raise (fits_count (moves_drainDown.fits (moves_emptied.fits (moves_popQueue.fits fit))))) (fits_raise
    (fits_count (moves_drainDown.fits (moves_emptied.fits (moves_popQueue.fits fit)))))

theorem fits_pageRead {p : QPkt} {d : Dev} (fit : WithinDepth d) : WithinDepth (pageRead p d) := by
  simp only [pageRead]
  split
  · exact fits_ite fit (moves_mapReads.fits fit)
  · exact fit

theorem fits_headEnv {q : Nat} {p : QPkt} {n : Nat} {last : Bool} {d : Dev} (fit : WithinDepth d) : WithinDepth (headEnv q p n
    last d).2 :=
  fits_snd (fits_nextOrder (fits_nextSeq (fits_pageRead fit)))

/-! ### What a fill point places, with the device beside the filling -/

theorem fits_placeOn {g : Grant} {laneB : Bool} {n : Nat} {e : OutEnv} {fd : Filling × Dev} (fit : WithinDepth fd.2) :
    WithinDepth (placeOn g laneB n e fd).2 := by
  simp only [placeOn]
  split
  · exact fits_snd (fits_sealEnv fit)
  · exact fit

theorem fits_place {g : Grant} {e : OutEnv} {fd y : Filling × Dev} (fit : WithinDepth fd.2) (placed : place g e fd = some y) :
    WithinDepth y.2 := by
  simp only [place, Option.map_eq_some_iff] at placed
  obtain ⟨l, -, rfl⟩ := placed
  exact fits_placeOn fit

theorem fits_placeMessage {g : Grant} {m : List Byte} {data : Bool} {fd y : Filling × Dev} (fit : WithinDepth fd.2)
    (placed : placeMessage g m data fd = some y) : WithinDepth y.2 :=
  fits_place (fd := (fd.1, (nextOrder fd.2).2)) (fits_nextOrder fit) placed

/-- A message that finds no place leaves what was there. -/
theorem fits_getD {o : Option (Filling × Dev)} {fd : Filling × Dev} (h : ∀ y, o = some y → WithinDepth y.2)
    (fit : WithinDepth fd.2) : WithinDepth (o.getD fd).2 := by
  cases o with
  | none => exact fit
  | some y => exact h y rfl

theorem fits_placeResponse {g : Grant} {fd : Filling × Dev} (fit : WithinDepth fd.2) : WithinDepth (placeResponse g fd).2 := by
  simp only [placeResponse]
  generalize made : upMessage _ _ fd.2 = x
  have here := fits_of_eq Prod.snd made (fits_upMessage fit)
  exact fits_getD (fun _ => fits_placeMessage here) here

theorem fits_placeGasp {g : Grant} {fd : Filling × Dev} (fit : WithinDepth fd.2) : WithinDepth (placeGasp g fd).2 := by
  simp only [placeGasp]
  split
  · generalize made : upMessage _ _ fd.2 = x
    have here := fits_of_eq Prod.snd made (fits_upMessage fit)
    exact fits_getD (fun _ => fits_placeMessage here) fit
  · exact fit

theorem fits_placeTrip {g : Grant} {fd : Filling × Dev} (fit : WithinDepth fd.2) : WithinDepth (placeTrip g fd).2 := by
  simp only [placeTrip]
  split
  · generalize made : upMessage _ _ fd.2 = x
    have here := fits_of_eq Prod.snd made (fits_upMessage fit)
    split
    · next placed => exact fits_snd (Moves.fs.fits (fits_placeMessage (fd := (_, _)) here placed :))
    · exact fit
  · exact fit

theorem fits_placeNotice {g : Grant} {fd : Filling × Dev} (fit : WithinDepth fd.2) : WithinDepth (placeNotice g fd).2 := by
  simp only [placeNotice]
  split
  · split
    · exact fit
    · generalize made : upMessage _ _ fd.2 = x
      have here := fits_of_eq Prod.snd made (fits_upMessage fit)
      split
      · next placed => exact fits_snd (Moves.act.fits (fits_placeMessage (fd := (_, _)) here placed :))
      · exact fit
  · exact fit

theorem fits_placeOutbox {g : Grant} {l : List (List Byte)} {fd : Filling × Dev} (fit : WithinDepth fd.2) :
    WithinDepth (placeOutbox g l fd).2 := by
  induction l generalizing fd with
  | nil => exact fit
  | cons m l ih =>
    simp only [placeOutbox]
    split
    · next placed => exact ih (Moves.act.fits (fits_placeMessage fit placed))
    · exact fit

theorem fits_placeReissue {g : Grant} {l kept : List OutEnv} {fd : Filling × Dev} (fit : WithinDepth fd.2) :
    WithinDepth (placeReissue g l kept fd).2.2.2 := by
  induction l generalizing kept fd with
  | nil => exact fit
  | cons e l ih =>
    simp only [placeReissue]
    split
    · exact ih fit
    · split
      · next placed => exact ih (fits_place fit placed)
      · exact fit

theorem fits_noteShort {g : Grant} {fd : Filling × Dev} (fit : WithinDepth fd.2) : WithinDepth (noteShort g fd).2 := by
  obtain ⟨f, d⟩ := fd
  simp only [noteShort]
  exact fits_ite_snd fit (fits_raise (fits_countN fit))

theorem fits_placeData {g : Grant} {fuel : Nat} {fd : Filling × Dev} (fit : WithinDepth fd.2) :
    WithinDepth (placeData g fuel fd).2 := by
  induction fuel generalizing fd with
  | zero => exact fit
  | succ fuel ih =>
    unfold placeData
    dsimp only
    generalize short : noteShort g _ = x
    have noted : WithinDepth x.2 :=
      fits_of_eq Prod.snd short (fits_noteShort (fd := (_, _)) (fits_snd (moves_purgeNode.fits fit)))
    generalize next : nextQueue _ _ _ x.2 = y
    have here : WithinDepth y.2 := fits_of_eq Prod.snd next (moves_nextQueue.fits noted)
    obtain ⟨_ | q, d⟩ := y
    · exact here
    · dsimp only at here ⊢
      split
      · exact here
      · split
        · exact ih (fits_dropEcc here)
        · split
          · exact ih (fits_dropEcc (fits_wardrobeRead here))
          · split
            · exact ih (moves_dropPage.fits (fits_wardrobeRead here))
            · split
              · exact ih (fits_placeOn (moves_charge.fits (moves_popQueue.fits (fits_headEnv here))))
              · split
                · exact here
                · exact ih (fits_placeOn (moves_charge.fits (moves_modQueue.fits (fits_headEnv here))))

theorem fits_placeAll {g : Grant} {fd : Filling × Dev} (fit : WithinDepth fd.2) : WithinDepth (placeAll g fd).2 := by
  have first := fits_placeGasp (g := g) (fits_placeTrip (g := g) fit)
  unfold placeAll
  dsimp only
  generalize told : (if carriesControl _ g then _ else _) = x
  have here : WithinDepth x.2 :=
    fits_of_eq Prod.snd told (fits_ite_of Prod.snd (fits_placeNotice (fits_placeOutbox first)) first)
  split
  · exact here
  · generalize again : placeReissue g _ [] _ = y
    have kept : WithinDepth y.2.2.2 :=
      fits_of_eq (fun y => y.2.2.2) again (fits_placeReissue (fd := (_, _)) (fits_snd (fits_purgeReissue here)))
    split
    · exact Moves.up.fits kept
    · exact fits_placeData (fd := (_, _)) (fits_snd (Moves.up.fits kept))

theorem fits_fillGrant {g : Grant} {d : Dev} (fit : WithinDepth d) : WithinDepth (fillGrant g d).2 := by
  have told : WithinDepth (if isTribGrant d g && !holdsTrib d g then count .tribGrantShort 0 d else d) :=
    fits_ite (fits_count fit) fit
  unfold fillGrant
  dsimp only
  generalize (if isTribGrant d g && !holdsTrib d g then count .tribGrantShort 0 d else d) = x at told ⊢
  generalize drawn : (if isTribGrant d g && holdsTrib d g then
    { x with up := { x.up with blocks := x.up.blocks.drop 1 } } else x) = y
  have shown : WithinDepth y := fits_of_eq id drawn (fits_ite (Moves.up.fits told) told)
  generalize filled : (if g.kind == .data then placeAll g (_, y) else placeResponse g (_, y)) = z
  have placed : WithinDepth z.2 := fits_of_eq Prod.snd filled (fits_ite_of Prod.snd
    (fits_placeAll (fd := (_, _)) (fits_snd shown)) (fits_placeResponse (fd := (_, _)) (fits_snd shown)))
  split
  · split
    · exact Moves.up.fits placed
    · exact placed
  · exact placed

theorem fits_dropGrant {g : Grant} {d : Dev} (fit : WithinDepth d) : WithinDepth (dropGrant g d) :=
  Moves.up.fits fit

theorem fits_fillNow {g : Grant} {d : Dev} (fit : WithinDepth d) : WithinDepth (fillNow g d) :=
  moves_setGrant.fits (fits_fillGrant fit)

theorem fits_badHead {q : Nat} {d : Dev} (fit : WithinDepth d) : WithinDepth (badHead q d) :=
  moves_modQueue.fits fit

theorem fits_grantFill {ch : Nat} {bad : List Nat} {d : Dev} (fit : WithinDepth d) : WithinDepth (grantFill ch bad d) := by
  simp only [grantFill]
  split
  · exact fits_ite (fits_fillNow (fits_foldl (fun _ _ fit => fits_badHead fit) fit)) fit
  · exact fit

theorem fits_prefetchDone {ch : Nat} {d : Dev} (fit : WithinDepth d) : WithinDepth (prefetchDone ch d) := by
  simp only [prefetchDone]
  split
  · exact moves_setGrant.fits (moves_dropUnread.fits fit)
  · exact moves_dropUnread.fits fit

theorem fits_giveBack {es : List OutEnv} {d : Dev} {q : Nat} (fit : WithinDepth d) : WithinDepth (giveBack es d q) :=
  moves_modQueue.fits fit

theorem fits_prefetchLate {c : Content} {d : Dev} (fit : WithinDepth d) : WithinDepth (prefetchLate c d).2 :=
  fits_snd (fits_raise (fits_foldl (fun _ _ fit => fits_giveBack fit) fit))

theorem fits_countBurst {g : Grant} {c : Content} {d : Dev} (fit : WithinDepth d) : WithinDepth (countBurst g c d) :=
  fits_ite (fits_countN (fits_countN fit)) (fits_foldl (fun _ _ fit => fits_countN fit) (fits_countN (fits_countN (fits_countN
    (fits_countN fit)))))

theorem fits_burstLeaves {g : Grant} {c : Content} {d : Dev} (fit : WithinDepth d) : WithinDepth (burstLeaves g c d) :=
  fits_ite (fits_raiseIf (Moves.act.fits (moves_endEnvs.fits (fits_countBurst (moves_setGrant.fits fit)))))
    (moves_endEnvs.fits (fits_countBurst (moves_setGrant.fits fit)))

theorem fits_lightGrant {g : Grant} {c : Content} {d : Dev} (fit : WithinDepth d) : WithinDepth (lightGrant g c d) :=
  fits_ite (fits_dropGrant (fits_loseGrant (fits_ite fit (fits_benAsk fit)))) (fits_emit (fits_burstLeaves (fits_ite_snd
    (fits_ite fit (fits_benAsk fit)) (fits_prefetchLate (fits_ite fit (fits_benAsk fit))))))

theorem fits_burstStart {ch : Nat} {d : Dev} (fit : WithinDepth d) : WithinDepth (burstStart ch d) := by
  simp only [burstStart]
  split
  · exact fit
  · refine fits_ite ?_ ?_
    · exact fit
    · split
      · exact fits_lightGrant fit
      · exact fits_lightGrant (moves_setGrant.fits (fits_fillGrant fit))

theorem fits_tribExpiry {d : Dev} (fit : WithinDepth d) : WithinDepth (tribExpiry d) :=
  fits_ite fit (fits_raise (fits_countN (Moves.up.fits fit)))

theorem fits_burstEnd {ch : Nat} {d : Dev} (fit : WithinDepth d) : WithinDepth (burstEnd ch d) := by
  simp only [burstEnd]
  split
  · exact fits_ite (Moves.up.fits (fits_count (fits_leaveBurst (fits_dropGrant fit)))) (fits_benAsk (Moves.up.fits (fits_count
      (fits_leaveBurst (fits_dropGrant fit)))))
  · exact fit

theorem fits_addGasp {g : Grant} {d : Dev} (fit : WithinDepth d) : WithinDepth (addGasp d g) := by
  unfold addGasp
  split
  · exact fit
  · split
    · exact fit
    · dsimp only
      generalize first : placeReissue g _ [] (_, d) = x
      have trips : WithinDepth x.2.2.2 :=
        fits_of_eq (fun x => x.2.2.2) first (fits_placeReissue (fd := (_, _)) (fits_snd fit))
      generalize gasp : placeGasp g _ = y
      have gasped : WithinDepth y.2 := fits_of_eq Prod.snd gasp (fits_placeGasp (fd := (_, _)) (fits_snd trips))
      generalize rest : placeReissue g _ [] (_, y.2) = z
      have kept : WithinDepth z.2.2.2 :=
        fits_of_eq (fun x => x.2.2.2) rest (fits_placeReissue (fd := (_, _)) (fits_snd gasped))
      exact moves_setGrant.fits (Moves.up.fits kept)

theorem fits_pfailFall {d : Dev} (fit : WithinDepth d) : WithinDepth (pfailFall d) :=
  fits_foldl (fun _ _ fit => fits_addGasp fit) (Moves.act.fits fit)

theorem fits_pfailRise {d : Dev} (fit : WithinDepth d) : WithinDepth (pfailRise d) :=
  fits_same fit rfl

/-! ## Tributaries -/

theorem fits_setDefect {f : Fld} {ev : Fld} {k : Nat} {on : Bool} {d : Dev} (fit : WithinDepth d) : WithinDepth (setDefect f
    ev k on d) :=
  fits_ite (fits_raise (fits_raise (fits_setFld fit))) (fits_setFld fit)

theorem fits_tribFresh {k : Nat} {d : Dev} (fit : WithinDepth d) : WithinDepth (tribFresh k d) :=
  fits_setReg (moves_modTrib.fits fit)

theorem fits_checkPattern {k : Nat} {bs : List Bool} {d : Dev} (fit : WithinDepth d) : WithinDepth (checkPattern k bs d) :=
  fits_countN (moves_modTrib.fits fit)

theorem fits_stepDefect {f : Fld} {ev : Fld} {k : Nat} {seen : Bool} {run : Nat} {d : Dev} (fit : WithinDepth d) : WithinDepth
    (stepDefect f ev k seen run d).2 :=
  fits_snd (fits_setDefect fit)

theorem fits_labelDefects {k : Nat} {label : Nat} {d : Dev} (fit : WithinDepth d) : WithinDepth (labelDefects k label d) :=
  moves_modTrib.fits (fits_stepDefect (fits_stepDefect (fits_stepDefect fit)))

theorem fits_setTxRdi {k : Nat} {d : Dev} (fit : WithinDepth d) : WithinDepth (setTxRdi k d) :=
  fits_setFld fit

theorem fits_judgeContainer {k : Nat} {c : Option (List Bool)} {d : Dev} (fit : WithinDepth d) : WithinDepth (judgeContainer k
    c d) := by
  simp only [judgeContainer]
  refine fits_setTxRdi ?_
  split
  · exact fits_when fits_setDefect (moves_modTrib.fits (fits_count fit))
  · exact fits_either id fits_labelDefects (fits_when fits_setFld (fits_setFld (fits_setFld (moves_modTrib.fits
      (fits_count fit)))))

theorem fits_tribOut {k : Nat} {c : Option (List Bool)} {d : Dev} (fit : WithinDepth d) : WithinDepth (tribOut k c d).2 := by
  simp only [tribOut]
  split
  · exact fits_snd fit
  · exact fits_snd (fits_ite (fits_checkPattern (fits_ite fit (fits_countN (fits_countN fit)))) (fits_ite fit (fits_countN
      (fits_countN fit))))

theorem fits_overflowSlip {k : Nat} {d : Dev} (fit : WithinDepth d) : WithinDepth (overflowSlip k d) :=
  fits_ite fit (fits_ite (fits_tribSlip (moves_modTrib.fits fit)) (moves_modTrib.fits fit))

theorem fits_alignBits {k : Nat} {bs : List Bool} {d : Dev} (fit : WithinDepth d) : WithinDepth (alignBits k bs d) :=
  fits_raiseIf (fits_setFld (fits_overflowSlip (moves_modTrib.fits fit)))

theorem fits_deliverFrame {k : Nat} {d : Dev} (fit : WithinDepth d) : WithinDepth (deliverFrame k d) := by
  simp only [deliverFrame]
  refine fits_ite ?_ ?_
  · exact moves_modTrib.fits fit
  · refine fits_ite ?_ ?_
    · split
      · exact moves_modTrib.fits fit
      · exact fits_tribSlip fit
    · split
      · exact moves_modTrib.fits fit
      · exact moves_modTrib.fits fit

theorem fits_highwaysOut {d : Dev} (fit : WithinDepth d) : WithinDepth (highwaysOut d) :=
  fits_foldl (fun _ _ fit => fits_emit fit) fit

theorem fits_bufferContainer {k : Nat} {input : List Bool} {d : Dev} (fit : WithinDepth d) :
    WithinDepth (bufferContainer k input d).2 := by
  simp only [bufferContainer]
  generalize padded : freeBits _ d = x
  generalize centred : freeBits 32 x.2 = y
  have here := fits_of_eq Prod.snd centred (moves_freeBits.fits (fits_of_eq Prod.snd padded (moves_freeBits.fits fit)))
  exact fits_ite_snd (fits_tribSlip (moves_modTrib.fits here)) (moves_modTrib.fits fit)

theorem fits_closeContainer {k : Nat} {inp : BoundaryInputs} {d : Dev} (fit : WithinDepth d) : WithinDepth (closeContainer k
    inp d).2 :=
  fits_ite_snd fit (fits_ite_snd fit (fits_ite_snd fit (fits_ite_snd (moves_modTrib.fits fit) (fits_ite_snd fit (fits_ite_snd
    (moves_nextFree.fits fit) (fits_countN (fits_countN (fits_bufferContainer fit))))))))

theorem fits_closeContainers {inp : BoundaryInputs} {d : Dev} (fit : WithinDepth d) : WithinDepth (closeContainers inp d).2 :=
    by
  have closed : ∀ (l : List Nat) (x : List Bool × Dev), WithinDepth x.2 → WithinDepth (l.foldl (fun (a : List Bool × Dev) k =>
      let (c, d) := closeContainer k inp a.2; (a.1 ++ c, d)) x).2 := by
    intro l
    induction l with
    | nil => exact fun _ fit => fit
    | cons k l ih => exact fun x fit => ih _ (fits_closeContainer fit)
  exact closed _ _ fit

theorem fits_buildBlock {inp : BoundaryInputs} {fc : Word} {d : Dev} (fit : WithinDepth d) : WithinDepth (buildBlock inp fc d)
    := by
  have closed := fits_closeContainers (inp := inp) fit
  unfold buildBlock
  generalize closeContainers inp d = x at closed ⊢
  exact Moves.up.fits closed

theorem fits_tribDown {o : Option Overhead} {d : Dev} {k : Nat} (fit : WithinDepth d) : WithinDepth (tribDown o d k) := by
  simp only [tribDown]
  refine fits_ite fit (fits_either fits_emit (fits_either id fits_emit) (fits_when (fun fit => ?_) (fits_tribOut
    (fits_judgeContainer fit))))
  exact fits_deliverFrame (fits_alignBits fit)

theorem fits_tribsDown {o : Option Overhead} {d : Dev} (fit : WithinDepth d) : WithinDepth (tribsDown o d) := by
  simp only [tribsDown]
  exact fits_ite (fits_highwaysOut (fits_foldl (fun _ _ fit => fits_tribDown fit) fit)) (fits_foldl (fun _ _ fit =>
    fits_tribDown fit) fit)

theorem fits_mdDown {o : Option Overhead} {d : Dev} (fit : WithinDepth d) : WithinDepth (mdDown o d) :=
  fits_foldl (fun _ _ fit => fits_ite (fits_emit fit) fit) (fits_ite (fits_count fit) fit)

theorem fits_tribBoundary {inp : BoundaryInputs} {d : Dev} (fit : WithinDepth d) : WithinDepth (tribBoundary inp d) :=
  Moves.trib.fits (fits_ite (Moves.trib.fits (fits_ite (fits_buildBlock (fits_tribsDown (fits_ite (fits_mdDown fit) fit)))
    (fits_tribsDown (fits_ite (fits_mdDown fit) fit)))) (fits_ite (fits_mdDown fit) fit))

theorem fits_trSettings {f : Dev → Dev} {d : Dev} (fit : WithinDepth (f d)) : WithinDepth (trSettings f d) := by
  simp only [trSettings]
  exact fits_ite fit (Moves.trib.fits (fits_ite (fits_foldl (fun _ _ fit => fits_setFld fit) fit) fit))

theorem fits_tbSettings {k : Nat} {f : Dev → Dev} {d : Dev} (fit : WithinDepth (f d)) : WithinDepth (tbSettings k f d) :=
  fits_ite fit (fits_tribFresh fit)

/-! ## EntryApply -/

theorem fits_loadPort {e : EntryDef} {n : Nat} {v : Nat} {d : Dev} (fit : WithinDepth d) : WithinDepth (loadPort e n v d) :=
  fits_ite (fits_laneRefresh (fits_foldl (fun _ _ fit => fits_setFld fit) fit)) (fits_ite (fits_ite (fits_foldl (fun _ _ fit
    => fits_setFld fit) fit) (fits_laneRestart (fits_foldl (fun _ _ fit => fits_setFld fit) fit))) (fits_ite (fits_flowEval
    (fits_foldl (fun _ _ fit => fits_setFld fit) fit)) (fits_foldl (fun _ _ fit => fits_setFld fit) fit)))

theorem fits_loadNode {n : Nat} {sub : Nat} {v : Nat} {d : Dev} (fit : WithinDepth d) : WithinDepth (loadNode n sub v d) :=
  fits_ite (moves_setNodeShape.fits fit) (fits_ite (moves_setNodeShape.fits fit) (fits_ite (moves_modNode.fits fit)
    (moves_modNode.fits fit)))

theorem fits_loadQueue {q : Nat} {sub : Nat} {v : Nat} {d : Dev} (fit : WithinDepth d) : WithinDepth (loadQueue q sub v d) :=
  moves_modQueue.fits fit

theorem fits_loadPolicer {i : Nat} {sub : Nat} {v : Nat} {d : Dev} (fit : WithinDepth d) : WithinDepth (loadPolicer i sub v d)
    :=
  moves_modPolicer.fits fit

theorem fits_loadGroup {i : Nat} {sub : Nat} {v : Nat} {bs : List Byte} {d : Dev} (fit : WithinDepth d) : WithinDepth
    (loadGroup i sub v bs d) :=
  fits_ite_snd (moves_writeGroup.fits fit) (fits_ite_snd (moves_writeGroup.fits fit) (moves_writeGroup.fits fit))

theorem fits_loadCabinet {sub : Nat} {bs : List Byte} {d : Dev} (fit : WithinDepth d) : WithinDepth (loadCabinet sub bs d) :=
  fits_ite (fits_setFld (fits_setFld fit)) (fits_ite (fits_foldl (fun _ _ fit => fits_setFld fit) fit) (fits_setFld
    (fits_setFld fit)))

theorem fits_loadEntry {cause : BitVec 2} {e : EntryDef} {index sub dom : Nat} {d : Dev} (fit : WithinDepth d) :
    WithinDepth (loadEntry cause e index sub dom d) := by
  have plain : ∀ {n v : Nat} {d : Dev}, WithinDepth d → WithinDepth (e.dest.foldl (fun d f => setFld f n v d) d) :=
    fun fit => fits_foldl (fun _ _ fit => fits_setFld fit) fit
  simp only [loadEntry]
  refine fits_ite (fits_protSettings (plain fit)) (fits_ite (plain fit) (fits_ite (fits_loadPort fit)
    (fits_ite (fits_loadNode fit) (fits_ite (fits_loadNode fit) (fits_ite (fits_loadQueue fit) (fits_ite (fits_loadQueue fit)
      (fits_ite (fits_loadGroup fit) (fits_ite (fits_loadPolicer fit) ?_))))))))
  exact fits_ite (fits_ltSettings (plain (moves_ltRebase.fits fit))) (fits_ite (fits_trSettings (plain fit))
    (fits_ite (fits_setFld fit) (fits_ite (fits_tbSettings (plain fit)) (fits_ite (fits_loadCabinet fit)
      (fits_ite (Moves.fs.fits fit) (plain fit))))))

theorem fits_loadOrDefer {cause : BitVec 2} {index : Nat} {sub : Nat} {d : Dev} (fit : WithinDepth d) : WithinDepth
    (loadOrDefer cause index sub d) := by
  simp only [loadOrDefer]
  split
  · exact fit
  · exact fits_foldl (fun _ _ fit => fits_ite (fits_loadEntry fit) (Moves.dic.fits fit)) fit

theorem fits_loadKeys {cause : BitVec 2} {keys : List Nat} {d : Dev} (fit : WithinDepth d) : WithinDepth (loadKeys cause keys
    d) :=
  fits_foldl (fun _ _ fit => fits_loadOrDefer fit) fit

theorem fits_loadDeferred {d : Dev} (fit : WithinDepth d) : WithinDepth (loadDeferred d) := by
  simp only [loadDeferred]
  refine fits_ite ?_ ?_
  · exact fit
  · refine fits_foldl (fun _ _ fit => ?_) ?_
    · split
      · exact fits_loadEntry fit
      · exact fit
    · exact Moves.dic.fits fit

theorem fits_flowCommit {d0 : Dev} {k : Nat} {d : Dev} (fit : WithinDepth d) : WithinDepth (flowCommit d0 k d) := by
  simp only [flowCommit]
  exact fits_when (fun fit => fits_forgetFlow (Moves.bond.fits fit)) (fits_when fits_modFlow (fits_when fits_forgetFlow fit))

theorem fits_loadTrib {d : Dev} (fit : WithinDepth d) : WithinDepth (loadTrib d) := by
  simp only [loadTrib]
  split
  · exact fits_setFld (fits_setFld fit)
  · exact fits_setFld (fits_setFld fit)

theorem fits_allocCommit {d0 : Dev} {k : Nat} {d : Dev} (fit : WithinDepth d) : WithinDepth (allocCommit d0 k d) :=
  fits_ite fit (fits_admWrite (fits_admWrite (fits_ite (Moves.up.fits (fits_ite (fits_abandonGrants fit) fit)) (fits_ite
    (fits_abandonGrants fit) fit))))

/-! ## Counters -/

theorem fits_dropCounters {gone : Nat → Bool} {d : Dev} (fit : WithinDepth d) : WithinDepth (dropCounters gone d) :=
  Moves.cnt.fits fit

theorem fits_zeroCounters {gone : Nat → Bool} {d : Dev} (fit : WithinDepth d) : WithinDepth (zeroCounters gone d) :=
  fits_foldl (fun _ _ fit => fits_ite (fits_raise (fits_setReg fit)) fit) (fits_dropCounters fit)

theorem fits_setSel {k : Nat} {v : Word} {d : Dev} (fit : WithinDepth d) : WithinDepth (setSel k v d) :=
  Moves.cnt.fits fit

theorem fits_selClear {k : Nat} {v : Word} {d : Dev} (fit : WithinDepth d) : WithinDepth (selClear k v d) :=
  fits_ite (fits_ite (fits_setSel (fits_setSel (fits_storeWrite fit))) (fits_setSel (fits_storeWrite fit))) (fits_storeWrite
    fit)

theorem fits_selRead {k : Nat} {d : Dev} (fit : WithinDepth d) : WithinDepth (selRead k d) :=
  fits_ite (fits_emit (Moves.cnt.fits fit)) (fits_ite (fits_emit fit) (fits_emit fit))

theorem fits_pageCopy {ok : Bool} {d0 : Dev} {d : Dev} {i : Nat} (fit : WithinDepth d) : WithinDepth (pageCopy ok d0 d i) :=
  fits_ite fit (fits_ite (fits_count (fits_emit (Moves.cnt.fits fit))) (fits_raise (fits_count fit)))

theorem fits_pagesCopy {ok : Bool} {d : Dev} (fit : WithinDepth d) : WithinDepth (pagesCopy ok d) :=
  fits_ite (fits_foldl (fun _ _ fit => fits_pageCopy fit) fit) fit

theorem fits_cabArm {d : Dev} (fit : WithinDepth d) : WithinDepth (cabArm d).2 := by
  simp only [cabArm]
  exact fits_ite_snd fit (fits_ite_snd (Moves.cab.fits fit) (fits_ite_snd (Moves.cab.fits fit) fit))

theorem fits_cabResult {r : Nat} {d : Dev} (fit : WithinDepth d) : WithinDepth (cabResult r d) :=
  Moves.cab.fits fit

theorem fits_cabAbort {d : Dev} (fit : WithinDepth d) : WithinDepth (cabAbort d).2 := by
  simp only [cabAbort]
  split
  · exact fits_ite_snd (fits_count (Moves.cab.fits fit)) fit
  · exact fits_snd fit

theorem fits_cabRefusal {d : Dev} (fit : WithinDepth d) : WithinDepth (cabRefusal d) :=
  fits_raise (fits_count fit)

theorem fits_cabEntry {arm : Bool} {d : Dev} (fit : WithinDepth d) : WithinDepth (cabEntry arm d).2 :=
  fits_ite_snd (fits_ite_snd (fits_cabArm (fits_foldl (fun _ _ fit => fits_loadCabinet fit) fit)) (fits_cabRefusal fit))
    (fits_cabAbort fit)

theorem fits_cabArmed {origin : CabOrigin} {d : Dev} (fit : WithinDepth d) : WithinDepth (cabArmed origin d) := by
  cases origin with
  | register v =>
    simp only [cabArmed]
    have armed := fits_cabArm (fits_storeWrite (r := .cabCtrl) (i := 0) (w := v) fit)
    exact fits_ite (fits_ite (fits_cabResult armed) (fits_cabRefusal (fits_cabResult armed))) (fits_storeWrite fit)
  | entry path => exact fits_commandOn (fits_cabEntry fit) fit

theorem fits_cabAborted {origin : CabOrigin} {d : Dev} (fit : WithinDepth d) : WithinDepth (cabAborted origin d) := by
  cases origin with
  | register v =>
    simp only [cabAborted]
    exact fits_ite (fits_cabResult (fits_cabAbort (fits_storeWrite fit))) (fits_storeWrite fit)
  | entry path => exact fits_commandOn (fits_cabEntry fit) fit

theorem fits_cabLatch {d : Dev} (fit : WithinDepth d) : WithinDepth (cabLatch d) := by
  simp only [cabLatch]
  split
  · exact fits_ite (fits_count (Moves.cab.fits fit)) fit
  · exact fit

theorem fits_cabDrained {d : Dev} (fit : WithinDepth d) : WithinDepth (cabDrained d) := by
  simp only [cabDrained]
  split
  · exact fits_raise (Moves.cab.fits fit)
  · exact fit

theorem fits_cabRead {d : Dev} (fit : WithinDepth d) : WithinDepth (cabRead d) := by
  simp only [cabRead]
  split
  · exact fits_emit fit
  · exact fits_emit (fits_raise (fits_count fit))

/-! ## Boundary -/

theorem fits_forecasts {d : Dev} (fit : WithinDepth d) : WithinDepth (forecasts d) :=
  Moves.tm.fits (fits_foldl (fun _ _ fit => Moves.up.fits fit) fit)

theorem fits_commitDelays {d : Dev} (fit : WithinDepth d) : WithinDepth (commitDelays d) :=
  Moves.act.fits (fits_foldl (fun _ _ fit => fits_ite (fits_setFld (fits_setFld fit)) (fits_setFld (fits_setFld fit))) fit)

theorem fits_recordGap {d : Dev} (fit : WithinDepth d) : WithinDepth (recordGap d) :=
  fits_ite (Moves.lc.fits fit) fit

theorem fits_frameBoundary {inp : BoundaryInputs} {d : Dev} (fit : WithinDepth d) : WithinDepth (frameBoundary inp d) :=
  fits_ite fit (fits_tribBoundary (fits_admCompare (Moves.fs.fits (fits_commitDelays (fits_forecasts (fits_sdAll
    (fits_recordGap (Moves.trib.fits fit))))))))

/-! ## MemComplex -/

theorem fits_migrationEnd {m : Migration} {d : Dev} (fit : WithinDepth d) : WithinDepth (migrationEnd m d) := by
  simp only [migrationEnd]
  refine fits_raise ?_
  refine moves_rankItem.fits ?_
  refine fits_count ?_
  split
  · exact moves_setRank.fits (Moves.mc.fits (Moves.mc.fits fit))
  · exact moves_setRank.fits (Moves.mc.fits fit)

theorem fits_settleRank {k : Nat} {spare : Option Nat} {d : Dev} (fit : WithinDepth d) : WithinDepth (settleRank k spare d) :=
    by
  simp only [settleRank]
  split
  · exact moves_setRank.fits (Moves.mc.fits fit)
  · exact fits_ite (fits_raise (moves_setRank.fits fit)) (moves_shrinkTold.fits (moves_setRank.fits (Moves.mc.fits fit)))

theorem fits_rebuildMap {lim rank n b i : Nat} {d : Dev} (fit : WithinDepth d) : WithinDepth (rebuildMap lim rank n b i d) := by
  induction n generalizing b i d with
  | zero => exact fit
  | succ n ih =>
    rw [rebuildMap]
    refine fits_ite ?_ (ih fit)
    split
    · exact fit
    · exact ih (Moves.mc.fits fit)

theorem fits_rebuildMaps {d : Dev} (fit : WithinDepth d) : WithinDepth (rebuildMaps d) :=
  fits_foldl (fun _ _ fit => fits_rebuildMap fit) fit

theorem fits_layPartitions {warm : Bool} {d : Dev} (fit : WithinDepth d) : WithinDepth (layPartitions warm d) :=
  fits_ite (Moves.mc.fits fit) (moves_shrinkTold.fits (Moves.mc.fits fit))

theorem fits_memStart {warm : Bool} {stackOk : List Bool} {d : Dev} (fit : WithinDepth d) : WithinDepth (memStart warm stackOk
    d) := by
  simp only [memStart]
  refine fits_rebuildMaps (fits_layPartitions (fits_foldl (fun _ _ fit => fits_foldl (fun _ _ fit => ?taken) fit) ?_))
  case taken => exact fits_when (fun fit => fits_settleRank (moves_takeSpare.fits (fits_raise (moves_rankItem.fits fit)))) fit
  refine fits_foldl (fun _ _ fit => fits_raise (moves_memItem.fits fit)) (fits_foldl (fun _ _ fit =>
    fits_either id fits_settleRank fit) (Moves.mc.fits (fits_either id (fun fit => fits_foldl (fun _ _ => moves_setRank.fits) fit)
    ?_)))
  exact fits_foldl (fun _ _ fit => fits_when moves_setRank.fits fit) (Moves.mc.fits fit)

theorem fits_cxlRead {places : List (Option Nat)} {m : Memory} {d : Dev} (fit : WithinDepth d) : WithinDepth (cxlRead places m
    d) :=
  fits_ite (fits_emit fit) (fits_ite (fits_emit (fits_raise (fits_count fit))) (fits_emit fit))

/-! ## Power -/

theorem fits_darkLine {d : Dev} (fit : WithinDepth d) : WithinDepth (darkLine d) :=
  fits_same (fits_abandonGrants (fits_foldl (fun _ _ fit => fits_cutBurst (fits_forceLow fit)) fit)) rfl

theorem fits_sideboardCold {d : Dev} (fit : WithinDepth d) : WithinDepth (sideboardCold d) :=
  Moves.sb.fits fit

theorem fits_coldDomains {want : Nat → Nat} {d0 : Dev} {d : Dev} (fit : WithinDepth d) : WithinDepth (coldDomains want d0 d) := by
  simp only [coldDomains]
  exact Moves.pwr.fits (fits_when fits_sideboardCold (fits_either id fits_zeroCounters (fits_either id fits_dropCounters fit)))

theorem fits_clusterDomain {want : Nat → Nat} {d0 : Dev} {d : Dev} {c : Nat} (fit : WithinDepth d) : WithinDepth
    (clusterDomain want d0 d c) :=
  fits_ite (moves_holdCluster.fits fit) (fits_ite (moves_modCluster.fits fit) fit)

theorem fits_applyDomains {want : Nat → Nat} {d0 : Dev} (fit : WithinDepth d0) : WithinDepth (applyDomains want d0) := by
  simp only [applyDomains]
  refine fits_loadDeferred (fits_either (fun fit => fits_lanesRefresh fit)
    (fun fit => fits_foldl (fun _ _ fit => fits_laneRefresh fit) fit) (fits_holdChanged ?_))
  refine fits_when (fun fit => fits_secretaryRelieves (fits_secretaryRelease fit)) ?_
  refine fits_either (fun fit => fits_ltStop (fits_darkLine fit)) (fits_when fits_ltResume) (fits_coldDomains ?_)
  refine fits_when fits_hostReset (fits_foldl (fun _ _ fit => fits_clusterDomain fit) (fits_when fits_spliceAll ?_))
  exact fits_foldl (fun _ _ fit => fits_setPd fit) (Moves.pwr.fits fit)

theorem fits_domsRefresh {d : Dev} (fit : WithinDepth d) : WithinDepth (domsRefresh d) :=
  fits_ite (fits_ite fit (fits_applyDomains fit)) fit

theorem fits_enablesChanged {d : Dev} (fit : WithinDepth d) : WithinDepth (enablesChanged d) := by
  simp only [enablesChanged]
  exact fits_protEval (fits_foldl (fun _ _ fit => fits_chanEval fit) (fits_foldl (fun _ _ fit => fits_laneRefresh fit)
    (fits_domsRefresh fit)))

theorem fits_setChange {c : Option PwChange} {d : Dev} (fit : WithinDepth d) : WithinDepth (setChange c d) :=
  Moves.pwr.fits fit

theorem fits_dropInFlight {d : Dev} (fit : WithinDepth d) : WithinDepth (dropInFlight d) :=
  fits_countN (fits_same (fits_foldl (fun _ _ fit => moves_replayDone.fits fit) (fits_foldl (fun _ _ fit =>
    moves_dropCopy.fits fit) fit)) rfl)

theorem fits_stopUnits {r : PwReq} {d : Dev} (fit : WithinDepth d) : WithinDepth (stopUnits r d) :=
  fits_ite (fits_dropInFlight (fits_lanesRefresh (Moves.pwr.fits fit))) (fits_lanesRefresh (Moves.pwr.fits fit))

theorem fits_holdBegin {c : PwChange} {d : Dev} (fit : WithinDepth d) : WithinDepth (holdBegin c d) :=
  fits_stopUnits (fits_setHolds (fits_setChange fit))

theorem fits_pwYield {d : Dev} (fit : WithinDepth d) : WithinDepth (pwYield d) := by
  simp only [pwYield]
  split
  · exact fits_ite (fits_pwResult (fits_powerHoldEnd (fits_releaseUnits (fits_setChange (Moves.act.fits fit))))) fit
  · exact fit

theorem fits_beginChange {r : PwReq} {d : Dev} (fit : WithinDepth d) : WithinDepth (beginChange r d) :=
  fits_ite (fits_setChange (Moves.act.fits (fits_pwResult (Moves.pwr.fits (moves_idleExit.fits fit))))) (fits_holdBegin
    (fits_pwResult (Moves.pwr.fits (moves_idleExit.fits fit))))

theorem fits_takeSlot {r : PwReq} {d : Dev} (fit : WithinDepth d) : WithinDepth (takeSlot r d) :=
  fits_ite (fits_pwResult fit) (fits_ite (fits_pwResult (fits_setChange fit)) (fits_beginChange fit))

theorem fits_startNext {d : Dev} (fit : WithinDepth d) : WithinDepth (startNext d) := by
  simp only [startNext]
  split
  · exact fits_ite fit (fits_takeSlot (Moves.pwr.fits fit))
  · exact fit

theorem fits_recordWake {source : Nat} {cancel : Bool} {d : Dev} (fit : WithinDepth d) : WithinDepth (recordWake source cancel
    d) :=
  fits_setReg fit

theorem fits_restoreTimer {d : Dev} (fit : WithinDepth d) : WithinDepth (restoreTimer d) :=
  Moves.pwr.fits fit

theorem fits_holdTimer {d : Dev} (fit : WithinDepth d) : WithinDepth (holdTimer d) :=
  Moves.pwr.fits fit

theorem fits_setFault {on : Bool} {d : Dev} (fit : WithinDepth d) : WithinDepth (setFault on d) :=
  fits_ite fit (fits_emit (Moves.pwr.fits fit))

theorem fits_setProfilePw {life : Bool} {mains : Bool} {d : Dev} (fit : WithinDepth d) : WithinDepth (setProfilePw life mains
    d) :=
  fits_ite (fits_raise (fits_count (Moves.pwr.fits fit))) (fits_ite (fits_raise (Moves.pwr.fits fit)) (Moves.pwr.fits fit))

theorem fits_deliverHeld {d : Dev} (fit : WithinDepth d) : WithinDepth (deliverHeld d) :=
  fits_foldl (fun _ _ fit => fits_emit fit) (Moves.pwr.fits fit)

theorem fits_countFails {d : Dev} (fit : WithinDepth d) : WithinDepth (countFails d) :=
  fits_ite fit (fits_same fit rfl)

theorem fits_resumeActivation {d : Dev} (fit : WithinDepth d) : WithinDepth (resumeActivation d) :=
  fits_ite (Moves.act.fits (fits_setState fit)) (fits_endConsent fit)

theorem fits_finishWake {w : PwWake} {d : Dev} (fit : WithinDepth d) : WithinDepth (finishWake w d) :=
  fits_restoreTimer (fits_raise (fits_powerHoldEnd (fits_deliverHeld (fits_countFails (fits_setFault (fits_ite
    (fits_resumeActivation (fits_applyDomains (fits_setProfilePw (Moves.pwr.fits fit)))) (fits_endConsent (fits_applyDomains
    (fits_setProfilePw (Moves.pwr.fits fit))))))))))

theorem fits_oscStage {w : PwWake} {d : Dev} (fit : WithinDepth d) : WithinDepth (oscStage w d) :=
  fits_emit (Moves.pwr.fits fit)

theorem fits_raiseNext {w : PwWake} {d : Dev} (fit : WithinDepth d) : WithinDepth (raiseNext w d) := by
  simp only [raiseNext]
  split
  · exact fits_railRequest (Moves.pwr.fits fit)
  · exact fits_oscStage fit

theorem fits_wakeDone {w : PwWake} {d : Dev} (fit : WithinDepth d) : WithinDepth (wakeDone w d) :=
  fits_startNext (fits_finishWake fit)

theorem fits_startWake {source : Nat} {d : Dev} (fit : WithinDepth d) : WithinDepth (startWake source d) :=
  fits_ite fit (fits_ite (fits_wakeDone (Moves.pwr.fits (fits_ite fit (fits_count (fits_recordWake fit))))) (fits_raiseNext
    (Moves.pwr.fits (fits_ite fit (fits_count (fits_recordWake fit))))))

theorem fits_wakeBy {source : Nat} {edge : Bool} {d : Dev} (fit : WithinDepth d) : WithinDepth (wakeBy source edge d) := by
  simp only [wakeBy]
  split
  · exact fits_startWake fit
  · exact fits_ite (fits_startWake (fits_cancelChange fit)) (fits_ite (Moves.pwr.fits fit) fit)

theorem fits_replaceReq {d : Dev} (fit : WithinDepth d) : WithinDepth (replaceReq d) := by
  simp only [replaceReq]
  split
  · exact fits_powerHoldEnd (fits_releaseUnits (fits_count (fits_pwResult (fits_same fit rfl))))
  · exact fit

theorem fits_queueReq {r : PwReq} {d : Dev} (fit : WithinDepth d) : WithinDepth (queueReq r d) := by
  simp only [queueReq]
  refine fits_pwResult ?_
  refine Moves.pwr.fits ?_
  split
  · exact fits_count (fits_pwResult fit)
  · exact fit

theorem fits_acceptReq {r : PwReq} {d : Dev} (fit : WithinDepth d) : WithinDepth (acceptReq r d) :=
  fits_ite (fits_queueReq fit) (fits_ite (fits_startWake (fits_queueReq fit)) (fits_takeSlot fit))

theorem fits_placeReq {r : PwReq} {d : Dev} (fit : WithinDepth d) : WithinDepth (placeReq r d) := by
  simp only [placeReq]
  split
  · exact fits_ite (fits_acceptReq (fits_replaceReq fit)) (fits_queueReq fit)
  · exact fits_acceptReq fit

theorem fits_powerRefused {o : PowerOrigin} {code : Nat} {d : Dev} (fit : WithinDepth d) : WithinDepth (powerRefused o code d)
    :=
  fits_raise (fits_count (fits_pwResult fit))

theorem fits_submitReq {r : PwReq} {d : Dev} (fit : WithinDepth d) : WithinDepth (submitReq r d).2 := by
  simp only [submitReq]
  split
  · exact fits_snd (fits_powerRefused fit)
  · exact fits_ite_snd (fits_ite_snd (fits_cancelChange (fits_pwResult fit)) fit) (fits_placeReq fit)

theorem fits_askPower {target : Nat} {period : Nat} {o : PowerOrigin} {d : Dev} (fit : WithinDepth d) : WithinDepth (askPower
    target period o d).2 :=
  fits_ite_snd fit (fits_submitReq fit)

theorem fits_powerRow {target period : Nat} {o : PowerOrigin} {d : Dev} (fit : WithinDepth d) :
    WithinDepth (powerRow target period o d) := by
  cases o with
  | entry p => exact fits_commandOn (fits_askPower fit) fit
  | _ => exact fits_askPower fit

theorem fits_armTimer {c : PwChange} {d : Dev} (fit : WithinDepth d) : WithinDepth (armTimer c d) :=
  Moves.pwr.fits fit

theorem fits_activationLost {d : Dev} (fit : WithinDepth d) : WithinDepth (activationLost d) := by
  simp only [activationLost]
  split
  · exact fits_count (Moves.img.fits fit)
  · exact fit

theorem fits_requestAfter {c : PwChange} {d : Dev} (fit : WithinDepth d) : WithinDepth (requestAfter c d) := by
  rw [requestAfter]
  split
  · exact fits_ite (fits_activationLost fit) (Moves.img.fits fit)
  · exact fit

theorem fits_wokenAfter {c : PwChange} {d : Dev} (fit : WithinDepth d) : WithinDepth (wokenAfter c d) := by
  rw [wokenAfter]
  refine fits_ite (fits_startWake fit) ?_
  split
  · exact fits_startWake fit
  · exact fit

theorem fits_completeChange {c : PwChange} {d : Dev} (fit : WithinDepth d) : WithinDepth (completeChange c d) := by
  rw [completeChange_eq]
  refine fits_either fits_startWake fits_startNext (fits_wokenAfter (fits_restoreTimer (fits_when fits_armTimer ?_)))
  exact fits_requestAfter (fits_pwResult (fits_setChange fit))

theorem fits_pwResume {d : Dev} (fit : WithinDepth d) : WithinDepth (pwResume d) := by
  simp only [pwResume]
  split
  · split
    · exact fits_ite (fits_ite (Moves.pwr.fits fit) fit) (fits_beginChange (fits_setChange (fits_ite (Moves.pwr.fits fit) fit)))
    · exact fits_ite (fits_holdBegin (Moves.act.fits (fits_ite (Moves.pwr.fits fit) fit))) (fits_ite (Moves.pwr.fits fit) fit)
    · exact fits_ite (Moves.pwr.fits fit) fit
  · exact fits_ite (Moves.pwr.fits fit) fit

theorem fits_commitP {d : Dev} (fit : WithinDepth d) : WithinDepth (commitP d) := by
  simp only [commitP]
  split
  · refine fits_ite ?_ ?_
    · refine fits_ite ?_ ?_
      · exact fit
      · refine fits_ite ?_ ?_
        · exact fit
        · split
          · exact fits_ite (fits_startWake (fits_recordWake (fits_cancelChange fit))) (fits_recordWake (fits_cancelChange fit))
          · exact fits_ite fit (fits_raise (fits_count (fits_setChange (Moves.pwr.fits fit))))
    · exact fits_pwResume fit
  · exact fits_pwResume fit

theorem fits_sampleReports {d : Dev} (fit : WithinDepth d) : WithinDepth (sampleReports d) := by
  simp only [sampleReports]
  exact Moves.pwr.fits fit

theorem fits_lowerNext {d : Dev} (fit : WithinDepth d) : WithinDepth (lowerNext d) := by
  simp only [lowerNext]
  split
  · exact fits_railRequest (Moves.pwr.fits fit)
  · split
    · exact fits_ite (fits_completeChange fit) fit
    · exact fits_ite (Moves.pwr.fits fit) fit

theorem fits_powerHoldTry {d0 : Dev} (fit : WithinDepth d0) : WithinDepth (powerHoldTry d0) := by
  simp only [powerHoldTry]
  split
  · exact fits_ite (fits_completeChange (fits_powerHoldEnd fit)) (fits_powerHoldEnd fit)
  · exact fits_powerHoldEnd fit

theorem fits_retentionCommit {d : Dev} (fit : WithinDepth d) : WithinDepth (retentionCommit d) := by
  simp only [retentionCommit]
  split
  · refine fits_ite fit (fits_either (fun fit => fits_powerHoldTry (fits_setChange fit)) (fits_either
      (fun fit => fits_completeChange (fits_powerHoldEnd (fits_setChange fit)))
      (fun fit => fits_lowerNext (fits_emit (fits_setChange (Moves.pwr.fits fit))))) (fits_applyDomains ?_))
    exact fits_when fits_setProfilePw (Moves.pwr.fits (fits_when Moves.pwr.fits (fits_when fits_sampleReports
      (Moves.pwr.fits fit))))
  · exact fit

theorem fits_wakeFail {w : PwWake} {cause : Nat} {rail : Nat} {d : Dev} (fit : WithinDepth d) : WithinDepth (wakeFail w cause
    rail d) :=
  fits_lowerNext (Moves.pwr.fits (fits_ite (fits_emit (fits_setFault (fits_raise (fits_count (fits_setReg fit)))))
    (fits_setFault (fits_raise (fits_count (fits_setReg fit))))))

theorem fits_railAck {r : Nat} {d : Dev} (fit : WithinDepth d) : WithinDepth (railAck r d) := by
  simp only [railAck]
  split
  · exact fits_ite (fits_lowerNext (Moves.pwr.fits fit)) fit
  · split
    · split
      · exact fits_ite (fits_raiseNext fit) fit
      · exact fit
    · exact fit

theorem fits_railTimeout {r : Nat} {d : Dev} (fit : WithinDepth d) : WithinDepth (railTimeout r d) := by
  simp only [railTimeout]
  refine fits_ite ?_ ?_
  · exact fit
  · refine fits_ite ?_ ?_
    · exact fits_railRequest (fits_count (Moves.pwr.fits (fits_count fit)))
    · refine fits_ite ?_ ?_
      · exact fits_lowerNext (Moves.pwr.fits (fits_setFault (fits_raise (fits_count fit))))
      · split
        · exact fits_wakeFail (fits_count fit)
        · exact fits_count fit

theorem fits_oscTimeout {d : Dev} (fit : WithinDepth d) : WithinDepth (oscTimeout d) := by
  simp only [oscTimeout]
  split
  · exact fits_ite (fits_wakeFail fit) fit
  · exact fits_ite (fits_setFault (fits_setFld fit)) fit

theorem fits_wakePin {level : Bool} {d : Dev} (fit : WithinDepth d) : WithinDepth (wakePin level d) :=
  fits_ite (fits_wakeBy (Moves.pwr.fits fit)) (Moves.pwr.fits fit)

theorem fits_twoWire {x : TwoWireMatch} {d : Dev} (fit : WithinDepth d) : WithinDepth (twoWire x d) :=
  fits_ite fit (fits_wakeBy (fits_ite (fits_count (fits_emit fit)) (fits_emit fit)))

theorem fits_lineTimer {d : Dev} (fit : WithinDepth d) : WithinDepth (lineTimer d) :=
  fits_ite (fits_wakeBy (Moves.pwr.fits fit)) fit

theorem fits_mgmtWake {d : Dev} (fit : WithinDepth d) : WithinDepth (mgmtWake d) :=
  fits_ite fit (fits_wakeBy fit)

theorem fits_pfailFalls {d : Dev} (fit : WithinDepth d) : WithinDepth (pfailFalls d) := by
  simp only [pfailFalls]
  exact fits_when fits_activationLost (fits_when fits_wakeBy (fits_holdTimer (fits_pfailFall (Moves.pwr.fits fit))))

theorem fits_pfailRises {d : Dev} (fit : WithinDepth d) : WithinDepth (pfailRises d) :=
  fits_restoreTimer (fits_pfailRise (Moves.pwr.fits fit))

theorem fits_battChange {level : Bool} {d : Dev} (fit : WithinDepth d) : WithinDepth (battChange level d) :=
  fits_holdTimer (Moves.act.fits fit)

theorem fits_idleEntry {d : Dev} (fit : WithinDepth d) : WithinDepth (idleEntry d) :=
  fits_ite (fits_count (Moves.pwr.fits fit)) fit

theorem fits_lossOfLine {d : Dev} (fit : WithinDepth d) : WithinDepth (lossOfLine d) :=
  fits_ite fit (fits_ite (fits_askPower (Moves.pwr.fits fit)) (Moves.pwr.fits fit))

theorem fits_holdExpiry {d : Dev} (fit : WithinDepth d) : WithinDepth (holdExpiry d) :=
  fits_ite (fits_ite (Moves.pwr.fits fit) (fits_submitReq (Moves.pwr.fits fit))) fit

theorem fits_restoreExpiry {d : Dev} (fit : WithinDepth d) : WithinDepth (restoreExpiry d) :=
  fits_ite (fits_submitReq (Moves.pwr.fits fit)) fit

theorem fits_noticeExpiry {d : Dev} (fit : WithinDepth d) : WithinDepth (noticeExpiry d) := by
  simp only [noticeExpiry]
  split
  · exact fits_ite (fits_holdBegin (Moves.act.fits (fits_raise (fits_count fit)))) fit
  · exact fit

theorem fits_imageHoldStep {d : Dev} (fit : WithinDepth d) : WithinDepth (imageHoldStep d) :=
  fits_ite fit (fits_ite (Moves.fs.fits fit) (fits_setHolds fit))

/-! ## Monitors -/

theorem fits_thermalTrip {cause : Nat} {sensor : Nat} {d : Dev} (fit : WithinDepth d) : WithinDepth (thermalTrip cause sensor
    d) :=
  fits_ite fit (fits_setHolds (Moves.pwr.fits (fits_setFault (fits_setFld (fits_setFld (fits_setFld fit))))))

theorem fits_thermalIsolate {d : Dev} (fit : WithinDepth d) : WithinDepth (thermalIsolate d) := by
  simp only [thermalIsolate]
  exact fits_ite (fits_lowerNext (fits_emit (Moves.pwr.fits (fits_applyDomains fit)))) fit

theorem fits_setDie {n : Nat} {x : DieSensor} {d : Dev} (fit : WithinDepth d) : WithinDepth (setDie n x d) :=
  Moves.mon.fits fit

theorem fits_setStack {n : Nat} {x : StackTemp} {d : Dev} (fit : WithinDepth d) : WithinDepth (setStack n x d) :=
  Moves.mon.fits fit

theorem fits_thermalOver {d : Dev} (fit : WithinDepth d) : WithinDepth (thermalOver d) :=
  fits_ite (fits_setHolds fit) fit

theorem fits_dieSample {n : Nat} {temp : Int} {d : Dev} (fit : WithinDepth d) : WithinDepth (dieSample n temp d) :=
  fits_ite (fits_raiseIf (fits_setDie fit)) (fits_ite (fits_thermalTrip (fits_raiseIf (fits_setDie fit))) (fits_thermalOver
    (fits_raiseIf (fits_setDie fit))))

theorem fits_hbmReport {n : Nat} {temp : Nat} {d : Dev} (fit : WithinDepth d) : WithinDepth (hbmReport n temp d) :=
  fits_ite (fits_thermalTrip (fits_raiseIf (fits_setStack fit))) (fits_thermalOver (fits_raiseIf (fits_setStack fit)))

theorem fits_hbmMissed {n : Nat} {d : Dev} (fit : WithinDepth d) : WithinDepth (hbmMissed n d) :=
  fits_raiseIf (fits_setStack fit)

theorem fits_peakRead {n : Nat} {d : Dev} (fit : WithinDepth d) : WithinDepth (peakRead n d) :=
  fits_emit (fits_setDie fit)

theorem fits_voltageSample {r : Nat} {mv : Nat} {d : Dev} (fit : WithinDepth d) : WithinDepth (voltageSample r mv d) :=
  fits_ite (fits_raise (fits_count (Moves.mon.fits fit))) (Moves.mon.fits fit)

theorem fits_avsTrack {asked : Nat} {d : Dev} (fit : WithinDepth d) : WithinDepth (avsTrack asked d) :=
  fits_ite fit (fits_ite (fits_setFld (Moves.mon.fits (Moves.mon.fits fit))) (fits_ite (Moves.mon.fits fit) (Moves.mon.fits
    (Moves.mon.fits fit))))

/-! ## Secretary -/

theorem fits_restartPath {p : Path} {d : Dev} (fit : WithinDepth d) : WithinDepth (restartPath p d) := by
  simp only [restartPath]
  split
  · exact fit
  · exact moves_abandonTxn.fits fit
  · exact moves_modPath.fits fit

theorem fits_restartCore {cause : Nat} {d : Dev} (fit : WithinDepth d) : WithinDepth (restartCore cause d) :=
  fits_foldl (fun _ _ fit => fits_restartPath fit) (fits_foldl (fun _ _ fit => fits_ite (moves_restartCluster.fits fit)
    (moves_holdCluster.fits fit)) (Moves.sec.fits (moves_logEvent.fits (fits_count fit))))

theorem fits_modSlotImg {s : Nat} {f : ImgSlot → ImgSlot} {d : Dev} (fit : WithinDepth d) : WithinDepth (modSlotImg s f d) :=
  fits_ite (Moves.img.fits fit) (Moves.img.fits fit)

theorem fits_writePtr {active : Nat} {previous : Option Nat} {trial : Bool} {starts : Nat} {d : Dev} (fit : WithinDepth d) :
    WithinDepth (writePtr active previous trial starts d) :=
  Moves.img.fits fit

theorem fits_imageHold {d : Dev} (fit : WithinDepth d) : WithinDepth (imageHold d) :=
  fits_setHolds fit

theorem fits_rollbackPtr {cause : Nat} {d : Dev} (fit : WithinDepth d) : WithinDepth (rollbackPtr cause d) :=
  moves_logEvent.fits (fits_count (Moves.img.fits (fits_writePtr (fits_modSlotImg (fits_ite fit (fits_modSlotImg fit))))))

theorem fits_otherSlot {d : Dev} (fit : WithinDepth d) : WithinDepth (otherSlot d) :=
  moves_logEvent.fits (fits_writePtr (Moves.img.fits (fits_modSlotImg (fits_modSlotImg fit))))

theorem fits_bootPtr {ptrOk : Bool} {d : Dev} (fit : WithinDepth d) : WithinDepth (bootPtr ptrOk d) :=
  fits_ite fit (fits_ite (Moves.img.fits fit) (fits_modSlotImg (fits_modSlotImg (Moves.img.fits fit))))

theorem fits_rollback {cause : Nat} {d : Dev} (fit : WithinDepth d) : WithinDepth (rollback cause d) :=
  fits_restartCore (fits_imageHold (fits_rollbackPtr fit))

theorem fits_trialStart {d : Dev} (fit : WithinDepth d) : WithinDepth (trialStart d) :=
  fits_ite (fits_ite (fits_rollback (fits_writePtr fit)) (fits_writePtr fit)) fit

theorem fits_secretaryRestart {cause : Nat} {d : Dev} (fit : WithinDepth d) : WithinDepth (secretaryRestart cause d) :=
  fits_ite (fits_trialStart (fits_restartCore fit)) fit

theorem fits_programmeCommit {d0 : Dev} {m : Nat} {d : Dev} (fit : WithinDepth d) : WithinDepth (programmeCommit d0 m d) :=
  fits_ite (fits_ite (moves_modProg.fits (fits_resetProg fit)) (fits_resetProg fit)) fit

theorem fits_afterEntries {d0 : Dev} {keys : List Nat} {d : Dev} (fit : WithinDepth d) : WithinDepth (afterEntries d0 keys d) := by
  simp only [afterEntries]
  refine fits_when fits_domsRefresh (fits_when (fun fit => fits_secretaryRelease (fits_settleState fit))
    (fits_when fits_enablesChanged (fits_foldl (fun _ _ fit => fits_programmeCommit fit) (fits_either id fits_loadTrib ?_))))
  exact fits_foldl (fun _ _ fit => fits_allocCommit fit) (fits_foldl (fun _ _ fit => fits_flowCommit fit) fit)

theorem fits_restoreFrom {values : List (Nat × List Byte)} {d : Dev} (fit : WithinDepth d) : WithinDepth (restoreFrom values
    d) :=
  fits_afterEntries (fits_loadKeys (Moves.dict.fits fit))

theorem fits_migrateStore {d : Dev} (fit : WithinDepth d) : WithinDepth (migrateStore d) := by
  simp only [migrateStore]
  refine fits_ite ?_ ?_
  · exact fit
  · refine fits_ite ?_ ?_
    · exact fits_count (Moves.dic.fits fit)
    · split
      · exact fits_ite (moves_logEvent.fits (fits_countN (Moves.dic.fits fit))) fit
      · exact fit

theorem fits_migrate {d : Dev} (fit : WithinDepth d) : WithinDepth (migrate d) :=
  fits_ite (fits_restoreFrom (fits_migrateStore fit)) (fits_migrateStore fit)

theorem fits_restartCmd {v : Nat} {d : Dev} (fit : WithinDepth d) : WithinDepth (restartCmd v d).2 :=
  fits_ite_snd fit (moves_restartCluster.fits fit)

theorem fits_restartSecretaryCmd {v : Nat} {d : Dev} (fit : WithinDepth d) : WithinDepth (restartSecretaryCmd v d).2 :=
  fits_ite_snd (fits_secretaryRestart fit) fit

theorem fits_restartSecretaryOn {p : Path} {v : Nat} {d : Dev} (fit : WithinDepth d) :
    WithinDepth (restartSecretaryOn p v d) :=
  fits_ite (fits_restartSecretaryCmd (Moves.sec.fits fit)) (fits_commandOn (fits_restartSecretaryCmd fit) fit)

theorem fits_nextActivation {d : Dev} (fit : WithinDepth d) : WithinDepth (nextActivation d) := by
  simp only [nextActivation]
  split
  · exact fits_ite (fits_count (Moves.img.fits fit)) (Moves.img.fits fit)
  · exact fit

theorem fits_tellRestarts {d : Dev} (fit : WithinDepth d) : WithinDepth (tellRestarts d) :=
  fits_foldl (fun _ _ fit => fits_emit fit) (Moves.sec.fits fit)

theorem fits_tellOwed {p : Path} {d : Dev} (fit : WithinDepth d) : WithinDepth (tellOwed p d) := by
  simp only [tellOwed]
  split
  · exact moves_tellOutcome.fits (moves_modPath.fits fit)
  · exact fit

theorem fits_chooseImage {ok : List Bool} {d e : Dev} (fit : WithinDepth d) (chosen : chooseImage ok d = some e) :
    WithinDepth e := by
  have settled : ∀ {d : Dev}, WithinDepth d → (if slotPasses ok d d.img.ptr.active then some d
      else if slotPasses ok d (1 - d.img.ptr.active) then some (otherSlot d) else none) = some e → WithinDepth e := by
    intro d fit settled
    split at settled
    · exact Option.some.inj settled ▸ fit
    · split at settled
      · exact Option.some.inj settled ▸ fits_otherSlot fit
      · exact absurd settled (by simp)
  unfold chooseImage at chosen
  dsimp only at chosen
  split at chosen
  · exact Option.some.inj chosen ▸ fit
  · next passes =>
    split at chosen
    · exact settled (fits_rollbackPtr fit) chosen
    · exact settled fit ((if_neg passes).trans chosen)

theorem fits_restartImage {x : RestartInputs} {d e : Dev} (fit : WithinDepth d) (chosen : restartImage x d = some e) :
    WithinDepth e := by
  simp only [restartImage, Option.map_eq_some_iff] at chosen
  obtain ⟨y, found, rfl⟩ := chosen
  have here := fits_chooseImage (fits_bootPtr fit) found
  exact fits_ite here (fits_imageHold here)

theorem fits_restartDone {x : RestartInputs} {d : Dev} (fit : WithinDepth d) : WithinDepth (restartDone x d) := by
  have ended : WithinDepth { d with sec := { d.sec with restarting := false } } := Moves.sec.fits fit
  simp only [restartDone]
  refine fits_ite fit ?_
  split
  · exact fits_setFld (fits_bootPtr ended)
  · next chosen =>
    exact fits_nextActivation (fits_secretaryRelieves (fits_secretaryRelease (fits_tellRestarts
      (fits_foldl (fun _ _ => fits_tellOwed) (Moves.img.fits (fits_migrate (fits_setFld (fits_restartImage ended chosen))))))))

theorem fits_confirmImage {d : Dev} (fit : WithinDepth d) : WithinDepth (confirmImage d) :=
  fits_count (fits_writePtr fit)

theorem fits_confirmCmd {v : Nat} {d : Dev} (fit : WithinDepth d) : WithinDepth (confirmCmd v d).2 :=
  fits_ite_snd fit (fits_confirmImage fit)

theorem fits_autoConfirm {d : Dev} (fit : WithinDepth d) : WithinDepth (autoConfirm d) :=
  fits_ite (fits_confirmImage fit) fit

theorem fits_trialTimeout {d : Dev} (fit : WithinDepth d) : WithinDepth (trialTimeout d) :=
  fits_ite (fits_rollback fit) fit

theorem fits_activationAsk {d : Dev} (fit : WithinDepth d) : WithinDepth (activationAsk d) := by
  simp only [activationAsk]
  split
  · exact fits_count (Moves.img.fits fit)
  · exact fits_ite (Moves.img.fits (fits_ite (fits_count fit) fit)) (Moves.img.fits (fits_pwYield (fits_ite (fits_count fit)
      fit)))

theorem fits_activationAbort {d : Dev} (fit : WithinDepth d) : WithinDepth (activationAbort d).2 := by
  simp only [activationAbort]
  split
  · exact fits_ite_snd (Moves.img.fits fit) (fits_activationLost fit)
  · exact fits_snd (fits_ite (Moves.img.fits fit) fit)

theorem fits_activationCommit {d : Dev} (fit : WithinDepth d) : WithinDepth (activationCommit d) := by
  simp only [activationCommit]
  split
  · exact fit
  · exact fits_ite fit (fits_ite (Moves.img.fits fit) (fits_secretaryRestart (fits_imageHold (moves_logEvent.fits (fits_count
      (Moves.img.fits (fits_writePtr (fits_modSlotImg (fits_modSlotImg fit)))))))))

theorem fits_activationRetry {d : Dev} (fit : WithinDepth d) : WithinDepth (activationRetry d) := by
  simp only [activationRetry]
  split
  · exact fits_ite (fits_activationCommit fit) fit
  · exact fit

/-! ## Images -/

theorem fits_helloReply {result : Nat} {id : Nat} {ack : Nat} {nonce : BitVec 128} {d : Dev} (fit : WithinDepth d) :
    WithinDepth (helloReply result id ack nonce d) :=
  fits_emit fit

theorem fits_helloRefuse {code : Nat} {ack : Nat} {d : Dev} (fit : WithinDepth d) : WithinDepth (helloRefuse code ack d) :=
  fits_helloReply (moves_nextFree.fits (fits_count fit))

theorem fits_helloOp {m : WaifelMsg} {d : Dev} (fit : WithinDepth d) : WithinDepth (helloOp m d) := by
  simp only [helloOp]
  refine fits_ite ?_ ?_
  · exact fit
  · refine fits_ite ?_ ?_
    · exact fits_count fit
    · split
      · exact fits_helloRefuse fit
      · split
        · exact fits_helloRefuse fit
        · exact fits_helloReply (Moves.cipher.fits (moves_setSession.fits (moves_nextFree.fits fit)))

theorem fits_openOp {m : WaifelMsg} {d : Dev} (fit : WithinDepth d) : WithinDepth (openOp m d) := by
  simp only [openOp]
  refine fits_ite ?_ ?_
  · exact fit
  · split
    · exact fits_count fit
    · exact fits_ite (fits_count fit) (fits_ite (fits_ite (fits_count fit) (fits_endSession (moves_sessionSend.fits
        (fits_count fit)))) (fits_ite (fits_count fit) (moves_sessionSend.fits (moves_setSession.fits fit))))

theorem fits_inSession {m : WaifelMsg} {type : Nat} {wellFormed : Bool} {f : Nat → Dev → Dev} {d : Dev}
    (h : ∀ n d, WithinDepth d → WithinDepth (f n d)) (fit : WithinDepth d) : WithinDepth (inSession m type wellFormed f d) := by
  simp only [inSession]
  generalize taken : wfAccept _ _ _ _ _ _ _ d = x
  have here := fits_of_eq Prod.snd taken (moves_wfAccept.fits fit)
  exact fits_ite fit (fits_ite (fits_count fit) (fits_ite (h _ _ here) here))

theorem fits_openTimeout {id : Nat} {d : Dev} (fit : WithinDepth d) : WithinDepth (openTimeout id d) := by
  simp only [openTimeout]
  split
  · exact fits_ite (fits_endSession (fits_count fit)) fit
  · exact fit

theorem fits_idleTimeout {id : Nat} {d : Dev} (fit : WithinDepth d) : WithinDepth (idleTimeout id d) := by
  simp only [idleTimeout]
  split
  · exact fits_ite (fits_endSession (fits_count fit)) fit
  · exact fit

theorem fits_setServiceKey {key : BitVec 256} {d : Dev} (fit : WithinDepth d) : WithinDepth (setServiceKey key d) := by
  simp only [setServiceKey]
  exact Moves.img.fits (fits_foldl (fun _ _ fit => fits_ite (fits_endSession fit) fit) fit)

theorem fits_imageReply {id : Nat} {ack : Nat} {offset : Nat} {code : Nat} {d : Dev} (fit : WithinDepth d) : WithinDepth
    (imageReply id ack offset code d) :=
  moves_sessionSend.fits fit

theorem fits_setTransfer {id : Nat} {t : Option Nat} {d : Dev} (fit : WithinDepth d) : WithinDepth (setTransfer id t d) := by
  simp only [setTransfer]
  split
  · exact moves_setSession.fits fit
  · exact fit

theorem fits_imageBegin {m : WaifelMsg} {id : Nat} {d : Dev} (fit : WithinDepth d) : WithinDepth (imageBegin m id d) :=
  fits_ite (fits_imageReply fit) (fits_ite (fits_imageReply fit) (fits_ite (fits_imageReply fit) (fits_imageReply
    (fits_setTransfer (fits_count (fits_modSlotImg fit))))))

theorem fits_imageBlock {m : WaifelMsg} {id : Nat} {d : Dev} (fit : WithinDepth d) : WithinDepth (imageBlock m id d) := by
  simp only [imageBlock]
  split
  · exact fits_imageReply fit
  · exact fits_ite (fits_imageReply fit) (fits_ite (fits_imageReply fit) (fits_imageReply (fits_count (fits_modSlotImg fit))))

theorem fits_imageEnd {m : WaifelMsg} {id : Nat} {d : Dev} (fit : WithinDepth d) : WithinDepth (imageEnd m id d) := by
  simp only [imageEnd]
  split
  · exact fits_imageReply fit
  · exact fits_ite (fits_imageReply fit) (fits_ite (fits_imageReply (fits_count (fits_modSlotImg (fits_setTransfer fit))))
      (fits_imageReply (fits_count (fits_modSlotImg (fits_setTransfer fit)))))

theorem fits_serviceOp {bs : List Byte} {d : Dev} (fit : WithinDepth d) : WithinDepth (serviceOp bs d) := by
  simp only [serviceOp]
  refine fits_ite ?_ ?_
  · exact fit
  · split
    · exact fits_emit (moves_nextFree.fits fit)
    · exact fits_count (moves_nextFree.fits fit)

/-! ## CommitRules -/

theorem fits_windowData {p : Path} {bs : List Byte} {d : Dev} (fit : WithinDepth d) : WithinDepth (windowData p bs d) := by
  simp only [windowData]
  exact Moves.dict.fits (fits_foldl (fun _ _ fit => moves_treeWrite.fits fit) fit)

theorem fits_memberCmd {p : Path} {v : Nat} {d : Dev} (fit : WithinDepth d) : WithinDepth (memberCmd p v d) := by
  simp only [memberCmd]
  split
  · exact moves_joinCmd.fits fit
  · exact moves_leaveCmd.fits fit
  · exact moves_leaveAllCmd.fits fit
  · exact fit

theorem fits_actOn {p : Path} {key : Nat} {bs : List Byte} {d : Dev} (fit : WithinDepth d) : WithinDepth (actOn p key bs d).2
    := by
  have both := fun (c : Prop) (_ : Decidable c) (x y : Nat × Dev) => fits_ite_of Prod.snd (p := c) (x := x) (y := y)
  unfold actOn
  refine both _ _ _ _ (fits_snd (fits_ite (fits_windowData fit) (Moves.dict.fits fit))) ?_
  refine both _ _ _ _ (moves_makeCurrent.fits fit) ?_
  refine both _ _ _ _ (both _ _ _ _ (moves_slotClaim.fits fit) (both _ _ _ _ (moves_slotSeal.fits fit)
    (both _ _ _ _ (moves_slotAbandon.fits fit) (moves_slotEvict.fits fit)))) ?_
  refine both _ _ _ _ (moves_connWrite.fits fit) ?_
  refine both _ _ _ _ (both _ _ _ _ (moves_swapRequest.fits fit) (moves_swapAbort.fits fit)) ?_
  refine both _ _ _ _ (fits_cabEntry fit) (both _ _ _ _ (fits_confirmCmd fit) ?_)
  refine both _ _ _ _ (both _ _ _ _ (fits_activationAsk fit) (fits_activationAbort fit)) ?_
  refine both _ _ _ _ (fits_setServiceKey fit) (both _ _ _ _ (fits_askPower fit) ?_)
  refine both _ _ _ _ (fits_memberCmd fit) (both _ _ _ _ (fits_fsReleaseWrite fit) ?_)
  exact both _ _ _ _ (Moves.dic.fits fit) (both _ _ _ _ (fits_restartCmd fit) fit)

theorem fits_actAll {p : Path} {l : List (Nat × List Byte)} {d : Dev} (fit : WithinDepth d) : WithinDepth (actAll p l d).2 := by
  induction l generalizing d with
  | nil => exact fit
  | cons x l ih =>
    simp only [actAll]
    exact fits_ite_snd (ih (fits_actOn fit)) (fits_actOn fit)

theorem fits_putEntries {cfg : List (Nat × List Byte)} {d : Dev} (fit : WithinDepth d) : WithinDepth (putEntries cfg d) :=
  Moves.dict.fits fit

theorem fits_loadEntries {p : Path} {d0 : Dev} {cfg : List (Nat × List Byte)} {d : Dev} (fit : WithinDepth d) : WithinDepth
    (loadEntries p d0 cfg d) :=
  fits_afterEntries (fits_loadKeys fit)

theorem fits_noteCommit {keys : List Nat} {d : Dev} (fit : WithinDepth d) : WithinDepth (noteCommit keys d) :=
  Moves.dic.fits fit

theorem fits_showFailed {p : Path} {key : Nat} {code : Nat} {bs : List Byte} {d : Dev} (fit : WithinDepth d) : WithinDepth
    (showFailed p key code bs d) :=
  fits_ite (fits_ite (fits_cabRefusal fit) fit) (fits_ite (fits_ite fit (fits_powerRefused fit)) (fits_ite (fits_actOn fit)
    fit))

theorem fits_commitTry {p : Path} {x : PathSt} {d : Dev} (fit : WithinDepth d) : WithinDepth (commitTry p x d).2 := by
  have acted : ∀ {c k : Nat} {l : List (Nat × List Byte)}, WithinDepth (match l.find? (fun (e : Nat × List Byte) => e.1 == k)
    with
      | some e => (some (c, k), showFailed p e.1 c e.2 d)
      | none => (some (c, k), d)).2 := by
    intro c k l
    split
    · exact fits_snd (fits_showFailed fit)
    · exact fit
  have loaded : ∀ {l cfg}, WithinDepth (actAll p l (loadEntries p d cfg (putEntries cfg d))).2 :=
    fits_actAll (fits_loadEntries (fits_putEntries fit))
  simp only [commitTry]
  split
  · exact fit
  · split
    · exact fit
    · split
      · exact fit
      · refine fits_ite_of Prod.snd acted ?_
        split
        · exact fit
        · exact acted
      · exact fit
      · next none_ _ => exact fits_ite_snd fit (fits_noteCommit loaded)

/-! ## Dictionary -/

theorem fits_openTxn {p : Path} {id : BitVec 32} {d : Dev} (fit : WithinDepth d) : WithinDepth (openTxn p id d) :=
  fits_ite (moves_answerOn.fits fit) (moves_answerOn.fits (moves_modPath.fits fit))

theorem fits_lockoutCommit {d : Dev} (fit : WithinDepth d) : WithinDepth (lockoutCommit d) := by
  simp only [lockoutCommit]
  split
  · exact fits_ite (fits_noteCommit (fits_protEval (fits_setFld (fits_same fit rfl)))) fit
  · exact fit

theorem fits_resolveTxn {p : Path} {d : Dev} (fit : WithinDepth d) : WithinDepth (resolveTxn p d) := by
  simp only [resolveTxn]
  split
  · exact moves_tellOutcome.fits (fits_ite (fits_count (moves_modPath.fits (fits_commitTry fit))) (fits_ite (fits_count
      (moves_modPath.fits (fits_commitTry fit))) (moves_modPath.fits (fits_commitTry fit))))
  · exact fits_ite (fits_secretaryRestart (moves_modPath.fits (fits_count (moves_modPath.fits (fits_commitTry fit)))))
      (moves_tellOutcome.fits (fits_count (moves_modPath.fits (fits_commitTry fit))))

theorem fits_commitPoint {p : Path} {d : Dev} (fit : WithinDepth d) : WithinDepth (commitPoint p d) :=
  fits_ite fit (fits_foldl (fun _ _ fit => fits_ite (fits_resolveTxn fit) fit) (fits_ite (fits_lockoutCommit fit) fit))

theorem fits_malformed {hd : DictHead} {bytes : Option (List Byte)} {d : Dev} (fit : WithinDepth d) :
    WithinDepth (malformed hd bytes d) := by
  simp only [malformed]
  split
  · exact fits_ite (fits_setFld fit) fit
  · exact (moves_requestOn fun _ => .step moves_answerOn .refl rfl).fits fit

/-! ## Boot -/

theorem fits_porstPins {d : Dev} (fit : WithinDepth d) : WithinDepth (porstPins d) := by
  simp only [porstPins]
  exact fits_when fits_emit (fits_when fits_emit (fits_when fits_emit (fits_when fits_emit fit)))

theorem fits_porstReset {d : Dev} : WithinDepth (porstReset d) := fun _ => Nat.zero_le _

theorem fits_lowReset {off : Bool} {d : Dev} : WithinDepth (lowReset off d) := by
  unfold lowReset
  refine fits_setFld (fits_foldl (fun _ _ => fits_setReg) (fits_setReg ?_))
  split
  · exact fits_of_empty rfl
  · exact fits_zeroCounters (fits_of_empty rfl)

theorem fits_fsBoot {b : BootInputs} {d : Dev} (fit : WithinDepth d) : WithinDepth (fsBoot b d) :=
  fits_ite (Moves.fs.fits fit) (fits_ite (Moves.fs.fits fit) (fits_failDark (moves_nextFree.fits (Moves.fs.fits fit))))

theorem fits_countStart {d : Dev} (fit : WithinDepth d) : WithinDepth (countStart d) :=
  fits_ite fit (fits_ite (fits_rollbackPtr fit) (fits_writePtr fit))

theorem fits_restoreDefaults {d : Dev} (fit : WithinDepth d) : WithinDepth (restoreDefaults d) :=
  fits_ite fit (fits_same fit rfl)

theorem fits_logTrip {d : Dev} (fit : WithinDepth d) : WithinDepth (logTrip d) :=
  fits_ite fit (moves_logEvent.fits (Moves.boot.fits fit))

theorem fits_readStore {d : Dev} (fit : WithinDepth d) : WithinDepth (readStore d) :=
  fits_countFails (fits_same (fits_logTrip (fits_restoreDefaults (fits_migrateStore fit))) rfl)

theorem fits_bootLoad {d : Dev} {key : Nat} (fit : WithinDepth d) : WithinDepth (bootLoad d key) := by
  simp only [bootLoad]
  refine fits_ite ?_ ?_
  · split
    · exact fits_foldl (fun _ _ fit => fits_setFld fit) fit
    · exact fit
  · exact fits_loadOrDefer fit

theorem fits_lockLimits {d : Dev} (fit : WithinDepth d) : WithinDepth (lockLimits d) :=
  fits_ite fit (Moves.fs.fits fit)

theorem fits_loadG0 {d : Dev} (fit : WithinDepth d) : WithinDepth (loadG0 d) := by
  simp only [loadG0]
  split
  · exact fit
  · exact fits_ite fit (Moves.cls.fits (fits_foldl (fun _ _ fit => Moves.dict.fits (fits_setFld (fits_setFld fit))) fit))

theorem fits_bootAvs {reached : Bool} {d : Dev} (fit : WithinDepth d) : WithinDepth (bootAvs reached d) :=
  fits_ite (fits_setFld (Moves.mon.fits fit)) fit

theorem fits_bootUnits {d : Dev} (fit : WithinDepth d) : WithinDepth (bootUnits d) :=
  fits_protStart (fits_applyDomains (Moves.trib.fits (fits_loadG0 (fits_lockLimits (fits_foldl (fun _ _ fit => fits_bootLoad
    fit) fit)))))

theorem fits_recovery {d : Dev} (fit : WithinDepth d) : WithinDepth (recovery d) := by
  have enabled : WithinDepth ((presentChans d).foldl (fun d n => setFld fLC_CTRL_ENABLE n 1 d) (setFld fGL_BOOT_RECOVERY 0 1
    d)) :=
    fits_foldl (fun _ _ => fits_setFld) (fits_setFld fit)
  unfold recovery
  generalize (presentChans d).foldl _ _ = x at enabled ⊢
  exact fits_applyDomains enabled

theorem fits_bootImage {ok : List Bool} {d e : Dev} (fit : WithinDepth d) (found : bootImage ok d = some e) : WithinDepth e :=
    by
  simp only [bootImage, Option.bind_eq_some_iff] at found
  obtain ⟨y, chosen, counted⟩ := found
  have started := fits_countStart (fits_chooseImage fit chosen)
  split at counted
  · exact Option.some.inj counted ▸ started
  · exact fits_chooseImage started counted

theorem fits_bootSteps {b : BootInputs} {d : Dev} (fit : WithinDepth d) : WithinDepth (bootSteps b d) := by
  have begun : WithinDepth (ltResume ((List.range 4).foldl (fun d n => setPd n 1 d) (setFld fGL_BOOT_STEP 0 2 d))) :=
    fits_ltResume (fits_foldl (fun _ _ => fits_setPd) (fits_setFld fit))
  unfold bootSteps
  dsimp only
  generalize ltResume _ = x at begun ⊢
  generalize ptr : bootPtr b.ptrOk _ = y
  have started : WithinDepth y := fits_of_eq id ptr (fits_bootPtr (Moves.boot.fits begun))
  split
  · exact fits_recovery started
  · next found =>
    exact moves_offerWindow.fits (fits_setFld (fits_bootUnits (fits_memStart (fits_setFld (fits_bootAvs (fits_readStore
      (fits_bootImage started found)))))))

theorem fits_bootStart {cause : Nat} {b : BootInputs} {d : Dev} (fit : WithinDepth d) : WithinDepth (bootStart cause b d) := by
  simp only [bootStart]
  refine fits_either fits_bootSteps Moves.boot.fits (fits_either fits_raise fits_fsBoot (Moves.boot.fits ?_))
  exact fits_setFld (fits_setFld fit)

theorem fits_porstAssert {t : Time} {d : Dev} (fit : WithinDepth d) : WithinDepth (porstAssert t d) :=
  fits_ite fit fits_porstReset

theorem fits_powerGood {b : BootInputs} {d : Dev} (fit : WithinDepth d) : WithinDepth (powerGood b d) :=
  fits_bootStart (fits_same (fits_same fit rfl) rfl)

theorem fits_warmReset {b : BootInputs} {d : Dev} : WithinDepth (warmReset b d) := fits_bootStart fits_lowReset

theorem fits_offWake {b : BootInputs} {w : PwWake} {d : Dev} : WithinDepth (offWake b w d) :=
  fits_startNext (fits_restoreTimer (fits_raise (fits_bootStart (fits_setFault (fits_setProfilePw fits_lowReset)))))

theorem fits_oscRdy {b : BootInputs} {d : Dev} (fit : WithinDepth d) : WithinDepth (oscRdy b d) := by
  simp only [oscRdy]
  refine fits_ite fit (fits_ite (fits_bootSteps (fits_setFault fit)) ?_)
  split
  · exact fits_ite fit (fits_ite fits_offWake (fits_wakeDone fit))
  · exact fit

theorem fits_lineStart {d : Dev} (fit : WithinDepth d) : WithinDepth (lineStart d) :=
  fits_ite fit (fits_holdTimer (fits_pwResume (fits_actOnUp (Moves.act.fits (fits_setFld (fits_setFld (fits_setFld fit)))))))

theorem fits_killRelease {d : Dev} (fit : WithinDepth d) : WithinDepth (killRelease d) :=
  fits_ite (Moves.fs.fits fit) fit

/-! ## Clusters -/

theorem fits_clusterLoad {c : Nat} {digestOk : Bool} {secondOk : Bool} {d : Dev} (fit : WithinDepth d) : WithinDepth
    (clusterLoad c digestOk secondOk d) :=
  fits_ite (moves_modCluster.fits (Moves.mc.fits fit)) (fits_raise (fits_count (moves_modCluster.fits (Moves.mc.fits fit))))

/-! ## HostSpace -/

theorem fits_bar2Reply {o : Nat} {v : Word} {d : Dev} (fit : WithinDepth d) : WithinDepth (bar2Reply o v d) :=
  fits_emit fit

theorem fits_drawerPage {n : Nat} {o : Nat} {a : BarAccess} {d : Dev} (fit : WithinDepth d) : WithinDepth (drawerPage n o a d)
    :=
  fits_ite (fits_ite (moves_drawerLevel.fits fit) (fits_ite (moves_drawerFlush.fits fit) (fits_ite (moves_doorbell.fits
    (moves_ringIdleExit.fits fit)) fit))) (fits_ite (moves_drawerRead.fits fit) (fits_bar2Reply fit))

theorem fits_bar2Access {a : BarAccess} {d : Dev} (fit : WithinDepth d) : WithinDepth (bar2Access a d) := by
  simp only [bar2Access]
  refine fits_ite ?_ ?_
  · exact fit
  · refine fits_ite ?_ ?_
    · exact fits_ite fit (fits_bar2Reply fit)
    · refine fits_ite ?_ ?_
      · exact fits_drawerPage fit
      · split
        · exact fits_ite (fits_ite (moves_doorbell.fits (moves_ringIdleExit.fits fit)) fit) (fits_bar2Reply fit)
        · exact fits_ite fit (fits_bar2Reply fit)

theorem fits_setVector {v : Nat} {e : VectorEntry} {d : Dev} (fit : WithinDepth d) : WithinDepth (setVector v e d) :=
  fits_host fit rfl

theorem fits_bar4Store {o : Nat} {w : BitVec 32} {d : Dev} (fit : WithinDepth d) : WithinDepth (bar4Store o w d) := by
  simp only [bar4Store]
  refine fits_ite ?_ ?_
  · exact fit
  · split
    · exact fits_setVector fit
    · exact fits_setVector fit
    · exact fits_setVector fit
    · exact fits_ite (fits_mask fit) (moves_unmask.fits fit)

theorem fits_bar4Access {a : WideAccess} {d : Dev} (fit : WithinDepth d) : WithinDepth (bar4Access a d) :=
  fits_ite fit (fits_ite (fits_ite fit (fits_ite (fits_bar4Store (fits_bar4Store fit)) (fits_bar4Store fit))) (fits_emit fit))

theorem fits_cfgAccess {write : Bool} {r : CfgReg} {v : BitVec 64} {d : Dev} (fit : WithinDepth d) : WithinDepth (cfgAccess
    write r v d) :=
  fits_ite fit (fits_ite (fits_host fit rfl) (fits_emit fit))

/-! ## RegAccess -/

theorem fits_badAccess {a : BarAccess} {d : Dev} (fit : WithinDepth d) : WithinDepth (badAccess a d) :=
  fits_ite (fits_raise (fits_ite (fits_setReg (fits_count fit)) (fits_count fit))) (fits_emit (fits_raise (fits_ite
    (fits_setReg (fits_count fit)) (fits_count fit))))

theorem fits_writeLcCtrl {n : Nat} {w : Word} {d : Dev} (fit : WithinDepth d) : WithinDepth (writeLcCtrl n w d) :=
  fits_ite (fits_storeWrite fit) (fits_enablesChanged (fits_storeWrite fit))

theorem fits_writeDpCtrl {n : Nat} {w : Word} {d0 : Dev} (fit : WithinDepth d0) : WithinDepth (writeDpCtrl n w d0) :=
  fits_ite (fits_laneRefresh (fits_storeWrite fit)) (fits_ite (fits_storeWrite fit) (fits_laneRestart (fits_storeWrite fit)))

theorem fits_writeActCtrl {w : Word} {d : Dev} (fit : WithinDepth d) : WithinDepth (writeActCtrl w d) :=
  fits_secretaryRelease (fits_settleState (fits_storeWrite fit))

theorem fits_writeRingCfg {r : Reg} {i : Nat} {n : Nat} {w : Word} {d : Dev} (fit : WithinDepth d) : WithinDepth (writeRingCfg
    r i n w d) :=
  fits_ite (fits_ringStop (fits_storeWrite fit)) (fits_ite (moves_benchFlush.fits (fits_storeWrite fit)) (fits_storeWrite fit))

theorem fits_writeSummaryMask {w : Word} {d : Dev} (fit : WithinDepth d) : WithinDepth (writeSummaryMask w d) :=
  fits_foldl (fun _ _ fit => fits_ite (fits_signal fit) fit) (fits_storeWrite fit)

theorem fits_writeCabCtrl {w : Word} {d : Dev} (fit : WithinDepth d) : WithinDepth (writeCabCtrl w d) :=
  fits_ite (fits_cabArmed (fits_ite (fits_cabAborted (fits_storeWrite fit)) (fits_storeWrite fit))) (fits_ite (fits_cabAborted
    (fits_storeWrite fit)) (fits_storeWrite fit))

theorem fits_writeTsiCmd {w : Word} {d : Dev} (fit : WithinDepth d) : WithinDepth (writeTsiCmd w d) := by
  simp only [writeTsiCmd]
  exact fits_when moves_tsiReadCmd.fits (fits_when moves_tsiAbortCmd.fits (fits_when moves_tsiSwapCmd.fits
    (fits_when moves_tsiWriteCmd.fits fit)))

theorem fits_writeAccCmd {w : Word} {d : Dev} (fit : WithinDepth d) : WithinDepth (writeAccCmd w d) :=
  fits_ite (moves_accWrite.fits fit) (fits_ite (moves_accRead.fits fit) fit)

theorem fits_writeSbCmd {w : Word} {d : Dev} (fit : WithinDepth d) : WithinDepth (writeSbCmd w d) := by
  simp only [writeSbCmd]
  split
  · exact moves_joinCmd.fits fit
  · exact moves_leaveCmd.fits fit
  · exact moves_leaveAllCmd.fits fit
  · exact fit

theorem fits_writeMbCmd {w : Word} {d : Dev} (fit : WithinDepth d) : WithinDepth (writeMbCmd w d) :=
  fits_ite fit (fits_ite (fits_raise (fits_count fit)) (fits_setFld fit))

theorem fits_writePwReq {w : Word} {d : Dev} (fit : WithinDepth d) : WithinDepth (writePwReq w d) :=
  fits_ite (fits_askPower fit) fit

theorem fits_writeAt {r : Reg} {i : Nat} {w : Word} {d : Dev} (fit : WithinDepth d) : WithinDepth (writeAt r i w d) := by
  unfold writeAt
  split
  · exact fits_writeLcCtrl fit
  · exact fits_ite (fits_retrainChan fit) fit
  · exact fits_protCtrlWrite fit
  · exact fits_setReg fit
  · exact fits_setReg fit
  · exact fits_keyCommand fit
  · exact fits_writeActCtrl fit
  · exact fits_writeDpCtrl fit
  · exact fits_flowEval (fits_storeWrite fit)
  · exact fits_flowEval (fits_storeWrite fit)
  · exact fits_testCtrl fit
  · exact fits_testInject fit
  · exact moves_windowWrite.fits fit
  · exact fits_writeAccCmd fit
  · exact fits_writeSbCmd fit
  · exact fits_trSettings (fits_storeWrite fit)
  · exact fits_writeTsiCmd fit
  · exact fits_tbSettings (fits_storeWrite fit)
  · exact fits_ltSettings (fits_storeWrite (moves_ltRebase.fits fit))
  · exact fits_ltSettings (fits_storeWrite (moves_ltRebase.fits fit))
  · exact fits_ltSettings (fits_storeWrite (moves_ltRebase.fits fit))
  · exact moves_softwareOffset.fits fit
  · exact moves_ltCmd.fits fit
  · exact fits_writeRingCfg fit
  · exact fits_writeRingCfg fit
  · exact fits_writeRingCfg fit
  · exact fits_writeRingCfg fit
  · exact fits_writeRingCfg fit
  · exact fits_writeRingCfg fit
  · exact fits_drawerConsumer fit
  · exact fits_writeMbCmd fit
  · exact fits_hostHandlesWrite fit
  · exact fits_taskCancel fit
  · exact fits_writePwReq fit
  · exact fits_domsRefresh (fits_storeWrite fit)
  · exact fits_writeSummaryMask fit
  · exact fits_selClear fit
  · exact fits_writeCabCtrl fit
  · exact fits_storeWrite fit

theorem fits_readAt {o : Nat} {r : Reg} {i : Nat} {d : Dev} (fit : WithinDepth d) : WithinDepth (readAt o r i d) := by
  simp only [readAt]
  split
  · exact moves_windowStatusRead.fits fit
  · exact moves_longcaseNow.fits fit
  · exact fits_selRead fit
  · exact fits_cabRead fit
  · exact fits_peakRead fit
  · exact fits_emit fit

theorem fits_goodAccess {a : BarAccess} {d : Dev} (fit : WithinDepth d) : WithinDepth (goodAccess a d) := by
  simp only [goodAccess]
  have awake : ∀ {o : Nat}, WithinDepth (if coreClocked (o / 0x100000) then idleExit d else d) :=
    fits_when moves_idleExit.fits fit
  split
  · exact fits_ite (fits_ite fit (fits_emit fit)) (fits_either fits_writeAt fits_readAt (fits_when fits_testSync awake))
  · refine fits_ite awake ?_
    split
    · exact fits_emit awake
    · exact fits_emit awake

theorem fits_barAccess {a : BarAccess} {d : Dev} (fit : WithinDepth d) : WithinDepth (barAccess a d) :=
  fits_ite (fits_goodAccess fit) (fits_badAccess fit)

theorem fits_hostAccess {x : HostAccess} {d : Dev} (fit : WithinDepth d) : WithinDepth (hostAccess x d) := by
  simp only [hostAccess]
  split
  · exact fits_barAccess fit
  · exact fits_bar2Access fit
  · exact fits_bar4Access fit
  · exact fits_cfgAccess fit

/-! ## Tasks -/

/-- A descriptor's command, with the errors of the words that it reads. -/
theorem fits_runDsc {op trie : Bool} {x : Descriptor} {f : Dev → Dev} {d : Dev} (h : ∀ d, WithinDepth d → WithinDepth (f d))
    (fit : WithinDepth d) : WithinDepth (runDsc op trie x f d) :=
  fits_ite (h _ (moves_meetErrors.fits fit)) fit

theorem fits_descriptorRun {x : Descriptor} {d : Dev} (fit : WithinDepth d) : WithinDepth (descriptorRun x d) := by
  simp only [descriptorRun]
  split
  · exact fits_runDsc (fun _ => moves_macInsert.fits) fit
  · exact fits_runDsc (fun _ => moves_macDelete.fits) fit
  · exact fits_runDsc (fun _ => moves_macFindOp.fits) fit
  · exact fits_runDsc (fun _ => moves_macLockOp.fits) fit
  · exact fits_runDsc (fun _ => moves_macWriteOp.fits) fit
  · exact fits_runDsc (fun _ => moves_macReadOp.fits) fit
  · exact fits_runDsc (fun _ => moves_trieWriteOp.fits) fit
  · exact fits_runDsc (fun _ => moves_trieReadOp.fits) fit
  · exact fits_runDsc (fun _ => moves_dscDone.fits) fit

theorem fits_tableBatch {xs : List Descriptor} {d : Dev} (fit : WithinDepth d) : WithinDepth (tableBatch xs d) :=
  fits_foldl (fun _ _ fit => fits_descriptorRun fit) fit

theorem fits_linkArray {w : Nat} {a : Nat} {d : Dev} (fit : WithinDepth d) : WithinDepth (linkArray w a d) :=
  moves_setTrieWord.fits (fits_foldl (fun _ _ fit => fits_ite fit (moves_setTrieWord.fits fit)) fit)

theorem fits_spreadRoute {r : Route} {base : Nat} {d : Dev} (fit : WithinDepth d) : WithinDepth (spreadRoute r base d) :=
  fits_foldl (fun _ _ fit => fits_ite fit (moves_setTrieWord.fits fit)) fit

theorem fits_withdrawRoute {v6 : Bool} {addr : Nat} {plen : Nat} {base : Nat} {d : Dev} (fit : WithinDepth d) : WithinDepth
    (withdrawRoute v6 addr plen base d) := by
  simp only [withdrawRoute]
  refine fits_foldl (fun _ _ fit => ?_) ?_
  · refine fits_ite ?_ ?_
    · split
      · exact moves_setTrieWord.fits fit
      · exact moves_setTrieWord.fits fit
    · exact fit
  · exact fit

theorem fits_pruneRoute {v6 : Bool} {addr k : Nat} {d : Dev} (fit : WithinDepth d) : WithinDepth (pruneRoute v6 addr k d) := by
  induction k generalizing d with
  | zero => exact fit
  | succ k ih =>
    rw [pruneRoute]
    split
    · exact ih fit
    · dsimp only
      split
      · exact ih fit
      · exact fits_ite fit (ih (Moves.fwd.fits (moves_setTrieWord.fits fit)))

theorem fits_routeDelete {v6 : Bool} {addr : Nat} {plen : Nat} {d : Dev} (fit : WithinDepth d) : WithinDepth (routeDelete v6
    addr plen d) := by
  simp only [routeDelete]
  split
  · exact fits_pruneRoute (fits_withdrawRoute (Moves.fwd.fits fit))
  · exact Moves.fwd.fits fit

theorem fits_makePath {v6 : Bool} {addr k : Nat} {d : Dev} {y : Nat × Dev} (fit : WithinDepth d)
    (made : makePath v6 addr k d = some y) : WithinDepth y.2 := by
  induction k generalizing y with
  | zero =>
    simp only [makePath, Option.some.injEq] at made
    exact made ▸ fit
  | succ k ih =>
    simp only [makePath] at made
    split at made
    · exact absurd made (by simp)
    · next base e found =>
      have here : WithinDepth e := ih found
      split at made
      · exact Option.some.inj made ▸ here
      · split at made
        · exact Option.some.inj made ▸ fits_linkArray here
        · exact absurd made (by simp)

theorem fits_routeAdd {r : Route} {d e : Dev} (fit : WithinDepth d) (added : routeAdd r d = some e) : WithinDepth e := by
  simp only [routeAdd, Option.map_eq_some_iff] at added
  obtain ⟨y, made, rfl⟩ := added
  exact fits_spreadRoute (Moves.fwd.fits (fits_makePath fit made))

theorem fits_routeRecord {ws : List Word} {d e : Dev} (fit : WithinDepth d) (recorded : routeRecord ws d = some e) :
    WithinDepth e := by
  unfold routeRecord at recorded
  dsimp only at recorded
  rw [ite_eq_iff, ite_eq_iff, ite_eq_iff] at recorded
  obtain ⟨-, none_⟩ | ⟨-, ⟨-, added⟩ | ⟨-, ⟨-, gone⟩ | ⟨-, none_⟩⟩⟩ := recorded
  · exact absurd none_ (by simp)
  · exact fits_routeAdd fit added
  · exact Option.some.inj gone ▸ fits_routeDelete fit
  · exact absurd none_ (by simp)

theorem fits_routeBatch {n : Nat} {ws : List Word} {d : Dev} (fit : WithinDepth d) : WithinDepth (routeBatch n ws d).2 := by
  induction n generalizing ws d with
  | zero => exact fit
  | succ n ih =>
    simp only [routeBatch]
    split
    · exact fit
    · next recorded => exact ih (fits_routeRecord fit recorded)

theorem fits_gatherOne {o : Word} {d : Dev} (fit : WithinDepth d) : WithinDepth (gatherOne o d).2 := by
  simp only [gatherOne]
  split
  · exact fits_snd fit
  · exact fits_snd (moves_nextFree.fits fit)

theorem fits_gatherAll {l : List Word} {d : Dev} (fit : WithinDepth d) : WithinDepth (gatherAll l d).2 := by
  induction l generalizing d with
  | nil => exact fit
  | cons o l ih => exact ih (fits_gatherOne fit)

theorem fits_taskAction {x : Machine.Task} {status : Nat} {a : TaskAnswer} {d : Dev} (fit : WithinDepth d) : WithinDepth
    (taskAction x status a d).2.2 := by
  simp only [taskAction]
  split
  · exact fits_ite_thd fit (fits_tableBatch (moves_idleExit.fits fit))
  · exact fits_ite_thd fit (fits_routeBatch (moves_idleExit.fits fit))
  · exact fits_ite_thd fit (fits_emit (fits_gatherAll fit))
  · split
    · exact fits_thd (fits_emit fit)
    · exact fits_thd fit
  · exact fits_thd fit

theorem fits_taskComplete {k : Nat} {status : Nat} {a : TaskAnswer} {d : Dev} (fit : WithinDepth d) : WithinDepth
    (taskComplete k status a d) := by
  simp only [taskComplete]
  split
  · exact fit
  · split
    · exact fit
    · exact fits_ite fit (moves_finish.fits (moves_modCore.fits (fits_taskAction fit)))

end Sys2Proof.Proofs
end

section
/-!
PROOF. Drawers within their depth (R483, R489, R493): what every command answers keeps them so.
-/

namespace Sys2Proof.Proofs

open Sys2Proof Sys2Proof.Machine Sys2Proof.Laws

/-! ## An answer -/

/-- A command answers a device with its drawers within their depth. -/
def FitsOut (o : Out) : Prop := ∀ t, o = .next t → WithinDepth t.dev

section
variable {s : State}

theorem fitsOut_next {u : State} (h : WithinDepth u.dev) : FitsOut (.next u) := fun t e => by
  injection e with e
  exact e ▸ h

theorem fitsOut_onDev {f : Dev → Dev} (h : ∀ d, WithinDepth d → WithinDepth (f d)) (fit : WithinDepth s.dev) :
    FitsOut (onDev f s) := fitsOut_next (fits_ite fit (h _ fit))

theorem fitsOut_at {t : Time} {f : Dev → Dev} (h : ∀ d, WithinDepth d → WithinDepth (f d)) (fit : WithinDepth s.dev) :
    FitsOut (at_ t f s) := fitsOut_onDev (fun _ fit => h _ (fits_tick fit)) fit

theorem fitsOut_onDevDrive {f : Dev → Dev} (h : ∀ d, WithinDepth d → WithinDepth (f d)) (fit : WithinDepth s.dev) :
    FitsOut (onDev (fsDrive f) s) := fitsOut_onDev (fun _ fit => fits_fsDrive (h _ fit)) fit

theorem fitsOut_atDrive {t : Time} {f : Dev → Dev} (h : ∀ d, WithinDepth d → WithinDepth (f d)) (fit : WithinDepth s.dev) :
    FitsOut (at_ t (fsDrive f) s) := fitsOut_at (fun _ fit => fits_fsDrive (h _ fit)) fit

theorem fitsOut_core {t : Time} {f : Dev → Dev} (h : ∀ d, WithinDepth d → WithinDepth (f d)) (fit : WithinDepth s.dev) :
    FitsOut (atCore t f s) := fitsOut_at (fun _ fit => fits_ite (h _ (moves_idleExit.fits fit)) fit) fit

theorem fitsOut_onWhole {f : State → State} (h : ∀ {s}, WithinDepth s.dev → WithinDepth (f s).dev) (fit : WithinDepth s.dev) :
    FitsOut (onWhole f s) := fitsOut_next (fits_ite_of State.dev fit (h fit))

theorem moves_openTxn {p : Path} {id : BitVec 32} {d : Dev} : Moves requestPieces requestRegs d (openTxn p id d) :=
  .ite (.step moves_answerOn .refl rfl) (.step moves_answerOn (.step moves_modPath .refl rfl) rfl)

theorem fitsOut_request {hd : DictHead} {op flags n secs ns : Nat} {body : List Byte} {f : Dev → Dev}
    (h : ∀ d, Moves requestPieces requestRegs d (f d)) (fit : WithinDepth s.dev) :
    FitsOut (onRequest hd op flags n secs ns body f s) := fitsOut_at (fun _ fit => (moves_request h).fits fit) fit

/-! ## The commands that reach the memory -/

theorem fits_cxlAccess {off : Nat} {x : CxlAccess} (fit : WithinDepth s.dev) : WithinDepth (cxlAccess off x s).dev := by
  have written : ∀ {p : Option Nat} {bs : List Byte} {s : State}, WithinDepth s.dev → WithinDepth (cxlWriteLine p bs s).dev := by
    intro p bs s fit
    cases p with
    | none => exact fit
    | some a => exact Moves.mc.fits fit
  have patched : ∀ {p : Option Nat} {i : Nat} {bs : List Byte} {s : State}, WithinDepth s.dev →
      WithinDepth (cxlWritePart p i bs s).dev := by
    intro p i bs s fit
    cases p <;> exact fit
  cases open_ : windowOpen s.dev with
  | false => rwa [cxlAccess_closed open_]
  | true =>
    cases x with
    | read n => rw [cxlAccess_read open_]; exact fits_cxlRead (moves_mapReads.fits fit)
    | writeLine bs => rw [cxlAccess_writeLine open_]; exact written (moves_mapReads.fits fit)
    | writePart i bs => rw [cxlAccess_writePart open_]; exact patched (moves_mapReads.fits fit)

theorem fits_copyBlock {a b : Nat} {bad : List Nat} (fit : WithinDepth s.dev) : WithinDepth (copyBlock a b bad s).dev :=
  fits_countN (fits_count (moves_addPoison.fits (Moves.mc.fits fit)))

theorem fits_migrationStep {bad : List Nat} (fit : WithinDepth s.dev) : WithinDepth (migrationStep bad s).dev := by
  simp only [migrationStep]
  split
  · exact fit
  · split
    · exact fit
    · split
      · exact fits_ite (fits_migrationEnd (Moves.mc.fits (fits_copyBlock fit))) (Moves.mc.fits (fits_copyBlock fit))
      · split
        · exact fits_migrationEnd fit
        · split
          · exact fits_migrationEnd fit
          · exact fits_ite (Moves.mc.fits (fits_copyBlock fit)) (fits_migrationEnd (Moves.mc.fits (fits_copyBlock fit)))

theorem fits_clusterStart {c : Nat} {x y : Bool} (fit : WithinDepth s.dev) : WithinDepth (clusterStart c x y s).dev := by
  simp only [clusterStart]
  split
  · exact fit
  · exact fits_clusterLoad fit

end

/-! ## Every command

The table's commands in its order, a stretch of it in each lemma. -/

/-- The command stands in this stretch of the table. -/
def stretch (lo hi : Nat) (c : Instr) : Bool := Nat.ble lo c.ctorIdx && Nat.blt c.ctorIdx hi

theorem moves_samples {d : Dev} : Moves [.emitted, .regs, .cnt, .host, .tm] [.cnEvent, .cnWrap, .scCfg, .tmEvent] d
    ((sampleList d).foldl (fun d e => sampleQueue e.1 e.2 d) d) :=
  .foldl (fun _ _ => moves_sampleQueue) .refl

/-! ### The line and its envelopes -/

theorem fitsOut_line {c : Instr} (h : stretch 0 20 c = true) {s : State} (fit : WithinDepth s.dev) : FitsOut
    (exec c s) := by
  cases c with
  | lineFrameReceived f => exact fitsOut_at (fun _ fit => fits_lineFrame fit) fit
  | losEntered t ch c => exact fitsOut_at (fun _ fit => fits_losEntered fit) fit
  | losLeft t ch lane => exact fitsOut_at (fun _ fit => fits_losLeft fit) fit
  | frameBoundary t inp =>
    exact fitsOut_atDrive (fun _ fit => fits_activationRetry (fits_imageHoldStep (fits_pwResume (fits_frameBoundary fit)))) fit
  | holdoffExpiry t => exact fitsOut_at (fun _ fit => fits_holdoffExpiry fit) fit
  | settleEnd t => exact fitsOut_at (fun _ fit => fits_settleEnd fit) fit
  | protectionCheckExpiry t => exact fitsOut_at (fun _ fit => fits_checkExpiry fit) fit
  | alternationDwellExpiry t => exact fitsOut_at (fun _ fit => fits_dwellExpiry fit) fit
  | switchToWorking t v => exact fitsOut_at (fun _ fit => fits_protCtrlWrite fit) fit
  | switchToProtection t v => exact fitsOut_at (fun _ fit => fits_protCtrlWrite fit) fit
  | lockoutDeviceCommit t => exact fitsOut_at (fun _ fit => fits_lockoutCommit fit) fit
  | envelopeReceived e => exact fitsOut_atDrive (fun _ fit => fits_mgmtWake (fits_envelopeReceived fit)) fit
  | reorderWindowExpiry t flow => exact fitsOut_atDrive (fun _ fit => fits_mgmtWake (fits_reorderExpiry fit)) fit
  | keyWriteEntry e => exact fitsOut_onDev (fun _ fit => fits_keyWrite fit) fit
  | keyEraseEntry e => exact fitsOut_onDev (fun _ fit => fits_keyErase fit) fit
  | keyReadEntryState e => exact fitsOut_onDev (fun _ fit => fits_keyRead fit) fit
  | checkValueSlotWrite k =>
    rw [exec_checkValueSlotWrite]
    exact fitsOut_onDev (fun d fit => fits_slotSet (key := some (keyData d)) fit) fit
  | checkValueSlotErase k => exact fitsOut_onDev (fun _ fit => fits_slotSet fit) fit
  | keyCommandInvalid op entry => exact fitsOut_onDev (fun _ fit => fits_keyCommand fit) fit
  | txIndexWrite i v => exact fitsOut_onDev (fun _ fit => fits_storeWrite fit) fit
  | _ => exact absurd h Bool.false_ne_true

/-! ### Joining the tree -/

theorem fitsOut_joining {c : Instr} (h : stretch 20 38 c = true) {s : State} (fit : WithinDepth s.dev) : FitsOut
    (exec c s) := by
  cases c with
  | burstProfile m =>
    exact fitsOut_at (fun _ fit => fits_fsOn (fits_fsProfile (fits_receive (fun _ fit => fits_burstProfile fit) fit))
      (fits_receive (fun _ fit => fits_burstProfile fit) fit)) fit
  | assignTerminal m =>
    exact fitsOut_at (fun _ fit => fits_domsRefresh (fits_fsOn (fits_fsAssign (fits_receive (fun _ fit => fits_assignTerminal
      fit) fit)) (fits_receive (fun _ fit => fits_assignTerminal fit) fit))) fit
  | rangingRequest m =>
    exact fitsOut_at (fun _ fit => fits_fsOn (fits_fsRangingRequest (fits_receive (fun _ fit => fits_rangingRequest fit)
      fit)) (fits_receive (fun _ fit => fits_rangingRequest fit) fit)) fit
  | rangingTime m =>
    exact fitsOut_at (fun _ fit => fits_fsOn (fits_fsRangingTime (fits_receive (fun _ fit => fits_rangingTime fit) fit))
      (fits_receive (fun _ fit => fits_rangingTime fit) fit)) fit
  | deactivate m =>
    exact fitsOut_at (fun _ fit => fits_receive (fun _ fit => fits_deactivate fit) (fits_fsOn (fits_fsDeactivate fit) fit)) fit
  | disable m =>
    exact fitsOut_atDrive (fun _ fit => fits_receive (fun _ fit => fits_disable fit) (fits_fsOn (fits_fsDisable fit) fit)) fit
  | enable m =>
    exact fitsOut_atDrive (fun _ fit => fits_receive (fun _ fit => fits_enable fit) (fits_fsOn (fits_fsEnable
      (fits_nonceCheck fit)) (fits_nonceCheck fit))) fit
  | keyControlSwitch m => exact fitsOut_at (fun _ fit => fits_receive (fun _ fit => fits_keyControl fit) fit) fit
  | keyControlReport m => exact fitsOut_at (fun _ fit => fits_receive (fun _ fit => fits_keyControl fit) fit) fit
  | keySwitchCommit t => exact fitsOut_at (fun _ fit => fits_keySwitchCommit fit) fit
  | timeOfDay m => exact fitsOut_at (fun _ fit => fits_receive (fun _ fit => fits_timeOfDay fit) fit) fit
  | sleepAllow m => exact fitsOut_at (fun _ fit => fits_receive (fun _ fit => fits_sleepAllow fit) fit) fit
  | protectionControl m => exact fitsOut_at (fun _ fit => fits_receive (fun _ fit => fits_protectionControl fit) fit) fit
  | rangingTimerExpiry t => exact fitsOut_at (fun _ fit => fits_rangingExpiry fit) fit
  | lossTimerExpiry t => exact fitsOut_at (fun _ fit => fits_lossExpiry fit) fit
  | sleepConsentExpiry t => exact fitsOut_at (fun _ fit => fits_sleepExpiry fit) fit
  | pfailFall t => exact fitsOut_atDrive (fun _ fit => fits_pfailFalls fit) fit
  | pfailRise t => exact fitsOut_at (fun _ fit => fits_pfailRises fit) fit
  | _ => exact absurd h Bool.false_ne_true

/-! ### Bursts and the Firescreen -/

theorem fitsOut_bursts {c : Instr} (h : stretch 38 61 c = true) {s : State} (fit : WithinDepth s.dev) : FitsOut
    (exec c s) := by
  cases c with
  | grantFill t x => exact fitsOut_at (fun _ fit => fits_grantFill fit) fit
  | wardrobePrefetchComplete t ch => exact fitsOut_at (fun _ fit => fits_prefetchDone fit) fit
  | burstStart t ch => exact fitsOut_atDrive (fun _ fit => fits_burstStart fit) fit
  | burstEnd t ch => exact fitsOut_atDrive (fun _ fit => fits_pwResume (fits_burstEnd fit)) fit
  | tribBlockExpiry t => exact fitsOut_at (fun _ fit => fits_tribExpiry fit) fit
  | fsFrameStart f => exact fitsOut_atDrive (fun _ fit => fits_powerHoldTry (fits_fsFrame fit)) fit
  | fsFrameTimeout ch => exact fitsOut_onDevDrive (fun _ fit => fits_fsTimeout fit) fit
  | fsWindowOpen t ch => exact fitsOut_at (fun _ fit => fits_openDue fit) fit
  | fsWindowClose t ch lit => exact fitsOut_atDrive (fun _ fit => fits_closeDue fit) fit
  | benRequest t ch level => exact fitsOut_atDrive (fun _ fit => fits_benRequest fit) fit
  | lightOutsideWindow t ch => exact fitsOut_atDrive (fun _ fit => fits_lightDetected fit) fit
  | stage2Timeout t ch lmon => exact fitsOut_atDrive (fun _ fit => fits_lightStill fit) fit
  | stage3Timeout t ch lmon => exact fitsOut_atDrive (fun _ fit => fits_lightStill fit) fit
  | opticRead r => exact fitsOut_atDrive (fun _ fit => fits_opticRead fit) fit
  | selfTestPulse t out x y =>
    refine fitsOut_atDrive (fun _ fit => ?_) fit
    cases out with
    | tx ch => exact fits_ite (fits_selfTest fit) fit
    | all => exact fits_selfTest fit
  | parityError t => exact fitsOut_atDrive (fun _ fit => fits_failDark fit) fit
  | fsSupplyClockLoss t clock => exact fitsOut_atDrive (fun _ fit => fits_fsLost fit) fit
  | fsRelease t nonce => exact fitsOut_atDrive (fun _ fit => fits_fsReleaseWrite fit) fit
  | releaseCommand t p nonce => exact fitsOut_atDrive (fun _ fit => fits_commandOn (fits_fsReleaseWrite fit) fit) fit
  | fsRestart t key clockOk => exact fitsOut_atDrive (fun _ fit => fits_fsRestart fit) fit
  | admissionWrite complement slot v => exact fitsOut_onDev (fun _ fit => fits_admWrite fit) fit
  | fsLimitsWrite ch lim => exact fitsOut_onDev (fun _ fit => fits_ite fit (Moves.fs.fits fit)) fit
  | fsSetcfgWrite guardNs lim => exact fitsOut_onDev (fun _ fit => Moves.fs.fits fit) fit
  | _ => exact absurd h Bool.false_ne_true

/-! ### Drop ports and lanes -/

theorem fitsOut_ports {c : Instr} (h : stretch 61 81 c = true) {s : State} (fit : WithinDepth s.dev) : FitsOut
    (exec c s) := by
  cases c with
  | laneSignalDetected l => exact fitsOut_onDev (fun _ fit => fits_signalDetected fit) fit
  | negotiationResolved port => exact fitsOut_onDev (fun _ fit => fits_negotiated fit) fit
  | trainingComplete l ptx prx => exact fitsOut_onDev (fun _ fit => fits_trained fit) fit
  | trainTimeout l => exact fitsOut_onDev (fun _ fit => fits_trainTimeout fit) fit
  | laneLock l => exact fitsOut_onDev (fun _ fit => fits_laneLocked fit) fit
  | lockTimeout l => exact fitsOut_onDev (fun _ fit => fits_lockTimeout fit) fit
  | exchangeComplete l => exact fitsOut_onDev (fun _ fit => fits_exchanged fit) fit
  | exchangeTimeout l => exact fitsOut_onDev (fun _ fit => fits_exchangeTimeout fit) fit
  | quietPeriodEnd l => exact fitsOut_onDev (fun _ fit => moves_quietEnd.fits fit) fit
  | laneSignalLost t l => exact fitsOut_at (fun _ fit => fits_signalLost fit) fit
  | lineRetrainTimeout ch l => exact fitsOut_onDev (fun _ fit => fits_retrainTimeout fit) fit
  | retrain t ch => exact fitsOut_at (fun _ fit => fits_retrainChan fit) fit
  | laneTestStart t lane v => exact fitsOut_at (fun _ fit => fits_testCtrl fit) fit
  | laneTestStop lane v c => exact fitsOut_onDev (fun _ fit => fits_testStop fit) fit
  | start lane v => exact fitsOut_onDev (fun _ fit => fits_testCtrl fit) fit
  | injectOne lane v => exact fitsOut_onDev (fun _ fit => fits_testInject fit) fit
  | macFrameReceived f => exact fitsOut_at (fun _ fit => moves_macFrame.fits (moves_idleExit.fits fit)) fit
  | pauseExpiry t n p => exact fitsOut_at (fun _ fit => moves_pauseExpiry.fits fit) fit
  | xoffRepeat t n => exact fitsOut_at (fun _ fit => (moves_xoffRepeat n.isLt).fits fit) fit
  | frameTransmit t x => exact fitsOut_at (fun _ fit => moves_frameTransmit.fits fit) fit
  | _ => exact absurd h Bool.false_ne_true

/-! ### Classification, generations and tables -/

theorem fitsOut_tables {c : Instr} (h : stretch 81 107 c = true) {s : State} (fit : WithinDepth s.dev) : FitsOut
    (exec c s) := by
  cases c with
  | packetEntry t x => exact fitsOut_at (fun _ fit => moves_entryPoint.fits (moves_idleExit.fits fit)) fit
  | secondPass t x => exact fitsOut_at (fun _ fit => moves_recircPass.fits fit) fit
  | fragmentHoldTimeout t pipe => exact fitsOut_at (fun _ fit => moves_holdTimeout.fits fit) fit
  | fragmentEntryExpiry t pipe => exact fitsOut_at (fun _ fit => moves_fragExpiry.fits fit) fit
  | slotClaim t path k => exact fitsOut_at (fun _ fit => fits_commandOn (moves_slotClaim.fits fit) fit) fit
  | slotSeal t path k => exact fitsOut_at (fun _ fit => fits_commandOn (moves_slotSeal.fits fit) fit) fit
  | slotAbandon t path k => exact fitsOut_at (fun _ fit => fits_commandOn (moves_slotAbandon.fits fit) fit) fit
  | slotEvict t path k => exact fitsOut_at (fun _ fit => fits_commandOn (moves_slotEvict.fits fit) fit) fit
  | makeCurrent t path k => exact fitsOut_at (fun _ fit => fits_commandOn (moves_commandCurrent.fits fit) fit) fit
  | drainSlow t k => exact fitsOut_at (fun _ fit => moves_drainSlow.fits fit) fit
  | windowDataWrite w => exact fitsOut_onDev (fun _ fit => moves_windowWrite.fits (moves_idleExit.fits fit)) fit
  | windowStatusRead  => exact fitsOut_onDev (fun _ fit => moves_windowStatusRead.fits (moves_idleExit.fits fit)) fit
  | treeScrub pipe addr e => exact fitsOut_onDev (fun _ fit => moves_treeScrub.fits (moves_idleExit.fits fit)) fit
  | macInsert x => exact fitsOut_core (fun _ fit => fits_runDsc (fun _ fit => moves_macInsert.fits fit) fit) fit
  | macDelete x => exact fitsOut_core (fun _ fit => fits_runDsc (fun _ fit => moves_macDelete.fits fit) fit) fit
  | macFind x => exact fitsOut_core (fun _ fit => fits_runDsc (fun _ fit => moves_macFindOp.fits fit) fit) fit
  | macLock x => exact fitsOut_core (fun _ fit => fits_runDsc (fun _ fit => moves_macLockOp.fits fit) fit) fit
  | macWrite x => exact fitsOut_core (fun _ fit => fits_runDsc (fun _ fit => moves_macWriteOp.fits fit) fit) fit
  | macRead x => exact fitsOut_core (fun _ fit => fits_runDsc (fun _ fit => moves_macReadOp.fits fit) fit) fit
  | trieWrite x => exact fitsOut_core (fun _ fit => fits_runDsc (fun _ fit => moves_trieWriteOp.fits fit) fit) fit
  | trieRead x => exact fitsOut_core (fun _ fit => fits_runDsc (fun _ fit => moves_trieReadOp.fits fit) fit) fit
  | unknownOp x => exact fitsOut_core (fun _ fit => fits_runDsc (fun _ fit => moves_dscDone.fits fit) fit) fit
  | learnMergeRelease t => exact fitsOut_at (fun _ fit => moves_mergeRelease.fits fit) fit
  | learnFilterExpiry t pipe => exact fitsOut_at (fun _ fit => moves_filterExpiry.fits fit) fit
  | ageingVisit t => exact fitsOut_core (fun _ fit => moves_ageingVisit.fits fit) fit
  | tableScrub t table a e => exact fitsOut_core (fun _ fit => moves_tableScrub.fits fit) fit
  | _ => exact absurd h Bool.false_ne_true

/-! ### Queues and the Sideboard -/

theorem fitsOut_queues {c : Instr} (h : stretch 107 126 c = true) {s : State} (fit : WithinDepth s.dev) : FitsOut
    (exec c s) := by
  cases c with
  | shaperRefill t => exact fitsOut_at (fun _ fit => moves_refillShapers.fits fit) fit
  | policerRefill t => exact fitsOut_at (fun _ fit => moves_refillPolicers.fits fit) fit
  | tmObjectWrite  => exact fitsOut_onDev (fun _ fit => moves_accWrite.fits (moves_idleExit.fits fit)) fit
  | tmObjectRead  => exact fitsOut_onDev (fun _ fit => moves_accRead.fits (moves_idleExit.fits fit)) fit
  | wardrobeWriteback n => exact fitsOut_onDev (fun _ fit => moves_writebackOldest.fits fit) fit
  | queueSample t =>
    rw [exec_queueSample]
    exact fitsOut_core (fun _ fit => moves_samples.fits fit) fit
  | recordedRateUpdate t => exact fitsOut_at (fun _ fit => (moves_withSideboard moves_rateUpdate).fits fit) fit
  | join t o port m => exact fitsOut_at (fun _ fit => (moves_memberRow moves_joinCmd rfl).fits fit) fit
  | leave t o port m =>
    exact fitsOut_at (fun _ fit => (moves_memberRow (ps := [.emitted, .regs, .sb]) (rs := [.sbCmdStatus])
      (moves_leaveCmd.mono (by decide)) rfl).fits fit) fit
  | leaveAll t o port =>
    exact fitsOut_at (fun _ fit => (moves_memberRow (ps := [.emitted, .regs, .sb]) (rs := [.sbCmdStatus])
      (moves_leaveAllCmd.mono (by decide)) rfl).fits fit) fit
  | replayIssue t ctx => exact fitsOut_at (fun _ fit => (moves_withSideboard moves_replayIssue).fits fit) fit
  | splice t ctx => exact fitsOut_at (fun _ fit => (moves_withSideboard moves_spliceCtx).fits fit) fit
  | catchupTimeout t ctx => exact fitsOut_at (fun _ fit => (moves_withSideboard moves_catchupTimeout).fits fit) fit
  | forcedSplice t ctx => exact fitsOut_at (fun _ fit => (moves_withSideboard moves_forcedSplice).fits fit) fit
  | membershipReport t => exact fitsOut_at (fun _ fit => (moves_withSideboard moves_membershipReport).fits fit) fit
  | generalQuery t port => exact fitsOut_at (fun _ fit => moves_generalQuery.fits fit) fit
  | membershipExpiry t port m => exact fitsOut_at (fun _ fit => (moves_withSideboard moves_membershipExpiry).fits fit) fit
  | repairServe t => exact fitsOut_at (fun _ fit => (moves_withSideboard moves_repairServe).fits fit) fit
  | repairBudgetRefill t => exact fitsOut_at (fun _ fit => (moves_withSideboard moves_refillBudgets).fits fit) fit
  | _ => exact absurd h Bool.false_ne_true

/-! ### Tributaries, Longcase and the memory complex -/

theorem fitsOut_tributaries {c : Instr} (h : stretch 126 150 c = true) {s : State} (fit : WithinDepth s.dev) : FitsOut
    (exec c s) := by
  cases c with
  | tributaryInputLos k => exact fitsOut_onDev (fun _ fit => (moves_inputLos k.isLt).fits fit) fit
  | tributaryLosEnd k => exact fitsOut_onDev (fun _ fit => (moves_inputBack k.isLt).fits fit) fit
  | controlledSlip k x => exact fitsOut_onDev (fun _ fit => (moves_controlledSlip k.isLt).fits fit) fit
  | tsiWrite  => exact fitsOut_onDev (fun _ fit => moves_tsiWriteCmd.fits fit) fit
  | tsiRead  => exact fitsOut_onDev (fun _ fit => moves_tsiReadCmd.fits fit) fit
  | tsiSwap  => exact fitsOut_onDev (fun _ fit => moves_tsiSwapCmd.fits fit) fit
  | tsiAbort  => exact fitsOut_onDev (fun _ fit => moves_tsiAbortCmd.fits fit) fit
  | swapCommit t => exact fitsOut_at (fun _ fit => moves_swapCommit.fits fit) fit
  | standbyCopyDone t => exact fitsOut_at (fun _ fit => moves_copyDone.fits fit) fit
  | highwayChangeEnd t => exact fitsOut_at (fun _ fit => moves_changeEnd.fits fit) fit
  | heldTodDue t => exact fitsOut_at (fun _ fit => moves_heldTodDue.fits fit) fit
  | offsetTimeout t => exact fitsOut_at (fun _ fit => moves_offsetTimeout.fits fit) fit
  | softwareOffset t v => exact fitsOut_at (fun _ fit => moves_softwareOffset.fits fit) fit
  | set t v => exact fitsOut_at (fun _ fit => moves_ltCmd.fits fit) fit
  | setLoad t => exact fitsOut_at (fun _ fit => moves_setLoad.fits fit) fit
  | ppsPulse t => exact fitsOut_at (fun _ fit => moves_ppsPulse.fits fit) fit
  | ppsWidthEnd t => exact fitsOut_at (fun _ fit => moves_ppsEnd.fits fit) fit
  | pltodMessage t => exact fitsOut_at (fun _ fit => moves_pltod.fits fit) fit
  | longcaseNowRead t => exact fitsOut_at (fun _ fit => moves_longcaseNow.fits fit) fit
  | memoryErrorDetected e => exact fitsOut_at (fun _ fit => moves_memoryError.fits fit) fit
  | migrationStart t => exact fitsOut_at (fun _ fit => moves_migrationStart.fits fit) fit
  | migrationStep t bad => exact fitsOut_onWhole (fun fit => fits_migrationStep (fits_tick fit)) fit
  | rankWithdrawal t => exact fitsOut_at (fun _ fit => moves_rankWithdrawal.fits fit) fit
  | cxlMemAccess off x => exact fitsOut_onWhole fits_cxlAccess fit
  | _ => exact absurd h Bool.false_ne_true

/-! ### The host and the dictionary -/

theorem fitsOut_host {c : Instr} (h : stretch 150 174 c = true) {s : State} (fit : WithinDepth s.dev) : FitsOut
    (exec c s) := by
  cases c with
  | hostReset t c => exact fitsOut_at (fun _ fit => fits_hostResetBy fit) fit
  | linkTrained t l => exact fitsOut_at (fun _ fit => moves_linkTrained.fits fit) fit
  | ringDoorbell t r ix => exact fitsOut_at (fun _ fit => moves_doorbell.fits (moves_ringIdleExit.fits fit)) fit
  | tailLineSnoop t r ix => exact fitsOut_at (fun _ fit => moves_tailSnoop.fits (moves_ringIdleExit.fits fit)) fit
  | ringDisable r => exact fitsOut_onDev (fun _ fit => fits_ite fit (fits_ringStop fit)) fit
  | ringWriteback t r => 
    rw [exec_ringWriteback]
    exact fitsOut_at (fun _ fit => fits_ite (moves_writeBack.fits fit) fit) fit
  | hostTransmit x => exact fitsOut_at (fun _ fit => moves_hostTransmit.fits (moves_idleExit.fits fit)) fit
  | drawerRead n slot => exact fitsOut_onDev (fun _ fit => moves_drawerRead.fits fit) fit
  | drawerFlush n v => exact fitsOut_onDev (fun _ fit => moves_drawerFlush.fits fit) fit
  | drawerLevelWrite n v => exact fitsOut_onDev (fun _ fit => moves_drawerLevel.fits fit) fit
  | drawerConsumerWrite n v => exact fitsOut_onDev (fun _ fit => fits_drawerConsumer fit) fit
  | drawerDmaCopy t n => exact fitsOut_at (fun _ fit => moves_drawerCopy.fits fit) fit
  | vectorUnmask v => exact fitsOut_onDev (fun _ fit => moves_unmask.fits fit) fit
  | registerWrite x => exact fitsOut_atDrive (fun _ fit => fits_hostAccess fit) fit
  | read hd rs => exact fitsOut_request (fun _ => moves_readOp) fit
  | write hd rs => exact fitsOut_request (fun _ => moves_writeOp) fit
  | open_ hd => exact fitsOut_request (fun _ => moves_openTxn) fit
  | commit hd t => exact fitsOut_request (fun _ => moves_commitOp) fit
  | abort hd => exact fitsOut_request (fun _ => moves_abortOp) fit
  | query hd => exact fitsOut_request (fun _ => moves_queryOp) fit
  | commitPoint t p => exact fitsOut_atDrive (fun _ fit => fits_commitPoint fit) fit
  | transactionIdleTimeout t p => exact fitsOut_at (fun _ fit => moves_txnIdle.fits fit) fit
  | dictionarySave t ok => exact fitsOut_at (fun _ fit => moves_dictSave.fits fit) fit
  | restoreDefaults t p v =>
    rw [exec_restoreDefaults]
    exact fitsOut_at (fun _ fit => fits_commandOn (fits_ite_of Prod.snd (Moves.dic.fits fit) fit) fit) fit
  | _ => exact absurd h Bool.false_ne_true

/-! ### Tasks and power -/

theorem fitsOut_tasks {c : Instr} (h : stretch 174 205 c = true) {s : State} (fit : WithinDepth s.dev) : FitsOut
    (exec c s) := by
  cases c with
  | taskSubmit x => exact fitsOut_at (fun _ fit => fits_taskSubmit fit) fit
  | taskDispatch t => exact fitsOut_at (fun _ fit => fits_dispatchAll fit) fit
  | affinityWindowExpiry t h => exact fitsOut_at (fun _ fit => fits_affinityExpiry fit) fit
  | taskComplete t k status a => exact fitsOut_at (fun _ fit => fits_taskComplete fit) fit
  | taskFault t k cause => exact fitsOut_at (fun _ fit => fits_taskFault fit) fit
  | taskCancel t h => exact fitsOut_at (fun _ fit => fits_taskCancel fit) fit
  | hostHandlesWrite v => exact fitsOut_onDev (fun _ fit => fits_hostHandlesWrite fit) fit
  | watchdogExpiry t => exact fitsOut_atDrive (fun _ fit => fits_secretaryRestart fit) fit
  | secretaryException t => exact fitsOut_atDrive (fun _ fit => fits_secretaryRestart fit) fit
  | clusterLoad t c x y => exact fitsOut_onWhole (fun fit => fits_clusterStart (fits_tick fit)) fit
  | restartCluster t p v => exact fitsOut_at (fun _ fit => fits_commandOn (fits_restartCmd fit) fit) fit
  | restartSecretary t p v => exact fitsOut_atDrive (fun _ fit => fits_restartSecretaryOn fit) fit
  | requestRunFull t o => exact fitsOut_atDrive (fun _ fit => fits_powerRow fit) fit
  | requestRunLifeline t o => exact fitsOut_atDrive (fun _ fit => fits_powerRow fit) fit
  | requestSleep t o period => exact fitsOut_atDrive (fun _ fit => fits_powerRow fit) fit
  | requestDeepSleep t o => exact fitsOut_atDrive (fun _ fit => fits_powerRow fit) fit
  | requestOff t o => exact fitsOut_atDrive (fun _ fit => fits_powerRow fit) fit
  | noticeWaitExpiry t => exact fitsOut_atDrive (fun _ fit => fits_noticeExpiry fit) fit
  | powerChangeCommit t => exact fitsOut_atDrive (fun _ fit => fits_commitP fit) fit
  | retentionCommit t => exact fitsOut_atDrive (fun _ fit => fits_retentionCommit fit) fit
  | railAcknowledged t r => exact fitsOut_atDrive (fun _ fit => fits_railAck fit) fit
  | railAckTimeout t r => exact fitsOut_atDrive (fun _ fit => fits_railTimeout fit) fit
  | idleEntry t => exact fitsOut_at (fun _ fit => fits_idleEntry fit) fit
  | lossOfLine t => exact fitsOut_atDrive (fun _ fit => fits_lossOfLine fit) fit
  | lifelineHoldExpiry t => exact fitsOut_atDrive (fun _ fit => fits_holdExpiry fit) fit
  | lifelineRestoreExpiry t => exact fitsOut_atDrive (fun _ fit => fits_restoreExpiry fit) fit
  | wakePin t level => exact fitsOut_atDrive (fun _ fit => fits_wakePin fit) fit
  | twoWireAddressMatch x => exact fitsOut_atDrive (fun _ fit => fits_twoWire fit) fit
  | lineTimerExpiry t => exact fitsOut_atDrive (fun _ fit => fits_lineTimer fit) fit
  | oscRdy b =>
    rw [exec_oscRdy]
    refine fitsOut_onWhole (fun fit => ?_) fit
    have ready := fits_fsDrive (f := fun d => oscRdy b (tick b.t d)) (fits_oscRdy (fits_tick fit))
    exact fits_ite_of State.dev ready ready
  | oscRdyTimeout t => exact fitsOut_atDrive (fun _ fit => fits_oscTimeout fit) fit
  | _ => exact absurd h Bool.false_ne_true

/-! ### Counters, monitors, sessions, images and starts -/

theorem fitsOut_counters {c : Instr} (h : stretch 205 249 c = true) {s : State} (fit : WithinDepth s.dev) : FitsOut
    (exec c s) := by
  cases c with
  | clear k v => exact fitsOut_onDev (fun _ fit => fits_selClear fit) fit
  | selectableCounterRead k => exact fitsOut_onDev (fun _ fit => fits_selRead fit) fit
  | counterPageCopy t ok => exact fitsOut_at (fun _ fit => fits_pagesCopy fit) fit
  | arm t o => exact fitsOut_at (fun _ fit => fits_cabArmed fit) fit
  | cabinetAbort t o => exact fitsOut_at (fun _ fit => fits_cabAborted fit) fit
  | cabinetLatch t => exact fitsOut_at (fun _ fit => fits_cabLatch fit) fit
  | cabinetDrainDone t => exact fitsOut_at (fun _ fit => fits_cabDrained fit) fit
  | cabinetWindowRead  => exact fitsOut_onDev (fun _ fit => fits_cabRead fit) fit
  | dieTempSample t n temp => exact fitsOut_atDrive (fun _ fit => fits_dieSample fit) fit
  | hbmTempReport t n temp => exact fitsOut_atDrive (fun _ fit => fits_hbmReport fit) fit
  | hardwareThermalTrip t n => exact fitsOut_atDrive (fun _ fit => fits_thermalTrip fit) fit
  | thermalIsolation t => exact fitsOut_atDrive (fun _ fit => fits_thermalIsolate fit) fit
  | voltageSample t r mv => exact fitsOut_at (fun _ fit => fits_voltageSample fit) fit
  | temperaturePeakRead n => exact fitsOut_onDev (fun _ fit => fits_peakRead fit) fit
  | hello m => exact fitsOut_at (fun _ fit => fits_helloOp fit) fit
  | openSession m => exact fitsOut_at (fun _ fit => fits_openOp fit) fit
  | close m => exact fitsOut_at (fun _ fit => fits_inSession (fun _ _ fit => fits_endSession fit) fit) fit
  | sessionOpenTimeout t i => exact fitsOut_at (fun _ fit => fits_openTimeout fit) fit
  | sessionIdleTimeout t i => exact fitsOut_at (fun _ fit => fits_idleTimeout fit) fit
  | servicePortFrame t bs => exact fitsOut_at (fun _ fit => fits_serviceOp fit) fit
  | imageBegin m => exact fitsOut_at (fun _ fit => fits_inSession (fun _ _ fit => fits_imageBegin fit) fit) fit
  | imageBlock m => exact fitsOut_at (fun _ fit => fits_inSession (fun _ _ fit => fits_imageBlock fit) fit) fit
  | imageEnd m => exact fitsOut_at (fun _ fit => fits_inSession (fun _ _ fit => fits_imageEnd fit) fit) fit
  | setServiceKey t p key => exact fitsOut_at (fun _ fit => fits_commandOn (fits_setServiceKey fit) fit) fit
  | activationRequest t p => exact fitsOut_at (fun _ fit => fits_commandOn (fits_activationAsk fit) fit) fit
  | activationAbort t p => exact fitsOut_at (fun _ fit => fits_commandOn (fits_activationAbort fit) fit) fit
  | activationCommit t => exact fitsOut_atDrive (fun _ fit => fits_activationCommit fit) fit
  | confirm t p v => exact fitsOut_at (fun _ fit => fits_commandOn (fits_confirmCmd fit) fit) fit
  | autoConfirm t => exact fitsOut_at (fun _ fit => fits_autoConfirm fit) fit
  | trialTimeout t => exact fitsOut_atDrive (fun _ fit => fits_trialTimeout fit) fit
  | porstAssert t => exact fitsOut_next (fits_fsDrive (fits_porstAssert fit))
  | powerGood b =>
    rw [exec_powerGood]
    exact fitsOut_next (fits_ite_of State.dev (fits_fsDrive (fits_powerGood fit)) fit)
  | warmReset b =>
    rw [exec_warmReset]
    have warm := fits_fsDrive (f := fun d => warmReset b (tick b.t d)) (d := s.dev) fits_warmReset
    exact fitsOut_next (fits_ite_of State.dev warm fit)
  | lineStartRelease t => exact fitsOut_atDrive (fun _ fit => fits_lineStart fit) fit
  | killRelease t => exact fitsOut_atDrive (fun _ fit => fits_killRelease fit) fit
  | avsTrack t target => exact fitsOut_at (fun _ fit => fits_avsTrack fit) fit
  | battNChange t level => exact fitsOut_at (fun _ fit => fits_battChange fit) fit
  | killSenseMismatch t out =>
    refine fitsOut_atDrive (fun _ fit => ?_) fit
    cases out with
    | tx ch => exact fits_ite (fits_failDark fit) fit
    | all => exact fits_failDark fit
  | checkerLock lane => exact fitsOut_onDev (fun _ fit => fits_checkerLock fit) fit
  | checkerLockLoss lane c => exact fitsOut_onDev (fun _ fit => fits_checkerLoss fit) fit
  | negotiationFailure port => exact fitsOut_onDev (fun _ fit => fits_negotiationFailed fit) fit
  | hbmReportMissed t n => exact fitsOut_at (fun _ fit => fits_hbmMissed fit) fit
  | secretaryRestartDone x => exact fitsOut_atDrive (fun _ fit => fits_restartDone fit) fit
  | malformedRequest hd bytes => exact fitsOut_at (fun _ fit => fits_malformed fit) fit
  | _ => exact absurd h Bool.false_ne_true

/-- What each command does to the device leaves drawers within their depth, and so does the time that passes before it. -/
theorem exec_fitsOut (c : Instr) {s : State} (fit : WithinDepth s.dev) : FitsOut (exec c s) := by
  have listed : (stretch 0 20 c || stretch 20 38 c || stretch 38 61 c || stretch 61 81 c || stretch 81 107 c ||
      stretch 107 126 c || stretch 126 150 c || stretch 150 174 c || stretch 174 205 c || stretch 205 249 c) = true := by
    cases c <;> rfl
  simp only [Bool.or_eq_true] at listed
  obtain ((((((((h | h) | h) | h) | h) | h) | h) | h) | h) | h := listed
  · exact fitsOut_line h fit
  · exact fitsOut_joining h fit
  · exact fitsOut_bursts h fit
  · exact fitsOut_ports h fit
  · exact fitsOut_tables h fit
  · exact fitsOut_queues h fit
  · exact fitsOut_tributaries h fit
  · exact fitsOut_host h fit
  · exact fitsOut_tasks h fit
  · exact fitsOut_counters h fit

/-- Settles O7: a drawer takes an item in `post` alone, and there only where it has room. -/
theorem drawersStayWithinDepth : Obligations.DrawersStayWithinDepth := fun s t fit next => by
  cases q : s.pending with
  | nil => exact fitsOut_next fit t ((stepRunsFrontCommand.2 s q).symm.trans next)
  | cons c rest =>
    exact exec_fitsOut c (s := { s with pending := rest }) fit t ((stepRunsFrontCommand.1 c rest s q).symm.trans next)

end Sys2Proof.Proofs
end

section
/-!
PROOF. What the commands of ports, tables, queues, the Sideboard, tributaries, time, memory, the host and the dictionary leave
unchanged (R575, R579): the pieces and registers that each operation moves are among those listed.
-/

namespace Sys2Proof.Proofs

open Sys2Proof Sys2Proof.Machine Sys2Proof.Laws

section
variable {c : Instr} {f : Dev → Dev} {ps : List Piece} {rs : List Reg}

/-- A command that changes the device alone keeps what its operation does not move. -/
theorem keeps_of_onDev (e : ∀ s, exec c s = onDev f s) (h : ∀ d, Moves ps rs d (f d)) : Keeps c ps rs := by
  intro s t next
  rw [e s, onDev] at next
  injection next with next
  subst next
  refine ⟨rfl, rfl, ?_⟩
  dsimp only
  split
  · exact Frame_refl _ _ _
  · exact (h s.dev).frame

theorem keeps_of_at {t : Time} (sub : within timePieces timeRegs ps rs = true) (e : ∀ s, exec c s = at_ t f s)
    (h : ∀ d, Moves ps rs d (f d)) : Keeps c ps rs :=
  keeps_of_onDev e fun d => ⟨Frame_step (moves_tick.mono sub).frame (h (tick t d)).frame, fun fit => (h _).fits (fits_tick fit)⟩

theorem keeps_of_core {t : Time} (sub : within timePieces timeRegs ps rs = true) (idle : within [.pwr] [] ps rs = true)
    (e : ∀ s, exec c s = atCore t f s) (h : ∀ d, Moves ps rs d (f d)) : Keeps c ps rs :=
  keeps_of_at sub e (fun d => .ite ⟨Frame_step (moves_idleExit.mono idle).frame (h (idleExit d)).frame,
    fun fit => (h _).fits (moves_idleExit.fits fit)⟩ .refl)

/-- A request in the dictionary, whatever its operation. -/
theorem keeps_of_request {hd : DictHead} {op flags n secs ns : Nat} {body : List Byte}
    (e : ∀ s, exec c s = onRequest hd op flags n secs ns body f s) (h : ∀ d, Moves requestPieces requestRegs d (f d)) :
    Keeps c (.now :: requestPieces) requestRegs :=
  keeps_of_at rfl e fun _ => (moves_request h).mono (by decide)

end

/-- Settles O58: what each operation moves, with the time before it, is listed for its command. -/
theorem frameOfPacketsAndTables : Obligations.FrameOfPacketsAndTables :=
  ⟨fun _ => keeps_of_onDev (fun _ => rfl) fun _ => .step moves_quietEnd .refl rfl,
    fun _ _ => keeps_of_onDev (fun _ => rfl) fun _ => .step (moves_testInject (Fin.isLt _)) .refl rfl,
    fun _ => keeps_of_at rfl (fun _ => rfl) fun _ => .step moves_macFrame (.step moves_idleExit .refl rfl) rfl,
    fun _ _ _ => keeps_of_at rfl (fun _ => rfl) fun _ => .step moves_pauseExpiry .refl rfl,
    fun _ _ => keeps_of_at rfl (fun _ => rfl) fun _ => .step (moves_xoffRepeat (Fin.isLt _)) .refl rfl,
    fun _ _ => keeps_of_at rfl (fun _ => rfl) fun _ => .step moves_frameTransmit .refl rfl,
    fun _ _ => keeps_of_at rfl (fun _ => rfl) fun _ => .step moves_entryPoint (.step moves_idleExit .refl rfl) rfl,
    fun _ _ => keeps_of_at rfl (fun _ => rfl) fun _ => .step moves_recircPass .refl rfl,
    fun _ _ => keeps_of_at rfl (fun _ => rfl) fun _ => .step moves_holdTimeout .refl rfl,
    fun _ _ => keeps_of_at rfl (fun _ => rfl) fun _ => .step moves_fragExpiry .refl rfl,
    fun _ _ _ => keeps_of_at rfl (fun _ => rfl) fun _ => moves_commandOn (.step moves_slotClaim .refl rfl) rfl,
    fun _ _ _ => keeps_of_at rfl (fun _ => rfl) fun _ => moves_commandOn (.step moves_slotSeal .refl rfl) rfl,
    fun _ _ _ => keeps_of_at rfl (fun _ => rfl) fun _ => moves_commandOn (.step moves_slotAbandon .refl rfl) rfl,
    fun _ _ _ => keeps_of_at rfl (fun _ => rfl) fun _ => moves_commandOn (.step moves_slotEvict .refl rfl) rfl,
    fun _ _ _ => keeps_of_at rfl (fun _ => rfl) fun _ => moves_commandOn (.step moves_commandCurrent .refl rfl) rfl,
    fun _ _ => keeps_of_at rfl (fun _ => rfl) fun _ => .step moves_drainSlow .refl rfl,
    fun _ => keeps_of_onDev (fun _ => rfl) fun _ => .step moves_windowWrite (.step moves_idleExit .refl rfl) rfl,
    keeps_of_onDev (fun _ => rfl) fun _ => .step moves_windowStatusRead (.step moves_idleExit .refl rfl) rfl,
    fun _ _ _ => keeps_of_onDev (fun _ => rfl) fun _ => .step moves_treeScrub (.step moves_idleExit .refl rfl) rfl,
    fun _ => keeps_of_core rfl rfl (fun _ => rfl) fun _ => moves_runDsc (fun _ => .step moves_macInsert .refl rfl) rfl,
    fun _ => keeps_of_core rfl rfl (fun _ => rfl) fun _ => moves_runDsc (fun _ => .step moves_macDelete .refl rfl) rfl,
    fun _ => keeps_of_core rfl rfl (fun _ => rfl) fun _ => moves_runDsc (fun _ => .step moves_macFindOp .refl rfl) rfl,
    fun _ => keeps_of_core rfl rfl (fun _ => rfl) fun _ => moves_runDsc (fun _ => .step moves_macLockOp .refl rfl) rfl,
    fun _ => keeps_of_core rfl rfl (fun _ => rfl) fun _ => moves_runDsc (fun _ => .step moves_macWriteOp .refl rfl) rfl,
    fun _ => keeps_of_core rfl rfl (fun _ => rfl) fun _ => moves_runDsc (fun _ => .step moves_macReadOp .refl rfl) rfl,
    fun _ => keeps_of_core rfl rfl (fun _ => rfl) fun _ => moves_runDsc (fun _ => .step moves_trieWriteOp .refl rfl) rfl,
    fun _ => keeps_of_core rfl rfl (fun _ => rfl) fun _ => moves_runDsc (fun _ => .step moves_trieReadOp .refl rfl) rfl,
    fun _ => keeps_of_core rfl rfl (fun _ => rfl) fun _ => moves_runDsc (fun _ => .step moves_dscDone .refl rfl) rfl,
    fun _ => keeps_of_at rfl (exec_learnMergeRelease _) fun _ => .step moves_mergeRelease .refl rfl,
    fun _ _ => keeps_of_at rfl (fun _ => rfl) fun _ => .step moves_filterExpiry .refl rfl,
    fun _ => keeps_of_core rfl rfl (fun _ => rfl) fun _ => .step moves_ageingVisit .refl rfl,
    fun _ _ _ _ => keeps_of_core rfl rfl (fun _ => rfl) fun _ => .step moves_tableScrub .refl rfl,
    fun _ => keeps_of_at rfl (fun _ => rfl) fun _ => .step moves_refillShapers .refl rfl,
    fun _ => keeps_of_at rfl (fun _ => rfl) fun _ => .step moves_refillPolicers .refl rfl,
    keeps_of_onDev (fun _ => rfl) fun _ => .step moves_accWrite (.step moves_idleExit .refl rfl) rfl,
    keeps_of_onDev (fun _ => rfl) fun _ => .step moves_accRead (.step moves_idleExit .refl rfl) rfl,
    fun _ => keeps_of_onDev (fun _ => rfl) fun _ => .step moves_writebackOldest .refl rfl,
    fun _ => keeps_of_core rfl rfl (fun _ => rfl) fun _ => .step moves_samples .refl rfl,
    fun _ => keeps_of_at rfl (fun _ => rfl) fun _ => moves_withSideboard (.step moves_rateUpdate .refl rfl),
    fun _ _ _ _ => keeps_of_at rfl (fun _ => rfl) fun _ => moves_memberRow (.step moves_joinCmd .refl rfl) rfl,
    fun _ _ _ _ => keeps_of_at rfl (fun _ => rfl) fun _ => moves_memberRow (.step moves_leaveCmd .refl rfl) rfl,
    fun _ _ _ => keeps_of_at rfl (fun _ => rfl) fun _ => moves_memberRow (.step moves_leaveAllCmd .refl rfl) rfl,
    fun _ _ => keeps_of_at rfl (fun _ => rfl) fun _ => moves_withSideboard (.step moves_replayIssue .refl rfl),
    fun _ _ => keeps_of_at rfl (fun _ => rfl) fun _ => moves_withSideboard (.step moves_spliceCtx .refl rfl),
    fun _ _ => keeps_of_at rfl (fun _ => rfl) fun _ => moves_withSideboard (.step moves_catchupTimeout .refl rfl),
    fun _ _ => keeps_of_at rfl (fun _ => rfl) fun _ => moves_withSideboard (.step moves_forcedSplice .refl rfl),
    fun _ => keeps_of_at rfl (fun _ => rfl) fun _ => moves_withSideboard (.step moves_membershipReport .refl rfl),
    fun _ _ => keeps_of_at rfl (fun _ => rfl) fun _ => .step moves_generalQuery .refl rfl,
    fun _ _ _ => keeps_of_at rfl (fun _ => rfl) fun _ => moves_withSideboard (.step moves_membershipExpiry .refl rfl),
    fun _ => keeps_of_at rfl (fun _ => rfl) fun _ => moves_withSideboard (.step moves_repairServe .refl rfl),
    fun _ => keeps_of_at rfl (fun _ => rfl) fun _ => moves_withSideboard (.step moves_refillBudgets .refl rfl)⟩

/-- Settles O59: what each operation moves, with the time before it, is listed for its command; a request moves what any request may. -/
theorem frameOfTributariesTimeMemoryHost : Obligations.FrameOfTributariesTimeMemoryHost :=
  ⟨fun _ => keeps_of_onDev (fun _ => rfl) fun _ => .step (moves_inputLos (Fin.isLt _)) .refl rfl,
    fun _ => keeps_of_onDev (fun _ => rfl) fun _ => .step (moves_inputBack (Fin.isLt _)) .refl rfl,
    fun _ _ => keeps_of_onDev (fun _ => rfl) fun _ => .step (moves_controlledSlip (Fin.isLt _)) .refl rfl,
    keeps_of_onDev (fun _ => rfl) fun _ => .step moves_tsiWriteCmd .refl rfl,
    keeps_of_onDev (fun _ => rfl) fun _ => .step moves_tsiReadCmd .refl rfl,
    keeps_of_onDev (fun _ => rfl) fun _ => .step moves_tsiSwapCmd .refl rfl,
    keeps_of_onDev (fun _ => rfl) fun _ => .step moves_tsiAbortCmd .refl rfl,
    fun _ => keeps_of_at rfl (fun _ => rfl) fun _ => .step moves_swapCommit .refl rfl,
    fun _ => keeps_of_at rfl (fun _ => rfl) fun _ => .step moves_copyDone .refl rfl,
    fun _ => keeps_of_at rfl (fun _ => rfl) fun _ => .step moves_changeEnd .refl rfl,
    fun _ => keeps_of_at rfl (fun _ => rfl) fun _ => .step moves_heldTodDue .refl rfl,
    fun _ => keeps_of_at rfl (fun _ => rfl) fun _ => .step moves_offsetTimeout .refl rfl,
    fun _ _ => keeps_of_at rfl (fun _ => rfl) fun _ => .step moves_softwareOffset .refl rfl,
    fun _ _ => keeps_of_at rfl (fun _ => rfl) fun _ => .step moves_ltCmd .refl rfl,
    fun _ => keeps_of_at rfl (fun _ => rfl) fun _ => .step moves_setLoad .refl rfl,
    fun _ => keeps_of_at rfl (fun _ => rfl) fun _ => .step moves_ppsPulse .refl rfl,
    fun _ => keeps_of_at rfl (fun _ => rfl) fun _ => .step moves_ppsEnd .refl rfl,
    fun _ => keeps_of_at rfl (fun _ => rfl) fun _ => .step moves_pltod .refl rfl,
    fun _ => keeps_of_at rfl (fun _ => rfl) fun _ => .step moves_longcaseNow .refl rfl,
    fun _ => keeps_of_at rfl (fun _ => rfl) fun _ => .step moves_memoryError .refl rfl,
    fun _ => keeps_of_at rfl (fun _ => rfl) fun _ => .step moves_migrationStart .refl rfl,
    fun _ => keeps_of_at rfl (fun _ => rfl) fun _ => .step moves_rankWithdrawal .refl rfl,
    fun _ _ => keeps_of_at rfl (fun _ => rfl) fun _ => .step moves_linkTrained .refl rfl,
    fun _ _ _ => keeps_of_at rfl (fun _ => rfl) fun _ => .step moves_doorbell (.step moves_ringIdleExit .refl rfl) rfl,
    fun _ _ _ => keeps_of_at rfl (fun _ => rfl) fun _ => .step moves_tailSnoop (.step moves_ringIdleExit .refl rfl) rfl,
    fun _ _ => keeps_of_at rfl (exec_ringWriteback _ _) fun _ => .ite (.step moves_writeBack .refl rfl) .refl,
    fun _ => keeps_of_at rfl (fun _ => rfl) fun _ => .step moves_hostTransmit (.step moves_idleExit .refl rfl) rfl,
    fun _ _ => keeps_of_onDev (fun _ => rfl) fun _ => .step moves_drawerRead .refl rfl,
    fun _ _ => keeps_of_onDev (fun _ => rfl) fun _ => .step moves_drawerFlush .refl rfl,
    fun _ _ => keeps_of_onDev (fun _ => rfl) fun _ => .step moves_drawerLevel .refl rfl,
    fun _ _ => keeps_of_onDev (fun _ => rfl) fun _ => .step (moves_drawerConsumer (Fin.isLt _)) .refl rfl,
    fun _ _ => keeps_of_at rfl (fun _ => rfl) fun _ => .step moves_drawerCopy .refl rfl,
    fun _ => keeps_of_onDev (fun _ => rfl) fun _ => .step moves_unmask .refl rfl,
    fun _ _ => keeps_of_request (fun _ => rfl) fun _ => moves_readOp,
    fun _ _ => keeps_of_request (fun _ => rfl) fun _ => moves_writeOp,
    fun _ => keeps_of_request (fun _ => rfl) fun _ => moves_openTxn,
    fun _ _ => keeps_of_request (fun _ => rfl) fun _ => moves_commitOp,
    fun _ => keeps_of_request (fun _ => rfl) fun _ => moves_abortOp,
    fun _ => keeps_of_request (fun _ => rfl) fun _ => moves_queryOp,
    fun _ _ => keeps_of_at rfl (fun _ => rfl) fun _ => .step moves_txnIdle .refl rfl,
    fun _ _ => keeps_of_at rfl (fun _ => rfl) fun _ => .step moves_dictSave .refl rfl,
    fun _ _ _ => keeps_of_at rfl (fun _ => rfl) fun _ => moves_commandOn (.ite_of Prod.snd (.step Moves.dic .refl rfl) .refl)
      rfl⟩

end Sys2Proof.Proofs
end

section
/-!
PROOF. Errors of the in-package memory, the migration of a failed rank and the withdrawal of one without a spare (R454 to R460,
R464, R465).
-/

namespace Sys2Proof.Proofs

open Sys2Proof Sys2Proof.Machine Sys2Proof.Laws

/-! ## What items and events leave of the memory complex -/

theorem memItem_mc (kind stack channel rank block line port : Nat) (d : Dev) :
    (memItem kind stack channel rank block line port d).mc = d.mc :=
  (moves_memItem (kind := kind) (stack := stack) (channel := channel) (rank := rank) (block := block) (line := line)
    (port := port) (d := d)).frame.1 .mc (by decide)

theorem rankItem_mc (kind k : Nat) (d : Dev) : (rankItem kind k d).mc = d.mc := memItem_mc _ _ _ _ _ _ _ d

theorem memItem_part (kind stack channel rank block line port : Nat) (d : Dev) :
    (memItem kind stack channel rank block line port d).part = d.part :=
  (moves_memItem (kind := kind) (stack := stack) (channel := channel) (rank := rank) (block := block) (line := line)
    (port := port) (d := d)).frame.1 .part (by decide)

theorem rankItem_part (kind k : Nat) (d : Dev) : (rankItem kind k d).part = d.part := memItem_part _ _ _ _ _ _ _ d

theorem fld_memItem (kind stack channel rank block line port : Nat) (d : Dev) {f : Fld} (hr : f.reg ∉ [.cnEvent, .cnWrap,
    .scCfg])
    (hi : 0 < (regPlace f.reg).2.2) : fld (memItem kind stack channel rank block line port d) f 0 = fld d f 0 :=
  Frame_fld moves_memItem.frame hr hi

theorem fld_rankItem (kind k : Nat) (d : Dev) {f : Fld} (hr : f.reg ∉ [.cnEvent, .cnWrap, .scCfg])
    (hi : 0 < (regPlace f.reg).2.2) : fld (rankItem kind k d) f 0 = fld d f 0 := fld_memItem _ _ _ _ _ _ _ d hr hi

theorem rankState_of_ranks {a b : Dev} (ranks : b.mc.ranks = a.mc.ranks) (part : b.part = a.part) (k : Nat) :
    rankState b k = rankState a k := by
  simp only [rankState, rankDefault, ranks, part]

theorem rankState_setRank (k : Nat) (v : RankState) (d : Dev) : rankState (setRank k v d) k = v := by
  simp only [rankState, setRank]
  exact agetD_aputD_same _ _ _ _

theorem takeSpare_waiting (d : Dev) : (takeSpare d).2.mc.waiting = d.mc.waiting ∧ (takeSpare d).2.mc.poison = d.mc.poison := by
  simp only [takeSpare]
  split
  · exact ⟨rfl, rfl⟩
  · dsimp only
    split
    · rw [setPd_mc]
      exact ⟨rfl, rfl⟩
    · exact ⟨rfl, rfl⟩

theorem awaitMigration_waiting (k : Nat) (d : Dev) : (awaitMigration k d).mc.waiting = d.mc.waiting ++ [(k, (takeSpare d).1)] :=
  congrArg (· ++ _) (takeSpare_waiting d).1

theorem awaitMigration_poison (k : Nat) (d : Dev) : (awaitMigration k d).mc.poison = d.mc.poison := (takeSpare_waiting d).2

theorem rankState_awaitMigration (k : Nat) (d : Dev) : rankState (awaitMigration k d) k = .failed := rankState_setRank _ _ _

theorem contains_putRising (n : Nat) (l : List Nat) : (addPoison.putRising n l).contains n = true := by
  induction l with
  | nil => simp [addPoison.putRising]
  | cons m l ih =>
    simp only [addPoison.putRising]
    split
    · simp
    · split
      · next e => simp [e]
      · rw [List.contains_cons, ih, Bool.or_true]

/-! ## Errors (R454, R455, R458, R464) -/

/-- The item of an error (R464). -/
def errorItem (e : MemError) (kind : Nat) (d : Dev) : Dev :=
  memItem kind e.stack e.channel e.rank e.block e.line (portCode e.port) d

theorem ceAdd_mc (p : Nat) (d : Dev) : (ceAdd p d).2.mc.ranks = d.mc.ranks ∧ (ceAdd p d).2.mc.poison = d.mc.poison := ⟨rfl, rfl⟩

/-- Without a limit no number of correctable errors fails a rank. -/
theorem ceAdd_unlimited {p : Nat} {d : Dev} (limit : fld d fMC_CE_LIMIT_CE_LIMIT 0 = 0) :
    (let (n, d) := ceAdd p d
     let limit := fld d fMC_CE_LIMIT_CE_LIMIT 0
     if limit ≠ 0 ∧ limit ≤ n then failRank p d else d) = (ceAdd p d).2 :=
  if_neg fun reached => reached.1 ((Frame_fld moves_ceAdd.frame (by decide) (by decide)).trans limit)

section
variable {e : MemError} {a : Dev}

theorem memoryError_correctable (here : e.stack.val = 4 ∨ e.stack.val < a.part.stacks) (low : e.block < rankBlocks)
    (on : pdOn a (41 + e.stack.val) = true) (kind : e.kind = .correctable) (limit : fld a fMC_CE_LIMIT_CE_LIMIT 0 = 0) :
    memoryError e a = (ceAdd (4 * e.stack.val + e.rank.val)
      (errorItem e 0 (raise fMC_EVENT_CE 0 (count .memCe (4 * e.stack.val + e.rank.val) a)))).2 := by
  have free : fld (errorItem e 0 (raise fMC_EVENT_CE 0 (count .memCe (4 * e.stack.val + e.rank.val) a))) fMC_CE_LIMIT_CE_LIMIT
    0 = 0 :=
    (Frame_fld (Moves.step moves_memItem (.step moves_raise (.step moves_count .refl rfl) rfl) rfl :
      Moves [.emitted, .regs, .cnt, .host] [.cnEvent, .cnWrap, .mcEvent, .scCfg] a _).frame (by decide) (by decide)).trans limit
  rw [memoryError, if_neg (by simp [here, low, on]), kind]
  exact ceAdd_unlimited free

theorem memoryError_uncorrectable (here : e.stack.val = 4 ∨ e.stack.val < a.part.stacks) (low : e.block < rankBlocks)
    (on : pdOn a (41 + e.stack.val) = true) (kind : e.kind = .uncorrectable) : memoryError e a =
      failRank (4 * e.stack.val + e.rank.val) (poisonRead e.port (((4 * e.stack.val + e.rank.val) * rankBlocks + e.block) * 64
        + e.line)
        (addPoison [((4 * e.stack.val + e.rank.val) * rankBlocks + e.block) * 64 + e.line]
          (errorItem e 1 (raise fMC_EVENT_UE 0 (count .memUe (4 * e.stack.val + e.rank.val) a))))) := by
  rw [memoryError, if_neg (by simp [here, low, on]), kind]
  rfl

end

theorem memoryErrorDetected_correctable (e : MemError) : RunsAt (.memoryErrorDetected e) e.t
    (fun a => (e.stack.val = 4 ∨ e.stack.val < a.part.stacks) ∧ e.block < rankBlocks ∧ pdOn a (41 + e.stack.val) = true ∧
      e.kind = .correctable ∧ fld a fMC_CE_LIMIT_CE_LIMIT 0 = 0)
    (fun a d => counter d .memCe (4 * e.stack.val + e.rank.val) = counter a .memCe (4 * e.stack.val + e.rank.val) + 1 ∧
      fld d fMC_EVENT_CE 0 = 1 ∧ d.mc.ranks = a.mc.ranks ∧ d.mc.poison = a.mc.poison) :=
  runsAt_of (exec_memoryErrorDetected e) fun a ⟨here, low, on, kind, limit⟩ => by
    have scope : 4 * e.stack.val + e.rank.val < 65536 := by omega
    rw [memoryError_correctable here low on kind limit]
    have item : counter (errorItem e 0 (raise fMC_EVENT_CE 0 (count .memCe (4 * e.stack.val + e.rank.val) a))) .memCe
        (4 * e.stack.val + e.rank.val) = counter a .memCe (4 * e.stack.val + e.rank.val) + 1 := by
      rw [errorItem, memItem, counter_post (by decide) (by decide) scope, counter_raise, counter_count_same]
    have event : fld (errorItem e 0 (raise fMC_EVENT_CE 0 (count .memCe (4 * e.stack.val + e.rank.val) a))) fMC_EVENT_CE 0 = 1
      :=
      (fld_memItem _ _ _ _ _ _ _ _ (by decide) (by decide)).trans (fld_raise_same _ _ _ (by decide) (by decide))
    have mc : (errorItem e 0 (raise fMC_EVENT_CE 0 (count .memCe (4 * e.stack.val + e.rank.val) a))).mc = a.mc := by
      rw [errorItem, memItem_mc, raise_mc, count_mc]
    revert item event mc
    generalize errorItem e 0 _ = x
    intro item event mc
    exact ⟨(counter_of_cnt rfl _ _).trans item, event, (ceAdd_mc _ _).1.trans (congrArg MemSt.ranks mc),
      (ceAdd_mc _ _).2.trans (congrArg MemSt.poison mc)⟩

/-- A rank in service fails: its item, the event, and its migration awaited (R459). -/
theorem failRank_inService {p : Nat} {d : Dev} (low : p < 16) (h : rankState d p = .inService) :
    failRank p d = awaitMigration p (raise fMC_EVENT_RANK_FAILED 0 (rankItem 4 p d)) := by
  rw [failRank, if_pos low, if_pos h]

theorem memoryErrorDetected_uncorrectable (e : MemError) : RunsAt (.memoryErrorDetected e) e.t
    (fun a => (e.stack.val = 4 ∨ e.stack.val < a.part.stacks) ∧ e.block < rankBlocks ∧ pdOn a (41 + e.stack.val) = true ∧
      e.kind = .uncorrectable ∧ e.port = .cxl ∧ e.stack.val < 4 ∧ rankState a (4 * e.stack.val + e.rank.val) = .inService)
    (fun a d => rankState d (4 * e.stack.val + e.rank.val) = .failed ∧
      d.mc.waiting.map (·.1) = a.mc.waiting.map (·.1) ++ [(4 * e.stack.val + e.rank.val)] ∧
      d.mc.poison.contains (((4 * e.stack.val + e.rank.val) * rankBlocks + e.block) * 64 + e.line) = true ∧
      fld d fMC_EVENT_UE 0 = 1 ∧ fld d fMC_EVENT_RANK_FAILED 0 = 1) :=
  runsAt_of (exec_memoryErrorDetected e) fun a ⟨here, low, on, kind, port, stack, serves⟩ => by
    rw [memoryError_uncorrectable here low on kind, port]
    generalize hp : 4 * e.stack.val + e.rank.val = p at serves ⊢
    generalize hl : (p * rankBlocks + e.block) * 64 + e.line = l
    have noted : (errorItem e 1 (raise fMC_EVENT_UE 0 (count .memUe p a))).mc = a.mc := by
      rw [errorItem, memItem_mc, raise_mc, count_mc]
    have part : (errorItem e 1 (raise fMC_EVENT_UE 0 (count .memUe p a))).part = a.part := by
      rw [errorItem, memItem_part, raise_part, count_part]
    generalize errorItem e 1 (raise fMC_EVENT_UE 0 (count .memUe p a)) = x at noted part ⊢
    obtain ⟨d, hd⟩ : ∃ d, d = poisonRead .cxl l (addPoison [l] x) := ⟨_, rfl⟩
    have mc : d.mc = (addPoison [l] x).mc := by rw [hd, poisonRead, raise_mc, count_mc]
    have told : fld d fMC_EVENT_UE 0 = 1 := by rw [hd, poisonRead]; exact fld_raise_same _ _ _ (by decide) (by decide)
    have there : rankState d p = .inService := by
      rw [← serves]
      exact rankState_of_ranks (by rw [mc, ← noted]; rfl) (by rw [hd, poisonRead, raise_part, count_part]; exact part) p
    rw [← hd, failRank_inService (by omega) there]
    refine ⟨rankState_awaitMigration _ _, ?_, ?_, ?_, ?_⟩
    · rw [awaitMigration_waiting, raise_mc, rankItem_mc, mc, List.map_append, ← noted]
      rfl
    · rw [awaitMigration_poison, raise_mc, rankItem_mc, mc]
      exact contains_putRising _ _
    · rw [Frame_fld moves_awaitMigration.frame (by decide) (by decide), fld_raise_apart fMC_EVENT_RANK_FAILED fMC_EVENT_UE 0 _
        rfl (by decide) (by decide) (by decide) (by decide),
        fld_rankItem _ _ _ (by decide) (by decide), told]
    · rw [Frame_fld moves_awaitMigration.frame (by decide) (by decide)]
      exact fld_raise_same _ _ _ (by decide) (by decide)

/-! ## Migration (R456, R459, R464) -/

/-- The migration of a rank to its spare, begun. -/
def migrationBegun (k j : Nat) (l : List (Nat × Option Nat)) (a : Dev) : Dev :=
  setRank k .migrating { a with mc := { a.mc with
    waiting := l, migration := some { rank := k, spare := some j }, places := aput a.mc.places k ((0, j) :: agetD a.mc.places
      k []) } }

theorem migrationStart_waiting {a : Dev} {k j : Nat} {l : List (Nat × Option Nat)} (idle : a.mc.migration = none)
    (first : a.mc.waiting = (k, some j) :: l) (on : stacksOn a true = true) :
    migrationStart a = rankItem 5 k (count .migStarted 0 (migrationBegun k j l a)) := by
  simp only [migrationStart, idle, first, on]
  rfl

theorem migrationStart_begins (t : Time) (k j : Nat) (l : List (Nat × Option Nat)) : RunsAt (.migrationStart t) t
    (fun a => a.mc.migration = none ∧ a.mc.waiting = (k, some j) :: l ∧ stacksOn a true = true)
    (fun _ d => rankState d k = .migrating ∧ d.mc.waiting = l ∧ d.mc.migration = some { rank := k, spare := some j }) :=
  runsAt_of (exec_migrationStart t) fun a ⟨idle, first, on⟩ => by
    have mc : (migrationStart a).mc = (migrationBegun k j l a).mc := by
      rw [migrationStart_waiting idle first on, rankItem_mc, count_mc]
    have part : (migrationStart a).part = (migrationBegun k j l a).part := by
      rw [migrationStart_waiting idle first on, rankItem_part, count_part]
    refine ⟨(rankState_of_ranks (congrArg MemSt.ranks mc) part k).trans (rankState_setRank _ _ _), ?_, ?_⟩
    · rw [mc]; rfl
    · rw [mc]; rfl

/-! ## Bytes copied (R457) -/

theorem keysRise_lt {α : Type} {l : List (Nat × α)} : ∀ {k : Nat}, above k l = true → keysRise l = true → ∀ c ∈ l, k < c.1 := by
  induction l with
  | nil => exact fun _ _ c hc => absurd hc List.not_mem_nil
  | cons a l ih =>
    intro k first rise c hc
    obtain ⟨k', v⟩ := a
    rw [keysRise_cons, Bool.and_eq_true] at rise
    have here : k < k' := by simpa [above] using first
    rcases List.mem_cons.mp hc with rfl | behind
    · exact here
    · exact here.trans (ih rise.1 rise.2 c behind)

/-- What a list cut down by its keys holds. -/
theorem aget_filter_keys {α : Type} (q : Nat → Bool) (l : List (Nat × α)) (k : Nat) :
    aget (l.filter (fun c => q c.1)) k = if q k then aget l k else none := by
  induction l with
  | nil => simp [aget]
  | cons a l ih =>
    obtain ⟨k', v⟩ := a
    rw [List.filter_cons]
    by_cases h : q k' = true
    · rw [if_pos h]
      by_cases e : k' = k
      · subst e; simp [aget, h]
      · simp [aget, e, ih]
    · rw [if_neg h, ih]
      by_cases e : k' = k
      · subst e; simp [h]
      · simp [aget, e]

section
variable (src dst : Nat)

/-- Bytes written at other addresses leave a byte. -/
theorem read_shifted_out {x : Nat} : ∀ (l : List (Nat × Byte)) (m : Memory), (∀ c ∈ l, x ≠ c.1 - src + dst) →
    (l.foldl (fun m c => m.write (c.1 - src + dst) c.2) m).read x = m.read x
  | [], _, _ => rfl
  | c :: l, m, h => by
    rw [List.foldl_cons, read_shifted_out l _ fun y hy => h y (List.mem_cons_of_mem c hy),
      read_write_ne m c.2 (h c List.mem_cons_self)]

/-- Of bytes written with their distance from an address, each reads at that distance. -/
theorem read_shifted_in {i : Nat} : ∀ (l : List (Nat × Byte)) (m : Memory), keysRise l = true → (∀ c ∈ l, src ≤ c.1) →
    (l.foldl (fun m c => m.write (c.1 - src + dst) c.2) m).read (dst + i) = agetD l (src + i) (m.read (dst + i))
  | [], _, _, _ => rfl
  | (k, v) :: l, m, rise, low => by
    rw [keysRise_cons, Bool.and_eq_true] at rise
    have from_ : src ≤ k := low (k, v) List.mem_cons_self
    rw [List.foldl_cons]
    by_cases e : k = src + i
    · have later : ∀ c ∈ l, dst + i ≠ c.1 - src + dst := fun c hc => by
        have := keysRise_lt rise.1 rise.2 c hc
        omega
      rw [read_shifted_out src dst l _ later, show k - src + dst = dst + i by omega, read_write_same]
      simp [agetD, aget, e]
    · rw [read_shifted_in l _ rise.2 fun c hc => low c (List.mem_cons_of_mem _ hc), read_write_ne m v (by omega)]
      simp only [agetD, aget, if_neg e]

end

theorem read_copy_in {m : Memory} (h : m.wf = true) (src dst : Nat) {i n : Nat} (hi : i < n) :
    (m.copy src dst n).read (dst + i) = m.read (src + i) := by
  have source := aget_filter_keys (fun a => decide (src ≤ a) && decide (a < src + n)) m.cells (src + i)
  have target := aget_filter_keys (fun a => !(decide (dst ≤ a) && decide (a < dst + n))) m.cells (dst + i)
  rw [Memory.copy, read_shifted_in src dst _ _ (keysRise_filter _ _ ((wf_iff m).mp h).1) fun c hc => by
    simpa using (by simpa using (List.mem_filter.mp hc).2 : src ≤ c.1 ∧ c.1 < src + n).1]
  simp only [Memory.read, agetD, source, target]
  simp [hi]

theorem read_copy_out (m : Memory) (src dst : Nat) {x n : Nat} (hx : ∀ i < n, x ≠ dst + i) :
    (m.copy src dst n).read x = m.read x := by
  have target := aget_filter_keys (fun a => !(decide (dst ≤ a) && decide (a < dst + n))) m.cells x
  have outside : (!(decide (dst ≤ x) && decide (x < dst + n))) = true := by
    by_contra inside
    simp only [Bool.not_eq_true', Bool.not_eq_false, Bool.and_eq_true, decide_eq_true_eq] at inside
    exact hx (x - dst) (by omega) (by omega)
  rw [Memory.copy, read_shifted_out src dst _ _ fun c hc => by
    have kept : src ≤ c.1 ∧ c.1 < src + n := by simpa using (List.mem_filter.mp hc).2
    have := hx (c.1 - src) (by omega)
    omega]
  simp only [Memory.read, agetD, target, outside, if_true]

/-! ## A step of a migration to a spare (R457) -/

/-- The address where a block of a physical rank begins. -/
def blockAt (rank block : Nat) : Nat := (rank * rankBlocks + block) * 4096

theorem physical_eq (rank block byte : Nat) : physical rank block byte = blockAt rank block + byte := rfl

/-- The rank that holds the block that a migration copies next. -/
def migrationFrom (x : MemSt) (m : Migration) : Nat :=
  located { x with places := aput x.places m.rank ((agetD x.places m.rank []).drop 1) } m.rank m.next

theorem migrationStep_spare {bad : List Nat} {s : State} {m : Migration} {j : Nat} (running : s.dev.mc.migration = some m)
    (spare : m.spare = some j) (more : m.done + 1 < rankBlocks) (on : stacksOn s.dev true = true) :
    ∃ d : Dev, migrationStep bad s = { s with
        dev := d, mem := s.mem.copy (blockAt (migrationFrom s.dev.mc m) m.next) (blockAt (16 + j) m.next) 4096 } ∧
      d.mc.migration = some { m with done := m.done + 1, next := m.next + 1 } := by
  have unfinished : ¬ m.done + 1 = rankBlocks := by omega
  rw [migrationStep, running]
  dsimp only
  rw [spare, if_neg (by simp [on])]
  dsimp only
  rw [if_neg unfinished]
  exact ⟨_, rfl, rfl⟩

theorem migrationStep_copies (s : State) (t : Time) (bad : List (Fin 64)) (m : Migration) (j : Nat)
    (awake : s.dev.porstLow = false) (form : s.mem.wf = true) (running : (tick t s.dev).mc.migration = some m)
    (spare : m.spare = some j) (more : m.done + 1 < rankBlocks) (on : stacksOn (tick t s.dev) true = true) :
    ∃ u, exec (.migrationStep t bad) s = .next u ∧ u.pending = s.pending ∧
      u.dev.mc.migration = some { m with done := m.done + 1, next := m.next + 1 } ∧
      (∀ i < 4096, u.mem.read (physical (16 + j) m.next i) = s.mem.read (physical (migrationFrom s.dev.mc m) m.next i)) ∧
      (∀ x, (∀ i < 4096, x ≠ physical (16 + j) m.next i) → u.mem.read x = s.mem.read x) := by
  obtain ⟨d, stepped, migration⟩ := migrationStep_spare (bad := bad.map (·.val)) (s := inDev (tick t) s) running spare more on
  have timed : (tick t s.dev).mc = s.dev.mc := moves_tick.frame.1 .mc (by decide)
  refine ⟨_, (exec_migrationStep t bad s).trans (congrArg Host.Outcome.next ((if_neg (by simp [awake])).trans stepped)), rfl,
    migration, fun i hi => ?_, fun x hx => read_copy_out _ _ _ hx⟩
  rw [← timed, physical_eq, physical_eq]
  exact read_copy_in form _ _ hi

/-! ## Withdrawal (R460) -/

/-- A rank without a home stays where it is (R460). -/
theorem rankWithdrawal_noHome (t : Time) (k : Nat) (l : List (Nat × Option Nat)) : RunsAt (.rankWithdrawal t) t
    (fun a => a.mc.migration = none ∧ a.mc.waiting = (k, none) :: l ∧ a.mc.capacity < 18)
    (fun a d => d.mc.capacity = a.mc.capacity ∧ rankState d k = .noHome ∧ d.mc.migration = none ∧ fld d fMC_EVENT_EXHAUSTED 0
      = 1) :=
  runsAt_of (exec_rankWithdrawal t) fun a ⟨idle, first, short⟩ => by
    simp only [rankWithdrawal, idle, first, short, if_true]
    refine ⟨by rw [raise_mc]; rfl, ?_, by rw [raise_mc]; rfl, fld_raise_same _ _ _ (by decide) (by decide)⟩
    exact (rankState_of_ranks (by rw [raise_mc]) (raise_part _ _ _) k).trans (rankState_setRank _ _ _)

/-- What a loss of capacity takes from the sections leaves the ranks, their capacity and their waiting. -/
theorem setSizes_mc (new : List Nat) (d : Dev) : (setSizes new d).mc = { d.mc with sizes := new } := by
  have lost : ∀ {l : List (Nat × Nat)} {x : Dev}, (l.foldl (fun d e => segmentLost e.1 d) x).mc = x.mc := fun {l x} =>
    (Moves.foldl (fun _ _ => moves_segmentLost) .refl : Moves _ _ x (l.foldl (fun d e => segmentLost e.1 d) x)).frame.1 .mc
      (by decide)
  have dropped : ∀ {l : List (Nat × Queue)} {x : Dev}, (l.foldl (fun d e => dropPages e.1 (wdPages d) d) x).mc = x.mc := fun
    {l x} =>
    (Moves.foldl (fun _ _ => moves_dropPages) .refl : Moves _ _ x (l.foldl (fun d e => dropPages e.1 (wdPages d) d)
      x)).frame.1 .mc
      (by decide)
  simp only [setSizes]
  split
  · rw [dropped, lost]
  · rw [lost]

/-- What is left of the sections once a rank is withdrawn, with its loss told (R460). -/
def capacityLost (k : Nat) (l : List (Nat × Option Nat)) (a : Dev) : Dev :=
  shrinkTold k (setSizes (shrunk (a.mc.capacity - 8) a.mc.sizes)
    { a with mc := { a.mc with waiting := l, capacity := a.mc.capacity - 8 } })

theorem capacityLost_mc (k : Nat) (l : List (Nat × Option Nat)) (a : Dev) : (capacityLost k l a).mc =
    { a.mc with waiting := l, capacity := a.mc.capacity - 8, sizes := shrunk (a.mc.capacity - 8) a.mc.sizes } := by
  rw [capacityLost, shrinkTold, raise_mc, signal_mc, memItem_mc, setSizes_mc]

/-- The withdrawal of a rank, begun. -/
def withdrawalBegun (k : Nat) (d : Dev) : Dev :=
  setRank k .withdrawing { d with mc := { d.mc with migration := some { rank := k, spare := none } } }

theorem withdrawalBegun_mc (k : Nat) (d : Dev) :
    (withdrawalBegun k d).mc.capacity = d.mc.capacity ∧ (withdrawalBegun k d).mc.waiting = d.mc.waiting ∧
      (withdrawalBegun k d).mc.migration = some { rank := k, spare := none } := ⟨rfl, rfl, rfl⟩

theorem rankWithdrawal_enough {a : Dev} {k : Nat} {l : List (Nat × Option Nat)} (idle : a.mc.migration = none)
    (first : a.mc.waiting = (k, none) :: l) (enough : 18 ≤ a.mc.capacity) :
    rankWithdrawal a = rankItem 5 k (count .migStarted 0 (withdrawalBegun k (capacityLost k l a))) := by
  rw [rankWithdrawal]
  split
  · next k' l' _ waiting =>
    obtain ⟨rfl, rfl⟩ : k' = k ∧ l' = l := by simpa [waiting] using first
    dsimp only
    rw [if_neg (Nat.not_lt.mpr enough), withdrawalBegun, capacityLost]
  · next none_ => exact absurd first (none_ k l idle)

theorem rankWithdrawal_begins (t : Time) (k : Nat) (l : List (Nat × Option Nat)) : RunsAt (.rankWithdrawal t) t
    (fun a => a.mc.migration = none ∧ a.mc.waiting = (k, none) :: l ∧ 18 ≤ a.mc.capacity)
    (fun a d => d.mc.capacity = a.mc.capacity - 8 ∧ rankState d k = .withdrawing ∧
      d.mc.migration = some { rank := k, spare := none } ∧ d.mc.waiting = l ∧ fld d fMC_EVENT_WITHDRAWN 0 = 1) :=
  runsAt_of (exec_rankWithdrawal t) fun a ⟨idle, first, enough⟩ => by
    have lost := capacityLost_mc k l a
    have event : fld (capacityLost k l a) fMC_EVENT_WITHDRAWN 0 = 1 := by
      rw [capacityLost, shrinkTold]
      exact fld_raise_same _ _ _ (by decide) (by decide)
    rw [rankWithdrawal_enough idle first enough]
    generalize capacityLost k l a = x at lost event
    obtain ⟨capacity, waiting, migration⟩ := withdrawalBegun_mc k x
    have rank : rankState (withdrawalBegun k x) k = .withdrawing := rankState_setRank _ _ _
    have event : fld (withdrawalBegun k x) fMC_EVENT_WITHDRAWN 0 = 1 := event
    generalize withdrawalBegun k x = y at capacity waiting migration rank event ⊢
    have mc : (rankItem 5 k (count .migStarted 0 y)).mc = y.mc := by rw [rankItem_mc, count_mc]
    have told : rankState (rankItem 5 k (count .migStarted 0 y)) k = rankState y k :=
      rankState_of_ranks (congrArg MemSt.ranks mc) (by rw [rankItem_part, count_part]) k
    refine ⟨?_, told.trans rank, ?_, ?_, ?_⟩
    · rw [mc, capacity, lost]
    · rw [mc, migration]
    · rw [mc, waiting, lost]
    · rw [fld_rankItem _ _ _ (by decide) (by decide), fld_count .migStarted 0 y (by decide) (by decide), event]

/-- Settles O35: each clause above, the copied block read back at its place in the spare. -/
theorem memoryErrorsAndMigration : Obligations.MemoryErrorsAndMigration :=
  ⟨memoryErrorDetected_correctable, memoryErrorDetected_uncorrectable, migrationStart_begins, migrationStep_copies,
    rankWithdrawal_begins, rankWithdrawal_noHome⟩

end Sys2Proof.Proofs
end

section
/-!
PROOF. The commands of a drawer (R485 to R488, R490, R491, R493).
-/

namespace Sys2Proof.Proofs

open Sys2Proof Sys2Proof.Machine Sys2Proof.Laws

/-! ## A flush (R487) -/

/-- The frames that a Sideboard drawer's items stand for, gone (R369, R378). -/
def framesDropped (n : Nat) (d : Dev) : Dev :=
  if n = 6 then { d with sb := { d.sb with memFrames := [] } }
  else if n = 7 then { d with sb := { d.sb with repFrames := [] } } else d

/-- What a flush leaves of a drawer. -/
def flushedDrawer (now : Time) (w : Drawer) : Drawer :=
  { w with items := [], latch := [], flushes := w.flushes + 1, flushedAt := some now, entered := 0 }

theorem framesDropped_rest (n : Nat) (d : Dev) :
    (framesDropped n d).host = d.host ∧ (framesDropped n d).cnt = d.cnt ∧ (framesDropped n d).now = d.now := by
  simp only [framesDropped]
  split
  · exact ⟨rfl, rfl, rfl⟩
  · split <;> exact ⟨rfl, rfl, rfl⟩

theorem flushDrawer_eq (n : Nat) (d : Dev) : flushDrawer n d =
    levelCheck n (countN .drwDropped n (enteredNow (framesDropped n d) (drawer d n)) (count .drwFlushes n
      (setDrawer n (flushedDrawer (framesDropped n d).now (drawer d n)) (framesDropped n d)))) := rfl

theorem flushDrawer_drawer (n : Nat) (d : Dev) : (drawer (flushDrawer n d) n).items = [] ∧
    (drawer (flushDrawer n d) n).latch = [] ∧ (drawer (flushDrawer n d) n).flushes = (drawer d n).flushes + 1 := by
  rw [flushDrawer_eq]
  generalize framesDropped n d = x
  obtain ⟨armed, level⟩ := drawer_levelCheck n (countN .drwDropped n (enteredNow x (drawer d n))
    (count .drwFlushes n (setDrawer n (flushedDrawer x.now (drawer d n)) x)))
  rw [level, drawer_of_drawers keepsPosted_countN.drawers, drawer_of_drawers keepsPosted_count.drawers, drawer_setDrawer_same]
  exact ⟨rfl, rfl, rfl⟩

theorem counter_flushDrawer {n : Nat} {d : Dev} (hn : n < 65536) :
    counter (flushDrawer n d) .drwFlushes n = counter d .drwFlushes n + 1 := by
  obtain ⟨-, cnt, -⟩ := framesDropped_rest n d
  rw [flushDrawer_eq, counter_of_cnt (moves_levelCheck.frame.1 .cnt (by decide)), counter_countN_other (by decide) hn hn,
    counter_count_same]
  exact congrArg (· + 1) (counter_of_cnt cnt _ _)

/-! ## A read of an item (R485, R486) -/

section
variable {n slot : Nat} {d : Dev}

/-- The answer to a read of a slot. -/
def slotRead (n slot : Nat) (v : Word) (d : Dev) : Dev := emit (.barRead (bar2 (0x1000 * n + 8 * slot)) v) d

theorem drawerRead_other (h : consumer d n ≠ 0) : drawerRead n slot d = slotRead n slot 0 d :=
  if_pos (by simp [h])

theorem drawerRead_latch (there : drawerPresent d n = true) (h : consumer d n = 0) (later : slot ≠ 0) :
    drawerRead n slot d = slotRead n slot (if slot < drawerWords n then (drawer d n).latch.getD slot 0 else 0) d := by
  rw [drawerRead, if_neg (by simp [there, h]), if_pos later]
  rfl

theorem drawerRead_head (there : drawerPresent d n = true) (h : consumer d n = 0) {x : List Word} {l : List (List Word)}
    (items : (drawer d n).items = x :: l) : drawerRead n 0 d =
      slotRead n 0 (x.getD 0 0) (levelCheck n (setDrawer n { drawer d n with items := l, latch := x } d)) := by
  rw [drawerRead, if_neg (by simp [there, h]), if_neg (not_not_intro rfl)]
  dsimp only
  rw [items]
  rfl

end

theorem drawerRead_popsHead (n : Fin 104) (x : List Word) (l : List (List Word)) : Runs (.drawerRead n 0)
    (fun a => drawerPresent a n = true ∧ consumer a n = 0 ∧ (drawer a n).items = x :: l)
    (fun _ d => (drawer d n).items = l ∧ (drawer d n).latch = x ∧
      d.emitted.head? = some (.barRead (bar2 (0x1000 * n.val)) (x.getD 0 0))) :=
  runs_of (exec_drawerRead n 0) fun a ⟨there, host, items⟩ => by
    have read : drawerRead n (0 : Fin 4) a = _ := drawerRead_head there host items
    obtain ⟨armed, level⟩ := drawer_levelCheck n (setDrawer n { drawer a n with items := l, latch := x } a)
    rw [drawer_setDrawer_same] at level
    rw [read]
    exact ⟨congrArg Drawer.items level, congrArg Drawer.latch level, rfl⟩

theorem drawerRead_readsLatch (n : Fin 104) (k : Fin 4) : Runs (.drawerRead n k)
    (fun a => drawerPresent a n = true ∧ consumer a n = 0 ∧ k ≠ 0)
    (fun a d => d.host = a.host ∧ d.emitted.head? = some (.barRead (bar2 (0x1000 * n.val + 8 * k.val))
      (if k.val < drawerWords n then (drawer a n).latch.getD k 0 else 0))) :=
  runs_of (exec_drawerRead n k) fun a ⟨there, host, later⟩ => by
    rw [drawerRead_latch there host (fun e => later (Fin.ext e))]
    exact ⟨rfl, rfl⟩

theorem drawerRead_otherConsumer (n : Fin 104) (k : Fin 4) : Runs (.drawerRead n k) (fun a => consumer a n ≠ 0)
    (fun a d => d.host = a.host ∧ d.emitted.head? = some (.barRead (bar2 (0x1000 * n.val + 8 * k.val)) 0)) :=
  runs_of (exec_drawerRead n k) fun a other => by
    rw [drawerRead_other other]
    exact ⟨rfl, rfl⟩

/-! ## FLUSH, LEVEL and CONSUMER (R487, R488, R491) -/

theorem drawerFlush_empties (n : Fin 104) (v : Word) : Runs (.drawerFlush n v)
    (fun a => drawerPresent a n = true ∧ v.toNat.testBit 0 = true)
    (fun a d => (drawer d n).items = [] ∧ (drawer d n).latch = [] ∧ (drawer d n).flushes = (drawer a n).flushes + 1 ∧
      counter d .drwFlushes n = counter a .drwFlushes n + 1) :=
  runs_of (exec_drawerFlush n v) fun a ⟨there, bit⟩ => by
    obtain ⟨items, latch, flushes⟩ := flushDrawer_drawer n a
    rw [drawerFlush, if_pos (by simp [there, bit])]
    exact ⟨items, latch, flushes, counter_flushDrawer (n.isLt.trans (by decide))⟩

theorem drawerLevelWrite_sets (n : Fin 104) (v : Word) : Runs (.drawerLevelWrite n v)
    (fun a => drawerPresent a n = true)
    (fun a d => (drawer d n).level = min (bitsOf v.toNat 6 0) (drawerDepth n) ∧ (drawer d n).items = (drawer a n).items) :=
  runs_of (exec_drawerLevelWrite n v) fun a there => by
    obtain ⟨armed, level⟩ := drawer_levelCheck n (setDrawer n { drawer a n with
      level := min (bitsOf v.toNat 6 0) (drawerDepth n), armed := true } a)
    rw [drawer_setDrawer_same] at level
    have set := congrArg Drawer.level level
    have items := congrArg Drawer.items level
    rw [drawerLevel, if_neg (by simp [there])]
    exact ⟨set, items⟩

section
variable {n : Nat} {v : Word} {d : Dev}

theorem consumer_setFld (v : Nat) : consumer (setFld fDRW_CTRL_CONSUMER n v d) n = min (v % 4) 2 := by
  rw [consumer, fld_setFld_same _ _ _ _ (by decide) (by decide)]
  rfl

theorem consumer_flushDrawer (hn : n < 104) : consumer (flushDrawer n d) n = consumer d n := by
  rw [consumer, Frame_fld moves_flushDrawer.frame (by decide) hn, consumer]

end

theorem drawerConsumerWrite_flushes (n : Fin 104) (v : Word) : Runs (.drawerConsumerWrite n v)
    (fun a => drawerPresent a n = true ∧ (n.val = 6 ∨ n.val = 7 → 2 ≤ bitsOf v.toNat 1 0))
    (fun a d => consumer d n = min (bitsOf v.toNat 1 0) 2 ∧
      (drawer d n).items = if min (bitsOf v.toNat 1 0) 2 = consumer a n then (drawer a n).items else []) :=
  runs_of (exec_drawerConsumerWrite n v) fun a ⟨there, firmware⟩ => by
    have small : bitsOf v.toNat 1 0 % 4 = bitsOf v.toNat 1 0 := by simp [bitsOf]
    have set : consumer (setFld fDRW_CTRL_CONSUMER n (bitsOf v.toNat 1 0) a) n = min (bitsOf v.toNat 1 0) 2 :=
      (consumer_setFld _).trans (by rw [small])
    have taken : ¬ ((n.val = 6 ∨ n.val = 7) ∧ bitsOf v.toNat 1 0 < 2) := fun ⟨sb, low⟩ => by
      have := firmware sb
      omega
    rw [drawerConsumer, if_neg (by simp [there]), if_neg taken]
    dsimp only
    split
    · exact ⟨set, rfl⟩
    · exact ⟨(consumer_flushDrawer n.isLt).trans set, (flushDrawer_drawer _ _).1⟩

theorem drawerConsumerWrite_kept (n : Fin 104) (v : Word) : Runs (.drawerConsumerWrite n v)
    (fun _ => (n.val = 6 ∨ n.val = 7) ∧ bitsOf v.toNat 1 0 < 2) (fun a d => d = a) :=
  runs_of (exec_drawerConsumerWrite n v) fun a low => by
    by_cases there : drawerPresent a n = true
    · rw [drawerConsumer, if_neg (by simp [there]), if_pos low]
    · rw [drawerConsumer, if_pos (by simp [there])]

/-! ## Rings -/

theorem ring_modRing_same (n : Nat) (f : RingIx → RingIx) (d : Dev) : ring (modRing n f d) n = f (ring d n) :=
  agetD_aputD_same _ _ _ _

theorem ring_modRing_ne {n m : Nat} (f : RingIx → RingIx) (d : Dev) (h : m ≠ n) : ring (modRing n f d) m = ring d m :=
  agetD_aputD_ne _ _ _ _ h

theorem ringSize_of_regs {a b : Dev} (regs : b.regs = a.regs) (n : Nat) : ringSize b n = ringSize a n := by
  rw [ringSize, reg_of_regs regs, ringSize]

theorem ring_of_rings {a b : Dev} (h : b.host.rings = a.host.rings) (n : Nat) : ring b n = ring a n := by rw [ring, h, ring]

/-- From device a to device b rings and drawers stand and nothing that left the part is taken back. -/
structure Signals (a b : Dev) : Prop where
  rings : b.host.rings = a.host.rings
  drawers : b.host.drawers = a.host.drawers
  emitted : ∀ e ∈ a.emitted, e ∈ b.emitted

theorem Signals.refl {d : Dev} : Signals d d := ⟨rfl, rfl, fun _ h => h⟩

theorem Signals.trans {a b c : Dev} (h : Signals a b) (k : Signals b c) : Signals a c :=
  ⟨k.rings.trans h.rings, k.drawers.trans h.drawers, fun e m => k.emitted e (h.emitted e m)⟩

theorem signals_emit {e : Emission} {d : Dev} : Signals d (emit e d) := ⟨rfl, rfl, fun _ h => List.mem_cons_of_mem _ h⟩

theorem signals_signal {v : Nat} {d : Dev} : Signals d (signal v d) := by
  simp only [signal]
  split
  · exact signals_emit
  · split
    · exact .refl
    · exact ⟨rfl, rfl, fun _ h => h⟩

theorem signals_benchVectors {d : Dev} : Signals d (benchVectors d) := by
  have told : ∀ (l : List Nat) (x : Dev), Signals d x → Signals d (l.foldl (fun d v => signal v d) x) := by
    intro l
    induction l with
    | nil => exact fun _ h => h
    | cons v l ih => exact fun x h => ih _ (h.trans signals_signal)
  exact told _ _ ⟨rfl, rfl, fun _ h => h⟩

/-- The level rule leaves rings and registers. -/
theorem levelCheck_rings (n : Nat) (d : Dev) : (levelCheck n d).host.rings = d.host.rings ∧ (levelCheck n d).regs = d.regs := by
  simp only [levelCheck]
  split
  · exact ⟨rfl, rfl⟩
  · split
    · exact ⟨rfl, rfl⟩
    · split
      · split
        · exact ⟨rfl, rfl⟩
        · exact ⟨signals_signal.rings, signal_regs _ _⟩
      · exact ⟨rfl, rfl⟩

/-- The index of a ring written to the host, and the vector that tells it (R478). -/
def indexTold (n : Nat) (ix : BitVec 16) (d : Dev) : Dev :=
  let d := if (reg d (ringWbReg n).1 (ringWbReg n).2) = 0 then d else emit (.ringIndex n ix) d
  match ringVector n with
  | some v => signal v d
  | none => if n = 261 then benchVectors d else d

theorem signals_indexTold {n : Nat} {ix : BitVec 16} {d : Dev} : Signals d (indexTold n ix d) := by
  have written : Signals d (if (reg d (ringWbReg n).1 (ringWbReg n).2) = 0 then d else emit (.ringIndex n ix) d) := by
    split
    · exact .refl
    · exact signals_emit
  simp only [indexTold]
  split
  · exact written.trans signals_signal
  · split
    · exact written.trans signals_benchVectors
    · exact written

theorem writeBack_eq (n : Nat) (d : Dev) : writeBack n d =
    indexTold n (ring d n).devIx (modRing n (fun r => { r with wbCount := 0, wbSince := none }) d) := rfl

theorem ring_writeBack (n : Nat) (d : Dev) : ring (writeBack n d) n = { ring d n with wbCount := 0, wbSince := none } := by
  rw [writeBack_eq, ring_of_rings signals_indexTold.rings, ring_modRing_same]

/-! ## The copy to a host ring (R491) -/

section
variable {n : Nat} {d : Dev}

theorem readLine_drawerRing (hn : n < 104) : readLine n d = d :=
  if_neg (by simp [deviceReads]; omega)

/-- An entry taken on a drawer's ring: the device index steps, whether or not it is written back then. -/
theorem ringStep_drawerRing (hn : n < 104) : (ring (ringStep n d) n).devIx = indexNext d n (ring d n).devIx ∧
    (ringStep n d).host.drawers = d.host.drawers ∧ ∀ e ∈ d.emitted, e ∈ (ringStep n d).emitted := by
  simp only [ringStep, readLine_drawerRing hn]
  split
  · refine ⟨?_, ?_, fun e m => ?_⟩
    · rw [ring_writeBack, ring_modRing_same]
    · rw [writeBack_eq]; exact signals_indexTold.drawers
    · rw [writeBack_eq]; exact signals_indexTold.emitted e m
  · exact ⟨by rw [ring_modRing_same], rfl, fun _ m => m⟩

end

theorem indexNext_of_regs {a b : Dev} {n : Nat} (regs : b.regs = a.regs) (ring_ : ring b n = ring a n) :
    indexNext b n (ring b n).devIx = indexNext a n (ring a n).devIx := by
  rw [indexNext, ringSize_of_regs regs, ring_, indexNext]

theorem drawerDmaCopy_writesEntry (t : Time) (n : Fin 104) (x : List Word) (l : List (List Word)) : RunsAt (.drawerDmaCopy t n) t
    (fun a => (drawer a n).items = x :: l ∧ consumer a n = 1 ∧ hostPort a = true ∧ ringEnabled a n = true ∧
      indexDist a n (ring a n).hostIx (ring a n).devIx < ringSize a n)
    (fun a d => (drawer d n).items = l ∧ (ring d n).devIx = indexNext a n (ring a n).devIx ∧
      d.emitted.contains (.ringEntry n (ring a n).devIx (x ++ List.replicate (4 - x.length) 0)) = true) :=
  runsAt_of (exec_drawerDmaCopy t n) fun a ⟨items, dma, port, enabled, room⟩ => by
    have copied : drawerCopy n a = ringStep n (emit (.ringEntry n (ring a n).devIx (x ++ List.replicate (4 - x.length) 0))
        (levelCheck n (setDrawer n { drawer a n with items := l } a))) := by
      rw [drawerCopy, items]
      exact if_pos ⟨dma, port, enabled, room⟩
    obtain ⟨armed, level⟩ := drawer_levelCheck n (setDrawer n { drawer a n with items := l } a)
    rw [drawer_setDrawer_same] at level
    obtain ⟨rings, regs⟩ := levelCheck_rings n (setDrawer n { drawer a n with items := l } a)
    obtain ⟨ix, drawers, emitted⟩ := ringStep_drawerRing (d := emit (.ringEntry n (ring a n).devIx
      (x ++ List.replicate (4 - x.length) 0)) (levelCheck n (setDrawer n { drawer a n with items := l } a))) n.isLt
    rw [copied]
    refine ⟨?_, ?_, ?_⟩
    · rw [drawer_of_drawers drawers]
      exact congrArg Drawer.items level
    · rw [ix]
      exact indexNext_of_regs regs (ring_of_rings rings n)
    · exact List.contains_iff_mem.mpr (emitted _ List.mem_cons_self)

/-! ## DRW_STATUS (R490) -/

/-- A change that leaves the Firescreen drives no kill output. -/
theorem fsDrive_of_fs {f : Dev → Dev} {d : Dev} (fs : (f d).fs = d.fs) (part : (f d).part = d.part) : fsDrive f d = f d := by
  have out : ∀ n, txKillOn d n = txKillOn (f d) n := fun n => by
    rw [txKillOn, killBase, fsChan, ← fs, txKillOn, killBase, fsChan]
  have all_ : allKillOn d = allKillOn (f d) := (allKillOn_of_same fs part).symm
  simp only [fsDrive, out, all_, if_true, List.foldl_fixed]

theorem bar2Access_status {x : BarAccess} {n : Nat} {d : Dev} (hn : n < 104) (port : hostPort d = true) (size : x.size = 8)
    (read : x.write = false) (offset : x.offset = 0x1000 * n + 0x20) (there : drawerPresent d n = true) :
    bar2Access x d = bar2Reply x.offset (BitVec.ofNat 48 (drwStatusWord d n)) d := by
  have page : x.offset / 0x1000 = n := by omega
  have slot : x.offset % 0x1000 = 0x20 := by omega
  have good : ¬ (x.size ≠ 8 ∨ x.offset % 8 ≠ 0) := by omega
  rw [bar2Access, page, slot, if_neg (by simp [port]), if_neg good, if_pos hn, drawerPage]
  simp [read, there]

theorem drwStatus_read (x : BarAccess) (n : Fin 104) : RunsAt (.registerWrite (.bar2 x)) x.t
    (fun a => hostPort a = true ∧ x.size = 8 ∧ x.write = false ∧ x.offset = 0x1000 * n.val + 0x20 ∧ drawerPresent a n = true)
    (fun a d => d = emit (.barRead (bar2 x.offset) (BitVec.ofNat 48 (drawerDepth n * 2 ^ 16 +
      (drawer a n).flushes.toNat * 2 ^ 8 + (if drawerDepth n ≤ (drawer a n).items.length then 128 else 0) +
      (drawer a n).items.length))) a) :=
  runsAt_of (exec_registerWrite (.bar2 x)) fun a ⟨port, size, read, offset, there⟩ => by
    have answer : hostAccess (.bar2 x) a = _ := bar2Access_status n.isLt port size read offset there
    have full : (if drawerDepth n ≤ (drawer a n).items.length then 128 else 0) =
        (decide (drawerDepth n ≤ (drawer a n).items.length)).toNat * 2 ^ 7 := by
      split <;> simp [*]
    rw [fsDrive_of_fs (by rw [answer]; rfl) (by rw [answer]; rfl), answer, full]
    rfl

/-- Settles O38: each clause above. -/
theorem drawerCommands : Obligations.DrawerCommands :=
  ⟨drawerRead_popsHead, drawerRead_readsLatch, drawerRead_otherConsumer, drawerFlush_empties, drawerLevelWrite_sets,
    drawerConsumerWrite_flushes, drawerConsumerWrite_kept, drawerDmaCopy_writesEntry, drwStatus_read⟩

end Sys2Proof.Proofs
end

section
/-!
PROOF. A chained pair of selectable counters (R581) and an access that BAR0 does not accept (R474).
-/

namespace Sys2Proof.Proofs

open Sys2Proof Sys2Proof.Machine Sys2Proof.Laws

/-! ## Selectable counters read (R581) -/

section
variable {k : Nat} {d : Dev}

/-- The counter's value kept for a read of its pair (R581). -/
def pairLatched (k : Nat) (d : Dev) : Dev :=
  { d with cnt := { d.cnt with selLatch := aputD d.cnt.selLatch (k + 1) (selCount d (k + 1)) 0 } }

theorem selRead_even (even : k % 2 = 0) : selRead k d = emit (.barRead (regOffset .scCnt k) (selCount d k)) (pairLatched k d) :=
  if_pos even

theorem selRead_chained (odd : k % 2 = 1) (chain : fld d fSC_CFG_CHAIN k = 1) :
    selRead k d = emit (.barRead (regOffset .scCnt k) (agetD d.cnt.selLatch k 0)) d := by
  rw [selRead, if_neg (by omega), if_pos chain]

theorem pairLatched_latch : agetD (pairLatched k d).cnt.selLatch (k + 1) 0 = selCount d (k + 1) := agetD_aputD_same _ _ _ _

end

theorem selectableCounterRead_even (k : Fin 64) : Runs (.selectableCounterRead k) (fun _ => k.val % 2 = 0)
    (fun a d => d.emitted.head? = some (.barRead (regOffset .scCnt k) (selCount a k)) ∧
      agetD d.cnt.selLatch (k.val + 1) 0 = selCount a (k.val + 1) ∧ d.cnt.sel = a.cnt.sel) :=
  runs_of (exec_selectableCounterRead k) fun a even => by
    rw [selRead_even even]
    exact ⟨rfl, pairLatched_latch, rfl⟩

theorem selectableCounterRead_chained (k : Fin 64) : Runs (.selectableCounterRead k)
    (fun a => k.val % 2 = 1 ∧ fld a fSC_CFG_CHAIN k = 1)
    (fun a d => d = emit (.barRead (regOffset .scCnt k) (agetD a.cnt.selLatch k 0)) a) :=
  runs_of (exec_selectableCounterRead k) fun _ ⟨odd, chain⟩ => selRead_chained odd chain

/-- The pair read one after the other gives both counters as they stood at the first read. -/
theorem selectableCounterRead_pair (k j : Fin 64) (s : State) (awake : s.dev.porstLow = false) (even : k.val % 2 = 0)
    (next : j.val = k.val + 1) (chain : fld s.dev fSC_CFG_CHAIN j = 1) :
    ∃ d e, exec (.selectableCounterRead k) s = .next { s with dev := d } ∧
      exec (.selectableCounterRead j) { s with dev := d } = .next { s with dev := e } ∧
      d.emitted = .barRead (regOffset .scCnt k) (selCount s.dev k) :: s.dev.emitted ∧
      e.emitted = .barRead (regOffset .scCnt j) (selCount s.dev j) :: d.emitted := by
  refine ⟨selRead k s.dev, selRead j (selRead k s.dev), (exec_selectableCounterRead k s).trans (onDev_eq _ s awake),
    (exec_selectableCounterRead j _).trans (onDev_eq _ _ ?_), ?_, ?_⟩
  · rw [selRead_even even]; exact awake
  · rw [selRead_even even]; rfl
  · have held : agetD (selRead k s.dev).cnt.selLatch j 0 = selCount s.dev j := by
      rw [selRead_even even, next]
      exact pairLatched_latch
    rw [selRead_chained (by omega) (by rw [selRead_even even]; exact chain), held]
    rfl

/-- Settles O52: a read of an even counter latches its partner, and a chained read gives what was latched. -/
theorem chainedPairRead : Obligations.ChainedPairRead :=
  ⟨selectableCounterRead_even, selectableCounterRead_chained, selectableCounterRead_pair⟩

/-! ## An access that is not accepted (R474) -/

/-- The event of an access that is not accepted. -/
def fBadAccess : Fld := ⟨.glEvent, 2, 2⟩

/-- The offset of the first access that is not accepted, held (R474). -/
def badOffsetHeld (x : BarAccess) (d : Dev) : Dev :=
  if fld d fBadAccess 0 = 0 then setReg .glBadAddr 0 (BitVec.ofNat 48 (x.offset % 2 ^ 25)) d else d

theorem barAccess_bad {x : BarAccess} (bad : x.size ≠ 8 ∨ x.offset % 8 ≠ 0) (d : Dev) :
    barAccess x d = badAccess x d :=
  if_neg (by rcases bad with h | h <;> simp [accessOk, h])

theorem badAccess_eq (x : BarAccess) (d : Dev) : badAccess x d =
    if x.write then raise fBadAccess 0 (badOffsetHeld x (count .badAccess 0 d))
    else emit (.barRead x.offset 0) (raise fBadAccess 0 (badOffsetHeld x (count .badAccess 0 d))) := rfl

theorem moves_badAccess {x : BarAccess} {d : Dev} : Moves [.regs, .cnt, .host, .emitted]
    (.glEvent :: .glBadAddr :: countRegs) d (badAccess x d) := by
  have held : Moves [.regs, .cnt, .host, .emitted] (.glEvent :: .glBadAddr :: countRegs) d
      (raise fBadAccess 0 (badOffsetHeld x (count .badAccess 0 d))) :=
    .step moves_raise (.ite (.step moves_setReg (.step moves_count .refl rfl) rfl) (.step moves_count .refl rfl)) rfl
  rw [badAccess_eq]
  exact .ite held (.step moves_emit held rfl)

/-- What a write of the host does where its access is not accepted: the outputs of the Firescreen stay (R474). -/
theorem fsDrive_badAccess {x : BarAccess} (bad : x.size ≠ 8 ∨ x.offset % 8 ≠ 0) (d : Dev) :
    fsDrive (hostAccess (.bar0 x)) d = badAccess x d := by
  have access : hostAccess (.bar0 x) d = badAccess x d := barAccess_bad bad d
  rw [fsDrive_of_fs, access]
  · rw [access]; exact moves_badAccess.frame.1 .fs (by decide)
  · rw [access]; exact moves_badAccess.frame.1 .part (by decide)

theorem fld_badAccess (x : BarAccess) (d : Dev) : fld (badAccess x d) fBadAccess 0 = 1 := by
  rw [badAccess_eq]
  split <;> exact fld_raise_same _ _ _ (by decide) (by decide)

/-- GL_BAD_ADDR holds the first offset until BAD_ACCESS is cleared (R474). -/
theorem badAddr_badAccess (x : BarAccess) (d : Dev) : reg (badAccess x d) .glBadAddr 0 =
    if fld d fBadAccess 0 = 0 then BitVec.ofNat 48 (x.offset % 2 ^ 25) else reg d .glBadAddr 0 := by
  have raised (y : Dev) : reg (raise fBadAccess 0 y) .glBadAddr 0 = reg y .glBadAddr 0 :=
    Frame_reg moves_raise.frame (by decide) (by decide)
  have held : reg (badOffsetHeld x (count .badAccess 0 d)) .glBadAddr 0 =
      if fld d fBadAccess 0 = 0 then BitVec.ofNat 48 (x.offset % 2 ^ 25) else reg d .glBadAddr 0 := by
    rw [badOffsetHeld, fld_count _ _ _ (by decide) (by decide)]
    split
    · exact reg_setReg_same ..
    · exact reg_count _ _ _ (by decide) (by decide)
  rw [badAccess_eq]
  split <;> exact (raised _).trans held

theorem registerWrite_bad (x : BarAccess) : RunsAt (.registerWrite (.bar0 x)) x.t (fun _ => x.size ≠ 8 ∨ x.offset % 8 ≠ 0)
    (fun a d => fld d fBadAccess 0 = 1 ∧ reg d .glBadAddr 0 = (if fld a fBadAccess 0 = 0 then
      BitVec.ofNat 48 (x.offset % 2 ^ 25) else reg a .glBadAddr 0) ∧ d.dict = a.dict) :=
  runsAt_of (exec_registerWrite (.bar0 x)) fun a bad => by
    rw [fsDrive_badAccess bad]
    exact ⟨fld_badAccess x a, badAddr_badAccess x a, moves_badAccess.frame.1 .dict (by decide)⟩

theorem registerWrite_badRead (x : BarAccess) : RunsAt (.registerWrite (.bar0 x)) x.t
    (fun _ => (x.size ≠ 8 ∨ x.offset % 8 ≠ 0) ∧ x.write = false)
    (fun _ d => d.emitted.head? = some (.barRead x.offset 0)) :=
  runsAt_of (exec_registerWrite (.bar0 x)) fun a ⟨bad, read⟩ => by
    rw [fsDrive_badAccess bad, badAccess_eq, read]
    rfl

theorem registerWrite_badKeeps (x : BarAccess) : RunsAt (.registerWrite (.bar0 x)) x.t
    (fun _ => x.size ≠ 8 ∨ x.offset % 8 ≠ 0) (fun a d => KeepRegs (.glEvent :: .glBadAddr :: countRegs) a d) :=
  runsAt_of (exec_registerWrite (.bar0 x)) fun a bad => by
    rw [fsDrive_badAccess bad]
    exact moves_badAccess.frame.2

/-- Settles O40: an access that BAR0 does not accept reads zero or is ignored, and its first offset is held. -/
theorem unacceptedAccess : Obligations.UnacceptedAccess :=
  ⟨registerWrite_bad, registerWrite_badRead, registerWrite_badKeeps⟩

end Sys2Proof.Proofs
end

section
/-!
PROOF. Rings of a part without the Sideboard (R1, R6, R477, R493): the drawers of units that a part lacks have no rings.
-/

namespace Sys2Proof.Proofs

open Sys2Proof Sys2Proof.Machine Sys2Proof.Laws

/-! ## The counterexample to the doorbell (R6, R478) -/

/-- A part of 48 ports, without the Sideboard and so without drawer 6. -/
def smallDevice : Dev := { State.reset.dev with part := .az4808, porstLow := false }

/-- The host's index 1, without entries. -/
def firstIndex : RingIndex := { index := 1 }

theorem smallDevice_meets : smallDevice.porstLow = false ∧
    tailLine (tick 5 smallDevice) (ringNo (.drawer 6)) = false := by decide +kernel

theorem doorbell_smallDevice :
    (ring (doorbell (ringNo (.drawer 6)) firstIndex (ringIdleExit (ringNo (.drawer 6)) (tick 5 smallDevice))) (ringNo (.drawer 6))).hostIx = 0 ∧
      firstIndex.index.toNat % (2 * ringSize (tick 5 smallDevice) (ringNo (.drawer 6))) = 1 := by decide +kernel

/-- Refutes O37: a doorbell of a drawer whose unit the part lacks is ignored (R6), with no tail line in use. -/
theorem not_ringsAndHost : ¬ Obligations.RingsAndHost := by
  rintro ⟨taken, -⟩
  obtain ⟨low, free⟩ := smallDevice_meets
  obtain ⟨kept, index⟩ := doorbell_smallDevice
  have stored := post_of_runsAt (exec_ringDoorbell 5 (.drawer 6) firstIndex) (taken 5 (.drawer 6) firstIndex) _ low free
  rw [kept, index] at stored
  exact absurd stored (by decide)

end Sys2Proof.Proofs
end

section
/-!
PROOF. A snapshot armed by an entry (R586, R590): the entry's time is what the dictionary holds, not what the registers show.
-/

namespace Sys2Proof.Proofs

open Sys2Proof Sys2Proof.Machine Sys2Proof.Laws

/-! ## The counterexample to an arm by an entry (R586, R590) -/

/-- The entry of the snapshot's time holds second 5 while the registers hold zero, and Longcase isn't valid. -/
def entryTimeOfDay : Dev :=
  setPd 3 1 { State.reset.dev with porstLow := false, dict := [(0xA01001, [0, 0, 0, 0, 0, 5, 0, 0, 0, 0])] }

theorem entryTimeOfDay_meets : secretaryRuns (tick 5 entryTimeOfDay) = true ∧ (tick 5 entryTimeOfDay).cab.phase = .idle ∧
    fld (tick 5 entryTimeOfDay) fCAB_TIME_SEC_SECONDS 0 = 0 ∧ fld (tick 5 entryTimeOfDay) fCAB_TIME_NS_NS 0 = 0 := by
  decide +kernel

theorem cabArmed_entryTimeOfDay :
    (cabArmed (.entry .l) (tick 5 entryTimeOfDay)).emitted.head? = some (.result .l 5) := by decide +kernel

/-- Refutes O51: an arm by an entry takes the time that the entry holds, which is refused as long as Longcase isn't valid. -/
theorem not_countersPagesAndCabinet : ¬ Obligations.CountersPagesAndCabinet := by
  rintro ⟨-, -, -, -, -, -, -, armed, -⟩
  obtain ⟨-, accepted⟩ := post_of_runsAt (exec_arm 5 (.entry .l)) (armed 5 .l) _ rfl entryTimeOfDay_meets
  exact absurd (cabArmed_entryTimeOfDay.symm.trans accepted) (by decide)

end Sys2Proof.Proofs
end

section
/-!
PROOF. Requests of many records (R512, R525): the message's length bounds them, and so does their number, at 255.
-/

namespace Sys2Proof.Proofs

open Sys2Proof Sys2Proof.Machine Sys2Proof.Laws

/-! ## The counterexample to a request of many reads (R512, R525) -/

/-- The Secretary runs, and the host's buffer takes four bytes of a reply: up to its count of records. -/
def shortBuffer : Dev := setFld fMB_RSP_LEN_LEN 0 4 (setPd 3 1 { State.reset.dev with porstLow := false })

/-- A request of path L. -/
def hostHead : DictHead := ⟨5, .l, 5, 0, 0, 0⟩

/-- The same entry read 256 times. -/
def manyReads : List (BitVec 16 × BitVec 8) := List.replicate 256 (0x2000, 9)

theorem shortBuffer_meets :
    asks hostHead (requestBytes 1 0 manyReads.length hostHead.reqId 0 0 (readBody manyReads)) (tick hostHead.t shortBuffer) = true ∧
      (pathSt (tick hostHead.t shortBuffer) hostHead.path).phase = .none ∧
      readsPlain (tick hostHead.t shortBuffer) hostHead.path 0x2000 9 = true := by decide +kernel

/-- The reply that takes up an answer for each of the many reads. -/
def manyAnswer (a : Dev) : List Byte :=
  replyMessage 1 0 manyReads.length hostHead.reqId a.dic.gen 0 0
    (manyReads.map (fun r => readRecord r.1.toNat r.2.toNat 0 (readEntry a hostHead.path r.1.toNat r.2.toNat).2.1
      (readEntry a hostHead.path r.1.toNat r.2.toNat).2.2)).flatten

theorem read_shortBuffer :
    (request hostHead 1 (requestBytes 1 0 manyReads.length hostHead.reqId 0 0 (readBody manyReads))
      (decide (255 < manyReads.length)) (readOp hostHead.path hostHead.reqId manyReads)
      (tick hostHead.t shortBuffer)).emitted.contains (.dictReply hostHead.path
        (deliveredOn (tick hostHead.t shortBuffer) hostHead.path (manyAnswer (tick hostHead.t shortBuffer)))) = false := by
  decide +kernel

/-- Refutes O41: a request of 256 records is answered 0x0B, though its bytes and those of its reply stay within 8,192. -/
theorem not_readsAndSideCommands : ¬ Obligations.ReadsAndSideCommands := by
  rintro ⟨-, -, -, inOrder, -⟩
  obtain ⟨asked, phase, plain⟩ := shortBuffer_meets
  have all : manyReads.all (fun r => readsPlain (tick hostHead.t shortBuffer) hostHead.path r.1.toNat r.2.toNat) = true := by
    rw [manyReads, List.all_replicate]
    exact plain
  have answered := post_of_runsAt (exec_read hostHead manyReads) (inOrder hostHead manyReads) _ rfl ⟨asked, phase, all⟩
  exact absurd (answered.symm.trans read_shortBuffer) (by decide)

end Sys2Proof.Proofs
end

section
/-!
PROOF. A power request of the host (R152, R552, R554, R555): stopping the units that leave Run may end the consent for lower
states, and with it a request that waits.
-/

namespace Sys2Proof.Proofs

open Sys2Proof Sys2Proof.Machine Sys2Proof.Laws

/-! ## The counterexample to a request for Run full (R152, R552, R554) -/

/-- Lifeline in Active, its last channel up on a lane of a domain that doesn't run, with a request for Deep sleep that waits. -/
def lastChannelUp : Dev :=
  setPd 46 1 (setFld fACT_STATUS_STATE 0 4
    { State.reset.dev with
      porstLow := false
      act := { lineRelease := true }
      pwr := { lifeline := true, next := some { target := 4, origin := .host } }
      chans := [(0, { laneA := { al := { align := .sync } }, up := true })]
      lanes := [(96, { st := 6 })] })

theorem lastChannelUp_meets :
    pdOn (tick 5 lastChannelUp) 46 = true ∧ (tick 5 lastChannelUp).pwr.shutdown = false ∧
      (tick 5 lastChannelUp).pwr.change = none ∧ (tick 5 lastChannelUp).pwr.wake = none ∧
      pwBlocked (tick 5 lastChannelUp) = false ∧ (tick 5 lastChannelUp).pwr.state ≤ 1 ∧
      (tick 5 lastChannelUp).pwr.lifeline = true := by decide +kernel

theorem powerRow_lastChannelUp :
    fld (fsDrive (powerRow 1 0 .host) (tick 5 lastChannelUp)) fPW_REQ_STATUS_RESULT 0 = 5 := by decide +kernel

/-- Refutes O48: as the request's units stop, the last channel falls, the consent ends, and the request that waits for Deep sleep
shows itself cancelled in PW_REQ_STATUS. -/
theorem not_powerRequests : ¬ Obligations.PowerRequests := by
  rintro ⟨runFull, -⟩
  obtain ⟨-, -, pending⟩ := post_of_runsAt (exec_requestRunFull 5 .host) (runFull 5) _ rfl lastChannelUp_meets
  exact absurd (powerRow_lastChannelUp.symm.trans pending) (by decide)

end Sys2Proof.Proofs
end

section
/-!
PROOF. A Sleep Notice that isn't sent in time (R152, R554, R556): the hold begins without it, and the units that stop may take the
consent along.
-/

namespace Sys2Proof.Proofs

open Sys2Proof Sys2Proof.Machine Sys2Proof.Laws

/-! ## The counterexample to a notice that isn't sent (R152, R554) -/

/-- A change to Deep sleep under consent whose notice is late. -/
def lateNotice : PwChange := { req := { target := 4, origin := .host }, phase := .pending, noticeDue := some 0, byLoss := false }

/-- Active with that change pending; the last channel is up on a lane of a domain that doesn't run. -/
def noticeUnsent : Dev :=
  setFld fACT_STATUS_STATE 0 4
    { State.reset.dev with
      porstLow := false
      pwr := { change := some lateNotice }
      chans := [(0, { laneA := { al := { align := .sync } }, up := true })]
      lanes := [(96, { st := 6 })] }

theorem noticeUnsent_meets :
    (tick 5 noticeUnsent).pwr.change = some lateNotice ∧ lateNotice.phase = .pending ∧
      dueBy lateNotice.noticeDue (tick 5 noticeUnsent).now = true ∧ (tick 5 noticeUnsent).act.noticeLeft = false := by
  decide +kernel

theorem noticeExpiry_noticeUnsent : (fsDrive noticeExpiry (tick 5 noticeUnsent)).pwr.change = none := by decide +kernel

/-- Refutes O49: as the change's units stop, the last channel falls, the consent ends, and with it the change whose hold has just
begun. -/
theorem not_powerChangeAndRails : ¬ Obligations.PowerChangeAndRails := by
  rintro ⟨unsent, -⟩
  obtain ⟨held, -⟩ := post_of_runsAt (exec_noticeWaitExpiry 5) (unsent 5 lateNotice) _ rfl noticeUnsent_meets
  exact absurd (noticeExpiry_noticeUnsent.symm.trans held) (by decide)

end Sys2Proof.Proofs
end

section
/-!
PROOF. OSC_RDY in a thermal shutdown (R594, R634): nothing but a power-good ends the shutdown, so a boot that waits stays in step 1.
-/

namespace Sys2Proof.Proofs

open Sys2Proof Sys2Proof.Machine Sys2Proof.Laws

/-! ## The counterexample to a boot that goes on (R594, R634) -/

/-- A boot that waits for OSC_RDY, in a thermal shutdown. -/
def bootInShutdown : State :=
  { dev := { State.reset.dev with porstLow := false, boot := { waiting := true }, pwr := { shutdown := true } } }

/-- OSC_RDY rises and both slots pass. -/
def oscRises : BootInputs :=
  { t := 5, oscRdy := true, fsClk := true, serialCrcOk := true, stackOk := [], slotsOk := [true, true], rail0AtTarget := false }

theorem bootInShutdown_meets : bootInShutdown.dev.porstLow = false ∧ bootInShutdown.dev.boot.waiting = true ∧
    oscRises.ptrOk = true ∧
    slotPasses oscRises.slotsOk bootInShutdown.dev bootInShutdown.dev.img.ptr.active = true ∧
    bootInShutdown.dev.img.ptr.trial = false := by decide +kernel

theorem oscRdy_bootInShutdown :
    (fsDrive (fun d => oscRdy oscRises (tick oscRises.t d)) bootInShutdown.dev).boot.waiting = true := by decide +kernel

/-- What OSC_RDY makes of the device, whether or not the memory is cleared with it. -/
theorem dev_of_oscRdy {b : BootInputs} {s u : State} (low : s.dev.porstLow = false) (next : exec (.oscRdy b) s = .next u) :
    u.dev = fsDrive (fun d => oscRdy b (tick b.t d)) s.dev := by
  rw [exec_oscRdy, onWhole, if_neg (by simp [low])] at next
  rw [← Host.Outcome.next.inj next]
  dsimp only
  split <;> rfl

/-- Refutes O56: in a thermal shutdown OSC_RDY leaves a boot that waits where it is. -/
theorem not_startsAndResets : ¬ Obligations.StartsAndResets := by
  rintro ⟨-, -, -, -, -, -, -, goesOn, -⟩
  obtain ⟨low, waits, record, passes, trial⟩ := bootInShutdown_meets
  obtain ⟨u, next, -, done, -⟩ := goesOn bootInShutdown oscRises low waits record passes (.inl trial)
  rw [dev_of_oscRdy low next, oscRdy_bootInShutdown] at done
  exact absurd done (by decide)

end Sys2Proof.Proofs
end

section
/-!
PROOF. The Waifel sessions and the service port (R606 to R611).
-/

namespace Sys2Proof.Proofs

open Sys2Proof Sys2Proof.Machine Sys2Proof.Laws

/-! ## Sessions set, ended and answered (R607, R611) -/

section
variable {id type ack : Nat} {bs : List Byte} {x : Session} {d : Dev}

theorem session_of_img {a b : Dev} (h : b.img = a.img) (k : Nat) : session b k = session a k := by simp only [session, h]

@[simp] theorem session_setSession_same : session (setSession id x d) id = some x := aget_aput_same _ _ _

@[simp] theorem session_endSession_same : session (endSession id d) id = none := aget_adel_same _ _

theorem session_endSession_ne {k : Nat} (h : k ≠ id) : session (endSession id d) k = session d k := aget_adel_ne _ h

@[simp] theorem slots_endSession_same : aget (endSession id d).cipher.slots (2 + id) = none := aget_adel_same _ _

/-- A message of the terminal takes the next sequence (R607). -/
theorem session_sessionSend (there : session d id = some x) :
    session (sessionSend id type ack bs d) id = some { x with txSeq := x.txSeq + 1 } := by
  simp only [sessionSend, there]
  exact session_setSession_same

theorem sessionSend_cnt : (sessionSend id type ack bs d).cnt = d.cnt := by
  simp only [sessionSend]
  split <;> rfl

end

/-! ## Hello (R609, R610) -/

section
variable {m : WaifelMsg} {d : Dev}

/-- The session that a Hello begins (R610). -/
def helloSession (m : WaifelMsg) (k : BitVec 256) (d : Dev) : Session :=
  { clientNonce := BitVec.ofNat 128 (bytesToNat m.payload), terminalNonce := Config.freeWaifelNonce d.freeCtr,
    key := sessionKey k (BitVec.ofNat 128 (bytesToNat m.payload)) (Config.freeWaifelNonce d.freeCtr),
    rxSeq := m.seq.toNat, txSeq := 1, lastAt := d.now }

/-- The device with the session that a Hello begins and its key in the session's check-value slot (R610). -/
def helloTaken (m : WaifelMsg) (k : BitVec 256) (id : Nat) (d : Dev) : Dev :=
  let e := setSession id (helloSession m k d) (nextFree d).2
  { e with cipher := { e.cipher with slots := aput e.cipher.slots (2 + id) (helloSession m k d).key } }

theorem helloOp_taken {k : BitVec 256} {id : Nat} (runs : waifelRuns d = true) (nonce : m.payload.length = 16)
    (outside : m.session = 0) (key : d.img.serviceKey = some k)
    (free : [1, 2, 3, 4].find? (fun i => (session d i).isNone) = some id) :
    helloOp m d = helloReply 0 id m.seq.toNat (Config.freeWaifelNonce d.freeCtr) (helloTaken m k id d) := by
  rw [helloOp, if_neg (by simp [runs]), if_neg (by simp [nonce, outside]), key]
  dsimp only
  rw [free]
  rfl

theorem helloOp_refused (runs : waifelRuns d = true) (nonce : m.payload.length = 16) (outside : m.session = 0)
    (full : d.img.serviceKey = none ∨ [1, 2, 3, 4].all (fun i => (session d i).isSome) = true) :
    ∃ code, helloOp m d = helloRefuse code m.seq.toNat d := by
  rw [helloOp, if_neg (by simp [runs]), if_neg (by simp [nonce, outside])]
  cases key : d.img.serviceKey with
  | none => exact ⟨3, rfl⟩
  | some k =>
    have taken : [1, 2, 3, 4].all (fun i => (session d i).isSome) = true := full.resolve_left (by simp [key])
    have none : [1, 2, 3, 4].find? (fun i => (session d i).isNone) = none := by
      simp only [List.all_eq_true, List.find?_eq_none] at taken ⊢
      exact fun i hi => by simp [Option.isSome_iff_ne_none.mp (taken i hi)]
    dsimp only
    rw [none]
    exact ⟨8, rfl⟩

end

theorem hello_taken (m : WaifelMsg) (k : BitVec 256) (id : Nat) : RunsAt (.hello m) m.t
    (fun a => waifelRuns a = true ∧ m.payload.length = 16 ∧ m.session = 0 ∧ a.img.serviceKey = some k ∧
      [1, 2, 3, 4].find? (fun i => (session a i).isNone) = some id)
    (fun a d => session d id = some (helloSession m k a) ∧
      aget d.cipher.slots (2 + id) = some (helloSession m k a).key ∧ d.freeCtr = a.freeCtr + 1) :=
  runsAt_of (exec_hello m) fun a ⟨runs, nonce, outside, key, free⟩ => by
    rw [helloOp_taken runs nonce outside key free]
    exact ⟨aget_aput_same _ _ _, aget_aput_same _ _ _, rfl⟩

theorem hello_refused (m : WaifelMsg) : RunsAt (.hello m) m.t
    (fun a => waifelRuns a = true ∧ m.payload.length = 16 ∧ m.session = 0 ∧
      (a.img.serviceKey = none ∨ [1, 2, 3, 4].all (fun i => (session a i).isSome) = true))
    (fun a d => d.img = a.img ∧ d.cipher = a.cipher ∧ counter d .helloRefused 0 = counter a .helloRefused 0 + 1) :=
  runsAt_of (exec_hello m) fun a ⟨runs, nonce, outside, full⟩ => by
    obtain ⟨code, refused⟩ := helloOp_refused runs nonce outside full
    rw [refused]
    exact ⟨count_img .., count_cipher .., counter_count_same ..⟩

/-! ## Open and Close (R610, R611) -/

section
variable {m : WaifelMsg} {x : Session} {d : Dev}

theorem openOp_opened (runs : waifelRuns d = true) (there : session d m.session.toNat = some x) (plain : m.payload = [])
    (right : wfCheck x.key (wfBody 0x03 m.session.toNat m.seq.toNat m.ack.toNat []) = m.check.toNat)
    (later : x.rxSeq < m.seq.toNat) : openOp m d = sessionSend m.session.toNat 0x04 m.seq.toNat [0x00]
      (setSession m.session.toNat { x with opened := true, rxSeq := m.seq.toNat, lastAt := d.now } d) := by
  simp only [openOp, there]
  rw [if_neg (by simp [runs]), if_neg (by simp [plain]), if_neg (by simp [right]), if_neg (by omega)]

theorem openOp_failed (runs : waifelRuns d = true) (there : session d m.session.toNat = some x) (plain : m.payload = [])
    (wrong : wfCheck x.key (wfBody 0x03 m.session.toNat m.seq.toNat m.ack.toNat []) ≠ m.check.toNat)
    (waits : x.opened = false) : openOp m d =
      endSession m.session.toNat (sessionSend m.session.toNat 0x04 m.seq.toNat [0x03] (count .openFailed 0 d)) := by
  simp only [openOp, there]
  rw [if_neg (by simp [runs]), if_neg (by simp [plain]), if_pos wrong, if_neg (by simp [waits])]

theorem inSession_taken {type : Nat} {f : Nat → Dev → Dev} (runs : waifelRuns d = true)
    (accepted : (wfAccept d.now m.session.toNat type m.seq.toNat m.ack.toNat m.payload m.check.toNat d).1 = true) :
    inSession m type true f d = f m.session.toNat
      (wfAccept d.now m.session.toNat type m.seq.toNat m.ack.toNat m.payload m.check.toNat d).2 := by
  simp only [inSession]
  rw [if_neg (by simp [runs]), if_neg (by decide), if_pos accepted]

end

theorem openSession_opens (m : WaifelMsg) (x : Session) : RunsAt (.openSession m) m.t
    (fun a => waifelRuns a = true ∧ session a m.session.toNat = some x ∧ m.payload = [] ∧
      wfCheck x.key (wfBody 0x03 m.session.toNat m.seq.toNat m.ack.toNat []) = m.check.toNat ∧ x.rxSeq < m.seq.toNat)
    (fun a d => session d m.session.toNat =
      some { x with opened := true, rxSeq := m.seq.toNat, lastAt := a.now, txSeq := x.txSeq + 1 }) :=
  runsAt_of (exec_openSession m) fun a ⟨runs, there, plain, right, later⟩ => by
    rw [openOp_opened runs there plain right later]
    exact session_sessionSend session_setSession_same

theorem openSession_fails (m : WaifelMsg) (x : Session) : RunsAt (.openSession m) m.t
    (fun a => waifelRuns a = true ∧ session a m.session.toNat = some x ∧ m.payload = [] ∧
      wfCheck x.key (wfBody 0x03 m.session.toNat m.seq.toNat m.ack.toNat []) ≠ m.check.toNat ∧ x.opened = false)
    (fun a d => session d m.session.toNat = none ∧ aget d.cipher.slots (2 + m.session.toNat) = none ∧
      counter d .openFailed 0 = counter a .openFailed 0 + 1) :=
  runsAt_of (exec_openSession m) fun a ⟨runs, there, plain, wrong, waits⟩ => by
    rw [openOp_failed runs there plain wrong waits]
    exact ⟨session_endSession_same, slots_endSession_same,
      (counter_of_cnt sessionSend_cnt ..).trans (counter_count_same ..)⟩

theorem close_ends (m : WaifelMsg) : RunsAt (.close m) m.t
    (fun a => waifelRuns a = true ∧
      (wfAccept a.now m.session.toNat 0x30 m.seq.toNat m.ack.toNat m.payload m.check.toNat a).1 = true ∧ m.payload = [])
    (fun _ d => session d m.session.toNat = none ∧ aget d.cipher.slots (2 + m.session.toNat) = none) :=
  runsAt_of (exec_close m) fun a ⟨runs, accepted, plain⟩ => by
    rw [show m.payload.isEmpty = true by rw [plain]; rfl, inSession_taken runs accepted]
    exact ⟨session_endSession_same, slots_endSession_same⟩

/-! ## Timeouts (R610, R611) -/

/-- A session timed out: counted and ended. -/
theorem timedOut_ends (id : Nat) (d : Dev) : session (endSession id (count .wfTimeouts 0 d)) id = none ∧
    counter (endSession id (count .wfTimeouts 0 d)) .wfTimeouts 0 = counter d .wfTimeouts 0 + 1 :=
  ⟨session_endSession_same, counter_count_same ..⟩

section
variable {id : Nat} {x : Session} {d : Dev}

theorem openTimeout_due (runs : waifelRuns d = true) (there : session d id = some x) (waits : x.opened = false)
    (due : x.lastAt + 5 * Config.sec ≤ d.now) : openTimeout id d = endSession id (count .wfTimeouts 0 d) := by
  simp only [openTimeout, there]
  exact if_pos ⟨runs, by simp [waits], due⟩

theorem openTimeout_kept (there : session d id = some x) (kept : x.opened = true ∨ d.now < x.lastAt + 5 * Config.sec) :
    openTimeout id d = d := by
  simp only [openTimeout, there]
  refine if_neg fun ⟨_, waits, due⟩ => ?_
  exact kept.elim waits (Nat.not_lt.mpr due)

theorem idleTimeout_due (runs : waifelRuns d = true) (there : session d id = some x) (opened : x.opened = true)
    (due : x.lastAt + entryAt d 0xB100 9 * Config.sec ≤ d.now) :
    idleTimeout id d = endSession id (count .wfTimeouts 0 d) := by
  simp only [idleTimeout, there]
  exact if_pos ⟨runs, opened, due⟩

theorem idleTimeout_kept (there : session d id = some x)
    (kept : x.opened = false ∨ d.now < x.lastAt + entryAt d 0xB100 9 * Config.sec) : idleTimeout id d = d := by
  simp only [idleTimeout, there]
  refine if_neg fun ⟨_, opened, due⟩ => ?_
  exact kept.elim (by simp [opened]) (Nat.not_lt.mpr due)

end

theorem sessionOpenTimeout_ends (t : Time) (i : Fin 4) (x : Session) : RunsAt (.sessionOpenTimeout t i) t
    (fun a => waifelRuns a = true ∧ session a (i.val + 1) = some x ∧ x.opened = false ∧ x.lastAt + 5 * Config.sec ≤ a.now)
    (fun a d => session d (i.val + 1) = none ∧ counter d .wfTimeouts 0 = counter a .wfTimeouts 0 + 1) :=
  runsAt_of (exec_sessionOpenTimeout t i) fun a ⟨runs, there, waits, due⟩ => by
    rw [openTimeout_due runs there waits due]
    exact timedOut_ends _ a

theorem sessionIdleTimeout_ends (t : Time) (i : Fin 4) (x : Session) : RunsAt (.sessionIdleTimeout t i) t
    (fun a => waifelRuns a = true ∧ session a (i.val + 1) = some x ∧ x.opened = true ∧
      x.lastAt + entryAt a 0xB100 9 * Config.sec ≤ a.now)
    (fun a d => session d (i.val + 1) = none ∧ counter d .wfTimeouts 0 = counter a .wfTimeouts 0 + 1) :=
  runsAt_of (exec_sessionIdleTimeout t i) fun a ⟨runs, there, opened, due⟩ => by
    rw [idleTimeout_due runs there opened due]
    exact timedOut_ends _ a

/-! ## The service key and the service port (R606, R609, R622) -/

/-- Every session of a list ended (R609). -/
def endedAll (l : List Nat) (d : Dev) : Dev := l.foldl (fun d id => if (session d id).isSome then endSession id d else d) d

theorem session_endedOne (j : Nat) (d : Dev) (k : Nat) :
    session (if (session d j).isSome then endSession j d else d) k = if k = j then none else session d k := by
  by_cases e : k = j
  · subst e
    cases h : session d k with
    | none => simp [h]
    | some x => simp
  · rw [if_neg e]
    split
    · exact session_endSession_ne e
    · rfl

theorem session_endedAll (l : List Nat) (d : Dev) (k : Nat) :
    session (endedAll l d) k = if k ∈ l then none else session d k := by
  induction l generalizing d with
  | nil => simp [endedAll]
  | cons j l ih =>
    have step : endedAll (j :: l) d = endedAll l (if (session d j).isSome then endSession j d else d) := rfl
    rw [step, ih, session_endedOne]
    by_cases e : k = j <;> simp [e]

theorem setServiceKey_eq (key : BitVec 256) (d : Dev) : setServiceKey key d =
    { endedAll [1, 2, 3, 4] d with img := { (endedAll [1, 2, 3, 4] d).img with serviceKey := some key } } := rfl

theorem session_setServiceKey {key : BitVec 256} {d : Dev} {i : Nat} (h : i ∈ [1, 2, 3, 4]) :
    session (setServiceKey key d) i = none := by
  have ended : session (endedAll [1, 2, 3, 4] d) i = none := (session_endedAll _ _ _).trans (if_pos h)
  rw [setServiceKey_eq]
  generalize endedAll [1, 2, 3, 4] d = x at ended ⊢
  exact ended

theorem serviceKey_setServiceKey (key : BitVec 256) (d : Dev) : (setServiceKey key d).img.serviceKey = some key := by
  rw [setServiceKey_eq]

theorem setServiceKey_ends (t : Time) (p : Path) (k : BitVec 256) : RunsAt (.setServiceKey t p k) t
    (fun a => secretaryRuns a = true)
    (fun _ d => d.img.serviceKey = some k ∧ [1, 2, 3, 4].all (fun i => (session d i).isNone) = true ∧
      d.emitted.head? = some (.result p 0)) :=
  runsAt_of (exec_setServiceKey t p k) fun a runs => by
    rw [commandOn_open runs]
    dsimp only
    have ended {i : Nat} : i ∈ [1, 2, 3, 4] → session (setServiceKey k a) i = none := session_setServiceKey
    have stored := serviceKey_setServiceKey k a
    generalize setServiceKey k a = x at ended stored ⊢
    exact ⟨stored, List.all_eq_true.mpr fun i hi => Option.isNone_iff_eq_none.mpr (ended hi), rfl⟩

theorem serviceOp_runs {bs : List Byte} {d : Dev} (runs : waifelRuns d = true) : serviceOp bs d =
    match serviceAnswer d d.freeCtr bs with
    | some r => emit (.servicePort r) (nextFree d).2
    | none => count .wfDiscarded 0 (nextFree d).2 :=
  if_neg (by simp [runs])

theorem servicePortFrame_answered (t : Time) (bs r : List Byte) : RunsAt (.servicePortFrame t bs) t
    (fun a => waifelRuns a = true ∧ serviceAnswer a a.freeCtr bs = some r)
    (fun a d => d.emitted.head? = some (.servicePort r) ∧ d.img = a.img) :=
  runsAt_of (exec_servicePortFrame t bs) fun a ⟨runs, answer⟩ => by
    rw [serviceOp_runs runs, answer]
    exact ⟨rfl, rfl⟩

theorem servicePortFrame_discarded (t : Time) (bs : List Byte) : RunsAt (.servicePortFrame t bs) t
    (fun a => waifelRuns a = true ∧ serviceAnswer a a.freeCtr bs = none)
    (fun a d => d.img = a.img ∧ counter d .wfDiscarded 0 = counter a .wfDiscarded 0 + 1) :=
  runsAt_of (exec_servicePortFrame t bs) fun a ⟨runs, answer⟩ => by
    rw [serviceOp_runs runs, answer]
    exact ⟨count_img .., counter_count_same ..⟩

/-- Settles O54: sessions open with their key, are refused, close and time out, and the service port answers. -/
theorem sessions : Obligations.Sessions :=
  ⟨hello_taken, hello_refused, openSession_opens, openSession_fails, close_ends, sessionOpenTimeout_ends,
    fun t i _ => runsAt_of (exec_sessionOpenTimeout t i) fun _ ⟨there, kept⟩ => openTimeout_kept there kept,
    sessionIdleTimeout_ends,
    fun t i _ => runsAt_of (exec_sessionIdleTimeout t i) fun _ ⟨there, kept⟩ => idleTimeout_kept there kept,
    setServiceKey_ends, servicePortFrame_answered, servicePortFrame_discarded⟩

end Sys2Proof.Proofs
end

section
/-!
PROOF. The staging of an image (R604, R608, R612 to R614).
-/

namespace Sys2Proof.Proofs

open Sys2Proof Sys2Proof.Machine Sys2Proof.Laws

/-! ## What a message of a session leaves of the images (R607, R611) -/

/-- The slots and each session's transfer stay. -/
structure SameStaging (id : Nat) (a d : Dev) : Prop where
  slotA : d.img.a = a.img.a
  slotB : d.img.b = a.img.b
  transfer : transferOf d id = transferOf a id

section
variable {id type ack off code : Nat} {bs : List Byte} {x : Session} {d : Dev}

theorem transferOf_some (there : session d id = some x) : transferOf d id = x.transfer := by rw [transferOf, there]; rfl

theorem SameStaging.trans {a b c : Dev} (h : SameStaging id a b) (k : SameStaging id b c) : SameStaging id a c :=
  ⟨k.slotA.trans h.slotA, k.slotB.trans h.slotB, k.transfer.trans h.transfer⟩

theorem sameStaging_setSession {y : Session} (there : session d id = some x) (same : y.transfer = x.transfer) :
    SameStaging id d (setSession id y d) :=
  ⟨rfl, rfl, by rw [transferOf_some session_setSession_same, transferOf_some there, same]⟩

theorem sameStaging_sessionSend : SameStaging id d (sessionSend id type ack bs d) := by
  cases there : session d id with
  | none =>
    have silent : sessionSend id type ack bs d = d := by simp only [sessionSend, there]
    rw [silent]
    exact ⟨rfl, rfl, rfl⟩
  | some x =>
    refine ⟨?_, ?_, ?_⟩
    · simp only [sessionSend, there]; rfl
    · simp only [sessionSend, there]; rfl
    · rw [transferOf_some (session_sessionSend there), transferOf_some there]

theorem sameStaging_imageReply : SameStaging id d (imageReply id ack off code d) := sameStaging_sessionSend

theorem counter_imageReply (c : CName) (k : Nat) : counter (imageReply id ack off code d) c k = counter d c k :=
  counter_of_cnt sessionSend_cnt _ _

theorem SameStaging.slot {a : Dev} (h : SameStaging id a d) (s : Nat) : imgSlot d s = imgSlot a s := by
  simp only [imgSlot, h.slotA, h.slotB]

end

/-- A message that is acted on takes its session one further (R611). -/
theorem wfAccept_accepted {now id type seq ack check : Nat} {bs : List Byte} {d : Dev}
    (h : (wfAccept now id type seq ack bs check d).1 = true) :
    ∃ x, session d id = some x ∧
      (wfAccept now id type seq ack bs check d).2 = setSession id { x with rxSeq := seq, lastAt := now } d := by
  revert h
  simp only [wfAccept]
  cases session d id with
  | none => simp
  | some x =>
    dsimp only
    split
    · simp
    · split
      · simp
      · split
        · simp
        · exact fun _ => ⟨x, rfl, rfl⟩

/-- The device that a session's message is acted on. -/
def accepted (m : WaifelMsg) (type : Nat) (d : Dev) : Dev :=
  (wfAccept d.now m.session.toNat type m.seq.toNat m.ack.toNat m.payload m.check.toNat d).2

/-- A message of a type is acted on in its session. -/
def accepts (m : WaifelMsg) (type : Nat) (d : Dev) : Prop :=
  (wfAccept d.now m.session.toNat type m.seq.toNat m.ack.toNat m.payload m.check.toNat d).1 = true

section
variable {m : WaifelMsg} {type : Nat} {d : Dev}

theorem accepted_eq (h : accepts m type d) : ∃ x, session d m.session.toNat = some x ∧
    accepted m type d = setSession m.session.toNat { x with rxSeq := m.seq.toNat, lastAt := d.now } d := wfAccept_accepted h

theorem sameStaging_accepted (h : accepts m type d) : SameStaging m.session.toNat d (accepted m type d) := by
  obtain ⟨x, there, e⟩ := accepted_eq h
  rw [e]
  exact sameStaging_setSession there rfl

theorem accepted_cnt (h : accepts m type d) : (accepted m type d).cnt = d.cnt := by
  obtain ⟨x, -, e⟩ := accepted_eq h
  rw [e]; rfl

theorem session_accepted (h : accepts m type d) : ∃ y, session (accepted m type d) m.session.toNat = some y := by
  obtain ⟨x, -, e⟩ := accepted_eq h
  rw [e]
  exact ⟨_, session_setSession_same⟩

theorem any_aput_other {α : Type} (l : List (Nat × α)) (k : Nat) (v : α) (q : Nat × α → Bool) :
    (aput l k v).any (fun e => e.1 != k && q e) = l.any (fun e => e.1 != k && q e) := by
  induction l with
  | nil => simp [aput]
  | cons e l ih =>
    obtain ⟨j, w⟩ := e
    simp only [aput]
    split
    · simp
    · split
      · next h => simp [h]
      · simp [ih]

/-- A slot is refused by what other sessions do (R614). -/
theorem slotRefused_accepted (h : accepts m type d) (s : Nat) :
    slotRefused (accepted m type d) m.session.toNat s = slotRefused d m.session.toNat s := by
  obtain ⟨x, -, e⟩ := accepted_eq h
  rw [e]
  simp only [slotRefused, setSession, imgSlot, any_aput_other]

/-- A command of a session on a message that is acted on. -/
theorem inSession_accepted {f : Nat → Dev → Dev} {wf : Bool} (runs : waifelRuns d = true) (formed : wf = true)
    (h : accepts m type d) : inSession m type wf f d = f m.session.toNat (accepted m type d) := by
  rw [formed]
  exact inSession_taken runs h

end

/-! ## Slots and transfers set -/

section
variable {s id : Nat} {f : ImgSlot → ImgSlot} {t : Option Nat} {d : Dev}

theorem imgSlot_of_slots {a b : Dev} (hA : b.img.a = a.img.a) (hB : b.img.b = a.img.b) (k : Nat) : imgSlot b k = imgSlot a k := by
  simp only [imgSlot, hA, hB]

theorem imgSlot_count (c : CName) (j k : Nat) (d : Dev) : imgSlot (count c j d) k = imgSlot d k :=
  imgSlot_of_slots (by rw [count_img]) (by rw [count_img]) k

@[simp] theorem imgSlot_modSlotImg_same : imgSlot (modSlotImg s f d) s = f (imgSlot d s) := by
  simp only [imgSlot, modSlotImg]
  split <;> rfl

theorem session_modSlotImg (k : Nat) : session (modSlotImg s f d) k = session d k := by
  simp only [modSlotImg]
  split <;> rfl

theorem transferOf_of_session {a b : Dev} (h : session b id = session a id) : transferOf b id = transferOf a id := by
  simp only [transferOf, h]

theorem setTransfer_slots (k : Nat) : imgSlot (setTransfer id t d) k = imgSlot d k := by
  simp only [setTransfer]
  split <;> rfl

theorem setTransfer_cnt : (setTransfer id t d).cnt = d.cnt := by
  simp only [setTransfer]
  split <;> rfl

theorem transferOf_setTransfer {x : Session} (there : session d id = some x) : transferOf (setTransfer id t d) id = t := by
  simp only [setTransfer, there]
  exact transferOf_some session_setSession_same

end

/-! ## Begin (R612, R614) -/

/-- A slot begins to be written: empty, of that total, with the session's transfer (R612). -/
def begunSlot (slot total id : Nat) (d : Dev) : Dev :=
  setTransfer id (some slot) (count .imgBegun slot (modSlotImg slot (fun _ => { state := .writing, total := total }) d))

section
variable {m : WaifelMsg} {id : Nat} {d : Dev}

theorem imageBegin_taken (free : slotRefused d id (m.payload.getD 0 0).toNat = false)
    (large : 4096 ≤ bytesToNat (m.payload.drop 4)) (fits : bytesToNat (m.payload.drop 4) ≤ 134217728)
    (whole : bytesToNat (m.payload.drop 4) % 4096 = 0) (chest : m.chestOk = true) : imageBegin m id d =
      imageReply id m.seq.toNat 0xFFFFFFFF 0x00
        (begunSlot (m.payload.getD 0 0).toNat (bytesToNat (m.payload.drop 4)) id d) := by
  simp only [imageBegin]
  rw [if_neg (by rw [free]; decide), if_neg (by omega), if_neg (by simp [chest])]
  rfl

theorem imageBegin_refused (refused : slotRefused d id (m.payload.getD 0 0).toNat = true ∨
    bytesToNat (m.payload.drop 4) < 4096 ∨ 134217728 < bytesToNat (m.payload.drop 4) ∨
    bytesToNat (m.payload.drop 4) % 4096 ≠ 0 ∨ m.chestOk = false) :
    ∃ code, imageBegin m id d = imageReply id m.seq.toNat 0xFFFFFFFF code d := by
  simp only [imageBegin]
  split
  · exact ⟨_, rfl⟩
  · next free =>
    split
    · exact ⟨_, rfl⟩
    · next size =>
      have chest : m.chestOk = false := by
        rcases refused with h | h | h | h | h
        · exact absurd h free
        · exact absurd (.inl h) size
        · exact absurd (.inr (.inl h)) size
        · exact absurd (.inr (.inr h)) size
        · exact h
      rw [if_pos (by simp [chest])]
      exact ⟨_, rfl⟩

end

theorem formed_begin {m : WaifelMsg} (length : m.payload.length = 8) (slot : (m.payload.getD 0 0).toNat ≤ 1) :
    (m.payload.length == 8 && decide ((m.payload.getD 0 0).toNat ≤ 1)) = true := by
  rw [decide_eq_true slot, length]
  rfl

theorem begunSlot_begun {slot total id : Nat} {d : Dev} {x : Session} (there : session d id = some x) :
    imgSlot (begunSlot slot total id d) slot = { state := .writing, total := total } ∧
      transferOf (begunSlot slot total id d) id = some slot ∧
      counter (begunSlot slot total id d) .imgBegun slot = counter d .imgBegun slot + 1 := by
  have there' : session (count .imgBegun slot (modSlotImg slot (fun _ => { state := .writing, total := total }) d)) id =
      some x := by
    rw [session_of_img (count_img _ _ _), session_modSlotImg, there]
  refine ⟨?_, transferOf_setTransfer there', ?_⟩
  · rw [begunSlot, setTransfer_slots, imgSlot_count, imgSlot_modSlotImg_same]
  · rw [begunSlot, counter_of_cnt setTransfer_cnt, counter_count_same]
    congr 1
    exact counter_of_cnt (by simp only [modSlotImg]; split <;> rfl) _ _

theorem imageBegin_begins (m : WaifelMsg) : RunsAt (.imageBegin m) m.t
    (fun a => waifelRuns a = true ∧ accepts m 0x20 a ∧ m.payload.length = 8 ∧ (m.payload.getD 0 0).toNat ≤ 1 ∧
      slotRefused a m.session.toNat (m.payload.getD 0 0).toNat = false ∧ 4096 ≤ bytesToNat (m.payload.drop 4) ∧
      bytesToNat (m.payload.drop 4) ≤ 134217728 ∧ bytesToNat (m.payload.drop 4) % 4096 = 0 ∧ m.chestOk = true)
    (fun a d => imgSlot d (m.payload.getD 0 0).toNat = { state := .writing, total := bytesToNat (m.payload.drop 4) } ∧
      transferOf d m.session.toNat = some (m.payload.getD 0 0).toNat ∧
      counter d .imgBegun (m.payload.getD 0 0).toNat = counter a .imgBegun (m.payload.getD 0 0).toNat + 1) :=
  runsAt_of (exec_imageBegin m) fun a ⟨runs, ok, length, slot, free, large, fits, whole, chest⟩ => by
    obtain ⟨y, there⟩ := session_accepted ok
    rw [inSession_accepted runs (formed_begin length slot) ok,
      imageBegin_taken ((slotRefused_accepted ok _).trans free) large fits whole chest]
    obtain ⟨begun, transfer, counted⟩ := begunSlot_begun (slot := (m.payload.getD 0 0).toNat)
      (total := bytesToNat (m.payload.drop 4)) there
    refine ⟨(sameStaging_imageReply.slot _).trans begun, sameStaging_imageReply.transfer.trans transfer, ?_⟩
    rw [counter_imageReply, counted, counter_of_cnt (accepted_cnt ok)]

theorem imageBegin_keeps (m : WaifelMsg) : RunsAt (.imageBegin m) m.t
    (fun a => waifelRuns a = true ∧ accepts m 0x20 a ∧ m.payload.length = 8 ∧ (m.payload.getD 0 0).toNat ≤ 1 ∧
      (slotRefused a m.session.toNat (m.payload.getD 0 0).toNat = true ∨ bytesToNat (m.payload.drop 4) < 4096 ∨
        134217728 < bytesToNat (m.payload.drop 4) ∨ bytesToNat (m.payload.drop 4) % 4096 ≠ 0 ∨ m.chestOk = false))
    (fun a d => d.img.a = a.img.a ∧ d.img.b = a.img.b ∧ transferOf d m.session.toNat = transferOf a m.session.toNat) :=
  runsAt_of (exec_imageBegin m) fun a ⟨runs, ok, length, slot, refused⟩ => by
    rw [inSession_accepted runs (formed_begin length slot) ok]
    rw [← slotRefused_accepted ok] at refused
    obtain ⟨code, answer⟩ := imageBegin_refused refused
    obtain ⟨slotA, slotB, transfer⟩ := (sameStaging_accepted ok).trans (sameStaging_imageReply (code := code))
    rw [answer]
    exact ⟨slotA, slotB, transfer⟩

/-! ## Blocks (R612) -/

section
variable {m : WaifelMsg} {id k : Nat} {d : Dev}

/-- A block stored in a slot at its offset (R612). -/
def storedBlock (m : WaifelMsg) (k : Nat) (d : Dev) : Dev :=
  count .imgBlocks k (modSlotImg k (fun s =>
    { s with blocks := aput s.blocks (bytesToNat (m.payload.take 4)) (m.payload.drop 4) }) d)

theorem imageBlock_taken (length : m.payload.length = 1028) (transfer : transferOf d id = some k)
    (place : bytesToNat (m.payload.take 4) % 1024 = 0) (inside : bytesToNat (m.payload.take 4) + 1024 ≤ (imgSlot d k).total)
    (chest : m.chestOk = true) :
    imageBlock m id d = imageReply id m.seq.toNat (bytesToNat (m.payload.take 4)) 0x00 (storedBlock m k d) := by
  have data : (m.payload.drop 4).length = 1024 := by rw [List.length_drop, length]
  simp only [imageBlock, transfer, data]
  rw [if_neg (by omega), if_neg (by simp [chest])]
  rfl

theorem imageBlock_refused (refused : transferOf d id = none ∨ m.payload.length ≠ 1028 ∨
    bytesToNat (m.payload.take 4) % 1024 ≠ 0 ∨ m.chestOk = false) (long : 5 ≤ m.payload.length) :
    ∃ code, imageBlock m id d = imageReply id m.seq.toNat (bytesToNat (m.payload.take 4)) code d := by
  have data : (m.payload.drop 4).length = m.payload.length - 4 := List.length_drop
  simp only [imageBlock]
  cases transfer : transferOf d id with
  | none => exact ⟨_, rfl⟩
  | some k =>
    dsimp only
    split
    · exact ⟨_, rfl⟩
    · next right =>
      have chest : m.chestOk = false := by
        rcases refused with h | h | h | h
        · simp [transfer] at h
        · exact absurd (.inr (.inr (by omega))) right
        · exact absurd (.inl h) right
        · exact h
      rw [if_pos (by simp [chest])]
      exact ⟨_, rfl⟩

theorem storedBlock_stored : imgSlot (storedBlock m k d) k =
    { imgSlot d k with blocks := aput (imgSlot d k).blocks (bytesToNat (m.payload.take 4)) (m.payload.drop 4) } ∧
    counter (storedBlock m k d) .imgBlocks k = counter d .imgBlocks k + 1 := by
  refine ⟨?_, ?_⟩
  · rw [storedBlock, imgSlot_count, imgSlot_modSlotImg_same]
  · rw [storedBlock, counter_count_same]
    congr 1
    exact counter_of_cnt (by simp only [modSlotImg]; split <;> rfl) _ _

end

theorem formed_block {m : WaifelMsg} (long : 5 ≤ m.payload.length) (short : m.payload.length ≤ 1028) :
    (decide (5 ≤ m.payload.length) && decide (m.payload.length ≤ 1028)) = true := by simp [long, short]

theorem imageBlock_stores (m : WaifelMsg) (k : Nat) : RunsAt (.imageBlock m) m.t
    (fun a => waifelRuns a = true ∧ accepts m 0x21 a ∧ m.payload.length = 1028 ∧ transferOf a m.session.toNat = some k ∧
      bytesToNat (m.payload.take 4) % 1024 = 0 ∧ bytesToNat (m.payload.take 4) + 1024 ≤ (imgSlot a k).total ∧
      m.chestOk = true)
    (fun a d => imgSlot d k = { imgSlot a k with
        blocks := aput (imgSlot a k).blocks (bytesToNat (m.payload.take 4)) (m.payload.drop 4) } ∧
      counter d .imgBlocks k = counter a .imgBlocks k + 1) :=
  runsAt_of (exec_imageBlock m) fun a ⟨runs, ok, length, transfer, place, inside, chest⟩ => by
    have same := sameStaging_accepted ok
    rw [inSession_accepted runs (formed_block (by omega) (by omega)) ok,
      imageBlock_taken length (same.transfer.trans transfer) place (by rw [same.slot]; exact inside) chest]
    obtain ⟨stored, counted⟩ := storedBlock_stored (m := m) (k := k) (d := accepted m 0x21 a)
    refine ⟨?_, ?_⟩
    · rw [sameStaging_imageReply.slot, stored, same.slot]
    · rw [counter_imageReply, counted, counter_of_cnt (accepted_cnt ok)]

theorem imageBlock_keeps (m : WaifelMsg) : RunsAt (.imageBlock m) m.t
    (fun a => waifelRuns a = true ∧ accepts m 0x21 a ∧ 5 ≤ m.payload.length ∧ m.payload.length ≤ 1028 ∧
      (transferOf a m.session.toNat = none ∨ m.payload.length ≠ 1028 ∨ bytesToNat (m.payload.take 4) % 1024 ≠ 0 ∨
        m.chestOk = false))
    (fun a d => d.img.a = a.img.a ∧ d.img.b = a.img.b) :=
  runsAt_of (exec_imageBlock m) fun a ⟨runs, ok, long, short, refused⟩ => by
    rw [inSession_accepted runs (formed_block long short) ok]
    rw [← (sameStaging_accepted ok).transfer] at refused
    obtain ⟨code, answer⟩ := imageBlock_refused refused long
    obtain ⟨slotA, slotB, -⟩ := (sameStaging_accepted ok).trans
      (sameStaging_imageReply (off := bytesToNat (m.payload.take 4)) (code := code))
    rw [answer]
    exact ⟨slotA, slotB⟩

/-! ## End (R604, R612) -/

/-- The code that ends a transfer: 0 where the bytes reach the total and pass (R604). -/
def endCode (k : Nat) (d : Dev) : Nat :=
  let img := ((imgSlot d k).blocks.map (·.2)).flatten
  if img.length < (imgSlot d k).total then 0x05 else imageCheck d.part img

theorem endCode_eq_zero (k : Nat) (d : Dev) : endCode k d ≠ 0 ↔
    ((imgSlot d k).blocks.map (·.2)).flatten.length < (imgSlot d k).total ∨
      imageCheck d.part ((imgSlot d k).blocks.map (·.2)).flatten ≠ 0 := by
  simp only [endCode]
  split <;> simp_all

/-- What a staged image's slot says of it (R603, R612). -/
def stagedSlot (img : List Byte) (now : Int) (s : ImgSlot) : ImgSlot :=
  { s with state := .staged, version := imf img 8 4, format := imf img 12 2, stagedS := (ltSplit now).1, stagedNs := (ltSplit now).2.1 }

/-- A slot changed as its session's transfer ends, counted and answered. -/
def endedTransfer (m : WaifelMsg) (id k code : Nat) (c : CName) (f : ImgSlot → ImgSlot) (d : Dev) : Dev :=
  imageReply id m.seq.toNat 0xFFFFFFFF code (count c k (modSlotImg k f (setTransfer id none d)))

section
variable {m : WaifelMsg} {id k code : Nat} {c : CName} {f : ImgSlot → ImgSlot} {d : Dev}

theorem imageEnd_eq (transfer : transferOf d id = some k) (chest : m.chestOk = true) : imageEnd m id d =
    if endCode k d ≠ 0 then endedTransfer m id k (endCode k d) .imgInvalid (fun s => { s with state := .invalid }) d
    else endedTransfer m id k 0x00 .imgStaged
      (stagedSlot ((imgSlot d k).blocks.map (·.2)).flatten (ltNow (setTransfer id none d))) d := by
  rw [imageEnd, transfer]
  dsimp only
  rw [if_neg (by simp [chest])]
  rfl

theorem endedTransfer_slot : imgSlot (endedTransfer m id k code c f d) k = f (imgSlot d k) := by
  rw [endedTransfer, sameStaging_imageReply.slot, imgSlot_count, imgSlot_modSlotImg_same, setTransfer_slots]

theorem endedTransfer_transfer {x : Session} (there : session d id = some x) :
    transferOf (endedTransfer m id k code c f d) id = none := by
  rw [endedTransfer, sameStaging_imageReply.transfer, transferOf_of_session (session_of_img (count_img _ _ _) _),
    transferOf_of_session (session_modSlotImg _), transferOf_setTransfer there]

/-- A transfer ended: the session's transfer is over, and the slot Staged or Invalid (R604, R612). -/
theorem imageEnd_ended {x : Session} (there : session d id = some x) (transfer : transferOf d id = some k)
    (chest : m.chestOk = true) :
    (imgSlot (imageEnd m id d) k).state = (if endCode k d ≠ 0 then .invalid else .staged) ∧
      (imgSlot (imageEnd m id d) k).blocks = (imgSlot d k).blocks ∧ transferOf (imageEnd m id d) id = none := by
  rw [imageEnd_eq transfer chest]
  split
  · exact ⟨by rw [endedTransfer_slot], by rw [endedTransfer_slot], endedTransfer_transfer there⟩
  · refine ⟨?_, ?_, endedTransfer_transfer there⟩ <;> rw [endedTransfer_slot] <;> rfl

end

theorem imageEnd_refused {m : WaifelMsg} {id : Nat} {d : Dev} (refused : transferOf d id = none ∨ m.chestOk = false) :
    ∃ code, imageEnd m id d = imageReply id m.seq.toNat 0xFFFFFFFF code d := by
  rw [imageEnd]
  cases transfer : transferOf d id with
  | none => exact ⟨_, rfl⟩
  | some k =>
    dsimp only
    rw [if_pos (by rcases refused with h | h <;> simp_all)]
    exact ⟨_, rfl⟩

theorem endCode_accepted {m : WaifelMsg} {type : Nat} {a : Dev} (ok : accepts m type a) (k : Nat) :
    endCode k (accepted m type a) = endCode k a := by
  obtain ⟨x, -, e⟩ := accepted_eq ok
  simp only [endCode, (sameStaging_accepted ok).slot]
  rw [e]
  rfl

theorem imageEnd_ends (m : WaifelMsg) (k : Nat) : RunsAt (.imageEnd m) m.t
    (fun a => waifelRuns a = true ∧ accepts m 0x22 a ∧ m.payload = [] ∧ transferOf a m.session.toNat = some k ∧
      m.chestOk = true)
    (fun a d => (imgSlot d k).state = (if ((imgSlot a k).blocks.map (·.2)).flatten.length < (imgSlot a k).total ∨
        imageCheck a.part (((imgSlot a k).blocks.map (·.2)).flatten) ≠ 0 then SlotImage.invalid else .staged) ∧
      (imgSlot d k).blocks = (imgSlot a k).blocks ∧ transferOf d m.session.toNat = none) :=
  runsAt_of (exec_imageEnd m) fun a ⟨runs, ok, plain, transfer, chest⟩ => by
    have same := sameStaging_accepted ok
    obtain ⟨y, there⟩ := session_accepted ok
    rw [inSession_accepted runs (by rw [plain]; rfl) ok]
    obtain ⟨state, blocks, none⟩ := imageEnd_ended there (same.transfer.trans transfer) chest
    refine ⟨?_, ?_, none⟩
    · rw [state, endCode_accepted ok]
      simp only [endCode_eq_zero]
    · rw [blocks, same.slot]

theorem imageEnd_keeps (m : WaifelMsg) : RunsAt (.imageEnd m) m.t
    (fun a => waifelRuns a = true ∧ accepts m 0x22 a ∧ m.payload = [] ∧
      (transferOf a m.session.toNat = none ∨ m.chestOk = false))
    (fun a d => d.img.a = a.img.a ∧ d.img.b = a.img.b ∧ transferOf d m.session.toNat = transferOf a m.session.toNat) :=
  runsAt_of (exec_imageEnd m) fun a ⟨runs, ok, plain, refused⟩ => by
    rw [inSession_accepted runs (by rw [plain]; rfl) ok]
    rw [← (sameStaging_accepted ok).transfer] at refused
    obtain ⟨code, answer⟩ := imageEnd_refused refused
    obtain ⟨slotA, slotB, transfer⟩ := (sameStaging_accepted ok).trans
      (sameStaging_imageReply (off := 0xFFFFFFFF) (code := code))
    rw [answer]
    exact ⟨slotA, slotB, transfer⟩

/-- Settles O55: an image is begun in a free slot, filled block by block, and ends staged or invalid. -/
theorem imageStaging : Obligations.ImageStaging :=
  ⟨imageBegin_begins, imageBegin_keeps, imageBlock_stores, imageBlock_keeps, imageEnd_ends, imageEnd_keeps⟩

end Sys2Proof.Proofs
end

section
/-!
PROOF. The course of an activation (R615 to R621).
-/

namespace Sys2Proof.Proofs

open Sys2Proof Sys2Proof.Machine Sys2Proof.Laws

/-! ## A request from the entries (R615) -/

/-- The request that the entries hold (R615). -/
def askedActivation (d : Dev) : ActRequest :=
  let bs := dictBytes d 0xB010 1 (List.replicate 10 0)
  let secs := bytesToNat (bs.take 6)
  let ns := bytesToNat (bs.drop 6)
  { target := entryAt d 0xB010 2, seconds := secs, ns := ns, waits := pwRunning d,
    boundary := if secs = 0 ∧ ns = 0 then some (d.now + 1) else none }

/-- What refuses the request that the entries hold (R615). -/
def askedRefusal (d : Dev) : Option Nat :=
  let bs := dictBytes d 0xB010 1 (List.replicate 10 0)
  activationRefusal d (entryAt d 0xB010 2) (bytesToNat (bs.take 6)) (bytesToNat (bs.drop 6))

theorem activationAsk_refused {c : Nat} {d : Dev} (h : askedRefusal d = some c) :
    activationAsk d = count .actRefused 0 { d with img := { d.img with reqState := 4, reqCode := c } } := by
  simp only [askedRefusal] at h
  simp only [activationAsk, h]

theorem powerHoldEnd_img (d : Dev) : (powerHoldEnd d).img = d.img := (frame_powerHoldEnd d).1 .img (by decide)

theorem releaseUnits_img (d : Dev) : (releaseUnits d).img = d.img := (frame_releaseUnits d).1 .img (by decide)

theorem pwResult_img (o : PowerOrigin) (r c : Nat) (d : Dev) : (pwResult o r c d).img = d.img :=
  (frame_pwResult o r c d).1 .img (by decide)

theorem powerHoldEnd_prot (d : Dev) : (powerHoldEnd d).prot = d.prot := (frame_powerHoldEnd d).1 .prot (by decide)

theorem releaseUnits_prot (d : Dev) : (releaseUnits d).prot = d.prot := (frame_releaseUnits d).1 .prot (by decide)

theorem pwResult_prot (o : PowerOrigin) (r c : Nat) (d : Dev) : (pwResult o r c d).prot = d.prot :=
  (frame_pwResult o r c d).1 .prot (by decide)

/-- A power request that steps back touches neither the images nor a protection switch. -/
theorem pwYield_pieces (d : Dev) : (pwYield d).img = d.img ∧ (pwYield d).prot = d.prot := by
  simp only [pwYield]
  split
  · split
    · rw [pwResult_img, powerHoldEnd_img, releaseUnits_img, pwResult_prot, powerHoldEnd_prot, releaseUnits_prot]
      exact ⟨rfl, rfl⟩
    · exact ⟨rfl, rfl⟩
  · exact ⟨rfl, rfl⟩

theorem protRuns_of_prot {a b : Dev} (h : b.prot = a.prot) : protRuns b = protRuns a := by simp only [protRuns, h]

/-- Behind a request whose commit point has come the new one is held as the next (R621). -/
theorem activationAsk_behind {q : ActRequest} {d : Dev} (taken : askedRefusal d = none) (there : d.img.request = some q)
    (reached : activationReached d q = true) :
    (activationAsk d).img = { d.img with reqState := 3, next := some (askedActivation d) } := by
  simp only [askedRefusal] at taken
  simp only [activationAsk, taken, there, reached, if_true]
  split <;> simp only [count_img, count_now, there, askedActivation]

theorem activationAsk_taken {d : Dev} (taken : askedRefusal d = none)
    (ahead : d.img.request.all (fun q => !activationReached d q) = true) :
    (activationAsk d).img = { d.img with
      reqState := if pwRunning d || protRuns d then 3 else if d.img.request.isSome then 2 else 1
      request := some (askedActivation d) } := by
  simp only [askedRefusal] at taken
  match there : d.img.request with
  | none =>
    obtain ⟨img, prot⟩ := pwYield_pieces d
    simp only [activationAsk, taken, there, Option.isSome_none, Bool.false_eq_true, if_false, protRuns_of_prot prot, img,
      askedActivation]
  | some q =>
    obtain ⟨img, prot⟩ := pwYield_pieces (count .actReplaced 0 d)
    rw [there] at ahead
    have ahead : activationReached d q = false := by simpa using ahead
    simp only [activationAsk, taken, there, ahead, Option.isSome_some, Bool.false_eq_true, if_true, if_false, img,
      protRuns_of_prot (prot.trans (count_prot ..)), count_img, count_now, askedActivation]

theorem activationRequest_taken (t : Time) (p : Path) : RunsAt (.activationRequest t p) t
    (fun a => secretaryRuns a = true ∧ askedRefusal a = none ∧ a.img.request.all (fun q => !activationReached a q) = true)
    (fun a d => d.img.request.map (fun q => (q.target, q.waits)) = some (entryAt a 0xB010 2, pwRunning a) ∧
      d.img.reqState = (if pwRunning a || protRuns a then 3 else if a.img.request.isSome then 2 else 1) ∧
      d.emitted.head? = some (.result p 0)) :=
  runsAt_command (fun _ => rfl) fun a ⟨taken, ahead⟩ => by
    have img := activationAsk_taken taken ahead
    exact ⟨by rw [show (emit _ (activationAsk a)).img = _ from img]; rfl, congrArg ImgSt.reqState img, rfl⟩

theorem activationRequest_behind (t : Time) (p : Path) (q : ActRequest) : RunsAt (.activationRequest t p) t
    (fun a => secretaryRuns a = true ∧ askedRefusal a = none ∧ a.img.request = some q ∧ activationReached a q = true)
    (fun a d => d.img.request = some q ∧
      d.img.next.map (fun q => (q.target, q.waits)) = some (entryAt a 0xB010 2, pwRunning a) ∧ d.img.reqState = 3 ∧
      d.emitted.head? = some (.result p 0)) :=
  runsAt_command (fun _ => rfl) fun a ⟨taken, there, reached⟩ => by
    have img := activationAsk_behind taken there reached
    exact ⟨(congrArg ImgSt.request img).trans there, by rw [show (emit _ (activationAsk a)).img = _ from img]; rfl,
      congrArg ImgSt.reqState img, rfl⟩

theorem activationRequest_refused (t : Time) (p : Path) (c : Nat) : RunsAt (.activationRequest t p) t
    (fun a => secretaryRuns a = true ∧ askedRefusal a = some c)
    (fun a d => d.img = { a.img with reqState := 4, reqCode := c } ∧
      counter d .actRefused 0 = counter a .actRefused 0 + 1) :=
  runsAt_command (fun _ => rfl) fun a refused => by
    rw [activationAsk_refused refused]
    exact ⟨count_img .., counter_count_same .actRefused 0 _⟩

/-! ## Abort (R621) -/

theorem activationAbort_ahead {q : ActRequest} {d : Dev} (there : d.img.request = some q)
    (ahead : activationReached d q = false) : activationAbort d =
      (0, count .actCancelled 0 { d with img := { d.img with request := none, next := none, reqState := 5 } }) := by
  simp only [activationAbort, there, ahead, Bool.false_eq_true, if_false, activationLost]

theorem activationAbort_reached {q : ActRequest} {d : Dev} (there : d.img.request = some q)
    (reached : activationReached d q = true) :
    activationAbort d = (9, { d with img := { d.img with reqState := 7 } }) := by
  simp only [activationAbort, there, reached, if_true]

theorem activationAbort_cancels (t : Time) (p : Path) (q : ActRequest) : RunsAt (.activationAbort t p) t
    (fun a => secretaryRuns a = true ∧ a.img.request = some q ∧ activationReached a q = false)
    (fun a d => d.img = { a.img with request := none, next := none, reqState := 5 } ∧
      counter d .actCancelled 0 = counter a .actCancelled 0 + 1 ∧ d.emitted.head? = some (.result p 0)) :=
  runsAt_command (fun _ => rfl) fun a ⟨there, ahead⟩ => by
    rw [activationAbort_ahead there ahead]
    exact ⟨count_img .., counter_count_same .actCancelled 0 _, rfl⟩

theorem activationAbort_late (t : Time) (p : Path) (q : ActRequest) : RunsAt (.activationAbort t p) t
    (fun a => secretaryRuns a = true ∧ a.img.request = some q ∧ activationReached a q = true)
    (fun a d => d.img = { a.img with reqState := 7 } ∧ d.emitted.head? = some (.result p 9)) :=
  runsAt_command (fun _ => rfl) fun a ⟨there, reached⟩ => by
    rw [activationAbort_reached there reached]
    exact ⟨rfl, rfl⟩

theorem activationAbort_none (t : Time) (p : Path) : RunsAt (.activationAbort t p) t
    (fun a => secretaryRuns a = true ∧ a.img.request = none)
    (fun a d => d.img = { a.img with reqState := if a.img.reqState = 6 then 7 else a.img.reqState } ∧
      d.emitted.head? = some (.result p 9)) :=
  runsAt_command (fun _ => rfl) fun a there => by
    rw [activationAbort, there]
    by_cases six : a.img.reqState = 6
    · rw [if_pos six, if_pos six]
      exact ⟨rfl, rfl⟩
    · rw [if_neg six, if_neg six]
      exact ⟨rfl, rfl⟩

/-! ## The slot pointer written and gone back on (R616, R620) -/

theorem setHolds_img (f : FsSt → FsSt) (d : Dev) (h : (f d.fs).thermal = d.fs.thermal) : (setHolds f d).img = d.img := by
  simp only [setHolds, h, Bool.and_not_self, Bool.false_eq_true, if_false]
  split
  · rfl
  · rw [raise_img]

theorem imageHold_img (d : Dev) : (imageHold d).img = d.img := setHolds_img _ d rfl

theorem imageHold_fs (d : Dev) : (imageHold d).fs = { d.fs with image := true, imageFrames := 0 } := setHolds_fs rfl

theorem restartPath_fs (p : Path) (d : Dev) : (restartPath p d).fs = d.fs := by
  simp only [restartPath]
  split
  · rfl
  all_goals cases p <;> rfl

theorem restartBegun_fs (cause : Nat) (d : Dev) : (restartBegun cause d).fs = d.fs := by
  simp only [restartBegun, logEvent, count_fs]

/-- A restart of the Secretary leaves the Firescreen (R33). -/
theorem restartCore_fs (cause : Nat) (d : Dev) : (restartCore cause d).fs = d.fs := by
  rw [restartCore_eq]
  simp only [List.foldl_cons, List.foldl_nil, restartPath_fs]
  exact ((holdsClusters_foldl (d := restartBegun cause d) 4 le_rfl).frame.1 .fs (by decide)).trans (restartBegun_fs cause d)

theorem imgSlot_of_img {a b : Dev} (h : b.img = a.img) (k : Nat) : imgSlot b k = imgSlot a k :=
  imgSlot_of_slots (congrArg ImgSt.a h) (congrArg ImgSt.b h) k

theorem modSlotImg_rest (k : Nat) (f : ImgSlot → ImgSlot) (d : Dev) : (modSlotImg k f d).img.ptr = d.img.ptr ∧
    (modSlotImg k f d).img.reqState = d.img.reqState ∧ (modSlotImg k f d).img.next = d.img.next ∧
    (modSlotImg k f d).img.rollbacks = d.img.rollbacks := by
  simp only [modSlotImg]
  split <;> exact ⟨rfl, rfl, rfl, rfl⟩

/-- A hold that leaves the thermal one touches no register but FS_EVENT (R209). -/
theorem reg_setHolds {f : FsSt → FsSt} {d : Dev} (h : (f d.fs).thermal = d.fs.thermal) {r : Reg} {i : Nat}
    (other : r ≠ .fsEvent) (hi : i < (regPlace r).2.2) : reg (setHolds f d) r i = reg d r i := by
  simp only [setHolds, h, Bool.and_not_self, Bool.false_eq_true, if_false]
  split
  · rfl
  · exact reg_raise_ne _ _ _ other (by decide) hi

theorem logEvent_regs (k : LogKind) (v : Nat) (d : Dev) : (logEvent k v d).regs = d.regs := rfl

theorem modSlotImg_regs (k : Nat) (f : ImgSlot → ImgSlot) (d : Dev) : (modSlotImg k f d).regs = d.regs := by
  simp only [modSlotImg]
  split <;> rfl

theorem logEvent_img (k : LogKind) (v : Nat) (d : Dev) : (logEvent k v d).img = d.img := rfl

/-- The commit point of the request: the slots change their places and the slot pointer is written (R616). -/
def committedSlots (q : ActRequest) (d : Dev) : Dev :=
  writePtr q.target (some d.img.ptr.active) true 0
    (modSlotImg q.target (fun s => { s with state := .active })
      (modSlotImg d.img.ptr.active (fun s => { s with state := .previous }) d))

theorem committedSlots_regs (q : ActRequest) (d : Dev) : (committedSlots q d).regs = d.regs :=
  (modSlotImg_regs q.target _ _).trans (modSlotImg_regs d.img.ptr.active _ d)

/-- The activation committed, before the Secretary restarts (R616). -/
def committedActivation (q : ActRequest) (d : Dev) : Dev :=
  let e := committedSlots q d
  imageHold (logEvent .activation q.target (count .actCommitted 0 { e with img := { e.img with
    request := none, reqState := if e.img.reqState = 7 then 7 else if e.img.next.isSome then 3 else 6,
    trialAt := e.now, restored := false, savedUnder := false } }))

theorem activationCommit_eq {q : ActRequest} {d : Dev} (on : pdOn d 3 = true) (there : d.img.request = some q)
    (due : activationDue d q = true) (free : q.waits = false) (still : protRuns d = false) :
    activationCommit d = secretaryRestart 3 (committedActivation q d) := by
  simp only [activationCommit, there]
  rw [if_neg (by simp [on, due]), if_neg (by simp [free, still])]
  rfl

theorem committedSlots_parts (q : ActRequest) (d : Dev) :
    (committedSlots q d).img.ptr = { seq := d.img.ptr.seq + 1, active := q.target, previous := some d.img.ptr.active,
                                     trial := true, starts := 0 } ∧
    (committedSlots q d).img.reqState = d.img.reqState ∧ (committedSlots q d).img.next = d.img.next ∧
    (imgSlot (committedSlots q d) q.target).state = .active := by
  generalize hm : modSlotImg d.img.ptr.active (fun s => { s with state := .previous }) d = m
  obtain ⟨hp, hr, hn, _⟩ := modSlotImg_rest d.img.ptr.active (fun s => { s with state := .previous }) d
  obtain ⟨kp, kr, kn, _⟩ := modSlotImg_rest q.target (fun s => { s with state := .active }) m
  rw [hm] at hp hr hn
  rw [committedSlots, hm, writePtr_ptr, kp, hp]
  exact ⟨rfl, kr.trans hr, kn.trans hn,
    congrArg ImgSlot.state ((imgSlot_of_slots rfl rfl q.target).trans (imgSlot_modSlotImg_same (d := m)))⟩

theorem committedActivation_img (q : ActRequest) (d : Dev) : (committedActivation q d).img =
    { (committedSlots q d).img with request := none, reqState := if d.img.reqState = 7 then 7 else if d.img.next.isSome then 3 else 6,
                                    trialAt := (committedSlots q d).now, restored := false, savedUnder := false } := by
  obtain ⟨_, state, next, _⟩ := committedSlots_parts q d
  simp only [committedActivation, imageHold_img, logEvent_img, count_img, state, next]

theorem pdOn_committedActivation (q : ActRequest) (d : Dev) : pdOn (committedActivation q d) 3 = pdOn d 3 := by
  refine pdOn_of_pwDom (fun i hi => ?_) (by decide)
  rw [committedActivation, imageHold, reg_setHolds rfl (by decide) hi, reg_of_regs (logEvent_regs ..),
    reg_count _ _ _ (by decide) hi]
  exact reg_of_regs (committedSlots_regs q d) .pwDom i

theorem activationCommit_commits (t : Time) (q : ActRequest) : RunsAt (.activationCommit t) t
    (fun a => pdOn a 3 = true ∧ a.img.request = some q ∧ activationDue a q = true ∧ q.waits = false ∧ protRuns a = false)
    (fun a d => d.img.ptr.active = q.target ∧ d.img.ptr.previous = some a.img.ptr.active ∧ d.img.ptr.trial = true ∧
      d.img.ptr.starts = 1 ∧ (imgSlot d q.target).state = .active ∧ d.img.request = none ∧
      d.img.reqState = (if a.img.reqState = 7 then 7 else if a.img.next.isSome then 3 else 6) ∧ d.fs.image = true ∧
      d.sec.restarting = true ∧ d.sec.cause = 3) :=
  runsAt_of (fun _ => rfl) fun a ⟨on, there, due, free, still⟩ => by
    obtain ⟨ptr, _, _, slot⟩ := committedSlots_parts q a
    have img := committedActivation_img q a
    have fs : (committedActivation q a).fs.image = true := by simp only [committedActivation, imageHold_fs]
    have restarted := restartCore_restarted (cause := 3) (by decide) (committedActivation q a)
    have run := activationCommit_eq on there due free still
    rw [secretaryRestart_inTrial ((pdOn_committedActivation q a).trans on) (by simp only [img, ptr])
      (by simp only [img, ptr]; decide) restarted] at run
    simp only [imgSlot_of_img (fsDrive_img activationCommit a), fsDrive_img, fsDrive_fs, fsDrive_sec, run, writePtr_ptr]
    generalize hc : committedActivation q a = c at *
    generalize hr : restartCore 3 c = r at *
    have kept := restarted.img.trans img
    have pointer : c.img.ptr = _ := (congrArg ImgSt.ptr img).trans ptr
    rw [pointer]
    refine ⟨rfl, rfl, trivial, rfl, ?_, congrArg ImgSt.request kept, congrArg ImgSt.reqState kept, ?_, restarted.restarting,
      restarted.cause_eq⟩
    · have same : imgSlot r q.target = imgSlot (committedSlots q a) q.target :=
        imgSlot_of_slots (by rw [kept]) (by rw [kept]) q.target
      exact (congrArg ImgSlot.state same).trans slot
    · rw [← fs, ← restartCore_fs 3 c, hr]
      rfl

/-! ## Confirmation and the trial's end (R619, R620) -/

theorem confirmCmd_confirms {d : Dev} (trial : d.img.ptr.trial = true) (sound : healthy d = true) :
    confirmCmd 1 d = (0, confirmImage d) := if_neg (by simp [trial, sound])

theorem confirmCmd_refused {v : BitVec 8} {d : Dev} (h : v ≠ 1 ∨ d.img.ptr.trial = false ∨ healthy d = false) :
    confirmCmd v.toNat d = (5, d) := by
  refine if_pos ?_
  rcases h with other | trial | ill
  · exact .inl fun e => other (BitVec.eq_of_toNat_eq e)
  · exact .inr (.inl (by simp [trial]))
  · exact .inr (.inr (by simp [ill]))

theorem confirmImage_confirms (d : Dev) : (confirmImage d).img.ptr.trial = false ∧
    (confirmImage d).img.ptr.active = d.img.ptr.active ∧
    counter (confirmImage d) .confirmations 0 = counter d .confirmations 0 + 1 := by
  simp only [confirmImage, count_img, counter_count_same]
  exact ⟨rfl, rfl, rfl⟩

theorem confirm_confirms (t : Time) (p : Path) (v : BitVec 8) : RunsAt (.confirm t p v) t
    (fun a => secretaryRuns a = true ∧ v = 1 ∧ a.img.ptr.trial = true ∧ healthy a = true)
    (fun a d => d.img.ptr.trial = false ∧ d.img.ptr.active = a.img.ptr.active ∧
      counter d .confirmations 0 = counter a .confirmations 0 + 1 ∧ d.emitted.head? = some (.result p 0)) :=
  runsAt_command (fun _ => rfl) fun a ⟨one, trial, sound⟩ => by
    rw [one, show (1 : BitVec 8).toNat = 1 from rfl, confirmCmd_confirms trial sound]
    obtain ⟨ended, active, counted⟩ := confirmImage_confirms a
    exact ⟨ended, active, counted, rfl⟩

theorem confirm_refused (t : Time) (p : Path) (v : BitVec 8) : RunsAt (.confirm t p v) t
    (fun a => secretaryRuns a = true ∧ (v ≠ 1 ∨ a.img.ptr.trial = false ∨ healthy a = false))
    (fun a d => d.img = a.img ∧ d.emitted.head? = some (.result p 5)) :=
  runsAt_command (fun _ => rfl) fun a refused => by
    rw [confirmCmd_refused refused]
    exact ⟨rfl, rfl⟩

theorem autoConfirm_confirms (t : Time) : RunsAt (.autoConfirm t) t
    (fun a => secretaryRuns a = true ∧ a.img.ptr.trial = true ∧ healthy a = true ∧ entryAt a 0xB000 5 = 0)
    (fun a d => d.img.ptr.trial = false ∧ d.img.ptr.active = a.img.ptr.active ∧
      counter d .confirmations 0 = counter a .confirmations 0 + 1) :=
  runsAt_of (fun _ => rfl) fun a ⟨runs, trial, sound, auto⟩ => by
    rw [autoConfirm, if_pos (by simp [runs, trial, sound, auto])]
    exact confirmImage_confirms a

theorem rollbackPtr_parts (cause : Nat) (d : Dev) :
    (rollbackPtr cause d).img.ptr = { seq := d.img.ptr.seq + 1, active := d.img.ptr.previous.getD d.img.ptr.active,
                                      previous := none, trial := false, starts := 0 } ∧
    (rollbackPtr cause d).img.rollbackCause = cause ∧ (rollbackPtr cause d).img.rollbacks = d.img.rollbacks + 1 := by
  simp only [rollbackPtr, logEvent_img, count_img]
  generalize hm : (if d.img.ptr.previous.getD d.img.ptr.active = d.img.ptr.active then d
    else modSlotImg d.img.ptr.active (fun s => { s with state := .staged }) d) = m
  have kept : m.img.ptr = d.img.ptr ∧ m.img.rollbacks = d.img.rollbacks := by
    obtain ⟨hp, _, _, hr⟩ := modSlotImg_rest d.img.ptr.active (fun s => { s with state := .staged }) d
    rw [← hm]
    split
    · exact ⟨rfl, rfl⟩
    · exact ⟨hp, hr⟩
  obtain ⟨kp, _, _, kr⟩ := modSlotImg_rest (d.img.ptr.previous.getD d.img.ptr.active) (fun s => { s with state := .active }) m
  simp only [writePtr, kp, kr, kept.1, kept.2, and_self]

theorem trialTimeout_rollsBack (t : Time) : RunsAt (.trialTimeout t) t
    (fun a => a.img.ptr.trial = true ∧ a.img.trialAt + 600 * Config.sec ≤ a.now)
    (fun a d => d.img.ptr.active = a.img.ptr.previous.getD a.img.ptr.active ∧ d.img.ptr.trial = false ∧
      d.img.ptr.previous = none ∧ d.img.rollbackCause = 1 ∧ d.img.rollbacks = a.img.rollbacks + 1 ∧
      d.sec.restarting = true ∧ d.sec.cause = 3) :=
  runsAt_of (fun _ => rfl) fun a late => by
    obtain ⟨ptr, cause, counted⟩ := rollbackPtr_parts 1 a
    have run : trialTimeout a = restartCore 3 (imageHold (rollbackPtr 1 a)) := if_pos late
    have restarted := restartCore_restarted (cause := 3) (by decide) (imageHold (rollbackPtr 1 a))
    simp only [fsDrive_img, fsDrive_sec, run, restarted.img, imageHold_img, ptr, cause, counted]
    exact ⟨trivial, trivial, trivial, trivial, trivial, restarted.restarting, restarted.cause_eq⟩

/-- Settles O47. -/
theorem activationCourse : Obligations.ActivationCourse :=
  ⟨activationRequest_taken, activationRequest_behind, activationRequest_refused, activationAbort_cancels, activationAbort_late,
    activationAbort_none, activationCommit_commits, confirm_confirms, confirm_refused, autoConfirm_confirms,
    trialTimeout_rollsBack⟩

end Sys2Proof.Proofs

end

section
/-!
PROOF. The transactions of the dictionary's three paths (R510 to R519).
-/

namespace Sys2Proof.Proofs

open Sys2Proof Sys2Proof.Machine Sys2Proof.Laws

/-! ## The count of aborts beside a reply (R507, R510, R511) -/

section
variable {p : Path} {who : Nat × Nat} {bs : List Byte} {id : BitVec 32} {d : Dev} {s : Nat}

theorem dictAborts_drainDown {k : Nat} : counter (drainDown k d) .dictAborts s = counter d .dictAborts s :=
  counter_of_cnt (moves_drainDown.frame.1 .cnt (by decide)) _ _

theorem dictAborts_spill {q : QPkt} (hs : s < 65536) : counter (spill 0 0 q d) .dictAborts s = counter d .dictAborts s := by
  have counted : ∀ {c : CName} {k : Nat} {e : Dev}, cnameIndex .dictAborts ≠ cnameIndex c → k < 65536 →
      counter (count c k e) .dictAborts s = counter e .dictAborts s := fun h hk => counter_count_other h hk hs
  simp only [spill]
  split
  · rw [dictAborts_drainDown, counter_raise, counted (by decide) (by decide)]
  · split
    · exact counted (by decide) (by decide)
    · split
      · rw [dictAborts_drainDown, counter_raise, counted (by decide) (by decide)]
      · split
        · rw [dictAborts_drainDown, counter_raise, counted (by decide) (by decide)]
        · exact counted (by decide) (by decide)

theorem dictAborts_enqueueUp {q : QPkt} (hs : s < 65536) :
    counter (enqueueUp 0 0 q d) .dictAborts s = counter d .dictAborts s := by
  simp only [enqueueUp]
  split
  · exact (counter_countN_other (by decide) (by decide) hs).trans (counter_count_other (by decide) (by decide) hs)
  · exact dictAborts_spill hs

theorem dictAborts_sendUpstream (hs : s < 65536) :
    counter (sendUpstream bs d) .dictAborts s = counter d .dictAborts s := by
  simp only [sendUpstream]
  split
  · rfl
  · exact dictAborts_enqueueUp hs

theorem pathNo_lt (p : Path) : pathNo p < 65536 := by cases p <;> decide

theorem dictAborts_sendOn (hs : s < 65536) : counter (sendOn p who bs d) .dictAborts s = counter d .dictAborts s := by
  have counted : counter (count .dictReplies (pathNo p) d) .dictAborts s = counter d .dictAborts s :=
    counter_count_other (by decide) (pathNo_lt p) hs
  cases p
  case h => exact (dictAborts_sendUpstream hs).trans counted
  case l =>
    simp only [sendOn, counter_raise]
    exact counted
  case s => exact (counter_of_cnt sessionSend_cnt _ _).trans counted

/-! ## A reply sent (R507, R510, R511) -/

/-- From device a to device b a path's transaction, the dictionary and the count of aborts stand, and what left the part stays
listed; the path's stored reply may be another. -/
structure Replied (p : Path) (a b : Dev) : Prop where
  path : ∃ r, pathSt b p = { pathSt a p with reply := r }
  dict : b.dict = a.dict
  aborts : counter b .dictAborts (pathNo p) = counter a .dictAborts (pathNo p)
  emitted : a.emitted ⊆ b.emitted

theorem pathSt_of_dic {a b : Dev} (h : b.dic = a.dic) (p : Path) : pathSt b p = pathSt a p := by
  cases p <;> simp only [pathSt, h]

theorem replied_sendOn : Replied p d (sendOn p who bs d) where
  path := ⟨(pathSt d p).reply, pathSt_of_dic (moves_sendOn.frame.1 .dic (by decide)) p⟩
  dict := moves_sendOn.frame.1 .dict (by decide)
  aborts := dictAborts_sendOn (pathNo_lt p)
  emitted := keepsOutcome_sendOn.emitted

/-- A message sent on a path leaves the part (R507). -/
theorem sent_sendOn : .dictReply p (deliveredOn d p bs) ∈ (sendOn p who bs d).emitted := by
  cases p
  case h => exact keepsOutcome_sendUpstream.emitted List.mem_cons_self
  case l =>
    exact keepsOutcome_raise.emitted List.mem_cons_self
  case s => exact keepsOutcome_sessionSend.emitted List.mem_cons_self

theorem modPath_cnt (f : PathSt → PathSt) : (modPath p f d).cnt = d.cnt := by cases p <;> rfl

theorem modPath_regs (f : PathSt → PathSt) : (modPath p f d).regs = d.regs := by cases p <;> rfl

theorem modPath_dict (f : PathSt → PathSt) : (modPath p f d).dict = d.dict := by cases p <;> rfl

theorem modPath_gen (f : PathSt → PathSt) : (modPath p f d).dic.gen = d.dic.gen := by cases p <;> rfl

theorem deliveredOn_of_regs {a b : Dev} (h : b.regs = a.regs) (p : Path) (bs : List Byte) :
    deliveredOn b p bs = deliveredOn a p bs := by
  cases p <;> simp only [deliveredOn, fld_of_regs h]

/-- The reply stored as the answer to the path's last request (R510). -/
def storedReply (p : Path) (id : BitVec 32) (bs : List Byte) (d : Dev) : Dev :=
  if (pathSt d p).lastId = some id then modPath p (fun x => { x with reply := some bs }) d else d

theorem storedReply_regs : (storedReply p id bs d).regs = d.regs := by
  rw [storedReply]
  split
  · exact modPath_regs _
  · rfl

theorem replied_storedReply : Replied p d (storedReply p id bs d) := by
  rw [storedReply]
  split
  · exact ⟨⟨some bs, pathSt_modPath_same p _ d⟩, modPath_dict _, counter_of_cnt (modPath_cnt _) _ _,
      (modPath_pieces p _ d).2.2 ▸ List.Subset.refl _⟩
  · exact ⟨⟨(pathSt d p).reply, rfl⟩, rfl, rfl, List.Subset.refl _⟩

theorem Replied.after {a b c : Dev} (k : Replied p b c) (h : Replied p a b) : Replied p a c := by
  obtain ⟨r, path⟩ := h.path
  obtain ⟨q, next⟩ := k.path
  exact ⟨⟨q, by rw [next, path]⟩, k.dict.trans h.dict, k.aborts.trans h.aborts, List.Subset.trans h.emitted k.emitted⟩

theorem replied_replyTo : Replied p d (replyTo p who id bs d) := replied_sendOn.after replied_storedReply

theorem sent_replyTo : .dictReply p (deliveredOn d p bs) ∈ (replyTo p who id bs d).emitted := by
  rw [← deliveredOn_of_regs (storedReply_regs (p := p) (id := id) (bs := bs))]
  exact sent_sendOn

theorem replied_replyOn : Replied p d (replyOn p id bs d) := replied_replyTo

theorem sent_replyOn : .dictReply p (deliveredOn d p bs) ∈ (replyOn p id bs d).emitted := sent_replyTo

theorem replied_answerOn {op result : Nat} : Replied p d (answerOn p op result id d) := replied_replyOn

theorem sent_answerOn {op result : Nat} :
    .dictReply p (deliveredOn d p (replyMessage op result 0 id d.dic.gen 0 0 [])) ∈ (answerOn p op result id d).emitted :=
  sent_replyOn

end

/-! ## A request taken by its path (R507, R510, R515) -/

/-- The path of a request that is taken. -/
def takenPath (hd : DictHead) (a : Dev) : PathSt :=
  { pathSt a hd.path with carrier := (hd.session.toNat, hd.seq.toNat), lastAt := a.now, lastId := some hd.reqId, reply := none }

/-- The device as a taken request finds it. -/
structure Taken (hd : DictHead) (a d : Dev) : Prop where
  frame : Frame [.emitted, .regs, .cnt, .host, .img, .dic] [.cnEvent, .cnWrap, .scCfg] a d
  path : pathSt d hd.path = takenPath hd a
  gen : d.dic.gen = a.dic.gen
  aborts : counter d .dictAborts (pathNo hd.path) = counter a .dictAborts (pathNo hd.path)

/-- The device that a request hands to its operation. -/
def takenRequest (hd : DictHead) (bs : List Byte) (d : Dev) : Dev :=
  let d := (carried hd bs d).2
  modPath hd.path (fun x => { x with lastId := some hd.reqId, reply := none })
    (modPath hd.path (fun x => { x with carrier := (hd.session.toNat, hd.seq.toNat), lastAt := d.now }) d)

section
variable {hd : DictHead} {bs : List Byte} {a : Dev}

theorem dictAborts_wfAccept {now : Time} {i type seq ack check s : Nat} (hs : s < 65536) :
    counter (wfAccept now i type seq ack bs check a).2 .dictAborts s = counter a .dictAborts s := by
  have counted : ∀ c, cnameIndex .dictAborts ≠ cnameIndex c → counter (count c 0 a) .dictAborts s = counter a .dictAborts s :=
    fun c h => counter_count_other h (by decide) hs
  simp only [wfAccept]
  split
  · exact counted _ (by decide)
  · split
    · exact counted _ (by decide)
    · split
      · exact counted _ (by decide)
      · split
        · exact counted _ (by decide)
        · rfl

theorem dictAborts_carried {s : Nat} (hs : s < 65536) : counter (carried hd bs a).2 .dictAborts s = counter a .dictAborts s := by
  have counted : ∀ {c : CName} {k : Nat} {e : Dev}, cnameIndex .dictAborts ≠ cnameIndex c → k < 65536 →
      counter (count c k e) .dictAborts s = counter e .dictAborts s := fun h hk => counter_count_other h hk hs
  simp only [carried]
  split
  · exact counted (c := .dictReceived) (k := 1) (by decide) (by decide)
  · split
    · exact (counted (c := .dictCheckFail) (k := 0) (by decide) (by decide)).trans
        (counted (c := .dictReceived) (k := 0) (by decide) (by decide))
    · exact counted (c := .dictReceived) (k := 0) (by decide) (by decide)
  · dsimp only
    split
    · exact (counted (c := .dictReceived) (k := 2) (by decide) (by decide)).trans (dictAborts_wfAccept hs)
    · split
      · split
        · exact (counted (c := .dictCheckFail) (k := 2) (by decide) (by decide)).trans (dictAborts_wfAccept hs)
        · exact dictAborts_wfAccept hs
      · exact dictAborts_wfAccept hs

theorem takenRequest_meets (hd : DictHead) (bs : List Byte) (a : Dev) : Taken hd a (takenRequest hd bs a) := by
  have carry := (moves_carried (hd := hd) (bs := bs) (d := a)).frame
  have frame : Frame [.emitted, .regs, .cnt, .host, .img, .dic] [.cnEvent, .cnWrap, .scCfg] a (takenRequest hd bs a) :=
    (Moves.step moves_modPath (.step moves_modPath (.step moves_carried .refl rfl) rfl) rfl).frame
  have aborts := dictAborts_carried (hd := hd) (bs := bs) (a := a) (pathNo_lt hd.path)
  have now : (carried hd bs a).2.now = a.now := carry.1 .now (by decide)
  have dic : (carried hd bs a).2.dic = a.dic := carry.1 .dic (by decide)
  refine ⟨frame, ?_, ?_, ?_⟩
  all_goals
    rw [takenRequest]
    generalize (carried hd bs a).2 = c at *
  · rw [pathSt_modPath_same, pathSt_modPath_same, pathSt_of_dic dic, now]
    rfl
  · rw [modPath_gen, modPath_gen, dic]
  · rw [counter_of_cnt (modPath_cnt _), counter_of_cnt (modPath_cnt _), aborts]

/-- A new request of a path that is told of no abandon is acted on (R510, R515). -/
theorem newRequest_fresh {p : Path} {op : Nat} {id : BitVec 32} {f : Dev → Dev} {d : Dev}
    (fresh : (pathSt d p).lastId.all (fun l => l != id && !idEarlier id l) = true) (told : (pathSt d p).abandoned = false) :
    newRequest p op id f d = f (modPath p (fun x => { x with lastId := some id, reply := none }) d) := by
  have next : (pathSt (modPath p (fun x => { x with lastId := some id, reply := none }) d) p).abandoned = false := by
    rw [pathSt_modPath_same]
    exact told
  match last : (pathSt d p).lastId with
  | none => simp only [newRequest, last, next, reduceCtorEq, Bool.false_eq_true, if_false]
  | some l =>
    rw [last] at fresh
    obtain ⟨other, later⟩ : l ≠ id ∧ idEarlier id l = false := by simpa using fresh
    simp only [newRequest, last, next, Option.some.injEq, other, later, Bool.false_eq_true, if_false]

theorem request_taken {op : Nat} {f : Dev → Dev} (asked : asks hd bs a = true) (long : 24 ≤ bs.length) :
    request hd op bs false f a = f (takenRequest hd bs a) := by
  simp only [asks, secretaryRuns, waifelRuns, Bool.and_eq_true, Bool.not_eq_true', decide_eq_true_eq] at asked
  obtain ⟨⟨⟨⟨⟨⟨on, still⟩, running⟩, ok⟩, short⟩, told⟩, fresh⟩ := asked
  have sec : (carried hd bs a).2.sec = a.sec := moves_carried.frame.1 .sec (by decide)
  have dic : (carried hd bs a).2.dic = a.dic := moves_carried.frame.1 .dic (by decide)
  rw [request, requestOn, if_neg (by simp [on, running]), if_neg (by omega), takenRequest]
  generalize carried hd bs a = c at *
  obtain ⟨accepted, c⟩ := c
  dsimp only at ok sec dic ⊢
  rw [ok, if_neg (by decide), (modPath_pieces hd.path _ c).1, sec, still, if_neg (by decide)]
  rw [newRequest_fresh]
  · rw [if_neg (by simp; omega)]
  · rw [pathSt_modPath_same, pathSt_of_dic dic]
    exact fresh
  · rw [pathSt_modPath_same, pathSt_of_dic dic]
    exact told

theorem length_natToBytes (n x : Nat) : (natToBytes n x).length = n := by
  induction n generalizing x with
  | zero => rfl
  | succ n ih => simp [natToBytes, ih]

theorem length_requestBytes (op flags records : Nat) (id : BitVec 32) (secs ns : Nat) (body : List Byte) :
    24 ≤ (requestBytes op flags records id secs ns body).length := by
  simp only [requestBytes, dictMessage, List.length_append, length_natToBytes, List.length_cons]
  omega

end

/-- A request of the dictionary, taken by its path, hands its operation the device as the request finds it (R510). -/
theorem runsAt_request {c : Instr} {hd : DictHead} {op flags records secs ns : Nat} {body : List Byte} {f : Dev → Dev}
    {pre : Dev → Prop} {post : Dev → Dev → Prop}
    (e : ∀ s, exec c s = onRequest hd op flags records secs ns body f s) (few : ∀ a, pre a → records ≤ 255)
    (k : ∀ a d, Taken hd a d → pre a → post a (f d)) :
    RunsAt c hd.t (fun a => asks hd (requestBytes op flags records hd.reqId secs ns body) a = true ∧ pre a) post :=
  runsAt_of e fun a ⟨asked, held⟩ => by
    rw [decide_eq_false (Nat.not_lt.2 (few a held)), request_taken asked (length_requestBytes ..)]
    exact k a _ (takenRequest_meets ..) held

theorem Taken.delivered {hd : DictHead} {a d : Dev} (h : Taken hd a d) (p : Path) (bs : List Byte) :
    deliveredOn d p bs = deliveredOn a p bs := by
  cases p <;> simp only [deliveredOn, Frame_fld h.frame (f := fMB_RSP_LEN_LEN) (i := 0) (by decide) (by decide)]

theorem Taken.dict {hd : DictHead} {a d : Dev} (h : Taken hd a d) : d.dict = a.dict := h.frame.1 .dict (by decide)

theorem Taken.now {hd : DictHead} {a d : Dev} (h : Taken hd a d) : d.now = a.now := h.frame.1 .now (by decide)

/-- A taken request is answered: its path's transaction is the one given, the dictionary stands, and the reply has left. -/
structure Answered (hd : DictHead) (bs : List Byte) (x : PathSt) (a e : Dev) : Prop where
  path : ∃ r, pathSt e hd.path = { x with reply := r }
  dict : e.dict = a.dict
  told : e.emitted.contains (.dictReply hd.path (deliveredOn a hd.path bs)) = true

section
variable {hd : DictHead} {a d : Dev}

theorem Taken.answered {bs : List Byte} (h : Taken hd a d) :
    Answered hd bs (takenPath hd a) a (replyOn hd.path hd.reqId bs d) where
  path := by
    obtain ⟨r, path⟩ := (replied_replyOn (p := hd.path) (id := hd.reqId) (bs := bs) (d := d)).path
    exact ⟨r, by rw [path, h.path]⟩
  dict := replied_replyOn.dict.trans h.dict
  told := by
    rw [List.contains_iff_mem, ← h.delivered]
    exact sent_replyOn

/-- A change of the path's transaction before the reply. -/
theorem Taken.answeredAfter {bs : List Byte} {f : PathSt → PathSt} (h : Taken hd a d) :
    Answered hd bs (f (takenPath hd a)) a (replyOn hd.path hd.reqId bs (modPath hd.path f d)) where
  path := by
    obtain ⟨r, path⟩ := (replied_replyOn (p := hd.path) (id := hd.reqId) (bs := bs) (d := modPath hd.path f d)).path
    exact ⟨r, by rw [path, pathSt_modPath_same, h.path]⟩
  dict := replied_replyOn.dict.trans ((modPath_dict f).trans h.dict)
  told := by
    rw [List.contains_iff_mem, ← h.delivered, ← deliveredOn_of_regs (modPath_regs (p := hd.path) (d := d) f)]
    exact sent_replyOn

theorem Taken.ltNow (h : Taken hd a d) : ltNow d = ltNow a := by
  have lc : d.lc = a.lc := h.frame.1 .lc (by decide)
  simp only [Machine.ltNow, lc, h.now, Frame_fld h.frame (f := fLT_SERVO_MAX_SLEW) (i := 0) (by decide) (by decide)]

theorem Taken.refused {op result : Nat} (h : Taken hd a d) :
    Answered hd (replyMessage op result 0 hd.reqId a.dic.gen 0 0 []) (takenPath hd a) a (answerOn hd.path op result hd.reqId d) := by
  rw [answerOn, h.gen]
  exact h.answered

theorem Taken.refusedAfter {op result : Nat} {f : PathSt → PathSt} (h : Taken hd a d) :
    Answered hd (replyMessage op result 0 hd.reqId a.dic.gen 0 0 []) (f (takenPath hd a)) a
      (answerOn hd.path op result hd.reqId (modPath hd.path f d)) := by
  rw [answerOn, modPath_gen, h.gen]
  exact h.answeredAfter

theorem Taken.phase (h : Taken hd a d) {x : TxnPhase} (phase : (pathSt a hd.path).phase = x) : (pathSt d hd.path).phase = x := by
  rw [h.path]
  exact phase

end

/-! ## Write (R517, R518) -/

theorem writeCheck_of_taken {hd : DictHead} {a d : Dev} (h : Taken hd a d) (p : Path) (index sub ty : Nat) (bs : List Byte) :
    writeCheck d p index sub ty bs = writeCheck a p index sub ty bs := by
  have part : d.part = a.part := h.frame.1 .part (by decide)
  simp only [writeCheck, mayWrite, entryBytes, flowPipe, flowField, dictNat, unitAbsent, namesAbsent, part, h.dict]
  rfl

/-- The key of a record's entry. -/
def recordKey (r : WriteRec) : Nat := r.index.toNat * 256 + r.sub.toNat

/-- One record entered where the path has written nothing yet (R518). -/
theorem enterAll_first {d : Dev} {p : Path} {x : PathSt} {r : WriteRec}
    (ok : writeCheck d p r.index.toNat r.sub.toNat r.ty.toNat r.value = 0) (empty : x.writes = []) (bytes : x.bytes = 0)
    (short : r.value.length ≤ 2 ^ 20) :
    enterAll d p x [r] =
      ({ x with writes := [(recordKey r, r.value)], bytes := r.value.length }, [(recordKey r, 0)]) := by
  have fits : ¬ 1048576 < r.value.length := by omega
  simp [enterAll, enterWrite, ok, empty, bytes, recordKey, fits]

/-- A Write outside a transaction. -/
theorem writeOp_single {p : Path} {id : BitVec 32} {r : WriteRec} {d : Dev} (phase : (pathSt d p).phase = .none)
    (ok : writeCheck d p r.index.toNat r.sub.toNat r.ty.toNat r.value = 0) (short : r.value.length ≤ 2 ^ 20) :
    writeOp p id [r] d = modPath p (fun _ => { noTxn (pathSt d p) with
      openGen := d.dic.gen, writes := [(recordKey r, r.value)], bytes := r.value.length, phase := .pending,
      due := some (.boundary d.now), commitId := id, commitCarrier := (pathSt d p).carrier,
      single := some [(recordKey r, 0)], reached := false, muted := false }) d := by
  simp only [writeOp, phase]
  rw [enterAll_first (x := { noTxn (pathSt d p) with openGen := d.dic.gen }) ok rfl rfl short]
  rfl

theorem write_single (hd : DictHead) (r : WriteRec) : RunsAt (.write hd [r]) hd.t
    (fun a => asks hd (requestBytes 2 0 1 hd.reqId 0 0 (writeBody [r])) a = true ∧ (pathSt a hd.path).phase = .none ∧
      writeCheck a hd.path r.index.toNat r.sub.toNat r.ty.toNat r.value = 0 ∧ r.value.length ≤ 2 ^ 20)
    (fun a d => (pathSt d hd.path).phase = .pending ∧ (pathSt d hd.path).due = some (.boundary a.now) ∧
      (pathSt d hd.path).writes = [(recordKey r, r.value)] ∧ (pathSt d hd.path).failed = none ∧
      (pathSt d hd.path).commitId = hd.reqId ∧ (pathSt d hd.path).openGen = a.dic.gen ∧ d.dict = a.dict) :=
  runsAt_request (exec_write hd [r]) (fun _ _ => by decide) fun a d found ⟨phase, ok, short⟩ => by
    rw [writeOp_single (by rw [found.path]; exact phase) ((writeCheck_of_taken found ..).trans ok) short, pathSt_modPath_same,
      found.now, found.gen, modPath_dict]
    exact ⟨rfl, rfl, rfl, rfl, rfl, rfl, found.dict⟩

/-- An open transaction that has entered its first record. -/
def enteredFirst (r : WriteRec) (x : PathSt) : PathSt :=
  { x with writes := [(recordKey r, r.value)], bytes := r.value.length }

theorem modPath_const (p : Path) (f : PathSt → PathSt) (d : Dev) : modPath p (fun _ => f (pathSt d p)) d = modPath p f d := by
  cases p <;> rfl

theorem writeOp_open {p : Path} {id : BitVec 32} {r : WriteRec} {d : Dev} (phase : (pathSt d p).phase = .open_)
    (empty : (pathSt d p).writes = []) (bytes : (pathSt d p).bytes = 0)
    (ok : writeCheck d p r.index.toNat r.sub.toNat r.ty.toNat r.value = 0) (short : r.value.length ≤ 2 ^ 20) :
    writeOp p id [r] d = replyOn p id (replyMessage 2 0 1 id d.dic.gen 0 0 (writeRecord (recordKey r) 0))
      (modPath p (enteredFirst r) d) := by
  rw [writeOp, phase]
  dsimp only
  rw [enterAll_first ok empty bytes short, ← modPath_const p (enteredFirst r)]
  have body : ([(recordKey r, 0)].map (fun o : Nat × Nat => writeRecord o.1 o.2)).flatten = writeRecord (recordKey r) 0 :=
    List.append_nil _
  dsimp only
  rw [body]
  rfl

theorem write_open (hd : DictHead) (r : WriteRec) : RunsAt (.write hd [r]) hd.t
    (fun a => asks hd (requestBytes 2 0 1 hd.reqId 0 0 (writeBody [r])) a = true ∧ (pathSt a hd.path).phase = .open_ ∧
      (pathSt a hd.path).writes = [] ∧ (pathSt a hd.path).bytes = 0 ∧ r.value.length ≤ 2 ^ 20 ∧
      writeCheck a hd.path r.index.toNat r.sub.toNat r.ty.toNat r.value = 0)
    (fun a d => (pathSt d hd.path).phase = .open_ ∧ (pathSt d hd.path).writes = [(recordKey r, r.value)] ∧
      (pathSt d hd.path).bytes = r.value.length ∧ d.dict = a.dict ∧
      d.emitted.contains (.dictReply hd.path (deliveredOn a hd.path
        (replyMessage 2 0 1 hd.reqId a.dic.gen 0 0 (writeRecord (recordKey r) 0)))) = true) :=
  runsAt_request (exec_write hd [r]) (fun _ _ => by decide) fun a d found ⟨phase, empty, bytes, short, ok⟩ => by
    rw [writeOp_open (found.phase phase) (by rw [found.path]; exact empty) (by rw [found.path]; exact bytes)
      ((writeCheck_of_taken found ..).trans ok) short, found.gen]
    obtain ⟨⟨reply, path⟩, dict, told⟩ := found.answeredAfter (f := enteredFirst r)
      (bs := replyMessage 2 0 1 hd.reqId a.dic.gen 0 0 (writeRecord (recordKey r) 0))
    rw [path]
    exact ⟨phase, rfl, rfl, dict, told⟩

theorem write_pending (hd : DictHead) (rs : List WriteRec) : RunsAt (.write hd rs) hd.t
    (fun a => asks hd (requestBytes 2 0 rs.length hd.reqId 0 0 (writeBody rs)) a = true ∧
      (pathSt a hd.path).phase = .pending ∧ rs.length ≤ 255)
    (fun a d => (pathSt d hd.path).phase = .pending ∧ (pathSt d hd.path).writes = (pathSt a hd.path).writes ∧
      d.emitted.contains (.dictReply hd.path (deliveredOn a hd.path
        (replyMessage 2 8 0 hd.reqId a.dic.gen 0 0 []))) = true) :=
  runsAt_request (exec_write hd rs) (fun _ h => h.2) fun a d found ⟨phase, few⟩ => by
    obtain ⟨⟨reply, path⟩, dict, told⟩ := found.refused (op := 2) (result := 8)
    rw [writeOp, found.phase phase, path]
    exact ⟨phase, rfl, told⟩

/-! ## Open and Commit (R515, R519) -/

theorem open_begins (hd : DictHead) : RunsAt (.open_ hd) hd.t
    (fun a => asks hd (requestBytes 3 0 0 hd.reqId 0 0 []) a = true ∧ (pathSt a hd.path).phase = .none)
    (fun a d => (pathSt d hd.path).phase = .open_ ∧ (pathSt d hd.path).openGen = a.dic.gen ∧
      (pathSt d hd.path).writes = [] ∧ (pathSt d hd.path).reads = [] ∧
      d.emitted.contains (.dictReply hd.path (deliveredOn a hd.path
        (replyMessage 3 0 0 hd.reqId a.dic.gen 0 0 []))) = true) :=
  runsAt_request (fun _ => rfl) (fun _ _ => by decide) fun a d found phase => by
    obtain ⟨⟨reply, path⟩, dict, told⟩ := found.refusedAfter (op := 3) (result := 0) (f := fun x => { noTxn x with
        phase := .open_, openGen := d.dic.gen, reached := false, muted := false, commitId := 0 })
    rw [openTxn, if_neg (not_not.2 (found.phase phase)), path]
    exact ⟨rfl, found.gen, rfl, rfl, told⟩

theorem open_refused (hd : DictHead) : RunsAt (.open_ hd) hd.t
    (fun a => asks hd (requestBytes 3 0 0 hd.reqId 0 0 []) a = true ∧ (pathSt a hd.path).phase ≠ .none)
    (fun a d => (pathSt d hd.path).phase = (pathSt a hd.path).phase ∧
      (pathSt d hd.path).writes = (pathSt a hd.path).writes ∧
      d.emitted.contains (.dictReply hd.path (deliveredOn a hd.path
        (replyMessage 3 8 0 hd.reqId a.dic.gen 0 0 []))) = true) :=
  runsAt_request (fun _ => rfl) (fun _ _ => by decide) fun a d found phase => by
    obtain ⟨⟨reply, path⟩, dict, told⟩ := found.refused (op := 3) (result := 8)
    rw [openTxn, if_pos (by rw [found.phase rfl]; exact phase), path]
    exact ⟨rfl, rfl, told⟩

/-- The transaction that a Commit takes to its boundary (R519). -/
def committing (id : BitVec 32) (due : CommitAt) (x : PathSt) : PathSt :=
  { x with phase := .pending, due := some due, commitId := id, commitCarrier := x.carrier, reached := false }

theorem commitOp_boundary {p : Path} {id : BitVec 32} {d : Dev} (phase : (pathSt d p).phase = .open_) :
    commitOp p id none d = replyOn p id (replyMessage 4 0 0 id d.dic.gen 0 0 [])
      (modPath p (committing id (.boundary (d.now + 100 * Config.us))) d) := by
  rw [commitOp, phase]
  rfl

theorem commitOp_scheduled {p : Path} {id : BitVec 32} {t : TimeVal} {d : Dev} (phase : (pathSt d p).phase = .open_)
    (due : timeRefused t d = 0) :
    commitOp p id (some t) d = replyOn p id (replyMessage 4 0 0 id d.dic.gen t.seconds.toNat t.ns.toNat [])
      (modPath p (committing id (.scheduled t.seconds t.ns.toNat)) d) := by
  rw [commitOp, phase]
  exact if_neg (not_not.2 due)

theorem commitOp_refused {p : Path} {id : BitVec 32} {t : Option TimeVal} {d : Dev} (phase : (pathSt d p).phase ≠ .open_) :
    commitOp p id t d = answerOn p 4 (if (pathSt d p).phase = .none then 10 else 8) id d := by
  match held : (pathSt d p).phase with
  | .none => simp only [commitOp, held, if_true]
  | .open_ => exact absurd held phase
  | .pending => simp only [commitOp, held, reduceCtorEq, if_false]

theorem commit_boundary (hd : DictHead) : RunsAt (.commit hd none) hd.t
    (fun a => asks hd (requestBytes 4 0 0 hd.reqId 0 0 []) a = true ∧ (pathSt a hd.path).phase = .open_)
    (fun a d => (pathSt d hd.path).phase = .pending ∧
      (pathSt d hd.path).due = some (.boundary (a.now + 100 * Config.us)) ∧ (pathSt d hd.path).commitId = hd.reqId ∧
      (pathSt d hd.path).writes = (pathSt a hd.path).writes ∧
      d.emitted.contains (.dictReply hd.path (deliveredOn a hd.path
        (replyMessage 4 0 0 hd.reqId a.dic.gen 0 0 []))) = true) :=
  runsAt_request (exec_commit hd none) (fun _ _ => by decide) fun a d found phase => by
    rw [commitOp_boundary (found.phase phase), found.gen, found.now]
    obtain ⟨⟨reply, path⟩, dict, told⟩ := found.answeredAfter (bs := replyMessage 4 0 0 hd.reqId a.dic.gen 0 0 [])
      (f := committing hd.reqId (.boundary (a.now + 100 * Config.us)))
    rw [path]
    exact ⟨rfl, rfl, rfl, rfl, told⟩

theorem commit_scheduled (hd : DictHead) (x : TimeVal) : RunsAt (.commit hd (some x)) hd.t
    (fun a => asks hd (requestBytes 4 1 0 hd.reqId x.seconds.toNat x.ns.toNat []) a = true ∧
      (pathSt a hd.path).phase = .open_ ∧ timeRefused x a = 0)
    (fun a d => (pathSt d hd.path).phase = .pending ∧ (pathSt d hd.path).due = some (.scheduled x.seconds x.ns.toNat) ∧
      d.emitted.contains (.dictReply hd.path (deliveredOn a hd.path
        (replyMessage 4 0 0 hd.reqId a.dic.gen x.seconds.toNat x.ns.toNat []))) = true) :=
  runsAt_request (exec_commit hd (some x)) (fun _ _ => by decide) fun a d found ⟨phase, due⟩ => by
    have lc : d.lc = a.lc := found.frame.1 .lc (by decide)
    have same : timeRefused x d = timeRefused x a := by simp only [timeRefused, found.ltNow, lc]
    rw [commitOp_scheduled (found.phase phase) (same.trans due), found.gen]
    obtain ⟨⟨reply, path⟩, dict, told⟩ := found.answeredAfter
      (bs := replyMessage 4 0 0 hd.reqId a.dic.gen x.seconds.toNat x.ns.toNat [])
      (f := committing hd.reqId (.scheduled x.seconds x.ns.toNat))
    rw [path]
    exact ⟨rfl, rfl, told⟩

theorem commit_refused (hd : DictHead) : RunsAt (.commit hd none) hd.t
    (fun a => asks hd (requestBytes 4 0 0 hd.reqId 0 0 []) a = true ∧ (pathSt a hd.path).phase ≠ .open_)
    (fun a d => (pathSt d hd.path).phase = (pathSt a hd.path).phase ∧
      d.emitted.contains (.dictReply hd.path (deliveredOn a hd.path
        (replyMessage 4 (if (pathSt a hd.path).phase = .none then 10 else 8) 0 hd.reqId a.dic.gen 0 0 []))) = true) :=
  runsAt_request (exec_commit hd none) (fun _ _ => by decide) fun a d found phase => by
    rw [commitOp_refused (by rw [found.phase rfl]; exact phase), found.phase rfl]
    obtain ⟨⟨reply, path⟩, dict, told⟩ := found.refused (op := 4) (result := if (pathSt a hd.path).phase = .none then 10 else 8)
    rw [path]
    exact ⟨rfl, told⟩

/-! ## Abort (R25, R515) -/

theorem abortOp_reached {p : Path} {id : BitVec 32} {d : Dev} (phase : (pathSt d p).phase = .pending)
    (reached : pointReached d (pathSt d p) = true) : abortOp p id d = answerOn p 5 9 id d := by
  rw [abortOp, phase]
  exact if_pos reached

theorem abortOp_cancels {p : Path} {id : BitVec 32} {d : Dev} (phase : (pathSt d p).phase = .pending)
    (ahead : pointReached d (pathSt d p) = false) :
    abortOp p id d = cancelTxn p 8 (answerOn p 5 0 id (count .dictAborts (pathNo p) d)) := by
  rw [abortOp, phase]
  exact if_neg (by simp [ahead])

theorem abortOp_open {p : Path} {id : BitVec 32} {d : Dev} (phase : (pathSt d p).phase = .open_) :
    abortOp p id d = answerOn p 5 0 id (modPath p noTxn (count .dictAborts (pathNo p) d)) := by
  rw [abortOp, phase]

theorem abortOp_none {p : Path} {id : BitVec 32} {d : Dev} (phase : (pathSt d p).phase = .none) :
    abortOp p id d = answerOn p 5 (if (pathSt d p).reached then 9 else 10) id d := by
  rw [abortOp, phase]

section
variable {hd : DictHead} {a d : Dev}

/-- The count of an Abort leaves the device as the request found it, but for that count. -/
structure Counted (hd : DictHead) (a d : Dev) : Prop where
  path : pathSt d hd.path = takenPath hd a
  dict : d.dict = a.dict
  gen : d.dic.gen = a.dic.gen
  delivered : ∀ bs, deliveredOn d hd.path bs = deliveredOn a hd.path bs
  aborts : counter d .dictAborts (pathNo hd.path) = counter a .dictAborts (pathNo hd.path) + 1

theorem Taken.counted (h : Taken hd a d) : Counted hd a (count .dictAborts (pathNo hd.path) d) where
  path := (pathSt_of_dic (count_dic ..) _).trans h.path
  dict := (count_dict ..).trans h.dict
  gen := by rw [count_dic, h.gen]
  delivered bs := by
    have same : deliveredOn (count .dictAborts (pathNo hd.path) d) hd.path bs = deliveredOn d hd.path bs := by
      cases hd.path <;> simp only [deliveredOn, fld_count (f := fMB_RSP_LEN_LEN) (i := 0) _ _ _ (by decide) (by decide)]
    exact same.trans (h.delivered ..)
  aborts := by rw [counter_count_same, h.aborts]

theorem abort_open (hd : DictHead) : RunsAt (.abort hd) hd.t
    (fun a => asks hd (requestBytes 5 0 0 hd.reqId 0 0 []) a = true ∧ (pathSt a hd.path).phase = .open_)
    (fun a d => (pathSt d hd.path).phase = .none ∧ (pathSt d hd.path).writes = [] ∧ d.dict = a.dict ∧
      counter d .dictAborts (pathNo hd.path) = counter a .dictAborts (pathNo hd.path) + 1 ∧
      d.emitted.contains (.dictReply hd.path (deliveredOn a hd.path
        (replyMessage 5 0 0 hd.reqId a.dic.gen 0 0 []))) = true) :=
  runsAt_request (exec_abort hd) (fun _ _ => by decide) fun a d found phase => by
    obtain ⟨path, dict, gen, delivered, aborts⟩ := found.counted
    rw [abortOp_open (found.phase phase), answerOn, modPath_gen, gen]
    generalize count .dictAborts (pathNo hd.path) d = c at *
    obtain ⟨⟨reply, next⟩, kept, number, -⟩ := replied_replyOn (p := hd.path) (id := hd.reqId)
      (bs := replyMessage 5 0 0 hd.reqId a.dic.gen 0 0 []) (d := modPath hd.path noTxn c)
    rw [next, pathSt_modPath_same, kept, modPath_dict, number, counter_of_cnt (modPath_cnt _), aborts, List.contains_iff_mem,
      ← delivered, ← deliveredOn_of_regs (modPath_regs (p := hd.path) (d := c) noTxn)]
    exact ⟨rfl, rfl, dict, rfl, sent_replyOn⟩

theorem Taken.pointReached (h : Taken hd a d) : pointReached d (pathSt d hd.path) = pointReached a (pathSt a hd.path) := by
  have trib : d.trib = a.trib := h.frame.1 .trib (by decide)
  have due : (pathSt d hd.path).due = (pathSt a hd.path).due := by rw [h.path]; rfl
  simp only [Machine.pointReached, boundarySince, h.ltNow, trib, due]

theorem abort_reached (hd : DictHead) : RunsAt (.abort hd) hd.t
    (fun a => asks hd (requestBytes 5 0 0 hd.reqId 0 0 []) a = true ∧ (pathSt a hd.path).phase = .pending ∧
      Machine.pointReached a (pathSt a hd.path) = true)
    (fun a d => (pathSt d hd.path).phase = .pending ∧ (pathSt d hd.path).writes = (pathSt a hd.path).writes ∧
      d.dict = a.dict ∧ d.emitted.contains (.dictReply hd.path (deliveredOn a hd.path
        (replyMessage 5 9 0 hd.reqId a.dic.gen 0 0 []))) = true) :=
  runsAt_request (exec_abort hd) (fun _ _ => by decide) fun a d found ⟨phase, reached⟩ => by
    rw [abortOp_reached (found.phase phase) (found.pointReached.trans reached)]
    obtain ⟨⟨reply, path⟩, dict, told⟩ := found.refused (op := 5) (result := 9)
    rw [path]
    exact ⟨phase, rfl, dict, told⟩

theorem abort_none (hd : DictHead) : RunsAt (.abort hd) hd.t
    (fun a => asks hd (requestBytes 5 0 0 hd.reqId 0 0 []) a = true ∧ (pathSt a hd.path).phase = .none)
    (fun a d => (pathSt d hd.path).phase = .none ∧ d.emitted.contains (.dictReply hd.path (deliveredOn a hd.path
        (replyMessage 5 (if (pathSt a hd.path).reached then 9 else 10) 0 hd.reqId a.dic.gen 0 0 []))) = true) :=
  runsAt_request (exec_abort hd) (fun _ _ => by decide) fun a d found phase => by
    have reached : (pathSt d hd.path).reached = (pathSt a hd.path).reached := by rw [found.path]; rfl
    rw [abortOp_none (found.phase phase), reached]
    obtain ⟨⟨reply, path⟩, dict, told⟩ := found.refused (op := 5) (result := if (pathSt a hd.path).reached then 9 else 10)
    rw [path]
    exact ⟨phase, told⟩

/-- The outcome told leaves the path's transaction and notes the outcome (R517, R521). -/
theorem tellOutcome_path {p : Path} {id : BitVec 32} {code key : Nat} {single : Option (List (Nat × Nat))} {d : Dev} :
    ∃ o r, pathSt (tellOutcome p id code key single d) p = { pathSt d p with outcome := o, reply := r } ∧ o.state = 3 := by
  have noted : ∀ o, pathSt (modPath p (fun x => { x with outcome := o }) d) p = { pathSt d p with outcome := o } :=
    fun o => pathSt_modPath_same ..
  have kept : ∀ {o : Outcome} {e : Dev}, o.state = 3 → Replied p (modPath p (fun x => { x with outcome := o }) d) e →
      ∃ o r, pathSt e p = { pathSt d p with outcome := o, reply := r } ∧ o.state = 3 := fun {o e} state h => by
    obtain ⟨r, path⟩ := h.path
    exact ⟨o, r, by rw [path, noted], state⟩
  have still : ∀ {e : Dev}, Replied p e e := ⟨⟨_, rfl⟩, rfl, rfl, List.Subset.refl _⟩
  simp only [tellOutcome]
  split
  · split
    · exact kept rfl still
    · exact kept rfl replied_replyTo
  · split
    · refine kept (e := raise fMB_EVENT_OUTCOME 0 _) rfl ⟨⟨_, pathSt_of_dic (raise_dic ..) _⟩, raise_dict .., counter_raise ..,
        keepsOutcome_raise.emitted⟩
    · exact kept rfl replied_sendOn

theorem abort_cancels (hd : DictHead) : RunsAt (.abort hd) hd.t
    (fun a => asks hd (requestBytes 5 0 0 hd.reqId 0 0 []) a = true ∧ (pathSt a hd.path).phase = .pending ∧
      Machine.pointReached a (pathSt a hd.path) = false)
    (fun a d => (pathSt d hd.path).phase = .none ∧ (pathSt d hd.path).writes = [] ∧
      (pathSt d hd.path).outcome.state = 3 ∧ d.dict = a.dict ∧
      d.emitted.contains (.dictReply hd.path (deliveredOn a hd.path
        (replyMessage 5 0 0 hd.reqId a.dic.gen 0 0 []))) = true) :=
  runsAt_request (exec_abort hd) (fun _ _ => by decide) fun a d found ⟨phase, ahead⟩ => by
    obtain ⟨-, dict, gen, delivered, -⟩ := found.counted
    rw [abortOp_cancels (found.phase phase) (found.pointReached.trans ahead), answerOn, gen]
    generalize count .dictAborts (pathNo hd.path) d = c at *
    have sent := sent_replyOn (p := hd.path) (id := hd.reqId) (bs := replyMessage 5 0 0 hd.reqId a.dic.gen 0 0 []) (d := c)
    have answered := replied_replyOn (p := hd.path) (id := hd.reqId) (bs := replyMessage 5 0 0 hd.reqId a.dic.gen 0 0 []) (d := c)
    generalize replyOn hd.path hd.reqId (replyMessage 5 0 0 hd.reqId a.dic.gen 0 0 []) c = e at *
    rw [cancelTxn]
    obtain ⟨o, r, path, state⟩ := tellOutcome_path (p := hd.path) (id := (pathSt e hd.path).commitId)
      (code := if (pathSt e hd.path).single.isSome then 8 else 0) (key := 0) (single := (pathSt e hd.path).single)
      (d := modPath hd.path noTxn e)
    refine ⟨by rw [path, pathSt_modPath_same]; rfl, by rw [path, pathSt_modPath_same]; rfl, by rw [path]; exact state, ?_, ?_⟩
    · exact (moves_tellOutcome.frame.1 .dict (by decide)).trans ((modPath_dict _).trans (answered.dict.trans dict))
    · rw [List.contains_iff_mem, ← delivered]
      exact keepsOutcome_tellOutcome.emitted (by rw [(modPath_pieces ..).2.2]; exact sent)

/-! ## Query (R513, R514) -/

theorem queryOp_open {p : Path} {id : BitVec 32} {d : Dev} (phase : (pathSt d p).phase = .open_) :
    queryOp p id d = replyOn p id (replyMessage 6 0 1 id d.dic.gen 0 0 (outcomeRecord 0 1 0 0)) d := by
  rw [queryOp, phase]

theorem queryOp_pending {p : Path} {id : BitVec 32} {d : Dev} (phase : (pathSt d p).phase = .pending) :
    queryOp p id d =
      replyOn p id (replyMessage 6 0 1 id d.dic.gen 0 0 (outcomeRecord (pathSt d p).commitId 2 0 0)) d := by
  rw [queryOp, phase]

theorem query_open (hd : DictHead) : RunsAt (.query hd) hd.t
    (fun a => asks hd (requestBytes 6 0 0 hd.reqId 0 0 []) a = true ∧ (pathSt a hd.path).phase = .open_)
    (fun a d => (pathSt d hd.path).phase = .open_ ∧ d.emitted.contains (.dictReply hd.path (deliveredOn a hd.path
        (replyMessage 6 0 1 hd.reqId a.dic.gen 0 0 (outcomeRecord 0 1 0 0)))) = true) :=
  runsAt_request (exec_query hd) (fun _ _ => by decide) fun a d found phase => by
    rw [queryOp_open (found.phase phase), found.gen]
    obtain ⟨⟨reply, path⟩, dict, told⟩ := found.answered
      (bs := replyMessage 6 0 1 hd.reqId a.dic.gen 0 0 (outcomeRecord 0 1 0 0))
    rw [path]
    exact ⟨phase, told⟩

theorem query_pending (hd : DictHead) : RunsAt (.query hd) hd.t
    (fun a => asks hd (requestBytes 6 0 0 hd.reqId 0 0 []) a = true ∧ (pathSt a hd.path).phase = .pending)
    (fun a d => (pathSt d hd.path).phase = .pending ∧ d.emitted.contains (.dictReply hd.path (deliveredOn a hd.path
        (replyMessage 6 0 1 hd.reqId a.dic.gen 0 0 (outcomeRecord (pathSt a hd.path).commitId 2 0 0)))) = true) :=
  runsAt_request (exec_query hd) (fun _ _ => by decide) fun a d found phase => by
    have commitId : (pathSt d hd.path).commitId = (pathSt a hd.path).commitId := by rw [found.path]; rfl
    rw [queryOp_pending (found.phase phase), found.gen, commitId]
    obtain ⟨⟨reply, path⟩, dict, told⟩ := found.answered
      (bs := replyMessage 6 0 1 hd.reqId a.dic.gen 0 0 (outcomeRecord (pathSt a hd.path).commitId 2 0 0))
    rw [path]
    exact ⟨phase, told⟩

end

/-- Settles O42. -/
theorem writeAndTransactions : Obligations.WriteAndTransactions :=
  ⟨write_single, write_open, write_pending, open_begins, open_refused, commit_boundary, commit_scheduled, commit_refused,
    abort_open, abort_reached, abort_cancels, abort_none, query_open, query_pending⟩

end Sys2Proof.Proofs

end

section
/-!
PROOF. The Bench's tasks: what completions, trace items and ends of tasks leave (R533 to R543).
-/

namespace Sys2Proof.Proofs

open Sys2Proof Sys2Proof.Machine Sys2Proof.Laws

/-! ## Completions and trace items (R536, R542, R543) -/

/-- Tasks, cores, clusters and the next place among the Ready, as the Secretary's state holds them. -/
def benchState (x : SecSt) : List (Nat × Machine.Task) × List (Nat × Core) × List (Nat × Cluster) × Nat :=
  (x.tasks, x.cores, x.clusters, x.nextOrder)

/-- The counters of an item for a drawer (R487). -/
def itemCounters : List CName := [.drwDropped, .drwPosted]

/-- From device a to device b tasks, cores and clusters stand, counters other than those of a drawer's items stand, and what left
the part stays listed. -/
structure KeepsBench (a b : Dev) : Prop where
  bench : benchState b.sec = benchState a.sec
  counts : ∀ c k, (∀ x ∈ itemCounters, cnameIndex c ≠ cnameIndex x) → k < 65536 → counter b c k = counter a c k
  emitted : a.emitted ⊆ b.emitted

section
variable {a b c d : Dev}

theorem KeepsBench.refl : KeepsBench d d := ⟨rfl, fun _ _ _ _ => rfl, List.Subset.refl _⟩

/-- A last step joined to those before it, found from the device that it leads to. -/
theorem KeepsBench.after (k : KeepsBench b c) (h : KeepsBench a b) : KeepsBench a c :=
  ⟨k.bench.trans h.bench, fun n s apart hs => (k.counts n s apart hs).trans (h.counts n s apart hs),
    List.Subset.trans h.emitted k.emitted⟩

theorem KeepsBench.ite {p : Prop} [Decidable p] (h : KeepsBench a b) (k : KeepsBench a c) : KeepsBench a (if p then b else c) := by
  split
  · exact h
  · exact k

theorem KeepsBench.foldl {β : Type} {f : Dev → β → Dev} (h : ∀ d x, KeepsBench d (f d x)) :
    ∀ (l : List β) (d : Dev), KeepsBench d (l.foldl f d)
  | [], _ => .refl
  | x :: l, d => (KeepsBench.foldl h l (f d x)).after (h d x)

theorem keepsBench_host {x : HostSt} : KeepsBench d { d with host := x } := ⟨rfl, fun _ _ _ _ => rfl, List.Subset.refl _⟩

theorem keepsBench_sec {x : SecSt} (h : benchState x = benchState d.sec) : KeepsBench d { d with sec := x } :=
  ⟨h, fun _ _ _ _ => rfl, List.Subset.refl _⟩

theorem keepsBench_emit {e : Emission} : KeepsBench d (emit e d) := ⟨rfl, fun _ _ _ _ => rfl, List.subset_cons_self _ _⟩

theorem keepsBench_signal {v : Nat} : KeepsBench d (signal v d) := by
  simp only [signal]
  exact .ite keepsBench_emit (.ite .refl keepsBench_host)

theorem keepsBench_raise {f : Fld} {i : Nat} : KeepsBench d (raise f i d) :=
  ⟨by rw [raise_sec], fun _ _ _ _ => counter_raise .., keepsOutcome_raise.emitted⟩

theorem keepsBench_modRing {n : Nat} {f : RingIx → RingIx} : KeepsBench d (modRing n f d) := keepsBench_host

theorem keepsBench_benchVectors : KeepsBench d (benchVectors d) := by
  simp only [benchVectors]
  exact .after (.foldl (fun _ _ => keepsBench_signal) _ _) (keepsBench_sec rfl)

theorem keepsBench_writeBack {n : Nat} : KeepsBench d (writeBack n d) := by
  have shown : KeepsBench d
      (if reg (modRing n (fun r => { r with wbCount := 0, wbSince := none }) d) (ringWbReg n).1 (ringWbReg n).2 = 0
        then modRing n (fun r => { r with wbCount := 0, wbSince := none }) d
        else emit (.ringIndex n (ring d n).devIx) (modRing n (fun r => { r with wbCount := 0, wbSince := none }) d)) :=
    .ite keepsBench_modRing (keepsBench_emit.after keepsBench_modRing)
  simp only [writeBack]
  split
  · exact keepsBench_signal.after shown
  · exact .ite (keepsBench_benchVectors.after shown) shown

theorem keepsBench_ringStep {n : Nat} : KeepsBench d (ringStep n d) := by
  have line : KeepsBench d (readLine n d) := by
    simp only [readLine]
    exact .ite keepsBench_host .refl
  simp only [ringStep]
  exact .ite (keepsBench_writeBack.after (keepsBench_modRing.after line)) (keepsBench_modRing.after line)

theorem keepsBench_benchFlush_loop : ∀ {n : Nat} {d : Dev}, KeepsBench d (benchFlush.loop n d)
  | 0, _ => .refl
  | n + 1, d => by
    simp only [benchFlush.loop]
    split
    · exact .refl
    · exact .ite (keepsBench_benchFlush_loop.after (keepsBench_ringStep.after (keepsBench_emit.after (keepsBench_sec rfl)))) .refl

theorem keepsBench_postCompletion {status core h vec : Nat} {result : Word} {tag : BitVec 32} :
    KeepsBench d (postCompletion status core h vec result tag d) := by
  simp only [postCompletion, benchFlush]
  exact keepsBench_benchFlush_loop.after (keepsBench_sec rfl)

theorem keepsBench_levelCheck {n : Nat} : KeepsBench d (levelCheck n d) := by
  simp only [levelCheck]
  exact .ite .refl (.ite keepsBench_host (.ite (.ite keepsBench_host (keepsBench_signal.after keepsBench_host)) .refl))

theorem keepsBench_countItem {x : CName} {n : Nat} (item : x ∈ itemCounters) (hn : n < 65536) : KeepsBench d (count x n d) :=
  ⟨by rw [count_sec], fun c k apart hk => counter_count_other (apart x item) hn hk, keepsOutcome_count.emitted⟩

theorem keepsBench_post {n : Nat} {item : List Word} (hn : n < 65536) : KeepsBench d (post n item d) := by
  simp only [post]
  exact .ite (keepsBench_countItem (by decide) hn)
    (keepsBench_levelCheck.after ((keepsBench_countItem (by decide) hn).after keepsBench_host))

theorem keepsBench_traceItem {reason core h ty context : Nat} : KeepsBench d (traceItem reason core h ty context d) :=
  keepsBench_post (by decide)

/-! ### What stands reads the same -/

theorem KeepsBench.tasks (h : KeepsBench a b) : b.sec.tasks = a.sec.tasks := congrArg (·.1) h.bench

theorem KeepsBench.nextOrder (h : KeepsBench a b) : b.sec.nextOrder = a.sec.nextOrder := congrArg (·.2.2.2) h.bench

theorem KeepsBench.task (h : KeepsBench a b) (k : Nat) : task b k = task a k := by simp only [Machine.task, h.tasks]

theorem KeepsBench.cores (h : KeepsBench a b) : b.sec.cores = a.sec.cores := congrArg (·.2.1) h.bench

theorem KeepsBench.clusters (h : KeepsBench a b) : b.sec.clusters = a.sec.clusters := congrArg (·.2.2.1) h.bench

theorem KeepsBench.core (h : KeepsBench a b) (k : Nat) : Machine.core b k = Machine.core a k := by
  simp only [Machine.core, h.cores]

theorem KeepsBench.cluster (h : KeepsBench a b) (k : Nat) : cluster b k = cluster a k :=
  cluster_of_clusters h.clusters k

end

/-! ## Tasks set and ended -/

section
variable {d : Dev} {h j k : Nat} {x : Machine.Task}

@[simp] theorem task_setTask_same : task (setTask h x d) h = some x := aget_aput_same _ _ _

theorem task_setTask_ne (other : j ≠ h) : task (setTask h x d) j = task d j := aget_aput_ne _ _ other

theorem setTask_cnt : (setTask h x d).cnt = d.cnt := rfl

theorem setTask_now : (setTask h x d).now = d.now := rfl

theorem setTask_nextOrder : (setTask h x d).sec.nextOrder = d.sec.nextOrder := rfl

theorem makeReady_cnt : (makeReady h x d).cnt = d.cnt := rfl

@[simp] theorem task_makeReady_same :
    task (makeReady h x d) h = some { x with state := .ready, dep := 0, readyAt := d.now, order := d.sec.nextOrder } :=
  aget_aput_same _ _ _

theorem task_makeReady_ne (other : j ≠ h) : task (makeReady h x d) j = task d j := aget_aput_ne _ _ other

@[simp] theorem core_modCore_same (f : Core → Core) : Machine.core (modCore k f d) k = f (Machine.core d k) := agetD_aputD_same _ _ _ _

theorem task_modCore (f : Core → Core) : task (modCore k f d) j = task d j := rfl

/-- A task taken from the live ones. -/
def dropTask (h : Nat) (d : Dev) : Dev := { d with sec := { d.sec with tasks := adel d.sec.tasks h } }

@[simp] theorem task_dropTask_same : task (dropTask h d) h = none := aget_adel_same _ _

theorem task_dropTask_ne (other : j ≠ h) : task (dropTask h d) j = task d j := aget_adel_ne _ other

end

/-! ## The end of one task (R534 to R536) -/

/-- An ended task's handle is free, and an end by cancel is counted (R535). -/
def freeTask (e : TaskEnd) (d : Dev) : Dev :=
  if e.status = 2 then count .tasksCancelled 0 (dropTask e.handle d) else dropTask e.handle d

/-- What follows once the successors of an ended task have been told: the handle is free, and the end is told to the host and
traced. -/
def closeTask (e : TaskEnd) (x : Machine.Task) (d : Dev) : Dev :=
  let d := freeTask e d
  let d := if firmwareTask x then d else postCompletion e.status e.core e.handle x.vec e.result x.tag d
  traceItem (if e.status = 1 then 5 else if e.status = 2 then 6 else 4) e.core e.handle x.ty x.context d

section
variable {d : Dev} {e : TaskEnd} {x : Machine.Task}

theorem endTask_alone (there : task d e.handle = some x) (alone : x.succs = []) :
    endTask e d = ([], closeTask e x d) := by
  simp only [endTask, there, alone, List.foldl_nil]
  rfl

theorem endTask_one {j : Nat} (there : task d e.handle = some x) (one : x.succs = [j]) :
    endTask e d = ((onSuccessor (e.status == 0 || x.cont) j d).1,
      closeTask e x (onSuccessor (e.status == 0 || x.cont) j d).2) := by
  simp only [endTask, there, one, List.foldl_cons, List.foldl_nil, List.nil_append]
  rfl

/-- A task whose end names no other end. -/
theorem finish_of_endTask {c : Dev} (last : endTask e d = ([], c)) : finish e d = c := by
  rw [finish, show (20480 : Nat) = 20479 + 1 from rfl, endTasks, last]
  exact endTasks.eq_2 ..

theorem freeTask_sec : (freeTask e d).sec = (dropTask e.handle d).sec := by
  rw [freeTask]
  split
  · exact count_sec ..
  · rfl

theorem keepsBench_closeTask : KeepsBench (freeTask e d) (closeTask e x d) := by
  simp only [closeTask]
  exact keepsBench_traceItem.after (.ite .refl keepsBench_postCompletion)

theorem task_closeTask_same : task (closeTask e x d) e.handle = none := by
  rw [keepsBench_closeTask.task, task, freeTask_sec]
  exact task_dropTask_same

theorem task_closeTask_ne {j : Nat} (other : j ≠ e.handle) : task (closeTask e x d) j = task d j := by
  rw [keepsBench_closeTask.task, task, freeTask_sec]
  exact task_dropTask_ne other

theorem core_closeTask (k : Nat) : Machine.core (closeTask e x d) k = Machine.core d k := by
  rw [keepsBench_closeTask.core, Machine.core, freeTask_sec]
  rfl

theorem cluster_closeTask (k : Nat) : cluster (closeTask e x d) k = cluster d k := by
  rw [keepsBench_closeTask.cluster, cluster, freeTask_sec]
  rfl

theorem freeTask_emitted : d.emitted ⊆ (freeTask e d).emitted := by
  rw [freeTask]
  split
  · exact (keepsOutcome_count (d := dropTask e.handle d)).emitted
  · exact List.Subset.refl _

theorem closeTask_emitted : d.emitted ⊆ (closeTask e x d).emitted :=
  List.Subset.trans freeTask_emitted keepsBench_closeTask.emitted

/-- A cancel is counted. -/
theorem counter_closeTask_cancelled (cancel : e.status = 2) :
    counter (closeTask e x d) .tasksCancelled 0 = counter d .tasksCancelled 0 + 1 := by
  rw [keepsBench_closeTask.counts _ _ (by decide) (by decide), freeTask, if_pos cancel, counter_count_same]
  rfl

/-- The end of a task leaves any count but those of cancels and of a drawer's items. -/
theorem counter_closeTask {c : CName} {k : Nat} (apart : ∀ y ∈ CName.tasksCancelled :: itemCounters, cnameIndex c ≠ cnameIndex y)
    (hk : k < 65536) : counter (closeTask e x d) c k = counter d c k := by
  rw [keepsBench_closeTask.counts _ _ (fun y item => apart y (List.mem_cons_of_mem _ item)) hk, freeTask]
  split
  · exact counter_count_other (apart _ List.mem_cons_self) (by decide) hk
  · rfl

/-- A task without successors ends by itself (R535). -/
theorem finish_alone (there : task d e.handle = some x) (alone : x.succs = []) : finish e d = closeTask e x d :=
  finish_of_endTask (endTask_alone there alone)

end

end Sys2Proof.Proofs

end

section
/-!
PROOF. Tasks submitted, and dispatched to the core that their affinity names (R532 to R540).
-/

namespace Sys2Proof.Proofs

open Sys2Proof Sys2Proof.Machine Sys2Proof.Laws

/-! ## A descriptor from the ring (R533, R534) -/

section
variable (x : TaskDesc)

/-- The handle that a descriptor names. -/
def submitHandle : Nat := bitsOf x.w0.toNat 23 12

/-- The successors that a descriptor names. -/
def submitSuccs : List Nat :=
  ([bitsOf x.w1.toNat 47 36, bitsOf x.w1.toNat 35 24, bitsOf x.w1.toNat 23 12, bitsOf x.w1.toNat 11 0]).take
    (bitsOf x.w3.toNat 35 33)

/-- The task of a descriptor, as it is created. -/
def submitTask : Machine.Task :=
  newTask (bitsOf x.w0.toNat 47 40) (bitsOf x.w0.toNat 39 24) (bitsOf x.w0.toNat 11 0) (submitSuccs x) (x.w3.toNat.testBit 36)
    x.w2 (bitsOf x.w3.toNat 47 37) (BitVec.ofNat 32 (bitsOf x.w3.toNat 31 0))

/-- The Bench takes a descriptor that the host has put into the ring. -/
def takesDescriptor (a : Dev) : Prop :=
  takesWork a 3 = true ∧ hostPort a = true ∧ ringEnabled a 260 = true ∧ (ring a 260).hostIx ≠ (ring a 260).devIx

/-- Nothing refuses a descriptor. -/
def goodDescriptor (a : Dev) : Prop :=
  task a (submitHandle x) = none ∧ hostHandle a (submitHandle x) = true ∧ publishedType (bitsOf x.w0.toNat 47 40) = true ∧
    bitsOf x.w3.toNat 35 33 ≤ 4 ∧ (submitSuccs x).all (hostHandle a) = true ∧ bitsOf x.w3.toNat 47 37 ≤ 1879

/-- The device with an accepted descriptor's task, counted. -/
def acceptedTask (a : Dev) : Dev :=
  count .tasksAccepted 0 (setTask (submitHandle x) (submitTask x) (ringStep 260 a))

/-- The device with a refused descriptor, counted, flagged and told. -/
def refusedTask (a : Dev) : Dev :=
  traceItem 7 0 (submitHandle x) (bitsOf x.w0.toNat 47 40) (bitsOf x.w0.toNat 39 24)
    (postCompletion 3 0 (submitHandle x) (bitsOf x.w3.toNat 47 37) 0 (BitVec.ofNat 32 (bitsOf x.w3.toNat 31 0))
      (raise fBN_EVENT_REFUSED 0 (count .tasksRefused 0 (ringStep 260 a))))

end

section
variable {x : TaskDesc} {a : Dev}

theorem hostHandle_of_regs {b : Dev} (h : b.regs = a.regs) (k : Nat) : hostHandle b k = hostHandle a k := by
  simp only [hostHandle, fld_of_regs h]

theorem hostHandle_ringStep {n : Nat} (k : Nat) : hostHandle (ringStep n a) k = hostHandle a k :=
  hostHandle_of_regs (moves_ringStep.frame.1 .regs (by decide)) k

theorem taskSubmit_accepted (takes : takesDescriptor a) (good : goodDescriptor x a) : taskSubmit x a =
    if 0 < bitsOf x.w0.toNat 11 0 then acceptedTask x a
    else if bitsOf x.w0.toNat 47 40 = 0x40 then
      finish ⟨submitHandle x, 0, 0, 0⟩ (makeReady (submitHandle x) (submitTask x) (acceptedTask x a))
    else makeReady (submitHandle x) (submitTask x) (acceptedTask x a) := by
  obtain ⟨work, port, enabled, held⟩ := takes
  obtain ⟨free, owned, published, few, successors, vector⟩ := good
  have refused : ((task (ringStep 260 a) (submitHandle x)).isSome || !hostHandle (ringStep 260 a) (submitHandle x) ||
      !publishedType (bitsOf x.w0.toNat 47 40) || (submitSuccs x).any (fun k => !hostHandle (ringStep 260 a) k) ||
      decide (4 < bitsOf x.w3.toNat 35 33) || decide (1879 < bitsOf x.w3.toNat 47 37)) = false := by
    simp only [keepsBench_ringStep.task, free, hostHandle_ringStep, owned, published]
    simp only [List.all_eq_true] at successors
    simp only [Option.isSome_none, Bool.not_true, Bool.or_self, Bool.or_eq_false_iff, List.any_eq_false, Bool.not_eq_true',
      decide_eq_false_iff_not, Nat.not_lt, Bool.not_eq_false, Bool.false_or]
    exact ⟨⟨successors, few⟩, vector⟩
  rw [taskSubmit, if_neg (by simp [work, port, enabled, held])]
  exact if_neg (Bool.eq_false_iff.1 refused)

/-- A descriptor whose handle is live or not the host's, or of a type that is not published, is refused. -/
theorem taskSubmit_refused (takes : takesDescriptor a) (refused : (task a (submitHandle x)).isSome = true ∨
    hostHandle a (submitHandle x) = false ∨ publishedType (bitsOf x.w0.toNat 47 40) = false) :
    taskSubmit x a = refusedTask x a := by
  obtain ⟨work, port, enabled, held⟩ := takes
  have refused : ((task (ringStep 260 a) (submitHandle x)).isSome || !hostHandle (ringStep 260 a) (submitHandle x) ||
      !publishedType (bitsOf x.w0.toNat 47 40) || (submitSuccs x).any (fun k => !hostHandle (ringStep 260 a) k) ||
      decide (4 < bitsOf x.w3.toNat 35 33) || decide (1879 < bitsOf x.w3.toNat 47 37)) = true := by
    simp only [keepsBench_ringStep.task, hostHandle_ringStep]
    rcases refused with live | foreign | unknown
    · simp only [live, Bool.true_or]
    · simp only [foreign, Bool.not_false, Bool.or_true, Bool.true_or]
    · simp only [unknown, Bool.not_false, Bool.or_true, Bool.true_or]
  rw [taskSubmit, if_neg (by simp [work, port, enabled, held])]
  exact if_pos refused

theorem acceptedTask_tasks : task (acceptedTask x a) (submitHandle x) = some (submitTask x) := by
  simp only [acceptedTask, task, count_sec]
  exact task_setTask_same

theorem counter_acceptedTask : counter (acceptedTask x a) .tasksAccepted 0 = counter a .tasksAccepted 0 + 1 := by
  rw [acceptedTask, counter_count_same, counter_of_cnt setTask_cnt, keepsBench_ringStep.counts _ _ (by decide) (by decide)]

theorem acceptedTask_now : (acceptedTask x a).now = a.now := by
  rw [acceptedTask, count_now, setTask_now, moves_ringStep.frame.1 .now (by decide)]

theorem acceptedTask_nextOrder : (acceptedTask x a).sec.nextOrder = a.sec.nextOrder := by
  rw [acceptedTask, count_sec, setTask_nextOrder, keepsBench_ringStep.nextOrder]

theorem taskSubmit_waits (x : TaskDesc) : RunsAt (.taskSubmit x) x.t
    (fun a => takesDescriptor a ∧ goodDescriptor x a ∧ 0 < bitsOf x.w0.toNat 11 0)
    (fun a d => task d (submitHandle x) = some (submitTask x) ∧
      counter d .tasksAccepted 0 = counter a .tasksAccepted 0 + 1) :=
  runsAt_of (fun _ => rfl) fun a ⟨takes, good, waits⟩ => by
    rw [taskSubmit_accepted takes good, if_pos waits]
    exact ⟨acceptedTask_tasks, counter_acceptedTask⟩

theorem taskSubmit_ready (x : TaskDesc) : RunsAt (.taskSubmit x) x.t
    (fun a => takesDescriptor a ∧ goodDescriptor x a ∧ bitsOf x.w0.toNat 11 0 = 0 ∧ bitsOf x.w0.toNat 47 40 ≠ 0x40)
    (fun a d => task d (submitHandle x) = some { submitTask x with
        state := .ready, dep := 0, readyAt := a.now, order := a.sec.nextOrder } ∧
      counter d .tasksAccepted 0 = counter a .tasksAccepted 0 + 1) :=
  runsAt_of (fun _ => rfl) fun a ⟨takes, good, free, other⟩ => by
    rw [taskSubmit_accepted takes good, if_neg (by omega), if_neg other, task_makeReady_same, acceptedTask_now,
      acceptedTask_nextOrder, counter_of_cnt makeReady_cnt]
    exact ⟨rfl, counter_acceptedTask⟩

theorem taskSubmit_join (x : TaskDesc) : RunsAt (.taskSubmit x) x.t
    (fun a => takesDescriptor a ∧ goodDescriptor x a ∧ bitsOf x.w0.toNat 11 0 = 0 ∧ bitsOf x.w0.toNat 47 40 = 0x40 ∧
      bitsOf x.w3.toNat 35 33 = 0)
    (fun a d => task d (submitHandle x) = none ∧ counter d .tasksAccepted 0 = counter a .tasksAccepted 0 + 1) :=
  runsAt_of (fun _ => rfl) fun a ⟨takes, good, free, join, alone⟩ => by
    have succs : (submitTask x).succs = [] := by
      simp only [submitTask, newTask, submitSuccs, alone, List.take_zero]
    rw [taskSubmit_accepted takes good, if_neg (by omega), if_pos join, finish_alone task_makeReady_same succs]
    refine ⟨task_closeTask_same, ?_⟩
    rw [counter_closeTask (by decide) (by decide), counter_of_cnt makeReady_cnt, counter_acceptedTask]

theorem taskSubmit_refuses (x : TaskDesc) : RunsAt (.taskSubmit x) x.t
    (fun a => takesDescriptor a ∧ ((task a (submitHandle x)).isSome = true ∨ hostHandle a (submitHandle x) = false ∨
      publishedType (bitsOf x.w0.toNat 47 40) = false))
    (fun a d => d.sec.tasks = a.sec.tasks ∧ counter d .tasksRefused 0 = counter a .tasksRefused 0 + 1 ∧
      fld d fBN_EVENT_REFUSED 0 = 1) :=
  runsAt_of (fun _ => rfl) fun a ⟨takes, refused⟩ => by
    rw [taskSubmit_refused takes refused, refusedTask]
    have stepped : KeepsBench a (ringStep 260 a) := keepsBench_ringStep
    generalize ringStep 260 a = s at *
    have told : KeepsBench (raise fBN_EVENT_REFUSED 0 (count .tasksRefused 0 s)) _ :=
      (keepsBench_traceItem (reason := 7) (core := 0) (h := submitHandle x) (ty := bitsOf x.w0.toNat 47 40)
        (context := bitsOf x.w0.toNat 39 24)).after (keepsBench_postCompletion (status := 3) (core := 0)
          (h := submitHandle x) (vec := bitsOf x.w3.toNat 47 37) (result := 0)
          (tag := BitVec.ofNat 32 (bitsOf x.w3.toNat 31 0)))
    refine ⟨?_, ?_, ?_⟩
    · rw [told.tasks, raise_sec, count_sec, stepped.tasks]
    · rw [told.counts _ _ (by decide) (by decide), counter_raise, counter_count_same,
        stepped.counts _ _ (by decide) (by decide)]
    · rw [Frame_fld moves_traceItem.frame (by decide) (by decide), Frame_fld moves_postCompletion.frame (by decide) (by decide)]
      exact fld_raise_same _ _ _ (by decide) (by decide)

end

/-! ## What firmware takes (R485, R527) -/

/-- From device a to device b the cores, the clusters and the registers stand. -/
structure KeepsCores (a b : Dev) : Prop where
  frame : Frame [.freeCtr, .sec, .host, .emitted] [] a b
  cores : b.sec.cores = a.sec.cores
  clusters : b.sec.clusters = a.sec.clusters

section
variable {a b c d : Dev}

theorem KeepsCores.refl : KeepsCores a a := ⟨Frame_refl _ _ _, rfl, rfl⟩

theorem KeepsCores.after (k : KeepsCores b c) (h : KeepsCores a b) : KeepsCores a c :=
  ⟨Frame_step h.frame k.frame, k.cores.trans h.cores, k.clusters.trans h.clusters⟩

theorem keepsCores_firmwareReady {h : Nat} {item : List Word} : KeepsCores d (firmwareReady h item d) :=
  ⟨Frame_mono moves_firmwareReady.frame (by decide) (by decide), rfl, rfl⟩

theorem keepsCores_takeItem {n : Nat} {w : Drawer} : KeepsCores d (levelCheck n (setDrawer n w d)) where
  frame := by
    have placed : Frame [.host] [] d (setDrawer n w d) := ⟨only_setDrawer n w d, KeepRegs_of_eq rfl⟩
    exact Frame_mono (Frame_trans placed (moves_levelCheck (n := n) (d := setDrawer n w d)).frame) (by decide) (by decide)
  cores := by rw [keepsBench_levelCheck.cores, setDrawer_sec]
  clusters := by rw [keepsBench_levelCheck.clusters, setDrawer_sec]

theorem keepsCores_firmwareTakes {n k : Nat} : KeepsCores d (firmwareTakes n k d) := by
  induction k generalizing d with
  | zero => exact KeepsCores.refl (a := d)
  | succ k ih =>
    unfold firmwareTakes
    split
    · refine ih.after (.after keepsCores_firmwareReady ?_)
      exact keepsCores_takeItem
    · exact .refl

theorem keepsCores_firmwareWork : KeepsCores d (firmwareWork d) := by
  have takes : ∀ (d : Dev) (n : Nat),
      KeepsCores d (if consumer d n = 2 then firmwareTakes n (drawer d n).items.length d else d) := fun d n => by
    split
    · exact keepsCores_firmwareTakes
    · exact .refl
  simp only [firmwareWork, List.foldl_cons, List.foldl_nil]
  split
  · exact .refl
  · exact (takes _ 2).after ((takes _ 1).after (takes d 0))

theorem KeepsCores.core (h : KeepsCores a b) (k : Nat) : Machine.core b k = Machine.core a k := by
  simp only [Machine.core, h.cores]

theorem KeepsCores.regs (h : KeepsCores a b) : b.regs = a.regs := h.frame.1 .regs (by decide)

theorem KeepsCores.takesWork (h : KeepsCores a b) (n : Nat) : Machine.takesWork b n = Machine.takesWork a n := by
  have pwr : b.pwr = a.pwr := h.frame.1 .pwr (by decide)
  simp only [Machine.takesWork, pdOn, pdState, reg_of_regs h.regs, pwr]

theorem KeepsCores.idleCores (h : KeepsCores a b) : Machine.idleCores b = Machine.idleCores a := by
  simp only [Machine.idleCores, clusterUp, cluster_of_clusters h.clusters, h.core, pdOn, pdState, reg_of_regs h.regs]

theorem KeepsCores.busyCores (h : KeepsCores a b) : Machine.busyCores b = Machine.busyCores a := by
  simp only [Machine.busyCores, h.core]

end

/-! ## Dispatch (R540) -/

/-- The idle cores that may run a task. -/
def openCores (x : Machine.Task) (d : Dev) : List Nat :=
  (idleCores d).filter (fun k => !firmwareTask x || Config.imageTaskAllowed x.ty (k / 4))

/-- A core's last task was of the type and the context of this one. -/
def affineTo (x : Machine.Task) (d : Dev) (k : Nat) : Bool :=
  (Machine.core d k).lastType == x.ty && (Machine.core d k).lastContext == x.context

section
variable {h k reason : Nat} {x : Machine.Task} {d : Dev}

theorem dispatchOne_affine (affine : (openCores x d).find? (affineTo x d) = some k) : dispatchOne h x d = runTask h x k 0 d := by
  have e : (idleCores d).filter (fun k => !firmwareTask x || Config.imageTaskAllowed x.ty (k / 4)) = openCores x d := rfl
  rw [dispatchOne, e]
  generalize openCores x d = l at *
  cases l with
  | nil => exact absurd affine (by simp)
  | cons first rest =>
    have f : (first :: rest).find? (fun k => (Machine.core d k).lastType == x.ty && (Machine.core d k).lastContext == x.context) =
      some k := affine
    simp only [f]

/-- Without an affine idle core the lowest that may run the task runs it, unless an affine one is busy within the window. -/
theorem dispatchOne_lowest (unmet : (openCores x d).find? (affineTo x d) = none) (first : (openCores x d).head? = some k)
    (late : (busyCores d).any (affineTo x d) = false ∨ fld d fBN_CTRL_AFFINITY_WINDOW 0 * Config.ns ≤ d.now - x.readyAt) :
    dispatchOne h x d = runTask h x k
      (if fld d fBN_CTRL_AFFINITY_WINDOW 0 * Config.ns ≤ d.now - x.readyAt then 1 else 2) d := by
  have e : (idleCores d).filter (fun k => !firmwareTask x || Config.imageTaskAllowed x.ty (k / 4)) = openCores x d := rfl
  rw [dispatchOne, e]
  generalize openCores x d = l at *
  cases l with
  | nil => exact absurd first (by simp)
  | cons head rest =>
    have f : (head :: rest).find? (fun k => (Machine.core d k).lastType == x.ty && (Machine.core d k).lastContext == x.context) =
      none := unmet
    obtain rfl : head = k := by simpa using first
    simp only [f]
    rw [if_neg]
    · split <;> rfl
    · rintro ⟨busy, early⟩
      rcases late with idle | late
      · exact absurd (busy.symm.trans idle) (by decide)
      · exact absurd early (Nat.not_lt.2 late)

theorem dispatchOne_stays (unmet : (openCores x d).find? (affineTo x d) = none) (busy : (busyCores d).any (affineTo x d) = true)
    (early : d.now - x.readyAt < fld d fBN_CTRL_AFFINITY_WINDOW 0 * Config.ns) : dispatchOne h x d = d := by
  have e : (idleCores d).filter (fun k => !firmwareTask x || Config.imageTaskAllowed x.ty (k / 4)) = openCores x d := rfl
  rw [dispatchOne, e]
  generalize openCores x d = l at *
  cases l with
  | nil => rfl
  | cons head rest =>
    have f : (head :: rest).find? (fun k => (Machine.core d k).lastType == x.ty && (Machine.core d k).lastContext == x.context) =
      none := unmet
    simp only [f]
    exact if_pos ⟨busy, early⟩

/-- The counter of a dispatch by its reason. -/
def dispatchCounter (reason : Nat) : CName :=
  if reason = 0 then .taskAffine else if reason = 1 then .taskWindow else if reason = 2 then .taskNoAffine else .taskRedispatched

/-- A task that runs on a core, before its dispatch is counted and shown. -/
def started (h : Nat) (x : Machine.Task) (k : Nat) (d : Dev) : Dev :=
  modCore k (fun _ => { lastType := x.ty, lastContext := x.context, busy := some h })
    (setTask h { x with state := .running, startedAt := d.now } d)

theorem runTask_eq (h : Nat) (x : Machine.Task) (k reason : Nat) (d : Dev) : runTask h x k reason d =
    traceItem (if x.redispatched then 3 else reason) k h x.ty x.context (emit (.task k h [x.arg])
      (count (dispatchCounter (if x.redispatched then 3 else reason)) k (started h x k d))) := rfl

/-- What the dispatch of a task to a core leaves (R540, R542). -/
structure Dispatched (h : Nat) (x : Machine.Task) (k : Nat) (a d : Dev) : Prop where
  busy : (Machine.core d k).busy = some h
  lastType : (Machine.core d k).lastType = x.ty
  running : task d h = some { x with state := .running, startedAt := a.now }
  shown : d.emitted.contains (.task k h [x.arg]) = true

theorem dispatched_runTask : Dispatched h x k d (runTask h x k reason d) := by
  rw [runTask_eq]
  generalize (if x.redispatched then 3 else reason) = r
  have traced : KeepsBench (emit (.task k h [x.arg]) (count (dispatchCounter r) k (started h x k d)))
      (traceItem r k h x.ty x.context (emit (.task k h [x.arg]) (count (dispatchCounter r) k (started h x k d)))) :=
    keepsBench_traceItem
  have sec : (emit (.task k h [x.arg]) (count (dispatchCounter r) k (started h x k d))).sec = (started h x k d).sec := count_sec ..
  have ran : Machine.core (started h x k d) k = { lastType := x.ty, lastContext := x.context, busy := some h } :=
    core_modCore_same _
  refine ⟨?_, ?_, ?_, ?_⟩
  · rw [traced.core, Machine.core, sec]
    exact congrArg Core.busy ran
  · rw [traced.core, Machine.core, sec]
    exact congrArg Core.lastType ran
  · rw [traced.task, task, sec]
    exact task_setTask_same
  · rw [List.contains_iff_mem]
    exact traced.emitted List.mem_cons_self

/-- A dispatch after the window is counted as one (R540). -/
theorem counter_runTask_window (hk : k < 65536) (first : x.redispatched = false) :
    counter (runTask h x k 1 d) .taskWindow k = counter d .taskWindow k + 1 := by
  rw [runTask_eq, first, keepsBench_traceItem.counts _ _ (by decide) hk]
  exact counter_count_same .taskWindow k (started h x k d)

theorem dispatchReady_one (work : takesWork d 3 = true) (one : readyTasks d = [(h, x)]) :
    dispatchReady d = dispatchOne h x d := by
  rw [dispatchReady, if_neg (by simp [work]), one]
  rfl

end

section
variable {a : Dev} {h : Nat} {x : Machine.Task}

theorem dispatchAll_one (work : takesWork a 3 = true) (one : readyTasks (firmwareWork a) = [(h, x)]) :
    dispatchAll a = dispatchOne h x (firmwareWork a) := by
  rw [dispatchAll, if_neg (by simp [work]), dispatchReady_one ((keepsCores_firmwareWork.takesWork 3).trans work) one]

theorem openCores_firmwareWork : openCores x (firmwareWork a) = openCores x a := by
  simp only [openCores, keepsCores_firmwareWork.idleCores]

theorem affineTo_firmwareWork : affineTo x (firmwareWork a) = affineTo x a := by
  funext k
  simp only [affineTo, keepsCores_firmwareWork.core]

theorem firmwareWork_now : (firmwareWork a).now = a.now := keepsCores_firmwareWork.frame.1 .now (by decide)

theorem window_firmwareWork : fld (firmwareWork a) fBN_CTRL_AFFINITY_WINDOW 0 = fld a fBN_CTRL_AFFINITY_WINDOW 0 :=
  fld_of_regs keepsCores_firmwareWork.regs _ _

end

theorem taskDispatch_affine (t : Time) (h : Nat) (x : Machine.Task) (k : Nat) : RunsAt (.taskDispatch t) t
    (fun a => takesWork a 3 = true ∧ readyTasks (firmwareWork a) = [(h, x)] ∧ (openCores x a).find? (affineTo x a) = some k)
    (fun a d => (Machine.core d k).busy = some h ∧ (Machine.core d k).lastType = x.ty ∧
      task d h = some { x with state := .running, startedAt := a.now } ∧ d.emitted.contains (.task k h [x.arg]) = true) :=
  runsAt_of (fun _ => rfl) fun a ⟨work, one, affine⟩ => by
    rw [dispatchAll_one work one, dispatchOne_affine (k := k) (by rw [openCores_firmwareWork, affineTo_firmwareWork, affine]),
      ← firmwareWork_now (a := a)]
    obtain ⟨busy, last, running, shown⟩ := dispatched_runTask (h := h) (x := x) (k := k) (reason := 0) (d := firmwareWork a)
    exact ⟨busy, last, running, shown⟩

theorem taskDispatch_lowest (t : Time) (h : Nat) (x : Machine.Task) (k : Nat) : RunsAt (.taskDispatch t) t
    (fun a => takesWork a 3 = true ∧ readyTasks (firmwareWork a) = [(h, x)] ∧ (openCores x a).find? (affineTo x a) = none ∧
      (busyCores a).any (affineTo x a) = false ∧ (openCores x a).head? = some k)
    (fun a d => (Machine.core d k).busy = some h ∧ (Machine.core d k).lastType = x.ty ∧
      task d h = some { x with state := .running, startedAt := a.now } ∧ d.emitted.contains (.task k h [x.arg]) = true) :=
  runsAt_of (fun _ => rfl) fun a ⟨work, one, unmet, idle, first⟩ => by
    rw [dispatchAll_one work one, dispatchOne_lowest (k := k) (by rw [openCores_firmwareWork, affineTo_firmwareWork, unmet])
      (by rw [openCores_firmwareWork, first])
      (.inl (by rw [keepsCores_firmwareWork.busyCores, affineTo_firmwareWork, idle])), ← firmwareWork_now (a := a)]
    obtain ⟨busy, last, running, shown⟩ := dispatched_runTask (h := h) (x := x) (k := k) (d := firmwareWork a)
    exact ⟨busy, last, running, shown⟩

theorem taskDispatch_stays (t : Time) (h : Nat) (x : Machine.Task) : RunsAt (.taskDispatch t) t
    (fun a => takesWork a 3 = true ∧ readyTasks (firmwareWork a) = [(h, x)] ∧ (openCores x a).find? (affineTo x a) = none ∧
      (busyCores a).any (affineTo x a) = true ∧ a.now - x.readyAt < fld a fBN_CTRL_AFFINITY_WINDOW 0 * Config.ns)
    (fun a d => d.sec = (firmwareWork a).sec) :=
  runsAt_of (fun _ => rfl) fun a ⟨work, one, unmet, busy, early⟩ => by
    rw [dispatchAll_one work one, dispatchOne_stays (by rw [openCores_firmwareWork, affineTo_firmwareWork, unmet])
      (by rw [keepsCores_firmwareWork.busyCores, affineTo_firmwareWork, busy])
      (by rw [firmwareWork_now, window_firmwareWork]; exact early)]

theorem affinityExpiry_runs (t : Time) (h : BitVec 12) (x : Machine.Task) (k : Nat) : RunsAt (.affinityWindowExpiry t h) t
    (fun a => pdOn a 3 = true ∧ task a h.toNat = some x ∧ x.state = .ready ∧ x.redispatched = false ∧
      x.readyAt + fld a fBN_CTRL_AFFINITY_WINDOW 0 * Config.ns ≤ a.now ∧ (openCores x a).find? (affineTo x a) = none ∧
      (openCores x a).head? = some k)
    (fun a d => (Machine.core d k).busy = some h.toNat ∧ (Machine.core d k).lastType = x.ty ∧
      task d h.toNat = some { x with state := .running, startedAt := a.now } ∧
      d.emitted.contains (.task k h.toNat [x.arg]) = true ∧ counter d .taskWindow k = counter a .taskWindow k + 1) :=
  runsAt_of (fun _ => rfl) fun a ⟨on, there, ready, firstRun, past, unmet, first⟩ => by
    have late : fld a fBN_CTRL_AFFINITY_WINDOW 0 * Config.ns ≤ a.now - x.readyAt := Nat.le_sub_of_add_le' past
    have run : affinityExpiry h.toNat a = runTask h.toNat x k 1 a := by
      simp only [affinityExpiry, there]
      rw [if_pos ⟨on, ready, past⟩, dispatchOne_lowest unmet first (.inr late), if_pos late]
    have low : k < 16 := by
      have listed : k ∈ idleCores a := (List.mem_filter.1 (List.mem_of_mem_head? first)).1
      exact List.mem_range.1 (List.mem_filter.1 listed).1
    rw [run]
    obtain ⟨busy, last, running, shown⟩ := dispatched_runTask (h := h.toNat) (x := x) (k := k) (reason := 1) (d := a)
    exact ⟨busy, last, running, shown, counter_runTask_window (by omega) firstRun⟩

/-- Settles O44. -/
theorem taskSubmissionAndDispatch : Obligations.TaskSubmissionAndDispatch :=
  ⟨fun x s low ⟨work, port, enabled, held, free, owned, published, few, successors, vector, waits⟩ =>
      taskSubmit_waits x s low ⟨⟨work, port, enabled, held⟩, ⟨free, owned, published, few, successors, vector⟩, waits⟩,
    fun x s low ⟨work, port, enabled, held, free, owned, published, few, successors, vector, done, other⟩ =>
      taskSubmit_ready x s low ⟨⟨work, port, enabled, held⟩, ⟨free, owned, published, few, successors, vector⟩, done, other⟩,
    fun x s low ⟨work, port, enabled, held, free, owned, published, few, successors, vector, done, join, alone⟩ =>
      taskSubmit_join x s low
        ⟨⟨work, port, enabled, held⟩, ⟨free, owned, published, few, successors, vector⟩, done, join, alone⟩,
    fun x s low ⟨work, port, enabled, held, refused⟩ => taskSubmit_refuses x s low ⟨⟨work, port, enabled, held⟩, refused⟩,
    taskDispatch_affine, taskDispatch_lowest, taskDispatch_stays, affinityExpiry_runs⟩

end Sys2Proof.Proofs

end

section
/-!
PROOF. What the published tasks do to the tables (R304, R308, R314, R539): they leave the Secretary's own state.
-/

namespace Sys2Proof.Proofs

open Sys2Proof Sys2Proof.Machine Sys2Proof.Laws

/-! ## Descriptors (R308, R310) -/

theorem moves_descriptorRun {x : Descriptor} {d : Dev} : Moves [.emitted, .regs, .cnt, .host, .fwd] [.cnEvent, .cnWrap, .fwEvent,
    .fwRingHead, .scCfg] d (descriptorRun x d) := by
  simp only [descriptorRun]
  split
  · exact moves_runDsc (fun _ => moves_macInsert) rfl
  · exact moves_runDsc (fun _ => moves_macDelete) rfl
  · exact moves_runDsc (fun _ => moves_macFindOp) rfl
  · exact moves_runDsc (fun _ => moves_macLockOp) rfl
  · exact moves_runDsc (fun _ => moves_macWriteOp) rfl
  · exact moves_runDsc (fun _ => moves_macReadOp) rfl
  · exact moves_runDsc (fun _ => moves_trieWriteOp) rfl
  · exact moves_runDsc (fun _ => moves_trieReadOp) rfl
  · exact moves_runDsc (fun _ => moves_dscDone) rfl

theorem moves_tableBatch {xs : List Descriptor} {d : Dev} : Moves [.emitted, .regs, .cnt, .host, .fwd] [.cnEvent, .cnWrap,
    .fwEvent, .fwRingHead, .scCfg] d (tableBatch xs d) :=
  .foldl (fun _ _ => moves_descriptorRun) .refl

/-! ## Routes (R304, R305, R314) -/

theorem moves_linkArray {w a : Nat} {d : Dev} : Moves [.fwd] [] d (linkArray w a d) :=
  .step moves_setTrieWord (.foldl (fun _ _ => .ite .refl moves_setTrieWord) .refl) rfl

theorem moves_spreadRoute {r : Route} {base : Nat} {d : Dev} : Moves [.fwd] [] d (spreadRoute r base d) :=
  .foldl (fun _ _ => .ite .refl moves_setTrieWord) .refl

theorem moves_withdrawRoute {v6 : Bool} {addr plen base : Nat} {d : Dev} :
    Moves [.fwd] [] d (withdrawRoute v6 addr plen base d) := by
  refine .foldl (fun d i => .ite ?_ .refl) .refl
  split <;> exact moves_setTrieWord

theorem moves_pruneRoute {v6 : Bool} {addr k : Nat} {d : Dev} : Moves [.fwd] [] d (pruneRoute v6 addr k d) := by
  induction k generalizing d with
  | zero => exact .refl
  | succ k ih =>
    rw [pruneRoute]
    split
    · exact ih
    · dsimp only
      split
      · exact ih
      · exact .ite .refl (.step ih (.step Moves.fwd (.step moves_setTrieWord .refl rfl) rfl) rfl)

theorem moves_routeDelete {v6 : Bool} {addr plen : Nat} {d : Dev} : Moves [.fwd] [] d (routeDelete v6 addr plen d) := by
  simp only [routeDelete]
  split
  · exact .step moves_pruneRoute (.step moves_withdrawRoute (.step Moves.fwd .refl rfl) rfl) rfl
  · exact .step Moves.fwd .refl rfl

theorem moves_makePath {v6 : Bool} {addr k : Nat} {d : Dev} {y : Nat × Dev} (made : makePath v6 addr k d = some y) :
    Moves [.fwd] [] d y.2 := by
  induction k generalizing y with
  | zero =>
    simp only [makePath, Option.some.injEq] at made
    exact made ▸ .refl
  | succ k ih =>
    simp only [makePath] at made
    split at made
    · exact absurd made (by simp)
    · next base e found =>
      have here : Moves [.fwd] [] d e := ih found
      split at made
      · exact Option.some.inj made ▸ here
      · split at made
        · exact Option.some.inj made ▸ .step moves_linkArray here rfl
        · exact absurd made (by simp)

theorem moves_routeAdd {r : Route} {d e : Dev} (added : routeAdd r d = some e) : Moves [.fwd] [] d e := by
  simp only [routeAdd, Option.map_eq_some_iff] at added
  obtain ⟨y, made, rfl⟩ := added
  exact .step moves_spreadRoute (.step Moves.fwd (moves_makePath made) rfl) rfl

theorem moves_routeRecord {ws : List Word} {d e : Dev} (recorded : routeRecord ws d = some e) : Moves [.fwd] [] d e := by
  unfold routeRecord at recorded
  dsimp only at recorded
  rw [ite_eq_iff, ite_eq_iff, ite_eq_iff] at recorded
  obtain ⟨-, none_⟩ | ⟨-, ⟨-, added⟩ | ⟨-, ⟨-, gone⟩ | ⟨-, none_⟩⟩⟩ := recorded
  · exact absurd none_ (by simp)
  · exact moves_routeAdd added
  · exact Option.some.inj gone ▸ moves_routeDelete
  · exact absurd none_ (by simp)

theorem moves_routeBatch {n : Nat} {ws : List Word} {d : Dev} : Moves [.fwd] [] d (routeBatch n ws d).2 := by
  induction n generalizing ws d with
  | zero => exact .refl
  | succ n ih =>
    simp only [routeBatch]
    split
    · exact .refl
    · next recorded => exact .step ih (moves_routeRecord recorded) rfl

/-! ## Counters (R539) -/

theorem moves_gatherAll {l : List Word} {d : Dev} : Moves [.freeCtr] [] d (gatherAll l d).2 := by
  induction l generalizing d with
  | nil => exact .refl
  | cons o l ih =>
    refine .step (b := (gatherOne o d).2) ih ?_ rfl
    simp only [gatherOne]
    split
    · exact .snd .refl
    · exact .snd moves_nextFree

/-! ## A task's action (R539) -/

theorem moves_taskAction {x : Machine.Task} {status : Nat} {a : TaskAnswer} {d : Dev} :
    Moves [.freeCtr, .emitted, .regs, .cnt, .host, .fwd, .pwr] [.cnEvent, .cnWrap, .fwEvent, .fwRingHead, .scCfg] d
      (taskAction x status a d).2.2 := by
  simp only [taskAction]
  split
  · exact .ite_thd .refl (.step moves_tableBatch (.step moves_idleExit .refl rfl) rfl)
  · exact .ite_thd .refl (.step moves_routeBatch (.step moves_idleExit .refl rfl) rfl)
  · exact .ite_thd .refl (.step moves_emit (.step moves_gatherAll .refl rfl) rfl)
  · split
    · exact .thd (.step moves_emit .refl rfl)
    · exact .thd .refl
  · exact .thd .refl

end Sys2Proof.Proofs

end

section
/-!
PROOF. Ends of tasks, cancels, the host's handles and the loading of clusters (R529 to R544).
-/

namespace Sys2Proof.Proofs

open Sys2Proof Sys2Proof.Machine Sys2Proof.Laws

/-! ## Completion (R535, R536, R539) -/

section
variable {k h j status : Nat} {x y : Machine.Task} {r : TaskAnswer} {a : Dev}

/-- The device with a task's action done and its core idle. -/
def actedTask (k : Nat) (x : Machine.Task) (status : Nat) (r : TaskAnswer) (a : Dev) : Dev :=
  modCore k (fun c => { c with busy := none }) (taskAction x status r a).2.2

/-- The end of a task that its core completes. -/
def completion (k h : Nat) (x : Machine.Task) (status : Nat) (r : TaskAnswer) (a : Dev) : TaskEnd :=
  ⟨h, (taskAction x status r a).1, k, (taskAction x status r a).2.1⟩

theorem taskComplete_ends (busy : (Machine.core a k).busy = some h) (there : task a h = some x)
    (ok : status = 0 ∨ status = 4) :
    taskComplete k status r a = finish (completion k h x status r a) (actedTask k x status r a) := by
  simp only [taskComplete, busy, there]
  exact if_neg (by omega)

theorem taskAction_sec : (taskAction x status r a).2.2.sec = a.sec := moves_taskAction.frame.1 .sec (by decide)

theorem taskAction_now : (taskAction x status r a).2.2.now = a.now := moves_taskAction.frame.1 .now (by decide)

theorem task_actedTask : task (actedTask k x status r a) j = task a j := by
  rw [actedTask, task_modCore, task, taskAction_sec, task]

theorem core_actedTask : (Machine.core (actedTask k x status r a) k).busy = none := by
  rw [actedTask, core_modCore_same]

theorem taskComplete_alone (t : Time) (k : Fin 16) (c : BitVec 3) (r : TaskAnswer) (h : Nat) (x : Machine.Task) :
    RunsAt (.taskComplete t k c r) t
      (fun a => (Machine.core a k).busy = some h ∧ (c = 0 ∨ c = 4) ∧ task a h = some x ∧ x.succs = [])
      (fun _ d => task d h = none ∧ (Machine.core d k).busy = none) :=
  runsAt_of (fun _ => rfl) fun a ⟨busy, ok, there, alone⟩ => by
    have ended : c.toNat = 0 ∨ c.toNat = 4 := ok.imp (fun e => by rw [e]; rfl) (fun e => by rw [e]; rfl)
    rw [taskComplete_ends busy there ended,
      finish_alone (e := completion k h x c.toNat r a) (task_actedTask.trans there) alone, core_closeTask, core_actedTask]
    exact ⟨task_closeTask_same, rfl⟩

/-- A done task with one successor tells it. -/
theorem taskComplete_tells (busy : (Machine.core a k).busy = some h) (there : task a h = some x)
    (done : (taskAction x 0 r a).1 = 0) (one : x.succs = [j]) {d : Dev}
    (told : decrement j (actedTask k x 0 r a) = ([], d)) :
    taskComplete k 0 r a = closeTask (completion k h x 0 r a) x d := by
  rw [taskComplete_ends busy there (.inl rfl)]
  refine finish_of_endTask ?_
  have goesOn : ((completion k h x 0 r a).status == 0 || x.cont) = true := by
    rw [show (completion k h x 0 r a).status = 0 from done]
    rfl
  rw [endTask_one (e := completion k h x 0 r a) (task_actedTask.trans there) one, goesOn, onSuccessor, if_pos rfl, told]

theorem taskComplete_lowers (t : Time) (k : Fin 16) (r : TaskAnswer) (h : Nat) (x : Machine.Task) (j : Nat)
    (y : Machine.Task) : RunsAt (.taskComplete t k 0 r) t
    (fun a => (Machine.core a k).busy = some h ∧ task a h = some x ∧ (taskAction x 0 r a).1 = 0 ∧ x.succs = [j] ∧ j ≠ h ∧
      task a j = some y ∧ y.state = .waiting ∧ 1 < y.dep)
    (fun _ d => task d h = none ∧ task d j = some { y with dep := y.dep - 1 }) :=
  runsAt_of (fun _ => rfl) fun a ⟨busy, there, done, one, other, next, waiting, many⟩ => by
    have told : decrement j (actedTask k x 0 r a) =
        ([], setTask j { y with dep := y.dep - 1 } (actedTask k x 0 r a)) := by
      simp only [decrement, task_actedTask, next, waiting, not_true, ne_eq, if_false, many, if_true]
    rw [show (0 : BitVec 3).toNat = 0 from rfl, taskComplete_tells busy there done one told]
    refine ⟨task_closeTask_same, ?_⟩
    rw [task_closeTask_ne (e := completion k h x 0 r a) other, task_setTask_same]

theorem taskComplete_readies (t : Time) (k : Fin 16) (r : TaskAnswer) (h : Nat) (x : Machine.Task) (j : Nat)
    (y : Machine.Task) : RunsAt (.taskComplete t k 0 r) t
    (fun a => (Machine.core a k).busy = some h ∧ task a h = some x ∧ (taskAction x 0 r a).1 = 0 ∧ x.succs = [j] ∧ j ≠ h ∧
      task a j = some y ∧ y.state = .waiting ∧ y.dep = 1 ∧ y.ty ≠ 0x40)
    (fun a d => task d h = none ∧
      task d j = some { y with state := .ready, dep := 0, readyAt := a.now, order := a.sec.nextOrder }) :=
  runsAt_of (fun _ => rfl) fun a ⟨busy, there, done, one, other, next, waiting, last, noJoin⟩ => by
    have told : decrement j (actedTask k x 0 r a) = ([], makeReady j y (actedTask k x 0 r a)) := by
      simp only [decrement, task_actedTask, next, waiting, not_true, ne_eq, if_false, last, Nat.lt_irrefl, noJoin]
    have now : (actedTask k x 0 r a).now = a.now := taskAction_now
    have order : (actedTask k x 0 r a).sec.nextOrder = a.sec.nextOrder := by
      rw [actedTask, modCore, taskAction_sec]
    rw [show (0 : BitVec 3).toNat = 0 from rfl, taskComplete_tells busy there done one told]
    refine ⟨task_closeTask_same, ?_⟩
    rw [task_closeTask_ne (e := completion k h x 0 r a) other, task_makeReady_same, now, order]

/-- A snapshot task copies the bank that it asks for (R587). -/
theorem taskComplete_snapshot (t : Time) (k : Fin 16) (r : TaskAnswer) (h : Nat) (x : Machine.Task) (b : CabBank) :
    RunsAt (.taskComplete t k 0 r) t
      (fun a => (Machine.core a k).busy = some h ∧ task a h = some x ∧ x.ty = 0x44 ∧ x.succs = [] ∧
        bankLow a (bitsOf r.header.toNat 47 32) = some b)
      (fun _ d => task d h = none ∧ d.emitted.contains (.bankCopy (64 * x.arg.toNat + 8) b) = true) :=
  runsAt_of (fun _ => rfl) fun a ⟨busy, there, snapshot, alone, bank⟩ => by
    have copied : (taskAction x 0 r a).2.2 = emit (.bankCopy (64 * x.arg.toNat + 8) b) a := by
      simp only [taskAction, snapshot, bank]
    rw [show (0 : BitVec 3).toNat = 0 from rfl, taskComplete_ends busy there (.inl rfl),
      finish_alone (e := completion k h x 0 r a) (task_actedTask.trans there) alone]
    refine ⟨task_closeTask_same, ?_⟩
    rw [List.contains_iff_mem]
    refine closeTask_emitted ?_
    rw [actedTask, copied]
    exact List.mem_cons_self

end

/-! ## Faults (R531, R537, R538) -/

section
variable {k h : Nat} {x : Machine.Task} {a : Dev}

/-- The device with a core's fault counted and the core idle. -/
def faultedCore (k : Nat) (a : Dev) : Dev :=
  modCore k (fun c => { c with busy := none }) (raise fBN_EVENT_FAULT 0 (count .taskFaults k a))

theorem faultedCore_sec : (faultedCore k a).sec = { a.sec with cores := aputD a.sec.cores k { Machine.core a k with busy := none } {} } := by
  simp only [faultedCore, modCore, Machine.core, raise_sec, count_sec]

theorem task_faultedCore (j : Nat) : task (faultedCore k a) j = task a j := by simp only [task, faultedCore_sec]

theorem faultedCore_regs : (faultedCore k a).regs = (raise fBN_EVENT_FAULT 0 (count .taskFaults k a)).regs := rfl

theorem coreFaults_alone (there : task a h = some x) (alone : x.succs = []) :
    coreFaults k h a = closeTask ⟨h, 1, k, 0⟩ x (faultedCore k a) := by
  rw [coreFaults]
  exact finish_alone (e := ⟨h, 1, k, 0⟩) ((task_faultedCore h).trans there) alone

theorem cluster_faultedCore (c : Nat) : cluster (faultedCore k a) c = cluster a c :=
  cluster_of_clusters (by rw [faultedCore_sec]) c

theorem frame_closeTask {e : TaskEnd} {d : Dev} : Frame [.emitted, .regs, .cnt, .host, .sec] [.cnEvent, .cnWrap, .scCfg] d
    (closeTask e x d) := by
  have freed : Moves [.emitted, .regs, .cnt, .host, .sec] [.cnEvent, .cnWrap, .scCfg] d (freeTask e d) :=
    .ite (.step moves_count (.step Moves.sec .refl rfl) rfl) (.step Moves.sec .refl rfl)
  exact (Moves.step moves_traceItem (.ite freed (.step moves_postCompletion freed rfl)) rfl).frame

theorem closeTask_now {e : TaskEnd} {d : Dev} : (closeTask e x d).now = d.now := frame_closeTask.1 .now (by decide)

theorem faultedCore_now : (faultedCore k a).now = a.now := by
  rw [faultedCore, modCore]
  simp only [raise_now, count_now]

theorem faultedCore_cnt : (faultedCore k a).cnt = (count .taskFaults k a).cnt := raise_cnt ..

theorem counter_faultedCore : counter (faultedCore k a) .taskFaults k = counter a .taskFaults k + 1 := by
  rw [counter_of_cnt faultedCore_cnt, counter_count_same]

theorem core_modCluster {c : Nat} {f : Cluster → Cluster} {d : Dev} (j : Nat) :
    Machine.core (modCluster c f d) j = Machine.core d j := rfl

theorem task_modCluster {c : Nat} {f : Cluster → Cluster} {d : Dev} (j : Nat) : task (modCluster c f d) j = task d j := rfl

theorem modCluster_cnt {c : Nat} {f : Cluster → Cluster} {d : Dev} : (modCluster c f d).cnt = d.cnt := rfl

theorem modCluster_regs {c : Nat} {f : Cluster → Cluster} {d : Dev} : (modCluster c f d).regs = d.regs := rfl

/-- The faults of a core's cluster within a second, this one with them. -/
def recentFaults (k : Nat) (a : Dev) : List Time :=
  (a.now :: (cluster a (k / 4)).faults).filter (fun u => decide (a.now < u + Config.sec))

theorem recentFaults_head : (recentFaults k a).head? = some a.now := by
  rw [recentFaults, List.filter_cons_of_pos (by simp [Config.sec])]
  rfl

theorem taskFault_exception (busy : (Machine.core a k).busy = some h) (there : task a h = some x) (alone : x.succs = [])
    (few : ((cluster a (k / 4)).faults.filter (fun u => decide (a.now < u + Config.sec))).length < 2) :
    taskFault k .exception a = modCluster (k / 4) (fun c => { c with faults := recentFaults k a })
      (closeTask ⟨h, 1, k, 0⟩ x (faultedCore k a)) := by
  have short : ¬ 3 ≤ (recentFaults k a).length := by
    rw [recentFaults, List.filter_cons_of_pos (by simp [Config.sec]), List.length_cons]
    omega
  simp only [taskFault, busy, there, reduceCtorEq, false_and, if_false]
  rw [coreFaults_alone there alone, closeTask_now, faultedCore_now, cluster_closeTask, cluster_faultedCore]
  exact if_neg short

theorem taskFault_counts (t : Time) (k : Fin 16) (h : Nat) (x : Machine.Task) : RunsAt (.taskFault t k .exception) t
    (fun a => (Machine.core a k).busy = some h ∧ task a h = some x ∧ x.succs = [] ∧
      ((cluster a (k.val / 4)).faults.filter (fun u => decide (a.now < u + Config.sec))).length < 2)
    (fun a d => task d h = none ∧ (Machine.core d k).busy = none ∧ counter d .taskFaults k = counter a .taskFaults k + 1 ∧
      fld d fBN_EVENT_FAULT 0 = 1 ∧ (cluster d (k.val / 4)).faults.head? = some a.now ∧
      (cluster d (k.val / 4)).state = (cluster a (k.val / 4)).state) :=
  runsAt_of (fun _ => rfl) fun a ⟨busy, there, alone, few⟩ => by
    rw [taskFault_exception busy there alone few, cluster_modCluster_same, cluster_closeTask, cluster_faultedCore]
    refine ⟨?_, ?_, ?_, ?_, recentFaults_head, rfl⟩
    · rw [task_modCluster]
      exact task_closeTask_same (e := ⟨h, 1, k, 0⟩)
    · rw [core_modCluster, core_closeTask, faultedCore, core_modCore_same]
    · rw [counter_of_cnt modCluster_cnt, counter_closeTask (by decide) (by omega), counter_faultedCore]
    · rw [fld_of_regs modCluster_regs, Frame_fld frame_closeTask (by decide) (by decide),
        fld_of_regs faultedCore_regs, fld_raise_same _ _ _ (by decide) (by decide)]

end

/-! ### A free handle stays free while a cluster restarts (R531, R538) -/

section
variable {h : Nat}

/-- From device a to device b a handle that is free stays so. -/
def KeepsFree (h : Nat) (a b : Dev) : Prop := task a h = none → task b h = none

theorem keepsFree_setTask {j : Nat} {x y : Machine.Task} {d : Dev} (live : task d j = some y) :
    KeepsFree h d (setTask j x d) := fun free => by
  have other : h ≠ j := fun e => by simp [e ▸ free] at live
  rw [task_setTask_ne other, free]

theorem keepsFree_makeReady {j : Nat} {x y : Machine.Task} {d : Dev} (live : task d j = some y) :
    KeepsFree h d (makeReady j x d) := fun free => by
  have other : h ≠ j := fun e => by simp [e ▸ free] at live
  rw [task_makeReady_ne other, free]

theorem task_count (c : CName) (k : Nat) (d : Dev) : task (count c k d) h = task d h := by rw [task, count_sec, task]

theorem keepsFree_decrement {j : Nat} {d : Dev} : KeepsFree h d (decrement j d).2 := by
  simp only [decrement]
  split
  · intro free
    rw [task, raise_sec, count_sec]
    exact free
  · next x live =>
    split
    · intro free
      rw [task_count, free]
    · split
      · exact keepsFree_setTask live
      · exact keepsFree_makeReady live

theorem keepsFree_onSuccessor {goOn : Bool} {j : Nat} {d : Dev} : KeepsFree h d (onSuccessor goOn j d).2 := by
  simp only [onSuccessor]
  split
  · exact keepsFree_decrement
  · split <;> exact id

theorem keepsFree_successors {goOn : Bool} : ∀ (l : List Nat) (a : List TaskEnd × Dev), KeepsFree h a.2
    (l.foldl (fun (a : List TaskEnd × Dev) j => (a.1 ++ (onSuccessor goOn j a.2).1, (onSuccessor goOn j a.2).2)) a).2
  | [], _ => id
  | j :: l, a => fun free => keepsFree_successors l (a.1 ++ (onSuccessor goOn j a.2).1, (onSuccessor goOn j a.2).2)
      (keepsFree_onSuccessor free)

theorem keepsFree_closeTask {e : TaskEnd} {x : Machine.Task} {d : Dev} : KeepsFree h d (closeTask e x d) := fun free => by
  by_cases same : h = e.handle
  · rw [same, task_closeTask_same]
  · rw [task_closeTask_ne same, free]

theorem keepsFree_endTask {e : TaskEnd} {d : Dev} : KeepsFree h d (endTask e d).2 := by
  simp only [endTask]
  split
  · exact id
  · exact fun free => keepsFree_closeTask (keepsFree_successors _ ([], d) free)

theorem keepsFree_endTasks {n : Nat} {l : List TaskEnd} {d : Dev} : KeepsFree h d (endTasks n l d) := by
  induction n generalizing l d with
  | zero => exact id
  | succ n ih =>
    cases l with
    | nil => exact id
    | cons e l => exact fun free => ih (keepsFree_endTask free)

theorem keepsFree_dropRunning {c : Nat} {d : Dev} : KeepsFree h d (dropRunning c d) := by
  have step : ∀ (l : List Nat) (f : Dev → Nat → Dev), (∀ d k, KeepsFree h d (f d k)) → ∀ d, KeepsFree h d (l.foldl f d) :=
    fun l f one => by
      induction l with
      | nil => exact fun _ => id
      | cons k l ih => exact fun d free => ih _ (one d k free)
  simp only [dropRunning]
  refine step _ _ (fun d k => ?_) d
  split
  · exact id
  · next j _ =>
    split
    · exact fun free => free
    · next x live =>
      split
      · intro free
        have other : h ≠ j := fun e => by
          have gone : task d j = none := e ▸ free
          exact absurd (gone.symm.trans live) (by simp)
        refine (task_makeReady_ne other).trans ?_
        exact keepsFree_endTasks (d := modCore k (fun c => { c with busy := none }) d) free
      · split
        · exact fun free => keepsFree_endTasks (d := modCore k (fun c => { c with busy := none }) d) free
        · exact fun free => keepsFree_makeReady (d := modCore k (fun c => { c with busy := none }) d) live free

theorem keepsFree_restartCluster {c cause : Nat} {d : Dev} : KeepsFree h d (restartCluster c cause d) := fun free => by
  have same : (restartCluster c cause d).sec.tasks = (dropRunning c d).sec.tasks := by
    simp only [restartCluster, logEvent, count_sec, holdCluster, modCluster]
  rw [task, same]
  exact keepsFree_dropRunning free

end

/-! ### A read of poison (R531) -/

section
variable {k h c : Nat} {x : Machine.Task} {a d : Dev}

/-- The device with a core's read of poison counted, flagged and told. -/
def toldPoison (c : Nat) (d : Dev) : Dev :=
  let e := (nextFree (raise fMC_EVENT_UE 0 (count .memPoisonReads 2 d))).2
  let i := (nextFree (raise fMC_EVENT_UE 0 (count .memPoisonReads 2 d))).1
  poisonItem ((e.mc.poison.find? (fun l => areaCluster e l == some c)).getD
    (resolve e (partBase e 1 * 2 ^ 30 + c * 2 ^ 24 + 64 * ((Config.freeWord i).toNat % 262144)) / 64)) e

theorem corePoison_eq : corePoison c d = poisonRestart c (toldPoison c d) := rfl

theorem nextFree_cnt : (nextFree d).2.cnt = d.cnt := rfl

theorem nextFree_sec : (nextFree d).2.sec = d.sec := rfl

theorem keepsBench_poisonItem {l : Nat} : KeepsBench d (poisonItem l d) := keepsBench_post (by decide)

theorem toldPoison_tasks : (toldPoison c d).sec.tasks = d.sec.tasks := by
  rw [toldPoison, keepsBench_poisonItem.tasks, nextFree_sec, raise_sec, count_sec]

theorem toldPoison_clusters : (toldPoison c d).sec.clusters = d.sec.clusters := by
  rw [toldPoison, keepsBench_poisonItem.clusters, nextFree_sec, raise_sec, count_sec]

theorem toldPoison_restarts (hk : k < 65536) :
    counter (toldPoison c d) .clusterRestarts k = counter d .clusterRestarts k := by
  rw [toldPoison, keepsBench_poisonItem.counts _ _ (by decide) hk, counter_of_cnt nextFree_cnt, counter_raise,
    counter_count_other (by decide) (by decide) hk]

theorem frame_toldPoison : Frame (.freeCtr :: countPieces) (.mcEvent :: countRegs) d (toldPoison c d) := by
  rw [toldPoison]
  exact (Moves.step moves_poisonItem (.step moves_nextFree (.step moves_raise (.step moves_count .refl rfl) rfl)
    rfl) rfl).frame

theorem pdOn_of_frame {ps : List Piece} {rs : List Reg} (h : Frame ps rs a d) (apart : .pwDom ∉ rs) {n : Nat} (hn : n < 48) :
    pdOn d n = pdOn a n := pdOn_of_pwDom (fun _ hi => Frame_reg h apart hi) hn

/-- The device that a task's end by a read of poison leaves, before the read is told. -/
def poisonedTask (k h : Nat) (x : Machine.Task) (a : Dev) : Dev := closeTask ⟨h, 1, k, 0⟩ x (faultedCore k a)

theorem taskFault_poison (busy : (Machine.core a k).busy = some h) (there : task a h = some x) (alone : x.succs = []) :
    taskFault k .poison a = poisonRestart (k / 4) (toldPoison (k / 4) (poisonedTask k h x a)) := by
  simp only [taskFault, busy, there, reduceCtorEq, false_and, if_false, if_true]
  rw [coreFaults_alone there alone]
  rfl

theorem frame_faultedCore : Frame (.sec :: countPieces) (.bnEvent :: countRegs) a (faultedCore k a) :=
  (Moves.step moves_modCore (.step moves_raise (.step moves_count .refl rfl) rfl) rfl).frame

theorem pdOn_toldPoison {n : Nat} (hn : n < 48) : pdOn (toldPoison c (poisonedTask k h x a)) n = pdOn a n := by
  rw [pdOn_of_frame frame_toldPoison (by decide) hn, poisonedTask, pdOn_of_frame frame_closeTask (by decide) hn,
    pdOn_of_frame frame_faultedCore (by decide) hn]

theorem cluster_toldPoison (j : Nat) : cluster (toldPoison c (poisonedTask k h x a)) j = cluster a j := by
  rw [cluster_of_clusters toldPoison_clusters, poisonedTask, cluster_closeTask, cluster_faultedCore]

theorem counter_poisonedTask (hk : k < 65536) (hc : c < 65536) :
    counter (poisonedTask k h x a) .clusterRestarts c = counter a .clusterRestarts c := by
  rw [poisonedTask, counter_closeTask (by decide) hc, counter_of_cnt faultedCore_cnt, counter_count_other (by decide) hk hc]

theorem taskFault_restarts (t : Time) (k : Fin 16) (h : Nat) (x : Machine.Task) : RunsAt (.taskFault t k .poison) t
    (fun a => clusterUp a (k.val / 4) = true ∧ (Machine.core a k).busy = some h ∧ task a h = some x ∧ x.succs = [])
    (fun a d => task d h = none ∧
      counter d .clusterRestarts (k.val / 4) = counter a .clusterRestarts (k.val / 4) + 1 ∧
      (cluster d (k.val / 4)).state = (if pdOn a (4 + k.val / 4) then ClusterState.loading else .off)) :=
  runsAt_of (fun _ => rfl) fun a ⟨up, busy, there, alone⟩ => by
    have low : k.val / 4 < 4 := by omega
    have ups : clusterUp (toldPoison (k.val / 4) (poisonedTask k h x a)) (k.val / 4) = true := by
      rw [clusterUp, cluster_toldPoison, pdOn_toldPoison (by omega)]
      exact up
    have restarts : counter (toldPoison (k.val / 4) (poisonedTask k h x a)) .clusterRestarts (k.val / 4) =
        counter a .clusterRestarts (k.val / 4) := by
      rw [toldPoison_restarts (by omega), counter_poisonedTask (by omega) (by omega)]
    have free : task (toldPoison (k.val / 4) (poisonedTask k h x a)) h = none := by
      rw [task, toldPoison_tasks]
      exact task_closeTask_same (e := ⟨h, 1, k, 0⟩)
    rw [taskFault_poison busy there alone, poisonRestart, if_pos ups]
    refine ⟨keepsFree_restartCluster free, ?_, ?_⟩
    · rw [counter_restartCluster low, restarts]
    · rw [(restartCluster_holds low).held, heldState, pdOn_toldPoison (by omega)]

end

/-! ## Cancels (R541) -/

section
variable {h : Nat} {x : Machine.Task} {a : Dev}

/-- The result of a cancel noted. -/
def cancelNoted (r : BitVec 2) (d : Dev) : Dev := { d with sec := { d.sec with cancelResult := r } }

theorem task_cancelNoted {r : BitVec 2} : task (cancelNoted r a) h = task a h := rfl

theorem cancelNoted_cnt {r : BitVec 2} : (cancelNoted r a).cnt = a.cnt := rfl

theorem taskCancel_foreign (on : pdOn a 3 = true) (foreign : hostHandle a h = false) : taskCancel h a = cancelNoted 1 a := by
  rw [taskCancel, if_neg (by simp [on]), if_pos (by simp [foreign])]
  rfl

theorem taskCancel_of_task (on : pdOn a 3 = true) (owned : hostHandle a h = true) : taskCancel h a =
    match task (dispatchReady a) h with
    | none => cancelNoted 1 (dispatchReady a)
    | some x => if x.state = .running then cancelNoted 3 (dispatchReady a)
      else cancelNoted 0 (finish ⟨h, 2, 0, 0⟩ (dispatchReady a)) := by
  rw [taskCancel, if_neg (by simp [on]), if_neg (by simp [owned])]
  rfl

end

theorem taskCancel_refused (t : Time) (h : BitVec 12) : RunsAt (.taskCancel t h) t
    (fun a => pdOn a 3 = true ∧ hostHandle a h.toNat = false)
    (fun a d => d.sec = { a.sec with cancelResult := 1 }) :=
  runsAt_of (fun _ => rfl) fun a ⟨on, foreign⟩ => by
    rw [taskCancel_foreign on foreign]
    rfl

theorem taskCancel_none (t : Time) (h : BitVec 12) : RunsAt (.taskCancel t h) t
    (fun a => pdOn a 3 = true ∧ hostHandle a h.toNat = true ∧ task (dispatchReady a) h.toNat = none)
    (fun a d => d.sec = { (dispatchReady a).sec with cancelResult := 1 }) :=
  runsAt_of (fun _ => rfl) fun a ⟨on, owned, free⟩ => by
    rw [taskCancel_of_task on owned, free]
    rfl

theorem taskCancel_running (t : Time) (h : BitVec 12) (x : Machine.Task) : RunsAt (.taskCancel t h) t
    (fun a => pdOn a 3 = true ∧ hostHandle a h.toNat = true ∧ task (dispatchReady a) h.toNat = some x ∧ x.state = .running)
    (fun a d => d.sec = { (dispatchReady a).sec with cancelResult := 3 }) :=
  runsAt_of (fun _ => rfl) fun a ⟨on, owned, there, running⟩ => by
    rw [taskCancel_of_task on owned, there]
    dsimp only
    rw [if_pos running]
    rfl

theorem taskCancel_ends (t : Time) (h : BitVec 12) (x : Machine.Task) : RunsAt (.taskCancel t h) t
    (fun a => pdOn a 3 = true ∧ hostHandle a h.toNat = true ∧ task (dispatchReady a) h.toNat = some x ∧ x.state ≠ .running ∧
      x.succs = [])
    (fun a d => task d h.toNat = none ∧ d.sec.cancelResult = 0 ∧
      counter d .tasksCancelled 0 = counter (dispatchReady a) .tasksCancelled 0 + 1) :=
  runsAt_of (fun _ => rfl) fun a ⟨on, owned, there, waits, alone⟩ => by
    rw [taskCancel_of_task on owned, there]
    dsimp only
    rw [if_neg waits, finish_alone (e := ⟨h.toNat, 2, 0, 0⟩) there alone]
    generalize dispatchReady a = d at *
    refine ⟨?_, rfl, ?_⟩
    · rw [task_cancelNoted]
      exact task_closeTask_same (e := ⟨h.toNat, 2, 0, 0⟩)
    · rw [counter_of_cnt cancelNoted_cnt, counter_closeTask_cancelled rfl]

/-! ## The host's handles (R532, R544) -/

section
variable {v : Word} {a d : Dev}

/-- A write of BN_CTRL stores HOST_HANDLES where it is at most 2,048, and AFFINITY_WINDOW. -/
theorem storeWrite_bnCtrl : storeWrite .bnCtrl 0 v d = setFld fBN_CTRL_AFFINITY_WINDOW 0 (bitsOf v.toNat 15 0)
    (if bitsOf v.toNat 27 16 ≤ 2048 then setFld fBN_CTRL_HOST_HANDLES 0 (bitsOf v.toNat 27 16) d else d) := by
  have open_ : ∀ f, fieldOpen d .bnCtrl 0 f = true := fun _ => rfl
  have takes : fieldTakes .bnCtrl ⟨27, 16, .rw, 1024, some (0, 2048)⟩ (bitsOf v.toNat 27 16) =
      decide (bitsOf v.toNat 27 16 ≤ 2048) := by
    simp only [fieldTakes, Nat.zero_le, decide_true, Bool.true_and]
  have free : ∀ w, fieldTakes .bnCtrl ⟨15, 0, .rw, 2000, none⟩ w = true := fun _ => rfl
  simp only [storeWrite, regFields, List.foldl_cons, List.foldl_nil, storeField, open_, free, takes, Bool.and_true, if_true,
    decide_eq_true_eq]

theorem fld_handles_window {w : Nat} :
    fld (setFld fBN_CTRL_AFFINITY_WINDOW 0 w d) fBN_CTRL_HOST_HANDLES 0 = fld d fBN_CTRL_HOST_HANDLES 0 :=
  fld_setFld_apart _ _ _ _ _ rfl (by decide) (by decide) (by decide) (by decide)

/-- A field written with a value that it has room for reads as written. -/
theorem fld_setFld_fits {f : Fld} {w : Nat} (order : f.lo ≤ f.hi) (low : f.hi < 48) (fits : w < 2 ^ (f.hi - f.lo + 1)) :
    fld (setFld f 0 w d) f 0 = w := (fld_setFld_same f 0 w d order low).trans (Nat.mod_eq_of_lt fits)

theorem fld_lt (f : Fld) (i : Nat) : fld d f i < 2 ^ (f.hi - f.lo + 1) := Nat.mod_lt _ (Nat.two_pow_pos _)

/-- BN_CTRL as a write stores it, with AFFINITY_WINDOW kept. -/
def handlesStored (v : Word) (a : Dev) : Dev :=
  setFld fBN_CTRL_AFFINITY_WINDOW 0 (fld a fBN_CTRL_AFFINITY_WINDOW 0) (storeWrite .bnCtrl 0 v a)

theorem handlesStored_handles : fld (handlesStored v a) fBN_CTRL_HOST_HANDLES 0 =
    if bitsOf v.toNat 27 16 ≤ 2048 then bitsOf v.toNat 27 16 else fld a fBN_CTRL_HOST_HANDLES 0 := by
  rw [handlesStored, fld_handles_window, storeWrite_bnCtrl, fld_handles_window]
  split
  · next fits => exact fld_setFld_fits (by decide) (by decide) (Nat.lt_of_le_of_lt fits (by decide))
  · rfl

theorem handlesStored_window : fld (handlesStored v a) fBN_CTRL_AFFINITY_WINDOW 0 = fld a fBN_CTRL_AFFINITY_WINDOW 0 :=
  fld_setFld_fits (by decide) (by decide) (fld_lt ..)

theorem handlesStored_sec : (handlesStored v a).sec = a.sec := by
  rw [handlesStored, storeWrite_bnCtrl]
  split <;> rfl

end

theorem hostHandlesWrite_stores (v : Word) : Runs (.hostHandlesWrite v)
    (fun a => a.sec.tasks.any (fun e => hostHandle a e.1) = false)
    (fun a d => fld d fBN_CTRL_HOST_HANDLES 0 =
        (if bitsOf v.toNat 27 16 ≤ 2048 then bitsOf v.toNat 27 16 else fld a fBN_CTRL_HOST_HANDLES 0) ∧
      fld d fBN_CTRL_AFFINITY_WINDOW 0 = fld a fBN_CTRL_AFFINITY_WINDOW 0 ∧ d.sec = a.sec) :=
  runs_of (fun _ => rfl) fun a idle => by
    have run : hostHandlesWrite v a = handlesStored v a := if_neg (by simp [idle])
    rw [run]
    exact ⟨handlesStored_handles, handlesStored_window, handlesStored_sec⟩

theorem hostHandlesWrite_refused (v : Word) : Runs (.hostHandlesWrite v)
    (fun a => a.sec.tasks.any (fun e => hostHandle a e.1) = true)
    (fun a d => fld d fBN_CTRL_HOST_HANDLES 0 = fld a fBN_CTRL_HOST_HANDLES 0 ∧ fld d fBN_EVENT_ACC_REFUSED 0 = 1) :=
  runs_of (fun _ => rfl) fun a live => by
    have run : hostHandlesWrite v a = raise fBN_EVENT_ACC_REFUSED 0
        (setFld fBN_CTRL_HOST_HANDLES 0 (fld a fBN_CTRL_HOST_HANDLES 0) (handlesStored v a)) := if_pos live
    rw [run]
    refine ⟨?_, fld_raise_same _ _ _ (by decide) (by decide)⟩
    rw [fld_raise_ne _ _ _ _ _ (by decide) (by decide) (by decide)]
    exact fld_setFld_fits (by decide) (by decide) (fld_lt ..)

/-! ## Loading of clusters (R529 to R531, R603) -/

/-! ### The lines of a section -/

section
variable {place : Nat → Nat} {block : Nat → List Byte}

/-- Blocks written at their places, one after the other. -/
def writeBlocks (place : Nat → Nat) (block : Nat → List Byte) (n : Nat) (m : Memory) : Memory :=
  (List.range n).foldl (fun m i => m.writeAll (place i) (block i)) m

theorem writeBlocks_succ (n : Nat) (m : Memory) :
    writeBlocks place block (n + 1) m = (writeBlocks place block n m).writeAll (place n) (block n) := by
  rw [writeBlocks, List.range_succ, List.foldl_append]
  rfl

/-- A byte outside every block reads as before. -/
theorem read_writeBlocks_out {m : Memory} {p : Nat} : ∀ {n : Nat}, (∀ i < n, p < place i ∨ place i + (block i).length ≤ p) →
    (writeBlocks place block n m).read p = m.read p
  | 0, _ => rfl
  | n + 1, outside => by
    rw [writeBlocks_succ, read_writeAll_out _ _ _ _ (outside n (by omega)),
      read_writeBlocks_out fun i low => outside i (by omega)]

/-- A byte of a block that no later block overlaps reads as written. -/
theorem read_writeBlocks_in {m : Memory} {i j : Nat} (inside : j < (block i).length) : ∀ {n : Nat}, i < n →
    (∀ k < n, i < k → place i + j < place k ∨ place k + (block k).length ≤ place i + j) →
    (writeBlocks place block n m).read (place i + j) = (block i)[j]
  | 0, low, _ => absurd low (by omega)
  | n + 1, low, apart => by
    rw [writeBlocks_succ]
    by_cases last : i = n
    · subst last
      exact read_writeAll_in _ _ _ _ inside
    · rw [read_writeAll_out _ _ _ _ (apart n (by omega) (by omega)),
        read_writeBlocks_in inside (by omega) fun k hk => apart k (by omega)]

end

/-- The bytes of one line of a section. -/
def sectionLine (bytes : List Byte) (i : Nat) : List Byte := (bytes.drop (64 * i)).take 64

theorem sectionLine_length (bytes : List Byte) (i : Nat) :
    (sectionLine bytes i).length = min 64 (bytes.length - 64 * i) := by
  simp only [sectionLine, List.length_take, List.length_drop]

/-- A byte of a section among those of its line. -/
theorem sectionLine_getElem {bytes : List Byte} {i : Nat} (low : i < bytes.length)
    (inside : i % 64 < (sectionLine bytes (i / 64)).length) :
    (sectionLine bytes (i / 64))[i % 64] = bytes.getD i 0 := by
  have place : 64 * (i / 64) + i % 64 = i := Nat.div_add_mod i 64
  simp only [sectionLine, List.getElem_take, List.getElem_drop, place]
  exact (List.getD_eq_getElem _ _ low).symm

section
variable {c : Nat} {x y : Bool} {bytes : List Byte} {s : State} {a : Dev}

theorem copySection_mem (short : bytes.length ≤ 2 ^ 24) : (copySection c bytes s).mem =
    writeBlocks (areaLine s.dev c) (sectionLine bytes) (ceilDiv bytes.length 64) s.mem := by
  rw [copySection, List.take_of_length_le short]
  rfl

/-- The lines of the cluster's area are apart. -/
def linesApart (a : Dev) (c n : Nat) : Prop :=
  ∀ i < n, ∀ j < i, areaLine a c i + 64 ≤ areaLine a c j ∨ areaLine a c j + 64 ≤ areaLine a c i

theorem read_copySection_in (short : bytes.length ≤ 2 ^ 24) (apart : linesApart s.dev c (ceilDiv bytes.length 64)) {i : Nat}
    (low : i < bytes.length) :
    (copySection c bytes s).mem.read (areaLine s.dev c (i / 64) + i % 64) = bytes.getD i 0 := by
  have inside : i % 64 < (sectionLine bytes (i / 64)).length := by
    rw [sectionLine_length]
    omega
  have line : i / 64 < ceilDiv bytes.length 64 := by
    simp only [ceilDiv]
    omega
  rw [copySection_mem short, read_writeBlocks_in inside line, sectionLine_getElem low inside]
  intro k hk later
  have short : (sectionLine bytes k).length ≤ 64 := by
    rw [sectionLine_length]
    omega
  have lines := apart k hk (i / 64) later
  omega

theorem read_copySection_out (short : bytes.length ≤ 2 ^ 24) {p : Nat}
    (outside : ∀ i < bytes.length, p ≠ areaLine s.dev c (i / 64) + i % 64) :
    (copySection c bytes s).mem.read p = s.mem.read p := by
  rw [copySection_mem short, read_writeBlocks_out]
  intro l _
  rw [sectionLine_length]
  by_contra inside
  have byte := outside (64 * l + (p - areaLine s.dev c l)) (by omega)
  rw [show (64 * l + (p - areaLine s.dev c l)) / 64 = l by omega,
    show (64 * l + (p - areaLine s.dev c l)) % 64 = p - areaLine s.dev c l by omega] at byte
  omega

/-! ### The copy's checks -/

theorem clusterStart_loads (loading : (cluster s.dev c).state = .loading) (still : s.dev.sec.restarting = false)
    (on : pdOn s.dev (4 + c) = true) : clusterStart c x y s =
      { copySection c (serviceSection (imageBytes s.dev s.dev.img.ptr.active)) s with dev := clusterLoad c x y s.dev } :=
  if_neg (by simp [loading, still, on])

theorem exec_clusterLoad_out (t : Time) (c : Fin 4) (x y : Bool) (s : State) (low : s.dev.porstLow = false) :
    exec (.clusterLoad t c x y) s = .next (clusterStart c x y (inDev (tick t) s)) := by
  rw [exec_clusterLoad, onWhole, low, if_neg (by decide)]

theorem exec_clusterLoad_loads (t : Time) (c : Fin 4) (x y : Bool) (s : State) (low : s.dev.porstLow = false)
    (loading : (cluster (tick t s.dev) c).state = .loading) (still : (tick t s.dev).sec.restarting = false)
    (on : pdOn (tick t s.dev) (4 + c.val) = true) : exec (.clusterLoad t c x y) s =
      .next { copySection c (serviceSection (imageBytes (tick t s.dev) (tick t s.dev).img.ptr.active)) (inDev (tick t) s) with
        dev := clusterLoad c x y (tick t s.dev) } :=
  (exec_clusterLoad_out t c x y s low).trans
    (congrArg Host.Outcome.next (clusterStart_loads (s := inDev (tick t) s) loading still on))

/-- The poison of a cluster's area gone with its lines written anew (R531). -/
def cleanArea (c : Nat) (a : Dev) : Dev :=
  { a with mc := { a.mc with poison := a.mc.poison.filter (fun l => areaCluster a l != some c) } }

theorem clusterLoad_releases (verified : (x || y) = true) (ok : sectionOk (imageBytes a a.img.ptr.active) = true) :
    clusterLoad c x y a = modCluster c (fun x => { x with state := .running }) (cleanArea c a) :=
  if_pos (by rw [Bool.and_eq_true]; exact ⟨verified, ok⟩)

theorem clusterLoad_fails (bad : (x || y) = false ∨ sectionOk (imageBytes a a.img.ptr.active) = false) :
    clusterLoad c x y a = raise fBN_EVENT_CLUSTER_FAIL 0 (count .clusterLoadFails c
      (modCluster c (fun x => { x with state := .failed }) (cleanArea c a))) := by
  refine if_neg ?_
  rw [Bool.and_eq_true]
  rintro ⟨verified, ok⟩
  rcases bad with unverified | wrong
  · exact absurd (verified.symm.trans unverified) (by decide)
  · exact absurd (ok.symm.trans wrong) (by decide)

theorem frame_clusterLoad : Frame [.cnt, .regs, .host, .emitted, .mc, .sec] [.bnEvent, .cnWrap, .cnEvent, .scCfg] a
    (clusterLoad c x y a) := by
  have loaded : ∀ f, Moves [.cnt, .regs, .host, .emitted, .mc, .sec] [.bnEvent, .cnWrap, .cnEvent, .scCfg] a
      (modCluster c f (cleanArea c a)) := fun f => .step Moves.sec (.step Moves.mc .refl rfl) rfl
  exact (Moves.ite (loaded _) (.step moves_raise (.step moves_count (loaded _) rfl) rfl)).frame

end

theorem clusterLoad_runs (s : State) (a : Dev) (t : Time) (c : Fin 4) (x y : Bool) (low : s.dev.porstLow = false)
    (here : a = tick t s.dev) (loading : (cluster a c).state = .loading) (still : a.sec.restarting = false)
    (on : pdOn a (4 + c.val) = true) (verified : (x || y) = true)
    (ok : sectionOk (imageBytes a a.img.ptr.active) = true) :
    ∃ u, exec (.clusterLoad t c x y) s = .next u ∧ u.pending = s.pending ∧ (cluster u.dev c).state = .running := by
  subst here
  refine ⟨_, exec_clusterLoad_loads t c x y s low loading still on, rfl, ?_⟩
  rw [clusterLoad_releases verified ok, cluster_modCluster_same]

theorem clusterLoad_failed (s : State) (a : Dev) (t : Time) (c : Fin 4) (x y : Bool) (low : s.dev.porstLow = false)
    (here : a = tick t s.dev) (loading : (cluster a c).state = .loading) (still : a.sec.restarting = false)
    (on : pdOn a (4 + c.val) = true)
    (bad : (x || y) = false ∨ sectionOk (imageBytes a a.img.ptr.active) = false) :
    ∃ u, exec (.clusterLoad t c x y) s = .next u ∧ u.pending = s.pending ∧ (cluster u.dev c).state = .failed ∧
      counter u.dev .clusterLoadFails c = counter a .clusterLoadFails c + 1 ∧ fld u.dev fBN_EVENT_CLUSTER_FAIL 0 = 1 := by
  subst here
  refine ⟨_, exec_clusterLoad_loads t c x y s low loading still on, rfl, ?_⟩
  dsimp only
  rw [clusterLoad_fails bad, cluster_of_clusters (congrArg SecSt.clusters ((raise_sec ..).trans (count_sec ..))),
    cluster_modCluster_same, counter_raise, counter_count_same]
  exact ⟨rfl, rfl, fld_raise_same _ _ _ (by decide) (by decide)⟩

theorem clusterLoad_copies (s : State) (a : Dev) (t : Time) (c : Fin 4) (x y : Bool) (bytes : List Byte) (n : Nat)
    (low : s.dev.porstLow = false) (here : a = tick t s.dev) (loading : (cluster a c).state = .loading)
    (still : a.sec.restarting = false) (on : pdOn a (4 + c.val) = true) (_ : s.mem.wf = true)
    (read : bytes = serviceSection (imageBytes a a.img.ptr.active)) (size : n = bytes.length) (short : n ≤ 2 ^ 24)
    (apart : ∀ i < ceilDiv n 64, ∀ j < i, areaLine a c i + 64 ≤ areaLine a c j ∨ areaLine a c j + 64 ≤ areaLine a c i) :
    ∃ u, exec (.clusterLoad t c x y) s = .next u ∧ u.pending = s.pending ∧
      Frame [.now, .cnt, .regs, .host, .emitted, .mc, .sec] [.bnEvent, .cnWrap, .cnEvent, .scCfg] s.dev u.dev ∧
      (∀ i < n, u.mem.read (areaLine a c (i / 64) + i % 64) = bytes.getD i 0) ∧
      (∀ p, (∀ i < n, p ≠ areaLine a c (i / 64) + i % 64) → u.mem.read p = s.mem.read p) := by
  subst here read size
  exact ⟨_, exec_clusterLoad_loads t c x y s low loading still on, rfl,
    Frame_mono (Frame_trans (frame_tick t s.dev) frame_clusterLoad) (by decide) (by decide),
    fun i inside => read_copySection_in (s := inDev (tick t) s) short apart inside,
    fun p outside => read_copySection_out (s := inDev (tick t) s) short outside⟩

theorem clusterLoad_stays (t : Time) (c : Fin 4) (x y : Bool) : RunsAt (.clusterLoad t c x y) t
    (fun a => (cluster a c).state ≠ .loading) (fun a d => d = a) := fun s low other => by
  refine ⟨tick t s.dev, ?_, rfl⟩
  have kept : clusterStart c x y (inDev (tick t) s) = inDev (tick t) s := if_pos (.inl other)
  exact (exec_clusterLoad_out t c x y s low).trans (congrArg Host.Outcome.next kept)

/-- Settles O45. -/
theorem taskEndsAndClusters : Obligations.TaskEndsAndClusters :=
  ⟨taskComplete_alone, taskComplete_lowers, taskComplete_readies, taskComplete_snapshot, taskFault_counts, taskFault_restarts,
    taskCancel_refused, taskCancel_none, taskCancel_running, taskCancel_ends, hostHandlesWrite_stores, hostHandlesWrite_refused,
    clusterLoad_runs, clusterLoad_failed, clusterLoad_copies, clusterLoad_stays⟩

end Sys2Proof.Proofs

end

section
/-!
PROOF. What lanes, domains and requests leave of the power controller's course (R150 to R152, R228, R554, R566, R593): its
state, the WAKE level, the battery timers, a change to Run or Sleep, and the dictionary past the allocation IDs.
-/

namespace Sys2Proof.Proofs

open Sys2Proof Sys2Proof.Machine Sys2Proof.Laws

/-- State, WAKE level and battery timers of the power controller (R547, R557, R563). -/
def powerCourse (p : PwrSt) : Nat × Bool × Option Time × Option Time := (p.state, p.wakeHigh, p.holdDue, p.restoreDue)

/-- A dictionary key of an allocation ID, whose entries end with the terminal's number (R130). -/
def allocKey (k : Nat) : Bool := decide (0x2400 * 256 ≤ k) && decide (k < (0x2C7F + 1) * 256)

/-- From device a to device b the course of the power controller stands, with a change that does not rest on consent, and
the dictionary past the allocation IDs. -/
structure KeepsPower (a b : Dev) : Prop where
  course : powerCourse b.pwr = powerCourse a.pwr
  change : ∀ c, a.pwr.change = some c → c.req.target < 4 → b.pwr.change = some c
  entries : ∀ k, allocKey k = false → aget b.dict k = aget a.dict k

theorem KeepsPower.refl {d : Dev} : KeepsPower d d := ⟨rfl, fun _ h _ => h, fun _ _ => rfl⟩

/-- A last step joined to those before it, found from the device that it leads to. -/
theorem KeepsPower.after {a b c : Dev} (k : KeepsPower b c) (h : KeepsPower a b) : KeepsPower a c :=
  ⟨k.course.trans h.course, fun x held low => k.change x (h.change x held low) low,
    fun i past => (k.entries i past).trans (h.entries i past)⟩

theorem KeepsPower.ite {a b c : Dev} {p : Prop} [Decidable p] (h : KeepsPower a b) (k : KeepsPower a c) :
    KeepsPower a (if p then b else c) := by
  split
  · exact h
  · exact k

theorem KeepsPower.foldl {β : Type} {f : Dev → β → Dev} (h : ∀ d x, KeepsPower d (f d x)) :
    ∀ (l : List β) (d : Dev), KeepsPower d (l.foldl f d)
  | [], _ => .refl
  | x :: l, d => (KeepsPower.foldl h l (f d x)).after (h d x)

/-- Where power controller and dictionary stand, the course stands. -/
theorem KeepsPower.same {a b : Dev} (h : b.pwr = a.pwr) (k : b.dict = a.dict) : KeepsPower a b :=
  ⟨by rw [h], fun _ held _ => by rw [h, held], fun _ _ => by rw [k]⟩

theorem KeepsPower.of_only {ps : List Piece} {a b : Dev} (h : Only ps a b) (hp : .pwr ∉ ps) (hd : .dict ∉ ps) :
    KeepsPower a b := .same (h .pwr hp) (h .dict hd)

/-- A change of the power controller beside its course and its change. -/
theorem keepsPower_pwr {w : PwrSt} {d : Dev} (course : powerCourse w = powerCourse d.pwr) (change : w.change = d.pwr.change) :
    KeepsPower d { d with pwr := w } := ⟨course, fun _ held _ => change.trans held, fun _ _ => rfl⟩

/-- A change of pieces other than the power controller and the dictionary. -/
theorem keepsPower_pieces {d : Dev} {regs cnt host chans prot lanes ports bond cipher act up lc tm cls fwd sb mc sec fs
    trib dic img boot emitted} : KeepsPower d { d with
      regs := regs, cnt := cnt, host := host, chans := chans, prot := prot, lanes := lanes, ports := ports, fs := fs,
      bond := bond, cipher := cipher, act := act, up := up, lc := lc, tm := tm, cls := cls, fwd := fwd, sb := sb, mc := mc,
      sec := sec, trib := trib, dic := dic, img := img, boot := boot, emitted := emitted } := .same rfl rfl

/-! ## Registers, events and counters -/

theorem keepsPower_raise {f : Fld} {i : Nat} {d : Dev} : KeepsPower d (raise f i d) := .same (raise_pwr ..) (raise_dict ..)

theorem keepsPower_raiseIf {c : Bool} {f : Fld} {i : Nat} {d : Dev} : KeepsPower d (raiseIf c f i d) := by
  simp only [raiseIf]
  exact .ite keepsPower_raise .refl

theorem keepsPower_setFld {f : Fld} {i v : Nat} {d : Dev} : KeepsPower d (setFld f i v d) := .same rfl rfl

theorem keepsPower_countN {c : CName} {k n : Nat} {d : Dev} : KeepsPower d (countN c k n d) :=
  .of_only moves_countN.frame.1 (by decide) (by decide)

theorem keepsPower_count {c : CName} {k : Nat} {d : Dev} : KeepsPower d (count c k d) := keepsPower_countN

theorem keepsPower_setPd {n v : Nat} {d : Dev} : KeepsPower d (setPd n v d) :=
  .of_only (only_setPd n v d) (by decide) (by decide)

/-! ## The end of a consent (R152, R556) -/

theorem keepsPower_pwResult {o : PowerOrigin} {r c : Nat} {d : Dev} : KeepsPower d (pwResult o r c d) := by
  match o with
  | .host => exact .same rfl rfl
  | .entry .l => exact keepsPower_pwr rfl rfl
  | .entry .s => exact keepsPower_pwr rfl rfl
  | .entry .h => exact .refl
  | .controller => exact .refl

theorem keepsPower_releaseUnits {d : Dev} : KeepsPower d (releaseUnits d) := by
  simp only [releaseUnits]
  exact .ite .refl (.after (.foldl (fun _ _ => .ite keepsPower_pieces .refl) _ _) (keepsPower_pwr rfl rfl))

theorem keepsPower_powerHoldEnd {d : Dev} : KeepsPower d (powerHoldEnd d) := by
  simp only [powerHoldEnd]
  exact .ite (keepsPower_raise.after keepsPower_pieces) .refl

/-- The cancellation of a change that rests on consent. -/
theorem keepsPower_cancelChange {d : Dev} (low : ∀ c, d.pwr.change = some c → 4 ≤ c.req.target) :
    KeepsPower d (cancelChange d) := by
  simp only [cancelChange]
  split
  · refine .ite (keepsPower_powerHoldEnd.after (keepsPower_releaseUnits.after (keepsPower_count.after
      (keepsPower_pwResult.after ?_)))) .refl
    exact ⟨rfl, fun c held past => absurd past (Nat.not_lt.2 (low c held)), fun _ _ => rfl⟩
  · exact .refl

theorem keepsPower_waitingGone {d : Dev} : KeepsPower d (waitingGone d) := by
  simp only [waitingGone]
  split
  · exact .ite (keepsPower_count.after (keepsPower_pwResult.after (keepsPower_pwr rfl rfl))) .refl
  · exact .refl

theorem keepsPower_consentGone {d : Dev} : KeepsPower d (consentGone d) := by
  simp only [consentGone]
  split
  next c held =>
    refine keepsPower_waitingGone.after ?_
    split
    next rests =>
      refine keepsPower_cancelChange fun x same => ?_
      obtain rfl : c = x := Option.some.inj (held.symm.trans same)
      omega
    next => exact .refl
  next => exact keepsPower_waitingGone

theorem keepsPower_endConsent {d : Dev} : KeepsPower d (endConsent d) := keepsPower_consentGone.after keepsPower_pieces

/-! ## Activation and record (R129, R130, R150) -/

theorem keepsPower_abandonGrants {p : Grant → Bool} {d : Dev} : KeepsPower d (abandonGrants p d) :=
  .of_only (frame_abandonGrants p d).1 (by decide) (by decide)

/-- Only the entries of allocation IDs take their defaults. -/
theorem keepsPower_defaultEntries {d : Dev} : KeepsPower d (defaultEntries 0x2400 0x2C7F d) := by
  refine ⟨rfl, fun _ held _ => held, fun k past => ?_⟩
  exact (aget_filter_keys (fun k => !allocKey k) d.dict k).trans (by rw [past]; rfl)

theorem keepsPower_setReg {r : Reg} {i : Nat} {v : Word} {d : Dev} : KeepsPower d (setReg r i v d) := .same rfl rfl

theorem keepsPower_eraseHeld {d : Dev} : KeepsPower d (eraseHeld d) := .same rfl rfl

theorem keepsPower_eraseNumber {d : Dev} : KeepsPower d (eraseNumber d) := by
  simp only [eraseNumber]
  refine keepsPower_setFld.after (keepsPower_setFld.after (keepsPower_setFld.after (keepsPower_setFld.after ?_)))
  exact keepsPower_setFld.after (keepsPower_setFld.after (keepsPower_setFld.after (keepsPower_pwr rfl rfl)))

theorem keepsPower_clearRecord {d : Dev} : KeepsPower d (clearRecord d) := by
  rw [clearRecord_eq]
  refine .after (.of_only (frame_dropUpstream _).1 (by decide) (by decide)) (keepsPower_endConsent.after ?_)
  exact keepsPower_eraseHeld.after (keepsPower_setReg.after (keepsPower_defaultEntries.after keepsPower_eraseNumber))

theorem keepsPower_setState {n : Nat} {d : Dev} : KeepsPower d (setState n d) := by
  simp only [setState]
  exact .ite .refl (keepsPower_raise.after (keepsPower_setFld.after (.ite keepsPower_endConsent .refl)))

theorem keepsPower_settleState {d : Dev} : KeepsPower d (settleState d) := by
  simp only [settleState]
  exact .ite keepsPower_setState (.ite (keepsPower_setState.after keepsPower_abandonGrants) .refl)

theorem keepsPower_actOnUp {d : Dev} : KeepsPower d (actOnUp d) := by
  simp only [actOnUp]
  refine .ite .refl (.ite (.ite (keepsPower_raise.after keepsPower_setState)
    (keepsPower_settleState.after keepsPower_setState)) (.ite (.ite ?_ ?_) .refl))
  · exact keepsPower_setState.after keepsPower_pieces
  · exact .after keepsPower_pieces (keepsPower_setState.after keepsPower_pieces)

theorem keepsPower_actOnDown {d : Dev} : KeepsPower d (actOnDown d) := by
  simp only [actOnDown]
  exact .ite .refl (.ite (keepsPower_clearRecord.after (keepsPower_setState.after keepsPower_pieces))
    (.ite (keepsPower_setState.after keepsPower_pieces) .refl))

theorem keepsPower_leaveStop {d : Dev} : KeepsPower d (leaveStop d) := by
  simp only [leaveStop]
  exact .ite (keepsPower_settleState.after (.after (.ite .refl keepsPower_actOnDown)
    (keepsPower_clearRecord.after (keepsPower_setState.after keepsPower_pieces)))) .refl

theorem keepsPower_secretaryRelease {d : Dev} : KeepsPower d (secretaryRelease d) := by
  simp only [secretaryRelease]
  exact .ite (keepsPower_leaveStop.after keepsPower_pieces) .refl

/-! ## Channels, protection and lanes (R66, R71, R228) -/

theorem keepsPower_ltEval {d : Dev} : KeepsPower d (ltEval d) := .of_only (frame_ltEval d).1 (by decide) (by decide)

theorem keepsPower_chanFall {ch : Nat} {d : Dev} : KeepsPower d (chanFall ch d) :=
  keepsPower_ltEval.after (keepsPower_actOnDown.after (keepsPower_abandonGrants.after
    (keepsPower_raise.after keepsPower_pieces)))

theorem keepsPower_chanEval {ch : Nat} {d : Dev} : KeepsPower d (chanEval ch d) := by
  simp only [chanEval]
  exact .ite .refl (.ite (keepsPower_actOnUp.after keepsPower_pieces) keepsPower_chanFall)

theorem keepsPower_protEval {d : Dev} : KeepsPower d (protEval d) := .of_only (only_protEval d) (by decide) (by decide)

theorem keepsPower_chanRehunt {ch : Nat} {d : Dev} : KeepsPower d (chanRehunt ch d) :=
  keepsPower_chanEval.after (keepsPower_raiseIf.after (keepsPower_raiseIf.after keepsPower_pieces))

theorem keepsPower_laneLos {ch : Nat} {laneB : Bool} {d : Dev} : KeepsPower d (laneLos ch laneB d) := by
  simp only [laneLos]
  exact .ite .refl (keepsPower_chanEval.after (keepsPower_raise.after (keepsPower_raiseIf.after keepsPower_pieces)))

theorem keepsPower_laneNoSignal {ch : Nat} {laneB : Bool} {d : Dev} : KeepsPower d (laneNoSignal ch laneB d) :=
  keepsPower_laneLos.after keepsPower_pieces

theorem keepsPower_setLaneState {k st : Nat} {f : SerialLane → SerialLane} {d : Dev} :
    KeepsPower d (setLaneState k st f d) := by
  have moved : ∀ f, KeepsPower d (modSerial k f d) := fun _ => keepsPower_pieces
  simp only [setLaneState]
  refine .ite (.ite ?_ (.ite ?_ (moved _))) (.ite (keepsPower_raise.after (moved _)) (moved _))
  · exact keepsPower_raise.after (keepsPower_count.after (moved _))
  · exact keepsPower_protEval.after (keepsPower_laneNoSignal.after (keepsPower_count.after (moved _)))

theorem keepsPower_laneRefresh {k : Nat} {d : Dev} : KeepsPower d (laneRefresh k d) := by
  simp only [laneRefresh]
  exact .ite .refl (.ite (.ite keepsPower_setLaneState .refl) (.ite .refl keepsPower_setLaneState))

theorem keepsPower_lanesRefresh {d : Dev} : KeepsPower d (lanesRefresh d) := .foldl (fun _ _ => keepsPower_laneRefresh) _ _

theorem keepsPower_laneRestart {k : Nat} {d : Dev} : KeepsPower d (laneRestart k d) := by
  simp only [laneRestart]
  exact .ite .refl keepsPower_setLaneState

/-! ## Held envelopes released (R98 to R108, R549): a management packet in Sleep is held -/

theorem keepsPower_tapRecord {m : Nat} {bs : List Byte} {recallOn : Bool} {fs ls : BitVec 12} {d : Dev} :
    KeepsPower d (tapRecord m bs recallOn fs ls d) := by
  have mapped : ∀ {p o n : Nat} {e : Dev}, KeepsPower e (mapReads p o n e) := .of_only moves_mapReads.frame.1 (by decide) (by decide)
  have cleaned : ∀ {l : List Nat} {e : Dev}, KeepsPower e (clearPoison l e) :=
    .of_only moves_clearPoison.frame.1 (by decide) (by decide)
  have overrun : ∀ {rs gone : List Record} {e : Dev}, KeepsPower e (overruns m rs gone e) :=
    .foldl (fun _ _ => keepsPower_raise.after (keepsPower_count.after keepsPower_pieces)) _ _
  simp only [tapRecord]
  refine .ite .refl (.ite (keepsPower_raise.after (keepsPower_count.after keepsPower_pieces)) ?_)
  refine keepsPower_countN.after (keepsPower_count.after (overrun.after (.after (.ite keepsPower_count .refl) ?_)))
  exact .after keepsPower_pieces (cleaned.after mapped)

theorem keepsPower_bondOutput {k : Nat} {p : Pkt} {d : Dev} : KeepsPower d (bondOutput k p d) := by
  simp only [bondOutput]
  exact .ite keepsPower_count (.after keepsPower_pieces keepsPower_pieces)

theorem keepsPower_mgmtPacket {bs : List Byte} {d : Dev} : KeepsPower d (mgmtPacket bs d) := by
  simp only [mgmtPacket]
  exact .ite (.ite (keepsPower_pwr rfl rfl) keepsPower_count) keepsPower_pieces

theorem keepsPower_bondPacket {k : Nat} {bs : List Byte} {recallOn : Bool} {fs ls : Nat} {d : Dev} :
    KeepsPower d (bondPacket k bs recallOn fs ls d) := by
  simp only [bondPacket]
  refine .ite keepsPower_mgmtPacket ?_
  split
  · exact keepsPower_bondOutput.after keepsPower_tapRecord
  · exact keepsPower_bondOutput

theorem keepsPower_modFlow {k : Nat} {f : BondFlow → BondFlow} {d : Dev} : KeepsPower d (modFlow k f d) := keepsPower_pieces

theorem keepsPower_dropOpen {k : Nat} {d : Dev} : KeepsPower d (dropOpen k d) := by
  simp only [dropOpen]
  exact .ite (keepsPower_count.after keepsPower_modFlow) .refl

theorem keepsPower_growPacket {k : Nat} {p : OpenPkt} {e : BondEnv} {d : Dev} : KeepsPower d (growPacket k p e d) := by
  simp only [growPacket]
  refine .ite (keepsPower_count.after keepsPower_modFlow) (.ite ?_ keepsPower_modFlow)
  exact .ite keepsPower_modFlow (keepsPower_bondPacket.after keepsPower_modFlow)

theorem keepsPower_reassemble {k : Nat} {e : BondEnv} {d : Dev} : KeepsPower d (reassemble k e d) := by
  simp only [reassemble]
  refine .ite (keepsPower_growPacket.after keepsPower_dropOpen) ?_
  split
  · exact keepsPower_count
  · exact keepsPower_growPacket

theorem keepsPower_skipped {k n : Nat} {d : Dev} : KeepsPower d (skipped k n d) := by
  simp only [skipped]
  exact .ite .refl (keepsPower_dropOpen.after keepsPower_countN)

theorem keepsPower_deliverTo (k e lim : Nat) (l : List BondEnv) : ∀ (o : Nat) (d : Dev),
    KeepsPower d (deliverTo k e lim l o d) := by
  induction l with
  | nil => exact fun _ _ => keepsPower_skipped
  | cons x l ih =>
    intro o d
    simp only [deliverTo]
    exact .ite (.after (ih _ _) (keepsPower_reassemble.after keepsPower_skipped)) keepsPower_skipped

theorem keepsPower_releaseFlows {d : Dev} : KeepsPower d (releaseFlows d) := by
  have advanced : ∀ {k n : Nat} {e : Dev}, KeepsPower e (advance k n e) := fun {k n e} => by
    simp only [advance]
    split
    · exact .refl
    · exact .after keepsPower_modFlow (keepsPower_deliverTo _ _ _ _ _ _)
  simp only [releaseFlows]
  refine .foldl (fun d x => .after keepsPower_modFlow ?_) _ _
  split
  · exact advanced
  · exact .refl

theorem keepsPower_toggle {cause : Option (BitVec 2)} {st : ProtState} {d : Dev} : KeepsPower d (toggle cause st d) := by
  simp only [toggle]
  refine keepsPower_releaseFlows.after (.after keepsPower_pieces
    (.after (.foldl (fun _ _ => keepsPower_chanRehunt) _ _) ?_))
  exact .after (.of_only (only_protHold true _) (by decide) (by decide)) (.after keepsPower_pieces
    (keepsPower_count.after keepsPower_pieces))

/-! ## Units that stop (R228, R554) -/

theorem keepsPower_dropInFlight {d : Dev} : KeepsPower d (dropInFlight d) := by
  simp only [dropInFlight]
  refine keepsPower_countN.after (.after keepsPower_pieces (.after (.foldl (fun _ _ => ?_) _ _) (.foldl (fun _ _ => ?_) _ _)))
  · exact .of_only moves_replayDone.frame.1 (by decide) (by decide)
  · exact .of_only moves_dropCopy.frame.1 (by decide) (by decide)

theorem keepsPower_stopUnits {r : PwReq} {d : Dev} : KeepsPower d (stopUnits r d) := by
  have stopped : ∀ s : List Nat, KeepsPower d (lanesRefresh { d with pwr := { d.pwr with stopping := s } }) := fun _ =>
    keepsPower_lanesRefresh.after (keepsPower_pwr rfl rfl)
  simp only [stopUnits]
  exact .ite (keepsPower_dropInFlight.after (stopped _)) (stopped _)

theorem keepsPower_setHolds {f : FsSt → FsSt} {d : Dev} (h : (f d.fs).thermal = d.fs.thermal) :
    KeepsPower d (setHolds f d) := .of_only (only_setHolds d h) (by decide) (by decide)

end Sys2Proof.Proofs
end

section
/-!
PROOF. The power controller's course where domains leave Run and return (R361, R418, R471, R521, R529, R550): what the units
then do leaves its state, the WAKE level, the battery timers and the dictionary past the allocation IDs.
-/

namespace Sys2Proof.Proofs

open Sys2Proof Sys2Proof.Machine Sys2Proof.Laws

/-! ## Domains that leave Run -/

theorem keepsPower_spliceAll {d : Dev} : KeepsPower d (spliceAll d) :=
  .foldl (fun _ _ => keepsPower_raise.after (keepsPower_count.after keepsPower_pieces)) _ _

theorem keepsPower_clusterDomain {want : Nat → Nat} {d0 d : Dev} {c : Nat} : KeepsPower d (clusterDomain want d0 d c) := by
  simp only [clusterDomain]
  exact .ite (.of_only moves_holdCluster.frame.1 (by decide) (by decide)) (.ite keepsPower_pieces .refl)

theorem keepsPower_hostResetDrawer {d0 d : Dev} {n : Nat} : KeepsPower d (hostResetDrawer d0 d n) :=
  .after keepsPower_pieces (.ite (.of_only moves_flushDrawer.frame.1 (by decide) (by decide)) .refl)

theorem keepsPower_ringStop {n : Nat} {d : Dev} : KeepsPower d (ringStop n d) := keepsPower_pieces

theorem keepsPower_resetRegs {rs : List Reg} {d : Dev} : KeepsPower d (resetRegs rs d) := .foldl (fun _ _ => keepsPower_pieces) _ _

theorem keepsPower_modPath {p : Path} {f : PathSt → PathSt} {d : Dev} : KeepsPower d (modPath p f d) :=
  .of_only moves_modPath.frame.1 (by decide) (by decide)

theorem keepsPower_hostPathReset {d : Dev} : KeepsPower d (hostPathReset d) := by
  have owed : ∀ {e : Dev}, KeepsPower d e → KeepsPower d (
      let e := { e with dic := { e.dic with l := { e.dic.l with owed := none } } }
      if fld e fMB_STATUS_STATE 0 = 1 then setFld fMB_STATUS_STATE 0 0 e else e) := fun h =>
    .ite (keepsPower_setFld.after (keepsPower_pieces.after h)) (keepsPower_pieces.after h)
  simp only [hostPathReset]
  refine owed ?_
  split
  · exact .refl
  · exact keepsPower_modPath
  · exact .ite keepsPower_modPath (.ite keepsPower_modPath (keepsPower_raise.after keepsPower_modPath))

theorem keepsPower_hostReset {lost : Bool} {d : Dev} : KeepsPower d (hostReset lost d) := by
  have dropped : KeepsPower d (dropHostFrames d) := keepsPower_countN.after keepsPower_pieces
  simp only [hostReset]
  refine keepsPower_hostPathReset.after (keepsPower_count.after (keepsPower_raise.after (.after keepsPower_pieces ?_)))
  refine keepsPower_resetRegs.after (.after keepsPower_pieces (keepsPower_ringStop.after (keepsPower_ringStop.after ?_)))
  exact .after (.foldl (fun _ _ => keepsPower_hostResetDrawer) _ _) dropped

theorem keepsPower_coldDomains {want : Nat → Nat} {d0 d : Dev} : KeepsPower d (coldDomains want d0 d) := by
  have zeroed : ∀ {gone : Nat → Bool} {e : Dev}, KeepsPower e (zeroCounters gone e) :=
    .after (.foldl (fun _ _ => .ite (keepsPower_raise.after keepsPower_setReg) .refl) _ _) keepsPower_pieces
  simp only [coldDomains]
  exact .after (keepsPower_pwr rfl rfl) (.after (.ite keepsPower_pieces .refl) (.after (.ite .refl zeroed)
    (.ite .refl keepsPower_pieces)))

theorem keepsPower_cutDark {n : Nat} {d : Dev} : KeepsPower d (cutBurst n (forceLow n d)) := by
  have cut : ∀ {e : Dev}, KeepsPower e (cutBurst n e) := .of_only (frame_cutBurst n _).1 (by decide) (by decide)
  refine cut.after ?_
  simp only [forceLow]
  exact .ite (cut.after keepsPower_pieces) .refl

theorem keepsPower_darkLine {d : Dev} : KeepsPower d (darkLine d) :=
  .after keepsPower_pieces (keepsPower_abandonGrants.after (.foldl (fun _ _ => keepsPower_cutDark) _ _))

theorem keepsPower_ltStop {d : Dev} : KeepsPower d (ltStop d) :=
  .after keepsPower_pieces (.after (.ite keepsPower_pieces .refl) keepsPower_pieces)

theorem keepsPower_holdChanged {d0 d : Dev} : KeepsPower d (holdChanged d0 d) := .foldl (fun _ _ => keepsPower_pieces) _ _

theorem keepsPower_secretaryRelieves {d : Dev} : KeepsPower d (secretaryRelieves d) :=
  .of_only (frame_secretaryRelieves d).1 (by decide) (by decide)

/-! ## Settings that waited for their domain (R79, R521) -/

theorem keepsPower_flowEval {n : Nat} {d : Dev} : KeepsPower d (flowEval n d) := by
  have sent : ∀ {e : Dev} {bs : List Byte}, KeepsPower e (count .pauseSent n (sendFrame n bs e)) :=
    keepsPower_count.after (keepsPower_pieces.after (keepsPower_countN.after keepsPower_count))
  have paused : ∀ {off : Bool} {e : Dev}, KeepsPower e (sendPause n off e) := fun {off e} => by
    simp only [sendPause]
    exact .ite (.ite (keepsPower_raise.after (sent.after keepsPower_pieces)) (sent.after keepsPower_pieces)) keepsPower_pieces
  simp only [flowEval]
  exact .ite keepsPower_pieces (.ite (.ite paused .refl) (.ite paused .refl))

theorem keepsPower_setFlds {fs : List Fld} {n v : Nat} {d : Dev} :
    KeepsPower d (fs.foldl (fun d f => setFld f n v d) d) := .foldl (fun _ _ => keepsPower_setFld) _ _

theorem keepsPower_loadPort {e : EntryDef} {n v : Nat} {d : Dev} : KeepsPower d (loadPort e n v d) := by
  simp only [loadPort]
  exact .ite (keepsPower_laneRefresh.after keepsPower_setFlds) (.ite (.ite keepsPower_setFlds
    (keepsPower_laneRestart.after keepsPower_setFlds)) (.ite (keepsPower_flowEval.after keepsPower_setFlds) keepsPower_setFlds))

theorem keepsPower_setNodeShape {n s q : Nat} {d : Dev} : KeepsPower d (setNodeShape n s q d) :=
  .of_only moves_setNodeShape.frame.1 (by decide) (by decide)

theorem keepsPower_loadNode {n sub v : Nat} {d : Dev} : KeepsPower d (loadNode n sub v d) := by
  simp only [loadNode]
  exact .ite keepsPower_setNodeShape (.ite keepsPower_setNodeShape (.ite keepsPower_pieces keepsPower_pieces))

theorem keepsPower_writeGroup {i ports : Nat} {line host : Bool} {d : Dev} :
    KeepsPower d (writeGroup i ports line host d).2 := .of_only moves_writeGroup.frame.1 (by decide) (by decide)

theorem keepsPower_loadGroup {i sub v : Nat} {bs : List Byte} {d : Dev} : KeepsPower d (loadGroup i sub v bs d) := by
  simp only [loadGroup]
  split
  · exact keepsPower_writeGroup
  · split
    · exact keepsPower_writeGroup
    · exact keepsPower_writeGroup

theorem keepsPower_loadCabinet {sub : Nat} {bs : List Byte} {d : Dev} : KeepsPower d (loadCabinet sub bs d) := by
  simp only [loadCabinet]
  exact .ite (keepsPower_setFld.after keepsPower_setFld) (.ite (.foldl (fun _ _ => keepsPower_setFld) _ _)
    (keepsPower_setFld.after keepsPower_setFld))

theorem keepsPower_protSettings {f : Dev → Dev} {cause : BitVec 2} {d : Dev} (h : KeepsPower d (f d)) :
    KeepsPower d (protSettings f cause d) := by
  simp only [protSettings, protEnableChanged]
  exact keepsPower_protEval.after (.after (.ite (.ite keepsPower_toggle .refl) .refl) h)

theorem keepsPower_ltSettings {f : Dev → Dev} {d : Dev} (h : ∀ d, KeepsPower d (f d)) : KeepsPower d (ltSettings f d) := by
  have cancelled : ∀ {e : Dev}, KeepsPower e (cancelSet e) := .of_only moves_cancelSet.frame.1 (by decide) (by decide)
  have settled : KeepsPower d (ltEval (cancelSet (f (ltRebase d)))) :=
    keepsPower_ltEval.after (cancelled.after ((h _).after keepsPower_pieces))
  simp only [ltSettings]
  exact .ite (.after (.of_only moves_ppsFall.frame.1 (by decide) (by decide)) settled) settled

theorem keepsPower_trSettings {f : Dev → Dev} {d : Dev} (h : KeepsPower d (f d)) : KeepsPower d (trSettings f d) := by
  simp only [trSettings]
  exact .ite h (.after keepsPower_pieces (.ite (.after (.foldl (fun _ _ => keepsPower_setFld) _ _) h) h))

theorem keepsPower_tbSettings {k : Nat} {f : Dev → Dev} {d : Dev} (h : KeepsPower d (f d)) :
    KeepsPower d (tbSettings k f d) := by
  simp only [tbSettings, tribFresh]
  exact .ite h (keepsPower_setReg.after (.after keepsPower_pieces h))

theorem keepsPower_loadEntry {cause : BitVec 2} {e : EntryDef} {index sub dom : Nat} {d : Dev} :
    KeepsPower d (loadEntry cause e index sub dom d) := by
  simp only [loadEntry]
  refine .ite (keepsPower_protSettings keepsPower_setFlds) (.ite keepsPower_setFlds (.ite keepsPower_loadPort ?_))
  refine .ite keepsPower_loadNode (.ite keepsPower_loadNode (.ite keepsPower_pieces (.ite keepsPower_pieces ?_)))
  refine .ite keepsPower_loadGroup (.ite keepsPower_pieces (.ite (keepsPower_ltSettings fun _ => keepsPower_setFlds) ?_))
  refine .ite (keepsPower_trSettings keepsPower_setFlds) (.ite keepsPower_setFld ?_)
  refine .ite (keepsPower_tbSettings keepsPower_setFlds) (.ite keepsPower_loadCabinet ?_)
  exact .ite keepsPower_pieces keepsPower_setFlds

theorem keepsPower_loadDeferred {d : Dev} : KeepsPower d (loadDeferred d) := by
  simp only [loadDeferred]
  refine .ite .refl (.after (.foldl (fun d x => ?_) _ _) keepsPower_pieces)
  split
  · exact keepsPower_loadEntry
  · exact .refl

/-! ## The domains as a whole -/

theorem keepsPower_applyDomains {want : Nat → Nat} {d : Dev} : KeepsPower d (applyDomains want d) := by
  simp only [applyDomains]
  refine keepsPower_loadDeferred.after (.after (.ite keepsPower_lanesRefresh (.foldl (fun _ _ => keepsPower_laneRefresh) _ _)) ?_)
  refine keepsPower_holdChanged.after (.after (.ite (keepsPower_secretaryRelieves.after keepsPower_secretaryRelease) .refl) ?_)
  refine .after (.ite (keepsPower_ltStop.after keepsPower_darkLine) (.ite keepsPower_pieces .refl)) ?_
  refine keepsPower_coldDomains.after (.after (.ite keepsPower_hostReset .refl) ?_)
  refine .after (.foldl (fun _ _ => keepsPower_clusterDomain) _ _) (.after (.ite keepsPower_spliceAll .refl) ?_)
  exact .after (.foldl (fun _ _ => keepsPower_setPd) _ _) (keepsPower_pwr rfl rfl)

end Sys2Proof.Proofs
end

section
/-!
PROOF. Temperatures, voltages and rail 0 (R591 to R597, R627): what a sample keeps and raises, the record of a thermal
shutdown, its isolation, and the steps of rail 0's target.
-/

namespace Sys2Proof.Proofs

open Sys2Proof Sys2Proof.Machine Sys2Proof.Laws

section
variable {a d : Dev}

/-! ## The thermal hold (R202, R209) -/

/-- A thermal hold that ends darkens nothing and leaves the power controller, the monitors and every register but FS_EVENT. -/
theorem frame_thermalOver : Frame [.fs, .regs, .host, .emitted] [.fsEvent] d (thermalOver d) := by
  have ended : Frame [.fs, .regs, .host, .emitted] [.fsEvent] d { d with fs := { d.fs with thermal := false } } :=
    Frame_mono Moves.fs.frame (by decide) (by decide)
  simp only [thermalOver, setHolds, Bool.false_and, Bool.false_eq_true, if_false]
  exact Frame_ite _ (Frame_ite _ ended (Frame_step ended (Frame_mono moves_raise.frame (by decide) (by decide))))
    (Frame_refl _ _ d)

/-- The thermal hold begins. -/
def thermalHold (d : Dev) : Dev := setHolds (fun f => { f with thermal := true }) d

/-- What it may touch: every channel is made dark. -/
theorem frame_thermalHold : Frame darkPieces darkRegs d (thermalHold d) := by
  have held : Frame darkPieces darkRegs d { d with fs := { d.fs with thermal := true } } :=
    Frame_mono Moves.fs.frame (by decide) (by decide)
  have raised : ∀ e, Frame darkPieces darkRegs e (raise fFS_EVENT_HOLD_CHANGE 0 e) := fun _ =>
    Frame_mono moves_raise.frame (by decide) (by decide)
  have dark := Frame_step held (frame_forceAllLow _)
  simp only [thermalHold, setHolds]
  exact Frame_ite _ (Frame_ite _ dark held) (Frame_step (Frame_ite _ dark held) (raised _))

theorem thermal_thermalHold : (thermalHold d).fs.thermal = true := by
  rw [thermalHold]
  by_cases was : d.fs.thermal = true
  · rw [setHolds_fs was.symm]
  · simp only [setHolds, was, Bool.not_false, Bool.and_true, if_true]
    split
    · rw [forceAllLow_fs]
    · rw [raise_fs, forceAllLow_fs]

/-! ## The thermal shutdown (R592, R593) -/

/-- The shutdown has begun with its record: cause and sensor, FAULT_N and the thermal hold, the isolation due in 100 μs, and no
change, request or wake left. -/
def Tripped (cause sensor : Nat) (a d : Dev) : Prop :=
  d.pwr.shutdown = true ∧ d.pwr.isolateDue = some (a.now + 100 * Config.us) ∧ d.pwr.fault = true ∧ d.fs.thermal = true ∧
    d.pwr.change = none ∧ d.pwr.next = none ∧ d.pwr.wake = none ∧ fld d fTH_TRIP_CAUSE 0 = cause ∧
    fld d fTH_TRIP_SENSOR 0 = sensor

theorem Tripped.fsDrive {cause sensor : Nat} {f : Dev → Dev} (h : Tripped cause sensor a (f d)) :
    Tripped cause sensor a (fsDrive f d) := by
  simpa only [Tripped, fsDrive_pwr, fsDrive_fs, fld_fsDrive] using h

theorem setFault_fault (on : Bool) : (setFault on d).pwr = { d.pwr with fault := on } := by
  simp only [setFault]
  split
  next same => rw [← same]
  next => rfl

theorem setFault_regs (on : Bool) : (setFault on d).regs = d.regs := by
  simp only [setFault]
  split <;> rfl

theorem setFault_now (on : Bool) : (setFault on d).now = d.now := by
  simp only [setFault]
  split <;> rfl

/-- The power controller as a thermal shutdown leaves it. -/
def shutDown (now : Time) (p : PwrSt) : PwrSt :=
  { p with
    shutdown := true, isolateDue := some (now + 100 * Config.us), change := none, next := none, wake := none, stopping := [],
    lower := [], holdDue := none, restoreDue := none, lineTimer := none }

/-- The record of a shutdown: cause, sensor and time (R594). -/
def tripRecord (cause sensor : Nat) (d : Dev) : Dev :=
  setFld fTH_TRIP_CAUSE 0 cause (setFld fTH_TRIP_SENSOR 0 sensor (setFld fTH_TRIP_TIME 0 (alwaysOn d % 2 ^ 32) d))

theorem thermalTrip_eq {cause sensor : Nat} (up : d.pwr.shutdown = false) : thermalTrip cause sensor d =
    let e := setFault true (tripRecord cause sensor d)
    thermalHold { e with pwr := shutDown e.now e.pwr } :=
  if_neg (by rw [up]; decide)

/-- The thermal hold on a power controller that has shut down, with its record written. -/
theorem tripped_of_shutDown {cause sensor : Nat} {p : PwrSt} (pwr : d.pwr = shutDown a.now p) (fault : p.fault = true)
    (c : fld d fTH_TRIP_CAUSE 0 = cause) (s : fld d fTH_TRIP_SENSOR 0 = sensor) : Tripped cause sensor a (thermalHold d) := by
  have hold := frame_thermalHold (d := d)
  have held : (thermalHold d).pwr = d.pwr := hold.1 .pwr (by decide)
  rw [Tripped, held, pwr, Frame_fld hold (by decide) (by decide), Frame_fld hold (by decide) (by decide), c, s]
  exact ⟨rfl, rfl, fault, thermal_thermalHold, rfl, rfl, rfl, rfl, rfl⟩

theorem cause_tripRecord {cause sensor : Nat} (c : cause < 16) : fld (tripRecord cause sensor d) fTH_TRIP_CAUSE 0 = cause :=
  fld_setFld_fits (by decide) (by decide) c

theorem sensor_tripRecord {cause sensor : Nat} (s : sensor < 32) :
    fld (tripRecord cause sensor d) fTH_TRIP_SENSOR 0 = sensor := by
  rw [tripRecord, fld_setFld_apart fTH_TRIP_CAUSE fTH_TRIP_SENSOR 0 _ _ rfl (by decide) (by decide) (by decide) (by decide)]
  exact fld_setFld_fits (by decide) (by decide) s

theorem tripRecord_now {cause sensor : Nat} : (tripRecord cause sensor d).now = d.now := by
  rw [tripRecord, setFld_now, setFld_now, setFld_now]

theorem thermalTrip_tripped {cause sensor : Nat} (up : d.pwr.shutdown = false) (c : cause < 16) (s : sensor < 32) :
    Tripped cause sensor d (thermalTrip cause sensor d) := by
  have causeRead := cause_tripRecord (d := d) (sensor := sensor) c
  have sensorRead := sensor_tripRecord (d := d) (cause := cause) s
  have now := tripRecord_now (d := d) (cause := cause) (sensor := sensor)
  rw [thermalTrip_eq up]
  generalize tripRecord cause sensor d = e at causeRead sensorRead now ⊢
  have regs := setFault_regs (d := e) true
  have faulty := congrArg PwrSt.fault (setFault_fault (d := e) true)
  have instant := (setFault_now (d := e) true).trans now
  generalize setFault true e = x at regs faulty instant ⊢
  refine tripped_of_shutDown (d := { x with pwr := shutDown x.now x.pwr }) (p := x.pwr) (congrArg (shutDown · x.pwr) instant)
    faulty ?_ ?_
  · exact (fld_of_regs (b := { x with pwr := shutDown x.now x.pwr }) regs fTH_TRIP_CAUSE 0).trans causeRead
  · exact (fld_of_regs (b := { x with pwr := shutDown x.now x.pwr }) regs fTH_TRIP_SENSOR 0).trans sensorRead

/-! ## Samples of the die and reports of a stack (R591, R592) -/

@[simp] theorem dieSensor_setDie (n : Nat) (x : DieSensor) : dieSensor (setDie n x d) n = x := agetD_aputD_same _ _ _ _

@[simp] theorem stackTemp_setStack (n : Nat) (x : StackTemp) : stackTemp (setStack n x d) n = x := agetD_aputD_same _ _ _ _

theorem dieSensor_of_mon {b c : Dev} (h : c.mon = b.mon) (n : Nat) : dieSensor c n = dieSensor b n := by
  rw [dieSensor, dieSensor, h]

theorem stackTemp_of_mon {b c : Dev} (h : c.mon = b.mon) (n : Nat) : stackTemp c n = stackTemp b n := by
  rw [stackTemp, stackTemp, h]

theorem setDie_pwr (n : Nat) (x : DieSensor) : (setDie n x d).pwr = d.pwr := rfl

theorem setStack_pwr (n : Nat) (x : StackTemp) : (setStack n x d).pwr = d.pwr := rfl

/-- A die sensor's highest temperature once it has been sampled. -/
def peakAfter (x : DieSensor) (temp : Int) : Option Int := some (match x.peak with | some p => max p temp | none => temp)

theorem dieSample_outside {n : Nat} {temp : Int} (h : temp < -240 ∨ 600 < temp) : dieSample n temp d =
    raiseIf (!(dieSensor d n).excluded) fTH_EVENT_SENSOR_FAIL 0
      (setDie n { temp := temp, peak := peakAfter (dieSensor d n) temp, excluded := true } d) := if_pos h

/-- A sensor's record after a sample within the range, with its runs at the limits. -/
def dieRecord (n : Nat) (temp : Int) (warn limit : Nat) (d : Dev) : Dev :=
  raiseIf (warn == 2) fTH_EVENT_DIE_WARN 0
    (setDie n { temp := temp, peak := peakAfter (dieSensor d n) temp, warnRun := warn, limitRun := limit } d)

/-- A run at a limit, at most 2. -/
def nextRun (hot : Prop) [Decidable hot] (run : Nat) : Nat := if hot then min 2 (run + 1) else 0

theorem nextRun_hot {hot : Prop} [Decidable hot] {run : Nat} (h : hot) (r : 1 ≤ run) : nextRun hot run = 2 :=
  (if_pos h).trans (by omega)

theorem nextRun_cool {hot : Prop} [Decidable hot] {run : Nat} (h : ¬ hot) : nextRun hot run = 0 := if_neg h

theorem dieSample_inside {n : Nat} {temp : Int} (h : -240 ≤ temp) (k : temp ≤ 600) : dieSample n temp d =
    let warn := nextRun ((fld d fTH_CFG_TEMP_WARN 0 : Int) * 4 ≤ temp) (dieSensor d n).warnRun
    let limit := nextRun ((fld d fTH_CFG_TEMP_LIMIT 0 : Int) * 4 ≤ temp) (dieSensor d n).limitRun
    if limit = 2 then thermalTrip 1 n (dieRecord n temp warn limit d) else thermalOver (dieRecord n temp warn limit d) :=
  if_neg (by omega)

theorem dieSensor_dieRecord (n : Nat) (temp : Int) (warn limit : Nat) : dieSensor (dieRecord n temp warn limit d) n =
    { temp := temp, peak := peakAfter (dieSensor d n) temp, warnRun := warn, limitRun := limit } := by
  rw [dieRecord, dieSensor_of_mon (raiseIf_mon ..), dieSensor_setDie]

theorem dieRecord_pwr (n : Nat) (temp : Int) (warn limit : Nat) : (dieRecord n temp warn limit d).pwr = d.pwr := by
  rw [dieRecord, raiseIf_pwr, setDie_pwr]

theorem dieRecord_now (n : Nat) (temp : Int) (warn limit : Nat) : (dieRecord n temp warn limit d).now = d.now :=
  moves_raiseIf.frame.1 .now (by decide)

/-- Below TEMP_LIMIT a sample leaves its record, the power controller, and DIE_WARN at its second in a row. -/
theorem dieSample_cool {n : Nat} {temp : Int} (h : -240 ≤ temp) (k : temp ≤ 600)
    (cool : temp < (fld d fTH_CFG_TEMP_LIMIT 0 : Int) * 4) :
    let warn := nextRun ((fld d fTH_CFG_TEMP_WARN 0 : Int) * 4 ≤ temp) (dieSensor d n).warnRun
    dieSensor (dieSample n temp d) n = { temp := temp, peak := peakAfter (dieSensor d n) temp, warnRun := warn } ∧
      (dieSample n temp d).pwr = d.pwr ∧ (warn = 2 → fld (dieSample n temp d) fTH_EVENT_DIE_WARN 0 = 1) := by
  rw [dieSample_inside h k]
  simp only [nextRun_cool (Int.not_le.2 cool), OfNat.zero_ne_ofNat, if_false]
  generalize nextRun ((fld d fTH_CFG_TEMP_WARN 0 : Int) * 4 ≤ temp) (dieSensor d n).warnRun = warn
  refine ⟨?_, ?_, fun twice => ?_⟩
  · exact (dieSensor_of_mon (frame_thermalOver.1 .mon (by decide)) n).trans (dieSensor_dieRecord n temp warn 0)
  · exact (frame_thermalOver.1 .pwr (by decide)).trans (dieRecord_pwr n temp warn 0)
  · rw [Frame_fld frame_thermalOver (by decide) (by decide), dieRecord, twice]
    exact fld_raise_same _ _ _ (by decide) (by decide)

/-- The second sample in a row at TEMP_LIMIT begins the shutdown. -/
theorem dieSample_trips {n : Nat} {temp : Int} (h : -240 ≤ temp) (k : temp ≤ 600)
    (hot : (fld d fTH_CFG_TEMP_LIMIT 0 : Int) * 4 ≤ temp) (run : 1 ≤ (dieSensor d n).limitRun)
    (up : d.pwr.shutdown = false) (small : n < 32) : Tripped 1 n d (dieSample n temp d) := by
  rw [dieSample_inside h k]
  simp only [nextRun_hot hot run, if_true]
  generalize nextRun ((fld d fTH_CFG_TEMP_WARN 0 : Int) * 4 ≤ temp) (dieSensor d n).warnRun = warn
  have record := thermalTrip_tripped (d := dieRecord n temp warn 2 d) (cause := 1) (sensor := n)
    (by rw [dieRecord_pwr, up]) (by decide) small
  rwa [Tripped, dieRecord_now, ← Tripped] at record

/-- A stack's record after a report, with HBM_WARN where it is met. -/
def stackRecord (n temp limit : Nat) (d : Dev) : Dev :=
  raiseIf (decide (fld d fTH_CFG_HBM_WARN 0 ≤ temp)) fTH_EVENT_HBM_WARN 0
    (setStack n { temp := temp, valid := true, limitRun := limit } d)

theorem hbmReport_eq (n temp : Nat) : hbmReport n temp d =
    let limit := nextRun (fld d fTH_CFG_HBM_LIMIT 0 ≤ temp) (stackTemp d n).limitRun
    if limit = 2 then thermalTrip 3 (16 + n) (stackRecord n temp limit d) else thermalOver (stackRecord n temp limit d) := rfl

theorem hbmReport_cool {n temp : Nat} (cool : temp < fld d fTH_CFG_HBM_LIMIT 0) :
    stackTemp (hbmReport n temp d) n = { temp := temp, valid := true } ∧ (hbmReport n temp d).pwr = d.pwr ∧
      (fld d fTH_CFG_HBM_WARN 0 ≤ temp → fld (hbmReport n temp d) fTH_EVENT_HBM_WARN 0 = 1) := by
  rw [hbmReport_eq]
  simp only [nextRun_cool (Nat.not_le.2 cool), OfNat.zero_ne_ofNat, if_false]
  refine ⟨?_, ?_, fun warm => ?_⟩
  · refine (stackTemp_of_mon (frame_thermalOver.1 .mon (by decide)) n).trans ?_
    rw [stackRecord, stackTemp_of_mon (raiseIf_mon ..), stackTemp_setStack]
  · refine Eq.trans (frame_thermalOver.1 .pwr (by decide)) ?_
    rw [stackRecord, raiseIf_pwr, setStack_pwr]
  · rw [Frame_fld frame_thermalOver (by decide) (by decide), stackRecord, decide_eq_true warm]
    exact fld_raise_same _ _ _ (by decide) (by decide)

theorem hbmReport_trips {n temp : Nat} (hot : fld d fTH_CFG_HBM_LIMIT 0 ≤ temp) (run : 1 ≤ (stackTemp d n).limitRun)
    (up : d.pwr.shutdown = false) (small : 16 + n < 32) : Tripped 3 (16 + n) d (hbmReport n temp d) := by
  have now : (stackRecord n temp 2 d).now = d.now := moves_raiseIf.frame.1 .now (by decide)
  rw [hbmReport_eq]
  simp only [nextRun_hot hot run, if_true]
  have record := thermalTrip_tripped (d := stackRecord n temp 2 d) (cause := 3) (sensor := 16 + n)
    (by rw [stackRecord, raiseIf_pwr, setStack_pwr, up]) (by decide) small
  rwa [Tripped, now, ← Tripped] at record

/-- A sensor that was not excluded raises SENSOR_FAIL as it is. -/
theorem sensorFail_raised {excluded : Bool} (h : excluded = false) :
    fld (raiseIf (!excluded) fTH_EVENT_SENSOR_FAIL 0 d) fTH_EVENT_SENSOR_FAIL 0 = 1 := by
  rw [h]
  exact fld_raise_same _ _ _ (by decide) (by decide)

/-! ## Isolation (R561, R593) -/

theorem dictNat_of_keepsPower {b c : Dev} (h : KeepsPower b c) {index : Nat} (past : 0x7010 ≤ index) (sub dflt : Nat) :
    dictNat c index sub dflt = dictNat b index sub dflt := by
  have key : allocKey (index * 256 + sub) = false := by
    simp only [allocKey, Bool.and_eq_false_iff, decide_eq_false_iff_not]
    omega
  rw [dictNat, dictNat, h.entries _ key]

/-- A rail's command to lower it reads the regulator map alone. -/
theorem railCommand_lower {b c : Dev} (h : KeepsPower b c) (r : Nat) : railCommand c r false = railCommand b r false := by
  have map := fun sub dflt => dictNat_of_keepsPower h (Nat.le_add_right 0x7010 r) sub dflt
  simp only [railCommand, map, Bool.false_eq_true, false_and, if_false]

theorem lowerNext_rail {r : Nat} {l : List Nat} (h : d.pwr.lower = r :: l) :
    lowerNext d = railRequest r false { d with pwr := { d.pwr with tries := 0 } } := by
  rw [lowerNext, h]

theorem thermalIsolate_isolates {r : Nat} {l : List Nat} (down : d.pwr.shutdown = true) (joined : d.pwr.isolated = false)
    (due : dueBy d.pwr.isolateDue d.now = true)
    (rails : [4, 3, 2, 1, 0].filter (fun r => railMapped d r && !d.pwr.railsDown.contains r) = r :: l) :
    (thermalIsolate d).pwr.isolated = true ∧ (thermalIsolate d).pwr.isolateDue = none ∧
      (thermalIsolate d).pwr.lower = r :: l ∧ .oscEn false ∈ (thermalIsolate d).emitted ∧
      railCommand d r false ∈ (thermalIsolate d).emitted := by
  have applied : KeepsPower d (applyDomains (domState d 4 false) d) := keepsPower_applyDomains
  rw [thermalIsolate, if_pos ⟨down, by simp [joined], due⟩, rails]
  generalize applyDomains (domState d 4 false) d = e at applied
  rw [lowerNext_rail (r := r) (l := l) rfl, railRequest, ← railCommand_lower applied r]
  exact ⟨rfl, rfl, rfl, List.mem_cons_of_mem _ List.mem_cons_self, List.mem_cons_self⟩

/-! ## Rails (R595, R627) -/

/-- A rail's reading kept. -/
def railKept (r mv : Nat) (d : Dev) : Dev := { d with mon := { d.mon with rails := aputD d.mon.rails r mv 0 } }

/-- A reading is outside its window, for rail 0 one about its target. -/
def outside (r mv : Nat) (d : Dev) : Bool :=
  if r = 0 then decide (mv + fld d fTH_VWIN_LOW r < d.mon.avsTarget) || decide (d.mon.avsTarget + fld d fTH_VWIN_HIGH r < mv)
  else decide (mv < fld d fTH_VWIN_LOW r) || decide (fld d fTH_VWIN_HIGH r < mv)

theorem voltageSample_eq (r mv : Nat) : voltageSample r mv d =
    if outside r mv d then raise fTH_EVENT_V_OUT 0 (count .monOut 0 (railKept r mv d)) else railKept r mv d := rfl

theorem voltageSample_flags {r mv : Nat} (h : outside r mv d = true) : agetD (voltageSample r mv d).mon.rails r 0 = mv ∧
    counter (voltageSample r mv d) .monOut 0 = counter d .monOut 0 + 1 ∧
    fld (voltageSample r mv d) fTH_EVENT_V_OUT 0 = 1 := by
  rw [voltageSample_eq, if_pos h]
  refine ⟨?_, ?_, fld_raise_same _ _ _ (by decide) (by decide)⟩
  · rw [raise_mon, count_mon]
    exact agetD_aputD_same _ _ _ _
  · rw [counter_raise, counter_count_same]
    rfl

theorem voltageSample_within {r mv : Nat} (h : outside r mv d = false) : voltageSample r mv d = railKept r mv d := by
  rw [voltageSample_eq, h]
  rfl

/-- Rail 0 is tracked once it is on (R627). -/
theorem tracked (mapped : railMapped d 0 = true) (past : 3 ≤ fld d fGL_BOOT_STEP 0)
    (on : d.pwr.railsDown.contains 0 = false) (joined : d.pwr.isolated = false) :
    ¬ (¬ railMapped d 0 = true ∨ fld d fGL_BOOT_STEP 0 < 3 ∨ d.pwr.railsDown.contains 0 = true ∨ d.pwr.isolated = true) := by
  rw [mapped, on, joined]
  simpa using past

/-- Rail 0's target is taken up, from its boot level at once (R627). -/
theorem avsTrack_boots {asked : Nat} (mapped : railMapped d 0 = true) (past : 3 ≤ fld d fGL_BOOT_STEP 0)
    (on : d.pwr.railsDown.contains 0 = false) (joined : d.pwr.isolated = false) (boot : fld d fGL_BOOT_RAIL0_BOOT 0 = 1) :
    (avsTrack asked d).mon.avs = avsBound asked ∧ (avsTrack asked d).mon.avsTarget = avsBound asked ∧
      fld (avsTrack asked d) fGL_BOOT_RAIL0_BOOT 0 = 0 := by
  have e : avsTrack asked d = setFld fGL_BOOT_RAIL0_BOOT 0 0
      { d with mon := { d.mon with avsTarget := avsBound asked, avs := avsBound asked, avsAt := some d.now } } :=
    (if_neg (tracked mapped past on joined)).trans (if_pos boot)
  rw [e]
  exact ⟨rfl, rfl, fld_setFld_same _ _ _ _ (by decide) (by decide)⟩

/-- A level after one step to its target (R627). -/
def avsMoved (level target : Nat) : Nat := if level < target then min target (level + 5) else max target (level - 5)

/-- Afterwards rail 0 moves by 5 mV at most (R627). -/
theorem avsTrack_steps {asked : Nat} {u : Time} (mapped : railMapped d 0 = true) (past : 3 ≤ fld d fGL_BOOT_STEP 0)
    (on : d.pwr.railsDown.contains 0 = false) (joined : d.pwr.isolated = false) (booted : fld d fGL_BOOT_RAIL0_BOOT 0 = 0)
    (last : d.mon.avsAt = some u) (waited : u + 10 * Config.ms ≤ d.now) :
    (avsTrack asked d).mon.avsTarget = avsBound asked ∧
      (avsTrack asked d).mon.avs = avsMoved d.mon.avs (avsBound asked) := by
  have notYet : ¬ d.now < u + 10 * Config.ms := Nat.not_lt.2 waited
  have flag : fld d fGL_BOOT_RAIL0_BOOT 0 ≠ 1 := by omega
  have e : avsTrack asked d = if d.mon.avs = avsBound asked then { d with mon := { d.mon with avsTarget := avsBound asked } }
      else { d with mon := { d.mon with
        avsTarget := avsBound asked, avsAt := some d.now, avs := avsMoved d.mon.avs (avsBound asked) } } := by
    refine (if_neg (tracked mapped past on joined)).trans ((if_neg flag).trans ?_)
    simp only [last, notYet, decide_false, Bool.false_eq_true, false_or]
    rfl
  rw [e]
  split
  next there =>
    refine ⟨rfl, there.trans ?_⟩
    rw [there, avsMoved, if_neg (Nat.lt_irrefl _)]
    omega
  next => exact ⟨rfl, rfl⟩

end

/-- Settles O53: a sample keeps its record and its run, the second in a row at the limit writes the record of the shutdown
before the thermal hold, the isolation leaves the regulator map of its rails, and rail 0 follows its target. -/
theorem monitorsAndShutdown : Obligations.MonitorsAndShutdown := by
  unfold Obligations.MonitorsAndShutdown
  refine ⟨fun t n temp => ?out, fun t n temp => ?cool, fun t n temp => ?warm, fun t n temp => ?hot, fun t n temp => ?report,
    fun t n temp => ?stackHot, fun t n => ?missed, fun n => ?peak, fun t n => ?trip, fun t n => ?again, fun t r l => ?isolate,
    fun t r mv => ?window, fun t r mv => ?target, fun t r mv => ?within, fun t v => ?boots, fun t v u => ?steps⟩
  case out =>
    refine runsAt_of (exec_dieTempSample t n temp) fun a h => ?_
    simp only [dieSensor_of_mon (fsDrive_mon ..), fsDrive_pwr, fld_fsDrive, dieSample_outside h,
      dieSensor_of_mon (raiseIf_mon ..), raiseIf_pwr, dieSensor_setDie, setDie_pwr, true_and]
    exact sensorFail_raised
  case cool =>
    refine runsAt_of (exec_dieTempSample t n temp) fun a ⟨above, below, unwarned, cool⟩ => ?_
    obtain ⟨record, pwr, _⟩ := dieSample_cool (n := n) above below cool
    rw [dieSensor_of_mon (fsDrive_mon ..), fsDrive_pwr, record, nextRun_cool (Int.not_le.2 unwarned)]
    exact ⟨rfl, pwr⟩
  case warm =>
    refine runsAt_of (exec_dieTempSample t n temp) fun a ⟨below, above, warm, cool, run⟩ => ?_
    obtain ⟨record, pwr, warned⟩ := dieSample_cool (n := n) above below cool
    rw [dieSensor_of_mon (fsDrive_mon ..), fsDrive_pwr, fld_fsDrive, record]
    have twice := nextRun_hot warm run
    exact ⟨warned twice, twice, pwr⟩
  case hot =>
    refine runsAt_of (exec_dieTempSample t n temp) fun a ⟨below, above, hot, run, up⟩ => ?_
    exact (dieSample_trips above below hot run up (n.isLt.trans (by decide : 16 < 32))).fsDrive
  case report =>
    refine runsAt_of (exec_hbmTempReport t n temp) fun a cool => ?_
    simpa only [stackTemp_of_mon (fsDrive_mon ..), fsDrive_pwr, fld_fsDrive] using hbmReport_cool cool
  case stackHot =>
    refine runsAt_of (exec_hbmTempReport t n temp) fun a ⟨hot, run, up⟩ => ?_
    exact (hbmReport_trips hot run up (by omega)).fsDrive
  case missed =>
    refine runsAt_of (exec_hbmReportMissed t n) fun a _ => ?_
    simp only [hbmMissed, stackTemp_of_mon (raiseIf_mon ..), stackTemp_setStack, true_and]
    exact sensorFail_raised
  case peak => exact runs_of (exec_temperaturePeakRead n) fun a _ => ⟨rfl, dieSensor_setDie n.val _⟩
  case trip =>
    refine runsAt_of (exec_hardwareThermalTrip t n) fun a up => ?_
    exact (thermalTrip_tripped up (by decide) (n.isLt.trans (by decide : 16 < 32))).fsDrive
  case again => exact runsAt_of (exec_hardwareThermalTrip t n) fun a down => fsDrive_of_same (if_pos down)
  case isolate =>
    refine runsAt_of (exec_thermalIsolation t) fun a ⟨down, joined, due, rails⟩ => ?_
    obtain ⟨isolated, done, lower, osc, rail⟩ := thermalIsolate_isolates down joined due rails
    rw [fsDrive_pwr]
    exact ⟨isolated, done, lower, List.contains_iff_mem.2 (fsDrive_emitted _ _ _ osc),
      List.contains_iff_mem.2 (fsDrive_emitted _ _ _ rail)⟩
  case window =>
    refine runsAt_of (exec_voltageSample t r mv) fun a ⟨other, out⟩ => voltageSample_flags ?_
    have rail : r.val ≠ 0 := fun zero => other (Fin.ext zero)
    rw [outside, if_neg rail]
    simpa only [Bool.or_eq_true, decide_eq_true_eq] using out
  case target =>
    refine runsAt_of (exec_voltageSample t r mv) fun a ⟨zero, out⟩ => voltageSample_flags ?_
    subst zero
    exact (congrArg₂ (· || ·) rfl rfl).trans ((Bool.or_eq_true_iff).2 (out.imp decide_eq_true decide_eq_true))
  case within =>
    refine runsAt_of (exec_voltageSample t r mv) fun a ⟨other, above, below⟩ => ?_
    have rail : r.val ≠ 0 := fun zero => other (Fin.ext zero)
    have inside : outside r mv.toNat a = false := by
      rw [outside, if_neg rail, Bool.or_eq_false_iff, decide_eq_false_iff_not, decide_eq_false_iff_not]
      exact ⟨Nat.not_lt.2 above, Nat.not_lt.2 below⟩
    rw [voltageSample_within inside]
    exact ⟨agetD_aputD_same _ _ _ _, rfl, rfl⟩
  case boots =>
    exact runsAt_of (exec_avsTrack t v) fun a ⟨mapped, past, on, joined, boot⟩ => avsTrack_boots mapped past on joined boot
  case steps =>
    exact runsAt_of (exec_avsTrack t v) fun a ⟨mapped, past, on, joined, booted, last, waited⟩ =>
      avsTrack_steps mapped past on joined booted last waited

end Sys2Proof.Proofs
end

section
/-!
PROOF. Wakes, battery timers and the controller's own requests (R548, R553, R557, R563 to R567): a wake from Deep sleep commands
its first rail, one from Sleep is complete at once whatever request it lets start, and a mains request begins its hold.
-/

namespace Sys2Proof.Proofs

open Sys2Proof Sys2Proof.Machine Sys2Proof.Laws

section
variable {a b c d : Dev}

/-! ## The events of the power controller stand -/

/-- From device a to device b the power controller's events are the same. -/
def KeepsPwEvent (a b : Dev) : Prop := reg b .pwEvent 0 = reg a .pwEvent 0

theorem KeepsPwEvent.refl : KeepsPwEvent d d := rfl

/-- A last step joined to those before it, found from the device that it leads to. -/
theorem KeepsPwEvent.after (k : KeepsPwEvent b c) (h : KeepsPwEvent a b) : KeepsPwEvent a c := Eq.trans k h

theorem KeepsPwEvent.ite {p : Prop} [Decidable p] (h : KeepsPwEvent a b) (k : KeepsPwEvent a c) :
    KeepsPwEvent a (if p then b else c) := by
  split
  · exact h
  · exact k

theorem KeepsPwEvent.foldl_mem {β : Type} {f : Dev → β → Dev} : ∀ {l : List β} {d : Dev},
    (∀ d x, x ∈ l → KeepsPwEvent d (f d x)) → KeepsPwEvent d (l.foldl f d)
  | [], _, _ => .refl
  | x :: _, d, h => (KeepsPwEvent.foldl_mem fun e y there => h e y (List.mem_cons_of_mem x there)).after
      (h d x List.mem_cons_self)

theorem KeepsPwEvent.of_regs (h : b.regs = a.regs) : KeepsPwEvent a b := reg_of_regs h _ _

theorem KeepsPwEvent.of_frame {ps : List Piece} {rs : List Reg} (h : Frame ps rs a b) (hr : .pwEvent ∉ rs) :
    KeepsPwEvent a b := h.2 .pwEvent 0 hr (by decide)

theorem KeepsPwEvent.fld (h : KeepsPwEvent a b) : fld b fPW_EVENT_WAKE 0 = fld a fPW_EVENT_WAKE 0 := by
  rw [Machine.fld, Machine.fld, h]

/-! ## Lanes and units that stop leave them (R228, R554) -/

theorem keepsPwEvent_raise {f : Fld} {i : Nat} (other : .pwEvent ≠ f.reg) (inside : i < (regPlace f.reg).2.2) :
    KeepsPwEvent d (raise f i d) := reg_raise_ne _ _ _ other inside (by decide)

theorem keepsPwEvent_raiseIf {p : Bool} {f : Fld} {i : Nat} (other : .pwEvent ≠ f.reg) (inside : i < (regPlace f.reg).2.2) :
    KeepsPwEvent d (raiseIf p f i d) := by
  simp only [raiseIf]
  exact .ite (keepsPwEvent_raise other inside) .refl

theorem keepsPwEvent_countN {n : CName} {k m : Nat} : KeepsPwEvent d (countN n k m d) := .of_frame moves_countN.frame (by decide)

theorem keepsPwEvent_count {n : CName} {k : Nat} : KeepsPwEvent d (count n k d) := keepsPwEvent_countN

theorem keepsPwEvent_setHolds {f : FsSt → FsSt} (h : (f d.fs).thermal = d.fs.thermal) : KeepsPwEvent d (setHolds f d) :=
  reg_setHolds h (by decide) (by decide)

theorem keepsPwEvent_protEval : KeepsPwEvent d (protEval d) := by
  have anew : KeepsPwEvent d (protPathAnew d) := .foldl_mem fun _ _ _ => .of_regs rfl
  have held : ∀ {e : Dev}, KeepsPwEvent e (protHold false e) := keepsPwEvent_setHolds rfl
  have holdoff : ∀ f, KeepsPwEvent d (protHold false (modProt f d)) := fun _ => held.after (.of_regs rfl)
  have normal : KeepsPwEvent d (protNormal d) := by
    simp only [protNormal, protHoldEnd]
    exact .ite (.after (keepsPwEvent_setHolds rfl) (.of_regs rfl)) (.of_regs rfl)
  simp only [protEval]
  refine .ite .refl ?_
  split
  · exact .ite (.ite normal .refl) (.ite (holdoff _) .refl)
  · exact .ite .refl normal
  · exact .ite normal .refl
  · exact .ite normal (.ite (holdoff _) .refl)
  · exact .refl

theorem keepsPwEvent_chanEval {ch : Nat} (inside : ch < 16) : KeepsPwEvent d (chanEval ch d) := by
  have fallen : KeepsPwEvent d (chanFall ch d) := by
    refine .after (.of_frame (frame_ltEval _) (by decide)) (.after (.of_frame (frame_actOnDown _) (by decide)) ?_)
    refine .after (.of_frame (frame_abandonGrants _ _) (by decide)) (.after (keepsPwEvent_raise (by decide) inside) ?_)
    exact .of_regs rfl
  simp only [chanEval]
  exact .ite .refl (.ite (.after (.of_frame (frame_actOnUp _) (by decide)) (.of_regs rfl)) fallen)

theorem keepsPwEvent_laneNoSignal {ch : Nat} {laneB : Bool} (inside : ch < 16) : KeepsPwEvent d (laneNoSignal ch laneB d) := by
  have los : ∀ e : Dev, KeepsPwEvent e (laneLos ch laneB e) := fun e => by
    cases laneB
    all_goals
      simp only [laneLos]
      refine .ite .refl ((keepsPwEvent_chanEval inside).after (.after (keepsPwEvent_raise (by decide) inside) ?_))
      exact .after (keepsPwEvent_raiseIf (by decide) inside) (.of_regs rfl)
  exact (los _).after (.of_regs rfl)

theorem keepsPwEvent_setLaneState {k st : Nat} {f : SerialLane → SerialLane} :
    KeepsPwEvent d (setLaneState k st f d) := by
  have moved : ∀ f, KeepsPwEvent d (modSerial k f d) := fun _ => .of_regs rfl
  have chan : keyChan k < 16 := by rw [keyChan]; omega
  simp only [setLaneState]
  split
  · split
    next low => exact (keepsPwEvent_raise (by decide) low).after (keepsPwEvent_count.after (moved _))
    next => exact .ite (keepsPwEvent_protEval.after ((keepsPwEvent_laneNoSignal chan).after
      (keepsPwEvent_count.after (moved _)))) (moved _)
  · split
    next up => exact (keepsPwEvent_raise (by decide) up.2.2).after (moved _)
    next => exact moved _

theorem keepsPwEvent_lanesRefresh : KeepsPwEvent d (lanesRefresh d) := by
  refine .foldl_mem fun e k _ => ?_
  have set : ∀ {st f}, KeepsPwEvent e (setLaneState k st f e) := keepsPwEvent_setLaneState
  simp only [laneRefresh]
  exact .ite .refl (.ite (.ite set .refl) (.ite .refl set))

theorem keepsPwEvent_stopUnits {r : PwReq} : KeepsPwEvent d (stopUnits r d) := by
  have stopped : ∀ s : List Nat, KeepsPwEvent d (lanesRefresh { d with pwr := { d.pwr with stopping := s } }) := fun _ =>
    keepsPwEvent_lanesRefresh.after (.of_regs rfl)
  have dropped : ∀ e : Dev, KeepsPwEvent e (dropInFlight e) := fun e => by
    simp only [dropInFlight]
    refine keepsPwEvent_countN.after (.after (.of_regs rfl) (.after (.foldl_mem fun _ _ _ => ?_) (.foldl_mem fun _ _ _ => ?_)))
    · exact .of_frame moves_replayDone.frame (by decide)
    · exact .of_frame moves_dropCopy.frame (by decide)
  simp only [stopUnits]
  exact .ite ((dropped _).after (stopped _)) (stopped _)

/-! ## A request that begins (R554 to R556) -/

theorem pwResult_change (o : PowerOrigin) (r n : Nat) : (pwResult o r n d).pwr.change = d.pwr.change := by
  match o with
  | .host | .entry .l | .entry .s | .entry .h | .controller => rfl

theorem keepsPwEvent_pwResult {o : PowerOrigin} {r n : Nat} : KeepsPwEvent d (pwResult o r n d) :=
  .of_frame (frame_pwResult o r n d) (by decide)

/-- A change set where there was none. -/
theorem keepsPower_setChange {x : Option PwChange} (free : d.pwr.change = none) : KeepsPower d (setChange x d) :=
  ⟨rfl, fun _ held => absurd (free.symm.trans held) (by simp), fun _ _ => rfl⟩

/-- The hold of a change leaves the course and the events, from the change on. -/
theorem holdBegin_keeps {x : PwChange} :
    KeepsPower (setChange (some { x with held := true, noticeDue := none }) d) (holdBegin x d) ∧
      KeepsPwEvent d (holdBegin x d) :=
  ⟨keepsPower_stopUnits.after (keepsPower_setHolds rfl),
    keepsPwEvent_stopUnits.after ((keepsPwEvent_setHolds rfl).after (.of_regs rfl))⟩

/-- A request below Deep sleep that does not rest on consent holds at once (R554). -/
theorem beginChange_mains {r : PwReq} (low : r.target < 4) : beginChange r d =
    holdBegin { req := r, phase := .pending, byLoss := !consented (idleExit d) r.target }
      (pwResult r.origin 1 0 { idleExit d with pwr := { (idleExit d).pwr with edge := none } }) :=
  if_neg (by omega)

/-- In Run, with no change in force, a request that begins leaves the course and the events. -/
theorem beginChange_keeps {r : PwReq} (run : d.pwr.state = 0) (free : d.pwr.change = none) :
    KeepsPower d (beginChange r d) ∧ KeepsPwEvent d (beginChange r d) := by
  have awake : idleExit d = d := if_neg (by omega)
  have pending : ∀ o, KeepsPower d (pwResult o 1 0 { d with pwr := { d.pwr with edge := none } }) := fun _ =>
    keepsPower_pwResult.after (keepsPower_pwr rfl rfl)
  have event : ∀ o, KeepsPwEvent d (pwResult o 1 0 { d with pwr := { d.pwr with edge := none } }) := fun _ =>
    keepsPwEvent_pwResult.after (.of_regs rfl)
  have none_ : ∀ o, (pwResult o 1 0 { d with pwr := { d.pwr with edge := none } }).pwr.change = none := fun _ =>
    (pwResult_change _ _ _).trans free
  simp only [beginChange, awake]
  split
  · refine ⟨(keepsPower_setChange ?_).after (keepsPower_pieces.after (pending _)), .after (.of_regs rfl) (event _)⟩
    exact none_ _
  · exact ⟨holdBegin_keeps.1.after ((keepsPower_setChange (none_ _)).after (pending _)), holdBegin_keeps.2.after (event _)⟩

theorem takeSlot_keeps {r : PwReq} (run : d.pwr.state = 0) (free : d.pwr.change = none) :
    KeepsPower d (takeSlot r d) ∧ KeepsPwEvent d (takeSlot r d) := by
  simp only [takeSlot]
  split
  · exact ⟨keepsPower_pwResult, keepsPwEvent_pwResult⟩
  · split
    · exact ⟨keepsPower_pwResult.after (keepsPower_setChange free), keepsPwEvent_pwResult.after (.of_regs rfl)⟩
    · exact beginChange_keeps run free

/-- In Run the request that waited leaves the course and the events as it starts (R555). -/
theorem startNext_keeps (run : d.pwr.state = 0) : KeepsPower d (startNext d) ∧ KeepsPwEvent d (startNext d) := by
  simp only [startNext]
  split
  next r _ =>
    split
    · exact ⟨.refl, .refl⟩
    next ready =>
      have free : d.pwr.change = none := Option.not_isSome_iff_eq_none.1 fun held => ready (.inl held)
      obtain ⟨power, event⟩ := takeSlot_keeps (r := r) (d := { d with pwr := { d.pwr with next := none } }) run free
      exact ⟨power.after (keepsPower_pwr rfl rfl), event.after (.of_regs rfl)⟩
  next => exact ⟨.refl, .refl⟩

/-! ## Wakes (R563, R567) -/

theorem keepsPower_setProfilePw {life mains : Bool} : KeepsPower d (setProfilePw life mains d) := by
  simp only [setProfilePw]
  exact .ite (keepsPower_raise.after (keepsPower_count.after (keepsPower_pwr rfl rfl)))
    (.ite (keepsPower_raise.after (keepsPower_pwr rfl rfl)) (keepsPower_pwr rfl rfl))

theorem keepsPower_emit {e : Emission} : KeepsPower d (emit e d) := .same rfl rfl

theorem keepsPower_deliverHeld : KeepsPower d (deliverHeld d) := by
  simp only [deliverHeld]
  exact .after (.foldl (fun _ _ => keepsPower_emit) _ _) (keepsPower_pwr rfl rfl)

theorem keepsPower_setFault {on : Bool} : KeepsPower d (setFault on d) := by
  simp only [setFault]
  exact .ite .refl (keepsPower_emit.after (keepsPower_pwr rfl rfl))

/-- The failed wakes counted: an entry of the dictionary past the course. -/
theorem course_countFails : powerCourse (countFails d).pwr = powerCourse d.pwr := by
  simp only [countFails]
  split <;> rfl

/-- A wake from Sleep leads to Run, with the WAKE level as it was and its event. -/
theorem finishWake_awake {w : PwWake} (sleep : w.from_ ≠ 3) : (finishWake w d).pwr.state = 0 ∧
    (finishWake w d).pwr.wakeHigh = d.pwr.wakeHigh ∧ fld (finishWake w d) fPW_EVENT_WAKE 0 = 1 := by
  have up : ∀ e : Dev, powerCourse (powerHoldEnd (deliverHeld (countFails (setFault false (endConsent
      (applyDomains (domState (setProfilePw w.lifeline true e) 0 w.lifeline) (setProfilePw w.lifeline true e))))))).pwr =
        powerCourse e.pwr := fun e =>
    (keepsPower_powerHoldEnd.after keepsPower_deliverHeld).course.trans (course_countFails.trans
      (keepsPower_setFault.after (keepsPower_endConsent.after (keepsPower_applyDomains.after keepsPower_setProfilePw))).course)
  have course := up { d with pwr := { d.pwr with state := 0, wake := none } }
  simp only [finishWake, if_neg sleep]
  generalize powerHoldEnd _ = e at course ⊢
  have raised : (restoreTimer (raise fPW_EVENT_WAKE 0 e)).pwr =
      { e.pwr with restoreDue := (restoreTimer (raise fPW_EVENT_WAKE 0 e)).pwr.restoreDue } := by
    rw [restoreTimer, raise_pwr]
  have event : fld (restoreTimer (raise fPW_EVENT_WAKE 0 e)) fPW_EVENT_WAKE 0 = 1 :=
    (fld_of_regs rfl _ _).trans (fld_raise_same fPW_EVENT_WAKE 0 e (by decide) (by decide))
  rw [raised]
  exact ⟨congrArg Prod.fst course, congrArg (·.2.1) course, event⟩

/-- A source that wakes Deep sleep, recorded and counted. -/
def wakeNoted (source : Nat) (d : Dev) : Dev := if source = 0 then d else count .pwWakes source (recordWake source false d)

/-- The wake that a source begins. -/
def wakeOf (source : Nat) (d : Dev) : PwWake :=
  { source := source, from_ := d.pwr.state, lifeline := onBattery d, raise := (railsOff d.pwr.state).filter (railMapped d) }

/-- A device whose line timer and edge are cleared for a wake. -/
def wakeReady (d : Dev) : Dev := { d with pwr := { d.pwr with lineTimer := none, edge := none } }

theorem startWake_eq {source : Nat} (low : 2 ≤ d.pwr.state) (free : d.pwr.change = none) (down : d.pwr.wake = none)
    (cool : d.pwr.shutdown = false) : startWake source d =
      let e := wakeReady (wakeNoted source d)
      if e.pwr.state = 2 then wakeDone (wakeOf source (wakeNoted source d)) e
      else raiseNext (wakeOf source (wakeNoted source d)) e :=
  if_neg (by simp [free, down, cool]; omega)

/-- A recorded source leaves everything but its record and its counter. -/
theorem frame_wakeNoted {source : Nat} : Frame countPieces (.pwWake :: countRegs) d (wakeNoted source d) := by
  rw [wakeNoted]
  refine Frame_ite _ (Frame_refl _ _ d) (Frame_step (b := recordWake source false d) ?_ ?_)
  · exact Frame_mono (frame_setReg .pwWake 0 _ d (by decide)) (by decide) (by decide)
  · exact Frame_mono (frame_countN .pwWakes source 1 _) (by decide) (by decide)

theorem railMapped_of_dict (h : b.dict = a.dict) : railMapped b = railMapped a := by
  funext r
  rw [railMapped, railMapped, dictNat, dictNat, h]

theorem railCommand_of_pieces (dict : b.dict = a.dict) (mon : b.mon = a.mon) (r : Nat) (on : Bool) :
    railCommand b r on = railCommand a r on := by
  simp only [railCommand, dictNat, avsGoal, dieSensor, dict, mon]

theorem wakeOf_wakeNoted {source : Nat} : wakeOf source (wakeNoted source d) = wakeOf source d := by
  have noted := (frame_wakeNoted (source := source) (d := d)).1
  have pwr : (wakeNoted source d).pwr = d.pwr := noted .pwr (by decide)
  have act : (wakeNoted source d).act = d.act := noted .act (by decide)
  rw [wakeOf, wakeOf, pwr, railMapped_of_dict (noted .dict (by decide)), onBattery, onBattery, act]

/-- The first rail is commanded, with the wake under way and no line timer left. -/
def Waking (source r : Nat) (l : List Nat) (a d : Dev) : Prop :=
  d.pwr.wake = some { source := source, from_ := 3, raise := r :: l, lifeline := onBattery a } ∧
    d.emitted = railCommand a r true :: (wakeNoted source a).emitted ∧ d.pwr.lineTimer = none ∧ d.pwr.wakeHigh = a.pwr.wakeHigh

/-- In Deep sleep a source commands the first rail up (R567). -/
theorem startWake_wakes {source r : Nat} {l : List Nat} (deep : d.pwr.state = 3) (free : d.pwr.change = none)
    (down : d.pwr.wake = none) (cool : d.pwr.shutdown = false) (rails : (railsOff 3).filter (railMapped d) = r :: l) :
    Waking source r l d (startWake source d) := by
  have noted := (frame_wakeNoted (source := source) (d := d)).1
  have pwr : (wakeNoted source d).pwr = d.pwr := noted .pwr (by decide)
  have wake : wakeOf source d = { source := source, from_ := 3, lifeline := onBattery d, raise := r :: l } := by
    rw [wakeOf, deep, rails]
  have ready : (wakeReady (wakeNoted source d)).pwr = { d.pwr with lineTimer := none, edge := none } := by
    rw [wakeReady, pwr]
  have dict : (wakeReady (wakeNoted source d)).dict = d.dict := noted .dict (by decide)
  have mon : (wakeReady (wakeNoted source d)).mon = d.mon := noted .mon (by decide)
  have listed : (wakeReady (wakeNoted source d)).emitted = (wakeNoted source d).emitted := rfl
  rw [startWake_eq (by omega) free down cool]
  simp only [ready, deep, wakeOf_wakeNoted, wake]
  rw [if_neg (by decide)]
  generalize wakeReady (wakeNoted source d) = e at ready dict mon listed ⊢
  have timer : e.pwr.lineTimer = none := by rw [ready]
  have level : e.pwr.wakeHigh = d.pwr.wakeHigh := by rw [ready]
  refine ⟨rfl, ?_, timer, level⟩
  refine congrArg₂ List.cons ?_ listed
  exact railCommand_of_pieces dict mon r true

/-- A wake from Sleep is complete at once, whatever request starts with it (R555, R567). -/
theorem wakeDone_awake {w : PwWake} (sleep : w.from_ ≠ 3) : (wakeDone w d).pwr.state = 0 ∧
    (wakeDone w d).pwr.wakeHigh = d.pwr.wakeHigh ∧ fld (wakeDone w d) fPW_EVENT_WAKE 0 = 1 := by
  obtain ⟨run, level, event⟩ := finishWake_awake (d := d) sleep
  rw [wakeDone]
  obtain ⟨power, events⟩ := startNext_keeps run
  exact ⟨(congrArg Prod.fst power.course).trans run, (congrArg (·.2.1) power.course).trans level, events.fld.trans event⟩

theorem startWake_sleep {source : Nat} (sleep : d.pwr.state = 2) (free : d.pwr.change = none) (down : d.pwr.wake = none)
    (cool : d.pwr.shutdown = false) : (startWake source d).pwr.state = 0 ∧
      (startWake source d).pwr.wakeHigh = d.pwr.wakeHigh ∧ fld (startWake source d) fPW_EVENT_WAKE 0 = 1 := by
  have pwr : (wakeNoted source d).pwr = d.pwr := frame_wakeNoted.1 .pwr (by decide)
  have state : (wakeReady (wakeNoted source d)).pwr.state = 2 := (congrArg PwrSt.state pwr).trans sleep
  have high : (wakeReady (wakeNoted source d)).pwr.wakeHigh = d.pwr.wakeHigh := by rw [wakeReady, pwr]
  have from_ : (wakeOf source (wakeNoted source d)).from_ = 2 := (congrArg PwrSt.state pwr).trans sleep
  have e := (startWake_eq (source := source) (by omega) free down cool).trans (if_pos state)
  obtain ⟨run, level, event⟩ := wakeDone_awake (w := wakeOf source (wakeNoted source d))
    (d := wakeReady (wakeNoted source d)) (by rw [from_]; decide)
  rw [e]
  exact ⟨run, level.trans high, event⟩

theorem wakeBy_free {source : Nat} {edge : Bool} (free : d.pwr.change = none) : wakeBy source edge d = startWake source d := by
  rw [wakeBy, free]

/-! ## The controller's own requests (R553, R557) -/

/-- A request of the controller for Run that nothing refuses or delays begins its hold at once. -/
theorem submitReq_begins {r : PwReq} (own : r.origin = .controller) (mains : r.target ≤ 2)
    (fits : r.target = 2 → fld d fPW_LL_LL_GROUP 0 < d.part.groups) (run : d.pwr.state ≤ 1) (free : d.pwr.change = none)
    (down : d.pwr.wake = none) (other : inForce d r.target = false) (open_ : pwBlocked d = false) :
    (submitReq r d).2 = beginChange r d := by
  have accepted : refusal r d = none := by
    simp only [refusal]
    rw [if_neg (by omega), if_neg (by omega), if_neg (by omega), if_neg (by omega), if_neg fun h => ?_]
    exact Nat.lt_irrefl _ (Nat.lt_of_lt_of_le (fits h.1) h.2)
  have stays : needsWake d r = false := by
    rw [needsWake, decide_eq_false (by omega), Bool.false_and]
  have kept : abortsReq r d = false := by rw [abortsReq, own]; rfl
  simp only [submitReq, accepted, kept, Bool.false_eq_true, if_false, placeReq, free, acceptReq, down, Option.isSome_none,
    stays, takeSlot, other, open_]

/-- A request for Run that has begun is pending, its hold running, with the battery timers as they were. -/
theorem beginChange_pending {r : PwReq} (mains : r.target ≤ 2) (own : r.origin = .controller) :
    (∃ x, (beginChange r d).pwr.change = some x ∧ x.req = r ∧ x.phase = .pending ∧ x.held = true) ∧
      (beginChange r d).pwr.holdDue = d.pwr.holdDue ∧ (beginChange r d).pwr.restoreDue = d.pwr.restoreDue := by
  have timers : (idleExit d).pwr.holdDue = d.pwr.holdDue ∧ (idleExit d).pwr.restoreDue = d.pwr.restoreDue := by
    simp only [idleExit]
    split <;> exact ⟨rfl, rfl⟩
  rw [beginChange_mains (by omega), own]
  obtain ⟨power, _⟩ := holdBegin_keeps (x := { req := r, phase := .pending, byLoss := !consented (idleExit d) r.target })
    (d := pwResult .controller 1 0 { idleExit d with pwr := { (idleExit d).pwr with edge := none } })
  refine ⟨⟨_, power.change _ rfl (Nat.lt_of_le_of_lt mains (by decide)), rfl, rfl, rfl⟩, ?_, ?_⟩
  · exact (congrArg (·.2.2.1) power.course).trans timers.1
  · exact (congrArg (·.2.2.2) power.course).trans timers.2

theorem holdExpiry_begins (due : dueBy d.pwr.holdDue d.now = true) (low : onBattery d = true) (run : d.pwr.state ≤ 1)
    (free : d.pwr.change = none) (full : d.pwr.lifeline = false) (cool : d.pwr.shutdown = false) (down : d.pwr.wake = none)
    (open_ : pwBlocked d = false) (fits : fld d fPW_LL_LL_GROUP 0 < d.part.groups) :
    (holdExpiry d).pwr.change.map (fun c => (c.req.target, c.req.mains, c.phase)) = some (2, true, .pending) ∧
      (holdExpiry d).pwr.holdDue = none := by
  have e : holdExpiry d = beginChange { target := 2, origin := .controller, mains := true }
      { d with pwr := { d.pwr with holdDue := none } } := by
    rw [holdExpiry, if_pos ⟨due, low⟩]
    refine (if_neg (by rw [cool]; decide)).trans (submitReq_begins rfl (Nat.le_refl 2) (fun _ => fits) run free down ?_ open_)
    simp only [inForce, run, full, decide_true, Bool.true_and]
    rfl
  obtain ⟨⟨x, held, req, phase, _⟩, timer, _⟩ := beginChange_pending (r := { target := 2, origin := .controller, mains := true })
    (d := { d with pwr := { d.pwr with holdDue := none } }) (Nat.le_refl 2) rfl
  rw [e]
  refine ⟨?_, timer⟩
  rw [held, Option.map_some, req, phase]

theorem restoreExpiry_begins (due : dueBy d.pwr.restoreDue d.now = true) (back : d.act.pfailLow = false)
    (cool : d.pwr.shutdown = false) (down : d.pwr.wake = none) (run : d.pwr.state ≤ 1) (free : d.pwr.change = none)
    (life : d.pwr.lifeline = true) (open_ : pwBlocked d = false) :
    (restoreExpiry d).pwr.change.map (fun c => (c.req.target, c.phase, c.held)) = some (1, .pending, true) ∧
      (restoreExpiry d).pwr.restoreDue = none := by
  have e : restoreExpiry d = beginChange { target := 1, origin := .controller }
      { d with pwr := { d.pwr with restoreDue := none } } := by
    rw [restoreExpiry, if_pos ⟨due, by rw [back]; decide, by rw [cool]; decide⟩]
    refine submitReq_begins rfl (Nat.le_succ 1) (fun h => absurd h (by decide)) run free down ?_ open_
    simp only [inForce, run, life, decide_true, Bool.true_and]
    rfl
  obtain ⟨⟨x, held, req, phase, holds⟩, _, timer⟩ := beginChange_pending (r := { target := 1, origin := .controller })
    (d := { d with pwr := { d.pwr with restoreDue := none } }) (Nat.le_succ 1) rfl
  rw [e]
  refine ⟨?_, timer⟩
  rw [held, Option.map_some, req, phase, holds]

end

/-! ## The commands -/

theorem wakeNoted_emitted {source : Nat} {d : Dev} {e : Emission} (h : e ∈ d.emitted) : e ∈ (wakeNoted source d).emitted := by
  rw [wakeNoted]
  split
  · exact h
  · exact keepsOutcome_count.emitted h

/-- A source in Deep sleep, as the outputs show it once the Firescreen has driven its own. -/
theorem Waking.fsDrive {source r : Nat} {l : List Nat} {f : Dev → Dev} {a d : Dev} (h : Waking source r l a (f d)) :
    (fsDrive f d).pwr.wake = some { source := source, from_ := 3, raise := r :: l, lifeline := onBattery a } ∧
      (fsDrive f d).emitted.contains (railCommand a r true) = true ∧ (fsDrive f d).pwr.lineTimer = none ∧
      (fsDrive f d).pwr.wakeHigh = a.pwr.wakeHigh := by
  obtain ⟨wake, emitted, timer, level⟩ := h
  rw [fsDrive_pwr]
  refine ⟨wake, List.contains_iff_mem.2 (fsDrive_emitted _ _ _ ?_), timer, level⟩
  rw [emitted]
  exact List.mem_cons_self

theorem wakePin_high {d : Dev} (free : d.pwr.change = none) :
    wakePin true d = startWake 1 { d with pwr := { d.pwr with wakeHigh := true } } :=
  wakeBy_free (d := { d with pwr := { d.pwr with wakeHigh := true } }) free

theorem twoWire_matched {x : TwoWireMatch} {d : Dev} (h : x.address.toNat = 0x58 + Config.twAddr.toNat) : twoWire x d =
    let e := emit (.twoWireAck (true :: List.replicate x.more false)) d
    wakeBy 2 true (if e.pwr.state ≤ 1 then count .pwTwoWire 0 e else e) := if_neg (not_not_intro h)

/-- Settles O50: a source goes through startWake, which in Deep sleep commands the first rail and in Sleep leaves a part in Run
with its event whatever request starts then; a mains request that nothing refuses or delays begins, and the units that stop for
it leave its change and the timers. -/
theorem wakeSources : Obligations.WakeSources := by
  unfold Obligations.WakeSources
  refine ⟨fun t r l => ?deep, fun t => ?sleep, fun t => ?low, fun x r l => ?matched, fun x => ?foreign, fun x => ?counted,
    fun t r l => ?timer, fun t => ?idle, fun t => ?loss, fun t => ?hold, fun t => ?restore, fun t l => ?battery⟩
  case deep =>
    refine runsAt_of (exec_wakePin t true) fun a ⟨state, free, down, cool, rails⟩ => ?_
    have waking : Waking 1 r l { a with pwr := { a.pwr with wakeHigh := true } } (wakePin true a) := by
      rw [wakePin_high free]
      exact startWake_wakes state free down cool rails
    obtain ⟨wake, rail, _, level⟩ := waking.fsDrive
    exact ⟨wake, rail, level⟩
  case sleep =>
    refine runsAt_of (exec_wakePin t true) fun a ⟨state, free, down, cool⟩ => ?_
    rw [fsDrive_pwr, fld_fsDrive, wakePin_high free]
    exact startWake_sleep (d := { a with pwr := { a.pwr with wakeHigh := true } }) state free down cool
  case low => exact runsAt_of (exec_wakePin t false) fun a _ => fsDrive_pwr _ _
  case matched =>
    refine runsAt_of (exec_twoWireAddressMatch x) fun a ⟨address, state, free, down, cool, rails⟩ => ?_
    have e : twoWire x a = startWake 2 (emit (.twoWireAck (true :: List.replicate x.more false)) a) := by
      rw [twoWire_matched address]
      exact (congrArg (wakeBy 2 true) (if_neg (by rw [emit_pwr]; omega))).trans (wakeBy_free free)
    have waking : Waking 2 r l (emit (.twoWireAck (true :: List.replicate x.more false)) a) (twoWire x a) := by
      rw [e]
      exact startWake_wakes state free down cool rails
    obtain ⟨wake, rail, _, _⟩ := waking.fsDrive
    refine ⟨wake, rail, List.contains_iff_mem.2 (fsDrive_emitted _ _ _ ?_)⟩
    rw [waking.2.1]
    exact List.mem_cons_of_mem _ (wakeNoted_emitted List.mem_cons_self)
  case foreign => exact runsAt_of (exec_twoWireAddressMatch x) fun a other => fsDrive_of_same (if_pos other)
  case counted =>
    refine runsAt_of (exec_twoWireAddressMatch x) fun a ⟨address, run, free⟩ => ?_
    have e : twoWire x a = count .pwTwoWire 0 (emit (.twoWireAck (true :: List.replicate x.more false)) a) := by
      rw [twoWire_matched address]
      refine (congrArg (wakeBy 2 true) (if_pos run)).trans ((wakeBy_free ?_).trans (if_pos (.inl ?_)))
      · rw [count_pwr]; exact free
      · rw [count_pwr]; exact Nat.lt_succ_of_le run
    rw [fsDrive_pwr, counter_fsDrive, e, count_pwr, counter_count_same, counter_emit]
    exact ⟨rfl, rfl⟩
  case timer =>
    refine runsAt_of (exec_lineTimerExpiry t) fun a ⟨state, free, down, cool, rails, due⟩ => ?_
    have e : lineTimer a = startWake 3 { a with pwr := { a.pwr with lineTimer := none } } :=
      (if_pos ⟨by omega, due, by rw [free]⟩).trans (wakeBy_free free)
    have waking : Waking 3 r l { a with pwr := { a.pwr with lineTimer := none } } (lineTimer a) := by
      rw [e]
      exact startWake_wakes state free down cool rails
    obtain ⟨wake, rail, timer, _⟩ := waking.fsDrive
    exact ⟨wake, rail, timer⟩
  case idle =>
    refine runsAt_of (exec_idleEntry t) fun a ⟨enabled, run, free, still⟩ => ?_
    rw [idleEntry, if_pos ⟨enabled, run, by rw [free]; rfl, still⟩, count_pwr, counter_count_same]
    exact ⟨rfl, rfl⟩
  case loss =>
    refine runsAt_of (exec_lossOfLine t) fun a ⟨initial, dark, fresh, runs, off⟩ => ?_
    have e : lossOfLine a = { a with pwr := { a.pwr with lossOfLine := true } } := by
      have unasked : fld a fPW_CFG_AUTO_DEEP 0 ≠ 1 := by omega
      exact (if_neg (by simp [initial, dark, fresh, runs])).trans (if_neg unasked)
    rw [fsDrive_pwr, e]
  case hold =>
    refine runsAt_of (exec_lifelineHoldExpiry t) fun a ⟨due, low, run, free, full, cool, down, open_, fits⟩ => ?_
    rw [fsDrive_pwr]
    exact holdExpiry_begins due low run free full cool down open_ fits
  case restore =>
    refine runsAt_of (exec_lifelineRestoreExpiry t) fun a ⟨due, back, cool, down, run, free, life, open_⟩ => ?_
    rw [fsDrive_pwr]
    exact restoreExpiry_begins due back cool down run free life open_
  case battery => exact runsAt_of (exec_battNChange t l) fun a _ => ⟨rfl, rfl⟩

end Sys2Proof.Proofs
end
